-- ==== Sys2Proof/Word.lean ====
section
/-! DEFINITION. The word types of the GK1280: bytes (OCTETS values, cells, messages),
32-bit words (dictionary values, engine registers and addresses). -/
namespace Sys2Proof

/-- A byte. -/
abbrev Byte := BitVec 8

/-- A 32-bit word: an engine register, one word of a dictionary value (Table 3.1). -/
abbrev Word := BitVec 32

end Sys2Proof
end

