-- ==== Sys2Proof/Syntax.lean ====
section
/-! DEFINITION. The commands of the block: one constructor of `Instr` per row of spec/opcode_table.json. A row that is a
request on an object carries the session and SEQUENCE it came with and the instance numbers and value of the object; a row
that is an event of a pin, a line, a link or the board carries what the event brings in from outside the block. A row that
is the block's own event (a time limit, the end of an operation) carries the unit it happens in. -/
namespace Sys2Proof

/-- What fires one of the wake sources 0–7 of Table 20.6; sources 8–11 fire by the words of R493. -/
inductive WakeSource where
  /-- a frame passes the management port's filter, or its link changes -/
  | management
  /-- a berth lane sees signal -/
  | berth (lane : Fin 64)
  /-- a towpath lane sees signal -/
  | towpath
  /-- a towpath lane receives so many WAKE sets in a row, at a rate of LANE_RATE -/
  | wakeSets (rate sets : Nat)
  /-- a reach's peak detector sees signal -/
  | reach (r : Fin 4)
  deriving DecidableEq, Repr

/-- The bit of a wake source in WAKE_ENABLE (Table 20.6). -/
def WakeSource.bit : WakeSource → Nat
  | .management => 0
  | .berth _ => 1
  | .towpath => 2
  | .wakeSets _ _ => 3
  | .reach r => 4 + r.val

/-- A wake-pattern word as a reach's wake-list samples give it (R493): the 1 kHz energy of each of its 16 bits, and that of full
keying. -/
structure WakeWord where
  r : Fin 4
  full : Nat
  energy : List Nat
  deriving DecidableEq, Repr

/-- A read of a byte of a memory group by the unit that owns it, or by its scrubber (R458, R460): what the check finds (0 nothing,
1 corrected, 2 uncorrectable), what the byte belongs to, and sequences whose slots can no longer be located. -/
structure MemRead where
  m : Fin 22
  addr : Nat
  outcome : Fin 3
  owner : Nat
  lost : List Nat
  deriving DecidableEq, Repr

/-- What a towpath lane received in a tick: its 10-bit code groups abcdei fghj, in order. -/
structure LaneRx where
  lane : Nat
  groups : List Nat
  deriving DecidableEq, Repr

/-- A tally of Table 2.4: the log's, one per event source, or the one that brings each boundary to a fractional or
asynchronous domain of Table 2.1: berth transmit groups 0–7, berth receive 8–71, towpath transmit 72, towpath receive 73–80,
basin ports 81–88, host port 89, management port 90, test 91. -/
inductive TallyAt where
  | log (source : Nat)
  | boundary (d : Fin 92)
  deriving DecidableEq, Repr

/-- A chamber of Table 2.4: the argument of a source's events, a word of an engine slot's mooring, a word of a mailbox slot
(0–3) or of the management port's buffer (4), or another held value that crosses between domains, by a number. -/
inductive ChamberAt where
  | argument (source : Nat)
  | mooring (c : Fin 12) (e : Fin 16) (m : Fin 4) (word : Fin 8)
  | mailbox (slot : Fin 5) (word : Fin 512)
  | value (n : Nat)
  deriving DecidableEq, Repr

/-- What a calibration round measured for one slice (R137, R138): the coefficient word and the four standard errors. -/
structure SliceMeas where
  conv : Nat
  slice : Nat
  offset : Int := 0
  gain : Int := 16384
  skew : Int := 0
  bandwidth : Int := 0
  errs : List Nat := []
  deriving DecidableEq, Repr

/-- What one reach's receiver measured in the ended tick (chapters 5–7): the analogue side's inputs to a boundary. -/
structure ReachTick where
  r : Nat
  /-- mean level errors of XI, XQ, YI, YQ against the AGC target, 0.01 dB -/
  agcErr : List Int := []
  /-- pilot energies: sub-carrier, S, N (R164) -/
  pilots : List (Nat × Nat × Nat) := []
  /-- sub-carriers on which training was found and its selector (R194, R248), and groups' coarse frequency offsets, kHz (R198) -/
  scFound : List (Nat × Nat) := []
  freq : List (Nat × Int) := []
  /-- per sub-carrier: peak SOP rate (krad/s) and mean DGD (0.1 ps) (R197) -/
  sopRate : List (Nat × Nat) := []
  dgd : List (Nat × Nat) := []
  /-- PDL of the tracked sub-carriers, 0.01 dB -/
  pdl : Nat := 0
  /-- cycle slips found at pilots (R199) -/
  slips : Nat := 0
  /-- the watch's features (R201): krad/s, mrad and 2⁻¹⁶ units -/
  fSop : Nat := 0
  fPhase : Nat := 0
  fTap : Nat := 0
  /-- the dispersion estimates, ps/nm (R190) -/
  blind : Int := 0
  trained : Int := 0
  /-- the engines' class of the previous tick; none where the output is stale (R202) -/
  watchClass : Option Nat := none
  /-- the codes that the keeper's bias loops produced for FEn_BIAS0–7 in AUTO; empty where their output is stale (R447) -/
  bias : List Nat := []
  /-- the tick's telemetry arrived over the die-to-die link (R17, R396), and the bits of it that were offered -/
  arrived : Bool := true
  telemetryBits : Nat := 0
  /-- bytes of sample and constellation captures that the reach die offers (R15, R17), by their place in the capture buffer's
  part of the reach: ADC samples, and the line symbols at the soft demapper as they stand, ciphertext where the group is
  encrypted -/
  capture : List (Nat × Byte) := []
  /-- the tap window's measured bytes from offset 0x0100 on (Table 16.3), by offset; one not listed is 0 -/
  tap : List (Nat × Byte) := []
  deriving DecidableEq, Repr

/-- A frame whose last soft value reached the hub in the ended tick and whose training was found (R220, R221, R248): what
the line brought of it. The contents stand for what the decoded hard decisions spell; which of them are reliable is
decided by the decoder pool and the outer decoder (R216, R219). -/
structure RxFrame where
  r : Nat
  g : Nat
  /-- the training selector found (R248) -/
  sel : Nat := 0
  /-- per codeword, the iterations after which its syndrome is zero; 0: never. Codewords past the list need one -/
  needs : List Nat := []
  /-- symbol errors of RS codewords in the hard decisions: number and errors (R216); one not listed has none -/
  rs : List (Nat × Nat) := []
  /-- per sub-carrier: payload bits of the converged codewords and how many of them disagreed (R164) -/
  ber : List (Nat × Nat × Nat) := []
  /-- the frame's bytes as decoded (R233, R234): header, segments with their checks, remainder -/
  bytes : List Byte := []
  /-- tick phase of the training's arrival at the receiver's reference point, in ps, and its tick (R368) -/
  rxTick : Nat := 0
  rxPhase : Nat := 0
  deriving DecidableEq, Repr

/-- What the keeper firmware has done at the supervisory converter since the last conversion slot: the sentinel registers it has read, by
bit (R439), and the channel of an injection it requests (R437). -/
structure KeeperSlot where
  read : Nat := 0
  inject : Option Nat := none
  deriving DecidableEq, Repr

/-- What the memory port brings an engine's access from outside the engine (R395): whether the check bits corrected a byte read or found one that cannot be corrected. -/
structure MemPort where
  corrected : Bool := false
  uncorrectable : Bool := false
  deriving DecidableEq, Repr

/-- What the ended tick brought in from outside the block, taken in at a boundary (R35). -/
structure BoundaryInput where
  reaches : List ReachTick := []
  frames : List RxFrame := []
  /-- groups (8·r + g) whose LOADING_REPORT the engines did not bring out in the ended tick: a stale output (R37, R166) -/
  stale : List Nat := []
  /-- measured frequency offsets of the reference inputs, 10⁻¹¹ (R355), and the loop's control value (R360) -/
  refOffsets : List (Nat × Int) := []
  control : Option Int := none
  /-- towpath lanes: what each received in the ended tick, code group after code group (R377) -/
  lanes : List LaneRx := []
  /-- lanes of the berths: lane, FEC symbols corrected and codewords uncorrectable (Table 10.4), and bytes that the fabric drained
  from its port's ingress buffer -/
  berths : List (Nat × Nat × Nat × Nat) := []
  /-- cells that the expanders took from the basin write queue (R297) -/
  basinDrained : Nat := 0
  /-- the levels that the board drives on GPIO0–15, and whether the test access port holds a boundary-scan instruction that drives
  pins (R506) -/
  pins : Nat := 0
  scan : Bool := false
  /-- the 32 bytes of the next descriptors of DMA channels whose transfers an urgent request aborts at this boundary (R90) -/
  dmaNext : List (Nat × List Byte) := []
  /-- what the host wrote into BAR2 itself in the ended tick: offset and bytes (Table 3.14, R92) -/
  bar2 : List (Nat × List Byte) := []
  /-- work done in the ended tick by operations whose speed the spec leaves open: offset of the progress record (0 fill,
  1 assay, 6 firmware load) and units of its POSITION (R65, R66) -/
  work : List (Nat × Nat) := []
  /-- bytes of the memory groups 12–21 that their owning units read in the ended tick, with what the check bits found (R458, R460);
  the engine memories' reads stand with the engines' rows -/
  reads : List MemRead := []
  deriving DecidableEq, Repr

/-- The commands of the block, one constructor per row of the command table (spec/opcode_table.json), in its order. -/
inductive Instr where
  -- Start-up, reset and the ledger (chapter 4)
  /-- RESET_N_RELEASE (R96) -/
  | resetNRelease
  /-- VDD_AON_LOSS (R63) -/
  | vddAonLoss
  /-- LEDGER_RECORD_SELECT (R109) -/
  | ledgerRecordSelect
  /-- BOOT_FLASH_TIMEOUT (R101) -/
  | bootFlashTimeout
  /-- IMAGE_VERIFY (R100) -/
  | imageVerify
  /-- STATE_SRAM_FILL (R104): the units (Table 19.1) one of whose macros fails the self-test, and the domains with a failing
  macro that belongs to no such unit; 37 names the hub core -/
  | stateSramFill (units domains : List Nat)
  /-- ASSAY_PRECONDITION_TIMEOUT (R451): the PLL error (0.01 %) and the lowest and highest core voltage (mV) -/
  | assayPreconditionTimeout (pllError : Int) (low high : Nat)
  /-- ASSAY_END (R455): the units whose signature failed, the PLL error and the lowest core voltage -/
  | assayEnd (failed : List Nat) (pllError : Int) (vcore : Nat)
  /-- START_COMMIT (R96) -/
  | startCommit
  /-- BASIN_PORT_TRAINED (R292): link rate code, width, and expander capacity in bytes -/
  | basinPortTrained (p : Fin 8) (rate width capacity : Nat)
  /-- BASIN_TRAINING_TIMEOUT (R292) -/
  | basinTrainingTimeout (p : Fin 8)
  /-- BASIN_PORT_FILL_DONE (R107) -/
  | basinPortFillDone (p : Fin 8) (ok : Bool) (bad : List Nat)
  /-- DURABLE_ACCEPTED (R106) -/
  | durableAccepted
  /-- TICK_BOUNDARY (R35): the boundary, with what the ended tick brought in from outside -/
  | tickBoundary (i : BoundaryInput)
  /-- STAGING_WINDOW_CLOSE (R32) -/
  | stagingWindowClose
  /-- TICK_MARKER_SEND (R18) -/
  | tickMarkerSend
  /-- CHAMBER_DELIVERY (R41): the values the source wrote since the last delivery -/
  | chamberDelivery (ch : ChamberAt) (writes : List Nat)
  /-- TALLY_DELIVERY (R42): how many of the events that the source has counted this destination cycle delivers -/
  | tallyDelivery (t : TallyAt) (n : Nat)
  -- The dictionary agent and the host port (chapter 3)
  /-- UANDATEN_DATAGRAM_RX (R76): source address and port, whether it arrived as a fragment, and its bytes -/
  | uandatenDatagramRx (addr port : Nat) (fragment : Bool) (bytes : List Byte)
  /-- READ (R56) -/
  | readReq (sess : Fin 17) (seq index sub : Nat) (body : List Nat)
  /-- READ_BLOCK (R56) -/
  | readBlock (sess : Fin 17) (seq index sub : Nat) (body : List Nat)
  /-- WRITE (R57) -/
  | writeReq (sess : Fin 17) (seq index sub : Nat) (body : List Nat)
  /-- WRITE_BLOCK (R61) -/
  | writeBlock (sess : Fin 17) (seq index sub : Nat) (body : List Nat)
  /-- SUBSCRIBE (R73) -/
  | subscribe (sess : Fin 17) (seq : Nat) (body : List Nat)
  /-- OPEN (R79): credential ID, client nonce, and the message's MAC -/
  | openSession (cred : Nat) (nonce : List Byte) (seq : Nat) (mac : List Byte)
  /-- CLOSE (R83) -/
  | closeSession (sess : Fin 17) (seq : Nat)
  /-- REQUEST_RETRY (R82) -/
  | requestRetry (sess : Fin 17) (seq : Nat)
  /-- RATE_LIMIT_PERIOD_END (R231) -/
  | rateLimitPeriodEnd (code source : Nat)
  /-- SESSION_IDLE_TIMEOUT (R83) -/
  | sessionIdleTimeout (sess : Fin 17)
  /-- LOG_ENTRY_READ (R72) -/
  | logEntryRead (sess : Fin 17) (seq : Nat)
  /-- CREDENTIAL (R78): the wrapped value's 12 words -/
  | credential (sess : Fin 17) (seq : Nat) (words : List Nat)
  /-- CREDENTIAL_ERASE (R83) -/
  | credentialErase (sess : Fin 17) (seq id : Nat)
  /-- MGMT_ADDRESS_CHANGE (R84): sub-index of 0x1400 (3–6) and the value's words -/
  | mgmtAddressChange (sess : Fin 17) (seq sub : Nat) (words : List Nat)
  /-- ABORT (R66): the record's offset from 0x1180 -/
  | abortOp (sess : Fin 17) (seq : Nat) (o : Fin 11) (v : Nat)
  /-- MBX_SUBMIT (R87): the written bits, and the tick phase's arrival order is ascending slots (R60) -/
  | mbxSubmit (bits : Nat)
  /-- MBX_DONE_CLEAR (R86) -/
  | mbxDoneClear (bits : Nat)
  /-- MBX_ERROR_CLEAR (R86) -/
  | mbxErrorClear (bits : Nat)
  /-- RING_TAIL_WRITE (R91) -/
  | ringTailWrite (q : Fin 16) (v : Nat)
  /-- CHANNEL_ENABLE (R91): the value's ENABLE bit, and the 32 bytes that the host's ring holds at RING_HEAD -/
  | channelEnable (n : Fin 8) (on : Bool) (next : List Byte)
  /-- CHANNEL_RESET (R91) -/
  | channelReset (n : Fin 8)
  /-- DMA_RING_TAIL_WRITE (R91): the new tail, and the 32 bytes that the host's ring holds at RING_HEAD -/
  | dmaRingTailWrite (n : Fin 8) (v : Nat) (next : List Byte)
  /-- DMA_DESCRIPTOR_DONE (R91): the host's bytes for a host-to-BAR2 copy, and the 32 bytes of the next descriptor in its ring -/
  | dmaDescriptorDone (n : Fin 8) (data next : List Byte)
  /-- BAR0_REGISTER_WRITE (R86) -/
  | bar0RegisterWrite (off v : Nat)
  /-- FIRMWARE_LOAD (R102) -/
  | firmwareLoad (sess : Fin 17) (seq v : Nat)
  /-- FIRMWARE_LOAD_END (R102): the image is programmed; its read-back is verified -/
  | firmwareLoadEnd
  /-- SHUTDOWN (R117) -/
  | shutdown (sess : Fin 17) (seq v : Nat)
  /-- SHUTDOWN_DRAIN_END (R117) -/
  | shutdownDrainEnd
  /-- COMMIT_NOW (R111) -/
  | commitNow (sess : Fin 17) (seq v : Nat)
  /-- ASSAY_WHEN_WRITE (R111) -/
  | assayWhenWrite (sess : Fin 17) (seq v : Nat)
  /-- LEDGER_PERIODIC_COMMIT (R111) -/
  | ledgerPeriodicCommit
  /-- LEDGER_COMMIT_DONE (R112): whether the read-back matches -/
  | ledgerCommitDone (ok : Bool)
  /-- WATCHDOG_EXPIRY (R116) -/
  | watchdogExpiry
  /-- WATCHDOG_RUN_CLEAR (R116) -/
  | watchdogRunClear
  -- Die-to-die links and reach control (chapter 1)
  /-- DIE_LINK_TRAINED (R22) -/
  | dieLinkTrained (r : Fin 4)
  /-- DIE_LINK_FLIT_ERROR (R19): receive (false) or transmit (true), the bytes of the flit in error, and the flit's number
  among the group's flits of the tick: its soft values 64·n on, or its coded bits 256·n on, in slot order (R217) -/
  | dieLinkFlitError (r : Fin 4) (tx : Bool) (bytes : Nat) (g : Fin 8) (flit : Nat)
  /-- DIE_LINK_DEGRADED (R20) -/
  | dieLinkDegraded (r : Fin 4)
  /-- REACH_ENABLE (R24) -/
  | reachEnable (sess : Fin 17) (seq : Nat) (r : Fin 4) (v : Nat)
  -- Converters, gain and ramp (chapter 5)
  /-- AGC_SLEW_UPDATE (R124): the four level errors against the target, 0.01 dB; whether some TIA peak detector of the reach reports
  optical signal (R311) -/
  | agcSlewUpdate (r : Fin 4) (errs : List Int) (light : Bool)
  /-- AGC_SETTLE_ENTRY (R124) -/
  | agcSettleEntry (r : Fin 4)
  /-- AGC_FREEZE (R124) -/
  | agcFreeze (r : Fin 4)
  /-- AGC_TRAINING_LOSS_REARM (R124) -/
  | agcTrainingLossRearm (r : Fin 4)
  /-- AGC_REARM (R127) -/
  | agcRearm (sess : Fin 17) (seq : Nat) (r : Fin 4) (v : Nat)
  /-- RAMP_END (R133) -/
  | rampEnd (r : Fin 4)
  /-- TX_OFF_NOW (R134) -/
  | txOffNow (sess : Fin 17) (seq : Nat) (r : Fin 4) (v : Nat)
  /-- EYE_SAFETY_INPUT (R134): the GPIO and its new pin level -/
  | eyeSafetyInput (gpio : Fin 16) (level : Bool)
  /-- TX_OFF_RELEASE (R136) -/
  | txOffRelease (sess : Fin 17) (seq : Nat) (r : Fin 4) (v : Nat)
  /-- CAL_START (R144) -/
  | calStart (sess : Fin 17) (seq : Nat) (r : Fin 4) (v : Nat)
  /-- CAL_ROUND_START (R141) -/
  | calRoundStart (r : Fin 4)
  /-- CAL_SPARES_MEASURED (R141) -/
  | calSparesMeasured (r : Fin 4)
  /-- CAL_POSITION_STEP (R141) -/
  | calPositionStep (r : Fin 4)
  /-- CAL_ROUND_END (R138): the measured sets; a slice not listed measured its word in force -/
  | calRoundEnd (r : Fin 4) (meas : List SliceMeas)
  /-- START_ROUND_BEGIN (R146) -/
  | startRoundBegin (r : Fin 4)
  /-- START_ROUND_END (R148): the measured sets -/
  | startRoundEnd (r : Fin 4) (meas : List SliceMeas)
  /-- COEFF_WRITE (R149): converter, slice, the word's two 32-bit words -/
  | coeffWrite (sess : Fin 17) (seq : Nat) (r : Fin 4) (k : Fin 8) (slice : Fin 132) (words : List Nat)
  -- Sub-carriers and loading (chapter 6)
  /-- GROUP_ENABLE (R161) -/
  | groupEnable (sess : Fin 17) (seq : Nat) (r : Fin 4) (g : Fin 8) (v : Nat)
  /-- GROUP_LAYOUT_WRITE (R159): FIRST_SUBCARRIER (false) or SUBCARRIER_COUNT (true) -/
  | groupLayoutWrite (sess : Fin 17) (seq : Nat) (r : Fin 4) (g : Fin 8) (count : Bool) (v : Nat)
  /-- PRE_EMPHASIS (R162): in 0.1 dB -/
  | preEmphasis (sess : Fin 17) (seq : Nat) (r : Fin 4) (sc : Fin 64) (v : Int)
  /-- LOADING_MODE (R168) -/
  | loadingMode (sess : Fin 17) (seq : Nat) (r : Fin 4) (g : Fin 8) (v : Nat)
  /-- FIXED_APPLY (R168) -/
  | fixedApply (sess : Fin 17) (seq : Nat) (r : Fin 4) (g : Fin 8) (v : Nat)
  /-- HISTORY_VALID_WRITE (R176) -/
  | historyValidWrite (sess : Fin 17) (seq : Nat) (r : Fin 4) (g : Fin 8) (v : Nat)
  /-- LOADING_DEADLINE (R172) -/
  | loadingDeadline (r : Fin 4) (g : Fin 8)
  /-- LOADING_SWITCH (R173) -/
  | loadingSwitch (r : Fin 4) (g : Fin 8)
  /-- GROUP_RESTART (R175) -/
  | groupRestart (r : Fin 4) (g : Fin 8)
  /-- HISTORY_CAPTURE (R176) -/
  | historyCapture (r : Fin 4) (g : Fin 8)
  /-- SHORTFALL_MARGIN_EXPIRY (R165) -/
  | shortfallMarginExpiry (r : Fin 4) (g : Fin 8)
  -- Dispersion, equalisation and the watch (chapter 7)
  /-- BANK_CD_WRITE (R188): bank A (false) or B (true), the value in ps/nm -/
  | bankCdWrite (sess : Fin 17) (seq : Nat) (r : Fin 4) (bankB : Bool) (v : Int)
  /-- CD_BANK_READY (R187) -/
  | cdBankReady (r : Fin 4)
  /-- CD_SWAP (R189) -/
  | cdSwap (sess : Fin 17) (seq : Nat) (r : Fin 4) (v : Nat)
  /-- CD_MODE (R193) -/
  | cdMode (sess : Fin 17) (seq : Nat) (r : Fin 4) (v : Nat)
  /-- CD_SEARCH (R191) -/
  | cdSearch (r : Fin 4)
  /-- CD_TRACKING (R192) -/
  | cdTracking (r : Fin 4)
  /-- EQ_MODE_CHANGE (R195) -/
  | eqModeChange (r : Fin 4)
  /-- WATCH_SUPPRESS_END (R203) -/
  | watchSuppressEnd (r : Fin 4)
  /-- WATCH_ARMED (R203) -/
  | watchArmed (r : Fin 4)
  /-- WATCH_CLEARED (R203) -/
  | watchCleared (r : Fin 4)
  -- The decoder pool and frames (chapters 8 and 9)
  /-- DECODER_CHECKER_FAILURE (R470): the core, and the codeword it delivered as converged: frame of the decode tick and
  index -/
  | decoderCheckerFailure (core : Fin 52) (frame word : Nat)
  /-- FRAME_LOST (R250) -/
  | frameLost (r : Fin 4) (g : Fin 8)
  -- Berths (chapter 10). Phases are in ps within the tick
  /-- GROUP_LAYOUT (R254) -/
  | groupLayout (sess : Fin 17) (seq : Nat) (k : Fin 8) (v : Nat)
  /-- LANE_LOCKED (R257): the lane -/
  | laneLocked (b : Fin 64)
  /-- PORT_UP (R257) -/
  | portUp (b : Fin 64)
  /-- ALIGNING_TIMEOUT (R257) -/
  | aligningTimeout (b : Fin 64)
  /-- REMOTE_FAULT_RX (R257): remote fault received, or ended -/
  | remoteFaultRx (b : Fin 64) (on : Bool)
  /-- PORT_DOWN (R257): a lane that lost lock, or alignment lost (none) -/
  | portDown (b : Fin 64) (lane : Option (Fin 64))
  /-- CLIENT_FRAME_RX (R260): the frame from destination address to FCS, a PCS or FEC error within it, the phase of its
  first byte, and how many bytes the fabric drained from the ingress buffer before it -/
  | clientFrameRx (b : Fin 64) (frame : List Byte) (pcsError : Bool) (phase drained : Nat)
  /-- PFC_FRAME_RX (R263): class-enable vector and the eight times -/
  | pfcFrameRx (b : Fin 64) (vec : Nat) (times : List Nat) (phase : Nat)
  /-- PFC_RX_PAUSE_EXPIRY (R263) -/
  | pfcRxPauseExpiry (b : Fin 64) (p : Fin 8) (phase : Nat)
  /-- PAUSE_SOURCE_CHANGE (R264): the phase of the PFC frame's last byte -/
  | pauseSourceChange (b : Fin 64) (phase : Nat)
  /-- PFC_REFRESH (R265) -/
  | pfcRefresh (b : Fin 64) (phase : Nat)
  /-- EGRESS_FRAME_TX (R259): the priority the egress serves -/
  | egressFrameTx (b : Fin 64) (p : Fin 8)
  /-- FRAME_INJECT (R269): the 1,020 bytes written -/
  | frameInject (sess : Fin 17) (seq : Nat) (b : Fin 64) (bytes : List Byte)
  /-- INJECTED_FRAME_SEND (R269): the phase of the message timestamp point -/
  | injectedFrameSend (b : Fin 64) (phase : Nat)
  /-- SYNCE_INPUT (R270) -/
  | synceInput (sess : Fin 17) (seq : Nat) (b : Fin 64) (v : Nat)
  -- Flows and the basin (chapter 11)
  /-- FLOW_ENTRY (R274) -/
  | flowEntry (sess : Fin 17) (seq : Nat) (f : Fin 4096) (v : Nat)
  /-- LADDER (R278) -/
  | ladder (sess : Fin 17) (seq v : Nat)
  /-- HELD_CELL_HANDOVER (R285): what the reads of slots return, by the cell's sequence: offsets in the slot and what is added to
  the byte there (R294) -/
  | heldCellHandover (f : Fin 4096) (noise : List (Nat × List (Nat × Byte)))
  /-- RETX_TIMEOUT (R287): what the reads of slots return, as for HELD_CELL_HANDOVER -/
  | retxTimeout (f : Fin 4096) (noise : List (Nat × List (Nat × Byte)))
  /-- WATER_MARK_WRITE (R300): sub-index of 0x3510: 0 HIGH_WATER, 1 RELEASE_WATER, 2 LAST_RESERVE -/
  | waterMarkWrite (sess : Fin 17) (seq : Nat) (which : Fin 3) (v : Nat)
  /-- STOCKPILE_RESERVE (R295) -/
  | stockpileReserve (sess : Fin 17) (seq v : Nat)
  /-- BASIN_LINK_LOST (R292): link lost, or an expander event of fatal severity -/
  | basinLinkLost (p : Fin 8) (fatalEvent : Bool)
  -- Restoration (chapter 12)
  /-- UNIT_MODE (R304) -/
  | unitMode (sess : Fin 17) (seq : Nat) (u : Fin 4) (v : Nat)
  /-- PAIRED_GROUP_WRITE (R304): GROUP_ENABLE (false) or PEER_ID (true) of a group of a REACH unit -/
  | pairedGroupWrite (sess : Fin 17) (seq : Nat) (r : Fin 4) (g : Fin 8) (peer : Bool) (v : Nat)
  /-- LOCKOUT (R320) -/
  | lockout (sess : Fin 17) (seq : Nat) (u : Fin 4)
  /-- FORCE (R320) -/
  | force (sess : Fin 17) (seq : Nat) (u : Fin 4)
  /-- CLEAR (R320) -/
  | clear (sess : Fin 17) (seq : Nat) (u : Fin 4)
  /-- RESTORATION_START (R307) -/
  | restorationStart (u : Fin 4)
  /-- WITHDRAW_END (R312) -/
  | withdrawEnd (u : Fin 4)
  /-- DRAIN_START (R313) -/
  | drainStart (f : Fin 4096)
  /-- RESTORED (R314) -/
  | restored (u : Fin 4)
  /-- RESTORE_LIMIT_EXPIRY (R319) -/
  | restoreLimitExpiry (u : Fin 4)
  /-- DOUBLE_FAULT_PATH_RETRY (R319) -/
  | doubleFaultPathRetry (u : Fin 4)
  /-- WAIT_TO_RESTORE_EXPIRY (R319) -/
  | waitToRestoreExpiry (u : Fin 4)
  /-- PRE_ARM (R317): the reach whose watch gave the signal -/
  | preArm (r : Fin 4)
  /-- DISARM (R318) -/
  | disarm (r : Fin 4)
  /-- HELLO (R325): the lane it came on and the message's value -/
  | hello (lane : Fin 8) (value : List Byte)
  /-- RESTORE_NOTICE (R322) -/
  | restoreNotice (value : List Byte)
  /-- MIRROR (R323) -/
  | mirror (value : List Byte)
  /-- MIRROR_ACK (R323) -/
  | mirrorAck (value : List Byte)
  /-- TIME_RELAY (R380) -/
  | timeRelay (value : List Byte)
  /-- MATE_UNREACHABLE (R322) -/
  | mateUnreachable
  -- Encryption (chapter 13)
  /-- KEY_IMPORT (R337): the 60 bytes of an import entry -/
  | keyImport (sess : Fin 17) (seq : Nat) (entry : List Byte)
  /-- KEY_BATCH_START (R338) -/
  | keyBatchStart (sess : Fin 17) (seq v : Nat)
  /-- KEY_BATCH_ENTRY (R338) -/
  | keyBatchEntry
  /-- SLOT_ERASE (R346) -/
  | slotErase (sess : Fin 17) (seq v : Nat)
  /-- KEY_ROLL (R344) -/
  | keyRoll (sess : Fin 17) (seq : Nat) (r : Fin 4) (g : Fin 8) (v : Nat)
  /-- ENCRYPT_KEY_SLOT_WRITE (R349): ENCRYPT (false) or KEY_SLOT (true) -/
  | encryptKeySlotWrite (sess : Fin 17) (seq : Nat) (r : Fin 4) (g : Fin 8) (slot : Bool) (v : Nat)
  /-- KEY_POSTPONED (R342) -/
  | keyPostponed (r : Fin 4) (g : Fin 8)
  /-- KEY_EPOCH_SWITCH (R342) -/
  | keyEpochSwitch (r : Fin 4) (g : Fin 8)
  /-- KEY_MISMATCH (R348) -/
  | keyMismatch (r : Fin 4) (g : Fin 8)
  /-- CIPHER_PARITY_FAULT (R332): the core that faults -/
  | cipherParityFault (core : Fin 36)
  /-- SEGMENT_BLANKED (R331): the segment of the frame being sent that is not encrypted in time -/
  | segmentBlanked (r : Fin 4) (g : Fin 8) (segment : Nat)
  /-- ENTROPY_FAULT (R339) -/
  | entropyFault
  -- The timing core (chapter 14)
  /-- REFERENCE_LOST (R355): the fault detected (0 source, 1 activity, 2 frequency, 3 PPS), the phase at which it is
  detected, and the measured offset -/
  | referenceLost (i : Fin 12) (fault : Fin 4) (phase : Nat) (offset : Int)
  /-- REFERENCE_QUALIFIED (R356) -/
  | referenceQualified (i : Fin 12)
  /-- SWITCH_END (R359) -/
  | switchEnd
  /-- LOCKED (R360): the last 1 s means of frequency error, 10⁻¹¹ -/
  | locked (means : List Int)
  /-- LOCKED_SECOND (R361): the mean control value of the second, 10⁻¹¹ -/
  | lockedSecond (mean : Int)
  /-- PHASE_STEP (R364): in ps -/
  | phaseStep (sess : Fin 17) (seq : Nat) (v : Int)
  /-- PPS_EDGE (R355): the phase of the edge -/
  | ppsEdge (i : Fin 2) (phase : Nat)
  /-- ALIGN_NOW (R367) -/
  | alignNow (sess : Fin 17) (seq v : Nat)
  /-- TOD_ASSOCIATE (R372): the 20 bytes -/
  | todAssociate (sess : Fin 17) (seq : Nat) (value : List Byte)
  /-- DELAY_MARK_SEND (R368) -/
  | delayMarkSend (r : Fin 4)
  -- The towpath (chapter 15)
  /-- LANE_SIGNAL_DETECT (R379) -/
  | laneSignalDetect (l : Fin 8)
  /-- CAP (R379): C1 and C2 as received on the lane -/
  | cap (l : Fin 8) (c1 c2 : Byte)
  /-- LANE_TRAINING_END (R379): whether the training passes -/
  | laneTrainingEnd (l : Fin 8) (passed : Bool)
  /-- LANE_DOWN (R379): 0 signal, 1 lock, 2 code errors, and whether a message was in transit -/
  | laneDown (l : Fin 8) (cause : Fin 3) (cut : Bool)
  /-- ELASTIC_ERROR (R378): and whether a message was in transit -/
  | elasticError (l : Fin 8) (cut : Bool)
  /-- RETRAIN (R379) -/
  | retrain (sess : Fin 17) (seq : Nat) (l : Fin 8) (v : Nat)
  /-- LOOPBACK (R381) -/
  | loopback (sess : Fin 17) (seq : Nat) (l : Fin 8) (v : Nat)
  /-- SKIP_SEND (R378) -/
  | skipSend (l : Fin 8)
  /-- HELLO_SEND (R382) -/
  | helloSend
  /-- TIME_RELAY_SEND (R382) -/
  | timeRelaySend
  /-- MATE_MESSAGE_ERROR (R383): a message whose CRC, framing or LENGTH fails -/
  | mateMessageError
  /-- WAKE_MATE (R386) -/
  | wakeMate (sess : Fin 17) (seq v : Nat)
  /-- WAKE_SEND_END (R386) -/
  | wakeSendEnd
  -- Engines (chapters 16 and 17). c and e name the slot; an engine row is the instruction its task executes next
  /-- TICK_OVERRUN (R422) -/
  | tickOverrun (c : Fin 12) (e : Fin 16)
  /-- MOORING_DELIVERY (R399): the oldest message in transit from the slot to the destination word -/
  | mooringDelivery (c : Fin 12) (e : Fin 16) (dest : BitVec 16)
  /-- ENGINE_LOAD (R411): the slot mask -/
  | engineLoad (sess : Fin 17) (seq : Nat) (c : Fin 12) (v : Nat)
  /-- ENGINE_LOAD_END (R411) -/
  | engineLoadEnd (c : Fin 12)
  /-- PARTITION_WRITE (R415): FIRST_CLUSTER (false) or CLUSTER_COUNT (true) -/
  | partitionWrite (sess : Fin 17) (seq : Nat) (p : Fin 4) (count : Bool) (v : Nat)
  /-- OVERFLOW_CLEAR (R428) -/
  | overflowClear (sess : Fin 17) (seq : Nat) (c : Fin 12) (e : Fin 16) (v : Nat)
  /-- EVENT_SELECT (R428): event counter n -/
  | eventSelect (sess : Fin 17) (seq : Nat) (c : Fin 12) (e : Fin 16) (n : Fin 4) (v : Nat)
  /-- ADD (R402): d ← a fn b -/
  | engAdd (c : Fin 12) (e : Fin 16) (d a b : BitVec 5)
  /-- SUB (R402): d ← a fn b -/
  | engSub (c : Fin 12) (e : Fin 16) (d a b : BitVec 5)
  /-- AND (R402): d ← a fn b -/
  | engAnd (c : Fin 12) (e : Fin 16) (d a b : BitVec 5)
  /-- OR (R402): d ← a fn b -/
  | engOr (c : Fin 12) (e : Fin 16) (d a b : BitVec 5)
  /-- XOR (R402): d ← a fn b -/
  | engXor (c : Fin 12) (e : Fin 16) (d a b : BitVec 5)
  /-- SHL (R402): d ← a fn b -/
  | engShl (c : Fin 12) (e : Fin 16) (d a b : BitVec 5)
  /-- SHR (R402): d ← a fn b -/
  | engShr (c : Fin 12) (e : Fin 16) (d a b : BitVec 5)
  /-- SAR (R402): d ← a fn b -/
  | engSar (c : Fin 12) (e : Fin 16) (d a b : BitVec 5)
  /-- LT (R402): d ← a fn b -/
  | engLt (c : Fin 12) (e : Fin 16) (d a b : BitVec 5)
  /-- LTU (R402): d ← a fn b -/
  | engLtu (c : Fin 12) (e : Fin 16) (d a b : BitVec 5)
  /-- MIN (R402): d ← a fn b -/
  | engMin (c : Fin 12) (e : Fin 16) (d a b : BitVec 5)
  /-- MAX (R402): d ← a fn b -/
  | engMax (c : Fin 12) (e : Fin 16) (d a b : BitVec 5)
  /-- MINU (R402): d ← a fn b -/
  | engMinu (c : Fin 12) (e : Fin 16) (d a b : BitVec 5)
  /-- MAXU (R402): d ← a fn b -/
  | engMaxu (c : Fin 12) (e : Fin 16) (d a b : BitVec 5)
  /-- LZC (R402): d ← fn a -/
  | engLzc (c : Fin 12) (e : Fin 16) (d a : BitVec 5)
  /-- ONES (R402): d ← fn a -/
  | engOnes (c : Fin 12) (e : Fin 16) (d a : BitVec 5)
  /-- MUL (R402): d ← a fn b -/
  | engMul (c : Fin 12) (e : Fin 16) (d a b : BitVec 5)
  /-- MULHS (R402): d ← a fn b -/
  | engMulhs (c : Fin 12) (e : Fin 16) (d a b : BitVec 5)
  /-- MULHU (R402): d ← a fn b -/
  | engMulhu (c : Fin 12) (e : Fin 16) (d a b : BitVec 5)
  /-- DQ (R402): d ← a fn b -/
  | engDq (c : Fin 12) (e : Fin 16) (d a b : BitVec 5)
  /-- DQU (R402): d ← a fn b -/
  | engDqu (c : Fin 12) (e : Fin 16) (d a b : BitVec 5)
  /-- DR (R402): d ← a fn b -/
  | engDr (c : Fin 12) (e : Fin 16) (d a b : BitVec 5)
  /-- DRU (R402): d ← a fn b -/
  | engDru (c : Fin 12) (e : Fin 16) (d a b : BitVec 5)
  /-- ADDSAT (R402): d ← a fn b -/
  | engAddsat (c : Fin 12) (e : Fin 16) (d a b : BitVec 5)
  /-- SUBSAT (R402): d ← a fn b -/
  | engSubsat (c : Fin 12) (e : Fin 16) (d a b : BitVec 5)
  /-- ADDK (R402): d ← a op k -/
  | engAddk (c : Fin 12) (e : Fin 16) (d a : BitVec 5) (k : BitVec 14)
  /-- ANDK (R402): d ← a op k -/
  | engAndk (c : Fin 12) (e : Fin 16) (d a : BitVec 5) (k : BitVec 14)
  /-- ORK (R402): d ← a op k -/
  | engOrk (c : Fin 12) (e : Fin 16) (d a : BitVec 5) (k : BitVec 14)
  /-- XORK (R402): d ← a op k -/
  | engXork (c : Fin 12) (e : Fin 16) (d a : BitVec 5) (k : BitVec 14)
  /-- LTK (R402): d ← a op k -/
  | engLtk (c : Fin 12) (e : Fin 16) (d a : BitVec 5) (k : BitVec 14)
  /-- LTKU (R402): d ← a op k -/
  | engLtku (c : Fin 12) (e : Fin 16) (d a : BitVec 5) (k : BitVec 14)
  /-- SHLK (R402): d ← a op k -/
  | engShlk (c : Fin 12) (e : Fin 16) (d a : BitVec 5) (k : BitVec 5)
  /-- SHRK (R402): d ← a op k -/
  | engShrk (c : Fin 12) (e : Fin 16) (d a : BitVec 5) (k : BitVec 5)
  /-- SARK (R402): d ← a op k -/
  | engSark (c : Fin 12) (e : Fin 16) (d a : BitVec 5) (k : BitVec 5)
  /-- MULK (R402): d ← a op k -/
  | engMulk (c : Fin 12) (e : Fin 16) (d a : BitVec 5) (k : BitVec 14)
  /-- SETHI (R402) -/
  | engSethi (c : Fin 12) (e : Fin 16) (d : BitVec 5) (k : BitVec 18)
  /-- CALL (R402) -/
  | engCall (c : Fin 12) (e : Fin 16) (d : BitVec 5) (k : BitVec 23)
  /-- JUMPR (R402) -/
  | engJumpr (c : Fin 12) (e : Fin 16) (d a : BitVec 5) (k : BitVec 14)
  /-- LD_W (R402) -/
  | engLdW (c : Fin 12) (e : Fin 16) (r base : BitVec 5) (disp : BitVec 14) (m : MemPort)
  /-- LD_H (R402) -/
  | engLdH (c : Fin 12) (e : Fin 16) (r base : BitVec 5) (disp : BitVec 14) (m : MemPort)
  /-- LD_HU (R402) -/
  | engLdHu (c : Fin 12) (e : Fin 16) (r base : BitVec 5) (disp : BitVec 14) (m : MemPort)
  /-- LD_B (R402) -/
  | engLdB (c : Fin 12) (e : Fin 16) (r base : BitVec 5) (disp : BitVec 14) (m : MemPort)
  /-- LD_BU (R402) -/
  | engLdBu (c : Fin 12) (e : Fin 16) (r base : BitVec 5) (disp : BitVec 14) (m : MemPort)
  /-- ST_W (R402) -/
  | engStW (c : Fin 12) (e : Fin 16) (r base : BitVec 5) (disp : BitVec 14) (m : MemPort)
  /-- ST_H (R402) -/
  | engStH (c : Fin 12) (e : Fin 16) (r base : BitVec 5) (disp : BitVec 14) (m : MemPort)
  /-- ST_B (R402) -/
  | engStB (c : Fin 12) (e : Fin 16) (r base : BitVec 5) (disp : BitVec 14) (m : MemPort)
  /-- BR_EQ (R402) -/
  | engBrEq (c : Fin 12) (e : Fin 16) (a b : BitVec 5) (off : BitVec 15)
  /-- BR_NE (R402) -/
  | engBrNe (c : Fin 12) (e : Fin 16) (a b : BitVec 5) (off : BitVec 15)
  /-- BR_LT (R402) -/
  | engBrLt (c : Fin 12) (e : Fin 16) (a b : BitVec 5) (off : BitVec 15)
  /-- BR_GE (R402) -/
  | engBrGe (c : Fin 12) (e : Fin 16) (a b : BitVec 5) (off : BitVec 15)
  /-- BR_LO (R402) -/
  | engBrLo (c : Fin 12) (e : Fin 16) (a b : BitVec 5) (off : BitVec 15)
  /-- BR_HS (R402) -/
  | engBrHs (c : Fin 12) (e : Fin 16) (a b : BitVec 5) (off : BitVec 15)
  /-- MSEND (R399): n + 1 words -/
  | engMsend (c : Fin 12) (e : Fin 16) (d a b : BitVec 5) (n : BitVec 3) (m : MemPort)
  /-- MRECV (R402) -/
  | engMrecv (c : Fin 12) (e : Fin 16) (d a : BitVec 5) (k : BitVec 2)
  /-- MWAIT (R402) -/
  | engMwait (c : Fin 12) (e : Fin 16) (d : BitVec 5) (mask : BitVec 4)
  /-- MWAIT_RETURN (R409) -/
  | mwaitReturn (c : Fin 12) (e : Fin 16)
  /-- XCS_R (R402) -/
  | engXcsR (c : Fin 12) (e : Fin 16) (d a : BitVec 5) (csr : BitVec 12)
  /-- XCS_W (R402) -/
  | engXcsW (c : Fin 12) (e : Fin 16) (d a : BitVec 5) (csr : BitVec 12)
  /-- XCS_OR (R402) -/
  | engXcsOr (c : Fin 12) (e : Fin 16) (d a : BitVec 5) (csr : BitVec 12)
  /-- XCS_ANDN (R402) -/
  | engXcsAndn (c : Fin 12) (e : Fin 16) (d a : BitVec 5) (csr : BitVec 12)
  /-- ATOM_SWAP (R402) -/
  | engAtomSwap (c : Fin 12) (e : Fin 16) (d a b : BitVec 5) (m : MemPort)
  /-- ATOM_ADD (R402) -/
  | engAtomAdd (c : Fin 12) (e : Fin 16) (d a b : BitVec 5) (m : MemPort)
  /-- ATOM_AND (R402) -/
  | engAtomAnd (c : Fin 12) (e : Fin 16) (d a b : BitVec 5) (m : MemPort)
  /-- ATOM_OR (R402) -/
  | engAtomOr (c : Fin 12) (e : Fin 16) (d a b : BitVec 5) (m : MemPort)
  /-- ATOM_MIN (R402) -/
  | engAtomMin (c : Fin 12) (e : Fin 16) (d a b : BitVec 5) (m : MemPort)
  /-- ATOM_MAX (R402) -/
  | engAtomMax (c : Fin 12) (e : Fin 16) (d a b : BitVec 5) (m : MemPort)
  /-- VADD (R402) -/
  | engVadd (c : Fin 12) (e : Fin 16) (vd va vb : BitVec 3)
  /-- VSUB (R402) -/
  | engVsub (c : Fin 12) (e : Fin 16) (vd va vb : BitVec 3)
  /-- VCMUL (R402) -/
  | engVcmul (c : Fin 12) (e : Fin 16) (vd va vb : BitVec 3)
  /-- VCMULC (R402) -/
  | engVcmulc (c : Fin 12) (e : Fin 16) (vd va vb : BitVec 3)
  /-- VCMAC (R402) -/
  | engVcmac (c : Fin 12) (e : Fin 16) (vd va vb : BitVec 3)
  /-- VMAG2 (R402) -/
  | engVmag2 (c : Fin 12) (e : Fin 16) (vd va : BitVec 3)
  /-- VMAGA (R402) -/
  | engVmaga (c : Fin 12) (e : Fin 16) (vd va : BitVec 3)
  /-- VCONJ (R402) -/
  | engVconj (c : Fin 12) (e : Fin 16) (vd va : BitVec 3)
  /-- VSHR (R402) -/
  | engVshr (c : Fin 12) (e : Fin 16) (vd va : BitVec 3) (shamt : BitVec 4)
  /-- VLD (R402) -/
  | engVld (c : Fin 12) (e : Fin 16) (v : BitVec 3) (base : BitVec 5) (disp : BitVec 14) (m : MemPort)
  /-- VST (R402) -/
  | engVst (c : Fin 12) (e : Fin 16) (v : BitVec 3) (base : BitVec 5) (disp : BitVec 14) (m : MemPort)
  /-- VBCAST (R402) -/
  | engVbcast (c : Fin 12) (e : Fin 16) (vd : BitVec 3) (a : BitVec 5)
  /-- VEXT (R402): lane k -/
  | engVext (c : Fin 12) (e : Fin 16) (d : BitVec 5) (va : BitVec 3) (k : BitVec 3)
  /-- VINS (R402): lane k -/
  | engVins (c : Fin 12) (e : Fin 16) (vd : BitVec 3) (a : BitVec 5) (k : BitVec 3)
  /-- VSUMR (R402) -/
  | engVsumr (c : Fin 12) (e : Fin 16) (d : BitVec 5) (va : BitVec 3)
  /-- VSUMI (R402) -/
  | engVsumi (c : Fin 12) (e : Fin 16) (d : BitVec 5) (va : BitVec 3)
  /-- NOP (R402) -/
  | engNop (c : Fin 12) (e : Fin 16)
  /-- TEND (R408) -/
  | engTend (c : Fin 12) (e : Fin 16)
  /-- FENCE (Table 16.7): the cycles until earlier stores, ATOMs and MSENDs are complete -/
  | engFence (c : Fin 12) (e : Fin 16) (wait : Nat)
  /-- TRAP (R402) -/
  | engTrap (c : Fin 12) (e : Fin 16) (code : BitVec 6)
  /-- RESUME (R406) -/
  | engResume (c : Fin 12) (e : Fin 16)
  /-- HALT (R408) -/
  | engHalt (c : Fin 12) (e : Fin 16)
  -- The supervisory converter (chapter 18)
  /-- CONVERSION_SLOT (R434): the code of the conversion that ends, the sentinels the firmware read since the last one (bits
  7:0), and how many result-queue entries it drained -/
  | conversionSlot (code : BitVec 16) (keeper : KeeperSlot) (drained : Nat)
  /-- MODE_REQUEST (R433) -/
  | modeRequest (sess : Fin 17) (seq v : Nat)
  /-- INJECT (R437): the channel -/
  | inject (sess : Fin 17) (seq v : Nat)
  /-- SEQ_ENTRY (R435) -/
  | seqEntry (sess : Fin 17) (seq : Nat) (n : Fin 64) (v : Nat)
  /-- FILTER_CONFIG_WRITE (R443): sub-index 1 INPUT_CHANNEL, 2 DECIMATION, 3 LENGTH_A, 4 LENGTH_B, 7 PEAK_WINDOW,
  8 ENV_ATTACK, 9 ENV_DECAY as 0 to 6 -/
  | filterConfigWrite (sess : Fin 17) (seq : Nat) (f : Fin 32) (which : Fin 7) (v : Nat)
  /-- FILTER_COEFF_WRITE (R444): 0–31 bank A, 32–63 bank B -/
  | filterCoeffWrite (sess : Fin 17) (seq : Nat) (f : Fin 32) (n : Fin 64) (v : Int)
  /-- BANK_SWAP (R444) -/
  | bankSwap (sess : Fin 17) (seq : Nat) (f : Fin 32) (v : Nat)
  /-- BIAS_WRITE (R447): BIAS_MODE (none) or BIAS_CODE j -/
  | biasWrite (sess : Fin 17) (seq : Nat) (r : Fin 4) (j : Option (Fin 8)) (v : Nat)
  -- Assay, memory integrity and the stockpile (chapter 19)
  /-- ASSAY_RUN (R457): the unit, and the PLL error (0.01 %) and the lowest and highest core voltage (mV) at its start -/
  | assayRun (sess : Fin 17) (seq v : Nat) (pllError : Int) (low high : Nat)
  /-- SCRUB_READ (R459): the memory group, the byte's address, the outcome of its check bits (0 clean, 1 corrected,
  2 uncorrectable), whether it is the group's last byte, and for an uncorrectable byte what it belongs to (flow, 8·r + g, key
  slot, object index · 256 + sub-index, or log sequence) and the sequences whose slots can no longer be located (group 17) -/
  | scrubRead (m : Fin 22) (addr : Nat) (outcome : Fin 3) (last : Bool) (owner : Nat) (lost : List Nat)
  /-- RAKE_READ (R465): what the read of the slot returned: offsets in the slot and what is added to the byte there (R294); and the
  slot's GENERATION at that read, which the write-back is held to (R466) -/
  | rakeRead (noise : List (Nat × Byte)) (gen : Nat)
  /-- BASIN_PAGE_RETIRED (R468): the page whose copy has ended -/
  | basinPageRetired (p : Fin 8) (page : Nat)
  /-- PEEK_ADDRESS (R469) -/
  | peekAddress (sess : Fin 17) (seq v : Nat)
  /-- PEEK (R469): what the read of the slot returns: offsets in the slot and what is added to the byte there (R294) -/
  | peek (sess : Fin 17) (seq : Nat) (noise : List (Nat × Byte))
  /-- STOCKPILE_FAILURE (R471): and, where an engine's parity fault is what is detected, its cluster and physical engine -/
  | stockpileFailure (parity : Option (Fin 12 × Fin 17))
  /-- SWAP_UNIT (R472) -/
  | swapUnit (sess : Fin 17) (seq v : Nat)
  /-- ENGINE_STATE_COPY (R473): the cluster whose slot is copied -/
  | engineStateCopy (c : Fin 12)
  -- Power (chapter 20)
  /-- POWER_REQUEST_RELEASED (R483): a POWER_REQUEST write with TARGET 0 -/
  | powerRequestReleased (sess : Fin 17) (seq : Nat) (urgent : Bool) (maskA maskB : Nat)
  /-- POWER_REQUEST_MOORED (R483): TARGET 1 -/
  | powerRequestMoored (sess : Fin 17) (seq : Nat) (urgent : Bool) (maskA maskB : Nat)
  /-- POWER_REQUEST_OFF (R483): TARGET 2 -/
  | powerRequestOff (sess : Fin 17) (seq : Nat) (urgent : Bool) (maskA maskB : Nat)
  /-- POWER_REQUEST_DORMANT (R483): TARGET 3 -/
  | powerRequestDormant (sess : Fin 17) (seq : Nat) (urgent : Bool) (maskA maskB : Nat)
  /-- POWER_SWITCH_OPEN (R485) -/
  | powerSwitchOpen (d : Fin 37)
  /-- DOMAIN_POWERED (R485) -/
  | domainPowered (d : Fin 37)
  /-- DRAIN_LIMIT_EXPIRY (R488) -/
  | drainLimitExpiry
  /-- DORMANT_ENTRY (R491) -/
  | dormantEntry
  /-- WAKE (R492): the source of Table 20.6 -/
  | wake (source : WakeSource)
  /-- WAKE_PATTERN_WORD (R493): a whole word of the pattern received on a reach -/
  | wakePatternWord (w : WakeWord)
  /-- WAKE_PEER (R493) -/
  | wakePeer (sess : Fin 17) (seq v : Nat)
  /-- WAKE_PATTERN_END (R493) -/
  | wakePatternEnd (r : Fin 4)
  /-- THERMAL_TRIP (R510): the channel of the sensor (16–19) less 16, and its temperature in 0.01 °C -/
  | thermalTrip (channel : Fin 4) (temp : Nat)
  /-- THERMAL_CLEARED (R510) -/
  | thermalCleared
  /-- THERMAL_SHUTDOWN (R511) -/
  | thermalShutdown
  /-- THERMAL_SHUTDOWN_EXIT (R511) -/
  | thermalShutdownExit
  /-- LOCAL_OSC_ABSENT (R519) -/
  | localOscAbsent
  /-- LOCAL_OSC_RETURN (R519) -/
  | localOscReturn
  -- Package and board (chapter 21)
  /-- AVS_TRANSACTION (R514): whether the regulator acknowledges -/
  | avsTransaction (ok : Bool)
  /-- AVS_RETRY (R514): whether the regulator acknowledges -/
  | avsRetry (ok : Bool)
  /-- ALARM_CLEAR (R508) -/
  | alarmClear (sess : Fin 17) (seq v : Nat)
  /-- GPIO_CONFIG (R509) -/
  | gpioConfig (sess : Fin 17) (seq : Nat) (n : Fin 16) (v : Nat)
  /-- PATH_SELECT_GPIO_WRITE (R509) -/
  | pathSelectGpioWrite (sess : Fin 17) (seq : Nat) (u : Fin 4) (v : Nat)
  /-- TWI_XFER (R503): the 20 bytes of Table 21.10 as five words -/
  | twiXfer (sess : Fin 17) (seq : Nat) (r : Fin 4) (words : List Nat)
  /-- TWI_TRANSFER_END (R503): status 0, 2 or 3, and the bytes read -/
  | twiTransferEnd (r : Fin 4) (status : Fin 4) (data : List Byte)
  /-- TWI_BUS_HELD (R503) -/
  | twiBusHeld (r : Fin 4)
  /-- GC_INVERT (R522) -/
  | gcInvert (sess : Fin 17) (seq v : Nat)
  /-- RESET_N_PULSE (R95, R115): RESET_N goes low and is released again -/
  | resetNPulse
  /-- REFERENCE_QUALIFYING (R356) -/
  | referenceQualifying (i : Fin 12)
  /-- LOCAL_FAULT_RX (R270): a berth's port receives, or ceases to receive, local fault -/
  | localFaultRx (b : Fin 64) (on : Bool)
  /-- MGMT_LINK_UP_CHANGE (R84) -/
  | mgmtLinkUpChange (up : Bool)
  /-- PCIE_LINK_UP (R97) -/
  | pcieLinkUp
  deriving DecidableEq, Repr

end Sys2Proof
end

