-- ==== Sys2Proof/Decode.lean ====
section
/-! DEFINITION. The command that a word of the table's bits spells. The command table gives no row any bits: its rows are
commands with operands of their own, so no word spells one. The 32-bit instruction words that the block's own engines fetch
are read by engDecode in Machine/Operands.lean. -/
namespace Sys2Proof

/-- No row of the command table has bits, so no word spells a command. DEDUCED: log entry 3. -/
def decodeTableWord (_nbits _w : Nat) : Option Instr := none

end Sys2Proof
end

