-- ==== Sys2Proof/Machine/Table.lean ====
section
/-! DEFINITION. Bits and byte order (R4, R5), and sparse tables in one canonical form: a list of (key, value) pairs with keys strictly rising and no
value equal to what an unlisted key reads as. The dictionary's values, every per-instance record of State and the
addressed memories (Host.Cell lists among them) are such tables, so that equal states are equal data. -/
namespace Sys2Proof

/-! ### Bits and byte order -/

/-- The number a list of bytes spells, most significant byte first (R5: line frames, messages). -/
def beNat (l : List Byte) : Nat := l.foldl (fun a b => a * 256 + b.toNat) 0

/-- Cut a list into a number of runs of one length; the last ones are shorter where the list ends. -/
def runs {α : Type} : Nat → Nat → List α → List (List α)
  | 0, _, _ => []
  | n + 1, k, l => l.take k :: runs n k (l.drop k)

/-- `n` bytes of a number, most significant byte first (R5). -/
def beBytes : Nat → Nat → List Byte
  | 0, _ => []
  | n + 1, v => beBytes n (v / 256) ++ [BitVec.ofNat 8 (v % 256)]

/-- The number a list of bytes spells, least significant byte first (R5: PCIe BAR space). -/
def leNat : List Byte → Nat
  | [] => 0
  | b :: t => b.toNat + 256 * leNat t

/-- `n` bytes of a number, least significant byte first (R5). -/
def leBytes : Nat → Nat → List Byte
  | 0, _ => []
  | n + 1, v => BitVec.ofNat 8 (v % 256) :: leBytes n (v / 256)

/-- Bit `i` of a number (R4: bit 0 is the least significant). -/
def bitOf (v i : Nat) : Bool := v / 2 ^ i % 2 == 1

/-- Bits `hi` down to `lo` of a number (R4). -/
def bitsOf (v hi lo : Nat) : Nat := v / 2 ^ lo % 2 ^ (hi + 1 - lo)

/-- Set (or clear) bit `i` of a number. -/
def setBit (v i : Nat) (b : Bool) : Nat :=
  if bitOf v i == b then v else if b then v + 2 ^ i else v - 2 ^ i

end Sys2Proof

namespace Sys2Proof.Machine

/-- What a table holds at a key; an unlisted key reads as the default. -/
def tget {α : Type} (d : Nat → α) : List (Nat × α) → Nat → α
  | [], k => d k
  | (k', v) :: t, k => if k' = k then v else tget d t k

/-- Put a value at a key, keys rising. -/
def tput {α : Type} (k : Nat) (v : α) : List (Nat × α) → List (Nat × α)
  | [] => [(k, v)]
  | (k', v') :: t =>
    if k < k' then (k, v) :: (k', v') :: t
    else if k = k' then (k, v) :: t
    else (k', v') :: tput k v t

/-- Take a key out of a table. -/
def tdel {α : Type} (k : Nat) (t : List (Nat × α)) : List (Nat × α) := t.filter (fun p => p.1 != k)

/-- Write a value at a key, keeping the canonical form: writing the default removes the entry. -/
def tset {α : Type} [DecidableEq α] (d : Nat → α) (t : List (Nat × α)) (k : Nat) (v : α) : List (Nat × α) :=
  if v = d k then tdel k t else tput k v (tdel k t)

/-- Values from a key on, without those equal to the default. -/
def tlist {α : Type} [DecidableEq α] (d : α) : Nat → List α → List (Nat × α)
  | _, [] => []
  | k, v :: t => if v = d then tlist d (k + 1) t else (k, v) :: tlist d (k + 1) t

/-- Replace the values from a key on by those of a list, keeping the canonical form. -/
def tputs {α : Type} [DecidableEq α] (d : α) (base : Nat) (vs : List α) (t : List (Nat × α)) : List (Nat × α) :=
  t.filter (fun p => decide (p.1 < base)) ++ tlist d base vs ++ t.filter (fun p => decide (base + vs.length ≤ p.1))

/-- Change the value at a key by a function. -/
def tmod {α : Type} [DecidableEq α] (d : Nat → α) (t : List (Nat × α)) (k : Nat) (f : α → α) : List (Nat × α) :=
  tset d t k (f (tget d t k))

/-- Every key of a table is above a bound. -/
def tabove {α : Type} (b : Nat) (t : List (Nat × α)) : Bool := t.all (fun p => decide (b < p.1))

/-- The canonical form: keys strictly rising and no entry equal to the default of its key. -/
def twf {α : Type} [DecidableEq α] (d : Nat → α) : List (Nat × α) → Bool
  | [] => true
  | (k, v) :: t => decide (v ≠ d k) && tabove k t && twf d t

/-- The list of the numbers below `n` that satisfy a condition. -/
def upto (n : Nat) (p : Nat → Bool) : List Nat := (List.range n).filter p

/-- Sum of a function over the numbers below `n`. -/
def sumTo (n : Nat) (f : Nat → Nat) : Nat := (List.range n).foldl (fun a i => a + f i) 0

/-- The bit map of the numbers below `n` that satisfy a condition. -/
def maskOf (n : Nat) (p : Nat → Bool) : Nat := sumTo n (fun i => if p i then 2 ^ i else 0)

/-- Replace the element at a position of a list; a position past the end changes nothing. -/
def lset {α : Type} : List α → Nat → α → List α
  | [], _, _ => []
  | _ :: t, 0, v => v :: t
  | h :: t, n + 1, v => h :: lset t n v

/-- The element at a position of a list, or a default. -/
def lget {α : Type} (d : α) : List α → Nat → α
  | [], _ => d
  | h :: _, 0 => h
  | _ :: t, n + 1 => lget d t n

end Sys2Proof.Machine
end

