-- ==== Sys2Proof/Machine/Crypto.lean ====
section
/-! DEFINITION. The cryptographic standards of Table 0.2 (R2), as their standards define them: SHA-256 and SHA-384 (FIPS 180-4),
HMAC-SHA-256 (RFC 2104), AES-256 (the cipher under SP 800-38D, SP 800-38B and RFC 3394), AES-256-GCM with a 96-bit nonce,
AES-256-CMAC, the RFC 3394 unwrap, and ECDSA P-384 verification (FIPS 186). Bytes stand most significant first.
PRESUMED: log entry 77. -/
namespace Sys2Proof.Machine

/-! ### Packed tables: words of `w` bits, 512 bits to an entry, the first word lowest -/

/-- Word i of a packed table of w-bit words. -/
def packedAt (w : Nat) (t : List Nat) (i : Nat) : Nat := (t.getD (w * i / 512) 0) >>> (w * i % 512) % 2 ^ w

/-! ### SHA-2 -/

/-- What distinguishes the members of SHA-2: the word's bits, its rounds and constants, and the rotations of Σ0, Σ1, σ0, σ1 (the
third of each σ is a shift). -/
structure Sha2 where
  w : Nat
  rounds : Nat
  k : List Nat
  big0 : Nat × Nat × Nat
  big1 : Nat × Nat × Nat
  small0 : Nat × Nat × Nat
  small1 : Nat × Nat × Nat

/-- A rotation to the right of a w-bit word. -/
def rotr (w x n : Nat) : Nat := x >>> n ||| x <<< (w - n) % 2 ^ w

/-- Σ of three rotations. -/
def shaBig (w : Nat) (q : Nat × Nat × Nat) (x : Nat) : Nat := rotr w x q.1 ^^^ rotr w x q.2.1 ^^^ rotr w x q.2.2

/-- σ of two rotations and a shift. -/
def shaSmall (w : Nat) (q : Nat × Nat × Nat) (x : Nat) : Nat := rotr w x q.1 ^^^ rotr w x q.2.1 ^^^ x >>> q.2.2

/-- One round: the working variables a to h. -/
def Sha2.round (p : Sha2) (k m : Nat) (v : List Nat) : List Nat :=
  match v with
  | [a, b, c, d, e, f, g, h] =>
    let t1 := h + shaBig p.w p.big1 e + ((e &&& f) ^^^ ((2 ^ p.w - 1 - e) &&& g)) + k + m
    let t2 := shaBig p.w p.big0 a + ((a &&& b) ^^^ (a &&& c) ^^^ (b &&& c))
    [(t1 + t2) % 2 ^ p.w, a, b, c, (d + t1) % 2 ^ p.w, e, f, g]
  | _ => v

/-- Rounds from t on: the next 16 words of the message schedule and the working variables. -/
def Sha2.run (p : Sha2) : Nat → Nat → List Nat → List Nat → List Nat
  | 0, _, _, v => v
  | n + 1, t, ms, v =>
    let new := (shaSmall p.w p.small1 (ms.getD 14 0) + ms.getD 9 0 + shaSmall p.w p.small0 (ms.getD 1 0) + ms.getD 0 0) % 2 ^ p.w
    p.run n (t + 1) (ms.drop 1 ++ [new]) (p.round (packedAt p.w p.k t) (ms.getD 0 0) v)

/-- The hash value after one block of 16 words. -/
def Sha2.block (p : Sha2) (h ms : List Nat) : List Nat :=
  (h.zip (p.run p.rounds 0 ms h)).map (fun q => (q.1 + q.2) % 2 ^ p.w)

/-- The blocks of a padded message. -/
def Sha2.blocks (p : Sha2) : Nat → List Nat → List Byte → List Nat
  | 0, h, _ => h
  | n + 1, h, bs =>
    let b := p.w / 8
    p.blocks n (p.block h ((List.range 16).map (fun i => beNat ((bs.drop (b * i)).take b)))) (bs.drop (16 * b))

/-- A message padded to whole blocks: a 1 bit, zeros and the length in bits. -/
def Sha2.pad (p : Sha2) (bs : List Byte) : List Byte :=
  let b := 2 * p.w
  let z := (2 * b - 1 - (bs.length + p.w / 4) % b) % b
  bs ++ [0x80#8] ++ List.replicate z 0#8 ++ beBytes (p.w / 4) (8 * bs.length)

/-- The hash of a message: its words. -/
def Sha2.hash (p : Sha2) (h : List Nat) (bs : List Byte) : List Nat :=
  let m := p.pad bs
  p.blocks (m.length / (2 * p.w)) h m

/-- The constants of SHA-256. -/
def shaK32 : List Nat :=
  [0xc19bf1749bdc06a780deb1fe72be5d74550c7dc3243185be12835b01d807aa98ab1c5ed5923f82a459f111f13956c25be9b5dba5b5c0fbcf71374491428a2f98,
   0x1429296706ca6351d5a79147c6e00bf3bf597fc7b00327c8a831c66d983e515276f988da5cb0a9dc4a7484aa2de92c6f240ca1cc0fc19dc6efbe4786e49b69c1,
   0x106aa070f40e3585d6990624d192e819c76c51a3c24b8b70a81a664ba2bfe8a192722c8581c2c92e766a0abb650a735453380d134d2c6dfc2e1b213827b70a85,
   0xc67178f2bef9a3f7a4506ceb90befffa8cc7020884c8781478a5636f748f82ee682e6ff35b9cca4f4ed8aa4a391c0cb334b0bcb52748774c1e376c0819a4c116]
/-- The constants of SHA-384. -/
def shaK64 : List Nat :=
  [0xab1c5ed5da6d8118923f82a4af194f9b59f111f1b605d0193956c25bf348b538e9b5dba58189dbbcb5c0fbcfec4d3b2f7137449123ef65cd428a2f98d728ae22,
   0xc19bf174cf6926949bdc06a725c7123580deb1fe3b1696b172be5d74f27b896f550c7dc3d5ffb4e2243185be4ee4b28c12835b0145706fbed807aa98a3030242,
   0x76f988da831153b55cb0a9dcbd41fbd44a7484aa6ea6e4832de92c6f592b0275240ca1cc77ac9c650fc19dc68b8cd5b5efbe4786384f25e3e49b69c19ef14ad2,
   0x142929670a0e6e7006ca6351e003826fd5a79147930aa725c6e00bf33da88fc2bf597fc7beef0ee4b00327c898fb213fa831c66d2db43210983e5152ee66dfab,
   0x92722c851482353b81c2c92e47edaee6766a0abb3c77b2a8650a73548baf63de53380d139d95b3df4d2c6dfc5ac42aed2e1b21385c26c92627b70a8546d22ffc,
   0x106aa07032bbd1b8f40e35855771202ad69906245565a910d192e819d6ef5218c76c51a30654be30c24b8b70d0f89791a81a664bbc423001a2bfe8a14cf10364,
   0x682e6ff3d6b2b8a35b9cca4f7763e3734ed8aa4ae3418acb391c0cb3c5c95a6334b0bcb5e19b48a82748774cdf8eeb991e376c085141ab5319a4c116b8d2d0c8,
   0xc67178f2e372532bbef9a3f7b2c67915a4506cebde82bde990befffa23631e288cc702081a6439ec84c87814a1f0ab7278a5636f43172f60748f82ee5defb2fc,
   0x1b710b35131c471b113f9804bef90dae0a637dc5a2c898a606f067aa72176fbaf57d4f7fee6ed178eada7dd6cde0eb1ed186b8c721c0c207ca273eceea26619c,
   0x6c44198c4a4758175fcb6fab3ad6faec597f299cfc657e2a4cc5d4becb3e42b6431d67c49c100d4c3c9ebe0a15c9bebc32caab7b40c7249328db77f523047d84]

/-- SHA-256's rotations and constants. -/
def sha2w32 : Sha2 :=
  { w := 32, rounds := 64, k := shaK32, big0 := (2, 13, 22), big1 := (6, 11, 25), small0 := (7, 18, 3), small1 := (17, 19, 10) }

/-- SHA-384's rotations and constants. -/
def sha2w64 : Sha2 :=
  { w := 64, rounds := 80, k := shaK64, big0 := (28, 34, 39), big1 := (14, 18, 41), small0 := (1, 8, 7), small1 := (19, 61, 6) }

/-- SHA-256 as 32 bytes. PRESUMED: log entry 77. -/
def sha256 (bs : List Byte) : List Byte :=
  (sha2w32.hash [0x6a09e667, 0xbb67ae85, 0x3c6ef372, 0xa54ff53a, 0x510e527f, 0x9b05688c, 0x1f83d9ab, 0x5be0cd19] bs).flatMap
    (beBytes 4)

/-- SHA-384 as 48 bytes (R100). PRESUMED: log entry 77. -/
def sha384 (bs : List Byte) : List Byte :=
  ((sha2w64.hash [0xcbbb9d5dc1059ed8, 0x629a292a367cd507, 0x9159015a3070dd17, 0x152fecd8f70e5939,
    0x67332667ffc00b31, 0x8eb44a8768581511, 0xdb0c2e0d64f98fa7, 0x47b5481dbefa4fa4] bs).take 6).flatMap (beBytes 8)

/-- HMAC-SHA-256 of a key and a message (R79). -/
def hmacSha256 (key msg : List Byte) : List Byte :=
  let k := if 64 < key.length then sha256 key else key
  let k := k ++ List.replicate (64 - k.length) 0#8
  sha256 (k.map (· ^^^ 0x5C#8) ++ sha256 (k.map (· ^^^ 0x36#8) ++ msg))

/-! ### AES-256: a block is 16 numbers below 256, column by column -/

/-- The substitution table. -/
def aesS : List Nat :=
  [0x75b227ebe28012079a059618c323c7041531d871f1e5a534ccf73f362693fdb7c072a49cafa2d4adf04759fa7dc982ca76abd7fe2b670130c56f6bf27b777c63,
   0xd2f3ff1021dab6bcf5389d928f40a351a89f3c507f02f94585334d43fbaaefd0cf584c4a39becb6a5bb1fc20ed00d153842fe329b3d63b52a05a6e1b1a2c8309,
   0x8ae7a65eaf4566ca94ed58d6d37c8e779e4959162acd3c25c2406490a3a32e0db0b5ede14b8ee4688902a22dc4f816073195d643d7ea7c41744975fec130ccd,
   0x16bb54b00f2d99416842e6bf0d89a18cdf2855cee9871e9b948ed9691198f8e19e1dc186b95735610ef6034866b53e708a8bbd4b1f74dde8c6b4a61c2e2578ba]
/-- Its inverse. -/
def aesSInv : List Nat :=
  [0x25d18b6d49a25b76b224d92866a12e084ec3fa420b954cee3d23c2a632947b54cbe9dec444438e3487ff2f9b8239e37cfbd7f3819ea340bf38a53630d56a0952,
   0x6b8a130103bdafc1020f3fca8f1e2cd00645b3b80558e4f70ad3bc8c00abd890849d8da75746155edab9edfd5048706c92b6655dcc5ca4d41698688664f6f872,
   0xf45acd78fec0db9a2079d2c64b3e56fc1bbe18aa0e62b76f89c5291d711af1476edf751ce837f9e28535ade72274ac9673e6b4f0cecff297eadc674f4111913a,
   0x7d0c2155631469e126d677ba7e042b17619953833cbbebc8b0f52aae4d3be0a0ef9cc9939f7ae52d0d4ab519a97f51605fec8027591012b131c7078833a8dd1f]

/-- Substitute a byte. -/
def subByte (x : Nat) : Nat := packedAt 8 aesS x

/-- Doubling in the field of x^8 + x^4 + x^3 + x + 1. -/
def aesDouble (x : Nat) : Nat := if 128 ≤ x then (2 * x) % 256 ^^^ 0x1B else 2 * x

/-- A product with a number below 16. -/
def aesMul (k x : Nat) : Nat :=
  let x2 := aesDouble x
  let x4 := aesDouble x2
  let x8 := aesDouble x4
  (if k % 2 = 1 then x else 0) ^^^ (if k / 2 % 2 = 1 then x2 else 0) ^^^ (if k / 4 % 2 = 1 then x4 else 0) ^^^
    (if k / 8 % 2 = 1 then x8 else 0)

/-- Bytes XORed in pairs. -/
def xorBytes (a b : List Nat) : List Nat := (a.zip b).map (fun q => q.1 ^^^ q.2)

/-- A column times the circulant matrix of four coefficients. -/
def mixColumn (m c : List Nat) : List Nat :=
  (List.range 4).map (fun i => (List.range 4).foldl (fun a j => a ^^^ aesMul (m.getD ((j + 4 - i) % 4) 0) (c.getD j 0)) 0)

/-- Every column times a circulant matrix. -/
def mixColumns (m s : List Nat) : List Nat := (List.range 4).flatMap (fun c => mixColumn m ((s.drop (4 * c)).take 4))

/-- Row i turned left by d · i places. -/
def shiftRows (d : Nat) (s : List Nat) : List Nat := (List.range 16).map (fun i => s.getD ((i + 4 * d * (i % 4)) % 16) 0)

/-- The next words of the key schedule (newest 8 words of 4 bytes, oldest first), from word i on. -/
def expandKey : Nat → Nat → Nat → List (List Nat) → List (List Nat)
  | 0, _, _, _ => []
  | n + 1, i, rcon, last =>
    let prev := last.getD 7 []
    let t := if i % 8 = 0 then xorBytes ((prev.drop 1 ++ prev.take 1).map subByte) [rcon, 0, 0, 0]
      else if i % 8 = 4 then prev.map subByte else prev
    let new := xorBytes (last.getD 0 []) t
    new :: expandKey n (i + 1) (if i % 8 = 0 then aesDouble rcon else rcon) (last.drop 1 ++ [new])

/-- The 15 round keys of a 32-byte key. -/
def aesKeys (key : List Byte) : List (List Nat) :=
  let k := key.map BitVec.toNat
  let first := (List.range 8).map (fun i => (k.drop (4 * i)).take 4)
  let ws := first ++ expandKey 52 8 1 first
  (List.range 15).map (fun r => ((ws.drop (4 * r)).take 4).flatten)

/-- The rounds of the cipher. -/
def aesRounds : List (List Nat) → List Nat → List Nat
  | [], s => s
  | [k], s => xorBytes (shiftRows 1 (s.map subByte)) k
  | k :: t, s => aesRounds t (xorBytes (mixColumns [2, 3, 1, 1] (shiftRows 1 (s.map subByte))) k)

/-- AES-256 of a block under round keys. -/
def aesBlock (ks : List (List Nat)) (s : List Nat) : List Nat := aesRounds (ks.drop 1) (xorBytes s (ks.headD []))

/-- The rounds of the inverse cipher, under the round keys in reverse. -/
def aesInvRounds : List (List Nat) → List Nat → List Nat
  | [], s => s
  | [k], s => xorBytes ((shiftRows 3 s).map (packedAt 8 aesSInv)) k
  | k :: t, s => aesInvRounds t (mixColumns [14, 11, 13, 9] (xorBytes ((shiftRows 3 s).map (packedAt 8 aesSInv)) k))

/-- The inverse of AES-256. -/
def aesInvBlock (ks : List (List Nat)) (s : List Nat) : List Nat :=
  let r := ks.reverse
  aesInvRounds (r.drop 1) (xorBytes s (r.headD []))

/-- Numbers below 256 as bytes. -/
def toBytes (l : List Nat) : List Byte := l.map (BitVec.ofNat 8)

/-- AES-256 of a block of 16 bytes. -/
def aesBytes (ks : List (List Nat)) (bs : List Byte) : List Byte := toBytes (aesBlock ks (bs.map BitVec.toNat))

/-- The unwrapping steps of RFC 3394: step t of 6·n, the register A and the n blocks of 8 bytes. -/
def unwrapSteps (ks : List (List Nat)) (n : Nat) : Nat → List Byte → List (List Byte) → List Byte × List (List Byte)
  | 0, a, rs => (a, rs)
  | t + 1, a, rs =>
    let i := t % n
    let b := toBytes (aesInvBlock ks ((beBytes 8 (beNat a ^^^ (t + 1)) ++ rs.getD i []).map BitVec.toNat))
    unwrapSteps ks n t (b.take 8) (rs.set i (b.drop 8))

/-- RFC 3394 unwrap under a 32-byte key: the bytes, or none where the integrity check fails (R78, R336).
PRESUMED: log entry 77. -/
def aesUnwrap (kek wrapped : List Byte) : Option (List Byte) :=
  let n := wrapped.length / 8 - 1
  let rs := (List.range n).map (fun i => (wrapped.drop (8 * i + 8)).take 8)
  let (a, out) := unwrapSteps (aesKeys kek) n (6 * n) (wrapped.take 8) rs
  if beNat a = 0xA6A6A6A6A6A6A6A6 then some out.flatten else none

/-- Doubling of a 128-bit block (SP 800-38B's subkeys). -/
def cmacDouble (x : Nat) : Nat := if 2 ^ 127 ≤ x then (2 * x) % 2 ^ 128 ^^^ 0x87 else 2 * x

/-- The CBC chain of n whole blocks. -/
def cmacChain (ks : List (List Nat)) : Nat → Nat → List Byte → Nat
  | 0, x, _ => x
  | n + 1, x, bs => cmacChain ks n (beNat (aesBytes ks (beBytes 16 (x ^^^ beNat (bs.take 16))))) (bs.drop 16)

/-- AES-256-CMAC as 16 bytes (R339). -/
def aesCmac (key msg : List Byte) : List Byte :=
  let ks := aesKeys key
  let k1 := cmacDouble (beNat (aesBytes ks (List.replicate 16 0#8)))
  let n := if msg = [] then 1 else (msg.length + 15) / 16
  let last := msg.drop (16 * (n - 1))
  let whole := last.length = 16
  let y := if whole then beNat last ^^^ k1
    else beNat (last ++ [0x80#8] ++ List.replicate (15 - last.length) 0#8) ^^^ cmacDouble k1
  aesBytes ks (beBytes 16 (cmacChain ks (n - 1) 0 msg ^^^ y))

/-- A product of GCM's field: bit 127 of a number is the coefficient of 1. -/
def ghashMul : Nat → Nat → Nat → Nat → Nat
  | 0, _, _, z => z
  | n + 1, x, v, z =>
    ghashMul n x (if v % 2 = 1 then (v / 2) ^^^ 0xE1 <<< 120 else v / 2) (if x.testBit n then z ^^^ v else z)

/-- GHASH of n whole blocks. -/
def ghash (h : Nat) : Nat → Nat → List Byte → Nat
  | 0, y, _ => y
  | n + 1, y, bs => ghash h n (ghashMul 128 (y ^^^ beNat (bs.take 16)) h 0) (bs.drop 16)

/-- Bytes filled up with zeros to whole blocks of 16. -/
def padBlocks (bs : List Byte) : List Byte := bs ++ List.replicate ((16 - bs.length % 16) % 16) 0#8

/-- The first n bytes of GCM's key stream: counter blocks from 2 on. -/
def gcmStream (ks : List (List Nat)) (nonce : List Byte) (n : Nat) : List Byte :=
  ((List.range ((n + 15) / 16)).flatMap (fun i => aesBytes ks (nonce ++ beBytes 4 (i + 2)))).take n

/-- GCM's tag over additional authenticated data and ciphertext. -/
def gcmTag (ks : List (List Nat)) (nonce aad cipher : List Byte) : List Byte :=
  let h := beNat (aesBytes ks (List.replicate 16 0#8))
  let m := padBlocks aad ++ padBlocks cipher ++ beBytes 8 (8 * aad.length) ++ beBytes 8 (8 * cipher.length)
  beBytes 16 (ghash h (m.length / 16) 0 m ^^^ beNat (aesBytes ks (nonce ++ beBytes 4 1)))

/-- AES-256-GCM (R333): the ciphertext, as long as the plaintext, and the 16-byte tag. -/
def gcmSeal (key nonce aad plain : List Byte) : List Byte × List Byte :=
  let ks := aesKeys key
  let c := (plain.zip (gcmStream ks nonce plain.length)).map (fun q => q.1 ^^^ q.2)
  (c, gcmTag ks nonce aad c)

/-- AES-256-GCM opened (R333): the plaintext, or none where the tag does not verify. -/
def gcmOpen (key nonce aad cipher tag : List Byte) : Option (List Byte) :=
  let ks := aesKeys key
  if gcmTag ks nonce aad cipher = tag then
    some ((cipher.zip (gcmStream ks nonce cipher.length)).map (fun q => q.1 ^^^ q.2))
  else none

/-! ### ECDSA P-384 (FIPS 186, R100) -/

/-- The prime of the field, the order of the base point, the coefficient b, and the base point. -/
def p384p : Nat := 2 ^ 384 - 2 ^ 128 - 2 ^ 96 + 2 ^ 32 - 1
def p384n : Nat := 0xffffffffffffffffffffffffffffffffffffffffffffffffc7634d81f4372ddf581a0db248b0a77aecec196accc52973
def p384b : Nat := 0xb3312fa7e23ee7e4988e056be3f82d19181d9c6efe8141120314088f5013875ac656398d8a2ed19d2a85c8edd3ec2aef
def p384x : Nat := 0xaa87ca22be8b05378eb1c71ef320ad746e1d3b628ba79b9859f741e082542a385502f25dbf55296c3a545e3872760ab7
def p384y : Nat := 0x3617de4a96262c6f5d9e98bf9292dc29f8f41dbd289a147ce9da3113b5f0b8c00a60b1ce1d7e819d7a431d7c90ea0e5f

/-- b to the e modulo m, over n bits of e from bit n − 1 down. -/
def powModBits (b e m : Nat) : Nat → Nat → Nat
  | 0, acc => acc
  | n + 1, acc => powModBits b e m n (if e.testBit n then acc * acc % m * b % m else acc * acc % m)

/-- The inverse modulo a prime below 2^384. -/
def invMod (a m : Nat) : Nat := powModBits (a % m) (m - 2) m 384 1

/-- A difference in the field. -/
def subP (a b : Nat) : Nat := (a + p384p - b % p384p) % p384p

/-- Twice a point in Jacobian coordinates; Z = 0 is the point at infinity. -/
def jacDouble (q : Nat × Nat × Nat) : Nat × Nat × Nat :=
  let (x, y, z) := q
  let d := z * z % p384p
  let g := y * y % p384p
  let b := x * g % p384p
  let a := 3 * (subP x d * ((x + d) % p384p)) % p384p
  let x3 := subP (a * a) (8 * b)
  (x3, subP (a * subP (4 * b) x3) (8 * (g * g)), 2 * (y * z) % p384p)

/-- The sum of two points in Jacobian coordinates. -/
def jacAdd (q r : Nat × Nat × Nat) : Nat × Nat × Nat :=
  let (x1, y1, z1) := q
  let (x2, y2, z2) := r
  if z1 = 0 then r
  else if z2 = 0 then q
  else
    let a := z1 * z1 % p384p
    let b := z2 * z2 % p384p
    let u1 := x1 * b % p384p
    let h := subP (x2 * a) u1
    let s1 := y1 * b % p384p * z2 % p384p
    let t := subP (y2 * a % p384p * z1) s1
    if h = 0 then (if t = 0 then jacDouble q else (1, 1, 0))
    else
      let hh := h * h % p384p
      let v := u1 * hh % p384p
      let w := hh * h % p384p
      let x3 := subP (t * t) (w + 2 * v)
      (x3, subP (t * subP v x3) (s1 * w), z1 * z2 % p384p * h % p384p)

/-- u·G + v·Q over the upper n bits of both, `g2` being G + Q. -/
def jacMul2 (u v : Nat) (q g2 : Nat × Nat × Nat) : Nat → Nat × Nat × Nat → Nat × Nat × Nat
  | 0, acc => acc
  | n + 1, acc =>
    let d := jacDouble acc
    jacMul2 u v q g2 n (match u.testBit n, v.testBit n with
      | true, true => jacAdd d g2
      | true, false => jacAdd d (p384x, p384y, 1)
      | false, true => jacAdd d q
      | false, false => d)

/-- A point lies on the curve. -/
def onCurve (x y : Nat) : Bool :=
  decide (x < p384p) && decide (y < p384p) && y * y % p384p == (subP (x * x % p384p * x) (3 * x) + p384b) % p384p

/-- ECDSA P-384 verification of a signature r ‖ s over a message under an uncompressed public key of 97 bytes (R100).
PRESUMED: log entry 77. -/
def ecdsaVerify (key sig msg : List Byte) : Bool :=
  let x := beNat ((key.drop 1).take 48)
  let y := beNat ((key.drop 49).take 48)
  let r := beNat (sig.take 48)
  let s := beNat ((sig.drop 48).take 48)
  if key.length = 97 ∧ key.headD 0 = 4 ∧ onCurve x y = true ∧ sig.length = 96 ∧ 0 < r ∧ r < p384n ∧ 0 < s ∧ s < p384n then
    let w := invMod s p384n
    let e := beNat (sha384 msg)
    let q : Nat × Nat × Nat := (x, y, 1)
    let (x3, _, z3) := jacMul2 (e * w % p384n) (r * w % p384n) q (jacAdd (p384x, p384y, 1) q) 384 (1, 1, 0)
    let zi := invMod z3 p384p
    z3 != 0 && x3 * (zi * zi % p384p) % p384p % p384n == r
  else false

end Sys2Proof.Machine
end

