-- ==== Sys2Proof/Machine/Operands.lean ====
section
/-! DEFINITION. The instruction formats of the Kizaiz engines (R401, R402, Tables 16.4–16.6): every instruction with its
fields, its word, the reading of a word, and the operand forms: constants, displacements and branch targets. -/
namespace Sys2Proof.Machine

/-- Class 0x1 (Table 16.6). -/
inductive AluOp where
  | add | sub | and | or | xor | shl | shr | sar | lt | ltu | min | max | minu | maxu | lzc | ones | mul | mulhs | mulhu
  | dq | dqu | dr | dru | addsat | subsat
  deriving DecidableEq, Repr

/-- Class 0x2 (Table 16.5). -/
inductive RkOp where
  | addk | andk | ork | xork | ltk | ltku | shlk | shrk | sark | mulk
  deriving DecidableEq, Repr

/-- Class 0x6. -/
inductive LdOp where
  | w | h | hu | b | bu
  deriving DecidableEq, Repr

/-- Class 0x7. -/
inductive StOp where
  | w | h | b
  deriving DecidableEq, Repr

/-- Class 0x8. -/
inductive BrOp where
  | eq | ne | lt | ge | lo | hs
  deriving DecidableEq, Repr

/-- Class 0xA. -/
inductive XcsOp where
  | r | w | or | andn
  deriving DecidableEq, Repr

/-- Class 0xB. -/
inductive AtomOp where
  | swap | add | and | or | min | max
  deriving DecidableEq, Repr

/-- Class 0xC (Table 16.6). -/
inductive ValuOp where
  | vadd | vsub | vcmul | vcmulc | vcmac | vmag2 | vmaga | vconj | vshr
  deriving DecidableEq, Repr

/-- An engine instruction with its fields (Table 16.4). Fields a class does not use are kept where their value is free. -/
inductive EngI where
  | alu (f : AluOp) (d a b : BitVec 5)
  | rk (f : RkOp) (d a : BitVec 5) (k : BitVec 14)
  | sethi (d : BitVec 5) (k : BitVec 18)
  | call (d : BitVec 5) (k : BitVec 23)
  | jumpr (d a : BitVec 5) (k : BitVec 14)
  | ld (f : LdOp) (r base : BitVec 5) (disp : BitVec 14)
  | st (f : StOp) (r base : BitVec 5) (disp : BitVec 14)
  | br (f : BrOp) (a b : BitVec 5) (off : BitVec 15)
  | msend (d a b : BitVec 5) (n : BitVec 3)
  | mrecv (d a : BitVec 5) (k : BitVec 2)
  | mwait (d : BitVec 5) (mask : BitVec 4)
  | xcs (f : XcsOp) (d a : BitVec 5) (csr : BitVec 12)
  | atom (f : AtomOp) (d a b : BitVec 5)
  | valu (f : ValuOp) (vd va vb : BitVec 3) (shamt : BitVec 4)
  | vld (v : BitVec 3) (base : BitVec 5) (disp : BitVec 14)
  | vst (v : BitVec 3) (base : BitVec 5) (disp : BitVec 14)
  | vbcast (vd : BitVec 3) (a b : BitVec 5)
  | vext (d : BitVec 5) (va : BitVec 3) (b : BitVec 5) (k : BitVec 3)
  | vins (vd : BitVec 3) (a b : BitVec 5) (k : BitVec 3)
  | vsum (im : Bool) (d : BitVec 5) (va : BitVec 3) (b : BitVec 5)
  | nop
  | tend
  | fence
  | trap (code : BitVec 6)
  | resume
  | halt
  deriving DecidableEq, Repr

/-! ### Codes (Tables 16.5, 16.6) -/

def AluOp.code : AluOp → BitVec 13
  | .add => 0x000 | .sub => 0x001 | .and => 0x002 | .or => 0x003 | .xor => 0x004 | .shl => 0x005 | .shr => 0x006
  | .sar => 0x007 | .lt => 0x008 | .ltu => 0x009 | .min => 0x00A | .max => 0x00B | .minu => 0x00C | .maxu => 0x00D
  | .lzc => 0x00E | .ones => 0x00F | .mul => 0x010 | .mulhs => 0x011 | .mulhu => 0x012 | .dq => 0x013 | .dqu => 0x014
  | .dr => 0x015 | .dru => 0x016 | .addsat => 0x017 | .subsat => 0x018

def aluOps : List AluOp :=
  [.add, .sub, .and, .or, .xor, .shl, .shr, .sar, .lt, .ltu, .min, .max, .minu, .maxu, .lzc, .ones, .mul, .mulhs, .mulhu,
   .dq, .dqu, .dr, .dru, .addsat, .subsat]

def RkOp.code : RkOp → BitVec 4
  | .addk => 0 | .andk => 1 | .ork => 2 | .xork => 3 | .ltk => 4 | .ltku => 5 | .shlk => 6 | .shrk => 7 | .sark => 8
  | .mulk => 9

def rkOps : List RkOp := [.addk, .andk, .ork, .xork, .ltk, .ltku, .shlk, .shrk, .sark, .mulk]

/-- size and ext of a load. -/
def LdOp.code : LdOp → BitVec 2 × BitVec 2
  | .w => (0, 0) | .h => (1, 0) | .hu => (1, 1) | .b => (2, 0) | .bu => (2, 1)

def ldOps : List LdOp := [.w, .h, .hu, .b, .bu]

def StOp.code : StOp → BitVec 2
  | .w => 0 | .h => 1 | .b => 2

def stOps : List StOp := [.w, .h, .b]

def BrOp.code : BrOp → BitVec 3
  | .eq => 0 | .ne => 1 | .lt => 2 | .ge => 3 | .lo => 4 | .hs => 5

def brOps : List BrOp := [.eq, .ne, .lt, .ge, .lo, .hs]

def XcsOp.code : XcsOp → BitVec 2
  | .r => 0 | .w => 1 | .or => 2 | .andn => 3

def xcsOps : List XcsOp := [.r, .w, .or, .andn]

def AtomOp.code : AtomOp → BitVec 13
  | .swap => 0 | .add => 1 | .and => 2 | .or => 3 | .min => 4 | .max => 5

def atomOps : List AtomOp := [.swap, .add, .and, .or, .min, .max]

def ValuOp.code : ValuOp → BitVec 6
  | .vadd => 0 | .vsub => 1 | .vcmul => 2 | .vcmulc => 3 | .vcmac => 4 | .vmag2 => 5 | .vmaga => 6 | .vconj => 7 | .vshr => 8

def valuOps : List ValuOp := [.vadd, .vsub, .vcmul, .vcmulc, .vcmac, .vmag2, .vmaga, .vconj, .vshr]

/-! ### Words -/

/-- Format RR. -/
def fmtRR (cls : BitVec 4) (d a b : BitVec 5) (fn : BitVec 13) : BitVec 32 := cls ++ d ++ a ++ b ++ fn
/-- Format RK. -/
def fmtRK (cls : BitVec 4) (d a : BitVec 5) (k : BitVec 14) (fn : BitVec 4) : BitVec 32 := cls ++ d ++ a ++ k ++ fn
/-- Format M. -/
def fmtM (cls : BitVec 4) (r base : BitVec 5) (disp : BitVec 14) (size ext : BitVec 2) : BitVec 32 :=
  cls ++ r ++ base ++ disp ++ size ++ ext
/-- Format C. -/
def fmtC (cls : BitVec 4) (a b : BitVec 5) (cond : BitVec 3) (off : BitVec 15) : BitVec 32 := cls ++ a ++ b ++ cond ++ off
/-- Format L. -/
def fmtL (cls : BitVec 4) (d : BitVec 5) (k : BitVec 23) : BitVec 32 := cls ++ d ++ k
/-- Format X. -/
def fmtX (cls : BitVec 4) (d a : BitVec 5) (mode : BitVec 2) (csr : BitVec 12) : BitVec 32 :=
  cls ++ d ++ a ++ mode ++ csr ++ 0#4
/-- Format V. -/
def fmtV (cls : BitVec 4) (vd va vb : BitVec 3) (shamt : BitVec 4) (fn : BitVec 6) : BitVec 32 :=
  cls ++ vd ++ va ++ vb ++ 0#9 ++ shamt ++ fn

/-- A vector register in a 5-bit field: the upper bits are zero (R401). -/
def vreg (v : BitVec 3) : BitVec 5 := 0#2 ++ v

/-- The word of an instruction (Tables 16.4–16.6). -/
def EngI.word : EngI → BitVec 32
  | .alu f d a b => fmtRR 1 d a b f.code
  | .rk f d a k => fmtRK 2 d a k f.code
  | .sethi d k => fmtL 3 d (0#5 ++ k)
  | .call d k => fmtL 4 d k
  | .jumpr d a k => fmtRK 5 d a k 0
  | .ld f r base disp => fmtM 6 r base disp f.code.1 f.code.2
  | .st f r base disp => fmtM 7 r base disp f.code 0
  | .br f a b off => fmtC 8 a b f.code off
  | .msend d a b n => fmtRR 9 d a b (0#10 ++ n)
  | .mrecv d a k => fmtRR 9 d a 0 (1#3 ++ 0#8 ++ k)
  | .mwait d mask => fmtRR 9 d 0 0 (2#3 ++ 0#6 ++ mask)
  | .xcs f d a csr => fmtX 10 d a f.code csr
  | .atom f d a b => fmtRR 11 d a b f.code
  | .valu f vd va vb shamt => fmtV 12 vd va vb shamt f.code
  | .vld v base disp => fmtM 13 (vreg v) base disp 0 0
  | .vst v base disp => fmtM 13 (vreg v) base disp 1 0
  | .vbcast vd a b => fmtRR 14 (vreg vd) a b 0
  | .vext d va b k => fmtRR 14 d (vreg va) b (0#2 ++ k ++ 1#8)
  | .vins vd a b k => fmtRR 14 (vreg vd) a b (0#2 ++ k ++ 2#8)
  | .vsum im d va b => fmtRR 14 d (vreg va) b (if im then 4 else 3)
  | .nop => fmtRR 15 0 0 0 0
  | .tend => fmtRR 15 0 0 0 1
  | .fence => fmtRR 15 0 0 0 2
  | .trap code => fmtRR 15 0 0 0 (0#2 ++ code ++ 3#5)
  | .resume => fmtRR 15 0 0 0 16
  | .halt => fmtRR 15 0 0 0 17

/-- An instruction keeps the zero fields of its function (Tables 16.5, 16.6): b of LZC and ONES, and bits 13:5 of k14 in a
constant shift. -/
def EngI.wellFormed : EngI → Bool
  | .alu f _ _ b => (f != .lzc && f != .ones) || b == 0
  | .rk f _ _ k => (f != .shlk && f != .shrk && f != .sark) || k.extractLsb' 5 9 == 0
  | _ => true

/-! ### Reading a word -/

/-- Bits lo+n−1 to lo of a word. -/
abbrev fieldOf (w : BitVec 32) (lo n : Nat) : BitVec n := w.extractLsb' lo n

/-- Read class 0x9 (Table 16.5). -/
def decodeMooring (d a b : BitVec 5) (fn : BitVec 13) : Option EngI :=
  if fn.extractLsb' 10 3 = 0 then
    (if fn.extractLsb' 3 7 = 0 then some (.msend d a b (fn.extractLsb' 0 3)) else none)
  else if fn.extractLsb' 10 3 = 1 then
    (if fn.extractLsb' 2 8 = 0 ∧ b = 0 then some (.mrecv d a (fn.extractLsb' 0 2)) else none)
  else if fn.extractLsb' 10 3 = 2 then
    (if fn.extractLsb' 4 6 = 0 ∧ a = 0 ∧ b = 0 then some (.mwait d (fn.extractLsb' 0 4)) else none)
  else none

/-- Read class 0xE (Table 16.6). -/
def decodeVmov (d a b : BitVec 5) (fn : BitVec 13) : Option EngI :=
  let vd : BitVec 3 := d.extractLsb' 0 3
  let va : BitVec 3 := a.extractLsb' 0 3
  let dOk := d.extractLsb' 3 2 == 0
  let aOk := a.extractLsb' 3 2 == 0
  let k : BitVec 3 := fn.extractLsb' 8 3
  if fn.extractLsb' 11 2 ≠ 0 then none
  else if fn.extractLsb' 0 8 = 1 then (if aOk then some (.vext d va b k) else none)
  else if fn.extractLsb' 0 8 = 2 then (if dOk then some (.vins vd a b k) else none)
  else if k ≠ 0 then none
  else if fn.extractLsb' 0 8 = 0 then (if dOk then some (.vbcast vd a b) else none)
  else if fn.extractLsb' 0 8 = 3 then (if aOk then some (.vsum false d va b) else none)
  else if fn.extractLsb' 0 8 = 4 then (if aOk then some (.vsum true d va b) else none)
  else none

/-- Read class 0xF (Table 16.5). -/
def decodeSys (d a b : BitVec 5) (fn : BitVec 13) : Option EngI :=
  if d ≠ 0 ∨ a ≠ 0 ∨ b ≠ 0 ∨ fn.extractLsb' 11 2 ≠ 0 then none
  else if fn.extractLsb' 0 5 = 3 then some (.trap (fn.extractLsb' 5 6))
  else if fn.extractLsb' 5 6 ≠ 0 then none
  else if fn = 0 then some .nop
  else if fn = 1 then some .tend
  else if fn = 2 then some .fence
  else if fn = 16 then some .resume
  else if fn = 17 then some .halt
  else none

/-- The instruction of a word; none for an ILLEGAL_INSTRUCTION (R401). -/
def engDecode (w : BitVec 32) : Option EngI :=
  let d : BitVec 5 := fieldOf w 23 5
  let a : BitVec 5 := fieldOf w 18 5
  let b : BitVec 5 := fieldOf w 13 5
  let fn : BitVec 13 := fieldOf w 0 13
  let k14 : BitVec 14 := fieldOf w 4 14
  let fn4 : BitVec 4 := fieldOf w 0 4
  let size : BitVec 2 := fieldOf w 2 2
  let ext : BitVec 2 := fieldOf w 0 2
  let keep (i : EngI) : Option EngI := if i.wellFormed then some i else none
  match (fieldOf w 28 4).toNat with
  | 1 => (aluOps.find? (fun f => f.code == fn)).bind (fun f => keep (.alu f d a b))
  | 2 => (rkOps.find? (fun f => f.code == fn4)).bind (fun f => keep (.rk f d a k14))
  | 3 => if fieldOf w 18 5 = 0 then some (.sethi d (fieldOf w 0 18)) else none
  | 4 => some (.call d (fieldOf w 0 23))
  | 5 => if fn4 = 0 then some (.jumpr d a k14) else none
  | 6 => (ldOps.find? (fun f => f.code == (size, ext))).map (fun f => .ld f d a k14)
  | 7 => if ext = 0 then (stOps.find? (fun f => f.code == size)).map (fun f => .st f d a k14) else none
  | 8 => (brOps.find? (fun f => f.code == fieldOf w 15 3)).map (fun f => .br f d a (fieldOf w 0 15))
  | 9 => decodeMooring d a b fn
  | 10 => if fn4 = 0 then
      (xcsOps.find? (fun f => f.code == fieldOf w 16 2)).map (fun f => .xcs f d a (fieldOf w 4 12))
    else none
  | 11 => (atomOps.find? (fun f => f.code == fn)).map (fun f => .atom f d a b)
  | 12 => if fieldOf w 10 9 = 0 then
      (valuOps.find? (fun f => f.code == fieldOf w 0 6)).map (fun f =>
        .valu f (fieldOf w 25 3) (fieldOf w 22 3) (fieldOf w 19 3) (fieldOf w 6 4))
    else none
  | 13 => if fieldOf w 26 2 = 0 ∧ ext = 0 then
      (if size = 0 then some (.vld (fieldOf w 23 3) a k14)
       else if size = 1 then some (.vst (fieldOf w 23 3) a k14) else none)
    else none
  | 14 => decodeVmov d a b fn
  | 15 => decodeSys d a b fn
  | _ => none

/-- An instruction with the fields that its function leaves unused at 0 (Table 16.6). -/
def EngI.norm : EngI → EngI
  | .valu f vd va vb shamt =>
    .valu f vd va (if [.vadd, .vsub, .vcmul, .vcmulc, .vcmac].contains f then vb else 0) (if f = .vshr then shamt else 0)
  | .vbcast vd a _ => .vbcast vd a 0
  | .vext d va _ k => .vext d va 0 k
  | .vins vd a _ k => .vins vd a 0 k
  | .vsum im d va _ => .vsum im d va 0
  | .xcs .r d _ csr => .xcs .r d 0 csr
  | i => i

/-! ### Operand forms -/

/-- sext to 32 bits (R402). -/
def sext {n : Nat} (x : BitVec n) : Word := x.signExtend 32

/-- zext to 32 bits (R402). -/
def zext {n : Nat} (x : BitVec n) : Word := x.setWidth 32

/-- The address of a memory access of width w: base + sext(disp14) × w (R402). -/
def memAddr (base : Word) (disp : BitVec 14) (w : Nat) : Word := base + sext disp * BitVec.ofNat 32 w

/-- A target of a word offset from an address (R402). -/
def wordTarget {n : Nat} (from_ : Word) (off : BitVec n) : Word := from_ + sext off * 4#32

/-- Access width in bytes of a load. -/
def LdOp.width : LdOp → Nat
  | .w => 4 | .h => 2 | .hu => 2 | .b => 1 | .bu => 1

/-- Access width in bytes of a store. -/
def StOp.width : StOp → Nat
  | .w => 4 | .h => 2 | .b => 1

/-- What a load puts in its register of the bytes read (Table 16.5). -/
def LdOp.extend (f : LdOp) (v : Nat) : Word :=
  match f with
  | .w => BitVec.ofNat 32 v
  | .h => sext (BitVec.ofNat 16 v)
  | .hu => BitVec.ofNat 32 v
  | .b => sext (BitVec.ofNat 8 v)
  | .bu => BitVec.ofNat 32 v

/-! ### Registers an instruction reads and writes (R403): general ones 1–31, vector ones 32–39; g0 is none -/

/-- A general register as a number of the list: g0 takes no part. -/
def gNum (r : BitVec 5) : List Nat := if r = 0 then [] else [r.toNat]

/-- A vector register as a number of the list. -/
def vNum (v : BitVec 3) : List Nat := [32 + v.toNat]

def EngI.reads : EngI → List Nat
  | .alu f _ a b => gNum a ++ (if f = .lzc ∨ f = .ones then [] else gNum b)
  | .rk _ _ a _ => gNum a
  | .sethi _ _ => []
  | .call _ _ => []
  | .jumpr _ a _ => gNum a
  | .ld _ _ base _ => gNum base
  | .st _ r base _ => gNum r ++ gNum base
  | .br _ a b _ => gNum a ++ gNum b
  | .msend _ a b _ => gNum a ++ gNum b
  | .mrecv _ a _ => gNum a
  | .mwait _ _ => []
  | .xcs f _ a _ => if f = .r then [] else gNum a
  | .atom _ _ a b => gNum a ++ gNum b
  | .valu f vd va vb _ =>
    vNum va ++ (if [.vadd, .vsub, .vcmul, .vcmulc, .vcmac].contains f then vNum vb else []) ++
      (if [.vcmac, .vmaga].contains f then vNum vd else [])
  | .vld _ base _ => gNum base
  | .vst v base _ => vNum v ++ gNum base
  | .vbcast _ a _ => gNum a
  | .vext _ va _ _ => vNum va
  | .vins vd a _ _ => vNum vd ++ gNum a
  | .vsum _ _ va _ => vNum va
  | _ => []

def EngI.writes : EngI → List Nat
  | .alu _ d _ _ => gNum d
  | .rk _ d _ _ => gNum d
  | .sethi d _ => gNum d
  | .call d _ => gNum d
  | .jumpr d _ _ => gNum d
  | .ld _ r _ _ => gNum r
  | .msend d _ _ _ => gNum d
  | .mrecv d _ _ => gNum d
  | .mwait d _ => gNum d
  | .xcs _ d _ _ => gNum d
  | .atom _ d _ _ => gNum d
  | .valu _ vd _ _ _ => vNum vd
  | .vld v _ _ => vNum v
  | .vbcast vd _ _ => vNum vd
  | .vext d _ _ _ => gNum d
  | .vins vd _ _ _ => vNum vd
  | .vsum _ d _ _ => gNum d
  | _ => []

/-- A memory-port instruction (R403). -/
def EngI.usesPort : EngI → Bool
  | .ld _ _ _ _ => true
  | .st _ _ _ _ => true
  | .atom _ _ _ _ => true
  | .vld _ _ _ => true
  | .vst _ _ _ => true
  | .msend _ _ _ _ => true
  | .mrecv _ _ _ => true
  | .xcs _ _ _ _ => true
  | _ => false

/-- ATOM. -/
def EngI.isAtom : EngI → Bool
  | .atom _ _ _ _ => true
  | _ => false

/-- A store, ATOM or MSEND, which FENCE waits for (Table 16.7). -/
def EngI.stores : EngI → Bool
  | .st _ _ _ _ => true
  | .vst _ _ _ => true
  | .msend _ _ _ _ => true
  | .atom _ _ _ _ => true
  | _ => false

/-- A vector-unit instruction (Table 16.7). -/
def EngI.usesVector : EngI → Bool
  | .valu _ _ _ _ _ => true
  | .vbcast _ _ _ => true
  | .vext _ _ _ _ => true
  | .vins _ _ _ _ => true
  | .vsum _ _ _ _ => true
  | _ => false

/-- A divide. -/
def EngI.usesDivider : EngI → Bool
  | .alu f _ _ _ => [.dq, .dqu, .dr, .dru].contains f
  | _ => false

/-- A multiply or divide. -/
def EngI.usesMulDiv : EngI → Bool
  | .alu f _ _ _ => [.mul, .mulhs, .mulhu, .dq, .dqu, .dr, .dru].contains f
  | .rk f _ _ _ => f == .mulk
  | _ => false

/-- A branch, CALL, JUMPR or SYS. -/
def EngI.isControl : EngI → Bool
  | .br _ _ _ _ => true
  | .call _ _ => true
  | .jumpr _ _ _ => true
  | .nop => true
  | .tend => true
  | .fence => true
  | .trap _ => true
  | .resume => true
  | .halt => true
  | _ => false

/-- VCMAC or VMAGA: the accumulator it adds to, where it reads that register for nothing else (R403). -/
def EngI.accumulator : EngI → Option Nat
  | .valu .vcmac vd va vb _ => if va = vd ∨ vb = vd then none else some (32 + vd.toNat)
  | .valu .vmaga vd va _ _ => if va = vd then none else some (32 + vd.toNat)
  | _ => none

end Sys2Proof.Machine
end

