-- ==== Sys2Proof/Machine/Flags.lean ====
section
/-! DEFINITION. The engines' arithmetic and the flags it sets (R392, R402, Tables 16.5 and 16.6): the ALU with DZ and OV, the
vector unit with its rounding and saturation, and the ATOM operations. -/
namespace Sys2Proof.Machine

/-- An ALU result: the value, and whether DZ and OV are set. -/
structure AluOut where
  val : Word
  dz : Bool := false
  ov : Bool := false
  deriving DecidableEq, Repr

/-- 1 or 0. -/
def boolWord (b : Bool) : Word := if b then 1 else 0

/-- Leading zero bits of a word. -/
def leadingZeros (a : Word) : Nat := if a = 0 then 32 else 31 - a.toNat.log2

/-- One bits of a word. -/
def oneBits (a : Word) : Nat := (List.range 32).countP (fun i => a.getLsbD i)

/-- Clamp an integer to n-bit two's complement. -/
def satTo (n : Nat) (v : Int) : Int := max (-(2 ^ (n - 1))) (min (2 ^ (n - 1) - 1) v)

/-- A saturating result, with OV where it saturates (R402). -/
def satWord (v : Int) : AluOut := { val := BitVec.ofInt 32 (satTo 32 v), ov := satTo 32 v != v }

/-- The value and flags of a class 0x1 function (Table 16.6). -/
def AluOp.eval (f : AluOp) (a b : Word) : AluOut :=
  let sh := b.toNat % 32
  match f with
  | .add => { val := a + b }
  | .sub => { val := a - b }
  | .and => { val := a &&& b }
  | .or => { val := a ||| b }
  | .xor => { val := a ^^^ b }
  | .shl => { val := a <<< sh }
  | .shr => { val := a >>> sh }
  | .sar => { val := a.sshiftRight sh }
  | .lt => { val := boolWord (a.slt b) }
  | .ltu => { val := boolWord (a.ult b) }
  | .min => { val := if a.slt b then a else b }
  | .max => { val := if a.slt b then b else a }
  | .minu => { val := if a.ult b then a else b }
  | .maxu => { val := if a.ult b then b else a }
  | .lzc => { val := BitVec.ofNat 32 (leadingZeros a) }
  | .ones => { val := BitVec.ofNat 32 (oneBits a) }
  | .mul => { val := a * b }
  | .mulhs => { val := BitVec.ofInt 32 (a.toInt * b.toInt / 2 ^ 32) }
  | .mulhu => { val := BitVec.ofNat 32 (a.toNat * b.toNat / 2 ^ 32) }
  | .dq =>
    if b = 0 then { val := 0, dz := true }
    else if a = BitVec.intMin 32 ∧ b = -1 then { val := BitVec.intMax 32, ov := true }
    else { val := BitVec.ofInt 32 (a.toInt.tdiv b.toInt) }
  | .dqu => if b = 0 then { val := 0, dz := true } else { val := BitVec.ofNat 32 (a.toNat / b.toNat) }
  | .dr =>
    if b = 0 then { val := a, dz := true }
    else if a = BitVec.intMin 32 ∧ b = -1 then { val := 0, ov := true }
    else { val := BitVec.ofInt 32 (a.toInt.tmod b.toInt) }
  | .dru => if b = 0 then { val := a, dz := true } else { val := BitVec.ofNat 32 (a.toNat % b.toNat) }
  | .addsat => satWord (a.toInt + b.toInt)
  | .subsat => satWord (a.toInt - b.toInt)

/-- The value of a class 0x2 function (Table 16.5). -/
def RkOp.eval (f : RkOp) (a : Word) (k : BitVec 14) : Word :=
  let sh := k.toNat % 32
  match f with
  | .addk => a + sext k
  | .andk => a &&& zext k
  | .ork => a ||| zext k
  | .xork => a ^^^ zext k
  | .ltk => boolWord (a.slt (sext k))
  | .ltku => boolWord (a.ult (zext k))
  | .shlk => a <<< sh
  | .shrk => a >>> sh
  | .sark => a.sshiftRight sh
  | .mulk => a * sext k

/-- The test of a branch (Table 16.5). -/
def BrOp.test (f : BrOp) (a b : Word) : Bool :=
  match f with
  | .eq => a == b
  | .ne => a != b
  | .lt => a.slt b
  | .ge => !a.slt b
  | .lo => a.ult b
  | .hs => !a.ult b

/-- What an ATOM leaves in memory (Table 16.5). -/
def AtomOp.eval (f : AtomOp) (m b : Word) : Word :=
  match f with
  | .swap => b
  | .add => m + b
  | .and => m &&& b
  | .or => m ||| b
  | .min => if m.slt b then m else b
  | .max => if m.slt b then b else m

/-! ### Vectors -/

/-- The real part of a lane (R392). -/
def laneRe (x : Word) : Int := (x.extractLsb' 0 16).toInt

/-- The imaginary part of a lane. -/
def laneIm (x : Word) : Int := (x.extractLsb' 16 16).toInt

/-- A lane from its parts, each saturated to 16 bits (R402). -/
def laneOf (re im : Int) : Word := BitVec.ofInt 16 (satTo 16 im) ++ BitVec.ofInt 16 (satTo 16 re)

/-- A product rounded: 2^14 added, shifted right by 15 and saturated to 16 bits (R402). -/
def roundProduct (p : Int) : Int := satTo 16 ((p + 2 ^ 14) / 2 ^ 15)

/-- One lane of a class 0xC function (Table 16.6): d is the destination's old lane. -/
def ValuOp.lane (f : ValuOp) (d a b : Word) (shamt : Nat) : Word :=
  let ar := laneRe a
  let ai := laneIm a
  let br := laneRe b
  let bi := laneIm b
  match f with
  | .vadd => laneOf (ar + br) (ai + bi)
  | .vsub => laneOf (ar - br) (ai - bi)
  | .vcmul => laneOf (roundProduct (ar * br - ai * bi)) (roundProduct (ar * bi + ai * br))
  | .vcmulc => laneOf (roundProduct (ar * br + ai * bi)) (roundProduct (ai * br - ar * bi))
  | .vcmac => laneOf (laneRe d + roundProduct (ar * br - ai * bi)) (laneIm d + roundProduct (ar * bi + ai * br))
  | .vmag2 => laneOf (roundProduct (ar * ar + ai * ai)) 0
  | .vmaga => laneOf (laneRe d + roundProduct (ar * ar + ai * ai)) (laneIm d)
  | .vconj => BitVec.ofInt 16 (-ai) ++ BitVec.ofInt 16 ar
  | .vshr => laneOf (ar / 2 ^ shamt) (ai / 2 ^ shamt)

end Sys2Proof.Machine
end

