-- ==== Sys2Proof/Machine/Fixed.lean ====
section
/-! DEFINITION. Exact integer arithmetic for the real-valued figures of the spec: rounding to the nearest integer, the
raised cosine of R128 and decibel levels as fixed-point powers (R129, R162). Fixed point: 10⁹ for powers and fractions. -/
namespace Sys2Proof.Machine

/-- The nearest integer to a quotient, halves away from zero. -/
def roundDiv (a b : Int) : Int :=
  if b = 0 then 0
  else
    let s : Int := if (a < 0) = (b < 0) then 1 else -1
    s * (((2 * a.natAbs + b.natAbs) / (2 * b.natAbs) : Nat) : Int)

/-- ⌈a / b⌉ of natural numbers. -/
def ceilDiv (a b : Nat) : Nat := if b = 0 then 0 else (a + b - 1) / b

/-- Clamp an integer to a closed range. -/
def clampInt (lo hi v : Int) : Int := max lo (min hi v)

/-- The scale of powers and fractions. -/
def unit9 : Nat := 1000000000

/-- The scale of the cosine's arithmetic. -/
def unit12 : Int := 1000000000000

/-- π · 10¹². -/
def pi12 : Int := 3141592653590

/-- The Taylor series of the cosine at x · 10⁻¹², for 0 ≤ x ≤ π/2, by `n` further terms. -/
def cosTerms : Nat → Nat → Int → Int → Int
  | 0, _, term, _ => term
  | n + 1, k, term, x2 =>
    term + cosTerms n (k + 1) (-(term * x2 / unit12) / (((2 * k + 1) * (2 * k + 2) : Nat) : Int)) x2

/-- cos(π j / m) · 10¹². -/
def cosPi (j m : Nat) : Int :=
  if m = 0 then unit12
  else
    let c (k : Nat) : Int :=
      let x := pi12 * (k : Int) / (m : Int)
      cosTerms 12 0 unit12 (x * x / unit12)
    if 2 * j ≤ m then c j else -c (m - j)

/-- The raised-cosine ramp of R128 from power a to power b at boundary j of M. -/
def rampAt (a b j m : Nat) : Nat :=
  if m ≤ j then b
  else if j = 0 then a
  else (((a : Int) + ((b : Int) - (a : Int)) * (unit12 - cosPi j m) / (2 * unit12))).toNat

/-- The largest x in [lo, lo + 2^n) with x^k ≤ v, by bisection. -/
def rootFrom (k v : Nat) : Nat → Nat → Nat
  | 0, lo => lo
  | n + 1, lo => if (lo + 2 ^ n) ^ k ≤ v then rootFrom k v n (lo + 2 ^ n) else rootFrom k v n lo

/-- 10^(x/100) · 10⁹, rounded down: the power of x tenths of a decibel (R162). -/
def level10 (x : Int) : Nat := if x = 0 then unit9 else rootFrom 100 (10 ^ (900 + x).toNat) 31 0

/-- ⌊√v⌋ for v below 2^(2n). -/
def isqrt (v : Nat) : Nat := rootFrom 2 v (v.log2 / 2 + 1) 0

/-- `n` shifts of the reflected CRC-32 (R108: polynomial 0x04C1_1DB7, reflected). -/
def crc32Shift : Nat → Nat → Nat
  | 0, c => c
  | n + 1, c => crc32Shift n (if c % 2 = 1 then (c / 2) ^^^ 0xEDB88320 else c / 2)

/-- The IEEE 802.3 CRC-32 (R108): initial value and final XOR 0xFFFF_FFFF. -/
def crc32 (bs : List Byte) : Nat := (bs.foldl (fun c b => crc32Shift 8 (c ^^^ b.toNat)) 0xFFFFFFFF) ^^^ 0xFFFFFFFF

/-- A client frame's FCS checks (R245): its last four bytes are the CRC-32 of the rest, least significant byte first. -/
def fcsOk (bs : List Byte) : Bool :=
  decide (4 ≤ bs.length) && leNat (bs.drop (bs.length - 4)) == crc32 (bs.take (bs.length - 4))

end Sys2Proof.Machine
end

