-- ==== Sys2Proof/Config.lean ====
section
/-! DEFINITION. What an implementation fixes and what the spec leaves open: constants with no body, so that no proof can
see their value. -/
namespace Sys2Proof.Config

/-! ### Free values -/

/-- The k-th free value: a value the spec does not state. Applied to State's draw counter (log entry 4).
DESIGN CHOICE: log entry 4. -/
opaque free : Nat → Nat

/-- Whether the k-th rounding of a decibel figure, whose exact value is not an integer, goes up (log entry 21).
DESIGN CHOICE: log entry 21. -/
opaque roundUp : Nat → Bool

/-- Which of the four points of lowest energy stands for the symbol that starts at a slot (R19). DEDUCED: log entry 94. -/
opaque lowestPoint : Nat → BitVec 2

/-- What a read of PEEK finds in its slot where the command does not bring it: offsets and what is added to the byte there.
DESIGN CHOICE: log entry 4. -/
opaque slotNoise : Nat → List (Nat × BitVec 8)

/-! ### Values of the release and of the part (R93, R99; "per release", "per firmware" defaults) -/

/-- DICTIONARY_VERSION of the running firmware. -/
opaque dictionaryVersion : Int
/-- DICTIONARY_DIGEST of the running firmware. -/
opaque dictionaryDigest : Int
/-- OBJECT_COUNT of the running firmware. -/
opaque objectCount : Int
/-- The firmware's default of sequence entry n, 0–31 (R435). -/
opaque seqEntry : Nat → Nat

/-- Task entry address and budget of the firmware's keeper program in system slot 16·c + e (R390, R420). -/
opaque keeperEntry : Nat → BitVec 32
opaque keeperBudget : Nat → Nat
/-- The word at an address of the firmware's text in system slot 16·c + e (R390): the spec does not give it.
DEDUCED: log entry 58. -/
opaque keeperWord : Nat → Nat → BitVec 32
/-- The firmware keeps no task in that slot (R477). -/
opaque keeperIdle : Nat → Bool

/-- The temperature (0.01 °C) that temperature sensor n's fused trim gives for the mean of its codes (R441). -/
opaque sensorTemp : Nat → ℚ → Int

/-- AVS_TARGET (mV), less 620, that the fused process corner and the hottest hub sensor (0.01 °C) give (R514); taken modulo the
161 values of its range. DESIGN CHOICE: log entry 50. -/
opaque avsTarget : Int → Nat

/-- The macro of a memory group, counted from the group's first, and the row in it that hold the byte at an address: the
spec gives no layout (R463; log entry 64). DESIGN CHOICE: log entry 64. -/
opaque macroOf : Nat → Nat → Nat
opaque rowOf : Nat → Nat → Nat

/-! ### The entropy source -/

/-- 128 bits from the on-die entropy source at the k-th draw (R79, R339). DESIGN CHOICE: log entry 91. -/
opaque entropyBits : Nat → BitVec 128

/-- 16 bytes of entropy (R79, R339). -/
def entropy (k : Nat) : List Byte := (List.range 16).map (fun i => BitVec.ofNat 8 ((entropyBits k).toNat / 256 ^ (15 - i)))

end Sys2Proof.Config
end

