-- ==== Sys2Proof/Machine/ObjNames.lean ====
section
/-! DEFINITION. The keys of the object dictionary's entries: one definition per named entry of the chapters' object
tables (R47: an object is named by a 16-bit index and an 8-bit sub-index). A key is index · 256 + sub-index. The
arguments are the instance numbers in the order of the record's address rule (r reach, g group, s sub-carrier, k
converter or berth group, b berth, p port or partition, u protection unit, i timing input, l lane, c cluster, e slot,
f filter slot, m memory group, o operation) and, for an entry that a table gives as a run, n counted from 0. -/
namespace Sys2Proof.Machine

/-- The key of the entry at an index and a sub-index (R47). -/
def objKey (idx sub : Nat) : Nat := idx * 256 + sub

namespace Obj

/-- DICTIONARY_VERSION, 0x1001.01 (R94, 03_object_dictionary.md). -/
def dictionaryVersion : Nat := objKey (0x1001) (1)
/-- DICTIONARY_DIGEST, 0x1001.02 (R94, 03_object_dictionary.md). -/
def dictionaryDigest : Nat := objKey (0x1001) (2)
/-- OBJECT_COUNT, 0x1001.03 (R94, 03_object_dictionary.md). -/
def objectCount : Nat := objKey (0x1001) (3)
/-- RESET_CAUSE, 0x1100.01 (R118, 04_startup_and_ledger.md). -/
def resetCause : Nat := objKey (0x1100) (1)
/-- BOOT_EPOCH, 0x1100.02 (R118, 04_startup_and_ledger.md). -/
def bootEpoch : Nat := objKey (0x1100) (2)
/-- LIFETIME_SECONDS, 0x1100.03 (R118, 04_startup_and_ledger.md). -/
def lifetimeSeconds : Nat := objKey (0x1100) (3)
/-- ACTIVE_IMAGE, 0x1100.04 (R118, 04_startup_and_ledger.md). -/
def activeImage : Nat := objKey (0x1100) (4)
/-- RUNNING_RELEASE, 0x1100.05 (R118, 04_startup_and_ledger.md). -/
def runningRelease : Nat := objKey (0x1100) (5)
/-- LAST_SHUTDOWN, 0x1100.06 (R118, 04_startup_and_ledger.md). -/
def lastShutdown : Nat := objKey (0x1100) (6)
/-- ASSAY_WHEN, 0x1100.07 (R118, 04_startup_and_ledger.md). -/
def assayWhen : Nat := objKey (0x1100) (7)
/-- DURABLE_BEFORE_FILL, 0x1100.08 (R118, 04_startup_and_ledger.md). -/
def durableBeforeFill : Nat := objKey (0x1100) (8)
/-- SHUTDOWN, 0x1100.09 (R118, 04_startup_and_ledger.md). -/
def shutdown : Nat := objKey (0x1100) (9)
/-- SHUTDOWN_STATE, 0x1100.0A (R118, 04_startup_and_ledger.md). -/
def shutdownState : Nat := objKey (0x1100) (10)
/-- SHUTDOWN_DRAIN, 0x1100.0B (R118, 04_startup_and_ledger.md). -/
def shutdownDrain : Nat := objKey (0x1100) (11)
/-- DEVICE_STATE, 0x1100.0C (R118, 04_startup_and_ledger.md). -/
def deviceState : Nat := objKey (0x1100) (12)
/-- FIRMWARE_LOAD, 0x1100.0D (R118, 04_startup_and_ledger.md). -/
def firmwareLoad : Nat := objKey (0x1100) (13)
/-- RUNNING_IMAGE, 0x1100.0E (R118, 04_startup_and_ledger.md). -/
def runningImage : Nat := objKey (0x1100) (14)
/-- LEDGER_SEQUENCE, 0x1110.01 (R118, 04_startup_and_ledger.md). -/
def ledgerSequence : Nat := objKey (0x1110) (1)
/-- LEDGER_BANK, 0x1110.02 (R118, 04_startup_and_ledger.md). -/
def ledgerBank : Nat := objKey (0x1110) (2)
/-- LEDGER_SLOT, 0x1110.03 (R118, 04_startup_and_ledger.md). -/
def ledgerSlot : Nat := objKey (0x1110) (3)
/-- COMMITS, 0x1110.04 (R118, 04_startup_and_ledger.md). -/
def commits : Nat := objKey (0x1110) (4)
/-- COMMIT_FAILURES, 0x1110.05 (R118, 04_startup_and_ledger.md). -/
def commitFailures : Nat := objKey (0x1110) (5)
/-- COMMIT_NOW, 0x1110.06 (R118, 04_startup_and_ledger.md). -/
def commitNow : Nat := objKey (0x1110) (6)
/-- POWER_CYCLES, 0x1110.07 (R118, 04_startup_and_ledger.md). -/
def powerCycles : Nat := objKey (0x1110) (7)
/-- HOT_SECONDS, 0x1110.08 (R118, 04_startup_and_ledger.md). -/
def hotSeconds : Nat := objKey (0x1110) (8)
/-- RELEASED_A, 0x1120.01 (R118, 04_startup_and_ledger.md). -/
def releasedA : Nat := objKey (0x1120) (1)
/-- RELEASED_B, 0x1120.02 (R118, 04_startup_and_ledger.md). -/
def releasedB : Nat := objKey (0x1120) (2)
/-- DURABLE_ACCEPTED, 0x1120.03 (R118, 04_startup_and_ledger.md). -/
def durableAccepted : Nat := objKey (0x1120) (3)
/-- BASIN_SLOTS, 0x1120.04 (R118, 04_startup_and_ledger.md). -/
def basinSlots : Nat := objKey (0x1120) (4)
/-- STATE, 0x1180.01 (R64, 03_object_dictionary.md). -/
def opState (o : Nat) : Nat := objKey (0x1180 + o) (1)
/-- PERCENT, 0x1180.02 (R64, 03_object_dictionary.md). -/
def opPercent (o : Nat) : Nat := objKey (0x1180 + o) (2)
/-- POSITION, 0x1180.03 (R64, 03_object_dictionary.md). -/
def opPosition (o : Nat) : Nat := objKey (0x1180 + o) (3)
/-- POSITION_END, 0x1180.04 (R64, 03_object_dictionary.md). -/
def opPositionEnd (o : Nat) : Nat := objKey (0x1180 + o) (4)
/-- LAST_STATUS, 0x1180.05 (R64, 03_object_dictionary.md). -/
def opLastStatus (o : Nat) : Nat := objKey (0x1180 + o) (5)
/-- START_TICK, 0x1180.06 (R64, 03_object_dictionary.md). -/
def opStartTick (o : Nat) : Nat := objKey (0x1180 + o) (6)
/-- ABORT, 0x1180.07 (R64, 03_object_dictionary.md). -/
def opAbort (o : Nat) : Nat := objKey (0x1180 + o) (7)
/-- POWER_STATE, 0x1200.01 (R495, 20_power_states.md). -/
def powerState : Nat := objKey (0x1200) (1)
/-- POWER_REQUEST, 0x1200.02 (R495, 20_power_states.md). -/
def powerRequest : Nat := objKey (0x1200) (2)
/-- DRAIN_LIMIT, 0x1200.03 (R495, 20_power_states.md). -/
def drainLimit : Nat := objKey (0x1200) (3)
/-- IN_PROGRESS, 0x1200.04 (R495, 20_power_states.md). -/
def powerInProgress : Nat := objKey (0x1200) (4)
/-- PHASE, 0x1200.05 (R495, 20_power_states.md). -/
def powerPhase : Nat := objKey (0x1200) (5)
/-- PENDING, 0x1200.06 (R495, 20_power_states.md). -/
def powerPending : Nat := objKey (0x1200) (6)
/-- REQUESTS_DONE, 0x1200.07 (R495, 20_power_states.md). -/
def requestsDone : Nat := objKey (0x1200) (7)
/-- LAST_REFUSER, 0x1200.08 (R495, 20_power_states.md). -/
def lastRefuser : Nat := objKey (0x1200) (8)
/-- WAKE_ENABLE, 0x1200.09 (R495, 20_power_states.md). -/
def wakeEnable : Nat := objKey (0x1200) (9)
/-- WAKE_CAUSE, 0x1200.0A (R495, 20_power_states.md). -/
def wakeCause : Nat := objKey (0x1200) (10)
/-- WAKE_LEVEL, 0x1200.0B (R495, 20_power_states.md). -/
def wakeLevel : Nat := objKey (0x1200) (11)
/-- DORMANT_ENTRIES, 0x1200.0C (R495, 20_power_states.md). -/
def dormantEntries : Nat := objKey (0x1200) (12)
/-- WAKE_PEER, 0x1200.0D (R495, 20_power_states.md). -/
def wakePeer : Nat := objKey (0x1200) (13)
/-- DOMAIN_STATE, 0x1210.01 (R495, 20_power_states.md). -/
def domainState (n : Nat) : Nat := objKey (0x1210) (1 + n)
/-- DOMAIN_TARGET, 0x1211.01 (R495, 20_power_states.md). -/
def domainTarget (n : Nat) : Nat := objKey (0x1211) (1 + n)
/-- REFUSED, 0x1220.01 (R495, 20_power_states.md). -/
def refused (n : Nat) : Nat := objKey (0x1220) (1 + n)
/-- SUPERSEDED, 0x1220.07 (R495, 20_power_states.md). -/
def powerSuperseded : Nat := objKey (0x1220) (7)
/-- ABORTED_TRANSFERS, 0x1220.08 (R495, 20_power_states.md). -/
def abortedTransfers : Nat := objKey (0x1220) (8)
/-- LOG_OLDEST_SEQ, 0x1300.01 (R72, 03_object_dictionary.md). -/
def logOldestSeq : Nat := objKey (0x1300) (1)
/-- LOG_NEWEST_SEQ, 0x1300.02 (R72, 03_object_dictionary.md). -/
def logNewestSeq : Nat := objKey (0x1300) (2)
/-- LOG_READ_SEQ, 0x1300.03 (R72, 03_object_dictionary.md). -/
def logReadSeq : Nat := objKey (0x1300) (3)
/-- LOG_ENTRY, 0x1300.04 (R72, 03_object_dictionary.md). -/
def logEntry : Nat := objKey (0x1300) (4)
/-- LOG_OVERWRITTEN, 0x1300.05 (R72, 03_object_dictionary.md). -/
def logOverwritten : Nat := objKey (0x1300) (5)
/-- PORT_MODE, 0x1400.01 (R84, 03_object_dictionary.md). -/
def portMode : Nat := objKey (0x1400) (1)
/-- LINK_UP, 0x1400.02 (R84, 03_object_dictionary.md). -/
def linkUp : Nat := objKey (0x1400) (2)
/-- IPV6_ADDRESS, 0x1400.03 (R84, 03_object_dictionary.md). -/
def ipv6Address : Nat := objKey (0x1400) (3)
/-- IPV6_PREFIX, 0x1400.04 (R84, 03_object_dictionary.md). -/
def ipv6Prefix : Nat := objKey (0x1400) (4)
/-- IPV4_ADDRESS, 0x1400.05 (R84, 03_object_dictionary.md). -/
def ipv4Address : Nat := objKey (0x1400) (5)
/-- IPV4_PREFIX, 0x1400.06 (R84, 03_object_dictionary.md). -/
def ipv4Prefix : Nat := objKey (0x1400) (6)
/-- SESSIONS_OPEN, 0x1410.01 (R84, 03_object_dictionary.md). -/
def sessionsOpen : Nat := objKey (0x1410) (1)
/-- IDLE_TIMEOUT, 0x1410.02 (R84, 03_object_dictionary.md). -/
def idleTimeout : Nat := objKey (0x1410) (2)
/-- AUTH_FAILURES, 0x1410.03 (R84, 03_object_dictionary.md). -/
def authFailures : Nat := objKey (0x1410) (3)
/-- REPLAYED, 0x1410.04 (R84, 03_object_dictionary.md). -/
def replayed : Nat := objKey (0x1410) (4)
/-- HOST_PORT_LEVEL, 0x1410.05 (R84, 03_object_dictionary.md). -/
def hostPortLevel : Nat := objKey (0x1410) (5)
/-- CREDENTIALS, 0x1410.06 (R84, 03_object_dictionary.md). -/
def credentials : Nat := objKey (0x1410) (6)
/-- CREDENTIAL, 0x1410.07 (R84, 03_object_dictionary.md). -/
def credential : Nat := objKey (0x1410) (7)
/-- CREDENTIAL_ERASE, 0x1410.08 (R84, 03_object_dictionary.md). -/
def credentialErase : Nat := objKey (0x1410) (8)
/-- ASSAY_OUTCOME, 0x1500.01 (R478, 19_assay_integrity_stockpile.md). -/
def assayOutcome : Nat := objKey (0x1500) (1)
/-- ASSAY_FAILED, 0x1500.02 (R478, 19_assay_integrity_stockpile.md). -/
def assayFailed : Nat := objKey (0x1500) (2)
/-- ASSAY_FIRST, 0x1500.03 (R478, 19_assay_integrity_stockpile.md). -/
def assayFirst : Nat := objKey (0x1500) (3)
/-- ASSAY_RUN, 0x1500.04 (R478, 19_assay_integrity_stockpile.md). -/
def assayRun : Nat := objKey (0x1500) (4)
/-- ASSAY_QUERY, 0x1500.05 (R478, 19_assay_integrity_stockpile.md). -/
def assayQuery : Nat := objKey (0x1500) (5)
/-- ASSAY_UNIT_RESULT, 0x1500.06 (R478, 19_assay_integrity_stockpile.md). -/
def assayUnitResult : Nat := objKey (0x1500) (6)
/-- ASSAY_PLL_ERROR, 0x1500.07 (R478, 19_assay_integrity_stockpile.md). -/
def assayPllError : Nat := objKey (0x1500) (7)
/-- ASSAY_VCORE, 0x1500.08 (R478, 19_assay_integrity_stockpile.md). -/
def assayVcore : Nat := objKey (0x1500) (8)
/-- LAP_TICKS, 0x1510.01 (R478, 19_assay_integrity_stockpile.md). -/
def lapTicks (m : Nat) : Nat := objKey (0x1510 + m) (1)
/-- LAP_MAX, 0x1510.02 (R478, 19_assay_integrity_stockpile.md). -/
def lapMax (m : Nat) : Nat := objKey (0x1510 + m) (2)
/-- CORRECTIONS, 0x1510.03 (R478, 19_assay_integrity_stockpile.md). -/
def corrections (m : Nat) : Nat := objKey (0x1510 + m) (3)
/-- UNCORRECTABLE, 0x1510.04 (R478, 19_assay_integrity_stockpile.md). -/
def uncorrectable (m : Nat) : Nat := objKey (0x1510 + m) (4)
/-- REPEAT_CORRECTORS, 0x1510.05 (R478, 19_assay_integrity_stockpile.md). -/
def repeatCorrectors (m : Nat) : Nat := objKey (0x1510 + m) (5)
/-- ROWS_REPAIRED, 0x1510.06 (R478, 19_assay_integrity_stockpile.md). -/
def rowsRepaired (m : Nat) : Nat := objKey (0x1510 + m) (6)
/-- SPARE_ROWS_FREE, 0x1510.07 (R478, 19_assay_integrity_stockpile.md). -/
def spareRowsFree (m : Nat) : Nat := objKey (0x1510 + m) (7)
/-- TRACK_OVERFLOWS, 0x1510.08 (R478, 19_assay_integrity_stockpile.md). -/
def trackOverflows (m : Nat) : Nat := objKey (0x1510 + m) (8)
/-- REPEAT_COUNT, 0x1540.01 (R478, 19_assay_integrity_stockpile.md). -/
def repeatCount : Nat := objKey (0x1540) (1)
/-- REPEAT_LAPS, 0x1540.02 (R478, 19_assay_integrity_stockpile.md). -/
def repeatLaps : Nat := objKey (0x1540) (2)
/-- LISTED, 0x1540.03 (R478, 19_assay_integrity_stockpile.md). -/
def listed : Nat := objKey (0x1540) (3)
/-- LIST_OVERFLOW, 0x1540.04 (R478, 19_assay_integrity_stockpile.md). -/
def listOverflow : Nat := objKey (0x1540) (4)
/-- REPEAT_LIST, 0x1541.01 (R478, 19_assay_integrity_stockpile.md). -/
def repeatList (n : Nat) : Nat := objKey (0x1541) (1 + n)
/-- DECODER_SPARES, 0x1550.01 (R478, 19_assay_integrity_stockpile.md). -/
def decoderSpares : Nat := objKey (0x1550) (1)
/-- CIPHER_SPARES, 0x1550.02 (R478, 19_assay_integrity_stockpile.md). -/
def cipherSpares : Nat := objKey (0x1550) (2)
/-- ENGINE_SPARES, 0x1550.03 (R478, 19_assay_integrity_stockpile.md). -/
def engineSpares : Nat := objKey (0x1550) (3)
/-- SLICE_SPARES, 0x1550.04 (R478, 19_assay_integrity_stockpile.md). -/
def sliceSpares : Nat := objKey (0x1550) (4)
/-- REPAIR_ROWS_FREE, 0x1550.05 (R478, 19_assay_integrity_stockpile.md). -/
def repairRowsFree : Nat := objKey (0x1550) (5)
/-- EXHAUSTED, 0x1550.06 (R478, 19_assay_integrity_stockpile.md). -/
def exhausted : Nat := objKey (0x1550) (6)
/-- SWAP_UNIT, 0x1550.07 (R478, 19_assay_integrity_stockpile.md). -/
def swapUnit : Nat := objKey (0x1550) (7)
/-- CIPHER_PAUSED_GROUPS, 0x1550.08 (R478, 19_assay_integrity_stockpile.md). -/
def cipherPausedGroups : Nat := objKey (0x1550) (8)
/-- SWAPS, 0x1550.09 (R478, 19_assay_integrity_stockpile.md). -/
def swaps : Nat := objKey (0x1550) (9)
/-- MODE_REQUEST, 0x1600.01 (R448, 18_supervisory_converter.md). -/
def modeRequest : Nat := objKey (0x1600) (1)
/-- MODE_IN_FORCE, 0x1600.02 (R448, 18_supervisory_converter.md). -/
def modeInForce : Nat := objKey (0x1600) (2)
/-- INJECT, 0x1600.03 (R448, 18_supervisory_converter.md). -/
def inject : Nat := objKey (0x1600) (3)
/-- CONVERSIONS, 0x1600.04 (R448, 18_supervisory_converter.md). -/
def conversions : Nat := objKey (0x1600) (4)
/-- QUEUE_FILL, 0x1600.05 (R448, 18_supervisory_converter.md). -/
def queueFill : Nat := objKey (0x1600) (5)
/-- QUEUE_OVERWRITTEN, 0x1600.06 (R448, 18_supervisory_converter.md). -/
def queueOverwritten : Nat := objKey (0x1600) (6)
/-- RING_MIRROR, 0x1600.07 (R448, 18_supervisory_converter.md). -/
def ringMirror : Nat := objKey (0x1600) (7)
/-- SENTINEL_VALUE, 0x1601.01 (R448, 18_supervisory_converter.md). -/
def sentinelValue (n : Nat) : Nat := objKey (0x1601) (1 + n)
/-- SENTINEL_OVERRUN, 0x1601.09 (R448, 18_supervisory_converter.md). -/
def sentinelOverrun : Nat := objKey (0x1601) (9)
/-- SENTINEL_OVERRUNS, 0x1601.0A (R448, 18_supervisory_converter.md). -/
def sentinelOverruns : Nat := objKey (0x1601) (10)
/-- SEQ_ENTRY, 0x1602.01 (R448, 18_supervisory_converter.md). -/
def seqEntry (n : Nat) : Nat := objKey (0x1602) (1 + n)
/-- LATEST, 0x1603.01 (R448, 18_supervisory_converter.md). -/
def latest (n : Nat) : Nat := objKey (0x1603) (1 + n)
/-- TEMPERATURE, 0x1604.01 (R448, 18_supervisory_converter.md). -/
def temperature (n : Nat) : Nat := objKey (0x1604) (1 + n)
/-- INPUT_CHANNEL, 0x1620.01 (R448, 18_supervisory_converter.md). -/
def inputChannel (f : Nat) : Nat := objKey (0x1620 + f) (1)
/-- DECIMATION, 0x1620.02 (R448, 18_supervisory_converter.md). -/
def decimation (f : Nat) : Nat := objKey (0x1620 + f) (2)
/-- LENGTH_A, 0x1620.03 (R448, 18_supervisory_converter.md). -/
def lengthA (f : Nat) : Nat := objKey (0x1620 + f) (3)
/-- LENGTH_B, 0x1620.04 (R448, 18_supervisory_converter.md). -/
def lengthB (f : Nat) : Nat := objKey (0x1620 + f) (4)
/-- ACTIVE_BANK, 0x1620.05 (R448, 18_supervisory_converter.md). -/
def filterActiveBank (f : Nat) : Nat := objKey (0x1620 + f) (5)
/-- BANK_SWAP, 0x1620.06 (R448, 18_supervisory_converter.md). -/
def bankSwap (f : Nat) : Nat := objKey (0x1620 + f) (6)
/-- PEAK_WINDOW, 0x1620.07 (R448, 18_supervisory_converter.md). -/
def peakWindow (f : Nat) : Nat := objKey (0x1620 + f) (7)
/-- ENV_ATTACK, 0x1620.08 (R448, 18_supervisory_converter.md). -/
def envAttack (f : Nat) : Nat := objKey (0x1620 + f) (8)
/-- ENV_DECAY, 0x1620.09 (R448, 18_supervisory_converter.md). -/
def envDecay (f : Nat) : Nat := objKey (0x1620 + f) (9)
/-- OUTPUT, 0x1640.01 (R448, 18_supervisory_converter.md). -/
def filterOutput (f : Nat) : Nat := objKey (0x1640 + f) (1)
/-- PEAK_MAX, 0x1640.02 (R448, 18_supervisory_converter.md). -/
def peakMax (f : Nat) : Nat := objKey (0x1640 + f) (2)
/-- PEAK_MIN, 0x1640.03 (R448, 18_supervisory_converter.md). -/
def peakMin (f : Nat) : Nat := objKey (0x1640 + f) (3)
/-- RMS_LAST, 0x1640.04 (R448, 18_supervisory_converter.md). -/
def rmsLast (f : Nat) : Nat := objKey (0x1640 + f) (4)
/-- ENVELOPE, 0x1640.05 (R448, 18_supervisory_converter.md). -/
def envelope (f : Nat) : Nat := objKey (0x1640 + f) (5)
/-- ACC_COUNT, 0x1640.06 (R448, 18_supervisory_converter.md). -/
def accCount (f : Nat) : Nat := objKey (0x1640 + f) (6)
/-- ACC_SUM, 0x1640.07 (R448, 18_supervisory_converter.md). -/
def accSum (f : Nat) : Nat := objKey (0x1640 + f) (7)
/-- ACC_SUMSQ, 0x1640.08 (R448, 18_supervisory_converter.md). -/
def accSumsq (f : Nat) : Nat := objKey (0x1640 + f) (8)
/-- SETTLING_OUTPUTS, 0x1640.09 (R448, 18_supervisory_converter.md). -/
def settlingOutputs (f : Nat) : Nat := objKey (0x1640 + f) (9)
/-- SATURATIONS, 0x1640.0A (R448, 18_supervisory_converter.md). -/
def saturations (f : Nat) : Nat := objKey (0x1640 + f) (10)
/-- COEFF, 0x1660.01 (R448, 18_supervisory_converter.md). -/
def filterCoeff (f n : Nat) : Nat := objKey (0x1660 + f) (1 + n)
/-- BIAS_MODE, 0x1680.01 (R448, 18_supervisory_converter.md). -/
def biasMode (r : Nat) : Nat := objKey (0x1680 + r) (1)
/-- BIAS_CODE, 0x1680.02 (R448, 18_supervisory_converter.md). -/
def biasCode (r n : Nat) : Nat := objKey (0x1680 + r) (2 + n)
/-- FAULT_CODE, 0x1700.01 (R522, 21_package_and_board.md). -/
def faultCode : Nat := objKey (0x1700) (1)
/-- ALARM_LATCH, 0x1700.02 (R522, 21_package_and_board.md). -/
def alarmLatch : Nat := objKey (0x1700) (2)
/-- ALARM_CLEAR, 0x1700.03 (R522, 21_package_and_board.md). -/
def alarmClear : Nat := objKey (0x1700) (3)
/-- THERMAL_TRIP_LEVEL, 0x1700.04 (R522, 21_package_and_board.md). -/
def thermalTripLevel : Nat := objKey (0x1700) (4)
/-- THERMAL_STATE, 0x1700.05 (R522, 21_package_and_board.md). -/
def thermalState : Nat := objKey (0x1700) (5)
/-- THERMAL_TRIPS, 0x1700.06 (R522, 21_package_and_board.md). -/
def thermalTrips : Nat := objKey (0x1700) (6)
/-- AVS_TARGET, 0x1700.07 (R522, 21_package_and_board.md). DESIGN CHOICE: log entry 50. -/
def avsTarget : Nat := objKey (0x1700) (7)
/-- AVS_STATE, 0x1700.08 (R522, 21_package_and_board.md). -/
def avsState : Nat := objKey (0x1700) (8)
/-- GC_INVERT, 0x1700.09 (R522, 21_package_and_board.md). -/
def gcInvert : Nat := objKey (0x1700) (9)
/-- GPIO_CONFIG, 0x1710.01 (R522, 21_package_and_board.md). -/
def gpioConfig (n : Nat) : Nat := objKey (0x1710) (1 + n)
/-- GPIO_IN, 0x1710.11 (R522, 21_package_and_board.md). -/
def gpioIn : Nat := objKey (0x1710) (17)
/-- TWI_RATE, 0x1720.01 (R522, 21_package_and_board.md). -/
def twiRate (r : Nat) : Nat := objKey (0x1720 + r) (1)
/-- TWI_XFER, 0x1720.02 (R522, 21_package_and_board.md). -/
def twiXfer (r : Nat) : Nat := objKey (0x1720 + r) (2)
/-- TWI_RESULT, 0x1720.03 (R522, 21_package_and_board.md). -/
def twiResult (r : Nat) : Nat := objKey (0x1720 + r) (3)
/-- REACH_ENABLE, 0x2000.01 (R24, 01_organisation.md). -/
def reachEnable (r : Nat) : Nat := objKey (0x2000 + 0x200 * r) (1)
/-- REACH_STATE, 0x2000.02 (R24, 01_organisation.md). -/
def reachState (r : Nat) : Nat := objKey (0x2000 + 0x200 * r) (2)
/-- HELD_BY, 0x2000.03 (R24, 01_organisation.md). -/
def heldBy (r : Nat) : Nat := objKey (0x2000 + 0x200 * r) (3)
/-- LINK_STATE, 0x201C.01 (R23, 01_organisation.md). -/
def linkState (r : Nat) : Nat := objKey (0x201C + 0x200 * r) (1)
/-- CORRECTED_FLITS, 0x201C.02 (R23, 01_organisation.md). -/
def correctedFlits (r : Nat) : Nat := objKey (0x201C + 0x200 * r) (2)
/-- UNCORRECTABLE_RX, 0x201C.03 (R23, 01_organisation.md). -/
def uncorrectableRx (r : Nat) : Nat := objKey (0x201C + 0x200 * r) (3)
/-- UNCORRECTABLE_TX, 0x201C.04 (R23, 01_organisation.md). -/
def uncorrectableTx (r : Nat) : Nat := objKey (0x201C + 0x200 * r) (4)
/-- DEGRADE_THRESHOLD, 0x201C.05 (R23, 01_organisation.md). -/
def degradeThreshold (r : Nat) : Nat := objKey (0x201C + 0x200 * r) (5)
/-- DEGRADE_TICKS, 0x201C.06 (R23, 01_organisation.md). -/
def degradeTicks (r : Nat) : Nat := objKey (0x201C + 0x200 * r) (6)
/-- AGC_STATE, 0x2020.01 (R127, 05_line_converters.md). -/
def agcState (r : Nat) : Nat := objKey (0x2020 + 0x200 * r) (1)
/-- AGC_TARGET, 0x2020.02 (R127, 05_line_converters.md). -/
def agcTarget (r : Nat) : Nat := objKey (0x2020 + 0x200 * r) (2)
/-- AGC_REARM, 0x2020.03 (R127, 05_line_converters.md). -/
def agcRearm (r : Nat) : Nat := objKey (0x2020 + 0x200 * r) (3)
/-- GAIN_CODE, 0x2020.04 (R127, 05_line_converters.md). -/
def gainCode (r n : Nat) : Nat := objKey (0x2020 + 0x200 * r) (4 + n)
/-- DIGITAL_GAIN, 0x2020.08 (R127, 05_line_converters.md). -/
def digitalGain (r n : Nat) : Nat := objKey (0x2020 + 0x200 * r) (8 + n)
/-- AGC_AT_LIMIT, 0x2020.0C (R127, 05_line_converters.md). -/
def agcAtLimit (r : Nat) : Nat := objKey (0x2020 + 0x200 * r) (12)
/-- FREEZES, 0x2020.0D (R127, 05_line_converters.md). -/
def freezes (r : Nat) : Nat := objKey (0x2020 + 0x200 * r) (13)
/-- REARMS, 0x2020.0E (R127, 05_line_converters.md). -/
def rearms (r : Nat) : Nat := objKey (0x2020 + 0x200 * r) (14)
/-- CAL_TEMP_THRESHOLD, 0x2021.01 (R149, 05_line_converters.md). -/
def calTempThreshold (r : Nat) : Nat := objKey (0x2021 + 0x200 * r) (1)
/-- CAL_WINDOW, 0x2021.02 (R149, 05_line_converters.md). -/
def calWindow (r : Nat) : Nat := objKey (0x2021 + 0x200 * r) (2)
/-- CAL_START, 0x2021.03 (R149, 05_line_converters.md). -/
def calStart (r : Nat) : Nat := objKey (0x2021 + 0x200 * r) (3)
/-- CAL_AUTO, 0x2021.04 (R149, 05_line_converters.md). -/
def calAuto (r : Nat) : Nat := objKey (0x2021 + 0x200 * r) (4)
/-- CAL_SEED_WAIT, 0x2021.05 (R149, 05_line_converters.md). -/
def calSeedWait (r : Nat) : Nat := objKey (0x2021 + 0x200 * r) (5)
/-- CAL_RETIRE_AFTER, 0x2021.06 (R149, 05_line_converters.md). -/
def calRetireAfter (r : Nat) : Nat := objKey (0x2021 + 0x200 * r) (6)
/-- CAL_RESULT, 0x2021.07 (R149, 05_line_converters.md). -/
def calResult (r : Nat) : Nat := objKey (0x2021 + 0x200 * r) (7)
/-- CAL_TEMP, 0x2021.08 (R149, 05_line_converters.md). -/
def calTemp (r n : Nat) : Nat := objKey (0x2021 + 0x200 * r) (8 + n)
/-- ROUNDS, 0x2021.0C (R149, 05_line_converters.md). -/
def rounds (r : Nat) : Nat := objKey (0x2021 + 0x200 * r) (12)
/-- ROUNDS_FAILED, 0x2021.0D (R149, 05_line_converters.md). -/
def roundsFailed (r : Nat) : Nat := objKey (0x2021 + 0x200 * r) (13)
/-- SPARES_FREE, 0x2021.0E (R149, 05_line_converters.md). -/
def sparesFree (r : Nat) : Nat := objKey (0x2021 + 0x200 * r) (14)
/-- COEFF, 0x2028.01 (R149, 05_line_converters.md). -/
def sliceCoeff (r k n : Nat) : Nat := objKey (0x2028 + 0x200 * r + k) (1 + n)
/-- SLICE_AT_POSITION, 0x2030.01 (R123, 05_line_converters.md). -/
def sliceAtPosition (r k n : Nat) : Nat := objKey (0x2030 + 0x200 * r + k) (1 + n)
/-- RAMP_TICKS, 0x2040.01 (R136, 05_line_converters.md). -/
def rampTicks (r : Nat) : Nat := objKey (0x2040 + 0x200 * r) (1)
/-- TX_STATE, 0x2040.02 (R136, 05_line_converters.md). -/
def txState (r : Nat) : Nat := objKey (0x2040 + 0x200 * r) (2)
/-- RAMPING_LOW, 0x2040.03 (R136, 05_line_converters.md). -/
def rampingLow (r : Nat) : Nat := objKey (0x2040 + 0x200 * r) (3)
/-- TX_OFF_NOW, 0x2040.04 (R136, 05_line_converters.md). -/
def txOffNow (r : Nat) : Nat := objKey (0x2040 + 0x200 * r) (4)
/-- TX_OFF_RELEASE, 0x2040.05 (R136, 05_line_converters.md). -/
def txOffRelease (r : Nat) : Nat := objKey (0x2040 + 0x200 * r) (5)
/-- TX_OFF_SOURCE, 0x2040.06 (R136, 05_line_converters.md). -/
def txOffSource (r : Nat) : Nat := objKey (0x2040 + 0x200 * r) (6)
/-- RAMPING_HIGH, 0x2040.07 (R136, 05_line_converters.md). -/
def rampingHigh (r : Nat) : Nat := objKey (0x2040 + 0x200 * r) (7)
/-- EMERGENCY_OFFS, 0x2040.08 (R136, 05_line_converters.md). -/
def emergencyOffs (r : Nat) : Nat := objKey (0x2040 + 0x200 * r) (8)
/-- EQ_TRACKING, 0x2060.01 (R205, 07_equalisation_and_watch.md). -/
def eqTracking (r : Nat) : Nat := objKey (0x2060 + 0x200 * r) (1)
/-- EQ_AGILE, 0x2060.02 (R205, 07_equalisation_and_watch.md). -/
def eqAgile (r : Nat) : Nat := objKey (0x2060 + 0x200 * r) (2)
/-- SOP_RATE_PEAK, 0x2060.03 (R205, 07_equalisation_and_watch.md). -/
def sopRatePeak (r : Nat) : Nat := objKey (0x2060 + 0x200 * r) (3)
/-- DGD_MEAN, 0x2060.04 (R205, 07_equalisation_and_watch.md). -/
def dgdMean (r : Nat) : Nat := objKey (0x2060 + 0x200 * r) (4)
/-- PDL, 0x2060.05 (R205, 07_equalisation_and_watch.md). -/
def pdl (r : Nat) : Nat := objKey (0x2060 + 0x200 * r) (5)
/-- TRACK_LOW, 0x2060.06 (R205, 07_equalisation_and_watch.md). -/
def trackLow (r : Nat) : Nat := objKey (0x2060 + 0x200 * r) (6)
/-- TRACK_HIGH, 0x2060.07 (R205, 07_equalisation_and_watch.md). -/
def trackHigh (r : Nat) : Nat := objKey (0x2060 + 0x200 * r) (7)
/-- EQ_REACQUIRES, 0x2060.08 (R205, 07_equalisation_and_watch.md). -/
def eqReacquires (r : Nat) : Nat := objKey (0x2060 + 0x200 * r) (8)
/-- CYCLE_SLIPS, 0x2060.09 (R205, 07_equalisation_and_watch.md). -/
def cycleSlips (r : Nat) : Nat := objKey (0x2060 + 0x200 * r) (9)
/-- CR_PILOTS, 0x2060.0A (R205, 07_equalisation_and_watch.md). -/
def crPilots (r : Nat) : Nat := objKey (0x2060 + 0x200 * r) (10)
/-- EQ_MODE_CHANGES, 0x2060.0B (R205, 07_equalisation_and_watch.md). -/
def eqModeChanges (r : Nat) : Nat := objKey (0x2060 + 0x200 * r) (11)
/-- DGD, 0x2061.01 (R205, 07_equalisation_and_watch.md). -/
def dgd (r n : Nat) : Nat := objKey (0x2061 + 0x200 * r) (1 + n)
/-- SOP_RATE, 0x2062.01 (R205, 07_equalisation_and_watch.md). -/
def sopRate (r n : Nat) : Nat := objKey (0x2062 + 0x200 * r) (1 + n)
/-- FREQ_OFFSET, 0x2063.01 (R205, 07_equalisation_and_watch.md). -/
def scFreqOffset (r n : Nat) : Nat := objKey (0x2063 + 0x200 * r) (1 + n)
/-- ACTIVE_BANK, 0x2080.01 (R206, 07_equalisation_and_watch.md). -/
def cdActiveBank (r : Nat) : Nat := objKey (0x2080 + 0x200 * r) (1)
/-- BANK_A_CD, 0x2080.02 (R206, 07_equalisation_and_watch.md). -/
def bankACd (r : Nat) : Nat := objKey (0x2080 + 0x200 * r) (2)
/-- BANK_B_CD, 0x2080.03 (R206, 07_equalisation_and_watch.md). -/
def bankBCd (r : Nat) : Nat := objKey (0x2080 + 0x200 * r) (3)
/-- BANK_A_STATE, 0x2080.04 (R206, 07_equalisation_and_watch.md). -/
def bankAState (r : Nat) : Nat := objKey (0x2080 + 0x200 * r) (4)
/-- BANK_B_STATE, 0x2080.05 (R206, 07_equalisation_and_watch.md). -/
def bankBState (r : Nat) : Nat := objKey (0x2080 + 0x200 * r) (5)
/-- CD_SWAP, 0x2080.06 (R206, 07_equalisation_and_watch.md). -/
def cdSwap (r : Nat) : Nat := objKey (0x2080 + 0x200 * r) (6)
/-- RX_CARRIER, 0x2080.07 (R206, 07_equalisation_and_watch.md). -/
def rxCarrier (r : Nat) : Nat := objKey (0x2080 + 0x200 * r) (7)
/-- CD_MODE, 0x2080.08 (R206, 07_equalisation_and_watch.md). -/
def cdMode (r : Nat) : Nat := objKey (0x2080 + 0x200 * r) (8)
/-- CD_ESTIMATE, 0x2080.09 (R206, 07_equalisation_and_watch.md). -/
def cdEstimate (r : Nat) : Nat := objKey (0x2080 + 0x200 * r) (9)
/-- CD_EST_QUALITY, 0x2080.0A (R206, 07_equalisation_and_watch.md). -/
def cdEstQuality (r : Nat) : Nat := objKey (0x2080 + 0x200 * r) (10)
/-- RX_DSP_LATENCY, 0x2080.0B (R206, 07_equalisation_and_watch.md). -/
def rxDspLatency (r : Nat) : Nat := objKey (0x2080 + 0x200 * r) (11)
/-- CD_SWAPS, 0x2080.0C (R206, 07_equalisation_and_watch.md). -/
def cdSwaps (r : Nat) : Nat := objKey (0x2080 + 0x200 * r) (12)
/-- CD_TRACK_THRESHOLD, 0x2080.0D (R206, 07_equalisation_and_watch.md). -/
def cdTrackThreshold (r : Nat) : Nat := objKey (0x2080 + 0x200 * r) (13)
/-- CD_TRIM, 0x2080.0E (R206, 07_equalisation_and_watch.md). -/
def cdTrim (r : Nat) : Nat := objKey (0x2080 + 0x200 * r) (14)
/-- CD_IN_FORCE, 0x2080.0F (R206, 07_equalisation_and_watch.md). -/
def cdInForce (r : Nat) : Nat := objKey (0x2080 + 0x200 * r) (15)
/-- WATCH_STATE, 0x20A0.01 (R207, 07_equalisation_and_watch.md). -/
def watchState (r : Nat) : Nat := objKey (0x20A0 + 0x200 * r) (1)
/-- WATCH_SCORE, 0x20A0.02 (R207, 07_equalisation_and_watch.md). -/
def watchScore (r : Nat) : Nat := objKey (0x20A0 + 0x200 * r) (2)
/-- WATCH_PEAK, 0x20A0.03 (R207, 07_equalisation_and_watch.md). -/
def watchPeak (r : Nat) : Nat := objKey (0x20A0 + 0x200 * r) (3)
/-- WATCH_CLASS, 0x20A0.04 (R207, 07_equalisation_and_watch.md). -/
def watchClass (r : Nat) : Nat := objKey (0x20A0 + 0x200 * r) (4)
/-- W_SOP, 0x20A0.05 (R207, 07_equalisation_and_watch.md). -/
def wSop (r : Nat) : Nat := objKey (0x20A0 + 0x200 * r) (5)
/-- W_PHASE, 0x20A0.06 (R207, 07_equalisation_and_watch.md). -/
def wPhase (r : Nat) : Nat := objKey (0x20A0 + 0x200 * r) (6)
/-- W_TAP, 0x20A0.07 (R207, 07_equalisation_and_watch.md). -/
def wTap (r : Nat) : Nat := objKey (0x20A0 + 0x200 * r) (7)
/-- NOTICE_THRESHOLD, 0x20A0.08 (R207, 07_equalisation_and_watch.md). -/
def noticeThreshold (r : Nat) : Nat := objKey (0x20A0 + 0x200 * r) (8)
/-- ARM_THRESHOLD, 0x20A0.09 (R207, 07_equalisation_and_watch.md). -/
def armThreshold (r : Nat) : Nat := objKey (0x20A0 + 0x200 * r) (9)
/-- ARM_TICKS, 0x20A0.0A (R207, 07_equalisation_and_watch.md). -/
def armTicks (r : Nat) : Nat := objKey (0x20A0 + 0x200 * r) (10)
/-- CLEAR_TICKS, 0x20A0.0B (R207, 07_equalisation_and_watch.md). -/
def clearTicks (r : Nat) : Nat := objKey (0x20A0 + 0x200 * r) (11)
/-- ARM_CLASSES, 0x20A0.0C (R207, 07_equalisation_and_watch.md). -/
def armClasses (r : Nat) : Nat := objKey (0x20A0 + 0x200 * r) (12)
/-- PRE_ARM_ENABLE, 0x20A0.0D (R207, 07_equalisation_and_watch.md). -/
def preArmEnable (r : Nat) : Nat := objKey (0x20A0 + 0x200 * r) (13)
/-- BASELINE_TICKS, 0x20A0.0E (R207, 07_equalisation_and_watch.md). -/
def baselineTicks (r : Nat) : Nat := objKey (0x20A0 + 0x200 * r) (14)
/-- SUPPRESS_TICKS, 0x20A0.0F (R207, 07_equalisation_and_watch.md). -/
def suppressTicks (r : Nat) : Nat := objKey (0x20A0 + 0x200 * r) (15)
/-- ARMS, 0x20A0.10 (R207, 07_equalisation_and_watch.md). -/
def arms (r : Nat) : Nat := objKey (0x20A0 + 0x200 * r) (16)
/-- BASELINE_SOP, 0x20A0.11 (R207, 07_equalisation_and_watch.md). -/
def baselineSop (r : Nat) : Nat := objKey (0x20A0 + 0x200 * r) (17)
/-- BASELINE_PHASE, 0x20A0.12 (R207, 07_equalisation_and_watch.md). -/
def baselinePhase (r : Nat) : Nat := objKey (0x20A0 + 0x200 * r) (18)
/-- LOADING_TX, 0x2100.01 (R180, 06_subcarriers_and_loading.md). -/
def loadingTx (r s : Nat) : Nat := objKey (0x2100 + 0x200 * r + s) (1)
/-- LOADING_RX, 0x2100.02 (R180, 06_subcarriers_and_loading.md). -/
def loadingRx (r s : Nat) : Nat := objKey (0x2100 + 0x200 * r + s) (2)
/-- PRE_EMPHASIS, 0x2100.03 (R180, 06_subcarriers_and_loading.md). -/
def preEmphasis (r s : Nat) : Nat := objKey (0x2100 + 0x200 * r + s) (3)
/-- SNR_AVG, 0x2100.04 (R180, 06_subcarriers_and_loading.md). -/
def snrAvg (r s : Nat) : Nat := objKey (0x2100 + 0x200 * r + s) (4)
/-- EVM, 0x2100.05 (R180, 06_subcarriers_and_loading.md). -/
def evm (r s : Nat) : Nat := objKey (0x2100 + 0x200 * r + s) (5)
/-- BER_EST, 0x2100.06 (R180, 06_subcarriers_and_loading.md). -/
def berEst (r s : Nat) : Nat := objKey (0x2100 + 0x200 * r + s) (6)
/-- FIXED_LOADING, 0x2100.07 (R180, 06_subcarriers_and_loading.md). -/
def fixedLoading (r s : Nat) : Nat := objKey (0x2100 + 0x200 * r + s) (7)
/-- HISTORY_PATH0, 0x2100.08 (R180, 06_subcarriers_and_loading.md). -/
def historyPath0 (r s : Nat) : Nat := objKey (0x2100 + 0x200 * r + s) (8)
/-- HISTORY_PATH1, 0x2100.09 (R180, 06_subcarriers_and_loading.md). -/
def historyPath1 (r s : Nat) : Nat := objKey (0x2100 + 0x200 * r + s) (9)
/-- MARGIN, 0x2100.0A (R180, 06_subcarriers_and_loading.md). -/
def margin (r s : Nat) : Nat := objKey (0x2100 + 0x200 * r + s) (10)
/-- GROUP_ENABLE, 0x2140.01 (R181, 06_subcarriers_and_loading.md). -/
def groupEnable (r g : Nat) : Nat := objKey (0x2140 + 0x200 * r + g) (1)
/-- LOADING_MAP_VERSION, 0x2140.02 (R181, 06_subcarriers_and_loading.md). -/
def loadingMapVersion (r g : Nat) : Nat := objKey (0x2140 + 0x200 * r + g) (2)
/-- FIRST_SUBCARRIER, 0x2140.03 (R181, 06_subcarriers_and_loading.md). -/
def firstSubcarrier (r g : Nat) : Nat := objKey (0x2140 + 0x200 * r + g) (3)
/-- SUBCARRIER_COUNT, 0x2140.04 (R181, 06_subcarriers_and_loading.md). -/
def subcarrierCount (r g : Nat) : Nat := objKey (0x2140 + 0x200 * r + g) (4)
/-- PEER_ID, 0x2140.05 (R181, 06_subcarriers_and_loading.md). -/
def peerId (r g : Nat) : Nat := objKey (0x2140 + 0x200 * r + g) (5)
/-- LDPC_RATE, 0x2140.06 (R181, 06_subcarriers_and_loading.md). -/
def ldpcRate (r g : Nat) : Nat := objKey (0x2140 + 0x200 * r + g) (6)
/-- OUTER_CODE, 0x2140.07 (R181, 06_subcarriers_and_loading.md). -/
def outerCode (r g : Nat) : Nat := objKey (0x2140 + 0x200 * r + g) (7)
/-- LOADING_MODE, 0x2140.08 (R181, 06_subcarriers_and_loading.md). -/
def loadingMode (r g : Nat) : Nat := objKey (0x2140 + 0x200 * r + g) (8)
/-- FIXED_APPLY, 0x2140.09 (R181, 06_subcarriers_and_loading.md). -/
def fixedApply (r g : Nat) : Nat := objKey (0x2140 + 0x200 * r + g) (9)
/-- LOADING_WINDOW, 0x2140.0A (R181, 06_subcarriers_and_loading.md). -/
def loadingWindow (r g : Nat) : Nat := objKey (0x2140 + 0x200 * r + g) (10)
/-- LOADING_MARGIN, 0x2140.0B (R181, 06_subcarriers_and_loading.md). -/
def loadingMargin (r g : Nat) : Nat := objKey (0x2140 + 0x200 * r + g) (11)
/-- LOADING_HYSTERESIS, 0x2140.0C (R181, 06_subcarriers_and_loading.md). -/
def loadingHysteresis (r g : Nat) : Nat := objKey (0x2140 + 0x200 * r + g) (12)
/-- SHORTFALL_MARGIN, 0x2140.0D (R181, 06_subcarriers_and_loading.md). -/
def shortfallMargin (r g : Nat) : Nat := objKey (0x2140 + 0x200 * r + g) (13)
/-- LOADING_MAX, 0x2140.0E (R181, 06_subcarriers_and_loading.md). -/
def loadingMax (r g : Nat) : Nat := objKey (0x2140 + 0x200 * r + g) (14)
/-- LOADING_LEAD, 0x2140.0F (R181, 06_subcarriers_and_loading.md). -/
def loadingLead (r g : Nat) : Nat := objKey (0x2140 + 0x200 * r + g) (15)
/-- RX_MAP_VERSION, 0x2140.10 (R181, 06_subcarriers_and_loading.md). -/
def rxMapVersion (r g : Nat) : Nat := objKey (0x2140 + 0x200 * r + g) (16)
/-- ANNOUNCED_VERSION, 0x2140.11 (R181, 06_subcarriers_and_loading.md). -/
def announcedVersion (r g : Nat) : Nat := objKey (0x2140 + 0x200 * r + g) (17)
/-- ANNOUNCED_TICK, 0x2140.12 (R181, 06_subcarriers_and_loading.md). -/
def announcedTick (r g : Nat) : Nat := objKey (0x2140 + 0x200 * r + g) (18)
/-- ACK_LATENCY, 0x2140.13 (R181, 06_subcarriers_and_loading.md). -/
def ackLatency (r g : Nat) : Nat := objKey (0x2140 + 0x200 * r + g) (19)
/-- HISTORY_VALID, 0x2140.14 (R181, 06_subcarriers_and_loading.md). -/
def historyValid (r g : Nat) : Nat := objKey (0x2140 + 0x200 * r + g) (20)
/-- GROUP_LQF, 0x2140.15 (R181, 06_subcarriers_and_loading.md). -/
def groupLqf (r g : Nat) : Nat := objKey (0x2140 + 0x200 * r + g) (21)
/-- MAP_SWITCHES, 0x2140.16 (R181, 06_subcarriers_and_loading.md). -/
def mapSwitches (r g : Nat) : Nat := objKey (0x2140 + 0x200 * r + g) (22)
/-- POSTPONEMENTS, 0x2140.17 (R181, 06_subcarriers_and_loading.md). -/
def postponements (r g : Nat) : Nat := objKey (0x2140 + 0x200 * r + g) (23)
/-- RESTARTS, 0x2140.18 (R181, 06_subcarriers_and_loading.md). -/
def restarts (r g : Nat) : Nat := objKey (0x2140 + 0x200 * r + g) (24)
/-- REACH_LQF, 0x2160.01 (R182, 06_subcarriers_and_loading.md). -/
def reachLqf (r : Nat) : Nat := objKey (0x2160 + 0x200 * r) (1)
/-- LQF_WORST_GROUP, 0x2160.02 (R182, 06_subcarriers_and_loading.md). -/
def lqfWorstGroup (r : Nat) : Nat := objKey (0x2160 + 0x200 * r) (2)
/-- CODED_BITS_TX, 0x2160.03 (R182, 06_subcarriers_and_loading.md). -/
def codedBitsTx (r : Nat) : Nat := objKey (0x2160 + 0x200 * r) (3)
/-- LOADING_UNKNOWN_FRAMES, 0x2160.04 (R182, 06_subcarriers_and_loading.md). -/
def loadingUnknownFrames (r : Nat) : Nat := objKey (0x2160 + 0x200 * r) (4)
/-- LOADING_MISMATCHES, 0x2160.05 (R182, 06_subcarriers_and_loading.md). -/
def loadingMismatches (r : Nat) : Nat := objKey (0x2160 + 0x200 * r) (5)
/-- CORES_IN_SERVICE, 0x2800.01 (R229, 08_coding_and_decoder_pool.md). -/
def poolCoresInService : Nat := objKey (0x2800) (1)
/-- CAPACITY, 0x2800.02 (R229, 08_coding_and_decoder_pool.md). -/
def poolCapacity : Nat := objKey (0x2800) (2)
/-- ITER_CAP, 0x2800.03 (R229, 08_coding_and_decoder_pool.md). -/
def iterCap : Nat := objKey (0x2800) (3)
/-- DEMAND, 0x2800.04 (R229, 08_coding_and_decoder_pool.md). -/
def poolDemand : Nat := objKey (0x2800) (4)
/-- FLOOR_UNITS, 0x2800.05 (R229, 08_coding_and_decoder_pool.md). -/
def floorUnits : Nat := objKey (0x2800) (5)
/-- UNITS_USED, 0x2800.06 (R229, 08_coding_and_decoder_pool.md). -/
def unitsUsed : Nat := objKey (0x2800) (6)
/-- SHORTFALL_TICKS, 0x2800.07 (R229, 08_coding_and_decoder_pool.md). -/
def poolShortfallTicks : Nat := objKey (0x2800) (7)
/-- BORROW_DENIED, 0x2800.08 (R229, 08_coding_and_decoder_pool.md). -/
def borrowDenied : Nat := objKey (0x2800) (8)
/-- DECODED, 0x2800.09 (R229, 08_coding_and_decoder_pool.md). -/
def decoded : Nat := objKey (0x2800) (9)
/-- FAILED, 0x2800.0A (R229, 08_coding_and_decoder_pool.md). -/
def failed : Nat := objKey (0x2800) (10)
/-- CORE_STATE, 0x2801.01 (R229, 08_coding_and_decoder_pool.md). -/
def decCoreState (n : Nat) : Nat := objKey (0x2801) (1 + n)
/-- GROUP_FLOOR, 0x2810.01 (R230, 08_coding_and_decoder_pool.md). -/
def groupFloor (r g : Nat) : Nat := objKey (0x2810 + 0x8 * r + g) (1)
/-- POOL_RANK, 0x2810.02 (R230, 08_coding_and_decoder_pool.md). -/
def poolRank (r g : Nat) : Nat := objKey (0x2810 + 0x8 * r + g) (2)
/-- RANK_IN_FORCE, 0x2810.03 (R230, 08_coding_and_decoder_pool.md). -/
def rankInForce (r g : Nat) : Nat := objKey (0x2810 + 0x8 * r + g) (3)
/-- DEMAND, 0x2810.04 (R230, 08_coding_and_decoder_pool.md). -/
def grpDemand (r g : Nat) : Nat := objKey (0x2810 + 0x8 * r + g) (4)
/-- FLOOR_GRANTED, 0x2810.05 (R230, 08_coding_and_decoder_pool.md). -/
def floorGranted (r g : Nat) : Nat := objKey (0x2810 + 0x8 * r + g) (5)
/-- DROPPED_LAST, 0x2810.06 (R230, 08_coding_and_decoder_pool.md). -/
def droppedLast (r g : Nat) : Nat := objKey (0x2810 + 0x8 * r + g) (6)
/-- ITER_MEAN, 0x2810.07 (R230, 08_coding_and_decoder_pool.md). -/
def iterMean (r g : Nat) : Nat := objKey (0x2810 + 0x8 * r + g) (7)
/-- SHORTFALL_TICKS, 0x2810.08 (R230, 08_coding_and_decoder_pool.md). -/
def grpShortfallTicks (r g : Nat) : Nat := objKey (0x2810 + 0x8 * r + g) (8)
/-- DECODED_CODEWORDS, 0x2810.09 (R230, 08_coding_and_decoder_pool.md). -/
def decodedCodewords (r g : Nat) : Nat := objKey (0x2810 + 0x8 * r + g) (9)
/-- FAILED_CODEWORDS, 0x2810.0A (R230, 08_coding_and_decoder_pool.md). -/
def failedCodewords (r g : Nat) : Nat := objKey (0x2810 + 0x8 * r + g) (10)
/-- DROPPED_CODEWORDS, 0x2810.0B (R230, 08_coding_and_decoder_pool.md). -/
def droppedCodewords (r g : Nat) : Nat := objKey (0x2810 + 0x8 * r + g) (11)
/-- RS_CORRECTED, 0x2810.0C (R230, 08_coding_and_decoder_pool.md). -/
def rsCorrected (r g : Nat) : Nat := objKey (0x2810 + 0x8 * r + g) (12)
/-- RS_FAILED, 0x2810.0D (R230, 08_coding_and_decoder_pool.md). -/
def rsFailed (r g : Nat) : Nat := objKey (0x2810 + 0x8 * r + g) (13)
/-- LOCAL_PEER_ID, 0x2900.01 (R252, 09_tick_frame_and_cells.md). -/
def localPeerId : Nat := objKey (0x2900) (1)
/-- LOF_TICKS, 0x2900.02 (R252, 09_tick_frame_and_cells.md). -/
def lofTicks : Nat := objKey (0x2900) (2)
/-- HEADER_LOF_FRAMES, 0x2900.03 (R252, 09_tick_frame_and_cells.md). -/
def headerLofFrames : Nat := objKey (0x2900) (3)
/-- TX_LATENCY, 0x2900.04 (R252, 09_tick_frame_and_cells.md). -/
def txLatency : Nat := objKey (0x2900) (4)
/-- RX_FRAME_STATE, 0x2910.01 (R252, 09_tick_frame_and_cells.md). -/
def rxFrameState (r g : Nat) : Nat := objKey (0x2910 + 0x8 * r + g) (1)
/-- TX_CELL_SLOTS, 0x2910.02 (R252, 09_tick_frame_and_cells.md). -/
def txCellSlots (r g : Nat) : Nat := objKey (0x2910 + 0x8 * r + g) (2)
/-- TX_CELLS_IDLE, 0x2910.03 (R252, 09_tick_frame_and_cells.md). -/
def txCellsIdle (r g : Nat) : Nat := objKey (0x2910 + 0x8 * r + g) (3)
/-- RX_PEER_TICK, 0x2910.04 (R252, 09_tick_frame_and_cells.md). -/
def rxPeerTick (r g : Nat) : Nat := objKey (0x2910 + 0x8 * r + g) (4)
/-- RX_PEER_ID, 0x2910.05 (R252, 09_tick_frame_and_cells.md). -/
def rxPeerId (r g : Nat) : Nat := objKey (0x2910 + 0x8 * r + g) (5)
/-- FRAMES_ACCEPTED, 0x2910.06 (R252, 09_tick_frame_and_cells.md). -/
def framesAccepted (r g : Nat) : Nat := objKey (0x2910 + 0x8 * r + g) (6)
/-- FRAMES_MISSED, 0x2910.07 (R252, 09_tick_frame_and_cells.md). -/
def framesMissed (r g : Nat) : Nat := objKey (0x2910 + 0x8 * r + g) (7)
/-- HEADER_REJECTS, 0x2910.08 (R252, 09_tick_frame_and_cells.md). -/
def headerRejects (r g : Nat) : Nat := objKey (0x2910 + 0x8 * r + g) (8)
/-- ID_MISMATCHES, 0x2910.09 (R252, 09_tick_frame_and_cells.md). -/
def idMismatches (r g : Nat) : Nat := objKey (0x2910 + 0x8 * r + g) (9)
/-- SEGMENT_FAILURES, 0x2910.0A (R252, 09_tick_frame_and_cells.md). -/
def segmentFailures (r g : Nat) : Nat := objKey (0x2910 + 0x8 * r + g) (10)
/-- DAMAGED_CELLS, 0x2910.0B (R252, 09_tick_frame_and_cells.md). -/
def damagedCells (r g : Nat) : Nat := objKey (0x2910 + 0x8 * r + g) (11)
/-- CLIENT_FRAMES_DISCARDED, 0x2910.0C (R252, 09_tick_frame_and_cells.md). -/
def clientFramesDiscarded (r g : Nat) : Nat := objKey (0x2910 + 0x8 * r + g) (12)
/-- LOF_EVENTS, 0x2910.0D (R252, 09_tick_frame_and_cells.md). -/
def lofEvents (r g : Nat) : Nat := objKey (0x2910 + 0x8 * r + g) (13)
/-- OH_OVERFLOW_MESSAGES, 0x2910.0E (R252, 09_tick_frame_and_cells.md). -/
def ohOverflowMessages (r g : Nat) : Nat := objKey (0x2910 + 0x8 * r + g) (14)
/-- OH_PARSE_ERRORS, 0x2910.0F (R252, 09_tick_frame_and_cells.md). -/
def ohParseErrors (r g : Nat) : Nat := objKey (0x2910 + 0x8 * r + g) (15)
/-- LANE_STATE, 0x3000.01 (R271, 10_berths.md). -/
def berthLaneState (b : Nat) : Nat := objKey (0x3000 + 0x10 * b) (1)
/-- PORT_STATE, 0x3000.02 (R271, 10_berths.md). -/
def berthPortState (b : Nat) : Nat := objKey (0x3000 + 0x10 * b) (2)
/-- SYNCE_INPUT, 0x3000.03 (R271, 10_berths.md). -/
def synceInput (b : Nat) : Nat := objKey (0x3000 + 0x10 * b) (3)
/-- SYNCE_SQUELCHED, 0x3000.04 (R271, 10_berths.md). -/
def synceSquelched (b : Nat) : Nat := objKey (0x3000 + 0x10 * b) (4)
/-- MAX_FRAME, 0x3001.01 (R271, 10_berths.md). -/
def maxFrame (b : Nat) : Nat := objKey (0x3001 + 0x10 * b) (1)
/-- OUTER_TPID, 0x3001.02 (R271, 10_berths.md). -/
def outerTpid (b : Nat) : Nat := objKey (0x3001 + 0x10 * b) (2)
/-- DEFAULT_PCP, 0x3001.03 (R271, 10_berths.md). -/
def defaultPcp (b : Nat) : Nat := objKey (0x3001 + 0x10 * b) (3)
/-- TRAP, 0x3001.04 (R271, 10_berths.md). -/
def frameTrap (b : Nat) : Nat := objKey (0x3001 + 0x10 * b) (4)
/-- PFC_RX_ENABLE, 0x3001.05 (R271, 10_berths.md). -/
def pfcRxEnable (b : Nat) : Nat := objKey (0x3001 + 0x10 * b) (5)
/-- PFC_TX_ENABLE, 0x3001.06 (R271, 10_berths.md). -/
def pfcTxEnable (b : Nat) : Nat := objKey (0x3001 + 0x10 * b) (6)
/-- PFC_QUANTA, 0x3001.07 (R271, 10_berths.md). -/
def pfcQuanta (b : Nat) : Nat := objKey (0x3001 + 0x10 * b) (7)
/-- PFC_GRACE, 0x3001.08 (R271, 10_berths.md). -/
def pfcGrace (b : Nat) : Nat := objKey (0x3001 + 0x10 * b) (8)
/-- TS_INGRESS_ADJUST, 0x3001.09 (R271, 10_berths.md). -/
def tsIngressAdjust (b : Nat) : Nat := objKey (0x3001 + 0x10 * b) (9)
/-- TS_EGRESS_ADJUST, 0x3001.0A (R271, 10_berths.md). -/
def tsEgressAdjust (b : Nat) : Nat := objKey (0x3001 + 0x10 * b) (10)
/-- PAUSED_TX, 0x3001.0B (R271, 10_berths.md). -/
def pausedTx (b : Nat) : Nat := objKey (0x3001 + 0x10 * b) (11)
/-- PAUSED_RX, 0x3001.0C (R271, 10_berths.md). -/
def pausedRx (b : Nat) : Nat := objKey (0x3001 + 0x10 * b) (12)
/-- PAUSE_SOURCES, 0x3001.0D (R271, 10_berths.md). -/
def pauseSources (b : Nat) : Nat := objKey (0x3001 + 0x10 * b) (13)
/-- FRAME_INJECT, 0x3001.0E (R271, 10_berths.md). -/
def frameInject (b : Nat) : Nat := objKey (0x3001 + 0x10 * b) (14)
/-- FRAMES_RX, 0x3003.01 (R271, 10_berths.md). -/
def framesRx (b : Nat) : Nat := objKey (0x3003 + 0x10 * b) (1)
/-- FRAMES_TX, 0x3003.02 (R271, 10_berths.md). -/
def framesTx (b : Nat) : Nat := objKey (0x3003 + 0x10 * b) (2)
/-- BAD_FRAMES_RX, 0x3003.03 (R271, 10_berths.md). -/
def badFramesRx (b : Nat) : Nat := objKey (0x3003 + 0x10 * b) (3)
/-- FEC_CORRECTED, 0x3003.04 (R271, 10_berths.md). -/
def fecCorrected (b : Nat) : Nat := objKey (0x3003 + 0x10 * b) (4)
/-- FEC_UNCORRECTABLE, 0x3003.05 (R271, 10_berths.md). -/
def fecUncorrectable (b : Nat) : Nat := objKey (0x3003 + 0x10 * b) (5)
/-- UNCLASSIFIED, 0x3003.06 (R271, 10_berths.md). -/
def unclassified (b : Nat) : Nat := objKey (0x3003 + 0x10 * b) (6)
/-- INGRESS_DROPS, 0x3003.07 (R271, 10_berths.md). -/
def ingressDrops (b : Nat) : Nat := objKey (0x3003 + 0x10 * b) (7)
/-- EGRESS_DROPS, 0x3003.08 (R271, 10_berths.md). -/
def egressDrops (b : Nat) : Nat := objKey (0x3003 + 0x10 * b) (8)
/-- PFC_SENT, 0x3003.09 (R271, 10_berths.md). -/
def pfcSent (b : Nat) : Nat := objKey (0x3003 + 0x10 * b) (9)
/-- PFC_RECEIVED, 0x3003.0A (R271, 10_berths.md). -/
def pfcReceived (b : Nat) : Nat := objKey (0x3003 + 0x10 * b) (10)
/-- PFC_IGNORED, 0x3003.0B (R271, 10_berths.md). -/
def pfcIgnored (b : Nat) : Nat := objKey (0x3003 + 0x10 * b) (11)
/-- TRAPPED, 0x3003.0C (R271, 10_berths.md). -/
def trapped (b : Nat) : Nat := objKey (0x3003 + 0x10 * b) (12)
/-- RULE, 0x3004.01 (R271, 10_berths.md). -/
def classRule (b n : Nat) : Nat := objKey (0x3004 + 0x10 * b) (1 + n)
/-- DEFAULT_FLOW, 0x3004.41 (R271, 10_berths.md). -/
def defaultFlow (b : Nat) : Nat := objKey (0x3004 + 0x10 * b) (65)
/-- GROUP_LAYOUT, 0x300F.01 (R271, 10_berths.md). -/
def groupLayout (k : Nat) : Nat := objKey (0x300F + 0x80 * k) (1)
/-- LADDER, 0x3400.01 (R301, 11_consignments_and_basin.md). -/
def ladder : Nat := objKey (0x3400) (1)
/-- FLOW_QUERY, 0x3400.02 (R301, 11_consignments_and_basin.md). -/
def flowQuery : Nat := objKey (0x3400) (2)
/-- FLOWS_ENABLED, 0x3400.03 (R301, 11_consignments_and_basin.md). -/
def flowsEnabled : Nat := objKey (0x3400) (3)
/-- PROMPT_DISCARDS, 0x3400.04 (R301, 11_consignments_and_basin.md). -/
def promptDiscards : Nat := objKey (0x3400) (4)
/-- STANDARD_DROPS, 0x3400.05 (R301, 11_consignments_and_basin.md). -/
def standardDrops : Nat := objKey (0x3400) (5)
/-- STANDARD_MAX_WAIT, 0x3400.06 (R301, 11_consignments_and_basin.md). -/
def standardMaxWait : Nat := objKey (0x3400) (6)
/-- MISROUTED_CELLS, 0x3400.07 (R301, 11_consignments_and_basin.md). -/
def misroutedCells : Nat := objKey (0x3400) (7)
/-- FLOW, 0x3401.01 (R301, 11_consignments_and_basin.md). -/
def flowShown : Nat := objKey (0x3401) (1)
/-- TX_EPOCH, 0x3401.02 (R301, 11_consignments_and_basin.md). -/
def flowTxEpoch : Nat := objKey (0x3401) (2)
/-- TX_NEXT, 0x3401.03 (R301, 11_consignments_and_basin.md). -/
def txNext : Nat := objKey (0x3401) (3)
/-- TX_ACKED, 0x3401.04 (R301, 11_consignments_and_basin.md). -/
def txAcked : Nat := objKey (0x3401) (4)
/-- TX_HELD, 0x3401.05 (R301, 11_consignments_and_basin.md). -/
def txHeld : Nat := objKey (0x3401) (5)
/-- RX_EPOCH, 0x3401.06 (R301, 11_consignments_and_basin.md). -/
def flowRxEpoch : Nat := objKey (0x3401) (6)
/-- RX_NEXT, 0x3401.07 (R301, 11_consignments_and_basin.md). -/
def rxNext : Nat := objKey (0x3401) (7)
/-- RX_HELD, 0x3401.08 (R301, 11_consignments_and_basin.md). -/
def rxHeld : Nat := objKey (0x3401) (8)
/-- RESENT, 0x3401.09 (R301, 11_consignments_and_basin.md). -/
def flowResent : Nat := objKey (0x3401) (9)
/-- DUPLICATES, 0x3401.0A (R301, 11_consignments_and_basin.md). -/
def flowDuplicates : Nat := objKey (0x3401) (10)
/-- RESERVE_LOSSES, 0x3401.0B (R301, 11_consignments_and_basin.md). -/
def flowReserveLosses : Nat := objKey (0x3401) (11)
/-- BASIN_LOST, 0x3401.0C (R301, 11_consignments_and_basin.md). -/
def flowBasinLost : Nat := objKey (0x3401) (12)
/-- RESYNCS, 0x3401.0D (R301, 11_consignments_and_basin.md). -/
def flowResyncs : Nat := objKey (0x3401) (13)
/-- FLOW_ENTRY, 0x3420.01 (R301, 11_consignments_and_basin.md). -/
def flowEntry (n m : Nat) : Nat := objKey (0x3420 + n) (1 + m)
/-- FLOW_PRECEDENCE, 0x3440.01 (R301, 11_consignments_and_basin.md). -/
def flowPrecedence (n m : Nat) : Nat := objKey (0x3440 + n) (1 + m)
/-- RETX_GUARD, 0x3500.01 (R302, 11_consignments_and_basin.md). -/
def retxGuard : Nat := objKey (0x3500) (1)
/-- DURABLE_INGRESS, 0x3500.02 (R302, 11_consignments_and_basin.md). -/
def durableIngress : Nat := objKey (0x3500) (2)
/-- HOLD_TIME, 0x3500.03 (R302, 11_consignments_and_basin.md). -/
def holdTime : Nat := objKey (0x3500) (3)
/-- CELLS_RESENT, 0x3500.04 (R302, 11_consignments_and_basin.md). -/
def cellsResent : Nat := objKey (0x3500) (4)
/-- EPOCH_DISCARDS, 0x3500.05 (R302, 11_consignments_and_basin.md). -/
def epochDiscards : Nat := objKey (0x3500) (5)
/-- REORDER_DISCARDS, 0x3500.06 (R302, 11_consignments_and_basin.md). -/
def reorderDiscards : Nat := objKey (0x3500) (6)
/-- RESYNC_DISCARDS, 0x3500.07 (R302, 11_consignments_and_basin.md). -/
def resyncDiscards : Nat := objKey (0x3500) (7)
/-- DISABLE_DISCARDS, 0x3500.08 (R302, 11_consignments_and_basin.md). -/
def disableDiscards : Nat := objKey (0x3500) (8)
/-- RESERVE_LOSSES, 0x3500.09 (R302, 11_consignments_and_basin.md). -/
def reserveLosses : Nat := objKey (0x3500) (9)
/-- STOCKPILE_RESERVE, 0x3510.01 (R302, 11_consignments_and_basin.md). -/
def stockpileReserve : Nat := objKey (0x3510) (1)
/-- USABLE_SLOTS, 0x3510.02 (R302, 11_consignments_and_basin.md). -/
def usableSlots : Nat := objKey (0x3510) (2)
/-- USED_SLOTS, 0x3510.03 (R302, 11_consignments_and_basin.md). -/
def usedSlots : Nat := objKey (0x3510) (3)
/-- HIGH_WATER, 0x3510.04 (R302, 11_consignments_and_basin.md). -/
def highWater : Nat := objKey (0x3510) (4)
/-- RELEASE_WATER, 0x3510.05 (R302, 11_consignments_and_basin.md). -/
def releaseWater : Nat := objKey (0x3510) (5)
/-- LAST_RESERVE, 0x3510.06 (R302, 11_consignments_and_basin.md). -/
def lastReserve : Nat := objKey (0x3510) (6)
/-- BASIN_STATE, 0x3510.07 (R302, 11_consignments_and_basin.md). -/
def basinState : Nat := objKey (0x3510) (7)
/-- RETIRED_PAGES, 0x3510.08 (R302, 11_consignments_and_basin.md). -/
def retiredPages : Nat := objKey (0x3510) (8)
/-- RESERVE_PAGES_FREE, 0x3510.09 (R302, 11_consignments_and_basin.md). -/
def reservePagesFree : Nat := objKey (0x3510) (9)
/-- WRITE_QUEUE, 0x3510.0A (R302, 11_consignments_and_basin.md). -/
def writeQueue : Nat := objKey (0x3510) (10)
/-- PORT_STATE, 0x3520.01 (R302, 11_consignments_and_basin.md). -/
def basinPortState (p : Nat) : Nat := objKey (0x3520 + p) (1)
/-- LINK_RATE, 0x3520.02 (R302, 11_consignments_and_basin.md). -/
def linkRate (p : Nat) : Nat := objKey (0x3520 + p) (2)
/-- LINK_WIDTH, 0x3520.03 (R302, 11_consignments_and_basin.md). -/
def linkWidth (p : Nat) : Nat := objKey (0x3520 + p) (3)
/-- CAPACITY, 0x3520.04 (R302, 11_consignments_and_basin.md). -/
def basinCapacity (p : Nat) : Nat := objKey (0x3520 + p) (4)
/-- SLOTS, 0x3520.05 (R302, 11_consignments_and_basin.md). -/
def slots (p : Nat) : Nat := objKey (0x3520 + p) (5)
/-- CORRECTED_SLOTS, 0x3520.06 (R302, 11_consignments_and_basin.md). -/
def correctedSlots (p : Nat) : Nat := objKey (0x3520 + p) (6)
/-- POISONED_SLOTS, 0x3520.07 (R302, 11_consignments_and_basin.md). -/
def poisonedSlots (p : Nat) : Nat := objKey (0x3520 + p) (7)
/-- LINK_DOWNS, 0x3520.08 (R302, 11_consignments_and_basin.md). -/
def linkDowns (p : Nat) : Nat := objKey (0x3520 + p) (8)
/-- RAKE_PERIOD, 0x3530.01 (R479, 19_assay_integrity_stockpile.md). -/
def rakePeriod : Nat := objKey (0x3530) (1)
/-- RAKE_LAP_TICKS, 0x3530.02 (R479, 19_assay_integrity_stockpile.md). -/
def rakeLapTicks : Nat := objKey (0x3530) (2)
/-- RAKE_CORRECTED, 0x3530.03 (R479, 19_assay_integrity_stockpile.md). -/
def rakeCorrected : Nat := objKey (0x3530) (3)
/-- RAKE_WRITEBACKS_DROPPED, 0x3530.04 (R479, 19_assay_integrity_stockpile.md). -/
def rakeWritebacksDropped : Nat := objKey (0x3530) (4)
/-- PEEK_ADDRESS, 0x3530.05 (R479, 19_assay_integrity_stockpile.md). -/
def peekAddress : Nat := objKey (0x3530) (5)
/-- PEEK, 0x3530.06 (R479, 19_assay_integrity_stockpile.md). -/
def peek : Nat := objKey (0x3530) (6)
/-- RAKE_POISONED, 0x3530.07 (R479, 19_assay_integrity_stockpile.md). -/
def rakePoisoned : Nat := objKey (0x3530) (7)
/-- ACK_RTT, 0x3540.01 (R302, 11_consignments_and_basin.md). -/
def ackRtt (r g : Nat) : Nat := objKey (0x3540 + 0x8 * r + g) (1)
/-- SENDER_STATE, 0x3540.02 (R302, 11_consignments_and_basin.md). -/
def senderState (r g : Nat) : Nat := objKey (0x3540 + 0x8 * r + g) (2)
/-- GROUP_HELD, 0x3540.03 (R302, 11_consignments_and_basin.md). -/
def groupHeld (r g : Nat) : Nat := objKey (0x3540 + 0x8 * r + g) (3)
/-- MATED, 0x3580.01 (R327, 12_restoration.md). -/
def mated : Nat := objKey (0x3580) (1)
/-- MATE_TIMEOUT, 0x3580.02 (R327, 12_restoration.md). -/
def mateTimeout : Nat := objKey (0x3580) (2)
/-- MATE_REACHABLE, 0x3580.03 (R327, 12_restoration.md). -/
def mateReachable : Nat := objKey (0x3580) (3)
/-- PREARMS_IGNORED, 0x3580.04 (R327, 12_restoration.md). -/
def prearmsIgnored : Nat := objKey (0x3580) (4)
/-- DRAIN_RECORD_UNIT, 0x3580.05 (R327, 12_restoration.md). -/
def drainRecordUnit : Nat := objKey (0x3580) (5)
/-- MODE, 0x3590.01 (R327, 12_restoration.md). -/
def unitMode (u : Nat) : Nat := objKey (0x3590 + u) (1)
/-- WORKING_REACH, 0x3590.02 (R327, 12_restoration.md). -/
def workingReach (u : Nat) : Nat := objKey (0x3590 + u) (2)
/-- PROTECT_REACH, 0x3590.03 (R327, 12_restoration.md). -/
def protectReach (u : Nat) : Nat := objKey (0x3590 + u) (3)
/-- STANDBY, 0x3590.04 (R327, 12_restoration.md). -/
def unitStandby (u : Nat) : Nat := objKey (0x3590 + u) (4)
/-- TRIGGER, 0x3590.05 (R327, 12_restoration.md). -/
def unitTrigger (u : Nat) : Nat := objKey (0x3590 + u) (5)
/-- REVERTIVE, 0x3590.06 (R327, 12_restoration.md). -/
def unitRevertive (u : Nat) : Nat := objKey (0x3590 + u) (6)
/-- WAIT_TO_RESTORE, 0x3590.07 (R327, 12_restoration.md). -/
def waitToRestore (u : Nat) : Nat := objKey (0x3590 + u) (7)
/-- WITHDRAW_TICKS, 0x3590.08 (R327, 12_restoration.md). -/
def withdrawTicks (u : Nat) : Nat := objKey (0x3590 + u) (8)
/-- RECONCILE_TICKS, 0x3590.09 (R327, 12_restoration.md). -/
def reconcileTicks (u : Nat) : Nat := objKey (0x3590 + u) (9)
/-- RESTORE_LIMIT, 0x3590.0A (R327, 12_restoration.md). -/
def restoreLimit (u : Nat) : Nat := objKey (0x3590 + u) (10)
/-- PRE_ARM_ACTION, 0x3590.0B (R327, 12_restoration.md). -/
def preArmAction (u : Nat) : Nat := objKey (0x3590 + u) (11)
/-- PATH_SELECT_GPIO, 0x3590.0C (R327, 12_restoration.md). -/
def pathSelectGpio (u : Nat) : Nat := objKey (0x3590 + u) (12)
/-- ROUTE_WORKING, 0x3590.0D (R327, 12_restoration.md). -/
def routeWorking (u : Nat) : Nat := objKey (0x3590 + u) (13)
/-- ROUTE_PROTECT, 0x3590.0E (R327, 12_restoration.md). -/
def routeProtect (u : Nat) : Nat := objKey (0x3590 + u) (14)
/-- COMMAND, 0x3590.0F (R327, 12_restoration.md). -/
def unitCommand (u : Nat) : Nat := objKey (0x3590 + u) (15)
/-- UNIT_STATE, 0x3590.10 (R327, 12_restoration.md). -/
def unitState (u : Nat) : Nat := objKey (0x3590 + u) (16)
/-- PATH_IN_USE, 0x3590.11 (R327, 12_restoration.md). -/
def pathInUse (u : Nat) : Nat := objKey (0x3590 + u) (17)
/-- DURABLE_SIDE, 0x3590.12 (R327, 12_restoration.md). -/
def durableSide (u : Nat) : Nat := objKey (0x3590 + u) (18)
/-- AGC_SEED_PATH0, 0x3590.13 (R327, 12_restoration.md). -/
def agcSeedPath0 (u : Nat) : Nat := objKey (0x3590 + u) (19)
/-- AGC_SEED_PATH1, 0x3590.14 (R327, 12_restoration.md). -/
def agcSeedPath1 (u : Nat) : Nat := objKey (0x3590 + u) (20)
/-- RESTORE_START_TICK, 0x3590.15 (R327, 12_restoration.md). -/
def restoreStartTick (u : Nat) : Nat := objKey (0x3590 + u) (21)
/-- RESTORE_TICKS, 0x3590.16 (R327, 12_restoration.md). -/
def restoreTicks (u : Nat) : Nat := objKey (0x3590 + u) (22)
/-- RESTORATIONS, 0x3590.17 (R327, 12_restoration.md). -/
def restorations (u : Nat) : Nat := objKey (0x3590 + u) (23)
/-- DRAIN_REMAINING, 0x3590.18 (R327, 12_restoration.md). -/
def drainRemaining (u : Nat) : Nat := objKey (0x3590 + u) (24)
/-- CORES_IN_SERVICE, 0x3800.01 (R351, 13_line_encryption.md). -/
def cipherCoresInService : Nat := objKey (0x3800) (1)
/-- CAPACITY_BYTES, 0x3800.02 (R351, 13_line_encryption.md). -/
def capacityBytes : Nat := objKey (0x3800) (2)
/-- DEMAND_BYTES, 0x3800.03 (R351, 13_line_encryption.md). -/
def demandBytes : Nat := objKey (0x3800) (3)
/-- SEGMENTS, 0x3800.04 (R351, 13_line_encryption.md). -/
def segments : Nat := objKey (0x3800) (4)
/-- PARITY_FAULTS, 0x3800.05 (R351, 13_line_encryption.md). -/
def parityFaults : Nat := objKey (0x3800) (5)
/-- SEGMENTS_RERUN, 0x3800.06 (R351, 13_line_encryption.md). -/
def segmentsRerun : Nat := objKey (0x3800) (6)
/-- SEGMENTS_BLANKED, 0x3800.07 (R351, 13_line_encryption.md). -/
def segmentsBlanked : Nat := objKey (0x3800) (7)
/-- ENTROPY_STATE, 0x3800.08 (R351, 13_line_encryption.md). -/
def entropyState : Nat := objKey (0x3800) (8)
/-- CORE_STATE, 0x3801.01 (R351, 13_line_encryption.md). -/
def cipherCoreState (n : Nat) : Nat := objKey (0x3801) (1 + n)
/-- SLOT_STATE, 0x3802.01 (R351, 13_line_encryption.md). -/
def keySlotState (n : Nat) : Nat := objKey (0x3802) (1 + n)
/-- SLOT_LABEL, 0x3803.01 (R351, 13_line_encryption.md). -/
def slotLabel (n : Nat) : Nat := objKey (0x3803) (1 + n)
/-- KEY_IMPORT, 0x3804.01 (R351, 13_line_encryption.md). -/
def keyImport : Nat := objKey (0x3804) (1)
/-- KEY_BATCH_START, 0x3804.02 (R351, 13_line_encryption.md). -/
def keyBatchStart : Nat := objKey (0x3804) (2)
/-- SLOT_ERASE, 0x3804.03 (R351, 13_line_encryption.md). -/
def slotErase : Nat := objKey (0x3804) (3)
/-- IMPORTS, 0x3804.04 (R351, 13_line_encryption.md). -/
def imports : Nat := objKey (0x3804) (4)
/-- IMPORT_FAILURES, 0x3804.05 (R351, 13_line_encryption.md). -/
def importFailures : Nat := objKey (0x3804) (5)
/-- KEY_BATCH, 0x3805.01 (R351, 13_line_encryption.md). -/
def keyBatch (n : Nat) : Nat := objKey (0x3805) (1 + n)
/-- ENCRYPT, 0x3820.01 (R352, 13_line_encryption.md). -/
def encrypt (r g : Nat) : Nat := objKey (0x3820 + 0x8 * r + g) (1)
/-- KEY_SLOT, 0x3820.02 (R352, 13_line_encryption.md). -/
def keySlot (r g : Nat) : Nat := objKey (0x3820 + 0x8 * r + g) (2)
/-- KEY_STATE, 0x3820.03 (R352, 13_line_encryption.md). -/
def keyState (r g : Nat) : Nat := objKey (0x3820 + 0x8 * r + g) (3)
/-- TX_EPOCH, 0x3820.04 (R352, 13_line_encryption.md). -/
def keyTxEpoch (r g : Nat) : Nat := objKey (0x3820 + 0x8 * r + g) (4)
/-- RX_EPOCH, 0x3820.05 (R352, 13_line_encryption.md). -/
def keyRxEpoch (r g : Nat) : Nat := objKey (0x3820 + 0x8 * r + g) (5)
/-- TX_INVOCATIONS, 0x3820.06 (R352, 13_line_encryption.md). -/
def txInvocations (r g : Nat) : Nat := objKey (0x3820 + 0x8 * r + g) (6)
/-- SOFT_LIMIT, 0x3820.07 (R352, 13_line_encryption.md). -/
def softLimit (r g : Nat) : Nat := objKey (0x3820 + 0x8 * r + g) (7)
/-- KEY_LEAD, 0x3820.08 (R352, 13_line_encryption.md). -/
def keyLead (r g : Nat) : Nat := objKey (0x3820 + 0x8 * r + g) (8)
/-- KEY_ROLL, 0x3820.09 (R352, 13_line_encryption.md). -/
def keyRoll (r g : Nat) : Nat := objKey (0x3820 + 0x8 * r + g) (9)
/-- SEAL_CAUSE, 0x3820.0A (R352, 13_line_encryption.md). -/
def sealCause (r g : Nat) : Nat := objKey (0x3820 + 0x8 * r + g) (10)
/-- EPOCH_SWITCHES, 0x3820.0B (R352, 13_line_encryption.md). -/
def epochSwitches (r g : Nat) : Nat := objKey (0x3820 + 0x8 * r + g) (11)
/-- AUTH_FAILURES, 0x3820.0C (R352, 13_line_encryption.md). -/
def keyAuthFailures (r g : Nat) : Nat := objKey (0x3820 + 0x8 * r + g) (12)
/-- KEY_MISMATCHES, 0x3820.0D (R352, 13_line_encryption.md). -/
def keyMismatches (r g : Nat) : Nat := objKey (0x3820 + 0x8 * r + g) (13)
/-- AUTH_FAIL_LIMIT, 0x3820.0E (R352, 13_line_encryption.md). -/
def authFailLimit (r g : Nat) : Nat := objKey (0x3820 + 0x8 * r + g) (14)
/-- ENCRYPT_MISMATCH_FRAMES, 0x3820.0F (R352, 13_line_encryption.md). -/
def encryptMismatchFrames (r g : Nat) : Nat := objKey (0x3820 + 0x8 * r + g) (15)
/-- CIPHER_CAPPED, 0x3820.10 (R352, 13_line_encryption.md). -/
def cipherCapped (r g : Nat) : Nat := objKey (0x3820 + 0x8 * r + g) (16)
/-- CORE_STATE, 0x4000.01 (R375, 14_timing_core.md). -/
def timingState : Nat := objKey (0x4000) (1)
/-- SELECTED, 0x4000.02 (R375, 14_timing_core.md). -/
def selected : Nat := objKey (0x4000) (2)
/-- REVERTIVE, 0x4000.03 (R375, 14_timing_core.md). -/
def timingRevertive : Nat := objKey (0x4000) (3)
/-- PLL_BANDWIDTH, 0x4000.04 (R375, 14_timing_core.md). -/
def pllBandwidth : Nat := objKey (0x4000) (4)
/-- PULL_SLOPE, 0x4000.05 (R375, 14_timing_core.md). -/
def pullSlope : Nat := objKey (0x4000) (5)
/-- PHASE_STEP, 0x4000.06 (R375, 14_timing_core.md). -/
def phaseStep : Nat := objKey (0x4000) (6)
/-- PULL_REMAINING, 0x4000.07 (R375, 14_timing_core.md). -/
def pullRemaining : Nat := objKey (0x4000) (7)
/-- FORCE_SELECT, 0x4000.08 (R375, 14_timing_core.md). -/
def forceSelect : Nat := objKey (0x4000) (8)
/-- AGREE_LIMIT, 0x4000.09 (R375, 14_timing_core.md). -/
def agreeLimit : Nat := objKey (0x4000) (9)
/-- RANK_CONFLICT, 0x4000.0A (R375, 14_timing_core.md). -/
def rankConflict : Nat := objKey (0x4000) (10)
/-- FREQ_OFFSET, 0x4000.0B (R375, 14_timing_core.md). -/
def freqOffset : Nat := objKey (0x4000) (11)
/-- SWITCHES, 0x4000.0C (R375, 14_timing_core.md). -/
def switches : Nat := objKey (0x4000) (12)
/-- TICK_ALIGNED, 0x4000.0D (R375, 14_timing_core.md). -/
def tickAligned : Nat := objKey (0x4000) (13)
/-- ALIGN_PERMIT, 0x4000.0E (R375, 14_timing_core.md). -/
def alignPermit : Nat := objKey (0x4000) (14)
/-- ALIGN_NOW, 0x4000.0F (R375, 14_timing_core.md). -/
def alignNow : Nat := objKey (0x4000) (15)
/-- TICKS_ADVANCED, 0x4000.10 (R375, 14_timing_core.md). -/
def ticksAdvanced : Nat := objKey (0x4000) (16)
/-- ACCEPT_LIMIT, 0x4000.11 (R375, 14_timing_core.md). -/
def acceptLimit : Nat := objKey (0x4000) (17)
/-- HOLD_WINDOW, 0x4001.01 (R375, 14_timing_core.md). -/
def holdWindow : Nat := objKey (0x4001) (1)
/-- HOLD_GUARD, 0x4001.02 (R375, 14_timing_core.md). -/
def holdGuard : Nat := objKey (0x4001) (2)
/-- HOLDOVER_READY, 0x4001.03 (R375, 14_timing_core.md). -/
def holdoverReady : Nat := objKey (0x4001) (3)
/-- HOLDOVER_ESTIMATE, 0x4001.04 (R375, 14_timing_core.md). -/
def holdoverEstimate : Nat := objKey (0x4001) (4)
/-- LOCKED_SECONDS, 0x4001.05 (R375, 14_timing_core.md). -/
def lockedSeconds : Nat := objKey (0x4001) (5)
/-- RANK, 0x4010.01 (R375, 14_timing_core.md). -/
def rank (i : Nat) : Nat := objKey (0x4010 + i) (1)
/-- QUAL_TIME, 0x4010.02 (R375, 14_timing_core.md). -/
def qualTime (i : Nat) : Nat := objKey (0x4010 + i) (2)
/-- INPUT_STATE, 0x4010.03 (R375, 14_timing_core.md). -/
def inputState (i : Nat) : Nat := objKey (0x4010 + i) (3)
/-- NOMINAL_FREQ, 0x4010.04 (R375, 14_timing_core.md). -/
def nominalFreq (i : Nat) : Nat := objKey (0x4010 + i) (4)
/-- PHASE_MODE, 0x4010.05 (R375, 14_timing_core.md). -/
def phaseMode (i : Nat) : Nat := objKey (0x4010 + i) (5)
/-- SOURCE, 0x4010.06 (R375, 14_timing_core.md). -/
def inputSource (i : Nat) : Nat := objKey (0x4010 + i) (6)
/-- OFFSET, 0x4010.07 (R375, 14_timing_core.md). -/
def inputOffset (i : Nat) : Nat := objKey (0x4010 + i) (7)
/-- PHASE_ERROR, 0x4010.08 (R375, 14_timing_core.md). -/
def phaseError (i : Nat) : Nat := objKey (0x4010 + i) (8)
/-- LOSSES, 0x4010.09 (R375, 14_timing_core.md). -/
def losses (i : Nat) : Nat := objKey (0x4010 + i) (9)
/-- DELAY_GROUP, 0x4060.01 (R375, 14_timing_core.md). -/
def delayGroup (r : Nat) : Nat := objKey (0x4060 + r) (1)
/-- DELAY_INTERVAL, 0x4060.02 (R375, 14_timing_core.md). -/
def delayInterval (r : Nat) : Nat := objKey (0x4060 + r) (2)
/-- DELAY_AVG, 0x4060.03 (R375, 14_timing_core.md). -/
def delayAvg (r : Nat) : Nat := objKey (0x4060 + r) (3)
/-- TX_CARRIER, 0x4060.04 (R375, 14_timing_core.md). -/
def txCarrier (r : Nat) : Nat := objKey (0x4060 + r) (4)
/-- TX_EXT_DELAY, 0x4060.05 (R375, 14_timing_core.md). -/
def txExtDelay (r : Nat) : Nat := objKey (0x4060 + r) (5)
/-- RX_EXT_DELAY, 0x4060.06 (R375, 14_timing_core.md). -/
def rxExtDelay (r : Nat) : Nat := objKey (0x4060 + r) (6)
/-- ASYMMETRY_ADJUST, 0x4060.07 (R375, 14_timing_core.md). -/
def asymmetryAdjust (r : Nat) : Nat := objKey (0x4060 + r) (7)
/-- DELAY_VALID, 0x4060.08 (R375, 14_timing_core.md). -/
def delayValid (r : Nat) : Nat := objKey (0x4060 + r) (8)
/-- ONE_WAY_DELAY, 0x4060.09 (R375, 14_timing_core.md). -/
def oneWayDelay (r : Nat) : Nat := objKey (0x4060 + r) (9)
/-- ASYMMETRY, 0x4060.0A (R375, 14_timing_core.md). -/
def asymmetry (r : Nat) : Nat := objKey (0x4060 + r) (10)
/-- ROUND_TRIP, 0x4060.0B (R375, 14_timing_core.md). -/
def roundTrip (r : Nat) : Nat := objKey (0x4060 + r) (11)
/-- LINE_OFFSET, 0x4060.0C (R375, 14_timing_core.md). -/
def lineOffset (r : Nat) : Nat := objKey (0x4060 + r) (12)
/-- MEASUREMENTS, 0x4060.0D (R375, 14_timing_core.md). -/
def measurements (r : Nat) : Nat := objKey (0x4060 + r) (13)
/-- TOD_ASSOCIATE, 0x4070.01 (R375, 14_timing_core.md). -/
def todAssociate : Nat := objKey (0x4070) (1)
/-- TOD_FROM_PPS, 0x4070.02 (R375, 14_timing_core.md). -/
def todFromPps : Nat := objKey (0x4070) (2)
/-- TOD_STATE, 0x4070.03 (R375, 14_timing_core.md). -/
def todState : Nat := objKey (0x4070) (3)
/-- TOD_NOW, 0x4070.04 (R375, 14_timing_core.md). -/
def todNow : Nat := objKey (0x4070) (4)
/-- TICK_COUNT, 0x40C0.01 (R46, 02_tick_and_crossings.md). -/
def tickCount : Nat := objKey (0x40C0) (1)
/-- STAGING_CLOSE, 0x40C0.02 (R46, 02_tick_and_crossings.md). -/
def stagingClose : Nat := objKey (0x40C0) (2)
/-- STAGED_APPLIED, 0x40C0.03 (R46, 02_tick_and_crossings.md). -/
def stagedApplied : Nat := objKey (0x40C0) (3)
/-- STAGED_OVERWRITTEN, 0x40C0.04 (R46, 02_tick_and_crossings.md). -/
def stagedOverwritten : Nat := objKey (0x40C0) (4)
/-- STAGED_DROPPED, 0x40C0.05 (R46, 02_tick_and_crossings.md). -/
def stagedDropped : Nat := objKey (0x40C0) (5)
/-- DEFERRED_WRITES, 0x40C0.06 (R46, 02_tick_and_crossings.md). -/
def deferredWrites : Nat := objKey (0x40C0) (6)
/-- SUPERSEDED, 0x40C1.01 (R46, 02_tick_and_crossings.md). -/
def chamberSuperseded : Nat := objKey (0x40C1) (1)
/-- TALLY_MAX_STEP, 0x40C1.02 (R46, 02_tick_and_crossings.md). -/
def tallyMaxStep : Nat := objKey (0x40C1) (2)
/-- MAX_RATE, 0x4100.01 (R387, 15_towpath.md). -/
def maxRate : Nat := objKey (0x4100) (1)
/-- TRAIN_TICKS, 0x4100.02 (R387, 15_towpath.md). -/
def trainTicks : Nat := objKey (0x4100) (2)
/-- LANES_IN_SERVICE, 0x4100.03 (R387, 15_towpath.md). -/
def lanesInService : Nat := objKey (0x4100) (3)
/-- WAKE_MATE, 0x4100.04 (R387, 15_towpath.md). -/
def wakeMate : Nat := objKey (0x4100) (4)
/-- MESSAGES_SENT, 0x4100.05 (R387, 15_towpath.md). -/
def messagesSent : Nat := objKey (0x4100) (5)
/-- MESSAGE_ERRORS, 0x4100.06 (R387, 15_towpath.md). -/
def messageErrors : Nat := objKey (0x4100) (6)
/-- LANE_STATE, 0x4110.01 (R387, 15_towpath.md). -/
def tpLaneState (l : Nat) : Nat := objKey (0x4110 + l) (1)
/-- LOOPBACK, 0x4110.02 (R387, 15_towpath.md). -/
def loopback (l : Nat) : Nat := objKey (0x4110 + l) (2)
/-- LANE_RATE, 0x4110.03 (R387, 15_towpath.md). -/
def laneRate (l : Nat) : Nat := objKey (0x4110 + l) (3)
/-- RETRAIN, 0x4110.04 (R387, 15_towpath.md). -/
def retrain (l : Nat) : Nat := objKey (0x4110 + l) (4)
/-- CODE_ERRORS, 0x4110.05 (R387, 15_towpath.md). -/
def codeErrors (l : Nat) : Nat := objKey (0x4110 + l) (5)
/-- ELASTIC_ERRORS, 0x4110.06 (R387, 15_towpath.md). -/
def elasticErrors (l : Nat) : Nat := objKey (0x4110 + l) (6)
/-- LOOPBACK_ERRORS, 0x4110.07 (R387, 15_towpath.md). -/
def loopbackErrors (l : Nat) : Nat := objKey (0x4110 + l) (7)
/-- ENGINES_IN_SERVICE, 0x5000.01 (R413, 16_engine_programming.md). -/
def enginesInService (c : Nat) : Nat := objKey (0x5000 + 0x40 * c) (1)
/-- RUN_MASK, 0x5000.02 (R413, 16_engine_programming.md). -/
def runMask (c : Nat) : Nat := objKey (0x5000 + 0x40 * c) (2)
/-- ENGINE_LOAD, 0x5000.03 (R413, 16_engine_programming.md). -/
def engineLoad (c : Nat) : Nat := objKey (0x5000 + 0x40 * c) (3)
/-- LOAD_STATE, 0x5000.04 (R413, 16_engine_programming.md). -/
def loadState (c : Nat) : Nat := objKey (0x5000 + 0x40 * c) (4)
/-- LOAD_STATUS, 0x5000.05 (R413, 16_engine_programming.md). -/
def loadStatus (c : Nat) : Nat := objKey (0x5000 + 0x40 * c) (5)
/-- TRAP_LIMIT, 0x5000.06 (R413, 16_engine_programming.md). -/
def trapLimit (c : Nat) : Nat := objKey (0x5000 + 0x40 * c) (6)
/-- MODE, 0x5000.07 (R413, 16_engine_programming.md). -/
def clusterMode (c : Nat) : Nat := objKey (0x5000 + 0x40 * c) (7)
/-- SLOT_STATE, 0x5010.01 (R413, 16_engine_programming.md). -/
def engSlotState (c e : Nat) : Nat := objKey (0x5010 + 0x40 * c + e) (1)
/-- PHYSICAL, 0x5010.02 (R413, 16_engine_programming.md). -/
def physical (c e : Nat) : Nat := objKey (0x5010 + 0x40 * c + e) (2)
/-- IMAGE_CRC, 0x5010.03 (R413, 16_engine_programming.md). -/
def imageCrc (c e : Nat) : Nat := objKey (0x5010 + 0x40 * c + e) (3)
/-- BUDGET, 0x5010.04 (R413, 16_engine_programming.md). -/
def budget (c e : Nat) : Nat := objKey (0x5010 + 0x40 * c + e) (4)
/-- TASKS, 0x5010.05 (R413, 16_engine_programming.md). -/
def tasks (c e : Nat) : Nat := objKey (0x5010 + 0x40 * c + e) (5)
/-- TRAPS, 0x5010.06 (R413, 16_engine_programming.md). -/
def traps (c e : Nat) : Nat := objKey (0x5010 + 0x40 * c + e) (6)
/-- LAST_TRAPCODE, 0x5010.07 (R413, 16_engine_programming.md). -/
def lastTrapcode (c e : Nat) : Nat := objKey (0x5010 + 0x40 * c + e) (7)
/-- LAST_TRAPPC, 0x5010.08 (R413, 16_engine_programming.md). -/
def lastTrappc (c e : Nat) : Nat := objKey (0x5010 + 0x40 * c + e) (8)
/-- LAST_TRAPINFO, 0x5010.09 (R413, 16_engine_programming.md). -/
def lastTrapinfo (c e : Nat) : Nat := objKey (0x5010 + 0x40 * c + e) (9)
/-- PARTITIONS_DEFINED, 0x5300.01 (R418, 17_engine_partitions_and_counters.md). -/
def partitionsDefined : Nat := objKey (0x5300) (1)
/-- UNASSIGNED, 0x5300.02 (R418, 17_engine_partitions_and_counters.md). -/
def unassigned : Nat := objKey (0x5300) (2)
/-- FIRST_CLUSTER, 0x5310.01 (R418, 17_engine_partitions_and_counters.md). -/
def firstCluster (p : Nat) : Nat := objKey (0x5310 + p) (1)
/-- CLUSTER_COUNT, 0x5310.02 (R418, 17_engine_partitions_and_counters.md). -/
def clusterCount (p : Nat) : Nat := objKey (0x5310 + p) (2)
/-- TAP_GRANT, 0x5310.03 (R418, 17_engine_partitions_and_counters.md). -/
def tapGrant (p : Nat) : Nat := objKey (0x5310 + p) (3)
/-- COUNTER_GRANT, 0x5310.04 (R418, 17_engine_partitions_and_counters.md). -/
def counterGrant (p : Nat) : Nat := objKey (0x5310 + p) (4)
/-- ENGINES_HELD, 0x5310.05 (R418, 17_engine_partitions_and_counters.md). -/
def enginesHeld (p : Nat) : Nat := objKey (0x5310 + p) (5)
/-- OVERRUNS, 0x5310.06 (R418, 17_engine_partitions_and_counters.md). -/
def partOverruns (p : Nat) : Nat := objKey (0x5310 + p) (6)
/-- STALE_RING_ENTRIES, 0x5310.07 (R418, 17_engine_partitions_and_counters.md). -/
def staleRingEntries (p : Nat) : Nat := objKey (0x5310 + p) (7)
/-- CYCLES, 0x5400.01 (R429, 17_engine_partitions_and_counters.md). -/
def engCycles (c e : Nat) : Nat := objKey (0x5400 + 0x10 * c + e) (1)
/-- SLOTS_RETIRED, 0x5400.02 (R429, 17_engine_partitions_and_counters.md). -/
def slotsRetired (c e : Nat) : Nat := objKey (0x5400 + 0x10 * c + e) (2)
/-- SLOTS_WASTED, 0x5400.03 (R429, 17_engine_partitions_and_counters.md). -/
def slotsWasted (c e : Nat) : Nat := objKey (0x5400 + 0x10 * c + e) (3)
/-- FRONT_STARVED, 0x5400.04 (R429, 17_engine_partitions_and_counters.md). -/
def frontStarved (c e : Nat) : Nat := objKey (0x5400 + 0x10 * c + e) (4)
/-- BACK_STARVED, 0x5400.05 (R429, 17_engine_partitions_and_counters.md). -/
def backStarved (c e : Nat) : Nat := objKey (0x5400 + 0x10 * c + e) (5)
/-- EVENT, 0x5400.06 (R429, 17_engine_partitions_and_counters.md). -/
def eventCounter (c e n : Nat) : Nat := objKey (0x5400 + 0x10 * c + e) (6 + n)
/-- EVENT_SELECT, 0x5400.0A (R429, 17_engine_partitions_and_counters.md). -/
def eventSelect (c e n : Nat) : Nat := objKey (0x5400 + 0x10 * c + e) (10 + n)
/-- OVERFLOW, 0x5400.0E (R429, 17_engine_partitions_and_counters.md). -/
def counterOverflow (c e : Nat) : Nat := objKey (0x5400 + 0x10 * c + e) (14)
/-- OVERFLOW_CLEAR, 0x5400.0F (R429, 17_engine_partitions_and_counters.md). -/
def overflowClear (c e : Nat) : Nat := objKey (0x5400 + 0x10 * c + e) (15)
/-- OVERRUNS, 0x5400.10 (R429, 17_engine_partitions_and_counters.md). -/
def slotOverruns (c e : Nat) : Nat := objKey (0x5400 + 0x10 * c + e) (16)
/-- BUDGET_EXCEEDED, 0x5400.11 (R429, 17_engine_partitions_and_counters.md). -/
def budgetExceeded (c e : Nat) : Nat := objKey (0x5400 + 0x10 * c + e) (17)

end Obj

end Sys2Proof.Machine
end

