-- ==== Sys2Proof/Machine/ObjTable.lean ====
section
/-! DEFINITION. The object dictionary's table: for every record of the chapters' object tables, the type (Table 3.1),
the access code and kind (R49), the default (R62) and the range of each entry, and the rule that says which record an
index belongs to. -/
namespace Sys2Proof.Machine

/-- The type of an entry's value (Table 3.1). -/
inductive OType where
  | u8 | u16 | u32 | u64 | s16 | s32 | s64 | f32 | bool8 | enum8 | bits32
  | octets (n : Nat)
  deriving DecidableEq, Repr

/-- The access code of an entry (R49). -/
inductive Access where
  | ro | rw | wo | rwm
  deriving DecidableEq, Repr

/-- The values an entry admits (the table's range column). -/
inductive Rng where
  /-- every value of the type -/
  | any
  /-- a closed range -/
  | range (lo hi : Int)
  /-- a closed range and one value outside it -/
  | rangeOr (lo hi other : Int)
  /-- the listed values (ENUM8, BOOL8) -/
  | among (l : List Int)
  /-- a bit map; the mask holds the bits that name something (R524) -/
  | bits (mask : Nat)
  /-- a layout with fields of its own, checked in Operands.lean (R524) -/
  | layout
  deriving DecidableEq, Repr

/-- One row of an object table, or one run of rows of one name. -/
structure Row where
  /-- first sub-index -/
  lo : Nat
  /-- last sub-index -/
  hi : Nat
  ty : OType
  acc : Access
  staged : Bool
  dflt : Int
  rng : Rng
  deriving DecidableEq, Repr

/-- The entries of the record at 0x1001 (03_object_dictionary.md). -/
def rows1001 : List Row := [
  ⟨1, 1, .u32, .ro, false, Config.dictionaryVersion, .any⟩,
  ⟨2, 2, .octets 32, .ro, false, Config.dictionaryDigest, .any⟩,
  ⟨3, 3, .u32, .ro, false, Config.objectCount, .any⟩]

/-- The entries of the record at 0x1100 (04_startup_and_ledger.md). -/
def rows1100 : List Row := [
  ⟨1, 1, .enum8, .ro, false, 0, .any⟩,
  ⟨2, 2, .u32, .ro, false, 1, .any⟩,
  ⟨3, 3, .u32, .ro, false, 0, .any⟩,
  ⟨4, 4, .enum8, .ro, false, 0, .any⟩,
  ⟨5, 5, .u32, .ro, false, 0, .any⟩,
  ⟨6, 6, .enum8, .ro, false, 2, .any⟩,
  ⟨7, 7, .enum8, .rw, false, 0, (.among [0, 1, 2])⟩,
  ⟨8, 8, .enum8, .rw, true, 0, (.among [0, 1])⟩,
  ⟨9, 9, .bool8, .wo, false, 0, (.among [1])⟩,
  ⟨10, 10, .enum8, .ro, false, 0, .any⟩,
  ⟨11, 11, .u32, .rw, false, 10000, (.range 0 1000000)⟩,
  ⟨12, 12, .enum8, .ro, false, 0, .any⟩,
  ⟨13, 13, .bool8, .wo, false, 0, (.among [1])⟩,
  ⟨14, 14, .enum8, .ro, false, 0, .any⟩]

/-- The entries of the record at 0x1110 (04_startup_and_ledger.md). -/
def rows1110 : List Row := [
  ⟨1, 1, .u32, .ro, false, 0, .any⟩,
  ⟨2, 2, .u8, .ro, false, 0, .any⟩,
  ⟨3, 3, .u8, .ro, false, 0, .any⟩,
  ⟨4, 4, .u64, .ro, false, 0, .any⟩,
  ⟨5, 5, .u64, .ro, false, 0, .any⟩,
  ⟨6, 6, .bool8, .wo, false, 0, (.among [1])⟩,
  ⟨7, 7, .u32, .ro, false, 0, .any⟩,
  ⟨8, 8, .u32, .ro, false, 0, .any⟩]

/-- The entries of the record at 0x1120 (04_startup_and_ledger.md). -/
def rows1120 : List Row := [
  ⟨1, 1, .bits32, .ro, false, 0, .any⟩,
  ⟨2, 2, .bits32, .ro, false, 0, .any⟩,
  ⟨3, 3, .bool8, .ro, false, 0, .any⟩,
  ⟨4, 4, .u64, .ro, false, 0, .any⟩]

/-- The entries of the record at 0x1180 (03_object_dictionary.md). -/
def rows1180 : List Row := [
  ⟨1, 1, .enum8, .ro, false, 0, .any⟩,
  ⟨2, 2, .u16, .ro, false, 0, .any⟩,
  ⟨3, 3, .u64, .ro, false, 0, .any⟩,
  ⟨4, 4, .u64, .ro, false, 0, .any⟩,
  ⟨5, 5, .u8, .ro, false, 0x00, .any⟩,
  ⟨6, 6, .u64, .ro, false, 0, .any⟩,
  ⟨7, 7, .bool8, .wo, false, 0, (.among [1])⟩]

/-- The entries of the record at 0x1200 (20_power_states.md). -/
def rows1200 : List Row := [
  ⟨1, 1, .enum8, .ro, false, 0, .any⟩,
  ⟨2, 2, .octets 12, .wo, false, 0, .layout⟩,
  ⟨3, 3, .u16, .rw, true, 200, (.range 1 10000)⟩,
  ⟨4, 4, .octets 12, .ro, false, 0, .any⟩,
  ⟨5, 5, .enum8, .ro, false, 0, .any⟩,
  ⟨6, 6, .octets 12, .ro, false, 0, .any⟩,
  ⟨7, 7, .u64, .ro, false, 0, .any⟩,
  ⟨8, 8, .u32, .ro, false, 0, .any⟩,
  ⟨9, 9, .bits32, .rw, false, 0x00000F09, (.bits 0xFFF)⟩,
  ⟨10, 10, .u8, .ro, false, 0xFF, .any⟩,
  ⟨11, 11, .u16, .rw, false, 4096, (.range 1 65535)⟩,
  ⟨12, 12, .u64, .ro, false, 0, .any⟩,
  ⟨13, 13, .bits32, .wo, false, 0, (.bits 0xF)⟩]

/-- The entries of the record at 0x1210 (20_power_states.md). -/
def rows1210 : List Row := [
  ⟨1, 37, .enum8, .ro, false, 3, .any⟩]

/-- The entries of the record at 0x1211 (20_power_states.md). -/
def rows1211 : List Row := [
  ⟨1, 37, .enum8, .ro, false, 0, .any⟩]

/-- The entries of the record at 0x1220 (20_power_states.md). -/
def rows1220 : List Row := [
  ⟨1, 6, .u64, .ro, false, 0, .any⟩,
  ⟨7, 7, .u64, .ro, false, 0, .any⟩,
  ⟨8, 8, .u64, .ro, false, 0, .any⟩,
  ⟨9, 11, .u64, .ro, false, 0, .any⟩]

/-- The entries of the record at 0x1300 (03_object_dictionary.md). -/
def rows1300 : List Row := [
  ⟨1, 1, .u32, .ro, false, 0, .any⟩,
  ⟨2, 2, .u32, .ro, false, 0, .any⟩,
  ⟨3, 3, .u32, .rw, false, 1, (.range 1 4294967295)⟩,
  ⟨4, 4, .octets 24, .ro, false, 0, .any⟩,
  ⟨5, 5, .u64, .ro, false, 0, .any⟩]

/-- The entries of the record at 0x1400 (03_object_dictionary.md). -/
def rows1400 : List Row := [
  ⟨1, 1, .enum8, .rw, false, 0, (.among [0, 1])⟩,
  ⟨2, 2, .bool8, .ro, false, 0, .any⟩,
  ⟨3, 3, .octets 16, .rw, false, 0, .any⟩,
  ⟨4, 4, .u8, .rw, false, 64, (.range 1 128)⟩,
  ⟨5, 5, .octets 4, .rw, false, 0, .any⟩,
  ⟨6, 6, .u8, .rw, false, 24, (.range 1 32)⟩]

/-- The entries of the record at 0x1410 (03_object_dictionary.md). -/
def rows1410 : List Row := [
  ⟨1, 1, .u8, .ro, false, 0, .any⟩,
  ⟨2, 2, .u32, .rw, false, 6000000, (.range 100000 360000000)⟩,
  ⟨3, 3, .u64, .ro, false, 0, .any⟩,
  ⟨4, 4, .u64, .ro, false, 0, .any⟩,
  ⟨5, 5, .enum8, .rw, false, 2, (.among [0, 1, 2])⟩,
  ⟨6, 6, .bits32, .ro, false, 0, .any⟩,
  ⟨7, 7, .octets 48, .wo, false, 0, .layout⟩,
  ⟨8, 8, .u8, .wo, false, 0, (.range 0 7)⟩]

/-- The entries of the record at 0x1500 (19_assay_integrity_stockpile.md). -/
def rows1500 : List Row := [
  ⟨1, 1, .enum8, .ro, false, 0, .any⟩,
  ⟨2, 2, .u8, .ro, false, 0, .any⟩,
  ⟨3, 3, .u16, .ro, false, 0xFFFF, .any⟩,
  ⟨4, 4, .u16, .wo, false, 0, .layout⟩,
  ⟨5, 5, .u16, .rw, false, 0, .layout⟩,
  ⟨6, 6, .enum8, .ro, false, 0, .any⟩,
  ⟨7, 7, .s16, .ro, false, 0, .any⟩,
  ⟨8, 8, .u16, .ro, false, 0, .any⟩]

/-- The entries of the record at 0x1510 (19_assay_integrity_stockpile.md). -/
def rows1510 : List Row := [
  ⟨1, 1, .u32, .ro, false, 0, .any⟩,
  ⟨2, 2, .u32, .ro, false, 0, .any⟩,
  ⟨3, 3, .u64, .ro, false, 0, .any⟩,
  ⟨4, 4, .u64, .ro, false, 0, .any⟩,
  ⟨5, 5, .u64, .ro, false, 0, .any⟩,
  ⟨6, 6, .u32, .ro, false, 0, .any⟩,
  ⟨7, 7, .u32, .ro, false, 0, .any⟩,
  ⟨8, 8, .u64, .ro, false, 0, .any⟩]

/-- The entries of the record at 0x1540 (19_assay_integrity_stockpile.md). -/
def rows1540 : List Row := [
  ⟨1, 1, .u8, .rw, true, 4, (.range 2 15)⟩,
  ⟨2, 2, .u8, .rw, true, 8, (.range 1 64)⟩,
  ⟨3, 3, .u8, .ro, false, 0, .any⟩,
  ⟨4, 4, .u64, .ro, false, 0, .any⟩]

/-- The entries of the record at 0x1541 (19_assay_integrity_stockpile.md). -/
def rows1541 : List Row := [
  ⟨1, 32, .u32, .ro, false, 0xFFFFFFFF, .any⟩]

/-- The entries of the record at 0x1550 (19_assay_integrity_stockpile.md). -/
def rows1550 : List Row := [
  ⟨1, 1, .u8, .ro, false, 4, .any⟩,
  ⟨2, 2, .u8, .ro, false, 4, .any⟩,
  ⟨3, 3, .bits32, .ro, false, 0x00000FFF, .any⟩,
  ⟨4, 4, .u8, .ro, false, 128, .any⟩,
  ⟨5, 5, .u32, .ro, false, 5384, .any⟩,
  ⟨6, 6, .bits32, .ro, false, 0, .any⟩,
  ⟨7, 7, .u16, .wo, false, 0, .layout⟩,
  ⟨8, 8, .bits32, .ro, false, 0, .any⟩,
  ⟨9, 9, .u64, .ro, false, 0, .any⟩]

/-- The entries of the record at 0x1600 (18_supervisory_converter.md). -/
def rows1600 : List Row := [
  ⟨1, 1, .enum8, .rw, true, 0, (.among [0, 1])⟩,
  ⟨2, 2, .enum8, .ro, false, 0, .any⟩,
  ⟨3, 3, .u8, .wo, false, 0, (.range 0 95)⟩,
  ⟨4, 4, .u64, .ro, false, 0, .any⟩,
  ⟨5, 5, .u16, .ro, false, 0, .any⟩,
  ⟨6, 6, .u64, .ro, false, 0, .any⟩,
  ⟨7, 7, .bool8, .rw, true, 0, (.among [0, 1])⟩]

/-- The entries of the record at 0x1601 (18_supervisory_converter.md). -/
def rows1601 : List Row := [
  ⟨1, 8, .u16, .ro, false, 0, .any⟩,
  ⟨9, 9, .bits32, .ro, false, 0, .any⟩,
  ⟨10, 10, .u64, .ro, false, 0, .any⟩]

/-- The entries of the record at 0x1602 (18_supervisory_converter.md). -/
def rows1602 : List Row := [
  ⟨1, 64, .u32, .rw, true, 0, .layout⟩]

/-- The entries of the record at 0x1603 (18_supervisory_converter.md). -/
def rows1603 : List Row := [
  ⟨1, 128, .u32, .ro, false, 0, .any⟩]

/-- The entries of the record at 0x1604 (18_supervisory_converter.md). -/
def rows1604 : List Row := [
  ⟨1, 20, .s16, .ro, false, 0, .any⟩]

/-- The entries of the record at 0x1620 (18_supervisory_converter.md). -/
def rows1620 : List Row := [
  ⟨1, 1, .u8, .rw, true, 0, (.range 0 95)⟩,
  ⟨2, 2, .u16, .rw, true, 1, (.among [1, 2, 4, 8, 16, 32, 64, 128, 256, 512, 1024, 2048, 4096])⟩,
  ⟨3, 3, .u8, .rw, false, 1, (.range 1 32)⟩,
  ⟨4, 4, .u8, .rw, false, 1, (.range 1 32)⟩,
  ⟨5, 5, .enum8, .ro, false, 0, .any⟩,
  ⟨6, 6, .bool8, .wo, true, 0, (.among [1])⟩,
  ⟨7, 7, .u32, .rw, true, 1000, (.range 1 1000000)⟩,
  ⟨8, 8, .u8, .rw, true, 2, (.range 0 15)⟩,
  ⟨9, 9, .u8, .rw, true, 8, (.range 0 15)⟩]

/-- The entries of the record at 0x1640 (18_supervisory_converter.md). -/
def rows1640 : List Row := [
  ⟨1, 1, .s32, .ro, false, 0, .any⟩,
  ⟨2, 2, .s32, .ro, false, 0, .any⟩,
  ⟨3, 3, .s32, .ro, false, 0, .any⟩,
  ⟨4, 4, .u32, .ro, false, 0, .any⟩,
  ⟨5, 5, .u32, .ro, false, 0, .any⟩,
  ⟨6, 6, .u64, .ro, false, 0, .any⟩,
  ⟨7, 7, .octets 12, .ro, false, 0, .any⟩,
  ⟨8, 8, .octets 12, .ro, false, 0, .any⟩,
  ⟨9, 9, .u64, .ro, false, 0, .any⟩,
  ⟨10, 10, .u64, .ro, false, 0, .any⟩]

/-- The entries of the record at 0x1660 (18_supervisory_converter.md). -/
def rows1660 : List Row := [
  ⟨1, 64, .s32, .rw, false, 0, (.range (-131072) 131071)⟩]

/-- The entries of the record at 0x1680 (18_supervisory_converter.md). -/
def rows1680 : List Row := [
  ⟨1, 1, .enum8, .rw, true, 0, (.among [0, 1, 2])⟩,
  ⟨2, 9, .u16, .rw, true, 32768, (.range 0 65535)⟩]

/-- The entries of the record at 0x1700 (21_package_and_board.md). -/
def rows1700 : List Row := [
  ⟨1, 1, .u8, .ro, false, 0x1, .any⟩,
  ⟨2, 2, .bool8, .ro, false, 0, .any⟩,
  ⟨3, 3, .bool8, .wo, false, 0, (.among [1])⟩,
  ⟨4, 4, .u16, .rw, false, 11500, (.range 10500 12000)⟩,
  ⟨5, 5, .enum8, .ro, false, 0, .any⟩,
  ⟨6, 6, .u64, .ro, false, 0, .any⟩,
  ⟨7, 7, .u16, .ro, false, 700, .any⟩,
  ⟨8, 8, .enum8, .ro, false, 0, .any⟩,
  ⟨9, 9, .bits32, .rw, false, 0, (.bits 0xF)⟩]

/-- The entries of the record at 0x1710 (21_package_and_board.md). -/
def rows1710 : List Row := [
  ⟨1, 16, .u32, .rw, false, 0, .layout⟩,
  ⟨17, 17, .bits32, .ro, false, 0, .any⟩]

/-- The entries of the record at 0x1720 (21_package_and_board.md). -/
def rows1720 : List Row := [
  ⟨1, 1, .enum8, .rw, true, 1, (.among [0, 1, 2])⟩,
  ⟨2, 2, .octets 20, .wo, false, 0, .layout⟩,
  ⟨3, 3, .octets 20, .ro, false, 0, .any⟩]

/-- The entries of the record at 0x2000 (01_organisation.md). -/
def rows2000 : List Row := [
  ⟨1, 1, .bool8, .rw, true, 0, (.among [0, 1])⟩,
  ⟨2, 2, .enum8, .ro, false, 0, .any⟩,
  ⟨3, 3, .bits32, .ro, false, 0x0000000F, .any⟩]

/-- The entries of the record at 0x201C (01_organisation.md). -/
def rows201C : List Row := [
  ⟨1, 1, .enum8, .ro, false, 0, .any⟩,
  ⟨2, 2, .u64, .ro, false, 0, .any⟩,
  ⟨3, 3, .u64, .ro, false, 0, .any⟩,
  ⟨4, 4, .u64, .ro, false, 0, .any⟩,
  ⟨5, 5, .u16, .rw, true, 16, (.range 1 65535)⟩,
  ⟨6, 6, .u16, .rw, true, 8, (.range 1 1000)⟩]

/-- The entries of the record at 0x2020 (05_line_converters.md). -/
def rows2020 : List Row := [
  ⟨1, 1, .enum8, .ro, false, 0, .any⟩,
  ⟨2, 2, .u8, .rw, true, 36, (.range 16 64)⟩,
  ⟨3, 3, .u16, .wo, true, 0, (.rangeOr 0 4095 0xFFFF)⟩,
  ⟨4, 7, .u16, .ro, false, 2048, .any⟩,
  ⟨8, 11, .s16, .ro, false, 0, .any⟩,
  ⟨12, 12, .bool8, .ro, false, 0, .any⟩,
  ⟨13, 13, .u64, .ro, false, 0, .any⟩,
  ⟨14, 14, .u64, .ro, false, 0, .any⟩]

/-- The entries of the record at 0x2021 (05_line_converters.md). -/
def rows2021 : List Row := [
  ⟨1, 1, .u16, .rw, true, 200, (.range 50 1000)⟩,
  ⟨2, 2, .u8, .rw, true, 20, (.range 4 250)⟩,
  ⟨3, 3, .bool8, .wo, false, 0, (.among [1])⟩,
  ⟨4, 4, .bool8, .rw, true, 1, (.among [0, 1])⟩,
  ⟨5, 5, .bool8, .rw, false, 0, (.among [0, 1])⟩,
  ⟨6, 6, .u8, .rw, true, 3, (.range 1 15)⟩,
  ⟨7, 7, .bits32, .ro, false, 0, .any⟩,
  ⟨8, 11, .s16, .ro, false, 0, .any⟩,
  ⟨12, 12, .u64, .ro, false, 0, .any⟩,
  ⟨13, 13, .u64, .ro, false, 0, .any⟩,
  ⟨14, 14, .bits32, .ro, false, 0xFFFFFFFF, .any⟩]

/-- The entries of the record at 0x2028 (05_line_converters.md). -/
def rows2028 : List Row := [
  ⟨1, 132, .octets 8, .rwm, false, 0x0000400000000000, .layout⟩]

/-- The entries of the record at 0x2030 (05_line_converters.md). -/
def rows2030 : List Row := [
  ⟨1, 128, .u8, .ro, false, 0, .any⟩]

/-- The entries of the record at 0x2040 (05_line_converters.md). -/
def rows2040 : List Row := [
  ⟨1, 1, .u16, .rw, true, 200, (.range 1 4096)⟩,
  ⟨2, 2, .enum8, .ro, false, 0, .any⟩,
  ⟨3, 3, .bits32, .ro, false, 0, .any⟩,
  ⟨4, 4, .bool8, .wo, false, 0, (.among [1])⟩,
  ⟨5, 5, .bool8, .wo, false, 0, (.among [1])⟩,
  ⟨6, 6, .bits32, .ro, false, 0, .any⟩,
  ⟨7, 7, .bits32, .ro, false, 0, .any⟩,
  ⟨8, 8, .u64, .ro, false, 0, .any⟩]

/-- The entries of the record at 0x2060 (07_equalisation_and_watch.md). -/
def rows2060 : List Row := [
  ⟨1, 1, .enum8, .rw, true, 2, (.among [0, 1, 2])⟩,
  ⟨2, 2, .bool8, .ro, false, 0, .any⟩,
  ⟨3, 3, .u32, .ro, false, 0, .any⟩,
  ⟨4, 4, .u16, .ro, false, 0, .any⟩,
  ⟨5, 5, .u16, .ro, false, 0, .any⟩,
  ⟨6, 6, .bits32, .ro, false, 0, .any⟩,
  ⟨7, 7, .bits32, .ro, false, 0, .any⟩,
  ⟨8, 8, .u64, .ro, false, 0, .any⟩,
  ⟨9, 9, .u64, .ro, false, 0, .any⟩,
  ⟨10, 10, .u8, .rw, true, 5, (.among [1, 3, 5, 7, 9])⟩,
  ⟨11, 11, .u64, .ro, false, 0, .any⟩]

/-- The entries of the record at 0x2061 (07_equalisation_and_watch.md). -/
def rows2061 : List Row := [
  ⟨1, 64, .u16, .ro, false, 0, .any⟩]

/-- The entries of the record at 0x2062 (07_equalisation_and_watch.md). -/
def rows2062 : List Row := [
  ⟨1, 64, .u32, .ro, false, 0, .any⟩]

/-- The entries of the record at 0x2063 (07_equalisation_and_watch.md). -/
def rows2063 : List Row := [
  ⟨1, 8, .s32, .ro, false, 0, .any⟩]

/-- The entries of the record at 0x2080 (07_equalisation_and_watch.md). -/
def rows2080 : List Row := [
  ⟨1, 1, .enum8, .ro, false, 0, .any⟩,
  ⟨2, 2, .s32, .rw, false, 0, (.range (-160000) 160000)⟩,
  ⟨3, 3, .s32, .rw, false, 0, (.range (-160000) 160000)⟩,
  ⟨4, 4, .enum8, .ro, false, 2, .any⟩,
  ⟨5, 5, .enum8, .ro, false, 1, .any⟩,
  ⟨6, 6, .bool8, .wo, true, 0, (.among [1])⟩,
  ⟨7, 7, .u32, .rwm, false, 193100000, (.range 191000000 197000000)⟩,
  ⟨8, 8, .enum8, .rw, true, 2, (.among [0, 1, 2])⟩,
  ⟨9, 9, .s32, .ro, false, 0, .any⟩,
  ⟨10, 10, .enum8, .ro, false, 0, .any⟩,
  ⟨11, 11, .u32, .ro, false, 1180000, .any⟩,
  ⟨12, 12, .u64, .ro, false, 0, .any⟩,
  ⟨13, 13, .u16, .rw, true, 100, (.range 20 2000)⟩,
  ⟨14, 14, .s32, .ro, false, 0, .any⟩,
  ⟨15, 15, .s32, .ro, false, 0, .any⟩]

/-- The entries of the record at 0x20A0 (07_equalisation_and_watch.md). -/
def rows20A0 : List Row := [
  ⟨1, 1, .enum8, .ro, false, 0, .any⟩,
  ⟨2, 2, .u16, .ro, false, 0, .any⟩,
  ⟨3, 3, .u16, .ro, false, 0, .any⟩,
  ⟨4, 4, .enum8, .ro, false, 0, .any⟩,
  ⟨5, 5, .u8, .rw, true, 16, (.range 0 255)⟩,
  ⟨6, 6, .u8, .rw, true, 16, (.range 0 255)⟩,
  ⟨7, 7, .u8, .rw, true, 16, (.range 0 255)⟩,
  ⟨8, 8, .u16, .rw, true, 512, (.range 1 65535)⟩,
  ⟨9, 9, .u16, .rw, true, 2048, (.range 1 65535)⟩,
  ⟨10, 10, .u16, .rw, true, 3, (.range 1 1000)⟩,
  ⟨11, 11, .u32, .rw, true, 30000, (.range 100 6000000)⟩,
  ⟨12, 12, .bits32, .rw, true, 0x00000028, (.bits 0x7E)⟩,
  ⟨13, 13, .bool8, .rw, true, 0, (.among [0, 1])⟩,
  ⟨14, 14, .u32, .rw, true, 100000, (.range 10000 10000000)⟩,
  ⟨15, 15, .u16, .rw, true, 1000, (.range 1000 60000)⟩,
  ⟨16, 16, .u64, .ro, false, 0, .any⟩,
  ⟨17, 17, .u32, .ro, false, 0, .any⟩,
  ⟨18, 18, .u32, .ro, false, 0, .any⟩]

/-- The entries of the record at 0x2100 (06_subcarriers_and_loading.md). -/
def rows2100 : List Row := [
  ⟨1, 1, .u8, .ro, false, 4, .any⟩,
  ⟨2, 2, .u8, .ro, false, 4, .any⟩,
  ⟨3, 3, .s16, .rw, true, 0, (.range (-100) 30)⟩,
  ⟨4, 4, .s16, .ro, false, -32768, .any⟩,
  ⟨5, 5, .s16, .ro, false, 0, .any⟩,
  ⟨6, 6, .f32, .ro, false, 0, .any⟩,
  ⟨7, 7, .u8, .rw, true, 4, (.rangeOr 4 16 0)⟩,
  ⟨8, 8, .u8, .rw, false, 0, (.range 0 255)⟩,
  ⟨9, 9, .u8, .rw, false, 0, (.range 0 255)⟩,
  ⟨10, 10, .s16, .ro, false, 0, .any⟩]

/-- The entries of the record at 0x2140 (06_subcarriers_and_loading.md). -/
def rows2140 : List Row := [
  ⟨1, 1, .bool8, .rw, true, 0, (.among [0, 1])⟩,
  ⟨2, 2, .u16, .ro, false, 0, .any⟩,
  ⟨3, 3, .u8, .rwm, false, 0, (.range 0 63)⟩,
  ⟨4, 4, .u8, .rwm, false, 0, (.range 0 64)⟩,
  ⟨5, 5, .u16, .rwm, false, 0, (.range 0 65535)⟩,
  ⟨6, 6, .enum8, .rw, true, 1, (.among [0, 1, 2])⟩,
  ⟨7, 7, .bool8, .rw, true, 1, (.among [0, 1])⟩,
  ⟨8, 8, .enum8, .rw, true, 1, (.among [0, 1, 2])⟩,
  ⟨9, 9, .bool8, .wo, false, 0, (.among [1])⟩,
  ⟨10, 10, .u16, .rw, true, 1000, (.range 100 10000)⟩,
  ⟨11, 11, .u16, .rw, true, 100, (.range 0 1000)⟩,
  ⟨12, 12, .u16, .rw, true, 50, (.range 0 300)⟩,
  ⟨13, 13, .u16, .rw, true, 100, (.range 0 500)⟩,
  ⟨14, 14, .u8, .rw, true, 16, (.range 4 16)⟩,
  ⟨15, 15, .u8, .rw, true, 16, (.range 16 255)⟩,
  ⟨16, 16, .u16, .ro, false, 0, .any⟩,
  ⟨17, 17, .u16, .ro, false, 0, .any⟩,
  ⟨18, 18, .u64, .ro, false, 0, .any⟩,
  ⟨19, 19, .u16, .ro, false, 0, .any⟩,
  ⟨20, 20, .bits32, .rw, false, 0, (.bits 0x3)⟩,
  ⟨21, 21, .u8, .ro, false, 0, .any⟩,
  ⟨22, 22, .u64, .ro, false, 0, .any⟩,
  ⟨23, 23, .u64, .ro, false, 0, .any⟩,
  ⟨24, 24, .u64, .ro, false, 0, .any⟩]

/-- The entries of the record at 0x2160 (06_subcarriers_and_loading.md). -/
def rows2160 : List Row := [
  ⟨1, 1, .u8, .ro, false, 0, .any⟩,
  ⟨2, 2, .u8, .ro, false, 0, .any⟩,
  ⟨3, 3, .u32, .ro, false, 0, .any⟩,
  ⟨4, 4, .u64, .ro, false, 0, .any⟩,
  ⟨5, 5, .u64, .ro, false, 0, .any⟩]

/-- The entries of the record at 0x2800 (08_coding_and_decoder_pool.md). -/
def rows2800 : List Row := [
  ⟨1, 1, .u8, .ro, false, 48, .any⟩,
  ⟨2, 2, .u32, .ro, false, 67200, .any⟩,
  ⟨3, 3, .u8, .rw, true, 24, (.range 2 24)⟩,
  ⟨4, 4, .u32, .ro, false, 0, .any⟩,
  ⟨5, 5, .u32, .ro, false, 0, .any⟩,
  ⟨6, 6, .u32, .ro, false, 0, .any⟩,
  ⟨7, 7, .u64, .ro, false, 0, .any⟩,
  ⟨8, 8, .u64, .ro, false, 0, .any⟩,
  ⟨9, 9, .u64, .ro, false, 0, .any⟩,
  ⟨10, 10, .u64, .ro, false, 0, .any⟩]

/-- The entries of the record at 0x2801 (08_coding_and_decoder_pool.md). -/
def rows2801 : List Row := [
  ⟨1, 52, .enum8, .ro, false, 1, .any⟩]

/-- The entries of the record at 0x2810 (08_coding_and_decoder_pool.md). -/
def rows2810 : List Row := [
  ⟨1, 1, .u8, .rw, true, 8, (.range 2 24)⟩,
  ⟨2, 2, .u8, .rw, true, 0, (.range 0 8)⟩,
  ⟨3, 3, .u8, .ro, false, 8, .any⟩,
  ⟨4, 4, .u16, .ro, false, 0, .any⟩,
  ⟨5, 5, .u8, .ro, false, 0, .any⟩,
  ⟨6, 6, .u16, .ro, false, 0, .any⟩,
  ⟨7, 7, .u16, .ro, false, 0, .any⟩,
  ⟨8, 8, .u64, .ro, false, 0, .any⟩,
  ⟨9, 9, .u64, .ro, false, 0, .any⟩,
  ⟨10, 10, .u64, .ro, false, 0, .any⟩,
  ⟨11, 11, .u64, .ro, false, 0, .any⟩,
  ⟨12, 12, .u64, .ro, false, 0, .any⟩,
  ⟨13, 13, .u64, .ro, false, 0, .any⟩]

/-- The entries of the record at 0x2900 (09_tick_frame_and_cells.md). -/
def rows2900 : List Row := [
  ⟨1, 1, .u16, .rw, true, 0, (.range 0 65535)⟩,
  ⟨2, 2, .u16, .rw, true, 2, (.range 2 1000)⟩,
  ⟨3, 3, .u16, .rw, true, 8, (.range 2 1000)⟩,
  ⟨4, 4, .u32, .ro, false, 2350000, .any⟩]

/-- The entries of the record at 0x2910 (09_tick_frame_and_cells.md). -/
def rows2910 : List Row := [
  ⟨1, 1, .enum8, .ro, false, 0, .any⟩,
  ⟨2, 2, .u16, .ro, false, 0, .any⟩,
  ⟨3, 3, .u16, .ro, false, 0, .any⟩,
  ⟨4, 4, .u32, .ro, false, 0, .any⟩,
  ⟨5, 5, .u16, .ro, false, 0, .any⟩,
  ⟨6, 6, .u64, .ro, false, 0, .any⟩,
  ⟨7, 7, .u64, .ro, false, 0, .any⟩,
  ⟨8, 8, .u64, .ro, false, 0, .any⟩,
  ⟨9, 9, .u64, .ro, false, 0, .any⟩,
  ⟨10, 10, .u64, .ro, false, 0, .any⟩,
  ⟨11, 11, .u64, .ro, false, 0, .any⟩,
  ⟨12, 12, .u64, .ro, false, 0, .any⟩,
  ⟨13, 13, .u64, .ro, false, 0, .any⟩,
  ⟨14, 14, .u64, .ro, false, 0, .any⟩,
  ⟨15, 15, .u64, .ro, false, 0, .any⟩]

/-- The entries of the record at 0x3000 (10_berths.md). -/
def rows3000 : List Row := [
  ⟨1, 1, .enum8, .ro, false, 0, .any⟩,
  ⟨2, 2, .enum8, .ro, false, 0, .any⟩,
  ⟨3, 3, .u8, .rw, true, 0, (.range 0 4)⟩,
  ⟨4, 4, .bool8, .ro, false, 1, .any⟩]

/-- The entries of the record at 0x3001 (10_berths.md). -/
def rows3001 : List Row := [
  ⟨1, 1, .u16, .rw, true, 9600, (.range 1518 12288)⟩,
  ⟨2, 2, .enum8, .rw, true, 0, (.among [0, 1])⟩,
  ⟨3, 3, .u8, .rw, true, 0, (.range 0 7)⟩,
  ⟨4, 4, .bits32, .rw, true, 0, (.bits 0x3)⟩,
  ⟨5, 5, .bits32, .rw, true, 0xFF, (.bits 0xFF)⟩,
  ⟨6, 6, .bits32, .rw, true, 0xFF, (.bits 0xFF)⟩,
  ⟨7, 7, .u16, .rw, true, 65535, (.range 256 65535)⟩,
  ⟨8, 8, .u16, .rw, true, 1000, (.range 100 20000)⟩,
  ⟨9, 9, .s32, .rw, false, 0, (.range (-100000) 100000)⟩,
  ⟨10, 10, .s32, .rw, false, 0, (.range (-100000) 100000)⟩,
  ⟨11, 11, .bits32, .ro, false, 0, .any⟩,
  ⟨12, 12, .bits32, .ro, false, 0, .any⟩,
  ⟨13, 13, .bits32, .ro, false, 0, .any⟩,
  ⟨14, 14, .octets 1020, .wo, false, 0, .layout⟩]

/-- The entries of the record at 0x3003 (10_berths.md). -/
def rows3003 : List Row := [
  ⟨1, 1, .u64, .ro, false, 0, .any⟩,
  ⟨2, 2, .u64, .ro, false, 0, .any⟩,
  ⟨3, 3, .u64, .ro, false, 0, .any⟩,
  ⟨4, 4, .u64, .ro, false, 0, .any⟩,
  ⟨5, 5, .u64, .ro, false, 0, .any⟩,
  ⟨6, 6, .u64, .ro, false, 0, .any⟩,
  ⟨7, 7, .u64, .ro, false, 0, .any⟩,
  ⟨8, 8, .u64, .ro, false, 0, .any⟩,
  ⟨9, 9, .u64, .ro, false, 0, .any⟩,
  ⟨10, 10, .u64, .ro, false, 0, .any⟩,
  ⟨11, 11, .u64, .ro, false, 0, .any⟩,
  ⟨12, 12, .u64, .ro, false, 0, .any⟩]

/-- The entries of the record at 0x3004 (10_berths.md). -/
def rows3004 : List Row := [
  ⟨1, 64, .u32, .rw, true, 0, .layout⟩,
  ⟨65, 65, .u16, .rw, true, 0xFFFF, (.rangeOr 0 4095 0xFFFF)⟩]

/-- The entries of the record at 0x300F (10_berths.md). -/
def rows300F : List Row := [
  ⟨1, 1, .u32, .rwm, false, 0x11111111, .layout⟩]

/-- The entries of the record at 0x3400 (11_consignments_and_basin.md). -/
def rows3400 : List Row := [
  ⟨1, 1, .u16, .rw, true, 0x2345, .layout⟩,
  ⟨2, 2, .u16, .rw, false, 0, (.range 0 4095)⟩,
  ⟨3, 3, .u16, .ro, false, 0, .any⟩,
  ⟨4, 4, .u64, .ro, false, 0, .any⟩,
  ⟨5, 5, .u64, .ro, false, 0, .any⟩,
  ⟨6, 6, .u8, .rw, true, 2, (.range 1 16)⟩,
  ⟨7, 7, .u64, .ro, false, 0, .any⟩]

/-- The entries of the record at 0x3401 (11_consignments_and_basin.md). -/
def rows3401 : List Row := [
  ⟨1, 1, .u16, .ro, false, 0, .any⟩,
  ⟨2, 2, .u16, .ro, false, 0, .any⟩,
  ⟨3, 3, .u64, .ro, false, 0, .any⟩,
  ⟨4, 4, .u64, .ro, false, 0, .any⟩,
  ⟨5, 5, .u64, .ro, false, 0, .any⟩,
  ⟨6, 6, .u16, .ro, false, 0, .any⟩,
  ⟨7, 7, .u64, .ro, false, 0, .any⟩,
  ⟨8, 8, .u64, .ro, false, 0, .any⟩,
  ⟨9, 9, .u64, .ro, false, 0, .any⟩,
  ⟨10, 10, .u64, .ro, false, 0, .any⟩,
  ⟨11, 11, .u64, .ro, false, 0, .any⟩,
  ⟨12, 12, .u64, .ro, false, 0, .any⟩,
  ⟨13, 13, .u64, .ro, false, 0, .any⟩]

/-- The entries of the record at 0x3420 (11_consignments_and_basin.md). -/
def rows3420 : List Row := [
  ⟨1, 128, .u32, .rw, true, 0, .layout⟩]

/-- The entries of the record at 0x3440 (11_consignments_and_basin.md). -/
def rows3440 : List Row := [
  ⟨1, 128, .u8, .rw, true, 0, (.range 0 7)⟩]

/-- The entries of the record at 0x3500 (11_consignments_and_basin.md). -/
def rows3500 : List Row := [
  ⟨1, 1, .u8, .rw, true, 4, (.range 1 100)⟩,
  ⟨2, 2, .u32, .ro, false, 0, .any⟩,
  ⟨3, 3, .u32, .ro, false, 0xFFFFFFFF, .any⟩,
  ⟨4, 4, .u64, .ro, false, 0, .any⟩,
  ⟨5, 5, .u64, .ro, false, 0, .any⟩,
  ⟨6, 6, .u64, .ro, false, 0, .any⟩,
  ⟨7, 7, .u64, .ro, false, 0, .any⟩,
  ⟨8, 8, .u64, .ro, false, 0, .any⟩,
  ⟨9, 9, .u64, .ro, false, 0, .any⟩]

/-- The entries of the record at 0x3510 (11_consignments_and_basin.md). -/
def rows3510 : List Row := [
  ⟨1, 1, .u16, .rwm, false, 64, (.range 16 256)⟩,
  ⟨2, 2, .u64, .ro, false, 0, .any⟩,
  ⟨3, 3, .u64, .ro, false, 0, .any⟩,
  ⟨4, 4, .u16, .rw, true, 9000, (.range 5000 9800)⟩,
  ⟨5, 5, .u16, .rw, true, 8500, (.range 4000 9700)⟩,
  ⟨6, 6, .u16, .rw, true, 100, (.range 50 1000)⟩,
  ⟨7, 7, .enum8, .ro, false, 0, .any⟩,
  ⟨8, 8, .u32, .ro, false, 0, .any⟩,
  ⟨9, 9, .u32, .ro, false, 0, .any⟩,
  ⟨10, 10, .u32, .ro, false, 0, .any⟩]

/-- The entries of the record at 0x3520 (11_consignments_and_basin.md). -/
def rows3520 : List Row := [
  ⟨1, 1, .enum8, .ro, false, 0, .any⟩,
  ⟨2, 2, .enum8, .ro, false, 0, .any⟩,
  ⟨3, 3, .u8, .ro, false, 0, .any⟩,
  ⟨4, 4, .u64, .ro, false, 0, .any⟩,
  ⟨5, 5, .u64, .ro, false, 0, .any⟩,
  ⟨6, 6, .u64, .ro, false, 0, .any⟩,
  ⟨7, 7, .u64, .ro, false, 0, .any⟩,
  ⟨8, 8, .u64, .ro, false, 0, .any⟩]

/-- The entries of the record at 0x3530 (19_assay_integrity_stockpile.md). -/
def rows3530 : List Row := [
  ⟨1, 1, .u32, .rw, true, 86400, (.range 3600 2592000)⟩,
  ⟨2, 2, .u64, .ro, false, 0, .any⟩,
  ⟨3, 3, .u64, .ro, false, 0, .any⟩,
  ⟨4, 4, .u64, .ro, false, 0, .any⟩,
  ⟨5, 5, .u64, .rw, false, 0, .layout⟩,
  ⟨6, 6, .octets 16, .ro, false, 0, .any⟩,
  ⟨7, 7, .u64, .ro, false, 0, .any⟩]

/-- The entries of the record at 0x3540 (11_consignments_and_basin.md). -/
def rows3540 : List Row := [
  ⟨1, 1, .u16, .ro, false, 32, .any⟩,
  ⟨2, 2, .enum8, .ro, false, 0, .any⟩,
  ⟨3, 3, .u64, .ro, false, 0, .any⟩]

/-- The entries of the record at 0x3580 (12_restoration.md). -/
def rows3580 : List Row := [
  ⟨1, 1, .bool8, .rw, true, 0, (.among [0, 1])⟩,
  ⟨2, 2, .u16, .rw, true, 100, (.range 10 10000)⟩,
  ⟨3, 3, .bool8, .ro, false, 0, .any⟩,
  ⟨4, 4, .u64, .ro, false, 0, .any⟩,
  ⟨5, 5, .u8, .ro, false, 0xFF, .any⟩]

/-- The entries of the record at 0x3590 (12_restoration.md). -/
def rows3590 : List Row := [
  ⟨1, 1, .enum8, .rwm, false, 0, (.among [0, 1, 2, 3])⟩,
  ⟨2, 2, .u8, .rwm, false, 0, (.range 0 3)⟩,
  ⟨3, 3, .u8, .rwm, false, 0, (.range 0 3)⟩,
  ⟨4, 4, .enum8, .rw, true, 0, (.among [0, 1])⟩,
  ⟨5, 5, .enum8, .rw, true, 0, (.among [0, 1])⟩,
  ⟨6, 6, .bool8, .rw, true, 1, (.among [0, 1])⟩,
  ⟨7, 7, .u32, .rw, true, 30000000, (.range 100000 360000000)⟩,
  ⟨8, 8, .u16, .rw, true, 20, (.range 4 2000)⟩,
  ⟨9, 9, .u16, .rw, true, 64, (.range 8 1000)⟩,
  ⟨10, 10, .u32, .rw, true, 5000, (.range 1000 1000000)⟩,
  ⟨11, 11, .enum8, .rw, true, 1, (.among [0, 1, 2])⟩,
  ⟨12, 12, .u8, .rwm, false, 0xFF, (.rangeOr 0 15 0xFF)⟩,
  ⟨13, 13, .u16, .rw, true, 0, (.range 0 65535)⟩,
  ⟨14, 14, .u16, .rw, true, 0, (.range 0 65535)⟩,
  ⟨15, 15, .enum8, .wo, true, 0, (.among [1, 2, 3])⟩,
  ⟨16, 16, .enum8, .ro, false, 0, .any⟩,
  ⟨17, 17, .u8, .ro, false, 0, .any⟩,
  ⟨18, 18, .enum8, .ro, false, 0, .any⟩,
  ⟨19, 19, .octets 8, .rw, false, 0xFFFFFFFFFFFFFFFF, .any⟩,
  ⟨20, 20, .octets 8, .rw, false, 0xFFFFFFFFFFFFFFFF, .any⟩,
  ⟨21, 21, .u64, .ro, false, 0, .any⟩,
  ⟨22, 22, .u32, .ro, false, 0, .any⟩,
  ⟨23, 23, .u64, .ro, false, 0, .any⟩,
  ⟨24, 24, .u64, .ro, false, 0, .any⟩]

/-- The entries of the record at 0x3800 (13_line_encryption.md). -/
def rows3800 : List Row := [
  ⟨1, 1, .u8, .ro, false, 32, .any⟩,
  ⟨2, 2, .u32, .ro, false, 32768000, .any⟩,
  ⟨3, 3, .u32, .ro, false, 0, .any⟩,
  ⟨4, 4, .u64, .ro, false, 0, .any⟩,
  ⟨5, 5, .u64, .ro, false, 0, .any⟩,
  ⟨6, 6, .u64, .ro, false, 0, .any⟩,
  ⟨7, 7, .u64, .ro, false, 0, .any⟩,
  ⟨8, 8, .enum8, .ro, false, 0, .any⟩]

/-- The entries of the record at 0x3801 (13_line_encryption.md). -/
def rows3801 : List Row := [
  ⟨1, 36, .enum8, .ro, false, 1, .any⟩]

/-- The entries of the record at 0x3802 (13_line_encryption.md). -/
def rows3802 : List Row := [
  ⟨1, 128, .enum8, .ro, false, 0, .any⟩]

/-- The entries of the record at 0x3803 (13_line_encryption.md). -/
def rows3803 : List Row := [
  ⟨1, 128, .octets 8, .ro, false, 0, .any⟩]

/-- The entries of the record at 0x3804 (13_line_encryption.md). -/
def rows3804 : List Row := [
  ⟨1, 1, .octets 60, .wo, false, 0, .layout⟩,
  ⟨2, 2, .u8, .wo, false, 0, (.range 1 16)⟩,
  ⟨3, 3, .u8, .wo, true, 0, (.range 1 127)⟩,
  ⟨4, 4, .u64, .ro, false, 0, .any⟩,
  ⟨5, 5, .u64, .ro, false, 0, .any⟩]

/-- The entries of the record at 0x3805 (13_line_encryption.md). -/
def rows3805 : List Row := [
  ⟨1, 16, .octets 60, .wo, false, 0, .layout⟩]

/-- The entries of the record at 0x3820 (13_line_encryption.md). -/
def rows3820 : List Row := [
  ⟨1, 1, .bool8, .rw, false, 0, (.among [0, 1])⟩,
  ⟨2, 2, .u8, .rw, false, 1, (.range 1 127)⟩,
  ⟨3, 3, .enum8, .ro, false, 0, .any⟩,
  ⟨4, 4, .u32, .ro, false, 0, .any⟩,
  ⟨5, 5, .u32, .ro, false, 0, .any⟩,
  ⟨6, 6, .u64, .ro, false, 0, .any⟩,
  ⟨7, 7, .u64, .rw, true, 2147483648, (.range 16777216 1099511627776)⟩,
  ⟨8, 8, .u8, .rw, true, 64, (.range 16 255)⟩,
  ⟨9, 9, .bool8, .wo, false, 0, (.among [1])⟩,
  ⟨10, 10, .enum8, .ro, false, 0, .any⟩,
  ⟨11, 11, .u64, .ro, false, 0, .any⟩,
  ⟨12, 12, .u64, .ro, false, 0, .any⟩,
  ⟨13, 13, .u64, .ro, false, 0, .any⟩,
  ⟨14, 14, .u16, .rw, true, 8, (.range 2 1000)⟩,
  ⟨15, 15, .u64, .ro, false, 0, .any⟩,
  ⟨16, 16, .u64, .ro, false, 0, .any⟩]

/-- The entries of the record at 0x4000 (14_timing_core.md). -/
def rows4000 : List Row := [
  ⟨1, 1, .enum8, .ro, false, 0, .any⟩,
  ⟨2, 2, .u8, .ro, false, 0xFF, .any⟩,
  ⟨3, 3, .bool8, .rw, true, 1, (.among [0, 1])⟩,
  ⟨4, 4, .u16, .rw, true, 100, (.range 10 10000)⟩,
  ⟨5, 5, .u16, .rw, true, 75, (.range 10 10000)⟩,
  ⟨6, 6, .s32, .wo, true, 0, (.range (-500000) 500000)⟩,
  ⟨7, 7, .s64, .ro, false, 0, .any⟩,
  ⟨8, 8, .u8, .rw, true, 0xFF, (.rangeOr 0 11 0xFF)⟩,
  ⟨9, 9, .u16, .rw, true, 460, (.range 10 5000)⟩,
  ⟨10, 10, .bool8, .ro, false, 0, .any⟩,
  ⟨11, 11, .s32, .ro, false, 0, .any⟩,
  ⟨12, 12, .u64, .ro, false, 0, .any⟩,
  ⟨13, 13, .bool8, .ro, false, 0, .any⟩,
  ⟨14, 14, .bool8, .rw, true, 1, (.among [0, 1])⟩,
  ⟨15, 15, .bool8, .wo, true, 0, (.among [1])⟩,
  ⟨16, 16, .u64, .ro, false, 0, .any⟩,
  ⟨17, 17, .u16, .rw, true, 920, (.range 100 10000)⟩]

/-- The entries of the record at 0x4001 (14_timing_core.md). -/
def rows4001 : List Row := [
  ⟨1, 1, .u16, .rw, true, 900, (.range 60 3600)⟩,
  ⟨2, 2, .u16, .rw, true, 60, (.range 10 300)⟩,
  ⟨3, 3, .bool8, .ro, false, 0, .any⟩,
  ⟨4, 4, .s32, .ro, false, 0, .any⟩,
  ⟨5, 5, .u16, .ro, false, 0, .any⟩]

/-- The entries of the record at 0x4010 (14_timing_core.md). -/
def rows4010 : List Row := [
  ⟨1, 1, .u8, .rw, true, 15, (.range 1 15)⟩,
  ⟨2, 2, .u32, .rw, true, 1000000, (.range 100000 60000000)⟩,
  ⟨3, 3, .enum8, .ro, false, 0, .any⟩,
  ⟨4, 4, .u32, .rw, true, 10000000, (.range 1000 800000000)⟩,
  ⟨5, 5, .enum8, .rw, true, 0, (.among [0, 1, 2])⟩,
  ⟨6, 6, .u8, .rw, true, 0, (.range 0 7)⟩,
  ⟨7, 7, .s32, .ro, false, 0, .any⟩,
  ⟨8, 8, .s32, .ro, false, 0, .any⟩,
  ⟨9, 9, .u64, .ro, false, 0, .any⟩]

/-- The entries of the record at 0x4060 (14_timing_core.md). -/
def rows4060 : List Row := [
  ⟨1, 1, .u8, .rw, true, 0, (.range 0 7)⟩,
  ⟨2, 2, .u16, .rw, true, 100, (.range 10 10000)⟩,
  ⟨3, 3, .u8, .rw, true, 16, (.range 1 255)⟩,
  ⟨4, 4, .u32, .rwm, false, 193100000, (.range 191000000 197000000)⟩,
  ⟨5, 5, .u32, .rw, false, 0, (.range 0 1000000)⟩,
  ⟨6, 6, .u32, .rw, false, 0, (.range 0 1000000)⟩,
  ⟨7, 7, .s32, .rw, false, 0, (.range (-1000000) 1000000)⟩,
  ⟨8, 8, .bool8, .ro, false, 0, .any⟩,
  ⟨9, 9, .u64, .ro, false, 0, .any⟩,
  ⟨10, 10, .s32, .ro, false, 0, .any⟩,
  ⟨11, 11, .u64, .ro, false, 0, .any⟩,
  ⟨12, 12, .s64, .ro, false, 0, .any⟩,
  ⟨13, 13, .u64, .ro, false, 0, .any⟩]

/-- The entries of the record at 0x4070 (14_timing_core.md). -/
def rows4070 : List Row := [
  ⟨1, 1, .octets 20, .wo, false, 0, .layout⟩,
  ⟨2, 2, .bool8, .rw, false, 0, (.among [0, 1])⟩,
  ⟨3, 3, .enum8, .ro, false, 0, .any⟩,
  ⟨4, 4, .octets 20, .ro, false, 0, .any⟩]

/-- The entries of the record at 0x40C0 (02_tick_and_crossings.md). -/
def rows40C0 : List Row := [
  ⟨1, 1, .u64, .ro, false, 0, .any⟩,
  ⟨2, 2, .u16, .ro, false, 7500, .any⟩,
  ⟨3, 3, .u64, .ro, false, 0, .any⟩,
  ⟨4, 4, .u64, .ro, false, 0, .any⟩,
  ⟨5, 5, .u64, .ro, false, 0, .any⟩,
  ⟨6, 6, .u64, .ro, false, 0, .any⟩]

/-- The entries of the record at 0x40C1 (02_tick_and_crossings.md). -/
def rows40C1 : List Row := [
  ⟨1, 1, .u64, .ro, false, 0, .any⟩,
  ⟨2, 2, .u32, .ro, false, 0, .any⟩]

/-- The entries of the record at 0x4100 (15_towpath.md). -/
def rows4100 : List Row := [
  ⟨1, 1, .enum8, .rw, true, 3, (.among [0, 1, 2, 3])⟩,
  ⟨2, 2, .u16, .rw, true, 20, (.range 4 1000)⟩,
  ⟨3, 3, .bits32, .ro, false, 0, .any⟩,
  ⟨4, 4, .bool8, .wo, false, 0, (.among [1])⟩,
  ⟨5, 5, .u64, .ro, false, 0, .any⟩,
  ⟨6, 6, .u64, .ro, false, 0, .any⟩]

/-- The entries of the record at 0x4110 (15_towpath.md). -/
def rows4110 : List Row := [
  ⟨1, 1, .enum8, .ro, false, 0, .any⟩,
  ⟨2, 2, .enum8, .rw, false, 0, (.among [0, 1, 2, 3])⟩,
  ⟨3, 3, .enum8, .ro, false, 0, .any⟩,
  ⟨4, 4, .bool8, .wo, false, 0, (.among [1])⟩,
  ⟨5, 5, .u64, .ro, false, 0, .any⟩,
  ⟨6, 6, .u64, .ro, false, 0, .any⟩,
  ⟨7, 7, .u64, .ro, false, 0, .any⟩]

/-- The entries of the record at 0x5000 (16_engine_programming.md). -/
def rows5000 : List Row := [
  ⟨1, 1, .u8, .ro, false, 16, .any⟩,
  ⟨2, 2, .bits32, .rw, true, 0, (.bits 0xFFFF)⟩,
  ⟨3, 3, .bits32, .wo, false, 0, (.bits 0xFFFF)⟩,
  ⟨4, 4, .enum8, .ro, false, 0, .any⟩,
  ⟨5, 5, .u8, .ro, false, 0x00, .any⟩,
  ⟨6, 6, .u16, .rw, true, 16, (.range 1 1000)⟩,
  ⟨7, 7, .enum8, .ro, false, 0, .any⟩]

/-- The entries of the record at 0x5010 (16_engine_programming.md). -/
def rows5010 : List Row := [
  ⟨1, 1, .enum8, .ro, false, 0, .any⟩,
  ⟨2, 2, .u8, .ro, false, 0, .any⟩,
  ⟨3, 3, .u32, .ro, false, 0, .any⟩,
  ⟨4, 4, .u16, .ro, false, 0, .any⟩,
  ⟨5, 5, .u64, .ro, false, 0, .any⟩,
  ⟨6, 6, .u64, .ro, false, 0, .any⟩,
  ⟨7, 7, .u8, .ro, false, 0, .any⟩,
  ⟨8, 8, .u32, .ro, false, 0, .any⟩,
  ⟨9, 9, .u32, .ro, false, 0, .any⟩]

/-- The entries of the record at 0x5300 (17_engine_partitions_and_counters.md). -/
def rows5300 : List Row := [
  ⟨1, 1, .bits32, .ro, false, 0x0000000F, .any⟩,
  ⟨2, 2, .bits32, .ro, false, 0, .any⟩]

/-- The entries of the record at 0x5310 (17_engine_partitions_and_counters.md). -/
def rows5310 : List Row := [
  ⟨1, 1, .u8, .rwm, false, 8, (.range 8 11)⟩,
  ⟨2, 2, .u8, .rwm, false, 1, (.range 0 2)⟩,
  ⟨3, 3, .bits32, .rw, true, 0, (.bits 0x1F)⟩,
  ⟨4, 4, .bool8, .rw, true, 0, (.among [0, 1])⟩,
  ⟨5, 5, .u8, .ro, false, 16, .any⟩,
  ⟨6, 6, .u64, .ro, false, 0, .any⟩,
  ⟨7, 7, .u64, .ro, false, 0, .any⟩]

/-- The entries of the record at 0x5400 (17_engine_partitions_and_counters.md). -/
def rows5400 : List Row := [
  ⟨1, 1, .u64, .ro, false, 0, .any⟩,
  ⟨2, 2, .u64, .ro, false, 0, .any⟩,
  ⟨3, 3, .u64, .ro, false, 0, .any⟩,
  ⟨4, 4, .u64, .ro, false, 0, .any⟩,
  ⟨5, 5, .u64, .ro, false, 0, .any⟩,
  ⟨6, 9, .u64, .ro, false, 0, .any⟩,
  ⟨10, 13, .u8, .rw, true, 0, (.range 0 15)⟩,
  ⟨14, 14, .bits32, .ro, false, 0, .any⟩,
  ⟨15, 15, .bits32, .wo, false, 0, (.bits 0x1FF)⟩,
  ⟨16, 16, .u64, .ro, false, 0, .any⟩,
  ⟨17, 17, .u64, .ro, false, 0, .any⟩]

/-- Records 0 to 19 of the dictionary, by base index. -/
def objRecords0 : List (Nat × List Row) := [
  (0x1001, rows1001),
  (0x1100, rows1100),
  (0x1110, rows1110),
  (0x1120, rows1120),
  (0x1180, rows1180),
  (0x1200, rows1200),
  (0x1210, rows1210),
  (0x1211, rows1211),
  (0x1220, rows1220),
  (0x1300, rows1300),
  (0x1400, rows1400),
  (0x1410, rows1410),
  (0x1500, rows1500),
  (0x1510, rows1510),
  (0x1540, rows1540),
  (0x1541, rows1541),
  (0x1550, rows1550),
  (0x1600, rows1600),
  (0x1601, rows1601),
  (0x1602, rows1602)]

/-- Records 20 to 39 of the dictionary, by base index. -/
def objRecords1 : List (Nat × List Row) := [
  (0x1603, rows1603),
  (0x1604, rows1604),
  (0x1620, rows1620),
  (0x1640, rows1640),
  (0x1660, rows1660),
  (0x1680, rows1680),
  (0x1700, rows1700),
  (0x1710, rows1710),
  (0x1720, rows1720),
  (0x2000, rows2000),
  (0x201C, rows201C),
  (0x2020, rows2020),
  (0x2021, rows2021),
  (0x2028, rows2028),
  (0x2030, rows2030),
  (0x2040, rows2040),
  (0x2060, rows2060),
  (0x2061, rows2061),
  (0x2062, rows2062),
  (0x2063, rows2063)]

/-- Records 40 to 59 of the dictionary, by base index. -/
def objRecords2 : List (Nat × List Row) := [
  (0x2080, rows2080),
  (0x20A0, rows20A0),
  (0x2100, rows2100),
  (0x2140, rows2140),
  (0x2160, rows2160),
  (0x2800, rows2800),
  (0x2801, rows2801),
  (0x2810, rows2810),
  (0x2900, rows2900),
  (0x2910, rows2910),
  (0x3000, rows3000),
  (0x3001, rows3001),
  (0x3003, rows3003),
  (0x3004, rows3004),
  (0x300F, rows300F),
  (0x3400, rows3400),
  (0x3401, rows3401),
  (0x3420, rows3420),
  (0x3440, rows3440),
  (0x3500, rows3500)]

/-- Records 60 to 79 of the dictionary, by base index. -/
def objRecords3 : List (Nat × List Row) := [
  (0x3510, rows3510),
  (0x3520, rows3520),
  (0x3530, rows3530),
  (0x3540, rows3540),
  (0x3580, rows3580),
  (0x3590, rows3590),
  (0x3800, rows3800),
  (0x3801, rows3801),
  (0x3802, rows3802),
  (0x3803, rows3803),
  (0x3804, rows3804),
  (0x3805, rows3805),
  (0x3820, rows3820),
  (0x4000, rows4000),
  (0x4001, rows4001),
  (0x4010, rows4010),
  (0x4060, rows4060),
  (0x4070, rows4070),
  (0x40C0, rows40C0),
  (0x40C1, rows40C1)]

/-- Records 80 to 86 of the dictionary, by base index. -/
def objRecords4 : List (Nat × List Row) := [
  (0x4100, rows4100),
  (0x4110, rows4110),
  (0x5000, rows5000),
  (0x5010, rows5010),
  (0x5300, rows5300),
  (0x5310, rows5310),
  (0x5400, rows5400)]

/-- Every record of the dictionary, by base index. -/
def objRecords : List (Nat × List Row) :=
  objRecords0 ++ objRecords1 ++ objRecords2 ++ objRecords3 ++ objRecords4

end Sys2Proof.Machine
end

