-- ==== Sys2Proof/Machine/State.lean ====
section
/-! DEFINITION. The state of the block: every register of the object dictionary (one sparse table), the BAR space, the
internal state of every unit the spec describes, and the queue of commands that are waiting. Plain data throughout.
Every field's docstring names the rule that gives it; INVENTORY.md lists them with their reset values. -/
namespace Sys2Proof.Machine

/-- Reasons to stop with a fault. No command of the table faults: the type is closed and empty of spec faults; the one
constructor is raised by nobody and stands so that the type is inhabited (safe). -/
inductive Fault where
  /-- raised by no command; safe -/
  | none
  deriving DecidableEq, Repr

/-- Reasons to refuse. -/
inductive Refusal where
  /-- an arm of exec that has no meaning yet (Dispatch.lean raises it); safe -/
  | notModelled (mnemonic : String)
  deriving DecidableEq, Repr

/-! ### The tick, staging, crossings and the event log (chapters 2 and 3) -/

/-- An event on its way to the log (Table 3.7a: everything but the sequence). -/
structure Event where
  code : Nat
  source : Nat
  arg : Nat
  /-- powered ticks at the event (R7) -/
  tick : Nat
  /-- lifetime powered seconds at the event (R7) -/
  life : Nat
  deriving DecidableEq, Repr

/-- One entry of the event log (Table 3.7a). -/
structure LogEntry where
  seq : Nat
  ev : Event
  deriving DecidableEq, Repr

/-- A write in the open staging window (R32), in accept order. -/
structure StagedWrite where
  key : Nat
  val : Int
  deriving DecidableEq, Repr

/-- Where a request came from, so that its reply goes back there. -/
inductive Via where
  /-- a request given to the agent as a command of its own (READ, WRITE, …) -/
  | direct
  /-- the management port: the address and UDP port that sent it (R84) -/
  | udp (addr port : Nat)
  /-- a mailbox slot (R87) -/
  | slot (n : Nat)
  deriving DecidableEq, Repr

/-- What a reply echoes (R77). -/
structure ReqCtx where
  via : Via
  sess : Nat
  seq : Nat
  opcode : Nat
  index : Nat
  sub : Nat
  deriving DecidableEq, Repr

/-- A staged write that waits for the next window (R33, R58). -/
structure HeldWrite where
  ctx : ReqCtx
  entries : List StagedWrite
  deriving DecidableEq, Repr

/-- The rate limit of one event source (R231): the tick its period ends and what it held back. -/
structure RateLimit where
  code : Nat
  source : Nat
  /-- the flow, channel or slot, 0 where the limit is for the source alone -/
  item : Nat
  ends : Nat
  held : Nat
  /-- the last item named (EQ_REACQUIRED's sub-carrier) -/
  last : Nat := 0
  deriving DecidableEq, Repr

/-- A chamber (R40, R41): whether its acknowledge is outstanding, the value in the chamber register, and the waiting
register. -/
structure Chamber where
  busy : Bool := false
  value : Nat := 0
  waiting : Option Nat := none
  delivered : Nat := 0
  deriving DecidableEq, Repr

/-- A tally (R42): the source's 16-bit counter (binary of its Gray code) and the destination's previous value. -/
structure Tally where
  src : Nat := 0
  dst : Nat := 0
  total : Nat := 0
  deriving DecidableEq, Repr

/-- Chapter 2 and the event log of chapter 3. -/
structure CoreSt where
  /-- the first boundary after RESET_N has passed (R27) -/
  running : Bool := false
  /-- the tick count of the tick in progress (R27) -/
  tick : Nat := 0
  /-- the staging window of the next boundary is open (R32) -/
  windowOpen : Bool := false
  /-- the boundary the last tick marker names (R18) -/
  marker : Option Nat := none
  /-- the open or closed window's writes, in accept order (R32–R34) -/
  window : List StagedWrite := []
  /-- staged writes that wait (R33, R58), in arrival order -/
  held : List HeldWrite := []
  /-- domains fixed as due to be released at the next boundary (R59) -/
  due : List Nat := []
  /-- events raised and not yet delivered to the log (Table 2.4: a tally and a chamber for the argument) -/
  inFlight : List Event := []
  /-- the event log ring, oldest first, at most 4,096 entries (R68) -/
  log : List LogEntry := []
  /-- the sequence the next log entry takes (Table 3.7a) -/
  nextSeq : Nat := 1
  /-- rate limits in force (R231) -/
  limits : List RateLimit := []
  /-- chambers by number (R40, R41, Table 2.4) -/
  chambers : List (Nat × Chamber) := []
  /-- the log's tallies by event source (R42, Table 2.4) -/
  tallies : List (Nat × Tally) := []
  /-- boundaries sent into the boundary tallies, modulo 2¹⁶, and the domains that have received the last one (R31) -/
  boundarySent : Nat := 0
  boundaryGot : List Nat := []
  /-- THE MODEL'S OWN: how many free values have been drawn (Config.free) -/
  freeCtr : Nat := 0
  deriving DecidableEq, Repr

/-! ### The dictionary agent, sessions and the host port (chapter 3) -/

/-- A DMA descriptor as a channel reads it (Table 3.15) -/
structure DmaDescriptor where
  /-- the host address it was read at (R91) -/
  ring : Nat := 0
  hostAddr : Nat := 0
  bar2Offset : Nat := 0
  length : Nat := 64
  /-- bit 0: host to BAR2 -/
  toBar2 : Bool := false
  irq : Bool := false
  deriving DecidableEq, Repr

/-- A write of the device into host memory, as bus master (R90, R91). -/
structure HostWrite where
  addr : Nat
  bytes : List Byte
  deriving DecidableEq, Repr

/-- A reply (Tables 3.9–3.11). -/
structure Reply where
  opcode : Nat := 0
  flags : Nat := 0
  status : Nat := 0
  sess : Nat := 0
  seq : Nat := 0
  index : Nat := 0
  sub : Nat := 0
  words : List Nat := []
  deriving DecidableEq, Repr

/-- One event subscription (R73). -/
structure Subscription where
  enable : Bool := false
  minSev : Nat := 0
  source : Nat := 0
  mask : Nat := 0
  deriving DecidableEq, Repr

/-- One session: 0 is the host port's own, 1–16 are authenticated (R79–R83, R88). DEDUCED: log entry 72. -/
structure Session where
  /-- an authenticated session is open; session 0 is always served -/
  isOpen : Bool := false
  /-- the credential it was opened with -/
  cred : Nat := 0
  /-- its level, 0 VIEW to 3 SECURE -/
  level : Nat := 0
  /-- the session key K (R79) -/
  key : List Byte := []
  /-- the highest accepted SEQUENCE, H (R80) -/
  hi : Nat := 0
  /-- the accepted sequences of the 64-entry window (R80) -/
  seen : List Nat := []
  /-- the last 8 replies, newest first (R82) -/
  kept : List Reply := []
  /-- the 8 subscriptions by slot (R73) -/
  subs : List (Nat × Subscription) := []
  /-- the notification queue, at most 64 entries (R74) -/
  queue : List LogEntry := []
  /-- the next NOTIFY carries LOST (R74) -/
  lost : Bool := false
  /-- an overflow episode is running (R74) -/
  overflow : Bool := false
  /-- the sequence the next NOTIFY takes (R77) -/
  notifySeq : Nat := 1
  /-- the tick of the last accepted request (R83) -/
  lastTick : Nat := 0
  /-- LOG_READ_SEQ (0x1300.03), FLOW_QUERY (0x3400.02) and ASSAY_QUERY (0x1500.05) of this session (R50) -/
  logReadSeq : Nat := 1
  flowQuery : Nat := 0
  assayQuery : Nat := 0
  /-- where its last accepted request came from: its notifications go there (R73, R84) -/
  via : Via := .direct
  deriving DecidableEq, Repr

/-- A credential of the boot flash's credential area (R78). -/
structure Credential where
  level : Nat := 0
  secret : List Byte := []
  deriving DecidableEq, Repr

/-- A datagram or message sent by the device. -/
structure Sent where
  via : Via
  bytes : List Byte
  deriving DecidableEq, Repr

/-- Chapter 3's agent, sessions and host port. -/
structure AgentSt where
  /-- the agent serves (from step 6 of Table 4.1; R97) -/
  serving : Bool := false
  sessions : List (Nat × Session) := []
  /-- credentials by ID, in the boot flash (R78) -/
  creds : List (Nat × Credential) := []
  /-- the last reply given -/
  lastReply : Reply := {}
  /-- datagrams sent on the management port, oldest first -/
  outbox : List Sent := []
  /-- a management address change that takes effect after its reply (R84): key and value -/
  addrChange : List StagedWrite := []
  /-- the management address in force: IPv6 address, prefix, IPv4 address, prefix (R84) -/
  addrInForce : List (Nat × Int) := []
  /-- BAR0 registers by dword offset (Table 3.13); an unlisted one reads as it does after reset -/
  bar0 : List (Nat × Nat) := []
  /-- mailbox slots submitted before the agent served (R97), in submit order -/
  heldSlots : List Nat := []
  /-- entries written to each telemetry ring since RESET_N release, in full (R91: HEAD shows it modulo 2^32) -/
  ringCount : List (Nat × Nat) := []
  /-- BAR2's 16 MiB of hub memory (Table 3.14), by byte offset; an unlisted byte reads 0 -/
  bar2 : List Host.Cell := []
  /-- the descriptor each DMA channel has in flight (R90, R91) -/
  dma : List (Nat × DmaDescriptor) := []
  /-- channels halted by a REFUSED descriptor (R91) -/
  dmaHalted : List Nat := []
  /-- what the channels have written into host memory, oldest first: copied data and descriptors' STATUS (R90, R91) -/
  hostMem : List HostWrite := []
  /-- times each MSI-X vector was signalled (Table 3.14) -/
  signals : List (Nat × Nat) := []
  /-- the PCIe link is up (R97) -/
  pcieUp : Bool := false
  deriving DecidableEq, Repr

/-! ### Start-up and the ledger (chapter 4) -/

/-- The fields of a ledger record (Table 4.7). Maps are lists of retired unit numbers in the table's bit order. -/
structure LedgerRec where
  clean : Bool := false
  activeImage : Nat := 0
  assayWhen : Nat := 0
  watchdogRun : Nat := 0
  sequence : Nat := 0
  lifetime : Nat := 0
  bootEpoch : Nat := 0
  cause : Nat := 0
  repairCount : Nat := 0
  assayOutcome : Nat := 0
  assayFailed : Nat := 0
  assayFirst : Nat := 0xFFFF
  assayLifetime : Nat := 0
  /-- 128 bytes: per converter 8·r + k and spare position 0–3, the retired slice or 0xFF -/
  sliceMap : List Nat := []
  decoderMap : Nat := 0
  cipherMap : Nat := 0
  engineMap : Nat := 0
  /-- 8 entries of 32 bits -/
  repairList : List Nat := []
  powerCycles : Nat := 0
  hotSeconds : Nat := 0
  /-- 8 bytes, ports 0–7 -/
  reserveUsed : List Nat := []
  deriving DecidableEq, Repr

/-- A commit on its way (R111, R112): its cause, the record as written, and where it is being written; `batch` numbers the
stockpile allocations it carries (R472). -/
structure Commit where
  cause : Nat
  clean : Bool
  attempts : Nat := 0
  bytes : List Byte := []
  bank : Nat := 0
  slot : Nat := 0
  batch : Nat := 0
  deriving DecidableEq, Repr

/-- Chapter 4. DESIGN CHOICE: log entry 91. -/
structure StartSt where
  /-- the step of Table 4.1 in progress (1–8); 9 when step 8 has ended -/
  step : Nat := 1
  /-- held in a start-up step by a fault (R100, R101): the FAULT_CODE value, 0 when not held -/
  holdCode : Nat := 0
  /-- RESET_N is low, or another condition holds the device in reset (R115, R511, R519) -/
  inReset : Bool := false
  /-- the ledger's flash: bank · 256 + slot → its 256 bytes; an unlisted slot is free, an empty list stands for
  a slot that is neither free nor valid (R109, R110) -/
  flash : List (Nat × List Byte) := []
  /-- the flash's image regions (Table 4.2): image A from offset 0, image B from 2²³; an unlisted byte is erased, 0xFF -/
  images : List Host.Cell := []
  /-- the SHA-384 of the public key, fused at manufacture (R100). DESIGN CHOICE: log entry 91. -/
  keyHash : List Byte := []
  /-- the winning record, or none (R109) -/
  winner : Option LedgerRec := none
  /-- the image that fell back at this start, for the start commit (R100, R116) -/
  fallback : Option Nat := none
  /-- WATCHDOG_RUN to write at the start commit (R116) -/
  watchdogRun : Nat := 0
  /-- the start assay is due and has not ended (R103) -/
  assayDue : Bool := false
  /-- domains held by a unit whose macro failed the check-bit self-test, and those units (R104, Table 4.5) -/
  sramFailed : List Nat := []
  sramUnits : List Nat := []
  /-- the commit in progress, and the cause and CLEAN_SHUTDOWN of the one that later triggers are merged into (R111) -/
  commit : Option Commit := none
  nextCommit : Option (Nat × Bool) := none
  /-- the start commit has begun: requests before it are carried by it (R455) -/
  started : Bool := false
  /-- tick of the last commit (R111: 3,600 powered seconds) -/
  lastCommit : Nat := 0
  /-- lifetime seconds at the start of this power-up (R114) -/
  lifeBase : Nat := 0
  hotBase : Nat := 0
  /-- ticks above 95 °C since power-up (R114: HOT_SECONDS) -/
  hotTicks : Nat := 0
  /-- the firmware watchdog: armed, and the tick of its last restart (R116) -/
  wdArmed : Bool := false
  wdRestart : Nat := 0
  /-- tick of the start commit, for WATCHDOG_RUN's clearing (R116) -/
  startCommitTick : Nat := 0
  wdRunCleared : Bool := false
  /-- shutdown: tick DRAINING began and the unacknowledged cells at its end (R117) -/
  drainStart : Nat := 0
  unacked : Nat := 0
  /-- the fill that an urgent DORMANT request aborted runs again on exit (R107) -/
  fillAborted : Bool := false
  /-- durable flows handled by DURABLE_BEFORE_FILL, already reported (R106) -/
  downgraded : List Nat := []
  /-- the fill reached DONE, and the tick: durable acceptance at the next boundary (R106) -/
  fillDone : Bool := false
  fillTick : Nat := 0
  /-- a firmware load's erase has begun, and the bytes it has programmed since (R102) -/
  fwErased : Bool := false
  fwWritten : Nat := 0
  /-- values carried by the records the device writes (Table 4.7) -/
  sliceMap : List Nat := []
  decoderMap : Nat := 0
  cipherMap : Nat := 0
  engineMap : Nat := 0
  repairCount : Nat := 0
  repairList : List Nat := []
  reserveUsed : List Nat := []
  assayLifetime : Nat := 0
  deriving DecidableEq, Repr

/-! ### Power (chapter 20) -/

/-- A power request (R483). `own` marks the device's own requests (thermal trip, wake, shutdown). -/
structure PowReq where
  target : Nat
  urgent : Bool
  maskA : Nat
  maskB : Nat
  own : Bool := false
  deriving DecidableEq, Repr

/-- Chapter 20. DEDUCED: log entry 5. -/
structure PowerSt where
  /-- the state of each domain: 0 OFF, 1 POWERING, 2 MOORED, 3 RELEASED (R481; MOORED after reset, R105) -/
  dom : List (Nat × Nat) := []
  /-- an accepted request that becomes in progress at the next boundary (R485) -/
  waiting : Option PowReq := none
  /-- the request in progress (R485) -/
  cur : Option PowReq := none
  /-- the pending request (R487) -/
  pend : Option PowReq := none
  /-- the tick at which the request in progress became so (R488) -/
  since : Nat := 0
  /-- domains of the request in progress still in DRAINING or RAMPING -/
  draining : List Nat := []
  /-- domains committed to OFF whose switch has not opened, and the tick of their commit (R485) -/
  opening : List (Nat × Nat) := []
  /-- domains POWERING and the tick their switch closed (R485) -/
  powering : List (Nat × Nat) := []
  /-- a domain of the request in progress has passed its commit point (R487) -/
  committed : Bool := false
  /-- DORMANT has been reached (R491) -/
  dormant : Bool := false
  /-- the DORMANT commit point has passed and the hub core's switch has not opened (R491) -/
  dormantCommitted : Bool := false
  /-- leaving DORMANT, until step 8's releases (R492) -/
  leaving : Bool := false
  /-- the targets in force recorded before DORMANT (R491) -/
  recorded : List (Nat × Nat) := []
  /-- a wake source that fired after the DORMANT commit point (R494) -/
  wakeWaiting : Option Nat := none
  /-- each reach's wake pattern: the last tick of its four words (R493) -/
  wakeSend : List (Nat × Nat) := []
  /-- reaches whose light the pattern keys off for the tick in progress (R493) -/
  keyedOff : List Nat := []
  deriving DecidableEq, Repr

/-! ### Converters, gain and ramp (chapter 5) -/

/-- The AGC of one reach (Table 5.3, R124–R126, R526). Lists run over XI, XQ, YI, YQ. -/
structure Agc where
  /-- consecutive 50 ns updates with every level within ±1 dB (R124: 1 µs) -/
  inRange : Nat := 0
  /-- counted ticks with training in SETTLE, and consecutive ticks without training in FROZEN (R124) -/
  found : Nat := 0
  missed : Nat := 0
  /-- the loss of training re-arms at step 5 of the next boundary (R124) -/
  lossRearm : Bool := false
  /-- the coming ticks that carry no frame decision after a gain step (R125) -/
  noDecision : Nat := 0
  /-- the tick in progress saw SLEW (R125) -/
  slewTick : Bool := false
  /-- the last frozen codes (R124) -/
  frozen : List Nat := []
  /-- tick of the re-arm or release (AGC_FROZEN's argument) -/
  since : Nat := 0
  /-- learned level change (0.01 dB) per code unit, as numerator and denominator (R526) -/
  est : List (Int × Int) := []
  /-- this SLEW's sum of level change times code change, sum of squared code changes, and moved code units (R526) -/
  slew : List (Int × Int × Nat) := []
  /-- level errors at the last update (0.01 dB) -/
  lastErr : List Int := []
  /-- codes at the last update -/
  lastCodes : List Nat := []
  /-- codes were set by a re-arm while HELD: the next release starts from them (Table 5.3) -/
  held : Bool := false
  /-- digital drift correction in 10⁻⁵ dB (R126) and the ADCs whose limit was raised -/
  drift : List Int := []
  driftRaised : List Nat := []
  deriving DecidableEq, Repr

/-- The ramp of one sub-carrier (R128–R131): powers in 10⁻⁹ of the launch power at 0 dB pre-emphasis.
DEDUCED: log entry 84. -/
structure Ramp where
  /-- the power at the last boundary -/
  cur : Nat := 0
  /-- the running ramp's ends, length M and boundaries passed j; M = 0: no ramp -/
  a : Nat := 0
  b : Nat := 0
  m : Nat := 0
  j : Nat := 0
  /-- the target power the running or last ramp was measured against, 0 where the power rests at 0 (R129) -/
  level : Nat := 0
  deriving DecidableEq, Repr

/-- What the checks of a round have found (R138, R140). -/
structure CalVerdict where
  /-- CAL_RESULT -/
  result : Nat
  /-- the argument of CAL_CONVERTER_FAILED, none where no converter fails -/
  failed : Option Nat
  /-- slices to report to stockpile control: converter and slice -/
  retire : List (Nat × Nat)
  deriving DecidableEq, Repr

/-- Calibration of one reach (R141–R148). -/
structure Cal where
  /-- a round is running: 0 none, 1 background, 2 start -/
  kind : Nat := 0
  /-- the tick it started, its window W, and the tick of its next step (R141) -/
  since : Nat := 0
  window : Nat := 0
  next : Nat := 0
  /-- the spares have been measured (R141 step 2) -/
  sparesDone : Bool := false
  /-- the position under the shadow: p + 1, 0 before the first; 129 after the last (R141) -/
  pos : Nat := 0
  /-- per converter, the shadow slice, and the displaced slice, 0xFF none (R141, R142) -/
  shadow : List Nat := []
  displaced : List Nat := []
  suspended : Bool := false
  /-- a CAL_START, or a temperature trigger, that has not started a round yet (R144), and the first tick that a CAL_START lets
  a round of either kind begin in -/
  requested : Bool := false
  tempHeld : Bool := false
  dueAt : Nat := 0
  /-- ABORT or an urgent power request ends the round at the next boundary (R145): the LAST_STATUS, plus one -/
  aborting : Nat := 0
  /-- consecutive rounds in which a slice failed plausibility: 132·k + slice → count (R140) -/
  fails : List (Nat × Nat) := []
  /-- coefficient words written since RESET_N release, retained (R63, R147, R149): 132·k + slice → word -/
  written : List (Nat × Nat) := []
  /-- words in force that a round has put in place of the written or nominal ones: volatile (R149) -/
  measured : List Nat := []
  /-- the converters that were seeded when the round began (R147) -/
  seededAt : List Nat := []
  /-- a start round: each converter's slices to measure and ticks for one (R146, R147) -/
  paces : List (Nat × Nat) := []
  /-- the checks of the round's sets, made in its last tick: it ends at the next step 5 (R138, R141) -/
  verdict : Option CalVerdict := none
  /-- a start round is due (R146), failed start rounds in a row (R148), the duration of the running one -/
  startDue : Bool := true
  startFails : Nat := 0
  duration : Nat := 0
  /-- the start round, due or running, was begun by CAL_START (R148) -/
  byCommand : Bool := false
  /-- the latest start round has ended DONE (R148) -/
  startDone : Bool := false
  /-- REACH_CAL_BLOCKED (R148) -/
  blocked : Bool := false
  /-- accepted sets to apply at step 5 of the next boundary (R139): 132·k + slice → word -/
  accepted : List (Nat × Nat) := []
  deriving DecidableEq, Repr

/-- Chapter 5. -/
structure ConvSt where
  agc : List (Nat × Agc) := []
  /-- ramps by 64·r + s -/
  ramps : List (Nat × Ramp) := []
  cal : List (Nat × Cal) := []
  /-- FEn_TXEN and FEn_DRVEN at their enable levels (R133): reaches -/
  txen : List Nat := []
  drven : List Nat := []
  /-- a fault moored the reach: it ramps down as a request does (R133) -/
  faultMoor : List Nat := []
  /-- uncorrectable flits of the tick in progress and ticks over DEGRADE_THRESHOLD in a row, per reach: receive, transmit (R20) -/
  flits : List (Nat × (Nat × Nat)) := []
  overRun : List (Nat × (Nat × Nat)) := []
  /-- TX_OFF_RELEASE accepted: the reach turns up at the next boundary (R136) -/
  turnUp : List Nat := []
  /-- reaches that a restoration keeps dark (R306, R312) -/
  dark : List Nat := []
  /-- reaches whose eye-safety source is active (R136) -/
  eyeActive : List Nat := []
  /-- bytes of captures that wait for room on a reach's link, by place in the reach's part of the buffer (R17) -/
  captures : List (Nat × List (Nat × Byte)) := []
  /-- telemetry items replaced by the next tick's, per reach (R17) -/
  replaced : List (Nat × Nat) := []
  /-- uncorrectable receive flits of the tick in progress, by reach: group and flit (R19): their soft values are zero -/
  erased : List (Nat × List (Nat × Nat)) := []
  deriving DecidableEq, Repr

/-! ### Loading (chapter 6) -/

/-- A loading map's content (Table 6.2). Version 0 is the probe map (R163). -/
structure MapC where
  version : Nat
  rate : Nat
  outer : Nat
  first : Nat
  count : Nat
  codes : List Nat
  deriving DecidableEq, Repr

/-- An announcement of the transmitter (R170, R172). -/
structure Announce where
  map : MapC
  /-- the tick of the first frame that carries it -/
  ta : Nat
  /-- the effective tick T -/
  at_ : Nat
  committed : Bool := false
  postponed : Nat := 0
  deriving DecidableEq, Repr

/-- A LOADING_REPORT (Table 6.3). -/
structure LoadReport where
  restart : Bool := false
  fromHistory : Bool := false
  first : Nat := 0
  count : Nat := 0
  q : List Nat := []
  deriving DecidableEq, Repr

/-- One group's loading, keyed 8·r + g. -/
structure Load where
  /-- the map in force on transmit; none is the probe map -/
  tx : Option MapC := none
  /-- the version of the last non-probe map put into force (R170) -/
  lastVersion : Nat := 0
  lastSwitch : Nat := 0
  /-- a candidate computed at the last boundary (R37, R167) -/
  cand : Option MapC := none
  ann : Option Announce := none
  /-- the receiver's current and announced maps (R171); none current is the probe map -/
  rxCur : Option MapC := none
  rxAnn : Option MapC := none
  /-- the latest report received since the probe map was put in force -/
  report : Option LoadReport := none
  /-- 2: a FIXED candidate is due once a report without RESTART has been received on the probe map (R168) -/
  fixedDue : Nat := 0
  /-- the window of R164: per tick with frame, newest first, (sub-carrier, S, N) -/
  window : List (List (Nat × Nat × Nat)) := []
  /-- the shortfall margin X is in force, and the tick of the last shortfall (R165) -/
  xOn : Bool := false
  xTick : Nat := 0
  /-- ticks the current non-probe receive map has been current without loss of frame (R176) -/
  curTicks : Nat := 0
  /-- since an enable or a restart no value has been held, so that frames found on the probe map start the path's profile; and
  reports carry it (R177) -/
  fromHistory : Bool := false
  histOn : Bool := false
  /-- a restart is due: its cause and the boundary at which it acts (R175) -/
  restart : Option (Nat × Nat) := none
  /-- the report the engines produced, for the next frame (R166) -/
  out : LoadReport := {}
  /-- last 100 ticks: codewords, iterations, failed (R178), newest first -/
  iters : List (Nat × Nat × Nat) := []
  /-- last 100 ticks: per sub-carrier converged payload bits and errors (R164, BER_EST), newest first -/
  bers : List (List (Nat × Nat × Nat)) := []
  deriving DecidableEq, Repr

/-! ### Dispersion, equalisation and the watch (chapter 7) -/

/-- Dispersion compensation of one reach (R187–R193). -/
structure Cd where
  /-- boundaries at which banks A and B become READY, while LOADING (R187) -/
  readyA : Nat := 0
  readyB : Nat := 0
  /-- the tick of the later of the last swap and the last search action (R191) -/
  searchFrom : Nat := 0
  /-- consecutive ticks without frame since then -/
  noFrame : Nat := 0
  /-- ticks of the blind estimate and ticks with frame of the trained estimate since the last swap (R190) -/
  blindTicks : Nat := 0
  trainedTicks : Nat := 0
  blind : Int := 0
  trained : Int := 0
  /-- consecutive ticks over the tracking threshold; tracking is stepping (R192) -/
  trackRun : Nat := 0
  tracking : Bool := false
  /-- CD_RANGE_LIMIT has been raised at the limit held (R193) -/
  limited : Bool := false
  /-- each sub-carrier's bulk delay against the mean, fs (R185); none: all 0 -/
  bulk : List Int := []
  /-- a change of CD_TRIM falls to this boundary (R190) -/
  swappedAt : Option Nat := none
  deriving DecidableEq, Repr

/-- The watch of one reach (R201–R204). Baselines and sums are in units of 2⁻²⁴. -/
structure Watch where
  bSop : Nat := 0
  bPhase : Nat := 0
  bTap : Nat := 0
  /-- scored ticks counted while SUPPRESSED, and the sums of the features over them -/
  count : Nat := 0
  sSop : Nat := 0
  sPhase : Nat := 0
  sTap : Nat := 0
  /-- (tick, score) of the most recent scored ticks, newest first, at most 1,001 -/
  hist : List (Nat × Nat) := []
  /-- (tick, score) maxima of the last 100,000 ticks, for WATCH_PEAK -/
  peaks : List (Nat × Nat) := []
  /-- consecutive scored ticks below NOTICE_THRESHOLD -/
  quiet : Nat := 0
  /-- tick QUIET was left -/
  leftQuiet : Nat := 0
  /-- the pre-arm signal was sent -/
  sent : Bool := false
  deriving DecidableEq, Repr

/-- Chapter 7. -/
structure EqSt where
  cd : List (Nat × Cd) := []
  watch : List (Nat × Watch) := []
  /-- equaliser states by 64·r + s: 0 IDLE, 1 TRAIN, 2 TRACK (R194) -/
  sc : List (Nat × Nat) := []
  /-- consecutive ticks without training on a sub-carrier in TRACK while its group's others find it -/
  miss : List (Nat × Nat) := []
  /-- taps by 64·r + s: 0 identity, 1 set by a training correlation, 2 to be reset from the next one (Table 7.2) -/
  taps : List (Nat × Nat) := []
  /-- groups 8·r + g whose coarse frequency offset is to be estimated (R198) -/
  coarse : List (Nat × Bool) := []
  /-- consecutive ticks with SOP_RATE_PEAK below 500 krad/s, and the last tick's SOP_RATE_PEAK (R195) -/
  slow : List (Nat × Nat) := []
  peak : List (Nat × Nat) := []
  /-- signals waiting for the restoration sequencer: reaches with a pre-arm, and with a disarm (R203) -/
  prearm : List Nat := []
  disarm : List Nat := []
  deriving DecidableEq, Repr

/-! ### The decoder pool (chapter 8) -/

/-- A frame in the decode tick (R220): the frame, the map that demapped it (none: no map for its selector, R173), and the
outcome of each codeword: 0 converged, 1 failed, 2 dropped. -/
structure DecFrame where
  f : RxFrame
  /-- the map that demapped it (R173) -/
  map : MapC
  out : List Nat := []
  /-- codewords decoded, iterations run and failures among them -/
  its : Nat := 0
  /-- flits whose soft values reached the hub as erasures, zero (R19) -/
  erased : List Nat := []
  deriving DecidableEq, Repr

/-- Chapter 8. -/
structure PoolSt where
  /-- the number of cores in service at the last change (R222, R223) -/
  n : Nat := 0
  /-- frames whose decode tick is in progress, released at the next boundary (R220) -/
  job : List DecFrame := []
  deriving DecidableEq, Repr

/-! ### Frames (chapter 9) -/

/-- A cell on its way to a frame or out of one (Table 9.4, R243). `body` holds the client bytes, or a control cell's
messages. -/
structure Cell where
  flow : Nat := 0
  kind : Nat := 0
  sof : Bool := false
  eof : Bool := false
  bad : Bool := false
  retx : Bool := false
  /-- the consignment trailer of a durable cell (R243) -/
  seq : Nat := 0
  epoch : Nat := 0
  body : List Byte := []
  deriving DecidableEq, Repr

/-- The receive direction of one group (Table 9.6, R251). -/
structure FrameRx where
  /-- consecutive ticks without training, and consecutive frames found and not accepted, in FRAME -/
  noTrain : Nat := 0
  rejected : Nat := 0
  /-- the state before CONFIRM -/
  before : Nat := 0
  /-- TICK_LOW of the last accepted frame, none before the first -/
  lastTick : Option Nat := none
  /-- FRAME_SEQ of the last accepted frame -/
  lastSeq : Nat := 0
  /-- the group's frame in the ended tick had training (R248) -/
  found : Bool := false
  deriving DecidableEq, Repr

/-- A client frame being put together from a flow's cells (R246). -/
structure OpenFrame where
  /-- 8·r + g of the group the cells come by -/
  rg : Nat
  bytes : List Byte := []
  bad : Bool := false
  deriving DecidableEq, Repr

/-- The frame a group sends in the tick in progress (R232–R244): its header, overhead channel and the cells of its slots;
slots past the list hold idle cells. `keying` marks a keying frame, `blanked` segments sent as zeros (R331). -/
structure TxFrame where
  tick : Nat
  header : List Byte
  oh : List Byte
  cells : List Cell := []
  slots : Nat := 0
  /-- encryption: the epoch and nonce base of the segments, none in clear -/
  epoch : Option Nat := none
  blanked : List Nat := []
  /-- a withdrawn frame (R312): its training symbols are the pilot register's continuing output -/
  withdrawn : Bool := false
  /-- flits of its coded bits that the reach die sends as lowest-energy points (R19) -/
  lowest : List Nat := []
  /-- the map it is sent on, its Fb bytes as they stand after the cipher (R232–R235), and its codewords, each of 60 blocks of 512
  bits (R209, R214) -/
  map : MapC := ⟨0, 0, 1, 0, 0, []⟩
  bytes : List Byte := []
  words : List (List (BitVec 512)) := []
  /-- the training selector and the encryption flag's keying form (R248, R341) -/
  selector : Nat := 0
  deriving DecidableEq, Repr

/-- Chapter 9. -/
structure FrameSt where
  /-- by 8·r + g -/
  rx : List (Nat × FrameRx) := []
  /-- the frame of the tick in progress, by 8·r + g -/
  tx : List (Nat × TxFrame) := []
  /-- the next FRAME_SEQ, by 8·r + g (R237) -/
  seq : List (Nat × Nat) := []
  /-- open client frames by flow (R246) -/
  openFrames : List (Nat × OpenFrame) := []
  deriving DecidableEq, Repr

/-! ### Berths (chapter 10) -/

/-- An injected frame that waits (R269). -/
structure Injected where
  mode : Nat
  tag : Nat
  bytes : List Byte
  deriving DecidableEq, Repr

/-- One port, by its first berth. Times are in ps of powered time: 10⁷ · tick + phase. -/
structure Port where
  /-- egress frames in arrival order, each with its priority (R259) -/
  egress : List (Nat × List Byte) := []
  /-- injected frames, oldest first, at most 4 (R269) -/
  inject : List Injected := []
  /-- priority → when the pause of a received PFC frame runs out (R263) -/
  rxUntil : List (Nat × Nat) := []
  /-- priority → last byte of the PFC frame that paused it (R266) -/
  pausedAt : List (Nat × Nat) := []
  /-- the last PFC frame sent: when, and its time per priority in its vector (R265) -/
  pfcAt : Nat := 0
  pfcSent : List (Nat × Nat) := []
  /-- bytes of the ingress buffer in use (R259) and pause source 4's demand (Table 10.2) -/
  ingress : Nat := 0
  ingressFull : Bool := false
  /-- the tick ALIGNING was entered (Table 10.1) -/
  alignAt : Nat := 0
  /-- local fault is being received (R270); remote fault is transmitted (Table 10.1) -/
  localFault : Bool := false
  remoteTx : Bool := false
  /-- the last client or injected frame sent on the line -/
  sent : List Byte := []
  deriving DecidableEq, Repr

/-- Chapter 10. -/
structure BerthSt where
  ports : List (Nat × Port) := []
  deriving DecidableEq, Repr

/-! ### Flows and the basin (chapter 11) -/

/-- A cell held in the basin: its sequence, its slot (port · 2³³ + slot number), and the sender's record of it. -/
structure Held where
  seq : Nat
  slot : Nat
  /-- the tick of the frame that last carried it, and how often it was sent (R287) -/
  sent : Nat := 0
  times : Nat := 0
  due : Bool := false
  /-- unreadable: a void cell stands for it (R288) -/
  lost : Bool := false
  deriving DecidableEq, Repr

/-- A queued prompt or standard cell and the tick it was cut in (Table 11.2). -/
structure Queued where
  cell : Cell
  cut : Nat
  deriving DecidableEq, Repr

/-- One flow (R281–R290). -/
structure Flow where
  /-- prompt and standard cells that wait for a frame -/
  queue : List Queued := []
  /-- sender state of Table 11.6: 0 OFF, 1 ACTIVE, 2 FROZEN, 3 DRAINING -/
  state : Nat := 0
  /-- E_s, the epochs started since power-up, and the tick the epoch started (R282, R286) -/
  epoch : Nat := 0
  epochs : Nat := 0
  epochTick : Nat := 0
  /-- TX_NEXT and A (R281) -/
  next : Nat := 0
  acked : Nat := 0
  held : List Held := []
  /-- sequences held when the flow's drain began, still unacknowledged (R290) -/
  drain : List Nat := []
  /-- the tick the flow's new group got frame after a freeze, plus one (R313) -/
  reconcile : Nat := 0
  /-- a cumulative entry has been applied since then; the tick of the last one, and how many cells it freed (R313) -/
  entered : Bool := false
  freed : Nat × Nat := (0, 0)
  /-- E_r, N and the held cells of the receiver, by rising distance from N (R284) -/
  er : Nat := 0
  rn : Nat := 0
  rxHeld : List Held := []
  /-- N and E_r of the last manifest entry sent, none before the first (R283) -/
  sentN : Option (Nat × Nat) := none
  resent : Nat := 0
  duplicates : Nat := 0
  reserveLosses : Nat := 0
  basinLost : Nat := 0
  resyncs : Nat := 0
  /-- MATED units (R322–R324): misaligned; N covered by an acknowledged mirror; the mirrored E_r and N; sequence and FCS
  of the last client frame cut -/
  misaligned : Bool := false
  gateN : Nat := 0
  mirEr : Nat := 0
  mirN : Nat := 0
  lastSeq : Nat := 0
  lastFcs : Nat := 0
  /-- FCS and last sequence of the client frames cut and still held, newest first (R323) -/
  frames : List (Nat × Nat) := []
  deriving DecidableEq, Repr

/-- A basin slot's content (Table 11.9): generation, state (0 FILL, 1 WRITTEN, 2 RETIRED, 3 POISON) and cell. -/
structure Slot where
  gen : Nat := 0
  st : Nat := 0
  cell : Cell := {}
  deriving DecidableEq, Repr

/-- A page in use (R295): its flow, its direction and the slot offsets held. -/
structure Page where
  flow : Nat
  rx : Bool
  used : List Nat := []
  deriving DecidableEq, Repr

/-- One basin port (R292, R295). -/
structure BasinPort where
  /-- the expander's capacity in slots, as it identified itself -/
  cap : Nat := 0
  /-- the tick training started -/
  trainAt : Nat := 0
  /-- it entered SELF_REFRESH and holds its contents -/
  contents : Bool := false
  /-- its fill has ended and the port is due to be released at step 11 -/
  filled : Bool := false
  withheld : List Nat := []
  /-- pages in which a slot failed its read-back during the fill (R467) -/
  fillBad : List Nat := []
  /-- pages retired, and the mark above which no page is taken again -/
  retired : List Nat := []
  /-- the 1/n of STOCKPILE_RESERVE in effect (R295); 0 before the first release -/
  reserve : Nat := 0
  deriving DecidableEq, Repr

/-- The consignment checkpoint (R491): the flow states and the page map, in reserve pages of a basin port. -/
structure Checkpoint where
  port : Nat
  flows : List (Nat × Flow)
  pages : List (Nat × Page)
  deriving DecidableEq, Repr

/-- Chapter 11. -/
structure BasinSt where
  flows : List (Nat × Flow) := []
  /-- the checkpoint written at the DORMANT commit point and not yet read back (R491, R492) -/
  checkpoint : Option Checkpoint := none
  /-- slot contents by port · 2³³ + slot number; an unlisted slot is as the fill left it -/
  slots : List (Nat × Slot) := []
  /-- pages in use by port · 2²¹ + page number -/
  pages : List (Nat × Page) := []
  ports : List (Nat × BasinPort) := []
  /-- durable flows are durable (R106) -/
  accepted : Bool := false
  /-- basin write queue demand (R297) and high-water demand (R298) -/
  queueFull : Bool := false
  /-- cells in the write queue: sender copies and receiver holds (R297) -/
  queueTx : Nat := 0
  queueRx : Nat := 0
  high : Bool := false
  /-- ticks spent at or above the high-water mark since -/
  highTicks : Nat := 0
  /-- durable cells and client bytes cut in each of the last 1,000 ticks, newest first (R296) -/
  cuts : List (Nat × Nat) := []
  cutNow : Nat × Nat := (0, 0)
  /-- ACK_RTT measurements by 8·r + g: (tick, ticks), newest first (R287) -/
  rtt : List (Nat × List (Nat × Nat)) := []
  /-- the flow last served, by ((8·r + g)·8 + item)·8 + precedence, plus one (R280) -/
  turn : List (Nat × Nat) := []
  /-- the flow whose manifest entry of item 3 was placed last, by 8·r + g, plus one (R283) -/
  manifestTurn : List (Nat × Nat) := []
  /-- the drain that record 0x1187 follows: its flows' sequences as (flow, sequence) (R313) -/
  drain : List (Nat × Nat) := []
  drainEnd : Nat := 0
  deriving DecidableEq, Repr

/-! ### Restoration (chapter 12) -/

/-- What a unit's sequencer does at the next boundary, at the step of Table 2.2 to which it belongs: a planned move of the
durable flows, or of all, to a side, with the UNIT_STATE that follows and whether it is a revert (R316–R319); a planned switch to
the mate (R325); the other path of a unit in DOUBLE_FAULT (R319). -/
inductive Planned where
  | durable (side state : Nat)
  | all (side state : Nat) (reverted : Bool)
  | toMate
  | otherPath
  deriving DecidableEq, Repr

/-- A withdrawal (R312): the reach whose groups send withdrawn frames, and the first tick without them. -/
structure Withdrawal where
  reach : Nat
  until_ : Nat
  groups : List Nat
  deriving DecidableEq, Repr

/-- One protection unit (R304–R325). -/
structure UnitSt where
  /-- the side that carries prompt and standard flows: 0 working, 1 protect -/
  side : Nat := 0
  /-- a restoration due to start: its cause and its boundary S (R307); the sequencer has decided on it, and the boundary runs it -/
  trigger : Option (Nat × Nat) := none
  decided : Bool := false
  planned : Option Planned := none
  /-- S of the restoration in progress, and the tick RESTORE_LIMIT counts from -/
  start : Nat := 0
  limitFrom : Nat := 0
  /-- the failed side's reach and the affected groups (R309) -/
  failed : Nat := 0
  affected : List Nat := []
  /-- the withdrawals in progress, oldest first: a second restoration does not end the first one's (R312) -/
  withdraw : List Withdrawal := []
  /-- the tick since which the working side has had frame on every affected group (Table 12.4) -/
  goodSince : Option Nat := none
  /-- the tick PROTECTED, or STANDBY, was entered (REVERTED's argument) -/
  since : Nat := 0
  /-- the tick of a disarm in PREMOVED (R318) -/
  disarmAt : Option Nat := none
  /-- the mate's unit as its latest HELLO shows it (R325) -/
  mateState : Nat := 0
  /-- that HELLO's REVERT_READY bit; and this device has handed its unit over by a planned switch, and no HELLO has shown the mate
  WORKING since (R325) -/
  mateReady : Bool := false
  handed : Bool := false
  /-- a switch request of the mate that acts at this boundary, with its cause (R324) -/
  switchAt : Option (Nat × Nat) := none
  /-- mirrors sent and not yet acknowledged: MIRROR_TICK, and per flow the fields sent (R384) -/
  mirrors : List (Nat × List (Nat × List Nat)) := []
  /-- per flow, the fields the standby last acknowledged: E_s, A, last sequence, last FCS, E_r, N -/
  mirrored : List (Nat × List Nat) := []
  /-- parts of the mirror that is arriving: MIRROR_TICK, and the parts seen (R383) -/
  parts : Nat × List Nat := (0, [])
  /-- flows whose entries found no room in the last mirror: they go first in the next (R384) -/
  mirrorLeft : List Nat := []
  deriving DecidableEq, Repr

/-- Chapter 12. -/
structure RestSt where
  units : List (Nat × UnitSt) := []
  /-- the tick of the latest message from the mate (R322) -/
  lastMate : Nat := 0
  /-- LOCAL_PEER_ID of the mate, as its messages give it (R325, R382) -/
  matePeer : Option Nat := none
  /-- notices to send on further ticks (R383): the message, the ticks still to send it in, and the tick of its last copy -/
  notices : List (List Byte × Nat × Nat) := []
  deriving DecidableEq, Repr

/-! ### Line encryption (chapter 13) -/

/-- A slot of the key store (R335, R347). The state is SLOT_STATE, the label SLOT_LABEL. -/
structure KeySlot where
  key : List Byte := []
  /-- the NEXT key of a MASTER slot and its LABEL -/
  next : Option (List Byte × Nat) := none
  deriving DecidableEq, Repr

/-- A pending key announcement (R342). -/
structure KeyAnn where
  epoch : Nat
  ta : Nat
  at_ : Nat
  committed : Bool := false
  deriving DecidableEq, Repr

/-- A receive key (R343, R347): its epoch and its candidates, each with whether it comes from the NEXT key. -/
structure RxKey where
  epoch : Nat
  cands : List (Bool × List Byte) := []
  /-- the low 32 bits of the epoch's effective tick in the sender's count, T of R334 -/
  t0 : Nat := 0
  /-- the peer nonce it was derived with (R339, R343) -/
  nonce : List Byte := []
  deriving DecidableEq, Repr

/-- One group's key state (Table 13.2), by 8·r + g. The state itself is KEY_STATE. -/
structure KeyGrp where
  /-- own and peer boot nonce (R339, R341); an empty own nonce has not been drawn -/
  own : List Byte := []
  peer : Option (List Byte) := none
  /-- E, the group's last epoch (R341) -/
  e : Nat := 0
  /-- the traffic key and SALT in force, whether it comes from the NEXT key, and T (R334) -/
  txKey : Option (List Byte) := none
  txNext : Bool := false
  t0 : Nat := 0
  ann : Option KeyAnn := none
  rxCur : Option RxKey := none
  rxAnn : Option RxKey := none
  /-- consecutive frames whose reliable segments all failed (R348) -/
  failRun : Nat := 0
  /-- a roll candidate is due (R344) -/
  roll : Bool := false
  /-- segments of a frame built under a due switch before its command (R342) -/
  early : Nat := 0
  /-- a keying frame has been due since the group entered KEYING, so that its nonce offer has gone out (Table 13.2) -/
  offered : Bool := false
  deriving DecidableEq, Repr

/-- Chapter 13. DESIGN CHOICE: log entry 91. -/
structure KeySt where
  slots : List (Nat × KeySlot) := []
  /-- slot 0's key-encryption key, fused at manufacture (R335). DESIGN CHOICE: log entry 91. -/
  fusedKek : List Byte := []
  grps : List (Nat × KeyGrp) := []
  /-- the batch area (R338): entry → its 60 bytes; how many entries run, and how many have run -/
  batch : List (Nat × List Byte) := []
  batchLeft : Nat := 0
  batchDone : Nat := 0
  batchAbort : Bool := false
  /-- draws made from the entropy source (R339) -/
  draws : Nat := 0
  /-- cipher cores withdrawn at a parity fault, before their retirement (R470) -/
  withdrawn : List Nat := []
  /-- groups paused with cipher cores exhausted, 8·r + g, and the tick of the last resume (R476) -/
  paused : List Nat := []
  lastResume : Nat := 0
  deriving DecidableEq, Repr

/-! ### The timing core (chapter 14) -/

/-- One reference input (Table 14.1). -/
structure RefIn where
  /-- the tick its last fault ended (R356) -/
  since : Nat := 0
  /-- the latest PPSIN edge, ps of powered time (R355, R365) -/
  mark : Option Nat := none
  /-- the input's phase less the output's, fs: set by a mark, moved by the output's pull (R364) -/
  err : Int := 0
  /-- held LOST by R367 -/
  mismatch : Bool := false
  deriving DecidableEq, Repr

/-- The line delay of one reach (R368–R370). -/
structure DelaySt where
  /-- the last MARK_SEQ sent, the tick of the last mark, and whether a mark waits for a frame -/
  seq : Nat := 0
  lastMark : Nat := 0
  markDue : Bool := false
  /-- marks sent and not answered: MARK_SEQ and the frame's tick -/
  sent : List (Nat × Nat) := []
  /-- the mark to answer: its MARK_SEQ, the boundary before its arrival and ps after it -/
  echo : Option (Nat × Nat × Nat) := none
  /-- X of the far end's latest mark -/
  xFar : Option Nat := none
  /-- measurements, newest first: R + Δ, Δ and twice θ, in ps -/
  hist : List (Int × Int × Int) := []
  deriving DecidableEq, Repr

/-- A time-of-day association (R372): tick, seconds and nanoseconds. -/
structure TodAssoc where
  tick : Nat
  sec : Nat
  ns : Nat
  deriving DecidableEq, Repr

/-- Chapter 14. -/
structure TimingSt where
  inputs : List (Nat × RefIn) := []
  /-- the control value (10⁻¹¹), 0 at power-up (Table 14.2) -/
  control : Int := 0
  /-- a switch is in progress (R359) -/
  switching : Bool := false
  /-- the phase target less the output phase, fs, and the sum of accepted PHASE_STEP values, ps (R364) -/
  pull : Int := 0
  steps : Int := 0
  /-- the output's phase at the last switch and the steps accepted since, less the output phase, fs (R364) -/
  own : Int := 0
  /-- an advance due at the next boundary (R365) -/
  advance : Option Nat := none
  /-- the tick ACQUIRING was entered, the tick LOCKED was left, and the tick the second in progress began -/
  acqAt : Nat := 0
  unlockedAt : Nat := 0
  secStart : Nat := 0
  /-- locked seconds, newest first: the tick each ended and its mean control value (R361) -/
  seconds : List (Nat × Int) := []
  /-- HOLDOVER_READY and the estimate at the loss of the selected input (R361) -/
  loss : Option (Bool × Int) := none
  tod : Option TodAssoc := none
  delays : List (Nat × DelaySt) := []
  deriving DecidableEq, Repr

/-! ### The towpath (chapter 15) -/

/-- A lane's receiver (R377–R379): its running disparity; the place in its word of the next symbol, none before the first comma;
whether the word so far is TRAIN, or SKIP; whether a message is arriving; the words received since the last training began, and those
of the last 1,024 in which a code group was invalid; and the ticks of the first alignment and of the latest error since then. -/
structure LaneIn where
  positive : Bool := false
  place : Option Nat := none
  asTrain : Bool := true
  asSkip : Bool := true
  inMsg : Bool := false
  words : Nat := 0
  invalid : List Nat := []
  alignedAt : Option Nat := none
  errorAt : Option Nat := none
  deriving DecidableEq, Repr

/-- One lane (Table 15.2). Its state and rate are LANE_STATE and LANE_RATE. -/
structure LaneSt where
  /-- the target rate, the rate in training, and the tick the training started -/
  target : Nat := 0
  training : Nat := 0
  trainAt : Nat := 0
  /-- failed trainings at that rate, and whether the lane has fallen back -/
  fails : Nat := 0
  fellBack : Bool := false
  /-- SKIP sets sent, and words sent since the last one (R378) -/
  skips : Nat := 0
  sinceSkip : Nat := 0
  /-- positive running disparity, and the code groups of the messages and SKIP sets sent in the tick in progress (R377) -/
  positive : Bool := false
  line : List Nat := []
  /-- symbols of messages that wait for the lane, and when it became free: symbol times of 12.5 Gb/s (R383) -/
  queued : Nat := 0
  freeAt : Nat := 0
  rx : LaneIn := {}
  deriving DecidableEq, Repr

/-- A mate message's fields, as received (Table 15.4). -/
structure MateMsg where
  type : Nat
  flags : Nat
  peer : Nat
  seq : Nat
  tick : Nat
  body : List Byte
  deriving DecidableEq, Repr

/-- Chapter 15. -/
structure TowpathSt where
  lanes : List (Nat × LaneSt) := []
  /-- the next MSG_SEQ (R382) -/
  msgSeq : Nat := 0
  /-- MSG_SEQ values acted on within the last 1,024 numbers (R383) -/
  seen : List Nat := []
  /-- messages sent in the tick in progress: lanes and bytes -/
  sent : List (List Nat × List Byte) := []
  /-- messages that have arrived and take effect at the next boundary (R383) -/
  inbox : List MateMsg := []
  /-- messages that wait to go by MATE_RELAY: 8·r + g and bytes (R385) -/
  relay : List (Nat × List Byte) := []
  /-- the tick of the last HELLO and of the last TIME_RELAY, and that one's fields -/
  helloAt : Nat := 0
  relayAt : Nat := 0
  relayed : List Byte := []
  /-- the first tick without WAKE sets (R386); 0: none are sent -/
  wakeUntil : Nat := 0
  /-- SELECTED of the mate's latest TIME_RELAY (R380) -/
  mateSelected : Nat := 255
  deriving DecidableEq, Repr

/-! ### Engines (chapters 16 and 17) -/

/-- A message on its way (R399): the slot 16·c + e that sent it, its destination word, its words, the sender's cs.tick, and
the tick and engine cycle from which it can be read. -/
structure EngMsg where
  src : Nat
  dest : Nat
  words : List Word
  sent : Nat
  tick : Nat
  cycle : Nat
  deriving DecidableEq, Repr

/-- One slot (R389, R392). Registers, CSRs and memories not listed hold 0. DESIGN CHOICE: log entry 6. -/
structure EngSlot where
  /-- instruction and data memory, by byte offset (Table 16.2) -/
  text : List Host.Cell := []
  data : List Host.Cell := []
  pc : Word := 0
  /-- g1–g31 -/
  g : List (Nat × Word) := []
  /-- lanes by 8·v + lane -/
  v : List (Nat × Word) := []
  /-- the stored CSRs by number (Table 16.1): 0x000 bit 1, 0x001–0x006, 0x013, 0x031, 0x800–0xFFF -/
  csr : List (Nat × Word) := []
  /-- latches of bits 47:32 of the counters (R427) -/
  latch : List (Nat × Nat) := []
  /-- a task is running, its tick, and the MWAIT it waits in: d and mask (R408, R409) -/
  running : Bool := false
  tick : Nat := 0
  waiting : Option (BitVec 5 × BitVec 4) := none
  /-- the cycle of the last issue, the slots used in it, and the word of its first instruction (R403) -/
  cycle : Nat := 0
  used : Nat := 0
  first : Word := 0
  /-- registers not yet ready: cycle and the starvation code of Table 17.2; the last accumulation (R403) -/
  ready : List (Nat × (Nat × Nat)) := []
  acc : Option (Nat × Nat) := none
  portFree : Nat := 0
  /-- the starvation code of a wait for the port: 3 where a bank conflict holds it, else 6 (Table 17.2) -/
  portCode : Nat := 6
  divFree : Nat := 0
  /-- moorings 0–3: messages, oldest first, with the tick and cycle from which each can be read (R399) -/
  moor : List (Nat × List (Nat × Nat × List Word)) := []
  /-- messages taken from each mooring, modulo its 16 places -/
  moorAt : List (Nat × Nat) := []
  /-- the cycle by which the stores, ATOMs and MSENDs issued so far are complete, as far as the spec times it, and whether a store or
  MSEND is among them since the last FENCE (Table 16.7) -/
  memDone : Nat := 0
  memOpen : Bool := false
  /-- outputs held until TEND: hub channel and words (R421) -/
  out : List (Nat × List Word) := []
  /-- consecutive tasks that trapped, and that overran (R407, R423) -/
  trapRun : Nat := 0
  overRun : Nat := 0
  /-- counters preset by a write, the cycle of it and the value before it; counters that have wrapped, and the cycle (Table 17.4) -/
  preset : List (Nat × Nat × Nat) := []
  wrapped : List (Nat × Nat) := []
  /-- counters, the cycle of their last increments and how many those were -/
  counted : List (Nat × Nat × Nat) := []
  deriving DecidableEq, Repr

/-- Chapters 16 and 17. -/
structure EngineSt where
  /-- slots by 16·c + e -/
  slots : List (Nat × EngSlot) := []
  /-- shared memory by cluster and byte offset -/
  shared : List (Nat × List Host.Cell) := []
  /-- accesses that the banks of shared memory have served in this tick: bank 16·k + b, cycle and 12·slot + cluster (R394) -/
  banks : List (Nat × Nat × Nat) := []
  /-- tap windows by byte offset: reaches 0–3, and 4 the decoder pool (R396) -/
  taps : List (Nat × List Host.Cell) := []
  transit : List EngMsg := []
  /-- outputs gathered in the hub, which take effect at the next boundary (R37, R419) -/
  gathered : List EngMsg := []
  /-- keeper channels 0–15: the messages that took effect at the present tick's boundary -/
  hubIn : List (Nat × List Word) := []
  /-- the slot mask of a load that runs, by cluster (R411) -/
  loading : List (Nat × Nat) := []
  /-- slots without a physical engine, 16·c + e (R418, R475) -/
  unheld : List Nat := []
  deriving DecidableEq, Repr

/-! ### The supervisory converter (chapter 18) -/

/-- A conversion slot in progress (R432, R434): its kind (0 sequence, 1 sentinel, 2 injection, 3 no conversion), its
channel, the SETTLING tag its result will carry, whether its entry sets NO_QUEUE, and its start and length in TREF cycles. -/
structure Conv where
  kind : Nat
  channel : Nat
  /-- the place of an injection: 0 general, 1 + 4·r + k calibration (R437) -/
  place : Nat := 0
  settling : Bool := false
  noQueue : Bool := false
  tick : Nat := 0
  phase : Nat := 0
  len : Nat := 20
  deriving DecidableEq, Repr

/-- One filter slot's history (R442–R445). -/
structure FilterSt where
  /-- the last 5 inputs, newest first -/
  xs : List Int := []
  /-- integrators, combs and inputs since the last decimated output -/
  integ : List Nat := [0, 0, 0]
  comb : List Nat := [0, 0, 0]
  count : Nat := 0
  /-- the last 32 CIC outputs c, newest first -/
  cs : List Int := []
  /-- outputs still to carry SETTLING after a change of configuration and after a bank swap -/
  settle : Nat := 0
  swapSettle : Nat := 0
  /-- bank swaps applied at step 10 that wait for the next output (R444) -/
  swaps : Nat := 0
  /-- bank lengths written since the last boundary, by bank: they come at its step 9 (R443) -/
  lengths : List (Nat × Int) := []
  /-- the window in progress: outputs, extremes and the sum of squares (R445) -/
  winCount : Nat := 0
  winMax : Int := 0
  winMin : Int := 0
  winSq : Nat := 0
  deriving DecidableEq, Repr

/-- The watch of one rail (R515): results in a row outside and inside its range, and whether the condition holds. -/
structure RailSt where
  out : Nat := 0
  within : Nat := 0
  bad : Bool := false
  deriving DecidableEq, Repr

/-- Chapter 18. -/
structure SuperSt where
  /-- the slot in progress; none before the first -/
  now : Option Conv := none
  /-- the mode the slots run in: 0 FULL, 1 LOW_POWER; conversions of it still to tag, and its slots (R433, R434) -/
  mode : Nat := 0
  modeSettle : Nat := 0
  modeSlots : Nat := 0
  /-- the sequence: the entry, conversions of its visit still to make, the channel on the main buffer and conversions of it
  still to tag, and the restart that a table write asks for (R435, R436) -/
  entry : Nat := 0
  left : Nat := 0
  restart : Bool := true
  channel : Option Nat := none
  chanSettle : Nat := 0
  /-- sentinel conversions due and displaced, the next one's channel less 16, and sentinels not read by the firmware -/
  sentDue : Nat := 0
  sentNext : Nat := 0
  unread : Nat := 0
  /-- the injection list: place and channel, oldest first (R437) -/
  inj : List (Nat × Nat) := []
  /-- the result queue, oldest first (R440) -/
  queue : List Nat := []
  /-- the last 8 untagged codes of a temperature sensor, newest first (R441) -/
  temps : List (Nat × List Nat) := []
  filters : List (Nat × FilterSt) := []
  /-- the bias DAC codes in force, by 8·r + j (R447) -/
  bias : List (Nat × Nat) := []
  /-- by rail-monitor channel (R515) -/
  rails : List (Nat × RailSt) := []
  /-- by reach r, one more than the tick since which every result of channel 68 + 4·r has stood above WAKE_LEVEL; 0: the
  latest one did not (Table 20.6, sources 4–7) -/
  wakeSince : List (Nat × Nat) := []
  deriving DecidableEq, Repr

/-! ### Package and board (chapter 21) -/

/-- A 2-wire transfer under way (R503): the bytes it writes and the number it reads. -/
structure Twi where
  addr : Nat := 0
  write : List Byte := []
  reads : Nat := 0
  deriving DecidableEq, Repr

/-- Chapter 21. -/
structure BoardSt where
  /-- the levels that the board drives on GPIO0–15, one bit each (R509) -/
  pins : Nat := 0
  /-- the transfer RUNNING on each reach's 2-wire master (R503) -/
  twi : List (Nat × Twi) := []
  /-- failed AVSBus transactions in a row, and the tick of the last retry in FAULT (R514) -/
  avsFails : Nat := 0
  avsRetry : Nat := 0
  /-- the VDD_CORE voltage last acknowledged (mV), and the tick of that step (R514) -/
  avsRail : Nat := 700
  avsMoved : Nat := 0
  /-- an AVSBus transaction has been sent since the start, so that its pins are driven (Table 21.5) -/
  avsSent : Bool := false
  /-- the tick of the thermal trip in force (R510) -/
  tripTick : Nat := 0
  /-- held in reset by a thermal shutdown (R511), or by an absent local oscillator (R519) -/
  hot : Bool := false
  noOsc : Bool := false
  /-- reaches that have been released since they were last powered up: their TXEN and DRVEN pins are driven (Table 21.5) -/
  live : List Nat := []
  /-- the test access port holds an instruction that drives pins (R506) -/
  scan : Bool := false
  deriving DecidableEq, Repr

/-! ### Assay, memory integrity and the stockpile (chapter 19) -/

/-- A stockpile allocation on its way (R470–R475). The kind is the bit of EXHAUSTED: 0 slice, 1 decoder core, 2 cipher core,
3 engine, 4 SRAM row, 5 basin page. Units and successors are numbered as in Table 19.1; a row is 4,096 · macro + row and its
successor the spare row of that macro; a page is 2²¹ · port + page. -/
structure Swap where
  kind : Nat
  unit : Nat
  succ : Option Nat := none
  /-- asked for by SWAP_UNIT (R472) -/
  commanded : Bool := false
  /-- the batch whose commit carries it; 0 while it waits for a commit to start -/
  batch : Nat := 0
  /-- the tick at which that commit became valid -/
  valid : Option Nat := none
  /-- an engine's state has been copied (R473) -/
  copied : Bool := false
  /-- a row's byte address; 1 for a page whose successor comes from the reserve -/
  addr : Nat := 0
  deriving DecidableEq, Repr

/-- A corrected address that a table of R462 follows: its count and the lap of its first correction. -/
structure Corr where
  addr : Nat
  count : Nat
  lap : Nat
  /-- it has been counted as a repeat corrector -/
  rep : Bool
  deriving DecidableEq, Repr

/-- The assay that runs: 0 start, 1 shutdown, 2 on demand, with its unit. -/
structure Assay where
  kind : Nat
  unit : Nat := 0
  deriving DecidableEq, Repr

/-- An uncorrectable byte whose consequence (Table 19.4) comes at the next boundary: the memory group, what the byte belongs
to, and sequences whose slots can no longer be located. -/
structure MemBad where
  m : Nat
  owner : Nat
  lost : List Nat := []
  deriving DecidableEq, Repr

/-- Chapter 19. -/
structure IntegSt where
  /-- failures detected and not yet served, in order of detection (R471) -/
  reported : List Nat := []
  swaps : List Swap := []
  /-- swaps whose successor waits for the power-up of its domain (R472) -/
  late : List Swap := []
  /-- batches begun, and the batch that record 0x1189 follows: 0 the requests that wait (R472) -/
  batches : Nat := 0
  recBatch : Nat := 0
  /-- units out of service since their detection (Table 19.6, step 2) -/
  out : List Nat := []
  /-- slices retired without a successor (Table 19.7) -/
  lostSlices : List Nat := []
  /-- system slots that lost their engine, until step 3 (R477) -/
  sysLost : List Nat := []
  assay : Option Assay := none
  /-- domains and single units assayed since power-up (37: the hub core), and units whose last assay failed (R455, R457) -/
  tested : List Nat := []
  testedUnits : List Nat := []
  failedUnits : List Nat := []
  /-- correction tables of memory groups 0–21 and of basin ports, 32 + p (R462, R467) -/
  track : List (Nat × List Corr) := []
  /-- laps: the group's lap number and the tick it started; 32: the rake's passes (R459, R465) -/
  laps : List (Nat × (Nat × Nat)) := []
  /-- macros whose exhaustion has been raised (R464), and rows replaced: macro and row (R463) -/
  spentMacros : List Nat := []
  rows : List (Nat × Nat) := []
  bad : List MemBad := []
  /-- bytes known to be uncorrectable, which stay so until they are written (R460): memory group and address -/
  lostBytes : List (Nat × Nat) := []
  /-- the next byte of each group's scrubber (R459) -/
  scrubAt : List (Nat × Nat) := []
  /-- units that report "not tested": retired when their domain was assayed, or cut short (R67, R450) -/
  notTested : List Nat := []
  /-- flows whose entry is uncorrectable until step 8, groups whose frame is rejected, log entries that are lost -/
  flowBad : List Nat := []
  frameBad : List Nat := []
  logBad : List Nat := []
  /-- slots that the rake's pass has read, and the port and slot it has reached (R465) -/
  rakeAt : Nat := 0
  rakePlace : Nat × Nat := (0, 0)
  /-- reserve pages taken by retirements, by port (R468) -/
  pagesTaken : List (Nat × Nat) := []
  deriving DecidableEq, Repr

/-- The whole block. -/
structure State where
  /-- the commands that are waiting, first in, first out -/
  pending : List Instr
  /-- the object dictionary's values: key 256·index + sub-index; an unlisted entry has its default (R62) -/
  regs : List (Nat × Int)
  core : CoreSt
  agent : AgentSt
  start : StartSt
  power : PowerSt
  conv : ConvSt
  /-- loading by 8·r + g -/
  loads : List (Nat × Load)
  eq : EqSt
  pool : PoolSt
  frame : FrameSt
  berth : BerthSt
  basin : BasinSt
  rest : RestSt
  key : KeySt
  timing : TimingSt
  towpath : TowpathSt
  engine : EngineSt
  sup : SuperSt
  integ : IntegSt
  board : BoardSt
  deriving DecidableEq, Repr

/-- The block with RESET_N low after power-on: every object at its default, every domain moored, an erased ledger (R62, R96,
R105, R109). -/
def State.reset : State :=
  { pending := [], regs := [], core := {}, agent := {}, start := { inReset := true }, power := {}, conv := {}, loads := [],
    eq := {}, pool := {}, frame := {}, berth := {}, basin := {}, rest := {}, key := {}, timing := {}, towpath := {},
    engine := {}, sup := {}, integ := {}, board := {} }

end Sys2Proof.Machine
end

