-- ==== Sys2Proof/Machine/Ops.lean ====
section
/-! DEFINITION. The named operations every unit uses: reading and writing the dictionary's registers, raising and
rate-limiting events (R70, R231), progress records (R64–R67), telemetry rings and MSI-X vectors (R88–R91), domain
states (R481) and accepting a power request (R487). -/
namespace Sys2Proof.Machine

/-- The base index of the record an index belongs to: the records of several instances stand at fixed strides (the
address rules of the chapters' object tables, R23, R24, R159 …). -/
def canonIdx (i : Nat) : Nat :=
  if 0x2000 ≤ i ∧ i < 0x2800 then
    let o := (i - 0x2000) % 0x200
    if 0x28 ≤ o ∧ o ≤ 0x2F then 0x2028
    else if 0x30 ≤ o ∧ o ≤ 0x37 then 0x2030
    else if 0x100 ≤ o ∧ o ≤ 0x13F then 0x2100
    else if 0x140 ≤ o ∧ o ≤ 0x147 then 0x2140
    else 0x2000 + o
  else if 0x2810 ≤ i ∧ i ≤ 0x282F then 0x2810
  else if 0x2910 ≤ i ∧ i ≤ 0x292F then 0x2910
  else if 0x3000 ≤ i ∧ i ≤ 0x33FF then
    if i % 16 = 15 then (if i % 0x80 = 0x0F then 0x300F else i) else 0x3000 + i % 16
  else if 0x3420 ≤ i ∧ i ≤ 0x343F then 0x3420
  else if 0x3440 ≤ i ∧ i ≤ 0x345F then 0x3440
  else if 0x3520 ≤ i ∧ i ≤ 0x3527 then 0x3520
  else if 0x3540 ≤ i ∧ i ≤ 0x355F then 0x3540
  else if 0x3590 ≤ i ∧ i ≤ 0x3593 then 0x3590
  else if 0x3820 ≤ i ∧ i ≤ 0x383F then 0x3820
  else if 0x4010 ≤ i ∧ i ≤ 0x401B then 0x4010
  else if 0x4060 ≤ i ∧ i ≤ 0x4063 then 0x4060
  else if 0x4110 ≤ i ∧ i ≤ 0x4117 then 0x4110
  else if 0x5000 ≤ i ∧ i ≤ 0x52FF then
    let o := (i - 0x5000) % 0x40
    if o = 0 then 0x5000 else if 0x10 ≤ o ∧ o ≤ 0x1F then 0x5010 else i
  else if 0x5310 ≤ i ∧ i ≤ 0x5313 then 0x5310
  else if 0x5400 ≤ i ∧ i ≤ 0x54BF then 0x5400
  else if 0x1620 ≤ i ∧ i ≤ 0x163F then 0x1620
  else if 0x1640 ≤ i ∧ i ≤ 0x165F then 0x1640
  else if 0x1660 ≤ i ∧ i ≤ 0x167F then 0x1660
  else if 0x1680 ≤ i ∧ i ≤ 0x1683 then 0x1680
  else if 0x1510 ≤ i ∧ i ≤ 0x1525 then 0x1510
  else if 0x1720 ≤ i ∧ i ≤ 0x1723 then 0x1720
  else if 0x1180 ≤ i ∧ i ≤ 0x118A then 0x1180
  else i

/-- The rows of the record an index belongs to; empty for an unknown index (R47). -/
def rowsOf (idx : Nat) : List Row :=
  match objRecords.find? (fun p => p.1 == canonIdx idx) with
  | some p => p.2
  | none => []

/-- The row of an entry: none for an unknown index or an absent sub-index (R47). -/
def rowAt (idx sub : Nat) : Option Row :=
  (rowsOf idx).find? (fun r => decide (r.lo ≤ sub ∧ sub ≤ r.hi))

/-- The number of entries of a record: what sub-index 0x00 reads (R47). -/
def entryCount (idx : Nat) : Nat := (rowsOf idx).foldl (fun a r => max a r.hi) 0

/-- Table 19.3: the memory groups' LAP_MAX in ticks and macro count. -/
def memGroupTable : List (Nat × Nat) :=
  List.replicate 12 (1000, 192) ++ List.replicate 4 (200, 48) ++
    [(100, 8), (1000, 64), (100, 96), (100, 8), (1000, 16), (1000, 4)]

/-- The default of an entry (R62): the table's value, or the value its instance numbers give.
DESIGN CHOICE: log entry 78. -/
def objDefault (key : Nat) : Int :=
  let idx := key / 256
  let sub := key % 256
  let base := canonIdx idx
  if sub = 0 then (entryCount idx : Int)
  else if base = 0x2030 then ((sub - 1 : Nat) : Int)
  else if base = 0x2140 ∧ sub = 4 then (if (idx - 0x2140) % 0x200 = 0 then 64 else 0)
  else if base = 0x2801 then (if sub % 13 = 0 then 2 else 1)
  else if base = 0x3801 then (if 32 < sub then 2 else 1)
  else if base = 0x3802 then (if sub = 1 then 4 else 0)
  else if base = 0x1660 then (if sub = 1 ∨ sub = 33 then 131071 else 0)
  else if base = 0x3590 ∧ sub = 2 then ((idx - 0x3590 : Nat) : Int)
  else if base = 0x3590 ∧ sub = 3 then (((idx - 0x3590) ^^^ 1 : Nat) : Int)
  else if base = 0x5010 ∧ sub = 2 then (((idx - 0x5010) % 0x40 : Nat) : Int)
  else if base = 0x5000 ∧ sub = 7 then (if 0x5200 ≤ idx then 1 else 0)
  else if base = 0x5310 ∧ sub = 1 then ((8 + (idx - 0x5310) : Nat) : Int)
  else if base = 0x1602 then (if sub ≤ 32 then (Config.seqEntry (sub - 1) : Int) else 0)
  else if base = 0x1510 ∧ sub = 2 then (((memGroupTable.getD (idx - 0x1510) (0, 0)).1 : Nat) : Int)
  else if base = 0x1510 ∧ sub = 7 then ((2 * (memGroupTable.getD (idx - 0x1510) (0, 0)).2 : Nat) : Int)
  else match rowAt idx sub with
    | some r => r.dflt
    | none => 0

/-- Read a register of the dictionary. -/
def State.rd (s : State) (key : Nat) : Int := tget objDefault s.regs key

/-- Read a register as a natural number. -/
def State.rdN (s : State) (key : Nat) : Nat := (s.rd key).toNat

/-- Read a BOOL8 register. -/
def State.rdB (s : State) (key : Nat) : Bool := s.rd key == 1

/-- Write a register of the dictionary, keeping the canonical form. -/
def State.wr (s : State) (key : Nat) (v : Int) : State := { s with regs := tset objDefault s.regs key v }

/-- Write a register with a natural number. -/
def State.wrN (s : State) (key v : Nat) : State := s.wr key (v : Int)

/-- Advance a 64-bit counter, which wraps at its width (R54). -/
def State.incBy (s : State) (key n : Nat) : State := s.wrN key ((s.rdN key + n) % 2 ^ 64)

/-- Advance a 64-bit counter by one. -/
def State.inc (s : State) (key : Nat) : State := s.incBy key 1

/-- Fold a state change over a list. -/
def State.each {α : Type} (s : State) (l : List α) (f : State → α → State) : State := l.foldl f s

/-- Change a state only where a condition holds. -/
def State.onlyIf (s : State) (b : Bool) (f : State → State) : State := if b then f s else s

/-- Lifetime powered seconds now (R114). -/
def State.life (s : State) : Nat := s.start.lifeBase + s.core.tick / 100000

/-- Draw a free value: a value the spec leaves open (Config.free), a fresh one at every draw.
DESIGN CHOICE: log entry 4. -/
def State.draw (s : State) : Nat × State :=
  (Config.free s.core.freeCtr, { s with core.freeCtr := s.core.freeCtr + 1 })

/-- A quotient whose rounding the spec does not state: exact where it is whole, else its floor or the next number up by a
free choice (log entry 21). DESIGN CHOICE: log entry 21. -/
def State.roundFree (s : State) (a b : Nat) : Nat × State :=
  if b = 0 then (0, s)
  else if a % b = 0 then (a / b, s)
  else
    let (n, s) := s.draw
    (a / b + (if Config.roundUp n then 1 else 0), s)

/-- `roundFree` of a signed number. DESIGN CHOICE: log entry 21. -/
def State.roundFreeInt (s : State) (a : Int) (b : Nat) : Int × State :=
  if b = 0 then (0, s)
  else if a % (b : Int) = 0 then (a / (b : Int), s)
  else
    let (n, s) := s.draw
    (a / (b : Int) + (if Config.roundUp n then 1 else 0), s)

/-! ### Status codes (Table 3.11) -/

namespace Status
def ok : Nat := 0x00
def unknownOpcode : Nat := 0x01
def unknownObject : Nat := 0x02
def noSubindex : Nat := 0x03
def readOnly : Nat := 0x04
def writeOnly : Nat := 0x05
def accessDenied : Nat := 0x06
def typeMismatch : Nat := 0x07
def reservedBits : Nat := 0x08
def outOfRange : Nat := 0x09
def notMoored : Nat := 0x0A
def busy : Nat := 0x0B
def refused : Nat := 0x0C
def evicted : Nat := 0x0D
def mixedBlock : Nat := 0x0E
def sessionLimit : Nat := 0x0F
def unknownCredential : Nat := 0x10
def tooLong : Nat := 0x11
def abortedPower : Nat := 0x12
def sealedUp : Nat := 0x13
def unitOff : Nat := 0x14
end Status

/-! ### Events -/

/-- Raise an event: it starts on its way to the log (R68; Table 2.4). -/
def State.raise (s : State) (code source arg : Nat) : State :=
  { s with core.inFlight := s.core.inFlight ++ [⟨code, source, arg, s.core.tick, s.life⟩] }

/-- The severity of an event code (Table 3.7a). -/
def severity (code : Nat) : Nat := code / 2 ^ 14 % 4

/-- The argument of a rate-limited event that stands for `n` occurrences (R231): the count, saturating at its field's
width, with what the event's table puts beside it: the last sub-carrier (EQ_REACQUIRED, Table 7.11), the latest
FLOOR_GRANTED (Table 8.8), the PEER_ID received (Table 9.10), the flow (Tables 11.12, 12.6), the trap's cause
(Table 16.13), the sentinel (Table 18.6), or an address or reading alone (Tables 19.11, 21.17). -/
def limitedArg (code n last : Nat) : Nat :=
  if code = 0x8053 ∨ code = 0x80F0 then min n 0xFFFFFF * 256 + last
  else if code = 0x8060 then min n 0xFFFF * 65536 + last
  else if code = 0x8072 then last * 65536 + min n 0xFFFF
  else if code = 0xC094 ∨ code = 0xC095 ∨ code = 0x8098 ∨ code = 0x80A8 then last * 2 ^ 20 + min n 0xFFFFF
  else if code = 0x80E0 then last * 2 ^ 24 + min n 0xFFFFFF
  else if code = 0xC102 ∨ code = 0x8103 ∨ code = 0x8123 then last
  else min n 0xFFFFFFFF

/-- Raise a rate-limited event (R231) of a source, and of one flow, channel or slot of it where its chapter says so: the
first at once with its own count, later ones of the next 100,000 ticks are held back and counted. `n` is how many
occurrences this is; `last` is what the argument names beside the count. -/
def State.raiseLimitedItem (s : State) (code source item n last : Nat) : State :=
  let same (l : RateLimit) : Bool := l.code == code && l.source == source && l.item == item
  if s.core.limits.any same then
    { s with core.limits := s.core.limits.map (fun l => if same l then { l with held := l.held + n, last := last } else l) }
  else
    let s := s.raise code source (limitedArg code n last)
    { s with core.limits := s.core.limits ++ [⟨code, source, item, s.core.tick + 100000, 0, last⟩] }

/-- A rate-limited event limited for its source alone. -/
def State.raiseLimitedFor (s : State) (code source n last : Nat) : State := s.raiseLimitedItem code source 0 n last

/-- Raise a rate-limited event whose argument is a count alone (R231). -/
def State.raiseLimited (s : State) (code source n : Nat) : State := s.raiseLimitedFor code source n 0

/-- The path in use on a reach (R305): PATH_IN_USE of a PATH unit's reach, path 0 of every other. -/
def State.pathOf (s : State) (r : Nat) : Nat :=
  match (List.range 4).find? (fun u => s.rdN (Obj.unitMode u) == 1 && s.rdN (Obj.workingReach u) == r) with
  | some u => s.rdN (Obj.pathInUse u)
  | none => 0

/-- A register as the prospective configuration has it (R525): the last write in the staging window, else the value in
force. -/
def State.prd (s : State) (key : Nat) : Int :=
  match s.core.window.reverse.find? (fun w => w.key == key) with
  | some w => w.val
  | none => s.rd key

/-- A prospective register as a natural number. -/
def State.prdN (s : State) (key : Nat) : Nat := (s.prd key).toNat

/-! ### Domains -/

/-- The state of a domain (R481): 0 OFF, 1 POWERING, 2 MOORED, 3 RELEASED. DEDUCED: log entry 5. -/
def State.dom (s : State) (d : Nat) : Nat := tget (fun _ => 2) s.power.dom d

/-- Set the state of a domain. -/
def State.setDom (s : State) (d v : Nat) : State := { s with power.dom := tset (fun _ => 2) s.power.dom d v }

/-- A domain is RELEASED. -/
def State.released (s : State) (d : Nat) : Bool := s.dom d == 3

/-- A domain is powered: MOORED or RELEASED. -/
def State.poweredDom (s : State) (d : Nat) : Bool := 2 ≤ s.dom d

/-- A domain is OFF or still POWERING: its unit is off. -/
def State.offDom (s : State) (d : Nat) : Bool := s.dom d < 2

/-- The target in force of a domain (DOMAIN_TARGET): 0 RELEASED, 1 MOORED, 2 OFF. DEDUCED: log entry 36. -/
def State.target (s : State) (d : Nat) : Nat := s.rdN (Obj.domainTarget d)

/-- The domain number of reach r (R481). -/
def domReach (r : Nat) : Nat := r
/-- The domain number of berth group k (R481). -/
def domBerth (k : Nat) : Nat := 4 + k
/-- The domain number of decoder quarter q (R481). -/
def domQuarter (q : Nat) : Nat := 12 + q
/-- The domain number of basin port p (R481). -/
def domPort (p : Nat) : Nat := 16 + p
/-- The domain number of the cipher array (R481). -/
def domCipher : Nat := 24
/-- The domain number of engine cluster c (R481). -/
def domCluster (c : Nat) : Nat := 25 + c

/-- The domains a request names (R483), ascending. -/
def PowReq.domains (q : PowReq) : List Nat :=
  upto 25 (bitOf q.maskA) ++ (upto 12 (bitOf q.maskB)).map (fun c => 25 + c)

/-- A request as the 12 bytes of R483, read as a number. -/
def PowReq.value (q : PowReq) : Int :=
  (((q.target * 256 + (if q.urgent then 1 else 0)) * 2 ^ 80 + q.maskA * 2 ^ 32 + q.maskB : Nat) : Int)

/-- Show the requests held in IN_PROGRESS and PENDING (zero: none). DEDUCED: log entry 5. -/
def State.showPower (s : State) : State :=
  (s.wr Obj.powerInProgress ((s.power.cur.map PowReq.value).getD 0)).wr Obj.powerPending
    ((s.power.pend.map PowReq.value).getD 0)

/-- Report a refused request or a superseded one (R487, R489): counted in its kind's counter, shown in LAST_REFUSER, and
raised. Kinds 8 to 10 count at sub-indices 9 to 11 (Table 20.8). DEDUCED: log entry 35. -/
def State.powerRefused (s : State) (kind ident : Nat) : State :=
  let arg := kind * 2 ^ 24 + ident % 2 ^ 24
  ((s.inc (objKey 0x1220 (if kind ≤ 7 then kind else kind + 1))).wrN Obj.lastRefuser arg).raise 0x8111 0x1200 arg

/-- Count a superseded or replaced request (R487). DEDUCED: log entry 35. -/
def State.countSuperseded (s : State) : State := s.powerRefused 7 0

/-- The targets that an accepted request puts in force for the domains it names (R483). DORMANT changes none: the
targets in force are recorded and restored (R491, R492). DEDUCED: log entry 36. -/
def State.putTargets (s : State) (q : PowReq) : State :=
  if q.target = 3 then s else s.each q.domains (fun s d => s.wrN (Obj.domainTarget d) q.target)

/-- Accept a power request (R487): with nothing in progress it waits for the next boundary, in place of one that waits already;
before any commit point it supersedes the request in progress; otherwise it becomes, or replaces, the pending one.
DEDUCED: log entry 35. -/
def State.submitPower (s : State) (q : PowReq) : State :=
  let s := s.putTargets q
  match s.power.cur with
  | none =>
    if s.power.leaving then
      let s := s.onlyIf s.power.pend.isSome State.countSuperseded
      ({ s with power.pend := some q }).showPower
    else
      let s := s.onlyIf s.power.waiting.isSome State.countSuperseded
      let s := s.onlyIf s.power.pend.isSome State.countSuperseded
      ({ s with power.waiting := some q, power.pend := none }).showPower
  | some _ =>
    if s.power.committed then
      let s := s.onlyIf s.power.pend.isSome State.countSuperseded
      ({ s with power.pend := some q }).showPower
    else
      let s := s.countSuperseded
      ({ s with power.cur := none, power.draining := [], power.waiting := some q, power.committed := false }).showPower

/-- The protect reach of a unit (Table 12.1): WORKING_REACH XOR 1 in REACH mode, PROTECT_REACH otherwise. -/
def State.protectOf (s : State) (u : Nat) : Nat :=
  if s.rdN (Obj.unitMode u) = 2 then s.rdN (Obj.workingReach u) ^^^ 1 else s.rdN (Obj.protectReach u)

/-- The unit states of the units that name a reach. -/
def State.unitStatesOf (s : State) (r : Nat) : List Nat :=
  ((List.range 4).filter (fun u => s.rdN (Obj.unitMode u) != 0 &&
    (s.rdN (Obj.workingReach u) == r || (s.rdN (Obj.unitMode u) == 2 && s.protectOf u == r)))).map (fun u => s.rdN (Obj.unitState u))

/-- A reach's unit is RESTORING: background calibration is suspended (R143, R309). -/
def State.reachRestoring (s : State) (r : Nat) : Bool := (s.unitStatesOf r).contains 3

/-- A reach's unit is RESTORING or in DOUBLE_FAULT, whose retries belong to the restoration (R311, R319). -/
def State.reachReacquires (s : State) (r : Nat) : Bool := (s.unitStatesOf r).any (fun st => st == 3 || st == 5)

/-- Report a unit to stockpile control as failed (R140, R470): its unit number of Table 19.1. -/
def State.reportFailed (s : State) (unit : Nat) : State :=
  if s.integ.reported.contains unit then s else { s with integ.reported := s.integ.reported ++ [unit] }

/-! ### Progress records -/

/-- PERCENT of a RUNNING record (R65). -/
def runningPercent (pos pend : Nat) : Nat := if pend = 0 then 0 else min 9999 (10000 * pos / pend)

/-- An operation's state: 0 IDLE, 1 RUNNING, 2 DONE, 3 FAILED, 4 ABORTED (Table 3.5). `o` is the record's offset from
0x1180 (Table 3.4). -/
def State.opRunning (s : State) (o : Nat) : Bool := s.rdN (Obj.opState o) == 1

/-- A start command accepted (Table 3.6). -/
def State.opStart (s : State) (o posEnd : Nat) : State :=
  ((((s.wrN (Obj.opState o) 1).wrN (Obj.opPosition o) 0).wrN (Obj.opPercent o) 0).wrN (Obj.opPositionEnd o) posEnd).wrN
    (Obj.opStartTick o) s.core.tick

/-- Work advances to a position; POSITION and PERCENT never decrease while RUNNING (R65). -/
def State.opAdvance (s : State) (o pos : Nat) : State :=
  if s.opRunning o then
    let p := max (s.rdN (Obj.opPosition o)) pos
    let s := s.wrN (Obj.opPosition o) p
    s.wrN (Obj.opPercent o) (max (s.rdN (Obj.opPercent o)) (runningPercent p (s.rdN (Obj.opPositionEnd o))))
  else s

/-- The work of a RUNNING operation turns out larger or smaller: PERCENT follows POSITION_END, but never falls (R65). -/
def State.opResize (s : State) (o posEnd : Nat) : State := (s.wrN (Obj.opPositionEnd o) posEnd).opAdvance o 0

/-- The operation ends well (Table 3.6). -/
def State.opDone (s : State) (o : Nat) : State :=
  ((s.wrN (Obj.opPercent o) 10000).wrN (Obj.opState o) 2).raise 0x4005 (0x1180 + o) 0

/-- The operation fails with a status (Table 3.6). -/
def State.opFail (s : State) (o status : Nat) : State :=
  ((s.wrN (Obj.opLastStatus o) status).wrN (Obj.opState o) 3).raise 0x8006 (0x1180 + o) status

/-- The operation is aborted, with LAST_STATUS ABORTED_POWER (0x12) or 0x00 (Table 3.6). -/
def State.opAbort (s : State) (o status : Nat) : State :=
  ((s.wrN (Obj.opLastStatus o) status).wrN (Obj.opState o) 4).raise 0x8006 (0x1180 + o) status

/-! ### The host port's rings and vectors -/

/-- The entry size in bytes of a telemetry ring; 0 for a ring with no stream assigned (R91). -/
def ringEntrySize (q : Nat) : Nat :=
  if q = 0 then 24 else if q = 2 then 1536 else if q = 3 then 24
  else if 4 ≤ q ∧ q ≤ 7 then 40 else if q = 15 then 8 else 0

/-- The capacity of a telemetry ring in entries (R91). -/
def ringCapacity (q : Nat) : Nat := if ringEntrySize q = 0 then 0 else 262144 / ringEntrySize q

/-- What an unwritten BAR0 dword holds: a ring's GEOMETRY (Table 3.15b), and a set mask bit in each entry of the MSI-X table,
as PCIe has it at reset (log entry 33); else 0. PRESUMED: log entry 33. -/
def barDefault (i : Nat) : Nat :=
  if 0x100 ≤ i ∧ i < 0x140 ∧ i % 4 = 2 then ringEntrySize ((i - 0x100) / 4) + 65536 * ringCapacity ((i - 0x100) / 4)
  else if 0x2000 ≤ i ∧ i < 0x2100 ∧ i % 4 = 3 then 1 else 0

/-- Read a BAR0 register by byte offset. -/
def State.bar (s : State) (off : Nat) : Nat := tget barDefault s.agent.bar0 (off / 4)

/-- Write a BAR0 register by byte offset. -/
def State.setBar (s : State) (off v : Nat) : State :=
  { s with agent.bar0 := tset barDefault s.agent.bar0 (off / 4) (v % 2 ^ 32) }

/-- Signal an MSI-X vector (Table 3.14): a masked vector's pending bit is set instead (MSI-X, R85).
DESIGN CHOICE: log entry 81. DESIGN CHOICE: log entry 124. -/
def State.signal (s : State) (v : Nat) : State :=
  if bitOf (s.bar (0x8000 + 16 * v + 12)) 0 then
    s.setBar (0x9000 + 4 * (v / 32)) (setBit (s.bar (0x9000 + 4 * (v / 32))) (v % 32) true)
  else { s with agent.signals := tmod (fun _ => 0) s.agent.signals v (· + 1) }

/-- BAR0 offsets of a ring's registers (Table 3.15b). -/
def ringHeadOff (q : Nat) : Nat := 0x400 + 0x10 * q
def ringTailOff (q : Nat) : Nat := 0x404 + 0x10 * q
def ringDroppedOff (q : Nat) : Nat := 0x40C + 0x10 * q

/-- Entries a ring holds: (HEAD − TAIL) mod 2^32 (R91). -/
def State.ringFill (s : State) (q : Nat) : Nat :=
  (s.bar (ringHeadOff q) + 2 ^ 32 - s.bar (ringTailOff q)) % 2 ^ 32

/-- Write bytes into BAR2 at an offset. DESIGN CHOICE: log entry 80. -/
def State.putBar2 (s : State) (off : Nat) (bs : List Byte) : State :=
  { s with agent.bar2 := tputs 0#8 off bs s.agent.bar2 }

/-- Read bytes of BAR2. DESIGN CHOICE: log entry 6. DESIGN CHOICE: log entry 80. -/
def State.getBar2 (s : State) (off n : Nat) : List Byte :=
  (List.range n).map (fun i => tget (fun _ => 0#8) s.agent.bar2 (off + i))

/-- A ring's vector (Table 3.14): 1 for ring 0, 19 + q for rings 1–15. -/
def ringVector (q : Nat) : Nat := if q = 0 then 1 else 19 + q

/-- Write one entry to a telemetry ring, or drop and count it when the ring is full (R89, R91). The place of entry n follows the
full count of entries, which HEAD shows modulo 2^32, so that no unread entry is ever overwritten. DEDUCED: log entry 127. -/
def State.ringWrite (s : State) (q : Nat) (bs : List Byte) : State :=
  let cap := ringCapacity q
  if cap = 0 then s
  else if s.ringFill q = cap then s.setBar (ringDroppedOff q) (s.bar (ringDroppedOff q) + 1)
  else
    let h := s.bar (ringHeadOff q)
    let drained := s.ringFill q = 0
    let n := tget (fun _ => 0) s.agent.ringCount q
    let s := s.putBar2 (0x40000 * q + ringEntrySize q * (n % cap)) (bs.take (ringEntrySize q))
    let s : State := { s with agent.ringCount := tset (fun _ => 0) s.agent.ringCount q (n + 1) }
    let s := s.setBar (ringHeadOff q) (h + 1)
    if drained then s.signal (ringVector q) else s

/-! ### Crossings -/

/-- The source of a chamber writes a value (R41): launched at once when idle, else it replaces the waiting one, which
is then never delivered and is counted. -/
def Chamber.write (c : Chamber) (v : Nat) : Chamber × Nat :=
  if c.busy then ({ c with waiting := some v }, if c.waiting.isSome then 1 else 0)
  else ({ c with busy := true, value := v }, 0)

/-- The destination captures the value and the acknowledge returns: the newest waiting value is launched (R41). -/
def Chamber.ack (c : Chamber) : Chamber :=
  if c.busy then
    match c.waiting with
    | some w => { c with delivered := c.value, value := w, waiting := none, busy := true }
    | none => { c with delivered := c.value, busy := false }
  else c

/-- The count a tally delivers (R42): the difference of the counters modulo 2^16. -/
def Tally.step (t : Tally) : Nat := (t.src + 2 ^ 16 - t.dst) % 2 ^ 16

/-- Deliver a tally's count (R42). -/
def Tally.deliver (t : Tally) : Tally := { t with dst := t.src, total := t.total + t.step }

/-! ### Bytes of dictionary values -/

/-- The words of an n-byte OCTETS value held as a big-endian number (Table 3.1): the last word padded with zeros. -/
def octetWords (n v : Nat) : List Nat :=
  let w := (n + 3) / 4
  let x := v * 2 ^ (8 * (4 * w - n))
  (List.range w).map (fun i => x / 2 ^ (32 * (w - 1 - i)) % 2 ^ 32)

/-- The number that a value's words spell, most significant first. -/
def wordsNat (l : List Nat) : Nat := l.foldl (fun a w => a * 2 ^ 32 + w % 2 ^ 32) 0

end Sys2Proof.Machine
end

