-- ==== Sys2Proof/Machine/Ledger.lean ====
section
/-! DEFINITION. The ledger's records and commits (R108–R113), stockpile allocations as they wait for a commit (R472), and the
correction tables of memory groups with the row repairs that follow from them (R460–R464). -/
namespace Sys2Proof.Machine

/-! ### Records -/

/-- Bytes 0–251 of a record (Table 4.7). -/
def LedgerRec.body (x : LedgerRec) : List Byte :=
  beBytes 2 0x4C47 ++ beBytes 1 1 ++
  beBytes 1 ((if x.clean then 1 else 0) + 2 * (x.activeImage % 2) + 4 * (x.assayWhen % 4) + 16 * (x.watchdogRun % 4)) ++
  beBytes 4 x.sequence ++ beBytes 4 x.lifetime ++ beBytes 4 x.bootEpoch ++ beBytes 1 x.cause ++ beBytes 1 0 ++
  beBytes 2 x.repairCount ++ beBytes 1 x.assayOutcome ++ beBytes 1 x.assayFailed ++ beBytes 2 x.assayFirst ++
  beBytes 4 x.assayLifetime ++ (List.range 128).map (fun i => BitVec.ofNat 8 (x.sliceMap.getD i 0xFF)) ++
  beBytes 7 x.decoderMap ++ beBytes 1 0 ++ beBytes 5 x.cipherMap ++ beBytes 3 0 ++ beBytes 26 x.engineMap ++ beBytes 2 0 ++
  (List.range 8).flatMap (fun i => beBytes 4 (x.repairList.getD i 0xFFFFFFFF)) ++
  beBytes 4 x.powerCycles ++ beBytes 4 x.hotSeconds ++
  (List.range 8).map (fun i => BitVec.ofNat 8 (x.reserveUsed.getD i 0)) ++ beBytes 4 0

/-- A record's 256 bytes (R108). -/
def LedgerRec.bytes (x : LedgerRec) : List Byte := x.body ++ beBytes 4 (crc32 x.body)

/-- `n` bytes of a record from byte `b`, as a number. -/
def recField (bs : List Byte) (b n : Nat) : Nat := beNat ((bs.drop b).take n)

/-- The record a slot holds, if it is valid: MAGIC, FORMAT and CRC are correct (R109). -/
def parseRecord (bs : List Byte) : Option LedgerRec :=
  if bs.length = 256 ∧ recField bs 0 2 = 0x4C47 ∧ recField bs 2 1 = 1 ∧ recField bs 252 4 = crc32 (bs.take 252) then
    let f := recField bs 3 1
    some { clean := bitOf f 0, activeImage := bitsOf f 1 1, assayWhen := bitsOf f 3 2, watchdogRun := bitsOf f 5 4,
           sequence := recField bs 4 4, lifetime := recField bs 8 4, bootEpoch := recField bs 12 4,
           cause := recField bs 16 1, repairCount := recField bs 18 2, assayOutcome := recField bs 20 1,
           assayFailed := recField bs 21 1, assayFirst := recField bs 22 2, assayLifetime := recField bs 24 4,
           sliceMap := (List.range 128).map (fun i => recField bs (28 + i) 1), decoderMap := recField bs 156 7,
           cipherMap := recField bs 164 5, engineMap := recField bs 172 26,
           repairList := (List.range 8).map (fun i => recField bs (200 + 4 * i) 4),
           powerCycles := recField bs 232 4, hotSeconds := recField bs 236 4,
           reserveUsed := (List.range 8).map (fun i => recField bs (240 + i) 1) }
  else none

/-- What a free slot holds: 0xFF in every byte (R109). -/
def freeBytes : List Byte := List.replicate 256 0xFF#8

/-- The bytes of ledger slot n of bank b, keyed 256·b + n. -/
def State.ledgerSlot (s : State) (k : Nat) : List Byte := tget (fun _ => freeBytes) s.start.flash k

/-- Write a ledger slot. -/
def State.setLedgerSlot (s : State) (k : Nat) (bs : List Byte) : State :=
  { s with start.flash := tset (fun _ => freeBytes) s.start.flash k bs }

/-- The lowest free slot of a bank (R110). -/
def State.freeLedgerSlot (s : State) (b : Nat) : Option Nat :=
  (List.range 256).find? (fun n => s.ledgerSlot (256 * b + n) == freeBytes)

/-- The valid record with the highest SEQUENCE in either bank, with its key (R109). -/
def State.winningRecord (s : State) : Option (Nat × LedgerRec) :=
  s.start.flash.foldl (fun (best : Option (Nat × LedgerRec)) (q : Nat × List Byte) =>
    match parseRecord q.2, best with
    | some x, some (_, y) => if y.sequence < x.sequence then some (q.1, x) else best
    | some x, none => some (q.1, x)
    | none, _ => best) none

/-! ### Stockpile allocations in the ledger -/

/-- The map fields with a stockpile allocation put in (R108, R463). A slice enters at its successor's spare position, a spare
that is retired without a successor at its own; a page and a slice that no entry is left for change no map. -/
def LedgerRec.withSwap (x : LedgerRec) (w : Swap) : LedgerRec :=
  if w.kind = 0 then
    let conv := w.unit / 132
    let slice := w.unit % 132
    match w.succ with
    | some v => { x with sliceMap := lset x.sliceMap (4 * conv + (v % 132 - 128)) slice }
    | none => if 128 ≤ slice ∧ x.sliceMap.getD (4 * conv + (slice - 128)) 0xFF = 0xFF then
        { x with sliceMap := lset x.sliceMap (4 * conv + (slice - 128)) slice }
      else x
  else if w.kind = 1 then { x with decoderMap := setBit x.decoderMap (w.unit - 0x1100) true }
  else if w.kind = 2 then { x with cipherMap := setBit x.cipherMap (w.unit - 0x1200) true }
  else if w.kind = 3 then { x with engineMap := setBit x.engineMap (w.unit - 0x1300) true }
  else if w.kind = 4 then
    let e := w.unit / 4096 * 65536 + w.unit % 4096 * 16 + w.succ.getD 0 % 16
    let free := (List.range 8).find? (fun i => x.repairList.getD i 0xFFFFFFFF == 0xFFFFFFFF)
    { x with repairCount := min 0xFFFF (x.repairCount + 1),
             repairList := match free with
               | some i => lset x.repairList i e
               | none => x.repairList }
  else x

/-- The maps in force as the device carries them. -/
def State.mapsNow (s : State) : LedgerRec :=
  { sliceMap := (List.range 128).map (fun i => s.start.sliceMap.getD i 0xFF), decoderMap := s.start.decoderMap,
    cipherMap := s.start.cipherMap, engineMap := s.start.engineMap, repairCount := s.start.repairCount,
    repairList := (List.range 8).map (fun i => s.start.repairList.getD i 0xFFFFFFFF),
    reserveUsed := (List.range 8).map (fun i => s.start.reserveUsed.getD i 0) }

/-- Put a record's maps in force. -/
def State.setMaps (s : State) (x : LedgerRec) : State :=
  { s with start.sliceMap := x.sliceMap, start.decoderMap := x.decoderMap, start.cipherMap := x.cipherMap,
           start.engineMap := x.engineMap, start.repairCount := x.repairCount, start.repairList := x.repairList,
           start.reserveUsed := x.reserveUsed }

/-- The record of a commit that starts now (R111): the state at its own start, allocations on their way included. -/
def State.recordNow (s : State) (cause : Nat) (clean : Bool) : LedgerRec :=
  let x := s.integ.swaps.foldl LedgerRec.withSwap s.mapsNow
  { x with clean := clean, activeImage := s.rdN Obj.activeImage, assayWhen := s.rdN Obj.assayWhen,
           watchdogRun := s.start.watchdogRun, sequence := s.rdN Obj.ledgerSequence + 1, lifetime := s.life,
           bootEpoch := s.rdN Obj.bootEpoch, cause := cause, assayOutcome := s.rdN Obj.assayOutcome,
           assayFailed := s.rdN Obj.assayFailed, assayFirst := s.rdN Obj.assayFirst,
           assayLifetime := s.start.assayLifetime, powerCycles := s.rdN Obj.powerCycles, hotSeconds := s.rdN Obj.hotSeconds }

/-! ### Commits -/

/-- POSITION_END of a batch (R472): 4, or 2 where it only retires units. -/
def State.batchEnd4 (s : State) (b : Nat) : Nat :=
  if s.integ.swaps.any (fun w => w.batch == b && w.succ.isSome) then 4 else 2

/-- The bank a commit goes to (R110): the other one than the newest record's; bank 0 for the first of all.
DEDUCED: log entry 52. -/
def State.nextBank (s : State) : Nat := if s.rdN Obj.ledgerSequence = 0 then 0 else 1 - s.rdN Obj.ledgerBank

/-- A commit starts (R111): it carries the state and every request for an allocation that waits. -/
def State.commitStart (s : State) (cause : Nat) (clean : Bool) : State :=
  let bytes := (s.recordNow cause clean).bytes
  let n := s.integ.batches + 1
  let carries := s.integ.swaps.any (fun w => w.batch == 0)
  let s : State := if carries then
      { s with integ.batches := n,
               integ.swaps := s.integ.swaps.map (fun (w : Swap) => if w.batch = 0 then { w with batch := n } else w),
               integ.recBatch := if s.integ.recBatch = 0 then n else s.integ.recBatch }
    else s
  let b := s.nextBank
  let c : Commit := { cause := cause, clean := clean, bytes := bytes, bank := b, slot := (s.freeLedgerSlot b).getD 256,
                      batch := if carries then n else 0 }
  { s with start.commit := some c }

/-- A commit trigger (R111). Before the start commit its record carries the request (R455); while a commit is in progress
triggers are merged into one further commit, with the cause of the first of them, or of the shutdown's.
A commit in stage DONE that the shutdown did not ask for is not clean. DEDUCED: log entries 52 and 117. -/
def State.requestCommit (s : State) (cause : Nat) (clean : Bool) : State :=
  if !s.start.started then s
  else match s.start.commit with
    | none => s.commitStart cause clean
    | some _ =>
      match s.start.nextCommit with
      | none => { s with start.nextCommit := some (cause, clean) }
      | some (c, d) => { s with start.nextCommit := some (if clean then cause else c, clean || d) }

/-- A request for a stockpile allocation (R472): record 0x1189 follows the batch, and the request triggers a commit. -/
def State.requestSwap (s : State) (w : Swap) : State :=
  let s := { s with integ.swaps := s.integ.swaps ++ [w] }
  let s := if s.opRunning 9 then
      (if s.integ.recBatch = 0 then s.wrN (Obj.opPositionEnd 9) (s.batchEnd4 0) else s)
    else { s.opStart 9 (s.batchEnd4 0) with integ.recBatch := 0 }
  s.requestCommit 3 false

/-- A set-aside bit of EXHAUSTED with its event (R475). -/
def State.exhaustedKind (s : State) (kind : Nat) : State :=
  (s.wrN Obj.exhausted (setBit (s.rdN Obj.exhausted) kind true)).raise 0xC105 0x1550 kind

/-! ### Corrections and repeat correctors (R460–R464) -/

/-- The lap of a correction table: the group's lap, or the rake's pass. -/
def State.lapOf (s : State) (key : Nat) : Nat := (tget (fun _ => (0, 0)) s.integ.laps (if 32 ≤ key then 32 else key)).1

/-- A correction enters a table of 64 entries (R462): the table, whether the address becomes a repeat corrector, and whether an
entry was replaced. -/
def corrStep (limit laps lap addr : Nat) (t : List Corr) : List Corr × Bool × Bool :=
  let t := t.filter (fun e => decide (lap ≤ e.lap + laps))
  match t.find? (fun e => e.addr == addr) with
  | some e =>
    let reached : Bool := decide (limit ≤ e.count + 1)
    (t.map (fun (q : Corr) => if q.addr = addr then { q with count := q.count + 1, rep := q.rep || reached } else q),
      reached && !e.rep, false)
  | none =>
    if t.length < 64 then (t ++ [⟨addr, 1, lap, decide (limit ≤ 1)⟩], decide (limit ≤ 1), false)
    else
      let low := t.foldl (fun (b : Corr) e => if e.count < b.count ∨ (e.count = b.count ∧ e.lap < b.lap) then e else b)
        (t.headD ⟨0, 0, 0, false⟩)
      (t.erase low ++ [⟨addr, 1, lap, decide (limit ≤ 1)⟩], decide (limit ≤ 1), true)

/-- A correction of an address of a memory group or port; whether it makes a repeat corrector (R462). -/
def State.trackCorrection (s : State) (key addr : Nat) : State × Bool :=
  let t := tget (fun _ => []) s.integ.track key
  let (t', rep, full) := corrStep (s.rdN Obj.repeatCount) (s.rdN Obj.repeatLaps) (s.lapOf key) addr t
  let s := { s with integ.track := tset (fun _ => []) s.integ.track key t' }
  (if full && decide (key < 22) then s.inc (Obj.trackOverflows key) else s, rep)

/-- The first macro number of a memory group: macros are numbered through the groups of Table 19.3 in order (log entry 64).
DESIGN CHOICE: log entry 64. -/
def macroBase (m : Nat) : Nat := ((memGroupTable.take m).map (·.2)).foldl (· + ·) 0

/-- The memory group of a macro. -/
def macroGroup (x : Nat) : Nat := ((List.range 22).find? (fun m => decide (x < macroBase (m + 1)))).getD 21

/-- The macro and row that hold a byte of a group. -/
def macroRow (m addr : Nat) : Nat × Nat :=
  (macroBase m + Config.macroOf m addr % ((memGroupTable.getD m (0, 1)).2), Config.rowOf m addr % 4096)

/-- Put an entry into REPEAT_LIST (R464). -/
def State.listRepeat (s : State) (v : Nat) : State :=
  let n := s.rdN Obj.listed
  if n < 32 then (s.wrN (Obj.repeatList n) v).wrN Obj.listed (n + 1) else s.inc Obj.listOverflow

/-- Spare rows of a macro that are taken, by repairs made or on their way. -/
def State.rowsTaken (s : State) (mac : Nat) : Nat :=
  s.integ.rows.countP (fun q => q.1 == mac) +
    s.integ.swaps.countP (fun w => w.kind == 4 && w.unit / 4096 == mac && w.succ.isSome)

/-- STOCKPILE_EXHAUSTED is raised once for a macro without spare rows (R464). DESIGN CHOICE: log entry 64. -/
def State.spentMacro (s : State) (mac : Nat) : State :=
  if s.integ.spentMacros.contains mac then s
  else { s with integ.spentMacros := s.integ.spentMacros ++ [mac] }.exhaustedKind 4

/-- The row of a repeat corrector is replaced, be it a spare row itself, or the byte listed where its macro has no spare row left
(R463, R464). DESIGN CHOICE: log entry 64. -/
def State.repairRow (s : State) (m addr : Nat) : State :=
  let (mac, row) := macroRow m addr
  if s.integ.swaps.any (fun w => w.kind == 4 && w.unit == 4096 * mac + row) then s
  else if s.rowsTaken mac < 2 then
    s.requestSwap { kind := 4, unit := 4096 * mac + row, succ := some (s.rowsTaken mac), addr := addr }
  else
    (s.listRepeat (m * 2 ^ 26 + addr % 2 ^ 26)).spentMacro mac

/-- A byte of a memory group was corrected (R462). -/
def State.corrected (s : State) (m addr : Nat) : State :=
  let (s, rep) := (s.inc (Obj.corrections m)).trackCorrection m addr
  if rep then ((s.inc (Obj.repeatCorrectors m)).raiseLimitedFor 0x8103 (0x1510 + m) 1 addr).repairRow m addr else s

/-- A byte of a memory group is known to be uncorrectable (R460). -/
def State.byteLost (s : State) (m addr : Nat) : Bool := s.integ.lostBytes.contains (m, addr)

/-- A byte stays uncorrectable from now on. -/
def State.loseByte (s : State) (m addr : Nat) : State :=
  if s.byteLost m addr then s else { s with integ.lostBytes := s.integ.lostBytes ++ [(m, addr)] }

/-- The owner writes bytes again (R460). -/
def State.bytesWritten (s : State) (m : Nat) (addr n : Nat) : State :=
  if s.integ.lostBytes.isEmpty then s
  else { s with integ.lostBytes := s.integ.lostBytes.filter (fun q => q.1 != m || decide (q.2 < addr) || decide (addr + n ≤ q.2)) }

/-- A byte of a memory group read uncorrectable (R460): `arg` is its address, or the object's index for group 20. -/
def State.uncorrectable (s : State) (m arg : Nat) : State :=
  (s.inc (Obj.uncorrectable m)).raiseLimitedFor 0xC102 (0x1510 + m) 1 arg

end Sys2Proof.Machine
end

