-- ==== Sys2Proof/Machine/Converters.lean ====
section
/-! DEFINITION. Chapter 5: receive gain (R124–R127, R526), the transmit ramp and emergency transmit-off (R128–R136) and
converter calibration (R137–R150). Operations and the meanings of this chapter's events. -/
namespace Sys2Proof.Machine

/-! ### Receive gain -/

def State.agc (s : State) (r : Nat) : Agc := tget (fun _ => {}) s.conv.agc r

def State.setAgc (s : State) (r : Nat) (a : Agc) : State := { s with conv.agc := tset (fun _ => {}) s.conv.agc r a }

/-- AGC_STATE: 0 HELD, 1 SLEW, 2 SETTLE, 3 FROZEN (Table 5.3). -/
def State.agcState (s : State) (r : Nat) : Nat := s.rdN (Obj.agcState r)

/-- The four gain codes. -/
def State.gainCodes (s : State) (r : Nat) : List Nat := (List.range 4).map (fun i => s.rdN (Obj.gainCode r i))

/-- Put the four gain codes, each limited to 0–4,095 (R124). -/
def State.setGainCodes (s : State) (r : Nat) (cs : List Nat) : State :=
  s.each (cs.zipIdx.take 4) (fun s p => s.wrN (Obj.gainCode r p.2) (min p.1 4095))

/-- The estimates of the SLEW that ends (R526): one that moved a code by fewer than 16 units, or showed no level change with it, keeps
the earlier estimate. DESIGN CHOICE: log entry 101. -/
def Agc.learn (a : Agc) : Agc :=
  { a with slew := [], est := (List.range 4).map (fun i =>
      let o := a.slew.getD i (0, 0, 0)
      if 16 ≤ o.2.2 ∧ o.1 ≠ 0 then (o.1, o.2.1) else a.est.getD i (0, 0)) }

/-- Enter SLEW from the present codes (Table 5.3). A SLEW cut short by a re-arm or a mooring leaves its estimates (R526).
DESIGN CHOICE: log entry 101. -/
def State.agcToSlew (s : State) (r : Nat) : State :=
  let a := (s.agc r).learn
  (s.setAgc r { a with inRange := 0, found := 0, missed := 0, lossRearm := false, noDecision := 0, slewTick := true,
                       lastErr := [], lastCodes := [] }).wrN (Obj.agcState r) 1

/-- The reach is released: the codes start from the seed of the latest AGC_REARM applied while HELD, otherwise from the
last frozen codes, or 2,048 at first use (Table 5.3). -/
def State.agcRelease (s : State) (r : Nat) : State :=
  let a := s.agc r
  let codes := if a.frozen = [] then List.replicate 4 2048 else a.frozen
  let s := if a.held then s else s.setGainCodes r codes
  let s := s.setAgc r { a with held := false, since := s.core.tick }
  s.agcToSlew r

/-- The reach is moored or off: the codes and the drift correction are held (Table 5.3). -/
def State.agcHold (s : State) (r : Nat) : State := s.wrN (Obj.agcState r) 0

/-! The disturbance watch is suppressed by a re-arm of the gain (Table 7.5a). -/

def State.watch (s : State) (r : Nat) : Watch := tget (fun _ => {}) s.eq.watch r

def State.setWatch (s : State) (r : Nat) (w : Watch) : State := { s with eq.watch := tset (fun _ => {}) s.eq.watch r w }

/-- WATCH_SUPPRESS (Table 7.5a): release, swap, re-arm, mooring or switch-off: the score reads 0, the count restarts, and
a disarm signal is sent if armed. -/
def State.watchSuppress (s : State) (r : Nat) : State :=
  let w := s.watch r
  let s := if s.rdN (Obj.watchState r) = 3 then { s with eq.disarm := s.eq.disarm ++ [r] } else s
  let s := s.setWatch r { w with count := 0, sSop := 0, sPhase := 0, sTap := 0, hist := [], quiet := 0, sent := false }
  (s.wrN (Obj.watchState r) 0).wrN (Obj.watchScore r) 0

/-- Re-arm the AGC (Table 5.3, R127) from a written seed, or from the present codes (0xFFFF); `seeds` lists the code of
each ADC where they differ (R311). The watch is suppressed (Table 7.5a). DEDUCED: log entry 56. -/
def State.agcRearmOp (s : State) (r : Nat) (seeds : Option (List Nat)) (cause : Nat) : State :=
  let s := match seeds with
    | some cs => s.setGainCodes r cs
    | none => s
  let s := ((s.inc (Obj.rearms r)).raise 0x4031 (0x2020 + 0x200 * r) cause).watchSuppress r
  if s.agcState r = 0 then
    let a := s.agc r
    s.setAgc r { a with held := true }
  else
    let a := s.agc r
    (s.setAgc r { a with since := s.core.tick }).agcToSlew r

/-- AGC_REARM applied at step 5 (R127). DEDUCED: log entry 56. -/
def State.agcRearmWrite (s : State) (r v : Nat) : State :=
  s.agcRearmOp r (if v = 0xFFFF then none else some (List.replicate 4 v)) 1

/-- One 50 ns update in SLEW (R124): each code moves towards the target, up where the level is low and down where it is
high, by an amount the spec does not state (a free value); a code at 0 or 4,095 whose level is still off target is held
there. The changes feed the estimate of R526. During a restoration the codes are held while every TIA peak detector of the reach
reports no signal: `light` is false (R311). DESIGN CHOICE: log entries 85 and 101. DESIGN CHOICE: log entry 4. -/
def execAgcSlewUpdate (r : Fin 4) (errs : List Int) (light : Bool) (s : State) : Host.Outcome State Fault Refusal :=
  if s.agcState r ≠ 1 ∨ errs.length ≠ 4 ∨ (!light ∧ s.reachReacquires r) then .next s
  else
    let a := s.agc r
    let codes := s.gainCodes r
    let slew' := (List.range 4).map (fun i =>
      let o := a.slew.getD i (0, 0, 0)
      if a.lastErr = [] then o
      else
        let d : Int := (codes.getD i 0 : Int) - (a.lastCodes.getD i 0 : Int)
        (o.1 + (errs.getD i 0 - a.lastErr.getD i 0) * d, o.2.1 + d * d, o.2.2 + d.natAbs))
    let (n, s) := s.draw
    let step (i : Nat) (c : Nat) : Nat :=
      let e := errs.getD i 0
      let d := n / 4096 ^ i % 4096
      if e = 0 then c else if 0 < e then c - d else min 4095 (c + d)
    let codes' := codes.zipIdx.map (fun p => step p.2 p.1)
    let limit := (List.range 4).any (fun i =>
      (codes'.getD i 0 == 0 || codes'.getD i 0 == 4095) && decide (100 < (errs.getD i 0).natAbs))
    let inR := if errs.all (fun e => decide (e.natAbs ≤ 100)) then a.inRange + 1 else 0
    let s := s.setGainCodes r codes'
    let s := s.setAgc r { a with inRange := inR, slew := slew', lastErr := errs, lastCodes := codes, slewTick := true }
    .next (s.wrN (Obj.agcAtLimit r) (if limit then 1 else 0))

/-- Every level within ±1 dB for 1 µs, twenty updates (R124): the codes are held, the estimates are taken, and the AGC settles.
DESIGN CHOICE: log entry 101. -/
def execAgcSettleEntry (r : Fin 4) (s : State) : Host.Outcome State Fault Refusal :=
  if s.agcState r = 1 ∧ 20 ≤ (s.agc r).inRange then
    .next ((s.setAgc r { (s.agc r).learn with found := 0 }).wrN (Obj.agcState r) 2)
  else .next s

/-- The step of a code in SETTLE for a level error in 0.01 dB (R526): the error divided by the learned level change per
code unit, to the nearest unit; 16 code units per dB with no estimate. A high level lowers the code.
DESIGN CHOICE: log entry 101. -/
def settleStep (est : Int × Int) (err : Int) : Int :=
  if est.1 = 0 ∨ est.2 = 0 then -roundDiv (err * 16) 100 else -roundDiv (err * est.2) est.1

/-- The AGC's work at a boundary (R124, R125, R126): the ended tick's blackout is used up; in SETTLE an error above 3 dB
returns to SLEW and one above 0.5 dB steps its code; in FROZEN the drift correction follows the level. `errs` are the
ended tick's mean level errors, 0.01 dB. DESIGN CHOICE: log entry 102. -/
def State.agcBoundary (s : State) (r : Nat) (errs : List Int) : State :=
  let a := s.agc r
  let a := { a with noDecision := a.noDecision - 1, slewTick := s.agcState r == 1 }
  let s := s.setAgc r a
  if s.agcState r = 2 ∧ errs.length = 4 then
    if errs.any (fun e => decide (300 < e.natAbs)) then s.agcToSlew r
    else if errs.any (fun e => decide (50 < e.natAbs)) then
      let codes := s.gainCodes r
      let codes' := codes.zipIdx.map (fun p =>
        let e := errs.getD p.2 0
        if 50 < e.natAbs then (clampInt 0 4095 ((p.1 : Int) + settleStep (a.est.getD p.2 (0, 0)) e)).toNat else p.1)
      (s.setGainCodes r codes').setAgc r { a with noDecision := 2 }
    else s
  else if s.agcState r = 3 ∧ errs.length = 4 then
    let d' := (List.range 4).map (fun i =>
      let d := a.drift.getD i 0
      clampInt (-300000) 300000 (d + (-(errs.getD i 0) * 1000 - d) / 1000))
    let hit := upto 4 (fun i => (d'.getD i 0).natAbs == 300000 && !a.driftRaised.contains i)
    let s := s.setAgc r { a with drift := d', driftRaised := a.driftRaised ++ hit }
    let s := s.each (List.range 4) (fun s i => s.wr (Obj.digitalGain r i) (Int.tdiv (d'.getD i 0) 1000))
    s.each hit (fun s i => s.raise 0x8032 (0x2020 + 0x200 * r) i)
  else s

/-- The ended tick carries a frame decision on this reach (R125): released, not in SLEW, and not after a gain step. -/
def State.agcDecides (s : State) (r : Nat) : Bool :=
  s.released (domReach r) && !(s.agc r).slewTick && (s.agc r).noDecision == 0 && (s.agcState r == 2 || s.agcState r == 3)

/-- Count a tick that carried a frame decision (R124, R125): whether training was found on the reach. -/
def State.agcCount (s : State) (r : Nat) (found : Bool) : State :=
  let a := s.agc r
  if s.agcState r = 2 then s.setAgc r { a with found := if found then a.found + 1 else 0 }
  else if s.agcState r = 3 then s.setAgc r { a with missed := if found && decide (a.missed < 8) then 0 else a.missed + 1 }
  else s

/-- The freeze (Table 5.3): the codes are kept, the drift correction starts at 0 dB, AGC_FROZEN tells the ticks since the
re-arm or release. -/
def State.agcFreezeOp (s : State) (r : Nat) : State :=
  let a := s.agc r
  let s := s.setAgc r { a with frozen := s.gainCodes r, missed := 0, found := 0,
                               drift := [0, 0, 0, 0], driftRaised := [] }
  let s := s.each (List.range 4) (fun s i => s.wr (Obj.digitalGain r i) 0)
  let s := (s.wrN (Obj.agcState r) 3).inc (Obj.freezes r)
  s.raise 0x4030 (0x2020 + 0x200 * r) (s.core.tick - a.since)

/-- No training in 8 consecutive ticks of FROZEN (Table 5.3): the count is complete at the boundary that ends the eighth, and
the AGC re-arms at step 5 of the next one, whatever the tick between brings. -/
def execAgcTrainingLossRearm (r : Fin 4) (s : State) : Host.Outcome State Fault Refusal :=
  if s.agcState r = 3 ∧ 8 ≤ (s.agc r).missed then .next (s.setAgc r { (s.agc r) with lossRearm := true }) else .next s

/-- Step 5 (Table 5.3): a loss of training re-arms from the present codes, cause 0. -/
def State.agcLossStep (s : State) (r : Nat) : State :=
  s.onlyIf (s.agcState r == 3 && (s.agc r).lossRearm) (fun s => s.agcRearmOp r none 0)

/-! ### The transmit ramp -/

def State.ramp (s : State) (r sc : Nat) : Ramp := tget (fun _ => {}) s.conv.ramps (64 * r + sc)

def State.setRamp (s : State) (r sc : Nat) (x : Ramp) : State :=
  { s with conv.ramps := tset (fun _ => {}) s.conv.ramps (64 * r + sc) x }

/-- TX_STATE: 0 OFF, 1 RAMP_UP, 2 ON, 3 RAMP_DOWN, 4 EMERGENCY_OFF (Table 5.7). -/
def State.txState (s : State) (r : Nat) : Nat := s.rdN (Obj.txState r)

/-- Group g of reach r is enabled (GROUP_ENABLE in force). -/
def State.groupOn (s : State) (r g : Nat) : Bool := s.rdB (Obj.groupEnable r g)

/-- Group g of reach r covers a sub-carrier (R159). -/
def State.groupCovers (s : State) (r g sc : Nat) : Bool :=
  decide (s.rdN (Obj.firstSubcarrier r g) ≤ sc) &&
    decide (sc < s.rdN (Obj.firstSubcarrier r g) + s.rdN (Obj.subcarrierCount r g))

/-- The sub-carriers of a group, ascending. -/
def State.groupScs (s : State) (r g : Nat) : List Nat := upto 64 (s.groupCovers r g)

/-- The enabled groups of a reach, ascending. -/
def State.enabledGroups (s : State) (r : Nat) : List Nat := upto 8 (s.groupOn r)

/-- A request in progress, a fault, or the RAMPING stage of a shutdown takes the reach down (R133, R117).
DEDUCED: log entry 14. -/
def State.txDown (s : State) (r : Nat) : Bool :=
  s.power.draining.contains (domReach r) || s.conv.faultMoor.contains r || decide (2 ≤ s.rdN Obj.shutdownState)

/-- The reach is to launch: released and not going down (R133). -/
def State.txWanted (s : State) (r : Nat) : Bool := s.released (domReach r) && !s.txDown r

/-- A sub-carrier of an enabled group (R159). -/
def State.scEnabled (s : State) (r sc : Nat) : Bool := (s.enabledGroups r).any (fun g => s.groupCovers r g sc)

/-- The power a sub-carrier is to reach (R130, R159, R162): its pre-emphasis level in an enabled group of a reach that
launches, otherwise zero. A waiting side that stands by COLD is held at zero, in whatever TX_STATE (R306).
DEDUCED: log entry 103. -/
def State.txGoal (s : State) (r sc : Nat) : Nat :=
  if s.txWanted r && (s.txState r == 1 || s.txState r == 2) && !s.conv.dark.contains r && s.scEnabled r sc
  then level10 (s.rd (Obj.preEmphasis r sc)) else 0

/-- Start a ramp from the power reached to a goal (R129, R131): M = ⌈RAMP_TICKS · |b − a|⌉ of the larger of the old and
the new target level, at least 1. -/
def Ramp.start (x : Ramp) (rampTicks goal : Nat) : Ramp :=
  let lvl := max x.level goal
  let diff := max x.cur goal - min x.cur goal
  { cur := x.cur, a := x.cur, b := goal, m := max 1 (ceilDiv (rampTicks * diff) (max lvl 1)), j := 0,
    level := if goal = 0 then x.level else goal }

/-- Advance a running ramp by one boundary (R128). -/
def Ramp.advance (x : Ramp) : Ramp :=
  if x.m = 0 then x
  else if x.m ≤ x.j + 1 then { x with cur := x.b, m := 0, j := 0, a := x.b, level := if x.b = 0 then 0 else x.level }
  else { x with cur := rampAt x.a x.b (x.j + 1) x.m, j := x.j + 1 }

/-- What a ramp ends at. -/
def Ramp.goal (x : Ramp) : Nat := if x.m = 0 then x.cur else x.b

/-- Show which sub-carriers are ramping (RAMPING_LOW, RAMPING_HIGH). -/
def State.showRamps (s : State) (r : Nat) : State :=
  let on (sc : Nat) : Bool := (s.ramp r sc).m != 0
  (s.wrN (Obj.rampingLow r) (maskOf 32 on)).wrN (Obj.rampingHigh r) (maskOf 32 (fun i => on (32 + i)))

/-- Start every ramp of a reach whose goal differs from where its power is going (R130). -/
def State.startRamps (s : State) (r : Nat) : State :=
  s.each (List.range 64) (fun s sc =>
    let x := s.ramp r sc
    let goal := s.txGoal r sc
    if x.goal = goal then s else s.setRamp r sc (x.start (s.rdN (Obj.rampTicks r)) goal))

/-- Turn up (R133, R136): the pins move to their enable levels and the turn-up ramp starts at this boundary; that of a side
that stands by COLD, when it is dark no longer (R306). DEDUCED: log entry 103. -/
def State.turnUp (s : State) (r : Nat) : State :=
  if s.txState r == 4 then s else
  let s := { s with conv.txen := if s.conv.txen.contains r then s.conv.txen else s.conv.txen ++ [r],
                    conv.drven := if s.conv.drven.contains r then s.conv.drven else s.conv.drven ++ [r] }
  ((s.wrN (Obj.txState r) 1).startRamps r).showRamps r

/-- The pins go to their off levels and the DACs park (R133, R134). -/
def State.pinsOff (s : State) (r : Nat) : State :=
  { s with conv.txen := s.conv.txen.filter (· != r), conv.drven := s.conv.drven.filter (· != r) }

/-- Step 1 of a boundary for one reach (R130, R131, R133, R136): running ramps advance, TX_STATE follows the demand, and
ramps start, stop or reverse. A reach sending the wake pattern has its ramp suspended (R493). DEDUCED: log entry 84. -/
def State.rampStep (s : State) (r : Nat) : State :=
  if tget (fun _ => 0) s.power.wakeSend r ≠ 0 then s
  else
    let s := s.each (List.range 64) (fun s sc =>
      let x := s.ramp r sc
      if x.m = 0 then s else s.setRamp r sc x.advance)
    if s.conv.turnUp.contains r then
      let s := { s with conv.turnUp := s.conv.turnUp.filter (· != r) }
      if s.released (domReach r) then s.turnUp r else s
    else
      let s :=
        if !s.txWanted r && (s.txState r == 1 || s.txState r == 2) then s.wrN (Obj.txState r) 3
        else if s.txWanted r && s.txState r == 3 then s.wrN (Obj.txState r) 1
        else s
      if s.txState r = 0 ∨ s.txState r = 4 then s.showRamps r else (s.startRamps r).showRamps r

/-- A ramp reaches its end (Table 5.7): up, when every enabled sub-carrier stands at its target; down, when every power is 0,
where the pins go off and the DACs park (R133). -/
def State.rampEndOp (s : State) (r : Nat) : State :=
  let up := (List.range 64).all (fun sc => !s.scEnabled r sc ||
    ((s.ramp r sc).m == 0 && (s.ramp r sc).cur == level10 (s.rd (Obj.preEmphasis r sc))))
  if s.txState r = 1 ∧ up then s.wrN (Obj.txState r) 2
  else if s.txState r = 3 ∧ (List.range 64).all (fun sc => (s.ramp r sc).m == 0 && (s.ramp r sc).cur == 0) then
    (s.pinsOff r).wrN (Obj.txState r) 0
  else s

/-- The level of FEn_TXEN (R133, R506): high enables; a boundary-scan instruction that drives pins holds it low.
DESIGN CHOICE: log entry 118. -/
def State.txenPin (s : State) (r : Nat) : Bool := s.conv.txen.contains r && !s.board.scan

/-- The DAC outputs of a reach park at common mode (R505, R506): unless it transmits, and in a boundary-scan instruction that drives
pins. DESIGN CHOICE: log entry 118. -/
def State.dacParked (s : State) (r : Nat) : Bool := s.board.scan || !s.conv.txen.contains r

/-- An emergency transmit-off (R134, R135): every fraction to 0 and every ramp stopped, the pins off at once, the source
recorded and counted. Source: 0 command, 1 GPIO, 2 thermal trip. DEDUCED: log entry 104. -/
def State.emergencyOff (s : State) (r source : Nat) : State :=
  let s := s.each (List.range 64) (fun s sc =>
    s.setRamp r sc {})
  let s := ((s.pinsOff r).wrN (Obj.txState r) 4).showRamps r
  let s := s.wrN (Obj.txOffSource r) (setBit (s.rdN (Obj.txOffSource r)) source true)
  (s.inc (Obj.emergencyOffs r)).raise 0xC036 (0x2040 + 0x200 * r) source

/-- A source that ends a transmit-off's release is active (R136): an eye-safety GPIO at its active level, or TRIPPED. -/
def State.txOffActive (s : State) (r : Nat) : Bool := s.conv.eyeActive.contains r || s.rdN Obj.thermalState == 1

/-- TX_OFF_RELEASE accepted (R136, Table 5.7). -/
def State.txOffReleaseOp (s : State) (r : Nat) : State :=
  let s := s.wrN (Obj.txOffSource r) 0
  if s.txState r = 4 then
    let s := s.wrN (Obj.txState r) 0
    if s.released (domReach r) then { s with conv.turnUp := s.conv.turnUp.filter (· != r) ++ [r] } else s
  else s

/-! ### Calibration -/

def State.cal (s : State) (r : Nat) : Cal := tget (fun _ => {}) s.conv.cal r

def State.setCal (s : State) (r : Nat) (c : Cal) : State := { s with conv.cal := tset (fun _ => {}) s.conv.cal r c }

/-- The progress record of a round of reach r: offset from 0x1180 (R150). -/
def calOp (r : Nat) : Nat := 2 + r

/-- Spare position j of converter k is free (R122). -/
def State.spareFree (s : State) (r k j : Nat) : Bool := bitOf (s.rdN (Obj.sparesFree r)) (4 * k + j)

/-- The lowest-numbered free spare's slice, 128 + j (R141). -/
def State.shadowSlice (s : State) (r k : Nat) : Option Nat := ((upto 4 (s.spareFree r k)).head?).map (128 + ·)

/-- A slice is retired: it stands in the ledger map of its converter (R122). -/
def State.sliceRetired (s : State) (r k slice : Nat) : Bool :=
  (List.range 4).any (fun j => s.start.sliceMap.getD ((8 * r + k) * 4 + j) 0xFF == slice)

/-- The non-retired slices of a converter. -/
def State.liveSlices (s : State) (r k : Nat) : List Nat := upto 132 (fun x => !s.sliceRetired r k x)

/-- A converter is seeded (R147): every non-retired slice's word has been written since RESET_N release. -/
def State.seeded (s : State) (r k : Nat) : Bool :=
  (s.liveSlices r k).all (fun x => (s.cal r).written.any (fun p => p.1 == 132 * k + x))

/-- The fields of a coefficient word (Table 5.10). -/
def coeffField (w i : Nat) : Int :=
  let x : Nat := w / 2 ^ (16 * (3 - i)) % 2 ^ 16
  let y : Int := Int.ofNat x
  if i = 1 then y else if x < 2 ^ 15 then y else y - 65536

/-- A coefficient word from its fields (Table 5.10). -/
def coeffWord (o g k b : Int) : Nat :=
  ((o % 2 ^ 16) * 2 ^ 48 + (g % 2 ^ 16) * 2 ^ 32 + (k % 2 ^ 16) * 2 ^ 16 + b % 2 ^ 16).toNat

/-- The plausibility check (R138, Table 5.10). -/
def plausible (o g k b : Int) : Bool :=
  decide (-512 ≤ o ∧ o ≤ 512 ∧ 15360 ≤ g ∧ g ≤ 17408 ∧ -400 ≤ k ∧ k ≤ 400 ∧ -400 ≤ b ∧ b ≤ 400)

/-- The plausibility check of a word. -/
def plausibleWord (w : Nat) : Bool := plausible (coeffField w 0) (coeffField w 1) (coeffField w 2) (coeffField w 3)

/-- The first check of R138 that a measured slice fails: 0 plausibility, 1 standard error, 2 step (background only). -/
def measFails (m : SliceMeas) (inForce : Nat) (background : Bool) : Option Nat :=
  if !plausible m.offset m.gain m.skew m.bandwidth then some 0
  else if 4 < m.errs.getD 0 0 ∨ 16 < m.errs.getD 1 0 ∨ 10 < m.errs.getD 2 0 ∨ 10 < m.errs.getD 3 0 then some 1
  else if background ∧ (64 < (m.offset - coeffField inForce 0).natAbs ∨ 82 < (m.gain - coeffField inForce 1).natAbs ∨
      50 < (m.skew - coeffField inForce 2).natAbs ∨ 50 < (m.bandwidth - coeffField inForce 3).natAbs) then some 2
  else none

/-- Slice unit number of Table 19.1. -/
def sliceUnit (r k slice : Nat) : Nat := 132 * (8 * r + k) + slice

/-- Check a round's sets in its last tick (R138, R140, R141): the accepted sets, CAL_RESULT, the failing converters, and the
slices whose plausibility has failed often enough. -/
def State.calCheck (s : State) (r : Nat) (ms : List SliceMeas) (background : Bool) (skipped : List Nat) : State :=
  let c := s.cal r
  let verdict (m : SliceMeas) : Option Nat := measFails m (s.rdN (Obj.sliceCoeff r m.conv m.slice)) background
  let mine := ms.filter (fun m => decide (m.conv < 8 ∧ m.slice < 132) && !skipped.contains m.conv &&
    !s.sliceRetired r m.conv m.slice)
  let failing := upto 8 (fun k => mine.any (fun m => m.conv == k && (verdict m).isSome))
  let passing := upto 8 (fun k => !failing.contains k && !skipped.contains k)
  let result := maskOf 8 passing.contains + 2 ^ 8 * maskOf 8 failing.contains + 2 ^ 16 * maskOf 8 skipped.contains +
    2 ^ 24 * maskOf 8 c.seededAt.contains
  let accepted := (mine.filter (fun m => passing.contains m.conv)).map (fun m =>
    (132 * m.conv + m.slice, coeffWord m.offset m.gain m.skew m.bandwidth))
  let bad := mine.filter (fun m => !plausible m.offset m.gain m.skew m.bandwidth)
  let badKey (m : SliceMeas) : Nat := 132 * m.conv + m.slice
  let fails' := (c.fails.filter (fun p => bad.any (fun m => badKey m == p.1))).map (fun p => (p.1, p.2 + 1)) ++
    ((bad.filter (fun m => !(c.fails.any (fun p => p.1 == badKey m)))).map (fun m => (badKey m, 1)))
  let limit := if background then s.rdN (Obj.calRetireAfter r) else 1
  let retire := bad.filter (fun m => fails'.any (fun p => p.1 == badKey m && decide (limit ≤ p.2)))
  let v : CalVerdict := {
    result := result,
    failed := if failing = [] then none
      else some (maskOf 8 failing.contains + 256 * ((mine.filterMap verdict).foldl min 2)),
    retire := (retire.mergeSort (fun a b => decide (badKey a ≤ badKey b))).map (fun m => (m.conv, m.slice)) }
  s.setCal r { c with accepted := accepted, fails := fails', verdict := some v }

/-- End a round of either kind with its record (R150). -/
def State.calFinish (s : State) (r : Nat) (skipped : List Nat) (ok : Bool) : State :=
  let s := s.inc (Obj.rounds r)
  let s := if ok then s else s.inc (Obj.roundsFailed r)
  let c := s.cal r
  let s := s.setCal r { c with kind := 0, shadow := [], displaced := [], pos := 0, verdict := none }
  let s := s.opAdvance (calOp r) (sumTo 8 (fun k => if skipped.contains k then 0 else (s.liveSlices r k).length))
  if ok then s.opDone (calOp r) else s.opFail (calOp r) Status.refused

/-- What the end of a start round decides (R148): DONE releases the prerequisite; FAILED runs again at the next boundary, and
after two further failures the reach stays moored and REACH_CAL_BLOCKED is raised, until a round begun by CAL_START ends DONE.
DEDUCED: log entry 105. -/
def State.startRoundOver (s : State) (r failing : Nat) : State :=
  let c := s.cal r
  if failing = 0 then s.setCal r { c with startDone := true, startFails := 0, blocked := c.blocked && !c.byCommand }
  else if c.startFails < 2 then
    s.setCal r { c with startDone := false, startFails := c.startFails + 1, startDue := true, dueAt := s.core.tick + 1 }
  else (s.setCal r { c with startDone := false, startFails := 0, blocked := true }).raise 0xC037 (0x2021 + 0x200 * r) failing

/-- Step 5 of the boundary after a round's last tick (R139, R141): the accepted sets come into force, all slices of a converter
together, and the round ends with its result, its events and its record. -/
def State.calApply (s : State) (r : Nat) : State :=
  let c := s.cal r
  match c.verdict with
  | none => s
  | some v =>
    if c.suspended then s
    else
      let s := s.each c.accepted (fun s p => s.wrN (Obj.sliceCoeff r (p.1 / 132) (p.1 % 132)) p.2)
      let s := s.setCal r { c with accepted := [],
                                   measured := c.measured ++ (c.accepted.map (·.1)).filter (fun x => !c.measured.contains x) }
      let s := s.wrN (Obj.calResult r) v.result
      let s := match v.failed with
        | none => s
        | some a => s.raise 0x8033 (0x2021 + 0x200 * r) a
      let s := s.each v.retire (fun s q =>
        (s.raise 0xC035 (0x2021 + 0x200 * r) (256 * q.1 + q.2)).reportFailed (sliceUnit r q.1 q.2))
      let failing := v.result / 256 % 256
      let s := s.calFinish r (upto 8 (bitOf (v.result / 2 ^ 16))) (failing == 0)
      s.onlyIf (c.kind == 2) (fun s => s.startRoundOver r failing)

/-- The words that no round's set replaces stand at power-up (R63, R149): the written ones, and the nominal word elsewhere. -/
def State.coeffReapply (s : State) (r : Nat) : State :=
  let c := s.cal r
  let s := s.each c.measured (fun s x =>
    s.wrN (Obj.sliceCoeff r (x / 132) (x % 132)) (((c.written.find? (fun p => p.1 == x)).map (·.2)).getD 0x0000400000000000))
  s.setCal r { c with measured := [] }

/-- A background round may start: released and FROZEN, none running (R144). -/
def State.calMayStart (s : State) (r : Nat) : Bool :=
  s.released (domReach r) && s.agcState r == 3 && (s.cal r).kind == 0

/-- The injection list with a reach's four temperature reads (R438): behind every entry that stood there at the boundary, before the reads
of a higher reach whose round started at the same boundary, and before what came after them. -/
def State.calReads (s : State) (r : Nat) : List (Nat × Nat) :=
  let later (q : Nat × Nat) : Bool := decide (4 * (r + 1) < q.1) && (s.cal ((q.1 - 1) / 4)).kind == 1 &&
    (s.cal ((q.1 - 1) / 4)).since == s.core.tick
  s.sup.inj.takeWhile (fun q => !later q) ++ (List.range 4).map (fun i => (1 + 4 * r + i, 4 * r + i)) ++
    s.sup.inj.dropWhile (fun q => !later q)

/-- A background round starts (R141 step 1): CAL_TEMP is read; converters without a free spare are skipped (R142). -/
def execCalRoundStart (r : Fin 4) (s : State) : Host.Outcome State Fault Refusal :=
  let c := s.cal r
  if s.calMayStart r ∧ ((c.requested ∧ c.dueAt ≤ s.core.tick) ∨ (c.tempHeld ∧ s.rdB (Obj.calAuto r))) then
    let shadow := (List.range 8).map (fun k => (s.shadowSlice r k).getD 0xFF)
    let skipped := upto 8 (fun k => shadow.getD k 0xFF == 0xFF)
    let w := s.rdN (Obj.calWindow r)
    let s := s.setCal r { c with kind := 1, since := s.core.tick, window := w, next := s.core.tick + 1 + w,
                                 sparesDone := false, pos := 0, shadow := shadow, displaced := [], suspended := false,
                                 requested := false, tempHeld := false, aborting := 0, verdict := none,
                                 seededAt := upto 8 (s.seeded r) }
    let s := { s with sup.inj := s.calReads r }
    let s := s.opStart (calOp r) (sumTo 8 (fun k => (s.liveSlices r k).length))
    .next (if skipped = [] then s else s.raise 0x8034 (0x2021 + 0x200 * r) (maskOf 8 skipped.contains))
  else .next s

/-- The converters a background round does not skip (R142). -/
def Cal.active (c : Cal) : List Nat := upto 8 (fun k => c.shadow.getD k 0xFF != 0xFF)

/-- A background round goes on (R143): not suspended, the AGC FROZEN and the reach not in restoration. -/
def State.calRuns (s : State) (r : Nat) : Bool :=
  (s.cal r).kind == 1 && !(s.cal r).suspended && s.agcState r == 3 && !s.reachRestoring r

/-- The free spares have been measured (R141 step 2): POSITION counts them. -/
def execCalSparesMeasured (r : Fin 4) (s : State) : Host.Outcome State Fault Refusal :=
  let c := s.cal r
  if s.calRuns r ∧ ¬ c.sparesDone ∧ c.next ≤ s.core.tick then
    let n := c.active.foldl (fun a k => a + (upto 4 (s.spareFree r k)).length) 0
    .next ((s.setCal r { c with sparesDone := true }).opAdvance (calOp r) n)
  else .next s

/-- Return every displaced slice to its position (R141, R143, R145). -/
def State.calReturn (s : State) (r : Nat) : State :=
  let c := s.cal r
  if c.kind = 1 ∧ 0 < c.pos ∧ c.pos ≤ 128 then
    let s := s.each c.active (fun s k =>
      if c.displaced.getD k 0xFF = 0xFF then s
      else s.wrN (Obj.sliceAtPosition r k (c.pos - 1)) (c.displaced.getD k 0xFF))
    s.setCal r { c with displaced := [] }
  else s

/-- The shadow takes over a position: the slice serving it is displaced (R141 step 3). -/
def State.calTake (s : State) (r p : Nat) : State :=
  let c := s.cal r
  let disp := (List.range 8).map (fun k =>
    if c.active.contains k then s.rdN (Obj.sliceAtPosition r k p) else 0xFF)
  let s := s.each c.active (fun s k => s.wrN (Obj.sliceAtPosition r k p) (c.shadow.getD k 0xFF))
  s.setCal r { c with pos := p + 1, displaced := disp, next := s.core.tick + c.window + 1 }

/-- At a position boundary the displaced slice returns, its measurement counted, and the shadow moves on; after the last
position the last slice returns and the sets are checked during the tick (R141 steps 3 and 4). -/
def execCalPositionStep (r : Fin 4) (s : State) : Host.Outcome State Fault Refusal :=
  let c := s.cal r
  if s.calRuns r ∧ c.sparesDone ∧ c.next ≤ s.core.tick ∧ c.pos ≤ 128 then
    let s := if c.pos = 0 then s
      else (s.calReturn r).opAdvance (calOp r) (s.rdN (Obj.opPosition (calOp r)) + c.active.length)
    if c.pos < 128 then .next (s.calTake r c.pos)
    else
      let c' := s.cal r
      .next (s.setCal r { c' with pos := 129, next := s.core.tick + 1 })
  else .next s

/-- Suspend a background round while the AGC is not FROZEN or the reach restores; resume with the position's measurement
from the beginning (R143). At each boundary, before step 5 changes the AGC: the displaced slice returns at the boundary after
the one that ends the condition. -/
def State.calSuspend (s : State) (r : Nat) : State :=
  let c := s.cal r
  if c.kind = 1 then
    let stop := s.agcState r != 3 || s.reachRestoring r
    if stop && !c.suspended then
      let s := s.calReturn r
      let c := s.cal r
      s.setCal r { c with suspended := true }
    else if !stop && c.suspended then
      let s := s.setCal r { c with suspended := false }
      if 0 < c.pos ∧ c.pos ≤ 128 then s.calTake r (c.pos - 1)
      else if c.sparesDone then s else s.setCal r { c with suspended := false, next := s.core.tick + c.window }
    else s
  else s

/-- A background round's last tick (R138, R141 steps 4 and 5): the last slice has returned and the sets are checked; the
accepted ones are applied, and the round ends, at step 5 of the next boundary. -/
def execCalRoundEnd (r : Fin 4) (meas : List SliceMeas) (s : State) : Host.Outcome State Fault Refusal :=
  let c := s.cal r
  if s.calRuns r ∧ c.pos = 129 ∧ c.verdict = none then .next (s.calCheck r meas true (upto 8 (fun k => !c.active.contains k)))
  else .next s

/-- A start round begins (R146): moored, powered, the link UP and, with CAL_SEED_WAIT, the reach enabled. Its length
follows from the windows of R147, by the seeding of this moment. The words in force stay until its sets pass (R138). -/
def execStartRoundBegin (r : Fin 4) (s : State) : Host.Outcome State Fault Refusal :=
  let c := s.cal r
  if c.startDue ∧ c.dueAt ≤ s.core.tick ∧ c.kind = 0 ∧ s.dom (domReach r) = 2 ∧ s.rdN (Obj.linkState r) = 2 ∧
      (s.rdB (Obj.calSeedWait r) → s.rdB (Obj.reachEnable r)) then
    let paces := (List.range 8).map (fun k => ((s.liveSlices r k).length, if s.seeded r k then 5 else 24))
    let s := s.setCal r { c with kind := 2, since := s.core.tick, duration := 2 + paces.foldl (fun a p => max a (p.1 * p.2)) 0,
                                 startDue := false, startDone := false, verdict := none, aborting := 0,
                                 paces := paces, seededAt := upto 8 (fun k => (paces.getD k (0, 24)).2 == 5) }
    .next (s.opStart (calOp r) (paces.foldl (fun a p => a + p.1) 0))
  else .next s

/-- The slices of a start round whose measurement has ended by this boundary (R146, R150): measuring takes the ticks after its
first. -/
def State.startRoundPosition (s : State) (r : Nat) : Nat :=
  (s.cal r).paces.foldl (fun a p => a + min p.1 ((s.core.tick - (s.cal r).since - 1) / p.2)) 0

/-- A start round's last tick (R138, R146): its sets are checked without the step limit, and it ends at step 5 of the next
boundary, B(s + 2 + max N·W). -/
def execStartRoundEnd (r : Fin 4) (meas : List SliceMeas) (s : State) : Host.Outcome State Fault Refusal :=
  let c := s.cal r
  if c.kind = 2 ∧ c.since + c.duration ≤ s.core.tick + 1 ∧ c.verdict = none then .next (s.calCheck r meas false [])
  else .next s

/-- CAL_TEMP_TRIGGER (R144): a sensor's filtered temperature differs from its CAL_TEMP by more than the threshold. -/
def State.calTempDiffers (s : State) (r : Nat) : Bool :=
  (List.range 4).any (fun i =>
    decide (s.rdN (Obj.calTempThreshold r) < (s.rd (Obj.temperature (4 * r + i)) - s.rd (Obj.calTemp r i)).natAbs))

/-- Calibration's work at each boundary: the temperature comparison (R144), a start round's POSITION (R150), suspension (R143)
and an abort (R145). DEDUCED: log entry 70. -/
def State.calBoundary (s : State) (r : Nat) : State :=
  let c := s.cal r
  let s := s.setCal r { c with tempHeld := s.released (domReach r) && s.agcState r == 3 && s.rdB (Obj.calAuto r) &&
                                 s.calTempDiffers r }
  if c.aborting ≠ 0 ∧ c.kind ≠ 0 then
    let s := s.calReturn r
    let c := s.cal r
    (s.setCal r { c with kind := 0, shadow := [], displaced := [], pos := 0, aborting := 0, suspended := false,
                         accepted := [], verdict := none }).opAbort (calOp r) (c.aborting - 1)
  else if c.kind = 2 then s.opAdvance (calOp r) (s.startRoundPosition r)
  else s.calSuspend r

/-- CAL_START accepted (R144, R146): a start round on a moored reach, a background round on a released one, which waits until the
AGC is FROZEN. DESIGN CHOICE: log entry 130. -/
def State.calStartOp (s : State) (r : Nat) : State :=
  let c := s.cal r
  if s.released (domReach r) then s.setCal r { c with requested := true, dueAt := s.core.tick + 1 }
  else s.setCal r { c with startDue := true, byCommand := true, dueAt := s.core.tick + 1 }

/-- A COEFF word was written (R149): retained, and counted towards seeding. -/
def State.coeffWritten (s : State) (r k slice w : Nat) : State :=
  let c := s.cal r
  let x := 132 * k + slice
  s.setCal r { c with written := c.written.filter (fun p => p.1 != x) ++ [(x, w)],
                      measured := c.measured.filter (· != x) }

end Sys2Proof.Machine
end

