-- ==== Sys2Proof/Machine/Loading.lean ====
section
/-! DEFINITION. Chapter 6: groups (R159–R162), the probe map (R163), the quality figures (R164–R166, R178, R179), the map
computation (R167, R168), the announced switch (R169–R174), restart and path history (R175–R177). -/
namespace Sys2Proof.Machine

def State.load (s : State) (r g : Nat) : Load := tget (fun _ => {}) s.loads (8 * r + g)

def State.setLoad (s : State) (r g : Nat) (x : Load) : State :=
  { s with loads := tset (fun _ => {}) s.loads (8 * r + g) x }

/-- The probe map of a group (R163): version 0, rate 0.75, the outer code on, code 4 everywhere. -/
def State.probeMap (s : State) (r g : Nat) : MapC :=
  let n := s.rdN (Obj.subcarrierCount r g)
  ⟨0, 0, 1, s.rdN (Obj.firstSubcarrier r g), n, List.replicate n 4⟩

/-- The map in force on transmit. -/
def State.txMap (s : State) (r g : Nat) : MapC := ((s.load r g).tx).getD (s.probeMap r g)

/-- The receiver's current map. -/
def State.rxMap (s : State) (r g : Nat) : MapC := ((s.load r g).rxCur).getD (s.probeMap r g)

/-- The code of a sub-carrier in a map; 0 outside it. -/
def MapC.code (m : MapC) (sc : Nat) : Nat := if m.first ≤ sc then m.codes.getD (sc - m.first) 0 else 0

/-- The training selector of a map (R159): 0 for the probe map, 1 for an odd version, 2 for an even one. -/
def MapC.selector (m : MapC) : Nat := if m.version = 0 then 0 else if m.version % 2 = 1 then 1 else 2

/-- Coded bits per tick of a map (R158). -/
def MapC.codedBits (m : MapC) : Nat := 49352 * m.codes.foldl (· + ·) 0

/-- THR(rate, L) of Table 6.1 in 0.01 dB; none for code 0 and the invalid codes. -/
def thr (rate l : Nat) : Option Int :=
  let base : Option Int := if l = 4 then some 500 else if l = 5 then some 700
    else if 6 ≤ l ∧ l ≤ 16 then some (850 + 150 * ((l - 6 : Nat) : Int)) else none
  base.map (fun b => b + (if rate = 0 then 0 else if rate = 1 then 100 else 220))

/-- The largest code from 4 to a maximum whose threshold is at or below a quality in 0.01 dB, else 0 (R167). -/
def fitCode (rate lmax : Nat) (q : Int) : Nat :=
  (upto 17 (fun l => decide (4 ≤ l ∧ l ≤ lmax) && ((thr rate l).map (fun t => decide (t ≤ q))).getD false)).getLastD 0

/-- One step of the CRC-16 of R169 (polynomial 0x1021, no reflection) over a byte, by its 8 shifts. -/
def crc16Shift : Nat → Nat → Nat
  | 0, c => c
  | n + 1, c => crc16Shift n (if 0x8000 ≤ c then ((c * 2) % 0x10000) ^^^ 0x1021 else c * 2)

/-- CRC-16: polynomial 0x1021, initial value 0xFFFF, no reflection, no final XOR (R169). -/
def crc16 (bs : List Byte) : Nat := bs.foldl (fun c b => crc16Shift 8 (c ^^^ (b.toNat * 256))) 0xFFFF

/-- The map content's bytes (Table 6.2). -/
def MapC.bytes (m : MapC) : List Byte :=
  beBytes 2 m.version ++ ([m.rate, m.outer, m.first, m.count] ++ m.codes).map (BitVec.ofNat 8)

/-- The check of a map (R169). -/
def MapC.check (m : MapC) : Nat := crc16 m.bytes

/-- The version after a version (R170): 65,534 is followed by 1. -/
def nextVersion (v : Nat) : Nat := if 65534 ≤ v then 1 else v + 1

/-! ### Showing maps -/

/-- Coded bits per tick of the enabled groups on transmit (R158). -/
def State.showCodedBits (s : State) (r : Nat) : State :=
  s.wrN (Obj.codedBitsTx r) ((s.enabledGroups r).foldl (fun a g => a + (s.txMap r g).codedBits) 0)

/-- Show the transmit map in force (LOADING_MAP_VERSION, LOADING_TX). -/
def State.showTx (s : State) (r g : Nat) : State :=
  let m := s.txMap r g
  let s := s.wrN (Obj.loadingMapVersion r g) m.version
  (s.each (s.groupScs r g) (fun s sc => s.wrN (Obj.loadingTx r sc) (m.code sc))).showCodedBits r

/-- Show the current receive map (RX_MAP_VERSION, LOADING_RX). -/
def State.showRx (s : State) (r g : Nat) : State :=
  let m := s.rxMap r g
  let s := s.wrN (Obj.rxMapVersion r g) m.version
  s.each (s.groupScs r g) (fun s sc => s.wrN (Obj.loadingRx r sc) (m.code sc))

/-- Show the announcement (ANNOUNCED_VERSION, ANNOUNCED_TICK). -/
def State.showAnn (s : State) (r g : Nat) : State :=
  match (s.load r g).ann with
  | some a => (s.wrN (Obj.announcedVersion r g) a.map.version).wrN (Obj.announcedTick r g) a.at_
  | none => (s.wrN (Obj.announcedVersion r g) 0).wrN (Obj.announcedTick r g) 0

/-- Event source of a group (Table 6.8). -/
def grpSource (r g : Nat) : Nat := 0x2140 + 0x200 * r + g

/-! ### The transmitter -/

/-- Put the probe map into force on transmit without announcement and withdraw the announcement (R163, R168, R175). -/
def State.txToProbe (s : State) (r g : Nat) : State :=
  let x := s.load r g
  let changed := x.tx.isSome
  let s := s.setLoad r g { x with tx := none, cand := none, ann := none, report := none,
                                  lastSwitch := if changed then s.core.tick else x.lastSwitch }
  let s := if changed then s.inc (Obj.mapSwitches r g) else s
  (s.showTx r g).showAnn r g

/-- The announcement is withdrawn after its fifth missed deadline (R172); a FIXED map put forward meanwhile is the next
candidate. -/
def State.abandonAnn (s : State) (r g : Nat) : State :=
  (s.setLoad r g { (s.load r g) with ann := none }).showAnn r g

/-- Withdraw the pending announcement and what would follow it (R161). -/
def State.withdrawAnn (s : State) (r g : Nat) : State :=
  let x := s.load r g
  (s.setLoad r g { x with ann := none, cand := none }).showAnn r g

/-- The effective tick of an announcement first carried at t_a (R170). -/
def State.effectiveTick (s : State) (r g ta : Nat) : Nat :=
  ta + max (s.rdN (Obj.loadingLead r g)) (s.rdN (Obj.ackLatency r g) + 4)

/-- The target code of one sub-carrier (R167). q and h in 0.01 dB; c the code in force. -/
def targetCode (rate lmax : Nat) (probe riseOk : Bool) (h : Int) (q : Nat) (c : Nat) : Nat :=
  if q = 0 then c
  else
    let q' : Int := 25 * (q : Int)
    let fit := fitCode rate lmax q'
    let up := fitCode rate lmax (q' - h)
    if probe then fit
    else if lmax < c then fit
    else if c ≠ 0 ∧ ((thr rate c).map (fun t => decide (q' < t))).getD false then fit
    else if c < up ∧ riseOk then up
    else c

/-- The target map's codes (R167), with the rule for a target that is 0 everywhere. -/
def State.targetCodes (s : State) (r g : Nat) (rep : LoadReport) : List Nat :=
  let m := s.txMap r g
  let x := s.load r g
  let probe := x.tx.isNone
  let riseOk := probe || decide (s.rdN (Obj.loadingWindow r g) ≤ s.core.tick - x.lastSwitch)
  let t := (List.range m.count).map (fun i =>
    targetCode (s.rdN (Obj.ldpcRate r g)) (s.rdN (Obj.loadingMax r g)) probe riseOk
      (s.rd (Obj.loadingHysteresis r g)) (rep.q.getD i 0) (m.codes.getD i 0))
  if t.all (· == 0) then
    let best := (List.range m.count).foldl (fun b i => if rep.q.getD b 0 < rep.q.getD i 0 then i else b) 0
    lset t best 4
  else t

/-- The FIXED map of a group (R168): FIXED_LOADING of its sub-carriers, LDPC_RATE and OUTER_CODE. -/
def State.fixedMap (s : State) (r g : Nat) : MapC :=
  let m := s.txMap r g
  ⟨nextVersion (s.load r g).lastVersion, s.rdN (Obj.ldpcRate r g), s.rdN (Obj.outerCode r g), m.first, m.count,
    (List.range m.count).map (fun i => s.rdN (Obj.fixedLoading r (m.first + i)))⟩

/-- The candidate of a group at a boundary (R167, R168): none where the mode, the report or the map gives none. A FIXED map is
put forward as it is; one that is 0 everywhere is not (R213). DEDUCED: log entry 108. -/
def State.candidate (s : State) (r g : Nat) : Option MapC :=
  let x := s.load r g
  let m := s.txMap r g
  let rate := s.rdN (Obj.ldpcRate r g)
  let outer := s.rdN (Obj.outerCode r g)
  let mk (codes : List Nat) : MapC := ⟨nextVersion x.lastVersion, rate, outer, m.first, m.count, codes⟩
  let differs (codes : List Nat) : Bool := codes != m.codes || rate != m.rate || outer != m.outer
  if s.rdN (Obj.loadingMode r g) = 1 then
    match x.report with
    | none => none
    | some rep =>
      if rep.restart || (x.tx.isNone && rep.q.all (· == 0)) then none
      else
        let codes := s.targetCodes r g rep
        if differs codes then some (mk codes) else none
  else if s.rdN (Obj.loadingMode r g) = 2 then
    if x.fixedDue != 0 && x.tx.isNone && (x.report.map (fun p => !p.restart)).getD false &&
        !(s.fixedMap r g).codes.all (· == 0) then some (s.fixedMap r g)
    else none
  else none

/-- LOADING_ANNOUNCE_SEND (R170): at step 6 the candidate is announced, replacing uncommitted content under the same version;
after commitment a FIXED candidate waits until the switch has been made, and an AUTO one is computed anew. -/
def State.announceStep (s : State) (r g : Nat) : State :=
  let x := s.load r g
  match x.cand with
  | none => s
  | some m =>
    let m := { m with version := nextVersion x.lastVersion }
    let fixed := s.rdN (Obj.loadingMode r g) == 2
    let x' := { x with cand := none, fixedDue := if fixed then 0 else x.fixedDue }
    let a : Announce := ⟨m, s.core.tick, s.effectiveTick r g s.core.tick, false, 0⟩
    match x.ann with
    | none => (s.setLoad r g { x' with ann := some a }).showAnn r g
    | some b =>
      if b.committed then (if fixed then s else s.setLoad r g { x with cand := none })
      else if b.map = m then s.setLoad r g x'
      else (s.setLoad r g { x' with ann := some a }).showAnn r g

/-- LOADING_TARGET_COMPUTE (R167): each boundary's candidate, an engine output that takes effect at the next boundary
(R37). -/
def State.loadingCompute (s : State) (r g : Nat) : State :=
  match s.candidate r g with
  | none => s
  | some m =>
    let x := s.load r g
    s.setLoad r g { x with cand := some m }

/-- A LOADING_ACK that matches the announced content commits it where it is received by the end of tick T − 4; ACK_LATENCY counts
to the same tick (R172, Table 6.4). DEDUCED: log entry 17. -/
def State.loadingAck (s : State) (r g version check : Nat) : State :=
  let x := s.load r g
  match x.ann with
  | none => s
  | some a =>
    if !a.committed && a.map.version == version && a.map.check == check && decide (s.core.tick + 4 ≤ a.at_) then
      let s := s.setLoad r g { x with ann := some { a with committed := true } }
      s.wrN (Obj.ackLatency r g) (s.core.tick - a.ta)
    else s

/-- The announcement that the frame of a tick carries: from t_a to T − 1 (R170). -/
def State.annShown (s : State) (r g tick : Nat) : Option Announce :=
  (s.load r g).ann.filter (fun a => decide (a.ta ≤ tick ∧ tick < a.at_))

/-- A missed deadline (R172): tick T − 4 ended without a match: postponed, at most four times, then abandoned. -/
def State.loadingDeadline (s : State) (r g : Nat) : State :=
  let x := s.load r g
  match x.ann with
  | none => s
  | some a =>
    if a.committed ∨ s.core.tick + 3 < a.at_ then s
    else if a.postponed < 4 then
      let ta := a.at_ - 3
      let a' := { a with ta := ta, at_ := s.effectiveTick r g ta, postponed := a.postponed + 1 }
      let s := (s.setLoad r g { x with ann := some a' }).showAnn r g
      (s.inc (Obj.postponements r g)).raise 0x8041 (grpSource r g) ((a.postponed + 1) * 65536 + a.map.version)
    else (s.abandonAnn r g).raise 0x8042 (grpSource r g) a.map.version

/-- LOADING_DEADLINE (R172): tick T − 4 ended without a match. DEDUCED: log entry 17. -/
def execLoadingDeadline (r : Fin 4) (g : Fin 8) (s : State) : Host.Outcome State Fault Refusal := .next (s.loadingDeadline r g)

/-- The committed announcement comes into force (R173). A FIXED candidate that waited for it is announced next (R170); an AUTO one is
computed anew from the codes now in force (R167). DEDUCED: log entry 17. -/
def State.loadingSwitchOp (s : State) (r g : Nat) (a : Announce) : State :=
  let x := s.load r g
  let s := s.setLoad r g { x with tx := some a.map, lastVersion := a.map.version, lastSwitch := a.at_, ann := none,
                                  cand := if s.rdN (Obj.loadingMode r g) = 2 then x.cand else none }
  let s := ((s.showTx r g).showAnn r g).inc (Obj.mapSwitches r g)
  s.raise 0x4040 (grpSource r g) a.map.version

/-- The committed map whose effective tick has come is put into force (R173). -/
def State.loadingSwitchDue (s : State) (r g : Nat) : State :=
  match (s.load r g).ann with
  | some a => if a.committed ∧ a.at_ ≤ s.core.tick then s.loadingSwitchOp r g a else s
  | none => s

/-- LOADING_SWITCH (R173): at B_T the committed map is put into force. DEDUCED: log entry 17. -/
def execLoadingSwitch (r : Fin 4) (g : Fin 8) (s : State) : Host.Outcome State Fault Refusal := .next (s.loadingSwitchDue r g)

/-- A withdrawal of the group has ended (R312): probe frames from there on. -/
def State.withdrawEnded (s : State) (r g tick : Nat) : Bool :=
  s.rest.units.any (fun p => p.2.withdraw.any (fun w => w.reach == r && decide (w.until_ ≤ tick) && w.groups.contains g))

/-- The map a frame of a tick carries: the map in force, which steps 5 and 6 of the boundary have set (R173, R175), and the probe map
once a withdrawal has ended (R312). -/
def State.frameMap (s : State) (r g tick : Nat) : MapC :=
  if s.withdrawEnded r g tick then s.probeMap r g else s.txMap r g

/-! ### The receiver -/

/-- A received LOADING_ANNOUNCE (R171). -/
def State.rxAnnounce (s : State) (r g : Nat) (m : MapC) : State :=
  let bad := m.first != s.rdN (Obj.firstSubcarrier r g) || m.count != s.rdN (Obj.subcarrierCount r g) ||
    m.codes.length != m.count || m.codes.any (fun c => c != 0 && (decide (c < 4) || decide (16 < c)))
  if bad then s.inc (Obj.loadingMismatches r)
  else
    let x := s.load r g
    if (x.rxCur.map (fun c => c.version)) = some m.version then s else s.setLoad r g { x with rxAnn := some m }

/-- The map that a frame's training selector names (R173): none where the receiver holds no map for it. -/
def State.mapFor (s : State) (r g sel : Nat) : Option MapC :=
  if sel = 0 then some (s.probeMap r g)
  else
    let x := s.load r g
    let ok (m : MapC) : Bool := m.selector == sel
    match x.rxCur with
    | some m => if ok m then some m else x.rxAnn.filter ok
    | none => x.rxAnn.filter ok

/-- The first frame demapped by the announced map makes it current; one on the probe map discards the current map
(R173). -/
def State.rxDemapped (s : State) (r g : Nat) (m : MapC) : State :=
  let x := s.load r g
  if m.version = 0 then
    if x.rxCur.isSome then (s.setLoad r g { x with rxCur := none, curTicks := 0 }).showRx r g else s
  else if x.rxCur = some m then s
  else
    let s := (s.setLoad r g { x with rxCur := some m, rxAnn := none, curTicks := 0 }).showRx r g
    s.raise 0x4040 (grpSource r g) (2 ^ 31 + m.version)

/-- A received LOADING_REPORT (R166, R175): RESTART makes a group that is not on the probe map restart. -/
def State.rxReport (s : State) (r g : Nat) (rep : LoadReport) : State :=
  let x := s.load r g
  let s := s.setLoad r g { x with report := some rep }
  if rep.restart && x.tx.isSome && x.restart.isNone then
    let x := s.load r g
    s.setLoad r g { x with restart := some (1, s.core.tick + 1) }
  else s

/-- Ask for a restart of a group at the next boundary (R175). Cause: 0 loss of frame, 1 far-end RESTART,
2 restoration. -/
def State.askRestart (s : State) (r g cause : Nat) : State :=
  let x := s.load r g
  s.setLoad r g { x with restart := some (cause, s.core.tick + 1) }

/-- Clear a group's measurements (R287): at power-up, enable, restart and a drain's start. -/
def State.rttClear (s : State) (rg : Nat) : State :=
  ({ s with basin.rtt := tset (fun _ => []) s.basin.rtt rg [] }).wrN (Obj.ackRtt (rg / 8) (rg % 8)) 32

/-- The restart itself (R175, R177, R287). -/
def State.restartOp (s : State) (r g cause : Nat) : State :=
  let s := s.txToProbe r g
  let x := s.load r g
  let s := s.setLoad r g { x with restart := none, window := [], fromHistory := true, histOn := false, curTicks := 0,
                                  fixedDue := 1 }
  let s := s.each (s.groupScs r g) (fun s sc => s.wr (Obj.snrAvg r sc) (-32768))
  ((s.inc (Obj.restarts r g)).raise 0x4044 (grpSource r g) cause).rttClear (8 * r + g)

/-- A restart that is due (R175): at the next boundary, under step 6. -/
def State.restartDue (s : State) (r g : Nat) : State :=
  match (s.load r g).restart with
  | some (cause, due) => if due ≤ s.core.tick then s.restartOp r g cause else s
  | none => s

/-- GROUP_RESTART (R175). DEDUCED: log entry 17. -/
def execGroupRestart (r : Fin 4) (g : Fin 8) (s : State) : Host.Outcome State Fault Refusal := .next (s.restartDue r g)

/-- After a boundary's staged writes: whether the enable, release or restart that asked for a FIXED candidate stands in FIXED mode
(R168). -/
def State.fixedResolve (s : State) (r g : Nat) : State :=
  let x := s.load r g
  if x.fixedDue = 1 then s.setLoad r g { x with fixedDue := if s.rdN (Obj.loadingMode r g) = 2 then 2 else 0 } else s

/-- A group starts on the probe map (R161, R163): at enable, and at each release of its reach. It has no frame yet, so its first
report carries RESTART (R166). -/
def State.groupStart (s : State) (r g : Nat) : State :=
  let s := s.txToProbe r g
  let x := s.load r g
  let n := s.rdN (Obj.subcarrierCount r g)
  let s := s.setLoad r g { x with rxCur := none, rxAnn := none, window := [], fromHistory := true, histOn := false,
                                  restart := none, curTicks := 0,
                                  out := ⟨true, false, s.rdN (Obj.firstSubcarrier r g), n, List.replicate n 0⟩, fixedDue := 1 }
  let s := s.each (s.groupScs r g) (fun s sc => s.wr (Obj.snrAvg r sc) (-32768))
  (s.showRx r g).showTx r g

/-- A group's receive state discards every held map except the probe map and empties its window (R161). -/
def State.groupDrop (s : State) (r g : Nat) : State :=
  let x := s.load r g
  let s := s.setLoad r g { x with rxCur := none, rxAnn := none, window := [], curTicks := 0 }
  let s := s.each (s.groupScs r g) (fun s sc => s.wr (Obj.snrAvg r sc) (-32768))
  s.showRx r g

/-- The receive direction of a group has its frame: state FRAME of Table 9.6. -/
def State.inFrame (s : State) (r g : Nat) : Bool := s.rdN (Obj.rxFrameState r g) == 2

/-! ### Quality -/

/-- ⌊1000 · log10(a / b)⌋, that is a power ratio in 0.01 dB, limited to ±20,479 (R164). -/
def dbSearch (a b : Nat) : Nat → Int → Int
  | 0, lo => lo
  | n + 1, lo =>
    let k := lo + 2 ^ n
    let le := if 0 ≤ k then 10 ^ k.toNat * b ^ 1000 ≤ a ^ 1000 else b ^ 1000 ≤ a ^ 1000 * 10 ^ (-k).toNat
    if le then dbSearch a b n k else dbSearch a b n lo

/-- A power ratio in 0.01 dB. The spec states no rounding of it: the value below, or the next one up by a free choice
where it is not exact. DESIGN CHOICE: log entry 21. DEDUCED: log entry 29. -/
def State.dbOf (s : State) (a b : Nat) : Int × State :=
  if a = 0 then (-20480, s)
  else if b = 0 then (20479, s)
  else if a = b then (0, s)
  else
    let f := dbSearch a b 15 (-20480)
    let (n, s) := s.draw
    (if Config.roundUp n then f + 1 else f, s)

/-- The sum of S and of N of a sub-carrier over the window (R164). -/
def windowSum (w : List (List (Nat × Nat × Nat))) (sc : Nat) : Nat × Nat :=
  w.foldl (fun a t => t.foldl (fun a p => if p.1 = sc then (a.1 + p.2.1, a.2 + p.2.2) else a) a) (0, 0)

/-- The binary32 nearest to a fraction below 1, ties to even (Table 3.1). -/
def f32OfFrac (num den : Nat) : Nat :=
  if num = 0 ∨ den = 0 then 0
  else
    -- e: the exponent with 1 ≤ num/den · 2^e < 2
    let e := (upto 127 (fun e => decide (den ≤ num * 2 ^ e))).headD 126
    let scaled := num * 2 ^ (e + 24)
    let q := scaled / den
    let m := q / 2
    let up := q % 2 == 1 && (scaled % den != 0 || m % 2 == 1)
    (127 - e) * 2 ^ 23 + (m - 2 ^ 23) + (if up then 1 else 0)

/-- The quality q(s) a receiver reports (R165): 0.25 dB steps rounded down, 0.25–63.75 dB; 0 with no value.
DEDUCED: log entry 29. -/
def State.quality (s : State) (r g sc : Nat) : Nat :=
  let snr := s.rd (Obj.snrAvg r sc)
  if snr = -32768 then 0
  else
    let x := if (s.load r g).xOn then s.rd (Obj.shortfallMargin r g) else 0
    (clampInt 1 255 ((snr - s.rd (Obj.loadingMargin r g) - x) / 25)).toNat

/-- Until the window holds LOADING_WINDOW ticks, SNR_AVG has no value (R164). -/
def State.snrCheck (s : State) (r g : Nat) : State :=
  s.onlyIf (decide ((s.load r g).window.length < s.rdN (Obj.loadingWindow r g))) (fun s =>
    s.each (s.groupScs r g) (fun s sc => s.wr (Obj.snrAvg r sc) (-32768)))

/-- The tick's pilots enter the quality figures of a group that has its frame (R164), with BER_EST and MARGIN. -/
def State.pilotStep (s : State) (r g : Nat) (pilots : List (Nat × Nat × Nat)) : State :=
  let mine := pilots.filter (fun p => s.groupCovers r g p.1)
  let s := s.each mine (fun s p =>
    let (v, s) := s.dbOf p.2.2 p.2.1
    s.wr (Obj.evm r p.1) v)
  let x := s.load r g
  let w := (mine :: x.window).take (s.rdN (Obj.loadingWindow r g))
  let s := s.setLoad r g { x with window := w, curTicks := if x.rxCur.isSome then x.curTicks + 1 else 0 }
  let s := if w.length < s.rdN (Obj.loadingWindow r g) then s.snrCheck r g
    else s.each (s.groupScs r g) (fun s sc =>
      let (a, b) := windowSum w sc
      let (v, s) := s.dbOf a b
      s.wr (Obj.snrAvg r sc) v)
  s.each (s.groupScs r g) (fun s sc =>
    match thr (s.rxMap r g).rate (s.rdN (Obj.loadingRx r sc)) with
    | some t => if s.rd (Obj.snrAvg r sc) = -32768 then s else s.wr (Obj.margin r sc) (s.rd (Obj.snrAvg r sc) - t)
    | none => s)

/-- A figure of the ended tick enters a history of the last 100 ticks, newest first; `zero` stands for a tick without any, and those at
the far end are not kept. -/
def lastHundred {α : Type} [DecidableEq α] (zero x : α) (h : List α) : List α :=
  ((((x :: h).take 100).reverse).dropWhile (fun y => decide (y = zero))).reverse

/-- BER_EST of a reach's sub-carriers over the codewords, of whichever group, that converged in the last 100 ticks; 0 without any
(R164). -/
def State.berStep (s : State) (r : Nat) : State :=
  let hs := ((List.range 8).map (fun g => (s.load r g).bers)).filter (fun h => !h.isEmpty)
  s.each (List.range 64) (fun s sc =>
    let (n, e) := hs.foldl (fun a h => let b := windowSum h sc; (a.1 + b.1, a.2 + b.2)) (0, 0)
    let v := f32OfFrac e n
    s.onlyIf (s.rdN (Obj.berEst r sc) != v) (fun s => s.wrN (Obj.berEst r sc) v))

/-- The report the engines produce at a boundary (R166, R177). DEDUCED: log entry 12. -/
def State.reportStep (s : State) (r g : Nat) : State :=
  let x := s.load r g
  let scs := s.groupScs r g
  let first := s.rdN (Obj.firstSubcarrier r g)
  let p := s.pathOf r
  let hist := bitOf (s.rdN (Obj.historyValid r g)) p
  let novalue := scs.all (fun sc => s.rd (Obj.snrAvg r sc) == -32768)
  let found := s.rdN (Obj.rxFrameState r g) == 2
  -- frames on the probe map after an enable or a restart start it; it goes on until SNR_AVG holds a value (R177)
  let on := novalue && (x.histOn || (found && x.rxCur.isNone && x.fromHistory && hist))
  let rep : LoadReport :=
    if !found then ⟨true, false, first, scs.length, scs.map (fun _ => 0)⟩
    else if on then
      ⟨false, true, first, scs.length,
        scs.map (fun sc => if p = 0 then s.rdN (Obj.historyPath0 r sc) else s.rdN (Obj.historyPath1 r sc))⟩
    else ⟨false, false, first, scs.length, scs.map (s.quality r g)⟩
  s.setLoad r g { x with out := rep, fromHistory := x.fromHistory && novalue, histOn := on }

/-- HISTORY_CAPTURE (R176): a non-probe map current for LOADING_WINDOW ticks copies q(s) into the path's profile. -/
def execHistoryCapture (r : Fin 4) (g : Fin 8) (s : State) : Host.Outcome State Fault Refusal :=
  let x := s.load r g
  if x.rxCur.isSome ∧ s.inFrame r g ∧ s.rdN (Obj.loadingWindow r g) ≤ x.curTicks ∧
      (s.groupScs r g).all (fun sc => s.quality r g sc != 0) then
    let p := s.pathOf r
    let s := s.each (s.groupScs r g) (fun s sc =>
      s.wrN (if p = 0 then Obj.historyPath0 r sc else Obj.historyPath1 r sc) (s.quality r g sc))
    .next (s.wrN (Obj.historyValid r g) (setBit (s.rdN (Obj.historyValid r g)) p true))
  else .next s

/-- A shortfall of the group puts the shortfall margin into force (R165). -/
def State.shortfallMarginOn (s : State) (r g : Nat) : State :=
  let x := s.load r g
  s.setLoad r g { x with xOn := true, xTick := s.core.tick }

/-- SHORTFALL_MARGIN_EXPIRY (R165): 10,000 consecutive ticks without a shortfall return X to 0. -/
def execShortfallMarginExpiry (r : Fin 4) (g : Fin 8) (s : State) : Host.Outcome State Fault Refusal :=
  let x := s.load r g
  if x.xOn ∧ x.xTick + 10000 ≤ s.core.tick then .next (s.setLoad r g { x with xOn := false }) else .next s

/-- GROUP_LQF (R178). -/
def State.lqf (s : State) (r g : Nat) : Nat :=
  if s.rdN (Obj.rxFrameState r g) ≠ 2 then 0
  else
    let ms := (s.groupScs r g).filterMap (fun sc =>
      if s.rd (Obj.snrAvg r sc) = -32768 then none
      else (thr (s.rxMap r g).rate (s.rdN (Obj.loadingRx r sc))).map (fun t => s.rd (Obj.snrAvg r sc) - t))
    let m := match ms with
      | [] => 0
      | a :: l => l.foldl min a
    let lm := clampInt 0 255 (roundDiv (12800 + 16 * m) 100)
    let h := (s.load r g).iters
    let cws : Nat := h.foldl (fun a t => a + t.1) 0
    let its : Nat := h.foldl (fun a t => a + t.2.1) 0
    let failed : Nat := h.foldl (fun a t => a + t.2.2) 0
    let li : Int := if its ≤ 4 * cws then 255 else clampInt 0 255 (roundDiv (303 * Int.ofNat cws - 12 * Int.ofNat its) cws)
    let v := (min lm li).toNat
    if failed = 0 then v else min v 63

/-- LQF_COMPUTE (R178, R179): a disabled group is in loss of frame, and reads 0. -/
def State.lqfStep (s : State) (r : Nat) : State :=
  let gs := s.enabledGroups r
  let s := s.each (List.range 8) (fun s g => s.wrN (Obj.groupLqf r g) (s.lqf r g))
  match gs with
  | [] => (s.wrN (Obj.reachLqf r) 0).wrN (Obj.lqfWorstGroup r) 0
  | g0 :: rest =>
    let w := rest.foldl (fun b g => if s.rdN (Obj.groupLqf r g) < s.rdN (Obj.groupLqf r b) then g else b) g0
    (s.wrN (Obj.reachLqf r) (s.rdN (Obj.groupLqf r w))).wrN (Obj.lqfWorstGroup r) w

/-! ### Layout conditions (check 9) -/

/-- The prospective layout of a group: first, count, enabled (R525). -/
def State.prLayout (s : State) (r g : Nat) : Nat × Nat × Bool :=
  (s.prdN (Obj.firstSubcarrier r g), s.prdN (Obj.subcarrierCount r g), s.prd (Obj.groupEnable r g) == 1)

/-- Two runs of sub-carriers share one. -/
def overlap (a b : Nat × Nat × Bool) : Bool :=
  decide (0 < a.2.1 ∧ 0 < b.2.1 ∧ a.1 < b.1 + b.2.1 ∧ b.1 < a.1 + a.2.1)

/-- The layout the groups would have with one group's put in place keeps R159: no group past sub-carrier 63, and no enabled group
overlapping another enabled group. -/
def State.layoutOk (s : State) (r g : Nat) (mine : Nat × Nat × Bool) : Bool :=
  decide (mine.1 + mine.2.1 ≤ 64) &&
    (!mine.2.2 || (List.range 8).all (fun h => h == g || !(s.prLayout r h).2.2 || !overlap mine (s.prLayout r h)))

/-- The sum of the target powers of the enabled groups' sub-carriers, in 10⁻⁹, with a group's enable and a
sub-carrier's pre-emphasis put in place (R162). DEDUCED: log entry 84. -/
def State.powerSum (s : State) (r : Nat) (lay : Nat → Nat × Nat × Bool) (pre : Nat → Int) : Nat :=
  sumTo 64 (fun sc =>
    if (List.range 8).any (fun g => (lay g).2.2 && decide ((lay g).1 ≤ sc ∧ sc < (lay g).1 + (lay g).2.1))
    then level10 (pre sc) else 0)

/-- The sum of R162 exceeds 64.0. -/
def overPower (n : Nat) : Bool := decide (64 * unit9 < n)

/-- Check 9 of a GROUP_ENABLE write (R159, R162). -/
def State.groupEnableOk (s : State) (r g : Nat) (v : Int) : Bool :=
  let lay (h : Nat) : Nat × Nat × Bool := let l := s.prLayout r h; if h = g then (l.1, l.2.1, v == 1) else l
  v != 1 || (decide (0 < (lay g).2.1) && s.layoutOk r g (lay g) && !overPower (s.powerSum r lay (fun sc => s.prd (Obj.preEmphasis r sc))))

/-- Check 9 of a layout write (R159). -/
def State.layoutWriteOk (s : State) (r g : Nat) (isCount : Bool) (v : Nat) : Bool :=
  let l := s.prLayout r g
  s.layoutOk r g (if isCount then (l.1, v, l.2.2) else (v, l.2.1, l.2.2))

/-- Check 9 of a PRE_EMPHASIS write (R162). -/
def State.preEmphasisOk (s : State) (r sc : Nat) (v : Int) : Bool :=
  !overPower (s.powerSum r (s.prLayout r) (fun k => if k = sc then v else s.prd (Obj.preEmphasis r k)))

/-- Check 9 of a HISTORY_VALID write (R176): no bit set for a profile that holds a 0 entry. -/
def State.historyValidOk (s : State) (r g v : Nat) : Bool :=
  (!bitOf v 0 || (s.groupScs r g).all (fun sc => s.rdN (Obj.historyPath0 r sc) != 0)) &&
    (!bitOf v 1 || (s.groupScs r g).all (fun sc => s.rdN (Obj.historyPath1 r sc) != 0))

/-- The check of a FIXED_APPLY write (R168): REFUSED in another mode, OUT_OF_RANGE for an invalid FIXED_LOADING. -/
def State.fixedApplyStatus (s : State) (r g : Nat) : Option Nat :=
  if s.rdN (Obj.loadingMode r g) ≠ 2 then some Status.refused
  else if (s.groupScs r g).any (fun sc => let c := s.rdN (Obj.fixedLoading r sc)
      c != 0 && (decide (c < 4) || decide (16 < c))) then some Status.outOfRange
  else none

/-- FIXED_APPLY accepted (R168): the FIXED map of this moment is put forward. -/
def State.fixedApplyOp (s : State) (r g : Nat) : State :=
  let x := s.load r g
  s.setLoad r g { x with cand := some (s.fixedMap r g), fixedDue := 0 }

end Sys2Proof.Machine
end

