-- ==== Sys2Proof/Machine/Equaliser.lean ====
section
/-! DEFINITION. Chapter 7: dispersion compensation and its banks (R184–R193), the equalisers' states (R194, R195, R197,
R527), carrier recovery's figures (R198, R199) and the disturbance watch (R201–R204). -/
namespace Sys2Proof.Machine

/-! ### Dispersion -/

def State.cd (s : State) (r : Nat) : Cd := tget (fun _ => {}) s.eq.cd r

def State.setCd (s : State) (r : Nat) (c : Cd) : State := { s with eq.cd := tset (fun _ => {}) s.eq.cd r c }

/-- The active bank's value. -/
def State.cdActive (s : State) (r : Nat) : Int :=
  if s.rdN (Obj.cdActiveBank r) = 0 then s.rd (Obj.bankACd r) else s.rd (Obj.bankBCd r)

/-- The dispersion in force (R184). -/
def State.cdInForceVal (s : State) (r : Nat) : Int := s.cdActive r + s.rd (Obj.cdTrim r)

/-- RX_DSP_LATENCY (R185, R186): 1,180,000 + round(|D| · Δλ_e) ps, with Δλ_e = c · 163.8 GHz / RX_CARRIER². -/
def rxDspLatency (d : Int) (carrier : Nat) : Nat :=
  1180000 + (roundDiv ((d.natAbs * (299792458 * 163800000) : Nat) : Int) ((carrier * carrier : Nat) : Int)).toNat

/-- The bulk delay of sub-carrier `sc` against the mean (R185), in fs: D · Δλ_e · (sc − 31.5) / 31.5, within the delay
memory's ±1,152 symbols. DESIGN CHOICE: log entry 109. -/
def bulkDelay (d : Int) (carrier sc : Nat) : Int :=
  clampInt (-225000000) 225000000
    (roundDiv (d * 299792458 * 163800000 * 1000 * (2 * (sc : Int) - 63)) ((63 * carrier * carrier : Nat) : Int))

/-- Show the value in force and the latency that follows from it (R184, R186), and delay the sub-carriers by it (R185). -/
def State.showCd (s : State) (r : Nat) : State :=
  let d := s.cdInForceVal r
  let f := s.rdN (Obj.rxCarrier r)
  let s := s.setCd r { (s.cd r) with bulk := if d = 0 then [] else (List.range 64).map (bulkDelay d f) }
  (s.wr (Obj.cdInForce r) d).wrN (Obj.rxDspLatency r) (rxDspLatency d f)

/-- The state of the inactive bank: 0 LOADING, 1 READY. -/
def State.inactiveState (s : State) (r : Nat) : Nat :=
  if s.rdN (Obj.cdActiveBank r) = 0 then s.rdN (Obj.bankBState r) else s.rdN (Obj.bankAState r)

/-- A write of the inactive bank's value is accepted (R187): four boundaries of loading, counted anew. -/
def State.cdBankLoad (s : State) (r : Nat) (bankB : Bool) : State :=
  let c := s.cd r
  if bankB then (s.setCd r { c with readyB := s.core.tick + 4 }).wrN (Obj.bankBState r) 0
  else (s.setCd r { c with readyA := s.core.tick + 4 }).wrN (Obj.bankAState r) 0

/-- CD_BANK_READY (R187): the fourth boundary after the accept point. -/
def execCdBankReady (r : Fin 4) (s : State) : Host.Outcome State Fault Refusal :=
  let c := s.cd r
  let s1 := if s.rdN (Obj.bankAState r) = 0 ∧ c.readyA ≤ s.core.tick then s.wrN (Obj.bankAState r) 1 else s
  .next (if s1.rdN (Obj.bankBState r) = 0 ∧ c.readyB ≤ s1.core.tick then s1.wrN (Obj.bankBState r) 1 else s1)

/-- Check 9 of a bank write (R188): REFUSED for the active bank, BUSY while an accepted swap waits. -/
def State.bankWriteStatus (s : State) (r : Nat) (bankB : Bool) : Option Nat :=
  if (s.rdN (Obj.cdActiveBank r) == 1) == bankB then some Status.refused
  else if s.core.window.any (fun w => w.key == Obj.cdSwap r) then some Status.busy
  else none

/-- The reach domain powers up (R187): retained values are reloaded. -/
def State.cdPowerUp (s : State) (r : Nat) : State :=
  let c := s.cd r
  let s := s.setCd r { c with readyA := s.core.tick + 4, readyB := s.core.tick + 4, searchFrom := s.core.tick, noFrame := 0,
                              blindTicks := 0, trainedTicks := 0, trackRun := 0, tracking := false, swappedAt := none }
  if s.rdN (Obj.cdActiveBank r) = 0 then s.wrN (Obj.bankBState r) 0 else s.wrN (Obj.bankAState r) 0

/-! ### The equalisers -/

/-- The state of a sub-carrier's equaliser: 0 IDLE, 1 TRAIN, 2 TRACK (R194). -/
def State.eqSc (s : State) (r sc : Nat) : Nat := tget (fun _ => 0) s.eq.sc (64 * r + sc)

/-- A sub-carrier's equaliser state and its taps: 0 identity, 1 set by a training correlation and adapted or kept since, 2 waiting
to be reset from the next one (Table 7.2). -/
def State.putEqSc (s : State) (r sc v taps : Nat) : State :=
  let k := 64 * r + sc
  { s with eq.sc := tset (fun _ => 0) s.eq.sc k v, eq.miss := tset (fun _ => 0) s.eq.miss k 0,
           eq.taps := tset (fun _ => 0) s.eq.taps k taps }

/-- A sub-carrier's equaliser enters a state (Table 7.2). A group's coarse offset is estimated anew at each entry of its
sub-carriers to TRAIN (R198), and a sub-carrier that is not tracked reports 0 (R197). -/
def State.setEqSc (s : State) (r sc v taps : Nat) : State :=
  let s := s.putEqSc r sc v taps
  let s := if v = 2 then s else (s.wrN (Obj.sopRate r sc) 0).wrN (Obj.dgd r sc) 0
  if v = 1 then
    s.each ((s.enabledGroups r).filter (fun g => s.groupCovers r g sc)) (fun s g =>
      { s with eq.coarse := tset (fun _ => false) s.eq.coarse (8 * r + g) true })
  else s

/-- The tracked sub-carriers of a reach. -/
def State.tracked (s : State) (r : Nat) : List Nat := upto 64 (fun sc => s.eqSc r sc == 2)

/-- Show which sub-carriers are tracked, and the reach's figures over them (R197, Table 7.8). -/
def State.showTrack (s : State) (r : Nat) : State :=
  let tr := s.tracked r
  let s := (s.wrN (Obj.trackLow r) (maskOf 32 (fun i => tr.contains i))).wrN (Obj.trackHigh r)
    (maskOf 32 (fun i => tr.contains (32 + i)))
  let s := s.wrN (Obj.sopRatePeak r) (tr.foldl (fun a sc => max a (s.rdN (Obj.sopRate r sc))) 0)
  let s := s.wrN (Obj.dgdMean r)
    (if tr = [] then 0 else tr.foldl (fun a sc => a + s.rdN (Obj.dgd r sc)) 0 / tr.length)
  if tr = [] then s.wrN (Obj.pdl r) 0 else s

/-- Sub-carriers that train or track return to TRAIN (Table 7.2): with taps at identity at a CD swap, with their taps kept where
the group lost its frame. -/
def State.eqRetrain (s : State) (r : Nat) (scs : List Nat) (keep : Bool) : State :=
  (s.each scs (fun s sc =>
    if s.eqSc r sc = 0 then s
    else s.setEqSc r sc 1 (if keep then tget (fun _ => 0) s.eq.taps (64 * r + sc) else 0))).showTrack r

/-- Sub-carriers enter TRAIN when their reach is released and they lie in an enabled group, and leave to IDLE otherwise
(Table 7.2). -/
def State.eqMembership (s : State) (r : Nat) : State :=
  (s.each (List.range 64) (fun s sc =>
    let on := s.released (domReach r) && (s.enabledGroups r).any (fun g => s.groupCovers r g sc)
    if on && s.eqSc r sc == 0 then s.setEqSc r sc 1 0
    else if !on && s.eqSc r sc != 0 then s.setEqSc r sc 0 0
    else s)).showTrack r

/-- EQ_TRAINING_FOUND and EQ_REACQUIRE for the ended tick (R194, R527). -/
def State.eqTraining (s : State) (r : Nat) (found : List Nat) : State :=
  let step (s : State) (sc : Nat) : State :=
    let st := s.eqSc r sc
    if found.contains sc then
      if st = 1 then s.setEqSc r sc 2 1
      else { s with eq.miss := tset (fun _ => 0) s.eq.miss (64 * r + sc) 0 }
    else if st = 2 then
      let mates := (s.enabledGroups r).any (fun g => s.groupCovers r g sc &&
        found.any (fun k => s.groupCovers r g k))
      let n := if mates then tget (fun _ => 0) s.eq.miss (64 * r + sc) + 1 else 0
      if 2 ≤ n then
        ((s.setEqSc r sc 1 2).inc (Obj.eqReacquires r)).raiseLimitedFor 0x8053 (0x2060 + 0x200 * r) 1 sc
      else { s with eq.miss := tset (fun _ => 0) s.eq.miss (64 * r + sc) n }
    else s
  (s.each (List.range 64) step).showTrack r

/-- A coarse offset lies within ±5.0 GHz (R198). -/
def coarseOk (f : Int) : Bool := decide (-5000000 ≤ f) && decide (f ≤ 5000000)

/-- Training found in a tick (R198): none on the sub-carriers of a group whose offset exceeds ±5.0 GHz. -/
def State.trainingHeard (s : State) (t : ReachTick) : ReachTick :=
  { t with scFound := t.scFound.filter (fun p =>
      !t.freq.any (fun q => !coarseOk q.2 && s.groupCovers t.r q.1 p.1)) }

/-- The coarse estimate of the groups whose sub-carriers have entered TRAIN (R198): the first one that comes afterwards.
DEDUCED: log entry 110. -/
def State.coarseOffsets (s : State) (r : Nat) (t : ReachTick) : State :=
  s.each (t.freq.filter (fun p => decide (p.1 < 8) && coarseOk p.2)) (fun s p =>
    if tget (fun _ => false) s.eq.coarse (8 * r + p.1) then
      { (s.wr (Obj.scFreqOffset r p.1) p.2) with eq.coarse := tset (fun _ => false) s.eq.coarse (8 * r + p.1) false }
    else s)

/-- A tick has ended with the SOP_RATE_PEAK that the reach shows (R195). -/
def State.sopTick (s : State) (r : Nat) : State :=
  let peak := s.rdN (Obj.sopRatePeak r)
  let n := if peak < 500 then tget (fun _ => 0) s.eq.slow r + 1 else 0
  { s with eq.slow := tset (fun _ => 0) s.eq.slow r n, eq.peak := tset (fun _ => 0) s.eq.peak r peak }

/-- The figures of the tracked sub-carriers (R197–R199), and the run of slow ticks (R195). -/
def State.eqFigures (s : State) (r : Nat) (t : ReachTick) : State :=
  let val (l : List (Nat × Nat)) (sc : Nat) : Nat := ((l.find? (fun p => p.1 == sc)).map (·.2)).getD 0
  let s := s.each (s.tracked r) (fun s sc =>
    (s.wrN (Obj.sopRate r sc) (val t.sopRate sc)).wrN (Obj.dgd r sc) (min 2000 (val t.dgd sc)))
  (((s.wrN (Obj.pdl r) t.pdl).showTrack r).incBy (Obj.cycleSlips r) t.slips).sopTick r

/-- EQ_MODE_CHANGE (R195): to AGILE after a tick above 1,000 krad/s, to STEADY after 1,000 ticks below 500. -/
def execEqModeChange (r : Fin 4) (s : State) : Host.Outcome State Fault Refusal :=
  let mode := s.rdN (Obj.eqTracking r)
  let agile := s.rdB (Obj.eqAgile r)
  let want : Bool :=
    if mode = 0 then false else if mode = 1 then true
    else if agile then decide (tget (fun _ => 0) s.eq.slow r < 1000) else decide (1000 < tget (fun _ => 0) s.eq.peak r)
  if want = agile then .next s
  else
    let v := if want then 1 else 0
    .next (((s.wrN (Obj.eqAgile r) v).inc (Obj.eqModeChanges r)).raise 0x4054 (0x2060 + 0x200 * r) v)

/-! ### The watch -/

/-- One unit of a feature in the baselines' scale. -/
def watchUnit : Nat := 2 ^ 24

/-- The score of R201 from features and baselines (a baseline below one unit is taken as one unit). -/
def watchScoreOf (wS wP wT fS fP fT bS bP bT : Nat) : Nat :=
  let b1 := max watchUnit bS
  let b2 := max watchUnit bP
  let b3 := max watchUnit bT
  let n1 := fS * watchUnit - b1
  let n2 := fP * watchUnit - b2
  let n3 := fT * watchUnit - b3
  min 65535 (256 * (wS * n1 * b2 * b3 + wP * n2 * b1 * b3 + wT * n3 * b1 * b2) / (16 * b1 * b2 * b3))

/-- One step of an exponential mean (R201): B + (f − B) / BASELINE_TICKS. -/
def expMean (b f t : Nat) : Nat := ((b : Int) + ((f * watchUnit : Nat) - (b : Int)) / (max 1 t : Nat)).toNat

/-- Scores kept for WATCH_PEAK: those of the last 100,000 ticks (Table 7.10). -/
def State.watchAge (s : State) (r : Nat) : State :=
  let w := s.watch r
  s.onlyIf (w.peaks != []) (fun s =>
    let l := w.peaks.filter (fun p => decide (s.core.tick ≤ p.1 + 100000))
    (s.setWatch r { w with peaks := l }).wrN (Obj.watchPeak r) (l.foldl (fun a p => max a p.2) 0))

/-- Show the baselines. -/
def State.showBaselines (s : State) (r : Nat) : State :=
  let w := s.watch r
  (s.wrN (Obj.baselineSop r) (w.bSop / 2 ^ 16)).wrN (Obj.baselinePhase r) (w.bPhase / 2 ^ 16)

/-- WATCH_SCORE and WATCH_NOTICE (R201, R203): the score of the ended tick is delivered. A tick in which no group of the
reach has frame yields none. -/
def State.watchTick (s : State) (r : Nat) (t : ReachTick) : State :=
  let s := match t.watchClass with
    | some c => s.wrN (Obj.watchClass r) c
    | none => s
  if !((s.enabledGroups r).any (s.inFrame r)) || !s.released (domReach r) then s
  else
    let w := s.watch r
    let st := s.rdN (Obj.watchState r)
    let w := if st ≤ 1 then
        { w with bSop := expMean w.bSop t.fSop (s.rdN (Obj.baselineTicks r)),
                 bPhase := expMean w.bPhase t.fPhase (s.rdN (Obj.baselineTicks r)),
                 bTap := expMean w.bTap t.fTap (s.rdN (Obj.baselineTicks r)) }
      else w
    if st = 0 then
      let w := { w with count := w.count + 1, sSop := w.sSop + t.fSop, sPhase := w.sPhase + t.fPhase, sTap := w.sTap + t.fTap }
      (s.setWatch r w).showBaselines r
    else
      let w0 := s.watch r
      let sc := watchScoreOf (s.rdN (Obj.wSop r)) (s.rdN (Obj.wPhase r)) (s.rdN (Obj.wTap r)) t.fSop t.fPhase t.fTap
        w0.bSop w0.bPhase w0.bTap
      let ended := s.core.tick - 1
      let peaks := (ended, sc) :: (w.peaks.filter (fun p => decide (sc < p.2)))
      let notice := decide (s.rdN (Obj.noticeThreshold r) ≤ sc)
      let w := { w with hist := ((ended, sc) :: w.hist).take 1001, peaks := peaks, quiet := if notice then 0 else w.quiet + 1,
                        leftQuiet := if notice && st == 1 then s.core.tick else w.leftQuiet }
      let s := s.setWatch r w
      let s := (s.wrN (Obj.watchScore r) sc).wrN (Obj.watchPeak r) (peaks.foldl (fun a p => max a p.2) 0)
      let s := s.showBaselines r
      if notice && st == 1 then (s.wrN (Obj.watchState r) 2).raise 0x4055 (0x20A0 + 0x200 * r) sc else s

/-- WATCH_SUPPRESS_END (Table 7.5a): the baselines are seeded with the features' means. -/
def execWatchSuppressEnd (r : Fin 4) (s : State) : Host.Outcome State Fault Refusal :=
  let w := s.watch r
  if s.rdN (Obj.watchState r) = 0 ∧ s.rdN (Obj.suppressTicks r) ≤ w.count ∧ s.released (domReach r) then
    let w := { w with bSop := w.sSop * watchUnit / w.count, bPhase := w.sPhase * watchUnit / w.count,
                      bTap := w.sTap * watchUnit / w.count, count := 0, quiet := 0 }
    .next (((s.setWatch r w).wrN (Obj.watchState r) 1).showBaselines r)
  else .next s

/-- The arm condition of R203 at the boundary of the present tick: tick t is the one before the ended one; the result
is its score. -/
def State.armScore (s : State) (r : Nat) : Option Nat :=
  let t := s.core.tick - 2
  let run := ((s.watch r).hist.dropWhile (fun p => decide (t < p.1)))
  match run with
  | [] => none
  | p :: _ =>
    let n := s.rdN (Obj.armTicks r)
    if p.1 = t ∧ 2 ≤ s.core.tick ∧ n ≤ run.length ∧
        (run.take n).all (fun q => decide (s.rdN (Obj.armThreshold r) ≤ q.2)) ∧
        bitOf (s.rdN (Obj.armClasses r)) (s.rdN (Obj.watchClass r)) then some p.2 else none

/-- WATCH_ARMED (R203, R204): NOTICE to ARMED, with the pre-arm signal when enabled. -/
def execWatchArmed (r : Fin 4) (s : State) : Host.Outcome State Fault Refusal :=
  if s.rdN (Obj.watchState r) = 2 then
    match s.armScore r with
    | some sc =>
      let on := s.rdB (Obj.preArmEnable r)
      let w := s.watch r
      let s := s.setWatch r { w with sent := on }
      let s := if on then { s with eq.prearm := s.eq.prearm ++ [r.val] } else s
      let s := (s.wrN (Obj.watchState r) 3).inc (Obj.arms r)
      .next (s.raise 0xC056 (0x20A0 + 0x200 * r)
        ((if on then 2 ^ 31 else 0) + s.rdN (Obj.watchClass r) * 65536 + sc))
    | none => .next s
  else .next s

/-- WATCH_CLEARED (R203): a quiet run returns the watch to QUIET, with a disarm signal if the pre-arm was sent. -/
def execWatchCleared (r : Fin 4) (s : State) : Host.Outcome State Fault Refusal :=
  let w := s.watch r
  let st := s.rdN (Obj.watchState r)
  if (st = 2 ∨ st = 3) ∧ s.rdN (Obj.clearTicks r) ≤ w.quiet then
    let s := if st = 3 ∧ w.sent then { s with eq.disarm := s.eq.disarm ++ [r.val] } else s
    let s := s.setWatch r { w with sent := false }
    .next ((s.wrN (Obj.watchState r) 1).raise 0x4057 (0x20A0 + 0x200 * r) (min (2 ^ 32 - 1) (s.core.tick - w.leftQuiet)))
  else .next s

/-! ### Swaps, search and tracking -/

/-- CD_SWAPPED (R190, Table 7.1): the banks swap, CD_TRIM returns to 0, the estimates and the tracking run restart, the
equalisers train and the watch is suppressed. -/
def State.cdSwapOp (s : State) (r : Nat) : State :=
  let b := 1 - s.rdN (Obj.cdActiveBank r)
  let s := (s.wrN (Obj.cdActiveBank r) b).wr (Obj.cdTrim r) 0
  let s := if b = 1 then (s.wrN (Obj.bankBState r) 2).wrN (Obj.bankAState r) 1
    else (s.wrN (Obj.bankAState r) 2).wrN (Obj.bankBState r) 1
  let c := s.cd r
  let s := s.setCd r { c with searchFrom := s.core.tick, noFrame := 0, blindTicks := 0, trainedTicks := 0, trackRun := 0,
                              tracking := false, swappedAt := some s.core.tick, limited := false }
  let s := ((s.wrN (Obj.cdEstQuality r) 0).inc (Obj.cdSwaps r)).showCd r
  let s := (s.eqRetrain r (List.range 64) false).watchSuppress r
  s.raise 0x4050 (0x2080 + 0x200 * r) b

/-- Put a value into force by CD_TRIM, held at ±160,000 ps/nm with CD_RANGE_LIMIT raised once (R193). -/
def State.cdPut (s : State) (r : Nat) (v : Int) : State :=
  let w := clampInt (-160000) 160000 v
  let told := (s.cd r).limited && w == s.cdInForceVal r
  let s := (s.wr (Obj.cdTrim r) (w - s.cdActive r)).showCd r
  let s := s.setCd r { (s.cd r) with limited := told || w != v }
  if w ≠ v ∧ !told then s.raise 0x8052 (0x2080 + 0x200 * r) (w % 2 ^ 32).toNat else s

/-- The reach has frame on some enabled group. -/
def State.reachInFrame (s : State) (r : Nat) : Bool := (s.enabledGroups r).any (s.inFrame r)

/-- The estimates and runs of the ended tick (R190–R192). -/
def State.cdTick (s : State) (r : Nat) (t : ReachTick) : State :=
  let c := s.cd r
  let fr := s.reachInFrame r
  let c := { c with blind := t.blind, trained := t.trained, blindTicks := c.blindTicks + 1,
                    trainedTicks := if fr then c.trainedTicks + 1 else c.trainedTicks,
                    noFrame := if fr then 0 else c.noFrame + 1 }
  let q := if 100 ≤ c.trainedTicks then 2 else if 20 ≤ c.blindTicks then 1 else 0
  let above := decide (q = 2) &&
    decide (s.rdN (Obj.cdTrackThreshold r) < (c.trained - s.cdInForceVal r).natAbs)
  let c := { c with trackRun := if c.tracking then 0 else if above then c.trackRun + 1 else 0 }
  let s := s.setCd r c
  let s := s.wrN (Obj.cdEstQuality r) q
  if q = 0 then s else s.wr (Obj.cdEstimate r) (if q = 2 then c.trained else c.blind)

/-- CD_SEARCH (R191): an evaluation that leaves CD_TRIM as it is, is no search action. -/
def execCdSearch (r : Fin 4) (s : State) : Host.Outcome State Fault Refusal :=
  let c := s.cd r
  let mode := s.rdN (Obj.cdMode r)
  if (mode = 1 ∨ mode = 2) ∧ s.released (domReach r) ∧ ¬ s.reachInFrame r ∧ 20 ≤ c.noFrame ∧
      c.searchFrom + 20 ≤ s.core.tick ∧ c.swappedAt ≠ some s.core.tick ∧ 500 < (c.blind - s.cdInForceVal r).natAbs then
    let was := s.rd (Obj.cdTrim r)
    let s := s.cdPut r c.blind
    if s.rd (Obj.cdTrim r) = was then .next s
    else
      let s := s.setCd r { (s.cd r) with searchFrom := s.core.tick, noFrame := 0 }
      .next (s.raise 0x4051 (0x2080 + 0x200 * r) (s.cdInForceVal r % 2 ^ 32).toNat)
  else .next s

/-- CD_TRACKING (R192): one step of at most 20 ps/nm towards the trained estimate; tracking ends when the value in force has reached
it, and goes on while a limit holds the value off it (R193). -/
def execCdTracking (r : Fin 4) (s : State) : Host.Outcome State Fault Refusal :=
  let c := s.cd r
  if s.rdN (Obj.cdMode r) = 2 ∧ (c.tracking ∨ 1000 ≤ c.trackRun) ∧ c.swappedAt ≠ some s.core.tick then
    let diff := c.trained - s.cdInForceVal r
    let step := clampInt (-20) 20 diff
    let s := (s.setCd r { c with trackRun := 0 }).cdPut r (s.cdInForceVal r + step)
    .next (s.setCd r { (s.cd r) with tracking := decide (s.cdInForceVal r ≠ c.trained) })
  else .next s

end Sys2Proof.Machine
end

