-- ==== Sys2Proof/Machine/Coding.lean ====
section
/-! DEFINITION. Chapter 8: the LDPC code (R209–R212), codewords in a frame (R213, R214), the outer code (R215), the
interleaver (R217, R218), and the decoder pool: its capacity (R222, R223), ranks (R224), allocation (R225, R226) and the
outcome of each codeword (R219, Table 8.3). -/
namespace Sys2Proof.Machine

/-! ### The inner code -/

/-- Rows of the base matrix, m (Table 8.1). -/
def ldpcRows (rate : Nat) : Nat := if rate = 0 then 15 else if rate = 1 then 10 else 6

/-- Information columns, K_b = 60 − m (Table 8.1). -/
def ldpcInfoCols (rate : Nat) : Nat := 60 - ldpcRows rate

/-- Information bits of a codeword, k (Table 8.1). -/
def ldpcK (rate : Nat) : Nat := 512 * ldpcInfoCols rate

/-- The stride σ (Table 8.1). -/
def ldpcStride (rate : Nat) : Nat := if rate = 0 then 5 else if rate = 1 then 3 else 2

/-- The middle row μ (Table 8.1). -/
def ldpcMiddle (rate : Nat) : Nat := ldpcRows rate / 2

/-- The shift of information entry (i, j) (R211). -/
def ldpcShift (i j : Nat) : Nat := (113 * (i + 1) * (2 * j + 1) + 17 * j ^ 2) % 512

/-- The shift of base entry (i, j), none for an empty entry (R211). -/
def ldpcEntry (rate i j : Nat) : Option Nat :=
  let m := ldpcRows rate
  let kb := ldpcInfoCols rate
  if j < kb then
    if (List.range 3).any (fun t => (j + t * ldpcStride rate) % m == i) then some (ldpcShift i j) else none
  else if j = kb then
    if i = 0 ∨ i = m - 1 then some 1 else if i = ldpcMiddle rate then some 0 else none
  else if j < 60 then
    if i + 1 = j - kb ∨ i = j - kb then some 0 else none
  else none

/-- A circulant applied to a block: (P^s x)[a] = x[(a + s) mod 512]. -/
def circulant (s : Nat) (x : BitVec 512) : BitVec 512 := x.rotateRight s

/-- The XOR of a function over a list of columns. -/
def xorOver (l : List Nat) (f : Nat → BitVec 512) : BitVec 512 := l.foldl (fun a j => a ^^^ f j) 0

/-- One base row applied to a run of column blocks. -/
def ldpcRowSum (rate i : Nat) (cols : List Nat) (block : Nat → BitVec 512) : BitVec 512 :=
  xorOver cols (fun j => match ldpcEntry rate i j with
    | some s => circulant s (block j)
    | none => 0)

/-- λ[i]: the information entries of row i. -/
def ldpcLambda (rate : Nat) (u : Nat → BitVec 512) (i : Nat) : BitVec 512 :=
  ldpcRowSum rate i (List.range (ldpcInfoCols rate)) u

/-- Parity block p_0. -/
def ldpcP0 (rate : Nat) (u : Nat → BitVec 512) : BitVec 512 :=
  xorOver (List.range (ldpcRows rate)) (ldpcLambda rate u)

/-- Parity block p_q (the encoding procedure before R212). -/
def ldpcParity (rate : Nat) (u : Nat → BitVec 512) : Nat → BitVec 512
  | 0 => ldpcP0 rate u
  | 1 => ldpcLambda rate u 0 ^^^ circulant 1 (ldpcP0 rate u)
  | q + 2 => ldpcLambda rate u (q + 1) ^^^ ldpcParity rate u (q + 1) ^^^
      (if q + 1 = ldpcMiddle rate then ldpcP0 rate u else 0)

/-- Column block j of the codeword of information blocks u. -/
def ldpcCodeword (rate : Nat) (u : Nat → BitVec 512) (j : Nat) : BitVec 512 :=
  if j < ldpcInfoCols rate then u j else ldpcParity rate u (j - ldpcInfoCols rate)

/-- Row i of H·c, 512 bits of the syndrome (R212, R219). -/
def ldpcSyndrome (rate i : Nat) (c : Nat → BitVec 512) : BitVec 512 := ldpcRowSum rate i (List.range 60) c

/-! ### Codewords and bits of a frame -/

/-- Whole codewords of a map (R213). -/
def MapC.codewords (m : MapC) : Nat := m.codedBits / 30720

/-- Tail bits of a map (R213). -/
def MapC.tailBits (m : MapC) : Nat := m.codedBits - 30720 * m.codewords

/-- Bits of the information stream, C·k (R214). -/
def MapC.streamBits (m : MapC) : Nat := m.codewords * ldpcK m.rate

/-- RS codewords of a frame with the outer code on (R214). -/
def MapC.rsWords (m : MapC) : Nat := m.streamBits / 5440

/-- Frame bits, F (R214). -/
def MapC.frameBits (m : MapC) : Nat := if m.outer = 1 then 5140 * m.rsWords else m.streamBits

/-- The stream bit that carries a frame bit (R233). -/
def MapC.streamBit (m : MapC) (f : Nat) : Nat := if m.outer = 1 then 5440 * (f / 5140) + f % 5140 else f

/-- One step of the PRBS31 of the tail bits (R213: x^31 + x^28 + 1): the register's next value. -/
def prbs31 (x : BitVec 31) : BitVec 31 :=
  (x <<< 1) ||| (if x.getLsbD 30 != x.getLsbD 27 then 1#31 else 0#31)

/-- Tail bit n of a tick: the register is loaded with all ones at every boundary (R213). -/
def tailBit : Nat → BitVec 31 → Bool
  | 0, x => x.getLsbD 30 != x.getLsbD 27
  | n + 1, x => tailBit n (prbs31 x)

/-! ### The outer code -/

/-- A field GF(2^m): its width, and its polynomial less the leading term. -/
structure Gf where
  m : Nat
  low : Nat
  deriving DecidableEq, Repr

/-- Doubling, α times an element. -/
def Gf.double (k : Gf) (a : Nat) : Nat := if 2 * a < 2 ^ k.m then 2 * a else (2 * a - 2 ^ k.m) ^^^ k.low

/-- The product of two elements, over the low n bits of the second. -/
def Gf.mulBits (k : Gf) : Nat → Nat → Nat → Nat
  | 0, _, _ => 0
  | n + 1, a, b => (if b % 2 = 1 then a else 0) ^^^ k.mulBits n (k.double a) (b / 2)

/-- A power of the primitive element α = x. -/
def Gf.pow (k : Gf) : Nat → Nat
  | 0 => 1
  | n + 1 => k.double (k.pow n)

/-- A polynomial, highest coefficient first, times (x + root). -/
def Gf.timesRoot (k : Gf) (p : List Nat) (root : Nat) : List Nat :=
  (List.zip (p ++ [0]) (0 :: p)).map (fun q => q.1 ^^^ k.mulBits k.m root q.2)

/-- The generator polynomial with roots α^0 … α^(n−1), highest coefficient first. -/
def Gf.generator (k : Gf) (n : Nat) : List Nat := (List.range n).foldl (fun p i => k.timesRoot p (k.pow i)) [1]

/-- The n check symbols that a systematic Reed–Solomon encoder with a generator of degree n puts behind a message. -/
def Gf.check (k : Gf) (gen msg : List Nat) : List Nat :=
  msg.foldl (fun reg sym =>
    let fb := sym ^^^ reg.headD 0
    (List.zip (reg.drop 1 ++ [0]) (gen.drop 1)).map (fun q => q.1 ^^^ k.mulBits k.m fb q.2)) (List.replicate (gen.length - 1) 0)

/-- The outer code's field, polynomial x^10 + x^3 + 1 (R215). -/
def gf10 : Gf := ⟨10, 9⟩

/-- The 30 check symbols of 514 message symbols, message first (R215). -/
def rsCheck (msg : List Nat) : List Nat := gf10.check (gf10.generator 30) msg

/-! ### The interleaver -/

/-- π(b) (R218). -/
def interleave (b : Nat) : Nat := 512 * (b % 60) + b / 60

/-- The codeword and the codeword bit that slot u carries, none for a tail slot (R218). -/
def slotBit (c u : Nat) : Option (Nat × Nat) :=
  if c = 0 ∨ 30720 * c ≤ u then none else some (u % c, interleave (u / c))

/-- Bits a sub-carrier of code L contributes per polarisation to payload symbol k (R217). -/
def symbolBits (l k : Nat) : Nat := if l % 2 = 0 then l / 2 else if k % 2 = 0 then l / 2 + 1 else l / 2

/-! ### Reliability -/

/-- The intervals of stream bits whose codeword failed or was dropped (R219). -/
def unreliableStream (m : MapC) (out : List Nat) : List (Nat × Nat) :=
  (out.zipIdx).filterMap (fun p => if p.1 = 0 then none else some (p.2 * ldpcK m.rate, (p.2 + 1) * ldpcK m.rate))

/-- The intervals of frame bits that are marked unreliable when the frame reaches the parser (R216, R219): with the outer
code on, exactly the RS codewords with more than 15 symbol errors. -/
def DecFrame.unreliable (d : DecFrame) : List (Nat × Nat) :=
  if d.map.outer = 1 then
    (d.f.rs.filter (fun p => decide (p.1 < d.map.rsWords) && decide (15 < p.2))).map (fun p => (5140 * p.1, 5140 * (p.1 + 1)))
  else unreliableStream d.map d.out

/-- Some bit of frame bytes lo to hi − 1 is marked unreliable. -/
def DecFrame.bytesUnreliable (d : DecFrame) (lo hi : Nat) : Bool :=
  d.unreliable.any (fun p => decide (p.1 < 8 * hi) && decide (8 * lo < p.2) && decide (lo < hi))

/-- The frame's share of RS_CORRECTED and RS_FAILED (R216). -/
def DecFrame.rsCounts (d : DecFrame) : Nat × Nat :=
  if d.map.outer = 1 then
    let l := d.f.rs.filter (fun p => decide (p.1 < d.map.rsWords))
    (l.foldl (fun a p => if p.2 ≤ 15 then a + p.2 else a) 0, (l.filter (fun p => decide (15 < p.2))).length)
  else (0, 0)

/-! ### Capacity -/

/-- A decoder core is retired: it stands in the ledger's map (Table 4.7). -/
def State.coreRetired (s : State) (c : Nat) : Bool := bitOf s.start.decoderMap c

/-- N (R222). A core that the syndrome checker has withdrawn is out at once (R470). DEDUCED: log entry 28. -/
def State.poolCores (s : State) : Nat :=
  let qs := upto 4 (fun q => s.released (domQuarter q))
  min (12 * qs.length) (upto 52 (fun c => !s.coreRetired c && !s.integ.out.contains (0x1100 + c) && qs.contains (c / 13))).length

/-- Bring CORES_IN_SERVICE and CAPACITY to N; a change raises POOL_CAPACITY_CHANGED (R222, R223).
DEDUCED: log entry 28. -/
def State.poolCapacity (s : State) : State :=
  let n := s.poolCores
  let changed := n != s.pool.n
  let s := { s with pool.n := n }
  let s := (s.wrN Obj.poolCoresInService n).wrN Obj.poolCapacity (1400 * n)
  s.onlyIf changed (fun s => s.raise 0x4063 0x2800 n)

/-! ### Allocation -/

/-- One group's part in an allocation: 8·r + g, its demand D, floor f, drops and rank. -/
structure PoolGroup where
  key : Nat
  d : Nat
  f : Nat
  drop : Nat := 0
  rank : Nat
  deriving DecidableEq, Repr

/-- ⌈a / b⌉. -/
def ceilNat (a b : Nat) : Nat := if b = 0 then 0 else (a + b - 1) / b

/-- The yield order: ranks falling, then 8·r + g falling (R224). -/
def yieldOrder (l : List PoolGroup) : List PoolGroup :=
  (List.range 9).reverse.flatMap (fun k => (List.range 32).reverse.flatMap (fun key =>
    l.filter (fun p => p.rank == k && p.key == key)))

/-- Units that kept codewords at their floors take. -/
def poolNeed (l : List PoolGroup) : Nat := l.foldl (fun a p => a + p.d * p.f) 0

/-- The first loop of R225: floors are lowered towards 2 in yield order. -/
def lowerFloors (u : Nat) : List PoolGroup → Nat → List PoolGroup × Nat
  | [], need => ([], need)
  | p :: t, need =>
    let cut := if u < need then min (p.f - 2) (ceilNat (need - u) p.d) else 0
    let (t', n') := lowerFloors u t (need - cut * p.d)
    ({ p with f := p.f - cut } :: t', n')

/-- The second loop of R225: codewords are dropped in yield order. -/
def dropWords (u : Nat) : List PoolGroup → Nat → List PoolGroup × Nat
  | [], need => ([], need)
  | p :: t, need =>
    let n := if u < need then min p.d (ceilNat (need - u) p.f) else 0
    let (t', n') := dropWords u t (need - n * p.f)
    ({ p with drop := n, d := p.d - n } :: t', n')

/-- The floors and drops of R225: the groups in yield order and the need after yielding. -/
def poolYield (u : Nat) (l : List PoolGroup) : List PoolGroup × Nat :=
  let y := (yieldOrder l).filter (fun p => decide (0 < p.d))
  let (a, need) := lowerFloors u y (poolNeed y)
  dropWords u a need

/-- One codeword in the decode tick: the iterations it needs (0: never converges), those run, and its state: 0 converged,
1 failed, 2 dropped, 3 waiting (Table 8.3). -/
structure Codeword where
  need : Nat
  used : Nat := 0
  st : Nat := 3
  deriving DecidableEq, Repr

/-- The floor pass on one codeword (Table 8.3). -/
def Codeword.floorPass (f cap : Nat) (w : Codeword) : Codeword :=
  if 0 < w.need ∧ w.need ≤ f then { w with used := w.need, st := 0 }
  else { w with used := f, st := if f = cap then 1 else 3 }

/-- One round of the borrowing pass over a group's codewords: iteration `i`; stops where nothing is spare. -/
def borrowRound (i cap : Nat) : List Codeword → Nat → List Codeword × Nat
  | [], spare => ([], spare)
  | w :: t, spare =>
    if w.st = 3 then
      if spare = 0 then (w :: t, 0)
      else
        let w' : Codeword := { w with used := i, st := if w.need = i then 0 else if i = cap then 1 else 3 }
        let (t', sp) := borrowRound i cap t (spare - 1)
        (w' :: t', sp)
    else
      let (t', sp) := borrowRound i cap t spare
      (w :: t', sp)

/-- The borrowing pass of one group: `n` more rounds from iteration `i` on. -/
def borrowGroup (cap : Nat) : Nat → Nat → List Codeword → Nat → List Codeword × Nat
  | 0, _, ws, spare => (ws, spare)
  | n + 1, i, ws, spare =>
    let (ws', sp) := borrowRound i cap ws spare
    borrowGroup cap n (i + 1) ws' sp

/-- The borrowing pass of R225 over the groups in keep order. -/
def borrowPass (cap : Nat) : List (PoolGroup × List Codeword) → Nat → List (PoolGroup × List Codeword) × Nat
  | [], spare => ([], spare)
  | (p, ws) :: t, spare =>
    let (ws', sp) := borrowGroup cap (cap - p.f) (p.f + 1) ws spare
    let (t', sp') := borrowPass cap t sp
    ((p, ws') :: t', sp')

/-- Cut a list of outcomes back into frames. DESIGN CHOICE: log entry 83. -/
def cutOutcomes : List DecFrame → List Codeword → List DecFrame
  | [], _ => []
  | d :: t, ws =>
    let n := d.map.codewords
    let mine := ws.take n
    { d with out := mine.map (fun w => if w.st = 3 then 1 else w.st),
             its := mine.foldl (fun a w => a + w.used) 0 } :: cutOutcomes t (ws.drop n)

/-- The codewords of a frame that enter the decode tick. -/
def DecFrame.words (d : DecFrame) : List Codeword :=
  (List.range (d.map.codewords)).map (fun i => ⟨d.f.needs.getD i 1, 0, 3⟩)

/-- A frame enters its decode tick (R220, R221, R173): demapped by the map its training selector names. One whose selector names
no held map is delivered as erasures, which carry no frame; its codewords count as those of the receiver's current map.
DESIGN CHOICE: log entries 83 and 107. -/
def State.demap (s : State) (f : RxFrame) : State × DecFrame :=
  match s.mapFor f.r f.g f.sel with
  | some m => (s.rxDemapped f.r f.g m, { f := f, map := m })
  | none => (s.inc (Obj.loadingUnknownFrames f.r), { f := { f with bytes := [] }, map := s.rxMap f.r f.g })

/-- Count a group's shortfall (R226) and put the shortfall margin into force (R165). -/
def State.groupShortfall (s : State) (r g granted : Nat) : State :=
  let s := s.inc (Obj.grpShortfallTicks r g)
  let s := s.shortfallMarginOn r g
  s.raiseLimitedFor 0x8060 (0x2810 + 8 * r + g) 1 granted

/-- POOL_ALLOCATION (R225): the decode tick of the frames received in the ended tick. The outcome of every codeword is
fixed here; the outputs are released at the next boundary (R220). DESIGN CHOICE: log entry 83. -/
def State.poolAllocate (s : State) (frames : List DecFrame) : State :=
  let u := s.rdN Obj.poolCapacity
  let cap := s.rdN Obj.iterCap
  let keys := upto 32 (fun k => frames.any (fun d => 8 * d.f.r + d.f.g == k))
  let mine (k : Nat) : List DecFrame := frames.filter (fun d => 8 * d.f.r + d.f.g == k)
  let demand (k : Nat) : Nat := (mine k).foldl (fun a d => a + d.words.length) 0
  let groups := keys.map (fun k =>
    (⟨k, demand k, min (s.rdN (Obj.groupFloor (k / 8) (k % 8))) cap, 0,
      s.rdN (Obj.rankInForce (k / 8) (k % 8))⟩ : PoolGroup))
  let (ys, need) := poolYield u groups
  let floored := ys.map (fun p =>
    let ws := (mine p.key).flatMap DecFrame.words
    (p, (ws.take p.d).map (Codeword.floorPass p.f cap) ++ (ws.drop p.d).map (fun w => { w with st := 2 })))
  let back := floored.foldl (fun a q => a + q.2.foldl (fun b w => if w.st = 2 then b else b + (q.1.f - w.used)) 0) 0
  let (done, _) := borrowPass cap floored.reverse (u - need + back)
  let denied := done.foldl (fun a q => a + (q.2.filter (fun w => w.st == 3)).length) 0
  let used := done.foldl (fun a q => a + q.2.foldl (fun b w => b + w.used) 0) 0
  let decoded := done.foldl (fun a q => a + (q.2.filter (fun w => w.st != 2)).length) 0
  let failed := done.foldl (fun a q => a + (q.2.filter (fun w => w.st == 1 || w.st == 3)).length) 0
  -- the pool's own objects
  let s := ((s.wrN Obj.poolDemand (keys.foldl (fun a k => a + demand k) 0)).wrN Obj.floorUnits need).wrN Obj.unitsUsed used
  let s := ((s.incBy Obj.borrowDenied denied).incBy Obj.decoded decoded).incBy Obj.failed failed
  -- each group's objects
  let s := s.each (List.range 32) (fun s k =>
    if done.any (fun q => q.1.key == k) then s else
      ((s.wrN (Obj.grpDemand (k / 8) (k % 8)) 0).wrN (Obj.floorGranted (k / 8) (k % 8)) 0).wrN
        (Obj.droppedLast (k / 8) (k % 8)) 0)
  let s := s.each done (fun s q =>
    let r := q.1.key / 8
    let g := q.1.key % 8
    let fails := (q.2.filter (fun w => w.st == 1 || w.st == 3)).length
    let s := ((s.wrN (Obj.grpDemand r g) (demand q.1.key)).wrN (Obj.floorGranted r g) q.1.f).wrN (Obj.droppedLast r g)
      q.1.drop
    let s := s.incBy (Obj.decodedCodewords r g) (q.2.filter (fun w => w.st != 2)).length
    let s := s.incBy (Obj.failedCodewords r g) fails
    let s := s.incBy (Obj.droppedCodewords r g) q.1.drop
    let src := 0x2810 + q.1.key
    let s := s.onlyIf (decide (0 < q.1.drop)) (fun s => s.raiseLimited 0xC061 src q.1.drop)
    let s := s.onlyIf (decide (0 < fails)) (fun s => s.raiseLimited 0x8062 src fails)
    s.onlyIf (decide (q.1.f < min (s.rdN (Obj.groupFloor r g)) cap) || decide (0 < q.1.drop))
      (fun s => s.groupShortfall r g q.1.f))
  let short := done.any (fun q => decide (0 < q.1.drop) ||
    decide (q.1.f < min (s.rdN (Obj.groupFloor (q.1.key / 8) (q.1.key % 8))) cap))
  let s := s.onlyIf short (fun s => s.inc Obj.poolShortfallTicks)
  { s with pool.job := done.flatMap (fun q => cutOutcomes (mine q.1.key) q.2) ++
                        frames.filter (fun d => !done.any (fun q => q.1.key == 8 * d.f.r + d.f.g)) }

/-- The decoded frames' figures enter the last 100 ticks, which run on while a group is disabled (R164, R178, ITER_MEAN), and the outer
decoder's counts. -/
def State.decodeFigures (s : State) (r g : Nat) (ds : List DecFrame) : State :=
  let dec := ds.foldl (fun a d => a + (d.out.filter (· != 2)).length) 0
  let its := ds.foldl (fun a d => a + d.its) 0
  let bad := ds.foldl (fun a d => a + (d.out.filter (· != 0)).length) 0
  let x := s.load r g
  let h := lastHundred (0, 0, 0) (dec, its, bad) x.iters
  let s := s.setLoad r g { x with
    iters := h, bers := lastHundred [] (ds.flatMap (fun d => if d.out.any (· == 0) then d.f.ber else [])) x.bers }
  let cws : Nat := h.foldl (fun a t => a + t.1) 0
  let all : Nat := h.foldl (fun a t => a + t.2.1) 0
  let (m, s) := if cws = 0 then (0, s) else s.roundFree (100 * all) cws
  let s := s.wrN (Obj.iterMean r g) m

  s.each ds (fun s d => (s.incBy (Obj.rsCorrected r g) d.rsCounts.1).incBy (Obj.rsFailed r g) d.rsCounts.2)

end Sys2Proof.Machine
end

