-- ==== Sys2Proof/Machine/Frame.lean ====
section
/-! DEFINITION. Chapter 9: the frame's layout (R233–R235), its header (R236, R237, Table 9.5), the overhead channel
(R238–R241), cells (R242–R247), training detection (R248, R528) and the receive frame states (R249–R251). -/
namespace Sys2Proof.Machine

def State.frx (s : State) (r g : Nat) : FrameRx := tget (fun _ => {}) s.frame.rx (8 * r + g)

def State.setFrx (s : State) (r g : Nat) (x : FrameRx) : State :=
  { s with frame.rx := tset (fun _ => {}) s.frame.rx (8 * r + g) x }

/-- The event source of a group's frame record (R253). -/
def frmSource (r g : Nat) : Nat := 0x2910 + 8 * r + g

/-! ### Layout -/

/-- Frame bytes, Fb (R233). -/
def MapC.frameBytes (m : MapC) : Nat := m.frameBits / 8

/-- Bytes after the header, Rb (R234). -/
def MapC.segmentBytes (m : MapC) : Nat := m.frameBytes - 32

/-- Full segments (R234). -/
def MapC.fullSegments (m : MapC) : Nat := m.segmentBytes / 32784

/-- Payload bytes of the last, shorter segment; 0 where there is none (R234). -/
def MapC.lastPayload (m : MapC) : Nat :=
  let rest := m.segmentBytes - 32784 * m.fullSegments
  if 16 < rest then rest - 16 else 0

/-- Segments of a frame. -/
def MapC.segments (m : MapC) : Nat := m.fullSegments + (if 0 < m.lastPayload then 1 else 0)

/-- Payload bytes of segment i. -/
def MapC.segmentPayload (m : MapC) (i : Nat) : Nat :=
  if i < m.fullSegments then 32768 else if i = m.fullSegments then m.lastPayload else 0

/-- Frame payload bytes, P (R234). -/
def MapC.payload (m : MapC) : Nat := 32768 * m.fullSegments + m.lastPayload

/-- Cell slots, N_c (R234). -/
def MapC.cellSlots (m : MapC) : Nat := (m.payload - 512) / 240

/-- The frame byte of payload byte p (R234). -/
def payloadAt (p : Nat) : Nat := 32 + p + 16 * (p / 32768)

/-- The first payload byte of cell i (R234). -/
def cellAt (i : Nat) : Nat := 512 + 240 * i

/-- The segments that cell i has bytes in (R247). -/
def cellSegments (i : Nat) : List Nat :=
  let a := cellAt i / 32768
  let b := (cellAt i + 239) / 32768
  if a = b then [a] else [a, b]

/-- The segment check with encryption off (R235): the CRC-32 of the payload bytes, then twelve zero bytes. -/
def segmentCheck (bs : List Byte) : List Byte := beBytes 4 (crc32 bs) ++ List.replicate 12 0#8

/-! ### The header -/

/-- The 30 header bytes before HCRC (Table 9.2). -/
def headerBody (group peer tick version coding flags epoch seq slots : Nat) : List Byte :=
  beBytes 4 0x5A3C96E1 ++ [BitVec.ofNat 8 group, 0x01#8] ++ beBytes 2 peer ++ beBytes 4 (tick % 2 ^ 32) ++
    beBytes 2 version ++ [BitVec.ofNat 8 coding, BitVec.ofNat 8 flags] ++ beBytes 3 epoch ++ [0#8] ++ beBytes 2 seq ++
    beBytes 2 slots ++ List.replicate 6 0#8

/-- The header with its HCRC (R236). -/
def withHcrc (body : List Byte) : List Byte := body ++ beBytes 2 (crc16 body)

/-- The CODING byte of a map (Table 9.2). -/
def MapC.coding (m : MapC) : Nat := m.rate + 4 * m.outer

/-- A header's field of n bytes from byte b on. -/
def hdrField (h : List Byte) (b n : Nat) : Nat := beNat ((h.drop b).take n)

/-- The header bytes of a decoded frame (R234). -/
def DecFrame.header (d : DecFrame) : List Byte := d.f.bytes.take 32

/-- Table 9.5 on one frame: 0 accepted, else the check that fails. Frame state that reads uncorrectable fails check 1
(Table 19.4). -/
def State.headerCheck (s : State) (r g : Nat) (d : DecFrame) : Nat :=
  let h := d.header
  let x := s.frx r g
  let st := s.rdN (Obj.rxFrameState r g)
  let ahead (last : Nat) : Bool :=
    let dt := (hdrField h 8 4 + 2 ^ 32 - last) % 2 ^ 32
    decide (1 ≤ dt ∧ dt ≤ 2 ^ 31)
  if d.bytesUnreliable 0 32 || h.length != 32 || s.integ.frameBad.contains (8 * r + g) then 1
  else if hdrField h 0 4 ≠ 0x5A3C96E1 ∨ hdrField h 5 1 ≠ 1 then 2
  else if crc16 (h.take 30) ≠ hdrField h 30 2 then 3
  else if hdrField h 4 1 % 8 ≠ g ∨ hdrField h 6 2 ≠ s.rdN (Obj.peerId r g) then 4
  else if (st = 1 ∨ st = 2) ∧ (x.lastTick.map ahead).getD true = false then 5
  else if d.map.cellSlots ≠ hdrField h 22 2 then 6
  else 0

/-! ### Frame states -/

/-- Discard a group's open client frames (R246). -/
def State.discardOpen (s : State) (r g : Nat) : State :=
  let mine := s.frame.openFrames.filter (fun p => p.2.rg == 8 * r + g)
  let s := s.incBy (Obj.clientFramesDiscarded r g) mine.length
  { s with frame.openFrames := s.frame.openFrames.filter (fun p => p.2.rg != 8 * r + g) }

/-- The group is disabled, or its reach moored or off (Table 9.6): HUNT. -/
def State.frameHunt (s : State) (r g : Nat) : State :=
  ((s.discardOpen r g).setFrx r g {}).wrN (Obj.rxFrameState r g) 0

/-- The tick's frame decision for one group (R248, R250, R251): whether its training was found. -/
def State.frameDecision (s : State) (r g : Nat) (found : Bool) : State :=
  let x := s.frx r g
  let st := s.rdN (Obj.rxFrameState r g)
  if st = 2 then s.setFrx r g { x with noTrain := if found then 0 else x.noTrain + 1, found := found }
  else if st = 1 ∧ found = false then
    (s.setFrx r g { x with noTrain := 0, rejected := 0, found := found }).wrN (Obj.rxFrameState r g) x.before
  else s.setFrx r g { x with noTrain := 0, rejected := 0, found := found }

/-- A frame is rejected by check n of Table 9.5 (R249). -/
def State.frameRejected (s : State) (r g n : Nat) (d : DecFrame) : State :=
  let x := s.frx r g
  let st := s.rdN (Obj.rxFrameState r g)
  let s := if n = 4 then
      (s.inc (Obj.idMismatches r g)).raiseLimitedFor 0x8072 (frmSource r g) 1 (hdrField d.header 6 2)
    else s.inc (Obj.headerRejects r g)
  let s := if 4 ≤ n then s.wrN (Obj.rxPeerId r g) (hdrField d.header 6 2) else s
  if st = 1 then (s.setFrx r g { x with rejected := 0 }).wrN (Obj.rxFrameState r g) x.before
  else if st = 2 then s.setFrx r g { x with rejected := x.rejected + 1 }
  else s

/-- A frame is accepted (R249, R250): counts, states and FRAME_FOUND. -/
def State.frameAccepted (s : State) (r g : Nat) (d : DecFrame) : State :=
  let h := d.header
  let x := s.frx r g
  let st := s.rdN (Obj.rxFrameState r g)
  let tick := hdrField h 8 4
  let seq := hdrField h 20 2
  let s := ((s.wrN (Obj.rxPeerId r g) (hdrField h 6 2)).wrN (Obj.rxPeerTick r g) tick).inc (Obj.framesAccepted r g)
  let s := if st = 2 then s.incBy (Obj.framesMissed r g) ((seq + 2 * 65536 - x.lastSeq - 1) % 65536) else s
  let x := { x with rejected := 0, lastTick := some tick, lastSeq := seq,
                    before := if st = 0 ∨ st = 3 then st else x.before,
                    noTrain := if st = 2 then x.noTrain else 0 }
  let s := s.setFrx r g x
  if st = 2 then s
  else if st = 1 then (s.wrN (Obj.rxFrameState r g) 2).raise 0x4070 (frmSource r g) tick
  else s.wrN (Obj.rxFrameState r g) 1

/-- The cause for which a group in FRAME is due to enter LOST (R250): 0 no training, 1 headers rejected. -/
def State.lostCause (s : State) (r g : Nat) : Option Nat :=
  let x := s.frx r g
  if s.rdN (Obj.rxFrameState r g) ≠ 2 then none
  else if s.rdN Obj.lofTicks ≤ x.noTrain then some 0
  else if s.rdN Obj.headerLofFrames ≤ x.rejected then some 1
  else none

/-- A group enters LOST (Table 9.6): open client frames are discarded, FRAME_LOST is raised and the group restarts at the
next boundary (R175). Its sub-carriers train anew, their taps kept (R194, R527). -/
def State.frameLost (s : State) (r g cause : Nat) : State :=
  let s := s.discardOpen r g
  let s := s.setFrx r g { (s.frx r g) with noTrain := 0, rejected := 0 }
  let s := s.setLoad r g { (s.load r g) with curTicks := 0 }
  let s := s.eqRetrain r (upto 64 (s.groupCovers r g)) true
  let s := (s.wrN (Obj.rxFrameState r g) 3).inc (Obj.lofEvents r g)
  (s.raise 0xC071 (frmSource r g) cause).askRestart r g 0

/-! ### Segments -/

/-- The payload bytes of segment i of a decoded frame, as they came (R234). -/
def DecFrame.segment (d : DecFrame) (m : MapC) (i : Nat) : List Byte :=
  (d.f.bytes.drop (32 + 32784 * i)).take (m.segmentPayload i)

/-- Its 16 check bytes (R234, R235). -/
def DecFrame.segCheck (d : DecFrame) (m : MapC) (i : Nat) : List Byte :=
  (d.f.bytes.drop (32 + 32784 * i + m.segmentPayload i)).take 16

/-- A byte or check byte of segment i is marked unreliable (R216, R219). -/
def DecFrame.unsure (d : DecFrame) (m : MapC) (i : Nat) : Bool :=
  d.bytesUnreliable (32 + 32784 * i) (32 + 32784 * i + m.segmentPayload i + 16)

/-- Segment i of a frame in clear fails (R235): its check does not verify, or one of its bytes or check bytes is unreliable. -/
def DecFrame.segmentFails (d : DecFrame) (m : MapC) (i : Nat) : Bool :=
  d.unsure m i || segmentCheck (d.segment m i) != d.segCheck m i

/-- The failed segments of a frame in clear, and its payload. -/
def DecFrame.clearPayload (d : DecFrame) (m : MapC) : List Nat × List Byte :=
  (upto m.segments (d.segmentFails m), (List.range m.segments).flatMap (d.segment m))

/-- Count failed segments (R235). -/
def State.countSegments (s : State) (r g : Nat) (failed : List Nat) : State :=
  if failed.isEmpty then s
  else (s.incBy (Obj.segmentFailures r g) failed.length).raiseLimited 0x8073 (frmSource r g) failed.length

/-! ### The overhead channel -/

/-- A message's bytes (R238). -/
def ohMessage (m : Nat × List Byte) : List Byte := BitVec.ofNat 8 m.1 :: BitVec.ofNat 8 m.2.length :: m.2

/-- The overhead channel's 512 bytes from its messages (R238). -/
def ohBuild (ms : List (Nat × List Byte)) : List Byte :=
  let body := ms.flatMap ohMessage
  0x01#8 :: BitVec.ofNat 8 ms.length :: (beBytes 2 body.length ++ body ++ List.replicate (508 - body.length) 0#8)

/-- A TYPE of Table 9.3. -/
def ohKnown (t : Nat) : Bool := [0x01, 0x02, 0x03, 0x10, 0x11, 0x20, 0x30, 0x40].contains t

/-- A LENGTH agrees with its TYPE (Table 9.3). -/
def ohLengthOk (t : Nat) (v : List Byte) : Bool :=
  let n := v.length
  if t = 0x01 then n == 10 + (v.getD 5 0#8).toNat && decide (6 ≤ n)
  else if t = 0x02 then n == 4
  else if t = 0x03 then n == 3 + (v.getD 2 0#8).toNat && decide (3 ≤ n)
  else if t = 0x10 then n == 24
  else if t = 0x11 then n == 4
  else if t = 0x20 then n == 24
  else if t = 0x30 then n % 10 == 0 && decide (10 ≤ n ∧ n ≤ 250)
  else if t = 0x40 then decide (1 ≤ n ∧ n ≤ 250)
  else true

/-- Parse message bytes (R241): the messages to act on, in order, and the number of parse errors. `seen` holds the types
already taken. DEDUCED: log entry 23. -/
def ohParse : Nat → List Nat → List Byte → List (Nat × List Byte) × Nat
  | 0, _, _ => ([], 0)
  | _, _, [] => ([], 0)
  | n + 1, seen, t :: rest =>
    if t = 0#8 then ([], 0)
    else match rest with
      | [] => ([], 1)
      | len :: rest =>
        if rest.length < len.toNat then ([], 1)
        else
          let v := rest.take len.toNat
          let ty := t.toNat
          let (ms, e) := ohParse n (ty :: seen) (rest.drop len.toNat)
          if !ohKnown ty || !ohLengthOk ty v || (ty != 0x30 && seen.contains ty) then (ms, e + 1)
          else ((ty, v) :: ms, e)

/-- Parse an overhead channel (R241): USED message bytes from byte 4 on, at most 508. -/
def ohMessages (oh : List Byte) : List (Nat × List Byte) × Nat :=
  ohParse 512 [] ((oh.drop 4).take (min 508 (hdrField oh 2 2)))

/-- Count parse errors (R241). DEDUCED: log entry 23. -/
def State.countOhErrors (s : State) (r g n : Nat) : State :=
  if n = 0 then s else (s.incBy (Obj.ohParseErrors r g) n).raiseLimited 0x8074 (frmSource r g) n

/-- The value of LOADING_ANNOUNCE (Table 9.3): map content, then EFFECTIVE_TICK. -/
def announceValue (a : Announce) : List Byte := a.map.bytes ++ beBytes 4 (a.at_ % 2 ^ 32)

/-- The map content that a LOADING_ANNOUNCE carries (Table 6.2). -/
def announceMap (v : List Byte) : MapC :=
  ⟨hdrField v 0 2, hdrField v 2 1, hdrField v 3 1, hdrField v 4 1, hdrField v 5 1,
    ((v.drop 6).take (hdrField v 5 1)).map (·.toNat)⟩

/-- The value of LOADING_REPORT (Tables 6.3 and 9.3). -/
def reportValue (p : LoadReport) : List Byte :=
  ([(if p.restart then 1 else 0) + (if p.fromHistory then 2 else 0), p.first, p.count] ++ p.q).map (BitVec.ofNat 8)

/-- A received LOADING_REPORT. -/
def reportOf (v : List Byte) : LoadReport :=
  ⟨bitOf (hdrField v 0 1) 0, bitOf (hdrField v 0 1) 1, hdrField v 1 1, hdrField v 2 1, (v.drop 3).map (·.toNat)⟩

/-- The loading messages of one frame act (R166, R171, R172). -/
def State.loadingMessage (s : State) (r g : Nat) (m : Nat × List Byte) : State :=
  if m.1 = 0x01 then s.rxAnnounce r g (announceMap m.2)
  else if m.1 = 0x02 then s.loadingAck r g (hdrField m.2 0 2) (hdrField m.2 2 2)
  else if m.1 = 0x03 then s.rxReport r g (reportOf m.2)
  else s

/-! ### Cells -/

/-- The header word of a cell (Table 9.4). -/
def Cell.word (c : Cell) (len : Nat) : Nat :=
  c.flow * 2 ^ 20 + c.kind * 2 ^ 16 + len * 2 ^ 8 + (if c.sof then 128 else 0) + (if c.eof then 64 else 0) +
    (if c.bad then 32 else 0) + (if c.retx then 16 else 0)

/-- A cell's 240 bytes (R242, R243). -/
def Cell.bytes (c : Cell) : List Byte :=
  let trailer := if c.kind = 3 then beBytes 6 c.seq ++ beBytes 2 c.epoch else []
  let payload := trailer ++ c.body
  beBytes 4 (c.word c.body.length) ++ payload ++ List.replicate (236 - payload.length) 0#8

/-- A cell's LENGTH lies in its kind's range (Table 9.4). -/
def cellLengthOk (kind len : Nat) : Bool :=
  if kind = 0 then len == 0 else if kind = 3 then decide (1 ≤ len ∧ len ≤ 228) else decide (1 ≤ len ∧ len ≤ 236)

/-- Read a cell's bytes (R243): none where the receiver discards it. -/
def parseCell (bs : List Byte) : Option Cell :=
  let h := hdrField bs 0 4
  let kind := bitsOf h 19 16
  let len := bitsOf h 15 8
  let c : Cell := ⟨bitsOf h 31 20, kind, bitOf h 7, bitOf h 6, bitOf h 5, bitOf h 4,
    if kind = 3 then hdrField bs 4 6 else 0, if kind = 3 then hdrField bs 10 2 else 0,
    (bs.drop (if kind = 3 then 12 else 4)).take len⟩
  if kind ≤ 4 && cellLengthOk kind len && h % 16 == 0 && (kind == 3 || !c.retx) then some c else none

/-- The cells that the fabric cuts a client frame into (R245): `size` client bytes each but the last. -/
def cutCells (flow kind size : Nat) (first bad : Bool) : Nat → List Byte → List Cell
  | 0, _ => []
  | n + 1, bs =>
    if bs.length ≤ size then [{ flow := flow, kind := kind, sof := first, eof := true, bad := bad, body := bs }]
    else { flow := flow, kind := kind, sof := first, body := bs.take size } :: cutCells flow kind size false bad n (bs.drop size)

/-- Cells of a client frame of a flow and kind: 236 client bytes each, 228 for a durable cell (R245). -/
def clientCells (flow kind : Nat) (bad : Bool) (bs : List Byte) : List Cell :=
  cutCells flow kind (if kind = 3 then 228 else 236) true bad (bs.length + 1) bs

/-- A cell of a flow's in-order stream enters reassembly (R246): the state, and the client frame it completes. -/
def State.reassemble (s : State) (rg : Nat) (c : Cell) : State × Option (List Byte) :=
  let r := rg / 8
  let g := rg % 8
  let old := s.frame.openFrames.find? (fun p => p.1 == c.flow)
  let s := if c.sof && old.isSome then s.inc (Obj.clientFramesDiscarded r g) else s
  let cur : Option OpenFrame :=
    if c.sof then some ⟨rg, c.body, c.bad⟩
    else old.map (fun p => ⟨rg, p.2.bytes ++ c.body, p.2.bad || c.bad⟩)
  match cur with
  | none => (s, none)
  | some o =>
    if c.eof then
      let s := { s with frame.openFrames := tdel c.flow s.frame.openFrames }
      if !o.bad && decide (64 ≤ o.bytes.length) && fcsOk o.bytes then (s, some o.bytes)
      else (s.inc (Obj.clientFramesDiscarded r g), none)
    else ({ s with frame.openFrames := tput c.flow o (tdel c.flow s.frame.openFrames) }, none)

/-- The cells of a frame payload that lie in no failed segment and parse (R243, R247), in slot order; and the number of damaged
cells. -/
def cellsOf (m : MapC) (failed : List Nat) (payload : List Byte) : List Cell × Nat :=
  let all := (runs m.cellSlots 240 (payload.drop 512)).zipIdx
  let ok := all.filter (fun p => !(cellSegments p.2).any failed.contains)
  let read := ok.map (fun p => parseCell p.1)
  (read.filterMap id, (all.length - ok.length) + (read.filter Option.isNone).length)

/-- LOADING_MISMATCH (R174): the header's version or rate is not that of the map that demapped the frame. -/
def DecFrame.mapMismatch (d : DecFrame) (m : MapC) : Bool :=
  hdrField d.header 12 2 != m.version || hdrField d.header 14 1 % 4 != m.rate

/-- Count a loading mismatch (R174). -/
def State.countMapMismatch (s : State) (r : Nat) : State :=
  (s.inc (Obj.loadingMismatches r)).raiseLimited 0x8043 (0x2160 + 0x200 * r) 1

/-! ### Training -/

/-- Training of a group in a tick (R248): the selector found on at least half of its sub-carriers, none where none is.
`found` lists sub-carriers and the selector each correlates with. -/
def State.groupTraining (s : State) (r g : Nat) (found : List (Nat × Nat)) : Option Nat :=
  let need := ceilNat (s.rdN (Obj.subcarrierCount r g)) 2
  (List.range 3).find? (fun sel =>
    decide (need ≤ (found.filter (fun p => p.2 == sel && s.groupCovers r g p.1)).length) && decide (0 < need))

end Sys2Proof.Machine
end

