-- ==== Sys2Proof/Machine/Berths.lean ====
section
/-! DEFINITION. Chapter 10: ports and their lanes (R254, R257), buffers (R259), classification (R260), priority flow
control (R262–R266), timestamps, trap and injection (R267–R269) and SyncE squelch (R270). -/
namespace Sys2Proof.Machine

def State.port (s : State) (b : Nat) : Port := tget (fun _ => {}) s.berth.ports b

def State.setPort (s : State) (b : Nat) (p : Port) : State :=
  { s with berth.ports := tset (fun _ => {}) s.berth.ports b p }

/-- Powered time in ps at a phase of the tick in progress. -/
def State.at (s : State) (phase : Nat) : Nat := s.core.tick * 10000000 + phase

/-! ### Layout -/

/-- The lane code of lane i of a GROUP_LAYOUT value (R254). -/
def laneCode (v i : Nat) : Nat := bitsOf v (4 * i + 3) (4 * i)

/-- A GROUP_LAYOUT value whose ports lie at multiples of their width, within the group, over lanes of code 0 (R254). -/
def layoutValid (v : Nat) : Bool :=
  (List.range 8).all (fun i =>
    let c := laneCode v i
    c == 0 || (let w := 2 ^ (c - 1)
      i % w == 0 && decide (i + w ≤ 8) && (List.range w).all (fun j => j == 0 || laneCode v (i + j) == 0)))

/-- Some lane holds a reserved lane code (R254, R524). -/
def layoutReserved (v : Nat) : Bool := (List.range 8).any (fun i => decide (4 < laneCode v i))

/-- Lanes of the port whose first berth is b, under a layout of b's group; 0 where b is no first berth. -/
def portWidthIn (v b : Nat) : Nat := let c := laneCode v (b % 8); if c = 0 ∨ 4 < c then 0 else 2 ^ (c - 1)

/-- Lanes of the port whose first berth is b; 0 where b is no first berth (R254). -/
def State.portWidth (s : State) (b : Nat) : Nat := portWidthIn (s.rdN (Obj.groupLayout (b / 8))) b

/-- b is the first berth of a port. -/
def State.isPort (s : State) (b : Nat) : Bool := decide (0 < s.portWidth b)

/-- The first berth of the port that covers lane b, none where it is unused. -/
def State.portOf (s : State) (b : Nat) : Option Nat :=
  (upto 64 (fun p => decide (p / 8 = b / 8 ∧ p ≤ b ∧ b < p + s.portWidth p))).head?

/-- The lanes of a port. -/
def State.portLanes (s : State) (b : Nat) : List Nat := (List.range (s.portWidth b)).map (b + ·)

/-- A port is UP. -/
def State.portUp (s : State) (b : Nat) : Bool := s.rdN (Obj.berthPortState b) == 2

/-- Event source of a berth (R272). -/
def berthSource (b : Nat) : Nat := 0x3000 + 16 * b

/-! ### SyncE -/

/-- The condition under which a berth's recovered clock is squelched (R270). -/
def State.squelchCond (s : State) (b : Nat) : Bool :=
  s.rdN (Obj.berthLaneState b) != 2 ||
    (match s.portOf b with
     | some p => !s.portUp p || (s.port p).localFault
     | none => true)

/-- Bring SYNCE_SQUELCHED of a berth to its condition; a new squelch of a berth that feeds a timing input raises
SYNCE_SQUELCH (R270). -/
def State.squelch (s : State) (b : Nat) : State :=
  let now := s.squelchCond b
  let was := s.rdB (Obj.synceSquelched b)
  let s := s.wrN (Obj.synceSquelched b) (if now then 1 else 0)
  let n := s.rdN (Obj.synceInput b)
  if now && !was && decide (0 < n) then s.raise 0x8084 (berthSource b) (n - 1) else s

/-- Squelch of every lane of a port. -/
def State.squelchPort (s : State) (b : Nat) : State := s.each (s.portLanes b) (fun s l => s.squelch l)

/-! ### Port states (Table 10.1) -/

/-- The lanes of a group's ports adapt (Table 4.5: a group is released once a SerDes of it has trained).
DEDUCED: log entry 43. -/
def State.berthTrain (s : State) (k : Nat) : State :=
  s.each ((List.range 8).map (8 * k + ·)) (fun s b =>
    if (s.portOf b).isSome && s.rdN (Obj.berthLaneState b) == 0 then s.wrN (Obj.berthLaneState b) 1 else s)

/-- GROUP_LAYOUT takes effect (R254): the SerDes of a lane that no port covers is off. -/
def State.berthLayout (s : State) (k : Nat) : State :=
  s.each (((List.range 8).map (8 * k + ·)).filter (fun b => (s.portOf b).isNone)) (fun s b =>
    (s.wrN (Obj.berthLaneState b) 0).squelch b)

/-- A SerDes of the group has trained (Table 4.5). -/
def State.berthTrained (s : State) (k : Nat) : Bool :=
  ((List.range 8).map (8 * k + ·)).any (fun b => s.rdN (Obj.berthLaneState b) == 2)

/-- A berth group is moored or off: lanes off, ports DOWN (Table 10.1). -/
def State.berthMoor (s : State) (k : Nat) : State :=
  let lanes := (List.range 8).map (8 * k + ·)
  let s := s.each lanes (fun s b => (s.wrN (Obj.berthLaneState b) 0).wrN (Obj.berthPortState b) 0)
  s.each lanes (fun s b => s.squelch b)

/-- Every lane of a port is LOCKED: DOWN becomes ALIGNING (Table 10.1). -/
def State.tryAlign (s : State) (b : Nat) : State :=
  if s.rdN (Obj.berthPortState b) = 0 ∧ s.isPort b ∧ s.released (domBerth (b / 8)) ∧ (s.portLanes b).all (fun l => s.rdN (Obj.berthLaneState l) == 2) then
    (s.wrN (Obj.berthPortState b) 1).setPort b { (s.port b) with alignAt := s.core.tick }
  else s

/-- Ports of a group whose lanes are all LOCKED search for alignment (R257): at the release, and at each boundary after an
alignment is lost with every lane still LOCKED. DEDUCED: log entry 111. -/
def State.alignStep (s : State) (k : Nat) : State := s.each ((List.range 8).map (8 * k + ·)) (fun s b => s.tryAlign b)

/-- A berth group is released into traffic (R257). -/
def State.berthRelease (s : State) (k : Nat) : State := (s.berthTrain k).alignStep k

/-- LANE_LOCKED (R257). -/
def execLaneLocked (b : Fin 64) (s : State) : Host.Outcome State Fault Refusal :=
  if s.rdN (Obj.berthLaneState b) = 0 then .next s
  else
    let s := (s.wrN (Obj.berthLaneState b) 2).squelch b
    match s.portOf b with
    | some p => .next (s.tryAlign p)
    | none => .next s

/-- PORT_UP (R257). -/
def execPortUp (b : Fin 64) (s : State) : Host.Outcome State Fault Refusal :=
  if s.rdN (Obj.berthPortState b) = 1 ∧ s.isPort b then
    let s := (s.wrN (Obj.berthPortState b) 2).setPort b { (s.port b) with remoteTx := false }
    let s := s.raise 0x4080 (berthSource b) (s.portWidth b)
    .next (s.squelchPort b)
  else .next s

/-- ALIGNING_TIMEOUT (R257): 100 ms without lock, and the lanes re-adapt. -/
def execAligningTimeout (b : Fin 64) (s : State) : Host.Outcome State Fault Refusal :=
  if s.rdN (Obj.berthPortState b) = 1 ∧ (s.port b).alignAt + 10000 ≤ s.core.tick then
    let s := s.each (s.portLanes b) (fun s l => s.wrN (Obj.berthLaneState l) 1)
    let s := s.wrN (Obj.berthPortState b) 0
    .next ((s.raise 0xC081 (berthSource b) 2).squelchPort b)
  else .next s

/-- REMOTE_FAULT_RX (R257): UP and REMOTE_FAULT. -/
def execRemoteFaultRx (b : Fin 64) (on : Bool) (s : State) : Host.Outcome State Fault Refusal :=
  let st := s.rdN (Obj.berthPortState b)
  if st = 2 ∧ on = true then .next ((s.wrN (Obj.berthPortState b) 3).squelchPort b)
  else if st = 3 ∧ on = false then .next ((s.wrN (Obj.berthPortState b) 2).squelchPort b)
  else .next s

/-- PORT_DOWN (R257): a lane lost lock, or alignment is lost; remote fault is transmitted. -/
def execPortDown (b : Fin 64) (lane : Option (Fin 64)) (s : State) : Host.Outcome State Fault Refusal :=
  let mine : Bool := match lane with
    | some l => (s.portLanes b).contains l.val && s.rdN (Obj.berthLaneState l) == 2
    | none => s.isPort b
  if mine then
    let st := s.rdN (Obj.berthPortState b)
    let s := match lane with
      | some l => s.wrN (Obj.berthLaneState l) 1
      | none => s
    if st = 2 ∨ st = 3 then
      let s := (s.wrN (Obj.berthPortState b) 0).setPort b { (s.port b) with remoteTx := true }
      let s := s.raise 0xC081 (berthSource b) (if lane.isSome then 0 else 1)
      .next (s.squelchPort b)
    else .next (s.squelchPort b)
  else .next s

/-- LOCAL_FAULT_RX (R270). -/
def execLocalFaultRx (b : Fin 64) (on : Bool) (s : State) : Host.Outcome State Fault Refusal :=
  if s.isPort b then .next ((s.setPort b { (s.port b) with localFault := on }).squelchPort b) else .next s

/-! ### Tags and priorities -/

/-- The tag control information of a frame's outer tag (R260): the first of up to two tags whose TPID is OUTER_TPID. -/
def outerTag (tpid : Nat) (f : List Byte) : Option Nat :=
  let t0 := hdrField f 12 2
  if t0 = tpid then some (hdrField f 14 2)
  else if (t0 = 0x8100 ∨ t0 = 0x88A8) ∧ hdrField f 16 2 = tpid then some (hdrField f 18 2)
  else none

/-- A port's OUTER_TPID. -/
def State.tpid (s : State) (b : Nat) : Nat := if s.rdN (Obj.outerTpid b) = 0 then 0x8100 else 0x88A8

/-- The priority of a frame at a port (R259). -/
def State.priorityOf (s : State) (b : Nat) (f : List Byte) : Nat :=
  match outerTag (s.tpid b) f with
  | some tci => tci / 8192
  | none => s.rdN (Obj.defaultPcp b)

/-- The VID a frame is matched with (R260). -/
def State.vidOf (s : State) (b : Nat) (f : List Byte) : Nat :=
  match outerTag (s.tpid b) f with
  | some tci => if tci % 4096 = 0 then 0xFFF else tci % 4096
  | none => 0xFFF

/-- The flow a frame's VID and priority select (R260): 0xFFFF none. -/
def State.classify (s : State) (b : Nat) (f : List Byte) : Nat :=
  let vid := s.vidOf b f
  let p := s.priorityOf b f
  match (List.range 64).find? (fun n =>
      let v := s.rdN (Obj.classRule b n)
      bitsOf v 31 20 == vid && bitOf (bitsOf v 19 12) p) with
  | some n => bitsOf (s.rdN (Obj.classRule b n)) 11 0
  | none => s.rdN (Obj.defaultFlow b)

/-! ### Flow entries (Table 11.1) -/

/-- The FLOW_ENTRY key of a flow (R273). -/
def flowKey (f : Nat) : Nat := Obj.flowEntry (f / 128) (f % 128)

/-- FLOW_ENTRY of a flow. -/
def State.entry (s : State) (f : Nat) : Nat := s.rdN (flowKey f)

/-- A FLOW_ENTRY value's ENABLE. -/
def entryOn (v : Nat) : Bool := bitOf v 31
/-- A FLOW_ENTRY value's KIND: 0 PROMPT, 1 STANDARD, 2 DURABLE. -/
def entryKind (v : Nat) : Nat := bitsOf v 30 29
/-- A FLOW_ENTRY value's REACH. -/
def entryReach (v : Nat) : Nat := bitsOf v 21 20
/-- A FLOW_ENTRY value's GROUP. -/
def entryGroup (v : Nat) : Nat := bitsOf v 18 16
/-- A FLOW_ENTRY value's BERTH. -/
def entryBerth (v : Nat) : Nat := bitsOf v 5 0

/-- Keys of FLOW_ENTRY objects that hold a value: the flows that can be enabled. -/
def flowOfKey (k : Nat) : Option Nat :=
  if 0x342001 ≤ k ∧ k < 0x344000 ∧ 1 ≤ k % 256 ∧ k % 256 ≤ 128 then
    some (128 * (k / 256 - 0x3420) + k % 256 - 1)
  else none

/-- The enabled flows, ascending: an unlisted FLOW_ENTRY is 0, disabled. -/
def State.flowsOn (s : State) : List Nat :=
  s.regs.filterMap (fun p => match flowOfKey p.1 with
    | some f => if entryOn p.2.toNat then some f else none
    | none => none)

/-- The enabled durable flows. -/
def State.durableFlows (s : State) : List Nat := s.flowsOn.filter (fun f => entryKind (s.entry f) == 2)

/-! ### Which group carries a flow -/

def State.unit (s : State) (u : Nat) : UnitSt := tget (fun _ => {}) s.rest.units u

def State.setUnit (s : State) (u : Nat) (x : UnitSt) : State :=
  { s with rest.units := tset (fun _ => {}) s.rest.units u x }

/-- The REACH or MATED unit whose working reach a reach is. -/
def State.unitOfWorking (s : State) (r : Nat) : Option Nat :=
  (List.range 4).find? (fun u => decide (2 ≤ s.rdN (Obj.unitMode u)) && s.rdN (Obj.workingReach u) == r)

/-- The reach that carries a flow (R273, R309, R316): its entry's, or the protect reach of a REACH unit whose traffic of
that kind is on the protect side. -/
def State.flowReach (s : State) (f : Nat) : Nat :=
  let e := s.entry f
  let r := entryReach e
  match s.unitOfWorking r with
  | some u =>
    if s.rdN (Obj.unitMode u) = 2 then
      let side := if entryKind e = 2 then s.rdN (Obj.durableSide u) else (s.unit u).side
      if side = 1 then s.protectOf u else r
    else r
  | none => r

/-- The group that carries a flow, as 8·r + g. -/
def State.flowGroup (s : State) (f : Nat) : Nat := 8 * s.flowReach f + entryGroup (s.entry f)

/-! ### Priority flow control -/

/-- A quantum in ps at a port's MAC rate (R262). -/
def State.quantum (s : State) (b : Nat) : Nat := 2560 / max 1 (s.portWidth b)

/-- The priorities of a port that the rules, or DEFAULT_FLOW, give to flows of a set (R264). -/
def State.flowPriorities (s : State) (b : Nat) (flows : List Nat) : Nat :=
  maskOf 8 (fun p =>
    flows.contains (s.rdN (Obj.defaultFlow b)) ||
      (List.range 64).any (fun n =>
        let v := s.rdN (Obj.classRule b n)
        bitOf (bitsOf v 19 12) p && flows.contains (bitsOf v 11 0)))

/-- The priorities that each pause source of Table 10.2 demands on a port. -/
def State.demands (s : State) (b : Nat) : List Nat :=
  let durable := s.flowPriorities b s.durableFlows
  let pausedGroups := s.rdN Obj.cipherPausedGroups
  [if s.basin.high || s.basin.queueFull then durable else 0,
   if s.rdN Obj.durableBeforeFill = 1 ∧ s.start.fillDone = false then durable else 0,
   s.flowPriorities b (s.flowsOn.filter (fun f => bitOf pausedGroups (s.flowGroup f))),
   if s.rdN Obj.shutdownState = 1 then durable else 0,
   if (s.port b).ingressFull then 0xFF else 0]

/-- The priorities of a port that some source demands. -/
def State.demanded (s : State) (b : Nat) : Nat :=
  maskOf 8 (fun p => (s.demands b).any (fun d => bitOf d p))

/-- Send a PFC frame (R265): PFC_QUANTA for each paused priority, time 0 for each one just released.
DEDUCED: log entry 24. -/
def State.sendPfc (s : State) (b phase : Nat) (released : List Nat) : State :=
  let paused := upto 8 (bitOf (s.rdN (Obj.pausedTx b)))
  let x := s.port b
  let s := s.setPort b { x with pfcAt := s.at phase,
                                pfcSent := paused.map (fun p => (p, s.rdN (Obj.pfcQuanta b))) ++ released.map (·, 0) }
  s.inc (Obj.pfcSent b)

/-- PAUSE_SOURCES and PAUSED_TX follow the sources and PFC_TX_ENABLE (R264, R265), and a change of PAUSED_TX sends a PFC frame; the
frame that newly pauses a priority starts its grace (R266). -/
def State.pauseFollow (s : State) (b phase : Nat) : State :=
  let ds := s.demands b
  let paused := maskOf 8 (fun p => bitOf (s.demanded b) p && bitOf (s.rdN (Obj.pfcTxEnable b)) p)
  let was := s.rdN (Obj.pausedTx b)
  let s := s.wrN (Obj.pauseSources b) (maskOf 5 (fun i => ds.getD i 0 != 0))
  if paused = was then s
  else
    let s := s.wrN (Obj.pausedTx b) paused
    let released := upto 8 (fun p => bitOf was p && !bitOf paused p)
    let fresh := upto 8 (fun p => bitOf paused p && !bitOf was p)
    let x := s.port b
    let kept := x.pausedAt.filter (fun q => bitOf paused q.1 && bitOf was q.1)
    let s := s.setPort b { x with pausedAt := kept ++ fresh.map (·, s.at phase) }
    s.sendPfc b phase released

/-- PAUSE_SOURCE_CHANGE (R264–R266): a source of a port's pauses comes or goes. -/
def execPauseSourceChange (b : Fin 64) (phase : Nat) (s : State) : Host.Outcome State Fault Refusal :=
  if s.isPort b then .next (s.pauseFollow b phase) else .next s

/-- PFC_REFRESH (R265): every PFC_QUANTA / 2 quanta while a priority stays paused. -/
def execPfcRefresh (b : Fin 64) (phase : Nat) (s : State) : Host.Outcome State Fault Refusal :=
  if s.rdN (Obj.pausedTx b) ≠ 0 ∧
      2 * (s.port b).pfcAt + s.rdN (Obj.pfcQuanta b) * s.quantum b ≤ 2 * s.at phase then
    .next (s.sendPfc b phase [])
  else .next s

/-- PFC_FRAME_RX (R263): a new frame replaces the remaining time of each enabled priority in its vector; 0 releases. -/
def execPfcFrameRx (b : Fin 64) (vec : Nat) (times : List Nat) (phase : Nat) (s : State) :
    Host.Outcome State Fault Refusal :=
  if s.isPort b ∧ (s.rdN (Obj.berthPortState b) = 2 ∨ s.rdN (Obj.berthPortState b) = 3) then
    let s := s.inc (Obj.pfcReceived b)
    let ps := upto 8 (fun p => bitOf vec p && bitOf (s.rdN (Obj.pfcRxEnable b)) p)
    let x := s.port b
    let q := s.quantum b
    let now := s.at phase
    let fresh := ps.filterMap (fun p => let t := times.getD p 0 % 65536; if t = 0 then none else some (p, now + t * q))
    let s := s.setPort b { x with rxUntil := x.rxUntil.filter (fun e => !ps.contains e.1) ++ fresh }
    .next (s.wrN (Obj.pausedRx b) (maskOf 8 (fun p =>
      if ps.contains p then decide (times.getD p 0 % 65536 ≠ 0) else bitOf (s.rdN (Obj.pausedRx b)) p)))
  else .next s

/-- PFC_RX_PAUSE_EXPIRY (R263): the time given runs out. -/
def execPfcRxPauseExpiry (b : Fin 64) (p : Fin 8) (phase : Nat) (s : State) : Host.Outcome State Fault Refusal :=
  let x := s.port b
  match x.rxUntil.find? (fun e => e.1 == p.val) with
  | some e =>
    if e.2 ≤ s.at phase then
      let s := s.setPort b { x with rxUntil := x.rxUntil.filter (fun e => e.1 != p.val) }
      .next (s.wrN (Obj.pausedRx b) (setBit (s.rdN (Obj.pausedRx b)) p false))
    else .next s
  | none => .next s

/-- A frame of priority p whose first byte arrives at a phase ignores the device's pause (R265, R266): later than
PFC_GRACE after the PFC frame that paused it; a demand on a priority whose PFC_TX_ENABLE bit is clear counts as a pause
that is not honoured. -/
def State.ignoresPause (s : State) (b p phase : Nat) : Bool :=
  if bitOf (s.rdN (Obj.pausedTx b)) p then
    match (s.port b).pausedAt.find? (fun e => e.1 == p) with
    | some e => decide (e.2 + 1000 * s.rdN (Obj.pfcGrace b) < s.at phase)
    | none => false
  else bitOf (s.demanded b) p && !bitOf (s.rdN (Obj.pfcTxEnable b)) p

/-- A port of a group that has been off starts afresh (R485): nothing is queued, and neither side pauses the other. -/
def State.portFresh (s : State) (b : Nat) : State :=
  ((s.setPort b {}).wrN (Obj.pausedRx b) 0).wrN (Obj.pausedTx b) 0

/-! ### Buffers -/

/-- Bytes of a port's ingress or egress buffer (R259). -/
def State.bufferBytes (s : State) (b : Nat) : Nat := 262144 * s.portWidth b

/-- The ingress buffer takes and gives bytes, and pause source 4 follows its fill (R259, Table 10.2). -/
def State.ingressTo (s : State) (b n : Nat) : State :=
  let x := s.port b
  let cap := s.bufferBytes b
  let full := if 3 * cap ≤ 4 * n then true else if 2 * n < cap then false else x.ingressFull
  s.setPort b { x with ingress := n, ingressFull := full }

/-- Bytes the egress buffer holds, in all or of one priority. -/
def Port.egressBytes (x : Port) (sel : Nat → Bool) : Nat :=
  x.egress.foldl (fun a e => if sel e.1 then a + e.2.length else a) 0

/-- The egress buffer would admit a frame of a priority (R259). -/
def State.egressAdmits (s : State) (b p : Nat) : Bool :=
  let x := s.port b
  let cap := s.bufferBytes b
  let stuck := bitOf (s.rdN (Obj.pausedRx b)) p && decide (cap < 2 * x.egressBytes (· == p))
  !stuck && decide (x.egressBytes (fun _ => true) + s.rdN (Obj.maxFrame b) ≤ cap)

/-- A valid client frame enters its port's egress queue (R246, R259). -/
def State.egressPut (s : State) (b : Nat) (f : List Byte) : State :=
  let x := s.port b
  s.setPort b { x with egress := x.egress ++ [(s.priorityOf b f, f)] }

/-- EGRESS_FRAME_TX (R259): the next frame of a priority leaves while the port is UP and its client has not paused the
priority (R263). -/
def execEgressFrameTx (b : Fin 64) (p : Fin 8) (s : State) : Host.Outcome State Fault Refusal :=
  let x := s.port b
  if s.portUp b ∧ bitOf (s.rdN (Obj.pausedRx b)) p = false ∧ x.inject.isEmpty then
    match x.egress.find? (fun e => e.1 == p.val) with
    | some e =>
      .next ((s.setPort b { x with egress := x.egress.erase e, sent := e.2 }).inc (Obj.framesTx b))
    | none => .next s
  else .next s

/-! ### Timestamps and trap -/

/-- A timestamp (R267): the tick count and phase, adjusted and rounded down to a multiple of 250 ps. -/
def State.stamp (s : State) (phase : Nat) (adjust : Int) : Nat × Nat :=
  let t := (Int.ofNat (s.at phase) + adjust).toNat
  (t / 10000000, t % 10000000 / 250 * 250)

/-- The offset of a frame's EtherType behind up to two VLAN tags (R268). -/
def etherTypeAt (f : List Byte) : Nat :=
  let tag (o : Nat) : Bool := hdrField f o 2 == 0x8100 || hdrField f o 2 == 0x88A8
  if tag 12 then (if tag 16 then 20 else 16) else 12

/-- Where a frame's IEEE 1588 version 2 message starts (R268): over Ethernet, UDP/IPv4 or UDP/IPv6; with 0, 1 or 2 for
the encapsulation. -/
def ptpAt (f : List Byte) : Option (Nat × Nat) :=
  let o := etherTypeAt f
  let ty := hdrField f o 2
  let port (q : Nat) : Bool := hdrField f q 2 == 319 || hdrField f q 2 == 320
  let v2 (q : Nat) : Bool := hdrField f (q + 1) 1 % 16 == 2
  let ip4 := o + 2
  let udp4 := ip4 + 4 * (hdrField f ip4 1 % 16)
  let ip6 := o + 2
  if ty = 0x88F7 then (if v2 (o + 2) then some (o + 2, 0) else none)
  else if ty = 0x0800 ∧ hdrField f (ip4 + 9) 1 = 17 ∧ port (udp4 + 2) then
    (if v2 (udp4 + 8) then some (udp4 + 8, 1) else none)
  else if ty = 0x86DD ∧ hdrField f (ip6 + 6) 1 = 17 ∧ port (ip6 + 42) then
    (if v2 (ip6 + 48) then some (ip6 + 48, 2) else none)
  else none

/-- TRAP takes a frame (R268). -/
def State.traps (s : State) (b : Nat) (f : List Byte) : Bool :=
  let t := s.rdN (Obj.frameTrap b)
  (bitOf t 0 && (ptpAt f).isSome) ||
    (bitOf t 1 && hdrField f 0 5 == 0x0180C20000 && hdrField f 5 1 / 16 == 0)

/-- FRAME_TRAP (R268): a trapped frame is counted and written to telemetry ring 2, or discarded beyond 1,518 bytes. -/
def State.trapFrame (s : State) (b : Nat) (f : List Byte) (phase : Nat) : State :=
  let s := s.inc (Obj.trapped b)
  if 1518 < f.length then s
  else
    let (tk, ph) := s.stamp phase (s.rd (Obj.tsIngressAdjust b))
    s.ringWrite 2 ((leBytes 1 b ++ [0#8] ++ leBytes 2 f.length ++ leBytes 8 tk ++ leBytes 4 ph ++ f) ++
      List.replicate (1520 - f.length) 0#8)

/-- An 802.3 MAC control frame with an opcode: PAUSE is 1, PFC 0x0101. -/
def macControl (f : List Byte) (op : Nat) : Bool := hdrField f 12 2 == 0x8808 && hdrField f 14 2 == op

/-! ### Group layout -/

/-- The flows that the prospective configuration enables (R525). -/
def State.prFlowsOn (s : State) : List Nat :=
  ((s.flowsOn ++ s.core.window.filterMap (fun w => flowOfKey w.key)).eraseDups).filter
    (fun f => entryOn (s.prdN (flowKey f)))

/-- Check 9 of a GROUP_LAYOUT write (R254): a valid layout, under which every enabled flow's BERTH that lies in the group
is still the first berth of a port. -/
def State.groupLayoutOk (s : State) (k v : Nat) : Bool :=
  layoutValid v && s.prFlowsOn.all (fun f =>
    let b := entryBerth (s.prdN (flowKey f))
    b / 8 != k || decide (0 < portWidthIn v b))

/-- The check of a FRAME_INJECT write (R269), LENGTH, MODE and the zero bytes apart; `tod` says whether a time-of-day
association is in force. -/
def State.injectStatus (s : State) (b : Nat) (v : List Byte) (tod : Bool) : Option Nat :=
  let len := hdrField v 0 2
  let mode := hdrField v 4 1
  let f := (v.drop 8).take len
  if hdrField v 5 3 ≠ 0 then some Status.reservedBits
  else if len < 60 ∨ 1000 < len ∨ 2 < mode then some Status.outOfRange
  else if mode = 2 ∧ ((match ptpAt f with
      | some (o, enc) => hdrField f o 1 % 16 != 0 || enc == 2
      | none => true) || !tod) then some Status.refused
  else if 4 ≤ (s.port b).inject.length then some Status.busy
  else none

/-- An accepted FRAME_INJECT write queues its frame (R269). -/
def State.injectPut (s : State) (b : Nat) (v : List Byte) : State :=
  let x := s.port b
  s.setPort b { x with inject := x.inject ++ [⟨hdrField v 4 1, hdrField v 2 2, (v.drop 8).take (hdrField v 0 2)⟩] }

/-- Check 9 of a SYNCE_INPUT write (R270): the input is held by no other berth. -/
def State.synceInputOk (s : State) (b v : Nat) : Bool :=
  v == 0 || (List.range 64).all (fun c => c == b || s.prdN (Obj.synceInput c) != v)

end Sys2Proof.Machine
end

