-- ==== Sys2Proof/Machine/Basin.lean ====
section
/-! DEFINITION. Chapter 11: flows and class kinds (R273–R277), the frame builder's order of cells (R278–R280), consignments
(R281–R290), the basin's ports, pages and slots (R292–R297) and what happens when it fills (R298–R300); and the ingress of a
client frame (R256, R259–R261, R266, R268). -/
namespace Sys2Proof.Machine

def State.flow (s : State) (f : Nat) : Flow := tget (fun _ => {}) s.basin.flows f

def State.setFlow (s : State) (f : Nat) (x : Flow) : State :=
  { s with basin.flows := tset (fun _ => {}) s.basin.flows f x }

def State.bport (s : State) (p : Nat) : BasinPort := tget (fun _ => {}) s.basin.ports p

def State.setBport (s : State) (p : Nat) (x : BasinPort) : State :=
  { s with basin.ports := tset (fun _ => {}) s.basin.ports p x }

/-! ### Sequences (R281) -/

/-- a precedes b: (b − a) mod 2^48 lies in 1…2^47. -/
def precedes (a b : Nat) : Bool :=
  let d := (b + 2 ^ 48 - a % 2 ^ 48) % 2 ^ 48
  decide (1 ≤ d ∧ d ≤ 2 ^ 47)

/-- The sequence after a sequence. -/
def seqNext (a : Nat) : Nat := (a + 1) % 2 ^ 48

/-! ### Mated units and readiness -/

/-- The MATED unit of a flow. -/
def State.matedUnit (s : State) (f : Nat) : Option Nat :=
  match s.unitOfWorking (entryReach (s.entry f)) with
  | some u => if s.rdN (Obj.unitMode u) = 3 then some u else none
  | none => none

/-- The flow belongs to a MATED unit that does not carry traffic here (R321): STANDBY, or handing over,
also where that ends in DOUBLE_FAULT. -/
def State.standbyFlow (s : State) (f : Nat) : Bool :=
  match s.matedUnit f with
  | some u => [3, 5, 7].contains (s.rdN (Obj.unitState u))
  | none => false

/-- A flow's cells are accepted on a group (R276, R315): its entry's, or the same-numbered group of the other reach of a
REACH unit that names the entry's reach. DEDUCED: log entry 25. -/
def State.acceptsOn (s : State) (f rg : Nat) : Bool :=
  let e := s.entry f
  rg % 8 == entryGroup e &&
    (rg / 8 == entryReach e ||
      (List.range 4).any (fun u => s.rdN (Obj.unitMode u) == 2 &&
        ((s.rdN (Obj.workingReach u) == entryReach e && s.protectOf u == rg / 8) ||
          (s.protectOf u == entryReach e && s.rdN (Obj.workingReach u) == rg / 8))))

/-- A group is in outage (R277, R306): in loss of frame, disabled, or on a reach that is dark. -/
def State.outage (s : State) (rg : Nat) : Bool :=
  !s.groupOn (rg / 8) (rg % 8) || s.rdN (Obj.rxFrameState (rg / 8) (rg % 8)) != 2 || s.conv.dark.contains (rg / 8)

/-- FLOW_PRECEDENCE of a flow. -/
def State.precedence (s : State) (f : Nat) : Nat := s.rdN (Obj.flowPrecedence (f / 128) (f % 128))

/-! ### Pages and slots (R293, R295) -/

/-- Slot numbers of one port. -/
def slotBase : Nat := 2 ^ 33
/-- Page numbers of one port. -/
def pageBase : Nat := 2 ^ 21

/-- The port of a slot. -/
def slotPort (k : Nat) : Nat := k / slotBase

/-- The page of a slot. -/
def slotPage (k : Nat) : Nat := pageBase * slotPort k + k % slotBase / 4096

def State.slot (s : State) (k : Nat) : Slot := tget (fun _ => {}) s.basin.slots k

def State.setSlot (s : State) (k : Nat) (x : Slot) : State :=
  { s with basin.slots := tset (fun _ => {}) s.basin.slots k x }

/-- GENERATION after a write (R293): 65,535 is followed by 1. -/
def genNext (g : Nat) : Nat := if g = 65535 then 1 else g + 1

/-- The slot's 240 cell bytes (Table 11.9): zero as the fill left it. -/
def Slot.cellBytes (x : Slot) : List Byte := if x.st = 0 then List.replicate 240 0#8 else x.cell.bytes

/-- CHECK (R293): RS(252,240) over GF(2^8) with field polynomial x^8 + x^4 + x^3 + x^2 + 1 and roots α^0 … α^11. -/
def slotCheck (cell : List Byte) : List Byte :=
  ((Gf.mk 8 0x1D).check ((Gf.mk 8 0x1D).generator 12) (cell.map (·.toNat))).map (BitVec.ofNat 8)

/-- A slot word's WORD_CHECK (R293). -/
def wordCheck (gen st : Nat) (header : List Byte) : Nat := crc16 (beBytes 2 gen ++ beBytes 1 st ++ header) % 4096

/-- A slot word's bytes 252–255 (R293). -/
def slotWord (gen st : Nat) (header : List Byte) : Nat := gen * 65536 + st * 4096 + wordCheck gen st header

/-- A slot's 256 bytes (Table 11.9). -/
def Slot.bytes (x : Slot) : List Byte :=
  x.cellBytes ++ slotCheck x.cellBytes ++ beBytes 4 (slotWord x.gen x.st (x.cellBytes.take 4))

/-- What a read of a slot finds (R294): byte errors of CHECK's codeword, the slot word as read, and whether the slot is
uncorrectable. -/
structure SlotRead where
  errs : Nat
  word : Nat
  bad : Bool
  deriving DecidableEq, Repr

/-- A read of a slot whose bytes the expander returns with some of them changed: `noise` lists offsets and what is added to
the byte there. DEDUCED: log entry 66. -/
def Slot.read (x : Slot) (noise : List (Nat × Byte)) : SlotRead :=
  let at_ (o : Nat) : Byte := ((noise.find? (fun q => q.1 == o)).map (·.2)).getD 0#8
  let errs := ((List.range 252).filter (fun o => at_ o != 0#8)).length
  let hdr := x.cellBytes.take 4
  let w := slotWord x.gen x.st hdr ^^^ beNat ((List.range 4).map (fun i => at_ (252 + i)))
  { errs := errs, word := w,
    bad := decide (6 < errs) || bitsOf w 11 0 != wordCheck (w / 65536) (bitsOf w 15 12) hdr || decide (4 ≤ bitsOf w 15 12) }

/-- Pages of a port. -/
def State.portPages (s : State) (p : Nat) : Nat := s.rdN (Obj.slots p) / 4096

/-- Pages of a port that are in use. -/
def State.pagesInUse (s : State) (p : Nat) : List Nat :=
  (s.basin.pages.filter (fun q => q.1 / pageBase == p)).map (fun q => q.1 % pageBase)

/-- Pages of a port that retirements on their way have taken out of its free pool and its reserve (R468): their successors,
and reserve pages that retire themselves. -/
def State.takenPages (s : State) (p : Nat) : List Nat :=
  (s.integ.swaps.filter (fun w => w.kind == 5)).filterMap (fun w =>
    let k := w.succ.getD w.unit
    if k / pageBase = p then some (k % pageBase) else none)

/-- Pages of a port that are to retire and hold no cell: no cell is written to them any more (R467). -/
def State.leavingPages (s : State) (p : Nat) : List Nat :=
  let x := s.bport p
  let inUse := s.pagesInUse p
  (x.fillBad ++ (s.integ.swaps.filter (fun w => w.kind == 5 && w.succ.isSome && w.unit / pageBase == p)).map
    (fun w => w.unit % pageBase)).filter (fun n => !inUse.contains n)

/-- Number of free pages of a port (R295). -/
def State.freePages (s : State) (p : Nat) : Nat :=
  let x := s.bport p
  s.portPages p - (s.pagesInUse p).length - x.withheld.length - x.retired.length - (s.takenPages p).length -
    (s.leavingPages p).length

/-- A page of a port is free. -/
def State.pageFree (s : State) (p : Nat) : Nat → Bool :=
  let x := s.bport p
  let busy := s.pagesInUse p ++ s.takenPages p ++ s.leavingPages p
  fun n => !busy.contains n && !x.withheld.contains n && !x.retired.contains n

/-- The lowest free page of a port. -/
def State.lowestFree (s : State) (p : Nat) : Option Nat := (List.range (s.portPages p)).find? (s.pageFree p)

/-- Basin ports that are UP. -/
def State.upPorts (s : State) : List Nat := upto 8 (fun p => s.rdN (Obj.basinPortState p) == 3)

/-- A basin port serves cells: UP and its domain released (Table 20.4: a moored port's cells are neither sent nor handed
over). -/
def State.portServes (s : State) (p : Nat) : Bool := s.rdN (Obj.basinPortState p) == 3 && s.released (domPort p)

/-- The port that gives a new page (R295): UP, and not draining (R488), with the most free pages, the lowest number on a tie. -/
def State.pagePort (s : State) : Option Nat :=
  match s.upPorts.filter (fun p => s.portServes p && !s.power.draining.contains (domPort p) && decide (0 < s.freePages p)) with
  | [] => none
  | p :: t => some (t.foldl (fun b q => if s.freePages b < s.freePages q then q else b) p)

/-- Show USED_SLOTS (R295) and what it decides (R298, R299): BASIN_STATE, the high-water demand and its events. -/
def State.waterCheck (s : State) : State :=
  let used := 4096 * s.basin.pages.length
  let usable := s.rdN Obj.usableSlots
  let s := s.wrN Obj.usedSlots used
  let at_ (m : Nat) : Bool := decide (0 < usable ∧ m * usable ≤ 10000 * used)
  let rise := !s.basin.high && at_ (s.rdN Obj.highWater)
  let fall := s.basin.high && !at_ (s.rdN Obj.releaseWater)
  let s := if rise then
      ({ s with basin.high := true, basin.highTicks := 0 }).raise 0x8092 0x3510 (used * 10000 / usable)
    else if fall then
      ({ s with basin.high := false }).raise 0x4093 0x3510 (min s.basin.highTicks (2 ^ 32 - 1))
    else s
  s.wrN Obj.basinState (if at_ (10000 - s.rdN Obj.lastReserve) then 2 else if s.basin.high then 1 else 0)

/-- A page in use of a flow and direction with a free slot, on a released UP port: a moored one gives no write credit (Table 20.5).
DEDUCED: log entry 119. -/
def State.openPage (s : State) (f : Nat) (rx : Bool) : Option (Nat × Page) :=
  s.basin.pages.find? (fun q => q.2.flow == f && q.2.rx == rx && decide (q.2.used.length < 4096) &&
    s.portServes (q.1 / pageBase) && !(s.bport (q.1 / pageBase)).retired.contains (q.1 % pageBase))

/-- Take a slot for a cell of a flow and direction (R295): from a page of it with room, else from a new page. -/
def State.takeSlot (s : State) (f : Nat) (rx : Bool) : Option (State × Nat) :=
  match s.openPage f rx with
  | some (k, pg) =>
    let o := ((List.range 4096).find? (fun o => !pg.used.contains o)).getD 0
    some ({ s with basin.pages := tput k { pg with used := o :: pg.used } (tdel k s.basin.pages) },
      slotBase * (k / pageBase) + 4096 * (k % pageBase) + o)
  | none =>
    match s.pagePort with
    | none => none
    | some p =>
      match s.lowestFree p with
      | none => none
      | some n =>
        let k := pageBase * p + n
        some ({ s with basin.pages := tput k ⟨f, rx, [0]⟩ s.basin.pages }, slotBase * p + 4096 * n)

/-- Show WRITE_QUEUE, which holds at most 65,536 cells (R297). DESIGN CHOICE: log entry 113. -/
def State.showQueue (s : State) : State := s.wrN Obj.writeQueue (min 65536 (s.basin.queueTx + s.basin.queueRx))

/-- Write a cell of a direction into a slot (R293): GENERATION rises, 65,535 followed by 1; the write enters the queue
(R297). -/
def State.writeSlot (s : State) (k : Nat) (rx : Bool) (c : Cell) : State :=
  let s := s.setSlot k ⟨genNext (s.slot k).gen, 1, c⟩
  let s : State := if rx then { s with basin.queueRx := s.basin.queueRx + 1 } else { s with basin.queueTx := s.basin.queueTx + 1 }
  s.showQueue

/-- The expanders take cells from the write queue: sender copies before receiver holds (R297).
DESIGN CHOICE: log entry 113. -/
def State.drainQueue (s : State) (n : Nat) : State :=
  State.showQueue { s with basin.queueTx := s.basin.queueTx - n, basin.queueRx := s.basin.queueRx - (n - s.basin.queueTx) }

/-- Withhold free pages of a port, or return withheld ones to its free pool, until 1/n of its pages are withheld (R295), less
those that retirements have used up: the highest-numbered free ones, and the lowest-numbered withheld ones.
DEDUCED: log entry 26. -/
def State.withholdPages (s : State) (p : Nat) : State :=
  let x := s.bport p
  if x.reserve = 0 then s
  else
    let have_ := x.withheld.length + tget (fun _ => 0) s.integ.pagesTaken p
    let want := s.portPages p / x.reserve
    let free := (List.range (s.portPages p)).reverse.filter (s.pageFree p)
    let kept := (x.withheld.mergeSort (fun a b => decide (b ≤ a))).take (x.withheld.length - (have_ - want))
    s.setBport p { x with withheld := kept ++ free.take (want - have_) }

/-- Free a slot; a page whose last cell is freed returns to the free pool, or is withheld (R295).
DEDUCED: log entry 26. -/
def State.freeSlot (s : State) (k : Nat) : State :=
  let pk := slotPage k
  match s.basin.pages.find? (fun q => q.1 == pk) with
  | none => s
  | some (_, pg) =>
    let used := pg.used.erase (k % 4096)
    if used.isEmpty then ({ s with basin.pages := tdel pk s.basin.pages }).withholdPages (slotPort k)
    else { s with basin.pages := tput pk { pg with used := used } (tdel pk s.basin.pages) }

/-- Free the slots of held cells. -/
def State.freeHeld (s : State) (hs : List Held) : State :=
  (s.each (hs.filter (fun h => !h.lost)) (fun s h => s.freeSlot h.slot)).waterCheck

/-- A slot read finds an uncorrectable slot (R294): it is written POISON and counted. DEDUCED: log entry 66. -/
def State.poison (s : State) (k : Nat) : State :=
  let x := s.slot k
  let s := s.setSlot k { x with st := 3, gen := genNext x.gen }
  s.inc (Obj.poisonedSlots (slotPort k))

/-! ### ACK_RTT (R287) -/

/-- Measurements of a group. -/
def State.rttHist (s : State) (rg : Nat) : List (Nat × Nat) := tget (fun _ => []) s.basin.rtt rg

/-- Show ACK_RTT: the smallest measurement of the last 1,000 ticks, 32 where there is none. DEDUCED: log entry 27. -/
def State.showRtt (s : State) (rg : Nat) : State :=
  let h := (s.rttHist rg).filter (fun m => decide (s.core.tick < m.1 + 1000))
  let s := { s with basin.rtt := tset (fun _ => []) s.basin.rtt rg h }
  s.wrN (Obj.ackRtt (rg / 8) (rg % 8)) (match h with
    | [] => 32
    | m :: t => t.foldl (fun a x => min a x.2) m.2)

/-- ACK_RTT of the group that carries a flow. -/
def State.rttOf (s : State) (f : Nat) : Nat := s.rdN (Obj.ackRtt (s.flowGroup f / 8) (s.flowGroup f % 8))

/-! ### Epochs -/

/-- A new epoch of a flow from sequence 0 (R282). -/
def State.newEpoch (s : State) (f : Nat) : State :=
  let x := s.flow f
  s.setFlow f { x with epoch := 256 * (s.rdN Obj.bootEpoch % 255 + 1) + x.epochs % 256, epochs := x.epochs + 1,
                       epochTick := s.core.tick, next := 0, acked := 0 }

/-- A flow becomes durable (Table 11.6): its epoch starts and its sender is ACTIVE. -/
def State.durableStart (s : State) (f : Nat) : State :=
  let s := s.newEpoch f
  s.setFlow f { (s.flow f) with state := 1, held := [] }

/-- A resync (R289): a new epoch; held cells from the oldest one with SOF on are renumbered from 0 and due, earlier ones
discarded. A void cell carries SOF (R288). A drain goes on over the cells that are still held. DESIGN CHOICE: log entry 112. -/
def State.resync (s : State) (f : Nat) : State :=
  let x := s.flow f
  let sof (h : Held) : Bool := h.lost || (s.slot h.slot).cell.sof
  let keep := x.held.dropWhile (fun h => !sof h)
  let gone := x.held.takeWhile (fun h => !sof h)
  let s := s.freeHeld gone
  let s := s.incBy Obj.resyncDiscards gone.length
  let s := s.newEpoch f
  let x := s.flow f
  let s := s.each (keep.zipIdx) (fun s p =>
    if p.1.lost then s
    else let sl := s.slot p.1.slot
      s.setSlot p.1.slot { sl with cell := { sl.cell with seq := p.2, epoch := x.epoch } })
  let renumber (l : List Nat) : List Nat := keep.zipIdx.filterMap (fun p => if l.contains p.1.seq then some p.2 else none)
  let s := s.setFlow f { x with held := keep.zipIdx.map (fun p => { p.1 with seq := p.2, due := true }),
                                next := keep.length, acked := 0, resyncs := x.resyncs + 1, drain := renumber x.drain }
  let mine := renumber ((s.basin.drain.filter (fun q => q.1 == f)).map (·.2))
  let s : State := { s with basin.drain := s.basin.drain.filter (fun q => q.1 != f) ++ mine.map (fun q => (f, q)) }
  s.raise 0x8091 0x3500 (f * 2 ^ 20 + min gone.length 0xFFFFF)

/-! ### Ingress -/

/-- A durable cell could not be taken (R299): counted and reported. -/
def State.reserveLoss (s : State) (f n : Nat) : State :=
  if n = 0 then s
  else
    let x := s.flow f
    let s := s.setFlow f { x with reserveLosses := x.reserveLosses + n }
    (s.incBy Obj.reserveLosses n).raiseLimitedItem 0xC094 0x3400 f n f

/-- DURABLE_CELL_CUT (R281): number a cell, write it to the basin and make it eligible; none where no slot is left, as on the way out
of DORMANT while no released port is UP. DESIGN CHOICE: log entry 129. -/
def State.cutDurable (s : State) (f : Nat) (c : Cell) : State :=
  match s.takeSlot f false with
  | none => s.reserveLoss f 1
  | some (s, k) =>
    let x := s.flow f
    let s := s.writeSlot k false { c with seq := x.next, epoch := x.epoch }
    let s := s.setFlow f { x with next := seqNext x.next, held := x.held ++ [⟨x.next, k, 0, 0, false, false⟩], lastSeq := x.next }
    { s with basin.cutNow := (s.basin.cutNow.1 + 1, s.basin.cutNow.2 + c.body.length) }

/-- Write queue thresholds (R297): 49,152 and 32,768 cells. -/
def State.queueCheck (s : State) : State :=
  let n := s.rdN Obj.writeQueue
  { s with basin.queueFull := if 49152 ≤ n then true else if n < 32768 then false else s.basin.queueFull }

/-- A client frame of an enabled flow is cut into cells (R245, R281, R106, R299). Cells of a flow whose table entry reads
uncorrectable are discarded (Table 19.4), and so are prompt and standard cells of a group in outage (Table 11.2). Before the flow states
have been read back on the way out of DORMANT a durable flow's cells go as standard ones. DESIGN CHOICE: log entry 129. -/
def State.cutFrame (s : State) (f : Nat) (frame : List Byte) (bad ignored : Bool) : State :=
  let kind := entryKind (s.entry f)
  if s.integ.flowBad.contains f then s
  else if kind = 2 ∧ s.basin.accepted ∧ (s.flow f).state ≠ 0 then
    let cells := clientCells f 3 bad frame
    if s.rdN Obj.basinState = 2 ∧ ignored then s.reserveLoss f cells.length
    else
      let s := s.each cells (fun s c => s.cutDurable f c)
      let x := s.flow f
      let fcs := beNat (frame.drop (frame.length - 4))
      let fs := if (s.matedUnit f).isSome then (fcs, x.lastSeq) :: x.frames else x.frames
      (s.setFlow f { x with lastFcs := fcs, frames := fs }).queueCheck.waterCheck
  else
    let cells := clientCells f (if kind = 0 then 1 else 2) bad frame
    let x := s.flow f
    if s.outage (s.flowGroup f) then s.incBy (if kind = 0 then Obj.promptDiscards else Obj.standardDrops) cells.length
    else s.setFlow f { x with queue := x.queue ++ cells.map (fun c => ⟨c, s.core.tick⟩) }

/-- CLIENT_FRAME_RX (R260): the frame is checked (R255, R256), buffered (R259), trapped (R268) or classified and cut. -/
def execClientFrameRx (b : Fin 64) (frame : List Byte) (pcsError : Bool) (phase drained : Nat) (s : State) :
    Host.Outcome State Fault Refusal :=
  let st := s.rdN (Obj.berthPortState b)
  if s.isPort b = false ∨ (st ≠ 2 ∧ st ≠ 3) then .next s
  else if macControl frame 0x0101 then .next s
  else if macControl frame 1 ∨ frame.length < 64 then .next (s.inc (Obj.badFramesRx b))
  else
    let s := s.ingressTo b ((s.port b).ingress - drained)
    let mx := s.rdN (Obj.maxFrame b)
    let bad := pcsError || !fcsOk frame || decide (mx < frame.length)
    let f := frame.take mx
    let s := s.inc (Obj.framesRx b)
    let s := s.onlyIf bad (fun s => s.inc (Obj.badFramesRx b))
    let ignored := s.ignoresPause b (s.priorityOf b f) phase
    let s := if ignored then (s.inc (Obj.pfcIgnored b)).raiseLimited 0x8082 (berthSource b) 1 else s
    if s.bufferBytes b < (s.port b).ingress + mx then .next (s.inc (Obj.ingressDrops b))
    else
      let s := s.ingressTo b ((s.port b).ingress + f.length)
      if s.traps b f then .next (s.trapFrame b f phase)
      else
        let fl := s.classify b f
        if 4096 ≤ fl ∨ entryOn (s.entry fl) = false then
          .next ((s.inc (Obj.unclassified b)).raiseLimited 0x8083 (berthSource b) 1)
        else .next (s.cutFrame fl f bad ignored)

/-! ### Receive -/

/-- The priority of the frame a durable cell belongs to, at the flow's egress port. -/
def State.cellPriority (s : State) (c : Cell) : Nat :=
  let b := entryBerth (s.entry c.flow)
  let bytes := if c.sof then c.body
    else match s.frame.openFrames.find? (fun p => p.1 == c.flow) with
      | some p => p.2.bytes
      | none => c.body
  s.priorityOf b bytes

/-- A flow's reassembled frame goes to its berth (R246). -/
def State.toBerth (s : State) (f : Nat) (fr : List Byte) : State := s.egressPut (entryBerth (s.entry f)) fr

/-- A prompt or standard cell is delivered in arrival order (Table 11.2): at its SOF the egress may discard the frame
(R258, R259). -/
def State.deliverCell (s : State) (rg : Nat) (c : Cell) : State :=
  let b := entryBerth (s.entry c.flow)
  if c.sof && (!s.portUp b || !s.egressAdmits b (s.cellPriority c)) then
    let s := if (s.frame.openFrames.any (fun p => p.1 == c.flow)) then s.inc (Obj.clientFramesDiscarded (rg / 8) (rg % 8)) else s
    ({ s with frame.openFrames := tdel c.flow s.frame.openFrames }).inc (Obj.egressDrops b)
  else
    let (s, fr) := s.reassemble rg c
    match fr with
    | some fr => s.toBerth c.flow fr
    | none => s

/-- The egress gate of a durable cell (R285, R321, R323): the port is UP and would admit a MAX_FRAME frame; in a MATED unit
the device is active and an acknowledged mirror covers the cell, or the mate is unreachable. -/
def State.mayHandOver (s : State) (c : Cell) : Bool :=
  let b := entryBerth (s.entry c.flow)
  s.portUp b && s.egressAdmits b (s.cellPriority c) &&
    (match s.matedUnit c.flow with
     | some _ => !s.standbyFlow c.flow &&
        (!s.rdB Obj.mateReachable || s.rdN Obj.lanesInService == 0 || precedes c.seq (s.flow c.flow).gateN)
     | none => true)

/-- Hand a durable cell over to reassembly (R285): N advances past it. -/
def State.handOver (s : State) (rg : Nat) (c : Cell) : State :=
  let (s, fr) := s.reassemble rg c
  let x := s.flow c.flow
  let s := s.setFlow c.flow { x with rn := seqNext c.seq }
  match fr with
  | some fr => s.toBerth c.flow fr
  | none => s

/-- Hand over held cells at N, one after the other, while the egress admits them (R284, R285). -/
def State.handHeld (s : State) (f rg : Nat) : Nat → State
  | 0 => s
  | n + 1 =>
    let x := s.flow f
    match x.rxHeld.find? (fun h => h.seq == x.rn && s.portServes (slotPort h.slot)) with
    | none => s
    | some h =>
      let c := (s.slot h.slot).cell
      if s.mayHandOver c then
        let s := s.setFlow f { x with rxHeld := x.rxHeld.erase h }
        let s := s.freeSlot h.slot
        (s.handOver rg c).handHeld f rg n
      else s

/-- Hold a received cell in the basin (R284, R297), in a page of the flow's receive hold or in a free page: one that follows N
only below the high-water mark, one at N that cannot be handed over (R285) as long as it takes no page of the last reserve. -/
def State.holdRx (s : State) (f : Nat) (c : Cell) (atN : Bool) : State :=
  let drop := s.inc Obj.reorderDiscards
  let usable := s.rdN Obj.usableSlots
  let low := decide (10000 * s.rdN Obj.usedSlots < s.rdN Obj.highWater * usable)
  let room := low || (atN && ((s.openPage f true).isSome || s.rdN Obj.basinState != 2))
  if !room ∨ 65536 ≤ s.basin.queueTx + s.basin.queueRx then drop
  else match s.takeSlot f true with
    | none => drop
    | some (s, k) =>
      let s := s.writeSlot k true c
      let x := s.flow f
      (s.setFlow f { x with rxHeld := x.rxHeld ++ [⟨c.seq, k, 0, 0, false, false⟩] }).queueCheck.waterCheck

/-- DURABLE_CELL_RX (R284, Table 11.5). -/
def State.durableRx (s : State) (rg : Nat) (c : Cell) : State :=
  let f := c.flow
  let x := s.flow f
  let s := if c.epoch != x.er && c.seq == 0 then
      let s := s.freeHeld x.rxHeld
      let s := s.setFlow f { (s.flow f) with er := c.epoch, rn := 0, rxHeld := [] }
      s.raise 0x4090 0x3400 (f * 2 ^ 20 + c.epoch)
    else s
  let x := s.flow f
  if c.epoch ≠ x.er then (s.inc Obj.epochDiscards).raiseLimited 0x8097 0x3500 1
  else if precedes c.seq x.rn ∨ x.rxHeld.any (fun h => h.seq == c.seq) then
    s.setFlow f { x with duplicates := x.duplicates + 1 }
  else if c.seq = x.rn ∧ s.mayHandOver c then
    let s := s.handOver rg c
    (s.handHeld f rg ((s.flow f).rxHeld.length + 1)).waterCheck
  else s.holdRx f c (c.seq == x.rn)

/-! ### Page retirement (R467, R468) -/

/-- Reserve pages of a port that retirements have used up, and BASIN_RESERVE_USED (R108): in 1/255 of its reserve, rounded up.
DEDUCED: log entry 69. -/
def State.noteReserve (s : State) (p n : Nat) : State :=
  let s := { s with integ.pagesTaken := tset (fun _ => 0) s.integ.pagesTaken p n }
  let whole := s.portPages p / max 1 (s.bport p).reserve
  { s with start.reserveUsed := lset ((List.range 8).map (fun i => s.start.reserveUsed.getD i 0)) p
             (min 255 (ceilDiv (255 * n) (max 1 whole))) }

/-- A page leaves a port's reserve for a retirement. -/
def State.reserveTake (s : State) (p n : Nat) : State :=
  (s.setBport p { (s.bport p) with withheld := (s.bport p).withheld.filter (fun x => x != n) }).noteReserve p
    (tget (fun _ => 0) s.integ.pagesTaken p + 1)

/-- The successor of a page (R468, R475): a reserve page of the port, else of the UP port with the most left, else a free page
of the port; with whether it comes from a reserve. -/
def State.pageSuccessor (s : State) (p : Nat) : Option (Nat × Bool) :=
  let reserveOf (q : Nat) : Nat := (s.bport q).withheld.length
  match (s.bport p).withheld with
  | n :: _ => some (pageBase * p + n, true)
  | [] =>
    match s.upPorts.filter (fun q => decide (0 < reserveOf q)) with
    | q :: t =>
      let b := t.foldl (fun b q => if reserveOf b < reserveOf q then q else b) q
      some (pageBase * b + (s.bport b).withheld.headD 0, true)
    | [] => (s.lowestFree p).map (fun n => (pageBase * p + n, false))

/-- A page is to be retired (R467, R468): its successor is taken and the allocation requested. A page of the reserve retires
out of it without a successor. DEDUCED: log entry 69. -/
def State.retirePage (s : State) (p n : Nat) : State :=
  let k := pageBase * p + n
  if (s.bport p).retired.contains n ∨ s.integ.swaps.any (fun w => w.kind == 5 && w.unit == k) then s
  else if (s.bport p).withheld.contains n then (s.reserveTake p n).requestSwap { kind := 5, unit := k, addr := 1 }
  else match s.pageSuccessor p with
    | none => (s.exhaustedKind 5).listRepeat ((32 + p) * 2 ^ 26 + n)
    | some (v, res) =>
      let s := if res then s.reserveTake (v / pageBase) (v % pageBase) else s.exhaustedKind 5
      s.requestSwap { kind := 5, unit := k, succ := some v, addr := if res then 1 else 0 }

/-- A read of slot n of a port needed correction (R294, R462, R467): it is counted, and a repeat corrector's page retires. -/
def State.slotCorrected (s : State) (p n : Nat) : State :=
  let (s, rep) := (s.inc (Obj.correctedSlots p)).trackCorrection (32 + p) n
  if rep then (s.raiseLimitedFor 0x8103 (0x3520 + p) 1 n).retirePage p (n / 4096) else s

/-- A read found a slot uncorrectable (R294, R467): it is written POISON and its page retires. -/
def State.slotLost (s : State) (k : Nat) : State := (s.poison k).retirePage (slotPort k) (slotPage k % pageBase)

/-- The consignment unit reads held cells (R294): a correction is counted, an uncorrectable slot is written POISON and
its page retires. `noise` gives what each read slot returned, by the cell's sequence. -/
def State.readHeld (s : State) (hs : List Held) (noise : List (Nat × List (Nat × Byte))) : State :=
  s.each (hs.filter (fun h => !h.lost)) (fun s h =>
    let r := (s.slot h.slot).read (((noise.find? (fun q => q.1 == h.seq)).map (·.2)).getD [])
    if (s.slot h.slot).st = 3 then s
    else if r.bad then s.slotLost h.slot
    else s.onlyIf (decide (0 < r.errs)) (fun s => s.slotCorrected (slotPort h.slot) (h.slot % slotBase)))

/-- HELD_CELL_HANDOVER (R285): a held cell at N goes over once the egress admits it again, and those after it. A slot that
reads uncorrectable is written POISON and its cell is missing again (R294). -/
def execHeldCellHandover (f : Fin 4096) (noise : List (Nat × List (Nat × Byte))) (s : State) :
    Host.Outcome State Fault Refusal :=
  let x := s.flow f
  let s := s.readHeld (x.rxHeld.filter (fun h => noise.any (fun q => q.1 == h.seq))) noise
  let bad := x.rxHeld.filter (fun h => (s.slot h.slot).st == 3)
  let s := s.setFlow f { x with rxHeld := x.rxHeld.filter (fun h => !bad.contains h) }
  let s := s.freeHeld bad
  .next ((s.handHeld f (s.flowGroup f) ((s.flow f).rxHeld.length + 1)).waterCheck)

/-- A misrouted cell (R276). DEDUCED: log entry 25. -/
def State.misrouted (s : State) (f : Nat) : State :=
  (s.inc Obj.misroutedCells).raiseLimitedItem 0x8098 0x3400 f 1 f

/-! ### Manifests -/

/-- A cumulative entry acknowledges (R286): A advances to S and the acknowledged cells' slots are freed; cells sent once
give a measurement of ACK_RTT (R287). DEDUCED: log entry 27. -/
def State.acknowledge (s : State) (f sq : Nat) : State :=
  let x := s.flow f
  let gone := x.held.filter (fun h => precedes h.seq sq)
  let rg := s.flowGroup f
  let ms := (gone.filter (fun h => h.times == 1)).map (fun h => (s.core.tick, s.core.tick - h.sent))
  let s := s.setFlow f { x with acked := sq, held := x.held.filter (fun h => !precedes h.seq sq),
                                drain := x.drain.filter (fun q => !precedes q sq),
                                frames := x.frames.filter (fun q => !precedes q.2 sq),
                                entered := x.entered || (x.state == 2 && s.inFrame (rg / 8) (rg % 8)),
                                freed := (s.core.tick, gone.length + (if x.freed.1 = s.core.tick then x.freed.2 else 0)) }
  let s := { s with basin.rtt := tset (fun _ => []) s.basin.rtt rg (ms ++ s.rttHist rg),
                    basin.drain := s.basin.drain.filter (fun q => q.1 != f || !precedes q.2 sq) }
  (s.freeHeld gone).showRtt rg

/-- A manifest entry for a flow of the group (R286). -/
def State.manifestEntry (s : State) (f sq e : Nat) (gap : Bool) : State :=
  let x := s.flow f
  if x.state = 0 then s
  else if e = 0 then
    if s.core.tick < x.epochTick + 4 * s.rttOf f then s else s.resync f
  else if e ≠ x.epoch then s
  else if gap then
    if x.state = 2 then s
    else
      let rtt := s.rttOf f
      s.setFlow f { x with held := x.held.map (fun h =>
        if precedes h.seq sq && decide (0 < h.times) && decide (h.sent + rtt ≤ s.core.tick) then { h with due := true } else h) }
  else if precedes x.acked sq && !precedes x.next sq then s.acknowledge f sq
  else s

/-- The entries of a MANIFEST message (Table 9.3): flow, sequence, epoch. -/
def manifestEntries : Nat → List Byte → List (Nat × Nat × Nat)
  | 0, _ => []
  | n + 1, v =>
    if v.length < 10 then []
    else (hdrField v 0 2 % 4096, hdrField v 2 6, hdrField v 8 2) :: manifestEntries n (v.drop 10)

/-- Apply a message's entries in order; an entry directly after one of the same flow is a gap entry (R283). -/
def State.manifestApply (s : State) (rg : Nat) : Option Nat → List (Nat × Nat × Nat) → State
  | _, [] => s
  | prev, (f, sq, e) :: t =>
    let gap := prev == some f
    let s := if entryOn (s.entry f) && entryKind (s.entry f) == 2 && s.acceptsOn f rg then s.manifestEntry f sq e gap else s
    s.manifestApply rg (if gap then none else some f) t

/-- A received MANIFEST message (R286). -/
def State.manifestIn (s : State) (rg : Nat) (v : List Byte) : State :=
  s.manifestApply rg none (manifestEntries 25 v)

/-- The durable flows of a MATED unit. -/
def State.matedFlows (s : State) (u : Nat) : List Nat := s.durableFlows.filter (fun f => s.matedUnit f == some u)

/-- A standby becomes active (R324): an aligned flow continues its epoch with every held cell due, a misaligned one, or
every flow where the mate is unreachable, is resynced; the receivers start from the mirrored E_r and N.
DEDUCED: log entry 55. -/
def State.becomeActive (s : State) (u : Nat) (all : Bool) : State :=
  let s := s.each (s.matedFlows u) (fun s f =>
    let x := s.flow f
    let s := s.freeHeld x.rxHeld
    let s := s.setFlow f { x with state := 1, er := x.mirEr, rn := x.mirN, rxHeld := [], misaligned := false, gateN := x.mirN,
                                  held := x.held.map (fun h => { h with due := true }) }
    if all || x.misaligned then s.resync f else s)
  ((s.wrN (Obj.unitState u) 1).wrN (Obj.durableSide u) 0).setUnit u { (s.unit u) with
    switchAt := none, handed := false, mirrors := [], mirrored := [], mirrorLeft := [] }

/-- STANDBY_TAKEOVER (R324): a cell of one of the unit's flows comes in while the mate is unreachable. -/
def State.takeover (s : State) (f : Nat) : State :=
  match s.matedUnit f with
  | some u => if s.rdN (Obj.unitState u) = 7 ∧ !s.rdB Obj.mateReachable then s.becomeActive u true else s
  | none => s

/-- CELL_RECEIVED (R276): one undamaged cell of an accepted frame; one of a flow whose table entry reads uncorrectable is
discarded (Table 19.4), and so is a durable one before the flow states have been read back (R492): its sender sends it again.
DESIGN CHOICE: log entry 120. -/
def State.cellIn (s : State) (rg : Nat) (c : Cell) : State :=
  if c.kind = 0 then s
  else if c.kind = 4 then
    let (ms, e) := ohParse 236 [] c.body
    let s := s.countOhErrors (rg / 8) (rg % 8) e
    s.each (ms.filter (fun m => m.1 == 0x30)) (fun s m => s.manifestIn rg m.2)
  else
    let e := s.entry c.flow
    let kindOk := c.kind == entryKind e + 1 || (c.kind == 2 && entryKind e == 2)
    if s.integ.flowBad.contains c.flow then s
    else if entryOn e && kindOk && s.acceptsOn c.flow rg then
      let s := s.takeover c.flow
      if c.kind = 3 then (if s.standbyFlow c.flow || s.basin.checkpoint.isSome then s else s.durableRx rg c)
      else if s.standbyFlow c.flow then s
      else s.deliverCell rg c
    else s.misrouted c.flow

/-- The in-order point the receiver can hand over to: N, past the held cells that follow it consecutively (R323). -/
def contiguousN (x : Flow) : Nat → Nat → Nat
  | 0, n => n
  | k + 1, n => if x.rxHeld.any (fun h => h.seq == n) then contiguousN x k (seqNext n) else n

/-! ### Manifest entries to send (R283) -/

/-- The bytes of a manifest entry. -/
def entryBytes (f sq e : Nat) : List Byte := beBytes 2 f ++ beBytes 6 sq ++ beBytes 2 e

/-- The lowest held sequence of a receiver, past N. -/
def lowestHeld (x : Flow) : Option Nat :=
  match x.rxHeld with
  | [] => none
  | h :: t => some (t.foldl (fun a q => if precedes q.seq a then q.seq else a) h.seq)

/-- The entries of one flow: the cumulative entry and, where cells are held, its gap entry. -/
def Flow.manifest (x : Flow) (f : Nat) : List (List Byte) :=
  entryBytes f x.rn x.er :: (match lowestHeld x with
    | some q => if x.er = 0 then [] else [entryBytes f q x.er]
    | none => [])

/-- Insertion by FLOW_PRECEDENCE from high to low and then ascending flow. -/
def State.byPrecedence (s : State) (l : List Nat) : List Nat :=
  (List.range 8).reverse.flatMap (fun p => l.filter (fun f => s.precedence f == p))

/-- The flows whose entries a group's frame carries, in the order of R283; the second part is item 3's. -/
def State.manifestOrder (s : State) (rg : Nat) : List Nat × List Nat :=
  let fl := s.durableFlows.filter (fun f => s.flowGroup f == rg && !s.standbyFlow f && s.basin.checkpoint.isNone)
  let advanced (f : Nat) : Bool :=
    let x := s.flow f
    x.er != 0 && (match x.sentN with
      | some (n, e) => n != x.rn || e != x.er
      | none => true)
  let a := s.byPrecedence (fl.filter advanced)
  let z := fl.filter (fun f => !advanced f && (s.flow f).er == 0)
  let rest := fl.filter (fun f => !advanced f && (s.flow f).er != 0)
  let last := tget (fun _ => 0) s.basin.manifestTurn rg
  (a ++ z, rest.filter (fun f => decide (last ≤ f)) ++ rest.filter (fun f => decide (f < last)))

/-- Pack units of one or two entries into MANIFEST values of at most `cap` entries each, within a room of bytes, a message
taking two bytes beside its entries: the values, and how many units were placed. -/
def packEntries (cap : Nat) : Nat → List (List (List Byte)) → List (List Byte) → Nat → List (List Byte) × Nat
  | _, [], cur, n => (if cur.isEmpty then [] else [cur.flatten], n)
  | room, u :: t, cur, n =>
    let add := 10 * u.length
    if cur.isEmpty then
      if room < add + 2 then ([], n) else packEntries cap (room - add - 2) t u (n + 1)
    else if cur.length + u.length ≤ cap ∧ add ≤ room then packEntries cap (room - add) t (cur ++ u) (n + 1)
    else if add + 2 ≤ room then
      let (ms, n') := packEntries cap (room - add - 2) t u (n + 1)
      (cur.flatten :: ms, n')
    else ([cur.flatten], n)

/-- Control cells: at most `n` of them, each with one MANIFEST message of at most 23 entries (R243, R244). -/
def packControl : Nat → List (List (List Byte)) → List (List Byte) × Nat
  | 0, _ => ([], 0)
  | _, [] => ([], 0)
  | n + 1, us =>
    let (ms, k) := packEntries 23 232 us [] 0
    match ms with
    | [] => ([], 0)
    | m :: _ =>
      let k1 := if ms.length = 1 then k else (us.foldl (fun (a : Nat × Nat) u =>
        if 10 * (a.1 + u.length) ≤ m.length then (a.1 + u.length, a.2 + 1) else (m.length, a.2)) (0, 0)).2
      let (ms', k') := packControl n (us.drop k1)
      (m :: ms', k1 + k')

/-- The manifest part of a group's frame (R283, R240, R244): overhead messages within a room, control cells, and the state
with the placed entries marked sent. -/
def State.manifestFill (s : State) (rg room slots : Nat) : State × List (List Byte) × List Cell :=
  let (a, b) := s.manifestOrder rg
  let flows := a ++ b
  let units := flows.map (fun f => (s.flow f).manifest f)
  let (ms, n) := packEntries 25 room units [] 0
  let (cs, k) := packControl (slots / 8) (units.drop n)
  let placed := flows.take (n + k)
  let s := s.each placed (fun s f => let x := s.flow f; s.setFlow f { x with sentN := some (x.rn, x.er) })
  let lastB := (placed.drop a.length).getLast?
  let s := match lastB with
    | some f => { s with basin.manifestTurn := tset (fun _ => 0) s.basin.manifestTurn rg (f + 1) }
    | none => s
  let s := s.incBy (Obj.ohOverflowMessages (rg / 8) (rg % 8)) cs.length
  (s, ms, cs.map (fun m => { kind := 4, body := ohMessage (0x30, m) }))

/-! ### Filling cell slots (R244, R280) -/

/-- The next flow of a round robin: the lowest at or above a mark, else the lowest. -/
def nextTurn (mark : Nat) (qs : List (Nat × List Cell)) : Option (Nat × List Cell) :=
  match qs.filter (fun q => !q.2.isEmpty) with
  | [] => none
  | q :: t =>
    let live := q :: t
    match live.filter (fun q => decide (mark ≤ q.1)) with
    | a :: _ => some a
    | [] => some q

/-- Serve queues of one precedence one cell per turn, ascending flows after the flow last served: the cells in order of
service, what is left, and the mark. Queues are in ascending flow order. -/
def serveTurns : Nat → Nat → List (Nat × List Cell) → List Cell × List (Nat × List Cell) × Nat
  | 0, mark, qs => ([], qs, mark)
  | n + 1, mark, qs =>
    match nextTurn mark qs with
    | some (f, c :: rest) =>
      let (cs, qs', m) := serveTurns n (f + 1) (qs.map (fun q => if q.1 == f then (f, rest) else q))
      (c :: cs, qs', m)
    | _ => ([], qs, mark)

/-- The key of a round-robin position (R280). -/
def turnKey (rg item p : Nat) : Nat := (8 * rg + item) * 8 + p

/-- Serve one list of a group's frame from precedence 7 down to 0 (R280): the cells placed, and the state with the
round-robin positions. -/
def State.serveList (s : State) (rg item : Nat) (queues : List (Nat × List Cell)) : Nat → Nat → State × List Cell
  | 0, _ => (s, [])
  | p + 1, free =>
    let qs := queues.filter (fun q => s.precedence q.1 == p)
    let (cs, _, m) := serveTurns free (tget (fun _ => 0) s.basin.turn (turnKey rg item p)) qs
    let s := { s with basin.turn := tset (fun _ => 0) s.basin.turn (turnKey rg item p) m }
    let (s, rest) := s.serveList rg item queues p (free - cs.length)
    (s, cs ++ rest)

/-- A held cell as it goes into a frame (R287, R288): a void cell where it cannot be read. DEDUCED: log entry 27. -/
def State.heldCell (s : State) (f : Nat) (h : Held) : Cell :=
  if h.lost then
    { flow := f, kind := 3, sof := true, eof := true, bad := true, retx := true, seq := h.seq, epoch := (s.flow f).epoch,
      body := [0#8] }
  else { (s.slot h.slot).cell with retx := h.due || decide (0 < h.times) }

/-- A held cell stands in item 3's list: due, or a void cell not yet sent. -/
def Held.resend (h : Held) : Bool := h.due || (h.lost && h.times == 0)

/-- Replace the held cells that cannot be read by void cells (R288): their slots read POISON. -/
def State.voidCells (s : State) (f : Nat) (sel : Held → Bool) : State :=
  let x := s.flow f
  let bad := x.held.filter (fun h => !h.lost && sel h)
  if bad.isEmpty then s
  else
    let s := s.setFlow f { x with held := x.held.map (fun h => if bad.contains h then { h with lost := true } else h),
                                  basinLost := x.basinLost + bad.length }
    let s := s.each (upto 8 (fun p => bad.any (fun h => slotPort h.slot == p))) (fun s p =>
      s.raiseLimitedItem 0xC095 (0x3520 + p) f (bad.filter (fun h => slotPort h.slot == p)).length f)
    s.freeHeld (bad.map (fun h => { h with lost := false }))

/-- Mark the held cells of a flow whose sequences were placed as sent (R287). -/
def State.markSent (s : State) (f : Nat) (seqs : List Nat) : State :=
  let x := s.flow f
  let again := (x.held.filter (fun h => seqs.contains h.seq && decide (0 < h.times))).length
  let s := s.setFlow f { x with resent := x.resent + again, held := x.held.map (fun h =>
    if seqs.contains h.seq then { h with sent := s.core.tick, times := h.times + 1, due := false } else h) }
  s.incBy Obj.cellsResent again

/-- The durable flows of a group that may place cells (R280, R290, R321): not frozen, not a standby's. -/
def State.senders (s : State) (rg : Nat) : List Nat :=
  s.durableFlows.filter (fun f => s.flowGroup f == rg && ((s.flow f).state == 1 || (s.flow f).state == 3) && !s.standbyFlow f)

/-- Items 3 to 5 of the ladder in its order (R278, R280). -/
def State.ladderItems (s : State) : List Nat :=
  let v := s.rdN Obj.ladder
  ([bitsOf v 15 12, bitsOf v 11 8, bitsOf v 7 4, bitsOf v 3 0]).filter (fun i => i != 2)

/-- Take placed cells off a prompt or standard queue. -/
def State.unqueue (s : State) (f n : Nat) : State :=
  let x := s.flow f
  s.setFlow f { x with queue := x.queue.drop n }

/-- Serve one item of the ladder (R280). -/
def State.serveItem (s : State) (rg item free : Nat) : State × List Cell :=
  if item = 5 then
    let fl := s.flowsOn.filter (fun f => s.flowGroup f == rg && entryKind (s.entry f) != 0 && !s.standbyFlow f)
    let (s, cs) := s.serveList rg 5 (fl.map (fun f => (f, (s.flow f).queue.map (·.cell)))) 8 free
    (s.each fl (fun s f => s.unqueue f (cs.filter (fun c => c.flow == f)).length), cs)
  else
    let fl := s.senders rg
    let pick (h : Held) : Bool := (h.lost || s.portServes (slotPort h.slot)) && if item = 3 then h.resend else h.times == 0 && !h.resend
    let s := if item = 3 then s.each fl (fun s f => s.voidCells f (fun h => h.due && (s.slot h.slot).st == 3)) else s
    let (s, cs) := s.serveList rg item (fl.map (fun f => (f, ((s.flow f).held.filter pick).map (s.heldCell f)))) 8 free
    (s.each fl (fun s f => s.markSent f ((cs.filter (fun c => c.flow == f)).map (·.seq))), cs)

/-- Serve the ladder's items in order (R280). -/
def State.serveItems (s : State) (rg : Nat) : List Nat → Nat → State × List Cell
  | [], _ => (s, [])
  | i :: t, free =>
    let (s, cs) := s.serveItem rg i free
    let (s, rest) := s.serveItems rg t (free - cs.length)
    (s, cs ++ rest)

/-- Prompt cells of a group's frame (R244, R280, Table 11.2): served by precedence; every cell not placed is discarded. -/
def State.servePrompt (s : State) (rg slots : Nat) : State × List Cell :=
  let fl := s.flowsOn.filter (fun f => s.flowGroup f == rg && entryKind (s.entry f) == 0)
  let live := fl.filter (fun f => !s.standbyFlow f)
  let (s, cs) := s.serveList rg 2 (live.map (fun f => (f, (s.flow f).queue.map (·.cell)))) 8 slots
  let left := fl.foldl (fun a f => a + ((s.flow f).queue.length - (cs.filter (fun c => c.flow == f)).length)) 0
  let s := s.each fl (fun s f => s.setFlow f { (s.flow f) with queue := [] })
  (s.incBy Obj.promptDiscards left, cs)

/-- Standard cells that have waited STANDARD_MAX_WAIT frames are discarded (Table 11.2). -/
def State.ageStandard (s : State) (rg : Nat) : State :=
  let fl := s.flowsOn.filter (fun f => s.flowGroup f == rg && entryKind (s.entry f) != 0)
  let w := s.rdN Obj.standardMaxWait
  s.each fl (fun s f =>
    let x := s.flow f
    let old := x.queue.filter (fun q => decide (q.cut + w ≤ s.core.tick))
    (s.setFlow f { x with queue := x.queue.filter (fun q => decide (s.core.tick < q.cut + w)) }).incBy Obj.standardDrops old.length)

/-- The queues of a group in outage are discarded (Table 11.2). -/
def State.outageDiscard (s : State) (rg : Nat) : State :=
  let fl := s.flowsOn.filter (fun f => s.flowGroup f == rg)
  s.each fl (fun s f =>
    let x := s.flow f
    let n := x.queue.length
    (s.setFlow f { x with queue := [] }).incBy (if entryKind (s.entry f) = 0 then Obj.promptDiscards else Obj.standardDrops) n)

/-- CELL_SLOT_FILL (R244, R280): the cells of a group's frame of N_c slots, with its manifest messages in the room the
overhead channel has left. -/
def State.fillSlots (s : State) (rg slots room : Nat) : State × List (List Byte) × List Cell :=
  let (s, prompt) := s.servePrompt rg slots
  let (s, ms, ctl) := s.manifestFill rg room (min slots ((slots - prompt.length) * 8))
  let free := slots - prompt.length - ctl.length
  let (s, rest) := s.serveItems rg s.ladderItems free
  (s.ageStandard rg, ms, prompt ++ ctl ++ rest)

/-! ### Resends -/

/-- RETX_TIMEOUT (R287): cells of a flow sent ACK_RTT + RETX_GUARD ticks ago become due; those that cannot be read are
replaced by void cells (R288, R294). -/
def execRetxTimeout (f : Fin 4096) (noise : List (Nat × List (Nat × Byte))) (s : State) : Host.Outcome State Fault Refusal :=
  let x := s.flow f
  if x.state = 1 ∨ x.state = 3 then
    let limit := s.rttOf f + s.rdN Obj.retxGuard
    let x := { x with held := x.held.map (fun h =>
      if 0 < h.times ∧ h.sent + limit ≤ s.core.tick then { h with due := true } else h) }
    let s := s.setFlow f x
    let s := s.readHeld (x.held.filter (fun h => h.due && noise.any (fun q => q.1 == h.seq))) noise
    .next (s.voidCells f (fun h => h.due && (s.slot h.slot).st == 3))
  else .next s

/-! ### Flow-table changes (R275, R282) -/

/-- FLOW_DISABLE (R275): a flow is disabled at a boundary. -/
def State.flowDisable (s : State) (f : Nat) : State :=
  let x := s.flow f
  let s := s.incBy Obj.disableDiscards x.held.length
  let s := match s.frame.openFrames.find? (fun p => p.1 == f) with
    | some (_, o) =>
      ({ s with frame.openFrames := tdel f s.frame.openFrames }).inc (Obj.clientFramesDiscarded (o.rg / 8) (o.rg % 8))
    | none => s
  let s := s.setFlow f { epochs := x.epochs, resent := x.resent, duplicates := x.duplicates,
                         reserveLosses := x.reserveLosses, basinLost := x.basinLost, resyncs := x.resyncs }
  let s := { s with basin.drain := s.basin.drain.filter (fun q => q.1 != f) }
  s.freeHeld (x.held ++ x.rxHeld)

/-- A flow is enabled: its counters restart and, once durable service runs, a durable flow's epoch starts (R275, R282). -/
def State.flowEnable (s : State) (f : Nat) : State :=
  let x := s.flow f
  let s := s.setFlow f { epochs := x.epochs }
  if entryKind (s.entry f) = 2 ∧ s.basin.accepted then s.durableStart f else s

/-- FLOW_ENTRY applied at step 8 (R273, R275): an enable, a disable, or another change. -/
def State.flowApply (s : State) (f : Nat) (v : Int) : State :=
  let was := entryOn (s.entry f)
  let on := entryOn v.toNat
  let s := if was && !on then s.flowDisable f else s
  let s := s.wr (flowKey f) v
  let s := if on && !was then s.flowEnable f else s
  s.wrN Obj.flowsEnabled s.flowsOn.length

/-- Check 9 of a FLOW_ENTRY write (R274): against the entry as the prospective configuration has it. -/
def State.flowEntryOk (s : State) (f v : Nat) : Bool :=
  let old := s.prdN (flowKey f)
  !entryOn v ||
    (decide (0 < portWidthIn (s.prdN (Obj.groupLayout (entryBerth v / 8))) (entryBerth v)) &&
      (!entryOn old || (entryKind v == entryKind old && entryReach v == entryReach old && entryGroup v == entryGroup old)))

/-- A LADDER value is a permutation of 2, 3, 4 and 5 (R278). -/
def ladderOk (v : Nat) : Bool :=
  ([2, 3, 4, 5]).all (fun i => ([bitsOf v 15 12, bitsOf v 11 8, bitsOf v 7 4, bitsOf v 3 0]).contains i)

/-- Check 9 of a water-mark write (R300): 0 HIGH_WATER, 1 RELEASE_WATER, 2 LAST_RESERVE. -/
def State.waterMarksOk (s : State) (which v : Nat) : Bool :=
  let hw := if which = 0 then v else s.prdN Obj.highWater
  let rw_ := if which = 1 then v else s.prdN Obj.releaseWater
  let lr := if which = 2 then v else s.prdN Obj.lastReserve
  decide (rw_ + 100 ≤ hw ∧ hw + lr + 100 ≤ 10000)

/-! ### Freeze and drain (Table 11.6) -/

/-- Freeze applied to a flow. -/
def State.freeze (s : State) (f : Nat) : State :=
  let x := s.flow f
  if x.state = 1 then s.setFlow f { x with state := 2, reconcile := 0, entered := false }
  else if x.state = 3 then
    let s := s.setFlow f { x with state := 2, reconcile := 0, entered := false, drain := [] }
    if s.opRunning 7 then { s.opAbort 7 0 with basin.drain := [] } else s
  else s

/-- A flow's drain starts: every held cell due; ACK_RTT is 32 (Table 11.6). -/
def State.drainFlow (s : State) (f : Nat) : State :=
  let x := s.flow f
  let s := s.setFlow f { x with state := 3, held := x.held.map (fun h => { h with due := true }),
                                drain := x.held.map (·.seq), reconcile := 0 }
  s.rttClear (s.flowGroup f)

/-- DRAIN_DONE (R290): flows whose drain cells are all acknowledged return to ACTIVE, and record 0x1187 follows. -/
def State.drainStep (s : State) : State :=
  let s := s.each s.durableFlows (fun s f =>
    let x := s.flow f
    if x.state = 3 ∧ x.drain.isEmpty then s.setFlow f { x with state := 1 } else s)
  if s.opRunning 7 then
    let s := s.opAdvance 7 (s.basin.drainEnd - s.basin.drain.length)
    if s.basin.drain.isEmpty then s.opDone 7 else s
  else s

/-! ### Basin ports -/

/-- A basin port begins link training (Table 11.8). -/
def State.basinTrain (s : State) (p : Nat) : State :=
  (s.wrN (Obj.basinPortState p) 1).setBport p { (s.bport p) with trainAt := s.core.tick, filled := false }

/-- A port loses its contents (R292): void cells for the sender's, receiver cells discarded, its pages gone. -/
def State.portContentsLost (s : State) (p : Nat) : State :=
  let mine (h : Held) : Bool := !h.lost && slotPort h.slot == p
  let s := s.each s.flowsOn (fun s f =>
    let s := s.voidCells f mine
    let x := s.flow f
    s.setFlow f { x with rxHeld := x.rxHeld.filter (fun h => !mine h) })
  ({ s with basin.pages := s.basin.pages.filter (fun q => q.1 / pageBase != p),
            basin.slots := s.basin.slots.filter (fun q => slotPort q.1 != p) }).waterCheck

/-- Every durable flow starts afresh with nothing held, and no page is in use: the flow states and the page map are gone.
DESIGN CHOICE: log entry 120. -/
def State.flowsAfresh (s : State) : State :=
  let s : State := { s with basin.checkpoint := none, basin.flows := [], basin.pages := [] }
  s.onlyIf s.basin.accepted (fun s => s.each s.durableFlows State.durableStart)

/-- The consignment unit writes its flow states and page map into the lowest-numbered UP port (R491).
DESIGN CHOICE: log entry 120. -/
def State.checkpointWrite (s : State) : State :=
  match s.upPorts with
  | [] => s
  | p :: _ => { s with basin.checkpoint := some ⟨p, s.basin.flows, s.basin.pages⟩ }

/-- The checkpoint is read back once its port's link is up, before any basin port is released (R492). What waited in a queue was in
the hub core. DESIGN CHOICE: log entry 120. -/
def State.checkpointRead (s : State) (p : Nat) : State :=
  match s.basin.checkpoint with
  | none => s
  | some c =>
    if c.port = p then
      { s with basin.checkpoint := none, basin.flows := c.flows.map (fun q => (q.1, { q.2 with queue := [] })),
               basin.pages := c.pages }
    else s

/-- The port that holds the checkpoint loses its contents. DESIGN CHOICE: log entry 120. -/
def State.checkpointLost (s : State) (p : Nat) : State :=
  s.onlyIf (s.basin.checkpoint.any (fun c => c.port == p)) State.flowsAfresh

/-- A port enters FAILED (Table 11.8): what it holds, in UP or kept over SELF_REFRESH, is lost (R288). -/
def State.basinFail (s : State) (p cause : Nat) : State :=
  let s := ((s.checkpointLost p).portContentsLost p).setBport p { (s.bport p) with contents := false }
  (s.wrN (Obj.basinPortState p) 5).raise 0xC096 (0x3520 + p) cause

/-- BASIN_LINK_LOST (R292): an UP port loses its link, or its expander reports an event of fatal severity. -/
def execBasinLinkLost (p : Fin 8) (fatalEvent : Bool) (s : State) : Host.Outcome State Fault Refusal :=
  if s.rdN (Obj.basinPortState p) = 3 then
    let s := s.basinFail p (if fatalEvent then 1 else 0)
    .next (s.onlyIf (!fatalEvent) (fun s => s.inc (Obj.linkDowns p)))
  else .next s

/-- A port's domain is switched off (Table 11.8): contents lost; a request whose target is OFF reports cause 3. -/
def State.basinOff (s : State) (p : Nat) (byRequest : Bool) : State :=
  let s := if byRequest then s.basinFail p 3 else (s.checkpointLost p).portContentsLost p
  let s := ((s.wrN (Obj.basinPortState p) 0).wrN (Obj.linkRate p) 0).wrN (Obj.linkWidth p) 0
  s.setBport p { retired := (s.bport p).retired }

/-- A port's fill starts: every slot of it is as a fill leaves it, GENERATION and STATE 0, and no page is in use (R293, R107). -/
def State.slotsFilled (s : State) (p : Nat) : State :=
  { s with basin.pages := s.basin.pages.filter (fun q => q.1 / pageBase != p),
           basin.slots := s.basin.slots.filter (fun q => slotPort q.1 != p) }

/-- A port is released at step 11 (R292, R295): UP, its STOCKPILE_RESERVE takes effect, and a page whose
read-back failed in the fill retires (R467). -/
def State.basinRelease (s : State) (p : Nat) : State :=
  let s := s.wrN (Obj.basinPortState p) 3
  let s := (s.setBport p { (s.bport p) with filled := false, reserve := s.rdN Obj.stockpileReserve }).withholdPages p
  let s := s.each (s.bport p).fillBad (fun s n => s.retirePage p n)
  s.setBport p { (s.bport p) with fillBad := [] }

/-- The basin's figures at a boundary (R295–R297): USABLE_SLOTS, RESERVE_PAGES_FREE, DURABLE_INGRESS and HOLD_TIME over the
last 1,000 ticks, the write queue after what the expanders took. HOLD_TIME is rounded down, as the section's example has it.
DESIGN CHOICE: log entry 21. -/
def State.basinFigures (s : State) (drained : Nat) : State :=
  let ports := upto 8 (fun p => s.rdN (Obj.basinPortState p) == 2 || s.rdN (Obj.basinPortState p) == 3)
  let gone (p : Nat) : Nat := (s.bport p).withheld.length + (s.bport p).retired.length + (s.takenPages p).length
  let usable := ports.foldl (fun a p => a + (s.rdN (Obj.slots p) - 4096 * gone p)) 0
  let s := (s.wrN Obj.usableSlots usable).wrN Obj.reservePagesFree (ports.foldl (fun a p => a + (s.bport p).withheld.length) 0)
  let s := s.drainQueue drained
  let h := (s.basin.cutNow :: s.basin.cuts).take 1000
  let s := { s with basin.cuts := h, basin.cutNow := (0, 0) }
  let cells : Nat := h.foldl (fun a c => a + c.1) 0
  let bytes : Nat := h.foldl (fun a c => a + c.2) 0
  -- bytes · 8 bits over 1,000 ticks of 10 µs, in Mb/s
  let (mbps, s) := s.roundFree (bytes * 8) 10000
  let s := s.wrN Obj.durableIngress mbps
  let s := s.queueCheck.waterCheck
  -- ticks at or above the high-water mark
  let s := s.onlyIf (s.basin.high && decide (s.rdN Obj.highWater * s.rdN Obj.usableSlots ≤ 10000 * s.rdN Obj.usedSlots))
    (fun s => { s with basin.highTicks := s.basin.highTicks + 1 })
  if cells = 0 then s.wrN Obj.holdTime 0xFFFFFFFF
  else s.wrN Obj.holdTime (min ((s.rdN Obj.usableSlots - s.rdN Obj.usedSlots) * 1000 / (cells * 100)) 0xFFFFFFFE)

/-- SENDER_STATE and GROUP_HELD of every group (R302). -/
def State.groupFigures (s : State) : State :=
  let fl := s.durableFlows
  s.each (List.range 32) (fun s rg =>
    let mine := fl.filter (fun f => s.flowGroup f == rg)
    let st := if mine.any (fun f => (s.flow f).state == 3) then 2
      else if mine.any (fun f => (s.flow f).state == 2) then 1 else 0
    let s := (s.wrN (Obj.senderState (rg / 8) (rg % 8)) st).wrN (Obj.groupHeld (rg / 8) (rg % 8))
      (mine.foldl (fun a f => a + (s.flow f).held.length) 0)
    s.showRtt rg)

/-! ### Ranks (R224) -/

/-- The ladder position, 2 to 5, of an item. -/
def State.ladderPosition (s : State) (item : Nat) : Nat :=
  let v := s.rdN Obj.ladder
  2 + (([bitsOf v 15 12, bitsOf v 11 8, bitsOf v 7 4, bitsOf v 3 0]).takeWhile (fun i => i != item)).length

/-- The rank that the ladder gives a group (R224): the best position of an item that concerns a kind of its flows. -/
def State.ladderRank (s : State) (rg : Nat) : Nat :=
  let kinds := (s.flowsOn.filter (fun f => s.flowGroup f == rg)).map (fun f => entryKind (s.entry f))
  let pos (k : Nat) : Nat := if k = 0 then s.ladderPosition 2 else if k = 1 then s.ladderPosition 5
    else min (s.ladderPosition 3) (s.ladderPosition 4)
  kinds.foldl (fun a k => min a (pos k)) 8

/-- RANK_IN_FORCE of every group (R224). -/
def State.showRanks (s : State) : State :=
  s.each (List.range 32) (fun s rg =>
    let k := s.rdN (Obj.poolRank (rg / 8) (rg % 8))
    s.wrN (Obj.rankInForce (rg / 8) (rg % 8)) (if k = 0 then s.ladderRank rg else k))

end Sys2Proof.Machine
end

