-- ==== Sys2Proof/Machine/Line.lean ====
section
/-! DEFINITION. What a group sends on the line: the bytes of its frame with their segment checks (R233–R235, R333, R334), the
information stream with the outer code (R214, R215), codewords (R212, R213), slots (R217, R218), and the points that each
sub-carrier launches (R153, R154, R156, R157). -/
namespace Sys2Proof.Machine

/-! ### Segments (R333, R334) -/

/-- COUNTER of segment j of the frame of a tick (R334). -/
def segCounter (t0 tick j : Nat) : Nat := 256 * ((tick % 2 ^ 32 + 2 ^ 32 - t0 % 2 ^ 32) % 2 ^ 32) + j

/-- The nonce of a segment (R334): SALT, then COUNTER. -/
def segNonce (salt : List Byte) (t0 tick j : Nat) : List Byte := salt ++ beBytes 8 (segCounter t0 tick j)

/-- A sealed segment (R333): ciphertext and tag of its payload under a key of 32 bytes and its SALT. -/
def sealSegment (key header plain : List Byte) (t0 tick j : Nat) : List Byte × List Byte :=
  gcmSeal (key.take 32) (segNonce (key.drop 32) t0 tick j) (header ++ beBytes 2 j) plain

/-- A segment opened (R333): its payload, or none where the tag does not verify. -/
def openSegment (key header cipher tag : List Byte) (t0 tick j : Nat) : Option (List Byte) :=
  gcmOpen (key.take 32) (segNonce (key.drop 32) t0 tick j) (header ++ beBytes 2 j) cipher tag

/-- A segment as it is sent, with its check (R235): sealed under a traffic key whose epoch took effect at a tick, or in clear. -/
def segmentSent (key : Option (List Byte × Nat)) (header plain : List Byte) (tick j : Nat) : List Byte :=
  match key with
  | some (k, t0) => let (c, tag) := sealSegment k header plain t0 tick j; c ++ tag
  | none => plain ++ segmentCheck plain

/-! ### The frame's bytes (R233, R234) -/

/-- The frame payload (R234): the overhead channel, the cells, and zeros: slots past the list hold idle cells. -/
def MapC.payloadBytes (m : MapC) (oh : List Byte) (cells : List Cell) : List Byte :=
  let body := oh ++ cells.flatMap Cell.bytes
  body ++ List.replicate (m.payload - body.length) 0#8

/-- The Fb bytes of a frame (R234): its header, its segments, and a remainder of zeros. -/
def MapC.lineBytes (m : MapC) (key : Option (List Byte × Nat)) (header oh : List Byte) (cells : List Cell) (tick : Nat) :
    List Byte :=
  let segs := (runs m.segments 32768 (m.payloadBytes oh cells)).zipIdx.flatMap (fun p => segmentSent key header p.1 tick p.2)
  header ++ segs ++ List.replicate (m.frameBytes - 32 - segs.length) 0#8

/-- A segment sent as zeros with a zero check (R331). -/
def MapC.blankSegment (m : MapC) (bytes : List Byte) (j : Nat) : List Byte :=
  let a := 32 + 32784 * j
  let n := m.segmentPayload j + 16
  bytes.take a ++ List.replicate (min n (bytes.length - a)) 0#8 ++ bytes.drop (a + n)

/-! ### The information stream and the codewords (R212–R215, R233) -/

/-- A byte's bits, bit 7 first (R233). -/
def byteBits (b : Byte) : List Bool := (List.range 8).map (fun i => b.getLsbD (7 - i))

/-- Bits of a frame (R233): its bytes, and zeros up to F. -/
def MapC.bitsOf (m : MapC) (bytes : List Byte) : List Bool :=
  bytes.flatMap byteBits ++ List.replicate (m.frameBits - 8 * bytes.length) false

/-- A number from bits, the first the most significant. -/
def natOfBits (l : List Bool) : Nat := l.foldl (fun a b => 2 * a + (if b then 1 else 0)) 0

/-- The n bits of a number, most significant first. -/
def bitsOfNat (n v : Nat) : List Bool := (List.range n).map (fun i => v.testBit (n - 1 - i))

/-- An RS codeword's 5,440 bits from its 5,140 message bits (R215): 514 message symbols of 10 bits, then 30 check symbols. -/
def rsBits (msg : List Bool) : List Bool :=
  msg ++ (rsCheck ((runs 514 10 msg).map natOfBits)).flatMap (bitsOfNat 10)

/-- The information stream of C·k bits (R214, R233): with the outer code on, RS codewords end to end and pad bits of 0. -/
def MapC.stream (m : MapC) (bits : List Bool) : List Bool :=
  if m.outer = 1 then
    (runs m.rsWords 5140 bits).flatMap rsBits ++ List.replicate (m.streamBits - 5440 * m.rsWords) false
  else bits

/-- A block of 512 bits, bit b the b-th of a list. -/
def blockOf (l : List Bool) : BitVec 512 := BitVec.ofNat 512 (natOfBits l.reverse)

/-- The 60 column blocks of the codeword of k information bits (R209, R212). -/
def ldpcBlocks (rate : Nat) (info : List Bool) : List (BitVec 512) :=
  let u := (runs (ldpcInfoCols rate) 512 info).map blockOf
  (List.range 60).map (ldpcCodeword rate (fun j => u.getD j 0))

/-- The codewords of a frame's bytes (R214): codeword c carries stream bits c·k to c·k + k − 1. -/
def MapC.encode (m : MapC) (bytes : List Byte) : List (List (BitVec 512)) :=
  (runs m.codewords (ldpcK m.rate) (m.stream (m.bitsOf bytes))).map (ldpcBlocks m.rate)

/-! ### Slots (R213, R217, R218) -/

/-- The coded bit in slot u (R213, R218): a bit of a codeword, or a tail bit. -/
def slotValue (words : List (List (BitVec 512))) (u : Nat) : Bool :=
  match slotBit words.length u with
  | some (c, v) => ((words.getD c []).getD (v / 512) 0).getLsbD (v % 512)
  | none => tailBit (u - 30720 * words.length) (BitVec.allOnes 31)

/-- The slot that carries bit v of codeword c of C: the de-interleaver (R218). -/
def slotOf (n c v : Nat) : Nat := n * (60 * (v % 512) + v / 512) + c

/-- Coded bits of a sub-carrier of code L in one polarisation before payload symbol k (R217). -/
def bitsBefore (l k : Nat) : Nat := if l % 2 = 0 then l / 2 * k else l / 2 * k + (k + 1) / 2

/-- The first slot of payload symbol k of a sub-carrier and polarisation, 0 X and 1 Y (R217). -/
def MapC.firstSlot (m : MapC) (k sc pol : Nat) : Nat :=
  (m.codes.foldl (fun a l => a + 2 * bitsBefore l k) 0) +
    ((m.codes.take (sc - m.first)).foldl (fun a l => a + 2 * symbolBits l k) 0) + pol * symbolBits (m.code sc) k

/-! ### Symbols and points (R153, R154, R156, R157) -/

/-- What symbol i of a tick is (R153). -/
inductive SymbolRole
  | training (i : Nat)
  | pilot (n : Nat)
  | payload (k : Nat)
  deriving DecidableEq, Repr

/-- The role of symbol i of a sub-carrier (R153). -/
def symbolRole (i : Nat) : SymbolRole :=
  if i < 256 then .training i
  else if (i - 256) % 32 = 0 then .pilot ((i - 256) / 32)
  else .payload (i - 256 - (i - 256) / 32 - 1)

/-- The register of R154, stage r1 in bit 0: one shift. -/
def lfsrShift (x : BitVec 11) : BitVec 11 := (x <<< 1) ||| (if x.getLsbD 10 != x.getLsbD 8 then 1#11 else 0#11)

/-- Output n of a register. -/
def lfsrOut : Nat → BitVec 11 → Bool
  | 0, x => x.getLsbD 10
  | n + 1, x => lfsrOut n (lfsrShift x)

/-- The seed of sequence q for a sub-carrier and polarisation (R154). -/
def lfsrSeed (q sc pol : Nat) : BitVec 11 := BitVec.ofNat 11 (1 + 128 * q + 2 * sc + pol)

/-- A constellation point (i + j·q)/√power: amplitudes, and the mean power that scales them to unit power (R154, R156). -/
structure Point where
  i : Int
  q : Int
  power : Nat
  deriving DecidableEq, Repr

/-- A QPSK point from two bits (R154). -/
def qpsk (b b' : Bool) : Point := ⟨if b then -1 else 1, if b' then -1 else 1, 2⟩

/-- The n-th QPSK point of a sequence (R154). -/
def sequencePoint (q sc pol n : Nat) : Point :=
  qpsk (lfsrOut (2 * n) (lfsrSeed q sc pol)) (lfsrOut (2 * n + 1) (lfsrSeed q sc pol))

/-- Gray-to-binary of a label, most significant bit first (R156). -/
def grayToBinary (label : List Bool) : Nat :=
  (label.foldl (fun (p : Nat × Bool) b => let c := p.2 != b; (2 * p.1 + (if c then 1 else 0), c)) (0, false)).1

/-- Levels of an axis that takes n bits of the label. -/
def levels (n : Nat) : Nat := 2 ^ n

/-- The amplitude that a label selects among its levels (R156). -/
def amplitude (label : List Bool) : Int := 2 * (grayToBinary label : Int) - ((levels label.length : Nat) - 1)

/-- The mean power of a constellation of m bits: (M_I² + M_Q² − 2)/3 (R156). -/
def meanPower (m : Nat) : Nat := (levels ((m + 1) / 2) ^ 2 + levels (m / 2) ^ 2 - 2) / 3

/-- The point of a label of m bits (R156): the first ⌈m/2⌉ bits are the I label, the rest the Q label. -/
def pointOf (label : List Bool) : Point :=
  let n := (label.length + 1) / 2
  ⟨amplitude (label.take n), amplitude (label.drop n), meanPower label.length⟩

/-- The point of lowest energy of a constellation of m bits that stands for a slot's symbol (R19): which of the four the spec does
not say. DEDUCED: log entry 94. -/
def lowestPoint (m u : Nat) : Point :=
  let b := Config.lowestPoint u
  let sign (x : Bool) : Int := if x then -1 else 1
  ⟨sign (b.getLsbD 0), if m / 2 = 0 then 0 else sign (b.getLsbD 1), meanPower m⟩

/-- What a payload position of code 0, or a training position of a withdrawn frame, takes from the pilot register: it goes on after
the pilots' 1,592 points (R157, R312). DEDUCED: log entry 106. -/
def fillerPoint (sc pol n : Nat) : Point := sequencePoint 3 sc pol (1592 + n)

/-- The point that symbol i of a sub-carrier and polarisation carries in the frame of a group (R153, R154, R156, R157, R312, R19):
a flit carries 256 coded bits in slot order. DEDUCED: log entry 94. DEDUCED: log entry 106. -/
def TxFrame.point (f : TxFrame) (sc pol i : Nat) : Point :=
  match symbolRole i with
  | .training n => if f.withdrawn then fillerPoint sc pol n else sequencePoint f.selector sc pol n
  | .pilot n => sequencePoint 3 sc pol n
  | .payload k =>
    let l := f.map.code sc
    if l = 0 then fillerPoint sc pol ((if f.withdrawn then 256 else 0) + k)
    else
      let m := symbolBits l k
      let u := f.map.firstSlot k sc pol
      if (List.range m).any (fun b => f.lowest.contains ((u + b) / 256)) then lowestPoint m u
      else pointOf ((List.range m).map (fun b => slotValue f.words (u + b)))

/-- What a sub-carrier of a reach launches as symbol i of the tick in progress: the point of its group's frame, to be scaled by the
square root of the power that the ramp has reached (R128, R232). None where no group sends a frame on it, or the DAC outputs are
parked (R505). -/
def State.launched (s : State) (r sc pol i : Nat) : Option Point :=
  if s.dacParked r then none
  else ((List.range 8).findSome? (fun g => (s.frame.tx.find? (fun p => p.1 == 8 * r + g && s.groupOn r g && s.groupCovers r g sc)))).map
    (fun p => p.2.point sc pol i)

/-! ### Received frames -/

/-- Segments of a decoded frame opened under a key (R333): each payload, none where the tag does not verify. -/
def DecFrame.openSeg (d : DecFrame) (m : MapC) (key : List Byte) (t0 j : Nat) : Option (List Byte) :=
  openSegment key d.header (d.segment m j) (d.segCheck m j) t0 (hdrField d.header 8 4) j

/-- Bit v of codeword c of a decoded frame reached the decoder as an erasure: its soft value lay in an uncorrectable flit, of 64
soft values in slot order (R19, R218). DEDUCED: log entry 94. -/
def DecFrame.erasedBit (d : DecFrame) (c v : Nat) : Bool :=
  d.erased.contains (slotOf (d.map.codewords) c v / 64)

end Sys2Proof.Machine
end

