-- ==== Sys2Proof/Machine/Encryption.lean ====
section
/-! DEFINITION. Chapter 13: the cipher array (R329–R332), segments and nonces (R333, R334), the key store (R335–R338), traffic
keys (R339), key states and announcements (R340–R343), rolls, limits and slot changes (R344–R347), mismatches (R348, R349). -/
namespace Sys2Proof.Machine

def State.kg (s : State) (r g : Nat) : KeyGrp := tget (fun _ => {}) s.key.grps (8 * r + g)

def State.setKg (s : State) (r g : Nat) (x : KeyGrp) : State :=
  { s with key.grps := tset (fun _ => {}) s.key.grps (8 * r + g) x }

def State.kslot (s : State) (n : Nat) : KeySlot := tget (fun _ => {}) s.key.slots n

def State.setKslot (s : State) (n : Nat) (x : KeySlot) : State :=
  { s with key.slots := tset (fun _ => {}) s.key.slots n x }

/-- The event source of a group's key record (R353). -/
def keySource (r g : Nat) : Nat := 0x3820 + 8 * r + g

/-- A group is encrypted (R349). -/
def State.encrypted (s : State) (r g : Nat) : Bool := s.rdB (Obj.encrypt r g)

/-- KEY_STATE: 0 OFF, 1 KEYING, 2 ACTIVE, 3 ROLLING, 4 SEALED (Table 13.2). -/
def State.keySt (s : State) (r g : Nat) : Nat := s.rdN (Obj.keyState r g)

/-! ### The cipher array -/

/-- N_c (R329): cores in service, none while the array is off. CORE_STATE holds each core's place in the stockpile. -/
def State.cipherCores (s : State) : Nat :=
  if s.offDom domCipher then 0
  else (upto 36 (fun c => s.rdN (Obj.cipherCoreState c) == 1 && !s.key.withdrawn.contains c)).length

/-- Show CORES_IN_SERVICE and CAPACITY_BYTES (R329, R351). DEDUCED: log entry 16. -/
def State.cipherCapacity (s : State) : State :=
  (s.wrN Obj.cipherCoresInService s.cipherCores).wrN Obj.capacityBytes (1024000 * s.cipherCores)

/-- CIPHER_PARITY_FAULT (R332): the output is discarded and the segment re-run with the same key, nonce and input; the core
is handed to stockpile control. -/
def execCipherParityFault (core : Fin 36) (s : State) : Host.Outcome State Fault Refusal :=
  if s.rdN (Obj.cipherCoreState core) = 1 ∧ s.key.withdrawn.contains core.val = false then
    let s := (s.inc Obj.parityFaults).inc Obj.segmentsRerun
    let s := s.raise 0xC0B5 0x3801 core
    let s := { s with key.withdrawn := s.key.withdrawn ++ [core.val] }
    .next ((s.reportFailed (0x1200 + core)).cipherCapacity)
  else .next s

/-- SEGMENT_BLANKED (R331): a transmit segment not encrypted in time is sent as zeros with a zero check. -/
def execSegmentBlanked (r : Fin 4) (g : Fin 8) (segment : Nat) (s : State) : Host.Outcome State Fault Refusal :=
  match s.frame.tx.find? (fun p => p.1 == 8 * r.val + g.val) with
  | some (k, fr) =>
    if fr.epoch.isSome ∧ fr.blanked.contains segment = false then
      let bytes := fr.map.blankSegment fr.bytes segment
      let fr := { fr with blanked := fr.blanked ++ [segment], bytes := bytes, words := fr.map.encode bytes }
      let s := { s with frame.tx := tput k fr (tdel k s.frame.tx) }
      .next ((s.inc Obj.segmentsBlanked).raiseLimited 0x80B9 0x3800 1)
    else .next s
  | none => .next s

/-- ENTROPY_FAULT (R339): the source fails its health test; no nonce is drawn from then on. -/
def execEntropyFault (s : State) : Host.Outcome State Fault Refusal :=
  if s.rdN Obj.entropyState = 1 then .next s
  else .next ((s.wrN Obj.entropyState 1).raise 0xC0B8 0x3800 0)

/-- What a group may come to send: the frame payload of its map in force, or of an announced map or a FIXED candidate where that is
more. DEDUCED: log entry 16. -/
def State.payloadAhead (s : State) (r g : Nat) : Nat :=
  let x := s.load r g
  let of (m : Option MapC) : Nat := (m.map MapC.payload).getD 0
  max (s.txMap r g).payload (max (of (x.ann.map (·.map))) (if s.rdN (Obj.loadingMode r g) = 2 then of x.cand else 0))

/-- The frame payload of a reach's enabled encrypted groups with one group's map put in place (R330); the other groups count with what
they have announced, so that the cap holds once every announcement has come into force. DEDUCED: log entry 16. -/
def State.cipherLoad (s : State) (r g : Nat) (m : MapC) : Nat :=
  (s.enabledGroups r).foldl (fun a h =>
    if h = g then a + m.payload else if s.encrypted r h then a + s.payloadAhead r h else a) 0

/-- The index of a map's highest code, the highest sub-carrier on a tie. -/
def topCode (l : List Nat) : Nat :=
  (List.range l.length).foldl (fun b i => if l.getD b 0 ≤ l.getD i 0 then i else b) 0

/-- Lower a map's highest code step by step until the cipher cap holds (R330); code 4 is lowered no further. -/
def State.lowerToCap (s : State) (r g : Nat) : Nat → MapC → MapC
  | 0, m => m
  | n + 1, m =>
    let i := topCode m.codes
    if s.cipherLoad r g m ≤ 4064000 ∨ m.codes.getD i 0 ≤ 4 then m
    else s.lowerToCap r g n { m with codes := lset m.codes i (m.codes.getD i 0 - 1) }

/-- The cipher cap on a candidate that is about to be announced (R330). -/
def State.capCandidate (s : State) (r g : Nat) : State :=
  let x := s.load r g
  match x.cand with
  | none => s
  | some m =>
    if s.encrypted r g then
      let m' := s.lowerToCap r g 1024 m
      if m' = m then s
      else
        let known := (x.ann.map (fun a => a.map == m')).getD false
        let t := s.txMap r g
        let same := m'.codes == t.codes && m'.rate == t.rate && m'.outer == t.outer
        let s := s.setLoad r g { x with cand := if same then none else some m' }
        if known then s else s.inc (Obj.cipherCapped r g)
    else s

/-- Checks 9 of FIXED_APPLY beside R168's: a map of code 0 everywhere (R213), and the cipher cap (R330). -/
def State.fixedMapStatus (s : State) (r g : Nat) : Option Nat :=
  let t := s.txMap r g
  let codes := (List.range t.count).map (fun i => s.rdN (Obj.fixedLoading r (t.first + i)))
  let m : MapC := ⟨0, s.rdN (Obj.ldpcRate r g), s.rdN (Obj.outerCode r g), t.first, t.count, codes⟩
  if codes.all (· == 0) then some Status.refused
  else if s.encrypted r g && decide (4064000 < s.cipherLoad r g m) then some Status.refused
  else none

/-! ### Derivation (R339) -/

/-- Block n of the derivation. -/
def kdfBlock (master context : List Byte) (n : Nat) : List Byte :=
  aesCmac master (BitVec.ofNat 8 n ::
    ([0x47, 0x41, 0x52, 0x4D, 0x45, 0x4C, 0x45, 0x4B, 0x2D, 0x4C, 0x54, 0x4B, 0x00].map (BitVec.ofNat 8) ++ context ++
      beBytes 2 0x0120))

/-- A traffic key (32 bytes) and its SALT (4 bytes). -/
def deriveKey (master : List Byte) (label sendId recvId group epoch : Nat) (sendNonce recvNonce : List Byte) : List Byte :=
  let context := beBytes 8 label ++ beBytes 2 sendId ++ beBytes 2 recvId ++ beBytes 1 group ++ beBytes 3 epoch ++
    sendNonce ++ recvNonce
  ((kdfBlock master context 1 ++ kdfBlock master context 2 ++ kdfBlock master context 3).take 36)

/-- The slot's key for derivations: NEXT where there is one (R347), else CURRENT; with its LABEL and whether it is NEXT.
None where the slot is not MASTER. -/
def State.masterKey (s : State) (n : Nat) : Option (Bool × List Byte × Nat) :=
  let st := s.rdN (Obj.keySlotState n)
  if st = 1 ∨ st = 2 then
    match (s.kslot n).next with
    | some (k, l) => some (true, k, l)
    | none => some (false, (s.kslot n).key, s.rdN (Obj.slotLabel n))
  else none

/-- The traffic key a group sends under in an epoch. -/
def State.deriveTx (s : State) (r g epoch : Nat) : Option (Bool × List Byte) :=
  let x := s.kg r g
  match s.masterKey (s.rdN (Obj.keySlot r g)), x.peer with
  | some (nx, k, l), some p =>
    some (nx, deriveKey k l (s.rdN Obj.localPeerId) (s.rdN (Obj.peerId r g)) g epoch x.own p)
  | _, _ => none

/-- The candidate receive keys of an epoch under a peer nonce: one from CURRENT and, where there is one, one from NEXT (R347). -/
def State.deriveRx (s : State) (r g epoch : Nat) (nonce : List Byte) : List (Bool × List Byte) :=
  let x := s.kg r g
  let n := s.rdN (Obj.keySlot r g)
  let st := s.rdN (Obj.keySlotState n)
  let mk (k : List Byte) (l : Nat) : List Byte :=
    deriveKey k l (s.rdN (Obj.peerId r g)) (s.rdN Obj.localPeerId) g epoch nonce x.own
  if st = 1 ∨ st = 2 then
    (false, mk (s.kslot n).key (s.rdN (Obj.slotLabel n))) ::
      (match (s.kslot n).next with
       | some (k, l) => [(true, mk k l)]
       | none => [])
  else []

/-! ### Boot nonces -/

/-- A fresh nonce that differs from every nonce in a list (R339, R344): the first such draw. -/
def State.drawNonce (s : State) (taken : List (List Byte)) : State × List Byte :=
  let k := ((List.range 4096).find? (fun i => !taken.contains (Config.entropy (s.key.draws + i)))).getD 0
  ({ s with key.draws := s.key.draws + k + 1 }, Config.entropy (s.key.draws + k))

/-- Every group's own nonce. -/
def State.ownNonces (s : State) : List (List Byte) := (List.range 32).map (fun i => (s.kg (i / 8) (i % 8)).own)

/-- Draw a boot nonce for each of the 32 groups at a power-up of the hub core (R339). -/
def State.bootNonces (s : State) : State :=
  if s.rdN Obj.entropyState = 1 then s
  else
    let s := s.each (List.range 32) (fun s i => s.setKg (i / 8) (i % 8) { (s.kg (i / 8) (i % 8)) with own := [] })
    s.each (List.range 32) (fun s i =>
      let (s, n) := s.drawNonce s.ownNonces
      s.setKg (i / 8) (i % 8) { (s.kg (i / 8) (i % 8)) with own := n })

/-! ### Key states (Table 13.2) -/

/-- No epoch is in force on transmit: its traffic key is gone. DEDUCED: log entry 114. -/
def State.txKeyGone (s : State) (r g : Nat) : State :=
  (s.setKg r g { (s.kg r g) with txKey := none, txNext := false, roll := false, early := 0 }).wrN (Obj.keyTxEpoch r g) 0

/-- The receive keys are gone. -/
def State.rxKeysGone (s : State) (r g : Nat) : State :=
  (s.setKg r g { (s.kg r g) with rxCur := none, rxAnn := none }).wrN (Obj.keyRxEpoch r g) 0

/-- Go to KEYING with the traffic keys discarded (R341, R348). DEDUCED: log entry 114. -/
def State.toKeying (s : State) (r g : Nat) : State :=
  let s := (s.txKeyGone r g).rxKeysGone r g
  let s := s.setKg r g { (s.kg r g) with ann := none, failRun := 0, offered := false }
  (s.wrN (Obj.keyState r g) 1).wrN (Obj.sealCause r g) 0

/-- An encrypted group is enabled (Table 13.2). -/
def State.keyEnable (s : State) (r g : Nat) : State := if s.encrypted r g then s.toKeying r g else s

/-- Seal a group at step 4 (R345, R346): its transmit key is gone, and it keeps what it announces. -/
def State.sealGroup (s : State) (r g cause : Nat) : State :=
  (((s.txKeyGone r g).wrN (Obj.keyState r g) 4).wrN (Obj.sealCause r g) cause).raise 0xC0B2 (keySource r g) cause

/-- The effective tick of a key announcement first sent at t_a (R342). -/
def State.keyEffective (s : State) (r g ta : Nat) : Nat :=
  ta + max (s.rdN (Obj.keyLead r g)) (s.rdN (Obj.ackLatency r g) + 4)

/-- Announce E + 1 (R342). -/
def State.keyAnnounce (s : State) (r g : Nat) : State :=
  let x := s.kg r g
  s.setKg r g { x with ann := some ⟨x.e + 1, s.core.tick, s.keyEffective r g s.core.tick, false⟩, roll := false }

/-- The epoch would pass 16,777,215 (R344): a new boot nonce, and KEYING with E = 0. -/
def State.epochWrap (s : State) (r g : Nat) : State :=
  let s := s.toKeying r g
  if s.rdN Obj.entropyState = 1 then s.setKg r g { (s.kg r g) with e := 0, own := [] }
  else
    let (s, n) := s.drawNonce s.ownNonces
    s.setKg r g { (s.kg r g) with e := 0, own := n }

/-- The map of the tick that starts, as step 4 foresees it: a restart or a committed switch that is due acts at step 6 (R173, R175). -/
def State.mapAhead (s : State) (r g : Nat) : MapC :=
  let x := s.load r g
  if x.restart.any (fun p => decide (p.2 ≤ s.core.tick)) then s.probeMap r g
  else ((x.ann.filter (fun a => a.committed && decide (a.at_ ≤ s.core.tick))).map (·.map)).getD (s.frameMap r g s.core.tick)

/-- Segments of the frame of the tick that starts. -/
def State.txSegments (s : State) (r g : Nat) : Nat := (s.mapAhead r g).segments

/-- The frame index i of a tick (R334). -/
def frameIndex (t0 tick : Nat) : Nat := (tick % 2 ^ 32 + 2 ^ 32 - t0 % 2 ^ 32) % 2 ^ 32

/-- A committed key announcement's effective tick has come (R342). -/
def State.keyDue (s : State) (r g : Nat) : Option KeyAnn :=
  (s.kg r g).ann.filter (fun a => a.committed && decide (a.at_ ≤ s.core.tick))

/-- The hard limit is reached by the frame of the tick that starts (R345): 1 invocations, 2 epoch age. A frame under a new
epoch is not counted in the old one, and a keying frame (R332) consumes none. -/
def State.hardLimit (s : State) (r g : Nat) : Option Nat :=
  let x := s.kg r g
  if x.txKey.isNone || (s.keyDue r g).isSome then none
  else if s.released domCipher &&
      decide (s.rdN (Obj.softLimit r g) + 2 ^ 28 < s.rdN (Obj.txInvocations r g) + s.txSegments r g) then some 1
  else if 2 ^ 31 ≤ frameIndex x.t0 s.core.tick then some 2
  else none

/-- A roll trigger holds (R344). -/
def State.rollTrigger (s : State) (r g : Nat) : Bool :=
  let x := s.kg r g
  x.roll || decide (s.rdN (Obj.softLimit r g) ≤ s.rdN (Obj.txInvocations r g)) ||
    decide (2 ^ 30 ≤ frameIndex x.t0 s.core.tick)

/-- Step 4 of a boundary for one group (R341, R342, R344, R345): seal, roll or announce. -/
def State.keyState4 (s : State) (r g : Nat) : State :=
  let x := s.kg r g
  let st := s.keySt r g
  let master := (s.masterKey (s.rdN (Obj.keySlot r g))).isSome
  let paused := s.key.paused.contains (8 * r + g)
  if st = 2 ∨ st = 3 then
    match s.hardLimit r g with
    | some c => s.sealGroup r g c
    | none =>
      if st = 2 ∧ s.rollTrigger r g then
        if 16777215 < x.e + 1 then s.epochWrap r g
        else if master && x.peer.isSome then (s.keyAnnounce r g).wrN (Obj.keyState r g) 3
        else s
      else s
  else if st = 1 ∧ x.offered = false then s.setKg r g { x with offered := true }
  else if st = 1 ∨ st = 4 then
    if x.ann.isNone && x.peer.isSome && master && !x.own.isEmpty && !(paused && st == 1) then
      if 16777215 < x.e + 1 then s.epochWrap r g else s.keyAnnounce r g
    else s
  else s

/-- An announcement in a tick (R342): its own, or the postponed one where T − 4 has passed without a match. -/
def State.keyAnnDue (s : State) (r g tick : Nat) (a : KeyAnn) : KeyAnn :=
  if a.committed || decide (tick + 3 < a.at_) then a
  else { a with ta := a.at_ - 3, at_ := s.keyEffective r g (a.at_ - 3) }

/-- The announcement that a frame of a tick carries (R342): from t_a to T − 1, with the new T from the tick after T − 4 on,
whichever side of the frame KEY_POSTPONED stands. DEDUCED: log entry 17. -/
def State.keyAnnShown (s : State) (r g tick : Nat) : Option KeyAnn :=
  (s.kg r g).ann.bind (fun a =>
    let a := s.keyAnnDue r g tick a
    if tick < a.at_ then some a else none)

/-- Tick T − 4 has ended without a matching KEY_ACK (R342). -/
def State.keyPostpone (s : State) (r g : Nat) : State :=
  let x := s.kg r g
  match x.ann with
  | some a =>
    if a.committed = false ∧ a.at_ ≤ s.core.tick + 3 then
      let s := s.setKg r g { x with ann := some (s.keyAnnDue r g s.core.tick a) }
      s.raise 0x80B1 (keySource r g) a.epoch
    else s
  | none => s

/-- KEY_POSTPONED (R342). DEDUCED: log entry 17. -/
def execKeyPostponed (r : Fin 4) (g : Fin 8) (s : State) : Host.Outcome State Fault Refusal := .next (s.keyPostpone r g)

/-- A KEY_ACK that names the announced epoch by the end of tick T − 4 commits it (R342). DEDUCED: log entry 17. -/
def State.keyAckIn (s : State) (r g epoch : Nat) : State :=
  let x := s.kg r g
  match x.ann with
  | some a =>
    if !a.committed && a.epoch == epoch && decide (s.core.tick + 4 ≤ a.at_) then
      (s.setKg r g { x with ann := some { a with committed := true } }).wrN (Obj.ackLatency r g) (s.core.tick - a.ta)
    else s
  | none => s

/-- NEXT becomes CURRENT once every enabled encrypted group on the slot transmits and receives under it (R347). -/
def State.promote (s : State) (n : Nat) : State :=
  let rgs := upto 32 (fun i => s.groupOn (i / 8) (i % 8) && s.encrypted (i / 8) (i % 8) &&
    s.rdN (Obj.keySlot (i / 8) (i % 8)) == n)
  let done := rgs.all (fun i =>
    let x := s.kg (i / 8) (i % 8)
    x.txKey.isSome && x.txNext && (x.rxCur.map (fun k => k.cands.all (·.1) && !k.cands.isEmpty)).getD false)
  match (s.kslot n).next with
  | some (k, l) =>
    if done then
      let s := s.setKslot n ⟨k, none⟩
      let s := (s.wrN (Obj.keySlotState n) 1).wrN (Obj.slotLabel n) l
      let s := s.each rgs (fun s i =>
        let x := s.kg (i / 8) (i % 8)
        let base (y : RxKey) : RxKey := { y with cands := (y.cands.filter (·.1)).map (fun c => (false, c.2)) }
        s.setKg (i / 8) (i % 8) { x with txNext := false, rxCur := x.rxCur.map base, rxAnn := x.rxAnn.map base })
      s.raise 0x40B7 0x3802 (256 + n)
    else s
  | none => s

/-- The committed epoch comes into force (R342, Table 13.2). -/
def State.keySwitchOp (s : State) (r g : Nat) (a : KeyAnn) : State :=
  let x := s.kg r g
  match s.deriveTx r g a.epoch with
  | none => s
  | some (nx, k) =>
    let st := s.keySt r g
    let s := s.setKg r g { x with e := a.epoch, txKey := some k, txNext := nx, t0 := a.at_, ann := none, roll := false,
                                  early := 0, offered := false }
    let s := (((s.wrN (Obj.keyTxEpoch r g) a.epoch).wrN (Obj.txInvocations r g) x.early).wrN (Obj.keyState r g) 2).wrN
      (Obj.sealCause r g) 0
    let s := s.inc (Obj.epochSwitches r g)
    let s := if st = 3 then s.raise 0x40B0 (keySource r g) a.epoch else s.raise 0x40B3 (keySource r g) a.epoch
    s.promote (s.rdN (Obj.keySlot r g))

/-- The committed epoch whose effective tick has come is put into force (R342). -/
def State.keySwitchDue (s : State) (r g : Nat) : State :=
  match (s.kg r g).ann with
  | some a => if a.committed ∧ a.at_ ≤ s.core.tick then s.keySwitchOp r g a else s
  | none => s

/-- KEY_EPOCH_SWITCH (R342): at B_T step 4 the new epoch comes into force. DEDUCED: log entry 17. -/
def execKeyEpochSwitch (r : Fin 4) (g : Fin 8) (s : State) : Host.Outcome State Fault Refusal := .next (s.keySwitchDue r g)

/-- Step 4 of a boundary for one group: a committed switch and a missed deadline (R342), then what Table 13.2 has the group do.
DEDUCED: log entry 17. -/
def State.keyStep (s : State) (r g : Nat) : State := ((s.keySwitchDue r g).keyPostpone r g).keyState4 r g

/-- As the frame of a tick is built: a group whose segments would pass the hard limit on a map that steps 5 to 9 have changed is
sealed, and that frame is a keying frame (R345). -/
def State.sealLate (s : State) (r g : Nat) : State :=
  if s.keySt r g = 2 ∨ s.keySt r g = 3 then
    match s.hardLimit r g with
    | some c => s.sealGroup r g c
    | none => s
  else s

/-- A KEY_ANNOUNCE received (R341, R343): epoch, effective tick and the peer's boot nonce. A repeat gives a held key its tick. -/
def State.keyAnnounceIn (s : State) (r g epoch t0 : Nat) (nonce : List Byte) : State :=
  let x := s.kg r g
  let s := s.setKg r g { x with peer := some nonce }
  if epoch = 0 then
    if s.keySt r g = 2 ∨ s.keySt r g = 3 then s.toKeying r g else s
  else if (s.rdN (Obj.keyRxEpoch r g) < epoch ∨ x.rxCur.map (fun k => k.nonce) ≠ some nonce) ∧ s.keySt r g ≠ 0 ∧
      s.key.paused.contains (8 * r + g) = false then
    if x.rxAnn.map (fun k => (k.epoch, k.nonce)) = some (epoch, nonce) then
      s.setKg r g { (s.kg r g) with rxAnn := x.rxAnn.map (fun k => { k with t0 := t0 }) }
    else
      match s.deriveRx r g epoch nonce with
      | [] => s
      | cs => s.setKg r g { (s.kg r g) with rxAnn := some ⟨epoch, cs, t0, nonce⟩ }
  else s

/-- KEY_MISMATCH (R348): AUTH_FAIL_LIMIT consecutive failing frames return an ACTIVE or ROLLING group to KEYING. A group that is
already KEYING or SEALED stays so (Table 13.2, R346). DEDUCED: log entry 114. -/
def execKeyMismatch (r : Fin 4) (g : Fin 8) (s : State) : Host.Outcome State Fault Refusal :=
  if s.rdN (Obj.authFailLimit r g) ≤ (s.kg r g).failRun ∧ s.keySt r g ≠ 0 then
    let s := (s.inc (Obj.keyMismatches r g)).raiseLimited 0xC0B4 (keySource r g) 1
    if s.keySt r g = 2 ∨ s.keySt r g = 3 then .next (s.toKeying r g)
    else .next (s.setKg r g { (s.kg r g) with failRun := 0 })
  else .next s

/-! ### Reception -/

/-- The held keys that a header's KEY_EPOCH names (R343), each with whether it is the announced one. -/
def KeyGrp.keysFor (x : KeyGrp) (epoch : Nat) : List (Bool × RxKey) :=
  let named (k : Option RxKey) : List RxKey := (k.filter (fun k => k.epoch == epoch)).toList
  (named x.rxCur).map (fun k => (false, k)) ++ (named x.rxAnn).map (fun k => (true, k))

/-- The segments that the array still decrypts in a decode tick with so many bytes left (R329, R331). DEDUCED: log entry 16. -/
def MapC.fitting (m : MapC) : Nat → List Nat → List Nat
  | _, [] => []
  | room, i :: t => if m.segmentPayload i ≤ room then i :: m.fitting (room - m.segmentPayload i) t else []

/-- Decryption of an encrypted frame (R331, R333, R343, R348): the failed segments, the payload, zeros where a segment failed, and
the state. `room` is how many bytes the array can still decrypt in the decode tick. Of the candidates of the keys that the
header names, the first that verifies a segment opens the frame (R347). -/
def State.decryptFrame (s : State) (r g : Nat) (d : DecFrame) (m : MapC) (room : Nat) : State × List Nat × List Byte :=
  let segs := List.range m.segments
  let sure := segs.filter (fun i => !d.unsure m i)
  if s.released domCipher = false ∨ s.key.paused.contains (8 * r + g) then (s, segs, [])
  else
    let x := s.kg r g
    let epoch := hdrField d.header 16 3
    let run := m.fitting room sure
    let late := sure.drop run.length
    let keys := x.keysFor epoch
    let opens (k : RxKey) (c : Bool × List Byte) : Bool := run.any (fun i => (d.openSeg m c.2 k.t0 i).isSome)
    match (keys.find? (fun k => k.2.cands.any (opens k.2))).or keys.head? with
    | none =>
      let s := s.incBy (Obj.keyAuthFailures r g) run.length
      (s.setKg r g { x with failRun := if sure.isEmpty then x.failRun else x.failRun + 1 }, segs, [])
    | some (announced, k) =>
      let hit := k.cands.find? (opens k)
      let plain : List (Nat × Option (List Byte)) :=
        run.map (fun i => (i, hit.bind (fun c => d.openSeg m c.2 k.t0 i)))
      let good := (plain.filter (fun p => p.2.isSome)).map (·.1)
      let badAuth := (plain.filter (fun p => p.2.isNone)).map (·.1)
      let payload := segs.flatMap (fun i =>
        ((plain.find? (fun p => p.1 == i)).bind (·.2)).getD (List.replicate (m.segmentPayload i) 0#8))
      let s := (s.incBy Obj.segments run.length).incBy (Obj.keyAuthFailures r g) badAuth.length
      let fail := if sure.isEmpty then x.failRun else if good.isEmpty && late.isEmpty then x.failRun + 1 else 0
      let x := { x with failRun := fail }
      let first := good.contains 0
      let kept : RxKey := { k with cands := (hit.map (fun c => [c])).getD k.cands }
      let s := s.setKg r g (if first then (if announced then { x with rxCur := some kept, rxAnn := none }
        else { x with rxCur := some kept }) else x)
      let s := if first && announced then
          ((s.wrN (Obj.keyRxEpoch r g) epoch).raise 0x40B0 (keySource r g) (2 ^ 31 + epoch)).promote (s.rdN (Obj.keySlot r g))
        else if first then s.promote (s.rdN (Obj.keySlot r g)) else s
      (s, segs.filter (fun i => !good.contains i), payload)

/-! ### The key store -/

/-- KEY_IMPORT_FAILED (R337). -/
def State.importFailed (s : State) (kek : Nat) : State := (s.inc Obj.importFailures).raise 0x80B6 0x3804 kek

/-- Some enabled group names a slot in KEY_SLOT. -/
def State.slotNamed (s : State) (n : Nat) : Bool :=
  (List.range 32).any (fun i => s.groupOn (i / 8) (i % 8) && s.rdN (Obj.keySlot (i / 8) (i % 8)) == n)

/-- The key-encryption key an import entry names: the fused key of slot 0 or a WRAPPING slot's key (R335, R337). -/
def State.kek (s : State) (n : Nat) : Option (List Byte) :=
  if n = 0 then some s.key.fusedKek
  else if s.rdN (Obj.keySlotState n) = 3 then some (s.kslot n).key else none

/-- A USAGE fits a target that an enabled group names (R337): it is the target's own; an EMPTY target, whose state is no USAGE,
takes a MASTER key, since R346 has the slot filled again. DEDUCED: log entry 74. -/
def State.usageFits (s : State) (t usage : Nat) : Bool :=
  !s.slotNamed t || usage == (if s.rdN (Obj.keySlotState t) = 3 then 3 else 1)

/-- What an import entry gives (R336, R337): target, usage, label and key; none where it is rejected. -/
def State.importRecord (s : State) (e : List Byte) : Option (Nat × Nat × Nat × List Byte) :=
  let k := hdrField e 0 1
  match s.kek k with
  | none => none
  | some kek =>
    match aesUnwrap kek ((e.drop 4).take 56) with
    | none => none
    | some rec =>
      let t := hdrField rec 0 1
      let usage := hdrField rec 1 1
      if t = 0 ∨ 127 < t ∨ t = k ∨ (usage ≠ 1 ∧ usage ≠ 3) ∨ hdrField rec 2 6 ≠ 0 ∨ hdrField e 1 3 ≠ 0 ∨
          s.usageFits t usage = false then none
      else some (t, usage, hdrField rec 8 8, (rec.drop 16).take 32)

/-- Groups on a slot derive their held receive keys again, from CURRENT and NEXT; no transmitter stands on the new NEXT yet (R347). -/
def State.rederive (s : State) (n : Nat) : State :=
  s.each (upto 32 (fun i => s.rdN (Obj.keySlot (i / 8) (i % 8)) == n)) (fun s i =>
    let r := i / 8
    let g := i % 8
    let x := s.kg r g
    let again (k : RxKey) : RxKey := { k with cands := s.deriveRx r g k.epoch k.nonce }
    s.setKg r g { x with rxCur := x.rxCur.map again, rxAnn := x.rxAnn.map again, txNext := false,
                         roll := x.roll || s.keySt r g == 2 })

/-- An accepted import entry acts (R337, R347): a MASTER target takes it as NEXT, whatever its USAGE. DEDUCED: log entry 74. -/
def State.importKey (s : State) (t usage label : Nat) (key : List Byte) : State :=
  let st := s.rdN (Obj.keySlotState t)
  let s := s.inc Obj.imports
  let s := if st = 1 ∨ st = 2 then
      ((s.setKslot t { (s.kslot t) with next := some (key, label) }).wrN (Obj.keySlotState t) 2).rederive t
    else ((s.setKslot t ⟨key, none⟩).wrN (Obj.keySlotState t) usage).wrN (Obj.slotLabel t) label
  (s.raise 0x40B7 0x3802 t).promote t

/-- Import one entry: the state, and whether it was accepted. DEDUCED: log entry 74. -/
def State.importEntry (s : State) (e : List Byte) : State × Bool :=
  match s.importRecord e with
  | some (t, usage, label, key) => (s.importKey t usage label key, true)
  | none => (s.importFailed (hdrField e 0 1), false)

/-- KEY_BATCH_START accepted (R338). -/
def State.batchStart (s : State) (n : Nat) : State :=
  { (s.opStart 10 n) with key.batchLeft := n, key.batchDone := 0, key.batchAbort := false }

/-- The batch ends and its area is cleared (R338). -/
def State.batchEnd (s : State) : State := { s with key.batchLeft := 0, key.batch := [], key.batchAbort := false }

/-- KEY_BATCH_ENTRY (R338): the next entry is unwrapped and imported; the batch stops at the first one rejected. -/
def execKeyBatchEntry (s : State) : Host.Outcome State Fault Refusal :=
  if s.opRunning 10 then
    if s.key.batchAbort then .next ((s.opAbort 10 0).batchEnd)
    else
      let i := s.key.batchDone
      let (s, ok) := s.importEntry (tget (fun _ => List.replicate 60 0#8) s.key.batch i)
      if ok then
        let s := { s with key.batchDone := i + 1 }
        let s := s.opAdvance 10 (i + 1)
        .next (if s.key.batchLeft ≤ i + 1 then (s.opDone 10).batchEnd else s)
      else .next ((s.opFail 10 Status.refused).batchEnd)
  else .next s

/-- SLOT_ERASE at step 4 of a boundary (R346): the slot is empty, and every group on it is sealed with its keys zeroed.
DEDUCED: log entry 34. -/
def State.eraseSlot (s : State) (n : Nat) : State :=
  let s := ((s.setKslot n {}).wrN (Obj.keySlotState n) 0).wrN (Obj.slotLabel n) 0
  let s := s.raise 0x40B7 0x3802 (512 + n)
  s.each (upto 32 (fun i => s.rdN (Obj.keySlot (i / 8) (i % 8)) == n && s.keySt (i / 8) (i % 8) != 0)) (fun s i =>
    let r := i / 8
    let g := i % 8
    let s := (s.sealGroup r g 3).rxKeysGone r g
    s.setKg r g { (s.kg r g) with ann := none })

/-- A group is disabled (Table 13.2): traffic keys zeroed, E kept. A NEXT key may then have no group left to wait for (R347). -/
def State.keyDisable (s : State) (r g : Nat) : State :=
  if s.keySt r g = 0 then s
  else ((s.toKeying r g).wrN (Obj.keyState r g) 0).promote (s.rdN (Obj.keySlot r g))

/-- The hub core loses power (R335, R341): the store is empty, every derived key is gone, and E is 0. DEDUCED: log entry 34. -/
def State.storeLost (s : State) : State :=
  let s := s.each (List.range 127) (fun s i => (s.wrN (Obj.keySlotState (i + 1)) 0).wrN (Obj.slotLabel (i + 1)) 0)
  let s := { s with key.slots := [], key.batch := [], key.batchLeft := 0 }
  s.each (List.range 32) (fun s i =>
    let r := i / 8
    let g := i % 8
    let s := if s.groupOn r g && s.encrypted r g then s.toKeying r g else s
    s.setKg r g {})

/-- The check of an ENCRYPT or KEY_SLOT write (R349). -/
def State.encryptStatus (s : State) (r g : Nat) (slot : Bool) (v : Nat) : Option Nat :=
  if slot = false ∧ v = 0 ∧ s.keySt r g = 4 then some Status.sealedUp
  else if s.groupOn r g then some Status.refused
  else if slot && s.rdN (Obj.keySlotState v) == 3 then some Status.refused
  else none

/-! ### Messages of a frame -/

/-- A group sends keying frames in the tick that starts, whatever the side its epoch switch's command stands on.
DEDUCED: log entry 14. -/
def State.keyingFrame (s : State) (r g : Nat) : Bool :=
  let st := s.keySt r g
  !(s.released domCipher) || s.key.paused.contains (8 * r + g) || ((st == 1 || st == 4) && (s.keyDue r g).isNone)

/-- The epoch of an encrypted group's frame: the committed epoch from its T on (R342). -/
def State.frameEpoch (s : State) (r g : Nat) : Nat :=
  ((s.keyDue r g).map (fun a => a.epoch)).getD (s.rdN (Obj.keyTxEpoch r g))

/-- The key that a group's frame is sealed under, and the tick its epoch took effect at (R334, R342): the committed epoch's from
its T on. -/
def State.frameKey (s : State) (r g : Nat) : List Byte × Nat :=
  match s.keyDue r g with
  | some a => ((s.deriveTx r g a.epoch).map (fun p => (p.2, a.at_))).getD ([], a.at_)
  | none => ((s.kg r g).txKey.getD [], (s.kg r g).t0)

/-- A frame's segments consume invocations of the epoch it goes under (R333, R342). -/
def State.invoke (s : State) (r g n : Nat) : State :=
  let x := s.kg r g
  let s := s.incBy Obj.segments n
  if (s.keyDue r g).isSome then s.setKg r g { x with early := x.early + n } else s.incBy (Obj.txInvocations r g) n

/-- The key messages of a group's frame (R340–R343): a nonce offer in KEYING without an announcement, KEY_ANNOUNCE while
one is pending, KEY_ACK while an announced key is held. -/
def State.keyMessages (s : State) (r g : Nat) : List (Nat × List Byte) :=
  let x := s.kg r g
  let st := s.keySt r g
  let announce (epoch t : Nat) : List Byte := beBytes 3 epoch ++ [0#8] ++ beBytes 4 (t % 2 ^ 32) ++ x.own
  let a : List (Nat × List Byte) := match s.keyAnnShown r g s.core.tick with
    | some a => [(0x10, announce a.epoch a.at_)]
    | none => if st == 1 && x.ann.isNone && !x.own.isEmpty && s.released domCipher then [(0x10, announce 0 0)] else []
  let k : List (Nat × List Byte) := match x.rxAnn with
    | some y => [(0x11, beBytes 3 y.epoch ++ [0#8])]
    | none => []
  if st = 0 then [] else a ++ k

/-- The key messages of an accepted frame act (R342, R343). -/
def State.keyMessage (s : State) (r g : Nat) (m : Nat × List Byte) : State :=
  if m.1 = 0x10 then s.keyAnnounceIn r g (hdrField m.2 0 3) (hdrField m.2 4 4) ((m.2.drop 8).take 16)
  else if m.1 = 0x11 then s.keyAckIn r g (hdrField m.2 0 3)
  else s

/-! ### Cipher cores exhausted (R476) -/

/-- The inequality of R476 over a set of groups that stay unpaused. -/
def State.cipherFits (s : State) (rgs : List Nat) : Bool :=
  decide (2 * rgs.foldl (fun a i => a + (s.txMap (i / 8) (i % 8)).payload) 0 + 256000 ≤ 16000 * 64 * s.cipherCores)

/-- Pause groups in yield order until the inequality holds. -/
def State.pauseUntil (s : State) : List Nat → List Nat → List Nat
  | [], kept => kept
  | y :: t, kept => if s.cipherFits kept then kept else s.pauseUntil t (kept.filter (· != y))

/-- Groups in yield order (R224) by their ranks in force. -/
def State.yieldGroups (s : State) (rgs : List Nat) : List Nat :=
  (List.range 9).reverse.flatMap (fun k => rgs.reverse.filter (fun i => s.rdN (Obj.rankInForce (i / 8) (i % 8)) == k))

/-- CIPHER_GROUPS_PAUSED (R476) at step 4: with fewer than 32 cores in service and none in the stockpile, groups are paused
in yield order; at most one resumes per 1,000 ticks, the next in keep order that fits. -/
def State.cipherPause (s : State) : State :=
  let all := upto 32 (fun i => s.groupOn (i / 8) (i % 8) && s.encrypted (i / 8) (i % 8))
  let short := decide (s.cipherCores < 32) && !(List.range 36).any (fun c => s.rdN (Obj.cipherCoreState c) == 2) &&
    !s.offDom domCipher
  let was := s.key.paused.filter (fun i => all.contains i)
  let live := all.filter (fun i => !was.contains i)
  let kept := if short then s.pauseUntil (s.yieldGroups live) live else live
  let paused := all.filter (fun i => !kept.contains i)
  let fresh := paused.filter (fun i => !was.contains i)
  let back := if fresh.isEmpty && (decide (s.key.lastResume + 1000 ≤ s.core.tick) || s.key.lastResume == 0) then
      (s.yieldGroups paused).reverse.head?.filter (fun i => !short || s.cipherFits (i :: kept))
    else none
  let now := paused.filter (fun i => some i != back)
  let s := { s with key.paused := now, key.lastResume := if back.isSome then s.core.tick else s.key.lastResume }
  let s := s.each fresh (fun s i => s.toKeying (i / 8) (i % 8))
  let m := maskOf 32 (fun i => now.contains i)
  if m = s.rdN Obj.cipherPausedGroups then s else (s.wrN Obj.cipherPausedGroups m).raise 0x8107 0x1550 m

end Sys2Proof.Machine
end

