-- ==== Sys2Proof/Machine/Timing.lean ====
section
/-! DEFINITION. The timing core (chapter 14): reference inputs (R354–R356), selection (R357–R360), holdover (R361), phase
and tick alignment (R364–R367), line delay (R368–R371) and time of day (R372–R374). Phases are kept in fs: at PULL_SLOPE
s the output moves s fs a tick. -/
namespace Sys2Proof.Machine

def State.refIn (s : State) (i : Nat) : RefIn := tget (fun _ => {}) s.timing.inputs i

def State.setRefIn (s : State) (i : Nat) (x : RefIn) : State :=
  { s with timing.inputs := tset (fun _ => {}) s.timing.inputs i x }

def State.delay (s : State) (r : Nat) : DelaySt := tget (fun _ => {}) s.timing.delays r

def State.setDelay (s : State) (r : Nat) (x : DelaySt) : State :=
  { s with timing.delays := tset (fun _ => {}) s.timing.delays r x }

/-- INPUT_STATE: 0 LOST, 1 QUALIFYING, 2 QUALIFIED. -/
def State.refState (s : State) (i : Nat) : Nat := s.rdN (Obj.inputState i)

/-- The selected input carries phase (Table 14.1). -/
def State.carriesPhase (s : State) (i : Nat) : Bool := decide (i < 12) && s.rdN (Obj.phaseMode i) != 0

/-- SELECTED; 255 none. -/
def State.selectedIn (s : State) : Nat := s.rdN Obj.selected

/-- An input is presented as lost by its source (Table 14.1, R371, R380). -/
def State.sourceLost (s : State) (i : Nat) : Bool :=
  if i < 2 then false
  else if i < 6 then
    match (List.range 64).find? (fun b => s.rdN (Obj.synceInput b) == i - 1) with
    | some b => s.rdB (Obj.synceSquelched b)
    | none => true
  else if i < 10 then
    !s.inFrame (i - 6) (s.rdN (Obj.inputSource i)) ||
      (s.rdN (Obj.phaseMode i) == 2 && !s.rdB (Obj.delayValid (i - 6)))
  else
    s.rdN (Obj.tpLaneState (s.rdN (Obj.inputSource i))) != 3 ||
      s.towpath.mateSelected == 10 || s.towpath.mateSelected == 11

/-- The last PPSIN edge is 1.000010 s old, with PHASE_MODE PPS, at a time of powered time (R355). -/
def State.ppsFaulted (s : State) (i : Nat) (now : Int) : Bool :=
  decide (i < 2) && s.rdN (Obj.phaseMode i) == 1 &&
    (((s.refIn i).mark.map (fun m => decide (m + 1000010000000 ≤ now))).getD true)

/-- An input is faulted now for a cause the block holds: its source, its frequency, its PPS edges, or R367. -/
def State.refFaulted (s : State) (i : Nat) : Bool :=
  s.sourceLost i || (s.refIn i).mismatch || s.ppsFaulted i (s.at 0) ||
    decide (1000 * s.rdN (Obj.acceptLimit) < (s.rd (Obj.inputOffset i)).natAbs)

/-- Seconds of HOLD_WINDOW that ended at least HOLD_GUARD seconds ago, newest first (R361). -/
def State.guarded (s : State) : List Int :=
  ((s.timing.seconds.filter (fun q => decide (q.1 + 100000 * s.rdN Obj.holdGuard ≤ s.core.tick))).map (·.2)).take
    (s.rdN Obj.holdWindow)

/-- The holdover estimate and its readiness (R361). -/
def State.holdoverFigures (s : State) : State :=
  let l := s.guarded
  let ready := !l.isEmpty && l.length == s.rdN Obj.holdWindow
  let (e, s) := if ready then s.roundFreeInt (l.foldl (· + ·) 0) l.length else (0, s)
  ((s.wrN Obj.holdoverReady (if ready then 1 else 0)).wr Obj.holdoverEstimate e).wrN Obj.lockedSeconds
    s.timing.seconds.length

/-- TOD_STATE (R372). -/
def State.showTod (s : State) : State :=
  let st := s.rdN Obj.timingState
  let v := if s.timing.tod.isNone then 0
    else if st = 0 ∨ st = 3 then 3
    else if s.rdB Obj.todFromPps && s.carriesPhase s.selectedIn then 2 else 1
  s.wrN Obj.todState v

/-- Enter a state of Table 14.2. DEDUCED: log entry 41. -/
def State.timingTo (s : State) (st : Nat) : State :=
  let was := s.rdN Obj.timingState
  let s := { s with timing.acqAt := if st = 1 then s.core.tick else s.timing.acqAt,
                    timing.unlockedAt := if was = 2 ∧ st ≠ 2 then s.core.tick else s.timing.unlockedAt,
                    timing.secStart := if st = 2 then s.core.tick else s.timing.secStart }
  (s.wrN Obj.timingState st).showTod

/-- An input becomes LOST (R356): its phase and control are no longer used (R355); the estimate in force at the loss of the
selected input is kept (R361). -/
def State.refLost (s : State) (i fault : Nat) : State :=
  if s.refState i = 0 then s
  else
    let s := ((s.wrN (Obj.inputState i) 0).inc (Obj.losses i)).raise 0x80C1 (0x4010 + i) fault
    if s.selectedIn = i then
      { s with timing.loss := some (s.rdB Obj.holdoverReady, s.rd Obj.holdoverEstimate) }
    else s

/-- REFERENCE_LOST (R355, R356). -/
def execReferenceLost (i : Fin 12) (fault : Fin 4) (phase : Nat) (offset : Int) (s : State) :
    Host.Outcome State Fault Refusal :=
  let f : Nat := fault
  let due : Bool :=
    if f = 0 then s.sourceLost i
    else if f = 1 then true
    else if f = 2 then decide (1000 * s.rdN Obj.acceptLimit < offset.natAbs)
    else s.ppsFaulted i (s.at phase)
  if due then
    let s := if f = 2 then s.wr (Obj.inputOffset i) offset else s
    .next (s.refLost i f)
  else .next s

/-- REFERENCE_QUALIFYING (R356): the fault of a LOST input ends. -/
def execReferenceQualifying (i : Fin 12) (s : State) : Host.Outcome State Fault Refusal :=
  if s.refState i = 0 ∧ !s.refFaulted i then
    .next ((s.setRefIn i { (s.refIn i) with since := s.core.tick }).wrN (Obj.inputState i) 1)
  else .next s

/-- REFERENCE_QUALIFIED (R356): QUAL_TIME free of faults; an input that a fault holds stays unqualified. -/
def execReferenceQualified (i : Fin 12) (s : State) : Host.Outcome State Fault Refusal :=
  if s.refState i = 1 ∧ (s.refIn i).since + s.rdN (Obj.qualTime i) ≤ s.core.tick ∧ !s.refFaulted i then
    .next ((s.wrN (Obj.inputState i) 2).raise 0x40C2 (0x4010 + i) 0)
  else .next s

/-! ### Phase -/

/-- The remaining pull, fs (R364): with a phase-carrying input selected, its phase and the accepted steps; otherwise what
is left against the output's own phase at the last switch and the steps since. -/
def State.pullOf (s : State) : Int :=
  if s.carriesPhase s.selectedIn then (s.refIn s.selectedIn).err + 1000 * s.timing.steps else s.timing.own

/-- Show PULL_REMAINING in ps. -/
def State.showPull (s : State) : State :=
  let (v, s) := s.roundFreeInt s.timing.pull 1000
  s.wr Obj.pullRemaining v

/-- PHASE_PULL (R364): the output moves towards the target by no more than PULL_SLOPE × 10 µs. -/
def State.phasePull (s : State) : State :=
  let p := s.pullOf
  let lim := Int.ofNat (s.rdN Obj.pullSlope)
  let m := clampInt (-lim) lim p
  let s := { s with timing.pull := p - m, timing.own := s.timing.own - m }
  let s := if m = 0 then s else s.each (List.range 12) (fun s i =>
    if s.carriesPhase i then s.setRefIn i { (s.refIn i) with err := (s.refIn i).err - m } else s)
  s.showPull

/-- SWITCH_END (R359): |PULL_REMAINING| has fallen to 100 ps. -/
def execSwitchEnd (s : State) : Host.Outcome State Fault Refusal :=
  if s.timing.switching && decide (s.timing.pull.natAbs ≤ 100000) then
    .next { s with timing.switching := false }
  else .next s

/-- A PHASE_STEP write keeps |PULL_REMAINING| within 10,000,000 ps (R364); an earlier step of the window gives way to it
(R34, R525). -/
def State.phaseStepOk (s : State) (v : Int) : Bool := decide ((s.timing.pull + 1000 * v).natAbs ≤ 10000000000)

/-- PHASE_STEP applied at step 9 (R364). -/
def State.phaseStepOp (s : State) (v : Int) : State :=
  { s with timing.steps := s.timing.steps + v, timing.pull := s.timing.pull + 1000 * v,
           timing.own := s.timing.own + 1000 * v }

/-- A time in ps reduced to (−m/2, m/2]. -/
def reduceTo (m x : Int) : Int :=
  let y := x % m
  if m < 2 * y then y - m else y

/-- The offset of a mark from the boundary it should fall on (R365, R367): the nearest aligned boundary once TICK_ALIGNED
is 1, else the nearest boundary. In ps. -/
def State.markOffset (s : State) (m : Int) : Int :=
  if s.rdB Obj.tickAligned then reduceTo 1000000000000 m else reduceTo 10000000 m

/-- A phase input's mark at a time in ps of powered time (R365, R367, R371). DEDUCED: log entry 53. -/
def State.markAt (s : State) (i : Nat) (m : Int) : State :=
  let off := s.markOffset m
  let x := s.refIn i
  let s := s.setRefIn i { x with err := 1000 * off }
  let s := s.wr (Obj.phaseError i) (clampInt (-(2 ^ 31)) (2 ^ 31 - 1) off)
  if s.rdB Obj.tickAligned && decide (5000000 < off.natAbs) then
    if x.mismatch then s
    else
      let (us, s) := s.roundFree off.natAbs 1000000
      let s := s.setRefIn i { (s.refIn i) with mismatch := true }
      (s.refLost i 3).raise 0x80C7 (0x4010 + i) (min us 0xFFFFFFFF)
  else s.setRefIn i { (s.refIn i) with mismatch := false }

/-- PPS_EDGE (R355, R365, R367): an edge of an input with PHASE_MODE PPS is a mark. It is timestamped to 5 ps (R354); to which of the
two neighbouring values is free. DESIGN CHOICE: log entry 21. DESIGN CHOICE: log entry 4. -/
def execPpsEdge (i : Fin 2) (phase : Nat) (s : State) : Host.Outcome State Fault Refusal :=
  if s.rdN (Obj.phaseMode i) = 1 then
    let (n, s) := s.roundFree (s.at phase) 5
    .next ((s.setRefIn i { (s.refIn i) with mark := some (5 * n) }).markAt i (5 * n))
  else .next s

/-- The count of the boundary nearest an input's latest mark, modulo 100,000 (R365); none without a mark. -/
def State.nearestCount (s : State) (i : Nat) : Option Nat :=
  if s.rdN (Obj.phaseMode i) = 1 then
    (s.refIn i).mark.map (fun m => (m + 5000000) / 10000000 % 100000)
  else if s.rdN (Obj.phaseMode i) = 2 then
    if (s.delay (i - 6)).hist.isEmpty then none
    else some (((-(s.rd (Obj.lineOffset (i - 6))) + 5000000) / 10000000 % 100000).toNat)
  else none

/-- A switch to an input at a boundary (R359, R360): the phase difference is built out, the output then pulls in; the first
selection of a phase input aligns the count at the next boundary (R365). -/
def State.switchTo (s : State) (w : Nat) : State :=
  let prev := s.selectedIn
  let s := ((s.inc Obj.switches).raise 0x40C0 0x4000 (256 * prev + w)).wrN Obj.selected w
  let s := { s with timing.loss := none, timing.own := 0 }
  let s := s.timingTo 1
  if s.carriesPhase w then
    let s := { s with timing.switching := true, timing.pull := (s.refIn w).err + 1000 * s.timing.steps }
    if !s.rdB Obj.tickAligned && s.rdB Obj.alignPermit then
      match s.nearestCount w with
      | some n => { s with timing.advance := some ((100000 - n % 100000) % 100000) }
      | none => s
    else s
  else { s with timing.switching := false, timing.pull := 0 }

/-- A port's pause times, where every later time stands `d` ps later (R365): a pause lasts no shorter for an advance.
DEDUCED: log entry 53. -/
def Port.later (x : Port) (d : Nat) : Port :=
  { x with rxUntil := x.rxUntil.map (fun q => (q.1, q.2 + d)), pausedAt := x.pausedAt.map (fun q => (q.1, q.2 + d)),
           pfcAt := x.pfcAt + d }

/-- TICK_COUNT_ADVANCED (R365, R366, R374): before step 1, the count advances by k; the timing core's own spans, the
berths' pause times and the time of day do not jump. DEDUCED: log entry 53. -/
def State.advanceTick (s : State) : State :=
  match s.timing.advance with
  | none => s
  | some k =>
    let t := s.timing
    let inputs := t.inputs.map (fun (q : Nat × RefIn) => (q.1, { q.2 with
      since := q.2.since + k, mark := q.2.mark.map (fun m => m + 10000000 * k) }))
    let delays := t.delays.map (fun (q : Nat × DelaySt) => (q.1, { q.2 with
      lastMark := q.2.lastMark + k, sent := q.2.sent.map (fun m => (m.1, m.2 + k)),
      echo := q.2.echo.map (fun m => (m.1, m.2.1 + k, m.2.2)),
      hist := q.2.hist.map (fun h => (h.1, h.2.1, reduceTo 2000000000000 (h.2.2 - 20000000 * Int.ofNat k))) }))
    let seconds := t.seconds.map (fun (q : Nat × Int) => (q.1 + k, q.2))
    let tod := t.tod.map (fun (a : TodAssoc) => { a with tick := a.tick + k })
    let ports := s.berth.ports.map (fun (q : Nat × Port) => (q.1, q.2.later (10000000 * k)))
    let s := { s with core.tick := s.core.tick + k, berth.ports := ports,
                      timing := { t with advance := none, acqAt := t.acqAt + k, unlockedAt := t.unlockedAt + k,
                                         secStart := t.secStart + k,
                                         seconds := seconds, tod := tod, inputs := inputs, delays := delays } }
    let s := (s.wrN Obj.tickAligned 1).incBy Obj.ticksAdvanced k
    s.raise 0x40C6 0x4000 k

/-- ALIGN_NOW applied (R367): TICK_ALIGNED is cleared, which ends every hold of R367. -/
def State.alignNowOp (s : State) : State :=
  let s := s.wrN Obj.tickAligned 0
  s.each (List.range 12) (fun s i => if (s.refIn i).mismatch then s.setRefIn i { (s.refIn i) with mismatch := false } else s)

/-! ### Selection -/

/-- The candidates (R357): QUALIFIED inputs of the lowest rank below 15. -/
def State.refCandidates (s : State) : List Nat :=
  let q := upto 12 (fun i => s.refState i == 2 && decide (s.rdN (Obj.rank i) < 15))
  let best : Nat := q.foldl (fun a i => min a (s.rdN (Obj.rank i))) 15
  q.filter (fun i => s.rdN (Obj.rank i) == best)

/-- Two frequency offsets agree within AGREE_LIMIT (R358). -/
def State.agree (s : State) (a b : Int) : Bool := decide ((a - b).natAbs ≤ 1000 * s.rdN Obj.agreeLimit)

/-- The first pair of candidates that disagree (R358). -/
def State.refConflict (s : State) (cs : List Nat) : Option (Nat × Nat) :=
  (cs.flatMap (fun a => (cs.filter (fun b => decide (a < b))).map (fun b => (a, b)))).find?
    (fun p => !s.agree (s.rd (Obj.inputOffset p.1)) (s.rd (Obj.inputOffset p.2)))

/-- The choice among candidates (R358): an arbiter, else the selected input, else the lowest number. -/
def State.refChoice (s : State) (cs : List Nat) : Option Nat :=
  let sel := s.selectedIn
  let one (v : Int) : Option Nat :=
    match cs.filter (fun c => s.agree v (s.rd (Obj.inputOffset c))) with
    | [c] => some c
    | _ => none
  let others := (upto 12 (fun i => s.refState i == 2 && !cs.contains i)).map (fun i => s.rd (Obj.inputOffset i))
  let arbiters := others ++ (if s.rdB Obj.holdoverReady then [s.rd Obj.holdoverEstimate] else [])
  let plain := if cs.contains sel then some sel else cs.head?
  if (s.refConflict cs).isSome then
    match arbiters.findSome? one with
    | some c => some c
    | none => plain
  else plain

/-- REFERENCE_SELECTION (R357–R360) at a boundary. DEDUCED: log entry 53. -/
def State.refSelect (s : State) : State :=
  let cs := s.refCandidates
  let s := match s.refConflict cs with
    | some p =>
      let s := if s.rdB Obj.rankConflict then s else s.raise 0x80C5 0x4000 (256 * p.1 + p.2)
      s.wrN Obj.rankConflict 1
    | none => s.wrN Obj.rankConflict 0
  let sel := s.selectedIn
  let alive := decide (sel < 12) && s.refState sel == 2
  let f := s.rdN Obj.forceSelect
  let choice := s.refChoice cs
  let wanted : Option Nat :=
    if f < 12 ∧ s.refState f = 2 then some f
    else if !alive then choice
    else if cs.contains sel then choice
    else if s.rdB Obj.timingRevertive && (match cs with
        | c :: _ => decide (s.rdN (Obj.rank c) < s.rdN (Obj.rank sel))
        | [] => false) then choice
    else some sel
  match wanted with
  | some w => if w = sel ∨ s.timing.switching then s else s.switchTo w
  | none =>
    let st := s.rdN Obj.timingState
    if st = 1 ∨ st = 2 then
      let (ready, e) := s.timing.loss.getD (s.rdB Obj.holdoverReady, s.rd Obj.holdoverEstimate)
      let s := { s with timing.control := if ready then e else s.timing.control, timing.loss := none }
      let s := (s.wrN Obj.selected 255).raise 0xC0C3 0x4000 (if ready then 0 else 1)
      s.timingTo (if ready then 3 else 0)
    else s

/-- The timing core at a boundary: offsets, the loop's control value while an input is followed, the clearing of R361,
selection and pull. DEDUCED: log entry 53. -/
def State.timingBoundary (s : State) (offsets : List (Nat × Int)) (control : Option Int) : State :=
  let s := s.each offsets (fun s q => if q.1 < 12 then s.wr (Obj.inputOffset q.1) q.2 else s)
  let st := s.rdN Obj.timingState
  -- an input that has qualified again while its loss waited for a switch to end is followed again (R355)
  let s : State := if s.selectedIn < 12 ∧ s.refState s.selectedIn = 2 then { s with timing.loss := none } else s
  let s := match control with
    | some v => if (st = 1 ∨ st = 2) ∧ s.timing.loss = none then { s with timing.control := v } else s
    | none => s
  let s := if st ≠ 2 ∧ s.timing.unlockedAt + 100000 * s.rdN Obj.holdGuard < s.core.tick then
      { s with timing.seconds := [] } else s
  let s := s.holdoverFigures.refSelect
  (s.wr Obj.freqOffset s.timing.control).phasePull.showTod

/-- LOCKED (R360): ten consecutive 1 s means of frequency error below 0.01 ppm since the last switch, and the switch has ended. -/
def execLocked (means : List Int) (s : State) : Host.Outcome State Fault Refusal :=
  if s.rdN Obj.timingState = 1 ∧ !s.timing.switching ∧ s.timing.acqAt + 1000000 ≤ s.core.tick ∧ 10 ≤ means.length ∧
      (means.take 10).all (fun m => decide (m.natAbs < 1000)) then
    .next ((s.timingTo 2).raise 0x40C4 0x4000 s.selectedIn)
  else .next s

/-- LOCKED_SECOND (R361): a whole second spent in LOCKED, with its mean control value; the latest 4,096 are kept. -/
def execLockedSecond (mean : Int) (s : State) : Host.Outcome State Fault Refusal :=
  if s.rdN Obj.timingState = 2 ∧ s.timing.secStart + 100000 ≤ s.core.tick then
    let e := s.timing.secStart + 100000
    let s := { s with timing.secStart := e, timing.seconds := ((e, mean) :: s.timing.seconds).take 4096 }
    .next s.holdoverFigures
  else .next s

/-! ### Line delay -/

/-- X (R368). -/
def State.delayX (s : State) (r : Nat) : Nat := s.rdN Obj.txLatency + s.rdN (Obj.txExtDelay r)

/-- Group g of reach r carries the marks. -/
def State.delayGroupIs (s : State) (r g : Nat) : Bool := s.rdN (Obj.delayGroup r) == g

/-- DELAY_MARK_SEND (R368): a mark falls due every DELAY_INTERVAL ticks; it goes in the next frame without an echo. -/
def execDelayMarkSend (r : Fin 4) (s : State) : Host.Outcome State Fault Refusal :=
  let x := s.delay r
  if s.released (domReach r) && s.groupOn r (s.rdN (Obj.delayGroup r)) &&
      decide (x.lastMark + s.rdN (Obj.delayInterval r) ≤ s.core.tick) then
    .next (s.setDelay r { x with markDue := true, lastMark := s.core.tick })
  else .next s

/-- The value of a DELAY_MARK (Table 9.3). -/
def delayValue (mark tx echo rx phase : Nat) : List Byte :=
  beBytes 2 mark ++ beBytes 2 0 ++ beBytes 4 (tx % 2 ^ 32) ++ beBytes 2 echo ++ beBytes 2 0 ++ beBytes 4 (rx % 2 ^ 32) ++
    beBytes 4 phase ++ beBytes 4 0

/-- The DELAY_MARK of the frame a group builds in the tick in progress (R368): an echo before a mark. -/
def State.delayMessages (s : State) (r g : Nat) : State × List (Nat × List Byte) :=
  let x := s.delay r
  let t := s.core.tick
  if !s.delayGroupIs r g then (s, [])
  else
    match x.echo with
    | some (q, rt, ph) => (s.setDelay r { x with echo := none }, [(0x20, delayValue 0 t q rt ph)])
    | none =>
      if x.markDue then
        let q := if 65535 ≤ x.seq then 1 else x.seq + 1
        (s.setDelay r { x with markDue := false, seq := q, sent := (q, t) :: x.sent.take 255 },
         [(0x20, delayValue q t 0 0 (s.delayX r))])
      else (s, [])

/-- DELAY_VALID (R370). -/
def State.showDelayValid (s : State) (r : Nat) : State :=
  let ok := s.rdN (Obj.cdEstQuality r) == 2 && s.inFrame r (s.rdN (Obj.delayGroup r)) &&
    decide (s.rdN (Obj.delayAvg r) ≤ (s.delay r).hist.length)
  s.wrN (Obj.delayValid r) (if ok then 1 else 0)

/-- The delay history is cleared (R370): 0 loss of frame, 1 CD swap, 2 restoration. -/
def State.delayClear (s : State) (r cause : Nat) : State :=
  let x := s.delay r
  let had := !x.hist.isEmpty
  let s := (s.setDelay r { x with hist := [] }).showDelayValid r
  if had then s.raise 0x80C8 (0x4060 + r) cause else s

/-- Δ in ps (R369): the dispersion term from the two carriers at the group's centre, and ASYMMETRY_ADJUST. -/
def State.delayAsymmetry (s : State) (r g : Nat) : Int × State :=
  let off : Int := 2600 * (2 * Int.ofNat (s.rdN (Obj.firstSubcarrier r g)) + Int.ofNat (s.rdN (Obj.subcarrierCount r g)) - 64)
  let fr : Int := s.rd (Obj.rxCarrier r) + off
  let ft : Int := s.rd (Obj.txCarrier r) + off
  let num : Int := s.rd (Obj.cdEstimate r) * 299792458000 * (ft - fr)
  let (v, s) := s.roundFreeInt num (fr * ft).toNat
  (v + s.rd (Obj.asymmetryAdjust r), s)

/-- The difference of two times given as a 32-bit count of ticks and ps, in ps. -/
def tickDiff (t1 p1 t0 p0 : Int) : Int := 10000000 * reduceTo (2 ^ 32) (t1 - t0) + (p1 - p0)

/-- Report the means of the last DELAY_AVG measurements (R369). -/
def State.showDelay (s : State) (r : Nat) : State :=
  let h := (s.delay r).hist.take (s.rdN (Obj.delayAvg r))
  let n := h.length
  let sum (f : Int × Int × Int → Int) : Int := h.foldl (fun a q => a + f q) 0
  let (d, s) := s.roundFreeInt (sum (·.1)) (2 * n)
  let (a, s) := s.roundFreeInt (sum (·.2.1)) n
  let (o, s) := s.roundFreeInt (sum (·.2.2)) (2 * n)
  ((s.wrN (Obj.oneWayDelay r) d.toNat).wr (Obj.asymmetry r) a).wr (Obj.lineOffset r) o

/-- A received DELAY_MARK (R368, R369): a mark is to be answered; an echo of one of the reach's own marks completes a
measurement. `tick` and `phase` are the frame's soft-demapper time; `txLow` its TX_TICK. -/
def State.delayMessage (s : State) (r g tick phase : Nat) (v : List Byte) : State :=
  if !s.delayGroupIs r g then s
  else
    let mark := hdrField v 0 2
    let tx := hdrField v 4 4
    let echo := hdrField v 8 2
    let back := Int.ofNat (s.rdN (Obj.rxDspLatency r) + s.rdN (Obj.rxExtDelay r))
    let arr : Int := 10000000 * Int.ofNat tick + Int.ofNat phase - back
    let x := s.delay r
    if mark ≠ 0 ∧ echo = 0 then
      s.setDelay r { x with echo := some (mark, (arr / 10000000).toNat, (arr % 10000000).toNat), xFar := some (hdrField v 16 4) }
    else if mark = 0 ∧ echo ≠ 0 then
      match x.sent.find? (fun q => q.1 == echo), x.xFar with
      | some (_, t1), some xf =>
        let own := Int.ofNat (s.delayX r)
        let rt := Int.ofNat (hdrField v 12 4)
        let rp := Int.ofNat (hdrField v 16 4)
        let t3 := Int.ofNat tx
        let (delta, s) := s.delayAsymmetry r g
        let far := tickDiff t3 (Int.ofNat xf) rt rp
        let round := arr - 10000000 * Int.ofNat t1 - own - far
        let up := tickDiff rt rp (Int.ofNat t1) own
        let down := tickDiff (arr / 10000000) (arr % 10000000) t3 (Int.ofNat xf)
        let theta2 := reduceTo 2000000000000 (up - down + delta)
        let x := s.delay r
        let s := s.setDelay r { x with sent := x.sent.filter (fun q => q.1 != echo),
                                       hist := ((round + delta, delta, theta2) :: x.hist).take 255 }
        let s := ((s.wrN (Obj.roundTrip r) round.toNat).inc (Obj.measurements r)).showDelay r
        let s := s.showDelayValid r
        if s.rdN (Obj.phaseMode (6 + r)) = 2 then s.markAt (6 + r) (-(s.rd (Obj.lineOffset r))) else s
      | _, _ => s
    else s

/-! ### Time of day -/

/-- The time of day in ns at a tick and phase (ps): none without an association (R372). -/
def State.todNs (s : State) (tick phase : Nat) : Option Int :=
  s.timing.tod.map (fun a =>
    1000000000 * Int.ofNat a.sec + Int.ofNat a.ns + 10000 * (Int.ofNat tick - Int.ofNat a.tick) + Int.ofNat (phase / 1000))

/-- The check of a TOD_ASSOCIATE write (R372, R373). -/
def State.todStatus (s : State) (v : List Byte) : Option Nat :=
  if hdrField v 14 2 ≠ 0 then some Status.reservedBits
  else if s.rdB Obj.todFromPps && (hdrField v 0 8 % 100000 != 0 || hdrField v 16 4 != 0) then some Status.refused
  else none

/-- TOD_ASSOCIATE accepted (R372). -/
def State.todAssociateOp (s : State) (v : List Byte) : State :=
  { s with timing.tod := some ⟨hdrField v 0 8, hdrField v 8 6, hdrField v 16 4⟩ }.showTod

/-- TOD_NOW (R372): the time of the last boundary; zero without an association. -/
def State.todNowBytes (s : State) : List Byte :=
  match s.todNs s.core.tick 0 with
  | some n => beBytes 8 s.core.tick ++ beBytes 6 ((n / 1000000000).toNat) ++ beBytes 2 0 ++ beBytes 4 ((n % 1000000000).toNat)
  | none => List.replicate 20 0#8

/-! ### Writes -/

/-- Check 9 of NOMINAL_FREQ, SOURCE and PHASE_MODE writes (R375). -/
def refWriteOk (i sub v : Nat) : Bool :=
  if sub = 4 then decide (i < 2)
  else if sub = 6 then decide (6 ≤ i)
  else if sub = 5 then v == 0 || (v == 1 && decide (i < 2)) || (v == 2 && decide (6 ≤ i ∧ i < 10))
  else true

end Sys2Proof.Machine
end

