-- ==== Sys2Proof/Machine/Towpath.lean ====
section
/-! DEFINITION. The towpath (chapter 15): lane bring-up (R379), loopbacks (R381), mate messages (R382–R385) and the WAKE
sets (R386). -/
namespace Sys2Proof.Machine

def State.lane (s : State) (l : Nat) : LaneSt := tget (fun _ => {}) s.towpath.lanes l

def State.setLane (s : State) (l : Nat) (x : LaneSt) : State :=
  { s with towpath.lanes := tset (fun _ => {}) s.towpath.lanes l x }

/-- LANE_STATE: 0 DOWN, 1 BASE, 2 STEP, 3 IN_SERVICE. -/
def State.laneState (s : State) (l : Nat) : Nat := s.rdN (Obj.tpLaneState l)

/-- The lanes in service, ascending. -/
def State.lanesUp (s : State) : List Nat := upto 8 (fun l => s.laneState l == 3)

/-- The event source of a lane (R388). -/
def laneSource (l : Nat) : Nat := 0x4110 + l

/-- The hub core is powered: not in DORMANT. -/
def State.hubPowered (s : State) : Bool := !s.power.dormant

/-! ### Line code (R377, IEEE 802.3 clause 36) -/

/-- A symbol: a data byte D.x.y or a control code K.x.y, by its eight bits y·32 + x. -/
structure Sym where
  k : Bool
  b : Nat
  deriving DecidableEq, Repr

def symK (x y : Nat) : Sym := ⟨true, 32 * y + x⟩
def symD (x y : Nat) : Sym := ⟨false, 32 * y + x⟩

/-- The 6-bit sub-blocks abcdei of D0–D31 at negative running disparity. -/
def code6 : List Nat :=
  [0b100111, 0b011101, 0b101101, 0b110001, 0b110101, 0b101001, 0b011001, 0b111000] ++
  [0b111001, 0b100101, 0b010101, 0b110100, 0b001101, 0b101100, 0b011100, 0b010111] ++
  [0b011011, 0b100011, 0b010011, 0b110010, 0b001011, 0b101010, 0b011010, 0b111010] ++
  [0b110011, 0b100110, 0b010110, 0b110110, 0b001110, 0b101110, 0b011110, 0b101011]

/-- The 4-bit sub-blocks fghj at negative running disparity, of D.x.0–D.x.7 and of K.x.0–K.x.7. -/
def code4 : List Nat := [0b1011, 0b1001, 0b0101, 0b1100, 0b1101, 0b1010, 0b0110, 0b1110]
def code4K : List Nat := [0b1011, 0b0110, 0b1010, 0b1100, 0b1101, 0b0101, 0b1001, 0b0111]

/-- Ones among the low n bits. -/
def onesOf (n v : Nat) : Nat := ((List.range n).filter (fun i => v.testBit i)).length

/-- A sub-block of n bits under a running disparity: complemented at positive disparity where it is unbalanced or has a second
form; and the disparity behind it. PRESUMED: log entry 77. -/
def subBlock (n v : Nat) (twoForms positive : Bool) : Nat × Bool :=
  let w := if positive && (twoForms || 2 * onesOf n v != n) then 2 ^ n - 1 - v else v
  (w, if 2 * onesOf n w = n then positive else decide (n < 2 * onesOf n w))

/-- The code group of a symbol, abcdei fghj from bit 9 on, and the running disparity behind it. -/
def codeGroup (positive : Bool) (s : Sym) : Nat × Bool :=
  let x := s.b % 32
  let y := s.b / 32
  let (six, p) := subBlock 6 (if s.k && x == 28 then 0b001111 else code6.getD x 0) (!s.k && x == 7) positive
  let alt := y == 7 && !s.k && (if p then [11, 13, 14].contains x else [17, 18, 20].contains x)
  let (four, q) := if s.k then subBlock 4 (code4K.getD y 0) true p
    else subBlock 4 (if alt then 0b0111 else code4.getD y 0) (y == 3) p
  (16 * six + four, q)

/-- The code groups of symbols, one after the other, and the running disparity behind them. -/
def codeGroups : Bool → List Sym → List Nat × Bool
  | p, [] => ([], p)
  | p, s :: t =>
    let (g, p) := codeGroup p s
    let (gs, p) := codeGroups p t
    (g :: gs, p)

/-- The ordered sets (Table 15.1). -/
def setIdle : List Sym := [symK 28 5, symD 16 2, symD 16 2, symD 16 2]
def setSkip : List Sym := [symK 28 5, symK 28 0, symK 28 0, symK 28 0]
def setCap (c1 c2 : Nat) : List Sym := [symK 28 5, symK 28 1, ⟨false, c1⟩, ⟨false, c2⟩]
def setTrain : List Sym := [symK 28 5, symK 28 2, symD 10 2, symD 10 2]
def setWake : List Sym := [symK 28 5, symK 28 3, symK 28 3, symK 28 3]

/-- A message in its frame (R377): K27.7, its bytes, K29.7, and K23.7 to the end of the last word. -/
def framed (m : List Byte) : List Sym :=
  let l := symK 27 7 :: m.map (fun b => ⟨false, b.toNat⟩) ++ [symK 29 7]
  l ++ List.replicate ((4 - l.length % 4) % 4) (symK 23 7)

/-- What a lane's transmitter sends between its messages (Table 15.2, R381, R386); none while it is idle, and in a far-end
loopback, where it sends on what it receives. -/
def State.laneFill (s : State) (l : Nat) : Option (List Sym) :=
  if !s.hubPowered || s.rdN (Obj.loopback l) == 3 then none
  else if s.rdN (Obj.loopback l) = 1 ∨ s.rdN (Obj.loopback l) = 2 then some setTrain
  else if s.core.tick < s.towpath.wakeUntil then some setWake
  else match s.laneState l with
    | 1 => some (setCap (s.rdN Obj.maxRate) l)
    | 2 => some setTrain
    | 3 => some setIdle
    | _ => none

/-- What a lane's pins send between its messages: IDLE in a near-end parallel loopback (R381), else the transmitter's words. -/
def State.pinFill (s : State) (l : Nat) : Option (List Sym) :=
  if s.rdN (Obj.loopback l) = 1 then (s.laneFill l).map (fun _ => setIdle) else s.laneFill l

/-- A lane sends symbols: they are encoded, and its running disparity goes on. IDLE words leave it as it is. -/
def State.laneSend (s : State) (l : Nat) (syms : List Sym) : State :=
  let x := s.lane l
  let (gs, p) := codeGroups x.positive syms
  s.setLane l { x with positive := p, line := x.line ++ gs }

/-! ### Reception (R377–R379) -/

/-- Every symbol: the data bytes and the twelve control codes. -/
def allSyms : List Sym :=
  (List.range 256).map (fun b => ⟨false, b⟩) ++ (List.range 8).map (symK 28 ·) ++ [symK 23 7, symK 27 7, symK 29 7, symK 30 7]

/-- The symbol of a code group at a running disparity; none where it stands in that column for no symbol. -/
def symAt (positive : Bool) (g : Nat) : Option Sym := allSyms.find? (fun y => (codeGroup positive y).1 == g)

/-- The running disparity behind a sub-block of n bits (clause 36): its balance, or which half of it is ones. PRESUMED: log entry 77. -/
def disparityBehind (n v : Nat) (positive : Bool) : Bool :=
  let h := 2 ^ (n / 2)
  if n < 2 * onesOf n v ∨ v = h - 1 then true else if 2 * onesOf n v < n ∨ v = 2 ^ n - h then false else positive

/-- One code group arrives: the receiver behind it, whether it is an error (invalid, or of the other disparity), whether it ends a word
that is neither TRAIN nor SKIP, and its symbol. A comma stands at place 0 (R377). DEDUCED: log entry 54. -/
def LaneIn.take (x : LaneIn) (g : Nat) : LaneIn × Bool × Bool × Option Sym :=
  let own := symAt x.positive g
  let sym := own <|> symAt (!x.positive) g
  let place := if sym = some (symK 28 5) then some 0 else x.place
  let i := place.getD 0
  let train := (i == 0 || x.asTrain) && sym == setTrain[i]?
  let skip := (i == 0 || x.asSkip) && sym == setSkip[i]?
  let ends := place == some 3
  let bad := if sym.isNone then x.invalid ++ [x.words] else x.invalid
  ({ x with
      positive := disparityBehind 4 (g % 16) (disparityBehind 6 (g / 16) x.positive)
      place := place.map (fun i => (i + 1) % 4)
      asTrain := train, asSkip := skip
      inMsg := if sym = some (symK 27 7) then true else if sym = some (symK 29 7) then false else x.inMsg
      words := if ends then x.words + 1 else x.words
      invalid := bad.filter (fun w => decide (x.words < w + 1024)) },
   own.isNone, ends && !train && !skip, sym)

/-- A tick's code groups in turn: the receiver, its code errors, the words that were neither TRAIN nor SKIP, and the symbols. -/
def LaneIn.takeAll (x : LaneIn) : List Nat → LaneIn × Nat × Nat × List Sym
  | [] => (x, 0, 0, [])
  | g :: t =>
    let (x, e, w, y) := x.take g
    let (x, es, ws, ys) := x.takeAll t
    (x, (if e then es + 1 else es), (if w then ws + 1 else ws), y.toList ++ ys)

/-- A training has passed so far (R379): aligned by its middle tick, and no error in its second half. DEDUCED: log entry 54. -/
def LaneSt.clean (x : LaneSt) (ticks : Nat) : Bool :=
  let mid := x.trainAt + ticks / 2
  x.rx.alignedAt.any (fun t => decide (t ≤ mid)) && x.rx.errorAt.all (fun t => decide (t < mid))

/-- The CAP words of BASE have gone out, as many as the time took (Table 15.2): where one of them changes the running disparity, it is
free which one stands behind them. DEDUCED: log entry 54. DESIGN CHOICE: log entry 4. -/
def State.capSent (s : State) (l : Nat) : State :=
  if (codeGroups false (setCap (s.rdN Obj.maxRate) l)).2 then
    let (n, s) := s.draw
    s.setLane l { (s.lane l) with positive := n % 2 == 1 }
  else s

/-! ### Messages -/

/-- Symbols a lane carries per tick at a rate (R379: 10 bits a symbol). -/
def laneSymbols (rate : Nat) : Nat := [1250, 3125, 6250, 12500].getD rate 0

/-- A mate message (R382, Table 15.4): header, body and the CRC-32 over both. -/
def mateBytes (type flags peer seq tick : Nat) (body : List Byte) : List Byte :=
  let h := beBytes 1 type ++ beBytes 1 flags ++ beBytes 2 body.length ++ beBytes 2 peer ++ beBytes 2 (seq % 65536) ++
    beBytes 4 (tick % 2 ^ 32) ++ body
  h ++ beBytes 4 (crc32 h)

/-- A TYPE of Table 15.5. -/
def mateKnown (t : Nat) : Bool := [1, 2, 4, 5, 6].contains t

/-- LENGTH agrees with the type (Table 15.5). -/
def mateLengthOk (t : Nat) (b : List Byte) : Bool :=
  if t = 1 ∨ t = 2 then b.length == 12
  else if t = 4 then decide (1 ≤ hdrField b 3 1 ∧ hdrField b 3 1 ≤ 35) && b.length == 8 + 28 * hdrField b 3 1
  else if t = 5 ∨ t = 6 then b.length == 8
  else true

/-- Read a message: none where its CRC fails, or LENGTH disagrees with its framing or its type (R383). -/
def mateRead (bs : List Byte) : Option MateMsg :=
  let n := bs.length
  let body := (bs.drop 12).take (n - 16)
  if n < 16 ∨ hdrField bs 2 2 + 16 ≠ n ∨ 1000 < hdrField bs 2 2 then none
  else if hdrField bs (n - 4) 4 ≠ crc32 (bs.take (n - 4)) then none
  else if !mateLengthOk (hdrField bs 0 1) body then none
  else some ⟨hdrField bs 0 1, hdrField bs 1 1, hdrField bs 4 2, hdrField bs 6 2, hdrField bs 8 4, body⟩

/-- Working reaches of MATED units. -/
def State.matedReaches (s : State) : List Nat :=
  ((upto 4 (fun u => s.rdN (Obj.unitMode u) == 3)).map (fun u => s.rdN (Obj.workingReach u))).eraseDups

/-- When a lane became free or becomes so, in symbol times of 12.5 Gb/s: its waiting symbols go out from the tick's start on. -/
def State.laneFree (s : State) (l : Nat) : Nat :=
  let x := s.lane l
  if x.queued = 0 then x.freeAt else 12500 * s.core.tick + x.queued * (12500 / laneSymbols (s.rdN (Obj.laneRate l)))

/-- The lane in service that became free first, or becomes free first where none is, the lowest on a tie (R383).
DEDUCED: log entry 54. -/
def State.freeLane (s : State) : Option Nat :=
  s.lanesUp.foldl (fun (b : Option Nat) l =>
    match b with
    | some x => if s.laneFree l < s.laneFree x then some l else some x
    | none => some l) none

/-- Put a message on the lanes, or, with none in service, on the relay path for the types of R385. -/
def State.putMate (s : State) (every : Bool) (m : List Byte) : State :=
  let up := s.lanesUp
  if up.isEmpty then
    if [1, 2, 6].contains (hdrField m 0 1) && decide (m.length ≤ 250) then
      { s with towpath.relay := s.towpath.relay ++ s.matedReaches.map (fun r => (8 * r, m)) }
    else s
  else
    let dest := if every then up else s.freeLane.toList
    let s := { s with towpath.sent := s.towpath.sent ++ [(dest, m)] }
    let s := s.each dest (fun s l =>
      let s := s.laneSend l (framed m)
      s.setLane l { (s.lane l) with queued := (s.lane l).queued + (framed m).length })
    s.incBy Obj.messagesSent dest.length

/-- A lane sends SKIP sets: none leaves more than 2,048 words since the last (R378). -/
def State.skipSend (s : State) (l : Nat) : State :=
  (s.setLane l { (s.lane l) with skips := (s.lane l).skips + 1, sinceSkip := 0 }).laneSend l setSkip

/-- A boundary on the lanes: what waited was sent at the lane's rate in the ended tick, with the SKIP sets that R378 asks for, and the
tick's record starts anew. DEDUCED: log entry 54. -/
def State.lanesTick (s : State) : State :=
  let s := s.each (upto 8 (fun l => (s.laneFill l).isSome || (s.lane l).queued != 0 || (s.lane l).line != [])) (fun s l =>
    let x := s.lane l
    let syms := laneSymbols (s.rdN (Obj.laneRate l))
    let words := x.sinceSkip + syms / 4
    let s := s.setLane l { x with
      queued := x.queued - syms
      freeAt := if x.queued = 0 ∨ syms < x.queued then x.freeAt else 12500 * (s.core.tick - 1) + x.queued * (12500 / syms) }
    let s := s.each (List.range (words / 2048)) (fun s _ => s.skipSend l)
    s.setLane l { (s.lane l) with line := [], sinceSkip := if (s.laneFill l).isSome then words % 2048 else 0 })
  { s with towpath.sent := [] }

/-- A new message takes the next MSG_SEQ (R382). DEDUCED: log entry 54. -/
def State.sendMate (s : State) (every : Bool) (type flags : Nat) (body : List Byte) : State × List Byte :=
  let m := mateBytes type flags (s.rdN Obj.localPeerId) s.towpath.msgSeq s.core.tick body
  (({ s with towpath.msgSeq := (s.towpath.msgSeq + 1) % 65536 }).putMate every m, m)

/-- A message is discarded and counted (R383). -/
def State.mateError (s : State) : State := (s.inc Obj.messageErrors).raiseLimited 0x80D4 0x4100 1

/-- MATE_MESSAGE_ERROR (R383). -/
def execMateMessageError (s : State) : Host.Outcome State Fault Refusal := .next s.mateError

/-- A message has arrived from the mate (R322, R383): the state, and whether it is new within 1,024 numbers. -/
def State.mateHeard (s : State) (m : MateMsg) : State × Bool :=
  let near (a b : Nat) : Bool :=
    decide ((a + 65536 - b) % 65536 < 1024) || decide ((b + 65536 - a) % 65536 < 1024)
  let fresh := !s.towpath.seen.contains m.seq
  let s := { s with rest.lastMate := s.core.tick, rest.matePeer := some m.peer }
  let s := if s.rdB Obj.mated then s.wrN Obj.mateReachable 1 else s
  let s := if fresh then
      { s with towpath.seen := m.seq :: s.towpath.seen.filter (near m.seq) } else s
  (s, fresh)

/-- Take in a message of one type that came over the lanes: errors are counted, repeats ignored (R383). -/
def State.mateTake (s : State) (type : Nat) (bs : List Byte) : State × Option MateMsg :=
  if s.lanesUp.isEmpty then (s, none)
  else
    match mateRead bs with
    | none => (s.mateError, none)
    | some m =>
      if m.type ≠ type then
        if mateKnown m.type then (s, none) else ((s.mateHeard m).1.inc Obj.messageErrors, none)
      else
        let (s, fresh) := s.mateHeard m
        (s, if fresh then some m else none)

/-- A message of a type arrives over the lanes; it takes effect at the next boundary (R383). -/
def State.mateArrive (s : State) (type : Nat) (bs : List Byte) : State :=
  match s.mateTake type bs with
  | (s, some m) => { s with towpath.inbox := s.towpath.inbox ++ [m] }
  | (s, none) => s

/-- The time of the last mate message lies within MATE_TIMEOUT (R322). -/
def State.mateSilent (s : State) : Bool := decide (s.rest.lastMate + s.rdN Obj.mateTimeout ≤ s.core.tick)

/-- A home standby's REVERT_READY (R325): working side with frame for WAIT_TO_RESTORE ticks, REVERTIVE 1. -/
def State.revertReady (s : State) (u : Nat) : Bool :=
  s.rdN (Obj.unitMode u) == 3 && s.rdN (Obj.unitState u) == 7 && s.rdB (Obj.unitRevertive u) &&
    (match s.rest.matePeer with
     | some p => decide (s.rdN Obj.localPeerId < p)
     | none => false) &&
    (match (s.unit u).goodSince with
     | some t => decide (t + s.rdN (Obj.waitToRestore u) ≤ s.core.tick)
     | none => false)

/-- The body of a HELLO (Table 15.5). -/
def State.helloBody (s : State) : List Byte :=
  beBytes 4 (s.rdN Obj.bootEpoch % 2 ^ 32) ++ beBytes 1 (s.rdN Obj.mated) ++
    (List.range 4).flatMap (fun u => beBytes 1 (s.rdN (Obj.unitState u))) ++
    beBytes 1 (maskOf 4 s.revertReady) ++ beBytes 2 0

/-- HELLO_SEND (R382): every 5 ticks on each lane in service, or by relay. -/
def execHelloSend (s : State) : Host.Outcome State Fault Refusal :=
  if s.towpath.helloAt + 5 ≤ s.core.tick ∧ s.hubPowered then
    .next (({ s with towpath.helloAt := s.core.tick }).sendMate true 1 0 s.helloBody).1
  else .next s

/-- The body of a TIME_RELAY (Table 15.5). -/
def State.timeRelayBody (s : State) : List Byte :=
  beBytes 1 (s.rdN Obj.timingState) ++ beBytes 1 s.selectedIn ++ beBytes 1 (s.rdN Obj.tickAligned) ++
    beBytes 1 (s.rdN Obj.todState) ++ beBytes 4 ((s.rd Obj.freqOffset % 2 ^ 32).toNat)

/-- TIME_RELAY_SEND (R382): every 100 ticks and at each change of its fields. -/
def execTimeRelaySend (s : State) : Host.Outcome State Fault Refusal :=
  let b := s.timeRelayBody
  if (s.towpath.relayAt + 100 ≤ s.core.tick ∨ b ≠ s.towpath.relayed) ∧ s.hubPowered then
    .next (({ s with towpath.relayAt := s.core.tick, towpath.relayed := b }).sendMate false 6 0 b).1
  else .next s

/-- The MATE_RELAY message of the frame a group builds (R385): the oldest that waits for it. -/
def State.relayMessages (s : State) (r g : Nat) : State × List (Nat × List Byte) :=
  match s.towpath.relay.find? (fun q => q.1 == 8 * r + g) with
  | some q => ({ s with towpath.relay := s.towpath.relay.erase q }, [(0x40, q.2)])
  | none => (s, [])

/-- The other reach of the REACH unit that names a reach (R385). -/
def State.otherReach (s : State) (r : Nat) : Option Nat :=
  ((List.range 4).find? (fun u => s.rdN (Obj.unitMode u) == 2 &&
      (s.rdN (Obj.workingReach u) == r || s.protectOf u == r))).map (fun u =>
    if s.rdN (Obj.workingReach u) = r then s.protectOf u else s.rdN (Obj.workingReach u))

/-- A MATE_RELAY received on a reach of a REACH unit with RELAYED clear goes on, with RELAYED set and its CRC to match, in
the same-numbered group of the unit's other reach (R385). DEDUCED: log entry 54. -/
def State.relayForward (s : State) (r g : Nat) (bs : List Byte) : State :=
  match mateRead bs, s.otherReach r with
  | none, _ => s.mateError
  | some m, some o =>
    if m.flags % 2 = 0 then
      let out := mateBytes m.type (m.flags + 1) m.peer m.seq m.tick m.body
      { s with towpath.relay := s.towpath.relay ++ [(8 * o + g, out)] }
    else s
  | some _, none => s

/-! ### Lanes -/

/-- Put a lane into a state and show LANES_IN_SERVICE. -/
def State.laneTo (s : State) (l st : Nat) : State :=
  let s := s.wrN (Obj.tpLaneState l) st
  s.wrN Obj.lanesInService (maskOf 8 (fun k => s.laneState k == 3))

/-- A lane enters IN_SERVICE (R379): it is free from now on (R383). -/
def State.laneUp (s : State) (l : Nat) : State :=
  ((s.setLane l { (s.lane l) with freeAt := 12500 * s.core.tick }).laneTo l 3).raise 0x40D0 (laneSource l) (s.rdN (Obj.laneRate l))

/-- A lane goes DOWN (R379): 0 signal, 1 lock, 2 code errors, 3 elastic, 4 command. A message in transit is discarded and
counted (R383). -/
def State.laneDrop (s : State) (l cause : Nat) (cut : Bool) : State :=
  if s.laneState l = 0 then s
  else
    let was := s.laneState l
    let s := ((s.setLane l { (s.lane l) with target := 0, training := 0, trainAt := 0, fails := 0, fellBack := false, queued := 0, rx := {} }).laneTo
      l 0).wrN (Obj.laneRate l) 0
    let s := s.onlyIf (cut && was == 3) State.mateError
    s.raise 0x80D1 (laneSource l) cause

/-- RETRAIN, or LOOPBACK changed (Table 15.2): whether a message was arriving just then is free. DEDUCED: log entry 54.
DESIGN CHOICE: log entry 4. -/
def State.laneRetrain (s : State) (l : Nat) : State :=
  if s.laneState l = 3 then
    let (n, s) := s.draw
    s.laneDrop l 4 (n % 2 == 1)
  else s.laneDrop l 4 false

/-- The hub core loses power (Table 15.2): every lane DOWN with its pins idle. -/
def State.lanesOff (s : State) : State :=
  s.each (List.range 8) (fun s l => ((s.setLane l {}).laneTo l 0).wrN (Obj.laneRate l) 0)

/-- LANE_SIGNAL_DETECT (R379): BASE at 1.25 Gb/s, sending CAP. A lane in loopback does not come up (R381). -/
def execLaneSignalDetect (l : Fin 8) (s : State) : Host.Outcome State Fault Refusal :=
  if s.laneState l = 0 ∧ s.hubPowered ∧ s.rdN (Obj.loopback l) = 0 then
    .next ((s.laneTo l 1).wrN (Obj.laneRate l) 0)
  else .next s

/-- Start a training at a rate at the boundary of a tick: the receiver locks and aligns anew. -/
def State.train (s : State) (l rate start : Nat) : State :=
  (s.setLane l { (s.lane l) with training := rate, trainAt := start, rx := {} }).laneTo l 2

/-- CAP (R379): the target rate is the lowest of both ends' CAP rate and MAX_RATE, and the first training begins at the next
boundary (Table 15.3); another lane's number is reported. -/
def execCap (l : Fin 8) (c1 c2 : Byte) (s : State) : Host.Outcome State Fault Refusal :=
  if s.laneState l = 1 then
    if c2.toNat = (l : Nat) then
      let t := min (c1.toNat % 4) (s.rdN Obj.maxRate)
      let s := s.capSent l
      let s := s.setLane l { (s.lane l) with target := t, fails := 0, fellBack := false }
      .next (if t = 0 then s.laneUp l else s.train l 1 (s.core.tick + 1))
    else .next (s.raise 0x80D3 (laneSource l) c2.toNat)
  else .next s

/-- LANE_TRAINING_END (R379): a training of TRAIN_TICKS ends. It passes where the lane had clock lock by its middle tick (`locked`), and
was aligned by then and free of errors in its second half. A pass steps up, and at the target or after a fallback enters
service; a failure is repeated, the third one falls back a step. DEDUCED: log entry 54. -/
def execLaneTrainingEnd (l : Fin 8) (locked : Bool) (s : State) : Host.Outcome State Fault Refusal :=
  let x := s.lane l
  if s.laneState l = 2 ∧ x.trainAt + s.rdN Obj.trainTicks ≤ s.core.tick then
    if locked && x.clean (s.rdN Obj.trainTicks) then
      let s := (s.setLane l { x with fails := 0 }).wrN (Obj.laneRate l) x.training
      .next (if x.fellBack ∨ x.target ≤ x.training then s.laneUp l else s.train l (x.training + 1) s.core.tick)
    else if x.fails + 1 < 3 ∨ x.training = 0 then
      .next ((s.setLane l { x with fails := x.fails + 1 }).train l x.training s.core.tick)
    else
      let s := (s.setLane l { x with fails := 0, fellBack := true }).wrN (Obj.laneRate l) (x.training - 1)
      .next ((s.raise 0x80D2 (laneSource l) (x.training - 1)).train l (x.training - 1) s.core.tick)
  else .next s

/-- LANE_DOWN (R379): loss of signal or lock, or 16 invalid code groups in any 1,024 words, in service. -/
def execLaneDown (l : Fin 8) (cause : Fin 3) (cut : Bool) (s : State) : Host.Outcome State Fault Refusal :=
  if s.laneState l = 3 then .next (s.laneDrop l cause cut) else .next s

/-- ELASTIC_ERROR (R378): counted, and the lane goes DOWN; a lane in loopback, which is DOWN, counts too. -/
def execElasticError (l : Fin 8) (cut : Bool) (s : State) : Host.Outcome State Fault Refusal :=
  if s.laneState l = 0 ∧ (s.rdN (Obj.loopback l) = 0 ∨ !s.hubPowered) then .next s
  else .next ((s.inc (Obj.elasticErrors l)).laneDrop l 3 cut)

/-- SKIP_SEND (R378): a lane that transmits sends a SKIP set, in service, coming up, waking its mate or in loopback (R381). -/
def execSkipSend (l : Fin 8) (s : State) : Host.Outcome State Fault Refusal :=
  if (s.laneFill l).isSome then .next (s.skipSend l) else .next s

/-- The check of a LOOPBACK write (R381): not the last lane in service while MATED. -/
def State.loopbackOk (s : State) (l v : Nat) : Bool :=
  v == 0 || !s.rdB Obj.mated || s.lanesUp != [l]

/-- LOOPBACK written (R379, R381): a change sends the lane to DOWN. -/
def State.loopbackOp (s : State) (l v : Nat) : State :=
  if s.rdN (Obj.loopback l) = v then s else (s.wrN (Obj.loopback l) v).laneRetrain l

/-- What a lane received in the ended tick (R377, R379, R381, Table 15.6): its errors are counted; a near-end loopback counts the words
that do not match, and a far-end one sends on what it received; in service, 16 invalid code groups in 1,024 words end it.
DEDUCED: log entry 54. -/
def State.laneReceive (s : State) (q : LaneRx) : State :=
  let l := q.lane
  if 8 ≤ l ∨ !s.hubPowered then s
  else
    let x := s.lane l
    let (rx, errors, mismatches, syms) := x.rx.takeAll q.groups
    let tick := s.core.tick - 1
    let rx := { rx with alignedAt := if rx.alignedAt.isNone && rx.place.isSome then some tick else rx.alignedAt
                        errorAt := if errors = 0 then rx.errorAt else some tick }
    let s := (s.setLane l { x with rx := rx }).incBy (Obj.codeErrors l) errors
    let loop := s.rdN (Obj.loopback l)
    let s := if loop = 1 ∨ loop = 2 then s.incBy (Obj.loopbackErrors l) mismatches else if loop = 3 then s.laneSend l syms else s
    if s.laneState l = 3 ∧ 16 ≤ rx.invalid.length then s.laneDrop l 2 rx.inMsg else s

/-- The lanes' receivers at a boundary. -/
def State.lanesReceive (s : State) (ls : List LaneRx) : State := s.each ls State.laneReceive

/-! ### WAKE sets -/

/-- WAKE sets go out on all lanes, at 1.25 Gb/s, for 1,000 ticks (R386). -/
def State.wakeMateOp (s : State) : State :=
  { s with towpath.wakeUntil := s.core.tick + 1000 }.each (List.range 8) (fun s l => s.wrN (Obj.laneRate l) 0)

/-- WAKE_SEND_END (R386). -/
def execWakeSendEnd (s : State) : Host.Outcome State Fault Refusal :=
  if 0 < s.towpath.wakeUntil ∧ s.towpath.wakeUntil ≤ s.core.tick then
    .next { s with towpath.wakeUntil := 0 }
  else .next s

end Sys2Proof.Machine
end

