-- ==== Sys2Proof/Machine/Restoration.lean ====
section
/-! DEFINITION. Restoration and protection (chapter 12): protection units (R304), what starts a restoration (R307, R308), its
steps (R309–R314), planned moves (R316), pre-arming (R317, R318), unit states (R319), commands (R320) and mated devices
(R321–R325). -/
namespace Sys2Proof.Machine

/-- UNIT_STATE: 0 IDLE, 1 WORKING, 2 PREMOVED, 3 RESTORING, 4 PROTECTED, 5 DOUBLE_FAULT, 6 LOCKOUT, 7 STANDBY. -/
def State.uState (s : State) (u : Nat) : Nat := s.rdN (Obj.unitState u)

/-- MODE: 0 NONE, 1 PATH, 2 REACH, 3 MATED. -/
def State.uMode (s : State) (u : Nat) : Nat := s.rdN (Obj.unitMode u)

/-- The reach of a side: 0 working, 1 protect. -/
def State.sideReach (s : State) (u side : Nat) : Nat := if side = 0 then s.rdN (Obj.workingReach u) else s.protectOf u

/-- The event source of a unit (R328). -/
def unitSource (u : Nat) : Nat := 0x3590 + u

/-- The reach that carries a unit's prompt and standard traffic at this device (R307): none while it carries none here. -/
def State.carrier (s : State) (u : Nat) : Option Nat :=
  if s.uMode u = 0 ∨ s.uState u = 7 ∨ s.uState u = 0 then none
  else if s.uMode u = 2 then some (s.sideReach u (s.unit u).side)
  else some (s.rdN (Obj.workingReach u))

/-- Reach r is in frame on every one of some groups. -/
def State.frameOn (s : State) (r : Nat) (gs : List Nat) : Bool := gs.all (s.inFrame r)

/-- The affected groups of a unit, or its enabled groups where no restoration has named them (R309). -/
def State.unitGroups (s : State) (u : Nat) : List Nat :=
  if (s.unit u).affected.isEmpty then s.enabledGroups (s.rdN (Obj.workingReach u)) else (s.unit u).affected

/-- The durable flows whose entries name a reach. -/
def State.reachFlows (s : State) (r : Nat) : List Nat := s.durableFlows.filter (fun f => entryReach (s.entry f) == r)

/-- The durable flows of a unit: those that its working reach's entries name. -/
def State.unitFlows (s : State) (u : Nat) : List Nat := s.reachFlows (s.rdN (Obj.workingReach u))

/-! ### Mate notices -/

/-- The body of a RESTORE_NOTICE (Table 15.5): the failed side's reach and route. A PATH unit's working side is its path in use
(Table 12.1), so that its failed side's route is ROUTE_WORKING. DEDUCED: log entry 57. -/
def State.noticeBody (s : State) (u cause start : Nat) : List Byte :=
  let side := if s.uMode u = 2 then (s.unit u).side else 0
  let r := if s.uMode u = 2 then s.sideReach u side else s.rdN (Obj.workingReach u)
  let route := if side = 0 then s.rdN (Obj.routeWorking u) else s.rdN (Obj.routeProtect u)
  beBytes 1 u ++ beBytes 1 r ++ beBytes 1 cause ++ beBytes 1 0 ++ beBytes 2 route ++ beBytes 2 0 ++ beBytes 4 (start % 2 ^ 32)

/-- Send a RESTORE_NOTICE (R322, R383): on every lane in service in each of three consecutive ticks. None goes to an
unreachable mate. -/
def State.sendNotice (s : State) (u cause start : Nat) (switch : Bool) : State :=
  if s.rdB Obj.mated && s.rdB Obj.mateReachable then
    let (s, m) := s.sendMate true 2 (if switch then 2 else 0) (s.noticeBody u cause start)
    if s.lanesUp.isEmpty then s else { s with rest.notices := s.rest.notices ++ [(m, 2, s.core.tick)] }
  else s

/-- The notices' further ticks (R383), at each boundary behind the one of the first copy: each copy bears the tick it is sent in. -/
def State.noticeStep (s : State) : State :=
  let step (s : State) (n : List Byte × Nat × Nat) : State :=
    if s.core.tick ≤ n.2.2 then { s with rest.notices := s.rest.notices ++ [n] }
    else
      let m := match mateRead n.1 with
        | some m => mateBytes m.type m.flags m.peer m.seq s.core.tick m.body
        | none => n.1
      let s := if s.lanesUp.isEmpty then s else s.putMate true m
      if n.2.1 = 1 then s else { s with rest.notices := s.rest.notices ++ [(n.1, n.2.1 - 1, s.core.tick)] }
  ({ s with rest.notices := [] } : State).each s.rest.notices step

/-! ### Triggers -/

/-- A trigger of R307 in the tick in progress: the restoration starts at the next boundary. A notice that is no switch
request goes at the decision (Table 12.2). -/
def State.restTrigger (s : State) (u cause : Nat) : State :=
  if [1, 2, 4].contains (s.uState u) && (s.unit u).trigger.isNone && s.uMode u != 0 then
    let at_ := s.core.tick + 1
    let s := s.setUnit u { (s.unit u) with trigger := some (cause, at_) }
    if s.uMode u = 3 then s else s.sendNotice u cause at_ false
  else s

/-- A group entered loss of frame: units whose traffic its reach carries (R307). -/
def State.lossTriggers (s : State) (r : Nat) : State :=
  s.each (List.range 4) (fun s u =>
    if s.carrier u = some r ∧ (s.rdN (Obj.unitTrigger u) = 1 ∨ !(s.enabledGroups r).any (s.inFrame r)) then
      s.restTrigger u 0
    else s)

/-- A reach was moored by a fault (R307, R308). -/
def State.faultTriggers (s : State) (r : Nat) : State :=
  s.each (List.range 4) (fun s u => if s.carrier u = some r then s.restTrigger u 1 else s)

/-- FRAME_LOST (R250): the group enters LOST; its restart, its delay history and its units follow. -/
def execFrameLost (r : Fin 4) (g : Fin 8) (s : State) : Host.Outcome State Fault Refusal :=
  match s.lostCause r g with
  | some c =>
    let s := s.frameLost r g c
    let s := if s.delayGroupIs r g then s.delayClear r 0 else s
    .next (s.lossTriggers r)
  | none => .next s

/-- AGC_FREEZE (R124): two consecutive counted ticks with training in SETTLE; a PATH unit copies the codes into its path's
seed (R305). -/
def execAgcFreeze (r : Fin 4) (s : State) : Host.Outcome State Fault Refusal :=
  if s.agcState r = 2 ∧ 2 ≤ (s.agc r).found then
    let s := s.agcFreezeOp r
    .next (s.each (List.range 4) (fun s u =>
      if s.uMode u = 1 ∧ s.rdN (Obj.workingReach u) = (r : Nat) then
        let v := beNat ((s.gainCodes r).flatMap (beBytes 2))
        s.wrN (if s.rdN (Obj.pathInUse u) = 0 then Obj.agcSeedPath0 u else Obj.agcSeedPath1 u) v
      else s))
  else .next s

/-! ### The sequence -/

/-- The seed of a path for the AGC re-arm (R311): 0xFFFF starts from the present code. -/
def State.pathSeeds (s : State) (u path r : Nat) : List Nat :=
  let v := s.rdN (if path = 0 then Obj.agcSeedPath0 u else Obj.agcSeedPath1 u)
  (List.range 4).map (fun i =>
    let c := v / 2 ^ (16 * (3 - i)) % 2 ^ 16
    if c = 0xFFFF then s.rdN (Obj.gainCode r i) else c)

/-- Move a PATH unit to its other path (Table 12.2 steps 3 and 4): the CD swap where the inactive bank is READY, unless a swap
of this boundary has been made already (R189), the AGC re-arm from the new path's seed, and the PATH_SELECT output, which follows PATH_IN_USE. -/
def State.switchPath (s : State) (u : Nat) : State :=
  let r := s.rdN (Obj.workingReach u)
  let path := 1 - s.rdN (Obj.pathInUse u)
  let s := if (s.cd r).swappedAt = some s.core.tick then s
    else if s.inactiveState r = 1 then s.cdSwapOp r
    else s.raise 0x80A3 (unitSource u) (s.inactiveState r)
  let s := s.agcRearmOp r (some (s.pathSeeds u path r)) 1
  s.wrN (Obj.pathInUse u) path

/-- Freeze durable flows (Table 11.6). -/
def State.freezeAll (s : State) (fs : List Nat) : State := s.each fs (fun s f => s.freeze f)

/-- Restart the groups of a reach that no loss of frame restarts (R307): cause 2. -/
def State.restRestart (s : State) (r cause : Nat) : State :=
  if cause = 0 then s
  else s.each (s.enabledGroups r) (fun s g => s.setLoad r g { (s.load r g) with restart := some (2, s.core.tick) })

/-- Show which side carries the durable flows. -/
def State.setDurableSide (s : State) (u side : Nat) : State := s.wrN (Obj.durableSide u) side

/-- A planned move of the durable flows (R316). -/
def State.moveDurable (s : State) (u side : Nat) : State :=
  if s.rdN (Obj.durableSide u) = side then s
  else (s.setDurableSide u side).raise 0x40A4 (unitSource u) side

/-- A planned move of all flows (R316). -/
def State.moveAll (s : State) (u side : Nat) : State :=
  (s.moveDurable u side).setUnit u { (s.unit u) with side := side }

/-- The device becomes standby of a MATED unit: its frozen flows number on as the active's do, and the mate, the protect side, carries
them. DEDUCED: log entry 55. -/
def State.toStandby (s : State) (u : Nat) : State :=
  let s := s.each (s.matedFlows u) (fun s f =>
    let x := s.flow f
    if x.state = 2 ∨ x.state = 3 then s.setFlow f { x with state := 1, drain := [] } else s)
  ((s.wrN (Obj.unitState u) 7).setDurableSide u 1).setUnit u { (s.unit u) with
    since := s.core.tick, trigger := none, decided := false, planned := none, mirrors := [], mirrored := [], mirrorLeft := [] }

/-- Begin sending withdrawn frames (R312): from the frame of S for WITHDRAW_TICKS frames, beside what the other side may still
withdraw. DEDUCED: log entry 15. -/
def State.withdrawOn (s : State) (u r : Nat) : State :=
  let x := s.unit u
  s.setUnit u { x with
    withdraw := x.withdraw.filter (fun w => w.reach != r) ++ [⟨r, s.core.tick + s.rdN (Obj.withdrawTicks u), s.enabledGroups r⟩]
    affected := s.enabledGroups r }

/-- The restoration that starts at the present boundary: its cause. -/
def State.restStarts (s : State) (u : Nat) : Option Nat :=
  match (s.unit u).trigger with
  | some (cause, start) =>
    if (s.unit u).decided ∧ start ≤ s.core.tick ∧ [1, 2, 4].contains (s.uState u) ∧ s.uMode u ≠ 0 then some cause else none
  | none => none

/-- Step 5 of boundary S (Table 12.2, steps 3 to 5): a PATH unit takes its other path, and its groups restart at step 6. One whose
reach was moored by a fault has none (R308). A unit in DOUBLE_FAULT tries its other path again (R319).
DEDUCED: log entry 17. -/
def State.restSwitch (s : State) (u : Nat) : State :=
  match s.restStarts u with
  | some cause =>
    if s.uMode u = 1 ∧ cause ≠ 1 then (s.switchPath u).restRestart (s.rdN (Obj.workingReach u)) cause else s
  | none =>
    if (s.unit u).planned = some .otherPath ∧ s.uState u = 5 ∧ s.uMode u = 1 then
      let r := s.rdN (Obj.workingReach u)
      let s := (s.setUnit u { (s.unit u) with planned := none, limitFrom := s.core.tick }).switchPath u
      s.onlyIf ((s.cd r).swappedAt == some s.core.tick) (fun s => s.delayClear r 1)
    else s

/-- Step 8 of boundary S: the restoration of unit u starts (R307–R312, Table 12.2). -/
def State.restoreStart (s : State) (u cause : Nat) : State :=
  let mode := s.uMode u
  let start := s.core.tick
  let x := s.unit u
  let side := x.side
  let failed := if mode = 2 then s.sideReach u side else s.rdN (Obj.workingReach u)
  let gs := s.enabledGroups failed
  let s := s.setUnit u { x with trigger := none, decided := false, planned := none, start := start, limitFrom := start,
                                failed := failed, affected := gs, goodSince := none, disarmAt := none }
  let s := (s.wrN (Obj.restoreStartTick u) start).inc (Obj.restorations u)
  let taken := if mode = 1 then s.rdN (Obj.pathInUse u) else if mode = 2 then 1 - side else 1
  let s := s.raise 0xC0A0 (unitSource u) (256 * cause + taken)
  let s := s.delayClear failed 2
  let s := if s.rdB Obj.mated && s.lanesUp.isEmpty then s.wakeMateOp else s
  if mode = 1 then
    let s := s.freezeAll (s.reachFlows failed)
    if cause = 1 then (s.wrN (Obj.unitState u) 5).raise 0xC0A2 (unitSource u) 0 else s.wrN (Obj.unitState u) 3
  else if mode = 2 then
    let s := if s.rdN (Obj.durableSide u) = side then s.freezeAll (s.unitFlows u) else s
    let s := (s.setDurableSide u (1 - side)).setUnit u { (s.unit u) with side := 1 - side }
    let s := s.withdrawOn u failed
    let other := s.sideReach u (1 - side)
    let s := if s.rdN (Obj.unitStandby u) = 1 ∧ s.conv.dark.contains other then s.each gs (fun s g => s.groupStart other g) else s
    s.wrN (Obj.unitState u) 3
  else
    let s := (s.freezeAll (s.matedFlows u)).setDurableSide u 1
    let s := (s.sendNotice u cause start true).withdrawOn u failed
    s.wrN (Obj.unitState u) 3

/-- RESTORATION_START (R307): the sequencer decides in tick S − 1 on a restoration that a trigger asks for; boundary S runs Table
12.2, each action at its own step of Table 2.2. DEDUCED: log entry 17. DEDUCED: log entry 57. -/
def execRestorationStart (u : Fin 4) (s : State) : Host.Outcome State Fault Refusal :=
  match (s.unit u).trigger with
  | some (cause, _) =>
    if [1, 2, 4].contains (s.uState u) ∧ s.uMode u ≠ 0 then
      .next (s.setUnit u { (s.unit u) with trigger := some (cause, s.core.tick + 1), decided := true })
    else .next s
  | none => .next s

/-- WITHDRAW_END (R312): the failed side sends probe frames again. -/
def execWithdrawEnd (u : Fin 4) (s : State) : Host.Outcome State Fault Refusal :=
  let x := s.unit u
  let over_ := x.withdraw.filter (fun w => decide (w.until_ ≤ s.core.tick))
  if over_.isEmpty then .next s
  else
    let s := s.setUnit u { x with withdraw := x.withdraw.filter (fun w => decide (s.core.tick < w.until_)) }
    .next (s.each over_ (fun s w => s.each (s.enabledGroups w.reach) (fun s g => s.txToProbe w.reach g)))

/-- The unit whose restoration froze a flow; a flow frozen when MODE went NONE keeps its working reach's.
DEDUCED: log entry 57. -/
def State.unitOfFlow (s : State) (f : Nat) : Option Nat :=
  let names (u : Nat) : Bool := s.rdN (Obj.workingReach u) == entryReach (s.entry f)
  match (List.range 4).find? (fun u => s.uMode u != 0 && names u) with
  | some u => some u
  | none => (List.range 4).find? names

/-- The start of a flow's drain (R313): at the first boundary that applies a cumulative entry once the flow's group has frame, or
RECONCILE_TICKS after it; in DOUBLE_FAULT the flows stay frozen (R319). The unit's first drain starts record 0x1187 where no drain runs there. DEDUCED: log entry 57. -/
def State.drainStart (s : State) (f : Nat) : State :=
  let x := s.flow f
  match s.unitOfFlow f with
  | none => s
  | some u =>
    let rg := s.flowGroup f
    if x.state = 2 ∧ x.reconcile ≠ 0 ∧ s.uState u ≠ 5 ∧ s.inFrame (rg / 8) (rg % 8) ∧
        (x.entered ∨ x.reconcile - 1 + s.rdN (Obj.reconcileTicks u) ≤ s.core.tick) then
      let fs := (s.unitFlows u).filter (fun k => [2, 3].contains (s.flow k).state)
      let first := !fs.any (fun k => (s.flow k).state == 3)
      let freed (k : Nat) : Nat := if (s.flow k).freed.1 = s.core.tick then (s.flow k).freed.2 else 0
      let left := fs.flatMap (fun k => (s.flow k).held.map (fun h => (k, h.seq)))
      let done : Nat := fs.foldl (fun a k => a + freed k) 0
      let s := s.drainFlow f
      if first ∧ !s.opRunning 7 then
        let s := { s with basin.drain := left, basin.drainEnd := left.length + done }
        ((s.opStart 7 (left.length + done)).opAdvance 7 done).wrN Obj.drainRecordUnit u
      else s
    else s

/-- DRAIN_START (R313). The boundary starts the drains whose condition it meets, before its frames; this row starts one whose
condition holds since. -/
def execDrainStart (f : Fin 4096) (s : State) : Host.Outcome State Fault Refusal := .next (s.drainStart f)

/-- The groups that carry the affected traffic now. -/
def State.restoredGroups (s : State) (u : Nat) : List (Nat × Nat) :=
  let r := if s.uMode u = 2 then s.sideReach u (s.unit u).side else s.rdN (Obj.workingReach u)
  (s.unit u).affected.map (fun g => (r, g))

/-- R314: every group that carries the affected traffic has frame and a report without RESTART. DEDUCED: log entry 57. -/
def State.restoreMet (s : State) (u : Nat) : Bool :=
  (s.restoredGroups u).all (fun q => s.inFrame q.1 q.2 &&
    (match (s.load q.1 q.2).report with
     | some p => !p.restart
     | none => false))

/-- RESTORED (R314). -/
def execRestored (u : Fin 4) (s : State) : Host.Outcome State Fault Refusal :=
  if s.uState u = 3 ∧ (s.uMode u = 1 ∨ s.uMode u = 2) ∧ s.restoreMet u then
    let n := s.core.tick - (s.unit u).start
    let s := (s.wrN (Obj.restoreTicks u) n).raise 0x40A1 (unitSource u) n
    if s.uMode u = 2 ∧ (s.unit u).side = 1 then
      .next ((s.wrN (Obj.unitState u) 4).setUnit u { (s.unit u) with since := s.core.tick })
    else .next (s.wrN (Obj.unitState u) 1)
  else .next s

/-- RESTORE_LIMIT_EXPIRY (R319): RESTORE_LIMIT ticks in RESTORING; the flows stay frozen. -/
def execRestoreLimitExpiry (u : Fin 4) (s : State) : Host.Outcome State Fault Refusal :=
  let x := s.unit u
  if s.uState u = 3 ∧ x.limitFrom + s.rdN (Obj.restoreLimit u) ≤ s.core.tick then
    let s := s.setUnit u { x with limitFrom := s.core.tick }
    .next ((s.wrN (Obj.unitState u) 5).raise 0xC0A2 (unitSource u) 0)
  else .next s

/-- DOUBLE_FAULT_PATH_RETRY (R319): at the boundary RESTORE_LIMIT further ticks on, the other path is tried; a reach that
is moored is not hunted on. DEDUCED: log entry 17. -/
def execDoubleFaultPathRetry (u : Fin 4) (s : State) : Host.Outcome State Fault Refusal :=
  let x := s.unit u
  if s.uState u = 5 ∧ s.uMode u = 1 ∧ s.released (domReach (s.rdN (Obj.workingReach u))) ∧
      x.limitFrom + s.rdN (Obj.restoreLimit u) ≤ s.core.tick + 1 then
    .next (s.setUnit u { x with planned := some .otherPath })
  else .next s

/-- A unit's frozen flows stand on a side that has frame from this boundary on: the reconcile of each counts from here (R313). -/
def State.reconcileFrom (s : State) (u : Nat) : State :=
  s.each ((s.unitFlows u).filter (fun f => (s.flow f).state == 2)) (fun s f =>
    let rg := s.flowGroup f
    s.setFlow f { (s.flow f) with reconcile := if s.inFrame (rg / 8) (rg % 8) then s.core.tick + 1 else 0, entered := false })

/-- DOUBLE_FAULT_RECOVERY (R319, R325) for one unit at a boundary. -/
def State.faultRecovery (s : State) (u : Nat) : State :=
  let x := s.unit u
  if s.uState u ≠ 5 then s
  else
    let gs := x.affected
    let resume (s : State) (side : Nat) : State :=
      let s := s.setUnit u { (s.unit u) with side := side, limitFrom := s.core.tick }
      ((s.setDurableSide u side).wrN (Obj.unitState u) 3).reconcileFrom u
    if gs.isEmpty then s
    else if s.uMode u = 1 then
      if s.frameOn (s.rdN (Obj.workingReach u)) gs then
        ((s.setUnit u { x with limitFrom := s.core.tick }).wrN (Obj.unitState u) 3).reconcileFrom u
      else s
    else if s.uMode u = 2 then
      if s.frameOn (s.sideReach u 0) gs then resume s 0
      else if s.frameOn (s.sideReach u 1) gs then resume s 1
      else s
    else if s.frameOn (s.rdN (Obj.workingReach u)) gs ∧ x.mateState ≠ 1 then
      ((s.setDurableSide u 0).wrN (Obj.unitState u) 1).reconcileFrom u
    else s

/-- Reaches kept dark (R306): the side that waits of a COLD unit. DEDUCED: log entry 55. -/
def State.restDark (s : State) : State :=
  let dark := (List.range 4).filter (fun r => (List.range 4).any (fun u =>
    s.rdN (Obj.unitStandby u) == 1 &&
      ((s.uMode u == 2 && (s.uState u == 1 || s.uState u == 6) && s.sideReach u 1 == r) ||
        (s.uMode u == 3 && s.uState u == 7 && s.rdN (Obj.workingReach u) == r))))
  { s with conv.dark := dark }

/-! ### Reverting -/

/-- WAIT_TO_RESTORE_EXPIRY (R319, R318): at the boundary that ends the wait, a revert from PROTECTED, or the return of the durable
flows in PREMOVED. DEDUCED: log entry 17. -/
def execWaitToRestoreExpiry (u : Fin 4) (s : State) : Host.Outcome State Fault Refusal :=
  let x := s.unit u
  let over_ (t : Option Nat) : Bool := match t with
    | some t => decide (t + s.rdN (Obj.waitToRestore u) ≤ s.core.tick + 1)
    | none => false
  if !s.rdB (Obj.unitRevertive u) then .next s
  else if s.uState u = 4 ∧ over_ x.goodSince then .next (s.setUnit u { x with planned := some (.all 0 1 true) })
  else if s.uState u = 2 ∧ over_ x.disarmAt then .next (s.setUnit u { x with planned := some (.durable 0 1) })
  else .next s

/-! ### Pre-arming -/

/-- The watch of a reach is ARMED. -/
def State.armed (s : State) (r : Nat) : Bool := s.rdN (Obj.watchState r) == 3

/-- An ignored pre-arm (R318): 0 unit busy or LOCKOUT, 1 both sides armed. -/
def State.prearmIgnored (s : State) (u why : Nat) : State := (s.inc Obj.prearmsIgnored).raise 0x80A6 (unitSource u) why

/-- A unit's planned move or switch at the next boundary. -/
def State.plan (s : State) (u : Nat) (m : Planned) : State := s.setUnit u { (s.unit u) with planned := some m }

/-- A new arm in PREMOVED (R318): the flows do not move back. -/
def State.newArm (s : State) (u : Nat) : State :=
  let x := s.unit u
  s.setUnit u { x with disarmAt := none, planned := if x.planned = some (.durable 0 1) then none else x.planned }

/-- A pre-arm signal acts on one unit that names its reach (R317, R318): what it moves, moves at the next boundary.
DEDUCED: log entry 17. -/
def State.preArmUnit (s : State) (u r : Nat) : State :=
  let st := s.uState u
  let mode := s.uMode u
  let act := s.rdN (Obj.preArmAction u)
  let w := s.rdN (Obj.workingReach u)
  let p := s.protectOf u
  let gs := s.enabledGroups w
  let s := if st = 2 ∧ r = w then s.newArm u else s
  if [3, 5, 6].contains st then s.prearmIgnored u 0
  else if act = 0 ∨ (act = 1 ∧ mode ≠ 2) then s
  else if mode = 2 ∧ s.armed w ∧ s.armed p then s.prearmIgnored u 1
  else if r = w then
    if st = 1 then
      if act = 1 then
        if s.frameOn p gs && !s.armed p then s.plan u (.durable 1 2) else s
      else if mode = 1 ∨ (mode = 2 ∧ s.frameOn p gs) ∨
          (mode = 3 ∧ s.rdB Obj.mateReachable ∧ (s.unit u).mateState = 7) then s.restTrigger u 3
      else s
    else if st = 2 then
      if act = 2 ∧ s.frameOn p gs then s.restTrigger u 3 else s
    else s
  else if st = 2 ∨ st = 4 then
    if s.frameOn w gs then
      s.plan u (if act = 2 then .all 0 1 false else .durable 0 (if st = 2 then 1 else st))
    else s
  else s

/-- Units that name a reach: as working reach, or as protect reach in REACH mode. -/
def State.unitsOf (s : State) (r : Nat) : List Nat :=
  upto 4 (fun u => s.uMode u != 0 && (s.rdN (Obj.workingReach u) == r || (s.uMode u == 2 && s.protectOf u == r)))

/-- PRE_ARM (R317): the signal that a reach's watch gave. -/
def execPreArm (r : Fin 4) (s : State) : Host.Outcome State Fault Refusal :=
  if s.eq.prearm.contains (r : Nat) then
    let s := { s with eq.prearm := s.eq.prearm.erase (r : Nat) }
    .next (s.each (s.unitsOf r) (fun s u => s.preArmUnit u r))
  else .next s

/-- DISARM (R318): in PREMOVED the flows wait to move back, or with REVERTIVE 0 the unit enters PROTECTED.
DEDUCED: log entry 57. -/
def execDisarm (r : Fin 4) (s : State) : Host.Outcome State Fault Refusal :=
  if s.eq.disarm.contains (r : Nat) then
    let s := { s with eq.disarm := s.eq.disarm.erase (r : Nat) }
    .next (s.each (s.unitsOf r) (fun s u =>
      if s.uState u = 2 ∧ s.rdN (Obj.workingReach u) = (r : Nat) then
        if s.rdB (Obj.unitRevertive u) then s.setUnit u { (s.unit u) with disarmAt := some s.core.tick }
        else s.plan u (.all 1 4 false)
      else s))
  else .next s

/-! ### Mated devices -/

/-- A planned switch (R325): the notice with SWITCH and cause 3, withdrawal, and STANDBY at once; it is a planned move to the protect
side (R316). -/
def State.plannedSwitch (s : State) (u : Nat) : State :=
  let s := ((s.sendNotice u 3 s.core.tick true).withdrawOn u (s.rdN (Obj.workingReach u))).toStandby u
  (s.setUnit u { (s.unit u) with handed := true }).raise 0x40A4 (unitSource u) 1

/-- A HELLO of the mate acts (R319, R325). -/
def State.helloIn (s : State) (b : List Byte) : State :=
  s.each (List.range 4) (fun s u =>
    let st := hdrField b (5 + u) 1
    let ready := bitOf (hdrField b 9 1) u
    let s := s.setUnit u { (s.unit u) with mateState := st, mateReady := ready, handed := (s.unit u).handed && st != 1 }
    let x := s.unit u
    if s.uMode u ≠ 3 then s
    else if s.uState u = 3 ∧ st = 1 ∧ s.core.tick ≤ x.start + s.rdN (Obj.restoreLimit u) then
      let n := s.core.tick - x.start
      ((s.wrN (Obj.restoreTicks u) n).raise 0x40A1 (unitSource u) n).toStandby u
    else if s.uState u = 1 ∧ ready ∧ s.rdB (Obj.unitRevertive u) then s.plan u .toMate
    else s)

/-- HELLO (R325). -/
def execHello (lane : Fin 8) (value : List Byte) (s : State) : Host.Outcome State Fault Refusal :=
  if s.laneState lane ≠ 3 then .next s else .next (s.mateArrive 1 value)

/-- A RESTORE_NOTICE acts (R322, R324): a pre-arm for every unit whose working side has the notice's route; with SWITCH set,
the standby that names the same two reaches becomes active at that boundary. -/
def State.noticeIn (s : State) (m : MateMsg) : State :=
  let b := m.body
  let reach := hdrField b 1 1
  let route := hdrField b 4 2
  let s := s.each (List.range 4) (fun s u =>
    if route ≠ 0 ∧ s.uMode u ≠ 0 ∧ s.rdN (Obj.routeWorking u) = route then s.preArmUnit u (s.rdN (Obj.workingReach u)) else s)
  if bitOf m.flags 1 then
    s.each (List.range 4) (fun s u =>
      if s.uMode u = 3 ∧ s.uState u = 7 ∧ s.rdN (Obj.protectReach u) = reach then
        s.setUnit u { (s.unit u) with switchAt := some (hdrField b 2 1, s.core.tick) }
      else s)
  else s

/-- RESTORE_NOTICE (R322). -/
def execRestoreNotice (value : List Byte) (s : State) : Host.Outcome State Fault Refusal :=
  .next (s.mateArrive 2 value)

/-- A restoration that a switch request of the mate starts (R307): noted, counted and reported with cause 2. -/
def State.mateRestoration (s : State) (u : Nat) : State :=
  let s := s.setUnit u { (s.unit u) with start := s.core.tick }
  let s := ((s.wrN (Obj.restoreStartTick u) s.core.tick).inc (Obj.restorations u)).raise 0xC0A0 (unitSource u) (256 * 2)
  let s := if s.rdB Obj.mated && s.lanesUp.isEmpty then s.wakeMateOp else s
  s.delayClear (s.rdN (Obj.workingReach u)) 2

/-- The switch request acts in step 8 of the boundary after its arrival (R324): the standby becomes active. One with cause 3 is a planned
move (R316), and the home that takes its traffic back raises REVERTED (R325). DEDUCED: log entry 57. -/
def State.switchStep (s : State) (u : Nat) : State :=
  match (s.unit u).switchAt with
  | some (cause, t) =>
    if s.uMode u = 3 ∧ s.uState u = 7 ∧ t ≤ s.core.tick then
      let since := (s.unit u).since
      let home : Bool := match s.rest.matePeer with
        | some p => decide (s.rdN Obj.localPeerId < p)
        | none => false
      let s := s.mateRestoration u
      let s := s.becomeActive u false
      let s := if cause = 3 then s.raise 0x40A4 (unitSource u) 0 else s
      if cause = 3 ∧ home then s.raise 0x40A5 (unitSource u) (min (s.core.tick - since) 0xFFFFFFFF) else s
    else s
  | none => s

/-- The election of R325 at a boundary: the home when its working side has frame; the other device, when it alone has, which
it cannot see of the home unless REVERT_READY shows it: a free choice (log entry 62). A device that has handed its unit over waits
for the mate's HELLO to show WORKING, or MATE_TIMEOUT ticks. DESIGN CHOICE: log entry 62. -/
def State.electStep (s : State) (u : Nat) : State :=
  let w := s.rdN (Obj.workingReach u)
  let gs := s.enabledGroups w
  if s.uMode u = 3 ∧ s.uState u = 7 ∧ s.rdB Obj.mateReachable ∧ (s.unit u).mateState = 7 ∧
      (s.unit u).switchAt = none ∧ !gs.isEmpty ∧ s.frameOn w gs ∧
      (!(s.unit u).handed ∨ (s.unit u).since + s.rdN Obj.mateTimeout ≤ s.core.tick) then
    let elect (s : State) : State :=
      ((s.setDurableSide u 0).wrN (Obj.unitState u) 1).setUnit u { (s.unit u) with handed := false }
    match s.rest.matePeer with
    | some p =>
      if s.rdN Obj.localPeerId < p then elect s
      else if (s.unit u).mateReady then s
      else
        let (n, s) := s.draw
        if n % 2 = 1 then elect s else s
    | none => s
  else s

/-- The mirrored fields of a flow (R323): E_s, A, last sequence and FCS of the last client frame cut, E_r and N. -/
def State.mirrorFields (s : State) (f : Nat) : List Nat :=
  let x := s.flow f
  [x.epoch, x.acked, x.lastSeq, x.lastFcs, x.er, contiguousN x x.rxHeld.length x.rn]

/-- A mirror entry's 28 bytes (Table 15.5). -/
def mirrorEntry (f : Nat) (v : List Nat) : List Byte :=
  beBytes 2 f ++ beBytes 2 (v.getD 0 0) ++ beBytes 6 (v.getD 1 0) ++ beBytes 6 (v.getD 2 0) ++ beBytes 4 (v.getD 3 0) ++
    beBytes 2 (v.getD 4 0) ++ beBytes 6 (v.getD 5 0)

/-- Entries of one mirror that the lanes in service carry within a tick (R384): full messages of 35 entries, and a shorter
one in each lane's rest, with one SKIP word in every 2,048 words. DEDUCED: log entry 54. -/
def State.mirrorRoom (s : State) : Nat :=
  let per (l : Nat) : Nat :=
    let syms := laneSymbols (s.rdN (Obj.laneRate l)) - (s.lane l).queued
    let room := syms - 4 * ceilNat syms 8192
    35 * (room / 1008) + (room % 1008 - 29) / 28
  s.lanesUp.foldl (fun a l => a + per l) 0

/-- Cut a list into runs of n. -/
def chunks {α : Type} (n : Nat) : Nat → List α → List (List α)
  | 0, _ => []
  | k + 1, l => if l.isEmpty then [] else l.take n :: chunks n k (l.drop n)

/-- MIRROR_SEND (R323, R384) for one unit: the changed flows' entries, those that found no room in the last mirror first. With no lane in service the gate is lifted and every
flow is misaligned. -/
def State.mirrorStep (s : State) (u : Nat) : State :=
  if s.uMode u ≠ 3 ∨ s.uState u = 7 ∨ s.uState u = 0 ∨ s.basin.checkpoint.isSome then s
  else if s.lanesUp.isEmpty ∨ !s.rdB Obj.mateReachable then
    s.each (s.matedFlows u) (fun s f => s.setFlow f { (s.flow f) with misaligned := true })
  else
    let x := s.unit u
    let changed := (s.matedFlows u).filter (fun f => s.mirrorFields f != tget (fun _ => []) x.mirrored f)
    let first := x.mirrorLeft.filter changed.contains
    let order := first ++ changed.filter (fun f => !first.contains f)
    let n := min s.mirrorRoom 8925
    let es := (order.take n).map (fun f => (f, s.mirrorFields f))
    let x := { x with mirrorLeft := order.drop n }
    let s := s.setUnit u x
    if es.isEmpty then s
    else
      let parts := chunks 35 es.length es
      let t := s.core.tick % 2 ^ 32
      let s := s.setUnit u { x with mirrors := x.mirrors ++ [(t, es)] }
      s.each parts.zipIdx (fun s p =>
        (s.sendMate false 4 0 (beBytes 1 u ++ beBytes 1 p.2 ++ beBytes 1 parts.length ++ beBytes 1 p.1.length ++ beBytes 4 t ++
          p.1.flatMap (fun e => mirrorEntry e.1 e.2))).1)

/-- One mirror entry acts on the standby (R323): cells that precede A are freed; a flow whose own numbering of the client
frame with that FCS differs is misaligned; an aligned one takes over E_s. -/
def State.mirrorEntryIn (s : State) (u : Nat) (b : List Byte) : State :=
  let f := hdrField b 0 2 % 4096
  if s.matedUnit f ≠ some u then s
  else
    let a := hdrField b 4 6
    let x := s.flow f
    let own := x.frames.find? (fun q => q.1 == hdrField b 16 4)
    let gone := x.held.filter (fun h => precedes h.seq a)
    let s := s.setFlow f { x with acked := if precedes x.acked a then a else x.acked,
                                  held := x.held.filter (fun h => !precedes h.seq a),
                                  frames := x.frames.filter (fun q => !precedes q.2 a),
                                  mirEr := hdrField b 20 2, mirN := hdrField b 22 6 }
    let s := s.freeHeld gone
    match own with
    | some q =>
      if q.2 = hdrField b 10 6 then s.setFlow f { (s.flow f) with epoch := hdrField b 2 2 }
      else (s.setFlow f { (s.flow f) with misaligned := true }).raiseLimitedItem 0x80A8 0x3580 f 1 f
    | none => s

/-- A mirror message acts on the standby; once every part has arrived it is acknowledged (R323, R384).
DEDUCED: log entry 55. -/
def State.mirrorIn (s : State) (b : List Byte) : State :=
  let u := hdrField b 0 1
  if 4 ≤ u ∨ s.uMode u ≠ 3 ∨ s.uState u ≠ 7 then s
  else
    let n := hdrField b 3 1
    let t := hdrField b 4 4
    let s := s.each (List.range n) (fun s i => s.mirrorEntryIn u ((b.drop (8 + 28 * i)).take 28))
    let x := s.unit u
    let seen := if x.parts.1 = t then x.parts.2 else []
    let seen := if seen.contains (hdrField b 1 1) then seen else hdrField b 1 1 :: seen
    let s := s.setUnit u { x with parts := (t, seen) }
    if seen.length = hdrField b 2 1 then
      (s.sendMate false 5 0 (beBytes 1 u ++ beBytes 3 0 ++ beBytes 4 t)).1
    else s

/-- MIRROR (R323). -/
def execMirror (value : List Byte) (s : State) : Host.Outcome State Fault Refusal :=
  .next (s.mateArrive 4 value)

/-- A mirror is acknowledged (R384): what it carried is what the standby holds, and the egress gate opens up to its N. -/
def State.mirrorAckIn (s : State) (b : List Byte) : State :=
  let u := hdrField b 0 1
  let t := hdrField b 4 4
  if 4 ≤ u then s
  else
    let x := s.unit u
    match x.mirrors.find? (fun q => q.1 == t) with
    | some (_, es) =>
      let held := es.foldl (fun m e => tset (fun _ => []) m e.1 e.2) x.mirrored
      let s := s.setUnit u { x with mirrored := held, mirrors := (x.mirrors.dropWhile (fun q => q.1 != t)).drop 1 }
      s.each es (fun s e => s.setFlow e.1 { (s.flow e.1) with gateN := e.2.getD 5 0 })
    | none => s

/-- MIRROR_ACK (R323). -/
def execMirrorAck (value : List Byte) (s : State) : Host.Outcome State Fault Refusal :=
  .next (s.mateArrive 5 value)

/-- A TIME_RELAY acts (R380): an input that the mate follows is presented as lost here. -/
def State.timeRelayIn (s : State) (b : List Byte) : State := { s with towpath.mateSelected := hdrField b 1 1 }

/-- TIME_RELAY (R380). -/
def execTimeRelay (value : List Byte) (s : State) : Host.Outcome State Fault Refusal :=
  .next (s.mateArrive 6 value)

/-- A mate message takes effect. DESIGN CHOICE: log entry 62. -/
def State.mateActs (s : State) (m : MateMsg) : State :=
  if m.type = 1 then s.helloIn m.body
  else if m.type = 2 then s.noticeIn m
  else if m.type = 4 then s.mirrorIn m.body
  else if m.type = 5 then s.mirrorAckIn m.body
  else if m.type = 6 then s.timeRelayIn m.body
  else s

/-- Messages that arrived in the ended tick take effect at the boundary (R383). -/
def State.mateBoundary (s : State) : State := ({ s with towpath.inbox := [] } : State).each s.towpath.inbox State.mateActs

/-- MATE_RELAY (R385): forwarded on a reach of a REACH unit; on a MATED unit's reach, a message of the mate that came with
RELAYED set acts as a towpath message. -/
def State.mateRelayIn (s : State) (r g : Nat) (bs : List Byte) : State :=
  if (s.otherReach r).isSome then s.relayForward r g bs
  else if !s.matedReaches.contains r then s
  else
    match mateRead bs with
    | none => s.mateError
    | some m =>
      if m.flags % 2 = 0 ∨ m.peer = s.rdN Obj.localPeerId then s
      else
        let (s, fresh) := s.mateHeard m
        if !mateKnown m.type then s.inc Obj.messageErrors
        else if fresh then s.mateActs m else s

/-- MATE_UNREACHABLE (R322, R323). -/
def execMateUnreachable (s : State) : Host.Outcome State Fault Refusal :=
  if s.rdB Obj.mateReachable ∧ s.mateSilent then
    let s := (s.wrN Obj.mateReachable 0).raise 0x80A7 0x3580 0
    .next (s.each (upto 4 (fun u => s.uMode u == 3)) (fun s u =>
      s.each (s.matedFlows u) (fun s f => s.setFlow f { (s.flow f) with misaligned := true })))
  else .next s

/-! ### Commands and writes -/

/-- The check of a COMMAND write (R320, R325): 1 LOCKOUT, 2 FORCE, 3 CLEAR. -/
def State.commandStatus (s : State) (u v : Nat) : Option Nat :=
  let st := s.uState u
  let mode := s.uMode u
  if st = 3 then some Status.busy
  else if v = 1 then (if st = 7 then some Status.refused else none)
  else if v = 3 then (if st = 6 then none else some Status.refused)
  else if mode = 0 ∨ !([1, 2, 4].contains st) then some Status.refused
  else if mode = 2 then
    let side := (s.unit u).side
    if s.frameOn (s.sideReach u (1 - side)) (s.enabledGroups (s.sideReach u side)) then none else some Status.refused
  else if mode = 3 then
    if s.rdB Obj.mateReachable && (s.unit u).mateState == 7 then none else some Status.refused
  else none

/-- LOCKOUT applied (R319): a planned move to the working side. -/
def State.lockoutOp (s : State) (u : Nat) : State :=
  if s.uState u = 3 then s
  else
    let s := if s.uMode u = 2 then s.moveAll u 0 else s
    (s.setUnit u { (s.unit u) with trigger := none, decided := false, planned := none, disarmAt := none }).wrN (Obj.unitState u) 6

/-- FORCE applied (R319, R325): a restoration in PATH mode, a planned move in REACH mode, a planned switch in MATED mode. -/
def State.forceOp (s : State) (u : Nat) : State :=
  let mode := s.uMode u
  let s := s.onlyIf ([1, 2, 4].contains (s.uState u)) (fun s => s.setUnit u { (s.unit u) with planned := none })
  if !([1, 2, 4].contains (s.uState u)) then s
  else if mode = 1 then s.restTrigger u 3
  else if mode = 2 then
    let side := 1 - (s.unit u).side
    let s := (s.moveAll u side).setUnit u { (s.unit u) with side := side, since := s.core.tick, goodSince := none, disarmAt := none }
    s.wrN (Obj.unitState u) (if side = 1 then 4 else 1)
  else if mode = 3 then s.plannedSwitch u
  else s

/-- CLEAR applied (R319). -/
def State.clearOp (s : State) (u : Nat) : State := if s.uState u = 6 then s.wrN (Obj.unitState u) 1 else s

/-- COMMAND applied. DEDUCED: log entry 57. -/
def State.commandOp (s : State) (u v : Nat) : State :=
  if v = 1 then s.lockoutOp u else if v = 2 then s.forceOp u else s.clearOp u

/-- The reaches of this device that a unit would name in a mode (R304). -/
def namedReaches (mode w : Nat) : List Nat :=
  if mode = 0 then [] else if mode = 2 then [w, w ^^^ 1] else [w]

/-- Some other unit names one of some reaches (R304). -/
def State.namedElsewhere (s : State) (u : Nat) (rs : List Nat) : Bool :=
  (List.range 4).any (fun v => v != u && (namedReaches (s.uMode v) (s.rdN (Obj.workingReach v))).any rs.contains)

/-- The requirement of Table 12.1 on a REACH unit: each enabled group of either reach is enabled on the other with the same
PEER_ID, in the prospective configuration (R525). DEDUCED: log entry 71. -/
def State.reachPairOk (s : State) (w : Nat) : Bool :=
  let on (r g : Nat) : Bool := s.prd (Obj.groupEnable r g) == 1
  (List.range 8).all (fun g =>
    if on w g || on (w ^^^ 1) g then
      on w g && on (w ^^^ 1) g && s.rdN (Obj.peerId w g) == s.rdN (Obj.peerId (w ^^^ 1) g)
    else true)

/-- Check 9 of a UNIT_MODE write (R304). -/
def State.unitModeOk (s : State) (u v : Nat) : Bool :=
  let w := s.rdN (Obj.workingReach u)
  !s.namedElsewhere u (namedReaches v w) && (v != 2 || s.reachPairOk w)

/-- Check 9 of a WORKING_REACH write (R304). DEDUCED: log entry 71. -/
def State.workingReachOk (s : State) (u v : Nat) : Bool := !s.namedElsewhere u (namedReaches (s.uMode u) v)

/-- UNIT_MODE written (R319): PATH or REACH start WORKING, MATED starts STANDBY, NONE returns the flows to their entries'
reach. DEDUCED: log entry 55. -/
def State.unitModeOp (s : State) (u v : Nat) : State :=
  let s := (s.wrN (Obj.unitMode u) v).setUnit u { since := s.core.tick }
  let s := s.setDurableSide u (if v = 3 then 1 else 0)
  s.wrN (Obj.unitState u) (if v = 0 then 0 else if v = 3 then 7 else 1)

/-- Reaches of this device that an RWM write to a unit needs moored (R327). -/
def State.unitReaches (s : State) (u : Nat) : List Nat :=
  let w := s.rdN (Obj.workingReach u)
  if s.uMode u = 0 then [w] else namedReaches (s.uMode u) w

/-! ### The boundary -/

/-- The tick since which the working side has had frame on every affected group (Table 12.4). -/
def State.restFigures (s : State) (u : Nat) : State :=
  if s.uMode u = 0 then s
  else
    let w := s.rdN (Obj.workingReach u)
    let gs := if s.uMode u = 3 then s.enabledGroups w else s.unitGroups u
    let good := !gs.isEmpty && s.frameOn w gs
    let x := s.unit u
    s.setUnit u { x with goodSince := if good then some (x.goodSince.getD s.core.tick) else none }

/-- A frozen flow's group at a boundary (R313): the reconcile counts from the boundary at which it has frame, and starts again where
frame is lost before the drain. -/
def State.reconcileStep (s : State) (f : Nat) : State :=
  let x := s.flow f
  let rg := s.flowGroup f
  if s.inFrame (rg / 8) (rg % 8) then
    s.onlyIf (x.reconcile == 0) (fun s => s.setFlow f { x with reconcile := s.core.tick + 1 })
  else s.onlyIf (x.reconcile != 0 || x.entered) (fun s => s.setFlow f { x with reconcile := 0, entered := false })

/-- A unit's planned move or switch at step 8 (R316–R319, R325), unless a restoration starts here. A revert needs the working side
still good. -/
def State.planStep (s : State) (u : Nat) : State :=
  let x := s.unit u
  if !([1, 2, 4].contains (s.uState u)) then s
  else
    let s := s.setUnit u { x with planned := none }
    let enter (s : State) (st : Nat) : State :=
      let s := if st = 4 ∧ s.uState u ≠ 4 then s.setUnit u { (s.unit u) with since := s.core.tick } else s
      (s.setUnit u { (s.unit u) with disarmAt := none }).wrN (Obj.unitState u) st
    match x.planned with
    | some (.durable side st) => enter (s.moveDurable u side) st
    | some (.all side st reverted) =>
      if reverted ∧ x.goodSince = none then s
      else
        let s := s.moveAll u side
        let s := if reverted then s.raise 0x40A5 (unitSource u) (min (s.core.tick - x.since) 0xFFFFFFFF) else s
        enter s st
    | some .toMate => if s.uMode u = 3 ∧ s.uState u = 1 then s.plannedSwitch u else s
    | some .otherPath => s
    | none => s

/-- Restoration's work at a boundary, in step 8: what frames brought, restorations and planned moves, recovery from a double fault,
switch requests, elections and drains (R307–R325). -/
def State.restBoundary (s : State) : State :=
  let s := s.each (s.durableFlows.filter (fun f => (s.flow f).state == 2)) State.reconcileStep
  let s := s.each (List.range 4) (fun s u =>
    let s := s.restFigures u
    let s := match s.restStarts u with
      | some cause => s.restoreStart u cause
      | none => s.planStep u
    ((s.faultRecovery u).switchStep u).electStep u)
  let s := s.each (s.durableFlows.filter (fun f => (s.flow f).state == 2)) State.drainStart
  let drains := s.durableFlows.filter (fun f => !(s.flow f).drain.isEmpty)
  s.each (List.range 4) (fun s u => s.wrN (Obj.drainRemaining u)
    (drains.foldl (fun a f => if s.unitOfFlow f = some u then a + (s.flow f).drain.length else a) 0))

end Sys2Proof.Machine
end

