-- ==== Sys2Proof/Machine/Engine.lean ====
section
/-! DEFINITION. The Kizaiz engines (chapters 16 and 17): registers and CSRs (R392, R426), memory (R393–R397), moorings
(R398–R400), issue and cycle accounting (R403, R404, R424, R425), traps (R405–R407), tasks (R408, R419–R423), loading (R410–
R412) and partitions (R415–R418). -/
namespace Sys2Proof.Machine

def State.eng (s : State) (c e : Nat) : EngSlot := tget (fun _ => {}) s.engine.slots (16 * c + e)

def State.setEng (s : State) (c e : Nat) (x : EngSlot) : State :=
  { s with engine.slots := tset (fun _ => {}) s.engine.slots (16 * c + e) x }

/-- The slot's cluster runs in crew mode (R390): its MODE is CREW. -/
def State.crew (s : State) (c : Nat) : Bool := s.rdN (Obj.clusterMode c) == 1

/-- The event source of a slot (R414). -/
def engSource (c e : Nat) : Nat := 0x5010 + 0x40 * c + e

/-- SLOT_STATE: 0 EMPTY, 1 LOADED, 2 RUNNING, 3 FAULTED. -/
def State.engState (s : State) (c e : Nat) : Nat := s.rdN (Obj.engSlotState c e)

/-- The user partition that a cluster belongs to (R415). -/
def State.partOf (s : State) (c : Nat) : Option Nat :=
  (List.range 4).find? (fun p =>
    decide (s.rdN (Obj.firstCluster p) ≤ c ∧ c < s.rdN (Obj.firstCluster p) + s.rdN (Obj.clusterCount p)))

/-- A bit of TAP_GRANT of a cluster's partition (R417). -/
def State.tapGranted (s : State) (c bit : Nat) : Bool :=
  match s.partOf c with
  | some p => bitOf (s.rdN (Obj.tapGrant p)) bit
  | none => false

/-! ### Registers -/

/-- Read a general register: g0 reads as 0 (R392). -/
def EngSlot.gpr (x : EngSlot) (r : BitVec 5) : Word := if r = 0 then 0 else tget (fun _ => 0) x.g r.toNat

/-- Write a general register: g0 ignores it (R392). -/
def EngSlot.setGpr (x : EngSlot) (r : BitVec 5) (v : Word) : EngSlot :=
  if r = 0 then x else { x with g := tset (fun _ => 0) x.g r.toNat v }

/-- Lane l of a vector register. -/
def EngSlot.lane (x : EngSlot) (v : BitVec 3) (l : Nat) : Word := tget (fun _ => 0) x.v (8 * v.toNat + l)

/-- The eight lanes of a vector register. -/
def EngSlot.vec (x : EngSlot) (v : BitVec 3) : List Word := (List.range 8).map (x.lane v)

/-- Write one lane. -/
def EngSlot.setLane (x : EngSlot) (v : BitVec 3) (l : Nat) (w : Word) : EngSlot :=
  { x with v := tset (fun _ => 0) x.v (8 * v.toNat + l) w }

/-- Write the eight lanes. -/
def EngSlot.setVec (x : EngSlot) (v : BitVec 3) (ls : List Word) : EngSlot :=
  (List.range 8).foldl (fun x l => x.setLane v l (ls.getD l 0)) x

/-- A stored CSR. -/
def EngSlot.cs (x : EngSlot) (n : Nat) : Word := tget (fun _ => 0) x.csr n

def EngSlot.setCs (x : EngSlot) (n : Nat) (v : Word) : EngSlot := { x with csr := tset (fun _ => 0) x.csr n v }

/-- Set DZ and OV where an instruction sets them: sticky (R392). -/
def EngSlot.flag (x : EngSlot) (dz ov : Bool) : EngSlot :=
  if dz || ov then x.setCs 6 (x.cs 6 ||| boolWord dz ||| (boolWord ov <<< 1)) else x

/-- Messages of a mooring that can be read at a tick and cycle. -/
def EngSlot.messages (x : EngSlot) (k tick cycle : Nat) : List (Nat × Nat × List Word) :=
  (tget (fun _ => []) x.moor k).filter (fun m => decide (m.1 < tick ∨ (m.1 = tick ∧ m.2.1 ≤ cycle)))

/-- The mask of moorings that hold a message. -/
def EngSlot.moorMask (x : EngSlot) (cycle : Nat) : Nat := maskOf 4 (fun k => !(x.messages k x.tick cycle).isEmpty)

/-! ### Counters -/

/-- The key of counter k: 0 CYCLES … 4 BACK_STARVED, 5–8 event counters (R426). -/
def ctrKey (c e k : Nat) : Nat := objKey (0x5400 + 0x10 * c + e) (1 + k)

/-- A counter wraps in a cycle (R427): its overflow bit is set, and the cycle kept for a clear in the same cycle (Table 17.4). -/
def State.wrap (s : State) (c e k cyc : Nat) : State :=
  let x := s.eng c e
  (s.setEng c e { x with wrapped := (k, cyc) :: x.wrapped.filter (fun q => q.1 != k) }).wrN (Obj.counterOverflow c e)
    (setBit (s.rdN (Obj.counterOverflow c e)) k true)

/-- Increments of a counter, the last of them in cycle `cyc` (R427): 48 bits, its overflow bit set at a wrap; an increment in the cycle
of a preset is lost, a wrap in it still sets the bit (Table 17.4). -/
def State.countIn (s : State) (c e k n cyc last : Nat) : State :=
  let x := s.eng c e
  if n = 0 then s
  else
    match x.preset.find? (fun q => q.1 == k && q.2.1 == cyc) with
    | some q =>
      (s.setEng c e { x with preset := (k, cyc, q.2.2 + n) :: x.preset.filter (fun q => q.1 != k) }).onlyIf
        (decide (q.2.2 < 2 ^ 48 ∧ 2 ^ 48 ≤ q.2.2 + n)) (fun s => s.wrap c e k cyc)
    | none =>
      let v := s.rdN (ctrKey c e k) + n
      let s := s.setEng c e { x with counted := (k, cyc, last) :: x.counted.filter (fun q => q.2.1 == cyc) }
      (s.wrN (ctrKey c e k) (v % 2 ^ 48)).onlyIf (decide (2 ^ 48 ≤ v))
        (fun s => s.wrap c e k (if v % 2 ^ 48 < last then cyc else cyc - 1))

/-- Increments of a counter in the cycle in which the slot stands. -/
def State.count (s : State) (c e k n : Nat) : State := s.countIn c e k n (s.eng c e).cycle n

/-- Increments that a counter has had in a cycle. -/
def EngSlot.countedIn (x : EngSlot) (k cyc : Nat) : Nat :=
  x.counted.foldl (fun a q => if q.1 = k ∧ q.2.1 = cyc then a + q.2.2 else a) 0

/-- Count an event of Table 17.2, in a cycle, in every event counter that selects it. -/
def State.eventIn (s : State) (c e code n cyc : Nat) : State :=
  s.each (List.range 4) (fun s j => if s.rdN (Obj.eventSelect c e j) = code then s.countIn c e (5 + j) n cyc n else s)

/-- An event in the cycle in which the slot stands. -/
def State.event (s : State) (c e code n : Nat) : State := s.eventIn c e code n (s.eng c e).cycle

/-- The slot passes to a cycle with so many slots used: its task cycles are counted, one in each cycle. -/
def State.passTo (s : State) (c e t used : Nat) : State :=
  let x := s.eng c e
  (s.setEng c e { x with cycle := t, used := used }).countIn c e 0 (t - x.cycle) t 1

/-- Count back-starved slots, the last of them in cycle `cyc`, by their causes (R425). DEDUCED: log entry 59. -/
def State.starve (s : State) (c e cyc : Nat) (causes : List Nat) : State :=
  s.each [1, 2, 3, 4, 5, 6] (fun s k =>
    let n := causes.countP (· == k)
    (s.countIn c e 4 n cyc n).eventIn c e k n cyc)

/-! ### Issue -/

/-- The pairing limits of R403 between the first instruction of a cycle and the next. -/
def pairs (i j : EngI) : Bool :=
  let one (f : EngI → Bool) : Bool := !(f i && f j)
  !((j.reads ++ j.writes).any i.writes.contains) && one EngI.usesPort && one EngI.usesVector && one EngI.usesMulDiv &&
    one EngI.isControl

/-- What an instruction waits for at a cycle: the codes of Table 17.2 of its sources that are not ready, the divider and the
memory port. -/
def EngSlot.pendingAt (x : EngSlot) (i : EngI) (u : Nat) : List Nat :=
  let srcs := i.reads.filter (fun r =>
    !(i.accumulator == some r && (match x.acc with
      | some (a, t) => a == r && decide (t < u)
      | none => false)))
  (srcs.filterMap (fun r =>
    let q := tget (fun _ => (0, 0)) x.ready r
    if u < q.1 then some q.2 else none)) ++
    (if i.usesDivider ∧ u < x.divFree then [5] else []) ++ (if i.usesPort ∧ u < x.portFree then [x.portCode] else [])

/-- The cause of an empty slot at a cycle (R425): the first code that applies; pairing limits are code 6.
DEDUCED: log entry 59. -/
def EngSlot.causeAt (x : EngSlot) (i : EngI) (u : Nat) : Nat := (x.pendingAt i u).foldl min 6

/-- The first cycle from u on at which nothing is pending; `n` bounds the search. -/
def EngSlot.freeFrom (x : EngSlot) (i : EngI) : Nat → Nat → Nat
  | 0, u => u
  | n + 1, u => if (x.pendingAt i u).isEmpty then u else x.freeFrom i n (u + 1)

/-- The cycle at which an instruction issues, whether it is the second of its cycle, and the causes of the slots left empty
before it (R403). -/
def EngSlot.issueAt (x : EngSlot) (i : EngI) : Nat × Bool × List Nat :=
  let start := if x.used = 0 then x.cycle else x.cycle + 1
  let pair := x.used == 1 && (match engDecode x.first with
    | some f => pairs f i
    | none => false) && (x.pendingAt i x.cycle).isEmpty
  if pair then (x.cycle, true, [])
  else
    let t := x.freeFrom i (9000 - start) start
    let beside := if x.used = 1 then [x.causeAt i x.cycle] else []
    (t, false, beside ++ (List.range (t - start)).flatMap (fun k => [x.causeAt i (start + k), x.causeAt i (start + k)]))

/-- Account the cycles and empty slots up to an instruction's issue, and put the slot at its cycle. -/
def State.issued (s : State) (c e : Nat) (i : EngI) (t : Nat) (second : Bool) (causes : List Nat) : State :=
  let x := s.eng c e
  let beside := if x.used = 1 ∧ second = false then 1 else 0
  let s := ((s.starve c e x.cycle (causes.take beside)).starve c e (t - 1) (causes.drop beside)).passTo c e t
    (if second then 2 else 1)
  s.setEng c e { (s.eng c e) with first := if second then x.first else i.word }

/-! ### Memory (Table 16.2) -/

/-- The region of an address and the offset in it: 0 none, 1 instruction, 2 data, 3 + k shared memory of cluster k, 15 + r
tap window of reach r, 19 the pool window. -/
def engRegion (a : Nat) : Nat × Nat :=
  if a < 0x10000 then (1, a)
  else if 0x10000000 ≤ a ∧ a < 0x10020000 then (2, a - 0x10000000)
  else if 0x20000000 ≤ a ∧ a < 0x20000000 + 12 * 0x200000 then (3 + (a - 0x20000000) / 0x200000, (a - 0x20000000) % 0x200000)
  else if 0x30000000 ≤ a ∧ a < 0x30040000 then (15 + (a - 0x30000000) / 0x10000, (a - 0x30000000) % 0x10000)
  else if 0x30040000 ≤ a ∧ a < 0x30041000 then (19, a - 0x30040000)
  else (0, 0)

/-- The kind of an access. DESIGN CHOICE: log entry 60. -/
inductive EngAcc where
  | read | write | atom
  deriving DecidableEq, Repr

/-- The memory group of an address that a slot accesses and the byte's place in the group (Table 19.3): a slot's instruction memory, data
memory and moorings, then the shared memory. DESIGN CHOICE: log entry 60. -/
def engPlace (c e a : Nat) : Nat × Nat :=
  let (rg, off) := engRegion a
  if 3 ≤ rg ∧ rg < 15 then (rg - 3, 0x400000 + off)
  else (c, 0x40000 * e + (if rg = 2 then 0x10000 else 0) + off)

/-- The place of a message of a mooring: 32 bytes each, used in turn. DESIGN CHOICE: log entry 60. -/
def EngSlot.moorPlace (x : EngSlot) (e k i : Nat) : Nat :=
  0x40000 * e + 0x30000 + 512 * k + 32 * ((tget (fun _ => 0) x.moorAt k + i) % 16)

/-- The first byte of an access that is known to be uncorrectable (R460). -/
def State.firstLost (s : State) (c e a n : Nat) : Option Nat :=
  if s.integ.lostBytes.isEmpty then none
  else ((List.range n).map (a + ·)).find? (fun b => s.byteLost (engPlace c e b).1 (engPlace c e b).2)

/-- A read of some bytes finds one that stays uncorrectable (R460). -/
def State.engLost (s : State) (c e a n : Nat) : Bool := (s.firstLost c e a n).isSome

/-- The trap that an access meets, the highest of Table 16.9: 3 ALIGNMENT, 4 ADDRESS, 5 TAP_DENIED, 7 WRITE_TO_READONLY,
8 MEM_UNCORRECTABLE. -/
def State.accessTrap (s : State) (c e a w : Nat) (k : EngAcc) (m : MemPort) : Option Nat :=
  let (rg, off) := engRegion a
  if a % w ≠ 0 then some 3
  else if rg = 0 then some 4
  else if k = .atom ∧ !(3 ≤ rg ∧ rg < 15) then some 4
  else if rg = 1 ∧ s.crew c then some 4
  else if 3 ≤ rg ∧ rg < 15 ∧ s.crew c ∧ (s.partOf c = none ∨ s.partOf (rg - 3) ≠ s.partOf c) then some 4
  else if 15 ≤ rg ∧ k = .read ∧ s.crew c ∧ 32 ≤ off ∧ !s.tapGranted c (rg - 15) then some 5
  else if k = .write ∧ (rg = 1 ∨ 15 ≤ rg) then some 7
  else if k ≠ .write ∧ rg < 15 ∧ (m.uncorrectable || s.engLost c e a w) then some 8
  else none

/-- The load latency of a region from a cluster (Table 16.2). -/
def loadLatency (c rg : Nat) : Nat := if rg ≤ 2 then 2 else if rg < 15 then (if rg - 3 = c then 8 else 14) else 6

/-- The starvation code of a region's loads (Table 17.2). -/
def loadCode (rg : Nat) : Nat := if 15 ≤ rg then 2 else 3

/-- Read a byte of an address. DESIGN CHOICE: log entry 6. -/
def State.engByte (s : State) (c e a : Nat) : Byte :=
  let (rg, off) := engRegion a
  if rg = 1 then tget (fun _ => 0#8) (s.eng c e).text off
  else if rg = 2 then tget (fun _ => 0#8) (s.eng c e).data off
  else if 3 ≤ rg ∧ rg < 15 then tget (fun _ => 0#8) (tget (fun _ => []) s.engine.shared (rg - 3)) off
  else if 15 ≤ rg then tget (fun _ => 0#8) (tget (fun _ => []) s.engine.taps (rg - 15)) off
  else 0

/-- Read n bytes, little-endian (R391). -/
def State.engRead (s : State) (c e a n : Nat) : Nat := leNat ((List.range n).map (fun i => s.engByte c e (a + i)))

/-- Write a byte: data and shared memory alone are written. -/
def State.engPut (s : State) (c e a : Nat) (b : Byte) : State :=
  let (rg, off) := engRegion a
  if rg = 2 then s.setEng c e { (s.eng c e) with data := tset (fun _ => 0#8) (s.eng c e).data off b }
  else if 3 ≤ rg ∧ rg < 15 then
    { s with engine.shared := tmod (fun _ => []) s.engine.shared (rg - 3) (fun m => tset (fun _ => 0#8) m off b) }
  else s

/-- Bytes written anew are no longer uncorrectable (R460). -/
def State.engMarks (s : State) (c e a n : Nat) : State :=
  if 2 ≤ (engRegion a).1 ∧ (engRegion a).1 < 15 then s.bytesWritten (engPlace c e a).1 (engPlace c e a).2 n else s

/-- Write bytes from an address on. -/
def State.engWrite (s : State) (c e a : Nat) (bs : List Byte) : State :=
  (s.each bs.zipIdx (fun s q => s.engPut c e (a + q.2) q.1)).engMarks c e a bs.length

/-! ### CSRs -/

/-- The access a CSR gives a mode: none where the number is reserved; else the trap a naming meets in the mode, and whether
it may be written (Tables 16.1 and 17.3). DEDUCED: log entry 61. -/
def State.csrAccess (s : State) (c n : Nat) : Option (Bool × Bool) :=
  let k := !s.crew c
  let grant := k || (match s.partOf c with
    | some p => s.rdB (Obj.counterGrant p)
    | none => false)
  if n ≤ 3 then some (true, k)
  else if n = 4 then some (k, k)
  else if n = 6 then some (true, true)
  else if n = 5 ∨ (0x010 ≤ n ∧ n ≤ 0x013) ∨ n = 0x020 ∨ n = 0x021 ∨ n = 0x030 ∨ n = 0x031 then some (true, false)
  else if (0x100 ≤ n ∧ n ≤ 0x111) ∨ (0x120 ≤ n ∧ n ≤ 0x123) ∨ n = 0x130 then some (grant, k)
  else if n = 0x131 then some (grant, false)
  else if 0x800 ≤ n ∧ n ≤ 0xFFF then some (k, k)
  else none

/-- Read a CSR at an engine cycle. -/
def State.csrRead (s : State) (c e n t : Nat) : Word :=
  let x := s.eng c e
  if n = 0 then x.cs 0 ||| boolWord (s.crew c)
  else if n = 0x010 then BitVec.ofNat 32 x.tick
  else if n = 0x011 then BitVec.ofNat 32 (x.tick / 2 ^ 32)
  else if n = 0x012 then BitVec.ofNat 32 t
  else if n = 0x020 then BitVec.ofNat 32 (2 ^ 16 * s.rdN (Obj.physical c e) + 256 * c + 16 * e)
  else if n = 0x021 then BitVec.ofNat 32 (if s.crew c then (s.partOf c).getD 7 else 7)
  else if n = 0x030 then
    BitVec.ofNat 32 (sumTo 4 (fun k => 16 ^ k * min 15 (x.messages k x.tick t).length))
  else if 0x100 ≤ n ∧ n ≤ 0x111 then
    (if n % 2 = 0 then BitVec.ofNat 32 (s.rdN (ctrKey c e ((n - 0x100) / 2)))
     else BitVec.ofNat 32 (tget (fun _ => 0) x.latch ((n - 0x101) / 2)))
  else if 0x120 ≤ n ∧ n ≤ 0x123 then BitVec.ofNat 32 (s.rdN (Obj.eventSelect c e (n - 0x120)))
  else if n = 0x130 then BitVec.ofNat 32 (s.rdN (Obj.counterOverflow c e))
  else if n = 0x131 then BitVec.ofNat 32 (s.rdN (Obj.slotOverruns c e))
  else x.cs n

/-- What a read of a CSR leaves: a read of cs.pclok latches bits 47:32 (R427). -/
def State.csrLatch (s : State) (c e n : Nat) : State :=
  if 0x100 ≤ n ∧ n ≤ 0x111 ∧ n % 2 = 0 then
    let k := (n - 0x100) / 2
    s.setEng c e { (s.eng c e) with latch := tset (fun _ => 0) (s.eng c e).latch k (s.rdN (ctrKey c e k) / 2 ^ 32) }
  else s

/-- Write a CSR at an engine cycle (Tables 16.1, 17.3, 17.4). -/
def State.csrWrite (s : State) (c e n t : Nat) (v : Word) : State :=
  let x := s.eng c e
  if n = 0 then s.setEng c e (x.setCs 0 (v &&& 2))
  else if n = 6 then s.setEng c e (x.setCs 6 (v &&& 3))
  else if 0x100 ≤ n ∧ n ≤ 0x111 then
    let k := (n - 0x100) / 2
    let now := s.rdN (ctrKey c e k)
    -- the increments of this cycle are lost: the half not preset is the one of before
    let old := (now + 2 ^ 48 - x.countedIn k t) % 2 ^ 48
    let new := if n % 2 = 0 then old / 2 ^ 32 * 2 ^ 32 + v.toNat else v.toNat % 2 ^ 16 * 2 ^ 32 + old % 2 ^ 32
    (s.wrN (ctrKey c e k) new).setEng c e { x with preset := (k, t, now) :: x.preset.filter (fun q => q.1 != k) }
  else if 0x120 ≤ n ∧ n ≤ 0x123 then s.wrN (Obj.eventSelect c e (n - 0x120)) (v.toNat % 16)
  else if n = 0x130 then
    s.wrN (Obj.counterOverflow c e) (maskOf 9 (fun k => bitOf (s.rdN (Obj.counterOverflow c e)) k &&
      (!v.getLsbD k || x.wrapped.contains (k, t))))
  else s.setEng c e (x.setCs n v)

/-! ### Moorings -/

/-- The trap of a destination word (R398): 6 MOORING_DENIED. -/
def State.destTrap (s : State) (c : Nat) (d : Word) : Option Nat :=
  let v := d.toNat
  let k := bitsOf v 15 14
  let ok : Bool :=
    if 65536 ≤ v then false
    else if k = 0 then
      let dc := bitsOf v 13 10
      decide (dc < 12) && bitsOf v 5 2 == 0 && (!s.crew c || (s.partOf c != none && s.partOf dc == s.partOf c))
    else if k = 1 then
      let ch := bitsOf v 5 0
      bitsOf v 13 6 == 0 && decide (ch < 20) && (!s.crew c || (match s.partOf c with
        | some p => ch == 16 + p
        | none => false))
    else false
  if ok then none else some 6

/-- Places taken in a mooring: messages that lie in it and messages on their way to it (R399). -/
def State.moorFill (s : State) (d : Nat) : Nat :=
  (tget (fun _ => []) (s.eng (bitsOf d 13 10) (bitsOf d 9 6)).moor (bitsOf d 1 0)).length +
    s.engine.transit.countP (fun m => m.dest == d)

/-- MSEND issues (R399, R421): 1 where a place is reserved, 0 where the mooring is full; hub messages are held. The queue gives the
commands of one cycle in the order in which the cycle serves them, so the last place goes to the first of them.
DESIGN CHOICE: log entry 60. -/
def State.sendMsg (s : State) (c e : Nat) (d : Nat) (ws : List Word) (t : Nat) : State × Bool :=
  let x := s.eng c e
  if bitsOf d 15 14 = 1 then (s.setEng c e { x with out := x.out ++ [(bitsOf d 5 0, ws)] }, true)
  else if 16 ≤ s.moorFill d then
    (s.setEng c e (x.setCs 0x031 (BitVec.ofNat 32 (min ((x.cs 0x031).toNat + 1) 0xFFFFFFFF))), false)
  else
    let at_ := t + (if bitsOf d 13 10 = c then 2 else 10)
    ({ s with engine.transit := s.engine.transit ++ [⟨16 * c + e, d, ws, x.tick, x.tick + at_ / 12000, at_ % 12000⟩] }, true)

/-- A slot's held outputs are released at TEND (R421). -/
def State.releaseOut (s : State) (c e t : Nat) : State :=
  let x := s.eng c e
  let ms : List EngMsg := x.out.map (fun q => ⟨16 * c + e, 0x4000 + q.1, q.2, x.tick, x.tick, t⟩)
  let s := { s with engine.transit := s.engine.transit ++ ms }
  s.setEng c e { x with out := [] }

/-- A message's bytes, padded to 32 (R400). -/
def ringMsgEntry (c e sent : Nat) (ws : List Word) : List Byte :=
  [BitVec.ofNat 8 c, BitVec.ofNat 8 e, BitVec.ofNat 8 ws.length, 0#8] ++ leBytes 4 sent ++
    ((ws.flatMap (fun w => leBytes 4 w.toNat)) ++ List.replicate 32 0#8).take 32

/-- A message goes to a channel of the hub: it is a task's output (R37, R399). -/
def EngMsg.isOutput (m : EngMsg) : Bool := bitsOf m.dest 15 14 == 1

/-- The outputs released in the ended tick take effect at the boundary, gathered already or still on their way (R37, R400):
messages of keeper channels go to their units, and a ring channel's are written to its telemetry ring. Table 2.2 lists no change of
their kinds by itself, so they come at step 9, with all others. DEDUCED: log entry 8. -/
def State.outputsLand (s : State) : State :=
  let ms := s.engine.gathered ++ s.engine.transit.filter EngMsg.isOutput
  let ch (m : EngMsg) : Nat := bitsOf m.dest 5 0
  let s : State := { s with engine.gathered := [], engine.transit := s.engine.transit.filter (fun m => !m.isOutput),
                            engine.hubIn := (ms.filter (fun m => decide (ch m < 16))).map (fun m => (ch m, m.words)) }
  s.each (ms.filter (fun m => decide (16 ≤ ch m))) (fun s m =>
    s.ringWrite (4 + (ch m - 16)) (ringMsgEntry (m.src / 16) (m.src % 16) m.sent m.words))

/-- MOORING_DELIVERY (R399, R419): the oldest message in transit from a slot to a destination becomes readable there; an output, a
message to a hub channel, is gathered for the next boundary (R37). -/
def execMooringDelivery (c : Fin 12) (e : Fin 16) (dest : BitVec 16) (s : State) : Host.Outcome State Fault Refusal :=
  match s.engine.transit.find? (fun m => m.src == 16 * (c : Nat) + e && m.dest == dest.toNat) with
  | none => .next s
  | some m =>
    let s := { s with engine.transit := s.engine.transit.erase m }
    let d := m.dest
    if m.isOutput then
      .next { s with engine.gathered := s.engine.gathered ++ [m] }
    else
      let dc := bitsOf d 13 10
      let de := bitsOf d 9 6
      let k := bitsOf d 1 0
      let x := s.eng dc de
      let s := s.bytesWritten dc (x.moorPlace de k (tget (fun _ => []) x.moor k).length) 32
      .next (s.setEng dc de { x with moor := tmod (fun _ => []) x.moor k (fun l => l ++ [(m.tick, m.cycle, m.words)]) })

/-! ### Ending a task -/

/-- An address as the PC holds it: bits 1:0 are always 0 (R392). -/
def pcOf (w : Word) : Word := w &&& ~~~3#32

/-- The task ends: the engine waits for the next boundary. -/
def State.taskOver (s : State) (c e : Nat) : State :=
  s.setEng c e { (s.eng c e) with running := false, waiting := none }

/-- The slot enters FAULTED (R407, R412, R423). -/
def State.engFault (s : State) (c e : Nat) : State := s.wrN (Obj.engSlotState c e) 3

/-- The word of instruction memory at an address. A system slot's text is the firmware's, which the spec does not give: where the model
lists none, the word is free. DEDUCED: log entry 58. -/
def State.textWord (s : State) (c e a : Nat) : Word :=
  if !s.crew c && (s.eng c e).text.isEmpty then Config.keeperWord (16 * c + e) a
  else BitVec.ofNat 32 (leNat ((List.range 4).map (fun i => tget (fun _ => 0#8) (s.eng c e).text (a + i))))

/-- The word at a slot's PC. DEDUCED: log entry 58. -/
def State.engFetch (s : State) (c e : Nat) : Word := s.textWord c e (s.eng c e).pc.toNat

/-- The slot beside the first instruction of a cycle, where a branch, jump or trap leaves it (R404, R405, R424, R425): wasted where the
instruction at `next` would have issued in it, else starved by what that one waits for. DEDUCED: log entry 59. -/
def State.beside (s : State) (c e : Nat) (i : EngI) (next : Word) : State :=
  let x := s.eng c e
  match engDecode (s.textWord c e next.toNat) with
  | some j => if pairs i j && (x.pendingAt j x.cycle).isEmpty then s.count c e 2 1 else s.starve c e x.cycle [x.causeAt j x.cycle]
  | none => s.count c e 2 1

/-- A trap (R405–R407): the instruction `i` has no effect, and its slot and one squashed beside it are wasted.
DESIGN CHOICE: log entry 4. -/
def State.engTrapAt (s : State) (c e : Nat) (i : EngI) (pc : Word) (cause info : Nat) (second : Bool) : State :=
  let s := (s.count c e 2 1).onlyIf (!second) (fun s => s.beside c e i (pc + 4#32))
  let x := s.eng c e
  let nested := bitOf (x.cs 0).toNat 1
  let x := ((x.setCs 1 (BitVec.ofNat 32 cause)).setCs 2 pc).setCs 3 (BitVec.ofNat 32 info)
  let s := s.setEng c e { x with used := 2 }
  let s := ((s.wrN (Obj.lastTrapcode c e) cause).wrN (Obj.lastTrappc c e) pc.toNat).wrN (Obj.lastTrapinfo c e) info
  if s.crew c then
    let n := (s.eng c e).trapRun + 1
    let s := (s.setEng c e { (s.eng c e) with trapRun := n, overRun := 0, out := [] }).taskOver c e
    let s := (s.inc (Obj.traps c e)).raiseLimitedFor 0x80E0 (engSource c e) 1 cause
    if s.rdN (Obj.trapLimit c) ≤ n then (s.engFault c e).raise 0xC0E1 (engSource c e) cause else s
  else if nested then
    ((s.setEng c e { (s.eng c e) with out := [] }).taskOver c e).engFault c e
  else
    let (n, s) := s.draw
    let x := s.eng c e
    let gap := min n (8999 - x.cycle)
    let s := (s.passTo c e (x.cycle + gap) 2).count c e 3 (2 * gap)
    s.setEng c e { ((s.eng c e).setCs 0 (x.cs 0 ||| 2)) with pc := pcOf (x.cs 4) }

/-! ### The effect of an instruction -/

/-- What an instruction that traps on nothing does: the state with its result, the next PC, the cycles left empty by a
redirect, the result's latency and starvation code, the cycles its port is held, and how the task goes on: 0 on, 1 TEND,
2 HALT, 3 waiting, 4 waits at FENCE. -/
structure EngEff where
  s : State
  pc : Word
  redirect : Nat := 0
  taken : Bool := false
  lat : Nat := 1
  code : Nat := 6
  hold : Nat := 1
  fin : Nat := 0
  /-- cycles a shared-memory bank made it wait, and the address of a byte it read corrected (Table 17.2) -/
  conflict : Nat := 0
  fixed : Option Nat := none

/-- The banks that an access to shared memory reaches: interleaved by 8 bytes at address bits 6:3 (R394). -/
def banksOf (a w : Nat) : List Nat :=
  let (rg, off) := engRegion a
  if 3 ≤ rg ∧ rg < 15 then ((List.range w).map (fun i => 16 * (rg - 3) + (off + i) / 8 % 16)).eraseDups else []

/-- Cycles an access waits from cycle t on, while a bank that it reaches serves one of the lower slot, then the lower cluster (R394);
`n` bounds the search. The queue gives the accesses of one cycle in that order. DESIGN CHOICE: log entry 60. -/
def waitFor (used : List (Nat × Nat × Nat)) (bs : List Nat) (mine t : Nat) : Nat → Nat
  | 0 => 0
  | n + 1 =>
    if used.any (fun u => bs.contains u.1 && u.2.1 == t && decide (u.2.2 < mine)) then 1 + waitFor used bs mine (t + 1) n else 0

/-- The wait of a slot's access issued at cycle t. DESIGN CHOICE: log entry 60. -/
def State.bankWait (s : State) (c e a w t : Nat) : Nat :=
  if (banksOf a w).isEmpty then 0 else waitFor s.engine.banks (banksOf a w) (12 * e + c) t s.engine.banks.length

/-- The banks serve an access. -/
def State.bankServe (s : State) (c e a w t : Nat) : State :=
  if (banksOf a w).isEmpty then s
  else { s with engine.banks := (banksOf a w).map (fun b => (b, t + s.bankWait c e a w t, 12 * e + c)) ++ s.engine.banks }

/-- A byte read was corrected: the engines' memories carry check bits (R395, R458). DESIGN CHOICE: log entry 60. -/
def bankFixed (rg a : Nat) (m : MemPort) : Option Nat := if 1 ≤ rg ∧ rg < 15 ∧ m.corrected = true then some a else none

/-- A result in a general register. -/
def State.engSet (s : State) (c e : Nat) (d : BitVec 5) (v : Word) : State := s.setEng c e ((s.eng c e).setGpr d v)

/-- The first byte of a mooring's message that is known to be uncorrectable, by its place in the cluster's group (R460). -/
def State.mrecvLost (s : State) (c e k : Nat) (q : Nat × Nat × List Word) : Option Nat :=
  let x := s.eng c e
  let at_ := x.moorPlace e k ((tget (fun _ => []) x.moor k).idxOf q)
  if s.integ.lostBytes.isEmpty then none
  else ((List.range (4 * q.2.2.length)).map (at_ + ·)).find? (s.byteLost c)

/-- Cycles that FENCE waits: until the stores, ATOMs and MSENDs before it are complete (Table 16.7). An ATOM is when its result is there,
the others when they have left the port and such cycles more as the spec does not give. DESIGN CHOICE: log entry 60. -/
def EngSlot.fenceGap (x : EngSlot) (more t : Nat) : Nat := (x.memDone - t) + (if x.memOpen then more else 0)

/-- The effect of an instruction issued at cycle t, or the trap it meets: cause and cs.trapinfo (R402, R405, Table 16.9). -/
def State.engDo (s : State) (c e : Nat) (i : EngI) (m : MemPort) (fenceWait t : Nat) : Except (Nat × Nat) EngEff :=
  let x := s.eng c e
  let pc := x.pc
  let on := pc + 4#32
  match i with
  | .alu f d a b =>
    let r := f.eval (x.gpr a) (x.gpr b)
    let lat := if [.dq, .dqu, .dr, .dru].contains f then 18 else if [.mul, .mulhs, .mulhu].contains f then 3 else 1
    .ok { s := s.setEng c e ((x.setGpr d r.val).flag r.dz r.ov), pc := on, lat := lat, code := if lat = 1 then 6 else 5 }
  | .rk f d a k =>
    .ok { s := s.engSet c e d (f.eval (x.gpr a) k), pc := on, lat := if f = .mulk then 3 else 1,
          code := if f = .mulk then 5 else 6 }
  | .sethi d k => .ok { s := s.engSet c e d (k ++ 0#14), pc := on }
  | .call d k => .ok { s := s.engSet c e d on, pc := wordTarget pc k, redirect := 2, taken := true }
  | .jumpr d a k =>
    if (x.gpr a).toNat % 4 ≠ 0 then .error (3, (wordTarget (x.gpr a) k).toNat)
    else .ok { s := s.engSet c e d on, pc := wordTarget (x.gpr a) k, redirect := 3, taken := true }
  | .ld f r base disp =>
    let a := (memAddr (x.gpr base) disp f.width).toNat
    let rg := (engRegion a).1
    match s.accessTrap c e a f.width .read m with
    | some k => .error (k, a)
    | none =>
      if rg = 1 ∧ x.text.isEmpty then
        let (n, s) := s.draw
        .ok { s := s.engSet c e r (f.extend n), pc := on, lat := 2, code := 3, fixed := bankFixed rg a m }
      else
        let w := s.bankWait c e a f.width t
        .ok { s := (s.bankServe c e a f.width t).engSet c e r (f.extend (s.engRead c e a f.width)), pc := on,
              lat := loadLatency c rg + w, code := loadCode rg, hold := 1 + w, conflict := w, fixed := bankFixed rg a m }
  | .st f r base disp =>
    let a := (memAddr (x.gpr base) disp f.width).toNat
    match s.accessTrap c e a f.width .write m with
    | some k => .error (k, a)
    | none =>
      let w := s.bankWait c e a f.width t
      .ok { s := (s.bankServe c e a f.width t).engWrite c e a (leBytes f.width (x.gpr r).toNat), pc := on, hold := 1 + w, conflict := w }
  | .br f a b off =>
    if f.test (x.gpr a) (x.gpr b) then .ok { s := s, pc := wordTarget pc off, redirect := 2, taken := true }
    else .ok { s := s, pc := on }
  | .msend d a b n =>
    let dst := (x.gpr a).toNat
    let from_ := (x.gpr b).toNat
    let len := 4 * (n.toNat + 1)
    if from_ % 4 ≠ 0 then .error (3, from_)
    else if !((engRegion from_).1 = 2 ∧ (engRegion (from_ + len - 1)).1 = 2) then .error (4, from_)
    else
      match s.destTrap c (x.gpr a) with
      | some k => .error (k, dst)
      | none =>
        if m.uncorrectable || s.engLost c e from_ len then .error (8, from_)
        else
          let ws := (List.range (n.toNat + 1)).map (fun j => BitVec.ofNat 32 (s.engRead c e (from_ + 4 * j) 4))
          let (s, ok) := s.sendMsg c e dst ws t
          let s := if ok then s else s.event c e 12 1
          .ok { s := s.engSet c e d (boolWord ok), pc := on, hold := n.toNat + 1, fixed := if m.corrected then some from_ else none }
  | .mrecv d a k =>
    let dst := (x.gpr a).toNat
    match x.messages k.toNat x.tick t with
      | [] => .ok { s := (s.event c e 13 1).engSet c e d 0, pc := on }
      | q :: _ =>
        let ws := q.2.2
        if dst % 4 ≠ 0 then .error (3, dst)
        else if !((engRegion dst).1 = 2 ∧ (engRegion (dst + 4 * ws.length - 1)).1 = 2) then .error (4, dst)
        else if (s.mrecvLost c e k.toNat q).isSome then .error (8, dst)
        else
          let s := s.setEng c e { x with moor := tmod (fun _ => []) x.moor k.toNat (fun l => l.erase q),
                                         moorAt := tmod (fun _ => 0) x.moorAt k.toNat (fun n => (n + 1) % 16) }
          let s := s.engWrite c e dst (ws.flatMap (fun w => leBytes 4 w.toNat))
          .ok { s := s.engSet c e d (BitVec.ofNat 32 ws.length), pc := on, hold := ws.length }
  | .mwait d mask =>
    let held := x.moorMask t
    if held &&& mask.toNat ≠ 0 ∨ (x.cs 0x013).toNat ≤ t then
      .ok { s := s.engSet c e d (BitVec.ofNat 32 held), pc := on }
    else .ok { s := s.setEng c e { x with waiting := some (d, mask) }, pc := on, fin := 3 }
  | .xcs f d a csr =>
    let n := csr.toNat
    match s.csrAccess c n with
    | none => .error (1, i.word.toNat)
    | some (may, mayWrite) =>
      if !may ∨ (f ≠ .r ∧ !mayWrite) then .error (2, n)
      else
        let old := s.csrRead c e n t
        let src := x.gpr a
        let s := s.csrLatch c e n
        let s := match f with
          | .r => s
          | .w => s.csrWrite c e n t src
          | .or => s.csrWrite c e n t (old ||| src)
          | .andn => s.csrWrite c e n t (old &&& ~~~src)
        .ok { s := s.engSet c e d old, pc := on }
  | .atom f d a b =>
    let ad := (x.gpr a).toNat
    match s.accessTrap c e ad 4 .atom m with
    | some k => .error (k, ad)
    | none =>
      let old := BitVec.ofNat 32 (s.engRead c e ad 4)
      let w := s.bankWait c e ad 4 t
      let s := (s.bankServe c e ad 4 t).engWrite c e ad (leBytes 4 (f.eval old (x.gpr b)).toNat)
      .ok { s := s.engSet c e d old, pc := on, lat := (if (engRegion ad).1 - 3 = c then 10 else 16) + w, code := 3,
            hold := 1 + w, conflict := w, fixed := if m.corrected then some ad else none }
  | .valu f vd va vb shamt =>
    let ls := (List.range 8).map (fun l => f.lane (x.lane vd l) (x.lane va l) (x.lane vb l) shamt.toNat)
    .ok { s := s.setEng c e (x.setVec vd ls), pc := on,
          lat := if [.vadd, .vsub, .vconj, .vshr].contains f then 2 else 4, code := 4 }
  | .vld v base disp =>
    let a := (memAddr (x.gpr base) disp 32).toNat
    let rg := (engRegion a).1
    match s.accessTrap c e a 32 .read m with
    | some k => .error (k, a)
    | none =>
      if rg = 1 ∧ x.text.isEmpty then
        let (n, s) := s.draw
        let ls := (List.range 8).map (fun l => BitVec.ofNat 32 (n / 2 ^ (32 * l)))
        .ok { s := s.setEng c e (x.setVec v ls), pc := on, lat := 3, code := 3, fixed := bankFixed rg a m }
      else
        let ls := (List.range 8).map (fun l => BitVec.ofNat 32 (s.engRead c e (a + 4 * l) 4))
        let w := s.bankWait c e a 32 t
        .ok { s := (s.bankServe c e a 32 t).setEng c e (x.setVec v ls), pc := on, lat := loadLatency c rg + 1 + w,
              code := loadCode rg, hold := 1 + w, conflict := w, fixed := bankFixed rg a m }
  | .vst v base disp =>
    let a := (memAddr (x.gpr base) disp 32).toNat
    match s.accessTrap c e a 32 .write m with
    | some k => .error (k, a)
    | none =>
      let w := s.bankWait c e a 32 t
      .ok { s := (s.bankServe c e a 32 t).engWrite c e a ((x.vec v).flatMap (fun w => leBytes 4 w.toNat)), pc := on, hold := 1 + w,
            conflict := w }
  | .vbcast vd a _ => .ok { s := s.setEng c e (x.setVec vd (List.replicate 8 (x.gpr a))), pc := on, lat := 2, code := 4 }
  | .vext d va _ k => .ok { s := s.engSet c e d (x.lane va k.toNat), pc := on, lat := 2, code := 4 }
  | .vins vd a _ k => .ok { s := s.setEng c e (x.setLane vd k.toNat (x.gpr a)), pc := on, lat := 2, code := 4 }
  | .vsum im d va _ =>
    let t : Int := (x.vec va).foldl (fun a w => a + (if im then laneIm w else laneRe w)) 0
    .ok { s := s.engSet c e d (BitVec.ofInt 32 t), pc := on, lat := 3, code := 4 }
  | .nop => .ok { s := s, pc := on }
  | .tend => .ok { s := s, pc := on, fin := 1 }
  | .fence => .ok { s := s, pc := on, fin := if x.fenceGap fenceWait t = 0 then 0 else 4 }
  | .trap code => .error (9, code.toNat)
  | .resume =>
    if s.crew c then .error (2, 0)
    else
      let (n, s) := s.draw
      .ok { s := s.setEng c e ((s.eng c e).setCs 0 (x.cs 0 &&& ~~~2#32)), pc := pcOf (x.cs 2), redirect := n, taken := true }
  | .halt => if s.crew c then .error (2, 0) else .ok { s := s, pc := on, fin := 2 }

/-- Put a result's readiness, the port, the divider and the accumulation of R403 in place. -/
def EngSlot.book (x : EngSlot) (i : EngI) (t : Nat) (f : EngEff) : EngSlot :=
  { x with ready := i.writes.foldl (fun m r => tset (fun _ => (0, 0)) m r (t + f.lat, f.code)) x.ready,
           acc := if i.usesVector then i.accumulator.map (fun r => (r, t))
                  else x.acc.filter (fun a => !i.writes.contains a.1),
           memDone := if i.stores then max x.memDone (t + (if i.isAtom then f.lat else f.hold)) else x.memDone,
           memOpen := if i = .fence then false else x.memOpen || (i.stores && !i.isAtom),
           portFree := if i.usesPort then t + f.hold else x.portFree,
           portCode := if i.usesPort then (if f.conflict = 0 then 6 else 3) else x.portCode,
           divFree := if i.usesDivider then t + 18 else x.divFree }

/-- Events that a retired instruction counts (Table 17.2). -/
def State.retireEvents (s : State) (c e : Nat) (i : EngI) (f : EngEff) : State :=
  let load := match i with
    | .ld _ _ _ _ => true
    | .vld _ _ _ => true
    | _ => false
  let store := match i with
    | .st _ _ _ _ => true
    | .vst _ _ _ => true
    | _ => false
  let s := if load then s.event c e 8 1 else s
  let s := if store then s.event c e 9 1 else s
  let s := if f.taken ∧ i ≠ .resume then s.event c e 10 1 else s
  let s := if i.usesVector then s.event c e 11 1 else s
  let s := match f.fixed with
    | some a => (s.event c e 14 1).corrected (engPlace c e a).1 (engPlace c e a).2
    | none => s
  if 0 < f.conflict then s.event c e 7 f.conflict else s

/-- The slots after an instruction that took effect: a redirect's empty cycles, a squashed neighbour (R404, R424), or the
wait at FENCE. -/
def State.afterIssue (s : State) (c e : Nat) (i : EngI) (next : Word) (t wait : Nat) (second : Bool) (f : EngEff) : State :=
  if f.taken then
    let gap := min f.redirect (8999 - t)
    ((s.onlyIf (!second) (fun s => s.beside c e i next)).passTo c e (t + gap) 2).count c e 3 (2 * gap)
  else if f.fin = 4 then
    let gap := min wait (8999 - t)
    ((s.starve c e t (if second then [] else [3])).passTo c e (t + gap) 2).starve c e (t + gap) (List.replicate (2 * gap) 3)
  else s

/-- TEND (R408, R420, R421): the outputs are released and the engine waits for the next boundary. -/
def State.tendOp (s : State) (c e t : Nat) (second : Bool) : State :=
  let s := s.count c e 2 (if second then 0 else 1)
  let s := if ((s.eng c e).cs 0x013).toNat ≤ t then s.inc (Obj.budgetExceeded c e) else s
  let s := s.releaseOut c e t
  (s.setEng c e { (s.eng c e) with trapRun := 0, overRun := 0 }).taskOver c e

/-- A read that cannot be corrected is reported (R460): the byte known to be so, else the first of the access, which stays so. -/
def State.readLost (s : State) (c e : Nat) (i : EngI) (a : Nat) : State :=
  let at_ : Nat × Nat := match i with
    | .mrecv _ _ k =>
      let x := s.eng c e
      match x.messages k.toNat x.tick x.cycle with
      | q :: _ => (c, (s.mrecvLost c e k.toNat q).getD 0)
      | [] => (c, 0)
    | .msend _ _ _ n => let b := (s.firstLost c e a (4 * (n.toNat + 1))).getD a; engPlace c e b
    | _ => let b := (s.firstLost c e a 32).getD a; engPlace c e b
  (s.loseByte at_.1 at_.2).uncorrectable at_.1 at_.2

/-- One instruction of a slot's task: issue, effect and account. It issues by cs.phase 8,999 or not at all (R422). -/
def State.engIssue (s : State) (c e : Nat) (i : EngI) (m : MemPort) (fenceWait : Nat) : State :=
  let x := s.eng c e
  let (t, second, causes) := x.issueAt i
  if 9000 ≤ t then s
  else
    let s := s.issued c e i t second causes
    match s.engDo c e i m fenceWait t with
    | .error (cause, info) =>
      (s.onlyIf (cause == 8) (fun s => s.readLost c e i info)).engTrapAt c e i x.pc cause info second
    | .ok f =>
      let s := f.s
      let s := s.setEng c e { ((s.eng c e).book i t f) with pc := f.pc }
      let s := (s.count c e 1 1).retireEvents c e i f
      if f.fin = 1 then s.tendOp c e t second
      else if f.fin = 2 then
        -- the slot beside HALT is empty: no pair holds two SYS instructions, and none follows (log entry 59)
        let s := s.onlyIf (!second) (fun s => s.starve c e t [6])
        ((s.setEng c e { (s.eng c e) with out := [] }).taskOver c e).engFault c e
      else s.afterIssue c e i (x.pc + 4#32) t (x.fenceGap fenceWait t) second f

/-- The slot can take an instruction: a task is running and does not wait. -/
def EngSlot.active (x : EngSlot) : Bool := x.running && x.waiting.isNone

/-- An instruction row (R408): the slot executes its next instruction. A slot executes what stands in its instruction memory at PC: a row
that is not that instruction does nothing, a word that is no instruction traps with ILLEGAL_INSTRUCTION, one with a byte that cannot
be corrected with MEM_UNCORRECTABLE, a PC outside instruction memory with ADDRESS. A system slot's text is the vendor's firmware: where
the model lists none of it, the row names what was fetched. DEDUCED: log entry 58. -/
def State.engRow (s : State) (c e : Nat) (i : EngI) (m : MemPort) (fenceWait : Nat) : State :=
  let x := s.eng c e
  let trap (cause info : Nat) (s : State) : State :=
    let (t, second, causes) := x.issueAt .nop
    if 9000 ≤ t then s
    else ((s.issued c e .nop t second causes).onlyIf (cause == 8) (fun s => s.readLost c e .nop info)).engTrapAt c e .nop x.pc cause info
      second
  let vendor := !s.crew c && x.text.isEmpty
  let w := if vendor then i.word else s.engFetch c e
  if !x.active then s
  else if 0x10000 ≤ x.pc.toNat then trap 4 x.pc.toNat s
  else if s.engLost c e x.pc.toNat 4 then trap 8 x.pc.toNat s
  else
    match engDecode w with
    | none => trap 1 w.toNat s
    | some j => if vendor then s.engIssue c e i m fenceWait else if j.norm = i.norm then s.engIssue c e j m fenceWait else s

/-- MWAIT returns (R402, R409): a waited-for message can be read, or cs.phase reaches cs.budget; by cs.phase 8,999, or not at all.
DEDUCED: log entry 13. -/
def State.mwaitReturn (s : State) (c e : Nat) : State :=
  let x := s.eng c e
  match x.waiting with
  | none => s
  | some (d, mask) =>
    let arrivals := (upto 4 (fun k => mask.getLsbD k)).flatMap (fun k =>
      ((tget (fun _ => []) x.moor k).filter (fun q => decide (q.1 ≤ x.tick))).map (fun q => if q.1 < x.tick then 0 else q.2.1))
    let until_ : Nat := arrivals.foldl min (x.cs 0x013).toNat
    let rc := max (x.cycle + 1) until_
    if 9000 ≤ rc ∨ !x.running then s
    else
      let gap := rc - 1 - x.cycle
      let s := ((s.starve c e x.cycle (if x.used = 1 then [1] else [])).passTo c e (rc - 1) 2).starve c e (rc - 1)
        (List.replicate (2 * gap) 1)
      let x := s.eng c e
      s.setEng c e (({ x with waiting := none } : EngSlot).setGpr d (BitVec.ofNat 32 (x.moorMask rc)))

/-- MWAIT_RETURN (R402, R409). -/
def execMwaitReturn (c : Fin 12) (e : Fin 16) (s : State) : Host.Outcome State Fault Refusal :=
  .next (s.mwaitReturn c e)

/-- The slots that a task leaves empty from its last issue to cs.phase 8,999, by cause (R424, R425): those of MWAIT; else what the
instruction at PC waits for, and code 6 from the cycle on that it could have issued in. DEDUCED: log entry 13. -/
def State.overrunCauses (s : State) (c e : Nat) : List Nat :=
  let x := s.eng c e
  let n := 2 * (8999 - x.cycle) + (2 - x.used)
  if x.waiting.isSome then List.replicate n 1
  else
    let known := match engDecode (s.engFetch c e) with
      | some i => (x.issueAt i).2.2
      | none => []
    known.take n ++ List.replicate (n - known.length) 6

/-- A task is cut short (R422, R470): its held outputs are discarded, the ring messages among them counted.
DEDUCED: log entry 13. -/
def State.taskCut (s : State) (c e : Nat) : State :=
  let out := (s.eng c e).out
  let s := s.each (List.range 4) (fun s p => s.incBy (Obj.staleRingEntries p) (out.countP (fun q => decide (q.1 = 16 + p))))
  (s.setEng c e { (s.eng c e) with out := [] }).taskOver c e

/-- The cycle in which a task is cut: what it leaves empty of its two slots is accounted (R424, R425).
DEDUCED: log entry 59. -/
def State.cycleEnds (s : State) (c e : Nat) : State :=
  let x := s.eng c e
  let cause : Nat := if x.waiting.isSome then 1 else match engDecode (s.engFetch c e) with
    | some i => x.causeAt i x.cycle
    | none => 6
  let s := s.starve c e x.cycle (List.replicate (2 - x.used) cause)
  s.setEng c e { (s.eng c e) with used := 2 }

/-- TICK_OVERRUN (R422, R423): a task without TEND by cs.phase 9,000 ends with its outputs stale. A wait at MWAIT ends by cs.budget
(R409). DEDUCED: log entry 13. -/
def execTickOverrun (c : Fin 12) (e : Fin 16) (s : State) : Host.Outcome State Fault Refusal :=
  if !(s.eng c e).running then .next s
  else
    let s := s.mwaitReturn c e
    let x := s.eng c e
    let causes := s.overrunCauses c e
    let s := s.starve c e x.cycle (causes.take (2 - x.used))
    let s := ((s.passTo c e 8999 2).starve c e 8999 (causes.drop (2 - x.used))).event c e 15 1
    let s := s.inc (Obj.slotOverruns c e)
    let s := match s.partOf c with
      | some p => s.onlyIf (s.crew c) (fun s => s.inc (Obj.partOverruns p))
      | none => s
    let s := s.raiseLimited 0x80E4 (engSource c e) 1
    let k := x.overRun + 1
    let s := s.taskCut c e
    let s := s.setEng c e { (s.eng c e) with overRun := k, trapRun := 0 }
    let full : Bool := s.crew c && decide (s.rdN (Obj.trapLimit c) ≤ k)
    if full then .next ((s.engFault c e).raise 0xC0E1 (engSource c e) 0xFF) else .next s

/-! ### Tasks -/

/-- TASK_START (R408, R412, R470) for one slot at step 12 of a boundary. A system slot's RUN_MASK bit is the firmware's: set. -/
def State.taskStart (s : State) (c e : Nat) : State :=
  -- a task always ends before the next boundary (R419): one that has not ended is cut (log entry 13)
  let s := s.onlyIf (s.eng c e).running (fun s =>
    let s := s.cycleEnds c e
    (s.setEng c e { (s.eng c e) with out := [] }).taskOver c e)
  let wanted := !s.crew c || (bitOf (s.rdN (Obj.runMask c)) e && (s.partOf c).isSome)
  let st := s.engState c e
  let s := if st = 1 ∧ wanted ∧ s.released (domCluster c) then s.wrN (Obj.engSlotState c e) 2
    else if st = 2 ∧ !wanted then s.wrN (Obj.engSlotState c e) 1 else s
  if s.engState c e = 2 ∧ s.released (domCluster c) ∧ !s.engine.unheld.contains (16 * c + e) ∧
      !s.integ.out.contains (0x1300 + 17 * c + s.rdN (Obj.physical c e)) then
    let x := s.eng c e
    let s := (s.setEng c e { x with running := true, waiting := none, tick := s.core.tick, pc := pcOf (x.cs 5), cycle := 0,
                                    used := 0, ready := [], acc := none, portFree := 0, divFree := 0, memDone := 0,
                                    memOpen := false, out := [], preset := [], wrapped := [], counted := [] }).inc (Obj.tasks c e)
    s.count c e 0 1
  else s

/-- TASK_START for every slot. DEDUCED: log entry 13. -/
def State.taskStarts (s : State) : State :=
  ({ s with engine.banks := [] } : State).each (List.range 12) (fun s c => s.each (List.range 16) (fun s e => s.taskStart c e))

/-- A slot is emptied: memories, registers and moorings zero (R411, R412, R416). Counters stay (R426). -/
def State.engClear (s : State) (c e : Nat) : State :=
  let s := (s.setEng c e { latch := (s.eng c e).latch }).bytesWritten c (0x40000 * e) 0x40000
  { s with engine.transit := s.engine.transit.filter (fun m => m.dest != 1024 * c + 64 * e && m.dest / 4 != (1024 * c + 64 * e) / 4) }

/-- A cluster's memories are filled with zero and its slots EMPTY: at its power-up and at a partition change (R412, R416). -/
def State.clusterClear (s : State) (c : Nat) : State :=
  let s := s.each (List.range 16) (fun s e =>
    ((s.engClear c e).wrN (Obj.engSlotState c e) 0).wrN (Obj.imageCrc c e) 0 |>.wrN (Obj.budget c e) 0)
  ({ s with engine.shared := tset (fun _ => []) s.engine.shared c [] } : State).bytesWritten c 0x400000 0x200000

/-- The keeper programs are loaded (R390): the system slots of a cluster that the firmware uses stand ready with its entry and
budget. -/
def State.keeperCluster (s : State) (c : Nat) : State :=
  s.each (upto 16 (fun e => !Config.keeperIdle (16 * c + e))) (fun s e =>
    let s := s.engClear c e
    let x := ((s.eng c e).setCs 5 (Config.keeperEntry (16 * c + e))).setCs 0x013
      (BitVec.ofNat 32 (Config.keeperBudget (16 * c + e) % 9001))
    let s := ((s.setEng c e x).wrN (Obj.engSlotState c e) 1).wrN (Obj.budget c e) (Config.keeperBudget (16 * c + e) % 9001)
    (s.wrN (Obj.tasks c e) 0).wrN (Obj.traps c e) 0)

/-- Step 6 loads the keeper programs of the clusters that are powered (R390). -/
def State.keeperLoad (s : State) : State :=
  s.each (upto 8 (fun c => s.poweredDom (domCluster c))) (fun s c => s.keeperCluster c)

/-! ### Loading -/

/-- BAR2 offset of the image buffer (Table 3.14). -/
def imageBuffer : Nat := 0x800000

/-- A 32-bit field of the image header (Table 16.10). -/
def State.imgField (s : State) (off : Nat) : Nat := leNat (s.getBar2 (imageBuffer + off) 4)

/-- The check of an ENGINE_LOAD write (R411). -/
def State.engineLoadStatus (s : State) (c v : Nat) : Option Nat :=
  if !s.crew c ∨ (s.partOf c).isNone then some Status.refused
  else if (List.range 16).any (fun e => bitOf v e && s.engState c e == 2) then some Status.busy
  else if (List.range 12).any (fun k => s.rdN (Obj.loadState k) == 1) then some Status.busy
  else none

/-- ENGINE_LOAD accepted (R411). -/
def State.engineLoadOp (s : State) (c v : Nat) : State :=
  let s := { s with engine.loading := tset (fun _ => 0) s.engine.loading c v }
  (s.wrN (Obj.loadState c) 1).wrN (Obj.loadStatus c) 0

/-- The header offset of the first failing field, or 0xFFFF_FFFF for the CRC (Tables 16.10, 16.13; R420). -/
def State.imageFault (s : State) : Option Nat :=
  let text := s.imgField 8
  let dat := s.imgField 12
  let entry := s.imgField 16
  let budget := s.imgField 20
  if s.imgField 0 ≠ 0x4B5A4931 then some 0
  else if s.imgField 4 ≠ 1 then some 4
  else if text < 4 ∨ 65536 < text ∨ text % 4 ≠ 0 then some 8
  else if 131072 < dat ∨ dat % 4 ≠ 0 then some 12
  else if entry % 4 ≠ 0 ∨ text ≤ entry then some 16
  else if budget < 1 ∨ 9000 < budget then some 20
  else if (s.getBar2 (imageBuffer + 28) 36).any (fun b => b != 0#8) then some 28
  else if crc32 (s.getBar2 (imageBuffer + 64) (text + dat)) ≠ s.imgField 24 then some 0xFFFFFFFF
  else none

/-- Bytes as memory cells in canonical form. -/
def cellsFrom (bs : List Byte) : List Host.Cell :=
  (bs.zipIdx.filter (fun q => q.1 != 0#8)).map (fun q => (q.2, q.1))

/-- ENGINE_LOAD_END (R411): the checks decide; a good image goes into every named slot. DEDUCED: log entry 115. -/
def execEngineLoadEnd (c : Fin 12) (s : State) : Host.Outcome State Fault Refusal :=
  if s.rdN (Obj.loadState c) ≠ 1 then .next s
  else
    let mask := tget (fun _ => 0) s.engine.loading c
    let s := { s with engine.loading := tset (fun _ => 0) s.engine.loading c 0 }
    match s.imageFault with
    | some at_ =>
      .next (((s.wrN (Obj.loadState c) 3).wrN (Obj.loadStatus c) Status.refused).raise 0x80E3 (0x5000 + 0x40 * c) at_)
    | none =>
      let text := s.imgField 8
      let dat := s.imgField 12
      let entry := s.imgField 16
      let budget := s.imgField 20
      let crc := s.imgField 24
      let tb := cellsFrom (s.getBar2 (imageBuffer + 64) text)
      let db := cellsFrom (s.getBar2 (imageBuffer + 64 + text) dat)
      let s := s.each (upto 16 (bitOf mask)) (fun s e =>
        let s := s.engClear c e
        let x := ((s.eng c e).setCs 5 (BitVec.ofNat 32 entry)).setCs 0x013 (BitVec.ofNat 32 budget)
        let s := s.setEng c e { x with text := tb, data := db }
        let s := ((s.wrN (Obj.engSlotState c e) 1).wrN (Obj.imageCrc c e) crc).wrN (Obj.budget c e) budget
        (s.wrN (Obj.tasks c e) 0).wrN (Obj.traps c e) 0)
      .next (((s.wrN (Obj.loadState c) 2).wrN (Obj.loadStatus c) 0).raise 0x40E2
        (engSource c ((upto 16 (bitOf mask)).headD 0)) mask)

/-! ### Partitions -/

/-- Show PARTITIONS_DEFINED, UNASSIGNED and ENGINES_HELD (Table 17.1). -/
def State.showPartitions (s : State) : State :=
  let s := s.wrN Obj.partitionsDefined (maskOf 4 (fun p => decide (0 < s.rdN (Obj.clusterCount p))))
  let s := s.wrN Obj.unassigned (maskOf 12 (fun c => decide (8 ≤ c) && (s.partOf c).isNone))
  s.each (List.range 4) (fun s p =>
    s.wrN (Obj.enginesHeld p) (sumTo 4 (fun k => if s.partOf (8 + k) = some p then
      16 - s.engine.unheld.countP (fun u => u / 16 == 8 + k) else 0)))

/-- Clusters that a partition names with a first cluster and a count. -/
def clusterRun (first count : Nat) : List Nat := (List.range count).map (first + ·)

/-- The check of a PARTITION_WRITE (R415): 8–11 only, none that the system partition has taken (R477), and no cluster in two defined
partitions. -/
def State.partitionOk (s : State) (p first count : Nat) : Bool :=
  let l := clusterRun first count
  l.all (fun c => decide (8 ≤ c ∧ c < 12) && s.crew c) &&
    l.all (fun c => (List.range 4).all (fun q => q == p ||
      !(clusterRun (s.rdN (Obj.firstCluster q)) (s.rdN (Obj.clusterCount q))).contains c))

/-- The clusters a write names before and after it: moored or the write is NOT_MOORED (R415). -/
def State.partitionClusters (s : State) (p first count : Nat) : List Nat :=
  ((clusterRun (s.rdN (Obj.firstCluster p)) (s.rdN (Obj.clusterCount p))) ++ clusterRun first count).eraseDups

/-- PARTITION_WRITE accepted (R416): every cluster whose partition changes is emptied. -/
def State.partitionOp (s : State) (p first count : Nat) : State :=
  let was := (List.range 12).map (fun c => s.partOf c)
  let s := (s.wrN (Obj.firstCluster p) first).wrN (Obj.clusterCount p) count
  let changed := upto 12 (fun c => decide (8 ≤ c) && s.partOf c != was.getD c none)
  let s := s.each changed (fun s c => (s.clusterClear c).wrN (Obj.runMask c) 0)
  let s := s.showPartitions
  if changed.isEmpty then s
  else s.raise 0x40E5 (0x5310 + p) (maskOf 12 (fun c => decide (8 ≤ c) && s.partOf c == some p))

end Sys2Proof.Machine
end

