-- ==== Sys2Proof/Machine/Supervisory.lean ====
section
/-! DEFINITION. The supervisory converter and the monitor filter chain (chapter 18): slots and modes (R432, R433), the choice
of the channel (R434–R438), results (R439–R441), rail monitors (R515), filter slots (R442–R446) and modulator bias (R447). -/
namespace Sys2Proof.Machine

/-- The nearest integer to a quotient; halfway, either neighbour by a free choice (R442 states no rule for ties). -/
def State.nearest (s : State) (a : Int) (b : Nat) : Int × State :=
  let q := a / (b : Int)
  let m := 2 * (a % (b : Int))
  if m < b then (q, s)
  else if (b : Int) < m then (q + 1, s)
  else
    let (n, s) := s.draw
    (if Config.roundUp n then q + 1 else q, s)

/-! ### Filter slots -/

/-- Filter slot f's history (R442). -/
def State.filt (s : State) (f : Nat) : FilterSt := tget (fun _ => {}) s.sup.filters f

/-- Change it. -/
def State.setFilt (s : State) (f : Nat) (x : FilterSt) : State :=
  { s with sup.filters := tset (fun _ => {}) s.sup.filters f x }

/-- The length of a filter slot's bank (R444). -/
def State.bankLength (s : State) (f bank : Nat) : Nat :=
  if bank = 0 then s.rdN (Obj.lengthA f) else s.rdN (Obj.lengthB f)

/-- Clear a slot's history after a change of its configuration (R443). -/
def State.filterClear (s : State) (f : Nat) : State :=
  let x := s.filt f
  let len := s.bankLength f (s.rdN (Obj.filterActiveBank f))
  s.setFilt f { x with xs := [], integ := [0, 0, 0], comb := [0, 0, 0], count := 0, cs := [], settle := 3 + len }

/-- The median of five numbers (R442). -/
def median5 (l : List Int) : Int := ((l.mergeSort (fun a b => decide (a ≤ b))).drop 2).headD 0

/-- One cascade of integrators: each adds the one before it, modulo 2^52 (R442). -/
def cicIntegrate (v : Nat) : List Nat → List Nat
  | [] => []
  | i :: t => let w := (i + v) % 2 ^ 52; w :: cicIntegrate w t

/-- One cascade of combs: each takes the difference with its previous input, modulo 2^52; the new delays and the output. -/
def cicComb (v : Nat) : List Nat → List Nat × Nat
  | [] => ([], v)
  | d :: t =>
    let (ds, o) := cicComb ((v + 2 ^ 52 - d) % 2 ^ 52) t
    (v :: ds, o)

/-- A 52-bit word as a signed number. -/
def signed52 (v : Nat) : Int := if 2 ^ 51 ≤ v then (v : Int) - 2 ^ 52 else v

/-- Saturation to signed 24 bits (R442). -/
def saturate24 (y : Int) : Int := clampInt (-8388608) 8388607 y

/-- The extremes and the RMS of a completed window (R445). -/
def State.filterWindow (s : State) (f : Nat) (y : Int) : State :=
  let x := s.filt f
  let n := x.winCount + 1
  let mx := if x.winCount = 0 then y else max x.winMax y
  let mn := if x.winCount = 0 then y else min x.winMin y
  let sq := x.winSq + y.natAbs ^ 2
  if s.rdN (Obj.peakWindow f) ≤ n then
    let s := s.setFilt f { x with winCount := 0, winMax := 0, winMin := 0, winSq := 0 }
    let s := (s.wr (Obj.peakMax f) mx).wr (Obj.peakMin f) mn
    let root := isqrt (sq / n)
    if root ^ 2 * n = sq then s.wrN (Obj.rmsLast f) root
    else
      let (d, s) := s.draw
      s.wrN (Obj.rmsLast f) (root + (if Config.roundUp d then 1 else 0))
  else s.setFilt f { x with winCount := n, winMax := mx, winMin := mn, winSq := sq }

/-- ENVELOPE follows |y| (R445). -/
def State.filterEnvelope (s : State) (f : Nat) (y : Int) : State :=
  let e := s.rd (Obj.envelope f)
  let d := (y.natAbs : Int) - e
  if 0 < d then
    let (q, s) := s.roundFreeInt d (2 ^ s.rdN (Obj.envAttack f))
    s.wr (Obj.envelope f) (e + q)
  else
    let (q, s) := s.roundFreeInt (-d) (2 ^ s.rdN (Obj.envDecay f))
    s.wr (Obj.envelope f) (e - q)

/-- One output of the FIR (R442): bank swaps that wait take effect with it (R444), then the output registers, the
accumulators and, without SETTLING, the detectors (R445). DEDUCED: log entry 67. -/
def State.filterOutput (s : State) (f : Nat) : State :=
  let x := s.filt f
  let bank0 := s.rdN (Obj.filterActiveBank f)
  let bank := (bank0 + x.swaps) % 2
  let len := s.bankLength f bank
  let swapSettle := if 0 < x.swaps then len else x.swapSettle
  let s := (s.wrN (Obj.filterActiveBank f) bank).setFilt f
    { x with swaps := 0, settle := x.settle - 1, swapSettle := swapSettle - 1 }
  let sum : Int := (List.range len).foldl
    (fun a i => a + s.rd (Obj.filterCoeff f (32 * bank + i)) * x.cs.getD i 0) 0
  let (q, s) := s.nearest sum (2 ^ 17)
  let y := saturate24 q
  let settling := decide (0 < x.settle ∨ 0 < swapSettle)
  let s := s.wr (Obj.filterOutput f) y
  let s := s.onlyIf (y != q) (fun s => (s.inc (Obj.saturations f)).raiseLimited 0x80F2 (0x1640 + f) 1)
  let s := s.inc (Obj.accCount f)
  let s := s.wr (Obj.accSum f) ((s.rd (Obj.accSum f) + y) % 2 ^ 96)
  let s := s.wr (Obj.accSumsq f) ((s.rd (Obj.accSumsq f) + y ^ 2) % 2 ^ 96)
  if settling then s.inc (Obj.settlingOutputs f)
  else (s.filterWindow f y).filterEnvelope f y

/-- A filter slot takes one untagged result of its channel (R442). -/
def State.filterIn (s : State) (f code : Nat) : State :=
  let x := s.filt f
  let xs := (((code : Int) - 32768) :: x.xs).take 5
  if xs.length < 5 then s.setFilt f { x with xs := xs }
  else
    let dec := max 1 (s.rdN (Obj.decimation f))
    let integ := cicIntegrate ((median5 xs % 2 ^ 52).toNat) x.integ
    if x.count + 1 < dec then s.setFilt f { x with xs := xs, integ := integ, count := x.count + 1 }
    else
      let (comb, out) := cicComb (integ.getD 2 0) x.comb
      let (c, s) := s.nearest (signed52 out * 256) (dec ^ 3)
      (s.setFilt f { x with xs := xs, integ := integ, comb := comb, count := 0, cs := (c :: x.cs).take 32 }).filterOutput f

/-- A write of a filter slot's configuration or coefficient (R444, R446): the rejection, if any. `bank`: the bank whose
length or coefficient is written. -/
def State.filterWriteStatus (s : State) (f : Nat) (bank : Option Nat) : Option Nat :=
  if f < 8 then some Status.refused
  else match bank with
    | none => none
    | some b =>
      if s.rdN (Obj.filterActiveBank f) = b then some Status.refused
      else if 0 < (s.filt f).swaps ∨ s.core.window.any (fun w => w.key == Obj.bankSwap f) then some Status.busy
      else none

/-- DECIMATION takes powers of two alone (Table 18.5). -/
def decimationOk (v : Nat) : Bool := (List.range 13).any (fun i => v == 2 ^ i)

/-- A bank swap is applied (step 10): it waits for the next output (R444). -/
def State.bankSwapOp (s : State) (f : Nat) : State :=
  let x := s.filt f
  s.setFilt f { x with swaps := x.swaps + 1 }

/-! ### Slots -/

/-- The wake list (R491): the TIA peak detector XI of each reach whose wake bits are set, ascending.
DEDUCED: log entry 63. -/
def State.wakeList (s : State) : List Nat :=
  (upto 4 (fun r => bitOf (s.rdN Obj.wakeEnable) (4 + r) || bitOf (s.rdN Obj.wakeEnable) (8 + r))).map (fun r => 68 + 4 * r)

/-- The table the sequence walks: entry, channel, conversions per visit and NO_QUEUE; entries of COUNT 0 are skipped
(R435). In DORMANT it is the wake list, one conversion a visit (log entry 63). -/
def State.seqTable (s : State) : List (Nat × Nat × Nat × Bool) :=
  if s.power.dormant then (s.wakeList.zipIdx).map (fun (q : Nat × Nat) => (q.2, q.1, 1, false))
  else
    ((List.range 64).map (fun n =>
      let v := s.rdN (Obj.seqEntry n)
      (n, bitsOf v 22 16, bitsOf v 7 0, bitOf v 15))).filter (fun (q : Nat × Nat × Nat × Bool) => decide (0 < q.2.2.1))

/-- The entry that the walk converts next, with the conversions left of its visit. DEDUCED: log entry 63. -/
def State.seqNext (s : State) : Option (Nat × Nat × Nat × Bool) :=
  let t := s.seqTable
  match (if s.sup.restart || s.sup.left == 0 then none else t.find? (fun q => q.1 == s.sup.entry)) with
  | some q => some (q.1, q.2.1, s.sup.left, q.2.2.2)
  | none =>
    if s.sup.restart then t.head?
    else match t.find? (fun q => decide (s.sup.entry < q.1)) with
      | some q => some q
      | none => t.head?

/-- A slot starts at a tick and phase (R434): the head of the injection list, then a due sentinel conversion, then the
sequence. DEDUCED: log entry 67. -/
def State.slotStart (s : State) (tick phase : Nat) : State :=
  let md := s.rdN Obj.modeInForce
  let u := s.sup
  let u := if u.mode = md then u else { u with mode := md, modeSettle := 2, modeSlots := 0 }
  let len := if md = 0 then 20 else 160
  let tenth := if md = 0 then phase / 20 % 10 == 9 else u.modeSlots % 10 == 9
  let u := { u with modeSlots := u.modeSlots + 1, sentDue := if tenth then u.sentDue + 1 else u.sentDue }
  let early := decide (0 < u.modeSettle)
  let u := { u with modeSettle := u.modeSettle - 1 }
  match u.inj with
  | (place, ch) :: rest =>
    { s with sup := { u with inj := rest, now := some { kind := 2, channel := ch, place, tick, phase, len } } }
  | [] =>
    if 0 < u.sentDue then
      { s with sup := { u with sentDue := u.sentDue - 1, sentNext := (u.sentNext + 1) % 8,
                               now := some { kind := 1, channel := 16 + u.sentNext, tick, phase, len } } }
    else
      match ({ s with sup := u } : State).seqNext with
      | none => { s with sup := { u with restart := false, left := 0, now := some { kind := 3, channel := 0, tick, phase, len } } }
      | some (n, ch, left, nq) =>
        let chanSettle := if u.channel = some ch then u.chanSettle else 2
        { s with sup := { u with restart := false, entry := n, left := left - 1, channel := some ch,
                                 chanSettle := chanSettle - 1,
                                 now := some { kind := 0, channel := ch, settling := early || decide (0 < chanSettle),
                                               noQueue := nq, tick, phase, len } } }

/-! ### Results -/

/-- A channel's source is unpowered (R431): the reach dies' temperature sensors and the bias taps of a reach that is off.
The PK and LMON lands stand on the always-on supply (R499). -/
def State.noSource (s : State) (ch : Nat) : Bool :=
  if ch < 16 then s.offDom (domReach (ch / 4))
  else if 36 ≤ ch ∧ ch < 68 then s.offDom (domReach ((ch - 36) / 8))
  else false

/-- Bits 31:0 of a result (Table 18.4). -/
def resultWord (ch : Nat) (settling injected noSrc : Bool) (code : Nat) : Nat :=
  ch * 2 ^ 25 + (if settling then 2 ^ 24 else 0) + (if injected then 2 ^ 23 else 0) + (if noSrc then 2 ^ 22 else 0) + code

/-- The operating range of a monitored rail in mV and its divider (R515, Table 21.8); none for the references. -/
def railRange (ch : Nat) : Option (Nat × Nat × Nat) :=
  if ch < 20 then none
  else if ch < 24 then some (620, 780, 1)
  else if ch < 28 then some (970, 1030, 1)
  else if ch = 28 then some (730, 770, 1)
  else if ch = 29 then some (1160, 1240, 1)
  else if ch = 30 then some (1710, 1890, 2)
  else if ch = 31 then some (730, 770, 1)
  else if ch = 32 then some (1710, 1890, 2)
  else if ch = 33 then some (3140, 3460, 2)
  else none

/-- The watch of a rail takes an untagged result (R515). -/
def State.railIn (s : State) (ch code : Nat) : State :=
  match railRange ch with
  | none => s
  | some (lo, hi, k) =>
    let v := code * 1800 * k
    let fine := decide (lo * 65536 ≤ v ∧ v ≤ hi * 65536)
    let x : RailSt := tget (fun _ => {}) s.sup.rails ch
    let x : RailSt := if fine then { x with out := 0, within := min 8 (x.within + 1) }
      else { x with within := 0, out := min 8 (x.out + 1) }
    let starts := !x.bad && x.out == 8
    let x : RailSt := { x with bad := if x.bad then x.within != 8 else x.out == 8 }
    let s := { s with sup.rails := tset (fun _ => {}) s.sup.rails ch x }
    s.onlyIf starts (fun s => s.raiseLimitedItem 0x8123 0x1700 ch 1 (ch * 65536 + code))

/-- A rail is outside its range (R515). -/
def State.railBad (s : State) : Bool := s.sup.rails.any (fun q => q.2.bad)

/-- A result of channels 16–23 goes to its sentinel register (R439). -/
def State.sentinelIn (s : State) (i code : Nat) : State :=
  let s := s.wrN (Obj.sentinelValue i) code
  if bitOf s.sup.unread i then
    ((s.wrN Obj.sentinelOverrun (setBit (s.rdN Obj.sentinelOverrun) i true)).inc Obj.sentinelOverruns).raiseLimitedFor
      0x80F0 0x1601 1 i
  else { s with sup.unread := setBit s.sup.unread i true }

/-- The firmware reads sentinel registers: it clears their bits of SENTINEL_OVERRUN (R439). -/
def State.sentinelRead (s : State) (read : Nat) : State :=
  let keep (v : Nat) : Nat := maskOf 8 (fun i => bitOf v i && !bitOf read i)
  { s with sup.unread := keep s.sup.unread }.wrN Obj.sentinelOverrun (keep (s.rdN Obj.sentinelOverrun))

/-- A result enters the result queue (R440). -/
def State.queueResult (s : State) (w : Nat) : State :=
  let full := decide (512 ≤ s.sup.queue.length)
  let s := s.onlyIf full (fun s =>
    ({ s with sup.queue := s.sup.queue.drop 1 }.inc Obj.queueOverwritten).raiseLimited 0x80F1 0x1600 1)
  let s := { s with sup.queue := s.sup.queue ++ [w] }
  let s := s.wrN Obj.queueFill s.sup.queue.length
  s.onlyIf (s.rdB Obj.ringMirror) (fun s => s.ringWrite 15 (leBytes 8 w))

/-- A temperature sensor's result (R441): the mean of the last 8 untagged codes gives TEMPERATURE; a calibration read gives CAL_TEMP
(R438). -/
def State.temperatureIn (s : State) (c : Conv) (code : Nat) (tagged : Bool) : State :=
  if 20 ≤ c.channel then s
  else
    let s := s.onlyIf (decide (0 < c.place)) (fun s =>
      s.wr (Obj.calTemp (c.channel / 4) (c.channel % 4)) (Config.sensorTemp c.channel code))
    if tagged then s
    else
      let l := (code :: tget (fun _ => []) s.sup.temps c.channel).take 8
      { s with sup.temps := tset (fun _ => []) s.sup.temps c.channel l }.wr (Obj.temperature c.channel)
        (Config.sensorTemp c.channel (((l.sum : Nat) : ℚ) / l.length))

/-- The peak detector of a reach (channel 68 + 4·r) against WAKE_LEVEL: the tick since which it has stood above it goes on, or
none (Table 20.6, sources 4–7). Results with a SETTLING tag count too: a wake list of several channels has no other.
DEDUCED: log entry 86. -/
def State.wakeIn (s : State) (ch code : Nat) : State :=
  if 68 ≤ ch ∧ ch < 84 ∧ ch % 4 = 0 then
    let r := (ch - 68) / 4
    let t := tget (fun _ => 0) s.sup.wakeSince r
    let t := if s.rdN Obj.wakeLevel < code then (if t = 0 then s.core.tick + 1 else t) else 0
    { s with sup.wakeSince := tset (fun _ => 0) s.sup.wakeSince r t }
  else s

/-- A conversion ends: its result goes where R439–R442 and R515 send it. DEDUCED: log entry 67. -/
def State.convResult (s : State) (c : Conv) (code : Nat) : State :=
  let noSrc := s.noSource c.channel
  let code := if noSrc then 0 else code
  let tagged := c.settling || c.kind == 2 || noSrc
  let w := resultWord c.channel c.settling (c.kind == 2) noSrc code
  let s := (s.inc Obj.conversions).wrN (Obj.latest c.channel) w
  let s := if 16 ≤ c.channel ∧ c.channel < 24 then s.sentinelIn (c.channel - 16) code
    else if c.noQueue then s
    else s.queueResult (c.tick % 2 ^ 23 * 2 ^ 41 + c.phase * 2 ^ 32 + w)
  let s := s.temperatureIn c code tagged
  let s := s.wakeIn c.channel code
  let s := s.onlyIf (!tagged) (fun s => s.railIn c.channel code)
  if c.settling || noSrc then s
  else s.each (upto 32 (fun f => s.rdN (Obj.inputChannel f) == c.channel)) (fun s f => s.filterIn f code)

/-- The general place of the injection list is taken (R437). DEDUCED: log entry 67. -/
def State.injectBusy (s : State) : Bool := s.sup.inj.any (fun q => q.1 == 0)

/-- INJECT is accepted (R437). -/
def State.injectOp (s : State) (ch : Nat) : State := { s with sup.inj := s.sup.inj ++ [(0, ch)] }

/-- A request of the keeper firmware for the general place: rejected while it is taken (R437). -/
def State.keeperInject (s : State) (request : Option Nat) : State :=
  match request with
  | some ch => s.onlyIf (!s.injectBusy && decide (ch < 96)) (fun s => s.injectOp ch)
  | none => s

/-- CONVERSION_SLOT: the slot in progress ends with its result and the next one starts (R432, R434). -/
def execConversionSlot (code : BitVec 16) (keeper : KeeperSlot) (drained : Nat) (s : State) : Host.Outcome State Fault Refusal :=
  let s := (s.sentinelRead keeper.read).keeperInject keeper.inject
  let s := { s with sup.queue := s.sup.queue.drop drained }
  let s := s.wrN Obj.queueFill s.sup.queue.length
  match s.sup.now with
  | none => .next (s.slotStart s.core.tick 0)
  | some c =>
    let s := s.onlyIf (c.kind != 3) (fun s => s.convResult c code.toNat)
    let p := c.phase + c.len
    .next (s.slotStart (max s.core.tick (c.tick + p / 400)) (p % 400))

/-! ### Modes, injections and the sequence table -/

/-- The mode in force from a boundary (R433). -/
def State.superMode (s : State) : State :=
  s.wrN Obj.modeInForce
    (if s.power.dormant then 1 else if (List.range 4).any (fun r => s.released (domReach r)) then 0
     else s.rdN Obj.modeRequest)

/-- MODE_REQUEST: LOW_POWER is refused while a reach is released (R433). -/
def State.modeRequestOk (s : State) (v : Nat) : Bool := !(v == 1 && (List.range 4).any (fun r => s.released (domReach r)))

/-- A write of a sequence entry (R435): the rejection, if any. -/
def seqEntryStatus (n v : Nat) : Option Nat :=
  if 95 < bitsOf v 22 16 then some Status.outOfRange
  else if n < 32 then some Status.refused
  else none

/-- The table was written: the walk restarts at entry 0 with the next slot (R435). -/
def State.seqWritten (s : State) : State := { s with sup.restart := true }

/-! ### Modulator bias -/

/-- A write of BIAS_CODE is refused outside MANUAL (R447). -/
def State.biasCodeOk (s : State) (r : Nat) : Bool := s.prdN (Obj.biasMode r) == 2

/-- The bias DAC code in force (R447). -/
def State.biasOf (s : State) (r j : Nat) : Nat := tget (fun _ => 32768) s.sup.bias (8 * r + j)

/-- The level an output drives: its code, or high impedance while the reach is off (R447, Table 21.5). -/
def State.biasPin (s : State) (r j : Nat) : Option Nat := if s.offDom (domReach r) then none else some (s.biasOf r j)

/-- A boundary's bias codes (R447): the dither loops' outputs in AUTO (none where they are stale), the written codes in
MANUAL; held in HOLD and while the reach is not released. -/
def State.biasStep (s : State) (r : Nat) (auto : List Nat) : State :=
  if !s.released (domReach r) then s
  else
    let codes : List Nat :=
      if s.rdN (Obj.biasMode r) = 0 then auto
      else if s.rdN (Obj.biasMode r) = 2 then (List.range 8).map (fun j => s.rdN (Obj.biasCode r j))
      else []
    s.each (codes.zipIdx) (fun s (q : Nat × Nat) =>
      if q.2 < 8 then { s with sup.bias := tset (fun _ => 32768) s.sup.bias (8 * r + q.2) (q.1 % 65536) } else s)

/-- A bank's length is written (R443, R444): accepted as an immediate write, in force from step 9 of the next boundary on.
DEDUCED: log entry 131. -/
def State.lengthPut (s : State) (f bank : Nat) (v : Int) : State :=
  let x := s.filt f
  s.setFilt f { x with lengths := x.lengths.filter (fun q => q.1 != bank) ++ [(bank, v)] }

/-- The boundary's step 9 for the filter slots: lengths written since the last boundary come, and clear the history (R443).
DEDUCED: log entry 131. -/
def State.filterBoundary (s : State) : State :=
  s.each (upto 32 (fun f => !(s.filt f).lengths.isEmpty)) (fun s f =>
    let x := s.filt f
    let s := s.each x.lengths (fun s q => s.wr (if q.1 = 0 then Obj.lengthA f else Obj.lengthB f) q.2)
    (s.setFilt f { x with lengths := [] }).filterClear f)

end Sys2Proof.Machine
end

