-- ==== Sys2Proof/Machine/Integrity.lean ====
section
/-! DEFINITION. The assay (R450–R457), state memory and its scrubbers (R458–R464), the rake, page retirement and diagnostic
reads (R465–R469), and the stockpile (R470–R477). -/
namespace Sys2Proof.Machine

/-! ### Units (Table 19.1) -/

/-- The kind of a unit that has spares: its bit of EXHAUSTED. -/
def unitKind (u : Nat) : Option Nat :=
  if u < 0x1080 then some 0
  else if 0x1100 ≤ u ∧ u < 0x1134 then some 1
  else if 0x1200 ≤ u ∧ u < 0x1224 then some 2
  else if 0x1300 ≤ u ∧ u < 0x13CC then some 3
  else none

/-- A number names a unit. -/
def unitExists (u : Nat) : Bool :=
  (unitKind u).isSome || decide (0x1400 ≤ u ∧ u < 0x1404) || decide (0x1410 ≤ u ∧ u < 0x1418) ||
    decide (0x1420 ≤ u ∧ u < 0x1428) || decide (0x1500 ≤ u ∧ u < 0x1508)

/-- The domain a unit belongs to; 37 is the hub core. -/
def unitDomain (u : Nat) : Nat :=
  if u < 0x1080 then domReach (u / 1056)
  else if u < 0x1134 then domQuarter ((u - 0x1100) / 13)
  else if u < 0x1224 then domCipher
  else if u < 0x13CC then domCluster ((u - 0x1300) / 17)
  else if u < 0x1404 then domReach (u - 0x1400)
  else if u < 0x1418 then domBerth (u - 0x1410)
  else if u < 0x1428 then domPort (u - 0x1420)
  else 37

/-- How many units a domain holds. -/
def unitCount (d : Nat) : Nat :=
  if d < 4 then 1057 else if d < 12 then 1 else if d < 16 then 13 else if d < 24 then 1 else if d = 24 then 36
  else if d < 37 then 17 else 8

/-- A unit is powered (R450). -/
def State.unitPowered (s : State) (u : Nat) : Bool := unitDomain u == 37 || s.poweredDom (unitDomain u)

/-- A unit is retired. -/
def State.unitRetired (s : State) (u : Nat) : Bool :=
  match unitKind u with
  | some 0 => s.sliceRetired (u / 1056) (u / 132 % 8) (u % 132) || s.integ.lostSlices.contains u
  | some 1 => bitOf s.start.decoderMap (u - 0x1100)
  | some 2 => bitOf s.start.cipherMap (u - 0x1200)
  | some _ => bitOf s.start.engineMap (u - 0x1300)
  | none => false

/-- The slot that a physical engine serves. -/
def State.slotOfEngine (s : State) (c e : Nat) : Option Nat :=
  (List.range 16).find? (fun x => s.rdN (Obj.physical c x) == e && !s.engine.unheld.contains (16 * c + x))

/-- A unit stands in the stockpile (Table 19.5). -/
def State.unitSpare (s : State) (u : Nat) : Bool :=
  match unitKind u with
  | some 0 => decide (128 ≤ u % 132) && s.spareFree (u / 1056) (u / 132 % 8) (u % 132 - 128)
  | some 1 => s.rdN (Obj.decCoreState (u - 0x1100)) == 2
  | some 2 => s.rdN (Obj.cipherCoreState (u - 0x1200)) == 2
  | some _ => (u - 0x1300) % 17 == 16 && (s.slotOfEngine ((u - 0x1300) / 17) 16).isNone && !s.unitRetired u
  | none => false

/-- An assay is running on a unit (R471). -/
def State.underAssay (s : State) (u : Nat) : Bool :=
  match s.integ.assay with
  | none => false
  | some a => if a.kind = 2 then a.unit == u else s.unitPowered u

/-- A spare can be taken (R471): it passed its last assay and nothing else has taken it. -/
def State.spareFit (s : State) (u : Nat) : Bool :=
  s.unitSpare u && !s.unitRetired u && !s.integ.failedUnits.contains u &&
    !(s.integ.swaps ++ s.integ.late).any (fun w => decide (w.kind < 4) && (w.succ == some u || w.unit == u))

/-- The spares that can serve a unit's position, in the order of Table 19.5. Before step 8 no quarter is released yet and a
powered one serves (log entry 65). DEDUCED: log entry 65. -/
def State.sparesFor (s : State) (u : Nat) : List Nat :=
  match unitKind u with
  | some 0 => (List.range 4).map (fun j => u / 132 * 132 + 128 + j)
  | some 1 => (upto 52 (fun c => s.released (domQuarter (c / 13)) ||
      (decide (s.start.step < 8) && s.poweredDom (domQuarter (c / 13))))).map (0x1100 + ·)
  | some 2 => (List.range 36).map (0x1200 + ·)
  | some _ => [0x1300 + (u - 0x1300) / 17 * 17 + 16]
  | none => []

/-- The successor of a unit, if one can be taken now. -/
def State.successor (s : State) (u : Nat) : Option Nat :=
  (s.sparesFor u).find? (fun v => s.spareFit v && v != u && !s.underAssay v)

/-- Every spare that could serve is under assay: the failure waits (R471). -/
def State.spareAwaited (s : State) (u : Nat) : Bool :=
  (s.successor u).isNone && (s.sparesFor u).any (fun v => s.spareFit v && v != u && s.underAssay v)

/-- Show the inventory: DECODER_SPARES, CIPHER_SPARES, ENGINE_SPARES, SLICE_SPARES and SPARES_FREE (Table 19.9, R122). -/
def State.showSpares (s : State) : State :=
  let s := s.wrN Obj.decoderSpares (upto 52 (fun c => s.rdN (Obj.decCoreState c) == 2)).length
  let s := s.wrN Obj.cipherSpares (upto 36 (fun c => s.rdN (Obj.cipherCoreState c) == 2)).length
  let s := s.wrN Obj.engineSpares (maskOf 12 (fun c => s.unitSpare (0x1300 + 17 * c + 16)))
  let s := s.each (List.range 4) (fun s r =>
    s.wrN (Obj.sparesFree r) (maskOf 32 (fun i => s.start.sliceMap.getD (32 * r + i) 0xFF == 0xFF)))
  s.wrN Obj.sliceSpares (upto 128 (fun i => s.start.sliceMap.getD i 0xFF == 0xFF)).length

/-! ### Failures -/

/-- A fault moors a reach from the next boundary on, and a working reach starts restoration as a cut does (R20, R122, R133,
Table 19.4). -/
def State.faultMoorReach (s : State) (r : Nat) : State :=
  if !s.released (domReach r) || s.conv.faultMoor.contains r then s
  else { s with conv.faultMoor := s.conv.faultMoor ++ [r] }.faultTriggers r

/-- A slot loses its engine: no task starts there until a swap. DEDUCED: log entry 68. -/
def State.engineLost (s : State) (c e : Nat) : State :=
  let s := (s.setEng c e { (s.eng c e) with out := [] }).taskOver c e
  let s := { s with engine.unheld := if s.engine.unheld.contains (16 * c + e) then s.engine.unheld
                      else s.engine.unheld ++ [16 * c + e] }
  s.wrN (Obj.enginesInService c) (16 - s.engine.unheld.countP (fun u => u / 16 == c))

/-- The case of Table 19.7 for a unit whose failure finds no successor (R475, R477). A core leaves N or N_c when it is
retired. -/
def State.exhaustedUnit (s : State) (u : Nat) : State :=
  match unitKind u with
  | some 0 => ({ s with integ.lostSlices := s.integ.lostSlices ++ [u] }.exhaustedKind 0).faultMoorReach (u / 1056)
  | some 3 =>
    let c := (u - 0x1300) / 17
    let s := s.exhaustedKind 3
    match s.slotOfEngine c ((u - 0x1300) % 17) with
    | none => s
    | some e =>
      let s := s.engineLost c e
      if s.crew c then (((s.engFault c e).raise 0xC0E1 (engSource c e) 0xFE)).showPartitions
      else { s with integ.sysLost := s.integ.sysLost ++ [16 * c + e] }
  | some k => s.exhaustedKind k
  | none => s

/-- A unit in service is to be replaced: its successor is taken, or it follows Table 19.7 and is retired alone (R471, R475). -/
def State.replaceUnit (s : State) (k u : Nat) (commanded : Bool) : State :=
  match s.successor u with
  | some v => s.requestSwap { kind := k, unit := u, succ := some v, commanded := commanded }
  | none => (s.exhaustedUnit u).requestSwap { kind := k, unit := u }

/-- A failure is served (R455, R470–R472, R475): a failing spare is retired without a successor, and where it was to take a position
that position is served anew (R471); another unit is replaced. DEDUCED: log entry 68. -/
def State.serveFailure (s : State) (u : Nat) (commanded : Bool) : State :=
  match unitKind u with
  | none => s
  | some k =>
    if s.unitRetired u ∨ s.integ.swaps.any (fun w => w.unit == u && decide (w.kind < 4)) then s
    else if s.unitSpare u && !s.integ.late.any (fun w => w.succ == some u) then
      match s.integ.swaps.find? (fun w => w.succ == some u && decide (w.kind < 4)) with
      | none => s.requestSwap { kind := k, unit := u }
      | some w => ({ s with integ.swaps := s.integ.swaps.erase w }.requestSwap { kind := k, unit := u }).replaceUnit k w.unit w.commanded
    else s.replaceUnit k u commanded

/-- An engine's parity fault (R470): its task ends with its outputs stale, and the slot starts no task until the swap. -/
def State.engineParity (s : State) (c e : Nat) : State :=
  let u := 0x1300 + 17 * c + e
  if s.unitRetired u then s
  else
    let s := match s.slotOfEngine c e with
      | none => s
      | some x =>
        if (s.eng c x).running then
          let s := (s.cycleEnds c x).taskCut c x
          s.setEng c x { (s.eng c x) with overRun := 0, trapRun := 0 }
        else s
    ({ s with integ.out := if s.integ.out.contains u then s.integ.out else s.integ.out ++ [u] }).reportFailed u

/-- STOCKPILE_FAILURE (R471): failures are served in order of detection. -/
def execStockpileFailure (parity : Option (Fin 12 × Fin 17)) (s : State) : Host.Outcome State Fault Refusal :=
  let s := match parity with
    | some (c, e) => s.engineParity c e
    | none => s
  match s.integ.reported with
  | [] => .next s
  | u :: rest =>
    if !s.unitRetired u && !s.unitSpare u && s.spareAwaited u then .next s
    else .next ({ s with integ.reported := rest }.serveFailure u false)

/-! ### Swaps -/

/-- A batch has come to its end: record 0x1189 is DONE, and follows the next batch (R472). -/
def State.batchCheck (s : State) : State :=
  if !s.opRunning 9 || s.integ.recBatch == 0 || s.integ.swaps.any (fun w => w.batch == s.integ.recBatch) then s
  else
    let s := (s.opAdvance 9 (s.rdN (Obj.opPositionEnd 9))).opDone 9
    match s.integ.swaps with
    | [] => s
    | w :: t =>
      let b := t.foldl (fun m x => if m = 0 then x.batch else if x.batch = 0 then m else min m x.batch) w.batch
      let s := { s.opStart 9 (s.batchEnd4 b) with integ.recBatch := b }
      if s.integ.swaps.any (fun x => x.batch == b && x.valid.isSome) then s.opAdvance 9 1 else s

/-- A commit that carried a batch is valid (Table 19.6, position 1). -/
def State.batchValid (s : State) (b : Nat) : State :=
  if b = 0 then s
  else
    let s : State := { s with integ.swaps := s.integ.swaps.map (fun (w : Swap) =>
      if w.batch = b then { w with valid := some s.core.tick } else w) }
    if s.integ.recBatch = b then s.opAdvance 9 1 else s

/-- A commit that carried a batch has failed three times (R112, R472): the batch is refused and each unit follows
Table 19.7; its retirement waits for the next commit. A page whose successor came from a reserve takes one from the port's free pool, and
is listed where there is none. -/
def State.batchRefused (s : State) (b : Nat) : State :=
  if b = 0 then s
  else
    let mine := s.integ.swaps.filter (fun w => w.batch == b)
    let kept := s.integ.swaps.filter (fun w => w.batch != b || decide (w.kind < 4))
    let s : State := { s with integ.swaps := kept.map (fun (w : Swap) =>
      if w.batch = b then { w with batch := 0, succ := none } else w) }
    let s := s.each mine (fun s w =>
      if w.kind < 4 then (if w.succ.isSome then s.exhaustedUnit w.unit else s)
      else if w.kind = 4 then
        (s.listRepeat (macroGroup (w.unit / 4096) * 2 ^ 26 + w.addr % 2 ^ 26)).spentMacro (w.unit / 4096)
      else
        let s := match w.succ with
          | some v =>
            let q := v / pageBase
            if w.addr = 1 then (s.setBport q { (s.bport q) with withheld := (s.bport q).withheld ++ [v % pageBase] }).noteReserve
              q (tget (fun _ => 0) s.integ.pagesTaken q - 1) else s
          | none => s
        match (if w.succ.isSome && w.addr == 1 then s.lowestFree (w.unit / pageBase) else none) with
        | some n => (s.exhaustedKind 5).requestSwap { kind := 5, unit := w.unit, succ := some (w.unit / pageBase * pageBase + n) }
        | none => (s.listRepeat ((32 + w.unit / pageBase) * 2 ^ 26 + w.unit % pageBase)).exhaustedKind 5)
    if s.integ.recBatch = b ∧ s.opRunning 9 then
      let s := s.opFail 9 Status.refused
      if s.integ.swaps.isEmpty then s else { s.opStart 9 (s.batchEnd4 0) with integ.recBatch := 0 }
    else s

/-- ABORT of record 0x1189 (R472): for commanded swaps whose commit has not started. -/
def State.swapAbortOk (s : State) : Bool :=
  s.integ.recBatch == 0 && s.integ.swaps.all (fun w => w.batch != 0 || w.commanded)

/-- The abort is accepted. -/
def State.swapAbort (s : State) : State :=
  let s : State := { s with integ.swaps := s.integ.swaps.filter (fun w => w.batch != 0) }
  (s.opAbort 9 Status.ok).batchCheck

/-- Take an allocation off the list and put its maps in force. -/
def State.swapTake (s : State) (w : Swap) : State :=
  let s := s.setMaps (s.mapsNow.withSwap w)
  { s with integ.swaps := s.integ.swaps.erase w,
           integ.out := if w.kind < 4 then s.integ.out.filter (· != w.unit) else s.integ.out }

/-- The successor takes the position (Table 19.6, positions 2 to 4). DEDUCED: log entry 68. -/
def State.placeIn (s : State) (w : Swap) : State :=
  let u := w.unit
  let s :=
    if w.kind = 0 then
      let r := u / 1056
      let k := u / 132 % 8
      match w.succ, (List.range 128).find? (fun p => s.rdN (Obj.sliceAtPosition r k p) == u % 132) with
      | some v, some p => s.wrN (Obj.sliceAtPosition r k p) (v % 132)
      | _, _ => s
    else if w.kind = 1 then
      let s := s.wrN (Obj.decCoreState (u - 0x1100)) 3
      match w.succ with
      | some v => s.wrN (Obj.decCoreState (v - 0x1100)) 1
      | none => s
    else if w.kind = 2 then
      let s := s.wrN (Obj.cipherCoreState (u - 0x1200)) 3
      let s := { s with key.withdrawn := s.key.withdrawn.filter (· != u - 0x1200) }
      (match w.succ with
      | some v => s.wrN (Obj.cipherCoreState (v - 0x1200)) 1
      | none => s).cipherCapacity
    else if w.kind = 3 then
      let c := (u - 0x1300) / 17
      match w.succ, (List.range 16).find? (fun x => s.rdN (Obj.physical c x) == (u - 0x1300) % 17) with
      | some _, some x => s.wrN (Obj.physical c x) 16
      | _, _ => s
    else
      let mac := u / 4096
      let m := macroGroup mac
      let t := (tget (fun _ => []) s.integ.track m).filter (fun e => macroRow m e.addr != (mac, u % 4096))
      let s := { s with integ.rows := s.integ.rows ++ [(mac, u % 4096)], integ.track := tset (fun _ => []) s.integ.track m t }
      ((s.wrN (Obj.rowsRepaired m) (s.rdN (Obj.rowsRepaired m) + 1)).wrN (Obj.spareRowsFree m)
        (s.rdN (Obj.spareRowsFree m) - 1)).wrN Obj.repairRowsFree (s.rdN Obj.repairRowsFree - 1)
  let s := match w.succ with
    | some v => if w.kind < 4 then (s.inc Obj.swaps).raise 0x4104 0x1550 (u * 65536 + v) else s
    | none => s
  s.showSpares

/-- A swap at its bring-in step: the ledger's maps change, and the successor takes the position, or waits for the power-up of a
domain that is off (R472). DEDUCED: log entry 68. -/
def State.bringIn (s : State) (w : Swap) : State :=
  let s := s.swapTake w
  if w.kind < 4 ∧ w.succ.isSome ∧ s.offDom (unitDomain w.unit) then { s with integ.late := s.integ.late ++ [w] }
  else s.placeIn w

/-- A domain powers up: successors that waited for it are brought in (R472). DEDUCED: log entry 68. -/
def State.bringInLate (s : State) (d : Nat) : State :=
  let mine := s.integ.late.filter (fun w => unitDomain w.unit == d)
  { s with integ.late := s.integ.late.filter (fun w => unitDomain w.unit != d) }.each mine State.placeIn

/-- An allocation is brought in at a boundary's step: slices at step 5, cores, engines and rows at step 3 (Table 19.5). An
engine waits for its copy (R473). -/
def State.bringInDue (s : State) (w : Swap) (slices : Bool) : Bool :=
  w.valid.isSome && decide (w.kind < 5) && (slices == (w.kind == 0)) &&
    (w.kind != 3 || w.copied || w.succ.isNone || s.offDom (unitDomain w.unit))

/-- A slice swap ends a background round of its reach ABORTED, and a new one starts at the next boundary (R474). -/
def State.calAbortFor (s : State) (w : Swap) : State :=
  let r := w.unit / 1056
  if w.kind = 0 ∧ (s.cal r).kind = 1 then
    let s := s.calReturn r
    (s.setCal r { (s.cal r) with kind := 0, shadow := [], displaced := [], pos := 0, aborting := 0, suspended := false,
                                 accepted := [], verdict := none, requested := true,
                                 dueAt := s.core.tick + 1 }).opAbort (calOp r) Status.ok
  else s

/-- STOCKPILE_BRING_IN (R472) at step 3, or for slices at step 5. -/
def State.stockpileStep (s : State) (slices : Bool) : State :=
  let due := s.integ.swaps.filter (fun w => s.bringInDue w slices)
  (s.each due (fun s w => (s.calAbortFor w).bringIn w)).batchCheck

/-- The cluster that a system slot's loss takes (R477): the highest-numbered of 8–11 in no partition, else of all.
DEDUCED: log entry 68. -/
def State.clusterToTake (s : State) : Option Nat :=
  let mine := [11, 10, 9, 8].filter (fun c => s.crew c)
  match mine.find? (fun c => (s.partOf c).isNone) with
  | some c => some c
  | none => mine.head?

/-- SYSTEM_CLUSTER_TAKEOVER (R477): the cluster is emptied and joins the system partition; its partition loses it. -/
def State.takeCluster (s : State) (c : Nat) : State :=
  let p := s.partOf c
  let s := match p with
    | some p => s.wrN (Obj.clusterCount p) (s.rdN (Obj.clusterCount p) - 1)
    | none => s
  let s := ((s.clusterClear c).wrN (Obj.runMask c) 0).wrN (Obj.clusterMode c) 0
  let s := s.showPartitions
  match p with
  | some p => s.raise 0x40E5 (0x5310 + p) (maskOf 12 (fun c => decide (8 ≤ c) && s.partOf c == some p))
  | none => s.raise 0x40E5 0x5310 0

/-- The firmware moves a lost slot's task to a free slot of the system partition, and a user cluster is taken first where none
is free (R477). -/
def State.systemStep (s : State) : State :=
  let lost := s.integ.sysLost
  let s := { s with integ.sysLost := [] }
  s.each lost (fun s i =>
    let free (s : State) : Option Nat := (List.range 192).find? (fun j => !s.crew (j / 16) && s.engState (j / 16) (j % 16) == 0 &&
      !s.engine.unheld.contains j && s.poweredDom (domCluster (j / 16)))
    let s := match free s, s.clusterToTake with
      | none, some c => s.takeCluster c
      | _, _ => s
    match free s with
    | none => s
    | some j =>
      let s := s.setEng (j / 16) (j % 16) (s.eng (i / 16) (i % 16))
      let s := (s.wrN (Obj.engSlotState (j / 16) (j % 16)) 1).wrN (Obj.budget (j / 16) (j % 16))
        (s.rdN (Obj.budget (i / 16) (i % 16)))
      (s.engClear (i / 16) (i % 16)).wrN (Obj.engSlotState (i / 16) (i % 16)) 0)

/-- SWAP_UNIT (R472, R474): the rejection, if any. DEDUCED: log entry 68. -/
def State.swapUnitStatus (s : State) (u : Nat) : Option Nat :=
  if (unitKind u).isNone ∨ s.unitRetired u then some Status.outOfRange
  else if s.unitSpare u ∨ (s.successor u).isNone ∨ s.integ.swaps.any (fun w => w.unit == u && decide (w.kind < 4)) then
    some Status.refused
  else none

/-- ENGINE_STATE_COPY (R473): in the tick after the commit the slot's state is copied; the slot keeps it, its uncorrectable bytes
among it. -/
def execEngineStateCopy (c : Fin 12) (s : State) : Host.Outcome State Fault Refusal :=
  .next { s with integ.swaps := s.integ.swaps.map (fun (w : Swap) =>
    if w.kind = 3 ∧ (w.unit - 0x1300) / 17 = c.val ∧ w.valid.any (fun t => decide (t < s.core.tick)) then { w with copied := true }
    else w) }

/-! ### The assay -/

/-- The units that are retired. -/
def State.retiredUnits (s : State) : List Nat :=
  ((upto 128 (fun i => s.start.sliceMap.getD i 0xFF != 0xFF)).map (fun i => 132 * (i / 4) + s.start.sliceMap.getD i 0xFF) ++
    s.integ.lostSlices ++ (upto 52 (bitOf s.start.decoderMap)).map (0x1100 + ·) ++ (upto 36 (bitOf s.start.cipherMap)).map (0x1200 + ·) ++
    (upto 204 (bitOf s.start.engineMap)).map (0x1300 + ·)).eraseDups

/-- The number of units to be tested (R450): those of powered domains that are not retired, and the hub core's.
DEDUCED: log entry 68. -/
def State.assayUnits (s : State) : Nat :=
  sumTo 37 (fun d => if s.poweredDom d then unitCount d else 0) + unitCount 37 - (s.retiredUnits.filter s.unitPowered).length

/-- Which preconditions of R451 fail: bit 0 clock, bit 1 voltage. -/
def assayBits (pllError : Int) (low high : Nat) : Nat :=
  (if 200 < pllError.natAbs then 1 else 0) + (if low < 660 ∨ 740 < high then 2 else 0)

/-- An assay begins (R450): record 0x1181. -/
def State.assayBegin (s : State) (kind unit : Nat) : State :=
  { s with integ.assay := some ⟨kind, unit⟩ }.opStart 1 (if kind = 2 then 1 else s.assayUnits)

/-- An assay that is not run (R451). -/
def State.assayNotRun (s : State) (bits : Nat) : State :=
  ((({ s with integ.assay := none }).wrN Obj.assayOutcome 4).raise 0x8101 0x1500 bits).opFail 1 Status.refused

/-- An assay ends (R455–R457): the results, the failing units in ascending order, spares first, and ASSAY_OUTCOME. -/
def State.assayResult (s : State) (a : Assay) (failed : List Nat) (pllError : Int) (vcore : Nat) : State :=
  let tests (u : Nat) : Bool := unitExists u && (if a.kind = 2 then u == a.unit else s.unitPowered u) && !s.unitRetired u
  let fs := (failed.eraseDups.filter tests).mergeSort (fun x y => decide (x ≤ y))
  let doms := (List.range 37).filter s.poweredDom ++ [37]
  let n := s.rdN (Obj.opPositionEnd 1)
  let s : State := { s with integ.assay := none, start.assayLifetime := s.life,
                            integ.failedUnits := fs ++ s.integ.failedUnits.filter (fun u => !fs.contains u &&
                              if a.kind = 2 then u != a.unit else !s.unitPowered u || s.start.sramUnits.contains u),
                            integ.notTested := if a.kind = 2 then s.integ.notTested.filter (· != a.unit)
                              else s.integ.notTested.filter (fun u => !s.unitPowered u) ++ s.retiredUnits.filter s.unitPowered,
                            integ.tested := if a.kind = 2 then s.integ.tested else (s.integ.tested ++ doms).eraseDups,
                            integ.testedUnits := if a.kind = 2 then (s.integ.testedUnits ++ [a.unit]).eraseDups
                              else s.integ.testedUnits }
  let s := (s.wr Obj.assayPllError pllError).wrN Obj.assayVcore vcore
  let s := (s.wrN Obj.assayFailed (min 255 fs.length)).wrN Obj.assayFirst (fs.headD 0xFFFF)
  let s := s.each fs (fun s u => s.raise 0xC100 0x1500 u)
  let spares := fs.filter s.unitSpare
  let s := s.each (spares ++ fs.filter (fun u => !spares.contains u)) (fun s u => s.serveFailure u false)
  let replaced (u : Nat) : Bool := s.integ.swaps.any (fun w => w.unit == u && decide (w.kind < 4) && w.succ.isSome)
  let s := s.wrN Obj.assayOutcome (if fs.isEmpty then 1 else if fs.all replaced then 2 else 3)
  let s := s.onlyIf (a.kind == 1 && fs.any (fun u => !spares.contains u && !replaced u)) (fun s => s.wrN Obj.assayWhen 2)
  (s.opAdvance 1 n).opDone 1

/-- A domain whose reach DSP, berth group or port controller failed its assay stays moored (Table 19.2). -/
def State.domainFailed (s : State) (d : Nat) : Bool :=
  s.integ.failedUnits.any (fun u => decide (0x1400 ≤ u ∧ u < 0x1500) && unitDomain u == d)

/-- A hub-core unit failed its assay (Table 19.2). -/
def State.hubFailed (s : State) : Bool := s.integ.failedUnits.any (fun u => decide (0x1500 ≤ u))

/-- A unit counts as moored (R457). -/
def State.unitMoored (s : State) (u : Nat) : Bool :=
  match unitKind u with
  | some _ => (s.unitSpare u && s.unitPowered u) || s.dom (unitDomain u) == 2
  | none => unitDomain u != 37 && s.dom (unitDomain u) == 2

/-- ASSAY_RUN (R457): the rejection, if any. -/
def State.assayRunStatus (s : State) (u : Nat) : Option Nat :=
  if !unitExists u then some Status.outOfRange
  else if !s.unitMoored u then some Status.notMoored
  else if s.integ.assay.isSome || s.opRunning 1 then some Status.busy
  else none

/-- ASSAY_RUN is accepted (R451, R457). -/
def State.assayRunOp (s : State) (u : Nat) (pllError : Int) (low high : Nat) : State :=
  let s := s.assayBegin 2 u
  let b := assayBits pllError low high
  if b = 0 then s else s.assayNotRun b

/-- An on-demand assay is cut short: its unit reports not tested (R67). What an earlier failure holds stays held. -/
def State.assayCut (s : State) : State :=
  match s.integ.assay with
  | some a =>
    if a.kind = 2 then { s with integ.assay := none, integ.notTested := (s.integ.notTested ++ [a.unit]).eraseDups }
    else { s with integ.assay := none }
  | none => s

/-- An urgent power request aborts a running on-demand assay (R488, Table 20.4). -/
def State.assayAbort (s : State) : State := s.assayCut.opAbort 1 Status.abortedPower

/-- ASSAY_UNIT_RESULT (Table 19.9): 0 not tested, 1 pass, 2 fail. A unit that was retired when its domain was assayed has not been
tested. DEDUCED: log entry 68. -/
def State.assayUnitResult (s : State) (u : Nat) : Nat :=
  if !unitExists u ∨ s.integ.notTested.contains u then 0
  else if s.integ.failedUnits.contains u then 2
  else if s.integ.tested.contains (unitDomain u) ∨ s.integ.testedUnits.contains u then 1
  else 0

/-! ### Scrubbing -/

/-- The memory group is powered (Table 19.3). -/
def State.groupPowered (s : State) (m : Nat) : Bool :=
  if m < 12 then s.poweredDom (domCluster m)
  else if m < 16 then s.poweredDom (domReach (m - 12))
  else if m < 20 then !s.power.dormant
  else true

/-- An uncorrectable byte's consequence (Table 19.4), as the read sets it up. -/
def State.memConsequence (s : State) (m owner : Nat) (lost : List Nat) : State :=
  if m < 12 then s
  else if m = 16 then
    { s with integ.flowBad := if s.integ.flowBad.contains owner then s.integ.flowBad else s.integ.flowBad ++ [owner] }
  else if m = 18 then { s with integ.frameBad := s.integ.frameBad ++ [owner] }
  else if m = 21 then { s with integ.logBad := s.integ.logBad ++ [owner] }
  else { s with integ.bad := s.integ.bad ++ [⟨m, owner, lost⟩] }

/-- A byte of a group is read, by the scrubber or by its owner (R458, R460): what the check finds, unless the byte is known to be
uncorrectable, which it stays until it is written. DESIGN CHOICE: log entry 85. -/
def State.memRead (s : State) (x : MemRead) : State :=
  let lost := s.byteLost x.m x.addr && (x.m.val != 21 || s.integ.logBad.contains x.owner)
  if !s.groupPowered x.m then s
  else if lost || x.outcome.val == 2 then
    ((s.loseByte x.m x.addr).uncorrectable x.m (if x.m.val = 20 then x.owner / 256 else x.addr)).memConsequence x.m x.owner x.lost
  else if x.outcome.val = 1 then s.corrected x.m x.addr
  else s

/-- SCRUB_READ (R459): the scrubber reads the next byte of its group in ascending order, writes a corrected one back and reports an
uncorrectable one; the last byte ends a lap, and the next one starts from the lowest. DESIGN CHOICE: log entry 85. -/
def execScrubRead (m : Fin 22) (addr : Nat) (outcome : Fin 3) (last : Bool) (owner : Nat) (lost : List Nat) (s : State) :
    Host.Outcome State Fault Refusal :=
  if !s.groupPowered m ∨ addr ≠ tget (fun _ => 0) s.integ.scrubAt m then .next s
  else
    let s := s.memRead ⟨m, addr, outcome, owner, lost⟩
    let s : State := { s with integ.scrubAt := tset (fun _ => 0) s.integ.scrubAt m (if last then 0 else addr + 1) }
    if last then
      let l := tget (fun _ => (0, 0)) s.integ.laps m
      .next ({ s with integ.laps := tset (fun _ => (0, 0)) s.integ.laps m (l.1 + 1, s.core.tick) }.wrN (Obj.lapTicks m)
        (s.core.tick - l.2))
    else .next s

/-- The consequences that come at the next boundary (Table 19.4): reaches moored, flows resynced, key slots erased; an object's is
`State.reapplyDefaults`. They write the bytes of groups 12 to 20 again; a log entry's bytes are written when its place is taken.
DESIGN CHOICE: log entry 85. -/
def State.memBoundary (s : State) : State :=
  let bs := s.integ.bad
  let s := { s with integ.bad := [], integ.lostBytes := s.integ.lostBytes.filter (fun q => decide (q.1 < 12) || q.1 == 21) }
  s.each bs (fun s b =>
    if b.m < 16 then s.faultMoorReach (b.m - 12)
    else if b.m = 17 then
      if (s.flow b.owner).state = 0 then s
      else (s.voidCells b.owner (fun h => b.lost.contains h.seq)).resync b.owner
    else if b.m = 19 ∧ 1 ≤ b.owner ∧ b.owner < 128 then s.eraseSlot b.owner
    else s)

/-! ### The rake and page retirement -/

/-- The first slot of the ports and their slot counts at or after a place of the rake's pass (R465): ascending port and slot.
DESIGN CHOICE: log entry 85. -/
def rakeNext : List (Nat × Nat) → Nat × Nat → Option (Nat × Nat)
  | [], _ => none
  | (p, n) :: t, k =>
    if p = k.1 ∧ k.2 < n then some k
    else if k.1 < p ∧ 0 < n then some (p, 0)
    else rakeNext t k

/-- A slot that reads uncorrectable outside the consignment unit's own reads (R294): POISON, the sender cell in it lost, a
receiver cell in it discarded. -/
def State.slotBad (s : State) (k : Nat) : State :=
  let s := s.slotLost k
  match s.durableFlows.find? (fun f => ((s.flow f).held ++ (s.flow f).rxHeld).any (fun h => h.slot == k && !h.lost)) with
  | none => s
  | some f =>
    let s := s.voidCells f (fun h => h.slot == k)
    let x := s.flow f
    let gone := x.rxHeld.filter (fun h => h.slot == k)
    (s.setFlow f { x with rxHeld := x.rxHeld.filter (fun h => h.slot != k) }).freeHeld gone

/-- The next slot of the rake's pass: of the ports that are UP, from the place that the pass has reached (R465). -/
def State.rakeSlot (s : State) : Option (Nat × Nat) :=
  rakeNext (s.upPorts.map (fun p => (p, s.rdN (Obj.slots p)))) s.integ.rakePlace

/-- RAKE_READ (R465–R467): the next slot of the pass is read and scrubbed; RETIRED and POISON slots are skipped. `gen` is the
GENERATION that the read found: a slot written since keeps what was written (R466). The pass ends with the last slot of the ports that
are UP. DESIGN CHOICE: log entry 85. -/
def execRakeRead (noise : List (Nat × Byte)) (gen : Nat) (s : State) : Host.Outcome State Fault Refusal :=
  if !s.opRunning 8 then .next s
  else
    let at_ := s.integ.rakeAt
    let next := s.rakeSlot
    let s := { s with integ.rakeAt := at_ + 1, integ.rakePlace := (next.map (fun (q : Nat × Nat) => (q.1, q.2 + 1))).getD s.integ.rakePlace }
    let s := match next with
      | none => s
      | some (p, n) =>
        let k := slotBase * p + n
        let rd := (s.slot k).read noise
        if (s.bport p).retired.contains (n / 4096) ∨ (s.slot k).st = 3 then s
        else if rd.bad then (s.slotBad k).inc Obj.rakePoisoned
        else if rd.errs = 0 then s
        else (if gen ≠ (s.slot k).gen then s.inc Obj.rakeWritebacksDropped else s.inc Obj.rakeCorrected).slotCorrected p n
    let s := s.opAdvance 8 (min (s.rdN (Obj.opPositionEnd 8)) (at_ + 1))
    if s.rakeSlot.isNone then
      let l := tget (fun _ => (0, 0)) s.integ.laps 32
      let s := { s with integ.laps := tset (fun _ => (0, 0)) s.integ.laps 32 (l.1 + 1, s.core.tick) }
      .next ((s.wrN Obj.rakeLapTicks (s.core.tick - s.rdN (Obj.opStartTick 8))).opDone 8)
    else .next s

/-- A pass starts at the boundary after the one before it ended; POSITION_END is BASIN_SLOTS (R465). -/
def State.rakeBoundary (s : State) : State :=
  if s.opRunning 8 ∨ s.upPorts.isEmpty then s
  else { s.opStart 8 (s.rdN Obj.basinSlots) with integ.rakeAt := 0, integ.rakePlace := (0, 0) }

/-- A held cell's slot, moved from one page to another. -/
def Held.move (h : Held) (src dst : Nat) : Held :=
  if slotPage h.slot = src then { h with slot := slotBase * (dst / pageBase) + 4096 * (dst % pageBase) + h.slot % 4096 } else h

/-- A page's cells move to its successor: the slots, the page map and the held cells (R468). Each write of a slot raises its
GENERATION (R293), the successor's and that which writes the old one RETIRED. -/
def State.movePage (s : State) (k v : Nat) : State :=
  let base (x : Nat) : Nat := slotBase * (x / pageBase) + 4096 * (x % pageBase)
  let mine := s.basin.slots.filter (fun q => slotPage q.1 == k)
  let s := s.each mine (fun s q =>
    let n := base v + q.1 % 4096
    (s.setSlot n { q.2 with gen := genNext (s.slot n).gen }).setSlot q.1 { gen := genNext q.2.gen, st := 2 })
  let s := match s.basin.pages.find? (fun q => q.1 == k) with
    | some (_, pg) => { s with basin.pages := tput v pg (tdel k s.basin.pages) }
    | none => s
  s.each s.flowsOn (fun s f =>
    let x := s.flow f
    s.setFlow f { x with held := x.held.map (fun h => h.move k v), rxHeld := x.rxHeld.map (fun h => h.move k v) })

/-- BASIN_PAGE_RETIRED (R468): the copy and the commit have ended; the page map points to the successor and the old page's slots
read RETIRED. -/
def execBasinPageRetired (p : Fin 8) (page : Nat) (s : State) : Host.Outcome State Fault Refusal :=
  let k := pageBase * p.val + page
  match s.integ.swaps.find? (fun w => w.kind == 5 && w.unit == k && w.valid.isSome) with
  | none => .next s
  | some w =>
    let s := match w.succ with
      | some v => s.movePage k v
      | none => s
    let s := s.setBport p { (s.bport p) with retired := (s.bport p).retired ++ [page] }
    let s := (s.wrN Obj.retiredPages (s.rdN Obj.retiredPages + 1)).raise 0x8106 (0x3520 + p) page
    .next (({ s with integ.swaps := s.integ.swaps.erase w }).batchCheck)

/-! ### Diagnostic reads -/

/-- PEEK_ADDRESS (R469): a slot of an UP port. -/
def State.peekAddressOk (s : State) (v : Nat) : Bool :=
  s.rdN (Obj.basinPortState (v / 2 ^ 32)) == 3 && decide (v / 2 ^ 32 < 8) && decide (v % 2 ^ 32 < s.rdN (Obj.slots (v / 2 ^ 32)))

/-- A slot as it stands (Table 11.9): throughout a retired page RETIRED, by one write where the fill had left it. -/
def State.slotNow (s : State) (k : Nat) : Slot :=
  let x := s.slot k
  if (s.bport (slotPort k)).retired.contains (slotPage k % pageBase) then (if x.gen = 0 then { gen := 1, st := 2 } else { x with st := 2 })
  else x

/-- STATE of a slot (Table 11.9). -/
def State.slotState (s : State) (k : Nat) : Nat := (s.slotNow k).st

/-- What a read of the slot at PEEK_ADDRESS finds (R469). -/
def State.peekRead (s : State) (noise : List (Nat × Byte)) : Nat × Nat × SlotRead :=
  let a := s.rdN Obj.peekAddress
  let k := slotBase * (a / 2 ^ 32) + a % 2 ^ 32
  (k, s.slotState k, (s.slotNow k).read noise)

/-- PEEK's 16 bytes (R469, Table 19.10): header, slot word, status and bytes corrected; zero, its default, while PEEK_ADDRESS names no
slot of an UP port, as from reset on. DEDUCED: log entry 66. -/
def State.peekBytes (s : State) (noise : List (Nat × Byte)) : List Byte :=
  if !s.peekAddressOk (s.rdN Obj.peekAddress) then List.replicate 16 0#8
  else
  let (k, st, r) := s.peekRead noise
  let hdr : List Byte := if st = 1 then (s.slot k).cell.bytes.take 4 else List.replicate 4 0#8
  let status := if st = 0 then 3 else if st = 2 then 4 else if st = 3 then 5 else if r.bad then 2
    else if r.errs = 0 then 0 else 1
  hdr ++ beBytes 4 r.word ++ beBytes 1 status ++ beBytes 1 (if status = 1 then r.errs else 0) ++ List.replicate 6 0#8

/-- What a diagnostic read does: it counts a correction, and an uncorrectable slot is written POISON as any read of one is
(R294). DEDUCED: log entry 66. -/
def State.peekEffect (s : State) (noise : List (Nat × Byte)) : State :=
  let (k, st, r) := s.peekRead noise
  if st ≠ 1 ∨ s.peekAddressOk (s.rdN Obj.peekAddress) = false then s
  else if r.bad then s.slotBad k
  else s.onlyIf (decide (0 < r.errs)) (fun s => s.slotCorrected (slotPort k) (k % slotBase))

end Sys2Proof.Machine
end

