-- ==== Sys2Proof/Machine/Release.lean ====
section
/-! DEFINITION. Filling the basin, first use of a domain, and what mooring, switching off, powering up and releasing one does
(R105–R107, R292; Tables 4.5, 10.1, 11.8, 20.2). -/
namespace Sys2Proof.Machine

/-! ### The basin fill (R107) -/

/-- A port's link has trained (R107): FILLING or UP. -/
def State.portTrained (s : State) (p : Nat) : Bool :=
  s.rdN (Obj.basinPortState p) == 2 || s.rdN (Obj.basinPortState p) == 3

/-- Show BASIN_SLOTS (R107), and POSITION_END of a RUNNING fill. -/
def State.showBasinSlots (s : State) : State :=
  let n := sumTo 8 (fun p => if s.portTrained p then s.rdN (Obj.slots p) else 0)
  let s := s.wrN Obj.basinSlots n
  s.onlyIf (s.opRunning 0) (fun s => s.opResize 0 n)

/-- Take the expanders' capacities in ascending port order up to 2 TiB in all: port p and the ports that still fill; an UP
port keeps its slots. DEDUCED: log entry 44. -/
def State.takeCapacity (s : State) (p : Nat) : State :=
  s.each ((List.range 8).filter (fun q => q == p || s.rdN (Obj.basinPortState q) == 2)) (fun s q =>
    let others := sumTo 8 (fun x =>
      if x != q && s.portTrained x && (decide (x < q) || s.rdN (Obj.basinPortState x) == 3) then s.rdN (Obj.slots x) else 0)
    let n := min (s.bport q).cap (2 ^ 33 - others)
    (s.wrN (Obj.slots q) n).wrN (Obj.basinCapacity q) (256 * n))

/-- BASIN_FILL_DONE (R107): with no port left training or filling, the fill ends DONE over the trained ports, or FAILED where
none trained; FAILED with REFUSED too where ports trained and every one's fill failed. DESIGN CHOICE: log entry 128. -/
def State.fillCheck (s : State) : State :=
  let waiting := (List.range 8).any (fun p =>
    s.rdN (Obj.basinPortState p) == 1 || (s.rdN (Obj.basinPortState p) == 2 && !(s.bport p).filled))
  if waiting then s
  else if s.opRunning 0 then
    if (List.range 8).any s.portTrained then
      { (s.opAdvance 0 (s.rdN (Obj.opPositionEnd 0))).opDone 0 with start.fillDone := true, start.fillTick := s.core.tick,
                                                                    start.fillAborted := false }
    else s.opFail 0 Status.refused
  else if (List.range 8).any s.portTrained ∨ s.start.fillDone ∨ s.rdN (Obj.opState 0) = 3 then s
  else (s.opStart 0 0).opFail 0 Status.refused

/-- A port's link has trained (Table 11.8): its fill starts, or its kept contents stand. DEDUCED: log entry 44. -/
def execBasinPortTrained (p : Fin 8) (rate width capacity : Nat) (s : State) : Host.Outcome State Fault Refusal :=
  if s.rdN (Obj.basinPortState p) = 1 then
    let s := ((s.checkpointRead p).wrN (Obj.linkRate p) (min rate 3)).wrN (Obj.linkWidth p) (min width 8)
    if (s.bport p).contents ∧ ¬ s.start.fillAborted then
      let s := (s.wrN (Obj.basinPortState p) 3).setBport p { (s.bport p) with contents := false, filled := true }
      .next s.showBasinSlots
    else
      let s := (s.slotsFilled p).setBport p { (s.bport p) with contents := false, cap := min (capacity / 2 ^ 30 * 2 ^ 22) (2 ^ 32) }
      let s := (s.wrN (Obj.basinPortState p) 2).takeCapacity p
      .next (if s.opRunning 0 then s.showBasinSlots
        else (s.showBasinSlots).opStart 0 (s.showBasinSlots.rdN Obj.basinSlots))
  else .next s

/-- BASIN_TRAINING_TIMEOUT (R107, Table 11.8): 100 ms without a link. -/
def execBasinTrainingTimeout (p : Fin 8) (s : State) : Host.Outcome State Fault Refusal :=
  if s.rdN (Obj.basinPortState p) = 1 ∧ (s.bport p).trainAt + 10000 ≤ s.core.tick then
    .next (s.basinFail p 2).showBasinSlots.fillCheck
  else .next s

/-- A port leaves a fill without its end (R107; Table 20.4, kind 8). -/
def State.leaveFill (s : State) (p : Nat) : State :=
  ((s.wrN (Obj.basinPortState p) 5).setBport p { (s.bport p) with filled := false }).showBasinSlots.fillCheck

/-- BASIN_PORT_FILL_DONE (R107): the port waits for its release at step 11; a port whose fill fails is left out. `bad`: slots that
failed their read-back, whose pages retire (R467). -/
def execBasinPortFillDone (p : Fin 8) (ok : Bool) (bad : List Nat) (s : State) : Host.Outcome State Fault Refusal :=
  if s.rdN (Obj.basinPortState p) = 2 ∧ ¬ (s.bport p).filled then
    if ok then
      let pages := ((bad.map (· / 4096)).eraseDups).filter (fun n => decide (n < s.portPages p) && !(s.bport p).retired.contains n)
      let s := s.setBport p { (s.bport p) with filled := true, fillBad := pages }
      let done := sumTo 8 (fun q => if (s.bport q).filled then s.rdN (Obj.slots q) else 0)
      .next (s.opAdvance 0 done).fillCheck
    else .next (s.leaveFill p)
  else .next s

/-- DURABLE_ACCEPTED (R106): at the boundary after the fill reached DONE, every durable flow becomes durable. -/
def execDurableAccepted (s : State) : Host.Outcome State Fault Refusal :=
  if s.start.fillDone ∧ ¬ s.basin.accepted ∧ s.start.fillTick < s.core.tick then
    let s : State := { s with basin.accepted := true, start.downgraded := [] }
    let fl := s.durableFlows
    let s := s.each fl State.durableStart
    .next ((s.wrN Obj.durableAccepted 1).raise 0x4024 0x1120 fl.length)
  else .next s

/-- DURABLE_DOWNGRADED (R106): from step 6 until the fill is done, durable flows not yet reported are handled as
DURABLE_BEFORE_FILL selects. At each boundary, once step 8 has applied flow changes. DEDUCED: log entry 98. -/
def State.downgradeStep (s : State) : State :=
  if s.basin.accepted ∨ s.start.fillDone ∨ ¬ s.agent.serving then s
  else
    let fl := s.durableFlows
    let new := fl.filter (fun f => !s.start.downgraded.contains f)
    let s : State := { s with start.downgraded := fl }
    s.onlyIf (!new.isEmpty) (fun s => s.raise 0x8023 0x1120 new.length)

/-! ### Mooring -/

/-- An urgent request, or a fault, ends a calibration round ABORTED (R145, R488). -/
def State.calPowerAbort (s : State) (r : Nat) : State :=
  if (s.cal r).kind = 0 then s
  else
    let s := s.calReturn r
    (s.setCal r { (s.cal r) with kind := 0, shadow := [], displaced := [], pos := 0, aborting := 0, suspended := false,
                                 accepted := [], verdict := none }).opAbort (calOp r) Status.abortedPower

/-- A reach is moored (R123, R133, R161, R203, Table 9.6): AGC held, transmit off, receive maps dropped, HUNT. -/
def State.reachMoor (s : State) (r : Nat) : State :=
  let s := (s.agcHold r).calPowerAbort r
  let s := s.pinsOff r
  let s := if s.txState r = 4 then s else s.wrN (Obj.txState r) 0
  let s := s.watchSuppress r
  let s := s.each (List.range 8) (fun s g => (((s.withdrawAnn r g).groupDrop r g)).frameHunt r g)
  let s := s.delayClear r 0
  { s with conv.faultMoor := s.conv.faultMoor.filter (· != r), conv.turnUp := s.conv.turnUp.filter (· != r),
           power.wakeSend := tset (fun _ => 0) s.power.wakeSend r 0 }

/-- A cluster is moored: the tasks running in it end, with nothing sent. -/
def State.clusterMoor (s : State) (c : Nat) : State :=
  s.each (List.range 16) (fun s e => (s.setEng c e { (s.eng c e) with out := [] }).taskOver c e)

/-- A released domain is moored at step 2 (Table 20.2). -/
def State.moorDomain (s : State) (d : Nat) : State :=
  if s.dom d = 3 then
    let s := s.setDom d 2
    if d < 4 then s.reachMoor d
    else if d < 12 then s.berthMoor (d - 4)
    else if 25 ≤ d then s.clusterMoor (d - 25)
    else s
  else s

/-- A 2-wire transfer under way ends with status 4 (R503). -/
def State.twiEnd (s : State) (r status : Nat) (data : List Byte) : State :=
  match s.board.twi.find? (fun q => q.1 == r) with
  | none => s
  | some q =>
    let bs := data.take q.2.reads
    let v := BitVec.ofNat 8 status :: BitVec.ofNat 8 bs.length :: List.replicate 2 0#8 ++ bs
    let v := v ++ List.replicate (20 - v.length) 0#8
    { s with board.twi := s.board.twi.filter (fun q => q.1 != r) }.wrN (Obj.twiResult r) (beNat v)

/-- Isolation is asserted on a domain that goes on to OFF (R490, Table 20.5): a reach's link reads DOWN, its pins are high-impedance
and its 2-wire transfer ends (R503). What the other domains send is clamped by their being below RELEASED. A domain committed to
MOORED is MOORED at once, so that no clamp stays on it. DEDUCED: log entry 119. -/
def State.isolate (s : State) (d : Nat) : State :=
  s.onlyIf (decide (d < 4)) (fun s =>
    let s := s.twiEnd d 4 []
    { s with board.live := s.board.live.filter (fun x => x != d) }.wrN (Obj.linkState d) 0)

/-- A domain passes its commit point on the way to OFF: isolation is asserted and its switch opens a tick later (Table 20.2).
DEDUCED: log entry 119. -/
def State.commitOff (s : State) (d : Nat) : State :=
  let s := s.isolate d
  { s with power.opening := s.power.opening ++ [(d, s.core.tick)] }

/-! ### Off -/

/-- What a domain loses when its switch opens. `request`: by a request whose target is OFF, and not by DORMANT. -/
def State.offDomain (s : State) (d : Nat) (request : Bool) : State :=
  let s := { s.setDom d 0 with power.opening := s.power.opening.filter (fun q => q.1 != d) }
  if d < 4 then
    (s.isolate d).setCal d
      { (s.cal d) with kind := 0, startDone := false, startDue := true, startFails := 0,
                       byCommand := false, verdict := none, accepted := [] }
  else if d < 12 then
    (s.berthMoor (d - 4)).each ((List.range 8).map (8 * (d - 4) + ·)) State.portFresh
  else if 16 ≤ d ∧ d < 24 then
    if request then (s.basinOff (d - 16) true).showBasinSlots
    else if s.rdN (Obj.basinPortState (d - 16)) = 4 then s else s.basinOff (d - 16) false
  else if d = domCipher then s.cipherCapacity
  else if 25 ≤ d then s.clusterClear (d - 25)
  else s

/-! ### Powering up -/

/-- A reach powers up (R63, R146, R161, R187; Table 20.2): its transmit, equalisers, groups and watch start afresh, a start
round is due and its link trains (R22). What counts since RESET_N release stands: the AGC's frozen codes, seed and learned
estimate (Table 5.3, R526), the written coefficient words (R149) and REACH_CAL_BLOCKED (R148). -/
def State.reachFirstUse (s : State) (r : Nat) : State :=
  let c := s.cal r
  let s := s.wrN (Obj.agcState r) 0
  let s := s.each (List.range 64) (fun s sc => (s.setRamp r sc {}).setEqSc r sc 0 0)
  let s := (s.wrN (Obj.txState r) (if s.rdN (Obj.txOffSource r) = 0 then 0 else 4)).showRamps r
  let s := s.setCal r { written := c.written, measured := c.measured, fails := c.fails, blocked := c.blocked }
  let s := s.coeffReapply r
  let s := s.each (List.range 8) (fun s g =>
    let s := s.setLoad r g {}
    ((s.showTx r g).showRx r g).showAnn r g)
  let s := ((s.setWatch r {}).wrN (Obj.watchPeak r) 0).showBaselines r
  ((s.cdPowerUp r).showTrack r).wrN (Obj.linkState r) 1

/-- A domain's rails and clocks stand: its state memories are filled, its retained values reapplied, and it is MOORED
(Table 20.2, R63, R411). On the way out of DORMANT a basin link trains after step 6 (Table 4.1). -/
def State.poweredUp (s : State) (d : Nat) : State :=
  let s := { s.setDom d 2 with power.powering := s.power.powering.filter (fun q => q.1 != d) }.bringInLate d
  if d < 4 then s.reachFirstUse d
  else if d < 12 then
    s.each ((List.range 8).map (8 * (d - 4) + ·)) (fun s b => (s.portFresh b).squelch b)
  else if 16 ≤ d ∧ d < 24 then s.onlyIf (decide (8 ≤ s.start.step)) (fun s => s.basinTrain (d - 16))
  else if d = domCipher then s.cipherCapacity
  else if 25 ≤ d then
    let s := s.clusterClear (d - 25)
    if 8 ≤ s.start.step ∧ ¬ s.crew (d - 25) then s.keeperCluster (d - 25) else s
  else s

/-! ### Release (R105) -/

/-- The parts of Table 4.5's prerequisites that are a reach's own, as HELD_BY shows them (Table 1.9). A fault of R122 that has
no spare holds the reach as its start round does. DEDUCED: log entry 42. -/
def State.heldBy (s : State) (r : Nat) : Nat :=
  let off := s.offDom (domReach r)
  (if off || s.rdN (Obj.linkState r) != 2 then 1 else 0) +
  (if off || !(s.cal r).startDone || s.integ.lostSlices.any (fun u => u / 1056 == r) then 2 else 0) +
  (if s.rdB (Obj.reachEnable r) then 0 else 4) +
  (if s.released (domCluster (2 * r)) && s.released (domCluster (2 * r + 1)) then 0 else 8) +
  (if s.target (domReach r) = 0 then 0 else 16) +
  (if (s.cal r).blocked then 32 else 0) +
  (if s.domainFailed (domReach r) then 64 else 0)

/-- The prerequisites of Table 4.5 hold. Swaps in the domain are brought in first (Table 19.2, R457). -/
def State.mayRelease (s : State) (d : Nat) : Bool :=
  decide (8 ≤ s.start.step) && s.agent.serving && !s.start.sramFailed.contains d && !s.domainFailed d &&
  !s.integ.swaps.any (fun w => unitDomain w.unit == d && decide (w.kind < 4)) &&
  (if d < 4 then s.heldBy d == 0
   else if d < 12 then s.berthTrained (d - 4)
   else if 16 ≤ d ∧ d < 24 then
     s.basin.checkpoint.isNone &&
       ((s.rdN (Obj.basinPortState (d - 16)) == 2 && (s.bport (d - 16)).filled) || s.rdN (Obj.basinPortState (d - 16)) == 3)
   else true)

/-- The power controller releases domains: not on the way into DORMANT, and not in an orderly shutdown.
DEDUCED: log entry 38. -/
def State.releases (s : State) : Bool :=
  !s.power.dormant && s.power.cur.all (fun q => q.target != 3) && s.rdN Obj.shutdownState == 0

/-- A domain is due to be released, or is released at once at step 11 (R59, R105). DEDUCED: log entry 38. -/
def State.releaseDue (s : State) (d : Nat) : Bool :=
  s.releases && s.dom d == 2 && s.target d == 0 && s.mayRelease d && !s.power.opening.any (fun q => q.1 == d)

/-- DOMAIN_RELEASE (R105): the domain serves from this boundary on, its unit started as its own chapter decides. -/
def State.releaseDomain (s : State) (d : Nat) : State :=
  let s := s.setDom d 3
  let s := s.raise 0x4022 0x1120 (if d < 25 then d else 32 + (d - 25))
  if d < 4 then
    let s : State := { s with board.live := d :: s.board.live.filter (· != d) }
    let s := (s.agcRelease d).watchSuppress d
    let s := s.each (s.enabledGroups d) (fun s g => (s.groupStart d g).rttClear (8 * d + g))
    s.turnUp d
  else if d < 12 then s.berthRelease (d - 4)
  else if 16 ≤ d ∧ d < 24 then s.basinRelease (d - 16)
  else s

/-- Step 11 of a boundary: every domain fixed at the close is released, whatever its target or prerequisites have become since
(R59, R105). DEDUCED: log entry 38. -/
def State.releaseStep (s : State) : State :=
  let s := s.each (s.core.due.filter (fun d => s.dom d == 2)) State.releaseDomain
  { s with core.due := [] }

/-- STAGING_WINDOW_CLOSE fixes the domains due to be released (R59). -/
def State.fixDue (s : State) : State := { s with core.due := (List.range 37).filter s.releaseDue }

/-- SerDes of moored groups that are to be released adapt (Table 4.5); those of any other moored group are off (Table 10.1). -/
def State.trainMoored (s : State) : State :=
  s.each (upto 8 (fun k => s.dom (domBerth k) == 2)) (fun s k =>
    if s.releases && decide (8 ≤ s.start.step) && s.target (domBerth k) == 0 then s.berthTrain k
    else s.onlyIf (((List.range 8).map (8 * k + ·)).any (fun b => s.rdN (Obj.berthLaneState b) != 0)) (fun s => s.berthMoor k))

end Sys2Proof.Machine
end

