-- ==== Sys2Proof/Machine/Power.lean ====
section
/-! DEFINITION. Power requests, their refusers, DORMANT and wake (R481–R496). -/
namespace Sys2Proof.Machine

/-! ### Sessions and DMA channels, which a request also ends -/

def State.session (s : State) (n : Nat) : Session := tget (fun _ => {}) s.agent.sessions n

def State.setSession (s : State) (n : Nat) (x : Session) : State :=
  { s with agent.sessions := tset (fun _ => {}) s.agent.sessions n x }

/-- A session closes (R83, Table 3.7b): 0 CLOSE, 1 idle, 2 sequence end, 3 credential erased, 4 DORMANT entry. -/
def State.sessionClose (s : State) (n cause : Nat) : State :=
  if n = 0 ∨ (s.session n).isOpen then (s.setSession n {}).raise 0x4002 0x1410 (cause * 2 ^ 24 + n) else s

/-- BAR0 offset of a DMA channel's registers (Table 3.15a). -/
def dmaOff (n : Nat) : Nat := 0x100 + 0x20 * n

/-- The descriptor a channel has in flight (R91). -/
def State.dmaFlight (s : State) (n : Nat) : Option DmaDescriptor :=
  (s.agent.dma.find? (fun q => q.1 == n)).map (·.2)

/-- A descriptor as a channel reads its 32 bytes, little-endian, at a host address (Table 3.15). -/
def readDescriptor (ring : Nat) (bs : List Byte) : DmaDescriptor :=
  let f (o n : Nat) : Nat := leNat ((bs.drop o).take n)
  { ring := ring, hostAddr := f 0 8, bar2Offset := f 8 4, length := f 12 4, toBar2 := bitOf (f 16 4) 0, irq := bitOf (f 16 4) 1 }

/-- The host address of the descriptor at RING_HEAD: RING_BASE + 32 × RING_HEAD (R91). -/
def State.dmaAddress (s : State) (n : Nat) : Nat :=
  s.bar (dmaOff n + 0x04) * 2 ^ 32 + s.bar (dmaOff n) + 32 * s.bar (dmaOff n + 0x0C)

/-- A channel works its ring (R91): enabled, not halted and with a descriptor ready, it reads the one at RING_HEAD; `bs` is what
the host's memory holds there. -/
def State.dmaFetch (s : State) (n : Nat) (bs : List Byte) : State :=
  if bitOf (s.bar (dmaOff n + 0x14)) 0 ∧ s.bar (dmaOff n + 0x0C) ≠ s.bar (dmaOff n + 0x10) ∧ ¬ s.agent.dmaHalted.contains n ∧
      (s.dmaFlight n).isNone then
    { s with agent.dma := s.agent.dma ++ [(n, readDescriptor (s.dmaAddress n) bs)] }
  else s

/-- A channel ends its descriptor with a status (R91): 0x00 OK, 0x12 ABORTED_POWER, 0x0C REFUSED, which halts it. The status goes
to the descriptor in host memory and to CHANNEL_STATUS. -/
def State.dmaFinish (s : State) (n status : Nat) : State :=
  match s.dmaFlight n with
  | none => s
  | some d =>
    let s : State := { s with agent.dma := s.agent.dma.filter (fun q => q.1 != n),
                              agent.hostMem := s.agent.hostMem ++ [⟨d.ring + 20, leBytes 4 status⟩] }
    let s := s.setBar (dmaOff n + 0x18) (256 * status)
    let s := s.setBar (dmaOff n + 0x0C) ((s.bar (dmaOff n + 0x0C) + 1) % max 1 (s.bar (dmaOff n + 0x08)))
    let s := s.setBar (dmaOff n + 0x1C) (s.bar (dmaOff n + 0x1C) + 1)
    let s : State := if status = Status.refused then { s with agent.dmaHalted := s.agent.dmaHalted ++ [n] } else s
    s.onlyIf d.irq (fun s => s.signal (2 + n))

/-! ### Device states (R482) -/

/-- Bring POWER_STATE to the device state (R482): a change raises POWER_STATE_CHANGED. DEDUCED: log entry 41. -/
def State.showPowerState (s : State) : State :=
  let st :=
    if s.power.leaving then 3
    else if s.power.dormant || s.power.cur.any (fun q => q.target == 3) then 2
    else if (List.range 37).all s.released then 0 else 1
  if s.rdN Obj.powerState = st then s else (s.wrN Obj.powerState st).raise 0x4110 0x1200 st

/-- DEVICE_STATE (Table 3.13, Table 4.1): 0 BOOT to step 5, 1 RELEASING to the end of step 8, then 2 RUN or 3 TRIM; 4 on the way
out of DORMANT. -/
def State.showDevice (s : State) : State :=
  let v := if s.power.leaving then 4
    else if s.start.step < 6 then 0
    else if s.start.step < 9 then 1
    else if (List.range 37).all s.released then 2 else 3
  (s.wrN Obj.deviceState v).setBar 0x18 v

/-! ### Requests -/

/-- The domain state that a request's target asks for (R483, R491). -/
def PowReq.goal (q : PowReq) : Nat := if q.target = 0 then 3 else if q.target = 1 then 2 else 0

/-- The domains a request moves: all of them for DORMANT (R491). -/
def PowReq.moves (q : PowReq) : List Nat := if q.target = 3 then List.range 37 else q.domains

/-- The domains of a request that are still above its target and before their commit point. -/
def State.downPending (s : State) (q : PowReq) : List Nat :=
  q.moves.filter (fun d => decide (q.goal < s.dom d) && !s.power.opening.any (fun o => o.1 == d) && !s.power.dormantCommitted)

/-- The rejection of a normal request that R484 gives: BUSY while an urgent one is in progress and not committed, or waits.
DEDUCED: log entry 39. -/
def State.powerBusy (s : State) (urgent : Bool) : Bool :=
  !urgent && ((s.power.cur.any (fun q => q.urgent) && !s.power.committed) || s.power.pend.any (fun q => q.urgent) ||
    s.power.waiting.any (fun q => q.urgent))

/-- A domain's state as Table 20.3 judges it for a request: a named domain at the request's target, another as it stands,
POWERING counting as powered and one fixed to be released at this boundary as RELEASED (R59); and a cluster that is on its way to
RELEASED, for a reach to be released. DEDUCED: log entry 38. -/
def State.depLevel (s : State) (q : PowReq) (d : Nat) : Nat :=
  if q.domains.contains d then q.goal else if s.core.due.contains d then 3 else if s.dom d = 1 then 2 else s.dom d

/-- R486: the lowest-numbered named domain of a dependency that the request would break, if any, a reach's clusters before the
reach. -/
def State.brokenDependency (s : State) (q : PowReq) : Option Nat :=
  if q.target = 3 then none
  else
    let pairsOf : List (Nat × Nat) := (List.range 4).flatMap (fun r => [(r, domCluster (2 * r)), (r, domCluster (2 * r + 1))])
    let bad (p : Nat × Nat) : Bool :=
      let lr := s.depLevel q p.1
      let lc := s.depLevel q p.2
      let lc := if !q.domains.contains p.2 && lc == 2 && s.target p.2 == 0 then 3 else lc
      (q.domains.contains p.1 || q.domains.contains p.2) && ((decide (2 ≤ lr) && decide (lc < 2)) || (lr == 3 && lc != 3))
    (pairsOf.find? bad).map (fun p => if q.domains.contains p.2 then p.2 else p.1)

/-! ### Refusers (Table 20.4) -/

/-- The place of a reach's captures in the capture buffer, of 1 MiB (Table 3.14; the spec gives no layout).
DESIGN CHOICE: log entry 90. -/
def captureBase (r : Nat) : Nat := 0x400000 + 0x100000 * r

/-- The domains that feed a BAR2 region which a transfer out of it copies (Table 20.4). -/
def State.dmaDomains (s : State) (d : DmaDescriptor) : List Nat :=
  let hits (lo hi : Nat) : Bool := decide (d.bar2Offset < hi) && decide (lo < d.bar2Offset + d.length)
  (upto 4 (fun r => hits (captureBase r) (captureBase (r + 1)))).map domReach ++
  (if hits 0x80000 0x100000 then (List.range 8).map domBerth else []) ++
  (List.range 4).flatMap (fun p =>
    if hits (0x40000 * (4 + p)) (0x40000 * (5 + p)) then
      (clusterRun (s.rdN (Obj.firstCluster p)) (s.rdN (Obj.clusterCount p))).map domCluster
    else [])

/-- The refusers of a request, by kind and identity, for the domains it has still to move down (Table 20.4).
DEDUCED: log entry 39. -/
def State.refusers (s : State) (q : PowReq) : List (Nat × Nat) :=
  let ds := s.downPending q
  let dorm : Bool := q.target == 3
  let mateQueue : Bool := !s.rest.notices.isEmpty || !s.towpath.relay.isEmpty || s.towpath.lanes.any (fun q => decide (0 < q.2.queued)) ||
    (List.range 4).any (fun u => !(s.unit u).mirrors.isEmpty)
  let fills := upto 8 (fun p => s.opRunning 0 && s.rdN (Obj.basinPortState p) == 2 &&
    (dorm || ((q.target == 1 || q.target == 2) && q.domains.contains (domPort p))))
  ((s.agent.dma.filter (fun c => dorm || (s.dmaDomains c.2).any ds.contains)).map (fun c => (2, c.1))) ++
  (if dorm then (if 0 < s.rdN Obj.writeQueue then [(3, domPort 0)] else [])
   else (upto 8 (fun p => ds.contains (domPort p) && !(s.pagesInUse p).isEmpty)).map (fun p => (3, domPort p))) ++
  ((upto 4 (fun r => ds.contains (domReach r) && (s.cal r).kind != 0)).map (fun r => (4, r))) ++
  (match s.integ.assay with
   | some a => if a.kind = 2 ∧ ds.contains (unitDomain a.unit) then [(5, a.unit)] else []
   | none => []) ++
  (if dorm && s.rdB Obj.mated && mateQueue then [(6, 0)] else []) ++
  (fills.map (fun p => (8, domPort p))) ++
  (if dorm && s.opRunning 6 then [(9, 0)] else []) ++
  (if dorm && s.opRunning 10 then [(10, 0)] else [])

/-- The refuser of lowest kind and then lowest identity (R488). DEDUCED: log entry 39. -/
def firstRefuser (l : List (Nat × Nat)) : Option (Nat × Nat) :=
  l.foldl (fun b x => match b with
    | none => some x
    | some y => if x.1 < y.1 ∨ (x.1 = y.1 ∧ x.2 < y.2) then some x else b) none

/-- A request that waits for a transfer (R488): DMA, the consignment drain and the mate's messages. -/
def waitedFor (x : Nat × Nat) : Bool := x.1 == 2 || x.1 == 3 || x.1 == 6

/-- The transfers that hold a request before its commit points (R488): an urgent one has aborted them and proceeds. -/
def State.outstanding (s : State) (q : PowReq) : List (Nat × Nat) :=
  if q.urgent then [] else (s.refusers q).filter waitedFor

/-- Whether a refuser concerns one domain of the request (Table 20.4). -/
def State.concerns (s : State) (d : Nat) (x : Nat × Nat) : Bool :=
  if x.1 = 2 then (s.dmaFlight x.2).any (fun t => (s.dmaDomains t).contains d) else x.2 == d

/-- An urgent request aborts a refuser (R488, R489, Table 20.4). A DMA descriptor that it ends has copied nothing.
DEDUCED: log entry 48. DESIGN CHOICE: log entry 126. -/
def State.abortRefuser (s : State) (next : List (Nat × List Byte)) (x : Nat × Nat) : State :=
  let s := (s.inc Obj.abortedTransfers).raise 0x8113 0x1200 (x.1 * 2 ^ 24 + x.2 % 2 ^ 24)
  if x.1 = 2 then (s.dmaFinish x.2 Status.abortedPower).dmaFetch x.2 (((next.find? (fun q => q.1 == x.2)).map (·.2)).getD [])
  else if x.1 = 3 then (if x.2 = domPort 0 ∧ s.power.cur.any (fun q => q.target == 3) then State.showQueue { s with basin.queueTx := 0, basin.queueRx := 0 } else s)
  else if x.1 = 4 then s.calPowerAbort x.2
  else if x.1 = 5 then s.assayAbort
  else if x.1 = 6 then
    let s : State := { s with rest.notices := [], towpath.relay := [],
                              towpath.lanes := s.towpath.lanes.map (fun q => (q.1, { q.2 with queued := 0 })) }
    s.each (List.range 4) (fun s u => s.setUnit u { (s.unit u) with mirrors := [] })
  else if x.1 = 8 then
    if s.power.cur.any (fun q => q.target == 3) then
      if s.opRunning 0 then { s.opAbort 0 Status.abortedPower with start.fillAborted := true } else s
    else s.leaveFill (x.2 - domPort 0)
  else if x.1 = 10 then (s.opAbort 10 Status.abortedPower).batchEnd
  else s

/-! ### A request's phases (R485) -/

/-- PHASE (Table 20.8): the least advanced of the named domains, 0 with none in progress. -/
def State.showPhase (s : State) : State :=
  match s.power.cur with
  | none => s.wrN Obj.powerPhase 0
  | some q =>
    let refs := s.refusers q
    let one (d : Nat) : Nat :=
      let st := s.dom d
      if s.power.opening.any (fun o => o.1 == d) || s.power.dormantCommitted then 3
      else if q.goal < st then
        if (q.target == 3 && !refs.isEmpty) || refs.any (s.concerns d) then 1 else 2
      else if st < q.goal then (if st < 2 then 4 else 5)
      else 6
    let m : Nat := (q.moves.map one).foldl min 6
    s.wrN Obj.powerPhase (if m = 6 then 0 else m)

/-- Show IN_PROGRESS, PENDING, PHASE and POWER_STATE. -/
def State.showRequests (s : State) : State := s.showPower.showPhase.showPowerState

/-- The request in progress is refused (R488, R489): its partial steps are rolled back. -/
def State.refuseCurrent (s : State) (x : Nat × Nat) : State :=
  let s : State := { s with power.cur := none, power.draining := [], power.committed := false }
  s.powerRefused x.1 x.2

/-- A request ends when every domain it names has ended (R485): one fixed to be released at this boundary has not (R59). DORMANT ends
with the hub core off (R491). DEDUCED: log entry 37. -/
def State.requestEnd (s : State) : State :=
  match s.power.cur with
  | some q =>
    if q.target ≠ 3 ∧ q.domains.all (fun d => s.dom d == q.goal && !s.core.due.contains d &&
        !s.power.opening.any (fun o => o.1 == d)) then
      let s : State := { s with power.cur := none, power.draining := [], power.committed := false }
      ((s.inc Obj.requestsDone).raise 0x4112 0x1200 q.target).showPower
    else s
  | none => s

/-- What a request in progress does about its refusers before its commit points (R488): an urgent one aborts each, but for a
firmware load; a normal one is refused by one that is not waited for. -/
def State.drainCheck (s : State) (next : List (Nat × List Byte)) : State :=
  match s.power.cur with
  | none => s
  | some q =>
    let refs := s.refusers q
    let stops := refs.filter (fun x => if q.urgent then x.1 == 9 else !waitedFor x)
    match firstRefuser stops with
    | some x => s.refuseCurrent x
    | none => if q.urgent then s.each refs (fun s x => s.abortRefuser next x) else s

/-- REQUEST_IN_PROGRESS (R485): at a boundary with none in progress, the waiting request, or else the pending one, becomes so.
A dependency it would break refuses it (R486). Domains to be powered up have their commit point here.
DEDUCED: log entry 37. -/
def State.requestStart (s : State) : State :=
  if s.power.cur.isSome ∨ s.power.dormant ∨ s.power.leaving then s
  else
    match (match s.power.waiting with | some q => some q | none => s.power.pend) with
    | none => s
    | some q =>
      let s : State := if s.power.waiting.isSome then { s with power.waiting := none } else { s with power.pend := none }
      match s.brokenDependency q with
      | some d => s.powerRefused 1 d
      | none =>
        let ups := q.moves.filter (fun d => decide (s.dom d < q.goal))
        let s : State := { s with
          power.cur := some q, power.since := s.core.tick, power.committed := !ups.isEmpty,
          power.draining := q.moves.filter (fun d => decide (q.goal < if s.core.due.contains d then 3 else s.dom d)),
          power.recorded := if q.target = 3 then (List.range 37).map (fun d => (d, s.target d)) else s.power.recorded }
        let again := upto 8 (fun p => q.target == 0 && q.domains.contains (domPort p) && s.dom (domPort p) == 2 &&
          s.rdN (Obj.basinPortState p) == 5)
        s.each again State.basinTrain

/-- Before step 1: requests become in progress, and refusers are served. -/
def State.requestBoundary (s : State) (next : List (Nat × List Byte)) : State := s.requestStart.drainCheck next

/-- DORMANT's commit point (R490, R491, Table 11.8): every domain is moored and isolated, the checkpoint is written, UP ports enter
self-refresh and the sessions close (R83). -/
def State.dormantCommit (s : State) : State :=
  let s := s.each (List.range 37) State.moorDomain
  let s := (s.each (List.range 4) State.isolate).checkpointWrite
  let s := s.onlyIf (s.opRunning 0) (fun s => { s.opAbort 0 Status.abortedPower with start.fillAborted := true })
  let s := s.each (List.range 8) (fun s p =>
    if s.rdN (Obj.basinPortState p) = 3 then
      (s.wrN (Obj.basinPortState p) 4).setBport p { (s.bport p) with contents := true }
    else s)
  let s := s.each (List.range 16) (fun s n => s.sessionClose (n + 1) 4)
  { s with power.dormantCommitted := true, power.committed := true, power.since := s.core.tick }

/-- COMMIT_POINT at step 2 (R485, R486, R491): each domain whose draining and ramping have ended; reaches before the clusters
that serve them. Fault moorings whose ramp has ended follow the same way (R133). A domain fixed to be released at this boundary is
released first (R59). DEDUCED: log entry 38. -/
def State.commitStep (s : State) : State :=
  let ramped (s : State) (d : Nat) : Bool := decide (4 ≤ d) || s.dom d != 3 || s.txState d == 0 || s.txState d == 4
  let s := s.each (s.conv.faultMoor) (fun s r => if s.dom r = 3 ∧ ramped s r then s.moorDomain r else s)
  let s : State := { s with conv.faultMoor := s.conv.faultMoor.filter (fun r => s.dom r == 3) }
  match s.power.cur with
  | none => s
  | some q =>
    if s.power.dormantCommitted then s
    else if q.target = 3 then
      if (s.outstanding q).isEmpty ∧ s.core.due.isEmpty ∧ (List.range 4).all (ramped s) then s.dormantCommit else s
    else
      let s := s.each ((s.downPending q).filter (fun d => !s.core.due.contains d)) (fun s d =>
        let blocked := (s.outstanding q).any (s.concerns d)
        let r := (d - 25) / 2
        let reachFirst : Bool := decide (25 ≤ d ∧ d < 33) && (s.downPending q).contains r
        if blocked || !ramped s d || reachFirst then s
        else
          let s := s.moorDomain d
          let s := if q.goal = 0 then s.commitOff d else s
          { s with power.committed := true, power.draining := s.power.draining.filter (· != d) })
      s.requestEnd

/-- Just after step 12 (Table 20.2): the switches of domains to be powered up close. -/
def State.switchClose (s : State) : State :=
  match s.power.cur with
  | none => s
  | some q =>
    let ups := q.moves.filter (fun d => decide (s.dom d < q.goal) && s.dom d == 0)
    s.each ups (fun s d => { s.setDom d 1 with power.powering := s.power.powering ++ [(d, s.core.tick)] })

/-- POWER_SWITCH_OPEN (R485): a tick after a commit to OFF. -/
def execPowerSwitchOpen (d : Fin 37) (s : State) : Host.Outcome State Fault Refusal :=
  if s.power.opening.any (fun o => o.1 == d.val && decide (o.2 + 1 ≤ s.core.tick)) then
    .next (s.offDomain d true).requestEnd.showRequests
  else .next s

/-- DOMAIN_POWERED (R485): 100 ticks after the switch closed. -/
def execDomainPowered (d : Fin 37) (s : State) : Host.Outcome State Fault Refusal :=
  if s.power.powering.any (fun o => o.1 == d.val && decide (o.2 + 100 ≤ s.core.tick)) then
    .next (s.poweredUp d).requestEnd.showRequests
  else .next s

/-- DRAIN_LIMIT_EXPIRY (R488): a transfer is still outstanding at the limit, and the whole request is refused. -/
def execDrainLimitExpiry (s : State) : Host.Outcome State Fault Refusal :=
  match s.power.cur with
  | none => .next s
  | some q =>
    if ¬ q.urgent ∧ s.power.since + s.rdN Obj.drainLimit ≤ s.core.tick then
      match firstRefuser ((s.refusers q).filter waitedFor) with
      | some x => .next (s.refuseCurrent x).showRequests
      | none => .next s
    else .next s

/-! ### DORMANT and wake -/

/-- The targets in force are the recorded ones again, and every domain not to be OFF closes its switch (R492, Table 4.1).
DEDUCED: log entry 46. -/
def State.leaveDormant (s : State) (source : Nat) : State :=
  let s := s.each s.power.recorded (fun s q => s.wrN (Obj.domainTarget q.1) q.2)
  let ups := (List.range 37).filter (fun d => s.target d != 2)
  let s := s.each ups (fun s d => { s.setDom d 1 with power.powering := s.power.powering ++ [(d, s.core.tick)] })
  let s : State := { s with power.dormant := false, power.leaving := true, power.wakeWaiting := none, start.step := 3,
                            sup.wakeSince := [], sup.restart := true }
  (s.wrN Obj.wakeCause source).showRequests.showDevice

/-- The hub core loses power (R11, R83, R335, Table 15.2): the key store, the towpath's lanes and messages, the session state,
and the cells, frames and flow states that the hub holds outside the basin; the staging window's accepted writes stand until the first
boundary after the wake. A write that still waits for its window is lost, and where it came by the mailbox its slot stays BUSY, since
BAR0 stands. DEDUCED: log entry 46. DESIGN CHOICE: log entries 100 and 125. -/
def State.hubOff (s : State) : State :=
  let s := s.storeLost.lanesOff
  let s := (s.setSession 0 {}).wrN Obj.cipherPausedGroups 0
  { s with agent.serving := false, agent.heldSlots := [], agent.dma := [], agent.outbox := [], pool.job := [],
           frame.openFrames := [], frame.tx := [], rest.notices := [], key.paused := [], core.held := [],
           conv.captures := [], basin.flows := [], basin.pages := [] }

/-- DORMANT_ENTRY (R491): a tick after the commit point, the switches of every domain and of the hub core open, and the request
ends. A wake that fired since leaves DORMANT at once (R494). DEDUCED: log entry 46. -/
def execDormantEntry (s : State) : Host.Outcome State Fault Refusal :=
  if s.power.dormantCommitted ∧ s.power.since + 1 ≤ s.core.tick then
    let s := s.each (List.range 37) (fun s d => s.offDomain d false)
    let s := s.hubOff
    let s : State := { s with power.dormant := true, power.dormantCommitted := false, power.cur := none,
                              power.committed := false, power.draining := [], start.wdArmed := false }
    let s := (((s.inc Obj.dormantEntries).inc Obj.requestsDone).raise 0x4112 0x1200 3).showRequests
    -- LOW_POWER comes into force, and the sequencer walks the wake list from its start (R433)
    let s := ({ s with sup.restart := true } : State).superMode
    match s.power.wakeWaiting with
    | some w => .next (s.leaveDormant w)
    | none => .next s
  else .next s

/-- A wake source fires (R492, R494): it ends DORMANT, waits for it, or supersedes the DORMANT request.
DEDUCED: log entry 40. -/
def State.wakeOp (s : State) (source : Nat) : State :=
  if !bitOf (s.rdN Obj.wakeEnable) source then s
  else if s.power.dormant then s.leaveDormant source
  else if s.power.dormantCommitted then
    let s := s.onlyIf s.power.pend.isSome State.countSuperseded
    ({ s with power.pend := none, power.wakeWaiting := some source }).showRequests
  else if s.power.cur.any (fun q => q.target == 3) then
    let s := s.countSuperseded
    ({ s with power.cur := none, power.draining := [], power.committed := false }).showRequests
  else s

/-- The detection of Table 20.6: a berth lane counts where its group has a GROUP_LAYOUT port; WAKE sets count from 8 in a row at
1.25 Gb/s; a reach's peak detector must have stood above WAKE_LEVEL for 1,000 consecutive ticks. DEDUCED: log entry 86. -/
def State.wakeDetected (s : State) : WakeSource → Bool
  | .management => true
  | .berth lane => (List.range 8).any (fun i => s.isPort (lane.val / 8 * 8 + i))
  | .towpath => true
  | .wakeSets rate sets => rate == 0 && decide (8 ≤ sets)
  | .reach r =>
    let t := tget (fun _ => 0) s.sup.wakeSince r
    t != 0 && decide (t - 1 + 1000 ≤ s.core.tick)

/-- WAKE (R492): a source fires once it has detected (Table 20.6). DEDUCED: log entry 40. -/
def execWake (source : WakeSource) (s : State) : Host.Outcome State Fault Refusal :=
  if s.wakeDetected source then .next (s.wakeOp source.bit) else .next s

/-- The 16 bits of a wake-pattern word (R493). -/
def wakeBits : Nat := 0xA5C3

/-- The bits that a receiver decides from its samples, most significant first: 1 where a bit's 1 kHz energy is above half of what
full keying gives (R493). DEDUCED: log entry 40. -/
def wakeWordBits (w : WakeWord) : Nat := w.energy.foldl (fun a e => 2 * a + (if w.full < 2 * e then 1 else 0)) 0

/-- WAKE_PATTERN_WORD (R493): a word whose 16 bits all match fires the reach's wake-pattern source of Table 20.6.
DEDUCED: log entry 40. -/
def execWakePatternWord (w : WakeWord) (s : State) : Host.Outcome State Fault Refusal :=
  if w.energy.length = 16 ∧ wakeWordBits w = wakeBits then .next (s.wakeOp (8 + w.r)) else .next s

/-- The light of a reach in tick `t` of its wake pattern (R493): a word of 28,800 ticks is 3,200 steady ones, then 16 bits of 1,600 each,
in which a 1 is keyed 50 ticks on and 50 off. DEDUCED: log entry 40. -/
def wakeLit (t : Nat) : Bool :=
  let u := t % 28800
  decide (u < 3200) || !bitOf wakeBits (15 - (u - 3200) / 1600) || decide ((u - 3200) % 100 < 50)

/-- At a boundary: the reaches whose light is keyed off for the tick (R493). DEDUCED: log entry 40. -/
def State.wakeKeying (s : State) : State :=
  { s with power.keyedOff := upto 4 (fun r =>
      let last := tget (fun _ => 0) s.power.wakeSend r
      last != 0 && !wakeLit (s.core.tick + 4 * 28800 - last - 1)) }

/-- WAKE_PEER (R493): each named reach that is released, with every group in HUNT or LOST, sends 4 words of 288 ms. -/
def State.wakePeerOp (s : State) (v : Nat) : State :=
  let rs := upto 4 (fun r => bitOf v r && s.released (domReach r) &&
    (s.enabledGroups r).all (fun g => s.rdN (Obj.rxFrameState r g) == 0 || s.rdN (Obj.rxFrameState r g) == 3))
  s.each rs (fun s r => { s with power.wakeSend := tset (fun _ => 0) s.power.wakeSend r (s.core.tick + 4 * 28800) })

/-- WAKE_PATTERN_END (R493): the four words are sent, and frames resume. -/
def execWakePatternEnd (r : Fin 4) (s : State) : Host.Outcome State Fault Refusal :=
  let t := tget (fun _ => 0) s.power.wakeSend r
  if t ≠ 0 ∧ t ≤ s.core.tick then .next { s with power.wakeSend := tset (fun _ => 0) s.power.wakeSend r 0 } else .next s

/-! ### POWER_REQUEST -/

/-- A request's fields from its 12 bytes (R483). -/
def powReqOf (v : Nat) : PowReq :=
  { target := v / 2 ^ 88 % 256, urgent := v / 2 ^ 80 % 256 == 1, maskA := v / 2 ^ 32 % 2 ^ 32, maskB := v % 2 ^ 32 }

/-- The check of a request's fields (R483): RESERVED_BITS under check 5, OUT_OF_RANGE under check 6. -/
def powReqReserved (v : Nat) : Bool :=
  v / 2 ^ 64 % 2 ^ 16 != 0 || v / 2 ^ 57 % 2 ^ 7 != 0 || v / 2 ^ 12 % 2 ^ 20 != 0

/-- TARGET, URGENT and the masks of a request: DORMANT alone names no domain (R483). -/
def powReqRange (v : Nat) : Bool :=
  let q := powReqOf v
  decide (q.target ≤ 3) && decide (v / 2 ^ 80 % 256 ≤ 1) && ((q.target == 3) == (q.maskA == 0 && q.maskB == 0))

end Sys2Proof.Machine
end

