-- ==== Sys2Proof/Machine/Startup.lean ====
section
/-! DEFINITION. Reset, the start-up steps, commits as they end, firmware loads and the orderly shutdown (chapter 4), the assay's
end (R451–R456), and the die-to-die links (R19–R24). -/
namespace Sys2Proof.Machine

/-! ### Reset -/

/-- A commit in progress as power or reset takes it: its slot is torn (R109, R113). DEDUCED: log entry 45. -/
def State.tearCommit (s : State) : State :=
  match s.start.commit with
  | some c => if c.slot < 256 then s.setLedgerSlot (256 * c.bank + c.slot) [] else s
  | none => s

/-- A reset (R62, R83, R115): every object at its default and every unit afresh. The boot flash keeps the ledger, the images and
the credentials, the fuses stay, and what stands outside the block stays as it is. -/
def State.restart (s : State) (cause : Nat) (inReset : Bool) : State :=
  let f := s.tearCommit.start.flash
  { State.reset with
    pending := s.pending
    start := { flash := f, images := s.start.images, keyHash := s.start.keyHash, inReset := inReset }
    agent := { creds := s.agent.creds, hostMem := s.agent.hostMem }
    core := { freeCtr := s.core.freeCtr }
    key := { draws := s.key.draws, fusedKek := s.key.fusedKek }
    board := { pins := s.board.pins, hot := s.board.hot, noOsc := s.board.noOsc, scan := s.board.scan } }.wrN Obj.resetCause cause

/-- Step 1 begins (R96): the domains stand moored and the reaches' links train (R22). -/
def State.startStep1 (s : State) : State :=
  let s : State := { s with start.inReset := false, start.step := 1 }
  let s := s.wrN Obj.powerState 1
  s.each (List.range 4) (fun s r => s.wrN (Obj.linkState r) 1)

/-- RESET_N_RELEASE (R95, R96). -/
def execResetNRelease (s : State) : Host.Outcome State Fault Refusal :=
  if s.start.inReset ∧ ¬ s.board.hot ∧ ¬ s.board.noOsc then .next s.startStep1 else .next s

/-- RESET_N_PULSE (R115): RESET_N goes low and is released again. -/
def execResetNPulse (s : State) : Host.Outcome State Fault Refusal :=
  let s := s.restart 1 true
  if s.board.hot ∨ s.board.noOsc then .next s else .next s.startStep1

/-- VDD_AON_LOSS (R63, R114): nothing outlasts it but the boot flash. -/
def execVddAonLoss (s : State) : Host.Outcome State Fault Refusal := .next (s.restart 0 true)

/-- WATCHDOG_EXPIRY (R116): 100,000 ticks without a restart of the watchdog reset the device. DEDUCED: log entry 47. -/
def execWatchdogExpiry (s : State) : Host.Outcome State Fault Refusal :=
  if s.start.wdArmed ∧ ¬ s.power.dormant ∧ s.rdN Obj.shutdownState ≠ 5 ∧ s.start.wdRestart + 100000 ≤ s.core.tick then
    .next (s.restart 3 false).startStep1
  else .next s

/-! ### Steps 2 and 3 -/

/-- LEDGER_RECORD_SELECT (R109, R118): step 2 ends with the winning record, or with none. -/
def execLedgerRecordSelect (s : State) : Host.Outcome State Fault Refusal :=
  if s.start.step = 2 ∧ s.start.holdCode = 0 then
    let s : State := { s with start.step := 3 }
    match s.winningRecord with
    | none =>
      let s : State := { s with start.winner := none, start.assayDue := true }
      .next ((s.wrN Obj.lastShutdown 2).raise 0xC027 0x1110 0)
    | some (k, x) =>
      let s : State := { s with start.winner := some x, start.lifeBase := x.lifetime,
                                start.hotBase := x.hotSeconds, start.assayLifetime := x.assayLifetime,
                                start.assayDue := x.assayWhen == 1 || x.assayWhen == 2 || !x.clean }
      let s := ((s.wrN Obj.ledgerSequence x.sequence).wrN Obj.ledgerBank (k / 256)).wrN Obj.ledgerSlot (k % 256)
      let s := (s.wrN Obj.activeImage x.activeImage).wrN Obj.assayWhen (min 2 x.assayWhen)
      let s := (s.wrN Obj.powerCycles x.powerCycles).wrN Obj.hotSeconds x.hotSeconds
      let s := ((s.wrN Obj.assayOutcome (min 4 x.assayOutcome)).wrN Obj.assayFailed x.assayFailed).wrN Obj.assayFirst x.assayFirst
      .next (s.wrN Obj.lastShutdown (if x.clean then 0 else 1))
  else .next s

/-- BOOT_FLASH_TIMEOUT (R101): the flash has not answered within 10 ms of step 2. -/
def execBootFlashTimeout (s : State) : Host.Outcome State Fault Refusal :=
  if s.start.step = 2 ∧ s.start.holdCode = 0 ∧ 1000 ≤ s.core.tick then .next { s with start.holdCode := 3 } else .next s

/-- The flash offset of image A (0) or B (1), of 8 MiB (Table 4.2). -/
def imageBase (n : Nat) : Nat := n * 2 ^ 23

/-- Bytes of an image in the flash. -/
def State.imagePart (s : State) (n off len : Nat) : List Byte :=
  (List.range len).map (fun i => tget (fun _ => 0xFF#8) s.start.images (imageBase n + off + i))

/-- A number of an image's header, most significant byte first (R99). -/
def State.imageField (s : State) (n off len : Nat) : Nat := beNat (s.imagePart n off len)

/-- BODY_LENGTH is one of Table 4.3. -/
def bodyLengthOk (len : Nat) : Bool := decide (4096 ≤ len) && decide (len ≤ 2 ^ 23 - 512) && len % 4096 == 0

/-- An image verifies (R99, R100). DESIGN CHOICE: log entry 91. -/
def State.imageVerifies (s : State) (n : Nat) : Bool :=
  s.imageField n 0 4 == 0x474B4657 && s.imageField n 4 4 == 1 && bodyLengthOk (s.imageField n 12 4) &&
    sha384 (s.imagePart n 64 97) == s.start.keyHash &&
    ecdsaVerify (s.imagePart n 64 97) (s.imagePart n 256 96) (s.imagePart n 0 256) &&
    sha384 (s.imagePart n 512 (s.imageField n 12 4)) == s.imagePart n 16 48

/-- IMAGE_VERIFY (R100, R116): the image to try first, else the other, else the device stays in step 3. Its RELEASE is the running one's,
and DICTIONARY_VERSION equals it (Tables 3.16, 4.3). On the way out of DORMANT, which is no start, the running image is tried first.
DESIGN CHOICE: log entry 92. -/
def execImageVerify (s : State) : Host.Outcome State Fault Refusal :=
  if s.start.step = 3 ∧ s.start.holdCode = 0 ∧ ¬ s.power.dormant then
    let active := if s.power.leaving then s.rdN Obj.runningImage else s.rdN Obj.activeImage
    let run := match s.start.winner with
      | some x => if s.power.leaving then 0 else x.watchdogRun
      | none => 0
    let first := if run = 3 then 1 - active else active
    let again := min 3 (run + (if s.rdN Obj.resetCause = 3 then 1 else 0))
    let pick := if s.imageVerifies first then some first else if s.imageVerifies (1 - first) then some (1 - first) else none
    match pick with
    | none => .next { s with start.holdCode := 2 }
    | some n =>
      let fell : Bool := n != active
      let s : State := { s with start.step := 4, start.fallback := if fell then some n else none,
                                start.watchdogRun := if s.power.leaving then s.start.watchdogRun
                                  else if run = 3 && fell then 0 else again }
      let s := ((s.wrN Obj.runningImage n).wrN Obj.runningRelease (s.imageField n 8 4)).wrN Obj.dictionaryVersion (s.imageField n 8 4)
      .next (s.onlyIf fell (fun s => s.raise 0x8020 0x1100 n))
  else .next s

/-! ### Step 4 -/

/-- The slices in service with a converter's map applied (step 4): each retired slice's position is served by the spare that
replaced it. -/
def State.applySlices (s : State) (conv : Nat) : State :=
  s.each (List.range 4) (fun s j =>
    let x := s.start.sliceMap.getD (4 * conv + j) 0xFF
    match (List.range 128).find? (fun p => x != 0xFF && s.rdN (Obj.sliceAtPosition (conv / 8) (conv % 8) p) == x) with
    | some p => if x = 128 + j then s else s.wrN (Obj.sliceAtPosition (conv / 8) (conv % 8) p) (128 + j)
    | none => s)

/-- The state of the cores of a class with their map applied: of `n` cores the `spares` stand in the stockpile; each retired
core of the others is replaced by the lowest spare that is not retired (Table 19.5). -/
def coreStates (n : Nat) (spares : List Nat) (retired : Nat → Bool) : List Nat :=
  let lost := (List.range n).countP (fun c => retired c && !spares.contains c)
  let live := spares.filter (fun c => !retired c)
  (List.range n).map (fun c =>
    if retired c then 3 else if spares.contains c then (if (live.take lost).contains c then 1 else 2) else 1)

/-- The stockpile map of the winning record is applied (R96 step 4, R463). -/
def State.applyMaps (s : State) : State :=
  match s.start.winner with
  | none => s.showSpares
  | some x =>
    let s := s.setMaps x
    let s := s.each (List.range 32) State.applySlices
    let s := s.each ((coreStates 52 [12, 25, 38, 51] (bitOf x.decoderMap)).zipIdx) (fun s p => s.wrN (Obj.decCoreState p.2) p.1)
    let s := s.each ((coreStates 36 [32, 33, 34, 35] (bitOf x.cipherMap)).zipIdx) (fun s p => s.wrN (Obj.cipherCoreState p.2) p.1)
    let s := s.each (List.range 12) (fun s c =>
      let lost := upto 16 (fun e => bitOf x.engineMap (17 * c + e))
      let spare : Bool := !bitOf x.engineMap (17 * c + 16)
      let s := if spare then s.each (lost.take 1) (fun s e => s.wrN (Obj.physical c e) 16) else s
      s.each (if spare then lost.drop 1 else lost) (fun s e =>
        let s := s.engineLost c e
        if s.crew c ∨ s.integ.sysLost.contains (16 * c + e) then s
        else { s with integ.sysLost := s.integ.sysLost ++ [16 * c + e] }))
    let s := s.showPartitions
    let rows := (x.repairList.filter (fun v => v != 0xFFFFFFFF)).map (fun v => (v / 65536, v / 16 % 4096))
    let s : State := { s with integ.rows := rows }
    let s := s.each rows (fun s q =>
      s.wrN (Obj.spareRowsFree (macroGroup q.1)) (s.rdN (Obj.spareRowsFree (macroGroup q.1)) - 1))
    (s.wrN Obj.repairRowsFree (5384 - rows.length)).cipherCapacity.showSpares

/-- The start commit starts (R111, R115, R116): step 6. -/
def State.startCommitBegin (s : State) : State :=
  let s : State := { s with start.step := 6, start.started := true, start.assayDue := false }
  let s := match s.start.winner with
    | some x => (s.wrN Obj.bootEpoch ((x.bootEpoch + 1) % 2 ^ 32)).wrN Obj.powerCycles ((x.powerCycles + 1) % 2 ^ 32)
    | none => s
  let s := match s.start.fallback with
    | some n => s.wrN Obj.activeImage n
    | none => s
  (s.commitStart 0 false).showDevice

/-- START_ASSAY or the start commit follows step 4 (R103). -/
def State.afterFill (s : State) : State :=
  if s.start.assayDue then { s.assayBegin 0 0 with start.step := 5 } else s.startCommitBegin

/-! ### Step 6 and serving -/

/-- Step 6 ends (R96, R116, R390): the engines of the clusters that are to be released serve. -/
def State.enginesReleased (s : State) : State :=
  let s : State := { s with start.step := 8, agent.serving := true, start.wdArmed := true, start.wdRestart := s.core.tick }
  let s := s.keeperLoad.bootNonces
  (s.each ((List.range 12).map domCluster) (fun s d => if s.releaseDue d then s.releaseDomain d else s)).showDevice

/-- The start commit is valid (R96, R115, R116): its events, and step 7's link training. DEDUCED: log entry 52. -/
def State.startCommitted (s : State) : State :=
  let s : State := { s with start.startCommitTick := s.core.tick }
  let s := match s.start.winner with
    | some x => s.onlyIf (!x.clean) (fun s => s.raise 0x8021 0x1100 x.lifetime)
    | none => s
  let s := s.onlyIf (s.rdN Obj.resetCause == 3) (fun s => s.raise 0x8028 0x1100 s.start.watchdogRun)
  let s := s.enginesReleased
  s.each (upto 8 (fun p => s.poweredDom (domPort p))) State.basinTrain

/-- On the way out of DORMANT steps 4, 6 and 7 follow with no commit (Table 4.1, R492): the basin links train, and WAKE is raised as the
hub core serves. Without a checkpoint the durable flows start afresh. DESIGN CHOICE: log entry 120. -/
def State.dormantServe (s : State) : State :=
  let s := s.enginesReleased
  let s := s.onlyIf s.basin.checkpoint.isNone State.flowsAfresh
  let s := s.each (upto 8 (fun p => s.poweredDom (domPort p))) State.basinTrain
  s.raise 0x4114 0x1200 (s.rdN Obj.wakeCause)

/-! ### Shutdown (R117) -/

/-- The COMMITTING stage starts. -/
def State.shutdownCommit (s : State) : State := (s.wrN Obj.shutdownState 4).requestCommit 2 true

/-- RAMPING ends with every ramp at zero: the assay, if due, or the commit. -/
def State.shutdownRamped (s : State) : State :=
  if s.rdN Obj.shutdownState = 2 ∧ (List.range 4).all (fun r => s.txState r == 0 || s.txState r == 4) then
    if s.rdN Obj.assayWhen = 0 ∨ s.rdN Obj.assayWhen = 2 then (s.wrN Obj.shutdownState 3).assayBegin 1 0
    else s.shutdownCommit
  else s

/-- SHUTDOWN_DONE (R117). -/
def State.shutdownDone (s : State) : State :=
  let s := s.each (List.range 37) State.moorDomain
  (s.wrN Obj.shutdownState 5).raise 0x4025 0x1100 s.start.unacked

/-- Durable cells not yet acknowledged (R117). -/
def State.unackedCells (s : State) : Nat := (s.durableFlows.map (fun f => (s.flow f).held.length)).foldl (· + ·) 0

/-- SHUTDOWN is accepted: DRAINING. DEDUCED: log entry 48. -/
def State.shutdownOp (s : State) : State :=
  { s with start.drainStart := s.core.tick }.wrN Obj.shutdownState 1

/-- The rejection of SHUTDOWN (R117): one that runs, and not one that is DONE. DEDUCED: log entry 117. -/
def State.shutdownBusy (s : State) : Bool :=
  let st := s.rdN Obj.shutdownState
  (decide (1 ≤ st) && decide (st ≤ 4)) || s.opRunning 6 || s.opRunning 9

/-- SHUTDOWN_DRAIN_END (R117): every durable cell acknowledged, or SHUTDOWN_DRAIN ticks passed. -/
def execShutdownDrainEnd (s : State) : Host.Outcome State Fault Refusal :=
  let n := s.unackedCells
  if s.rdN Obj.shutdownState = 1 ∧ (n = 0 ∨ s.start.drainStart + s.rdN Obj.shutdownDrain ≤ s.core.tick) then
    let s : State := { s with start.unacked := n }
    let s := s.wrN Obj.shutdownState 2
    let s := s.onlyIf (s.opRunning 0) (fun s => s.opAbort 0 Status.abortedPower)
    let s := s.onlyIf (s.opRunning 7) (fun s => { s.opAbort 7 Status.abortedPower with basin.drain := [] })
    .next s.shutdownRamped
  else .next s

/-- RAMP_END (Table 5.7, R117, R133). -/
def execRampEnd (r : Fin 4) (s : State) : Host.Outcome State Fault Refusal := .next (s.rampEndOp r).shutdownRamped

/-! ### Commits -/

/-- A commit is valid (R110, R112): the record is the newest, a full other bank is erased, the allocations it carried go on,
and a merged trigger's commit starts. What waits for this commit follows. -/
def State.commitValid (s : State) (c : Commit) : State :=
  let s := s.setLedgerSlot (256 * c.bank + c.slot) c.bytes
  let s := ((s.wrN Obj.ledgerSequence (s.rdN Obj.ledgerSequence + 1)).wrN Obj.ledgerBank c.bank).wrN Obj.ledgerSlot c.slot
  let s : State := { s.inc Obj.commits with start.commit := none, start.lastCommit := s.core.tick }
  let s : State := if (s.freeLedgerSlot (1 - c.bank)).isNone then
      { s with start.flash := s.start.flash.filter (fun q => q.1 / 256 != 1 - c.bank) }
    else s
  let s := s.batchValid c.batch
  let s := if s.start.step = 6 then s.startCommitted else s
  let s := if c.clean && s.rdN Obj.shutdownState == 4 then s.shutdownDone else s
  match s.start.nextCommit with
  | some (cause, clean) => { s with start.nextCommit := none }.commitStart cause clean
  | none => s

/-- A read-back fails (R112): the next free slot, up to three attempts; then the commit has failed. -/
def State.commitFailed (s : State) (c : Commit) : State :=
  let s := if c.slot < 256 then s.setLedgerSlot (256 * c.bank + c.slot) [] else s
  if c.attempts + 1 < 3 then
    { s with start.commit := some { c with attempts := c.attempts + 1, slot := (s.freeLedgerSlot c.bank).getD 256 } }
  else
    let s : State := { s with start.commit := none }
    let s := ((s.inc Obj.commitFailures).raise 0xC026 0x1110 c.cause).batchRefused c.batch
    let s := if c.clean && s.rdN Obj.shutdownState == 4 then s.shutdownDone else s
    match s.start.nextCommit with
    | some (cause, clean) => { s with start.nextCommit := none }.commitStart cause clean
    | none => s

/-- LEDGER_COMMIT_DONE (R112), but for the mailboxes that a start commit's end lets be served (R97). A commit that finds no
free slot fails. DEDUCED: log entry 52. -/
def State.commitDone (s : State) (ok : Bool) : State :=
  match s.start.commit with
  | none => s
  | some c => if ok && decide (c.slot < 256) then s.commitValid c else s.commitFailed c

/-- LEDGER_PERIODIC_COMMIT (R111): 3,600 powered seconds after the last commit. -/
def execLedgerPeriodicCommit (s : State) : Host.Outcome State Fault Refusal :=
  if s.start.lastCommit + 360000000 ≤ s.core.tick then .next (s.requestCommit 1 false) else .next s

/-- WATCHDOG_RUN_CLEAR (R116): 100 powered seconds after the start commit. -/
def execWatchdogRunClear (s : State) : Host.Outcome State Fault Refusal :=
  if 8 ≤ s.start.step ∧ ¬ s.start.wdRunCleared ∧ s.start.startCommitTick + 10000000 ≤ s.core.tick then
    .next ({ s with start.wdRunCleared := true, start.watchdogRun := 0 }.requestCommit 1 false)
  else .next s

/-! ### The assay's end -/

/-- What follows an assay of each kind (R103, R117, R455). -/
def State.afterAssay (s : State) (kind : Nat) : State :=
  if kind = 0 then (if s.hubFailed then { s with start.holdCode := 5, start.assayDue := false } else s.startCommitBegin)
  else if kind = 1 ∧ s.rdN Obj.shutdownState = 3 then s.shutdownCommit
  else s

/-- ASSAY_END (R451, R455): a start or shutdown assay has waited for its preconditions, and ends only where they held. -/
def execAssayEnd (failed : List Nat) (pllError : Int) (vcore : Nat) (s : State) : Host.Outcome State Fault Refusal :=
  match s.integ.assay with
  | some a =>
    if a.kind < 2 ∧ assayBits pllError vcore vcore ≠ 0 then .next s
    else .next ((s.assayResult a failed pllError vcore).afterAssay a.kind)
  | none => .next s

/-- ASSAY_PRECONDITION_TIMEOUT (R451): after 100 ms the clock or the voltage still does not hold. -/
def execAssayPreconditionTimeout (pllError : Int) (low high : Nat) (s : State) : Host.Outcome State Fault Refusal :=
  let b := assayBits pllError low high
  match s.integ.assay with
  | some a =>
    if a.kind < 2 ∧ 0 < b ∧ s.rdN (Obj.opStartTick 1) + 10000 ≤ s.core.tick then .next ((s.assayNotRun b).afterAssay a.kind)
    else .next s
  | none => .next s

/-! ### Firmware loads (R102) -/

/-- The image's bytes in the BAR2 image buffer, header included (Table 4.3): no more than an image's 8 MiB. -/
def State.imageBytes (s : State) : Nat := min (2 ^ 23) (512 + beNat (s.getBar2 (imageBuffer + 12) 4))

/-- FIRMWARE_LOAD is accepted: record 0x1186. DEDUCED: log entry 49. -/
def State.firmwareLoadOp (s : State) : State := { s.opStart 6 s.imageBytes with start.fwErased := false, start.fwWritten := 0 }

/-- The image that a load writes is the one that is not ACTIVE_IMAGE. -/
def State.loadTarget (s : State) : Nat := 1 - s.rdN Obj.activeImage

/-- The load erases its image first (R102). DEDUCED: log entry 49. -/
def State.imageErase (s : State) : State :=
  { s with start.images := tputs 0xFF#8 (imageBase s.loadTarget) (List.replicate (2 ^ 23) 0xFF#8) s.start.images, start.fwErased := true }

/-- The load programs its next bytes from the image buffer (R102). -/
def State.imageProgram (s : State) (n : Nat) : State :=
  let p := s.start.fwWritten
  let n := min n (s.rdN (Obj.opPositionEnd 6) - p)
  { s with start.images := tputs 0xFF#8 (imageBase s.loadTarget + p) (s.getBar2 (imageBuffer + p) n) s.start.images,
           start.fwWritten := p + n }

/-- An operation's POSITION goes on by some units, not past its end. -/
def State.opWork (s : State) (o n : Nat) : State :=
  s.opAdvance o (min (s.rdN (Obj.opPositionEnd o)) (s.rdN (Obj.opPosition o) + n))

/-- Work of a tick of an operation whose speed the spec leaves open (R65, R66): a fill's slots, an assay's units, and a firmware
load's bytes, first programmed and then verified. DESIGN CHOICE: log entry 93. -/
def State.workStep (s : State) (o n : Nat) : State :=
  if !s.opRunning o then s
  else if o = 6 then
    (if !s.start.fwErased then s
     else if s.start.fwWritten < s.rdN (Obj.opPositionEnd 6) then s.imageProgram n else s.opWork 6 n)
  else if o = 0 ∨ o = 1 then s.opWork o n
  else s

/-- FIRMWARE_LOAD_END (R102): what is left is programmed, and the image in the flash is read back and verified.
DEDUCED: log entry 49. -/
def execFirmwareLoadEnd (s : State) : Host.Outcome State Fault Refusal :=
  if s.opRunning 6 then
    let s := if s.start.fwErased then s else s.imageErase
    let s := s.imageProgram (s.rdN (Obj.opPositionEnd 6))
    if s.imageVerifies s.loadTarget then
      let s := (s.opAdvance 6 (s.rdN (Obj.opPositionEnd 6))).opDone 6
      .next ((s.wrN Obj.activeImage (1 - s.rdN Obj.activeImage)).requestCommit 4 false)
    else .next (s.opFail 6 Status.refused)
  else .next s

/-! ### Die-to-die links (R19–R24) -/

/-- DIE_LINK_TRAINED (R22). -/
def execDieLinkTrained (r : Fin 4) (s : State) : Host.Outcome State Fault Refusal :=
  if s.rdN (Obj.linkState r) = 1 ∧ 1 ≤ s.dom (domReach r) then .next (s.wrN (Obj.linkState r) 2) else .next s

/-- An uncorrectable flit (R19, R20): counted in its direction; its soft values are erased, or its coded bits' symbols are sent
as the lowest-energy point. -/
def State.flitLost (s : State) (r : Nat) (tx : Bool) (g flit : Nat) : State :=
  let s := s.inc (if tx then Obj.uncorrectableTx r else Obj.uncorrectableRx r)
  let q := tget (fun _ => (0, 0)) s.conv.flits r
  let s : State := { s with conv.flits := tset (fun _ => (0, 0)) s.conv.flits r (if tx then (q.1, q.2 + 1) else (q.1 + 1, q.2)) }
  if tx then
    let k := 8 * r + g
    match s.frame.tx.find? (fun p => p.1 == k) with
    | some (_, f) => { s with frame.tx := tput k { f with lowest := f.lowest ++ [flit] } (tdel k s.frame.tx) }
    | none => s
  else { s with conv.erased := tmod (fun _ => []) s.conv.erased r (· ++ [(g, flit)]) }

/-- DIE_LINK_FLIT_ERROR (R19): an error in one byte is corrected, one in two bytes is detected; whether an error in more bytes
is detected the spec does not say. DEDUCED: log entry 94. -/
def execDieLinkFlitError (r : Fin 4) (tx : Bool) (bytes : Nat) (g : Fin 8) (flit : Nat) (s : State) :
    Host.Outcome State Fault Refusal :=
  if s.rdN (Obj.linkState r) < 2 ∨ bytes = 0 then .next s
  else if bytes = 1 then .next (s.inc (Obj.correctedFlits r))
  else if bytes = 2 then .next (s.flitLost r tx g flit)
  else
    let (v, s) := s.draw
    if v % 2 = 0 then .next (s.flitLost r tx g flit) else .next s

/-- The tick's uncorrectable flits are held against DEGRADE_THRESHOLD (R20). At each boundary. -/
def State.linkStep (s : State) (r : Nat) : State :=
  let n := tget (fun _ => (0, 0)) s.conv.flits r
  let k := tget (fun _ => (0, 0)) s.conv.overRun r
  let t := s.rdN (Obj.degradeThreshold r)
  { s with conv.flits := tset (fun _ => (0, 0)) s.conv.flits r (0, 0),
           conv.overRun := tset (fun _ => (0, 0)) s.conv.overRun r
             (if t < n.1 then k.1 + 1 else 0, if t < n.2 then k.2 + 1 else 0) }

/-- DIE_LINK_DEGRADED (R20): DEGRADE_TICKS ticks in a row over the threshold in one direction; the reach is moored.
DESIGN CHOICE: log entry 87. -/
def execDieLinkDegraded (r : Fin 4) (s : State) : Host.Outcome State Fault Refusal :=
  let k := tget (fun _ => (0, 0)) s.conv.overRun r.val
  let n := s.rdN (Obj.degradeTicks r)
  if s.rdN (Obj.linkState r) = 2 ∧ (n ≤ k.1 ∨ n ≤ k.2) then
    let s := (s.wrN (Obj.linkState r) 3).raise 0xC010 (0x201C + 0x200 * r.val) (if n ≤ k.1 then 0 else 1)
    .next (s.faultMoorReach r)
  else .next s

/-- The check of a REACH_ENABLE write (R24): 0 is REFUSED while the reach is released. -/
def State.reachEnableOk (s : State) (r v : Nat) : Bool := v == 1 || !s.released (domReach r)

/-! ### At each boundary -/

/-- Step 1 ends at the first boundary (R27, R96). -/
def State.firstBoundary (s : State) : State :=
  { s with core.running := true, start.step := if s.start.step = 1 then 2 else s.start.step }

/-- Step 8 ends, and the way out of DORMANT with it, when every domain to be released is (R96). -/
def State.step8 (s : State) : State :=
  let all := (List.range 37).all (fun d =>
    s.target d != 0 || s.released d || (decide (d < 4) && !s.rdB (Obj.reachEnable d)))
  if s.start.step = 8 ∧ all then { s with start.step := 9, power.leaving := false } else s

/-- HOT_SECONDS (R114): ticks with the hottest hub sensor above 95 °C. -/
def State.hotStep (s : State) : State :=
  let hot : Bool := (List.range 4).any (fun i => decide (9500 < s.rd (Obj.temperature (16 + i))))
  let s : State := { s with start.hotTicks := s.start.hotTicks + (if hot then 1 else 0) }
  s.wrN Obj.hotSeconds ((s.start.hotBase + s.start.hotTicks / 100000) % 2 ^ 32)

end Sys2Proof.Machine
end

