-- ==== Sys2Proof/Machine/Package.lean ====
section
/-! DEFINITION. Pins, GPIO, thermal trip and shutdown, AVSBus, the 2-wire masters and FAULT_CODE (R503–R519). -/
namespace Sys2Proof.Machine

/-! ### GPIO (R509) -/

/-- FUNCTION of a GPIO_CONFIG value (Table 21.7): 0 INPUT, 1 OUTPUT, 2 EYE_SAFETY, 3 PATH_SELECT. -/
def gpioFunction (v : Nat) : Nat := bitsOf v 1 0

/-- The unit whose PATH_SELECT_GPIO names a GPIO. -/
def State.pathSelects (s : State) (n : Nat) : Option Nat :=
  (List.range 4).find? (fun u => s.rdN (Obj.pathSelectGpio u) == n)

/-- GPIO_CONFIG as it reads: FUNCTION 3 on a GPIO that PATH_SELECT_GPIO names. -/
def State.gpioConfigRead (s : State) (n : Nat) : Nat :=
  if (s.pathSelects n).isSome then 3 else s.rdN (Obj.gpioConfig n)

/-- The level of a GPIO pin: what the device drives, or what the board does (R509, Table 12.1). -/
def State.gpioLevel (s : State) (n : Nat) : Bool :=
  match s.pathSelects n with
  | some u => s.rdN (Obj.pathInUse u) == 1
  | none => if gpioFunction (s.rdN (Obj.gpioConfig n)) = 1 then bitOf (s.rdN (Obj.gpioConfig n)) 12 else bitOf s.board.pins n

/-- A GPIO is an eye-safety input of a reach at its active level. -/
def State.eyeActiveAt (s : State) (n r : Nat) : Bool :=
  let v := s.rdN (Obj.gpioConfig n)
  (s.pathSelects n).isNone && gpioFunction v == 2 && bitsOf v 5 4 == r && (bitOf s.board.pins n != bitOf v 8)

/-- Bring the eye-safety sources to the pins (R136, R509): a source that becomes active fires the emergency transmit-off. -/
def State.eyeStep (s : State) (fresh : Nat → Bool) : State :=
  let now := upto 4 (fun r => (List.range 16).any (fun n => s.eyeActiveAt n r))
  let fire := upto 4 (fun r => (List.range 16).any (fun n => fresh n && s.eyeActiveAt n r))
  let s : State := { s with conv.eyeActive := now }
  s.each fire (fun s r => s.emergencyOff r 1)

/-- EYE_SAFETY_INPUT (R134, R509): a pin of the board takes a level. -/
def execEyeSafetyInput (gpio : Fin 16) (level : Bool) (s : State) : Host.Outcome State Fault Refusal :=
  let was := bitOf s.board.pins gpio
  let s : State := { s with board.pins := setBit s.board.pins gpio level }
  .next (s.eyeStep (fun n => n == gpio.val && was != level))

/-- The levels that the board drives, sampled at a boundary; an eye-safety input acts by EYE_SAFETY_INPUT alone.
DESIGN CHOICE: log entry 81. -/
def State.pinsIn (s : State) (v : Nat) : State :=
  { s with board.pins := maskOf 16 (fun n =>
      if gpioFunction (s.rdN (Obj.gpioConfig n)) = 2 then bitOf s.board.pins n else bitOf v n) }

/-- The reserved bits of GPIO_CONFIG. -/
def gpioReserved (v : Nat) : Bool := bitsOf v 31 13 != 0 || bitsOf v 11 9 != 0 || bitsOf v 7 6 != 0 || bitsOf v 3 2 != 0

/-- The rejection of a GPIO_CONFIG write (R509). -/
def State.gpioStatus (s : State) (n v : Nat) : Option Nat :=
  let f := gpioFunction v
  if (f != 1 && bitOf v 12) || (f != 2 && (bitOf v 8 || bitsOf v 5 4 != 0)) then some Status.outOfRange
  else if f = 3 ∨ (s.pathSelects n).isSome then some Status.refused
  else none

/-- A GPIO_CONFIG write has taken effect (R509): a pin that becomes an active eye-safety input fires; one that ceases to be no
longer is a source. -/
def State.gpioWritten (s : State) (n : Nat) (was : Nat) : State :=
  s.eyeStep (fun m => m == n && (gpioFunction was != 2 || bitsOf was 5 4 != bitsOf (s.rdN (Obj.gpioConfig n)) 5 4 ||
    bitOf s.board.pins n == bitOf was 8))

/-- The rejection of a PATH_SELECT_GPIO write (R509): it names an eye-safety input. -/
def State.pathSelectOk (s : State) (v : Nat) : Bool :=
  v == 0xFF || gpioFunction (s.rdN (Obj.gpioConfig v)) != 2

/-! ### Thermal trip and shutdown (R510, R511) and the local oscillator (R519) -/

/-- THERMAL_TRIP (R510): emergency transmit-off on all four reaches, powered or not (Table 5.6), the device's own urgent request, THERMAL_STATE.
DEDUCED: log entry 51. -/
def execThermalTrip (channel : Fin 4) (temp : Nat) (s : State) : Host.Outcome State Fault Refusal :=
  if s.rdN Obj.thermalTripLevel < temp ∧ ¬ s.start.inReset then
    let own (q : Option PowReq) : Bool := q.any (fun q => q.own)
    let s := s.inc Obj.thermalTrips
    let s : State := if s.rdN Obj.thermalState = 1 then s else { s with board.tripTick := s.core.tick }
    let s := s.wrN Obj.thermalState 1
    let s := s.each (List.range 4) (fun s r => s.emergencyOff r 2)
    let s := s.raise 0xC120 0x1700 ((16 + channel.val) * 65536 + min temp 65535)
    if own s.power.cur ∨ own s.power.waiting ∨ own s.power.pend ∨ s.power.dormant then .next s
    else .next (s.submitPower { target := 1, urgent := true, maskA := 15, maskB := 0, own := true })
  else .next s

/-- THERMAL_CLEARED (R510): every sensor is 10 °C below the level. -/
def execThermalCleared (s : State) : Host.Outcome State Fault Refusal :=
  if s.rdN Obj.thermalState = 1 then
    .next ((s.wrN Obj.thermalState 0).raise 0x4121 0x1700 (min (s.core.tick - s.board.tripTick) 0xFFFFFFFF))
  else .next s

/-- THERMAL_SHUTDOWN (R511): a sensor above 122 °C holds the device in reset. -/
def execThermalShutdown (s : State) : Host.Outcome State Fault Refusal :=
  .next ({ s with board.hot := true }.restart 2 true)

/-- THERMAL_SHUTDOWN_EXIT (R511): every sensor is at or below 100 °C, and the device starts from step 1. -/
def execThermalShutdownExit (s : State) : Host.Outcome State Fault Refusal :=
  if s.board.hot then
    let s := { s with board.hot := false }.restart 2 true
    if s.board.noOsc then .next s else .next s.startStep1
  else .next s

/-- LOCAL_OSC_ABSENT (R519): no edge for 10 µs holds the device in reset. -/
def execLocalOscAbsent (s : State) : Host.Outcome State Fault Refusal :=
  .next ({ s with board.noOsc := true }.restart 0 true)

/-- LOCAL_OSC_RETURN (R519). -/
def execLocalOscReturn (s : State) : Host.Outcome State Fault Refusal :=
  if s.board.noOsc then
    let s := { s with board.noOsc := false }.restart 0 true
    if s.board.hot then .next s else .next s.startStep1
  else .next s

/-! ### AVSBus (R514) -/

/-- AVS_TARGET from step 6 on (R514). DESIGN CHOICE: log entry 50. -/
def State.showAvs (s : State) : State :=
  if 6 ≤ s.start.step then
    let hot : Int := (List.range 4).foldl (fun m i => max m (s.rd (Obj.temperature (16 + i)))) (-32768)
    s.wrN Obj.avsTarget (620 + Config.avsTarget hot % 161)
  else s

/-- A transaction's end (R514): an acknowledged one moves the rail by at most 5 mV per 100 ticks, to 0.70 V for a start or shutdown assay
(R451); three failures in a row are a fault. -/
def State.avsEnd (s : State) (ok : Bool) : State :=
  if ok then
    let s : State := { s with board.avsFails := 0 }
    let s := s.wrN Obj.avsState 0
    let goal := if s.start.step = 5 ∨ s.integ.assay.any (fun a => decide (a.kind < 2)) then 700 else s.rdN Obj.avsTarget
    let v := s.board.avsRail
    if s.board.avsMoved + 100 ≤ s.core.tick ∧ v ≠ goal then
      { s with board.avsMoved := s.core.tick, board.avsRail := if v < goal then min goal (v + 5) else max goal (v - 5) }
    else s
  else
    let s : State := { s with board.avsFails := s.board.avsFails + 1, board.avsRetry := s.core.tick }
    if 3 ≤ s.board.avsFails ∧ s.rdN Obj.avsState = 0 then (s.wrN Obj.avsState 1).raise 0xC122 0x1700 0 else s

/-- AVS_TRANSACTION (R514): the master sends none before step 5, and in FAULT only retries. -/
def execAvsTransaction (ok : Bool) (s : State) : Host.Outcome State Fault Refusal :=
  if 5 ≤ s.start.step ∧ s.rdN Obj.avsState = 0 then .next ({ s with board.avsSent := true }.avsEnd ok) else .next s

/-- AVS_RETRY (R514): once every 100,000 ticks in FAULT. -/
def execAvsRetry (ok : Bool) (s : State) : Host.Outcome State Fault Refusal :=
  if s.rdN Obj.avsState = 1 ∧ s.board.avsRetry + 100000 ≤ s.core.tick then .next (s.avsEnd ok) else .next s

/-! ### 2-wire masters (R503) -/

/-- Byte i of a TWI_XFER value (Table 21.10). -/
def twiByte (v i : Nat) : Nat := v / 2 ^ (8 * (19 - i)) % 256

/-- The fields that read zero. -/
def twiReserved (v : Nat) : Bool := decide (128 ≤ twiByte v 0) || twiByte v 3 != 0

/-- The rejection of a TWI_XFER write (R503). -/
def State.twiStatus (s : State) (r v : Nat) : Option Nat :=
  let w := twiByte v 1
  let n := twiByte v 2
  if (w == 0 && n == 0) || decide (16 < w) || decide (16 < n) then some Status.outOfRange
  else if s.offDom (domReach r) then some Status.unitOff
  else if s.board.twi.any (fun q => q.1 == r) then some Status.busy
  else none

/-- A transfer starts: TWI_RESULT shows RUNNING. -/
def State.twiOp (s : State) (r v : Nat) : State :=
  let t : Twi := { addr := twiByte v 0, write := (List.range (twiByte v 1)).map (fun i => BitVec.ofNat 8 (twiByte v (4 + i))),
                   reads := twiByte v 2 }
  { s with board.twi := s.board.twi ++ [(r, t)] }.wrN (Obj.twiResult r) (2 ^ 152)

/-- TWI_TRANSFER_END (R503): OK, or an address or data not acknowledged. -/
def execTwiTransferEnd (r : Fin 4) (status : Fin 4) (data : List Byte) (s : State) : Host.Outcome State Fault Refusal :=
  if status = 1 then .next s else .next (s.twiEnd r status (if status = 0 then data else []))

/-- TWI_BUS_HELD (R503). -/
def execTwiBusHeld (r : Fin 4) (s : State) : Host.Outcome State Fault Refusal := .next (s.twiEnd r 4 [])

/-- The check of a GC_INVERT write (R522): no bit of a released reach changes. -/
def State.gcInvertOk (s : State) (v : Nat) : Bool :=
  (List.range 4).all (fun r => bitOf v r == bitOf (s.rdN Obj.gcInvert) r || !s.released (domReach r))

/-! ### FAULT_CODE and ALARM_N (R101, R507, R508) -/

/-- FAULT_CODE (Table 21.6): the highest-ranked condition that holds. -/
def State.faultCode (s : State) : Nat :=
  if s.board.hot then 7
  else if s.board.noOsc then 0xA
  else if s.start.inReset then 0xF
  else if s.start.holdCode ≠ 0 then s.start.holdCode
  else if s.rdN Obj.thermalState = 1 then 6
  else if s.rdN Obj.avsState = 1 then 8
  else if s.railBad then 9
  else if s.rdN Obj.shutdownState = 5 then 0xE
  else if s.start.step ≤ 6 then 1
  else 0

/-- ALARM_N is driven low (R508). -/
def State.alarmLow (s : State) : Bool :=
  s.rdB Obj.alarmLatch || (decide (2 ≤ s.faultCode) && decide (s.faultCode ≤ 0xA))

/-- The output pins of Table 21.5, the TAP's own apart: TXEN and DRVEN, GC, BIAS and the 2-wire pair of a reach, FAULT_CODE with
ALARM_N, a GPIO, PERST_N of a basin port, the xSPI, AVSBus and MDIO pins. -/
inductive OutPin where
  | enable (r : Nat) | gain (r : Nat) | bias (r : Nat) | twoWire (r : Nat) | fault | gpio (n : Nat) | basinPerst (p : Nat)
  | xspi | avs | mdio
  deriving DecidableEq, Repr

/-- A domain stands MOORED or RELEASED, out of reset, and isolation is not asserted on it (R490, R504).
DEDUCED: log entry 119. -/
def State.clear (s : State) (d : Nat) : Bool :=
  !s.start.inReset && !s.board.hot && !s.board.noOsc && !s.offDom d && !s.power.dormantCommitted &&
    !s.power.opening.any (fun o => o.1 == d)

/-- The device drives a pin (R504, R490, Table 21.5); through reset and until then it is high-impedance and its board resistor gives the
level. FAULT_CODE and ALARM_N stay driven in the holds of R511 and R519. -/
def State.drives (s : State) : OutPin → Bool
  | .enable r => s.board.live.contains r
  | .gain r => s.clear (domReach r)
  | .bias r => s.clear (domReach r)
  | .twoWire r => s.clear (domReach r)
  | .fault => s.core.running || s.board.hot || s.board.noOsc
  | .gpio n => (s.pathSelects n).isSome || gpioFunction (s.rdN (Obj.gpioConfig n)) == 1
  | .basinPerst p => s.clear (domPort p)
  | .xspi => decide (2 ≤ s.start.step)
  | .avs => s.board.avsSent
  | .mdio => decide (6 ≤ s.start.step) || s.power.leaving

/-- The level on FAULT_CODE0–3: 0xF by the board resistors while the pins are undriven (Tables 21.5, 21.6). -/
def State.faultPins (s : State) : Nat := if s.drives .fault then s.faultCode else 0xF

/-- The level on ALARM_N: low where it is driven low, else high by its resistor (R504, R508). -/
def State.alarmPin (s : State) : Bool := !(s.drives .fault && s.alarmLow)

/-- MGMT_LINK_UP_CHANGE (R84, R492, R494): the management port's link, a change of which is a wake source. -/
def execMgmtLinkUpChange (up : Bool) (s : State) : Host.Outcome State Fault Refusal :=
  let v := if up then 1 else 0
  if s.rdN Obj.linkUp = v then .next s
  else
    .next ((s.wrN Obj.linkUp v).wakeOp 0)

end Sys2Proof.Machine
end

