-- ==== Sys2Proof/Machine/Dict.lean ====
section
/-! DEFINITION. What the dictionary agent checks of a request on an object (R48–R59, Tables 3.1–3.3a): encodings, ranges,
levels, the owning unit's power and mooring, and each chapter's own condition on a write. -/
namespace Sys2Proof.Machine

/-! ### Encodings (Table 3.1) -/

/-- The words of a type. -/
def OType.words : OType → Nat
  | .u64 | .s64 => 2
  | .octets n => (n + 3) / 4
  | _ => 1

/-- The words of a value. -/
def OType.encode (t : OType) (v : Int) : List Nat :=
  match t with
  | .u64 | .s64 => let x := (v % 2 ^ 64).toNat; [x / 2 ^ 32, x % 2 ^ 32]
  | .octets n => octetWords n v.toNat
  | _ => [(v % 2 ^ 32).toNat]

/-- A word read as a signed number. -/
def signedWord (n w : Nat) : Int := if 2 ^ (n - 1) ≤ w then (w : Int) - 2 ^ n else w

/-- Check 4 of Table 3.3: the value that a body spells, none where its length, its extension or its padding is wrong. -/
def OType.decode (t : OType) (ws : List Nat) : Option Int :=
  if ws.length ≠ t.words then none
  else
    let v := wordsNat ws
    match t with
    | .u8 | .bool8 | .enum8 => if v < 256 then some (v : Int) else none
    | .u16 => if v < 65536 then some (v : Int) else none
    | .u32 | .f32 | .bits32 => some (v : Int)
    | .u64 => some (v : Int)
    | .s16 => let x := signedWord 32 v; if -32768 ≤ x ∧ x < 32768 then some x else none
    | .s32 => some (signedWord 32 v)
    | .s64 => some (signedWord 64 v)
    | .octets n =>
      let pad := 8 * (4 * ((n + 3) / 4) - n)
      if v % 2 ^ pad = 0 then some ((v / 2 ^ pad : Nat) : Int) else none

/-! ### Checks 5 and 6 (R524) -/

/-- A mask sets a bit outside another. -/
def maskBeyond (v mask : Nat) : Bool := v &&& mask != v

/-- The rejection that an entry's range gives, if any. -/
def Rng.status (g : Rng) (v : Int) : Option Nat :=
  match g with
  | .any | .layout => none
  | .range lo hi => if lo ≤ v ∧ v ≤ hi then none else some Status.outOfRange
  | .rangeOr lo hi o => if (lo ≤ v ∧ v ≤ hi) ∨ v = o then none else some Status.outOfRange
  | .among l => if l.contains v then none else some Status.outOfRange
  | .bits m => if maskBeyond v.toNat m then some Status.reservedBits else none

/-- Checks 5 and 6 as a value: RESERVED_BITS first, then OUT_OF_RANGE. -/
def fieldStatus (reserved range : Bool) : Option Nat :=
  if reserved then some Status.reservedBits else if range then some Status.outOfRange else none

/-- Checks 5 and 6 of the entries whose value has a layout of its own (R524), by record and sub-index. -/
def layoutStatus (base sub v : Nat) : Option Nat :=
  match base with
  | 0x1200 => fieldStatus (powReqReserved v) (!powReqRange v)
  | 0x1500 => fieldStatus false (!unitExists v)
  | 0x1550 => fieldStatus false (unitKind v).isNone
  | 0x1602 => fieldStatus (bitsOf v 31 23 != 0 || bitsOf v 14 8 != 0) (decide (95 < bitsOf v 22 16))
  | 0x1710 => fieldStatus (gpioReserved v) false
  | 0x1720 => fieldStatus (twiReserved v) false
  | 0x3001 =>
    let h := v / 2 ^ (8 * 1012)
    fieldStatus (h % 2 ^ 24 != 0) (decide (h / 2 ^ 48 < 60 ∨ 1000 < h / 2 ^ 48 ∨ 2 < h / 2 ^ 24 % 256))
  | 0x300F => fieldStatus false (layoutReserved v)
  | 0x3400 => fieldStatus false (!ladderOk v)
  | 0x3420 =>
    fieldStatus (bitsOf v 28 22 != 0 || bitOf v 19 || bitsOf v 15 6 != 0) (bitsOf v 30 29 == 3)
  | 0x3530 => fieldStatus (decide (2 ^ 35 ≤ v)) false
  | 0x3804 => if sub = 1 then fieldStatus (v / 2 ^ 448 % 2 ^ 24 != 0) false else none
  | 0x3805 => fieldStatus (v / 2 ^ 448 % 2 ^ 24 != 0) false
  | 0x4070 => if sub = 1 then fieldStatus (v / 2 ^ 32 % 2 ^ 16 != 0) false else none
  | _ => none

/-- Checks 4 to 6 of a value for an entry: the value, or the rejection. DEDUCED: log entry 74. -/
def bodyStatus (idx sub : Nat) (r : Row) (ws : List Nat) : Except Nat Int :=
  match r.ty.decode ws with
  | none => .error Status.typeMismatch
  | some v =>
    match (if r.rng = .layout then layoutStatus (canonIdx idx) sub v.toNat else r.rng.status v) with
    | some st => .error st
    | none => .ok v

/-! ### Levels (R50, Table 3.2): 0 VIEW, 1 OPERATE, 2 MAINTAIN, 3 SECURE, 4 KEEPER -/

/-- The per-session cursors. -/
def isCursor (idx sub : Nat) : Bool :=
  (idx == 0x1300 && sub == 3) || (idx == 0x3400 && sub == 2) || (idx == 0x1500 && sub == 5)

/-- A value where a condition holds, else 0. -/
def levelIf (b : Bool) (n : Nat) : Nat := if b then n else 0

/-- The cluster of an engine, partition or counter record. -/
def clusterOf (idx : Nat) : Nat := if 0x5400 ≤ idx then (idx - 0x5400) / 16 else (idx - 0x5000) / 0x40

/-- The level that a read needs. -/
def State.readLevel (s : State) (idx sub : Nat) : Nat :=
  if isCursor idx sub then 0
  else max (levelIf (decide (0x1410 ≤ idx ∧ idx ≤ 0x141F)) 2)
    (max (levelIf (decide (0x5400 ≤ idx ∧ idx ≤ 0x54BF) && !s.crew (clusterOf idx)) 2) (levelIf (decide (0xF000 ≤ idx)) 4))

/-- The level that a write needs. -/
def writeLevel (idx sub : Nat) (acc : Access) : Nat :=
  if isCursor idx sub then 0
  else max (max 1 (levelIf (decide (acc = .rwm)) 2))
    (max (levelIf (decide ((0x1100 ≤ idx ∧ idx ≤ 0x15FF) ∨ (0x5000 ≤ idx ∧ idx ≤ 0x54FF))) 2)
      (max (levelIf (decide (0x3800 ≤ idx ∧ idx ≤ 0x38FF)) 3) (levelIf (decide (0xF000 ≤ idx)) 4)))

/-- The level that a session holds: session 0 has HOST_PORT_LEVEL (R88). -/
def State.levelOf (s : State) (n : Nat) : Nat := if n = 0 then s.rdN Obj.hostPortLevel else (s.session n).level

/-! ### Instances -/

/-- The reach, group, sub-carrier and converter of an index in a reach's range (R23, R159). -/
def idxReach (idx : Nat) : Nat := (idx - 0x2000) / 0x200
def idxGroup (idx : Nat) : Nat := (idx - 0x2140) % 0x200
def idxSc (idx : Nat) : Nat := (idx - 0x2100) % 0x200
def idxConv (idx : Nat) : Nat := (idx - 0x2028) % 0x200
/-- The berth of an index (R254). -/
def idxBerth (idx : Nat) : Nat := (idx - 0x3000) / 16
/-- The reach and group of a group's cipher object (R351). -/
def idxKeyReach (idx : Nat) : Nat := (idx - 0x3820) / 8
def idxKeyGroup (idx : Nat) : Nat := (idx - 0x3820) % 8
/-- The flow of a flow-table entry (R274). -/
def idxFlow (idx sub : Nat) : Nat := 128 * (idx - 0x3420) + sub - 1

/-! ### Checks 7 and 8 -/

/-- The unit that owns an object is off (R36, R55): a reach, but for its REACH_ENABLE record, which belongs to reach control;
a decoder quarter behind the pool; a berth group; a basin port; a cluster. A partition record names no cluster and is the hub's.
DEDUCED: log entry 89. DESIGN CHOICE: log entry 133: the pool's objects belong to four quarters, and read UNIT_OFF only while all
four are off. -/
def State.ownerOff (s : State) (idx : Nat) : Bool :=
  if 0x2000 ≤ idx ∧ idx < 0x2800 then idx % 0x200 != 0 && s.offDom (domReach (idxReach idx))
  else if idx = 0x2800 ∨ idx = 0x2801 ∨ (0x2810 ≤ idx ∧ idx ≤ 0x282F) then (List.range 4).all (fun q => s.offDom (domQuarter q))
  else if 0x3000 ≤ idx ∧ idx ≤ 0x33FF then s.offDom (domBerth ((idx - 0x3000) / 0x80))
  else if 0x3520 ≤ idx ∧ idx ≤ 0x3527 then s.offDom (domPort (idx - 0x3520))
  else if 0x5000 ≤ idx ∧ idx ≤ 0x52FF then s.offDom (domCluster (clusterOf idx))
  else if 0x5400 ≤ idx ∧ idx ≤ 0x54BF then s.offDom (domCluster (clusterOf idx))
  else false

/-- The domains that must be moored for an RWM write: with a port's STOCKPILE_RESERVE a port that is off will do.
DEDUCED: log entry 71. -/
def State.rwmDomains (s : State) (idx sub v : Nat) : List Nat :=
  if 0x2000 ≤ idx ∧ idx < 0x2800 then [domReach (idxReach idx)]
  else if 0x3000 ≤ idx ∧ idx ≤ 0x33FF then [domBerth ((idx - 0x3000) / 0x80)]
  else if idx = 0x3510 then ((List.range 8).map domPort).filter (fun d => !s.offDom d)
  else if 0x3590 ≤ idx ∧ idx ≤ 0x3593 then
    let u := idx - 0x3590
    let w := if sub = 2 then v else s.rdN (Obj.workingReach u)
    let m := if sub = 1 then v else s.uMode u
    (s.unitReaches u ++ namedReaches m w).eraseDups.map domReach
  else if 0x4060 ≤ idx ∧ idx ≤ 0x4063 then [domReach (idx - 0x4060)]
  else if 0x5310 ≤ idx ∧ idx ≤ 0x5313 then
    let p := idx - 0x5310
    (s.partitionClusters p (if sub = 1 then v else s.rdN (Obj.firstCluster p))
      (if sub = 2 then v else s.rdN (Obj.clusterCount p))).filterMap (fun c => if c < 12 then some (domCluster c) else none)
  else []

/-- Check 8 (R49, R59): NOT_MOORED, or BUSY for an immediate write of a unit that is due to be released. -/
def State.mooredStatus (s : State) (idx sub v : Nat) : Option Nat :=
  let ds := s.rwmDomains idx sub v
  if !ds.all (fun d => s.dom d == 2) then some Status.notMoored
  else if ds.any (fun d => s.core.due.contains d) then some Status.busy
  else none

/-! ### Check 9: the chapters' own conditions -/

/-- A rejection where a condition holds. -/
def stIf (b : Bool) (st : Nat) : Option Nat := if b then some st else none

/-- The credential that a wrapped value holds (R78): ID, level and secret; none where it is rejected. -/
def State.credentialOf (s : State) (v : Nat) : Option (Nat × Nat × List Byte) :=
  match aesUnwrap s.key.fusedKek (beBytes 48 v) with
  | none => none
  | some b =>
    if b.length ≠ 40 ∨ 7 < hdrField b 0 1 ∨ 3 < hdrField b 1 1 ∨ hdrField b 2 6 ≠ 0 then none
    else some (hdrField b 0 1, hdrField b 1 1, b.drop 8)

/-- ABORT of a progress record (R66, R67). -/
def State.abortStatus (s : State) (o : Nat) : Option Nat :=
  if !s.opRunning o then some Status.refused
  else if o = 0 ∨ o = 7 then some Status.busy
  else if o = 1 ∧ !s.integ.assay.any (fun a => a.kind == 2) then some Status.busy
  else if o = 6 ∧ s.start.fwErased then some Status.busy
  else if o = 9 ∧ !s.swapAbortOk then some Status.busy
  else none

/-- The other reach of a REACH unit that names a reach, if one does (Table 12.1). DEDUCED: log entry 76. -/
def State.pairedReach (s : State) (r : Nat) : Option Nat :=
  if (List.range 4).any (fun u => s.uMode u == 2 && (s.rdN (Obj.workingReach u) == r || s.rdN (Obj.workingReach u) == r ^^^ 1))
  then some (r ^^^ 1) else none

/-- GROUP_ENABLE (R159, R162, R304): of a REACH unit's group the write is to both reaches. DEDUCED: log entry 76. -/
def State.groupEnableStatus (s : State) (r g : Nat) (v : Int) : Option Nat :=
  if !s.groupEnableOk r g v then some Status.refused
  else match s.pairedReach r with
    | none => none
    | some q => stIf (s.offDom (domReach q) || !s.groupEnableOk q g v) Status.refused

/-- Check 9 of a write in a reach's range 0x2000–0x27FF, by the record's base. -/
def State.reachWriteStatus (s : State) (base idx sub : Nat) (v : Int) : Option Nat :=
  let r := idxReach idx
  let g := idxGroup idx
  match base, sub with
  | 0x2000, 1 => stIf (!s.reachEnableOk r v.toNat) Status.refused
  | 0x2021, 3 => stIf (s.opRunning (calOp r)) Status.busy
  | 0x2028, _ =>
    if (s.cal r).kind = 2 then some Status.busy else stIf (!plausibleWord v.toNat) Status.refused
  | 0x2040, 5 => stIf (s.txOffActive r) Status.refused
  | 0x2080, 2 => s.bankWriteStatus r false
  | 0x2080, 3 => s.bankWriteStatus r true
  | 0x2080, 6 => stIf (s.inactiveState r != 1) Status.refused
  | 0x2100, 3 => stIf (!s.preEmphasisOk r (idxSc idx) v) Status.refused
  | 0x2140, 1 => s.groupEnableStatus r g v
  | 0x2140, 3 => stIf (!s.layoutWriteOk r g false v.toNat) Status.refused
  | 0x2140, 4 => stIf (!s.layoutWriteOk r g true v.toNat) Status.refused
  | 0x2140, 5 =>
    match s.pairedReach r with
    | some q => stIf (s.dom (domReach q) != 2 || s.core.due.contains (domReach q)) Status.refused
    | none => none
  | 0x2140, 9 => (s.fixedApplyStatus r g).or (s.fixedMapStatus r g)
  | 0x2140, 20 => stIf (!s.historyValidOk r g v.toNat) Status.refused
  | _, _ => none

/-- Check 9 of a write of a berth's object: the port's objects exist at a port's first berth only (R254).
DEDUCED: log entry 76. -/
def State.berthWriteStatus (s : State) (base idx sub : Nat) (v : Int) : Option Nat :=
  let b := idxBerth idx
  match base, sub with
  | 0x3000, 3 => stIf (!s.synceInputOk b v.toNat) Status.refused
  | 0x300F, _ => stIf (!s.groupLayoutOk ((idx - 0x3000) / 0x80) v.toNat) Status.refused
  | 0x3001, 14 =>
    if !s.isPort b then some Status.refused else s.injectStatus b (beBytes 1020 v.toNat) s.timing.tod.isSome
  | 0x3001, _ | 0x3004, _ => stIf (!s.isPort b) Status.refused
  | _, _ => none

/-- Check 9 of a write outside the reaches and berths. -/
def State.ownStatus (s : State) (base idx sub : Nat) (v : Int) : Option Nat :=
  let n := v.toNat
  match base, sub with
  | 0x1100, 9 => stIf s.shutdownBusy Status.busy
  | 0x1100, 13 => stIf (s.opRunning 6) Status.busy
  | 0x1180, 7 => s.abortStatus (idx - 0x1180)
  | 0x1200, 2 => stIf (s.powerBusy (powReqOf n).urgent) Status.busy
  | 0x1410, 7 => stIf (s.credentialOf n).isNone Status.refused
  | 0x1500, 4 => s.assayRunStatus n
  | 0x1550, 7 => s.swapUnitStatus n
  | 0x1600, 1 => stIf (!s.modeRequestOk n) Status.refused
  | 0x1600, 3 => stIf s.injectBusy Status.busy
  | 0x1602, _ => seqEntryStatus (sub - 1) n
  | 0x1620, 3 => s.filterWriteStatus (idx - 0x1620) (some 0)
  | 0x1620, 4 => s.filterWriteStatus (idx - 0x1620) (some 1)
  | 0x1620, _ => s.filterWriteStatus (idx - 0x1620) none
  | 0x1660, _ => s.filterWriteStatus (idx - 0x1660) (some (if sub ≤ 32 then 0 else 1))
  | 0x1680, 1 => none
  | 0x1680, _ => stIf (!s.biasCodeOk (idx - 0x1680)) Status.refused
  | 0x1700, 9 => stIf (!s.gcInvertOk n) Status.refused
  | 0x1710, _ => s.gpioStatus (sub - 1) n
  | 0x1720, 2 => s.twiStatus (idx - 0x1720) n
  | 0x3420, _ => stIf (!s.flowEntryOk (idxFlow idx sub) n) Status.refused
  | 0x3510, 4 => stIf (!s.waterMarksOk 0 n) Status.refused
  | 0x3510, 5 => stIf (!s.waterMarksOk 1 n) Status.refused
  | 0x3510, 6 => stIf (!s.waterMarksOk 2 n) Status.refused
  | 0x3530, 5 => stIf (!s.peekAddressOk n) Status.outOfRange
  | 0x3590, 1 => stIf (!s.unitModeOk (idx - 0x3590) n) Status.refused
  | 0x3590, 2 => stIf (!s.workingReachOk (idx - 0x3590) n) Status.refused
  | 0x3590, 12 => stIf (!s.pathSelectOk n) Status.refused
  | 0x3590, 15 => s.commandStatus (idx - 0x3590) n
  | 0x3804, 1 => stIf (s.importRecord (beBytes 60 n)).isNone Status.refused
  | 0x3804, 2 => stIf (s.opRunning 10) Status.busy
  | 0x3820, 1 => s.encryptStatus (idxKeyReach idx) (idxKeyGroup idx) false n
  | 0x3820, 2 => s.encryptStatus (idxKeyReach idx) (idxKeyGroup idx) true n
  | 0x4000, 6 => stIf (!s.phaseStepOk v) Status.refused
  | 0x4010, _ => stIf (!refWriteOk (idx - 0x4010) sub n) Status.refused
  | 0x4070, 1 => s.todStatus (beBytes 20 n)
  | 0x4110, 2 => stIf (!s.loopbackOk (idx - 0x4110) n) Status.refused
  | 0x5000, 2 => stIf (!s.crew (clusterOf idx)) Status.refused
  | 0x5000, 3 => s.engineLoadStatus (clusterOf idx) n
  | 0x5310, 1 => stIf (!s.partitionOk (idx - 0x5310) n (s.rdN (Obj.clusterCount (idx - 0x5310)))) Status.refused
  | 0x5310, 2 => stIf (!s.partitionOk (idx - 0x5310) (s.rdN (Obj.firstCluster (idx - 0x5310))) n) Status.refused
  | 0x5400, 10 | 0x5400, 11 | 0x5400, 12 | 0x5400, 13 => stIf (!s.crew (clusterOf idx)) Status.refused
  | _, _ => none

/-- Check 9 of a write. -/
def State.check9 (s : State) (idx sub : Nat) (v : Int) : Option Nat :=
  if 0x2000 ≤ idx ∧ idx < 0x2800 then s.reachWriteStatus (canonIdx idx) idx sub v
  else if 0x3000 ≤ idx ∧ idx ≤ 0x33FF then s.berthWriteStatus (canonIdx idx) idx sub v
  else s.ownStatus (canonIdx idx) idx sub v

/-! ### The checks in order -/

/-- Check 1 of Table 3.3, and 2 of Table 3.3a: the entry's row, or the rejection. Sub-index 0x00 is an entry of its own. -/
def entryCheck (idx sub : Nat) : Except Nat Row :=
  if rowsOf idx = [] then .error Status.unknownObject
  else if sub = 0 then .ok ⟨0, 0, .u8, .ro, false, (entryCount idx : Int), .any⟩
  else match rowAt idx sub with
    | some r => .ok r
    | none => .error Status.noSubindex

/-- An entry can be written: neither RO nor a sub-index 0x00. -/
def Row.writable (r : Row) : Bool := r.acc != .ro

/-- Checks 1 to 3 of a write (Table 3.3): its row, or the rejection. -/
def State.writeHead (s : State) (sess idx sub : Nat) : Except Nat Row :=
  match entryCheck idx sub with
  | .error e => .error e
  | .ok r =>
    if !r.writable then .error Status.readOnly
    else if s.levelOf sess < writeLevel idx sub r.acc then .error Status.accessDenied
    else .ok r

/-- Checks 7 to 9 of a write of a value that has passed check 6. -/
def State.writeTail (s : State) (idx sub : Nat) (r : Row) (v : Int) : Option Nat :=
  if s.ownerOff idx then some Status.unitOff
  else match (if r.acc = .rwm then s.mooredStatus idx sub v.toNat else none) with
    | some st => some st
    | none => s.check9 idx sub v

end Sys2Proof.Machine
end

