-- ==== Sys2Proof/Machine/Agent.lean ====
section
/-! DEFINITION. The dictionary agent (R47–R61, R72–R84): reads, writes and their immediate effects, staging windows and held
writes, sessions, replies and their delivery. -/
namespace Sys2Proof.Machine

/-- A request as the agent takes it: where it came from, its header, its body, and what a start command or a diagnostic read
brings in from outside (R451, R469); where the row of the command table does not bring it, it is free. -/
structure Req where
  ctx : ReqCtx
  body : List Nat := []
  retry : Bool := false
  meas : Option (Int × Nat × Nat) := none
  noise : Option (List (Nat × Byte)) := none
  deriving DecidableEq, Repr

/-! ### Replies (R75–R79, R82, R84) -/

/-- The bytes of a message without its MAC: header and body (Table 3.9). -/
def Reply.bytes (p : Reply) : List Byte :=
  [0x55#8, 0xDA#8, 0x01#8] ++ beBytes 1 p.opcode ++ beBytes 1 p.flags ++ beBytes 1 p.status ++ beBytes 2 p.sess ++
    beBytes 4 p.seq ++ beBytes 2 p.index ++ beBytes 1 p.sub ++ beBytes 1 p.words.length ++ p.words.flatMap (beBytes 4)

/-- The MAC of a message under a key: the first 16 bytes of its HMAC (R79). -/
def macUnder (key msg : List Byte) : List Byte := (hmacSha256 key msg).take 16

/-- Put bytes into BAR0 at a dword boundary: the message at ascending byte addresses, the registers little-endian (R5, R87). -/
def State.putBar0 (s : State) (off : Nat) (bs : List Byte) : State :=
  s.each (List.range ((bs.length + 3) / 4)) (fun s i => s.setBar (off + 4 * i) (leNat ((bs.drop (4 * i)).take 4)))

/-- The offsets of the mailbox registers (Table 3.13). -/
def mbxBusyOff : Nat := 0x4
def mbxDoneOff : Nat := 0x8
def mbxErrorOff : Nat := 0xC

/-- The serving of mailbox slot n ends (R87): BUSY is cleared. DEDUCED: log entry 31. -/
def State.mbxFree (s : State) (n : Nat) : State := s.setBar mbxBusyOff (setBit (s.bar mbxBusyOff) n false)

/-- Send a message where a request came from (R84, R87). -/
def State.sendTo (s : State) (via : Via) (bs : List Byte) : State :=
  match via with
  | .direct => s
  | .udp .. => { s with agent.outbox := s.agent.outbox ++ [⟨via, bs⟩] }
  | .slot n =>
    let s := s.putBar0 (0x1000 * (n + 1) + 0x800) bs
    let s := s.mbxFree n
    (s.setBar mbxDoneOff (setBit (s.bar mbxDoneOff) n true)).signal 0

/-- A management address change takes effect once the reply to its write is sent (R84). -/
def State.addressInForce (s : State) : State :=
  let t := s.agent.addrChange.foldl (fun t w => tput w.key w.val (tdel w.key t)) s.agent.addrInForce
  { s with agent.addrInForce := t, agent.addrChange := [] }

/-- Send a reply with its MAC, and keep it where a session does (R77, R79, R82). -/
def State.sendReply (s : State) (via : Via) (mac : List Byte) (p : Reply) : State :=
  let s := ({ s with agent.lastReply := p }.sendTo via (p.bytes ++ mac)).addressInForce
  let x := s.session p.sess
  if p.sess ≠ 0 ∧ x.isOpen then s.setSession p.sess { x with kept := (p :: x.kept).take 8 } else s

/-- The reply to a request under a session key: session 0's carries no MAC (R75, R87). DEDUCED: log entry 75. -/
def State.reply (s : State) (c : ReqCtx) (key : List Byte) (status : Nat) (more : Bool) (words : List Nat) : State :=
  let p : Reply := { opcode := c.opcode, flags := if more then 3 else 1, status := status, sess := c.sess, seq := c.seq,
                     index := c.index, sub := c.sub, words := words }
  s.sendReply c.via (if c.sess = 0 then [] else macUnder key p.bytes) p

/-! ### Values as they are read (R52–R56, R72) -/

/-- The 24 bytes of a log entry in telemetry ring 0: BAR space is little-endian (R5, R88, Table 3.7a). -/
def LogEntry.ringBytes (x : LogEntry) : List Byte :=
  leBytes 4 x.seq ++ leBytes 8 x.ev.tick ++ leBytes 4 x.ev.life ++ leBytes 2 x.ev.source ++ leBytes 2 x.ev.code ++
    leBytes 4 x.ev.arg

/-- The bytes of a log entry as a dictionary value and in a message (Table 3.7a). -/
def LogEntry.bytes (x : LogEntry) : List Byte :=
  beBytes 4 x.seq ++ beBytes 8 x.ev.tick ++ beBytes 4 x.ev.life ++ beBytes 2 x.ev.source ++ beBytes 2 x.ev.code ++
    beBytes 4 x.ev.arg

/-- The flow-state record of FLOW_QUERY's flow (Table 11.13). -/
def State.flowView (s : State) (f sub : Nat) : Nat :=
  let x := s.flow f
  [f, x.epoch, x.next, x.acked, x.held.length, x.er, x.rn, x.rxHeld.length, x.resent, x.duplicates, x.reserveLosses,
    x.basinLost, x.resyncs].getD (sub - 1) 0

/-- CORE_STATE (Tables 8.7, 13.4): OFF with its domain, MOORED with it, else the state that the map gives. -/
def coreView (dom held : Nat) : Nat := if dom < 2 then 0 else if dom = 2 ∧ held = 1 then 4 else held

/-- An object that shows the unit's present state rather than a register, for a session; none for a register.
REACH_STATE reads as DOMAIN_STATE from reset on. DEDUCED: log entries 5 and 88. -/
def State.computed (s : State) (sess idx sub : Nat) : Option Int :=
  let x := s.session sess
  let n (v : Nat) : Option Int := some (v : Int)
  if sub = 0 then n (entryCount idx)
  else match canonIdx idx, sub with
    | 0x1100, 3 => n (s.life % 2 ^ 32)
    | 0x1120, 1 => n (maskOf 25 s.released)
    | 0x1120, 2 => n (maskOf 12 (fun c => s.released (domCluster c)))
    | 0x1210, _ => n (s.dom (sub - 1))
    | 0x1300, 1 => n ((s.core.log.head?.map (fun e => e.seq)).getD 0)
    | 0x1300, 2 => n ((s.core.log.getLast?.map (fun e => e.seq)).getD 0)
    | 0x1300, 3 => n x.logReadSeq
    | 0x1410, 1 => n ((List.range 16).filter (fun i => (s.session (i + 1)).isOpen)).length
    | 0x1410, 6 => n (maskOf 8 (fun i => s.agent.creds.any (fun c => c.1 == i)))
    | 0x1500, 5 => n x.assayQuery
    | 0x1500, 6 => n (s.assayUnitResult x.assayQuery)
    | 0x1700, 1 => n s.faultCode
    | 0x1710, 17 => n s.board.pins
    | 0x1710, _ => n (s.gpioConfigRead (sub - 1))
    | 0x2000, 2 => n (s.dom (domReach (idxReach idx)))
    | 0x2000, 3 => n (s.heldBy (idxReach idx))
    | 0x2801, _ => n (coreView (s.dom (domQuarter ((sub - 1) / 13))) (s.rdN (objKey idx sub)))
    | 0x3400, 2 => n x.flowQuery
    | 0x3401, _ => n (s.flowView x.flowQuery sub)
    | 0x3801, _ => n (coreView (s.dom domCipher) (s.rdN (objKey idx sub)))
    | 0x4070, 4 => n (beNat s.todNowBytes)
    | 0x40C0, 1 => n s.core.tick
    | _, _ => none

/-- Every log sequence number has been written at least once: its sequence has come round (Table 3.7a). -/
def State.logWrapped (s : State) : Bool := decide (2 ^ 32 - 1 ≤ s.rdN Obj.logOverwritten + s.core.log.length)

/-- LOG_ENTRY at a session's LOG_READ_SEQ (R72). DESIGN CHOICE: log entry 123: once the sequence has come round, a sequence past the
newest entry reads EVICTED. -/
def State.logRead (s : State) (sess : Nat) : Except Nat (List Byte) :=
  let n := (s.session sess).logReadSeq
  match s.core.log.find? (fun e => e.seq == n) with
  | some e => if s.integ.logBad.contains n then .error Status.evicted else .ok e.bytes
  | none => if s.logWrapped || decide (n < s.core.nextSeq) then .error Status.evicted else .error Status.noSubindex

/-- The words of an entry at the read point, or its own object's rejection (R52, R53, R72). `noise` is what the read of
PEEK's slot returns changed (R469). -/
def State.entryWords (s : State) (sess idx sub : Nat) (noise : List (Nat × Byte)) (r : Row) : Except Nat (List Nat) :=
  match canonIdx idx, sub with
  | 0x1300, 4 => (s.logRead sess).map (fun bs => octetWords 24 (beNat bs))
  | 0x3530, 6 => .ok (octetWords 16 (beNat (s.peekBytes noise)))
  | _, _ => .ok (r.ty.encode ((s.computed sess idx sub).getD (s.rd (objKey idx sub))))

/-- What a read of an entry changes: LOG_READ_SEQ goes on (R72), and PEEK reads a slot (R469). -/
def State.readEffect (s : State) (sess : Nat) (noise : List (Nat × Byte)) (idx sub : Nat) : State :=
  match canonIdx idx, sub with
  | 0x1300, 4 =>
    let x := s.session sess
    s.setSession sess { x with logReadSeq := if x.logReadSeq = 2 ^ 32 - 1 then 1 else x.logReadSeq + 1 }
  | 0x3530, 6 => s.peekEffect noise
  | _, _ => s

/-- What the read of PEEK's slot returns changed: what the row of the command table brings, else a free value. -/
def Req.noiseIn (q : Req) (s : State) : List (Nat × Byte) := q.noise.getD (Config.slotNoise s.core.freeCtr)

/-- A free value that a read has used up. -/
def Req.used (q : Req) (s : State) : State :=
  if q.ctx.index = 0x3530 ∧ q.noise.isNone then { s with core.freeCtr := s.core.freeCtr + 1 } else s

/-- READ (R56, Table 3.3a): the words, or the rejection. -/
def State.readOne (s : State) (q : Req) : Except Nat (List Nat) :=
  match entryCheck q.ctx.index q.ctx.sub with
  | .error e => .error e
  | .ok r =>
    if r.acc = .wo then .error Status.writeOnly
    else if s.levelOf q.ctx.sess < s.readLevel q.ctx.index q.ctx.sub then .error Status.accessDenied
    else if q.body ≠ [] then .error Status.typeMismatch
    else if s.ownerOff q.ctx.index then .error Status.unitOff
    else s.entryWords q.ctx.sess q.ctx.index q.ctx.sub (q.noiseIn s) r

/-- The entries after a block's first: whole entries that fit, the sub-indices read, and whether entries remain. -/
def State.blockRest (s : State) (sess idx : Nat) (noise : List (Nat × Byte)) : Nat → Nat → Nat → List Nat × List Nat × Bool
  | 0, _, _ => ([], [], false)
  | fuel + 1, sub, room =>
    if entryCount idx < sub then ([], [], false)
    else match entryCheck idx sub with
      | .error _ => ([], [], true)
      | .ok r =>
        if r.acc ≠ .wo ∧ s.levelOf sess < s.readLevel idx sub then ([], [], true)
        else if room < r.ty.words then ([], [], true)
        else
          match (if r.acc = .wo then Except.ok (List.replicate r.ty.words 0) else s.entryWords sess idx sub noise r) with
          | .error _ => ([], [], true)
          | .ok ws =>
            let (t, subs, more) := s.blockRest sess idx noise fuel (sub + 1) (room - r.ty.words)
            (ws ++ t, sub :: subs, more)

/-- READ_BLOCK (R53, R56): the words, the sub-indices read and MORE, or the rejection. A reply's body is at most 255 words. -/
def State.readMany (s : State) (q : Req) : Except Nat (List Nat × List Nat × Bool) :=
  let idx := q.ctx.index
  match entryCheck idx q.ctx.sub with
  | .error e => .error e
  | .ok r =>
    if r.acc = .wo then .error Status.writeOnly
    else if s.levelOf q.ctx.sess < s.readLevel idx q.ctx.sub then .error Status.accessDenied
    else match q.body with
      | [w] =>
        let room := min 255 w
        if room < r.ty.words then .error Status.tooLong
        else if s.ownerOff idx then .error Status.unitOff
        else match s.entryWords q.ctx.sess idx q.ctx.sub (q.noiseIn s) r with
          | .error e => .error e
          | .ok ws =>
            let (t, subs, more) := s.blockRest q.ctx.sess idx (q.noiseIn s) 256 (q.ctx.sub + 1) (room - r.ty.words)
            .ok (ws ++ t, q.ctx.sub :: subs, more)
      | _ => .error Status.typeMismatch

/-! ### Immediate effects -/

/-- ABORT accepted (R66, R67): what each operation does with it. DEDUCED: log entry 70. -/
def State.abortEffect (s : State) (o : Nat) : State :=
  if o = 1 then s.assayCut.opAbort 1 0
  else if 2 ≤ o ∧ o ≤ 5 then s.setCal (o - 2) { (s.cal (o - 2)) with aborting := 1 }
  else if o = 9 then s.swapAbort
  else if o = 10 then { s with key.batchAbort := true }
  else s.opAbort o 0

/-- A credential is loaded or replaced (R78). -/
def State.credentialPut (s : State) (id level : Nat) (secret : List Byte) : State :=
  { s with agent.creds := tput id { level := level, secret := secret } (tdel id s.agent.creds) }

/-- CREDENTIAL_ERASE (R83): the sessions opened with the credential close. -/
def State.credentialDrop (s : State) (id : Nat) : State :=
  let s : State := { s with agent.creds := tdel id s.agent.creds }
  s.each ((List.range 16).filter (fun i => (s.session (i + 1)).isOpen && (s.session (i + 1)).cred == id))
    (fun s i => s.sessionClose (i + 1) 3)

/-- What the board's monitors give at the start of an assay: what the row brings in, else free values (R451).
DESIGN CHOICE: log entry 4. -/
def State.measured (s : State) (m : Option (Int × Nat × Nat)) : (Int × Nat × Nat) × State :=
  match m with
  | some x => (x, s)
  | none =>
    let (a, s) := s.draw
    let (b, s) := s.draw
    let (c, s) := s.draw
    (((a : Int), b, c), s)

/-- The immediate writes of the reaches' range. -/
def State.reachEffect (s : State) (base idx sub : Nat) (v : Int) : State :=
  let r := idxReach idx
  let g := idxGroup idx
  let w := s.wr (objKey idx sub) v
  match base, sub with
  | 0x2021, 3 => s.calStartOp r
  | 0x2028, _ => w.coeffWritten r (idxConv idx) (sub - 1) v.toNat
  | 0x2040, 4 => s.emergencyOff r 0
  | 0x2040, 5 => s.txOffReleaseOp r
  | 0x2080, 2 => w.cdBankLoad r false
  | 0x2080, 3 => w.cdBankLoad r true
  | 0x2080, 7 => w.showCd r
  | 0x2140, 3 => (w.showTx r g).showRx r g
  | 0x2140, 4 => (w.showTx r g).showRx r g
  | 0x2140, 5 =>
    match s.pairedReach r with
    | some q => w.wr (Obj.peerId q g) v
    | none => w
  | 0x2140, 9 => s.fixedApplyOp r g
  | _, _ => w

/-- The effect of an accepted immediate write (R45): the object's new value, and what its chapter says comes with it.
DEDUCED: log entry 10. -/
def State.effect (s : State) (sess idx sub : Nat) (v : Int) (meas : Option (Int × Nat × Nat)) : State :=
  let n := v.toNat
  let w := s.wr (objKey idx sub) v
  let x := s.session sess
  if 0x2000 ≤ idx ∧ idx < 0x2800 then s.reachEffect (canonIdx idx) idx sub v
  else match canonIdx idx, sub with
    | 0x1100, 7 => w.requestCommit 5 false
    | 0x1100, 9 => s.shutdownOp
    | 0x1100, 13 => s.firmwareLoadOp
    | 0x1110, 6 => s.requestCommit 6 false
    | 0x1180, 7 => s.abortEffect (idx - 0x1180)
    | 0x1200, 2 => s.submitPower (powReqOf n)
    | 0x1200, 13 => s.wakePeerOp n
    | 0x1300, 3 => s.setSession sess { x with logReadSeq := n }
    | 0x1400, 1 => w
    | 0x1400, _ => { w with agent.addrChange := w.agent.addrChange ++ [⟨objKey idx sub, v⟩] }
    | 0x1410, 7 =>
      match s.credentialOf n with
      | some (id, level, secret) => s.credentialPut id level secret
      | none => s
    | 0x1410, 8 => s.credentialDrop n
    | 0x1500, 4 =>
      let ((pll, low, high), s) := s.measured meas
      s.assayRunOp n pll low high
    | 0x1500, 5 => s.setSession sess { x with assayQuery := n }
    | 0x1550, 7 => s.serveFailure n true
    | 0x1600, 3 => s.injectOp n
    | 0x1620, 3 => s.lengthPut (idx - 0x1620) 0 v
    | 0x1620, 4 => s.lengthPut (idx - 0x1620) 1 v
    | 0x1700, 3 => s.wrN Obj.alarmLatch 0
    | 0x1710, _ => w.gpioWritten (sub - 1) (s.rdN (objKey idx sub))
    | 0x1720, 2 => s.twiOp (idx - 0x1720) n
    | 0x3001, 14 => s.injectPut (idxBerth idx) (beBytes 1020 n)
    | 0x300F, 1 => w.berthLayout ((idx - 0x3000) / 0x80)
    | 0x3400, 2 => s.setSession sess { x with flowQuery := n }
    | 0x3590, 1 => s.unitModeOp (idx - 0x3590) n
    | 0x3804, 1 => (s.importEntry (beBytes 60 n)).1
    | 0x3804, 2 => s.batchStart n
    | 0x3805, _ => { s with key.batch := tset (fun _ => List.replicate 60 0#8) s.key.batch (sub - 1) (beBytes 60 n) }
    | 0x3820, 9 =>
      let r := idxKeyReach idx
      let g := idxKeyGroup idx
      if s.keySt r g = 2 then s.setKg r g { (s.kg r g) with roll := true } else s
    | 0x4070, 1 => s.todAssociateOp (beBytes 20 n)
    | 0x4070, 2 => w.showTod
    | 0x4100, 4 => s.wakeMateOp
    | 0x4110, 2 => s.loopbackOp (idx - 0x4110) n
    | 0x4110, 4 => s.laneRetrain (idx - 0x4110)
    | 0x5000, 3 => s.engineLoadOp (clusterOf idx) n
    | 0x5310, 1 => s.partitionOp (idx - 0x5310) n (s.rdN (Obj.clusterCount (idx - 0x5310)))
    | 0x5310, 2 => s.partitionOp (idx - 0x5310) (s.rdN (Obj.firstCluster (idx - 0x5310))) n
    | 0x5400, 15 => s.wrN (objKey idx 14) (s.rdN (objKey idx 14) &&& (511 - n))
    | _, _ => w

/-! ### Staging (R32–R34, R58) -/

/-- The places an accepted staged write takes: GROUP_ENABLE of a REACH unit's group is written for both reaches (R304). -/
def State.stagedEntries (s : State) (idx sub : Nat) (v : Int) : List StagedWrite :=
  match canonIdx idx, sub with
  | 0x2140, 1 =>
    match s.pairedReach (idxReach idx) with
    | some q => [⟨objKey idx sub, v⟩, ⟨Obj.groupEnable q (idxGroup idx), v⟩]
    | none => [⟨objKey idx sub, v⟩]
  | _, _ => [⟨objKey idx sub, v⟩]

/-- A write joins the open window; an earlier one of the same object is overwritten (R34). -/
def State.stage (s : State) (w : StagedWrite) : State :=
  let s := s.onlyIf (s.core.window.any (fun x => x.key == w.key)) (fun s => s.inc Obj.stagedOverwritten)
  { s with core.window := s.core.window ++ [w] }

/-- A write that has passed every check takes effect or joins the window (R57). -/
def State.putWrite (s : State) (sess idx sub : Nat) (r : Row) (v : Int) (meas : Option (Int × Nat × Nat)) : State :=
  if r.staged then s.each (s.stagedEntries idx sub v) State.stage else s.effect sess idx sub v meas

/-- The open window has room for the writes, and none waits before them (R33, R60; log entry 30).
DEDUCED: log entry 30. -/
def State.windowTakes (s : State) (n : Nat) : Bool :=
  s.core.windowOpen && s.core.held.isEmpty && decide (s.core.window.length + n ≤ 256)

/-- A block's failure: the status, the sub-index, and the wrapping slot of a failed key import (R337). -/
abbrev BlockErr := Nat × Nat × Option Nat

/-- Checks 4 to 9 of each entry in turn, earlier entries in effect (R61). -/
def State.runBlock (s : State) (sess idx : Nat) (meas : Option (Int × Nat × Nat)) :
    List (Nat × Row × List Nat) → Except BlockErr State
  | [] => .ok s
  | (sub, r, ws) :: t =>
    match bodyStatus idx sub r ws with
    | .error e => .error (e, sub, none)
    | .ok v =>
      match s.writeTail idx sub r v with
      | some e => .error (e, sub, if idx = 0x3804 ∧ sub = 1 ∧ e = Status.refused then some (v.toNat / 2 ^ 472) else none)
      | none => (s.putWrite sess idx sub r v meas).runBlock sess idx meas t

/-- Checks 4 to 6 alone, for a write that is to wait (R58). -/
def decodeBlock (idx : Nat) : List (Nat × Row × List Nat) → Except BlockErr (List StagedWrite)
  | [] => .ok []
  | (sub, r, ws) :: t =>
    match bodyStatus idx sub r ws with
    | .error e => .error (e, sub, none)
    | .ok v =>
      match decodeBlock idx t with
      | .error e => .error e
      | .ok l => .ok (⟨objKey idx sub, v⟩ :: l)

/-- Checks 7 to 9 of a held write's entries, at its accept point (R58). -/
def State.runHeld (s : State) (sess : Nat) : List StagedWrite → Except BlockErr State
  | [] => .ok s
  | w :: t =>
    let idx := w.key / 256
    let sub := w.key % 256
    match rowAt idx sub with
    | none => .ok s
    | some r =>
      match s.writeTail idx sub r w.val with
      | some e => .error (e, sub, none)
      | none => (s.putWrite sess idx sub r w.val none).runHeld sess t

/-- A failed key import's own consequence (R337). -/
def State.rejected (s : State) (kek : Option Nat) : State :=
  match kek with
  | some k => s.importFailed k
  | none => s

/-- A write's entries after checks 1 to 3: rejected, accepted, or held with no reply yet. A block's rejection names the failing
sub-index (R61). DEDUCED: log entry 73. -/
def State.writeEntries (s : State) (q : Req) (key : List Byte) (block : Bool) (es : List (Nat × Row × List Nat)) : State :=
  let c := q.ctx
  let fail (s : State) (e : BlockErr) : State :=
    (s.rejected e.2.2).reply c key e.1 false (if block then [e.2.1] else [])
  let staged := es.any (fun e => e.2.1.staged)
  match decodeBlock c.index es with
  | .error e =>
    match s.runBlock c.sess c.index q.meas es with
    | .error e' => if staged && !s.windowTakes es.length then fail s e else fail s e'
    | .ok _ => fail s e
  | .ok ws =>
    let places := ws.foldl (fun n w => n + (s.stagedEntries c.index (w.key % 256) w.val).length) 0
    if staged && !s.windowTakes places then
      let h : HeldWrite := ⟨c, ws⟩
      { s with core.held := s.core.held ++ [h] }.inc Obj.deferredWrites
    else match s.runBlock c.sess c.index q.meas es with
      | .error e => fail s e
      | .ok s' => s'.reply c key Status.ok false []

/-- WRITE (R57). -/
def State.writeOne (s : State) (q : Req) (key : List Byte) : State :=
  match s.writeHead q.ctx.sess q.ctx.index q.ctx.sub with
  | .error e => s.reply q.ctx key e false []
  | .ok r => s.writeEntries q key false [(q.ctx.sub, r, q.body)]

/-- A block's body cut into its entries' words, and whether it goes past the object's last sub-index. -/
def splitBlock (idx last : Nat) : Nat → Nat → List Nat → List (Nat × List Nat) × Bool
  | 0, _, _ => ([], false)
  | fuel + 1, sub, ws =>
    if last < sub then ([], !ws.isEmpty)
    else
      let n := match rowAt idx sub with
        | some r => r.ty.words
        | none => 1
      if ws.length ≤ n then ([(sub, ws)], false)
      else
        let (t, long) := splitBlock idx last fuel (sub + 1) (ws.drop n)
        ((sub, ws.take n) :: t, long)

/-- Checks 1 to 3 of a block's entries, ascending. -/
def State.blockHead (s : State) (sess idx : Nat) : List (Nat × List Nat) → Except BlockErr (List (Nat × Row × List Nat))
  | [] => .ok []
  | (sub, ws) :: t =>
    match s.writeHead sess idx sub with
    | .error e => .error (e, sub, none)
    | .ok r => (s.blockHead sess idx t).map (fun l => (sub, r, ws) :: l)

/-- WRITE_BLOCK (R61). -/
def State.writeMany (s : State) (q : Req) (key : List Byte) : State :=
  let c := q.ctx
  let last := entryCount c.index
  let fail (e sub : Nat) : State := s.reply c key e false [sub]
  if last < c.sub then
    fail (if rowsOf c.index = [] then Status.unknownObject else Status.noSubindex) c.sub
  else
    let (parts, long) := splitBlock c.index last 256 c.sub q.body
    match s.blockHead c.sess c.index parts with
    | .error e => fail e.1 e.2.1
    | .ok es =>
      if long then fail Status.tooLong (last + 1)
      else match es.find? (fun e => e.2.1.staged != (es.head?.any (fun h => h.2.1.staged))) with
        | some e => fail Status.mixedBlock e.1
        | none => s.writeEntries q key true es

/-- Held writes are accepted into the window that has just opened, in order of arrival, until one finds no room (R33, R58).
DEDUCED: log entry 30. -/
def State.acceptHeld (s : State) : Nat → State
  | 0 => s
  | fuel + 1 =>
    match s.core.held with
    | [] => s
    | h :: t =>
      let places := h.entries.foldl (fun n w => n + (s.stagedEntries (w.key / 256) (w.key % 256) w.val).length) 0
      if 256 < s.core.window.length + places then s
      else
        let s : State := { s with core.held := t }
        let x := s.session h.ctx.sess
        let answer (s : State) (e : Nat) (ws : List Nat) : State :=
          if h.ctx.sess = 0 ∨ x.isOpen then
            let s := s.reply h.ctx x.key e false ws
            if h.ctx.sess ≠ 0 ∧ h.ctx.seq = 2 ^ 32 - 1 then s.sessionClose h.ctx.sess 2 else s
          else match h.ctx.via with
            | .slot n => s.mbxFree n
            | _ => s
        match s.runHeld h.ctx.sess h.entries with
        | .error e => (answer s e.1 (if h.ctx.opcode = 4 then [e.2.1] else [])).acceptHeld fuel
        | .ok s' => (answer s' Status.ok []).acceptHeld fuel

/-! ### Sessions (R73, R78–R83) -/

/-- A message that is discarded for want of authentication (R71, R81). -/
def State.authFail (s : State) : State := (s.inc Obj.authFailures).raiseLimited 0x8003 0x1410 1

/-- R80: the sequence is above the highest accepted, or within the window below it and not seen. -/
def Session.accepts (x : Session) (n : Nat) : Bool :=
  decide (0 < n) && (decide (x.hi < n) || (decide (x.hi ≤ n + 63) && !x.seen.contains n))

/-- A request is accepted: the window moves on (R80), the idle time starts anew (R83), and notifications go where it came from. -/
def Session.accept (x : Session) (n tick : Nat) (via : Via) : Session :=
  let hi := max x.hi n
  { x with hi := hi, seen := (n :: x.seen).filter (fun m => decide (hi ≤ m + 63)), lastTick := tick, via := via }

/-- SUBSCRIBE (R73, Table 3.10): the subscription of a slot, or the rejection; reserved bits of the message are ignored (R6).
DESIGN CHOICE: log entry 96. -/
def subscriptionOf (body : List Nat) : Except Nat (Nat × Subscription) :=
  match body with
  | [a, b] =>
    if 7 < bitsOf a 31 24 then .error Status.outOfRange
    else .ok (bitsOf a 31 24, ⟨bitOf a 0, bitsOf a 9 8, bitsOf b 31 16, bitsOf b 15 0⟩)
  | _ => .error Status.typeMismatch

/-- The lowest free session number (R79). DEDUCED: log entry 75. -/
def State.freeSession (s : State) : Option Nat :=
  ((List.range 16).find? (fun i => !(s.session (i + 1)).isOpen)).map (· + 1)

/-- Serve a request that the agent has accepted, by its opcode (Table 3.10; an opcode not listed and NOTIFY are
UNKNOWN_OPCODE). DESIGN CHOICE: log entry 121. -/
def State.serve (s : State) (q : Req) (key : List Byte) : State :=
  let c := q.ctx
  match c.opcode with
  | 1 =>
    match s.readOne q with
    | .error e => s.reply c key e false []
    | .ok ws => (q.used (s.readEffect c.sess (q.noiseIn s) c.index c.sub)).reply c key Status.ok false ws
  | 2 => s.writeOne q key
  | 3 =>
    match s.readMany q with
    | .error e => s.reply c key e false []
    | .ok (ws, subs, more) =>
      (q.used (s.each subs (fun s' sub => s'.readEffect c.sess (q.noiseIn s) c.index sub))).reply c key Status.ok more ws
  | 4 => s.writeMany q key
  | 5 =>
    match subscriptionOf q.body with
    | .error e => s.reply c key e false []
    | .ok (slot, x) =>
      let y := s.session c.sess
      (s.setSession c.sess { y with subs := tput slot x (tdel slot y.subs) }).reply c key Status.ok false []
  | 8 => (s.reply c key Status.ok false []).sessionClose c.sess 0
  | _ => s.reply c key Status.unknownOpcode false []

/-- A message of the mailbox that gets no reply frees its slot (log entry 31). -/
def State.discard (s : State) (via : Via) : State :=
  match via with
  | .slot n => s.mbxFree n
  | _ => s

/-- A request waits with its write (R33): its reply is still to come. -/
def State.heldRequest (s : State) (c : ReqCtx) : Bool := s.core.held.any (fun h => h.ctx.sess == c.sess && h.ctx.seq == c.seq)

/-- A request of a session (R80–R82): session 0 executes everything it receives; another's is checked against its window, and
a RETRY of an accepted one gets its kept reply again, or is discarded uncounted where none is kept. DEDUCED: log entries 82 and 116. -/
def State.request (s : State) (q : Req) : State :=
  let c := q.ctx
  if c.sess = 0 then s.serve q []
  else
    let x := s.session c.sess
    if !x.isOpen ∨ 16 < c.sess then s.authFail.discard c.via
    else
      match (if q.retry then x.kept.find? (fun p => p.seq == c.seq) else none) with
      | some p =>
        { s with agent.lastReply := p }.sendTo c.via (p.bytes ++ macUnder x.key p.bytes)
      | none =>
        if q.retry && x.seen.contains c.seq then s.discard c.via
        else if !x.accepts c.seq then (s.inc Obj.replayed).discard c.via
        else
          let s := (s.setSession c.sess (x.accept c.seq s.core.tick c.via)).serve q x.key
          if c.seq = 2 ^ 32 - 1 ∧ ¬ s.heldRequest c then s.sessionClose c.sess 2 else s

/-- OPEN (R79): the credential's ID, the client nonce, and whether the MAC verifies under its secret. `bodyOk`: LENGTH is 5.
DEDUCED: log entry 75. DESIGN CHOICE: log entry 132: a verified OPEN of another LENGTH answers TYPE_MISMATCH. -/
def State.openOp (s : State) (via : Via) (seq index sub cred : Nat) (nonce : List Byte) (macOk bodyOk : Bool) : State :=
  let say (s : State) (mac : List Byte → List Byte) (status : Nat) (ws : List Nat) : State :=
    let p : Reply := { opcode := 7, flags := 1, status := status, sess := 0, seq := seq, index := index, sub := sub, words := ws }
    s.sendReply via (mac p.bytes) p
  match s.agent.creds.find? (fun c => c.1 == cred) with
  | none => say s (fun _ => List.replicate 16 0#8) Status.unknownCredential []
  | some (_, k) =>
    if !macOk then s.authFail.discard via
    else if !bodyOk then say s (macUnder k.secret) Status.typeMismatch []
    else match s.freeSession with
      | none => say s (macUnder k.secret) Status.sessionLimit []
      | some n =>
        let (s, dn) := s.drawNonce []
        let name := ("UANDATEN-S".toList.map (fun ch => BitVec.ofNat 8 ch.toNat))
        let key := hmacSha256 k.secret (name ++ beBytes 1 cred ++ nonce ++ dn)
        let s := s.setSession n { isOpen := true, cred := cred, level := k.level, key := key, lastTick := s.core.tick, via := via }
        let s := s.raise 0x4001 0x1410 (cred * 65536 + n)
        say s (macUnder key) Status.ok ((k.level * 2 ^ 24 + n) :: octetWords 16 (beNat dn))

/-! ### The commands that are requests -/

/-- A request given as a command of its own: nothing is served before step 6 (R97). -/
def State.direct (s : State) (q : Req) : State := if s.agent.serving then s.request q else s

/-- The request of a command. -/
def mkReq (sess seq opcode index sub : Nat) (body : List Nat) : Req :=
  { ctx := ⟨.direct, sess, seq % 2 ^ 32, opcode, index % 65536, sub % 256⟩, body := (body.take 255).map (· % 2 ^ 32) }

/-- READ. -/
def execReadReq (sess : Fin 17) (seq index sub : Nat) (body : List Nat) (s : State) : Host.Outcome State Fault Refusal :=
  .next (s.direct (mkReq sess seq 1 index sub body))

/-- READ_BLOCK. -/
def execReadBlock (sess : Fin 17) (seq index sub : Nat) (body : List Nat) (s : State) : Host.Outcome State Fault Refusal :=
  .next (s.direct (mkReq sess seq 3 index sub body))

/-- WRITE. -/
def execWriteReq (sess : Fin 17) (seq index sub : Nat) (body : List Nat) (s : State) : Host.Outcome State Fault Refusal :=
  .next (s.direct (mkReq sess seq 2 index sub body))

/-- WRITE_BLOCK. -/
def execWriteBlock (sess : Fin 17) (seq index sub : Nat) (body : List Nat) (s : State) : Host.Outcome State Fault Refusal :=
  .next (s.direct (mkReq sess seq 4 index sub body))

/-- SUBSCRIBE. -/
def execSubscribe (sess : Fin 17) (seq : Nat) (body : List Nat) (s : State) : Host.Outcome State Fault Refusal :=
  .next (s.direct (mkReq sess seq 5 0 0 body))

/-- CLOSE (R83). DESIGN CHOICE: log entry 121: a body is ignored. -/
def execCloseSession (sess : Fin 17) (seq : Nat) (s : State) : Host.Outcome State Fault Refusal :=
  .next (s.direct (mkReq sess seq 8 0 0 []))

/-- The header and body of an OPEN, which its MAC covers (R75, R79). -/
def openBytes (cred : Nat) (nonce : List Byte) (seq : Nat) : List Byte :=
  let words := (cred % 256 * 2 ^ 24) :: octetWords nonce.length (beNat nonce)
  ({ opcode := 7, seq := seq % 2 ^ 32, words := words } : Reply).bytes

/-- OPEN. -/
def execOpenSession (cred : Nat) (nonce : List Byte) (seq : Nat) (mac : List Byte) (s : State) : Host.Outcome State Fault Refusal :=
  let ok := s.agent.creds.any (fun c => c.1 == cred % 256 && macUnder c.2.secret (openBytes cred nonce seq) == mac)
  .next (if s.agent.serving then
    s.openOp .direct (seq % 2 ^ 32) 0 0 (cred % 256) nonce ok (decide (nonce.length = 16)) else s)

/-- REQUEST_RETRY (R82): a repetition with RETRY set. Session 0 ignores RETRY: a request that it repeats is a row of its own. -/
def execRequestRetry (sess : Fin 17) (seq : Nat) (s : State) : Host.Outcome State Fault Refusal :=
  let x := s.session sess
  if !s.agent.serving ∨ sess.val = 0 ∨ (x.isOpen = true ∧ x.accepts seq = true) then .next s
  else .next (s.request { mkReq sess seq 1 0 0 [] with retry := true })

/-- SESSION_IDLE_TIMEOUT (R83). -/
def execSessionIdleTimeout (sess : Fin 17) (s : State) : Host.Outcome State Fault Refusal :=
  let x := s.session sess
  if sess.val ≠ 0 ∧ x.isOpen = true ∧ x.lastTick + s.rdN Obj.idleTimeout ≤ s.core.tick then .next (s.sessionClose sess 1)
  else .next s

/-- LOG_ENTRY_READ (R72). -/
def execLogEntryRead (sess : Fin 17) (seq : Nat) (s : State) : Host.Outcome State Fault Refusal :=
  .next (s.direct (mkReq sess seq 1 0x1300 4 []))

/-- A WRITE of an object's value, as the command rows that are writes give it. DEDUCED: log entry 10. -/
def State.write (s : State) (sess : Fin 17) (seq key : Nat) (words : List Nat) : State :=
  s.direct (mkReq sess seq 2 (key / 256) (key % 256) words)

/-- A WRITE of a one-word value. -/
def State.write1 (s : State) (sess : Fin 17) (seq key v : Nat) : State := s.write sess seq key [v]

/-! ### Events reach the log (R68, R70–R74, R231) -/

/-- A subscription of a session matches an event (R73). -/
def Session.wants (x : Session) (e : Event) : Bool :=
  x.subs.any (fun q => q.2.enable && decide (q.2.minSev ≤ severity e.code) && (e.source &&& q.2.mask) == (q.2.source &&& q.2.mask))

/-- The NOTIFY of a log entry (R73, R77). DEDUCED: log entry 72. -/
def notifyOf (n seq : Nat) (lost : Bool) (x : LogEntry) : Reply :=
  { opcode := 6, flags := if lost then 8 else 0, status := 0, sess := n, seq := seq, index := 0, sub := 0,
    words := octetWords 24 (beNat x.bytes) }

/-- Send what a session's notification queue holds, where its last request came from: a mailbox has no way to be told, so its
sessions keep their queue (log entry 32). DESIGN CHOICE: log entry 32. DESIGN CHOICE: log entry 122: the sequence of NOTIFYs comes
round to 1. -/
def State.drainNotify (s : State) (n : Nat) : Nat → State
  | 0 => s
  | fuel + 1 =>
    let x := s.session n
    match x.via, x.queue with
    | .slot _, _ => s
    | _, [] => s
    | via, e :: t =>
      let p := notifyOf n x.notifySeq x.lost e
      let s := s.setSession n { x with queue := t, lost := false, overflow := false, notifySeq := x.notifySeq % (2 ^ 32 - 1) + 1 }
      let m : Sent := ⟨via, p.bytes ++ macUnder x.key p.bytes⟩
      { s with agent.outbox := s.agent.outbox ++ [m] }.drainNotify n fuel

/-- Notify a session of a log entry (R73, R74, R88). -/
def State.notify (s : State) (n : Nat) (x : LogEntry) : State :=
  let y := s.session n
  if !y.wants x.ev then s
  else if n = 0 then s.ringWrite 0 x.ringBytes
  else if !y.isOpen then s
  else if y.queue.length < 64 then s.setSession n { y with queue := y.queue ++ [x] }
  else
    let s := s.setSession n { y with queue := y.queue.drop 1 ++ [x], lost := true, overflow := true }
    s.onlyIf (!y.overflow) (fun s => s.raise 0x8004 0x1410 n)

/-- EVENT_LOGGED (R68, R508): the entry takes the next sequence; a full ring loses its oldest; an alarm sets the latch. -/
def State.logEvent (s : State) (e : Event) : State :=
  let n := s.core.nextSeq
  let s := s.onlyIf (decide (4096 ≤ s.core.log.length)) (fun s => s.inc Obj.logOverwritten)
  let l := s.core.log ++ [⟨n, e⟩]
  let s : State := { s with core.log := l.drop (l.length - 4096), core.nextSeq := if n = 2 ^ 32 - 1 then 1 else n + 1 }
  let s := s.onlyIf (severity e.code == 3) (fun s => s.wrN Obj.alarmLatch 1)
  (s.each (List.range 17) (fun s i => s.notify i ⟨n, e⟩))

/-- The largest count a tally has delivered in one destination cycle (R42). -/
def State.showTallyStep (s : State) (n : Nat) : State := s.wrN Obj.tallyMaxStep (max (s.rdN Obj.tallyMaxStep) n)

/-- The first n events on their way from a source, and the others, in order. -/
def takeEvents (source : Nat) : Nat → List Event → List Event × List Event
  | _, [] => ([], [])
  | n, e :: t =>
    if e.source = source ∧ 0 < n then
      let (a, b) := takeEvents source (n - 1) t
      (e :: a, b)
    else
      let (a, b) := takeEvents source n t
      (a, e :: b)

/-- The number of a chamber in the table of chambers. -/
def ChamberAt.key : ChamberAt → Nat
  | .argument source => 4 * source
  | .mooring c e m word => 4 * (((16 * c.val + e.val) * 4 + m.val) * 8 + word.val) + 1
  | .mailbox slot word => 4 * (512 * slot.val + word.val) + 2
  | .value n => 4 * n + 3

/-- An event's argument crosses in its source's chamber (Table 2.4): the source holds it until the chamber is free, so it overtakes
none, and its acknowledge completes with the event's delivery. DEDUCED: log entry 97. -/
def State.argumentCrosses (s : State) (source arg : Nat) : State :=
  let k := ChamberAt.key (.argument source)
  { s with core.chambers := tmod (fun _ => {}) s.core.chambers k (fun x => (x.write arg).1.ack) }

/-- A source's tally delivers events to the log, each with its argument (R42, R68, Table 2.4). DEDUCED: log entry 97. -/
def State.logDelivery (s : State) (source n : Nat) : State :=
  let (es, rest) := takeEvents source n s.core.inFlight
  let x := tget (fun _ => {}) s.core.tallies source
  let y : Tally := { x with src := (x.src + es.length) % 2 ^ 16 }
  let s : State := { s with core.inFlight := rest, core.tallies := tset (fun _ => {}) s.core.tallies source y.deliver }
  let s := s.each es (fun s e => s.argumentCrosses source e.arg)
  let s := (s.showTallyStep y.step).each es State.logEvent
  s.each (List.range 16) (fun s i => s.drainNotify (i + 1) 64)

/-- The last boundary reaches a fractional or asynchronous domain (R31). DEDUCED: log entry 97. -/
def State.boundaryReceived (s : State) (d : Nat) : State :=
  if s.core.boundarySent = 0 ∨ s.core.boundaryGot.contains d then s
  else { s with core.boundaryGot := s.core.boundaryGot ++ [d] }.showTallyStep 1

/-- TALLY_DELIVERY (R42, Table 2.4). -/
def execTallyDelivery (t : TallyAt) (n : Nat) (s : State) : Host.Outcome State Fault Refusal :=
  match t with
  | .log source => .next (s.logDelivery source n)
  | .boundary d => .next (s.boundaryReceived d)

/-- CHAMBER_DELIVERY (R41): the values written since the last delivery, the capture of the value in the chamber and its
acknowledge. DEDUCED: log entry 97. -/
def execChamberDelivery (ch : ChamberAt) (writes : List Nat) (s : State) : Host.Outcome State Fault Refusal :=
  let x := tget (fun _ => {}) s.core.chambers (ChamberAt.key ch)
  let (x, lost) := writes.foldl (fun (q : Chamber × Nat) v => let (c, k) := q.1.write v; (c, q.2 + k)) (x, 0)
  .next ({ s with core.chambers := tset (fun _ => {}) s.core.chambers (ChamberAt.key ch) x.ack }.incBy Obj.chamberSuperseded lost)

/-- RATE_LIMIT_PERIOD_END (R231): a period that held events back ends with one that carries them, and a new period begins;
a period that held none is over. -/
def execRateLimitPeriodEnd (code source : Nat) (s : State) : Host.Outcome State Fault Refusal :=
  let gone := s.core.limits.filter (fun l => l.code == code && l.source == source && decide (l.ends ≤ s.core.tick))
  let keep := s.core.limits.filter (fun l => !(l.code == code && l.source == source && decide (l.ends ≤ s.core.tick)))
  let s : State := { s with core.limits := keep }
  .next (s.each gone (fun s l =>
    if l.held = 0 then s
    else s.raiseLimitedItem l.code l.source l.item l.held l.last))

end Sys2Proof.Machine
end

