-- ==== Sys2Proof/Machine/HostPort.lean ====
section
/-! DEFINITION. The carriers of the dictionary: the management port's datagrams (R75, R76, R81, R84), and the host port's
mailbox, telemetry rings and DMA channels (R85–R92, R97); and the steps of start-up after which mailboxes that waited are
served. -/
namespace Sys2Proof.Machine

/-! ### Messages -/

/-- A message's header fields, body words and MAC (Table 3.9); `signed` is what the MAC covers. -/
structure Msg where
  opcode : Nat
  flags : Nat
  sess : Nat
  seq : Nat
  index : Nat
  sub : Nat
  words : List Nat
  signed : List Byte
  mac : List Byte
  deriving DecidableEq, Repr

/-- The words of a byte list, most significant byte first. -/
def wordsOf : Nat → List Byte → List Nat
  | 0, _ => []
  | n + 1, bs => beNat (bs.take 4) :: wordsOf n (bs.drop 4)

/-- Read a message (R75, R76): none where MAGIC, VERSION or the size is wrong. A datagram has exactly the message's size; a
mailbox slot holds it at its start. -/
def parseMsg (exact : Bool) (bs : List Byte) : Option Msg :=
  let len := hdrField bs 15 1
  let sess := hdrField bs 6 2
  let op := hdrField bs 3 1
  let mac := if sess ≠ 0 ∨ op = 7 then 16 else 0
  let size := 16 + 4 * len + mac
  if bs.length < 16 ∨ hdrField bs 0 2 ≠ 0x55DA ∨ hdrField bs 2 1 ≠ 1 ∨ bs.length < size ∨ (exact ∧ bs.length ≠ size) then none
  else some { opcode := op, flags := hdrField bs 4 1, sess := sess, seq := hdrField bs 8 4, index := hdrField bs 12 2,
              sub := hdrField bs 14 1, words := wordsOf len (bs.drop 16), signed := bs.take (16 + 4 * len),
              mac := (bs.drop (16 + 4 * len)).take mac }

/-- An OPEN message (R79, R81): a body without a credential ID names no credential. -/
def State.openMsg (s : State) (via : Via) (m : Msg) : State :=
  match m.words with
  | [] => s.authFail.discard via
  | w :: _ =>
    let id := w / 2 ^ 24
    let ok := s.agent.creds.any (fun c => c.1 == id && macUnder c.2.secret m.signed == m.mac)
    s.openOp via m.seq m.index m.sub id ((m.words.drop 1).flatMap (beBytes 4)) ok (m.words.length == 5)

/-- Serve a message of a carrier (R75, R79–R82): a MAC that fails, and a session that is not open, discard it with a count. -/
def State.message (s : State) (via : Via) (m : Msg) : State :=
  if m.opcode = 7 then (if m.sess = 0 then s.openMsg via m else s.authFail.discard via)
  else
    let x := s.session m.sess
    if m.sess ≠ 0 ∧ (16 < m.sess ∨ ¬ x.isOpen ∨ macUnder x.key m.signed ≠ m.mac) then s.authFail.discard via
    else s.request { ctx := ⟨via, m.sess, m.seq, m.opcode, m.index, m.sub⟩, body := m.words, retry := bitOf m.flags 2 }

/-- UANDATEN_DATAGRAM_RX (R76, R81, R97): it is a wake source (Table 20.6, R494); in DORMANT it is not served, and before the agent
serves it is dropped. -/
def execUandatenDatagramRx (addr port : Nat) (fragment : Bool) (bytes : List Byte) (s : State) :
    Host.Outcome State Fault Refusal :=
  let dormant := s.power.dormant
  let s := s.wakeOp 0
  if dormant then .next s
  else if !s.agent.serving ∨ fragment = true then .next s
  else match parseMsg true bytes with
    | none => .next s
    | some m => if m.sess = 0 ∧ m.opcode ≠ 7 then .next s else .next (s.message (.udp addr port) m)

/-! ### The mailbox (R86, R87, R97) -/

/-- Bytes of BAR0, from a dword boundary. -/
def State.barBytes (s : State) (off dwords : Nat) : List Byte :=
  (List.range dwords).flatMap (fun i => leBytes 4 (s.bar (off + 4 * i)))

/-- Serve the request in a slot. DEDUCED: log entry 82. -/
def State.serveSlot (s : State) (n : Nat) : State :=
  match parseMsg false (s.barBytes (0x1000 * (n + 1)) 512) with
  | none => s.mbxFree n
  | some m => s.message (.slot n) m

/-- Slots submitted before the agent served are served, in ascending order (R97). -/
def State.serveHeld (s : State) : State :=
  if s.agent.serving then
    let slots := upto 4 (fun n => s.agent.heldSlots.contains n)
    ({ s with agent.heldSlots := [] } : State).each slots State.serveSlot
  else s

/-- A submit of one slot (R87). -/
def State.submitSlot (s : State) (n : Nat) : State :=
  if bitOf (s.bar mbxBusyOff) n || bitOf (s.bar mbxDoneOff) n then
    s.setBar mbxErrorOff (setBit (s.bar mbxErrorOff) n true)
  else
    let s := s.setBar mbxBusyOff (setBit (s.bar mbxBusyOff) n true)
    if s.agent.serving then s.serveSlot n else { s with agent.heldSlots := s.agent.heldSlots ++ [n] }

/-- MBX_SUBMIT: the slots whose bits are written, in ascending order (R60). -/
def State.submitSlots (s : State) (bits : Nat) : State := s.each (upto 4 (bitOf bits)) State.submitSlot

/-- A write-1-to-clear register of four bits. -/
def State.clearBits (s : State) (off bits : Nat) : State := s.setBar off (s.bar off &&& (15 - bits % 16))

/-- MBX_SUBMIT. -/
def execMbxSubmit (bits : Nat) (s : State) : Host.Outcome State Fault Refusal := .next (s.submitSlots bits)

/-- MBX_DONE_CLEAR. -/
def execMbxDoneClear (bits : Nat) (s : State) : Host.Outcome State Fault Refusal := .next (s.clearBits mbxDoneOff bits)

/-- MBX_ERROR_CLEAR. -/
def execMbxErrorClear (bits : Nat) (s : State) : Host.Outcome State Fault Refusal := .next (s.clearBits mbxErrorOff bits)

/-- PCIE_LINK_UP (R97): slots that waited are served once the agent serves. -/
def execPcieLinkUp (s : State) : Host.Outcome State Fault Refusal :=
  .next ({ s with agent.pcieUp := true } : State).serveHeld

/-! ### Telemetry rings and DMA channels (R89–R92) -/

/-- A TAIL write; one that would take the fill above the capacity is ignored (R91). -/
def State.ringTailTo (s : State) (q v : Nat) : State :=
  if ringCapacity q < (s.bar (ringHeadOff q) + 2 ^ 32 - v % 2 ^ 32) % 2 ^ 32 then s else s.setBar (ringTailOff q) v

/-- RING_TAIL_WRITE. -/
def execRingTailWrite (q : Fin 16) (v : Nat) (s : State) : Host.Outcome State Fault Refusal := .next (s.ringTailTo q v)

/-- A channel is enabled. -/
def State.dmaOn (s : State) (n : Nat) : Bool := bitOf (s.bar (dmaOff n + 0x14)) 0

/-- RING_SIZE is a power of two from 2 to 4,096 (R91). -/
def dmaSizeOk (v : Nat) : Bool := (List.range 12).any (fun i => v == 2 ^ (i + 1))

/-- CHANNEL_CONTROL's ENABLE bit is written (R91): a halted channel resumes at the next descriptor once it has been cleared. -/
def State.dmaEnable (s : State) (n : Nat) (on : Bool) (next : List Byte) : State :=
  if !on then s.setBar (dmaOff n + 0x14) 0
  else if !dmaSizeOk (s.bar (dmaOff n + 0x08)) then s
  else
    let s : State := if s.dmaOn n then s else { s with agent.dmaHalted := s.agent.dmaHalted.filter (· != n) }
    (s.setBar (dmaOff n + 0x14) 1).dmaFetch n next

/-- CHANNEL_CONTROL's RESET bit is written 1 (R91). -/
def State.dmaReset (s : State) (n : Nat) : State :=
  if s.dmaOn n then s else (s.setBar (dmaOff n + 0x0C) 0).setBar (dmaOff n + 0x10) 0

/-- CHANNEL_ENABLE. -/
def execChannelEnable (n : Fin 8) (on : Bool) (next : List Byte) (s : State) : Host.Outcome State Fault Refusal :=
  .next (s.dmaEnable n on next)

/-- CHANNEL_RESET. -/
def execChannelReset (n : Fin 8) (s : State) : Host.Outcome State Fault Refusal := .next (s.dmaReset n)

/-- RING_TAIL is written: descriptors are ready. -/
def State.dmaTail (s : State) (n v : Nat) (next : List Byte) : State :=
  (s.setBar (dmaOff n + 0x10) v).dmaFetch n next

/-- DMA_RING_TAIL_WRITE. -/
def execDmaRingTailWrite (n : Fin 8) (v : Nat) (next : List Byte) (s : State) : Host.Outcome State Fault Refusal :=
  .next (s.dmaTail n v next)

/-- A descriptor's address and length are good (Table 3.15). -/
def descriptorGood (d : DmaDescriptor) : Bool :=
  d.hostAddr % 64 == 0 && d.bar2Offset % 64 == 0 && d.length % 64 == 0 && decide (64 ≤ d.length) &&
    decide (d.bar2Offset + d.length ≤ 2 ^ 24)

/-- The image buffer takes no host write: a firmware or engine image load is RUNNING (R92). -/
def State.imageLocked (s : State) : Bool :=
  s.opRunning 6 || (List.range 12).any (fun c => s.rdN (Obj.loadState c) == 1)

/-- Host bytes written into BAR2, but for those into a locked image buffer (R92). -/
def State.hostPut (s : State) (off : Nat) (bs : List Byte) : State :=
  if s.imageLocked then s.putBar2 off (bs.take (imageBuffer - off)) else s.putBar2 off bs

/-- What the host writes into BAR2 itself in a tick (R92, Table 3.14). DESIGN CHOICE: log entry 80. -/
def State.hostWrites (s : State) (l : List (Nat × List Byte)) : State :=
  s.each l (fun s p => s.hostPut (p.1 % 2 ^ 24) (p.2.take (2 ^ 24 - p.1 % 2 ^ 24)))

/-- A descriptor's copy (R90): the host's bytes into BAR2, or BAR2's bytes into host memory. -/
def State.dmaCopy (s : State) (d : DmaDescriptor) (data : List Byte) : State :=
  if d.toBar2 then s.hostPut d.bar2Offset (data.take d.length)
  else { s with agent.hostMem := s.agent.hostMem ++ [⟨d.hostAddr, s.getBar2 d.bar2Offset d.length⟩] }

/-- DMA_DESCRIPTOR_DONE (R90, R91): the copy, its status, and the next descriptor. A bad address or length ends REFUSED. -/
def execDmaDescriptorDone (n : Fin 8) (data next : List Byte) (s : State) :
    Host.Outcome State Fault Refusal :=
  match s.dmaFlight n with
  | none => .next s
  | some d =>
    if !descriptorGood d then .next (s.dmaFinish n Status.refused)
    else .next (((s.dmaCopy d data).dmaFinish n Status.ok).dmaFetch n next)

/-! ### BAR0 (R86) -/

/-- A descriptor that a channel fetches where the command does not bring it: what the host's memory holds is free.
DESIGN CHOICE: log entry 4. -/
def State.freeDescriptor (s : State) : List Byte × State :=
  let (a, s) := s.draw
  (leBytes 32 a, s)

/-- A DMA channel register is written (Table 3.15a). -/
def State.dmaRegister (s : State) (n o v : Nat) : State :=
  match o with
  | 0x00 => if s.dmaOn n then s else s.setBar (dmaOff n) (v / 64 * 64)
  | 0x04 => if s.dmaOn n then s else s.setBar (dmaOff n + 0x04) v
  | 0x08 => if s.dmaOn n then s else s.setBar (dmaOff n + 0x08) v
  | 0x10 => let (d, s) := s.freeDescriptor; s.dmaTail n v d
  | 0x14 =>
    let s := s.onlyIf (bitOf v 1) (fun s => s.dmaReset n)
    let (d, s) := s.freeDescriptor
    s.dmaEnable n (bitOf v 0) d
  | _ => s

/-- An MSI-X table dword is written: a vector that is unmasked is signalled if it was pending (R85). -/
def State.msixWrite (s : State) (off v : Nat) : State :=
  let s := s.setBar off v
  let n := (off - 0x8000) / 16
  let pba := 0x9000 + 4 * (n / 32)
  if off % 16 = 12 ∧ bitOf v 0 = false ∧ bitOf (s.bar pba) (n % 32) = true then
    (s.setBar pba (setBit (s.bar pba) (n % 32) false)).signal n
  else s

/-- BAR0_REGISTER_WRITE (R86, Table 3.13): writes to read-only and reserved space are ignored. -/
def State.barWrite (s : State) (off v : Nat) : State :=
  if off % 4 ≠ 0 then s
  else if off = 0 then s.submitSlots v
  else if off = 0x8 then s.clearBits mbxDoneOff v
  else if off = 0xC then s.clearBits mbxErrorOff v
  else if off = 0x14 then s.ringTailTo 0 v
  else if 0x100 ≤ off ∧ off < 0x200 then s.dmaRegister ((off - 0x100) / 32) (off % 32) (v % 2 ^ 32)
  else if 0x400 ≤ off ∧ off < 0x500 ∧ off % 16 = 4 then s.ringTailTo ((off - 0x400) / 16) v
  else if 0x1000 ≤ off ∧ off < 0x5000 then s.setBar off v
  else if 0x8000 ≤ off ∧ off < 0x8400 then s.msixWrite off (v % 2 ^ 32)
  else s

/-- A BAR0 read (Tables 3.13, 3.15a): NOTIFY_HEAD and NOTIFY_TAIL are ring 0's, and CHANNEL_STATUS shows BUSY and HALTED. -/
def State.barRead (s : State) (off : Nat) : Nat :=
  if off = 0x10 then s.bar (ringHeadOff 0)
  else if off = 0x14 then s.bar (ringTailOff 0)
  else if 0x100 ≤ off ∧ off < 0x200 ∧ off % 32 = 0x18 then
    let n := (off - 0x100) / 32
    s.bar off + (if (s.dmaFlight n).isSome then 1 else 0) + (if s.agent.dmaHalted.contains n then 2 else 0)
  else s.bar off

/-- BAR0_REGISTER_WRITE. -/
def execBar0RegisterWrite (off v : Nat) (s : State) : Host.Outcome State Fault Refusal := .next (s.barWrite off v)

/-! ### Steps of start-up after which the agent serves -/

/-- The unit that a domain's own macros belong to (Table 19.1): a reach die's DSP, a berth group, a basin port's controller.
DEDUCED: log entry 95. -/
def domainUnit (d : Nat) : Option Nat :=
  if d < 4 then some (0x1400 + d) else if d < 12 then some (0x1410 + (d - 4)) else if 16 ≤ d ∧ d < 24 then some (0x1420 + (d - 16))
  else none

/-- Units that fail the check-bit self-test fail as by an assay signature (R104, R455, Table 19.2): spares first. A start assay that
follows does not undo it. DEDUCED: log entry 95. -/
def State.sramUnitsFail (s : State) (units : List Nat) : State :=
  let fs := (units.eraseDups.filter (fun u => unitExists u && s.unitPowered u && !s.unitRetired u)).mergeSort
    (fun x y => decide (x ≤ y))
  let s : State := { s with integ.failedUnits := fs ++ s.integ.failedUnits.filter (fun u => !fs.contains u), start.sramUnits := fs }
  let s := s.each fs (fun s u => s.raise 0xC100 0x1500 u)
  let spares := fs.filter s.unitSpare
  s.each (spares ++ fs.filter (fun u => !spares.contains u)) (fun s u => s.serveFailure u false)

/-- STATE_SRAM_FILL (R104, Table 4.1 step 4): the stockpile's map is applied and the memories are filled; a hub-core macro that
fails holds the step. On the way out of DORMANT step 6 follows with no commit. DEDUCED: log entry 95. -/
def execStateSramFill (units domains : List Nat) (s : State) : Host.Outcome State Fault Refusal :=
  if s.start.step = 4 ∧ s.start.holdCode = 0 ∧ s.start.inReset = false then
    let s := if s.power.leaving then s else s.applyMaps
    let s : State := { s.sramUnitsFail (units ++ domains.filterMap domainUnit) with start.sramFailed := domains.filter (· < 37) }
    if domains.contains 37 ∨ units.any (fun u => unitExists u && unitDomain u == 37) then .next { s with start.holdCode := 4 }
    else if s.power.leaving then .next s.dormantServe.serveHeld
    else .next s.afterFill
  else .next s

/-- START_COMMIT (R96, R115): the start commit is valid, and the agent begins to serve. -/
def execStartCommit (s : State) : Host.Outcome State Fault Refusal :=
  if s.start.step = 6 ∧ s.start.commit.isSome then .next (s.commitDone true).serveHeld else .next s

/-- LEDGER_COMMIT_DONE (R112). -/
def execLedgerCommitDone (ok : Bool) (s : State) : Host.Outcome State Fault Refusal := .next (s.commitDone ok).serveHeld

end Sys2Proof.Machine
end

