-- ==== Sys2Proof/Machine/WriteCmds.lean ====
section
/-! DEFINITION. The commands that are a session's write of one object: each is that WRITE, with the value its row gives, and has
the effect of the same WRITE sent as a message (R57). Staged objects take effect at the boundary (Table 2.2). -/
namespace Sys2Proof.Machine

/-- A signed value as its word (Table 3.1). -/
def word32 (v : Int) : Nat := (v % 2 ^ 32).toNat

/-- The words of an OCTETS value given as bytes. -/
def bodyOf (bs : List Byte) : List Nat :=
  wordsOf ((bs.length + 3) / 4) (bs ++ List.replicate (4 * ((bs.length + 3) / 4) - bs.length) 0#8)

/-- A POWER_REQUEST write (R483): TARGET, URGENT and the two masks. -/
def State.powerWrite (s : State) (sess : Fin 17) (seq target : Nat) (urgent : Bool) (maskA maskB : Nat) : State :=
  s.write sess seq Obj.powerRequest [target * 2 ^ 24 + (if urgent then 2 ^ 16 else 0), maskA % 2 ^ 32, maskB % 2 ^ 32]

/-- CREDENTIAL (R78). -/
def execCredential (sess : Fin 17) (seq : Nat) (words : List Nat) (s : State) : Host.Outcome State Fault Refusal :=
  .next (s.write sess seq Obj.credential words)

/-- CREDENTIAL_ERASE (R83). -/
def execCredentialErase (sess : Fin 17) (seq id : Nat) (s : State) : Host.Outcome State Fault Refusal :=
  .next (s.write1 sess seq Obj.credentialErase id)

/-- MGMT_ADDRESS_CHANGE (R84: IPV6_ADDRESS, IPV6_PREFIX, IPV4_ADDRESS or IPV4_PREFIX). -/
def execMgmtAddressChange (sess : Fin 17) (seq sub : Nat) (words : List Nat) (s : State) :
    Host.Outcome State Fault Refusal :=
  .next (if 3 ≤ sub ∧ sub ≤ 6 then s.write sess seq (objKey 0x1400 sub) words else s)

/-- ABORT (R66, R67). -/
def execAbortOp (sess : Fin 17) (seq : Nat) (o : Fin 11) (v : Nat) (s : State) : Host.Outcome State Fault Refusal :=
  .next (s.write1 sess seq (Obj.opAbort o) v)

/-- FIRMWARE_LOAD (R102). -/
def execFirmwareLoad (sess : Fin 17) (seq v : Nat) (s : State) : Host.Outcome State Fault Refusal :=
  .next (s.write1 sess seq Obj.firmwareLoad v)

/-- SHUTDOWN (R117). -/
def execShutdown (sess : Fin 17) (seq v : Nat) (s : State) : Host.Outcome State Fault Refusal :=
  .next (s.write1 sess seq Obj.shutdown v)

/-- COMMIT_NOW (R111). -/
def execCommitNow (sess : Fin 17) (seq v : Nat) (s : State) : Host.Outcome State Fault Refusal :=
  .next (s.write1 sess seq Obj.commitNow v)

/-- ASSAY_WHEN_WRITE (R111). -/
def execAssayWhenWrite (sess : Fin 17) (seq v : Nat) (s : State) : Host.Outcome State Fault Refusal :=
  .next (s.write1 sess seq Obj.assayWhen v)

/-- REACH_ENABLE (R24). -/
def execReachEnable (sess : Fin 17) (seq : Nat) (r : Fin 4) (v : Nat) (s : State) :
    Host.Outcome State Fault Refusal :=
  .next (s.write1 sess seq (Obj.reachEnable r) v)

/-- AGC_REARM (R127). -/
def execAgcRearm (sess : Fin 17) (seq : Nat) (r : Fin 4) (v : Nat) (s : State) : Host.Outcome State Fault Refusal :=
  .next (s.write1 sess seq (Obj.agcRearm r) v)

/-- TX_OFF_NOW (R134). -/
def execTxOffNow (sess : Fin 17) (seq : Nat) (r : Fin 4) (v : Nat) (s : State) : Host.Outcome State Fault Refusal :=
  .next (s.write1 sess seq (Obj.txOffNow r) v)

/-- TX_OFF_RELEASE (R136). -/
def execTxOffRelease (sess : Fin 17) (seq : Nat) (r : Fin 4) (v : Nat) (s : State) :
    Host.Outcome State Fault Refusal :=
  .next (s.write1 sess seq (Obj.txOffRelease r) v)

/-- CAL_START (R144). -/
def execCalStart (sess : Fin 17) (seq : Nat) (r : Fin 4) (v : Nat) (s : State) : Host.Outcome State Fault Refusal :=
  .next (s.write1 sess seq (Obj.calStart r) v)

/-- COEFF_WRITE (R149). -/
def execCoeffWrite (sess : Fin 17) (seq : Nat) (r : Fin 4) (k : Fin 8) (slice : Fin 132) (words : List Nat) (s : State) :
    Host.Outcome State Fault Refusal :=
  .next (s.write sess seq (Obj.sliceCoeff r k slice) words)

/-- GROUP_ENABLE (R161). -/
def execGroupEnable (sess : Fin 17) (seq : Nat) (r : Fin 4) (g : Fin 8) (v : Nat) (s : State) :
    Host.Outcome State Fault Refusal :=
  .next (s.write1 sess seq (Obj.groupEnable r g) v)

/-- GROUP_LAYOUT_WRITE (R159). -/
def execGroupLayoutWrite (sess : Fin 17) (seq : Nat) (r : Fin 4) (g : Fin 8) (count : Bool) (v : Nat) (s : State) :
    Host.Outcome State Fault Refusal :=
  .next (s.write1 sess seq (if count then Obj.subcarrierCount r g else Obj.firstSubcarrier r g) v)

/-- PRE_EMPHASIS (R162). -/
def execPreEmphasis (sess : Fin 17) (seq : Nat) (r : Fin 4) (sc : Fin 64) (v : Int) (s : State) :
    Host.Outcome State Fault Refusal :=
  .next (s.write1 sess seq (Obj.preEmphasis r sc) (word32 v))

/-- LOADING_MODE (R168). -/
def execLoadingMode (sess : Fin 17) (seq : Nat) (r : Fin 4) (g : Fin 8) (v : Nat) (s : State) :
    Host.Outcome State Fault Refusal :=
  .next (s.write1 sess seq (Obj.loadingMode r g) v)

/-- FIXED_APPLY (R168). -/
def execFixedApply (sess : Fin 17) (seq : Nat) (r : Fin 4) (g : Fin 8) (v : Nat) (s : State) :
    Host.Outcome State Fault Refusal :=
  .next (s.write1 sess seq (Obj.fixedApply r g) v)

/-- HISTORY_VALID_WRITE (R176). -/
def execHistoryValidWrite (sess : Fin 17) (seq : Nat) (r : Fin 4) (g : Fin 8) (v : Nat) (s : State) :
    Host.Outcome State Fault Refusal :=
  .next (s.write1 sess seq (Obj.historyValid r g) v)

/-- BANK_CD_WRITE (R187, R188). -/
def execBankCdWrite (sess : Fin 17) (seq : Nat) (r : Fin 4) (bankB : Bool) (v : Int) (s : State) :
    Host.Outcome State Fault Refusal :=
  .next (s.write1 sess seq (if bankB then Obj.bankBCd r else Obj.bankACd r) (word32 v))

/-- CD_SWAP (R189). -/
def execCdSwap (sess : Fin 17) (seq : Nat) (r : Fin 4) (v : Nat) (s : State) : Host.Outcome State Fault Refusal :=
  .next (s.write1 sess seq (Obj.cdSwap r) v)

/-- CD_MODE (R193). -/
def execCdMode (sess : Fin 17) (seq : Nat) (r : Fin 4) (v : Nat) (s : State) : Host.Outcome State Fault Refusal :=
  .next (s.write1 sess seq (Obj.cdMode r) v)

/-- GROUP_LAYOUT (R254). -/
def execGroupLayout (sess : Fin 17) (seq : Nat) (k : Fin 8) (v : Nat) (s : State) :
    Host.Outcome State Fault Refusal :=
  .next (s.write1 sess seq (Obj.groupLayout k) v)

/-- FRAME_INJECT (R269). -/
def execFrameInject (sess : Fin 17) (seq : Nat) (b : Fin 64) (bytes : List Byte) (s : State) :
    Host.Outcome State Fault Refusal :=
  .next (s.write sess seq (Obj.frameInject b) (bodyOf bytes))

/-- SYNCE_INPUT (R270). -/
def execSynceInput (sess : Fin 17) (seq : Nat) (b : Fin 64) (v : Nat) (s : State) :
    Host.Outcome State Fault Refusal :=
  .next (s.write1 sess seq (Obj.synceInput b) v)

/-- FLOW_ENTRY (R274). -/
def execFlowEntry (sess : Fin 17) (seq : Nat) (f : Fin 4096) (v : Nat) (s : State) :
    Host.Outcome State Fault Refusal :=
  .next (s.write1 sess seq (flowKey f) v)

/-- LADDER (R278). -/
def execLadder (sess : Fin 17) (seq v : Nat) (s : State) : Host.Outcome State Fault Refusal :=
  .next (s.write1 sess seq Obj.ladder v)

/-- WATER_MARK_WRITE (R300). -/
def execWaterMarkWrite (sess : Fin 17) (seq : Nat) (which : Fin 3) (v : Nat) (s : State) :
    Host.Outcome State Fault Refusal :=
  .next (s.write1 sess seq (objKey 0x3510 (4 + which)) v)

/-- STOCKPILE_RESERVE (R295). -/
def execStockpileReserve (sess : Fin 17) (seq v : Nat) (s : State) : Host.Outcome State Fault Refusal :=
  .next (s.write1 sess seq Obj.stockpileReserve v)

/-- UNIT_MODE (R304, R319). -/
def execUnitMode (sess : Fin 17) (seq : Nat) (u : Fin 4) (v : Nat) (s : State) : Host.Outcome State Fault Refusal :=
  .next (s.write1 sess seq (Obj.unitMode u) v)

/-- PAIRED_GROUP_WRITE (R304). -/
def execPairedGroupWrite (sess : Fin 17) (seq : Nat) (r : Fin 4) (g : Fin 8) (peer : Bool) (v : Nat) (s : State) :
    Host.Outcome State Fault Refusal :=
  .next (s.write1 sess seq (if peer then Obj.peerId r g else Obj.groupEnable r g) v)

/-- LOCKOUT (R320). -/
def execLockout (sess : Fin 17) (seq : Nat) (u : Fin 4) (s : State) : Host.Outcome State Fault Refusal :=
  .next (s.write1 sess seq (Obj.unitCommand u) 1)

/-- FORCE (R320). -/
def execForce (sess : Fin 17) (seq : Nat) (u : Fin 4) (s : State) : Host.Outcome State Fault Refusal :=
  .next (s.write1 sess seq (Obj.unitCommand u) 2)

/-- CLEAR (R320). -/
def execClear (sess : Fin 17) (seq : Nat) (u : Fin 4) (s : State) : Host.Outcome State Fault Refusal :=
  .next (s.write1 sess seq (Obj.unitCommand u) 3)

/-- KEY_IMPORT (R336, R337). -/
def execKeyImport (sess : Fin 17) (seq : Nat) (entry : List Byte) (s : State) : Host.Outcome State Fault Refusal :=
  .next (s.write sess seq Obj.keyImport (bodyOf entry))

/-- KEY_BATCH_START (R338). -/
def execKeyBatchStart (sess : Fin 17) (seq v : Nat) (s : State) : Host.Outcome State Fault Refusal :=
  .next (s.write1 sess seq Obj.keyBatchStart v)

/-- SLOT_ERASE (R346). -/
def execSlotErase (sess : Fin 17) (seq v : Nat) (s : State) : Host.Outcome State Fault Refusal :=
  .next (s.write1 sess seq Obj.slotErase v)

/-- KEY_ROLL (R344). -/
def execKeyRoll (sess : Fin 17) (seq : Nat) (r : Fin 4) (g : Fin 8) (v : Nat) (s : State) :
    Host.Outcome State Fault Refusal :=
  .next (s.write1 sess seq (Obj.keyRoll r g) v)

/-- ENCRYPT_KEY_SLOT_WRITE (R349). -/
def execEncryptKeySlotWrite (sess : Fin 17) (seq : Nat) (r : Fin 4) (g : Fin 8) (slot : Bool) (v : Nat) (s : State) :
    Host.Outcome State Fault Refusal :=
  .next (s.write1 sess seq (if slot then Obj.keySlot r g else Obj.encrypt r g) v)

/-- PHASE_STEP (R364). -/
def execPhaseStep (sess : Fin 17) (seq : Nat) (v : Int) (s : State) : Host.Outcome State Fault Refusal :=
  .next (s.write1 sess seq Obj.phaseStep (word32 v))

/-- ALIGN_NOW (R367). -/
def execAlignNow (sess : Fin 17) (seq v : Nat) (s : State) : Host.Outcome State Fault Refusal :=
  .next (s.write1 sess seq Obj.alignNow v)

/-- TOD_ASSOCIATE (R372). -/
def execTodAssociate (sess : Fin 17) (seq : Nat) (value : List Byte) (s : State) : Host.Outcome State Fault Refusal :=
  .next (s.write sess seq Obj.todAssociate (bodyOf value))

/-- RETRAIN (R379). -/
def execRetrain (sess : Fin 17) (seq : Nat) (l : Fin 8) (v : Nat) (s : State) : Host.Outcome State Fault Refusal :=
  .next (s.write1 sess seq (Obj.retrain l) v)

/-- LOOPBACK (R381). -/
def execLoopback (sess : Fin 17) (seq : Nat) (l : Fin 8) (v : Nat) (s : State) : Host.Outcome State Fault Refusal :=
  .next (s.write1 sess seq (Obj.loopback l) v)

/-- WAKE_MATE (R386). -/
def execWakeMate (sess : Fin 17) (seq v : Nat) (s : State) : Host.Outcome State Fault Refusal :=
  .next (s.write1 sess seq Obj.wakeMate v)

/-- ENGINE_LOAD (R411). -/
def execEngineLoad (sess : Fin 17) (seq : Nat) (c : Fin 12) (v : Nat) (s : State) :
    Host.Outcome State Fault Refusal :=
  .next (s.write1 sess seq (Obj.engineLoad c) v)

/-- PARTITION_WRITE (R415). -/
def execPartitionWrite (sess : Fin 17) (seq : Nat) (p : Fin 4) (count : Bool) (v : Nat) (s : State) :
    Host.Outcome State Fault Refusal :=
  .next (s.write1 sess seq (if count then Obj.clusterCount p else Obj.firstCluster p) v)

/-- OVERFLOW_CLEAR (R428). -/
def execOverflowClear (sess : Fin 17) (seq : Nat) (c : Fin 12) (e : Fin 16) (v : Nat) (s : State) :
    Host.Outcome State Fault Refusal :=
  .next (s.write1 sess seq (objKey (0x5400 + 16 * c + e) 15) v)

/-- EVENT_SELECT (R428). -/
def execEventSelect (sess : Fin 17) (seq : Nat) (c : Fin 12) (e : Fin 16) (n : Fin 4) (v : Nat) (s : State) :
    Host.Outcome State Fault Refusal :=
  .next (s.write1 sess seq (objKey (0x5400 + 16 * c + e) (10 + n)) v)

/-- MODE_REQUEST (R433). -/
def execModeRequest (sess : Fin 17) (seq v : Nat) (s : State) : Host.Outcome State Fault Refusal :=
  .next (s.write1 sess seq Obj.modeRequest v)

/-- INJECT (R437). -/
def execInject (sess : Fin 17) (seq v : Nat) (s : State) : Host.Outcome State Fault Refusal :=
  .next (s.write1 sess seq Obj.inject v)

/-- SEQ_ENTRY (R435). -/
def execSeqEntry (sess : Fin 17) (seq : Nat) (n : Fin 64) (v : Nat) (s : State) : Host.Outcome State Fault Refusal :=
  .next (s.write1 sess seq (Obj.seqEntry n) v)

/-- FILTER_CONFIG_WRITE (R443). -/
def execFilterConfigWrite (sess : Fin 17) (seq : Nat) (f : Fin 32) (which : Fin 7) (v : Nat) (s : State) :
    Host.Outcome State Fault Refusal :=
  .next (s.write1 sess seq (objKey (0x1620 + f) ([1, 2, 3, 4, 7, 8, 9].getD which 1)) v)

/-- FILTER_COEFF_WRITE (R444). -/
def execFilterCoeffWrite (sess : Fin 17) (seq : Nat) (f : Fin 32) (n : Fin 64) (v : Int) (s : State) :
    Host.Outcome State Fault Refusal :=
  .next (s.write1 sess seq (Obj.filterCoeff f n) (word32 v))

/-- BANK_SWAP (R444). -/
def execBankSwap (sess : Fin 17) (seq : Nat) (f : Fin 32) (v : Nat) (s : State) : Host.Outcome State Fault Refusal :=
  .next (s.write1 sess seq (Obj.bankSwap f) v)

/-- BIAS_WRITE (R447). -/
def execBiasWrite (sess : Fin 17) (seq : Nat) (r : Fin 4) (j : Option (Fin 8)) (v : Nat) (s : State) :
    Host.Outcome State Fault Refusal :=
  .next (s.write1 sess seq (match j with
    | some k => Obj.biasCode r k
    | none => Obj.biasMode r) v)

/-- ASSAY_RUN (R451, R457). -/
def execAssayRun (sess : Fin 17) (seq v : Nat) (pllError : Int) (low high : Nat) (s : State) :
    Host.Outcome State Fault Refusal :=
  .next (s.direct { mkReq sess seq 2 0x1500 4 [v] with meas := some (pllError, low, high) })

/-- PEEK_ADDRESS (R469). -/
def execPeekAddress (sess : Fin 17) (seq v : Nat) (s : State) : Host.Outcome State Fault Refusal :=
  .next (s.write sess seq Obj.peekAddress (OType.u64.encode v))

/-- PEEK (R469: a READ of PEEK). -/
def execPeek (sess : Fin 17) (seq : Nat) (noise : List (Nat × Byte)) (s : State) : Host.Outcome State Fault Refusal :=
  .next (s.direct { mkReq sess seq 1 0x3530 6 [] with noise := some noise })

/-- SWAP_UNIT (R472). -/
def execSwapUnit (sess : Fin 17) (seq v : Nat) (s : State) : Host.Outcome State Fault Refusal :=
  .next (s.write1 sess seq Obj.swapUnit v)

/-- POWER_REQUEST_RELEASED (R483). -/
def execPowerRequestReleased (sess : Fin 17) (seq : Nat) (urgent : Bool) (maskA maskB : Nat) (s : State) :
    Host.Outcome State Fault Refusal :=
  .next (s.powerWrite sess seq 0 urgent maskA maskB)

/-- POWER_REQUEST_MOORED (R483). -/
def execPowerRequestMoored (sess : Fin 17) (seq : Nat) (urgent : Bool) (maskA maskB : Nat) (s : State) :
    Host.Outcome State Fault Refusal :=
  .next (s.powerWrite sess seq 1 urgent maskA maskB)

/-- POWER_REQUEST_OFF (R483). -/
def execPowerRequestOff (sess : Fin 17) (seq : Nat) (urgent : Bool) (maskA maskB : Nat) (s : State) :
    Host.Outcome State Fault Refusal :=
  .next (s.powerWrite sess seq 2 urgent maskA maskB)

/-- POWER_REQUEST_DORMANT (R483). -/
def execPowerRequestDormant (sess : Fin 17) (seq : Nat) (urgent : Bool) (maskA maskB : Nat) (s : State) :
    Host.Outcome State Fault Refusal :=
  .next (s.powerWrite sess seq 3 urgent maskA maskB)

/-- WAKE_PEER (R493). -/
def execWakePeer (sess : Fin 17) (seq v : Nat) (s : State) : Host.Outcome State Fault Refusal :=
  .next (s.write1 sess seq Obj.wakePeer v)

/-- ALARM_CLEAR (R508). -/
def execAlarmClear (sess : Fin 17) (seq v : Nat) (s : State) : Host.Outcome State Fault Refusal :=
  .next (s.write1 sess seq Obj.alarmClear v)

/-- GPIO_CONFIG (R509). -/
def execGpioConfig (sess : Fin 17) (seq : Nat) (n : Fin 16) (v : Nat) (s : State) :
    Host.Outcome State Fault Refusal :=
  .next (s.write1 sess seq (Obj.gpioConfig n) v)

/-- PATH_SELECT_GPIO_WRITE (R509). -/
def execPathSelectGpioWrite (sess : Fin 17) (seq : Nat) (u : Fin 4) (v : Nat) (s : State) :
    Host.Outcome State Fault Refusal :=
  .next (s.write1 sess seq (Obj.pathSelectGpio u) v)

/-- TWI_XFER (R503). -/
def execTwiXfer (sess : Fin 17) (seq : Nat) (r : Fin 4) (words : List Nat) (s : State) :
    Host.Outcome State Fault Refusal :=
  .next (s.write sess seq (Obj.twiXfer r) words)

/-- GC_INVERT (R522). -/
def execGcInvert (sess : Fin 17) (seq v : Nat) (s : State) : Host.Outcome State Fault Refusal :=
  .next (s.write1 sess seq Obj.gcInvert v)

end Sys2Proof.Machine
end

