-- ==== Sys2Proof/Machine/Boundary.lean ====
section
/-! DEFINITION. The tick boundary (R27–R37): what the ended tick brought, the staged writes in the order of Table 2.2, the
releases of the decode tick (R220), the frames of the tick that starts (R232), the tap windows (R396); and the rows that
stand beside it: the window's close, the tick marker, the syndrome checker and the sending of an injected frame. -/
namespace Sys2Proof.Machine

/-! ### What the ended tick brought -/

/-- The telemetry of a reach for the ended tick; none where nothing came. -/
def reachOf (i : BoundaryInput) (r : Nat) : ReachTick :=
  (i.reaches.find? (fun t => t.r == r)).getD { r := r, arrived := false }

/-- The telemetry of a reach, with the training that was found (R198). -/
def State.heard (s : State) (i : BoundaryInput) (r : Nat) : ReachTick := s.trainingHeard (reachOf i r)

/-- A frame's training was found for its group with its selector in a tick that carries a frame decision (R125, R248): it is
demapped and decoded (R221). -/
def State.frameFound (s : State) (i : BoundaryInput) (f : RxFrame) : Bool :=
  decide (f.r < 4) && decide (f.g < 8) && s.groupOn f.r f.g && s.agcDecides f.r &&
    s.groupTraining f.r f.g ((s.heard i f.r).scFound.filter (fun p => p.2 == f.sel)) == some f.sel

/-- The frame decisions of a reach (R125, R248, R250): a tick without one counts as a tick without training. -/
def State.reachDecision (s : State) (r : Nat) (t : ReachTick) : State :=
  if !s.released (domReach r) then s
  else
    let decides := s.agcDecides r
    let gs := s.enabledGroups r
    let found (g : Nat) : Bool := decides && (s.groupTraining r g t.scFound).isSome
    let s := s.each gs (fun s g => s.frameDecision r g (found g))
    s.onlyIf decides (fun s => s.agcCount r (gs.any found))

/-- The ended tick's telemetry of a reach: gain, pilots, equaliser, dispersion and watch; a moored
reach tracks nothing, and shows an SOP_RATE_PEAK of 0 (R195). -/
def State.reachTelemetry (s : State) (r : Nat) (t : ReachTick) : State :=
  if s.offDom (domReach r) then s
  else if !s.released (domReach r) then s.sopTick r
  else
    let s := s.each ((s.enabledGroups r).filter (s.inFrame r)) (fun s g => s.pilotStep r g t.pilots)
    let s := ((s.agcBoundary r t.agcErr).coarseOffsets r t).eqTraining r (t.scFound.map (·.1))
    ((s.eqFigures r t).watchTick r t).cdTick r t

/-- The lanes of the berths in the ended tick, counted for their ports (Table 10.4), what the fabric drained from the ports'
buffers, and the search for alignment. -/
def State.berthTick (s : State) (l : List (Nat × Nat × Nat × Nat)) : State :=
  let s := s.each ((List.range 8).filter (fun k => s.released (domBerth k))) State.alignStep
  s.each (l.filter (fun q => decide (q.1 < 64))) (fun s q =>
    match s.portOf q.1 with
    | some b =>
      let s := (s.incBy (Obj.fecCorrected b) q.2.1).incBy (Obj.fecUncorrectable b) q.2.2.1
      s.ingressTo b ((s.port b).ingress - q.2.2.2)
    | none => s)

/-! ### The outputs of the decode tick (R220) -/

/-- The overhead messages of an accepted frame go to their consumers, in order (R241). -/
def State.overheadMessage (s : State) (d : DecFrame) (m : Nat × List Byte) : State :=
  let r := d.f.r
  let g := d.f.g
  if m.1 = 0x01 ∨ m.1 = 0x02 ∨ m.1 = 0x03 then s.loadingMessage r g m
  else if m.1 = 0x10 ∨ m.1 = 0x11 then s.keyMessage r g m
  else if m.1 = 0x20 then s.delayMessage r g d.f.rxTick d.f.rxPhase m.2
  else if m.1 = 0x30 then s.manifestIn (8 * r + g) m.2
  else if m.1 = 0x40 then s.mateRelayIn r g m.2
  else s

/-- An accepted frame's payload (R235, R241, R247, R249, R349): a mismatched frame is not looked at; otherwise its segments
are checked or decrypted, its overhead channel acts unless segment 0 fails, and its cells go on unless its header names
another map (R174). `room` is what the cipher array can still decrypt, in bytes; the result says what is left. -/
def State.framePayload (s : State) (room : Nat) (d : DecFrame) : State × Nat :=
  let r := d.f.r
  let g := d.f.g
  let enc := s.encrypted r g
  if enc != bitOf (hdrField d.header 15 1) 0 then (s.inc (Obj.encryptMismatchFrames r g), room)
  else
    let m := d.map
    let cipher := enc && decide (hdrField d.header 16 3 ≠ 0)
    let sure := (List.range m.segments).filter (fun i => !d.unsure m i)
    let s := if enc && !cipher && s.released domCipher then s.setKg r g { (s.kg r g) with failRun := 0 } else s
    let (s, failed, payload) := if cipher then s.decryptFrame r g d m room else (s, d.clearPayload m)
    let room := if cipher then room - ((m.fitting room sure).map m.segmentPayload).foldl (· + ·) 0 else room
    let s := s.countSegments r g failed
    let (ms, errs) := ohMessages (payload.take 512)
    let s := if failed.contains 0 then s else (s.countOhErrors r g errs).each ms (fun s x => s.overheadMessage d x)
    if d.mapMismatch m then (s.countMapMismatch r, room)
    else
      let (cs, damaged) := cellsOf m failed payload
      let s := s.incBy (Obj.damagedCells r g) damaged
      (s.each cs (fun s c => s.cellIn (8 * r + g) c), room)

/-- One decoded frame: the checks of Table 9.5, then what it carries. -/
def State.frameRelease (s : State) (room : Nat) (d : DecFrame) : State × Nat :=
  if !s.groupOn d.f.r d.f.g || !s.released (domReach d.f.r) then (s, room)
  else
    let n := s.headerCheck d.f.r d.f.g d
    if n ≠ 0 then (s.frameRejected d.f.r d.f.g n d, room)
    else (s.frameAccepted d.f.r d.f.g d).framePayload room d

/-- Frames in order, with the cipher array's room. -/
def State.releaseAll (s : State) : List DecFrame → Nat → State
  | [], _ => s
  | d :: t, room =>
    let (s, room) := s.frameRelease room d
    s.releaseAll t room

/-- The first frame of each group, and the second ones (R330: their segments come after every other). -/
def firstFrames : List Nat → List DecFrame → List DecFrame × List DecFrame
  | _, [] => ([], [])
  | seen, d :: t =>
    let k := 8 * d.f.r + d.f.g
    let (a, b) := firstFrames (k :: seen) t
    if seen.contains k then (a, d :: b) else (d :: a, b)

/-- Encrypted bytes of the frames of the tick that ended, as they were sent (R329). DEDUCED: log entry 16. -/
def State.txCipherBytes (s : State) : Nat :=
  s.frame.tx.foldl (fun a p => if p.2.epoch.isSome then a + p.2.map.payload else a) 0

/-- Encrypted bytes of the frames in the decode tick. DEDUCED: log entry 16. -/
def State.rxCipherBytes (s : State) : Nat :=
  s.pool.job.foldl (fun a d =>
    if s.encrypted d.f.r d.f.g && decide (hdrField d.header 16 3 ≠ 0) then a + d.map.payload else a) 0

/-- DECODE_TICK_RELEASE (R220): the decode tick that ends at this boundary is released; the frames' figures, checks, messages
and cells. -/
def State.decodeRelease (s : State) : State :=
  let job := s.pool.job
  let tx := s.txCipherBytes
  let rx := s.rxCipherBytes
  let room := 1024000 * s.cipherCores - tx
  let s : State := { s with pool.job := [] }
  let s := s.wrN Obj.demandBytes (tx + rx)
  let s := s.each (List.range 32) (fun s k =>
    s.decodeFigures (k / 8) (k % 8) (job.filter (fun d => 8 * d.f.r + d.f.g == k)))
  let s := s.each (List.range 4) State.berStep
  let (a, b) := firstFrames [] job
  let s := s.releaseAll (a ++ b) room
  { s with integ.frameBad := [] }

/-! ### Staged writes (R35, R36) -/

/-- The last write of each object in the window, in ascending key order (R34). -/
def lastWrites (l : List StagedWrite) : List StagedWrite :=
  (l.foldl (fun t w => tput w.key w.val t) ([] : List (Nat × Int))).map (fun p => ⟨p.1, p.2⟩)

/-- The step of Table 2.2 in which a staged object changes. DEDUCED: log entry 20. -/
def stepOfWrite (key : Nat) : Nat :=
  match canonIdx (key / 256), key % 256 with
  | 0x2040, 1 => 1
  | 0x3804, 3 => 4
  | 0x2020, 3 => 5
  | 0x2080, 6 => 5
  | 0x2140, 6 => 6
  | 0x2140, 7 => 6
  | 0x3004, _ => 8
  | 0x3400, 1 => 8
  | 0x3420, _ => 8
  | 0x3440, _ => 8
  | 0x3590, 15 => 8
  | 0x1620, 6 => 10
  | _, _ => 9

/-- GROUP_ENABLE applied (R161, R237, R287, Table 13.2, Table 9.6). -/
def State.groupEnableApply (s : State) (r g : Nat) (v : Int) : State :=
  let was := s.groupOn r g
  let s := s.wr (Obj.groupEnable r g) v
  let s :=
    if v = 1 ∧ !was then
      let s : State := { s with frame.seq := tset (fun _ => 0) s.frame.seq (8 * r + g) 0 }
      (((s.groupStart r g).keyEnable r g).rttClear (8 * r + g))
    else if v ≠ 1 ∧ was then
      let s := (((s.withdrawAnn r g).groupDrop r g).keyDisable r g).frameHunt r g
      let s := s.setLoad r g { (s.load r g) with restart := none }
      let s := (s.wrN (Obj.grpDemand r g) 0).wrN (Obj.floorGranted r g) 0
      { s with frame.tx := tdel (8 * r + g) s.frame.tx }
    else s
  s.showCodedBits r

/-- A staged write takes effect in its step. DEDUCED: log entry 20. -/
def State.applyStaged (s : State) (w : StagedWrite) : State :=
  let idx := w.key / 256
  let sub := w.key % 256
  let n := w.val.toNat
  let put := s.wr w.key w.val
  match canonIdx idx, sub with
  | 0x2020, 3 => s.agcRearmWrite (idxReach idx) n
  | 0x2080, 6 => (s.cdSwapOp (idxReach idx)).delayClear (idxReach idx) 1
  | 0x2140, 1 => s.groupEnableApply (idxReach idx) (idxGroup idx) w.val
  | 0x2140, 0x0A => put.snrCheck (idxReach idx) (idxGroup idx)
  | 0x2140, 8 => if n = 0 then put.txToProbe (idxReach idx) (idxGroup idx) else put
  | 0x3000, 3 => put.squelch (idxBerth idx)
  | 0x3001, 6 => put.onlyIf (put.isPort (idxBerth idx)) (fun s => s.pauseFollow (idxBerth idx) 0)
  | 0x3400, 1 => put.showRanks
  | 0x3420, _ => s.flowApply (idxFlow idx sub) w.val
  | 0x3590, 15 => s.commandOp (idx - 0x3590) n
  | 0x3804, 3 => s.eraseSlot n
  | 0x4000, 6 => s.phaseStepOp w.val
  | 0x4000, 15 => s.alignNowOp
  | 0x4060, 3 => put.showDelay (idx - 0x4060)
  | 0x1602, _ => put.seqWritten
  | 0x1620, 1 => put.filterClear (idx - 0x1620)
  | 0x1620, 2 => put.filterClear (idx - 0x1620)
  | 0x1620, 6 => s.bankSwapOp (idx - 0x1620)
  | _, _ => put

/-- An object of a unit on a reach die (Table 1.1): its staged changes go there by tick marker (R18).
DEDUCED: log entry 99. -/
def onReachDie (idx : Nat) : Bool := decide (0x2000 ≤ idx) && decide (idx < 0x2800) && idx % 0x200 != 0

/-- The staged writes of this boundary, and those that stay: a reach die applies its changes at the boundary that its marker
names (R18). DEDUCED: log entry 99. -/
def State.windowNow (s : State) : List StagedWrite × List StagedWrite :=
  s.core.window.partition (fun w => s.core.marker == some s.core.tick || !onReachDie (w.key / 256))

/-- STAGED_WRITES_APPLY (R35, R36): the writes of one step, in ascending index and sub-index. In steps 3 to 10 a change of a
unit that is off is dropped and counted. -/
def State.applyStep (s : State) (ws : List StagedWrite) (n : Nat) : State :=
  s.each (ws.filter (fun w => stepOfWrite w.key == n)) (fun s w =>
    if 3 ≤ n ∧ s.ownerOff (w.key / 256) then (s.inc Obj.stagedDropped).raise 0x8011 0x40C0 w.key
    else (s.applyStaged w).inc Obj.stagedApplied)

/-! ### The frames of the tick that starts (R232–R244) -/

/-- The overhead messages before DELAY_MARK (R240): LOADING_REPORT, LOADING_ANNOUNCE from t_a to T − 1 (R170), LOADING_ACK
while an announced map is held (R171), and the key messages. -/
def State.firstMessages (s : State) (r g : Nat) : List (Nat × List Byte) :=
  let x := s.load r g
  let ann : List (Nat × List Byte) := match s.annShown r g s.core.tick with
    | some a => [(0x01, announceValue a)]
    | none => []
  let ack : List (Nat × List Byte) := match x.rxAnn with
    | some m => [(0x02, beBytes 2 m.version ++ beBytes 2 m.check)]
    | none => []
  (0x03, reportValue x.out) :: ann ++ ack ++ (if s.encrypted r g then s.keyMessages r g else [])

/-- A group sends a withdrawn frame in the tick that starts (R312). DEDUCED: log entry 15. -/
def State.withdrawn (s : State) (r g : Nat) : Bool :=
  (List.range 4).any (fun u => (s.unit u).withdraw.any (fun w =>
    w.reach == r && decide (s.core.tick < w.until_) && w.groups.contains g))

/-- FRAME_BUILD (R232) for one group: the frame is composed, encrypted and encoded (stages 6 to 8 of Table 1.2); its slots and
points follow from it (`TxFrame.point`). A group in outage sends no client cells (Table 11.2), and a reach that is going down only
idle ones (R133); a keying frame carries no cell and neither MANIFEST nor MATE_RELAY (R340). A reach that sends the wake
pattern, or is not released, sends no frame (R493). DEDUCED: log entry 14. -/
def State.frameBuild (s : State) (r g : Nat) : State :=
  let rg := 8 * r + g
  let s := if s.outage rg then s.outageDiscard rg else s
  if !s.groupOn r g || !s.released (domReach r) || tget (fun _ => 0) s.power.wakeSend r != 0 then
    { s with frame.tx := tdel rg s.frame.tx }
  else
    let s := s.sealLate r g
    let t := s.core.tick
    let m := s.frameMap r g t
    let enc := s.encrypted r g
    let keying := enc && s.keyingFrame r g
    let first := s.firstMessages r g
    let (s, delay) := s.delayMessages r g
    let (s, relay) := if keying then (s, []) else s.relayMessages r g
    let used := (ohMessage <$> (first ++ delay ++ relay)).flatten.length
    let n := m.cellSlots
    let (s, ms, cells) :=
      if keying then ((s.servePrompt rg 0).1.ageStandard rg, [], [])
      else if s.txDown r then s.fillSlots rg 0 (508 - used)
      else if s.outage rg then s.manifestFill rg (508 - used) n
      else s.fillSlots rg n (508 - used)
    let seq := tget (fun _ => 0) s.frame.seq rg
    let epoch := if enc && !keying then s.frameEpoch r g else 0
    let header := withHcrc (headerBody g (s.rdN Obj.localPeerId) (t % 2 ^ 32) m.version m.coding (if enc then 1 else 0) epoch
      seq n)
    let oh := ohBuild (first ++ delay ++ ms.map (fun v => (0x30, v)) ++ relay)
    let bytes := m.lineBytes (if enc && !keying then some (s.frameKey r g) else none) header oh cells t
    let fr : TxFrame := { tick := t, header := header, oh := oh, cells := cells, slots := n,
                          epoch := if enc && !keying then some epoch else none, withdrawn := s.withdrawn r g,
                          selector := m.selector, map := m, bytes := bytes, words := m.encode bytes }
    let s : State := { s with frame.tx := tput rg fr (tdel rg s.frame.tx),
                              frame.seq := tset (fun _ => 0) s.frame.seq rg ((seq + 1) % 65536) }
    let s := if enc && !keying then s.invoke r g m.segments else s
    (s.wrN (Obj.txCellSlots r g) n).wrN (Obj.txCellsIdle r g) (n - cells.length)

/-! ### Tap windows (R396, Table 16.3) -/

/-- Put bytes into a tap window from an offset on. -/
def tapPut (t : List Host.Cell) (off : Nat) (bs : List Byte) : List Host.Cell :=
  bs.zipIdx.foldl (fun t p => tset (fun _ => 0#8) t (off + p.2) p.1) t

/-- The figures of a tap window's sub-carrier records that the telemetry gives (Table 16.3): pilot SNR, EVM, SOP rate and mean
DGD, by offset. -/
def State.tapRecords (s : State) (t : ReachTick) : State × List (Nat × List Byte) :=
  let two (v : Int) : List Byte := leBytes 2 (v % 65536).toNat
  let (s, snr) := t.pilots.foldl (fun (q : State × List (Nat × List Byte)) p =>
    let (a, s) := q.1.dbOf p.2.1 p.2.2
    let (b, s) := s.dbOf p.2.2 p.2.1
    (s, q.2 ++ [(0x100 + 16 * p.1, two a ++ two b)])) (s, [])
  (s, (snr ++ t.sopRate.map (fun (p : Nat × Nat) => (0x104 + 16 * p.1, leBytes 4 p.2)) ++
    t.dgd.map (fun (p : Nat × Nat) => (0x108 + 16 * p.1, leBytes 2 p.2))).filter (fun p => decide (p.1 < 0x500)))

/-- The telemetry's byte at an offset of a tap window stands there (Table 16.3): not in the 3 zero lanes after the 13 taps of a FIR,
nor where the sub-carrier's taps are at identity (Table 7.2). -/
def State.tapMeasured (s : State) (r off : Nat) : Bool :=
  decide (0x100 ≤ off ∧ off < 0x4800) && (decide (off < 0x800) ||
    decide (off % 64 < 52) && tget (fun _ => 0) s.eq.taps (64 * r + (off - 0x800) / 256) != 0)

/-- Taps at identity: the centre tap of h_xx and h_yy is 2^14, every other one 0. -/
def State.tapIdentity (s : State) (r : Nat) : List Host.Cell :=
  (upto 64 (fun sc => tget (fun _ => 0) s.eq.taps (64 * r + sc) == 0)).flatMap (fun sc =>
    [(0x800 + 256 * sc + 25, 0x40#8), (0x800 + 256 * sc + 217, 0x40#8)])

/-- The block of a reach's tap window for the tick that has ended (R396), before the boundary's steps change what it shows; `t` is the
telemetry, `ended` the tick it describes. DEDUCED: log entry 18. -/
def State.tapBlock (s : State) (r ended : Nat) (t : ReachTick) : State × List Host.Cell :=
  let (s, records) := s.tapRecords t
  if !t.arrived then (s, tapPut (tget (fun _ => []) s.engine.taps r) 4 [2#8])
  else
    let w := s.watch r
    let m := t.tap.foldl (fun c p => if s.tapMeasured r p.1 then tset (fun _ => 0#8) c p.1 p.2 else c) (s.tapIdentity r)
    let m := records.foldl (fun m p => tapPut m p.1 p.2) m
    let m := tapPut m 0 (leBytes 4 (ended % 2 ^ 32) ++ [1#8])
    let m := tapPut m 0x20 (leBytes 2 (s.rdN (Obj.watchScore r)))
    let m := tapPut m 0x24 (leBytes 4 t.fSop ++ leBytes 4 (256 * t.fPhase) ++ leBytes 4 t.fTap)
    let m := tapPut m 0x30 (leBytes 4 (w.bSop / 2 ^ 24) ++ leBytes 4 (w.bPhase / 2 ^ 16) ++ leBytes 4 (w.bTap / 2 ^ 24))
    let m := tapPut m 0x3C (leBytes 4 (s.rdN (Obj.sopRatePeak r)))
    let m := tapPut m 0x40 (leBytes 4 ((s.rd (Obj.cdInForce r)) % 2 ^ 32).toNat)
    (s, tapPut m 0x44 (leBytes 8 (maskOf 64 (fun sc => s.eqSc r sc == 2))))

/-- Step 12 (R396): a reach's window switches to its block; while the reach is moored or off there is none.
DEDUCED: log entry 18. -/
def State.tapSwitch (s : State) (r : Nat) (block : List Host.Cell) : State :=
  { s with engine.taps := tset (fun _ => []) s.engine.taps r (if s.released (domReach r) then block else []) }

/-- The decoder pool's window: a record for each group that `job` held in the decode tick that has ended. DEMAND and
FLOOR_GRANTED are the ones that tick's allocation left. DEDUCED: log entry 18. -/
def State.tapPool (s : State) (ended : Nat) (job : List DecFrame) (grants : List (Nat × Nat × Nat)) : State :=
  let m := tapPut [] 0 (leBytes 4 (ended % 2 ^ 32) ++ [1#8])
  let m := grants.foldl (fun m q =>
    let mine := job.filter (fun d => 8 * d.f.r + d.f.g == q.1)
    let outs := mine.flatMap (·.out)
    tapPut m (0x100 + 16 * q.1) (leBytes 2 q.2.1 ++ leBytes 1 q.2.2 ++ [0#8] ++
      leBytes 4 (mine.foldl (fun a d => a + d.its) 0) ++ leBytes 2 (outs.filter (· == 1)).length ++
      leBytes 2 (outs.filter (· == 2)).length)) m
  { s with engine.taps := tset (fun _ => []) s.engine.taps 4 m }

/-- DEMAND and FLOOR_GRANTED of each group. -/
def State.poolGrants (s : State) : List (Nat × Nat × Nat) :=
  (List.range 32).map (fun k => (k, s.rdN (Obj.grpDemand (k / 8) (k % 8)), s.rdN (Obj.floorGranted (k / 8) (k % 8))))

/-! ### The die-to-die links' receive direction (R16, R17) -/

/-- Bits of payload that a link carries to the hub in a tick (Table 1.4). -/
def linkCapacity : Nat := 218453333

/-- What a reach's link has left beside the soft values, of 4 bits per coded bit, of the frames received in the ended tick. -/
def linkRoom (frames : List DecFrame) (r : Nat) : Nat :=
  linkCapacity - 4 * (frames.foldl (fun a d => if d.f.r = r then a + d.map.codedBits else a) 0)

/-- The telemetry that a link brings: an item that finds no room is replaced by the next tick's, and counted (R17). -/
def State.linkTelemetry (s : State) (frames : List DecFrame) (r : Nat) (t : ReachTick) : State × ReachTick :=
  if t.telemetryBits ≤ linkRoom frames r then (s, t)
  else ({ s with conv.replaced := tmod (fun _ => 0) s.conv.replaced r (· + 1) }, { t with arrived := false })

/-- Captures take what soft values and telemetry leave, in order, and none is dropped (R15, R17); they go to the capture buffer.
No vector is signalled. DESIGN CHOICE: log entries 90 and 124. -/
def State.linkCaptures (s : State) (frames : List DecFrame) (r : Nat) (t : ReachTick) : State :=
  let l := tget (fun _ => []) s.conv.captures r ++ (if s.offDom (domReach r) then [] else t.capture)
  let n := (linkRoom frames r - (if t.arrived then t.telemetryBits else 0)) / 8
  let s : State := { s with conv.captures := tset (fun _ => []) s.conv.captures r (l.drop n) }
  s.each (l.take n) (fun s p => s.putBar2 (captureBase r + p.1 % 2 ^ 20) [p.2])

/-- What a reach's link brings of the ended tick: the block of its tap window, and captures. DESIGN CHOICE: log entry 90. -/
def State.linkTick (s : State) (frames : List DecFrame) (r ended : Nat) (t : ReachTick) : State × List Host.Cell :=
  let (s, t) := s.linkTelemetry frames r t
  let (s, block) := s.tapBlock r ended t
  (s.linkCaptures frames r t, block)

/-- The links of the four reaches. -/
def State.linkTicks (s : State) (i : BoundaryInput) (frames : List DecFrame) (ended : Nat) : State × List (List Host.Cell) :=
  (List.range 4).foldl (fun (p : State × List (List Host.Cell)) r =>
    let (s, block) := p.1.linkTick frames r ended (reachOf i r)
    (s, p.2 ++ [block])) (s, [])

/-! ### The boundary -/

/-- Objects whose retained values were lost take their defaults and are reapplied (Table 19.4): a staged object as if its default
had been written first in the window, so that it comes in its own step, any other at once. DESIGN CHOICE: log entry 85. -/
def State.reapplyDefaults (s : State) : State :=
  s.each (s.integ.bad.filter (fun b => b.m == 20)) (fun s b =>
    match rowAt (b.owner / 256) (b.owner % 256) with
    | some r =>
      if r.staged then { s with core.window := ⟨b.owner, objDefault b.owner⟩ :: s.core.window }
      else s.effect 0 (b.owner / 256) (b.owner % 256) (objDefault b.owner) none
    | none => s)

/-- Before step 1: what the ended tick brought. The frames received in it are demapped (R173) before the outputs of the decode
tick are released; they enter their own decode tick at step 7. DEDUCED: log entry 12. -/
def State.boundaryIn (s : State) (i : BoundaryInput) : State × List DecFrame :=
  let s := (({ s with board.scan := i.scan }.pinsIn i.pins).lanesTick).mateBoundary
  let s := (s.hostWrites i.bar2).each i.work (fun s p => s.workStep p.1 p.2)
  let s := (s.lanesReceive i.lanes).berthTick i.berths
  let s := (s.each (List.range 4) State.linkStep).hotStep.showAvs
  -- the engines' reports (R166) precede what this tick's telemetry changes (R37)
  let s := s.each (List.range 32) (fun s k =>
    s.onlyIf (s.groupOn (k / 8) (k % 8) && !i.stale.contains k) (fun s => s.reportStep (k / 8) (k % 8)))
  let frames := i.frames.filter (s.frameFound i)
  let (s, decs) := frames.foldl (fun (p : State × List DecFrame) f =>
    let (s, d) := p.1.demap f
    let lost := (tget (fun _ => []) s.conv.erased f.r).filterMap (fun q => if q.1 = f.g then some q.2 else none)
    (s, p.2 ++ [{ d with erased := lost }])) (s, [])
  let s : State := { s with conv.erased := [] }
  let s := s.each (List.range 4) (fun s r => ((s.watchAge r).reachDecision r (s.heard i r)).reachTelemetry r (s.heard i r))
  let s := s.decodeRelease
  let s := s.each (List.range 4) State.lqfStep
  -- reads that engines made of instruction memory and moorings, which no row brings, count for their slot (Table 17.2)
  let s := s.each i.reads (fun s x => (s.onlyIf (decide (x.m.val < 12 ∧ x.owner < 16 ∧ x.outcome.val = 1))
    (fun s => s.event x.m.val x.owner 14 1)).memRead x)
  (s.reapplyDefaults.memBoundary.rakeBoundary, decs)

/-- A group is enabled on a released reach that is not going down (R161). -/
def State.groupSends (s : State) (r g : Nat) : Bool := s.groupOn r g && s.txWanted r

/-- Step 6 for a group: a due restart (R175), a committed switch (R173) and a missed deadline (R172) come first, so that the announcement
and the target (R167, R170) follow from the map now in force. DEDUCED: log entry 17. -/
def State.loadingStep (s : State) (r g : Nat) : State :=
  let s := ((s.restartDue r g).loadingSwitchDue r g).loadingDeadline r g
  if s.groupSends r g then ((s.capCandidate r g).announceStep r g).loadingCompute r g else s.withdrawAnn r g

/-- Steps 1 to 11 of Table 2.2. DEDUCED: log entry 8. -/
def State.boundarySteps (s : State) (i : BoundaryInput) (decs : List DecFrame) : State :=
  let (now, later) := s.windowNow
  let ws := lastWrites now
  let s : State := { s with core.window := later }
  let reaches : List Nat := List.range 4
  let groups : List Nat := List.range 32
  -- 1: ramps
  let s := (s.applyStep ws 1).each reaches State.rampStep
  -- 2: power transitions that moor or switch off
  let s := s.commitStep
  -- 3: stockpile swaps
  let s := (s.stockpileStep false).systemStep.poolCapacity
  -- 4: key epochs and seals
  let s := ((s.applyStep ws 4).each groups (fun s k => s.keyStep (k / 8) (k % 8))).cipherPause
  -- 5: reach commands; accepted calibration sets
  let s := (s.each reaches State.calBoundary).applyStep ws 5
  let s := (s.each (List.range 4) State.restSwitch).each reaches State.agcLossStep
  let s := (s.stockpileStep true).each reaches State.calApply
  -- 6: loading
  let s := (s.applyStep ws 6).each groups (fun s k => s.loadingStep (k / 8) (k % 8))
  -- 7: the decoder pool
  let s := s.poolAllocate decs
  -- 8: flows, classes and the ladder; restoration
  let s := (s.applyStep ws 8).restBoundary.drainStep.downgradeStep
  let s : State := { s with integ.flowBad := [] }
  -- 9: all other staged writes
  let s := ((s.applyStep ws 9).outputsLand).filterBoundary
  let s := s.each reaches (fun s r => s.biasStep r (reachOf i r).bias)
  let s := (s.superMode.timingBoundary i.refOffsets i.control).restDark.showRanks
  -- 10: filter banks
  let s := s.applyStep ws 10
  -- 11: releases
  let s := s.releaseStep.step8.requestEnd.poolCapacity
  let s := s.trainMoored.superMode
  let s := s.each groups (fun s k => s.fixedResolve (k / 8) (k % 8))
  s.each reaches (fun s r => (s.eqMembership r).showDelayValid r)

/-- Step 12 and what follows it: tap windows, tasks, the frames of the tick, the units' figures, and the next window. -/
def State.boundaryEnd (s : State) (i : BoundaryInput) (ended : Nat) (blocks : List (List Host.Cell)) (job : List DecFrame)
    (grants : List (Nat × Nat × Nat)) : State :=
  let s := s.each blocks.zipIdx (fun s p => s.tapSwitch p.2 p.1)
  let s := (s.tapPool ended job grants).taskStarts
  let s := (s.noticeStep).each (List.range 4) State.mirrorStep
  let s := s.each (List.range 32) (fun s k => s.frameBuild (k / 8) (k % 8))
  let s := (s.basinFigures i.basinDrained).groupFigures
  let s := s.wakeKeying.switchClose.showRequests.showDevice
  let s := if s.opRunning 6 && !s.start.fwErased then s.imageErase else s
  { s with core.windowOpen := true, core.marker := none }

/-- A boundary of the tick count: the first one keeps the count at 0 (R27). DESIGN CHOICE: log entry 9. -/
def State.nextTick (s : State) : State :=
  if s.core.running then { s.advanceTick with core.tick := s.advanceTick.core.tick + 1 } else s.firstBoundary

/-- The boundary goes to the fractional and asynchronous domains by tally (R31): each has received the one before. -/
def State.boundaryTallies (s : State) : State :=
  let s := if s.core.boundarySent = 0 then s else s.showTallyStep 1
  { s with core.boundarySent := s.core.boundarySent % (2 ^ 16 - 1) + 1, core.boundaryGot := [] }

/-- TICK_BOUNDARY (R35): the boundary, with what the ended tick brought in from outside. In reset there is no tick; in DORMANT
the hub is off and the always-on domain counts, keeps time and converts (R11, R491).
DEDUCED: log entry 8. DESIGN CHOICE: log entry 9. -/
def execTickBoundary (i : BoundaryInput) (s : State) : Host.Outcome State Fault Refusal :=
  if s.start.inReset ∨ s.board.noOsc ∨ s.board.hot then .next s
  else if s.power.dormant then .next (((s.nextTick.boundaryTallies).timingBoundary i.refOffsets i.control).superMode.hotStep)
  else
    let ended := s.core.tick
    let job := s.pool.job
    let grants := s.poolGrants
    let (s, decs) := s.nextTick.boundaryTallies.boundaryIn i
    let (s, blocks) := s.linkTicks i decs ended
    let s := (s.requestBoundary i.dmaNext).boundarySteps i decs
    let s := s.boundaryEnd i ended blocks job grants
    .next (s.acceptHeld (s.core.held.length + 1))

/-- STAGING_WINDOW_CLOSE (R32, R59): writes wait from here on, and the domains due to be released are fixed. -/
def execStagingWindowClose (s : State) : Host.Outcome State Fault Refusal :=
  if s.core.windowOpen then
    let s : State := { s with core.windowOpen := false }
    .next s.fixDue
  else .next s

/-- TICK_MARKER_SEND (R18, R33): with the window closed, the marker that names the next boundary goes to the reach dies. -/
def execTickMarkerSend (s : State) : Host.Outcome State Fault Refusal :=
  if s.core.running ∧ ¬ s.core.windowOpen ∧ ¬ s.power.dormant then .next { s with core.marker := some s.nextTick.core.tick }
  else .next s

/-! ### The syndrome checker (R470) -/

/-- DECODER_CHECKER_FAILURE (R470): the core is withdrawn at once and handed to stockpile control, and its codeword is delivered
failed (R219). DEDUCED: log entry 22. -/
def execDecoderCheckerFailure (core : Fin 52) (frame word : Nat) (s : State) : Host.Outcome State Fault Refusal :=
  let unit := 0x1100 + core.val
  if s.offDom (domQuarter (core.val / 13)) ∨ s.coreRetired core.val ∨ s.integ.out.contains unit then .next s
  else
    let job := s.pool.job.zipIdx.map (fun p =>
      if p.2 = frame ∧ lget 1 p.1.out word = 0 then { p.1 with out := lset p.1.out word 1 } else p.1)
    let failed : Nat := if job = s.pool.job then 0 else 1
    let s : State := { s with pool.job := job, integ.out := s.integ.out ++ [unit] }
    let s := s.incBy Obj.failed failed
    let s := match s.pool.job[frame]? with
      | some d =>
        if failed = 0 then s
        else (s.inc (Obj.failedCodewords d.f.r d.f.g)).raiseLimited 0x8062 (0x2810 + 8 * d.f.r + d.f.g) 1
      | none => s
    .next (s.reportFailed unit)

/-! ### Injected frames (R269) -/

/-- Replace bytes of a frame from an offset on; bytes past its end are dropped. -/
def putBytes (f : List Byte) (off : Nat) (bs : List Byte) : List Byte :=
  bs.zipIdx.foldl (fun f p => lset f (off + p.2) p.1) f

/-- The originTimestamp of a Sync message is its time of day (MODE 2): ten bytes at offset 34 of the PTP message; over
UDP/IPv4 the UDP checksum becomes zero. DEDUCED: log entry 19. -/
def stampSync (f : List Byte) (ns : Nat) : List Byte :=
  match ptpAt f with
  | some (o, k) =>
    let f := putBytes f (o + 34) (beBytes 6 (ns / 1000000000) ++ beBytes 4 (ns % 1000000000))
    if k = 1 then putBytes f (o - 2) [0#8, 0#8] else f
  | none => f

/-- INJECTED_FRAME_SEND (R267, R269): the oldest injected frame of a port leaves at the next gap, ahead of cell traffic, with
its FCS; `phase` is that of the message timestamp point. DEDUCED: log entry 19. -/
def execInjectedFrameSend (b : Fin 64) (phase : Nat) (s : State) : Host.Outcome State Fault Refusal :=
  if !s.isPort b.val || !s.portUp b.val then .next s
  else
    let x := s.port b.val
    match x.inject with
    | [] => .next s
    | j :: rest =>
      let (tick, ph) := s.stamp phase (s.rd (Obj.tsEgressAdjust b.val))
      let bytes := if j.mode = 2 then
          match s.todNs tick ph with
          | some ns => stampSync j.bytes ns.toNat
          | none => j.bytes
        else j.bytes
      let s := s.setPort b.val { x with inject := rest, sent := bytes ++ leBytes 4 (crc32 bytes) }
      .next (if j.mode = 1 then
          s.ringWrite 3 (leBytes 1 b.val ++ [0#8] ++ leBytes 2 j.tag ++ leBytes 8 tick ++ leBytes 4 ph ++ List.replicate 8 0#8)
        else s)

end Sys2Proof.Machine
end

