-- ==== Sys2Proof/Machine/EngineRows.lean ====
section
/-! DEFINITION. The engine instruction rows (R402, Tables 16.5 and 16.6), one meaning each: the slot's task executes the
instruction with these fields (State.engRow). -/
namespace Sys2Proof.Machine

/-- ADD: d ← a + b (Table 16.6). -/
def execEngAdd (c : Fin 12) (e : Fin 16) (d a b : BitVec 5) (s : State) : Host.Outcome State Fault Refusal :=
  .next (s.engRow c e (.alu .add d a b) {} 0)

/-- SUB: d ← a − b (Table 16.6). -/
def execEngSub (c : Fin 12) (e : Fin 16) (d a b : BitVec 5) (s : State) : Host.Outcome State Fault Refusal :=
  .next (s.engRow c e (.alu .sub d a b) {} 0)

/-- AND: d ← a AND b (Table 16.6). -/
def execEngAnd (c : Fin 12) (e : Fin 16) (d a b : BitVec 5) (s : State) : Host.Outcome State Fault Refusal :=
  .next (s.engRow c e (.alu .and d a b) {} 0)

/-- OR: d ← a OR b (Table 16.6). -/
def execEngOr (c : Fin 12) (e : Fin 16) (d a b : BitVec 5) (s : State) : Host.Outcome State Fault Refusal :=
  .next (s.engRow c e (.alu .or d a b) {} 0)

/-- XOR: d ← a XOR b (Table 16.6). -/
def execEngXor (c : Fin 12) (e : Fin 16) (d a b : BitVec 5) (s : State) : Host.Outcome State Fault Refusal :=
  .next (s.engRow c e (.alu .xor d a b) {} 0)

/-- SHL: d ← a shifted left by b bits 4:0 (Table 16.6). -/
def execEngShl (c : Fin 12) (e : Fin 16) (d a b : BitVec 5) (s : State) : Host.Outcome State Fault Refusal :=
  .next (s.engRow c e (.alu .shl d a b) {} 0)

/-- SHR: d ← a shifted right logically by b bits 4:0 (Table 16.6). -/
def execEngShr (c : Fin 12) (e : Fin 16) (d a b : BitVec 5) (s : State) : Host.Outcome State Fault Refusal :=
  .next (s.engRow c e (.alu .shr d a b) {} 0)

/-- SAR: d ← a shifted right arithmetically by b bits 4:0 (Table 16.6). -/
def execEngSar (c : Fin 12) (e : Fin 16) (d a b : BitVec 5) (s : State) : Host.Outcome State Fault Refusal :=
  .next (s.engRow c e (.alu .sar d a b) {} 0)

/-- LT: d ← 1 if a < b signed, else 0 (Table 16.6). -/
def execEngLt (c : Fin 12) (e : Fin 16) (d a b : BitVec 5) (s : State) : Host.Outcome State Fault Refusal :=
  .next (s.engRow c e (.alu .lt d a b) {} 0)

/-- LTU: d ← 1 if a < b unsigned, else 0 (Table 16.6). -/
def execEngLtu (c : Fin 12) (e : Fin 16) (d a b : BitVec 5) (s : State) : Host.Outcome State Fault Refusal :=
  .next (s.engRow c e (.alu .ltu d a b) {} 0)

/-- MIN: d ← signed minimum (Table 16.6). -/
def execEngMin (c : Fin 12) (e : Fin 16) (d a b : BitVec 5) (s : State) : Host.Outcome State Fault Refusal :=
  .next (s.engRow c e (.alu .min d a b) {} 0)

/-- MAX: d ← signed maximum (Table 16.6). -/
def execEngMax (c : Fin 12) (e : Fin 16) (d a b : BitVec 5) (s : State) : Host.Outcome State Fault Refusal :=
  .next (s.engRow c e (.alu .max d a b) {} 0)

/-- MINU: d ← unsigned minimum (Table 16.6). -/
def execEngMinu (c : Fin 12) (e : Fin 16) (d a b : BitVec 5) (s : State) : Host.Outcome State Fault Refusal :=
  .next (s.engRow c e (.alu .minu d a b) {} 0)

/-- MAXU: d ← unsigned maximum (Table 16.6). -/
def execEngMaxu (c : Fin 12) (e : Fin 16) (d a b : BitVec 5) (s : State) : Host.Outcome State Fault Refusal :=
  .next (s.engRow c e (.alu .maxu d a b) {} 0)

/-- LZC: d ← leading zero bits of a (Table 16.6). -/
def execEngLzc (c : Fin 12) (e : Fin 16) (d a : BitVec 5) (s : State) : Host.Outcome State Fault Refusal :=
  .next (s.engRow c e (.alu .lzc d a 0) {} 0)

/-- ONES: d ← one bits of a (Table 16.6). -/
def execEngOnes (c : Fin 12) (e : Fin 16) (d a : BitVec 5) (s : State) : Host.Outcome State Fault Refusal :=
  .next (s.engRow c e (.alu .ones d a 0) {} 0)

/-- MUL: d ← low 32 bits of a × b (Table 16.6). -/
def execEngMul (c : Fin 12) (e : Fin 16) (d a b : BitVec 5) (s : State) : Host.Outcome State Fault Refusal :=
  .next (s.engRow c e (.alu .mul d a b) {} 0)

/-- MULHS: d ← high 32 bits of the signed product (Table 16.6). -/
def execEngMulhs (c : Fin 12) (e : Fin 16) (d a b : BitVec 5) (s : State) : Host.Outcome State Fault Refusal :=
  .next (s.engRow c e (.alu .mulhs d a b) {} 0)

/-- MULHU: d ← high 32 bits of the unsigned product (Table 16.6). -/
def execEngMulhu (c : Fin 12) (e : Fin 16) (d a b : BitVec 5) (s : State) : Host.Outcome State Fault Refusal :=
  .next (s.engRow c e (.alu .mulhu d a b) {} 0)

/-- DQ: d ← signed quotient (Table 16.6). -/
def execEngDq (c : Fin 12) (e : Fin 16) (d a b : BitVec 5) (s : State) : Host.Outcome State Fault Refusal :=
  .next (s.engRow c e (.alu .dq d a b) {} 0)

/-- DQU: d ← unsigned quotient (Table 16.6). -/
def execEngDqu (c : Fin 12) (e : Fin 16) (d a b : BitVec 5) (s : State) : Host.Outcome State Fault Refusal :=
  .next (s.engRow c e (.alu .dqu d a b) {} 0)

/-- DR: d ← signed remainder (Table 16.6). -/
def execEngDr (c : Fin 12) (e : Fin 16) (d a b : BitVec 5) (s : State) : Host.Outcome State Fault Refusal :=
  .next (s.engRow c e (.alu .dr d a b) {} 0)

/-- DRU: d ← unsigned remainder (Table 16.6). -/
def execEngDru (c : Fin 12) (e : Fin 16) (d a b : BitVec 5) (s : State) : Host.Outcome State Fault Refusal :=
  .next (s.engRow c e (.alu .dru d a b) {} 0)

/-- ADDSAT: d ← signed saturating sum (Table 16.6). -/
def execEngAddsat (c : Fin 12) (e : Fin 16) (d a b : BitVec 5) (s : State) : Host.Outcome State Fault Refusal :=
  .next (s.engRow c e (.alu .addsat d a b) {} 0)

/-- SUBSAT: d ← signed saturating difference (Table 16.6). -/
def execEngSubsat (c : Fin 12) (e : Fin 16) (d a b : BitVec 5) (s : State) : Host.Outcome State Fault Refusal :=
  .next (s.engRow c e (.alu .subsat d a b) {} 0)

/-- ADDK: d ← a + sext(k14) (Table 16.5). -/
def execEngAddk (c : Fin 12) (e : Fin 16) (d a : BitVec 5) (k : BitVec 14) (s : State) : Host.Outcome State Fault Refusal :=
  .next (s.engRow c e (.rk .addk d a k) {} 0)

/-- ANDK: d ← a AND zext(k14) (Table 16.5). -/
def execEngAndk (c : Fin 12) (e : Fin 16) (d a : BitVec 5) (k : BitVec 14) (s : State) : Host.Outcome State Fault Refusal :=
  .next (s.engRow c e (.rk .andk d a k) {} 0)

/-- ORK: d ← a OR zext(k14) (Table 16.5). -/
def execEngOrk (c : Fin 12) (e : Fin 16) (d a : BitVec 5) (k : BitVec 14) (s : State) : Host.Outcome State Fault Refusal :=
  .next (s.engRow c e (.rk .ork d a k) {} 0)

/-- XORK: d ← a XOR zext(k14) (Table 16.5). -/
def execEngXork (c : Fin 12) (e : Fin 16) (d a : BitVec 5) (k : BitVec 14) (s : State) : Host.Outcome State Fault Refusal :=
  .next (s.engRow c e (.rk .xork d a k) {} 0)

/-- LTK: d ← 1 if a < sext(k14) signed, else 0 (Table 16.5). -/
def execEngLtk (c : Fin 12) (e : Fin 16) (d a : BitVec 5) (k : BitVec 14) (s : State) : Host.Outcome State Fault Refusal :=
  .next (s.engRow c e (.rk .ltk d a k) {} 0)

/-- LTKU: d ← 1 if a < zext(k14) unsigned, else 0 (Table 16.5). -/
def execEngLtku (c : Fin 12) (e : Fin 16) (d a : BitVec 5) (k : BitVec 14) (s : State) : Host.Outcome State Fault Refusal :=
  .next (s.engRow c e (.rk .ltku d a k) {} 0)

/-- SHLK: d ← a shifted left by k (Table 16.5). -/
def execEngShlk (c : Fin 12) (e : Fin 16) (d a : BitVec 5) (k : BitVec 5) (s : State) : Host.Outcome State Fault Refusal :=
  .next (s.engRow c e (.rk .shlk d a (0#9 ++ k)) {} 0)

/-- SHRK: d ← a shifted right logically by k (Table 16.5). -/
def execEngShrk (c : Fin 12) (e : Fin 16) (d a : BitVec 5) (k : BitVec 5) (s : State) : Host.Outcome State Fault Refusal :=
  .next (s.engRow c e (.rk .shrk d a (0#9 ++ k)) {} 0)

/-- SARK: d ← a shifted right arithmetically by k (Table 16.5). -/
def execEngSark (c : Fin 12) (e : Fin 16) (d a : BitVec 5) (k : BitVec 5) (s : State) : Host.Outcome State Fault Refusal :=
  .next (s.engRow c e (.rk .sark d a (0#9 ++ k)) {} 0)

/-- MULK: d ← low 32 bits of a × sext(k14) (Table 16.5). -/
def execEngMulk (c : Fin 12) (e : Fin 16) (d a : BitVec 5) (k : BitVec 14) (s : State) : Host.Outcome State Fault Refusal :=
  .next (s.engRow c e (.rk .mulk d a k) {} 0)

/-- SETHI: d ← k × 2^14 (Table 16.5). -/
def execEngSethi (c : Fin 12) (e : Fin 16) (d : BitVec 5) (k : BitVec 18) (s : State) : Host.Outcome State Fault Refusal :=
  .next (s.engRow c e (.sethi d k) {} 0)

/-- CALL: d ← PC + 4, and a jump by k words (Table 16.5). -/
def execEngCall (c : Fin 12) (e : Fin 16) (d : BitVec 5) (k : BitVec 23) (s : State) : Host.Outcome State Fault Refusal :=
  .next (s.engRow c e (.call d k) {} 0)

/-- JUMPR: d ← PC + 4, and a jump to a + 4 × sext(k14) (Table 16.5). -/
def execEngJumpr (c : Fin 12) (e : Fin 16) (d a : BitVec 5) (k : BitVec 14) (s : State) : Host.Outcome State Fault Refusal :=
  .next (s.engRow c e (.jumpr d a k) {} 0)

/-- LD_W: r ← a word of memory (R393–R397). -/
def execEngLdW (c : Fin 12) (e : Fin 16) (r base : BitVec 5) (disp : BitVec 14) (m : MemPort) (s : State) : Host.Outcome State Fault Refusal :=
  .next (s.engRow c e (.ld .w r base disp) m 0)

/-- LD_H: r ← a sign-extended halfword of memory (R393–R397). -/
def execEngLdH (c : Fin 12) (e : Fin 16) (r base : BitVec 5) (disp : BitVec 14) (m : MemPort) (s : State) : Host.Outcome State Fault Refusal :=
  .next (s.engRow c e (.ld .h r base disp) m 0)

/-- LD_HU: r ← a zero-extended halfword of memory (R393–R397). -/
def execEngLdHu (c : Fin 12) (e : Fin 16) (r base : BitVec 5) (disp : BitVec 14) (m : MemPort) (s : State) : Host.Outcome State Fault Refusal :=
  .next (s.engRow c e (.ld .hu r base disp) m 0)

/-- LD_B: r ← a sign-extended byte of memory (R393–R397). -/
def execEngLdB (c : Fin 12) (e : Fin 16) (r base : BitVec 5) (disp : BitVec 14) (m : MemPort) (s : State) : Host.Outcome State Fault Refusal :=
  .next (s.engRow c e (.ld .b r base disp) m 0)

/-- LD_BU: r ← a zero-extended byte of memory (R393–R397). -/
def execEngLdBu (c : Fin 12) (e : Fin 16) (r base : BitVec 5) (disp : BitVec 14) (m : MemPort) (s : State) : Host.Outcome State Fault Refusal :=
  .next (s.engRow c e (.ld .bu r base disp) m 0)

/-- ST_W: memory ← the word of r (R393–R395). -/
def execEngStW (c : Fin 12) (e : Fin 16) (r base : BitVec 5) (disp : BitVec 14) (m : MemPort) (s : State) : Host.Outcome State Fault Refusal :=
  .next (s.engRow c e (.st .w r base disp) m 0)

/-- ST_H: memory ← the low halfword of r (R393–R395). -/
def execEngStH (c : Fin 12) (e : Fin 16) (r base : BitVec 5) (disp : BitVec 14) (m : MemPort) (s : State) : Host.Outcome State Fault Refusal :=
  .next (s.engRow c e (.st .h r base disp) m 0)

/-- ST_B: memory ← the low byte of r (R393–R395). -/
def execEngStB (c : Fin 12) (e : Fin 16) (r base : BitVec 5) (disp : BitVec 14) (m : MemPort) (s : State) : Host.Outcome State Fault Refusal :=
  .next (s.engRow c e (.st .b r base disp) m 0)

/-- BR_EQ: a branch by off words if a = b (Table 16.5). -/
def execEngBrEq (c : Fin 12) (e : Fin 16) (a b : BitVec 5) (off : BitVec 15) (s : State) : Host.Outcome State Fault Refusal :=
  .next (s.engRow c e (.br .eq a b off) {} 0)

/-- BR_NE: a branch by off words if a ≠ b (Table 16.5). -/
def execEngBrNe (c : Fin 12) (e : Fin 16) (a b : BitVec 5) (off : BitVec 15) (s : State) : Host.Outcome State Fault Refusal :=
  .next (s.engRow c e (.br .ne a b off) {} 0)

/-- BR_LT: a branch by off words if a < b signed (Table 16.5). -/
def execEngBrLt (c : Fin 12) (e : Fin 16) (a b : BitVec 5) (off : BitVec 15) (s : State) : Host.Outcome State Fault Refusal :=
  .next (s.engRow c e (.br .lt a b off) {} 0)

/-- BR_GE: a branch by off words if a ≥ b signed (Table 16.5). -/
def execEngBrGe (c : Fin 12) (e : Fin 16) (a b : BitVec 5) (off : BitVec 15) (s : State) : Host.Outcome State Fault Refusal :=
  .next (s.engRow c e (.br .ge a b off) {} 0)

/-- BR_LO: a branch by off words if a < b unsigned (Table 16.5). -/
def execEngBrLo (c : Fin 12) (e : Fin 16) (a b : BitVec 5) (off : BitVec 15) (s : State) : Host.Outcome State Fault Refusal :=
  .next (s.engRow c e (.br .lo a b off) {} 0)

/-- BR_HS: a branch by off words if a ≥ b unsigned (Table 16.5). -/
def execEngBrHs (c : Fin 12) (e : Fin 16) (a b : BitVec 5) (off : BitVec 15) (s : State) : Host.Outcome State Fault Refusal :=
  .next (s.engRow c e (.br .hs a b off) {} 0)

/-- MSEND: n + 1 words from data memory at b to destination a; d ← 1 or 0 (R398, R399). -/
def execEngMsend (c : Fin 12) (e : Fin 16) (d a b : BitVec 5) (n : BitVec 3) (m : MemPort) (s : State) : Host.Outcome State Fault Refusal :=
  .next (s.engRow c e (.msend d a b n) m 0)

/-- MRECV: the oldest message of mooring k goes to data memory at a; d ← its word count, 0 if empty (Table 16.5). -/
def execEngMrecv (c : Fin 12) (e : Fin 16) (d a : BitVec 5) (k : BitVec 2) (s : State) : Host.Outcome State Fault Refusal :=
  .next (s.engRow c e (.mrecv d a k) {} 0)

/-- MWAIT: wait for a message in the mask or for cs.budget (Table 16.5, R409). -/
def execEngMwait (c : Fin 12) (e : Fin 16) (d : BitVec 5) (mask : BitVec 4) (s : State) : Host.Outcome State Fault Refusal :=
  .next (s.engRow c e (.mwait d mask) {} 0)

/-- XCS_R: d ← CSR; the CSR is read (Tables 16.1, 16.5 and 17.3). -/
def execEngXcsR (c : Fin 12) (e : Fin 16) (d a : BitVec 5) (csr : BitVec 12) (s : State) : Host.Outcome State Fault Refusal :=
  .next (s.engRow c e (.xcs .r d a csr) {} 0)

/-- XCS_W: d ← CSR; CSR ← a (Tables 16.1, 16.5 and 17.3). -/
def execEngXcsW (c : Fin 12) (e : Fin 16) (d a : BitVec 5) (csr : BitVec 12) (s : State) : Host.Outcome State Fault Refusal :=
  .next (s.engRow c e (.xcs .w d a csr) {} 0)

/-- XCS_OR: d ← CSR; CSR ← CSR OR a (Tables 16.1, 16.5 and 17.3). -/
def execEngXcsOr (c : Fin 12) (e : Fin 16) (d a : BitVec 5) (csr : BitVec 12) (s : State) : Host.Outcome State Fault Refusal :=
  .next (s.engRow c e (.xcs .or d a csr) {} 0)

/-- XCS_ANDN: d ← CSR; CSR ← CSR AND NOT a (Tables 16.1, 16.5 and 17.3). -/
def execEngXcsAndn (c : Fin 12) (e : Fin 16) (d a : BitVec 5) (csr : BitVec 12) (s : State) : Host.Outcome State Fault Refusal :=
  .next (s.engRow c e (.xcs .andn d a csr) {} 0)

/-- ATOM_SWAP: d ← mem[a], and mem[a] ← mem[a] swap b, on shared memory (R394, R395). -/
def execEngAtomSwap (c : Fin 12) (e : Fin 16) (d a b : BitVec 5) (m : MemPort) (s : State) : Host.Outcome State Fault Refusal :=
  .next (s.engRow c e (.atom .swap d a b) m 0)

/-- ATOM_ADD: d ← mem[a], and mem[a] ← mem[a] add b, on shared memory (R394, R395). -/
def execEngAtomAdd (c : Fin 12) (e : Fin 16) (d a b : BitVec 5) (m : MemPort) (s : State) : Host.Outcome State Fault Refusal :=
  .next (s.engRow c e (.atom .add d a b) m 0)

/-- ATOM_AND: d ← mem[a], and mem[a] ← mem[a] and b, on shared memory (R394, R395). -/
def execEngAtomAnd (c : Fin 12) (e : Fin 16) (d a b : BitVec 5) (m : MemPort) (s : State) : Host.Outcome State Fault Refusal :=
  .next (s.engRow c e (.atom .and d a b) m 0)

/-- ATOM_OR: d ← mem[a], and mem[a] ← mem[a] or b, on shared memory (R394, R395). -/
def execEngAtomOr (c : Fin 12) (e : Fin 16) (d a b : BitVec 5) (m : MemPort) (s : State) : Host.Outcome State Fault Refusal :=
  .next (s.engRow c e (.atom .or d a b) m 0)

/-- ATOM_MIN: d ← mem[a], and mem[a] ← mem[a] min b, on shared memory (R394, R395). -/
def execEngAtomMin (c : Fin 12) (e : Fin 16) (d a b : BitVec 5) (m : MemPort) (s : State) : Host.Outcome State Fault Refusal :=
  .next (s.engRow c e (.atom .min d a b) m 0)

/-- ATOM_MAX: d ← mem[a], and mem[a] ← mem[a] max b, on shared memory (R394, R395). -/
def execEngAtomMax (c : Fin 12) (e : Fin 16) (d a b : BitVec 5) (m : MemPort) (s : State) : Host.Outcome State Fault Refusal :=
  .next (s.engRow c e (.atom .max d a b) m 0)

/-- VADD: per part, saturating sum (Table 16.6). -/
def execEngVadd (c : Fin 12) (e : Fin 16) (vd va vb : BitVec 3) (s : State) : Host.Outcome State Fault Refusal :=
  .next (s.engRow c e (.valu .vadd vd va vb 0) {} 0)

/-- VSUB: per part, saturating difference (Table 16.6). -/
def execEngVsub (c : Fin 12) (e : Fin 16) (vd va vb : BitVec 3) (s : State) : Host.Outcome State Fault Refusal :=
  .next (s.engRow c e (.valu .vsub vd va vb 0) {} 0)

/-- VCMUL: va × vb (Table 16.6). -/
def execEngVcmul (c : Fin 12) (e : Fin 16) (vd va vb : BitVec 3) (s : State) : Host.Outcome State Fault Refusal :=
  .next (s.engRow c e (.valu .vcmul vd va vb 0) {} 0)

/-- VCMULC: va × conj(vb) (Table 16.6). -/
def execEngVcmulc (c : Fin 12) (e : Fin 16) (vd va vb : BitVec 3) (s : State) : Host.Outcome State Fault Refusal :=
  .next (s.engRow c e (.valu .vcmulc vd va vb 0) {} 0)

/-- VCMAC: vd + va × vb (Table 16.6). -/
def execEngVcmac (c : Fin 12) (e : Fin 16) (vd va vb : BitVec 3) (s : State) : Host.Outcome State Fault Refusal :=
  .next (s.engRow c e (.valu .vcmac vd va vb 0) {} 0)

/-- VMAG2: re ← |va|², im ← 0 (Table 16.6). -/
def execEngVmag2 (c : Fin 12) (e : Fin 16) (vd va : BitVec 3) (s : State) : Host.Outcome State Fault Refusal :=
  .next (s.engRow c e (.valu .vmag2 vd va 0 0) {} 0)

/-- VMAGA: re ← re + |va|² (Table 16.6). -/
def execEngVmaga (c : Fin 12) (e : Fin 16) (vd va : BitVec 3) (s : State) : Host.Outcome State Fault Refusal :=
  .next (s.engRow c e (.valu .vmaga vd va 0 0) {} 0)

/-- VCONJ: conj(va) (Table 16.6). -/
def execEngVconj (c : Fin 12) (e : Fin 16) (vd va : BitVec 3) (s : State) : Host.Outcome State Fault Refusal :=
  .next (s.engRow c e (.valu .vconj vd va 0 0) {} 0)

/-- VSHR: each part shifted right arithmetically by shamt (Table 16.6). -/
def execEngVshr (c : Fin 12) (e : Fin 16) (vd va : BitVec 3) (shamt : BitVec 4) (s : State) : Host.Outcome State Fault Refusal :=
  .next (s.engRow c e (.valu .vshr vd va 0 shamt) {} 0)

/-- VLD: vector v ← 32 bytes of memory (R395, R402). -/
def execEngVld (c : Fin 12) (e : Fin 16) (v : BitVec 3) (base : BitVec 5) (disp : BitVec 14) (m : MemPort) (s : State) : Host.Outcome State Fault Refusal :=
  .next (s.engRow c e (.vld v base disp) m 0)

/-- VST: 32 bytes of memory ← vector v (R395, R402). -/
def execEngVst (c : Fin 12) (e : Fin 16) (v : BitVec 3) (base : BitVec 5) (disp : BitVec 14) (m : MemPort) (s : State) : Host.Outcome State Fault Refusal :=
  .next (s.engRow c e (.vst v base disp) m 0)

/-- VBCAST: every lane ← a (Table 16.6). -/
def execEngVbcast (c : Fin 12) (e : Fin 16) (vd : BitVec 3) (a : BitVec 5) (s : State) : Host.Outcome State Fault Refusal :=
  .next (s.engRow c e (.vbcast vd a 0) {} 0)

/-- VEXT: d ← lane k (Table 16.6). -/
def execEngVext (c : Fin 12) (e : Fin 16) (d : BitVec 5) (va : BitVec 3) (k : BitVec 3) (s : State) : Host.Outcome State Fault Refusal :=
  .next (s.engRow c e (.vext d va 0 k) {} 0)

/-- VINS: lane k ← a (Table 16.6). -/
def execEngVins (c : Fin 12) (e : Fin 16) (vd : BitVec 3) (a : BitVec 5) (k : BitVec 3) (s : State) : Host.Outcome State Fault Refusal :=
  .next (s.engRow c e (.vins vd a 0 k) {} 0)

/-- VSUMR: d ← the sum of the real parts (Table 16.6). -/
def execEngVsumr (c : Fin 12) (e : Fin 16) (d : BitVec 5) (va : BitVec 3) (s : State) : Host.Outcome State Fault Refusal :=
  .next (s.engRow c e (.vsum false d va 0) {} 0)

/-- VSUMI: d ← the sum of the imaginary parts (Table 16.6). -/
def execEngVsumi (c : Fin 12) (e : Fin 16) (d : BitVec 5) (va : BitVec 3) (s : State) : Host.Outcome State Fault Refusal :=
  .next (s.engRow c e (.vsum true d va 0) {} 0)

/-- NOP (Table 16.5). -/
def execEngNop (c : Fin 12) (e : Fin 16) (s : State) : Host.Outcome State Fault Refusal :=
  .next (s.engRow c e (.nop) {} 0)

/-- TEND: the task ends and its held outputs are released (R408, R421). -/
def execEngTend (c : Fin 12) (e : Fin 16) (s : State) : Host.Outcome State Fault Refusal :=
  .next (s.engRow c e (.tend) {} 0)

/-- FENCE: waits until earlier stores, ATOMs and MSENDs are complete (Table 16.7). -/
def execEngFence (c : Fin 12) (e : Fin 16) (wait : Nat) (s : State) : Host.Outcome State Fault Refusal :=
  .next (s.engRow c e (.fence) {} wait)

/-- TRAP: cause SOFTWARE with a code (R405). -/
def execEngTrap (c : Fin 12) (e : Fin 16) (code : BitVec 6) (s : State) : Host.Outcome State Fault Refusal :=
  .next (s.engRow c e (.trap code) {} 0)

/-- RESUME: return to cs.trappc in keeper mode; a PRIVILEGE trap in crew mode (R405, R406). -/
def execEngResume (c : Fin 12) (e : Fin 16) (s : State) : Host.Outcome State Fault Refusal :=
  .next (s.engRow c e (.resume) {} 0)

/-- HALT: the engine stops until it is loaded again, in keeper mode; a PRIVILEGE trap in crew mode (R405, R408). -/
def execEngHalt (c : Fin 12) (e : Fin 16) (s : State) : Host.Outcome State Fault Refusal :=
  .next (s.engRow c e (.halt) {} 0)

end Sys2Proof.Machine
end

