-- ==== Sys2Proof/Machine/Dispatch.lean ====
section
/-! DEFINITION. One arm per row of the command table, each a direct call of its meaning. -/
namespace Sys2Proof.Machine

/-- A command's effect on everything but the queue. -/
def exec (i : Instr) (s : State) : Host.Outcome State Fault Refusal :=
  match i with
  | .resetNRelease => Sys2Proof.Machine.execResetNRelease s
  | .vddAonLoss => Sys2Proof.Machine.execVddAonLoss s
  | .ledgerRecordSelect => Sys2Proof.Machine.execLedgerRecordSelect s
  | .bootFlashTimeout => Sys2Proof.Machine.execBootFlashTimeout s
  | .imageVerify => Sys2Proof.Machine.execImageVerify s
  | .stateSramFill units domains => Sys2Proof.Machine.execStateSramFill units domains s
  | .assayPreconditionTimeout pllError low high => Sys2Proof.Machine.execAssayPreconditionTimeout pllError low high s
  | .assayEnd failed pllError vcore => Sys2Proof.Machine.execAssayEnd failed pllError vcore s
  | .startCommit => Sys2Proof.Machine.execStartCommit s
  | .basinPortTrained p rate width capacity => Sys2Proof.Machine.execBasinPortTrained p rate width capacity s
  | .basinTrainingTimeout p => Sys2Proof.Machine.execBasinTrainingTimeout p s
  | .basinPortFillDone p ok bad => Sys2Proof.Machine.execBasinPortFillDone p ok bad s
  | .durableAccepted => Sys2Proof.Machine.execDurableAccepted s
  | .tickBoundary x => Sys2Proof.Machine.execTickBoundary x s
  | .stagingWindowClose => Sys2Proof.Machine.execStagingWindowClose s
  | .tickMarkerSend => Sys2Proof.Machine.execTickMarkerSend s
  | .chamberDelivery ch writes => Sys2Proof.Machine.execChamberDelivery ch writes s
  | .tallyDelivery t n => Sys2Proof.Machine.execTallyDelivery t n s
  | .uandatenDatagramRx addr port fragment bytes => Sys2Proof.Machine.execUandatenDatagramRx addr port fragment bytes s
  | .readReq sess seq index sub body => Sys2Proof.Machine.execReadReq sess seq index sub body s
  | .readBlock sess seq index sub body => Sys2Proof.Machine.execReadBlock sess seq index sub body s
  | .writeReq sess seq index sub body => Sys2Proof.Machine.execWriteReq sess seq index sub body s
  | .writeBlock sess seq index sub body => Sys2Proof.Machine.execWriteBlock sess seq index sub body s
  | .subscribe sess seq body => Sys2Proof.Machine.execSubscribe sess seq body s
  | .openSession cred nonce seq mac => Sys2Proof.Machine.execOpenSession cred nonce seq mac s
  | .closeSession sess seq => Sys2Proof.Machine.execCloseSession sess seq s
  | .requestRetry sess seq => Sys2Proof.Machine.execRequestRetry sess seq s
  | .rateLimitPeriodEnd code source => Sys2Proof.Machine.execRateLimitPeriodEnd code source s
  | .sessionIdleTimeout sess => Sys2Proof.Machine.execSessionIdleTimeout sess s
  | .logEntryRead sess seq => Sys2Proof.Machine.execLogEntryRead sess seq s
  | .credential sess seq words => Sys2Proof.Machine.execCredential sess seq words s
  | .credentialErase sess seq id => Sys2Proof.Machine.execCredentialErase sess seq id s
  | .mgmtAddressChange sess seq sub words => Sys2Proof.Machine.execMgmtAddressChange sess seq sub words s
  | .abortOp sess seq o v => Sys2Proof.Machine.execAbortOp sess seq o v s
  | .mbxSubmit bits => Sys2Proof.Machine.execMbxSubmit bits s
  | .mbxDoneClear bits => Sys2Proof.Machine.execMbxDoneClear bits s
  | .mbxErrorClear bits => Sys2Proof.Machine.execMbxErrorClear bits s
  | .ringTailWrite q v => Sys2Proof.Machine.execRingTailWrite q v s
  | .channelEnable n on next => Sys2Proof.Machine.execChannelEnable n on next s
  | .channelReset n => Sys2Proof.Machine.execChannelReset n s
  | .dmaRingTailWrite n v next => Sys2Proof.Machine.execDmaRingTailWrite n v next s
  | .dmaDescriptorDone n data next => Sys2Proof.Machine.execDmaDescriptorDone n data next s
  | .bar0RegisterWrite off v => Sys2Proof.Machine.execBar0RegisterWrite off v s
  | .firmwareLoad sess seq v => Sys2Proof.Machine.execFirmwareLoad sess seq v s
  | .firmwareLoadEnd => Sys2Proof.Machine.execFirmwareLoadEnd s
  | .shutdown sess seq v => Sys2Proof.Machine.execShutdown sess seq v s
  | .shutdownDrainEnd => Sys2Proof.Machine.execShutdownDrainEnd s
  | .commitNow sess seq v => Sys2Proof.Machine.execCommitNow sess seq v s
  | .assayWhenWrite sess seq v => Sys2Proof.Machine.execAssayWhenWrite sess seq v s
  | .ledgerPeriodicCommit => Sys2Proof.Machine.execLedgerPeriodicCommit s
  | .ledgerCommitDone ok => Sys2Proof.Machine.execLedgerCommitDone ok s
  | .watchdogExpiry => Sys2Proof.Machine.execWatchdogExpiry s
  | .watchdogRunClear => Sys2Proof.Machine.execWatchdogRunClear s
  | .dieLinkTrained r => Sys2Proof.Machine.execDieLinkTrained r s
  | .dieLinkFlitError r tx bytes g flit => Sys2Proof.Machine.execDieLinkFlitError r tx bytes g flit s
  | .dieLinkDegraded r => Sys2Proof.Machine.execDieLinkDegraded r s
  | .reachEnable sess seq r v => Sys2Proof.Machine.execReachEnable sess seq r v s
  | .agcSlewUpdate r errs light => Sys2Proof.Machine.execAgcSlewUpdate r errs light s
  | .agcSettleEntry r => Sys2Proof.Machine.execAgcSettleEntry r s
  | .agcFreeze r => Sys2Proof.Machine.execAgcFreeze r s
  | .agcTrainingLossRearm r => Sys2Proof.Machine.execAgcTrainingLossRearm r s
  | .agcRearm sess seq r v => Sys2Proof.Machine.execAgcRearm sess seq r v s
  | .rampEnd r => Sys2Proof.Machine.execRampEnd r s
  | .txOffNow sess seq r v => Sys2Proof.Machine.execTxOffNow sess seq r v s
  | .eyeSafetyInput gpio level => Sys2Proof.Machine.execEyeSafetyInput gpio level s
  | .txOffRelease sess seq r v => Sys2Proof.Machine.execTxOffRelease sess seq r v s
  | .calStart sess seq r v => Sys2Proof.Machine.execCalStart sess seq r v s
  | .calRoundStart r => Sys2Proof.Machine.execCalRoundStart r s
  | .calSparesMeasured r => Sys2Proof.Machine.execCalSparesMeasured r s
  | .calPositionStep r => Sys2Proof.Machine.execCalPositionStep r s
  | .calRoundEnd r meas => Sys2Proof.Machine.execCalRoundEnd r meas s
  | .startRoundBegin r => Sys2Proof.Machine.execStartRoundBegin r s
  | .startRoundEnd r meas => Sys2Proof.Machine.execStartRoundEnd r meas s
  | .coeffWrite sess seq r k slice words => Sys2Proof.Machine.execCoeffWrite sess seq r k slice words s
  | .groupEnable sess seq r g v => Sys2Proof.Machine.execGroupEnable sess seq r g v s
  | .groupLayoutWrite sess seq r g count v => Sys2Proof.Machine.execGroupLayoutWrite sess seq r g count v s
  | .preEmphasis sess seq r sc v => Sys2Proof.Machine.execPreEmphasis sess seq r sc v s
  | .loadingMode sess seq r g v => Sys2Proof.Machine.execLoadingMode sess seq r g v s
  | .fixedApply sess seq r g v => Sys2Proof.Machine.execFixedApply sess seq r g v s
  | .historyValidWrite sess seq r g v => Sys2Proof.Machine.execHistoryValidWrite sess seq r g v s
  | .loadingDeadline r g => Sys2Proof.Machine.execLoadingDeadline r g s
  | .loadingSwitch r g => Sys2Proof.Machine.execLoadingSwitch r g s
  | .groupRestart r g => Sys2Proof.Machine.execGroupRestart r g s
  | .historyCapture r g => Sys2Proof.Machine.execHistoryCapture r g s
  | .shortfallMarginExpiry r g => Sys2Proof.Machine.execShortfallMarginExpiry r g s
  | .bankCdWrite sess seq r bankB v => Sys2Proof.Machine.execBankCdWrite sess seq r bankB v s
  | .cdBankReady r => Sys2Proof.Machine.execCdBankReady r s
  | .cdSwap sess seq r v => Sys2Proof.Machine.execCdSwap sess seq r v s
  | .cdMode sess seq r v => Sys2Proof.Machine.execCdMode sess seq r v s
  | .cdSearch r => Sys2Proof.Machine.execCdSearch r s
  | .cdTracking r => Sys2Proof.Machine.execCdTracking r s
  | .eqModeChange r => Sys2Proof.Machine.execEqModeChange r s
  | .watchSuppressEnd r => Sys2Proof.Machine.execWatchSuppressEnd r s
  | .watchArmed r => Sys2Proof.Machine.execWatchArmed r s
  | .watchCleared r => Sys2Proof.Machine.execWatchCleared r s
  | .decoderCheckerFailure core frame word => Sys2Proof.Machine.execDecoderCheckerFailure core frame word s
  | .frameLost r g => Sys2Proof.Machine.execFrameLost r g s
  | .groupLayout sess seq k v => Sys2Proof.Machine.execGroupLayout sess seq k v s
  | .laneLocked b => Sys2Proof.Machine.execLaneLocked b s
  | .portUp b => Sys2Proof.Machine.execPortUp b s
  | .aligningTimeout b => Sys2Proof.Machine.execAligningTimeout b s
  | .remoteFaultRx b on => Sys2Proof.Machine.execRemoteFaultRx b on s
  | .portDown b lane => Sys2Proof.Machine.execPortDown b lane s
  | .clientFrameRx b frame pcsError phase drained => Sys2Proof.Machine.execClientFrameRx b frame pcsError phase drained s
  | .pfcFrameRx b vec times phase => Sys2Proof.Machine.execPfcFrameRx b vec times phase s
  | .pfcRxPauseExpiry b p phase => Sys2Proof.Machine.execPfcRxPauseExpiry b p phase s
  | .pauseSourceChange b phase => Sys2Proof.Machine.execPauseSourceChange b phase s
  | .pfcRefresh b phase => Sys2Proof.Machine.execPfcRefresh b phase s
  | .egressFrameTx b p => Sys2Proof.Machine.execEgressFrameTx b p s
  | .frameInject sess seq b bytes => Sys2Proof.Machine.execFrameInject sess seq b bytes s
  | .injectedFrameSend b phase => Sys2Proof.Machine.execInjectedFrameSend b phase s
  | .synceInput sess seq b v => Sys2Proof.Machine.execSynceInput sess seq b v s
  | .flowEntry sess seq f v => Sys2Proof.Machine.execFlowEntry sess seq f v s
  | .ladder sess seq v => Sys2Proof.Machine.execLadder sess seq v s
  | .heldCellHandover f noise => Sys2Proof.Machine.execHeldCellHandover f noise s
  | .retxTimeout f noise => Sys2Proof.Machine.execRetxTimeout f noise s
  | .waterMarkWrite sess seq which v => Sys2Proof.Machine.execWaterMarkWrite sess seq which v s
  | .stockpileReserve sess seq v => Sys2Proof.Machine.execStockpileReserve sess seq v s
  | .basinLinkLost p fatalEvent => Sys2Proof.Machine.execBasinLinkLost p fatalEvent s
  | .unitMode sess seq u v => Sys2Proof.Machine.execUnitMode sess seq u v s
  | .pairedGroupWrite sess seq r g peer v => Sys2Proof.Machine.execPairedGroupWrite sess seq r g peer v s
  | .lockout sess seq u => Sys2Proof.Machine.execLockout sess seq u s
  | .force sess seq u => Sys2Proof.Machine.execForce sess seq u s
  | .clear sess seq u => Sys2Proof.Machine.execClear sess seq u s
  | .restorationStart u => Sys2Proof.Machine.execRestorationStart u s
  | .withdrawEnd u => Sys2Proof.Machine.execWithdrawEnd u s
  | .drainStart f => Sys2Proof.Machine.execDrainStart f s
  | .restored u => Sys2Proof.Machine.execRestored u s
  | .restoreLimitExpiry u => Sys2Proof.Machine.execRestoreLimitExpiry u s
  | .doubleFaultPathRetry u => Sys2Proof.Machine.execDoubleFaultPathRetry u s
  | .waitToRestoreExpiry u => Sys2Proof.Machine.execWaitToRestoreExpiry u s
  | .preArm r => Sys2Proof.Machine.execPreArm r s
  | .disarm r => Sys2Proof.Machine.execDisarm r s
  | .hello lane value => Sys2Proof.Machine.execHello lane value s
  | .restoreNotice value => Sys2Proof.Machine.execRestoreNotice value s
  | .mirror value => Sys2Proof.Machine.execMirror value s
  | .mirrorAck value => Sys2Proof.Machine.execMirrorAck value s
  | .timeRelay value => Sys2Proof.Machine.execTimeRelay value s
  | .mateUnreachable => Sys2Proof.Machine.execMateUnreachable s
  | .keyImport sess seq entry => Sys2Proof.Machine.execKeyImport sess seq entry s
  | .keyBatchStart sess seq v => Sys2Proof.Machine.execKeyBatchStart sess seq v s
  | .keyBatchEntry => Sys2Proof.Machine.execKeyBatchEntry s
  | .slotErase sess seq v => Sys2Proof.Machine.execSlotErase sess seq v s
  | .keyRoll sess seq r g v => Sys2Proof.Machine.execKeyRoll sess seq r g v s
  | .encryptKeySlotWrite sess seq r g slot v => Sys2Proof.Machine.execEncryptKeySlotWrite sess seq r g slot v s
  | .keyPostponed r g => Sys2Proof.Machine.execKeyPostponed r g s
  | .keyEpochSwitch r g => Sys2Proof.Machine.execKeyEpochSwitch r g s
  | .keyMismatch r g => Sys2Proof.Machine.execKeyMismatch r g s
  | .cipherParityFault core => Sys2Proof.Machine.execCipherParityFault core s
  | .segmentBlanked r g segment => Sys2Proof.Machine.execSegmentBlanked r g segment s
  | .entropyFault => Sys2Proof.Machine.execEntropyFault s
  | .referenceLost x fault phase offset => Sys2Proof.Machine.execReferenceLost x fault phase offset s
  | .referenceQualified x => Sys2Proof.Machine.execReferenceQualified x s
  | .switchEnd => Sys2Proof.Machine.execSwitchEnd s
  | .locked means => Sys2Proof.Machine.execLocked means s
  | .lockedSecond mean => Sys2Proof.Machine.execLockedSecond mean s
  | .phaseStep sess seq v => Sys2Proof.Machine.execPhaseStep sess seq v s
  | .ppsEdge x phase => Sys2Proof.Machine.execPpsEdge x phase s
  | .alignNow sess seq v => Sys2Proof.Machine.execAlignNow sess seq v s
  | .todAssociate sess seq value => Sys2Proof.Machine.execTodAssociate sess seq value s
  | .delayMarkSend r => Sys2Proof.Machine.execDelayMarkSend r s
  | .laneSignalDetect l => Sys2Proof.Machine.execLaneSignalDetect l s
  | .cap l c1 c2 => Sys2Proof.Machine.execCap l c1 c2 s
  | .laneTrainingEnd l passed => Sys2Proof.Machine.execLaneTrainingEnd l passed s
  | .laneDown l cause cut => Sys2Proof.Machine.execLaneDown l cause cut s
  | .elasticError l cut => Sys2Proof.Machine.execElasticError l cut s
  | .retrain sess seq l v => Sys2Proof.Machine.execRetrain sess seq l v s
  | .loopback sess seq l v => Sys2Proof.Machine.execLoopback sess seq l v s
  | .skipSend l => Sys2Proof.Machine.execSkipSend l s
  | .helloSend => Sys2Proof.Machine.execHelloSend s
  | .timeRelaySend => Sys2Proof.Machine.execTimeRelaySend s
  | .mateMessageError => Sys2Proof.Machine.execMateMessageError s
  | .wakeMate sess seq v => Sys2Proof.Machine.execWakeMate sess seq v s
  | .wakeSendEnd => Sys2Proof.Machine.execWakeSendEnd s
  | .tickOverrun c e => Sys2Proof.Machine.execTickOverrun c e s
  | .mooringDelivery c e dest => Sys2Proof.Machine.execMooringDelivery c e dest s
  | .engineLoad sess seq c v => Sys2Proof.Machine.execEngineLoad sess seq c v s
  | .engineLoadEnd c => Sys2Proof.Machine.execEngineLoadEnd c s
  | .partitionWrite sess seq p count v => Sys2Proof.Machine.execPartitionWrite sess seq p count v s
  | .overflowClear sess seq c e v => Sys2Proof.Machine.execOverflowClear sess seq c e v s
  | .eventSelect sess seq c e n v => Sys2Proof.Machine.execEventSelect sess seq c e n v s
  | .engAdd c e d a b => Sys2Proof.Machine.execEngAdd c e d a b s
  | .engSub c e d a b => Sys2Proof.Machine.execEngSub c e d a b s
  | .engAnd c e d a b => Sys2Proof.Machine.execEngAnd c e d a b s
  | .engOr c e d a b => Sys2Proof.Machine.execEngOr c e d a b s
  | .engXor c e d a b => Sys2Proof.Machine.execEngXor c e d a b s
  | .engShl c e d a b => Sys2Proof.Machine.execEngShl c e d a b s
  | .engShr c e d a b => Sys2Proof.Machine.execEngShr c e d a b s
  | .engSar c e d a b => Sys2Proof.Machine.execEngSar c e d a b s
  | .engLt c e d a b => Sys2Proof.Machine.execEngLt c e d a b s
  | .engLtu c e d a b => Sys2Proof.Machine.execEngLtu c e d a b s
  | .engMin c e d a b => Sys2Proof.Machine.execEngMin c e d a b s
  | .engMax c e d a b => Sys2Proof.Machine.execEngMax c e d a b s
  | .engMinu c e d a b => Sys2Proof.Machine.execEngMinu c e d a b s
  | .engMaxu c e d a b => Sys2Proof.Machine.execEngMaxu c e d a b s
  | .engLzc c e d a => Sys2Proof.Machine.execEngLzc c e d a s
  | .engOnes c e d a => Sys2Proof.Machine.execEngOnes c e d a s
  | .engMul c e d a b => Sys2Proof.Machine.execEngMul c e d a b s
  | .engMulhs c e d a b => Sys2Proof.Machine.execEngMulhs c e d a b s
  | .engMulhu c e d a b => Sys2Proof.Machine.execEngMulhu c e d a b s
  | .engDq c e d a b => Sys2Proof.Machine.execEngDq c e d a b s
  | .engDqu c e d a b => Sys2Proof.Machine.execEngDqu c e d a b s
  | .engDr c e d a b => Sys2Proof.Machine.execEngDr c e d a b s
  | .engDru c e d a b => Sys2Proof.Machine.execEngDru c e d a b s
  | .engAddsat c e d a b => Sys2Proof.Machine.execEngAddsat c e d a b s
  | .engSubsat c e d a b => Sys2Proof.Machine.execEngSubsat c e d a b s
  | .engAddk c e d a k => Sys2Proof.Machine.execEngAddk c e d a k s
  | .engAndk c e d a k => Sys2Proof.Machine.execEngAndk c e d a k s
  | .engOrk c e d a k => Sys2Proof.Machine.execEngOrk c e d a k s
  | .engXork c e d a k => Sys2Proof.Machine.execEngXork c e d a k s
  | .engLtk c e d a k => Sys2Proof.Machine.execEngLtk c e d a k s
  | .engLtku c e d a k => Sys2Proof.Machine.execEngLtku c e d a k s
  | .engShlk c e d a k => Sys2Proof.Machine.execEngShlk c e d a k s
  | .engShrk c e d a k => Sys2Proof.Machine.execEngShrk c e d a k s
  | .engSark c e d a k => Sys2Proof.Machine.execEngSark c e d a k s
  | .engMulk c e d a k => Sys2Proof.Machine.execEngMulk c e d a k s
  | .engSethi c e d k => Sys2Proof.Machine.execEngSethi c e d k s
  | .engCall c e d k => Sys2Proof.Machine.execEngCall c e d k s
  | .engJumpr c e d a k => Sys2Proof.Machine.execEngJumpr c e d a k s
  | .engLdW c e r base disp m => Sys2Proof.Machine.execEngLdW c e r base disp m s
  | .engLdH c e r base disp m => Sys2Proof.Machine.execEngLdH c e r base disp m s
  | .engLdHu c e r base disp m => Sys2Proof.Machine.execEngLdHu c e r base disp m s
  | .engLdB c e r base disp m => Sys2Proof.Machine.execEngLdB c e r base disp m s
  | .engLdBu c e r base disp m => Sys2Proof.Machine.execEngLdBu c e r base disp m s
  | .engStW c e r base disp m => Sys2Proof.Machine.execEngStW c e r base disp m s
  | .engStH c e r base disp m => Sys2Proof.Machine.execEngStH c e r base disp m s
  | .engStB c e r base disp m => Sys2Proof.Machine.execEngStB c e r base disp m s
  | .engBrEq c e a b off => Sys2Proof.Machine.execEngBrEq c e a b off s
  | .engBrNe c e a b off => Sys2Proof.Machine.execEngBrNe c e a b off s
  | .engBrLt c e a b off => Sys2Proof.Machine.execEngBrLt c e a b off s
  | .engBrGe c e a b off => Sys2Proof.Machine.execEngBrGe c e a b off s
  | .engBrLo c e a b off => Sys2Proof.Machine.execEngBrLo c e a b off s
  | .engBrHs c e a b off => Sys2Proof.Machine.execEngBrHs c e a b off s
  | .engMsend c e d a b n m => Sys2Proof.Machine.execEngMsend c e d a b n m s
  | .engMrecv c e d a k => Sys2Proof.Machine.execEngMrecv c e d a k s
  | .engMwait c e d mask => Sys2Proof.Machine.execEngMwait c e d mask s
  | .mwaitReturn c e => Sys2Proof.Machine.execMwaitReturn c e s
  | .engXcsR c e d a csr => Sys2Proof.Machine.execEngXcsR c e d a csr s
  | .engXcsW c e d a csr => Sys2Proof.Machine.execEngXcsW c e d a csr s
  | .engXcsOr c e d a csr => Sys2Proof.Machine.execEngXcsOr c e d a csr s
  | .engXcsAndn c e d a csr => Sys2Proof.Machine.execEngXcsAndn c e d a csr s
  | .engAtomSwap c e d a b m => Sys2Proof.Machine.execEngAtomSwap c e d a b m s
  | .engAtomAdd c e d a b m => Sys2Proof.Machine.execEngAtomAdd c e d a b m s
  | .engAtomAnd c e d a b m => Sys2Proof.Machine.execEngAtomAnd c e d a b m s
  | .engAtomOr c e d a b m => Sys2Proof.Machine.execEngAtomOr c e d a b m s
  | .engAtomMin c e d a b m => Sys2Proof.Machine.execEngAtomMin c e d a b m s
  | .engAtomMax c e d a b m => Sys2Proof.Machine.execEngAtomMax c e d a b m s
  | .engVadd c e vd va vb => Sys2Proof.Machine.execEngVadd c e vd va vb s
  | .engVsub c e vd va vb => Sys2Proof.Machine.execEngVsub c e vd va vb s
  | .engVcmul c e vd va vb => Sys2Proof.Machine.execEngVcmul c e vd va vb s
  | .engVcmulc c e vd va vb => Sys2Proof.Machine.execEngVcmulc c e vd va vb s
  | .engVcmac c e vd va vb => Sys2Proof.Machine.execEngVcmac c e vd va vb s
  | .engVmag2 c e vd va => Sys2Proof.Machine.execEngVmag2 c e vd va s
  | .engVmaga c e vd va => Sys2Proof.Machine.execEngVmaga c e vd va s
  | .engVconj c e vd va => Sys2Proof.Machine.execEngVconj c e vd va s
  | .engVshr c e vd va shamt => Sys2Proof.Machine.execEngVshr c e vd va shamt s
  | .engVld c e v base disp m => Sys2Proof.Machine.execEngVld c e v base disp m s
  | .engVst c e v base disp m => Sys2Proof.Machine.execEngVst c e v base disp m s
  | .engVbcast c e vd a => Sys2Proof.Machine.execEngVbcast c e vd a s
  | .engVext c e d va k => Sys2Proof.Machine.execEngVext c e d va k s
  | .engVins c e vd a k => Sys2Proof.Machine.execEngVins c e vd a k s
  | .engVsumr c e d va => Sys2Proof.Machine.execEngVsumr c e d va s
  | .engVsumi c e d va => Sys2Proof.Machine.execEngVsumi c e d va s
  | .engNop c e => Sys2Proof.Machine.execEngNop c e s
  | .engTend c e => Sys2Proof.Machine.execEngTend c e s
  | .engFence c e wait => Sys2Proof.Machine.execEngFence c e wait s
  | .engTrap c e code => Sys2Proof.Machine.execEngTrap c e code s
  | .engResume c e => Sys2Proof.Machine.execEngResume c e s
  | .engHalt c e => Sys2Proof.Machine.execEngHalt c e s
  | .conversionSlot code read drained => Sys2Proof.Machine.execConversionSlot code read drained s
  | .modeRequest sess seq v => Sys2Proof.Machine.execModeRequest sess seq v s
  | .inject sess seq v => Sys2Proof.Machine.execInject sess seq v s
  | .seqEntry sess seq n v => Sys2Proof.Machine.execSeqEntry sess seq n v s
  | .filterConfigWrite sess seq f which v => Sys2Proof.Machine.execFilterConfigWrite sess seq f which v s
  | .filterCoeffWrite sess seq f n v => Sys2Proof.Machine.execFilterCoeffWrite sess seq f n v s
  | .bankSwap sess seq f v => Sys2Proof.Machine.execBankSwap sess seq f v s
  | .biasWrite sess seq r j v => Sys2Proof.Machine.execBiasWrite sess seq r j v s
  | .assayRun sess seq v pllError low high => Sys2Proof.Machine.execAssayRun sess seq v pllError low high s
  | .scrubRead m addr outcome last owner lost => Sys2Proof.Machine.execScrubRead m addr outcome last owner lost s
  | .rakeRead noise changed => Sys2Proof.Machine.execRakeRead noise changed s
  | .basinPageRetired p page => Sys2Proof.Machine.execBasinPageRetired p page s
  | .peekAddress sess seq v => Sys2Proof.Machine.execPeekAddress sess seq v s
  | .peek sess seq noise => Sys2Proof.Machine.execPeek sess seq noise s
  | .stockpileFailure parity => Sys2Proof.Machine.execStockpileFailure parity s
  | .swapUnit sess seq v => Sys2Proof.Machine.execSwapUnit sess seq v s
  | .engineStateCopy c => Sys2Proof.Machine.execEngineStateCopy c s
  | .powerRequestReleased sess seq urgent maskA maskB => Sys2Proof.Machine.execPowerRequestReleased sess seq urgent maskA maskB s
  | .powerRequestMoored sess seq urgent maskA maskB => Sys2Proof.Machine.execPowerRequestMoored sess seq urgent maskA maskB s
  | .powerRequestOff sess seq urgent maskA maskB => Sys2Proof.Machine.execPowerRequestOff sess seq urgent maskA maskB s
  | .powerRequestDormant sess seq urgent maskA maskB => Sys2Proof.Machine.execPowerRequestDormant sess seq urgent maskA maskB s
  | .powerSwitchOpen d => Sys2Proof.Machine.execPowerSwitchOpen d s
  | .domainPowered d => Sys2Proof.Machine.execDomainPowered d s
  | .drainLimitExpiry => Sys2Proof.Machine.execDrainLimitExpiry s
  | .dormantEntry => Sys2Proof.Machine.execDormantEntry s
  | .wake source => Sys2Proof.Machine.execWake source s
  | .wakePatternWord r => Sys2Proof.Machine.execWakePatternWord r s
  | .wakePeer sess seq v => Sys2Proof.Machine.execWakePeer sess seq v s
  | .wakePatternEnd r => Sys2Proof.Machine.execWakePatternEnd r s
  | .thermalTrip channel temp => Sys2Proof.Machine.execThermalTrip channel temp s
  | .thermalCleared => Sys2Proof.Machine.execThermalCleared s
  | .thermalShutdown => Sys2Proof.Machine.execThermalShutdown s
  | .thermalShutdownExit => Sys2Proof.Machine.execThermalShutdownExit s
  | .localOscAbsent => Sys2Proof.Machine.execLocalOscAbsent s
  | .localOscReturn => Sys2Proof.Machine.execLocalOscReturn s
  | .avsTransaction ok => Sys2Proof.Machine.execAvsTransaction ok s
  | .avsRetry ok => Sys2Proof.Machine.execAvsRetry ok s
  | .alarmClear sess seq v => Sys2Proof.Machine.execAlarmClear sess seq v s
  | .gpioConfig sess seq n v => Sys2Proof.Machine.execGpioConfig sess seq n v s
  | .pathSelectGpioWrite sess seq u v => Sys2Proof.Machine.execPathSelectGpioWrite sess seq u v s
  | .twiXfer sess seq r words => Sys2Proof.Machine.execTwiXfer sess seq r words s
  | .twiTransferEnd r status data => Sys2Proof.Machine.execTwiTransferEnd r status data s
  | .twiBusHeld r => Sys2Proof.Machine.execTwiBusHeld r s
  | .gcInvert sess seq v => Sys2Proof.Machine.execGcInvert sess seq v s
  | .resetNPulse => Sys2Proof.Machine.execResetNPulse s
  | .referenceQualifying x => Sys2Proof.Machine.execReferenceQualifying x s
  | .localFaultRx b on => Sys2Proof.Machine.execLocalFaultRx b on s
  | .mgmtLinkUpChange up => Sys2Proof.Machine.execMgmtLinkUpChange up s
  | .pcieLinkUp => Sys2Proof.Machine.execPcieLinkUp s

end Sys2Proof.Machine
end

