-- ==== Sys2Proof/Safety.lean ====
section
/-! DEFINITION. The terms in which claims speak of a command's run: that it completes, what it leaves unchanged, and when a
request is taken. -/
namespace Sys2Proof.Machine

/-- The command answers a next state, and that state is as said. -/
def Completes (i : Instr) (s : State) (P : State → Prop) : Prop := ∃ t, exec i s = .next t ∧ P t

/-- Every register of the dictionary but the listed ones reads as before. -/
def KeepsRegs (ks : List Nat) (s t : State) : Prop := ∀ k, k ∉ ks → t.rd k = s.rd k

/-- A command completes and changes nothing at all: its condition does not hold (log entry 2). -/
def NoEffect (i : Instr) (s : State) : Prop := exec i s = .next s

/-! ### Engines -/

/-- The word that a slot fetches for an instruction row: what stands in its instruction memory at PC, or in a system slot whose text the
model does not list, the row's own (log entry 58). -/
def State.fetched (s : State) (c e : Nat) (i : EngI) : Word :=
  if !s.crew c && (s.eng c e).text.isEmpty then i.word else s.engFetch c e

/-- A row's instruction is the next one that a slot's task executes, and it issues in this tick (R393, R401, R403, R408, R422, R460): PC
is in instruction memory, the word there can be read, and it reads as the instruction, unused fields apart. -/
def State.slotRuns (s : State) (c e : Nat) (i : EngI) : Prop :=
  (s.eng c e).active = true ∧ (s.eng c e).pc.toNat < 0x10000 ∧ s.engLost c e (s.eng c e).pc.toNat 4 = false ∧
  (∃ j, engDecode (s.fetched c e i) = some j ∧ j.norm = i.norm) ∧
  ((s.eng c e).issueAt i).1 < 9000

/-- The cycle at which an instruction issues (R403). -/
def State.issueCycle (s : State) (c e : Nat) (i : EngI) : Nat := ((s.eng c e).issueAt i).1

/-- A slot's task stands at a PC after an instruction; its memories, moorings and held outputs, every other slot, shared memory and the
messages in transit are as before. -/
def EngGoes (s t : State) (c e : Nat) (pc : Word) : Prop :=
  (t.eng c e).pc = pc ∧ (t.eng c e).running = true ∧ (t.eng c e).waiting = none ∧
  (t.eng c e).text = (s.eng c e).text ∧ (t.eng c e).data = (s.eng c e).data ∧ (t.eng c e).moor = (s.eng c e).moor ∧
  (t.eng c e).out = (s.eng c e).out ∧
  (∀ k, k ≠ 16 * c + e → tget (fun _ => {}) t.engine.slots k = tget (fun _ => {}) s.engine.slots k) ∧
  t.engine.shared = s.engine.shared ∧ t.engine.transit = s.engine.transit

/-- An instruction changes no register of the dictionary but its slot's counter record, raises nothing and leaves the other units. -/
def EngQuiet (s t : State) (c e : Nat) : Prop :=
  t.core = s.core ∧ t.agent = s.agent ∧ t.integ = s.integ ∧ t.basin = s.basin ∧
  (∀ k, k / 256 ≠ 0x5400 + 16 * c + e → t.rd k = s.rd k)

/-- The general registers after a write of v to d: g0 ignores it (R392). -/
def EngReg (s t : State) (c e : Nat) (d : BitVec 5) (v : Word) : Prop :=
  (∀ r, (t.eng c e).gpr r = if r = d ∧ r ≠ 0 then v else (s.eng c e).gpr r) ∧ (t.eng c e).v = (s.eng c e).v

/-- The general and vector registers and the CSRs are as before. -/
def EngKeepsRegs (s t : State) (c e : Nat) : Prop :=
  (t.eng c e).g = (s.eng c e).g ∧ (t.eng c e).v = (s.eng c e).v ∧ (t.eng c e).csr = (s.eng c e).csr

/-- The vector registers after a write of eight lanes to vd. -/
def EngVec (s t : State) (c e : Nat) (vd : BitVec 3) (ls : List Word) : Prop :=
  (∀ v, (t.eng c e).vec v = if v = vd then ls else (s.eng c e).vec v) ∧ (t.eng c e).g = (s.eng c e).g ∧
  (t.eng c e).csr = (s.eng c e).csr

/-! ### Encodings and canonical form -/

/-- The values a type of Table 3.1 holds. -/
def OType.fits (t : OType) (v : Int) : Prop :=
  match t with
  | .u8 | .bool8 | .enum8 => 0 ≤ v ∧ v < 2 ^ 8
  | .u16 => 0 ≤ v ∧ v < 2 ^ 16
  | .u32 | .f32 | .bits32 => 0 ≤ v ∧ v < 2 ^ 32
  | .u64 => 0 ≤ v ∧ v < 2 ^ 64
  | .s16 => -2 ^ 15 ≤ v ∧ v < 2 ^ 15
  | .s32 => -2 ^ 31 ≤ v ∧ v < 2 ^ 31
  | .s64 => -2 ^ 63 ≤ v ∧ v < 2 ^ 63
  | .octets n => 0 ≤ v ∧ v < 2 ^ (8 * n)

/-- Every field of a ledger record is in the width Table 4.7 gives it. -/
def LedgerRec.fits (x : LedgerRec) : Prop :=
  (x.activeImage < 2 ∧ x.assayWhen < 4 ∧ x.watchdogRun < 4 ∧ x.sequence < 2 ^ 32 ∧ x.lifetime < 2 ^ 32 ∧
    x.bootEpoch < 2 ^ 32 ∧ x.cause < 2 ^ 8 ∧ x.repairCount < 2 ^ 16 ∧ x.assayOutcome < 2 ^ 8 ∧ x.assayFailed < 2 ^ 8 ∧
    x.assayFirst < 2 ^ 16 ∧ x.assayLifetime < 2 ^ 32) ∧
  (x.sliceMap.length = 128 ∧ (∀ b ∈ x.sliceMap, b < 2 ^ 8) ∧ x.decoderMap < 2 ^ 56 ∧ x.cipherMap < 2 ^ 40 ∧
    x.engineMap < 2 ^ 208 ∧ x.repairList.length = 8 ∧ (∀ b ∈ x.repairList, b < 2 ^ 32) ∧ x.powerCycles < 2 ^ 32 ∧
    x.hotSeconds < 2 ^ 32 ∧ x.reserveUsed.length = 8 ∧ ∀ b ∈ x.reserveUsed, b < 2 ^ 8)

/-- The dictionary is in canonical form: its keys strictly rise, and no entry lists its object's default. -/
def State.canonical (s : State) : Prop := twf objDefault s.regs = true

/-- An addressed memory is in canonical form: addresses strictly rise, and no entry is 0, as which an unlisted byte reads. -/
def Memory.wf (m : List Host.Cell) : Bool := twf (fun _ => 0#8) m

/-- The addressed memories of the block: BAR2, the engines' instruction and data memories, the shared memories, the tap windows,
and the flash's images, where an unlisted byte reads erased. -/
def State.memoriesWf (s : State) : Bool :=
  Memory.wf s.agent.bar2 && s.engine.slots.all (fun q => Memory.wf q.2.text && Memory.wf q.2.data) &&
    s.engine.shared.all (fun q => Memory.wf q.2) && s.engine.taps.all (fun q => Memory.wf q.2) &&
    twf (fun _ => 0xFF#8) s.start.images

/-! ### Writes -/

/-- A row of the command table that is a session's write: its session, its sequence number, the object's key and the body. -/
def writeOf : Instr → Option (Fin 17 × Nat × Nat × List Nat)
  | .credential sess seq words => some (sess, seq, Obj.credential, words)
  | .credentialErase sess seq id => some (sess, seq, Obj.credentialErase, [id])
  | .mgmtAddressChange sess seq sub words => if 3 ≤ sub ∧ sub ≤ 6 then some (sess, seq, objKey 0x1400 sub, words) else none
  | .abortOp sess seq o v => some (sess, seq, Obj.opAbort o, [v])
  | .firmwareLoad sess seq v => some (sess, seq, Obj.firmwareLoad, [v])
  | .shutdown sess seq v => some (sess, seq, Obj.shutdown, [v])
  | .commitNow sess seq v => some (sess, seq, Obj.commitNow, [v])
  | .assayWhenWrite sess seq v => some (sess, seq, Obj.assayWhen, [v])
  | .reachEnable sess seq r v => some (sess, seq, Obj.reachEnable r, [v])
  | .agcRearm sess seq r v => some (sess, seq, Obj.agcRearm r, [v])
  | .txOffNow sess seq r v => some (sess, seq, Obj.txOffNow r, [v])
  | .txOffRelease sess seq r v => some (sess, seq, Obj.txOffRelease r, [v])
  | .calStart sess seq r v => some (sess, seq, Obj.calStart r, [v])
  | .coeffWrite sess seq r k slice words => some (sess, seq, Obj.sliceCoeff r k slice, words)
  | .groupEnable sess seq r g v => some (sess, seq, Obj.groupEnable r g, [v])
  | .groupLayoutWrite sess seq r g count v => some (sess, seq, if count then Obj.subcarrierCount r g else Obj.firstSubcarrier r g, [v])
  | .preEmphasis sess seq r sc v => some (sess, seq, Obj.preEmphasis r sc, [word32 v])
  | .loadingMode sess seq r g v => some (sess, seq, Obj.loadingMode r g, [v])
  | .fixedApply sess seq r g v => some (sess, seq, Obj.fixedApply r g, [v])
  | .historyValidWrite sess seq r g v => some (sess, seq, Obj.historyValid r g, [v])
  | .bankCdWrite sess seq r bankB v => some (sess, seq, if bankB then Obj.bankBCd r else Obj.bankACd r, [word32 v])
  | .cdSwap sess seq r v => some (sess, seq, Obj.cdSwap r, [v])
  | .cdMode sess seq r v => some (sess, seq, Obj.cdMode r, [v])
  | .groupLayout sess seq k v => some (sess, seq, Obj.groupLayout k, [v])
  | .frameInject sess seq b bytes => some (sess, seq, Obj.frameInject b, bodyOf bytes)
  | .synceInput sess seq b v => some (sess, seq, Obj.synceInput b, [v])
  | .flowEntry sess seq f v => some (sess, seq, flowKey f, [v])
  | .ladder sess seq v => some (sess, seq, Obj.ladder, [v])
  | .waterMarkWrite sess seq which v => some (sess, seq, objKey 0x3510 (4 + which), [v])
  | .stockpileReserve sess seq v => some (sess, seq, Obj.stockpileReserve, [v])
  | .unitMode sess seq u v => some (sess, seq, Obj.unitMode u, [v])
  | .pairedGroupWrite sess seq r g peer v => some (sess, seq, if peer then Obj.peerId r g else Obj.groupEnable r g, [v])
  | .lockout sess seq u => some (sess, seq, Obj.unitCommand u, [1])
  | .force sess seq u => some (sess, seq, Obj.unitCommand u, [2])
  | .clear sess seq u => some (sess, seq, Obj.unitCommand u, [3])
  | .keyImport sess seq entry => some (sess, seq, Obj.keyImport, bodyOf entry)
  | .keyBatchStart sess seq v => some (sess, seq, Obj.keyBatchStart, [v])
  | .slotErase sess seq v => some (sess, seq, Obj.slotErase, [v])
  | .keyRoll sess seq r g v => some (sess, seq, Obj.keyRoll r g, [v])
  | .encryptKeySlotWrite sess seq r g slot v => some (sess, seq, if slot then Obj.keySlot r g else Obj.encrypt r g, [v])
  | .phaseStep sess seq v => some (sess, seq, Obj.phaseStep, [word32 v])
  | .alignNow sess seq v => some (sess, seq, Obj.alignNow, [v])
  | .todAssociate sess seq value => some (sess, seq, Obj.todAssociate, bodyOf value)
  | .retrain sess seq l v => some (sess, seq, Obj.retrain l, [v])
  | .loopback sess seq l v => some (sess, seq, Obj.loopback l, [v])
  | .wakeMate sess seq v => some (sess, seq, Obj.wakeMate, [v])
  | .engineLoad sess seq c v => some (sess, seq, Obj.engineLoad c, [v])
  | .partitionWrite sess seq p count v => some (sess, seq, if count then Obj.clusterCount p else Obj.firstCluster p, [v])
  | .overflowClear sess seq c e v => some (sess, seq, objKey (0x5400 + 16 * c + e) 15, [v])
  | .eventSelect sess seq c e n v => some (sess, seq, objKey (0x5400 + 16 * c + e) (10 + n), [v])
  | .modeRequest sess seq v => some (sess, seq, Obj.modeRequest, [v])
  | .inject sess seq v => some (sess, seq, Obj.inject, [v])
  | .seqEntry sess seq n v => some (sess, seq, Obj.seqEntry n, [v])
  | .filterConfigWrite sess seq f which v => some (sess, seq, objKey (0x1620 + f) ([1, 2, 3, 4, 7, 8, 9].getD which 1), [v])
  | .filterCoeffWrite sess seq f n v => some (sess, seq, Obj.filterCoeff f n, [word32 v])
  | .bankSwap sess seq f v => some (sess, seq, Obj.bankSwap f, [v])
  | .biasWrite sess seq r j v => some (sess, seq, (match j with
      | some k => Obj.biasCode r k
      | none => Obj.biasMode r), [v])
  | .assayRun sess seq v _ _ _ => some (sess, seq, Obj.assayRun, [v])
  | .peekAddress sess seq v => some (sess, seq, Obj.peekAddress, OType.u64.encode v)
  | .swapUnit sess seq v => some (sess, seq, Obj.swapUnit, [v])
  | .powerRequestReleased sess seq urgent maskA maskB => some (sess, seq, Obj.powerRequest,
      [0 * 2 ^ 24 + (if urgent then 2 ^ 16 else 0), maskA % 2 ^ 32, maskB % 2 ^ 32])
  | .powerRequestMoored sess seq urgent maskA maskB => some (sess, seq, Obj.powerRequest,
      [1 * 2 ^ 24 + (if urgent then 2 ^ 16 else 0), maskA % 2 ^ 32, maskB % 2 ^ 32])
  | .powerRequestOff sess seq urgent maskA maskB => some (sess, seq, Obj.powerRequest,
      [2 * 2 ^ 24 + (if urgent then 2 ^ 16 else 0), maskA % 2 ^ 32, maskB % 2 ^ 32])
  | .powerRequestDormant sess seq urgent maskA maskB => some (sess, seq, Obj.powerRequest,
      [3 * 2 ^ 24 + (if urgent then 2 ^ 16 else 0), maskA % 2 ^ 32, maskB % 2 ^ 32])
  | .wakePeer sess seq v => some (sess, seq, Obj.wakePeer, [v])
  | .alarmClear sess seq v => some (sess, seq, Obj.alarmClear, [v])
  | .gpioConfig sess seq n v => some (sess, seq, Obj.gpioConfig n, [v])
  | .pathSelectGpioWrite sess seq u v => some (sess, seq, Obj.pathSelectGpio u, [v])
  | .twiXfer sess seq r words => some (sess, seq, Obj.twiXfer r, words)
  | .gcInvert sess seq v => some (sess, seq, Obj.gcInvert, [v])
  | .writeReq sess seq index sub body => some (sess, seq, objKey (index % 65536) (sub % 256), body)
  | _ => none

/-- What a start command brings in from outside with its write (R451). -/
def writeMeas : Instr → Option (Int × Nat × Nat)
  | .assayRun _ _ _ pllError low high => some (pllError, low, high)
  | _ => none

/-- The body of a request as the agent takes it: at most 255 words of 32 bits (Table 3.9). -/
def reqWords (ws : List Nat) : List Nat := (ws.take 255).map (· % 2 ^ 32)

/-- The agent serves, and takes a request with this sequence number from this session (R79, R80, R97); the last number of a session
closes it and stands apart. -/
def State.takes (s : State) (sess : Fin 17) (seq : Nat) : Prop :=
  s.agent.serving = true ∧ (sess = 0 ∨ ((s.session sess).isOpen = true ∧ (s.session sess).accepts (seq % 2 ^ 32) = true ∧
    seq % 2 ^ 32 ≠ 2 ^ 32 - 1))

/-- The session's window after a request has been taken (R80, R83). -/
def State.accepted (s : State) (sess : Fin 17) (seq : Nat) : State :=
  if sess = 0 then s else s.setSession sess ((s.session sess).accept (seq % 2 ^ 32) s.core.tick .direct)

/-- A write command that is taken and passes every check of Table 3.3, with its value; staged or at once (R45, R57). -/
def State.admits (s : State) (i : Instr) (v : Int) (staged : Bool) : Prop :=
  ∃ sess seq key words r, writeOf i = some (sess, seq, key, words) ∧ s.takes sess seq ∧
    (s.accepted sess seq).writeHead sess (key / 256) (key % 256) = .ok r ∧
    bodyStatus (key / 256) (key % 256) r (reqWords words) = .ok v ∧
    (s.accepted sess seq).writeTail (key / 256) (key % 256) r v = none ∧ r.staged = staged

/-- The reply to a write: its status goes back in a reply to the request, which the session keeps; only the agent changes. -/
def Replied (s t : State) (sess : Fin 17) (seq status : Nat) : Prop :=
  t = { s with agent := t.agent } ∧ t.agent.lastReply.status = status ∧ t.agent.lastReply.seq = seq % 2 ^ 32 ∧
  t.agent.lastReply.sess = sess ∧ t.agent.serving = s.agent.serving ∧ t.agent.creds = s.agent.creds

end Sys2Proof.Machine
end

