-- ==== Sys2Proof/Certificates/Slice0/Obligations.lean ====
section
/-! DEFINITION. What is claimed of the block: one statement for every family of commands and every kind of state, each a
Prop for the provers. A clause's hypotheses are on the state and the operands alone. -/
open Sys2Proof Sys2Proof.Machine

/-- The block takes the command at the front of its queue and runs it on the state with the queue's rest; with no command waiting it idles
(the model's choice, log entry 1). -/
def Obligations.StepServesTheQueueInOrder : Prop :=
  (∀ (c : Instr) (rest : List Instr) (s : State),
    s.pending = c :: rest → step s = exec c { s with pending := rest }) ∧
  (∀ s : State, s.pending = [] → step s = .next s)
/-- After reset every object of the dictionary reads its default (R62): the table's, here shown for one object of each kind of unit. -/
def Obligations.ResetGivesEveryObjectItsDefault : Prop :=
  (∀ k, State.reset.rd k = objDefault k) ∧
  objDefault Obj.hostPortLevel = 2 ∧ objDefault Obj.idleTimeout = 6000000 ∧ objDefault Obj.drainLimit = 200 ∧
  objDefault (Obj.decCoreState 11) = 1 ∧ objDefault (Obj.decCoreState 12) = 2 ∧ objDefault (Obj.subcarrierCount 2 0) = 64 ∧
  objDefault (Obj.subcarrierCount 2 1) = 0 ∧ objDefault Obj.stockpileReserve = 64 ∧ objDefault (Obj.pathSelectGpio 3) = 255 ∧
  objDefault (Obj.filterCoeff 9 0) = 131071 ∧ objDefault (Obj.keySlot 3 7) = 1 ∧ objDefault (Obj.firstCluster 2) = 10

/-- Resets (R62, R83, R115). RESET_N_RELEASE starts step 1 of the start-up and leaves every other unit as it is. RESET_N_PULSE, a
loss of VDD_AON and the watchdog's expiry put every object at its default but for RESET_CAUSE, and every unit afresh; the boot
flash keeps the ledger (but for the slot a commit was writing, which is torn), the images and the credentials, the fuses stay, and
so does the queue. The reset state
itself is held in reset before step 1, with every domain MOORED (log entry 5), an empty log and queue, and no session or flow.
It rests on the model's own reading where the spec leaves it open: the choices of log entries 5, 45 and 79.
Commands shown to complete with their own effect, under conditions on state and operands alone: resetNRelease, resetNPulse,
vddAonLoss, watchdogExpiry. -/
def Obligations.ResetsStartAfreshAndKeepTheBootFlash : Prop :=
  (∀ s : State, s.start.inReset = true → s.board.hot = false → s.board.noOsc = false →
    Completes .resetNRelease s (fun t =>
      t = { s with regs := t.regs, start := { s.start with inReset := false, step := 1 } } ∧ t.rd Obj.powerState = 1 ∧
      (∀ r, r < 4 → t.rd (Obj.linkState r) = 1) ∧
      KeepsRegs [Obj.powerState, Obj.linkState 0, Obj.linkState 1, Obj.linkState 2, Obj.linkState 3] s t)) ∧
  (∀ s : State, s.start.commit = none → s.board.hot = false → s.board.noOsc = false →
    Completes .resetNPulse s (fun t =>
      t = { State.reset with
              pending := s.pending, regs := t.regs
              start := { flash := s.start.flash, images := s.start.images, keyHash := s.start.keyHash }
              agent := { creds := s.agent.creds, hostMem := s.agent.hostMem }
              core := { freeCtr := s.core.freeCtr }
              key := { draws := s.key.draws, fusedKek := s.key.fusedKek }
              board := { pins := s.board.pins, scan := s.board.scan } } ∧
      t.rd Obj.resetCause = 1 ∧ t.rd Obj.powerState = 1 ∧ (∀ r, r < 4 → t.rd (Obj.linkState r) = 1) ∧
      (∀ k, k ∉ [Obj.resetCause, Obj.powerState, Obj.linkState 0, Obj.linkState 1, Obj.linkState 2, Obj.linkState 3] →
        t.rd k = objDefault k))) ∧
  (∀ s : State, Completes .vddAonLoss s (fun t =>
      t.start.inReset = true ∧ t.start.step = 1 ∧ t.rd Obj.resetCause = 0 ∧ (∀ k, t.rd k = objDefault k) ∧
      (∀ d, t.dom d = 2) ∧ t.agent.creds = s.agent.creds ∧ t.pending = s.pending ∧ t.core.log = [] ∧
      t.start.images = s.start.images ∧ t.start.keyHash = s.start.keyHash ∧ t.key.fusedKek = s.key.fusedKek ∧
      (∀ k, (∀ c, s.start.commit = some c → k ≠ 256 * c.bank + c.slot) → t.ledgerSlot k = s.ledgerSlot k) ∧
      (∀ c, s.start.commit = some c → c.slot < 256 → t.ledgerSlot (256 * c.bank + c.slot) = []))) ∧
  (∀ s : State, s.start.wdArmed = true → s.power.dormant = false → s.rdN Obj.shutdownState ≠ 5 →
    s.start.wdRestart + 100000 ≤ s.core.tick →
    Completes .watchdogExpiry s (fun t =>
      t.start.inReset = false ∧ t.start.step = 1 ∧ t.rd Obj.resetCause = 3 ∧ t.core.tick = 0 ∧ (∀ d, t.dom d = 2) ∧
      t.start.images = s.start.images ∧ t.start.keyHash = s.start.keyHash ∧
      t.agent.creds = s.agent.creds ∧ t.agent.serving = false ∧ (∀ n, t.session n = {}) ∧ t.pending = s.pending)) ∧
  ((∀ d, State.reset.dom d = 2) ∧ State.reset.core.inFlight = [] ∧ State.reset.core.log = [] ∧
    (∀ n, (State.reset.session n).isOpen = false) ∧ (∀ f, (State.reset.flow f).state = 0) ∧
    State.reset.start.inReset = true ∧ State.reset.start.step = 1 ∧ State.reset.agent.serving = false ∧
    State.reset.pending = [])

/-- Steps 2 and 3 of the start-up (R96, R100, R101, R109, R116, R118). Step 2 ends with the valid record of the highest sequence
and its values, or with none and LEDGER_BLANK; a flash that has not answered within 10 ms holds it. Step 3 takes the image that
R100 and R116 name first, else the other, and is held where neither verifies: the header, the fused key's hash, the ECDSA signature
and the body's digest decide (R99).
It rests on the model's own reading where the spec leaves it open: the choices of log entries 45, 52, 91 and 92.
Commands shown to complete with their own effect, under conditions on state and operands alone: ledgerRecordSelect,
bootFlashTimeout, imageVerify. -/
def Obligations.StartUpReadsLedgerAndImage : Prop :=
  (∀ s : State, s.start.step = 2 → s.start.holdCode = 0 → s.winningRecord = none →
    Completes .ledgerRecordSelect s (fun t =>
      t = { s with regs := t.regs, core := { s.core with inFlight := s.core.inFlight ++ [⟨0xC027, 0x1110, 0, s.core.tick, s.life⟩] }
                   start := { s.start with step := 3, winner := none, assayDue := true } } ∧
      t.rd Obj.lastShutdown = 2 ∧ KeepsRegs [Obj.lastShutdown] s t)) ∧
  (∀ (s : State) (k : Nat) (x : LedgerRec), s.start.step = 2 → s.start.holdCode = 0 → s.winningRecord = some (k, x) →
    Completes .ledgerRecordSelect s (fun t =>
      t = { s with regs := t.regs
                   start := { s.start with step := 3, winner := some x, lifeBase := x.lifetime, hotBase := x.hotSeconds
                                           assayLifetime := x.assayLifetime
                                           assayDue := x.assayWhen == 1 || x.assayWhen == 2 || !x.clean } } ∧
      t.rdN Obj.ledgerSequence = x.sequence ∧ t.rdN Obj.ledgerBank = k / 256 ∧ t.rdN Obj.ledgerSlot = k % 256 ∧
      t.rdN Obj.activeImage = x.activeImage ∧ t.rdN Obj.assayWhen = min 2 x.assayWhen ∧
      t.rdN Obj.powerCycles = x.powerCycles ∧ t.rdN Obj.hotSeconds = x.hotSeconds ∧
      t.rdN Obj.assayFailed = x.assayFailed ∧ t.rdN Obj.assayFirst = x.assayFirst ∧
      t.rdN Obj.lastShutdown = (if x.clean then 0 else 1) ∧
      KeepsRegs [Obj.ledgerSequence, Obj.ledgerBank, Obj.ledgerSlot, Obj.activeImage, Obj.assayWhen, Obj.powerCycles, Obj.hotSeconds,
        Obj.assayOutcome, Obj.assayFailed, Obj.assayFirst, Obj.lastShutdown] s t)) ∧
  (∀ s : State, s.start.step = 2 → s.start.holdCode = 0 → 1000 ≤ s.core.tick →
    Completes .bootFlashTimeout s (fun t => t = { s with start := { s.start with holdCode := 3 } } ∧
      (s.board.hot = false → s.board.noOsc = false → s.start.inReset = false → t.faultCode = 3))) ∧
  (∀ s : State, s.start.step = 3 → s.start.holdCode = 0 → s.power.dormant = false →
    (if s.power.leaving then s.rdN Obj.runningImage else s.rdN Obj.activeImage) < 2 →
    s.imageVerifies 0 = false → s.imageVerifies 1 = false →
    Completes .imageVerify s (fun t => t = { s with start := { s.start with holdCode := 2 } })) ∧
  (∀ (s : State) (n : Nat), s.start.step = 3 → s.start.holdCode = 0 → s.power.dormant = false →
    s.power.leaving = false → s.rdN Obj.activeImage < 2 →
    (let first := if s.start.winner.any (fun x => x.watchdogRun == 3) then 1 - s.rdN Obj.activeImage else s.rdN Obj.activeImage
     if s.imageVerifies first then n = first else n = 1 - first ∧ s.imageVerifies n = true) →
    Completes .imageVerify s (fun t =>
      t.start.step = 4 ∧ t.start.holdCode = 0 ∧ t.rdN Obj.runningImage = n ∧
      t.rdN Obj.runningRelease = s.imageField n 8 4 ∧ t.rdN Obj.dictionaryVersion = s.imageField n 8 4 ∧
      t.start.images = s.start.images ∧
      t.start.fallback = (if n = s.rdN Obj.activeImage then none else some n) ∧
      t.core.inFlight = s.core.inFlight ++
        (if n = s.rdN Obj.activeImage then [] else [⟨0x8020, 0x1100, n, s.core.tick, s.life⟩]) ∧
      KeepsRegs [Obj.runningImage, Obj.runningRelease, Obj.dictionaryVersion] s t))

/-- Steps 4 to 6 (R97, R103, R104, R111, R115). STATE_SRAM_FILL holds the device where a hub-core macro fails, and fails a
unit whose macro fails as an assay does; else the start
assay begins if it is due, and the start commit, with cause 0, if it is not. A valid start commit ends step 6: the agent
serves, the watchdog runs and step 8 begins. Assays (R451, R455 to R457). An assay that ends with every unit good leaves ASSAY_OUTCOME 1 and no failed unit, shows the
clock and voltage it measured, and its record is DONE; what follows a start assay is the start commit. Where the clock or the
voltage does not hold for 100 ms the assay is not run: outcome 4, ASSAY_NOT_RUN, and the record FAILED.
It rests on the model's own reading where the spec leaves it open: the choices of log entries 52, 82 and 95.
Commands shown to complete with their own effect, under conditions on state and operands alone: stateSramFill, startCommit,
assayEnd, assayPreconditionTimeout. -/
def Obligations.StartUpFillsAssaysCommitsAndServes : Prop :=
  (∀ (s : State) (units domains : List Nat), s.start.step = 4 → s.start.holdCode = 0 → s.start.inReset = false →
    (37 ∈ domains ∨ ∃ u ∈ units, 0x1500 ≤ u ∧ u < 0x1508) →
    Completes (.stateSramFill units domains) s (fun t => t.start.step = 4 ∧ t.start.holdCode = 4 ∧
      t.start.sramFailed = domains.filter (· < 37))) ∧
  (∀ (s : State) (u : Nat), s.start.step = 4 → s.start.holdCode = 0 → s.start.inReset = false → s.power.leaving = false →
    s.start.winner = none → s.start.assayDue = true → 0x1400 ≤ u → u < 0x1404 → s.poweredDom (domReach (u - 0x1400)) = true →
    Completes (.stateSramFill [u] []) s (fun t => t.start.step = 5 ∧ u ∈ t.integ.failedUnits ∧
      t.domainFailed (domReach (u - 0x1400)) = true ∧
      t.core.inFlight = s.core.inFlight ++ [⟨0xC100, 0x1500, u, s.core.tick, s.life⟩])) ∧
  (∀ (s : State) (domains : List Nat), s.start.step = 4 → s.start.holdCode = 0 → s.start.inReset = false →
    s.power.leaving = false → 37 ∉ domains → s.start.assayDue = true →
    Completes (.stateSramFill [] domains) s (fun t => t.start.step = 5 ∧ t.integ.assay = some ⟨0, 0⟩ ∧
      t.rd (Obj.opState 1) = 1 ∧ t.rd (Obj.opPosition 1) = 0 ∧ t.agent = s.agent)) ∧
  (∀ (s : State) (domains : List Nat), s.start.step = 4 → s.start.holdCode = 0 → s.start.inReset = false →
    s.power.leaving = false → 37 ∉ domains → s.start.assayDue = false →
    Completes (.stateSramFill [] domains) s (fun t => t.start.step = 6 ∧ t.start.started = true ∧ t.rd Obj.deviceState = 1 ∧
      t.bar 0x18 = 1 ∧
      (∃ c, t.start.commit = some c ∧ c.cause = 0 ∧ c.clean = false ∧ c.attempts = 0) ∧
      t.agent = { s.agent with bar0 := t.agent.bar0 })) ∧
  (∀ (s : State) (c : Commit), s.start.step = 6 → s.start.commit = some c → c.slot < 256 → s.start.nextCommit = none →
    s.agent.heldSlots = [] → s.rdN Obj.shutdownState ≠ 4 →
    Completes .startCommit s (fun t => t.start.step = 8 ∧ t.agent.serving = true ∧ t.start.wdArmed = true ∧
      t.start.wdRestart = s.core.tick ∧ t.start.commit = none ∧ t.start.lastCommit = s.core.tick ∧
      t.agent.sessions = s.agent.sessions ∧ t.agent.creds = s.agent.creds)) ∧
  (∀ (s : State) (u vcore : Nat) (pll : Int), s.integ.assay = some ⟨2, u⟩ →
    Completes (.assayEnd [] pll vcore) s (fun t =>
      t.integ.assay = none ∧ t.rd Obj.assayOutcome = 1 ∧ t.rd Obj.assayFailed = 0 ∧ t.rd Obj.assayFirst = 0xFFFF ∧
      t.rd Obj.assayPllError = pll ∧ t.rd Obj.assayVcore = vcore ∧ t.rd (Obj.opState 1) = 2 ∧ t.rd (Obj.opPercent 1) = 10000 ∧
      t.start.assayLifetime = s.life ∧ u ∈ t.integ.testedUnits ∧ u ∉ t.integ.failedUnits ∧
      t.core.inFlight = s.core.inFlight ++ [⟨0x4005, 0x1181, 0, s.core.tick, s.life⟩] ∧ t.integ.swaps = s.integ.swaps ∧
      t.agent = s.agent)) ∧
  (∀ (s : State) (u vcore : Nat) (pll : Int), s.integ.assay = some ⟨0, u⟩ → (∀ v ∈ s.integ.failedUnits, v < 0x1500) →
    pll.natAbs ≤ 200 → 660 ≤ vcore → vcore ≤ 740 →
    Completes (.assayEnd [] pll vcore) s (fun t =>
      t.integ.assay = none ∧ t.start.step = 6 ∧ t.start.assayDue = false ∧ t.rd Obj.assayOutcome = 1 ∧
      ∃ c, t.start.commit = some c ∧ c.cause = 0 ∧ c.clean = false)) ∧
  (∀ (s : State) (a : Assay) (pll : Int) (low high : Nat), s.integ.assay = some a → a.kind = 1 → s.rdN Obj.shutdownState ≠ 3 →
    (200 < pll.natAbs ∨ low < 660 ∨ 740 < high) → s.rdN (Obj.opStartTick 1) + 10000 ≤ s.core.tick →
    Completes (.assayPreconditionTimeout pll low high) s (fun t =>
      t = { s with regs := t.regs, core := { s.core with inFlight := t.core.inFlight }, integ := { s.integ with assay := none } } ∧
      t.rd Obj.assayOutcome = 4 ∧ t.rd (Obj.opState 1) = 3 ∧ t.rd (Obj.opLastStatus 1) = Status.refused ∧
      KeepsRegs [Obj.assayOutcome, Obj.opState 1, Obj.opLastStatus 1] s t ∧
      t.core.inFlight = s.core.inFlight ++
        [⟨0x8101, 0x1500, assayBits pll low high, s.core.tick, s.life⟩, ⟨0x8006, 0x1181, Status.refused, s.core.tick, s.life⟩]))


/-- Commits (R108, R110, R111, R112). A commit carries the record of the state at its start, one sequence above the newest, into
the first free slot of the other bank. A good read-back makes the record the newest; a failed one tears the slot and the next
free slot is tried, three attempts in all, after which COMMIT_FAILURES counts and LEDGER_FAILED is raised.
It rests on the model's own reading where the spec leaves it open: the choices of log entries 45 and 52.
Commands shown to complete with their own effect, under conditions on state and operands alone: ledgerPeriodicCommit,
watchdogRunClear, ledgerCommitDone. -/
def Obligations.CommitsGoToTheOtherBankWithThreeAttempts : Prop :=
  (∀ s : State, s.start.lastCommit + 360000000 ≤ s.core.tick → s.start.started = true → s.start.commit = none →
    Completes .ledgerPeriodicCommit s (fun t => ∃ c, t.start.commit = some c ∧ c.cause = 1 ∧ c.clean = false ∧ c.attempts = 0 ∧
      c.bank = s.nextBank ∧ c.bytes = (s.recordNow 1 false).bytes ∧
      (∀ n, s.freeLedgerSlot s.nextBank = some n → c.slot = n) ∧ t.regs = s.regs ∧ t.start.flash = s.start.flash)) ∧
  (∀ s : State, 8 ≤ s.start.step → s.start.wdRunCleared = false → s.start.startCommitTick + 10000000 ≤ s.core.tick →
    s.start.started = true → s.start.commit = none →
    Completes .watchdogRunClear s (fun t => t.start.watchdogRun = 0 ∧ t.start.wdRunCleared = true ∧ t.regs = s.regs ∧
      ∃ c, t.start.commit = some c ∧ c.cause = 1 ∧ c.clean = false)) ∧
  (∀ (s : State) (c : Commit), s.start.commit = some c → c.slot < 256 → c.bank < 2 → c.batch = 0 → s.start.step ≠ 6 →
    s.start.nextCommit = none → (c.clean = true → s.rdN Obj.shutdownState ≠ 4) → s.agent.serving = false →
    Completes (.ledgerCommitDone true) s (fun t =>
      t = { s with regs := t.regs, start := { s.start with flash := t.start.flash, commit := none, lastCommit := s.core.tick } } ∧
      t.ledgerSlot (256 * c.bank + c.slot) = c.bytes ∧
      (∀ n, n < 256 → n ≠ c.slot → t.ledgerSlot (256 * c.bank + n) = s.ledgerSlot (256 * c.bank + n)) ∧
      t.rdN Obj.ledgerSequence = s.rdN Obj.ledgerSequence + 1 ∧ t.rdN Obj.ledgerBank = c.bank ∧ t.rdN Obj.ledgerSlot = c.slot ∧
      t.rdN Obj.commits = (s.rdN Obj.commits + 1) % 2 ^ 64 ∧
      KeepsRegs [Obj.ledgerSequence, Obj.ledgerBank, Obj.ledgerSlot, Obj.commits] s t)) ∧
  (∀ (s : State) (c : Commit), s.start.commit = some c → c.slot < 256 → c.attempts + 1 < 3 → s.agent.serving = false →
    Completes (.ledgerCommitDone false) s (fun t =>
      t = { s with start := { s.start with flash := t.start.flash, commit := t.start.commit } } ∧
      t.ledgerSlot (256 * c.bank + c.slot) = [] ∧
      (∃ d, t.start.commit = some d ∧ d.attempts = c.attempts + 1 ∧ d.bytes = c.bytes ∧ d.bank = c.bank ∧ d.cause = c.cause))) ∧
  (∀ (s : State) (c : Commit), s.start.commit = some c → c.slot < 256 → 3 ≤ c.attempts + 1 → c.batch = 0 →
    s.start.nextCommit = none → (c.clean = true → s.rdN Obj.shutdownState ≠ 4) → s.agent.serving = false →
    Completes (.ledgerCommitDone false) s (fun t =>
      t.start.commit = none ∧ t.ledgerSlot (256 * c.bank + c.slot) = [] ∧
      t.rdN Obj.commitFailures = (s.rdN Obj.commitFailures + 1) % 2 ^ 64 ∧ KeepsRegs [Obj.commitFailures] s t ∧
      t.core.inFlight = s.core.inFlight ++ [⟨0xC026, 0x1110, c.cause, s.core.tick, s.life⟩]))

/-- The basin's ports at start-up (R106, R107; Table 11.8). A trained link shows its rate and width and fills, with no slot written yet, unless the
expander kept its contents, whose checkpoint, where it holds one, gives the flows and the page map back (R492); a link that does not train within 100 ms fails its port with cause 2; a filled port waits for its release, with the
pages noted whose read-back failed (R467);
at the boundary after the fill every durable flow becomes durable and DURABLE_ACCEPTED is raised with their number.
It rests on the model's own reading where the spec leaves it open: the choices of log entries 26, 44, 120 and 129.
Commands shown to complete with their own effect, under conditions on state and operands alone: basinPortTrained,
basinTrainingTimeout, basinPortFillDone, durableAccepted. -/
def Obligations.BasinPortsTrainFillAndAreAccepted : Prop :=
  (∀ (s : State) (p : Fin 8) (rate width capacity : Nat), s.rdN (Obj.basinPortState p) = 1 →
    ((s.bport p).contents = false ∨ s.start.fillAborted = true) →
    Completes (.basinPortTrained p rate width capacity) s (fun t =>
      t.rdN (Obj.basinPortState p) = 2 ∧ t.rdN (Obj.linkRate p) = min rate 3 ∧ t.rdN (Obj.linkWidth p) = min width 8 ∧
      t.bport p = { s.bport p with contents := false, cap := min (capacity / 2 ^ 30 * 2 ^ 22) (2 ^ 32) } ∧
      t.opRunning 0 = true ∧ t.core = s.core ∧ t.agent = s.agent ∧ (∀ q, q ≠ p.val → t.bport q = s.bport q) ∧
      (∀ q ∈ t.basin.slots, slotPort q.1 ≠ p.val))) ∧
  (∀ (s : State) (p : Fin 8) (rate width capacity : Nat), s.rdN (Obj.basinPortState p) = 1 →
    (s.bport p).contents = true → s.start.fillAborted = false →
    Completes (.basinPortTrained p rate width capacity) s (fun t =>
      t.rdN (Obj.basinPortState p) = 3 ∧ t.rdN (Obj.linkRate p) = min rate 3 ∧ t.rdN (Obj.linkWidth p) = min width 8 ∧
      t.bport p = { s.bport p with contents := false, filled := true } ∧ t.basin.slots = s.basin.slots ∧
      t.core = s.core ∧
      ((∀ c, s.basin.checkpoint = some c → c.port ≠ p.val) → t.basin.pages = s.basin.pages ∧ t.basin.flows = s.basin.flows) ∧
      (∀ c, s.basin.checkpoint = some c → c.port = p.val →
        t.basin.checkpoint = none ∧ t.basin.pages = c.pages ∧ t.basin.flows = c.flows.map (fun q => (q.1, { q.2 with queue := [] }))))) ∧
  (∀ (s : State) (p : Fin 8), s.rdN (Obj.basinPortState p) = 1 → (s.bport p).trainAt + 10000 ≤ s.core.tick →
    (∃ q, q < 8 ∧ q ≠ p.val ∧ s.rdN (Obj.basinPortState q) = 1) →
    Completes (.basinTrainingTimeout p) s (fun t =>
      t.rdN (Obj.basinPortState p) = 5 ∧ (t.bport p).contents = false ∧
      (⟨0xC096, 0x3520 + p.val, 2, s.core.tick, s.life⟩ : Event) ∈ t.core.inFlight)) ∧
  (∀ (s : State) (p : Fin 8) (bad : List Nat), s.rdN (Obj.basinPortState p) = 2 → (s.bport p).filled = false →
    Completes (.basinPortFillDone p true bad) s (fun t =>
      t.rdN (Obj.basinPortState p) = 2 ∧ t.bport p = { s.bport p with filled := true, fillBad := (t.bport p).fillBad } ∧
      (∀ n, n ∈ (t.bport p).fillBad ↔ (∃ k ∈ bad, k / 4096 = n) ∧ n < s.portPages p ∧ n ∉ (s.bport p).retired) ∧
      (∀ q, q ≠ p.val → t.bport q = s.bport q) ∧ t.basin.slots = s.basin.slots ∧ t.agent = s.agent)) ∧
  (∀ (s : State) (p : Fin 8) (bad : List Nat), s.rdN (Obj.basinPortState p) = 2 → (s.bport p).filled = false →
    Completes (.basinPortFillDone p false bad) s (fun t =>
      t.rdN (Obj.basinPortState p) = 5 ∧ (∀ q, q ≠ p.val → t.bport q = s.bport q) ∧ t.agent = s.agent)) ∧
  (∀ s : State, s.start.fillDone = true → s.basin.accepted = false → s.start.fillTick < s.core.tick →
    Completes .durableAccepted s (fun t =>
      t.basin.accepted = true ∧ t.rd Obj.durableAccepted = 1 ∧ KeepsRegs [Obj.durableAccepted] s t ∧
      t.core.inFlight = s.core.inFlight ++ [⟨0x4024, 0x1120, s.durableFlows.length, s.core.tick, s.life⟩] ∧
      (∀ f, f ∉ s.durableFlows → t.flow f = s.flow f) ∧
      (∀ f, f ∈ s.durableFlows → (t.flow f).state = 1 ∧ (t.flow f).held = [] ∧ (t.flow f).next = 0 ∧ (t.flow f).acked = 0)))

/-- Shutdown and firmware loads (R102, R117). SHUTDOWN's drain ends with no durable cell unacknowledged or after SHUTDOWN_DRAIN
ticks: the ramps follow, and what is left unacknowledged is noted. A load erases the other image and programs it from the image
buffer; where its read-back verifies it becomes the active one and a commit has cause 4, and where not the load fails with REFUSED.
It rests on the model's own reading where the spec leaves it open: the choices of log entries 48, 49 and 91.
Commands shown to complete with their own effect, under conditions on state and operands alone: shutdownDrainEnd, firmwareLoadEnd. -/
def Obligations.ShutdownDrainsAndFirmwareLoads : Prop :=
  (∀ s : State, s.rdN Obj.shutdownState = 1 →
    (s.unackedCells = 0 ∨ s.start.drainStart + s.rdN Obj.shutdownDrain ≤ s.core.tick) →
    s.opRunning 0 = false → s.opRunning 7 = false → (∃ r, r < 4 ∧ s.txState r ≠ 0 ∧ s.txState r ≠ 4) →
    Completes .shutdownDrainEnd s (fun t =>
      t = { s with regs := t.regs, start := { s.start with unacked := s.unackedCells } } ∧
      t.rd Obj.shutdownState = 2 ∧ KeepsRegs [Obj.shutdownState] s t)) ∧
  (∀ s : State, s.opRunning 6 = true → s.start.started = true → s.start.commit = none →
    let u := (if s.start.fwErased then s else s.imageErase).imageProgram (s.rdN (Obj.opPositionEnd 6))
    u.imageVerifies s.loadTarget = true →
    Completes .firmwareLoadEnd s (fun t =>
      t.rdN Obj.activeImage = 1 - s.rdN Obj.activeImage ∧ t.rd (Obj.opState 6) = 2 ∧ t.rd (Obj.opPercent 6) = 10000 ∧
      KeepsRegs [Obj.activeImage, Obj.opState 6, Obj.opPercent 6, Obj.opPosition 6] s t ∧
      t.start.images = u.start.images ∧
      t.core.inFlight = s.core.inFlight ++ [⟨0x4005, 0x1186, 0, s.core.tick, s.life⟩] ∧
      ∃ c, t.start.commit = some c ∧ c.cause = 4 ∧ c.clean = false)) ∧
  (∀ s : State, s.opRunning 6 = true →
    let u := (if s.start.fwErased then s else s.imageErase).imageProgram (s.rdN (Obj.opPositionEnd 6))
    u.imageVerifies s.loadTarget = false →
    Completes .firmwareLoadEnd s (fun t =>
      t = { u with regs := t.regs, core := { s.core with inFlight := s.core.inFlight ++
              [⟨0x8006, 0x1186, Status.refused, s.core.tick, s.life⟩] } } ∧
      t.rd (Obj.opState 6) = 3 ∧ t.rd (Obj.opLastStatus 6) = Status.refused ∧
      KeepsRegs [Obj.opState 6, Obj.opLastStatus 6] s t))

/-- The die-to-die links (R19, R20, R22). A link that trains while its domain is powered is UP; a flit with an error in one byte
is corrected and counts, and no more; one with an error in two counts in its direction, and its received soft values are erased;
DEGRADE_TICKS ticks in a row over the threshold degrade the link and raise
LINK_DEGRADED with the direction.
It rests on the model's own reading where the spec leaves it open: the choices of log entries 87 and 94.
Commands shown to complete with their own effect, under conditions on state and operands alone: dieLinkTrained, dieLinkFlitError,
dieLinkDegraded. -/
def Obligations.DieLinksTrainCountAndDegrade : Prop :=
  (∀ (s : State) (r : Fin 4), s.rdN (Obj.linkState r) = 1 → 1 ≤ s.dom (domReach r) →
    Completes (.dieLinkTrained r) s (fun t => t = { s with regs := t.regs } ∧ t.rd (Obj.linkState r) = 2 ∧
      KeepsRegs [Obj.linkState r] s t)) ∧
  (∀ (s : State) (r : Fin 4) (tx : Bool) (g : Fin 8) (flit : Nat), 2 ≤ s.rdN (Obj.linkState r) →
    Completes (.dieLinkFlitError r tx 1 g flit) s (fun t => t = { s with regs := t.regs } ∧
      t.rdN (Obj.correctedFlits r) = (s.rdN (Obj.correctedFlits r) + 1) % 2 ^ 64 ∧ KeepsRegs [Obj.correctedFlits r] s t)) ∧
  (∀ (s : State) (r : Fin 4) (g : Fin 8) (flit : Nat), 2 ≤ s.rdN (Obj.linkState r) →
    Completes (.dieLinkFlitError r false 2 g flit) s (fun t =>
      t = { s with regs := t.regs, conv := { s.conv with flits := t.conv.flits, erased := t.conv.erased } } ∧
      tget (fun _ => []) t.conv.erased r = tget (fun _ => []) s.conv.erased r ++ [(g.val, flit)] ∧
      t.rdN (Obj.uncorrectableRx r) = (s.rdN (Obj.uncorrectableRx r) + 1) % 2 ^ 64 ∧ KeepsRegs [Obj.uncorrectableRx r] s t)) ∧
  (∀ (s : State) (r : Fin 4) (g : Fin 8) (flit : Nat), 2 ≤ s.rdN (Obj.linkState r) →
    Completes (.dieLinkFlitError r true 2 g flit) s (fun t =>
      t = { s with regs := t.regs, conv := { s.conv with flits := t.conv.flits }, frame := { s.frame with tx := t.frame.tx } } ∧
      (∀ k, k ≠ 8 * r.val + g.val → t.frame.tx.find? (fun p => p.1 == k) = s.frame.tx.find? (fun p => p.1 == k)) ∧
      t.rdN (Obj.uncorrectableTx r) = (s.rdN (Obj.uncorrectableTx r) + 1) % 2 ^ 64 ∧ KeepsRegs [Obj.uncorrectableTx r] s t)) ∧
  (∀ (s : State) (r : Fin 4), s.rdN (Obj.linkState r) = 2 →
    let k := tget (fun _ => (0, 0)) s.conv.overRun r.val
    (s.rdN (Obj.degradeTicks r) ≤ k.1 ∨ s.rdN (Obj.degradeTicks r) ≤ k.2) → s.released (domReach r) = false →
    Completes (.dieLinkDegraded r) s (fun t =>
      t = { s with regs := t.regs, core := { s.core with inFlight := s.core.inFlight ++ [⟨0xC010, 0x201C + 0x200 * r.val,
              if s.rdN (Obj.degradeTicks r) ≤ k.1 then 0 else 1, s.core.tick, s.life⟩] } } ∧
      t.rd (Obj.linkState r) = 3 ∧ KeepsRegs [Obj.linkState r] s t)) ∧
  (∀ (s : State) (r : Fin 4), s.rdN (Obj.linkState r) = 2 →
    let k := tget (fun _ => (0, 0)) s.conv.overRun r.val
    (s.rdN (Obj.degradeTicks r) ≤ k.1 ∨ s.rdN (Obj.degradeTicks r) ≤ k.2) → s.released (domReach r) = true →
    (∀ u, u < 4 → s.carrier u ≠ some r.val) → r.val ∉ s.conv.faultMoor →
    Completes (.dieLinkDegraded r) s (fun t =>
      t.rd (Obj.linkState r) = 3 ∧ t.conv.faultMoor = s.conv.faultMoor ++ [r.val] ∧ KeepsRegs [Obj.linkState r] s t))

/-- The gain control of a reach (R124 to R127, R311, R526; Table 5.3). In SLEW each code moves towards the target and stays in 0 to 4,095,
whatever the amount the spec leaves open; the update counts the levels that stand within 1 dB. Twenty such updates in a row
enter SETTLE; two counted ticks with training in it freeze the codes, start the drift correction at 0 and raise AGC_FROZEN;
eight ticks without training have the AGC re-arm
at step 5 of the next boundary from the present codes with cause 0. While the reach reacquires in a restoration, updates without light
at any detector hold the codes (R311).
It rests on the model's own reading where the spec leaves it open: the choices of log entries 4, 56, 85 and 101.
Commands shown to complete with their own effect, under conditions on state and operands alone: agcSlewUpdate, agcSettleEntry,
agcFreeze, agcTrainingLossRearm. -/
def Obligations.AgcSlewsSettlesFreezesAndRearms : Prop :=
  (∀ (s : State) (r : Fin 4) (errs : List Int), s.agcState r = 1 → errs.length = 4 → s.reachReacquires r = true →
    NoEffect (.agcSlewUpdate r errs false) s) ∧
  (∀ (s : State) (r : Fin 4) (errs : List Int) (light : Bool), s.agcState r = 1 → errs.length = 4 →
    (light = true ∨ s.reachReacquires r = false) →
    Completes (.agcSlewUpdate r errs light) s (fun t =>
      (∀ i, i < 4 → let e := errs.getD i 0; let c := s.rdN (Obj.gainCode r i); let d := t.rdN (Obj.gainCode r i)
        d ≤ 4095 ∧ (e = 0 → c ≤ 4095 → d = c) ∧ (0 < e → d ≤ c) ∧ (e < 0 → c ≤ 4095 → c ≤ d)) ∧
      (t.agc r).inRange = (if ∀ e ∈ errs, e.natAbs ≤ 100 then (s.agc r).inRange + 1 else 0) ∧
      t = { s with regs := t.regs, conv := { s.conv with agc := t.conv.agc }, core := { s.core with freeCtr := t.core.freeCtr } } ∧
      (∀ q, q ≠ r.val → t.agc q = s.agc q) ∧
      KeepsRegs [Obj.gainCode r 0, Obj.gainCode r 1, Obj.gainCode r 2, Obj.gainCode r 3, Obj.agcAtLimit r] s t)) ∧
  (∀ (s : State) (r : Fin 4), s.agcState r = 1 → 20 ≤ (s.agc r).inRange →
    Completes (.agcSettleEntry r) s (fun t =>
      t = { s with regs := t.regs, conv := { s.conv with agc := t.conv.agc } } ∧ t.agcState r = 2 ∧ (t.agc r).found = 0 ∧
      (∀ i, i < 4 → let o := (s.agc r).slew.getD i (0, 0, 0)
        (t.agc r).est.getD i (0, 0) = if 16 ≤ o.2.2 ∧ o.1 ≠ 0 then (o.1, o.2.1) else (s.agc r).est.getD i (0, 0)) ∧
      KeepsRegs [Obj.agcState r] s t)) ∧
  (∀ (s : State) (r : Fin 4), s.agcState r = 2 → 2 ≤ (s.agc r).found →
    (∀ u, u < 4 → s.uMode u = 1 → s.rdN (Obj.workingReach u) ≠ r.val) →
    Completes (.agcFreeze r) s (fun t =>
      t.agcState r = 3 ∧ (t.agc r).frozen = s.gainCodes r ∧ (∀ i, i < 4 → t.rd (Obj.digitalGain r i) = 0) ∧
      t.rdN (Obj.freezes r) = (s.rdN (Obj.freezes r) + 1) % 2 ^ 64 ∧
      t = { s with regs := t.regs, conv := { s.conv with agc := t.conv.agc }
                   core := { s.core with inFlight := s.core.inFlight ++
                     [⟨0x4030, 0x2020 + 0x200 * r.val, s.core.tick - (s.agc r).since, s.core.tick, s.life⟩] } } ∧
      KeepsRegs [Obj.agcState r, Obj.freezes r, Obj.digitalGain r 0, Obj.digitalGain r 1, Obj.digitalGain r 2,
        Obj.digitalGain r 3] s t)) ∧
  (∀ (s : State) (r : Fin 4) (u : Fin 4), s.agcState r = 2 → 2 ≤ (s.agc r).found → s.uMode u = 1 →
    s.rdN (Obj.workingReach u) = r.val →
    Completes (.agcFreeze r) s (fun t => t.agcState r = 3 ∧
      t.rdN (if s.rdN (Obj.pathInUse u) = 0 then Obj.agcSeedPath0 u else Obj.agcSeedPath1 u) =
        beNat ((s.gainCodes r).flatMap (beBytes 2)))) ∧
  (∀ (s : State) (r : Fin 4), s.agcState r = 3 → 8 ≤ (s.agc r).missed →
    Completes (.agcTrainingLossRearm r) s (fun t => t = s.setAgc r { s.agc r with lossRearm := true })) ∧
  (∀ (s : State) (r : Nat), s.agcState r = 3 → (s.agc r).lossRearm = true →
    let t := s.agcLossStep r
    t.agcState r = 1 ∧ t.gainCodes r = s.gainCodes r ∧ (t.agc r).since = s.core.tick ∧ (t.agc r).missed = 0 ∧
      (t.agc r).lossRearm = false ∧ t.rdN (Obj.rearms r) = (s.rdN (Obj.rearms r) + 1) % 2 ^ 64 ∧
      t.core.inFlight = s.core.inFlight ++ [⟨0x4031, 0x2020 + 0x200 * r, 0, s.core.tick, s.life⟩] ∧
      KeepsRegs [Obj.agcState r, Obj.rearms r, Obj.watchState r, Obj.watchScore r] s t)

/-- The end of a transmit ramp (R133; Table 5.7): a ramp up with every enabled sub-carrier at its goal leaves the reach ON; a ramp down with
every power at 0 leaves it OFF with its pins off. A pin's level is taken as the board drives it; with the pin at its active
level the reach it serves goes to EMERGENCY_OFF at once, every power to 0, its source noted and counted (R134, R135).
It rests on the model's own reading where the spec leaves it open: the choice of log entry 84.
Commands shown to complete with their own effect, under conditions on state and operands alone: rampEnd, eyeSafetyInput. -/
def Obligations.RampsEndAndEyeSafetyTurnsOff : Prop :=
  (∀ (s : State) (r : Fin 4), s.txState r = 1 →
    (∀ sc, sc < 64 → s.scEnabled r sc = true → (s.ramp r sc).m = 0 ∧ (s.ramp r sc).cur = level10 (s.rd (Obj.preEmphasis r sc))) →
    s.rdN Obj.shutdownState ≠ 2 →
    Completes (.rampEnd r) s (fun t => t = { s with regs := t.regs } ∧ t.txState r = 2 ∧ KeepsRegs [Obj.txState r] s t)) ∧
  (∀ (s : State) (r : Fin 4), s.txState r = 3 → (∀ sc, sc < 64 → (s.ramp r sc).m = 0 ∧ (s.ramp r sc).cur = 0) →
    s.rdN Obj.shutdownState ≠ 2 →
    Completes (.rampEnd r) s (fun t => t.txState r = 0 ∧ r.val ∉ t.conv.txen ∧ r.val ∉ t.conv.drven ∧
      (∀ q, q ≠ r.val → (q ∈ t.conv.txen ↔ q ∈ s.conv.txen) ∧ (q ∈ t.conv.drven ↔ q ∈ s.conv.drven)) ∧
      t = { s with regs := t.regs, conv := { s.conv with txen := t.conv.txen, drven := t.conv.drven } } ∧
      KeepsRegs [Obj.txState r] s t)) ∧
  (∀ (s : State) (n : Fin 16) (r : Fin 4) (level : Bool),
    (s.pathSelects n).isNone = true → gpioFunction (s.rdN (Obj.gpioConfig n)) = 2 → bitsOf (s.rdN (Obj.gpioConfig n)) 5 4 = r.val →
    bitOf s.board.pins n ≠ level → level ≠ bitOf (s.rdN (Obj.gpioConfig n)) 8 →
    Completes (.eyeSafetyInput n level) s (fun t =>
      t.txState r = 4 ∧ (∀ sc, sc < 64 → (t.ramp r sc).cur = 0 ∧ (t.ramp r sc).m = 0) ∧
      r.val ∉ t.conv.txen ∧ r.val ∉ t.conv.drven ∧ bitOf t.board.pins n = level ∧ r.val ∈ t.conv.eyeActive ∧
      bitOf (t.rdN (Obj.txOffSource r)) 1 = true ∧
      t.rdN (Obj.emergencyOffs r) = (s.rdN (Obj.emergencyOffs r) + 1) % 2 ^ 64 ∧
      t.core = { s.core with inFlight := s.core.inFlight ++ [⟨0xC036, 0x2040 + 0x200 * r.val, 1, s.core.tick, s.life⟩] } ∧
      (∀ q, q < 4 → q ≠ r.val → t.txState q = s.txState q ∧ ∀ sc, sc < 64 → t.ramp q sc = s.ramp q sc) ∧
      t.power = s.power ∧ t.agent = s.agent)) ∧
  (∀ (s : State) (n : Fin 16) (level : Bool), gpioFunction (s.rdN (Obj.gpioConfig n)) ≠ 2 →
    Completes (.eyeSafetyInput n level) s (fun t => bitOf t.board.pins n = level ∧ t.regs = s.regs ∧ t.conv.ramps = s.conv.ramps ∧
      t.conv.txen = s.conv.txen ∧ (∀ m, m ≠ n.val → bitOf t.board.pins m = bitOf s.board.pins m) ∧ t.core = s.core))

/-- Calibration (R138 to R148). A background round on a released, FROZEN reach takes the lowest free spare of each converter as its
shadow and asks for the four temperatures, after the reads of a lower reach; with the spares measured it walks the 128 positions, displacing the slice that serves
each and returning it after the window; in its last tick the sets are checked, and at step 5 of the next boundary the accepted ones come
into force and the round ends. A start round on a moored reach with its link UP leaves the words in force and lasts as the windows of
R147 say; a round in which a set fails runs again, and after two further failures the reach is blocked with REACH_CAL_BLOCKED.
It rests on the model's own reading where the spec leaves it open: the choices of log entries 70 and 105.
Commands shown to complete with their own effect, under conditions on state and operands alone: calRoundStart, calSparesMeasured,
calPositionStep, calRoundEnd, startRoundBegin, startRoundEnd. -/
def Obligations.CalibrationRoundsWalkTheSlices : Prop :=
  (∀ (s : State) (r : Fin 4), s.released (domReach r) = true → s.agcState r = 3 → (s.cal r).kind = 0 →
    (((s.cal r).requested = true ∧ (s.cal r).dueAt ≤ s.core.tick) ∨ ((s.cal r).tempHeld = true ∧ s.rdB (Obj.calAuto r) = true)) →
    (∀ k, k < 8 → (s.shadowSlice r k).isSome) →
    Completes (.calRoundStart r) s (fun t =>
      (t.cal r).kind = 1 ∧ (t.cal r).since = s.core.tick ∧ (t.cal r).pos = 0 ∧ (t.cal r).sparesDone = false ∧
      (t.cal r).requested = false ∧ (t.cal r).next = s.core.tick + 1 + s.rdN (Obj.calWindow r) ∧ (t.cal r).verdict = none ∧
      (∀ k, k < 8 → some ((t.cal r).shadow.getD k 0xFF) = s.shadowSlice r k) ∧
      ((∀ q ∈ s.sup.inj, q.1 ≤ 4 * r.val) → t.sup.inj = s.sup.inj ++ [(1 + 4 * r.val, 4 * r.val), (2 + 4 * r.val, 4 * r.val + 1), (3 + 4 * r.val, 4 * r.val + 2),
        (4 + 4 * r.val, 4 * r.val + 3)]) ∧
      (∀ q, q ∈ t.sup.inj ↔ q ∈ s.sup.inj ∨ ∃ i < 4, q = (1 + 4 * r.val + i, 4 * r.val + i)) ∧
      t.opRunning (calOp r) = true ∧ t.core = s.core ∧
      KeepsRegs [Obj.opState (calOp r), Obj.opPosition (calOp r), Obj.opPercent (calOp r), Obj.opPositionEnd (calOp r),
        Obj.opStartTick (calOp r)] s t)) ∧
  (∀ (s : State) (r : Fin 4), s.calRuns r = true → (s.cal r).sparesDone = false → (s.cal r).next ≤ s.core.tick →
    Completes (.calSparesMeasured r) s (fun t =>
      t.cal r = { s.cal r with sparesDone := true } ∧ t.core = s.core ∧
      KeepsRegs [Obj.opPosition (calOp r), Obj.opPercent (calOp r)] s t)) ∧
  (∀ (s : State) (r : Fin 4), s.calRuns r = true → (s.cal r).sparesDone = true → (s.cal r).next ≤ s.core.tick →
    (s.cal r).pos = 0 →
    Completes (.calPositionStep r) s (fun t =>
      (t.cal r).pos = 1 ∧ (t.cal r).next = s.core.tick + (s.cal r).window + 1 ∧
      (∀ k, k ∈ (s.cal r).active →
        t.rdN (Obj.sliceAtPosition r k 0) = (s.cal r).shadow.getD k 0xFF ∧
        (t.cal r).displaced.getD k 0xFF = s.rdN (Obj.sliceAtPosition r k 0)) ∧
      KeepsRegs ((List.range 8).map (fun k => Obj.sliceAtPosition r k 0)) s t ∧ t.core = s.core)) ∧
  (∀ (s : State) (r : Fin 4), s.calRuns r = true → (s.cal r).sparesDone = true → (s.cal r).next ≤ s.core.tick →
    (s.cal r).pos = 128 →
    Completes (.calPositionStep r) s (fun t =>
      (t.cal r).pos = 129 ∧ (t.cal r).next = s.core.tick + 1 ∧ (t.cal r).displaced = [] ∧
      (∀ k, k ∈ (s.cal r).active → (s.cal r).displaced.getD k 0xFF ≠ 0xFF →
        t.rdN (Obj.sliceAtPosition r k 127) = (s.cal r).displaced.getD k 0xFF) ∧ t.core = s.core)) ∧
  (∀ (s : State) (r : Fin 4) (ms : List SliceMeas), s.calRuns r = true → (s.cal r).pos = 129 → (s.cal r).verdict = none →
    (∀ m ∈ ms, measFails m (s.rdN (Obj.sliceCoeff r m.conv m.slice)) true = none) →
    Completes (.calRoundEnd r ms) s (fun t =>
      (∃ v, (t.cal r).verdict = some v ∧ v.failed = none ∧ v.retire = [] ∧ v.result / 256 % 256 = 0) ∧
      t = { s with conv := { s.conv with cal := t.conv.cal } } ∧ (∀ q, q ≠ r.val → t.cal q = s.cal q) ∧
      (∀ m ∈ (t.cal r).accepted, ∃ x ∈ ms, m = (132 * x.conv + x.slice, coeffWord x.offset x.gain x.skew x.bandwidth)))) ∧
  (∀ (s : State) (r : Fin 4) (v : CalVerdict), (s.cal r).verdict = some v → (s.cal r).suspended = false → v.failed = none →
    v.retire = [] → v.result / 256 % 256 = 0 → ((s.cal r).accepted.map (·.1)).Nodup → (∀ p ∈ (s.cal r).accepted, p.1 < 1056) →
    let t := s.calApply r
    (t.cal r).kind = 0 ∧ (t.cal r).accepted = [] ∧ (t.cal r).shadow = [] ∧ (t.cal r).displaced = [] ∧
      (∀ p ∈ (s.cal r).accepted, t.rdN (Obj.sliceCoeff r (p.1 / 132) (p.1 % 132)) = p.2) ∧
      t.rdN (Obj.rounds r) = (s.rdN (Obj.rounds r) + 1) % 2 ^ 64 ∧ t.rdN (Obj.roundsFailed r) = s.rdN (Obj.roundsFailed r) ∧
      t.rdN (Obj.calResult r) = v.result ∧ t.rd (Obj.opState (calOp r)) = 2 ∧
      ((s.cal r).kind = 2 → (t.cal r).startDone = true ∧ (t.cal r).startFails = 0 ∧
        (t.cal r).blocked = ((s.cal r).blocked && !(s.cal r).byCommand)) ∧
      t.core = { s.core with inFlight := s.core.inFlight ++ [⟨0x4005, 0x1180 + calOp r, 0, s.core.tick, s.life⟩] }) ∧
  (∀ (s : State) (r : Fin 4), (s.cal r).startDue = true → (s.cal r).dueAt ≤ s.core.tick → (s.cal r).kind = 0 →
    s.dom (domReach r) = 2 → s.rdN (Obj.linkState r) = 2 →
    (s.rdB (Obj.calSeedWait r) = true → s.rdB (Obj.reachEnable r) = true) →
    Completes (.startRoundBegin r) s (fun t =>
      (t.cal r).kind = 2 ∧ (t.cal r).since = s.core.tick ∧ (t.cal r).startDue = false ∧ (t.cal r).startDone = false ∧
      (t.cal r).seededAt = upto 8 (s.seeded r) ∧ t.opRunning (calOp r) = true ∧
      (let n (k : Nat) : Nat := 2 + (s.liveSlices r k).length * (if s.seeded r k then 5 else 24)
       (∀ k, k < 8 → n k ≤ (t.cal r).duration) ∧ ∃ k, k < 8 ∧ n k = (t.cal r).duration) ∧
      KeepsRegs [Obj.opState (calOp r), Obj.opPosition (calOp r), Obj.opPercent (calOp r), Obj.opPositionEnd (calOp r),
        Obj.opStartTick (calOp r)] s t ∧ t.core = s.core ∧ t.agent = s.agent)) ∧
  (∀ (s : State) (r : Fin 4) (ms : List SliceMeas), (s.cal r).kind = 2 → (s.cal r).since + (s.cal r).duration ≤ s.core.tick + 1 →
    (s.cal r).verdict = none → (∀ m ∈ ms, measFails m (s.rdN (Obj.sliceCoeff r m.conv m.slice)) false = none) →
    Completes (.startRoundEnd r ms) s (fun t =>
      (∃ v, (t.cal r).verdict = some v ∧ v.failed = none ∧ v.retire = [] ∧ v.result / 256 % 256 = 0) ∧
      t = { s with conv := { s.conv with cal := t.conv.cal } })) ∧
  (∀ (s : State) (r : Fin 4) (m : SliceMeas), (s.cal r).kind = 2 → (s.cal r).since + (s.cal r).duration ≤ s.core.tick + 1 →
    (s.cal r).verdict = none → m.conv < 8 → m.slice < 132 → s.sliceRetired r m.conv m.slice = false →
    plausible m.offset m.gain m.skew m.bandwidth = true →
    measFails m (s.rdN (Obj.sliceCoeff r m.conv m.slice)) false = some 1 →
    Completes (.startRoundEnd r [m]) s (fun t =>
      (∃ v, (t.cal r).verdict = some v ∧ v.failed = some (2 ^ m.conv + 256) ∧ v.retire = [] ∧ v.result / 256 % 256 = 2 ^ m.conv) ∧
      t = { s with conv := { s.conv with cal := t.conv.cal } })) ∧
  (∀ (s : State) (r : Fin 4) (v : CalVerdict) (a : Nat), (s.cal r).kind = 2 → (s.cal r).verdict = some v →
    (s.cal r).suspended = false → v.failed = some a → v.retire = [] → v.result / 256 % 256 ≠ 0 →
    let t := s.calApply r
    (t.cal r).kind = 0 ∧ t.rd (Obj.opState (calOp r)) = 3 ∧
      t.rdN (Obj.roundsFailed r) = (s.rdN (Obj.roundsFailed r) + 1) % 2 ^ 64 ∧
      (⟨0x8033, 0x2021 + 0x200 * r.val, a, s.core.tick, s.life⟩ : Event) ∈ t.core.inFlight ∧
      ((s.cal r).startFails < 2 → (t.cal r).startDue = true ∧ (t.cal r).startFails = (s.cal r).startFails + 1) ∧
      (2 ≤ (s.cal r).startFails → (t.cal r).blocked = true ∧ (t.cal r).startFails = 0 ∧
        (⟨0xC037, 0x2021 + 0x200 * r.val, v.result / 256 % 256, s.core.tick, s.life⟩ : Event) ∈ t.core.inFlight))

/-- The loading of a group (R165, R170, R172, R173, R175, R176). A deadline that ends without a match postpones the announcement,
its effective tick the lead or the acknowledge latency and 4 after the new first tick; the fifth abandons it. At its tick a
committed map comes into force, and a FIXED candidate that waited for it stays one. A due restart puts the probe map into force and forgets the window, the report and every SNR.
A map current for the window copies the qualities into the profile of the path in use. A margin ends 10,000 ticks after the
last shortfall.
It rests on the model's own reading where the spec leaves it open: the choices of log entries 17 and 29.
Commands shown to complete with their own effect, under conditions on state and operands alone: loadingDeadline, loadingSwitch,
groupRestart, historyCapture, shortfallMarginExpiry. -/
def Obligations.LoadingAnnouncesSwitchesAndRestarts : Prop :=
  (∀ (s : State) (r : Fin 4) (g : Fin 8) (a : Announce), (s.load r g).ann = some a → a.committed = false →
    a.at_ ≤ s.core.tick + 3 → a.postponed < 4 →
    Completes (.loadingDeadline r g) s (fun t =>
      (let ta := a.at_ - 3
       (t.load r g).ann = some { a with ta := ta, postponed := a.postponed + 1
                                        at_ := ta + max (s.rdN (Obj.loadingLead r g)) (s.rdN (Obj.ackLatency r g) + 4) }) ∧
      (t.load r g).tx = (s.load r g).tx ∧
      t.rdN (Obj.postponements r g) = (s.rdN (Obj.postponements r g) + 1) % 2 ^ 64 ∧
      t.core = { s.core with inFlight := s.core.inFlight ++ [⟨0x8041, 0x2140 + 0x200 * r.val + g.val,
        (a.postponed + 1) * 65536 + a.map.version, s.core.tick, s.life⟩] } ∧
      KeepsRegs [Obj.postponements r g, Obj.announcedVersion r g, Obj.announcedTick r g] s t)) ∧
  (∀ (s : State) (r : Fin 4) (g : Fin 8) (a : Announce), (s.load r g).ann = some a → a.committed = false →
    a.at_ ≤ s.core.tick + 3 → 4 ≤ a.postponed →
    Completes (.loadingDeadline r g) s (fun t =>
      (t.load r g).ann = none ∧ (t.load r g).cand = (s.load r g).cand ∧ (t.load r g).tx = (s.load r g).tx ∧
      t.rdN (Obj.announcedVersion r g) = 0 ∧ t.rdN (Obj.announcedTick r g) = 0 ∧
      t.core = { s.core with inFlight := s.core.inFlight ++ [⟨0x8042, 0x2140 + 0x200 * r.val + g.val, a.map.version, s.core.tick,
        s.life⟩] } ∧ KeepsRegs [Obj.announcedVersion r g, Obj.announcedTick r g] s t)) ∧
  (∀ (s : State) (r : Fin 4) (g : Fin 8) (a : Announce), (s.load r g).ann = some a → a.committed = true → a.at_ ≤ s.core.tick →
    Completes (.loadingSwitch r g) s (fun t =>
      t.load r g = { s.load r g with tx := some a.map, lastVersion := a.map.version, lastSwitch := a.at_, ann := none
                                     cand := if s.rdN (Obj.loadingMode r g) = 2 then (s.load r g).cand else none } ∧
      t.rdN (Obj.loadingMapVersion r g) = a.map.version ∧ t.rdN (Obj.announcedVersion r g) = 0 ∧
      (∀ sc ∈ s.groupScs r g, t.rdN (Obj.loadingTx r sc) = a.map.code sc) ∧
      t.rdN (Obj.mapSwitches r g) = (s.rdN (Obj.mapSwitches r g) + 1) % 2 ^ 64 ∧
      (∀ q h, 8 * q + h ≠ 8 * r.val + g.val → t.load q h = s.load q h) ∧
      t.core = { s.core with inFlight := s.core.inFlight ++ [⟨0x4040, 0x2140 + 0x200 * r.val + g.val, a.map.version, s.core.tick,
        s.life⟩] })) ∧
  (∀ (s : State) (r : Fin 4) (g : Fin 8) (cause due : Nat), (s.load r g).restart = some (cause, due) → due ≤ s.core.tick →
    Completes (.groupRestart r g) s (fun t =>
      (t.load r g).tx = none ∧ (t.load r g).ann = none ∧ (t.load r g).report = none ∧ (t.load r g).window = [] ∧
      (t.load r g).restart = none ∧ (t.load r g).fromHistory = true ∧ t.rdN (Obj.loadingMapVersion r g) = 0 ∧
      (∀ sc ∈ s.groupScs r g, t.rd (Obj.snrAvg r sc) = -32768) ∧
      t.rdN (Obj.restarts r g) = (s.rdN (Obj.restarts r g) + 1) % 2 ^ 64 ∧
      t.core = { s.core with inFlight := s.core.inFlight ++ [⟨0x4044, 0x2140 + 0x200 * r.val + g.val, cause, s.core.tick, s.life⟩] })) ∧
  (∀ (s : State) (r : Fin 4) (g : Fin 8), (s.load r g).rxCur.isSome = true → s.inFrame r g = true →
    s.rdN (Obj.loadingWindow r g) ≤ (s.load r g).curTicks → (∀ sc ∈ s.groupScs r g, s.quality r g sc ≠ 0) →
    Completes (.historyCapture r g) s (fun t => t = { s with regs := t.regs } ∧
      (∀ sc ∈ s.groupScs r g,
        t.rdN (if s.pathOf r = 0 then Obj.historyPath0 r sc else Obj.historyPath1 r sc) = s.quality r g sc) ∧
      t.rdN (Obj.historyValid r g) = setBit (s.rdN (Obj.historyValid r g)) (s.pathOf r) true)) ∧
  (∀ (s : State) (r : Fin 4) (g : Fin 8), (s.load r g).xOn = true → (s.load r g).xTick + 10000 ≤ s.core.tick →
    Completes (.shortfallMarginExpiry r g) s (fun t => t = { s with loads := t.loads } ∧
      t.load r g = { s.load r g with xOn := false } ∧ (∀ q h, 8 * q + h ≠ 8 * r.val + g.val → t.load q h = s.load q h)))

/-- Dispersion and equalisation (R187, R191 to R195). A bank whose time has come is READY; a search with no frame for 20 ticks puts
the blind estimate into force; tracking moves the value in force by at most 20 ps/nm towards the trained estimate, held to
160,000 ps/nm either way; the equaliser turns AGILE and STEADY as its mode and the rotation rate say. The watch of a reach (R201 to R204; Table 7.5a). Suppression ends with the baselines at the features' means; the arm condition
arms it, with a pre-arm signal where that is enabled; a run of quiet ticks clears it, with a disarm signal if one was sent.
Commands shown to complete with their own effect, under conditions on state and operands alone: cdBankReady, cdSearch, cdTracking,
eqModeChange, watchSuppressEnd, watchArmed, watchCleared. -/
def Obligations.DispersionEqualiserAndWatchFollowTheLine : Prop :=
  (∀ (s : State) (r : Fin 4),
    Completes (.cdBankReady r) s (fun t => t = { s with regs := t.regs } ∧
      t.rdN (Obj.bankAState r) =
        (if s.rdN (Obj.bankAState r) = 0 ∧ (s.cd r).readyA ≤ s.core.tick then 1 else s.rdN (Obj.bankAState r)) ∧
      t.rdN (Obj.bankBState r) =
        (if s.rdN (Obj.bankBState r) = 0 ∧ (s.cd r).readyB ≤ s.core.tick then 1 else s.rdN (Obj.bankBState r)) ∧
      KeepsRegs [Obj.bankAState r, Obj.bankBState r] s t)) ∧
  (∀ (s : State) (r : Fin 4), (s.rdN (Obj.cdMode r) = 1 ∨ s.rdN (Obj.cdMode r) = 2) → s.released (domReach r) = true →
    s.reachInFrame r = false → 20 ≤ (s.cd r).noFrame → (s.cd r).searchFrom + 20 ≤ s.core.tick →
    (s.cd r).swappedAt ≠ some s.core.tick → 500 < ((s.cd r).blind - s.cdInForceVal r).natAbs →
    -160000 ≤ (s.cd r).blind → (s.cd r).blind ≤ 160000 →
    Completes (.cdSearch r) s (fun t =>
      t.cdInForceVal r = (s.cd r).blind ∧ (t.cd r).searchFrom = s.core.tick ∧ (t.cd r).noFrame = 0 ∧
      t.core = { s.core with inFlight := s.core.inFlight ++ [⟨0x4051, 0x2080 + 0x200 * r.val, ((s.cd r).blind % 2 ^ 32).toNat,
        s.core.tick, s.life⟩] } ∧ t.agent = s.agent)) ∧
  (∀ (s : State) (r : Fin 4), s.rdN (Obj.cdMode r) = 2 → ((s.cd r).tracking = true ∨ 1000 ≤ (s.cd r).trackRun) →
    (s.cd r).swappedAt ≠ some s.core.tick →
    -160000 ≤ s.cdInForceVal r → s.cdInForceVal r ≤ 160000 → -160000 ≤ (s.cd r).trained → (s.cd r).trained ≤ 160000 →
    Completes (.cdTracking r) s (fun t =>
      t.cdInForceVal r = s.cdInForceVal r + clampInt (-20) 20 ((s.cd r).trained - s.cdInForceVal r) ∧
      (t.cdInForceVal r - s.cdInForceVal r).natAbs ≤ 20 ∧ ((t.cd r).tracking = true ↔ t.cdInForceVal r ≠ (s.cd r).trained) ∧
      (t.cd r).trackRun = 0 ∧ t.core = s.core)) ∧
  (∀ (s : State) (r : Fin 4) (want : Bool),
    want = (if s.rdN (Obj.eqTracking r) = 0 then false else if s.rdN (Obj.eqTracking r) = 1 then true
      else if s.rdB (Obj.eqAgile r) then decide (tget (fun _ => 0) s.eq.slow r < 1000)
      else decide (1000 < tget (fun _ => 0) s.eq.peak r)) → want ≠ s.rdB (Obj.eqAgile r) →
    Completes (.eqModeChange r) s (fun t => t.rdB (Obj.eqAgile r) = want ∧
      t.rdN (Obj.eqModeChanges r) = (s.rdN (Obj.eqModeChanges r) + 1) % 2 ^ 64 ∧
      t = { s with regs := t.regs, core := { s.core with inFlight := s.core.inFlight ++
              [⟨0x4054, 0x2060 + 0x200 * r.val, if want then 1 else 0, s.core.tick, s.life⟩] } } ∧
      KeepsRegs [Obj.eqAgile r, Obj.eqModeChanges r] s t)) ∧
  (∀ (s : State) (r : Fin 4), s.rdN (Obj.watchState r) = 0 → s.rdN (Obj.suppressTicks r) ≤ (s.watch r).count →
    s.released (domReach r) = true →
    Completes (.watchSuppressEnd r) s (fun t => t.rdN (Obj.watchState r) = 1 ∧
      (t.watch r).bSop = (s.watch r).sSop * watchUnit / (s.watch r).count ∧
      (t.watch r).bPhase = (s.watch r).sPhase * watchUnit / (s.watch r).count ∧
      (t.watch r).bTap = (s.watch r).sTap * watchUnit / (s.watch r).count ∧
      t.rdN (Obj.baselineSop r) = (t.watch r).bSop / 2 ^ 16 ∧ t.rdN (Obj.baselinePhase r) = (t.watch r).bPhase / 2 ^ 16 ∧
      t = { s with regs := t.regs, eq := { s.eq with watch := t.eq.watch } } ∧
      KeepsRegs [Obj.watchState r, Obj.baselineSop r, Obj.baselinePhase r] s t)) ∧
  (∀ (s : State) (r : Fin 4) (score : Nat), s.rdN (Obj.watchState r) = 2 → s.armScore r = some score →
    Completes (.watchArmed r) s (fun t => t.rdN (Obj.watchState r) = 3 ∧ (t.watch r).sent = s.rdB (Obj.preArmEnable r) ∧
      t.eq.prearm = s.eq.prearm ++ (if s.rdB (Obj.preArmEnable r) then [r.val] else []) ∧ t.eq.disarm = s.eq.disarm ∧
      t.rdN (Obj.arms r) = (s.rdN (Obj.arms r) + 1) % 2 ^ 64 ∧
      t.core = { s.core with inFlight := s.core.inFlight ++ [⟨0xC056, 0x20A0 + 0x200 * r.val,
        (if s.rdB (Obj.preArmEnable r) then 2 ^ 31 else 0) + s.rdN (Obj.watchClass r) * 65536 + score, s.core.tick, s.life⟩] } ∧
      KeepsRegs [Obj.watchState r, Obj.arms r] s t)) ∧
  (∀ (s : State) (r : Fin 4), (s.rdN (Obj.watchState r) = 2 ∨ s.rdN (Obj.watchState r) = 3) →
    s.rdN (Obj.clearTicks r) ≤ (s.watch r).quiet →
    Completes (.watchCleared r) s (fun t => t.rdN (Obj.watchState r) = 1 ∧ (t.watch r).sent = false ∧
      t.eq.disarm = s.eq.disarm ++ (if s.rdN (Obj.watchState r) = 3 ∧ (s.watch r).sent = true then [r.val] else []) ∧
      t.eq.prearm = s.eq.prearm ∧
      t.core = { s.core with inFlight := s.core.inFlight ++ [⟨0x4057, 0x20A0 + 0x200 * r.val,
        min (2 ^ 32 - 1) (s.core.tick - (s.watch r).leftQuiet), s.core.tick, s.life⟩] } ∧
      KeepsRegs [Obj.watchState r] s t))




/-- The decoder and the receive frame (R219, R246, R250, R470). A core whose checker fails is withdrawn and reported, its converged
codeword delivered failed and counted; a group in FRAME without training for LOF_TICKS, or with its headers rejected, enters
LOST: its open client frames are discarded, its sub-carriers train anew (R194), FRAME_LOST is raised with the cause and a restart is asked for.
It rests on the model's own reading where the spec leaves it open: the choice of log entry 22.
Commands shown to complete with their own effect, under conditions on state and operands alone: decoderCheckerFailure, frameLost. -/
def Obligations.DecoderFailuresAndLossOfFrame : Prop :=
  (∀ (s : State) (core : Fin 52) (frame word : Nat) (d : DecFrame), s.offDom (domQuarter (core.val / 13)) = false →
    s.coreRetired core.val = false → 0x1100 + core.val ∉ s.integ.out → s.pool.job[frame]? = some d → word < d.out.length →
    lget 1 d.out word = 0 →
    Completes (.decoderCheckerFailure core frame word) s (fun t =>
      t.integ.out = s.integ.out ++ [0x1100 + core.val] ∧ 0x1100 + core.val ∈ t.integ.reported ∧
      t.pool.job[frame]? = some { d with out := lset d.out word 1 } ∧
      (∀ i, i ≠ frame → t.pool.job[i]? = s.pool.job[i]?) ∧
      t.rdN Obj.failed = (s.rdN Obj.failed + 1) % 2 ^ 64 ∧
      t.rdN (Obj.failedCodewords d.f.r d.f.g) = (s.rdN (Obj.failedCodewords d.f.r d.f.g) + 1) % 2 ^ 64 ∧
      KeepsRegs [Obj.failed, Obj.failedCodewords d.f.r d.f.g] s t)) ∧
  (∀ (s : State) (core : Fin 52) (frame word : Nat), s.offDom (domQuarter (core.val / 13)) = false →
    s.coreRetired core.val = false → 0x1100 + core.val ∉ s.integ.out → s.pool.job[frame]? = none →
    Completes (.decoderCheckerFailure core frame word) s (fun t =>
      t.integ.out = s.integ.out ++ [0x1100 + core.val] ∧ 0x1100 + core.val ∈ t.integ.reported ∧ t.pool = s.pool ∧
      KeepsRegs [Obj.failed] s t ∧ t.core = s.core)) ∧
  (∀ (s : State) (r : Fin 4) (g : Fin 8) (c : Nat), s.lostCause r g = some c → (∀ u, u < 4 → s.carrier u ≠ some r.val) →
    s.rdN (Obj.delayGroup r) ≠ g.val →
    Completes (.frameLost r g) s (fun t => t.rdN (Obj.rxFrameState r g) = 3 ∧
      t.rdN (Obj.lofEvents r g) = (s.rdN (Obj.lofEvents r g) + 1) % 2 ^ 64 ∧
      (∀ p ∈ t.frame.openFrames, p.2.rg ≠ 8 * r.val + g.val) ∧
      (∀ p ∈ s.frame.openFrames, p.2.rg ≠ 8 * r.val + g.val → p ∈ t.frame.openFrames) ∧
      (t.frx r g).noTrain = 0 ∧ (t.frx r g).rejected = 0 ∧ (t.load r g).restart.isSome = true ∧
      t.core.inFlight = s.core.inFlight ++ [⟨0xC071, 0x2910 + 8 * r.val + g.val, c, s.core.tick, s.life⟩] ∧
      (∀ sc < 64, s.groupCovers r g sc = true → s.eqSc r sc ≠ 0 → t.eqSc r sc = 1) ∧
      (∀ sc < 64, s.groupCovers r g sc = false → t.eqSc r sc = s.eqSc r sc) ∧
      KeepsRegs ([Obj.rxFrameState r g, Obj.lofEvents r g, Obj.clientFramesDiscarded r g, Obj.trackLow r, Obj.trackHigh r,
        Obj.sopRatePeak r, Obj.dgdMean r, Obj.pdl r] ++ (List.range 64).flatMap (fun sc => [Obj.sopRate r sc, Obj.dgd r sc])) s t))

/-- Ports and their lanes (R257, R270; Table 10.1). A lane that is not off locks; the last lane of a DOWN port of a released group
starts its alignment; an aligned port is UP with PORT_UP and its width; 100 ms without alignment raise PORT_DOWN with cause 2 and
the lanes adapt again; remote fault takes UP to REMOTE_FAULT and back; a lane's loss (cause 0) or lost alignment (cause 1) takes an
UP port DOWN, sends remote fault and raises PORT_DOWN; local fault is noted. The recovered
clocks’ squelch follows.
It rests on the model's own reading where the spec leaves it open: the choice of log entry 43.
Commands shown to complete with their own effect, under conditions on state and operands alone: laneLocked, portUp, aligningTimeout,
remoteFaultRx, localFaultRx, portDown. -/
def Obligations.PortsAlignComeUpAndGoDown : Prop :=
  (∀ (s : State) (b : Fin 64) (p : Nat), s.rdN (Obj.berthLaneState b) ≠ 0 → s.portOf b = some p →
    s.rdN (Obj.berthPortState p) = 0 → s.isPort p = true → s.released (domBerth (p / 8)) = true →
    (∀ l ∈ s.portLanes p, l ≠ b.val → s.rdN (Obj.berthLaneState l) = 2) →
    Completes (.laneLocked b) s (fun t => t.rdN (Obj.berthLaneState b) = 2 ∧ t.rdN (Obj.berthPortState p) = 1 ∧
      (t.port p).alignAt = s.core.tick ∧ t.power = s.power ∧
      KeepsRegs [Obj.berthLaneState b, Obj.berthPortState p, Obj.synceSquelched b] s t)) ∧
  (∀ (s : State) (b : Fin 64), s.rdN (Obj.berthLaneState b) ≠ 0 → s.portOf b = none →
    Completes (.laneLocked b) s (fun t => t.rdN (Obj.berthLaneState b) = 2 ∧ t.berth = s.berth ∧
      KeepsRegs [Obj.berthLaneState b, Obj.synceSquelched b] s t)) ∧
  (∀ (s : State) (b : Fin 64), s.rdN (Obj.berthPortState b) = 1 → s.isPort b = true →
    Completes (.portUp b) s (fun t => t.rdN (Obj.berthPortState b) = 2 ∧ t.port b = { s.port b with remoteTx := false } ∧
      ⟨0x4080, 0x3000 + 16 * b.val, s.portWidth b, s.core.tick, s.life⟩ ∈ t.core.inFlight ∧
      KeepsRegs (Obj.berthPortState b :: (s.portLanes b).map Obj.synceSquelched) s t)) ∧
  (∀ (s : State) (b : Fin 64), s.rdN (Obj.berthPortState b) = 1 → (s.port b).alignAt + 10000 ≤ s.core.tick →
    Completes (.aligningTimeout b) s (fun t => t.rdN (Obj.berthPortState b) = 0 ∧
      (∀ l ∈ s.portLanes b, t.rdN (Obj.berthLaneState l) = 1) ∧ t.berth = s.berth ∧
      ⟨0xC081, 0x3000 + 16 * b.val, 2, s.core.tick, s.life⟩ ∈ t.core.inFlight ∧
      KeepsRegs (Obj.berthPortState b :: (s.portLanes b).map Obj.synceSquelched ++ (s.portLanes b).map Obj.berthLaneState) s t)) ∧
  (∀ (s : State) (b : Fin 64) (on : Bool), s.rdN (Obj.berthPortState b) = (if on then 2 else 3) →
    Completes (.remoteFaultRx b on) s (fun t => t.rdN (Obj.berthPortState b) = (if on then 3 else 2) ∧ t.berth = s.berth ∧
      KeepsRegs (Obj.berthPortState b :: (s.portLanes b).map Obj.synceSquelched) s t)) ∧
  (∀ (s : State) (b : Fin 64) (on : Bool), s.isPort b = true →
    Completes (.localFaultRx b on) s (fun t => t.port b = { s.port b with localFault := on } ∧
      (∀ q, q ≠ b.val → t.port q = s.port q) ∧ KeepsRegs ((s.portLanes b).map Obj.synceSquelched) s t)) ∧
  (∀ (s : State) (b l : Fin 64), l.val ∈ s.portLanes b → s.rdN (Obj.berthLaneState l) = 2 →
    (s.rdN (Obj.berthPortState b) = 2 ∨ s.rdN (Obj.berthPortState b) = 3) →
    Completes (.portDown b (some l)) s (fun t => t.rdN (Obj.berthPortState b) = 0 ∧ t.rdN (Obj.berthLaneState l) = 1 ∧
      t.port b = { s.port b with remoteTx := true } ∧
      ⟨0xC081, 0x3000 + 16 * b.val, 0, s.core.tick, s.life⟩ ∈ t.core.inFlight ∧
      KeepsRegs (Obj.berthPortState b :: Obj.berthLaneState l :: (s.portLanes b).map Obj.synceSquelched) s t)) ∧
  (∀ (s : State) (b : Fin 64), s.isPort b = true → (s.rdN (Obj.berthPortState b) = 2 ∨ s.rdN (Obj.berthPortState b) = 3) →
    Completes (.portDown b none) s (fun t => t.rdN (Obj.berthPortState b) = 0 ∧
      t.port b = { s.port b with remoteTx := true } ∧
      ⟨0xC081, 0x3000 + 16 * b.val, 1, s.core.tick, s.life⟩ ∈ t.core.inFlight ∧
      KeepsRegs (Obj.berthPortState b :: (s.portLanes b).map Obj.synceSquelched) s t))

/-- Priority flow control (R262 to R266; Table 10.2). A received frame restarts the time of each enabled priority in its vector, or
releases it; a time that runs out releases it; PAUSED_TX follows the demands of the sources on the enabled priorities, and its
change sends a frame with PFC_QUANTA for the paused priorities and 0 for the released; while a priority stays paused the frame is
sent again after half its time.
It rests on the model's own reading where the spec leaves it open: the choice of log entry 24.
Commands shown to complete with their own effect, under conditions on state and operands alone: pfcFrameRx, pfcRxPauseExpiry,
pauseSourceChange, pfcRefresh. -/
def Obligations.PriorityFlowControlPausesAndReleases : Prop :=
  (∀ (s : State) (b : Fin 64) (vec phase : Nat) (times : List Nat), s.isPort b = true →
    (s.rdN (Obj.berthPortState b) = 2 ∨ s.rdN (Obj.berthPortState b) = 3) →
    Completes (.pfcFrameRx b vec times phase) s (fun t =>
      (∀ p, p < 8 → bitOf vec p = true → bitOf (s.rdN (Obj.pfcRxEnable b)) p = true →
        (bitOf (t.rdN (Obj.pausedRx b)) p = true ↔ times.getD p 0 % 65536 ≠ 0) ∧
        (times.getD p 0 % 65536 ≠ 0 →
          (p, s.at phase + times.getD p 0 % 65536 * s.quantum b) ∈ (t.port b).rxUntil)) ∧
      (∀ p, p < 8 → (bitOf vec p = false ∨ bitOf (s.rdN (Obj.pfcRxEnable b)) p = false) →
        bitOf (t.rdN (Obj.pausedRx b)) p = bitOf (s.rdN (Obj.pausedRx b)) p) ∧
      t.rdN (Obj.pfcReceived b) = (s.rdN (Obj.pfcReceived b) + 1) % 2 ^ 64 ∧
      t = { s with regs := t.regs, berth := { s.berth with ports := t.berth.ports } } ∧ (∀ q, q ≠ b.val → t.port q = s.port q) ∧
      KeepsRegs [Obj.pausedRx b, Obj.pfcReceived b] s t)) ∧
  (∀ (s : State) (b : Fin 64) (p : Fin 8) (phase until_ : Nat), (s.port b).rxUntil.find? (fun e => e.1 == p.val) = some (p.val, until_) →
    until_ ≤ s.at phase →
    Completes (.pfcRxPauseExpiry b p phase) s (fun t => bitOf (t.rdN (Obj.pausedRx b)) p = false ∧
      (t.port b).rxUntil = (s.port b).rxUntil.filter (fun e => e.1 != p.val) ∧
      t = { s with regs := t.regs, berth := { s.berth with ports := t.berth.ports } } ∧ KeepsRegs [Obj.pausedRx b] s t)) ∧
  (∀ (s : State) (b : Fin 64) (phase paused : Nat), s.isPort b = true →
    paused = maskOf 8 (fun p => bitOf (s.demanded b) p && bitOf (s.rdN (Obj.pfcTxEnable b)) p) → paused ≠ s.rdN (Obj.pausedTx b) →
    Completes (.pauseSourceChange b phase) s (fun t => t.rdN (Obj.pausedTx b) = paused ∧
      t.rdN (Obj.pauseSources b) = maskOf 5 (fun i => (s.demands b).getD i 0 != 0) ∧
      (t.port b).pfcAt = s.at phase ∧
      (∀ p, p < 8 → bitOf paused p = true → (p, s.rdN (Obj.pfcQuanta b)) ∈ (t.port b).pfcSent) ∧
      (∀ p, p < 8 → bitOf paused p = false → bitOf (s.rdN (Obj.pausedTx b)) p = true → (p, 0) ∈ (t.port b).pfcSent) ∧
      (∀ p, p < 8 → bitOf paused p = true → bitOf (s.rdN (Obj.pausedTx b)) p = false → (p, s.at phase) ∈ (t.port b).pausedAt) ∧
      t.rdN (Obj.pfcSent b) = (s.rdN (Obj.pfcSent b) + 1) % 2 ^ 64 ∧
      t = { s with regs := t.regs, berth := { s.berth with ports := t.berth.ports } } ∧
      KeepsRegs [Obj.pausedTx b, Obj.pauseSources b, Obj.pfcSent b] s t)) ∧
  (∀ (s : State) (b : Fin 64) (phase : Nat), s.isPort b = true →
    s.rdN (Obj.pausedTx b) = maskOf 8 (fun p => bitOf (s.demanded b) p && bitOf (s.rdN (Obj.pfcTxEnable b)) p) →
    Completes (.pauseSourceChange b phase) s (fun t => t = { s with regs := t.regs } ∧
      t.rdN (Obj.pauseSources b) = maskOf 5 (fun i => (s.demands b).getD i 0 != 0) ∧ KeepsRegs [Obj.pauseSources b] s t)) ∧
  (∀ (s : State) (b : Fin 64) (phase : Nat), s.rdN (Obj.pausedTx b) ≠ 0 →
    2 * (s.port b).pfcAt + s.rdN (Obj.pfcQuanta b) * s.quantum b ≤ 2 * s.at phase →
    Completes (.pfcRefresh b phase) s (fun t => (t.port b).pfcAt = s.at phase ∧
      (∀ p, p < 8 → bitOf (s.rdN (Obj.pausedTx b)) p = true → (p, s.rdN (Obj.pfcQuanta b)) ∈ (t.port b).pfcSent) ∧
      t.rdN (Obj.pfcSent b) = (s.rdN (Obj.pfcSent b) + 1) % 2 ^ 64 ∧
      t = { s with regs := t.regs, berth := { s.berth with ports := t.berth.ports } } ∧ KeepsRegs [Obj.pfcSent b] s t))

/-- Client frames (R245, R255, R256, R259, R260, R281). A PFC frame is none of the client's; a PAUSE frame and a runt count as bad;
a frame that finds no room in the ingress buffer is dropped, counted as late too
where it ignores a pause (R266); one that no enabled flow takes counts as unclassified; one of a prompt
or standard flow is cut into cells at the end of that flow's queue, 236 bytes each, which are discarded and counted at once while its
group is in outage (R277); one of a durable flow is numbered and held in the
basin. Frames are counted, bad ones too, and a frame longer than MAX_FRAME is bad and cut short.
Commands shown to complete with their own effect, under conditions on state and operands alone: clientFrameRx. -/
def Obligations.ClientFramesAreClassifiedAndCut : Prop :=
  (∀ (s : State) (b : Fin 64) (f : List Byte) (e : Bool) (ph dr : Nat), s.isPort b = true → s.portUp b = true →
    macControl f 0x0101 = true → NoEffect (.clientFrameRx b f e ph dr) s) ∧
  (∀ (s : State) (b : Fin 64) (f : List Byte) (e : Bool) (ph dr : Nat), s.isPort b = true → s.portUp b = true →
    macControl f 0x0101 = false → (macControl f 1 = true ∨ f.length < 64) →
    Completes (.clientFrameRx b f e ph dr) s (fun t => t = { s with regs := t.regs } ∧
      t.rdN (Obj.badFramesRx b) = (s.rdN (Obj.badFramesRx b) + 1) % 2 ^ 64 ∧ KeepsRegs [Obj.badFramesRx b] s t)) ∧
  (∀ (s : State) (b : Fin 64) (f : List Byte) (e : Bool) (ph dr : Nat), s.isPort b = true → s.portUp b = true →
    macControl f 0x0101 = false → macControl f 1 = false → 64 ≤ f.length →
    s.bufferBytes b < (s.port b).ingress - dr + s.rdN (Obj.maxFrame b) →
    (let p := s.priorityOf b (f.take (s.rdN (Obj.maxFrame b)))
     bitOf (s.rdN (Obj.pausedTx b)) p = false ∧ bitOf (s.rdN (Obj.pfcTxEnable b)) p = true) →
    Completes (.clientFrameRx b f e ph dr) s (fun t => t.basin = s.basin ∧ t.core = s.core ∧
      t.rdN (Obj.framesRx b) = (s.rdN (Obj.framesRx b) + 1) % 2 ^ 64 ∧
      t.rdN (Obj.ingressDrops b) = (s.rdN (Obj.ingressDrops b) + 1) % 2 ^ 64 ∧
      (t.port b).ingress = (s.port b).ingress - dr ∧
      KeepsRegs [Obj.framesRx b, Obj.ingressDrops b, Obj.badFramesRx b] s t)) ∧
  (∀ (s : State) (b : Fin 64) (f : List Byte) (e : Bool) (ph dr : Nat), s.isPort b = true → s.portUp b = true →
    macControl f 0x0101 = false → macControl f 1 = false → 64 ≤ f.length →
    s.bufferBytes b < (s.port b).ingress - dr + s.rdN (Obj.maxFrame b) →
    (let p := s.priorityOf b (f.take (s.rdN (Obj.maxFrame b)))
     bitOf (s.rdN (Obj.pausedTx b)) p = true ∧ s.ignoresPause b p ph = true) →
    Completes (.clientFrameRx b f e ph dr) s (fun t => t.basin = s.basin ∧
      t.rdN (Obj.pfcIgnored b) = (s.rdN (Obj.pfcIgnored b) + 1) % 2 ^ 64 ∧
      t.rdN (Obj.framesRx b) = (s.rdN (Obj.framesRx b) + 1) % 2 ^ 64 ∧
      t.rdN (Obj.ingressDrops b) = (s.rdN (Obj.ingressDrops b) + 1) % 2 ^ 64 ∧
      KeepsRegs [Obj.framesRx b, Obj.pfcIgnored b, Obj.ingressDrops b, Obj.badFramesRx b] s t)) ∧
  (∀ (s : State) (b : Fin 64) (f : List Byte) (e : Bool) (ph dr : Nat), s.isPort b = true → s.portUp b = true →
    macControl f 0x0101 = false → macControl f 1 = false → 64 ≤ f.length →
    (s.port b).ingress - dr + s.rdN (Obj.maxFrame b) ≤ s.bufferBytes b → s.rdN (Obj.frameTrap b) = 0 →
    (let g := f.take (s.rdN (Obj.maxFrame b))
     bitOf (s.rdN (Obj.pausedTx b)) (s.priorityOf b g) = false ∧ bitOf (s.rdN (Obj.pfcTxEnable b)) (s.priorityOf b g) = true ∧
     (4096 ≤ s.classify b g ∨ entryOn (s.entry (s.classify b g)) = false)) →
    Completes (.clientFrameRx b f e ph dr) s (fun t => t.basin = s.basin ∧
      t.rdN (Obj.unclassified b) = (s.rdN (Obj.unclassified b) + 1) % 2 ^ 64 ∧
      t.rdN (Obj.framesRx b) = (s.rdN (Obj.framesRx b) + 1) % 2 ^ 64 ∧
      KeepsRegs [Obj.framesRx b, Obj.unclassified b, Obj.badFramesRx b] s t)) ∧
  (∀ (s : State) (b : Fin 64) (f : List Byte) (e : Bool) (ph dr fl : Nat), s.isPort b = true → s.portUp b = true →
    macControl f 0x0101 = false → macControl f 1 = false → 64 ≤ f.length →
    (s.port b).ingress - dr + s.rdN (Obj.maxFrame b) ≤ s.bufferBytes b → s.rdN (Obj.frameTrap b) = 0 →
    (let g := f.take (s.rdN (Obj.maxFrame b))
     bitOf (s.rdN (Obj.pausedTx b)) (s.priorityOf b g) = false ∧ bitOf (s.rdN (Obj.pfcTxEnable b)) (s.priorityOf b g) = true ∧
     s.classify b g = fl) →
    fl < 4096 → entryOn (s.entry fl) = true → entryKind (s.entry fl) < 2 → s.integ.flowBad.contains fl = false →
    s.outage (s.flowGroup fl) = false →
    Completes (.clientFrameRx b f e ph dr) s (fun t =>
      (let g := f.take (s.rdN (Obj.maxFrame b))
       let bad := e || !fcsOk f || decide (s.rdN (Obj.maxFrame b) < f.length)
       (t.flow fl).queue = (s.flow fl).queue ++
         (clientCells fl (if entryKind (s.entry fl) = 0 then 1 else 2) bad g).map (fun c => ⟨c, s.core.tick⟩) ∧
       t.rdN (Obj.badFramesRx b) = (if bad then (s.rdN (Obj.badFramesRx b) + 1) % 2 ^ 64 else s.rdN (Obj.badFramesRx b)) ∧
       (t.port b).ingress = (s.port b).ingress - dr + g.length) ∧
      (∀ k, k ≠ fl → t.flow k = s.flow k) ∧ t.core = s.core ∧
      t.rdN (Obj.framesRx b) = (s.rdN (Obj.framesRx b) + 1) % 2 ^ 64 ∧
      KeepsRegs [Obj.framesRx b, Obj.badFramesRx b] s t)) ∧
  (∀ (s : State) (b : Fin 64) (f : List Byte) (e : Bool) (ph dr fl : Nat), s.isPort b = true → s.portUp b = true →
    macControl f 0x0101 = false → macControl f 1 = false → 64 ≤ f.length →
    (s.port b).ingress - dr + s.rdN (Obj.maxFrame b) ≤ s.bufferBytes b → s.rdN (Obj.frameTrap b) = 0 →
    (let g := f.take (s.rdN (Obj.maxFrame b))
     bitOf (s.rdN (Obj.pausedTx b)) (s.priorityOf b g) = false ∧ bitOf (s.rdN (Obj.pfcTxEnable b)) (s.priorityOf b g) = true ∧
     s.classify b g = fl) →
    fl < 4096 → entryOn (s.entry fl) = true → entryKind (s.entry fl) < 2 → s.integ.flowBad.contains fl = false →
    s.outage (s.flowGroup fl) = true →
    Completes (.clientFrameRx b f e ph dr) s (fun t =>
      (let g := f.take (s.rdN (Obj.maxFrame b))
       let bad := e || !fcsOk f || decide (s.rdN (Obj.maxFrame b) < f.length)
       let n := (clientCells fl (if entryKind (s.entry fl) = 0 then 1 else 2) bad g).length
       let key := if entryKind (s.entry fl) = 0 then Obj.promptDiscards else Obj.standardDrops
       t.rdN key = (s.rdN key + n) % 2 ^ 64 ∧ t.basin = s.basin ∧ t.core = s.core ∧
       KeepsRegs [Obj.framesRx b, Obj.badFramesRx b, key] s t))) ∧
  (∀ (s : State) (b : Fin 64) (f : List Byte) (e : Bool) (ph dr fl k : Nat) (pg : Page), s.isPort b = true → s.portUp b = true →
    macControl f 0x0101 = false → macControl f 1 = false → 64 ≤ f.length → f.length ≤ 228 → f.length ≤ s.rdN (Obj.maxFrame b) →
    (s.port b).ingress - dr + s.rdN (Obj.maxFrame b) ≤ s.bufferBytes b → s.rdN (Obj.frameTrap b) = 0 →
    bitOf (s.rdN (Obj.pausedTx b)) (s.priorityOf b f) = false → bitOf (s.rdN (Obj.pfcTxEnable b)) (s.priorityOf b f) = true →
    s.classify b f = fl → fl < 4096 → entryOn (s.entry fl) = true → entryKind (s.entry fl) = 2 →
    s.integ.flowBad.contains fl = false → s.basin.accepted = true → (s.flow fl).state ≠ 0 → s.openPage fl false = some (k, pg) →
    Completes (.clientFrameRx b f e ph dr) s (fun t =>
      (t.flow fl).next = ((s.flow fl).next + 1) % 2 ^ 48 ∧ (t.flow fl).lastSeq = (s.flow fl).next ∧
      (∃ h, (t.flow fl).held = (s.flow fl).held ++ [h] ∧ h.seq = (s.flow fl).next ∧ h.times = 0 ∧ h.lost = false ∧
        (t.slot h.slot).st = 1 ∧ (t.slot h.slot).cell.body = f ∧ (t.slot h.slot).cell.seq = (s.flow fl).next ∧
        (t.slot h.slot).cell.epoch = (s.flow fl).epoch) ∧
      (∀ j, j ≠ fl → t.flow j = s.flow j)))

/-- Frames that leave a port (R259, R267, R269). The oldest egress frame of a priority leaves while the port is UP, the priority is
not paused by the client and no injected frame waits; an injected frame leaves at the next gap with its FCS, ahead of all others.
Commands shown to complete with their own effect, under conditions on state and operands alone: egressFrameTx, injectedFrameSend. -/
def Obligations.EgressAndInjectedFramesLeaveInOrder : Prop :=
  (∀ (s : State) (b : Fin 64) (p : Fin 8) (q : Nat × List Byte), s.portUp b = true → bitOf (s.rdN (Obj.pausedRx b)) p = false →
    (s.port b).inject = [] → (s.port b).egress.find? (fun e => e.1 == p.val) = some q →
    Completes (.egressFrameTx b p) s (fun t =>
      t.port b = { s.port b with egress := (s.port b).egress.erase q, sent := q.2 } ∧
      (∀ c, c ≠ b.val → t.port c = s.port c) ∧ t.rdN (Obj.framesTx b) = (s.rdN (Obj.framesTx b) + 1) % 2 ^ 64 ∧
      t = { s with regs := t.regs, berth := { s.berth with ports := t.berth.ports } } ∧ KeepsRegs [Obj.framesTx b] s t)) ∧
  (∀ (s : State) (b : Fin 64) (phase : Nat) (j : Injected) (rest : List Injected), s.isPort b = true → s.portUp b = true →
    (s.port b).inject = j :: rest → j.mode = 0 →
    Completes (.injectedFrameSend b phase) s (fun t =>
      t = { s with berth := { s.berth with ports := t.berth.ports } } ∧
      t.port b = { s.port b with inject := rest, sent := j.bytes ++ leBytes 4 (crc32 j.bytes) } ∧
      (∀ c, c ≠ b.val → t.port c = s.port c))) ∧
  (∀ (s : State) (b : Fin 64) (phase : Nat) (j : Injected) (rest : List Injected), s.isPort b = true → s.portUp b = true →
    (s.port b).inject = j :: rest → j.mode = 1 → s.ringFill 3 ≠ ringCapacity 3 →
    Completes (.injectedFrameSend b phase) s (fun t =>
      t.port b = { s.port b with inject := rest, sent := j.bytes ++ leBytes 4 (crc32 j.bytes) } ∧
      t.bar (ringHeadOff 3) = (s.bar (ringHeadOff 3) + 1) % 2 ^ 32 ∧ t.regs = s.regs ∧ t.core = s.core)) ∧
  (∀ (s : State) (b : Fin 64) (phase : Nat) (j : Injected) (rest : List Injected), s.isPort b = true → s.portUp b = true →
    (s.port b).inject = j :: rest → j.mode = 2 →
    Completes (.injectedFrameSend b phase) s (fun t => (t.port b).inject = rest ∧
      t = { s with berth := { s.berth with ports := t.berth.ports } } ∧ (s.timing.tod = none →
        (t.port b).sent = j.bytes ++ leBytes 4 (crc32 j.bytes))))

/-- Durable flows and the basin's links (R285, R287, R288, R290, R292, R294). A held cell at N goes over when the egress admits it,
and stays held when it does not; a cell sent longer ago than ACK_RTT and RETX_GUARD becomes due, and one that cannot be read is
void; a drain, which awaits frame, makes every held cell due and starts record 0x1187 when it is the first; an UP port that loses its link fails with
cause 0, or 1 at a fatal event, and its pages and slots are gone.
It rests on the model's own reading where the spec leaves it open: the choices of log entries 26 and 27.
Commands shown to complete with their own effect, under conditions on state and operands alone: heldCellHandover, retxTimeout,
drainStart, basinLinkLost. -/
def Obligations.DurableFlowsHandOverRetransmitAndDrain : Prop :=
  (∀ (s : State) (f : Fin 4096) (h : Held), (s.flow f).rxHeld = [h] → h.seq = (s.flow f).rn →
    s.portServes (slotPort h.slot) = true → (s.slot h.slot).st ≠ 3 → (s.slot h.slot).cell.flow = f.val →
    (s.slot h.slot).cell.seq = h.seq → (s.slot h.slot).cell.kind = 3 → s.mayHandOver (s.slot h.slot).cell = true →
    Completes (.heldCellHandover f []) s (fun t =>
      (t.flow f).rn = (h.seq + 1) % 2 ^ 48 ∧ (t.flow f).rxHeld = [] ∧ (t.flow f).next = (s.flow f).next ∧
      (t.flow f).held = (s.flow f).held)) ∧
  (∀ (s : State) (f : Fin 4096), (∀ h ∈ (s.flow f).rxHeld, (s.slot h.slot).st ≠ 3 ∧
      (h.seq = (s.flow f).rn → s.mayHandOver (s.slot h.slot).cell = false)) →
    Completes (.heldCellHandover f []) s (fun t => t.flow f = s.flow f ∧ t.basin.slots = s.basin.slots ∧ t.berth = s.berth)) ∧
  (∀ (s : State) (f : Fin 4096), ((s.flow f).state = 1 ∨ (s.flow f).state = 3) → (∀ h ∈ (s.flow f).held, (s.slot h.slot).st ≠ 3) →
    Completes (.retxTimeout f []) s (fun t => t = { s with basin := { s.basin with flows := t.basin.flows } } ∧
      t.flow f = { s.flow f with held := (s.flow f).held.map (fun h =>
        if 0 < h.times ∧ h.sent + (s.rttOf f + s.rdN Obj.retxGuard) ≤ s.core.tick then { h with due := true } else h) } ∧
      (∀ k, k ≠ f.val → t.flow k = s.flow k))) ∧
  (∀ (s : State) (f : Fin 4096) (h : Held) (bytes : List (Nat × Byte)), ((s.flow f).state = 1 ∨ (s.flow f).state = 3) → (s.flow f).held = [h] →
    0 < h.times → h.sent + (s.rttOf f + s.rdN Obj.retxGuard) ≤ s.core.tick → h.lost = false → (s.slot h.slot).st = 1 →
    ((s.slot h.slot).read bytes).bad = true →
    Completes (.retxTimeout f [(h.seq, bytes)]) s (fun t => (t.flow f).held = [{ h with due := true, lost := true }] ∧
      (t.flow f).basinLost = (s.flow f).basinLost + 1 ∧
      t.rdN (Obj.poisonedSlots (slotPort h.slot)) = (s.rdN (Obj.poisonedSlots (slotPort h.slot)) + 1) % 2 ^ 64)) ∧
  (∀ (s : State) (f : Fin 4096) (u : Nat), s.unitOfFlow f = some u → (s.flow f).state = 2 → (s.flow f).reconcile ≠ 0 →
    s.uState u ≠ 5 → s.inFrame (s.flowGroup f / 8) (s.flowGroup f % 8) = true →
    ((s.flow f).entered = true ∨ (s.flow f).reconcile - 1 + s.rdN (Obj.reconcileTicks u) ≤ s.core.tick) →
    Completes (.drainStart f) s (fun t => (t.flow f).state = 3 ∧ (t.flow f).reconcile = 0 ∧
      (t.flow f).held = (s.flow f).held.map (fun h => { h with due := true }) ∧
      (t.flow f).drain = (s.flow f).held.map (·.seq) ∧ (∀ k, k ≠ f.val → t.flow k = s.flow k) ∧
      ((∀ k ∈ s.unitFlows u, (s.flow k).state ≠ 3) → s.opRunning 7 = false →
        t.opRunning 7 = true ∧ t.rdN Obj.drainRecordUnit = u))) ∧
  (∀ (s : State) (p : Fin 8) (fatal : Bool), s.rdN (Obj.basinPortState p) = 3 →
    Completes (.basinLinkLost p fatal) s (fun t => t.rdN (Obj.basinPortState p) = 5 ∧
      t.rdN (Obj.linkDowns p) = (if fatal then s.rdN (Obj.linkDowns p) else (s.rdN (Obj.linkDowns p) + 1) % 2 ^ 64) ∧
      ⟨0xC096, 0x3520 + p.val, if fatal then 1 else 0, s.core.tick, s.life⟩ ∈ t.core.inFlight ∧
      (∀ q ∈ t.basin.pages, q.1 / pageBase ≠ p.val) ∧ (∀ q ∈ t.basin.slots, slotPort q.1 ≠ p.val) ∧
      t.agent = s.agent ∧ t.berth = s.berth))

/-- Restoration of a unit (R307 to R315, R319; Tables 12.2 to 12.4). The sequencer decides on a triggered restoration in the tick
before its boundary S; boundary S carries it out, the path switch in step 5 and the rest in step 8: a REACH unit takes its other side, its failed side sends withdrawn frames for WITHDRAW_TICKS; a PATH unit takes its other path with its gain control re-armed,
but one cut by a fault has no path and is in DOUBLE_FAULT at once; a MATED unit withdraws and freezes its flows; every start notes its boundary, counts and raises RESTORATION_STARTED. Each withdrawal ends on its time. With frame and
a report on every affected group the unit is RESTORED; RESTORE_LIMIT ticks without that are a DOUBLE_FAULT. A retry of the other
path of a released reach, a revert and the return of the durable flows are planned in the tick before their boundary and made there; a revert only while
the working side is still good.
It rests on the model's own reading where the spec leaves it open: the choices of log entries 15, 17 and 57.
Commands shown to complete with their own effect, under conditions on state and operands alone: restorationStart, withdrawEnd,
restored, restoreLimitExpiry, doubleFaultPathRetry, waitToRestoreExpiry. -/
def Obligations.RestorationStartsEndsAndTimesOut : Prop :=
  (∀ (s : State) (u : Fin 4) (cause start : Nat), (s.unit u).trigger = some (cause, start) →
    (s.uState u = 1 ∨ s.uState u = 2 ∨ s.uState u = 4) → s.uMode u ≠ 0 →
    Completes (.restorationStart u) s (fun t => t = { s with rest := t.rest } ∧
      t.unit u = { s.unit u with trigger := some (cause, s.core.tick + 1), decided := true } ∧
      (∀ k, k ≠ u.val → t.unit k = s.unit k) ∧ ({ t with core.tick := s.core.tick + 1 } : State).restStarts u = some cause)) ∧
  (∀ (s : State) (u : Fin 4) (cause : Nat), s.restStarts u = some cause → cause ≠ 1 → s.uMode u = 1 →
    s.rdN (Obj.workingReach u) < 4 →
    let t := s.restSwitch u
    t.rdN (Obj.pathInUse u) = 1 - s.rdN (Obj.pathInUse u) ∧ t.uState u = s.uState u ∧ t.unit u = s.unit u ∧
      (cause ≠ 0 → ∀ g ∈ s.enabledGroups (s.rdN (Obj.workingReach u)),
        (t.load (s.rdN (Obj.workingReach u)) g).restart = some (2, s.core.tick)) ∧
      ⟨0x4031, 0x2020 + 0x200 * s.rdN (Obj.workingReach u), 1, s.core.tick, s.life⟩ ∈ t.core.inFlight) ∧
  (∀ (s : State) (u : Fin 4), s.restStarts u = some 1 → s.restSwitch u = s) ∧
  (∀ (s : State) (u : Fin 4) (cause : Nat), s.uMode u = 2 → (s.unit u).side < 2 →
    let t := s.restoreStart u cause
    t.uState u = 3 ∧ (t.unit u).trigger = none ∧ (t.unit u).start = s.core.tick ∧ (t.unit u).limitFrom = s.core.tick ∧
      (t.unit u).side = 1 - (s.unit u).side ∧ t.rdN (Obj.durableSide u) = 1 - (s.unit u).side ∧
      (t.unit u).failed = s.sideReach u (s.unit u).side ∧
      (t.unit u).affected = s.enabledGroups (s.sideReach u (s.unit u).side) ∧
      ⟨s.sideReach u (s.unit u).side, s.core.tick + s.rdN (Obj.withdrawTicks u),
        s.enabledGroups (s.sideReach u (s.unit u).side)⟩ ∈ (t.unit u).withdraw ∧
      (∀ w ∈ (s.unit u).withdraw, w.reach ≠ s.sideReach u (s.unit u).side → w ∈ (t.unit u).withdraw) ∧
      t.rdN (Obj.restoreStartTick u) = s.core.tick ∧
      t.rdN (Obj.restorations u) = (s.rdN (Obj.restorations u) + 1) % 2 ^ 64 ∧
      (s.rdN (Obj.durableSide u) = (s.unit u).side → ∀ f ∈ s.unitFlows u, (t.flow f).state ≠ 1) ∧
      ⟨0xC0A0, 0x3590 + u.val, 256 * cause + (1 - (s.unit u).side), s.core.tick, s.life⟩ ∈ t.core.inFlight) ∧
  (∀ (s : State) (u : Fin 4) (cause : Nat), s.uMode u = 1 →
    let t := s.restoreStart u cause
    t.uState u = (if cause = 1 then 5 else 3) ∧ (t.unit u).trigger = none ∧ (t.unit u).start = s.core.tick ∧
      (t.unit u).limitFrom = s.core.tick ∧ t.rdN (Obj.pathInUse u) = s.rdN (Obj.pathInUse u) ∧
      (∀ f ∈ s.reachFlows (s.rdN (Obj.workingReach u)), (t.flow f).state ≠ 1) ∧
      ⟨0xC0A0, 0x3590 + u.val, 256 * cause + s.rdN (Obj.pathInUse u), s.core.tick, s.life⟩ ∈ t.core.inFlight ∧
      (cause = 1 → ⟨0xC0A2, 0x3590 + u.val, 0, s.core.tick, s.life⟩ ∈ t.core.inFlight)) ∧
  (∀ (s : State) (u : Fin 4) (cause : Nat), s.uMode u = 3 →
    let t := s.restoreStart u cause
    t.uState u = 3 ∧ (t.unit u).trigger = none ∧ (t.unit u).start = s.core.tick ∧
      ⟨s.rdN (Obj.workingReach u), s.core.tick + s.rdN (Obj.withdrawTicks u),
        s.enabledGroups (s.rdN (Obj.workingReach u))⟩ ∈ (t.unit u).withdraw ∧
      (∀ f ∈ s.matedFlows u, (t.flow f).state ≠ 1) ∧
      ⟨0xC0A0, 0x3590 + u.val, 256 * cause + 1, s.core.tick, s.life⟩ ∈ t.core.inFlight) ∧
  (∀ (s : State) (u : Fin 4) (w : Withdrawal), w ∈ (s.unit u).withdraw → w.until_ ≤ s.core.tick →
    Completes (.withdrawEnd u) s (fun t => t.uState u = s.uState u ∧ t.core = s.core ∧
      (t.unit u).withdraw = (s.unit u).withdraw.filter (fun v => decide (s.core.tick < v.until_)) ∧
      (∀ v ∈ (s.unit u).withdraw, v.until_ ≤ s.core.tick → ∀ g ∈ s.enabledGroups v.reach,
        (t.load v.reach g).tx = none ∧ (t.load v.reach g).ann = none))) ∧
  (∀ (s : State) (u : Fin 4), (∀ w ∈ (s.unit u).withdraw, s.core.tick < w.until_) → NoEffect (.withdrawEnd u) s) ∧
  (∀ (s : State) (u : Fin 4), s.uState u = 3 → (s.uMode u = 1 ∨ s.uMode u = 2) → s.restoreMet u = true →
    Completes (.restored u) s (fun t =>
      t.uState u = (if s.uMode u = 2 ∧ (s.unit u).side = 1 then 4 else 1) ∧
      t.rdN (Obj.restoreTicks u) = s.core.tick - (s.unit u).start ∧
      t.core = { s.core with inFlight := s.core.inFlight ++
        [⟨0x40A1, 0x3590 + u.val, s.core.tick - (s.unit u).start, s.core.tick, s.life⟩] } ∧
      KeepsRegs [Obj.unitState u, Obj.restoreTicks u] s t)) ∧
  (∀ (s : State) (u : Fin 4), s.uState u = 3 → (s.unit u).limitFrom + s.rdN (Obj.restoreLimit u) ≤ s.core.tick →
    Completes (.restoreLimitExpiry u) s (fun t => t.uState u = 5 ∧ t.unit u = { s.unit u with limitFrom := s.core.tick } ∧
      t.core = { s.core with inFlight := s.core.inFlight ++ [⟨0xC0A2, 0x3590 + u.val, 0, s.core.tick, s.life⟩] } ∧
      t.basin = s.basin ∧ KeepsRegs [Obj.unitState u] s t)) ∧
  (∀ (s : State) (u : Fin 4), s.uState u = 5 → s.uMode u = 1 →
    s.released (domReach (s.rdN (Obj.workingReach u))) = true → (s.unit u).limitFrom + s.rdN (Obj.restoreLimit u) ≤ s.core.tick + 1 →
    Completes (.doubleFaultPathRetry u) s (fun t => t = { s with rest := t.rest } ∧
      t.unit u = { s.unit u with planned := some .otherPath } ∧ (∀ k, k ≠ u.val → t.unit k = s.unit k))) ∧
  (∀ (s : State) (u : Fin 4), s.uState u = 5 → s.uMode u = 1 → s.rdN (Obj.workingReach u) < 4 →
    (s.unit u).planned = some .otherPath →
    let t := s.restSwitch u
    t.uState u = 5 ∧ (t.unit u).limitFrom = s.core.tick ∧ (t.unit u).planned = none ∧
      t.rdN (Obj.pathInUse u) = 1 - s.rdN (Obj.pathInUse u) ∧
      ⟨0x4031, 0x2020 + 0x200 * s.rdN (Obj.workingReach u), 1, s.core.tick, s.life⟩ ∈ t.core.inFlight) ∧
  (∀ (s : State) (u : Fin 4) (from_ : Nat), s.rdB (Obj.unitRevertive u) = true → s.uState u = 4 →
    (s.unit u).goodSince = some from_ → from_ + s.rdN (Obj.waitToRestore u) ≤ s.core.tick + 1 →
    Completes (.waitToRestoreExpiry u) s (fun t => t = { s with rest := t.rest } ∧
      t.unit u = { s.unit u with planned := some (.all 0 1 true) } ∧ (∀ k, k ≠ u.val → t.unit k = s.unit k))) ∧
  (∀ (s : State) (u : Fin 4) (at_ : Nat), s.rdB (Obj.unitRevertive u) = true → s.uState u = 2 →
    (s.unit u).disarmAt = some at_ → at_ + s.rdN (Obj.waitToRestore u) ≤ s.core.tick + 1 →
    Completes (.waitToRestoreExpiry u) s (fun t => t = { s with rest := t.rest } ∧
      t.unit u = { s.unit u with planned := some (.durable 0 1) } ∧ (∀ k, k ≠ u.val → t.unit k = s.unit k))) ∧
  (∀ (s : State) (u : Fin 4), s.uState u = 4 → (s.unit u).planned = some (.all 0 1 true) → (s.unit u).goodSince ≠ none →
    let t := s.planStep u
    t.uState u = 1 ∧ (t.unit u).side = 0 ∧ (t.unit u).planned = none ∧ t.rdN (Obj.durableSide u) = 0 ∧
      ⟨0x40A5, 0x3590 + u.val, min (s.core.tick - (s.unit u).since) 0xFFFFFFFF, s.core.tick, s.life⟩ ∈ t.core.inFlight ∧
      KeepsRegs [Obj.unitState u, Obj.durableSide u] s t) ∧
  (∀ (s : State) (u : Fin 4), s.uState u = 4 → (s.unit u).planned = some (.all 0 1 true) → (s.unit u).goodSince = none →
    let t := s.planStep u
    t = { s with rest := t.rest } ∧ t.unit u = { s.unit u with planned := none }) ∧
  (∀ (s : State) (u : Fin 4), s.uState u = 2 → (s.unit u).planned = some (.durable 0 1) →
    let t := s.planStep u
    t.uState u = 1 ∧ t.rdN (Obj.durableSide u) = 0 ∧ (t.unit u).disarmAt = none ∧ (t.unit u).side = (s.unit u).side ∧
      (s.rdN (Obj.durableSide u) ≠ 0 → ⟨0x40A4, 0x3590 + u.val, 0, s.core.tick, s.life⟩ ∈ t.core.inFlight) ∧
      KeepsRegs [Obj.unitState u, Obj.durableSide u] s t)

/-- Pre-arming (R316 to R318). A pre-arm signal with action 1 in REACH mode plans the move of the durable flows to a protect side
that has frame, and the next boundary makes it: PREMOVED, with DURABLE_MOVED; a unit restoring, in DOUBLE_FAULT or locked out ignores it and counts it; a disarm in PREMOVED
starts the wait to move back. A signal acts once.
It rests on the model's own reading where the spec leaves it open: the choice of log entry 57.
Commands shown to complete with their own effect, under conditions on state and operands alone: preArm, disarm. -/
def Obligations.PreArmMovesDurableFlows : Prop :=
  (∀ (s : State) (r u : Fin 4), r.val ∈ s.eq.prearm → s.unitsOf r = [u.val] → s.uState u = 1 → s.uMode u = 2 →
    s.rdN (Obj.workingReach u) = r.val → s.rdN (Obj.preArmAction u) = 1 → s.frameOn (s.protectOf u) (s.enabledGroups r) = true →
    s.armed (s.protectOf u) = false → s.rdN (Obj.durableSide u) = 0 →
    Completes (.preArm r) s (fun t => t.unit u = { s.unit u with planned := some (.durable 1 2) } ∧
      (∀ k, k ≠ u.val → t.unit k = s.unit k) ∧ t.eq.prearm = s.eq.prearm.erase r.val ∧ t.regs = s.regs ∧ t.core = s.core)) ∧
  (∀ (s : State) (u : Fin 4), s.uState u = 1 → (s.unit u).planned = some (.durable 1 2) → s.rdN (Obj.durableSide u) = 0 →
    let t := s.planStep u
    t.uState u = 2 ∧ t.rdN (Obj.durableSide u) = 1 ∧ (t.unit u).planned = none ∧ (t.unit u).side = (s.unit u).side ∧
      t.core = { s.core with inFlight := s.core.inFlight ++ [⟨0x40A4, 0x3590 + u.val, 1, s.core.tick, s.life⟩] } ∧
      KeepsRegs [Obj.unitState u, Obj.durableSide u] s t) ∧
  (∀ (s : State) (r u : Fin 4), r.val ∈ s.eq.prearm → s.unitsOf r = [u.val] →
    (s.uState u = 3 ∨ s.uState u = 5 ∨ s.uState u = 6) →
    Completes (.preArm r) s (fun t => t.rdN (Obj.prearmsIgnored) = (s.rdN (Obj.prearmsIgnored) + 1) % 2 ^ 64 ∧
      t.eq.prearm = s.eq.prearm.erase r.val ∧ t.rest = s.rest ∧
      t.core = { s.core with inFlight := s.core.inFlight ++ [⟨0x80A6, 0x3590 + u.val, 0, s.core.tick, s.life⟩] } ∧
      KeepsRegs [Obj.prearmsIgnored] s t)) ∧
  (∀ (s : State) (r u : Fin 4), r.val ∈ s.eq.disarm → s.unitsOf r = [u.val] → s.uState u = 2 →
    s.rdN (Obj.workingReach u) = r.val → s.rdB (Obj.unitRevertive u) = true →
    Completes (.disarm r) s (fun t => t.unit u = { s.unit u with disarmAt := some s.core.tick } ∧
      t.eq.disarm = s.eq.disarm.erase r.val ∧ t.regs = s.regs ∧ t.core = s.core)) ∧
  (∀ (s : State) (r u : Fin 4), r.val ∈ s.eq.disarm → s.unitsOf r = [u.val] → s.uState u = 2 →
    s.rdN (Obj.workingReach u) = r.val → s.rdB (Obj.unitRevertive u) = false →
    Completes (.disarm r) s (fun t => t.unit u = { s.unit u with planned := some (.all 1 4 false) } ∧
      t.eq.disarm = s.eq.disarm.erase r.val ∧ t.regs = s.regs ∧ t.core = s.core)) ∧
  (∀ (s : State) (u : Fin 4), s.uState u = 2 → (s.unit u).planned = some (.all 1 4 false) →
    let t := s.planStep u
    t.uState u = 4 ∧ (t.unit u).side = 1 ∧ (t.unit u).since = s.core.tick ∧ (t.unit u).disarmAt = none ∧
      t.rdN (Obj.durableSide u) = 1 ∧ KeepsRegs [Obj.unitState u, Obj.durableSide u] s t)

/-- The mate's messages (R322 to R325, R380, R382 to R384; Table 15.5). A new message of its type that comes over the lanes acts at the next boundary, and once: a HELLO shows the
mate's units; a notice with SWITCH set makes a standby that names the same two reaches active there; the last part of a mirror is
acknowledged; an acknowledgment opens the egress gate up to the N it covers; a TIME_RELAY names the input that
the mate follows. Each is the latest word from the mate, and makes it reachable in a mated device. A message that does not read is
counted and has no other effect; MATE_TIMEOUT ticks of silence make the mate unreachable, with MATE_UNREACHABLE.
It rests on the model's own reading where the spec leaves it open: the choices of log entries 54 and 55.
Commands shown to complete with their own effect, under conditions on state and operands alone: hello, restoreNotice, mirror,
mirrorAck, timeRelay, mateMessageError, mateUnreachable. -/
def Obligations.MateMessagesActOnce : Prop :=
  (∀ (s : State) (lane : Fin 8) (bs : List Byte) (m : MateMsg), s.laneState lane = 3 → mateRead bs = some m → m.type = 1 →
    m.seq ∉ s.towpath.seen →
    Completes (.hello lane bs) s (fun t => t.towpath.inbox = s.towpath.inbox ++ [m] ∧ t.rest.lastMate = s.core.tick ∧
      t.rest.matePeer = some m.peer ∧ t.rest.units = s.rest.units ∧
      m.seq ∈ t.towpath.seen ∧ (s.rdB Obj.mated = true → t.rd Obj.mateReachable = 1) ∧ KeepsRegs [Obj.mateReachable] s t ∧
      t.core = s.core)) ∧
  (∀ (s : State) (bs : List Byte) (m : MateMsg), s.lanesUp ≠ [] → mateRead bs = some m → m.type = 2 → m.seq ∉ s.towpath.seen →
    Completes (.restoreNotice bs) s (fun t => t.towpath.inbox = s.towpath.inbox ++ [m] ∧ t.rest.lastMate = s.core.tick ∧
      m.seq ∈ t.towpath.seen ∧ t.rest.units = s.rest.units ∧ KeepsRegs [Obj.mateReachable] s t ∧ t.core = s.core)) ∧
  (∀ (s : State) (bs : List Byte) (m : MateMsg), s.lanesUp ≠ [] → mateRead bs = some m → m.type = 4 → m.seq ∉ s.towpath.seen →
    Completes (.mirror bs) s (fun t => t.towpath.inbox = s.towpath.inbox ++ [m] ∧ t.rest.lastMate = s.core.tick ∧
      m.seq ∈ t.towpath.seen ∧ t.rest.units = s.rest.units ∧ KeepsRegs [Obj.mateReachable] s t ∧ t.core = s.core)) ∧
  (∀ (s : State) (bs : List Byte) (m : MateMsg), s.lanesUp ≠ [] → mateRead bs = some m → m.type = 5 → m.seq ∉ s.towpath.seen →
    Completes (.mirrorAck bs) s (fun t => t.towpath.inbox = s.towpath.inbox ++ [m] ∧ t.rest.lastMate = s.core.tick ∧
      m.seq ∈ t.towpath.seen ∧ t.rest.units = s.rest.units ∧ KeepsRegs [Obj.mateReachable] s t ∧ t.core = s.core)) ∧
  (∀ (s : State) (bs : List Byte) (m : MateMsg), s.lanesUp ≠ [] → mateRead bs = some m → m.type = 6 → m.seq ∉ s.towpath.seen →
    Completes (.timeRelay bs) s (fun t => t.towpath.inbox = s.towpath.inbox ++ [m] ∧ t.rest.lastMate = s.core.tick ∧
      m.seq ∈ t.towpath.seen ∧ t.rest.units = s.rest.units ∧ KeepsRegs [Obj.mateReachable] s t ∧ t.core = s.core)) ∧
  (∀ (s : State) (lane : Fin 8) (bs : List Byte) (m : MateMsg), s.laneState lane = 3 → mateRead bs = some m → m.type = 1 →
    m.seq ∈ s.towpath.seen → Completes (.hello lane bs) s (fun t => t.towpath.inbox = s.towpath.inbox)) ∧
  (∀ (s : State) (m : MateMsg), s.towpath.inbox = [m] → s.mateBoundary = ({ s with towpath.inbox := [] } : State).mateActs m) ∧
  (∀ (s : State) (m : MateMsg), m.type = 1 → (∀ u, u < 4 → s.uMode u ≠ 3) →
    let t := s.mateActs m
    (∀ u, u < 4 → (t.unit u).mateState = hdrField m.body (5 + u) 1) ∧ t = { s with rest := t.rest }) ∧
  (∀ (s : State) (m : MateMsg) (u : Fin 4), m.type = 2 → bitOf m.flags 1 = true → hdrField m.body 4 2 = 0 →
    s.uMode u = 3 → s.uState u = 7 → s.rdN (Obj.protectReach u) = hdrField m.body 1 1 →
    let t := s.mateActs m
    (t.unit u).switchAt = some (hdrField m.body 2 1, s.core.tick) ∧ t = { s with rest := t.rest }) ∧
  (∀ (s : State) (u : Fin 4) (cause at_ : Nat), (s.unit u).switchAt = some (cause, at_) → s.uMode u = 3 → s.uState u = 7 →
    at_ ≤ s.core.tick →
    let t := s.switchStep u
    t.uState u = 1 ∧ t.rdN (Obj.restorations u) = (s.rdN (Obj.restorations u) + 1) % 2 ^ 64 ∧
      t.rdN (Obj.restoreStartTick u) = s.core.tick) ∧
  (∀ (s : State) (m : MateMsg) (u : Fin 4), s.lanesUp ≠ [] → m.type = 4 → hdrField m.body 0 1 = u.val → s.uMode u = 3 →
    s.uState u = 7 → hdrField m.body 1 1 = 0 → hdrField m.body 2 1 = 1 → (s.unit u).parts.1 ≠ hdrField m.body 4 4 →
    let t := s.mateActs m
    (∃ d, (d, mateBytes 5 0 (s.rdN Obj.localPeerId) s.towpath.msgSeq s.core.tick
        (beBytes 1 u.val ++ beBytes 3 0 ++ beBytes 4 (hdrField m.body 4 4))) ∈ t.towpath.sent) ∧
      t.towpath.msgSeq = (s.towpath.msgSeq + 1) % 65536) ∧
  (∀ (s : State) (m : MateMsg) (u : Fin 4) (es : List (Nat × List Nat)), m.type = 5 → hdrField m.body 0 1 = u.val →
    (s.unit u).mirrors.find? (fun q => q.1 == hdrField m.body 4 4) = some (hdrField m.body 4 4, es) → (es.map (·.1)).Nodup →
    let t := s.mateActs m
    (∀ e ∈ es, (t.flow e.1).gateN = e.2.getD 5 0) ∧ (∀ f, f ∉ es.map (·.1) → t.flow f = s.flow f) ∧
      (∀ e ∈ es, tget (fun _ => []) (t.unit u).mirrored e.1 = e.2)) ∧
  (∀ (s : State) (m : MateMsg), m.type = 6 → s.mateActs m = { s with towpath.mateSelected := hdrField m.body 1 1 }) ∧
  (∀ s : State, Completes .mateMessageError s (fun t =>
      t.rdN Obj.messageErrors = (s.rdN Obj.messageErrors + 1) % 2 ^ 64 ∧ KeepsRegs [Obj.messageErrors] s t ∧ t.rest = s.rest ∧
      t.towpath = s.towpath)) ∧
  (∀ (s : State) (bs : List Byte), s.lanesUp ≠ [] → mateRead bs = none →
    exec (.timeRelay bs) s = exec .mateMessageError s ∧ exec (.mirror bs) s = exec .mateMessageError s ∧
    exec (.mirrorAck bs) s = exec .mateMessageError s ∧ exec (.restoreNotice bs) s = exec .mateMessageError s) ∧
  (∀ s : State, s.rdB Obj.mateReachable = true → s.rest.lastMate + s.rdN Obj.mateTimeout ≤ s.core.tick →
    Completes .mateUnreachable s (fun t => t.rd Obj.mateReachable = 0 ∧ KeepsRegs [Obj.mateReachable] s t ∧
      t.core = { s.core with inFlight := s.core.inFlight ++ [⟨0x80A7, 0x3580, 0, s.core.tick, s.life⟩] } ∧
      (∀ u f, u < 4 → s.uMode u = 3 → f ∈ s.matedFlows u → (t.flow f).misaligned = true) ∧
      (∀ f, (∀ u, u < 4 → s.uMode u = 3 → f ∉ s.matedFlows u) → t.flow f = s.flow f)))

/-- Key imports in a batch and the traffic keys of a group (R332, R336 to R339, R342, R347, R348; Table 13.2). A running batch takes its
next entry: an accepted one is stored, counted and announced, a rejected one fails the batch and clears its area. An announcement
whose T − 4 passed without KEY_ACK is postponed by its own lead; a committed one comes into force at its tick, when the group is
ACTIVE under its epoch; AUTH_FAIL_LIMIT failing frames send an ACTIVE or ROLLING group back to KEYING without its traffic keys.
It rests on the model's own reading where the spec leaves it open: the choices of log entries 17, 77 and 114.
Commands shown to complete with their own effect, under conditions on state and operands alone: keyBatchEntry, keyPostponed,
keyEpochSwitch, keyMismatch. -/
def Obligations.KeyBatchesImportAndEpochsComeIntoForce : Prop :=
  (∀ (s : State) (label : Nat) (key : List Byte) (n : Nat), s.opRunning 10 = true → s.key.batchAbort = false →
    s.importRecord (tget (fun _ => List.replicate 60 0#8) s.key.batch s.key.batchDone) = some (n, 3, label, key) → n < 128 →
    s.rdN (Obj.keySlotState n) = 0 → s.key.batchDone + 1 < s.key.batchLeft →
    Completes .keyBatchEntry s (fun t => t.rdN (Obj.keySlotState n) = 3 ∧ t.rdN (Obj.slotLabel n) = label ∧
      t.kslot n = ⟨key, none⟩ ∧ (∀ k, k ≠ n → t.kslot k = s.kslot k) ∧ t.key.grps = s.key.grps ∧
      t.key.batchDone = s.key.batchDone + 1 ∧ t.key.batch = s.key.batch ∧ t.opRunning 10 = true ∧
      t.rdN Obj.imports = (s.rdN Obj.imports + 1) % 2 ^ 64 ∧
      t.core.inFlight = s.core.inFlight ++ [⟨0x40B7, 0x3802, n, s.core.tick, s.life⟩] ∧
      t.agent = s.agent ∧ t.timing = s.timing)) ∧
  (∀ (s : State), s.opRunning 10 = true → s.key.batchAbort = false →
    s.importRecord (tget (fun _ => List.replicate 60 0#8) s.key.batch s.key.batchDone) = none →
    Completes .keyBatchEntry s (fun t =>
      t.key = { s.key with batchLeft := 0, batch := [], batchAbort := false } ∧
      t.rdN (Obj.opState 10) = 3 ∧ t.rdN (Obj.opLastStatus 10) = Status.refused ∧
      t.rdN Obj.importFailures = (s.rdN Obj.importFailures + 1) % 2 ^ 64 ∧
      t.core.inFlight = s.core.inFlight ++
        [⟨0x80B6, 0x3804, hdrField (tget (fun _ => List.replicate 60 0#8) s.key.batch s.key.batchDone) 0 1, s.core.tick, s.life⟩,
         ⟨0x8006, 0x118A, Status.refused, s.core.tick, s.life⟩] ∧
      KeepsRegs [Obj.opState 10, Obj.opLastStatus 10, Obj.importFailures] s t)) ∧
  (∀ (s : State) (r : Fin 4) (g : Fin 8) (e ta at_ : Nat), (s.kg r g).ann = some ⟨e, ta, at_, false⟩ → at_ ≤ s.core.tick + 3 →
    Completes (.keyPostponed r g) s (fun t =>
      t.kg r g = { s.kg r g with ann := some ⟨e, at_ - 3, s.keyEffective r g (at_ - 3), false⟩ } ∧ t.regs = s.regs ∧
      (∀ k, k ≠ 8 * r.val + g.val → tget (fun _ => {}) t.key.grps k = tget (fun _ => {}) s.key.grps k) ∧
      t.core = { s.core with inFlight := s.core.inFlight ++ [⟨0x80B1, 0x3820 + 8 * r.val + g.val, e, s.core.tick, s.life⟩] })) ∧
  (∀ (s : State) (r : Fin 4) (g : Fin 8) (e ta at_ : Nat) (key peer : List Byte), (s.kg r g).ann = some ⟨e, ta, at_, true⟩ →
    at_ ≤ s.core.tick → s.rdN (Obj.keySlotState (s.rdN (Obj.keySlot r g))) = 1 →
    s.kslot (s.rdN (Obj.keySlot r g)) = ⟨key, none⟩ → (s.kg r g).peer = some peer →
    Completes (.keyEpochSwitch r g) s (fun t => t.keySt r g = 2 ∧ t.rdN (Obj.keyTxEpoch r g) = e ∧
      t.kg r g = { s.kg r g with
        e := e, txNext := false, t0 := at_, ann := none, roll := false, early := 0, offered := false,
        txKey := some (deriveKey key (s.rdN (Obj.slotLabel (s.rdN (Obj.keySlot r g)))) (s.rdN Obj.localPeerId)
          (s.rdN (Obj.peerId r g)) g e (s.kg r g).own peer) } ∧
      t.rdN (Obj.epochSwitches r g) = (s.rdN (Obj.epochSwitches r g) + 1) % 2 ^ 64 ∧
      t.rdN (Obj.txInvocations r g) = (s.kg r g).early ∧ t.key.slots = s.key.slots ∧
      t.core = { s.core with inFlight := s.core.inFlight ++
        [⟨if s.keySt r g = 3 then 0x40B0 else 0x40B3, 0x3820 + 8 * r.val + g.val, e, s.core.tick, s.life⟩] })) ∧
  (∀ (s : State) (r : Fin 4) (g : Fin 8), s.rdN (Obj.authFailLimit r g) ≤ (s.kg r g).failRun →
    (s.keySt r g = 2 ∨ s.keySt r g = 3) →
    Completes (.keyMismatch r g) s (fun t => t.keySt r g = 1 ∧ t.rdN (Obj.keyTxEpoch r g) = 0 ∧ t.rdN (Obj.keyRxEpoch r g) = 0 ∧
      (t.kg r g).txKey = none ∧ (t.kg r g).ann = none ∧ (t.kg r g).rxCur = none ∧ (t.kg r g).rxAnn = none ∧
      (t.kg r g).failRun = 0 ∧ (t.kg r g).own = (s.kg r g).own ∧ (t.kg r g).peer = (s.kg r g).peer ∧
      t.rdN (Obj.keyMismatches r g) = (s.rdN (Obj.keyMismatches r g) + 1) % 2 ^ 64 ∧ t.key.slots = s.key.slots ∧
      t.basin = s.basin ∧ t.timing = s.timing)) ∧
  (∀ (s : State) (r : Fin 4) (g : Fin 8), s.rdN (Obj.authFailLimit r g) ≤ (s.kg r g).failRun →
    (s.keySt r g = 1 ∨ s.keySt r g = 4) →
    Completes (.keyMismatch r g) s (fun t => t.keySt r g = s.keySt r g ∧ t.kg r g = { s.kg r g with failRun := 0 } ∧
      t.rdN (Obj.keyMismatches r g) = (s.rdN (Obj.keyMismatches r g) + 1) % 2 ^ 64 ∧
      KeepsRegs [Obj.keyMismatches r g] s t ∧ t.key.slots = s.key.slots ∧ t.basin = s.basin ∧ t.timing = s.timing))
/-- The cipher array's failures (R331, R332, R339, R470). A parity fault withdraws the core, counts itself and the segment run again
and reports the core to stockpile control; a segment not encrypted in time is blanked and counted; the entropy source's failure is
kept and raised once.
Commands shown to complete with their own effect, under conditions on state and operands alone: cipherParityFault, segmentBlanked,
entropyFault. -/
def Obligations.CipherFailuresAreCountedAndReported : Prop :=
  (∀ (s : State) (core : Fin 36), s.rdN (Obj.cipherCoreState core) = 1 → core.val ∉ s.key.withdrawn →
    Completes (.cipherParityFault core) s (fun t => t.key = { s.key with withdrawn := s.key.withdrawn ++ [core.val] } ∧
      t.rdN Obj.parityFaults = (s.rdN Obj.parityFaults + 1) % 2 ^ 64 ∧
      t.rdN Obj.segmentsRerun = (s.rdN Obj.segmentsRerun + 1) % 2 ^ 64 ∧
      0x1200 + core.val ∈ t.integ.reported ∧ t.frame = s.frame ∧
      t.core.inFlight = s.core.inFlight ++ [⟨0xC0B5, 0x3801, core.val, s.core.tick, s.life⟩] ∧
      KeepsRegs [Obj.parityFaults, Obj.segmentsRerun, Obj.cipherCoresInService, Obj.capacityBytes] s t)) ∧
  (∀ (s : State) (core : Fin 36), core.val ∈ s.key.withdrawn → NoEffect (.cipherParityFault core) s) ∧
  (∀ (s : State) (r : Fin 4) (g : Fin 8) (n : Nat) (fr : TxFrame), s.frame.tx = [(8 * r.val + g.val, fr)] →
    fr.epoch.isSome = true → n ∉ fr.blanked →
    Completes (.segmentBlanked r g n) s (fun t => t.frame.tx = [(8 * r.val + g.val, { fr with
        blanked := fr.blanked ++ [n], bytes := fr.map.blankSegment fr.bytes n
        words := fr.map.encode (fr.map.blankSegment fr.bytes n) })] ∧
      t.rdN Obj.segmentsBlanked = (s.rdN Obj.segmentsBlanked + 1) % 2 ^ 64 ∧ t.key = s.key ∧ t.basin = s.basin ∧
      KeepsRegs [Obj.segmentsBlanked] s t)) ∧
  (∀ (s : State), s.rdN Obj.entropyState ≠ 1 →
    Completes .entropyFault s (fun t => t.rdN Obj.entropyState = 1 ∧ KeepsRegs [Obj.entropyState] s t ∧ t.key = s.key ∧
      t.core = { s.core with inFlight := s.core.inFlight ++ [⟨0xC0B8, 0x3800, 0, s.core.tick, s.life⟩] })) ∧
  (∀ (s : State), s.rdN Obj.entropyState = 1 → NoEffect .entropyFault s)

/-- Timing inputs and their states (R355, R356, R365, R367). An input whose source is lost, or that the board reports faulted, becomes
LOST, counted and announced with the fault's code; freed of faults it is QUALIFYING, and QUALIFIED after QUAL_TIME free of them. A PPS edge, to
5 ps, sets the input's mark and its phase error from the nearest boundary; once the count is aligned, one more than 5 µs off is LOST.
It rests on the model's own reading where the spec leaves it open: the choices of log entries 21 and 53.
Commands shown to complete with their own effect, under conditions on state and operands alone: referenceLost, referenceQualifying,
referenceQualified, ppsEdge. -/
def Obligations.TimingInputsQualifyAndAreLost : Prop :=
  (∀ (s : State) (i : Fin 12) (f : Fin 4) (ph : Nat) (off : Int), 0 < s.refState i → s.selectedIn ≠ i →
    ((f = 0 ∧ s.sourceLost i = true) ∨ f = 1) →
    Completes (.referenceLost i f ph off) s (fun t => t.refState i = 0 ∧
      t.rdN (Obj.losses i) = (s.rdN (Obj.losses i) + 1) % 2 ^ 64 ∧ t.timing = s.timing ∧
      t.core = { s.core with inFlight := s.core.inFlight ++ [⟨0x80C1, 0x4010 + i.val, f.val, s.core.tick, s.life⟩] } ∧
      KeepsRegs [Obj.inputState i, Obj.losses i] s t)) ∧
  (∀ (s : State) (i : Fin 12) (ph : Nat) (off : Int), 0 < s.refState i → s.selectedIn = i →
    1000 * s.rdN Obj.acceptLimit < off.natAbs →
    Completes (.referenceLost i 2 ph off) s (fun t => t.refState i = 0 ∧ t.rd (Obj.inputOffset i) = off ∧
      t.timing = { s.timing with loss := some (s.rdB Obj.holdoverReady, s.rd Obj.holdoverEstimate) } ∧
      t.core = { s.core with inFlight := s.core.inFlight ++ [⟨0x80C1, 0x4010 + i.val, 2, s.core.tick, s.life⟩] } ∧
      KeepsRegs [Obj.inputState i, Obj.losses i, Obj.inputOffset i] s t)) ∧
  (∀ (s : State) (i : Fin 12), s.refState i = 0 → s.refFaulted i = false →
    Completes (.referenceQualifying i) s (fun t => t.refState i = 1 ∧ t.refIn i = { s.refIn i with since := s.core.tick } ∧
      (∀ k, k ≠ i.val → t.refIn k = s.refIn k) ∧ KeepsRegs [Obj.inputState i] s t ∧ t.core = s.core)) ∧
  (∀ (s : State) (i : Fin 12), s.refState i = 0 → s.refFaulted i = true → NoEffect (.referenceQualifying i) s) ∧
  (∀ (s : State) (i : Fin 12), s.refState i = 1 → (s.refIn i).since + s.rdN (Obj.qualTime i) ≤ s.core.tick →
    s.refFaulted i = false →
    Completes (.referenceQualified i) s (fun t => t.refState i = 2 ∧ t.timing = s.timing ∧
      KeepsRegs [Obj.inputState i] s t ∧
      t.core = { s.core with inFlight := s.core.inFlight ++ [⟨0x40C2, 0x4010 + i.val, 0, s.core.tick, s.life⟩] })) ∧
  (∀ (s : State) (i : Fin 12), (s.core.tick < (s.refIn i).since + s.rdN (Obj.qualTime i) ∨ s.refFaulted i = true) →
    NoEffect (.referenceQualified i) s) ∧
  (∀ (s : State) (i : Fin 2) (ph : Nat), s.rdN (Obj.phaseMode i) = 1 → s.rdB Obj.tickAligned = false → ph < 5000000 →
    Completes (.ppsEdge i ph) s (fun t => ∃ d : Nat, d % 5 = 0 ∧ d < ph + 5 ∧ ph < d + 5 ∧
      t.refIn i = { s.refIn i with mark := some (s.core.tick * 10000000 + d), err := 1000 * (d : Int), mismatch := false } ∧
      t.rd (Obj.phaseError i) = (d : Int) ∧ KeepsRegs [Obj.phaseError i] s t ∧
      t.core = { s.core with freeCtr := t.core.freeCtr } ∧ (∀ k, k ≠ i.val → t.refIn k = s.refIn k))) ∧
  (∀ (s : State) (i : Fin 2) (ph : Nat), s.rdN (Obj.phaseMode i) = 1 → s.rdB Obj.tickAligned = true →
    s.core.tick % 100000 = 0 → 5000005 ≤ ph → ph < 10000000 → 0 < s.refState i → (s.refIn i).mismatch = false →
    Completes (.ppsEdge i ph) s (fun t => ∃ d : Nat, d % 5 = 0 ∧ d < ph + 5 ∧ ph < d + 5 ∧
      t.refState i = 0 ∧ (t.refIn i).mismatch = true ∧ t.rd (Obj.phaseError i) = (d : Int) ∧
      ⟨0x80C1, 0x4010 + i.val, 3, s.core.tick, s.life⟩ ∈ t.core.inFlight ∧
      (∃ us, (us = d / 1000000 ∨ us = d / 1000000 + 1) ∧
        ⟨0x80C7, 0x4010 + i.val, us, s.core.tick, s.life⟩ ∈ t.core.inFlight)))
/-- The timing core's lock (R359 to R361, R368). A switch has ended once the pull left is within 100 ps; ten means below 0.01 ppm, all
since the last switch, lock the core, announced with the selected input; every whole second spent LOCKED enters the history of 4,096; a delay mark falls due
every DELAY_INTERVAL ticks while the reach is up with its group enabled.
It rests on the model's own reading where the spec leaves it open: the choices of log entries 21 and 53.
Commands shown to complete with their own effect, under conditions on state and operands alone: switchEnd, locked, lockedSecond,
delayMarkSend. -/
def Obligations.TimingLocksKeepsSecondsAndMarksDelay : Prop :=
  (∀ (s : State), s.timing.switching = true → s.timing.pull.natAbs ≤ 100000 →
    Completes .switchEnd s (fun t => t = { s with timing := { s.timing with switching := false } })) ∧
  (∀ (s : State), 100000 < s.timing.pull.natAbs → NoEffect .switchEnd s) ∧
  (∀ (s : State) (means : List Int), s.rdN Obj.timingState = 1 → s.timing.switching = false → s.timing.acqAt + 1000000 ≤ s.core.tick →
    means.length = 10 →
    (∀ m ∈ means, m.natAbs < 1000) →
    Completes (.locked means) s (fun t => t.rdN Obj.timingState = 2 ∧
      t.timing = { s.timing with secStart := s.core.tick } ∧ KeepsRegs [Obj.timingState, Obj.todState] s t ∧
      t.rdN Obj.todState = (if s.timing.tod.isNone then 0
        else if s.rdB Obj.todFromPps && s.carriesPhase s.selectedIn then 2 else 1) ∧
      t.core = { s.core with inFlight := s.core.inFlight ++ [⟨0x40C4, 0x4000, s.selectedIn, s.core.tick, s.life⟩] })) ∧
  (∀ (s : State) (means : List Int), means.length < 10 → NoEffect (.locked means) s) ∧
  (∀ (s : State) (m : Int), s.rdN Obj.timingState = 2 → s.timing.secStart + 100000 ≤ s.core.tick →
    Completes (.lockedSecond m) s (fun t =>
      t.timing = { s.timing with
        secStart := s.timing.secStart + 100000,
        seconds := ((s.timing.secStart + 100000, m) :: s.timing.seconds).take 4096 } ∧
      t.rdN Obj.lockedSeconds = min (s.timing.seconds.length + 1) 4096 ∧
      KeepsRegs [Obj.holdoverReady, Obj.holdoverEstimate, Obj.lockedSeconds] s t ∧
      t.core.inFlight = s.core.inFlight)) ∧
  (∀ (s : State) (m : Int), s.rdN Obj.timingState ≠ 2 → NoEffect (.lockedSecond m) s) ∧
  (∀ (s : State) (r : Fin 4), s.released (domReach r) = true → s.groupOn r (s.rdN (Obj.delayGroup r)) = true →
    (s.delay r).lastMark + s.rdN (Obj.delayInterval r) ≤ s.core.tick →
    Completes (.delayMarkSend r) s (fun t => t.delay r = { s.delay r with markDue := true, lastMark := s.core.tick } ∧
      (∀ k, k ≠ r.val → t.delay k = s.delay k) ∧ t.regs = s.regs ∧ t.core = s.core ∧
      t.timing.inputs = s.timing.inputs ∧ t.timing.seconds = s.timing.seconds ∧ t.timing.pull = s.timing.pull))

/-- The towpath's lanes (R377 to R379, R381, R383). A lane with signal and no loopback goes from DOWN to BASE; a CAP naming its own number
sets the target rate, the lower of both ends', and starts training at the first step, or enters service where the target is the base
rate; another number is reported. A training passes with clock lock, aligned by its middle and clean after
it: it steps up or enters service; a failed one is repeated, and the third failure falls
back a step. Loss of signal, lock or code, and an elastic error, send a lane DOWN.
It rests on the model's own reading where the spec leaves it open: the choice of log entry 54.
Commands shown to complete with their own effect, under conditions on state and operands alone: laneSignalDetect, cap,
laneTrainingEnd, laneDown, elasticError. -/
def Obligations.LanesTrainComeUpAndGoDown : Prop :=
  (∀ (s : State) (l : Fin 8), s.laneState l = 0 → s.hubPowered = true → s.rdN (Obj.loopback l) = 0 →
    Completes (.laneSignalDetect l) s (fun t => t.laneState l = 1 ∧ t.rdN (Obj.laneRate l) = 0 ∧ t.towpath = s.towpath ∧
      t.core = s.core ∧ KeepsRegs [Obj.tpLaneState l, Obj.laneRate l, Obj.lanesInService] s t)) ∧
  (∀ (s : State) (l : Fin 8), s.rdN (Obj.loopback l) ≠ 0 → NoEffect (.laneSignalDetect l) s) ∧
  (∀ (s : State) (l : Fin 8) (c1 c2 : Byte), s.laneState l = 1 → c2.toNat = l.val → 0 < c1.toNat % 4 → 0 < s.rdN Obj.maxRate →
    Completes (.cap l c1 c2) s (fun t => t.laneState l = 2 ∧
      (∃ p, t.lane l = { s.lane l with
          target := min (c1.toNat % 4) (s.rdN Obj.maxRate), fails := 0, fellBack := false, training := 1,
          trainAt := s.core.tick + 1, rx := {}, positive := p } ∧
        ((codeGroups false (setCap (s.rdN Obj.maxRate) l)).2 = false → p = (s.lane l).positive ∧ t.core = s.core)) ∧
      (∀ k, k ≠ l.val → t.lane k = s.lane k) ∧ KeepsRegs [Obj.tpLaneState l, Obj.lanesInService] s t ∧
      t.core.inFlight = s.core.inFlight ∧ t.core.tick = s.core.tick)) ∧
  (∀ (s : State) (l : Fin 8) (c1 c2 : Byte), s.laneState l = 1 → c2.toNat = l.val → c1.toNat % 4 = 0 →
    Completes (.cap l c1 c2) s (fun t => t.laneState l = 3 ∧ l.val ∈ t.lanesUp ∧ (t.lane l).target = 0 ∧
      (t.lane l).freeAt = 12500 * s.core.tick ∧ t.core.inFlight = s.core.inFlight ++
        [⟨0x40D0, 0x4110 + l.val, s.rdN (Obj.laneRate l), s.core.tick, s.life⟩])) ∧
  (∀ (s : State) (l : Fin 8) (c1 c2 : Byte), s.laneState l = 1 → c2.toNat ≠ l.val →
    Completes (.cap l c1 c2) s (fun t => t = { s with core := { s.core with inFlight := s.core.inFlight ++
      [⟨0x80D3, 0x4110 + l.val, c2.toNat, s.core.tick, s.life⟩] } })) ∧
  (∀ (s : State) (l : Fin 8), s.laneState l = 2 → (s.lane l).trainAt + s.rdN Obj.trainTicks ≤ s.core.tick →
    (s.lane l).clean (s.rdN Obj.trainTicks) = true → ((s.lane l).fellBack = true ∨ (s.lane l).target ≤ (s.lane l).training) →
    Completes (.laneTrainingEnd l true) s (fun t => t.laneState l = 3 ∧ t.rdN (Obj.laneRate l) = (s.lane l).training ∧
      t.lane l = { s.lane l with fails := 0, freeAt := 12500 * s.core.tick } ∧ l.val ∈ t.lanesUp ∧
      t.core = { s.core with inFlight := s.core.inFlight ++
        [⟨0x40D0, 0x4110 + l.val, (s.lane l).training, s.core.tick, s.life⟩] })) ∧
  (∀ (s : State) (l : Fin 8), s.laneState l = 2 → (s.lane l).trainAt + s.rdN Obj.trainTicks ≤ s.core.tick →
    (s.lane l).clean (s.rdN Obj.trainTicks) = true → (s.lane l).fellBack = false → (s.lane l).training < (s.lane l).target →
    Completes (.laneTrainingEnd l true) s (fun t => t.laneState l = 2 ∧ t.rdN (Obj.laneRate l) = (s.lane l).training ∧
      t.lane l = { s.lane l with fails := 0, training := (s.lane l).training + 1, trainAt := s.core.tick, rx := {} } ∧
      t.core = s.core)) ∧
  (∀ (s : State) (l : Fin 8), s.laneState l = 2 → (s.lane l).trainAt + s.rdN Obj.trainTicks ≤ s.core.tick →
    (s.lane l).fails < 2 → ∀ locked : Bool, (locked = false ∨ (s.lane l).clean (s.rdN Obj.trainTicks) = false) →
    Completes (.laneTrainingEnd l locked) s (fun t => t.laneState l = 2 ∧
      t.lane l = { s.lane l with fails := (s.lane l).fails + 1, trainAt := s.core.tick, rx := {} } ∧ t.core = s.core ∧
      KeepsRegs [Obj.tpLaneState l, Obj.lanesInService] s t)) ∧
  (∀ (s : State) (l : Fin 8), s.laneState l = 2 → (s.lane l).trainAt + s.rdN Obj.trainTicks ≤ s.core.tick →
    (s.lane l).fails = 2 → 0 < (s.lane l).training → ∀ locked : Bool,
    (locked = false ∨ (s.lane l).clean (s.rdN Obj.trainTicks) = false) →
    Completes (.laneTrainingEnd l locked) s (fun t => t.laneState l = 2 ∧
      t.lane l = { s.lane l with
        fails := 0, fellBack := true, training := (s.lane l).training - 1, trainAt := s.core.tick, rx := {} } ∧
      t.rdN (Obj.laneRate l) = (s.lane l).training - 1 ∧
      t.core = { s.core with inFlight := s.core.inFlight ++
        [⟨0x80D2, 0x4110 + l.val, (s.lane l).training - 1, s.core.tick, s.life⟩] })) ∧
  (∀ (s : State) (l : Fin 8) (cause : Fin 3), s.laneState l = 3 →
    Completes (.laneDown l cause false) s (fun t => t.laneState l = 0 ∧ l.val ∉ t.lanesUp ∧ (t.lane l).training = 0 ∧
      (∀ k, k ≠ l.val → t.lane k = s.lane k) ∧
      KeepsRegs [Obj.tpLaneState l, Obj.laneRate l, Obj.lanesInService] s t ∧
      t.core = { s.core with inFlight := s.core.inFlight ++ [⟨0x80D1, 0x4110 + l.val, cause.val, s.core.tick, s.life⟩] })) ∧
  (∀ (s : State) (l : Fin 8) (cause : Fin 3), s.laneState l ≠ 3 → NoEffect (.laneDown l cause true) s) ∧
  (∀ (s : State) (l : Fin 8), (s.laneState l ≠ 0 ∨ s.rdN (Obj.loopback l) ≠ 0 ∧ s.hubPowered = true) →
    Completes (.elasticError l false) s (fun t => t.laneState l = 0 ∧
      t.rdN (Obj.elasticErrors l) = (s.rdN (Obj.elasticErrors l) + 1) % 2 ^ 64 ∧
      (s.laneState l ≠ 0 → ⟨0x80D1, 0x4110 + l.val, 3, s.core.tick, s.life⟩ ∈ t.core.inFlight)))
/-- What the towpath sends by itself (R378, R382, R386). A transmitting lane sends SKIP sets; HELLO goes every 5 ticks on every lane in
service under one new MSG_SEQ; TIME_RELAY every 100 ticks and at a change of its fields, on one lane; a WAKE sending ends on time.
It rests on the model's own reading where the spec leaves it open: the choice of log entry 54.
Commands shown to complete with their own effect, under conditions on state and operands alone: skipSend, helloSend, timeRelaySend,
wakeSendEnd. -/
def Obligations.TowpathSendsSkipHelloTimeAndWake : Prop :=
  (∀ (s : State) (l : Fin 8), s.laneFill l ≠ none →
    Completes (.skipSend l) s (fun t => t.lane l = { s.lane l with
        skips := (s.lane l).skips + 1, sinceSkip := 0, positive := (codeGroups (s.lane l).positive setSkip).2
        line := (s.lane l).line ++ (codeGroups (s.lane l).positive setSkip).1 } ∧
      (∀ k, k ≠ l.val → t.lane k = s.lane k) ∧ t.regs = s.regs ∧ t.core = s.core)) ∧
  (∀ (s : State) (l : Fin 8), s.laneFill l = none → NoEffect (.skipSend l) s) ∧
  (∀ (s : State), s.towpath.helloAt + 5 ≤ s.core.tick → s.hubPowered = true → s.lanesUp ≠ [] →
    Completes .helloSend s (fun t => t.core = s.core ∧ t.towpath = { s.towpath with
        helloAt := s.core.tick, msgSeq := (s.towpath.msgSeq + 1) % 65536, lanes := t.towpath.lanes,
        sent := s.towpath.sent ++ [(s.lanesUp,
          mateBytes 1 0 (s.rdN Obj.localPeerId) s.towpath.msgSeq s.core.tick s.helloBody)] } ∧
      (∀ l ∈ s.lanesUp, (t.lane l).line = (s.lane l).line ++ (codeGroups (s.lane l).positive (framed
        (mateBytes 1 0 (s.rdN Obj.localPeerId) s.towpath.msgSeq s.core.tick s.helloBody))).1) ∧
      (∀ l, l ∉ s.lanesUp → t.lane l = s.lane l) ∧
      t.rdN Obj.messagesSent = (s.rdN Obj.messagesSent + s.lanesUp.length) % 2 ^ 64 ∧
      KeepsRegs [Obj.messagesSent] s t)) ∧
  (∀ (s : State), s.core.tick < s.towpath.helloAt + 5 → NoEffect .helloSend s) ∧
  (∀ (s : State) (l : Nat), (s.towpath.relayAt + 100 ≤ s.core.tick ∨ s.timeRelayBody ≠ s.towpath.relayed) →
    s.hubPowered = true → s.lanesUp = [l] →
    Completes .timeRelaySend s (fun t => t.core = s.core ∧ t.towpath = { s.towpath with
        relayAt := s.core.tick, relayed := s.timeRelayBody, msgSeq := (s.towpath.msgSeq + 1) % 65536, lanes := t.towpath.lanes,
        sent := s.towpath.sent ++ [([l],
          mateBytes 6 0 (s.rdN Obj.localPeerId) s.towpath.msgSeq s.core.tick s.timeRelayBody)] } ∧
      (t.lane l).line = (s.lane l).line ++ (codeGroups (s.lane l).positive (framed
        (mateBytes 6 0 (s.rdN Obj.localPeerId) s.towpath.msgSeq s.core.tick s.timeRelayBody))).1 ∧
      (∀ k, k ≠ l → t.lane k = s.lane k) ∧ KeepsRegs [Obj.messagesSent] s t)) ∧
  (∀ (s : State), 0 < s.towpath.wakeUntil → s.towpath.wakeUntil ≤ s.core.tick →
    Completes .wakeSendEnd s (fun t => t = { s with towpath := { s.towpath with wakeUntil := 0 } })) ∧
  (∀ (s : State), s.core.tick < s.towpath.wakeUntil → NoEffect .wakeSendEnd s)

/-- The engines' arithmetic rows (R392, R401 to R403, Tables 16.5 and 16.6). Each puts its function of a and b, or of a and its constant, in d:
g0 ignores it; PC goes on by 4; the flags stay but DZ and OV, which a division by zero and an overflow or a saturation set and
nothing clears. The issued-instruction counter goes on by one. Nothing else of the slot, of the other slots or of memory changes.
It rests on the model's own reading where the spec leaves it open: the choices of log entries 58 and 60.
Commands shown to complete with their own effect, under conditions on state and operands alone: engAdd, engSub, engAnd, engOr,
engXor, engShl, engShr, engSar, engLt, engLtu, engMin, engMax, engMinu, engMaxu, engMul, engMulhs, engMulhu, engDq, engDqu, engDr,
engDru, engAddsat, engSubsat, engLzc, engOnes, engAddk, engAndk, engOrk, engXork, engLtk, engLtku, engMulk, engShlk, engShrk,
engSark. -/
def Obligations.EngineArithmeticPutsItsResultInD : Prop :=
  (∀ (s : State) (c : Fin 12) (e : Fin 16) (d a b : BitVec 5) (f : AluOp) (x y : Word)
      (op : Fin 12 → Fin 16 → BitVec 5 → BitVec 5 → BitVec 5 → Instr) (v : Word),
    s.slotRuns c e (.alu f d a b) → (s.eng c e).gpr a = x → (s.eng c e).gpr b = y →
    ((op = .engAdd ∧ f = .add ∧ v = BitVec.ofNat 32 (x.toNat + y.toNat)) ∨
     (op = .engSub ∧ f = .sub ∧ v = BitVec.ofInt 32 (x.toInt - y.toInt)) ∨
     (op = .engAnd ∧ f = .and ∧ v = x &&& y) ∨ (op = .engOr ∧ f = .or ∧ v = x ||| y) ∨ (op = .engXor ∧ f = .xor ∧ v = x ^^^ y) ∨
     (op = .engShl ∧ f = .shl ∧ v = BitVec.ofNat 32 (x.toNat * 2 ^ (y.toNat % 32))) ∨
     (op = .engShr ∧ f = .shr ∧ v = BitVec.ofNat 32 (x.toNat / 2 ^ (y.toNat % 32))) ∨
     (op = .engSar ∧ f = .sar ∧ v = BitVec.ofInt 32 (x.toInt / 2 ^ (y.toNat % 32))) ∨
     (op = .engLt ∧ f = .lt ∧ v = if x.toInt < y.toInt then 1 else 0) ∨
     (op = .engLtu ∧ f = .ltu ∧ v = if x.toNat < y.toNat then 1 else 0) ∨
     (op = .engMin ∧ f = .min ∧ v = BitVec.ofInt 32 (min x.toInt y.toInt)) ∨
     (op = .engMax ∧ f = .max ∧ v = BitVec.ofInt 32 (max x.toInt y.toInt)) ∨
     (op = .engMinu ∧ f = .minu ∧ v = BitVec.ofNat 32 (min x.toNat y.toNat)) ∨
     (op = .engMaxu ∧ f = .maxu ∧ v = BitVec.ofNat 32 (max x.toNat y.toNat)) ∨
     (op = .engMul ∧ f = .mul ∧ v = BitVec.ofNat 32 (x.toNat * y.toNat)) ∨
     (op = .engMulhs ∧ f = .mulhs ∧ v = BitVec.ofInt 32 (x.toInt * y.toInt / 2 ^ 32)) ∨
     (op = .engMulhu ∧ f = .mulhu ∧ v = BitVec.ofNat 32 (x.toNat * y.toNat / 2 ^ 32))) →
    Completes (op c e d a b) s (fun t => EngReg s t c e d v ∧ (t.eng c e).csr = (s.eng c e).csr ∧
      EngGoes s t c e ((s.eng c e).pc + 4) ∧ EngQuiet s t c e ∧
      ((s.eng c e).preset = [] → t.rdN (ctrKey c e 1) = (s.rdN (ctrKey c e 1) + 1) % 2 ^ 48))) ∧
  (∀ (s : State) (c : Fin 12) (e : Fin 16) (d a b : BitVec 5) (f : AluOp) (x y : Word)
      (op : Fin 12 → Fin 16 → BitVec 5 → BitVec 5 → BitVec 5 → Instr) (v : Word) (dz ov : Bool),
    s.slotRuns c e (.alu f d a b) → (s.eng c e).gpr a = x → (s.eng c e).gpr b = y →
    ((op = .engDq ∧ f = .dq ∧ dz = (y == 0) ∧ ov = (x == 0x80000000 && y == 0xFFFFFFFF) ∧
        v = if y = 0 then 0 else if x = 0x80000000 ∧ y = 0xFFFFFFFF then 0x7FFFFFFF else BitVec.ofInt 32 (x.toInt.tdiv y.toInt)) ∨
     (op = .engDqu ∧ f = .dqu ∧ dz = (y == 0) ∧ ov = false ∧ v = if y = 0 then 0 else BitVec.ofNat 32 (x.toNat / y.toNat)) ∨
     (op = .engDr ∧ f = .dr ∧ dz = (y == 0) ∧ ov = (x == 0x80000000 && y == 0xFFFFFFFF) ∧
        v = if y = 0 then x else if x = 0x80000000 ∧ y = 0xFFFFFFFF then 0 else BitVec.ofInt 32 (x.toInt.tmod y.toInt)) ∨
     (op = .engDru ∧ f = .dru ∧ dz = (y == 0) ∧ ov = false ∧ v = if y = 0 then x else BitVec.ofNat 32 (x.toNat % y.toNat)) ∨
     (op = .engAddsat ∧ f = .addsat ∧ dz = false ∧ ov = decide (x.toInt + y.toInt < -2 ^ 31 ∨ 2 ^ 31 ≤ x.toInt + y.toInt) ∧
        v = BitVec.ofInt 32 (max (-2 ^ 31) (min (2 ^ 31 - 1) (x.toInt + y.toInt)))) ∨
     (op = .engSubsat ∧ f = .subsat ∧ dz = false ∧ ov = decide (x.toInt - y.toInt < -2 ^ 31 ∨ 2 ^ 31 ≤ x.toInt - y.toInt) ∧
        v = BitVec.ofInt 32 (max (-2 ^ 31) (min (2 ^ 31 - 1) (x.toInt - y.toInt))))) →
    Completes (op c e d a b) s (fun t => EngReg s t c e d v ∧ EngGoes s t c e ((s.eng c e).pc + 4) ∧ EngQuiet s t c e ∧
      (∀ n, (t.eng c e).cs n = if n = 6 then (s.eng c e).cs 6 ||| (if dz then 1 else 0) ||| (if ov then 2 else 0)
        else (s.eng c e).cs n))) ∧
  (∀ (s : State) (c : Fin 12) (e : Fin 16) (d a : BitVec 5), s.slotRuns c e (.alu .lzc d a 0) →
    Completes (.engLzc c e d a) s (fun t => ∃ n, n ≤ 32 ∧ (∀ k, 32 - n ≤ k → ((s.eng c e).gpr a).getLsbD k = false) ∧
      (n < 32 → ((s.eng c e).gpr a).getLsbD (31 - n) = true) ∧ EngReg s t c e d (BitVec.ofNat 32 n) ∧
      (t.eng c e).csr = (s.eng c e).csr ∧ EngGoes s t c e ((s.eng c e).pc + 4) ∧ EngQuiet s t c e)) ∧
  (∀ (s : State) (c : Fin 12) (e : Fin 16) (d a : BitVec 5), s.slotRuns c e (.alu .ones d a 0) →
    Completes (.engOnes c e d a) s (fun t =>
      EngReg s t c e d (BitVec.ofNat 32 ((List.range 32).filter (fun k => ((s.eng c e).gpr a).getLsbD k)).length) ∧
      (t.eng c e).csr = (s.eng c e).csr ∧ EngGoes s t c e ((s.eng c e).pc + 4) ∧ EngQuiet s t c e)) ∧
  (∀ (s : State) (c : Fin 12) (e : Fin 16) (d a : BitVec 5) (k : BitVec 14) (f : RkOp) (x : Word)
      (op : Fin 12 → Fin 16 → BitVec 5 → BitVec 5 → BitVec 14 → Instr) (v : Word),
    s.slotRuns c e (.rk f d a k) → (s.eng c e).gpr a = x →
    ((op = .engAddk ∧ f = .addk ∧ v = BitVec.ofInt 32 (x.toInt + k.toInt)) ∨
     (op = .engAndk ∧ f = .andk ∧ v = x &&& BitVec.ofNat 32 k.toNat) ∨
     (op = .engOrk ∧ f = .ork ∧ v = x ||| BitVec.ofNat 32 k.toNat) ∨
     (op = .engXork ∧ f = .xork ∧ v = x ^^^ BitVec.ofNat 32 k.toNat) ∨
     (op = .engLtk ∧ f = .ltk ∧ v = if x.toInt < k.toInt then 1 else 0) ∨
     (op = .engLtku ∧ f = .ltku ∧ v = if x.toNat < k.toNat then 1 else 0) ∨
     (op = .engMulk ∧ f = .mulk ∧ v = BitVec.ofInt 32 (x.toInt * k.toInt))) →
    Completes (op c e d a k) s (fun t => EngReg s t c e d v ∧ (t.eng c e).csr = (s.eng c e).csr ∧
      EngGoes s t c e ((s.eng c e).pc + 4) ∧ EngQuiet s t c e)) ∧
  (∀ (s : State) (c : Fin 12) (e : Fin 16) (d a k : BitVec 5) (f : RkOp) (x : Word)
      (op : Fin 12 → Fin 16 → BitVec 5 → BitVec 5 → BitVec 5 → Instr) (v : Word),
    s.slotRuns c e (.rk f d a (0#9 ++ k)) → (s.eng c e).gpr a = x →
    ((op = .engShlk ∧ f = .shlk ∧ v = BitVec.ofNat 32 (x.toNat * 2 ^ k.toNat)) ∨
     (op = .engShrk ∧ f = .shrk ∧ v = BitVec.ofNat 32 (x.toNat / 2 ^ k.toNat)) ∨
     (op = .engSark ∧ f = .sark ∧ v = BitVec.ofInt 32 (x.toInt / 2 ^ k.toNat))) →
    Completes (op c e d a k) s (fun t => EngReg s t c e d v ∧ (t.eng c e).csr = (s.eng c e).csr ∧
      EngGoes s t c e ((s.eng c e).pc + 4) ∧ EngQuiet s t c e))
/-- SETHI, the jumps and the branches (R402, R404, Table 16.5). SETHI puts k × 2^14 in d. CALL puts PC + 4 in d and goes k words on from
PC; JUMPR goes k words on from a, and traps with ALIGNMENT where a is not a multiple of 4; a branch goes off words on from PC where
its test holds, else to PC + 4, and writes no register.
It rests on the model's own reading where the spec leaves it open: the choice of log entry 58.
Commands shown to complete with their own effect, under conditions on state and operands alone: engSethi, engCall, engJumpr,
engBrEq, engBrNe, engBrLt, engBrGe, engBrLo, engBrHs. -/
def Obligations.EngineJumpsAndBranchesSetPc : Prop :=
  (∀ (s : State) (c : Fin 12) (e : Fin 16) (d : BitVec 5) (k : BitVec 18), s.slotRuns c e (.sethi d k) →
    Completes (.engSethi c e d k) s (fun t => EngReg s t c e d (BitVec.ofNat 32 (k.toNat * 2 ^ 14)) ∧
      (t.eng c e).csr = (s.eng c e).csr ∧ EngGoes s t c e ((s.eng c e).pc + 4) ∧ EngQuiet s t c e)) ∧
  (∀ (s : State) (c : Fin 12) (e : Fin 16) (d : BitVec 5) (k : BitVec 23), s.slotRuns c e (.call d k) →
    Completes (.engCall c e d k) s (fun t => EngReg s t c e d ((s.eng c e).pc + 4) ∧ (t.eng c e).csr = (s.eng c e).csr ∧
      EngGoes s t c e (BitVec.ofInt 32 ((s.eng c e).pc.toInt + 4 * k.toInt)) ∧ EngQuiet s t c e)) ∧
  (∀ (s : State) (c : Fin 12) (e : Fin 16) (d a : BitVec 5) (k : BitVec 14), s.slotRuns c e (.jumpr d a k) →
    ((s.eng c e).gpr a).toNat % 4 = 0 →
    Completes (.engJumpr c e d a k) s (fun t => EngReg s t c e d ((s.eng c e).pc + 4) ∧ (t.eng c e).csr = (s.eng c e).csr ∧
      EngGoes s t c e (BitVec.ofInt 32 (((s.eng c e).gpr a).toInt + 4 * k.toInt)) ∧ EngQuiet s t c e)) ∧
  (∀ (s : State) (c : Fin 12) (e : Fin 16) (d a : BitVec 5) (k : BitVec 14), s.slotRuns c e (.jumpr d a k) →
    ((s.eng c e).gpr a).toNat % 4 ≠ 0 →
    Completes (.engJumpr c e d a k) s (fun t => (t.eng c e).cs 1 = 3 ∧ (t.eng c e).cs 2 = (s.eng c e).pc ∧
      (t.eng c e).cs 3 = BitVec.ofInt 32 (((s.eng c e).gpr a).toInt + 4 * k.toInt) ∧ t.rdN (Obj.lastTrapcode c e) = 3 ∧
      (t.eng c e).g = (s.eng c e).g ∧ (t.eng c e).v = (s.eng c e).v)) ∧
  (∀ (s : State) (c : Fin 12) (e : Fin 16) (a b : BitVec 5) (off : BitVec 15) (f : BrOp) (x y : Word)
      (op : Fin 12 → Fin 16 → BitVec 5 → BitVec 5 → BitVec 15 → Instr) (taken : Prop),
    s.slotRuns c e (.br f a b off) → (s.eng c e).gpr a = x → (s.eng c e).gpr b = y →
    ((op = .engBrEq ∧ f = .eq ∧ taken = (x = y)) ∨ (op = .engBrNe ∧ f = .ne ∧ taken = (x ≠ y)) ∨
     (op = .engBrLt ∧ f = .lt ∧ taken = (x.toInt < y.toInt)) ∨ (op = .engBrGe ∧ f = .ge ∧ taken = (y.toInt ≤ x.toInt)) ∨
     (op = .engBrLo ∧ f = .lo ∧ taken = (x.toNat < y.toNat)) ∨ (op = .engBrHs ∧ f = .hs ∧ taken = (y.toNat ≤ x.toNat))) →
    Completes (op c e a b off) s (fun t => EngKeepsRegs s t c e ∧ EngQuiet s t c e ∧
      (taken → EngGoes s t c e (BitVec.ofInt 32 ((s.eng c e).pc.toInt + 4 * off.toInt))) ∧
      (¬ taken → EngGoes s t c e ((s.eng c e).pc + 4))))

/-- The engines' loads and stores (R391, R393 to R395, R402, Table 16.5). An access is at base + disp × its width. A load that meets no trap
puts the bytes there, little-endian, in its register, sign- or zero-extended, or in the eight lanes from lane 0 on; a store writes the
low bytes of its register, or the eight lanes, there and nowhere else. An access that meets a trap has no effect but the trap. What a
kernel-mode load reads of the vendor's own instruction memory is free (log entry 4). ATOM (R395, R402, Table 16.5): on a word of shared memory that meets no trap, d takes the word's old value and the word the
operation's result of it and b, in one step; no other byte changes.
It rests on the model's own reading where the spec leaves it open: the choices of log entries 4, 58 and 60.
Commands shown to complete with their own effect, under conditions on state and operands alone: engLdW, engLdH, engLdHu, engLdB,
engLdBu, engVld, engStW, engStH, engStB, engVst, engAtomSwap, engAtomAdd, engAtomAnd, engAtomOr, engAtomMin, engAtomMax. -/
def Obligations.EngineLoadsStoresAndAtomicsMoveTheirBytes : Prop :=
  (∀ (s : State) (c : Fin 12) (e : Fin 16) (r base : BitVec 5) (disp : BitVec 14) (m : MemPort) (f : LdOp) (w a n : Nat) (v : Word)
      (op : Fin 12 → Fin 16 → BitVec 5 → BitVec 5 → BitVec 14 → MemPort → Instr),
    s.slotRuns c e (.ld f r base disp) → a = (BitVec.ofInt 32 (((s.eng c e).gpr base).toInt + disp.toInt * w)).toNat →
    n = leNat ((List.range w).map (fun k => s.engByte c e (a + k))) → s.accessTrap c e a w .read m = none →
    (0x10000 ≤ a ∨ (s.eng c e).text ≠ []) →
    ((op = .engLdW ∧ f = .w ∧ w = 4 ∧ v = BitVec.ofNat 32 n) ∨
     (op = .engLdH ∧ f = .h ∧ w = 2 ∧ v = BitVec.ofNat 32 (if n < 0x8000 then n else n + 0xFFFF0000)) ∨
     (op = .engLdHu ∧ f = .hu ∧ w = 2 ∧ v = BitVec.ofNat 32 n) ∨
     (op = .engLdB ∧ f = .b ∧ w = 1 ∧ v = BitVec.ofNat 32 (if n < 0x80 then n else n + 0xFFFFFF00)) ∨
     (op = .engLdBu ∧ f = .bu ∧ w = 1 ∧ v = BitVec.ofNat 32 n)) →
    Completes (op c e r base disp m) s (fun t => EngReg s t c e r v ∧ (t.eng c e).csr = (s.eng c e).csr ∧
      EngGoes s t c e ((s.eng c e).pc + 4) ∧ (m.corrected = false → EngQuiet s t c e))) ∧
  (∀ (s : State) (c : Fin 12) (e : Fin 16) (r base : BitVec 5) (disp : BitVec 14) (m : MemPort) (f : LdOp) (w a : Nat)
      (op : Fin 12 → Fin 16 → BitVec 5 → BitVec 5 → BitVec 14 → MemPort → Instr),
    s.slotRuns c e (.ld f r base disp) → a = (BitVec.ofInt 32 (((s.eng c e).gpr base).toInt + disp.toInt * w)).toNat →
    s.accessTrap c e a w .read m = none → a < 0x10000 → (s.eng c e).text = [] →
    ((op = .engLdW ∧ f = .w ∧ w = 4) ∨ (op = .engLdH ∧ f = .h ∧ w = 2) ∨ (op = .engLdHu ∧ f = .hu ∧ w = 2) ∨
     (op = .engLdB ∧ f = .b ∧ w = 1) ∨ (op = .engLdBu ∧ f = .bu ∧ w = 1)) →
    Completes (op c e r base disp m) s (fun t => (∃ v, EngReg s t c e r v) ∧ (t.eng c e).csr = (s.eng c e).csr ∧
      EngGoes s t c e ((s.eng c e).pc + 4))) ∧
  (∀ (s : State) (c : Fin 12) (e : Fin 16) (v : BitVec 3) (base : BitVec 5) (disp : BitVec 14) (m : MemPort) (a : Nat),
    s.slotRuns c e (.vld v base disp) → a = (BitVec.ofInt 32 (((s.eng c e).gpr base).toInt + disp.toInt * 32)).toNat →
    s.accessTrap c e a 32 .read m = none → a < 0x10000 → (s.eng c e).text = [] →
    Completes (.engVld c e v base disp m) s (fun t => (∃ ls, EngVec s t c e v ls) ∧ EngGoes s t c e ((s.eng c e).pc + 4))) ∧
  (∀ (s : State) (c : Fin 12) (e : Fin 16) (v : BitVec 3) (base : BitVec 5) (disp : BitVec 14) (m : MemPort) (a : Nat),
    s.slotRuns c e (.vld v base disp) → a = (BitVec.ofInt 32 (((s.eng c e).gpr base).toInt + disp.toInt * 32)).toNat →
    s.accessTrap c e a 32 .read m = none → (0x10000 ≤ a ∨ (s.eng c e).text ≠ []) →
    Completes (.engVld c e v base disp m) s (fun t =>
      EngVec s t c e v ((List.range 8).map (fun l => BitVec.ofNat 32
        (leNat ((List.range 4).map (fun k => s.engByte c e (a + 4 * l + k)))))) ∧
      EngGoes s t c e ((s.eng c e).pc + 4) ∧ (m.corrected = false → EngQuiet s t c e))) ∧
  (∀ (s : State) (c : Fin 12) (e : Fin 16) (r base : BitVec 5) (disp : BitVec 14) (m : MemPort) (f : StOp) (w a : Nat)
      (op : Fin 12 → Fin 16 → BitVec 5 → BitVec 5 → BitVec 14 → MemPort → Instr),
    s.slotRuns c e (.st f r base disp) → a = (BitVec.ofInt 32 (((s.eng c e).gpr base).toInt + disp.toInt * w)).toNat →
    s.accessTrap c e a w .write m = none →
    ((op = .engStW ∧ f = .w ∧ w = 4) ∨ (op = .engStH ∧ f = .h ∧ w = 2) ∨ (op = .engStB ∧ f = .b ∧ w = 1)) →
    Completes (op c e r base disp m) s (fun t =>
      (∀ x, t.engByte c e x = if a ≤ x ∧ x < a + w then BitVec.ofNat 8 (((s.eng c e).gpr r).toNat / 2 ^ (8 * (x - a)))
        else s.engByte c e x) ∧
      (∀ k, k ≠ 16 * c.val + e.val → tget (fun _ => {}) t.engine.slots k = tget (fun _ => {}) s.engine.slots k) ∧
      (t.eng c e).pc = (s.eng c e).pc + 4 ∧ EngKeepsRegs s t c e ∧ EngQuiet (s.engMarks c e a w) t c e)) ∧
  (∀ (s : State) (c : Fin 12) (e : Fin 16) (v : BitVec 3) (base : BitVec 5) (disp : BitVec 14) (m : MemPort) (a : Nat),
    s.slotRuns c e (.vst v base disp) → a = (BitVec.ofInt 32 (((s.eng c e).gpr base).toInt + disp.toInt * 32)).toNat →
    s.accessTrap c e a 32 .write m = none →
    Completes (.engVst c e v base disp m) s (fun t =>
      (∀ x, t.engByte c e x = if a ≤ x ∧ x < a + 32 then
        BitVec.ofNat 8 (((s.eng c e).lane v ((x - a) / 4)).toNat / 2 ^ (8 * ((x - a) % 4))) else s.engByte c e x) ∧
      (∀ k, k ≠ 16 * c.val + e.val → tget (fun _ => {}) t.engine.slots k = tget (fun _ => {}) s.engine.slots k) ∧
      (t.eng c e).pc = (s.eng c e).pc + 4 ∧ EngKeepsRegs s t c e ∧ EngQuiet (s.engMarks c e a 32) t c e)) ∧
  (∀ (s : State) (c : Fin 12) (e : Fin 16) (i : Instr) (j : EngI) (m : MemPort) (acc : EngAcc) (base : BitVec 5) (disp : BitVec 14)
      (w a k : Nat), s.slotRuns c e j → a = (BitVec.ofInt 32 (((s.eng c e).gpr base).toInt + disp.toInt * w)).toNat →
    s.accessTrap c e a w acc m = some k →
    ((∃ r, i = .engLdW c e r base disp m ∧ j = .ld .w r base disp ∧ w = 4 ∧ acc = .read) ∨
     (∃ r, i = .engLdB c e r base disp m ∧ j = .ld .b r base disp ∧ w = 1 ∧ acc = .read) ∨
     (∃ r, i = .engStW c e r base disp m ∧ j = .st .w r base disp ∧ w = 4 ∧ acc = .write) ∨
     (∃ r, i = .engStH c e r base disp m ∧ j = .st .h r base disp ∧ w = 2 ∧ acc = .write) ∨
     (∃ v, i = .engVld c e v base disp m ∧ j = .vld v base disp ∧ w = 32 ∧ acc = .read) ∨
     (∃ v, i = .engVst c e v base disp m ∧ j = .vst v base disp ∧ w = 32 ∧ acc = .write)) →
    Completes i s (fun t => (t.eng c e).cs 1 = BitVec.ofNat 32 k ∧ (t.eng c e).cs 2 = (s.eng c e).pc ∧
      (t.eng c e).cs 3 = BitVec.ofNat 32 a ∧ t.rdN (Obj.lastTrapcode c e) = k ∧ t.rdN (Obj.lastTrapinfo c e) = a ∧
      (t.eng c e).g = (s.eng c e).g ∧ (t.eng c e).v = (s.eng c e).v ∧ (t.eng c e).data = (s.eng c e).data ∧
      t.engine.shared = s.engine.shared)) ∧
  (∀ (s : State) (c : Fin 12) (e : Fin 16) (d a b : BitVec 5) (m : MemPort) (f : AtomOp) (ad : Nat) (old y v : Word)
      (op : Fin 12 → Fin 16 → BitVec 5 → BitVec 5 → BitVec 5 → MemPort → Instr),
    s.slotRuns c e (.atom f d a b) → ((s.eng c e).gpr a).toNat = ad → s.accessTrap c e ad 4 .atom m = none →
    old = BitVec.ofNat 32 (leNat ((List.range 4).map (fun k => s.engByte c e (ad + k)))) → (s.eng c e).gpr b = y →
    ((op = .engAtomSwap ∧ f = .swap ∧ v = y) ∨ (op = .engAtomAdd ∧ f = .add ∧ v = BitVec.ofNat 32 (old.toNat + y.toNat)) ∨
     (op = .engAtomAnd ∧ f = .and ∧ v = old &&& y) ∨ (op = .engAtomOr ∧ f = .or ∧ v = old ||| y) ∨
     (op = .engAtomMin ∧ f = .min ∧ v = BitVec.ofInt 32 (min old.toInt y.toInt)) ∨
     (op = .engAtomMax ∧ f = .max ∧ v = BitVec.ofInt 32 (max old.toInt y.toInt))) →
    Completes (op c e d a b m) s (fun t => EngReg s t c e d old ∧ (t.eng c e).pc = (s.eng c e).pc + 4 ∧
      (t.eng c e).csr = (s.eng c e).csr ∧ (t.eng c e).data = (s.eng c e).data ∧
      (∀ x, t.engByte c e x = if ad ≤ x ∧ x < ad + 4 then BitVec.ofNat 8 (v.toNat / 2 ^ (8 * (x - ad))) else s.engByte c e x) ∧
      (∀ k, k ≠ 16 * c.val + e.val → tget (fun _ => {}) t.engine.slots k = tget (fun _ => {}) s.engine.slots k) ∧
      (m.corrected = false → EngQuiet (s.engMarks c e ad 4) t c e)))


/-- The vector unit (R392, R402, Table 16.6). A lane holds a real part in bits 15:0 and an imaginary part in bits 31:16. A sum or difference
saturates to 16 bits; a product is rounded by 2^14, shifted right by 15 and saturated; VCMAC and VMAGA add to the destination's old
lane; VCONJ negates the imaginary part modulo 2^16; VSHR shifts both parts arithmetically. The eight lanes of the destination alone
change.
It rests on the model's own reading where the spec leaves it open: the choice of log entry 58.
Commands shown to complete with their own effect, under conditions on state and operands alone: engVadd, engVsub, engVcmul,
engVcmulc, engVcmac, engVmag2, engVmaga, engVconj, engVshr, engVbcast, engVins, engVext, engVsumr, engVsumi. -/
def Obligations.VectorRowsPutTheirLanesInVd : Prop :=
  (∀ (s : State) (c : Fin 12) (e : Fin 16) (vd va vb : BitVec 3) (f : ValuOp) (i : Instr)
      (re im : Int → Int → Int → Int → Int → Int → Int),
    s.slotRuns c e (.valu f vd va vb 0) →
    (let sat : Int → Int := fun x => max (-0x8000) (min 0x7FFF x)
     let rnd : Int → Int := fun x => sat ((x + 0x4000) / 0x8000)
     (i = .engVadd c e vd va vb ∧ f = .vadd ∧ (∀ dr di ar ai br bi, re dr di ar ai br bi = sat (ar + br) ∧
        im dr di ar ai br bi = sat (ai + bi))) ∨
     (i = .engVsub c e vd va vb ∧ f = .vsub ∧ (∀ dr di ar ai br bi, re dr di ar ai br bi = sat (ar - br) ∧
        im dr di ar ai br bi = sat (ai - bi))) ∨
     (i = .engVcmul c e vd va vb ∧ f = .vcmul ∧ (∀ dr di ar ai br bi, re dr di ar ai br bi = rnd (ar * br - ai * bi) ∧
        im dr di ar ai br bi = rnd (ar * bi + ai * br))) ∨
     (i = .engVcmulc c e vd va vb ∧ f = .vcmulc ∧ (∀ dr di ar ai br bi, re dr di ar ai br bi = rnd (ar * br + ai * bi) ∧
        im dr di ar ai br bi = rnd (ai * br - ar * bi))) ∨
     (i = .engVcmac c e vd va vb ∧ f = .vcmac ∧ (∀ dr di ar ai br bi, re dr di ar ai br bi = sat (dr + rnd (ar * br - ai * bi)) ∧
        im dr di ar ai br bi = sat (di + rnd (ar * bi + ai * br)))) ∨
     (i = .engVmag2 c e vd va ∧ vb = 0 ∧ f = .vmag2 ∧ (∀ dr di ar ai br bi, re dr di ar ai br bi = rnd (ar * ar + ai * ai) ∧
        im dr di ar ai br bi = 0)) ∨
     (i = .engVmaga c e vd va ∧ vb = 0 ∧ f = .vmaga ∧ (∀ dr di ar ai br bi, re dr di ar ai br bi = sat (dr + rnd (ar * ar + ai * ai)) ∧
        im dr di ar ai br bi = di)) ∨
     (i = .engVconj c e vd va ∧ vb = 0 ∧ f = .vconj ∧ (∀ dr di ar ai br bi, re dr di ar ai br bi = ar ∧
        im dr di ar ai br bi = -ai))) →
    Completes i s (fun t => EngVec s t c e vd ((List.range 8).map (fun l =>
        let d := (s.eng c e).lane vd l
        let a := (s.eng c e).lane va l
        let b := (s.eng c e).lane vb l
        BitVec.ofInt 16 (im (laneRe d) (laneIm d) (laneRe a) (laneIm a) (laneRe b) (laneIm b)) ++
          BitVec.ofInt 16 (re (laneRe d) (laneIm d) (laneRe a) (laneIm a) (laneRe b) (laneIm b)))) ∧
      EngGoes s t c e ((s.eng c e).pc + 4) ∧ EngQuiet s t c e)) ∧
  (∀ (s : State) (c : Fin 12) (e : Fin 16) (vd va : BitVec 3) (sh : BitVec 4), s.slotRuns c e (.valu .vshr vd va 0 sh) →
    Completes (.engVshr c e vd va sh) s (fun t => EngVec s t c e vd ((List.range 8).map (fun l =>
        BitVec.ofInt 16 (laneIm ((s.eng c e).lane va l) / 2 ^ sh.toNat) ++
          BitVec.ofInt 16 (laneRe ((s.eng c e).lane va l) / 2 ^ sh.toNat))) ∧
      EngGoes s t c e ((s.eng c e).pc + 4) ∧ EngQuiet s t c e)) ∧
  (∀ (s : State) (c : Fin 12) (e : Fin 16) (vd : BitVec 3) (a : BitVec 5), s.slotRuns c e (.vbcast vd a 0) →
    Completes (.engVbcast c e vd a) s (fun t => EngVec s t c e vd (List.replicate 8 ((s.eng c e).gpr a)) ∧
      EngGoes s t c e ((s.eng c e).pc + 4) ∧ EngQuiet s t c e)) ∧
  (∀ (s : State) (c : Fin 12) (e : Fin 16) (vd : BitVec 3) (a : BitVec 5) (k : BitVec 3), s.slotRuns c e (.vins vd a 0 k) →
    Completes (.engVins c e vd a k) s (fun t =>
      EngVec s t c e vd (((s.eng c e).vec vd).set k.toNat ((s.eng c e).gpr a)) ∧
      EngGoes s t c e ((s.eng c e).pc + 4) ∧ EngQuiet s t c e)) ∧
  (∀ (s : State) (c : Fin 12) (e : Fin 16) (d : BitVec 5) (va : BitVec 3) (k : BitVec 3), s.slotRuns c e (.vext d va 0 k) →
    Completes (.engVext c e d va k) s (fun t => EngReg s t c e d ((s.eng c e).lane va k.toNat) ∧
      (t.eng c e).csr = (s.eng c e).csr ∧ EngGoes s t c e ((s.eng c e).pc + 4) ∧ EngQuiet s t c e)) ∧
  (∀ (s : State) (c : Fin 12) (e : Fin 16) (d : BitVec 5) (va : BitVec 3) (im : Bool) (i : Instr),
    s.slotRuns c e (.vsum im d va 0) → ((i = .engVsumr c e d va ∧ im = false) ∨ (i = .engVsumi c e d va ∧ im = true)) →
    Completes i s (fun t => EngReg s t c e d (BitVec.ofInt 32
        (((s.eng c e).vec va).map (fun w => if im then laneIm w else laneRe w)).sum) ∧
      (t.eng c e).csr = (s.eng c e).csr ∧ EngGoes s t c e ((s.eng c e).pc + 4) ∧ EngQuiet s t c e))

/-- The engines' moorings (R398, R399, R402, R409, R421). MSEND of n + 1 words from data memory to a mooring with a free place puts the
message in transit, readable 2 cycles on in its own cluster and 10 in another, and 1 in d; a full mooring gives 0, counted in
cs.msgdrop; a message to the hub is held until TEND and takes effect at the boundary after its tick, at its unit or in its ring. MRECV moves the oldest readable message to data memory, its length to d, or
gives 0; a message with a byte that cannot be corrected traps and stays. MWAIT gives the mask of moorings that hold a message once one named holds one or the budget has passed; until then the task
waits.
It rests on the model's own reading where the spec leaves it open: the choices of log entries 8, 58 and 60.
Commands shown to complete with their own effect, under conditions on state and operands alone: engMsend, engMrecv, engMwait,
mwaitReturn, mooringDelivery. -/
def Obligations.MooringsSendReceiveAndWait : Prop :=
  (∀ (s : State) (c : Fin 12) (e : Fin 16) (d a b : BitVec 5) (n : BitVec 3) (m : MemPort) (from_ dst at_ : Nat) (ws : List Word),
    s.slotRuns c e (.msend d a b n) → ((s.eng c e).gpr b).toNat = from_ → ((s.eng c e).gpr a).toNat = dst →
    from_ % 4 = 0 → 0x10000000 ≤ from_ → from_ + 4 * (n.toNat + 1) ≤ 0x10020000 → m.uncorrectable = false →
    s.engLost c e from_ (4 * (n.toNat + 1)) = false →
    s.destTrap c ((s.eng c e).gpr a) = none → dst < 0x4000 → s.moorFill dst < 16 →
    ws = (List.range (n.toNat + 1)).map (fun k => BitVec.ofNat 32 (s.engRead c e (from_ + 4 * k) 4)) →
    at_ = s.issueCycle c e (.msend d a b n) + (if dst / 1024 = c.val then 2 else 10) →
    Completes (.engMsend c e d a b n m) s (fun t => EngReg s t c e d 1 ∧ (t.eng c e).pc = (s.eng c e).pc + 4 ∧
      t.engine.transit = s.engine.transit ++
        [⟨16 * c.val + e.val, dst, ws, (s.eng c e).tick, (s.eng c e).tick + at_ / 12000, at_ % 12000⟩] ∧
      (t.eng c e).data = (s.eng c e).data ∧ (t.eng c e).csr = (s.eng c e).csr ∧ t.engine.shared = s.engine.shared ∧
      (∀ k, k ≠ 16 * c.val + e.val → tget (fun _ => {}) t.engine.slots k = tget (fun _ => {}) s.engine.slots k))) ∧
  (∀ (s : State) (c : Fin 12) (e : Fin 16) (d a b : BitVec 5) (n : BitVec 3) (m : MemPort) (from_ dst : Nat),
    s.slotRuns c e (.msend d a b n) → ((s.eng c e).gpr b).toNat = from_ → ((s.eng c e).gpr a).toNat = dst →
    from_ % 4 = 0 → 0x10000000 ≤ from_ → from_ + 4 * (n.toNat + 1) ≤ 0x10020000 → m.uncorrectable = false →
    s.engLost c e from_ (4 * (n.toNat + 1)) = false →
    s.destTrap c ((s.eng c e).gpr a) = none → dst < 0x4000 → 16 ≤ s.moorFill dst →
    Completes (.engMsend c e d a b n m) s (fun t => EngReg s t c e d 0 ∧ EngGoes s t c e ((s.eng c e).pc + 4) ∧
      ((t.eng c e).cs 0x031).toNat = min (((s.eng c e).cs 0x031).toNat + 1) 0xFFFFFFFF)) ∧
  (∀ (s : State) (c : Fin 12) (e : Fin 16) (d a : BitVec 5) (k : BitVec 2), s.slotRuns c e (.mrecv d a k) →
    (s.eng c e).messages k.toNat (s.eng c e).tick (s.issueCycle c e (.mrecv d a k)) = [] →
    Completes (.engMrecv c e d a k) s (fun t => EngReg s t c e d 0 ∧ EngGoes s t c e ((s.eng c e).pc + 4) ∧ EngQuiet s t c e)) ∧
  (∀ (s : State) (c : Fin 12) (e : Fin 16) (d a : BitVec 5) (k : BitVec 2) (dst : Nat) (q : Nat × Nat × List Word)
      (rest : List (Nat × Nat × List Word)), s.slotRuns c e (.mrecv d a k) → ((s.eng c e).gpr a).toNat = dst →
    dst % 4 = 0 → 0x10000000 ≤ dst → dst + 4 * q.2.2.length ≤ 0x10020000 → 0 < q.2.2.length →
    (s.eng c e).messages k.toNat (s.eng c e).tick (s.issueCycle c e (.mrecv d a k)) = q :: rest →
    s.mrecvLost c e k.toNat q = none →
    Completes (.engMrecv c e d a k) s (fun t => EngReg s t c e d (BitVec.ofNat 32 q.2.2.length) ∧
      (t.eng c e).pc = (s.eng c e).pc + 4 ∧ (t.eng c e).csr = (s.eng c e).csr ∧
      tget (fun _ => []) (t.eng c e).moor k.toNat = (tget (fun _ => []) (s.eng c e).moor k.toNat).erase q ∧
      (∀ x, t.engByte c e x = if dst ≤ x ∧ x < dst + 4 * q.2.2.length then
        BitVec.ofNat 8 ((q.2.2.getD ((x - dst) / 4) 0).toNat / 2 ^ (8 * ((x - dst) % 4))) else s.engByte c e x) ∧
      t.engine.shared = s.engine.shared ∧ EngQuiet (s.engMarks c e dst (4 * q.2.2.length)) t c e)) ∧
  (∀ (s : State) (c : Fin 12) (e : Fin 16) (d a : BitVec 5) (k : BitVec 2) (dst b : Nat) (q : Nat × Nat × List Word)
      (rest : List (Nat × Nat × List Word)), s.slotRuns c e (.mrecv d a k) → ((s.eng c e).gpr a).toNat = dst →
    dst % 4 = 0 → 0x10000000 ≤ dst → dst + 4 * q.2.2.length ≤ 0x10020000 → 0 < q.2.2.length →
    (s.eng c e).messages k.toNat (s.eng c e).tick (s.issueCycle c e (.mrecv d a k)) = q :: rest →
    s.mrecvLost c e k.toNat q = some b →
    Completes (.engMrecv c e d a k) s (fun t => (t.eng c e).cs 1 = 8 ∧ (t.eng c e).cs 2 = (s.eng c e).pc ∧
      (t.eng c e).moor = (s.eng c e).moor ∧ (t.eng c e).data = (s.eng c e).data ∧ (t.eng c e).g = (s.eng c e).g)) ∧
  (∀ (s : State) (c : Fin 12) (e : Fin 16) (d : BitVec 5) (mask : BitVec 4) (held : Nat), s.slotRuns c e (.mwait d mask) →
    held = (s.eng c e).moorMask (s.issueCycle c e (.mwait d mask)) →
    (held &&& mask.toNat ≠ 0 ∨ ((s.eng c e).cs 0x013).toNat ≤ s.issueCycle c e (.mwait d mask)) →
    Completes (.engMwait c e d mask) s (fun t => EngReg s t c e d (BitVec.ofNat 32 held) ∧ (t.eng c e).csr = (s.eng c e).csr ∧
      EngGoes s t c e ((s.eng c e).pc + 4) ∧ EngQuiet s t c e)) ∧
  (∀ (s : State) (c : Fin 12) (e : Fin 16) (d : BitVec 5) (mask : BitVec 4), s.slotRuns c e (.mwait d mask) →
    (s.eng c e).moorMask (s.issueCycle c e (.mwait d mask)) &&& mask.toNat = 0 →
    s.issueCycle c e (.mwait d mask) < ((s.eng c e).cs 0x013).toNat →
    Completes (.engMwait c e d mask) s (fun t => EngKeepsRegs s t c e ∧ (t.eng c e).waiting = some (d, mask) ∧
      (t.eng c e).running = true ∧ (t.eng c e).pc = (s.eng c e).pc + 4 ∧ EngQuiet s t c e)) ∧
  (∀ (s : State) (c : Fin 12) (e : Fin 16) (d : BitVec 5) (mask : BitVec 4) (k : Nat) (cyc : Nat) (ws : List Word),
    (s.eng c e).waiting = some (d, mask) → (s.eng c e).running = true → k < 4 → mask.getLsbD k = true →
    (s.eng c e).moor = [(k, [((s.eng c e).tick, cyc, ws)])] → (s.eng c e).cycle < cyc → cyc < 9000 →
    cyc ≤ ((s.eng c e).cs 0x013).toNat →
    Completes (.mwaitReturn c e) s (fun t => EngReg s t c e d (BitVec.ofNat 32 (2 ^ k)) ∧ (t.eng c e).cycle + 1 = cyc ∧
      EngGoes s t c e (s.eng c e).pc ∧ (t.eng c e).csr = (s.eng c e).csr ∧ EngQuiet s t c e)) ∧
  (∀ (s : State) (c : Fin 12) (e : Fin 16) (d : BitVec 5) (mask : BitVec 4), (s.eng c e).waiting = some (d, mask) →
    (s.eng c e).running = true → (s.eng c e).moor = [] → (s.eng c e).cycle < ((s.eng c e).cs 0x013).toNat →
    ((s.eng c e).cs 0x013).toNat < 9000 →
    Completes (.mwaitReturn c e) s (fun t => EngReg s t c e d 0 ∧
      (t.eng c e).cycle + 1 = ((s.eng c e).cs 0x013).toNat ∧ EngGoes s t c e (s.eng c e).pc ∧ EngQuiet s t c e)) ∧
  (∀ (s : State) (c : Fin 12) (e : Fin 16) (dest : BitVec 16) (m : EngMsg) (rest : List EngMsg),
    s.engine.transit = m :: rest → m.src = 16 * c.val + e.val → m.dest = dest.toNat → m.dest < 0x4000 →
    Completes (.mooringDelivery c e dest) s (fun t => t.engine.transit = rest ∧ t.regs = s.regs ∧ t.core = s.core ∧
      tget (fun _ => []) (t.eng (m.dest / 1024) (m.dest / 64 % 16)).moor (m.dest % 4) =
        tget (fun _ => []) (s.eng (m.dest / 1024) (m.dest / 64 % 16)).moor (m.dest % 4) ++ [(m.tick, m.cycle, m.words)])) ∧
  (∀ (s : State) (c : Fin 12) (e : Fin 16) (dest : BitVec 16) (m : EngMsg) (rest : List EngMsg),
    s.engine.transit = m :: rest → m.src = 16 * c.val + e.val → m.dest = dest.toNat → 0x4000 ≤ m.dest → m.dest < 0x8000 →
    Completes (.mooringDelivery c e dest) s (fun t =>
      t = { s with engine := { s.engine with transit := rest, gathered := s.engine.gathered ++ [m] } })) ∧
  (∀ (s : State) (m : EngMsg), s.engine.gathered ++ s.engine.transit.filter EngMsg.isOutput = [m] → 0x4000 ≤ m.dest →
    m.dest < 0x4010 → s.outputsLand = { s with
      engine.gathered := [],
      engine.transit := s.engine.transit.filter (fun q => !q.isOutput),
      engine.hubIn := [(m.dest - 0x4000, m.words)] }) ∧
  (∀ (s : State) (m : EngMsg), s.engine.gathered ++ s.engine.transit.filter EngMsg.isOutput = [m] → 0x4010 ≤ m.dest →
    m.dest < 0x4014 → s.outputsLand = ({ s with
      engine.gathered := [],
      engine.transit := s.engine.transit.filter (fun q => !q.isOutput),
      engine.hubIn := [] } : State).ringWrite (4 + (m.dest - 0x4010))
      (ringMsgEntry (m.src / 16) (m.src % 16) m.sent m.words)) ∧
  (∀ (s : State) (c : Fin 12) (e : Fin 16) (dest : BitVec 16), (∀ m ∈ s.engine.transit, m.dest ≠ dest.toNat) →
    NoEffect (.mooringDelivery c e dest) s)
/-- The engines' CSRs (R392, R402, R405, Table 16.5). An access that the mode allows puts the CSR's value in d and, in its writing forms,
puts a, the OR, or the AND with the complement of a in it: cs.flags keeps bits 1:0 and the scratch registers keep all. A read
of a counter's low word latches its high bits. A reserved
number traps with ILLEGAL_INSTRUCTION, one that the mode may not read or write with PRIVILEGE, and the CSR stays.
It rests on the model's own reading where the spec leaves it open: the choices of log entries 58 and 61.
Commands shown to complete with their own effect, under conditions on state and operands alone: engXcsR, engXcsW, engXcsOr,
engXcsAndn. -/
def Obligations.CsrRowsReadAndWriteTheirRegister : Prop :=
  (∀ (s : State) (c : Fin 12) (e : Fin 16) (d a : BitVec 5) (csr : BitVec 12) (w : Bool), s.slotRuns c e (.xcs .r d a csr) →
    s.csrAccess c csr.toNat = some (true, w) → (csr.toNat < 0x100 ∨ 0x120 ≤ csr.toNat) → csr ≠ 0x130 →
    Completes (.engXcsR c e d a csr) s (fun t => (t.eng c e).csr = (s.eng c e).csr ∧
      EngReg s t c e d (s.csrRead c e csr.toNat (s.issueCycle c e (.xcs .r d a csr))) ∧
      EngGoes s t c e ((s.eng c e).pc + 4) ∧ EngQuiet s t c e)) ∧
  (∀ (s : State) (c : Fin 12) (e : Fin 16) (d a : BitVec 5) (w : Bool), s.slotRuns c e (.xcs .r d a 0x100) →
    s.csrAccess c 0x100 = some (true, w) → (s.eng c e).preset = [] →
    Completes (.engXcsR c e d a 0x100) s (fun t => ∃ v,
      v = (s.rdN (ctrKey c e 0) + (s.issueCycle c e (.xcs .r d a 0x100) - (s.eng c e).cycle)) % 2 ^ 48 ∧
      EngReg s t c e d (BitVec.ofNat 32 v) ∧ tget (fun _ => 0) (t.eng c e).latch 0 = v / 2 ^ 32 ∧
      EngGoes s t c e ((s.eng c e).pc + 4) ∧ EngQuiet s t c e)) ∧
  (∀ (s : State) (c : Fin 12) (e : Fin 16) (d a : BitVec 5) (csr : BitVec 12) (f : XcsOp) (x old v : Word)
      (op : Fin 12 → Fin 16 → BitVec 5 → BitVec 5 → BitVec 12 → Instr),
    s.slotRuns c e (.xcs f d a csr) → s.csrAccess c csr.toNat = some (true, true) → (csr = 6 ∨ 0x800 ≤ csr.toNat) →
    (s.eng c e).gpr a = x → (s.eng c e).cs csr.toNat = old →
    ((op = .engXcsW ∧ f = .w ∧ v = x) ∨ (op = .engXcsOr ∧ f = .or ∧ v = old ||| x) ∨
     (op = .engXcsAndn ∧ f = .andn ∧ v = old &&& ~~~x)) →
    Completes (op c e d a csr) s (fun t => EngReg s t c e d old ∧
      (∀ n, (t.eng c e).cs n = if n = csr.toNat then (if csr = 6 then v &&& 3 else v) else (s.eng c e).cs n) ∧
      EngGoes s t c e ((s.eng c e).pc + 4) ∧ EngQuiet s t c e)) ∧
  (∀ (s : State) (c : Fin 12) (e : Fin 16) (d a : BitVec 5) (csr : BitVec 12) (f : XcsOp)
      (op : Fin 12 → Fin 16 → BitVec 5 → BitVec 5 → BitVec 12 → Instr), s.slotRuns c e (.xcs f d a csr) →
    ((op = .engXcsR ∧ f = .r) ∨ (op = .engXcsW ∧ f = .w) ∨ (op = .engXcsOr ∧ f = .or) ∨ (op = .engXcsAndn ∧ f = .andn)) →
    (s.csrAccess c csr.toNat = none →
      Completes (op c e d a csr) s (fun t => (t.eng c e).cs 1 = 1 ∧ (t.eng c e).cs 2 = (s.eng c e).pc ∧
        (t.eng c e).g = (s.eng c e).g)) ∧
    (∀ w, s.csrAccess c csr.toNat = some (false, w) →
      Completes (op c e d a csr) s (fun t => (t.eng c e).cs 1 = 2 ∧ (t.eng c e).cs 2 = (s.eng c e).pc ∧
        (t.eng c e).cs 3 = BitVec.ofNat 32 csr.toNat ∧ (t.eng c e).g = (s.eng c e).g)) ∧
    (f ≠ .r → s.csrAccess c csr.toNat = some (true, false) →
      Completes (op c e d a csr) s (fun t => (t.eng c e).cs 1 = 2 ∧ (t.eng c e).cs 2 = (s.eng c e).pc ∧
        (t.eng c e).cs 3 = BitVec.ofNat 32 csr.toNat ∧ (t.eng c e).g = (s.eng c e).g)))
/-- How a task goes on and ends (R401, R405 to R408, R412, R420 to R423, Table 16.5). NOP goes on by 4, and FENCE once the stores, ATOMs and MSENDs
before it are complete. TEND releases the outputs
and ends the task, counting one whose budget has passed. TRAP takes its trap: in crew mode the task ends with its outputs stale, in
kernel mode it goes to cs.trapbase, or faults the slot in a trap. RESUME goes back to cs.trappc out of the trap; HALT faults the
slot; in crew mode both trap with PRIVILEGE. A word that is no instruction traps with ILLEGAL_INSTRUCTION, one that cannot be
read with MEM_UNCORRECTABLE, a PC outside instruction memory with ADDRESS. A task without TEND by cycle 9,000 is an overrun: its ring
messages are counted stale. A slot without a running task executes nothing.
It rests on the model's own reading where the spec leaves it open: the choices of log entries 4, 13, 58 and 60.
Commands shown to complete with their own effect, under conditions on state and operands alone: engNop, engFence, engTend, engTrap,
engResume, engHalt, tickOverrun. -/
def Obligations.TasksGoOnTrapAndEnd : Prop :=
  (∀ (s : State) (c : Fin 12) (e : Fin 16), s.slotRuns c e .nop →
    Completes (.engNop c e) s (fun t => EngKeepsRegs s t c e ∧ EngGoes s t c e ((s.eng c e).pc + 4) ∧ EngQuiet s t c e ∧
      (t.eng c e).cycle = s.issueCycle c e .nop)) ∧
  (∀ (s : State) (c : Fin 12) (e : Fin 16) (wait : Nat), s.slotRuns c e .fence →
    Completes (.engFence c e wait) s (fun t => EngKeepsRegs s t c e ∧ EngGoes s t c e ((s.eng c e).pc + 4) ∧ EngQuiet s t c e ∧
      (t.eng c e).cycle = s.issueCycle c e .fence + min ((s.eng c e).fenceGap wait (s.issueCycle c e .fence)) (8999 - s.issueCycle c e .fence))) ∧
  (∀ (s : State) (c : Fin 12) (e : Fin 16), s.slotRuns c e .tend →
    Completes (.engTend c e) s (fun t => EngKeepsRegs s t c e ∧ EngQuiet s t c e ∧ (t.eng c e).running = false ∧
      (t.eng c e).out = [] ∧ (t.eng c e).trapRun = 0 ∧ (t.eng c e).overRun = 0 ∧ (t.eng c e).data = (s.eng c e).data ∧
      t.engine.transit = s.engine.transit ++ (s.eng c e).out.map (fun q =>
        ⟨16 * c.val + e.val, 0x4000 + q.1, q.2, (s.eng c e).tick, (s.eng c e).tick, s.issueCycle c e .tend⟩) ∧
      t.rdN (Obj.budgetExceeded c e) = (if ((s.eng c e).cs 0x013).toNat ≤ s.issueCycle c e .tend
        then (s.rdN (Obj.budgetExceeded c e) + 1) % 2 ^ 64 else s.rdN (Obj.budgetExceeded c e)))) ∧
  (∀ (s : State) (c : Fin 12) (e : Fin 16) (code : BitVec 6), s.slotRuns c e (.trap code) → s.crew c = true →
    Completes (.engTrap c e code) s (fun t => (t.eng c e).running = false ∧ (t.eng c e).out = [] ∧ (t.eng c e).cs 1 = 9 ∧
      (t.eng c e).cs 2 = (s.eng c e).pc ∧ (t.eng c e).cs 3 = BitVec.ofNat 32 code.toNat ∧
      (t.eng c e).g = (s.eng c e).g ∧ (t.eng c e).v = (s.eng c e).v ∧ (t.eng c e).data = (s.eng c e).data ∧
      t.rdN (Obj.lastTrapcode c e) = 9 ∧ t.rdN (Obj.lastTrapinfo c e) = code.toNat ∧
      t.rdN (Obj.traps c e) = (s.rdN (Obj.traps c e) + 1) % 2 ^ 64 ∧ t.engine.transit = s.engine.transit ∧
      (s.rdN (Obj.trapLimit c) ≤ (s.eng c e).trapRun + 1 → t.engState c e = 3 ∧
        ⟨0xC0E1, engSource c e, 9, s.core.tick, s.life⟩ ∈ t.core.inFlight) ∧
      ((s.eng c e).trapRun + 1 < s.rdN (Obj.trapLimit c) → t.engState c e = s.engState c e))) ∧
  (∀ (s : State) (c : Fin 12) (e : Fin 16) (code : BitVec 6), s.slotRuns c e (.trap code) → s.crew c = false →
    ((s.eng c e).cs 0).getLsbD 1 = false →
    Completes (.engTrap c e code) s (fun t => (t.eng c e).running = true ∧ (t.eng c e).pc = pcOf ((s.eng c e).cs 4) ∧
      (t.eng c e).cs 1 = 9 ∧ (t.eng c e).cs 2 = (s.eng c e).pc ∧ ((t.eng c e).cs 0).getLsbD 1 = true ∧
      (t.eng c e).g = (s.eng c e).g ∧ t.engState c e = s.engState c e)) ∧
  (∀ (s : State) (c : Fin 12) (e : Fin 16) (code : BitVec 6), s.slotRuns c e (.trap code) → s.crew c = false →
    ((s.eng c e).cs 0).getLsbD 1 = true →
    Completes (.engTrap c e code) s (fun t => (t.eng c e).running = false ∧ t.engState c e = 3 ∧
      t.rdN (Obj.lastTrapcode c e) = 9)) ∧
  (∀ (s : State) (c : Fin 12) (e : Fin 16), s.slotRuns c e .resume → s.crew c = false →
    Completes (.engResume c e) s (fun t => EngGoes s t c e (pcOf ((s.eng c e).cs 2)) ∧ (t.eng c e).g = (s.eng c e).g ∧
      (∀ n, (t.eng c e).cs n = if n = 0 then (s.eng c e).cs 0 &&& ~~~2#32 else (s.eng c e).cs n) ∧
      (∀ k, k / 256 ≠ 0x5400 + 16 * c.val + e.val → t.rd k = s.rd k))) ∧
  (∀ (s : State) (c : Fin 12) (e : Fin 16), s.slotRuns c e .halt → s.crew c = false →
    Completes (.engHalt c e) s (fun t => EngKeepsRegs s t c e ∧ (t.eng c e).running = false ∧ t.engState c e = 3 ∧
      (t.eng c e).out = [] ∧ t.engine.transit = s.engine.transit ∧ t.core = s.core)) ∧
  (∀ (s : State) (c : Fin 12) (e : Fin 16) (i : Instr) (j : EngI), s.slotRuns c e j → s.crew c = true →
    ((i = .engResume c e ∧ j = .resume) ∨ (i = .engHalt c e ∧ j = .halt)) →
    Completes i s (fun t => (t.eng c e).running = false ∧ (t.eng c e).cs 1 = 2 ∧ (t.eng c e).cs 2 = (s.eng c e).pc ∧
      (t.eng c e).g = (s.eng c e).g)) ∧
  (∀ (s : State) (c : Fin 12) (e : Fin 16), s.crew c = true → (s.eng c e).active = true → (s.eng c e).pc.toNat < 0x10000 →
    s.engLost c e (s.eng c e).pc.toNat 4 = false → engDecode (s.engFetch c e) = none → s.issueCycle c e .nop < 9000 →
    Completes (.engNop c e) s (fun t => (t.eng c e).running = false ∧ (t.eng c e).cs 1 = 1 ∧
      (t.eng c e).cs 2 = (s.eng c e).pc ∧ (t.eng c e).cs 3 = s.engFetch c e)) ∧
  (∀ (s : State) (c : Fin 12) (e : Fin 16), (s.eng c e).active = true → s.issueCycle c e .nop < 9000 →
    (0x10000 ≤ (s.eng c e).pc.toNat ∨ s.engLost c e (s.eng c e).pc.toNat 4 = true) →
    Completes (.engNop c e) s (fun t => (t.eng c e).cs 1 = (if 0x10000 ≤ (s.eng c e).pc.toNat then 4 else 8) ∧
      (t.eng c e).cs 2 = (s.eng c e).pc ∧ (t.eng c e).cs 3 = (s.eng c e).pc ∧ (t.eng c e).g = (s.eng c e).g)) ∧
  (∀ (s : State) (c : Fin 12) (e : Fin 16), (s.eng c e).active = false → NoEffect (.engNop c e) s) ∧
  (∀ (s : State) (c : Fin 12) (e : Fin 16), (s.eng c e).running = true →
    Completes (.tickOverrun c e) s (fun t => (t.eng c e).running = false ∧ (t.eng c e).out = [] ∧
      (t.eng c e).overRun = (s.eng c e).overRun + 1 ∧ t.engine.transit = s.engine.transit ∧
      ((s.eng c e).waiting = none → EngKeepsRegs s t c e) ∧ (t.eng c e).v = (s.eng c e).v ∧ (t.eng c e).csr = (s.eng c e).csr ∧
      (∀ d mask, (s.eng c e).waiting = some (d, mask) → ∀ x, x ≠ d → (t.eng c e).gpr x = (s.eng c e).gpr x) ∧
      (∀ p, p < 4 → t.rdN (Obj.staleRingEntries p) = (s.rdN (Obj.staleRingEntries p) +
        ((s.eng c e).out.filter (fun q => decide (q.1 = 16 + p))).length) % 2 ^ 64) ∧
      t.rdN (Obj.slotOverruns c e) = (s.rdN (Obj.slotOverruns c e) + 1) % 2 ^ 64 ∧
      ((s.crew c = true ∧ s.rdN (Obj.trapLimit c) ≤ (s.eng c e).overRun + 1) → t.engState c e = 3 ∧
        ⟨0xC0E1, engSource c e, 0xFF, s.core.tick, s.life⟩ ∈ t.core.inFlight) ∧
      (s.crew c = false → t.engState c e = s.engState c e))) ∧
  (∀ (s : State) (c : Fin 12) (e : Fin 16), (s.eng c e).running = false → NoEffect (.tickOverrun c e) s)
/-- The end of an ENGINE_LOAD (R411, Table 16.10). An image whose header field or CRC fails is refused with its offset and changes no slot;
a good one empties every named slot, fills its instruction and data memory, sets its entry, budget and CRC and makes it LOADED.
Commands shown to complete with their own effect, under conditions on state and operands alone: engineLoadEnd. -/
def Obligations.EngineLoadsCheckTheirImage : Prop :=
  (∀ (s : State) (c : Fin 12) (at_ : Nat), s.rdN (Obj.loadState c) = 1 → s.imageFault = some at_ →
    Completes (.engineLoadEnd c) s (fun t => t.rdN (Obj.loadState c) = 3 ∧ t.rdN (Obj.loadStatus c) = Status.refused ∧
      t.engine.slots = s.engine.slots ∧ t.engine.shared = s.engine.shared ∧
      KeepsRegs [Obj.loadState c, Obj.loadStatus c] s t ∧
      t.core = { s.core with inFlight := s.core.inFlight ++ [⟨0x80E3, 0x5000 + 0x40 * c.val, at_, s.core.tick, s.life⟩] })) ∧
  (∀ (s : State) (c : Fin 12) (e : Fin 16), s.rdN (Obj.loadState c) = 1 → s.imageFault = none →
    tget (fun _ => 0) s.engine.loading c = 2 ^ e.val →
    Completes (.engineLoadEnd c) s (fun t => t.rdN (Obj.loadState c) = 2 ∧ t.rdN (Obj.loadStatus c) = 0 ∧
      t.engState c e = 1 ∧ t.rdN (Obj.budget c e) = s.imgField 20 ∧ t.rdN (Obj.imageCrc c e) = s.imgField 24 ∧
      (t.eng c e).cs 5 = BitVec.ofNat 32 (s.imgField 16) ∧ (t.eng c e).cs 0x013 = BitVec.ofNat 32 (s.imgField 20) ∧
      (∀ k, k < s.imgField 8 → tget (fun _ => 0#8) (t.eng c e).text k = (s.getBar2 (imageBuffer + 64) (s.imgField 8)).getD k 0#8) ∧
      (t.eng c e).g = [] ∧ (t.eng c e).v = [] ∧ (t.eng c e).moor = [] ∧
      (∀ k, k ≠ 16 * c.val + e.val → tget (fun _ => {}) t.engine.slots k = tget (fun _ => {}) s.engine.slots k) ∧
      t.core = { s.core with inFlight := s.core.inFlight ++ [⟨0x40E2, engSource c e, 2 ^ e.val, s.core.tick, s.life⟩] })) ∧
  (∀ (s : State) (c : Fin 12), s.rdN (Obj.loadState c) ≠ 1 → NoEffect (.engineLoadEnd c) s)

/-- What a session's write row does, for every row that writeOf lists (R32 to R34, R45, R49, R57, R58, R60, R80, R97). A write of a staged object
that passes checks 1 to 9 joins the open window, after the earlier ones, an earlier one of its object being counted as overwritten; one
that finds no room waits, counted, with no reply yet; a write of an immediate object has its effect at once; a rejected write replies
with its status and changes nothing else. Before step 6 nothing is served; a request of a closed session is an authentication failure;
a repeated sequence number is counted and not executed. The rows whose whole effect this states are WRITE and the writes of REACH_ENABLE,
AGC_REARM, GROUP_ENABLE, PRE_EMPHASIS, LOADING_MODE, CD_SWAP, CD_MODE, SYNCE_INPUT, the flow and ladder entries, the water marks,
LOCKOUT, FORCE, CLEAR, SLOT_ERASE, PHASE_STEP, ALIGN_NOW, EVENT_SELECT, MODE_REQUEST, the sequence entries, the filters' configuration,
BANK_SWAP and the bias codes.
It rests on the model's own reading where the spec leaves it open: the choices of log entries 10, 30 and 82.
Commands shown to complete with their own effect, under conditions on state and operands alone: reachEnable, agcRearm, groupEnable,
preEmphasis, loadingMode, cdSwap, cdMode, synceInput, flowEntry, ladder, waterMarkWrite, lockout, force, clear, slotErase,
phaseStep, alignNow, eventSelect, modeRequest, seqEntry, filterConfigWrite, bankSwap, biasWrite, writeReq. -/
def Obligations.SessionWritesAreCheckedStagedOrDoneAtOnce : Prop :=
  (∀ (s u : State) (i : Instr) (sess : Fin 17) (seq key : Nat) (words : List Nat) (r : Row) (v : Int),
    writeOf i = some (sess, seq, key, words) → s.takes sess seq → u = s.accepted sess seq →
    u.writeHead sess (key / 256) (key % 256) = .ok r → bodyStatus (key / 256) (key % 256) r (reqWords words) = .ok v →
    (r.staged = true → u.windowTakes (u.stagedEntries (key / 256) (key % 256) v).length = true →
      u.writeTail (key / 256) (key % 256) r v = none →
      Completes i s (fun t => t.core = { s.core with window := s.core.window ++ u.stagedEntries (key / 256) (key % 256) v } ∧
        t.agent.lastReply.status = 0 ∧ t = { s with regs := t.regs, core := t.core, agent := t.agent } ∧
        KeepsRegs [Obj.stagedOverwritten] s t ∧
        (u.stagedEntries (key / 256) (key % 256) v = [⟨key, v⟩] → t.rdN Obj.stagedOverwritten =
          if s.core.window.any (fun w => w.key == key) then (s.rdN Obj.stagedOverwritten + 1) % 2 ^ 64
          else s.rdN Obj.stagedOverwritten))) ∧
    (r.staged = true → u.windowTakes (u.stagedEntries (key / 256) (key % 256) v).length = false →
      Completes i s (fun t => t.core = { s.core with held := s.core.held ++
          [⟨⟨.direct, sess, seq % 2 ^ 32, 2, key / 256 % 65536, key % 256⟩, [⟨key, v⟩]⟩] } ∧
        t.agent = u.agent ∧ t.rdN Obj.deferredWrites = (s.rdN Obj.deferredWrites + 1) % 2 ^ 64 ∧
        KeepsRegs [Obj.deferredWrites] s t)) ∧
    (r.staged = false → u.writeTail (key / 256) (key % 256) r v = none →
      Completes i s (Replied (u.effect sess (key / 256) (key % 256) v (writeMeas i)) · sess seq 0)) ∧
    (∀ e, u.writeTail (key / 256) (key % 256) r v = some e → key ≠ Obj.keyImport →
      (r.staged = false ∨ u.windowTakes (u.stagedEntries (key / 256) (key % 256) v).length = true) →
      Completes i s (Replied u · sess seq e))) ∧
  (∀ (s u : State) (i : Instr) (sess : Fin 17) (seq key : Nat) (words : List Nat) (v : Int),
    ((∃ r w, i = .reachEnable sess seq r w) ∨ (∃ r w, i = .agcRearm sess seq r w) ∨ (∃ r g w, i = .groupEnable sess seq r g w) ∨
      (∃ r c w, i = .preEmphasis sess seq r c w) ∨ (∃ r g w, i = .loadingMode sess seq r g w) ∨ (∃ r w, i = .cdSwap sess seq r w) ∨
      (∃ r w, i = .cdMode sess seq r w) ∨ (∃ b w, i = .synceInput sess seq b w) ∨ (∃ f w, i = .flowEntry sess seq f w) ∨
      (∃ w, i = .ladder sess seq w) ∨ (∃ m w, i = .waterMarkWrite sess seq m w) ∨ (∃ m, i = .lockout sess seq m) ∨
      (∃ m, i = .force sess seq m) ∨ (∃ m, i = .clear sess seq m) ∨ (∃ w, i = .slotErase sess seq w) ∨
      (∃ w, i = .phaseStep sess seq w) ∨ (∃ w, i = .alignNow sess seq w) ∨ (∃ c e n w, i = .eventSelect sess seq c e n w) ∨
      (∃ w, i = .modeRequest sess seq w) ∨ (∃ n w, i = .seqEntry sess seq n w) ∨ (∃ f m w, i = .filterConfigWrite sess seq f m w) ∨
      (∃ f w, i = .bankSwap sess seq f w) ∨ (∃ r j w, i = .biasWrite sess seq r j w) ∨
      (∃ index sub body, i = .writeReq sess seq index sub body)) →
    writeOf i = some (sess, seq, key, words) → s.admits i v true → u = s.accepted sess seq →
    u.windowTakes (u.stagedEntries (key / 256) (key % 256) v).length = true →
    Completes i s (fun t => t.core = { s.core with window := s.core.window ++ u.stagedEntries (key / 256) (key % 256) v } ∧
      t.agent.lastReply.status = 0 ∧ t = { s with regs := t.regs, core := t.core, agent := t.agent } ∧
      KeepsRegs [Obj.stagedOverwritten] s t)) ∧
  (∀ (s u : State) (i : Instr) (sess : Fin 17) (seq key : Nat) (words : List Nat) (r : Row) (e : Nat),
    writeOf i = some (sess, seq, key, words) → s.takes sess seq → u = s.accepted sess seq →
    (u.writeHead sess (key / 256) (key % 256) = .error e ∨
      (u.writeHead sess (key / 256) (key % 256) = .ok r ∧
        bodyStatus (key / 256) (key % 256) r (reqWords words) = .error e)) →
    Completes i s (Replied u · sess seq e)) ∧
  (∀ (s : State) (i : Instr), (writeOf i).isSome = true → s.agent.serving = false → NoEffect i s) ∧
  (∀ (s : State) (i : Instr) (sess : Fin 17) (seq key : Nat) (words : List Nat), writeOf i = some (sess, seq, key, words) →
    s.agent.serving = true → 0 < sess.val → (s.session sess).isOpen = false →
    Completes i s (fun t => t.rdN Obj.authFailures = (s.rdN Obj.authFailures + 1) % 2 ^ 64 ∧ t.agent = s.agent ∧
      t.core.window = s.core.window ∧ KeepsRegs [Obj.authFailures] s t)) ∧
  (∀ (s : State) (i : Instr) (sess : Fin 17) (seq key : Nat) (words : List Nat), writeOf i = some (sess, seq, key, words) →
    s.agent.serving = true → 0 < sess.val → (s.session sess).isOpen = true →
    (s.session sess).accepts (seq % 2 ^ 32) = false →
    Completes i s (fun t => t.rdN Obj.replayed = (s.rdN Obj.replayed + 1) % 2 ^ 64 ∧ t.agent = s.agent ∧ t.core = s.core ∧
      KeepsRegs [Obj.replayed] s t))

/-- What the writes of the start-up, operation, access and assay objects do once admitted (R66, R78, R83, R84, R102, R111, R117, R134 to R136,
R451, R457, R472). COMMIT_NOW and ASSAY_WHEN are commit triggers, merged into the next commit while one is in progress; SHUTDOWN begins
to drain; FIRMWARE_LOAD starts its record; ABORT ends an operation with its status, and leaves the unit of an assay
on demand not tested (R67); a credential is stored, or erased with its sessions;
a new address waits for its reply; ASSAY_RUN begins the assay of its unit, or is not run; SWAP_UNIT asks for the successor.
It rests on the model's own reading where the spec leaves it open: the choices of log entries 10, 48 and 49.
Commands shown to complete with their own effect, under conditions on state and operands alone: commitNow, assayWhenWrite, shutdown,
firmwareLoad, abortOp, credential, credentialErase, mgmtAddressChange, assayRun, swapUnit. -/
def Obligations.HubWritesActAtOnce : Prop :=
  (∀ (s : State) (sess : Fin 17) (seq n : Nat) (c : Commit), s.admits (.commitNow sess seq n) 1 false →
    s.start.started = true → s.start.commit = some c → s.start.nextCommit = none →
    Completes (.commitNow sess seq n) s (fun t => t.start = { s.start with nextCommit := some (6, false) } ∧ t.regs = s.regs)) ∧
  (∀ (s : State) (sess : Fin 17) (seq n : Nat) (v : Int), s.admits (.commitNow sess seq n) v false →
    s.start.started = true → s.start.commit = none →
    Completes (.commitNow sess seq n) s (fun t => t.regs = s.regs ∧
      ∃ c, t.start.commit = some c ∧ t.start = { s.start with commit := some c } ∧ c.cause = 6 ∧ c.clean = false ∧ c.bank = s.nextBank)) ∧
  (∀ (s : State) (sess : Fin 17) (seq n : Nat) (v : Int) (c : Commit), s.admits (.assayWhenWrite sess seq n) v false →
    s.start.started = true → s.start.commit = some c → s.start.nextCommit = none →
    Completes (.assayWhenWrite sess seq n) s (fun t => t.start = { s.start with nextCommit := some (5, false) } ∧
      t.rd Obj.assayWhen = v ∧ KeepsRegs [Obj.assayWhen] s t)) ∧
  (∀ (s : State) (sess : Fin 17) (seq n : Nat) (v : Int), s.admits (.shutdown sess seq n) v false →
    Completes (.shutdown sess seq n) s (fun t => t.rdN Obj.shutdownState = 1 ∧ t.start = { s.start with drainStart := s.core.tick } ∧
      KeepsRegs [Obj.shutdownState] s t)) ∧
  (∀ (s : State) (sess : Fin 17) (seq n : Nat) (v : Int), s.admits (.firmwareLoad sess seq n) v false →
    Completes (.firmwareLoad sess seq n) s (fun t => t.opRunning 6 = true ∧ t.rdN (Obj.opPosition 6) = 0 ∧
      t.rdN (Obj.opPositionEnd 6) = s.imageBytes ∧ t.rdN (Obj.opStartTick 6) = s.core.tick ∧
      t.start = { s.start with fwErased := false, fwWritten := 0 } ∧ t.core = s.core)) ∧
  (∀ (s : State) (sess : Fin 17) (seq n : Nat) (v : Int) (o : Fin 11), (o = 6 ∨ o = 8) → s.admits (.abortOp sess seq o n) v false →
    Completes (.abortOp sess seq o n) s (fun t => t.rdN (Obj.opState o) = 4 ∧ t.rdN (Obj.opLastStatus o) = 0 ∧
      KeepsRegs [Obj.opState o, Obj.opLastStatus o] s t ∧
      t.core = { s.core with inFlight := s.core.inFlight ++ [⟨0x8006, 0x1180 + o.val, 0, s.core.tick, s.life⟩] })) ∧
  (∀ (s : State) (sess : Fin 17) (seq n : Nat) (v : Int), s.admits (.abortOp sess seq 1 n) v false →
    Completes (.abortOp sess seq 1 n) s (fun t => t.rdN (Obj.opState 1) = 4 ∧
      t.integ = { s.integ with assay := none, notTested := t.integ.notTested } ∧
      (∀ u, u ∈ t.integ.notTested ↔ u ∈ s.integ.notTested ∨ s.integ.assay = some ⟨2, u⟩))) ∧
  (∀ (s : State) (sess : Fin 17) (seq n : Nat) (v : Int) (o : Fin 11) (r : Fin 4), o.val = 2 + r.val →
    s.admits (.abortOp sess seq o n) v false →
    Completes (.abortOp sess seq o n) s (fun t => t.cal r = { s.cal r with aborting := 1 } ∧ t.regs = s.regs ∧ t.core = s.core)) ∧
  (∀ (s : State) (sess : Fin 17) (seq n : Nat) (v : Int), s.admits (.abortOp sess seq 10 n) v false →
    Completes (.abortOp sess seq 10 n) s (fun t => t.key = { s.key with batchAbort := true } ∧ t.regs = s.regs)) ∧
  (∀ (s : State) (sess : Fin 17) (seq n id level : Nat) (words : List Nat) (secret : List Byte),
    s.admits (.credential sess seq words) n false → s.credentialOf n = some (id, level, secret) →
    Completes (.credential sess seq words) s (fun t => (id, { level := level, secret := secret }) ∈ t.agent.creds ∧
      (∀ q ∈ t.agent.creds, q.1 = id → q.2 = { level := level, secret := secret }) ∧
      (∀ q, q.1 ≠ id → (q ∈ t.agent.creds ↔ q ∈ s.agent.creds)) ∧ t.regs = s.regs ∧ t.core = s.core)) ∧
  (∀ (s : State) (sess : Fin 17) (seq id : Nat), s.admits (.credentialErase sess seq id) id false →
    Completes (.credentialErase sess seq id) s (fun t => (∀ q, q ∈ t.agent.creds ↔ (q ∈ s.agent.creds ∧ q.1 ≠ id)) ∧
      (∀ k : Fin 17, 0 < k.val → (s.session k).isOpen = true → (s.session k).cred = id → (t.session k).isOpen = false ∧
        ⟨0x4002, 0x1410, 3 * 2 ^ 24 + k.val, s.core.tick, s.life⟩ ∈ t.core.inFlight) ∧ t.regs = s.regs)) ∧
  (∀ (s : State) (sess : Fin 17) (seq sub : Nat) (v : Int) (words : List Nat), 3 ≤ sub → sub ≤ 6 → s.agent.addrChange = [] →
    s.admits (.mgmtAddressChange sess seq sub words) v false →
    Completes (.mgmtAddressChange sess seq sub words) s (fun t => t.rd (objKey 0x1400 sub) = v ∧
      KeepsRegs [objKey 0x1400 sub] s t ∧ t.agent.addrChange = [] ∧ (objKey 0x1400 sub, v) ∈ t.agent.addrInForce)) ∧
  (∀ (s : State) (sess : Fin 17) (seq u : Nat) (pll : Int) (low high : Nat), s.admits (.assayRun sess seq u pll low high) u false →
    pll.natAbs ≤ 200 → 660 ≤ low → high ≤ 740 →
    Completes (.assayRun sess seq u pll low high) s (fun t => t.integ = { s.integ with assay := some ⟨2, u⟩ } ∧
      t.opRunning 1 = true ∧ t.rdN (Obj.opPositionEnd 1) = 1 ∧ t.core = s.core)) ∧
  (∀ (s : State) (sess : Fin 17) (seq u : Nat) (pll : Int) (low high : Nat), s.admits (.assayRun sess seq u pll low high) u false →
    200 < pll.natAbs → 660 ≤ low → high ≤ 740 →
    Completes (.assayRun sess seq u pll low high) s (fun t => t.integ = { s.integ with assay := none } ∧
      t.rdN Obj.assayOutcome = 4 ∧ t.rdN (Obj.opState 1) = 3 ∧ t.rdN (Obj.opLastStatus 1) = Status.refused ∧
      ⟨0x8101, 0x1500, 1, s.core.tick, s.life⟩ ∈ t.core.inFlight)) ∧
  (∀ (s : State) (sess : Fin 17) (seq u k sp : Nat), s.admits (.swapUnit sess seq u) u false → unitKind u = some k →
    s.successor u = some sp → s.start.started = false → s.opRunning 9 = false →
    Completes (.swapUnit sess seq u) s (fun t => t.opRunning 9 = true ∧
      ∃ w : Swap, t.integ.swaps = s.integ.swaps ++ [w] ∧ w.unit = u ∧ w.succ = some sp ∧ w.kind = k ∧ w.commanded = true ∧
        w.batch = 0))
/-- What the writes of the reaches' immediate objects do once admitted (R134 to R136, R144, R149, R159, R168, R176, R187, R254, R304).
TX_OFF_NOW takes every fraction to 0 and the pins off, counted with source 0; TX_OFF_RELEASE clears the sources and turns the transmitter
up again on a released reach; CAL_START asks for a round; a COEFF word counts towards seeding; a written bank loads for four
boundaries; FIXED_APPLY puts the FIXED map forward; a layout, a HISTORY_VALID, a group's peer on both reaches of its unit and a berth
group's layout take their value; a lane that no port covers is off.
It rests on the model's own reading where the spec leaves it open: the choices of log entries 10, 70 and 130.
Commands shown to complete with their own effect, under conditions on state and operands alone: txOffNow, txOffRelease, calStart,
coeffWrite, bankCdWrite, fixedApply, groupLayoutWrite, historyValidWrite, pairedGroupWrite, groupLayout. -/
def Obligations.ReachWritesActAtOnce : Prop :=
  (∀ (s : State) (sess : Fin 17) (seq n : Nat) (v : Int) (r : Fin 4), s.admits (.txOffNow sess seq r n) v false →
    Completes (.txOffNow sess seq r n) s (fun t => t.rdN (Obj.txState r) = 4 ∧ r.val ∉ t.conv.txen ∧ r.val ∉ t.conv.drven ∧
      (∀ sc : Fin 64, t.ramp r sc = {}) ∧
      t.rdN (Obj.txOffSource r) = setBit (s.rdN (Obj.txOffSource r)) 0 true ∧
      t.rdN (Obj.emergencyOffs r) = (s.rdN (Obj.emergencyOffs r) + 1) % 2 ^ 64 ∧
      t.core = { s.core with inFlight := s.core.inFlight ++ [⟨0xC036, 0x2040 + 0x200 * r.val, 0, s.core.tick, s.life⟩] })) ∧
  (∀ (s : State) (sess : Fin 17) (seq n : Nat) (v : Int) (r : Fin 4), s.admits (.txOffRelease sess seq r n) v false →
    s.txState r = 4 →
    Completes (.txOffRelease sess seq r n) s (fun t => t.rdN (Obj.txOffSource r) = 0 ∧ t.rdN (Obj.txState r) = 0 ∧
      t.conv.turnUp = (if s.released (domReach r) then s.conv.turnUp.filter (· != r.val) ++ [r.val] else s.conv.turnUp) ∧
      KeepsRegs [Obj.txOffSource r, Obj.txState r] s t)) ∧
  (∀ (s : State) (sess : Fin 17) (seq n : Nat) (v : Int) (r : Fin 4), s.admits (.calStart sess seq r n) v false →
    Completes (.calStart sess seq r n) s (fun t => t.regs = s.regs ∧ t.core = s.core ∧
      t.cal r = (if s.released (domReach r) then { s.cal r with requested := true, dueAt := s.core.tick + 1 }
        else { s.cal r with startDue := true, byCommand := true, dueAt := s.core.tick + 1 }) ∧
      (∀ k, k ≠ r.val → t.cal k = s.cal k))) ∧
  (∀ (s : State) (sess : Fin 17) (seq : Nat) (v : Int) (r : Fin 4) (k : Fin 8) (slice : Fin 132) (words : List Nat),
    s.admits (.coeffWrite sess seq r k slice words) v false →
    Completes (.coeffWrite sess seq r k slice words) s (fun t => t.rd (Obj.sliceCoeff r k slice) = v ∧
      (132 * k.val + slice.val, v.toNat) ∈ (t.cal r).written ∧ 132 * k.val + slice.val ∉ (t.cal r).measured ∧ KeepsRegs [Obj.sliceCoeff r k slice] s t)) ∧
  (∀ (s : State) (sess : Fin 17) (seq : Nat) (v n : Int) (r : Fin 4), s.admits (.bankCdWrite sess seq r false n) v false →
    Completes (.bankCdWrite sess seq r false n) s (fun t => t.rd (Obj.bankACd r) = v ∧ t.rdN (Obj.bankAState r) = 0 ∧
      t.cd r = { s.cd r with readyA := s.core.tick + 4 } ∧ KeepsRegs [Obj.bankACd r, Obj.bankAState r] s t)) ∧
  (∀ (s : State) (sess : Fin 17) (seq : Nat) (v n : Int) (r : Fin 4), s.admits (.bankCdWrite sess seq r true n) v false →
    Completes (.bankCdWrite sess seq r true n) s (fun t => t.rd (Obj.bankBCd r) = v ∧ t.rdN (Obj.bankBState r) = 0 ∧
      t.cd r = { s.cd r with readyB := s.core.tick + 4 } ∧ KeepsRegs [Obj.bankBCd r, Obj.bankBState r] s t)) ∧
  (∀ (s : State) (sess : Fin 17) (seq n : Nat) (v : Int) (r : Fin 4) (g : Fin 8), s.admits (.fixedApply sess seq r g n) v false →
    Completes (.fixedApply sess seq r g n) s (fun t => t.load r g = { s.load r g with cand := some (s.fixedMap r g), fixedDue := 0 } ∧ t.regs = s.regs ∧
      t.core = s.core)) ∧
  (∀ (s : State) (sess : Fin 17) (seq n : Nat) (v : Int) (r : Fin 4) (g : Fin 8) (count : Bool),
    s.admits (.groupLayoutWrite sess seq r g count n) v false →
    Completes (.groupLayoutWrite sess seq r g count n) s (fun t =>
      t.rd (if count then Obj.subcarrierCount r g else Obj.firstSubcarrier r g) = v ∧ t.core = s.core ∧ t.basin = s.basin)) ∧
  (∀ (s : State) (sess : Fin 17) (seq n : Nat) (v : Int) (r : Fin 4) (g : Fin 8),
    s.admits (.historyValidWrite sess seq r g n) v false →
    Completes (.historyValidWrite sess seq r g n) s (fun t => t.rd (Obj.historyValid r g) = v ∧
      KeepsRegs [Obj.historyValid r g] s t ∧ t.core = s.core)) ∧
  (∀ (s : State) (sess : Fin 17) (seq n : Nat) (v : Int) (r q : Fin 4) (g : Fin 8), s.pairedReach r = some q.val →
    s.admits (.pairedGroupWrite sess seq r g true n) v false →
    Completes (.pairedGroupWrite sess seq r g true n) s (fun t => t.rd (Obj.peerId r g) = v ∧ t.rd (Obj.peerId q g) = v ∧
      KeepsRegs [Obj.peerId r g, Obj.peerId q g] s t ∧ t.core = s.core)) ∧
  (∀ (s : State) (sess : Fin 17) (seq n : Nat) (v : Int) (k : Fin 8), s.admits (.groupLayout sess seq k n) v false →
    Completes (.groupLayout sess seq k n) s (fun t => t.rd (Obj.groupLayout k) = v ∧ t.core = { s.core with inFlight := t.core.inFlight } ∧
      (∀ i, i < 8 → t.portOf (8 * k.val + i) = none → t.rdN (Obj.berthLaneState (8 * k.val + i)) = 0) ∧
      (∀ i, i < 8 → (t.portOf (8 * k.val + i)).isSome = true →
        t.rdN (Obj.berthLaneState (8 * k.val + i)) = s.rdN (Obj.berthLaneState (8 * k.val + i))) ∧
      KeepsRegs (Obj.groupLayout k :: (List.range 8).flatMap (fun i =>
        [Obj.berthLaneState (8 * k.val + i), Obj.synceSquelched (8 * k.val + i)])) s t))

/-- What the writes of the berths', units', key store's and power's immediate objects do once admitted (R269, R295, R319, R336 to R338,
R344, R349, R483, R485, R493). FRAME_INJECT queues its frame; UNIT_MODE starts its unit; KEY_IMPORT stores its key, and a rejected one
is counted; KEY_BATCH_START starts its record; KEY_ROLL of an ACTIVE group makes a roll due; a power request puts its targets in force
and waits for the next boundary in place of one held (R487); WAKE_PEER starts the pattern of every reach it names that is released and hunting.
It rests on the model's own reading where the spec leaves it open: the choices of log entries 10, 57 and 74.
Commands shown to complete with their own effect, under conditions on state and operands alone: frameInject, stockpileReserve,
unitMode, keyImport, keyBatchStart, keyRoll, encryptKeySlotWrite, powerRequestReleased, powerRequestMoored, powerRequestOff,
powerRequestDormant, wakePeer. -/
def Obligations.BerthUnitKeyAndPowerWritesActAtOnce : Prop :=
  (∀ (s : State) (sess : Fin 17) (seq n : Nat) (b : Fin 64) (bytes v : List Byte), s.admits (.frameInject sess seq b bytes) n false →
    v = beBytes 1020 n →
    Completes (.frameInject sess seq b bytes) s (fun t => t.regs = s.regs ∧ t.core = s.core ∧
      (t.port b).inject = (s.port b).inject ++ [⟨hdrField v 4 1, hdrField v 2 2, (v.drop 8).take (hdrField v 0 2)⟩])) ∧
  (∀ (s : State) (sess : Fin 17) (seq n : Nat) (v : Int), s.admits (.stockpileReserve sess seq n) v false →
    Completes (.stockpileReserve sess seq n) s (fun t => t.rd Obj.stockpileReserve = v ∧
      KeepsRegs [Obj.stockpileReserve] s t ∧ t.core = s.core ∧ t.basin = s.basin)) ∧
  (∀ (s : State) (sess : Fin 17) (seq n : Nat) (u : Fin 4), s.admits (.unitMode sess seq u n) n false →
    Completes (.unitMode sess seq u n) s (fun t => t.uMode u = n ∧ t.unit u = { since := s.core.tick } ∧
      t.uState u = (if n = 0 then 0 else if n = 3 then 7 else 1) ∧ t.rdN (Obj.durableSide u) = (if n = 3 then 1 else 0) ∧
      KeepsRegs [Obj.unitMode u, Obj.unitState u, Obj.durableSide u] s t ∧ t.core = s.core)) ∧
  (∀ (s : State) (sess : Fin 17) (seq n k label : Nat) (entry key : List Byte), s.admits (.keyImport sess seq entry) n false →
    s.importRecord (beBytes 60 n) = some (k, 3, label, key) → k < 128 → s.rdN (Obj.keySlotState k) = 0 →
    Completes (.keyImport sess seq entry) s (fun t => t.kslot k = ⟨key, none⟩ ∧ t.rdN (Obj.keySlotState k) = 3 ∧
      t.rdN (Obj.slotLabel k) = label ∧ t.rdN Obj.imports = (s.rdN Obj.imports + 1) % 2 ^ 64 ∧ t.key.grps = s.key.grps ∧
      t.core = { s.core with inFlight := s.core.inFlight ++ [⟨0x40B7, 0x3802, k, s.core.tick, s.life⟩] })) ∧
  (∀ (s u : State) (sess : Fin 17) (seq n : Nat) (entry : List Byte) (r : Row), s.takes sess seq → u = s.accepted sess seq →
    u.writeHead sess 0x3804 1 = .ok r → r.staged = false → bodyStatus 0x3804 1 r (reqWords (bodyOf entry)) = .ok (n : Int) →
    s.importRecord (beBytes 60 n) = none →
    Completes (.keyImport sess seq entry) s (fun t => t.key = s.key ∧ t.agent.lastReply.status = Status.refused ∧
      t.rdN Obj.importFailures = (s.rdN Obj.importFailures + 1) % 2 ^ 64 ∧ KeepsRegs [Obj.importFailures] s t ∧
      t.core = { s.core with inFlight := s.core.inFlight ++ [⟨0x80B6, 0x3804, n / 2 ^ 472, s.core.tick, s.life⟩] })) ∧
  (∀ (s : State) (sess : Fin 17) (seq n : Nat), s.admits (.keyBatchStart sess seq n) n false →
    Completes (.keyBatchStart sess seq n) s (fun t => t.key = { s.key with batchLeft := n, batchDone := 0, batchAbort := false } ∧
      t.opRunning 10 = true ∧ t.rdN (Obj.opPositionEnd 10) = n ∧ t.rdN (Obj.opPosition 10) = 0 ∧ t.core = s.core)) ∧
  (∀ (s : State) (sess : Fin 17) (seq n : Nat) (v : Int) (r : Fin 4) (g : Fin 8), s.admits (.keyRoll sess seq r g n) v false →
    Completes (.keyRoll sess seq r g n) s (fun t => t.regs = s.regs ∧ t.core = s.core ∧
      t.kg r g = (if s.keySt r g = 2 then { s.kg r g with roll := true } else s.kg r g))) ∧
  (∀ (s : State) (sess : Fin 17) (seq n : Nat) (v : Int) (r : Fin 4) (g : Fin 8) (slot : Bool),
    s.admits (.encryptKeySlotWrite sess seq r g slot n) v false →
    Completes (.encryptKeySlotWrite sess seq r g slot n) s (fun t => t.core = s.core ∧ t.key = s.key ∧
      t.rd (if slot then Obj.keySlot r g else Obj.encrypt r g) = v ∧
      KeepsRegs [if slot then Obj.keySlot r g else Obj.encrypt r g] s t)) ∧
  (∀ (s : State) (i : Instr) (sess : Fin 17) (seq n target maskA maskB : Nat) (urgent : Bool) (q : PowReq),
    ((i = .powerRequestReleased sess seq urgent maskA maskB ∧ target = 0) ∨
     (i = .powerRequestMoored sess seq urgent maskA maskB ∧ target = 1) ∨
     (i = .powerRequestOff sess seq urgent maskA maskB ∧ target = 2) ∨
     (i = .powerRequestDormant sess seq urgent maskA maskB ∧ target = 3)) → s.admits i n false →
    q = ⟨target, urgent, maskA % 2 ^ 32, maskB % 2 ^ 32, false⟩ →
    s.power.cur = none → s.power.waiting = none → s.power.pend = none → s.power.leaving = false →
    Completes i s (fun t => t.power = { s.power with waiting := some q } ∧ t.core = s.core ∧
      (∀ d, d ∈ q.domains → d < 37 → t.rdN (Obj.domainTarget d) = if target = 3 then s.rdN (Obj.domainTarget d) else target))) ∧
  (∀ (s : State) (sess : Fin 17) (seq n maskA maskB : Nat) (urgent : Bool) (p : PowReq),
    s.admits (.powerRequestMoored sess seq urgent maskA maskB) n false →
    s.power.cur = none → s.power.waiting = none → s.power.pend = some p → s.power.leaving = false →
    Completes (.powerRequestMoored sess seq urgent maskA maskB) s (fun t =>
      t.power = { s.power with waiting := some ⟨1, urgent, maskA % 2 ^ 32, maskB % 2 ^ 32, false⟩, pend := none })) ∧
  (∀ (s : State) (sess : Fin 17) (seq n : Nat) (r : Fin 4), s.admits (.wakePeer sess seq n) n false → bitOf n r = true →
    s.released (domReach r) = true → s.enabledGroups r = [] →
    Completes (.wakePeer sess seq n) s (fun t => tget (fun _ => 0) t.power.wakeSend r = s.core.tick + 4 * 28800 ∧
      t.regs = s.regs ∧ t.core = s.core))
/-- What the writes of the timing, towpath, engine, supervisory, filter and package objects do once admitted (R372, R379, R381, R386, R411,
R416, R428, R437, R444, R469, R503, R508, R509, R522).
It rests on the model's own reading where the spec leaves it open: the choices of log entries 4, 10, 54 and 67.
Commands shown to complete with their own effect, under conditions on state and operands alone: todAssociate, retrain, loopback,
wakeMate, engineLoad, partitionWrite, overflowClear, inject, filterCoeffWrite, peekAddress, pathSelectGpioWrite, gcInvert,
alarmClear, gpioConfig, twiXfer. -/
def Obligations.TimingLaneEngineAndBoardWritesActAtOnce : Prop :=
  (∀ (s : State) (sess : Fin 17) (seq n : Nat) (value v : List Byte), s.admits (.todAssociate sess seq value) n false →
    v = beBytes 20 n →
    Completes (.todAssociate sess seq value) s (fun t => t.core = s.core ∧ KeepsRegs [Obj.todState] s t ∧
      t.timing = { s.timing with tod := some ⟨hdrField v 0 8, hdrField v 8 6, hdrField v 16 4⟩ } ∧
      (s.rdN Obj.timingState = 0 → t.rdN Obj.todState = 3))) ∧
  (∀ (s : State) (sess : Fin 17) (seq n : Nat) (v : Int) (l : Fin 8), s.admits (.retrain sess seq l n) v false →
    s.laneState l = 2 →
    Completes (.retrain sess seq l n) s (fun t => t.laneState l = 0 ∧ t.rdN (Obj.laneRate l) = 0 ∧
      t.core = { s.core with inFlight := s.core.inFlight ++ [⟨0x80D1, 0x4110 + l.val, 4, s.core.tick, s.life⟩] })) ∧
  (∀ (s : State) (sess : Fin 17) (seq n : Nat) (v : Int) (l : Fin 8), s.admits (.retrain sess seq l n) v false →
    s.laneState l = 3 →
    Completes (.retrain sess seq l n) s (fun t => t.laneState l = 0 ∧ t.rdN (Obj.laneRate l) = 0 ∧
      (t.rdN Obj.messageErrors = s.rdN Obj.messageErrors ∨
        t.rdN Obj.messageErrors = (s.rdN Obj.messageErrors + 1) % 2 ^ 64) ∧
      (⟨0x80D1, 0x4110 + l.val, 4, s.core.tick, s.life⟩ : Event) ∈ t.core.inFlight ∧
      KeepsRegs [Obj.tpLaneState l, Obj.laneRate l, Obj.messageErrors, Obj.lanesInService] s t)) ∧
  (∀ (s : State) (sess : Fin 17) (seq n : Nat) (l : Fin 8), s.admits (.loopback sess seq l n) n false →
    s.rdN (Obj.loopback l) ≠ n → s.laneState l = 2 →
    Completes (.loopback sess seq l n) s (fun t => t.rdN (Obj.loopback l) = n ∧ t.laneState l = 0 ∧
      ⟨0x80D1, 0x4110 + l.val, 4, s.core.tick, s.life⟩ ∈ t.core.inFlight)) ∧
  (∀ (s : State) (sess : Fin 17) (seq n : Nat) (v : Int), s.admits (.wakeMate sess seq n) v false →
    Completes (.wakeMate sess seq n) s (fun t => t.towpath = { s.towpath with wakeUntil := s.core.tick + 1000 } ∧
      (∀ l : Fin 8, t.rdN (Obj.laneRate l) = 0) ∧ KeepsRegs ((List.range 8).map (Obj.laneRate ·)) s t ∧ t.core = s.core)) ∧
  (∀ (s : State) (sess : Fin 17) (seq n : Nat) (c : Fin 12), s.admits (.engineLoad sess seq c n) n false →
    Completes (.engineLoad sess seq c n) s (fun t => t.rdN (Obj.loadState c) = 1 ∧ t.rdN (Obj.loadStatus c) = 0 ∧
      tget (fun _ => 0) t.engine.loading c = n ∧ KeepsRegs [Obj.loadState c, Obj.loadStatus c] s t ∧ t.core = s.core ∧
      t.engine.slots = s.engine.slots)) ∧
  (∀ (s : State) (sess : Fin 17) (seq n : Nat) (p : Fin 4) (count : Bool),
    s.admits (.partitionWrite sess seq p count n) n false →
    Completes (.partitionWrite sess seq p count n) s (fun t => t.agent.lastReply.status = 0 ∧
      t.rdN (if count then Obj.clusterCount p else Obj.firstCluster p) = n)) ∧
  (∀ (s : State) (sess : Fin 17) (seq n : Nat) (c : Fin 12) (e : Fin 16), s.admits (.overflowClear sess seq c e n) n false →
    Completes (.overflowClear sess seq c e n) s (fun t => KeepsRegs [Obj.counterOverflow c e] s t ∧ t.core = s.core ∧
      t.rdN (Obj.counterOverflow c e) = s.rdN (Obj.counterOverflow c e) &&& (511 - n))) ∧
  (∀ (s : State) (sess : Fin 17) (seq n : Nat), s.admits (.inject sess seq n) n false →
    Completes (.inject sess seq n) s (fun t => t.sup = { s.sup with inj := s.sup.inj ++ [(0, n)] } ∧ t.regs = s.regs ∧
      t.core = s.core)) ∧
  (∀ (s : State) (i : Instr) (v : Int) (k : Nat), s.admits i v false →
    ((∃ sess seq f n x, i = .filterCoeffWrite sess seq f n x ∧ k = Obj.filterCoeff f n) ∨
     (∃ sess seq x, i = .peekAddress sess seq x ∧ k = Obj.peekAddress) ∨
     (∃ sess seq u x, i = .pathSelectGpioWrite sess seq u x ∧ k = Obj.pathSelectGpio u) ∨
     (∃ sess seq x, i = .gcInvert sess seq x ∧ k = Obj.gcInvert)) →
    Completes i s (fun t => t.rd k = v ∧ KeepsRegs [k] s t ∧ t.core = s.core ∧ t.board = s.board ∧ t.sup = s.sup)) ∧
  (∀ (s : State) (sess : Fin 17) (seq n : Nat) (v : Int), s.admits (.alarmClear sess seq n) v false →
    Completes (.alarmClear sess seq n) s (fun t => t.rdN Obj.alarmLatch = 0 ∧ KeepsRegs [Obj.alarmLatch] s t ∧ t.core = s.core)) ∧
  (∀ (s : State) (sess : Fin 17) (seq n : Nat) (k : Fin 16), s.admits (.gpioConfig sess seq k n) n false → gpioFunction n ≠ 2 →
    Completes (.gpioConfig sess seq k n) s (fun t => t.rdN (Obj.gpioConfig k) = n ∧ KeepsRegs [Obj.gpioConfig k] s t ∧
      t.core = s.core ∧ t.board = s.board)) ∧
  (∀ (s : State) (sess : Fin 17) (seq n : Nat) (r : Fin 4) (words : List Nat), s.admits (.twiXfer sess seq r words) n false →
    Completes (.twiXfer sess seq r words) s (fun t => t.rdN (Obj.twiResult r) = 2 ^ 152 ∧ KeepsRegs [Obj.twiResult r] s t ∧
      ∃ x : Twi, t.board.twi = s.board.twi ++ [(r.val, x)] ∧ x.addr = n / 2 ^ 152 % 256 ∧ x.reads = n / 2 ^ 136 % 256 ∧
        x.write.length = n / 2 ^ 144 % 256))

/-- Reads (R52, R53, R56, R72, R469). A READ of an entry that exists, may be read and whose unit is powered replies with its value's words;
one that fails a check replies with its status; READ_BLOCK replies with whole entries, the first one first, no more words than asked;
LOG_ENTRY is the entry at the session's LOG_READ_SEQ, which goes on by one; PEEK shows the slot at PEEK_ADDRESS and leaves a free one
alone. Nothing else changes.
It rests on the model's own reading where the spec leaves it open: the choices of log entries 4 and 66.
Commands shown to complete with their own effect, under conditions on state and operands alone: readReq, readBlock, logEntryRead,
peek. -/
def Obligations.ReadsReplyWithTheirValue : Prop :=
  (∀ (s u : State) (sess : Fin 17) (seq idx sub : Nat) (r : Row), s.takes sess seq → u = s.accepted sess seq → idx < 65536 →
    sub < 256 → entryCheck idx sub = .ok r → r.acc ≠ .wo → u.readLevel idx sub ≤ u.levelOf sess → u.ownerOff idx = false →
    ¬ (canonIdx idx = 0x1300 ∧ sub = 4) → idx ≠ 0x3530 →
    Completes (.readReq sess seq idx sub []) s (fun t => Replied u t sess seq 0 ∧
      t.agent.lastReply.words = r.ty.encode ((u.computed sess idx sub).getD (u.rd (objKey idx sub))))) ∧
  (∀ (s u : State) (sess : Fin 17) (seq idx sub : Nat) (body : List Nat) (r : Row), s.takes sess seq → u = s.accepted sess seq →
    idx < 65536 → sub < 256 →
    (∀ e, entryCheck idx sub = .error e → Completes (.readReq sess seq idx sub body) s (Replied u · sess seq e)) ∧
    (entryCheck idx sub = .ok r →
      (r.acc = .wo → Completes (.readReq sess seq idx sub body) s (Replied u · sess seq Status.writeOnly)) ∧
      (r.acc ≠ .wo → u.levelOf sess < u.readLevel idx sub →
        Completes (.readReq sess seq idx sub body) s (Replied u · sess seq Status.accessDenied)) ∧
      (r.acc ≠ .wo → u.readLevel idx sub ≤ u.levelOf sess → u.ownerOff idx = true → body = [] →
        Completes (.readReq sess seq idx sub body) s (Replied u · sess seq Status.unitOff)))) ∧
  (∀ (s u : State) (sess : Fin 17) (seq idx sub w : Nat) (r : Row), s.takes sess seq → u = s.accepted sess seq → idx < 65536 →
    sub < 256 → entryCheck idx sub = .ok r → r.acc ≠ .wo → u.readLevel idx sub ≤ u.levelOf sess → u.ownerOff idx = false →
    canonIdx idx ≠ 0x1300 → idx ≠ 0x3530 → r.ty.words ≤ w → w < 256 →
    Completes (.readBlock sess seq idx sub [w]) s (fun t => Replied u t sess seq 0 ∧ t.agent.lastReply.words.length ≤ w ∧
      ∃ rest, t.agent.lastReply.words = r.ty.encode ((u.computed sess idx sub).getD (u.rd (objKey idx sub))) ++ rest)) ∧
  (∀ (s u : State) (sess : Fin 17) (seq : Nat) (e : LogEntry), s.takes sess seq → u = s.accepted sess seq →
    s.core.log.find? (fun x => x.seq == (s.session sess).logReadSeq) = some e →
    (s.session sess).logReadSeq ∉ s.integ.logBad →
    Completes (.logEntryRead sess seq) s (fun t => t = { s with agent := t.agent } ∧ t.agent.lastReply.status = 0 ∧
      t.agent.lastReply.words = octetWords 24 (beNat e.bytes) ∧
      (t.session sess).logReadSeq =
        (if (s.session sess).logReadSeq = 2 ^ 32 - 1 then 1 else (s.session sess).logReadSeq + 1))) ∧
  (∀ (s u : State) (sess : Fin 17) (seq : Nat) (noise : List (Nat × Byte)), s.takes sess seq → u = s.accepted sess seq →
    s.slotState (slotBase * (s.rdN Obj.peekAddress / 2 ^ 32) + s.rdN Obj.peekAddress % 2 ^ 32) = 0 →
    Completes (.peek sess seq noise) s (fun t => Replied u t sess seq 0 ∧
      t.agent.lastReply.words = octetWords 16 (beNat (u.peekBytes noise))))
/-- Blocks and subscriptions (R57, R61, R73). A WRITE_BLOCK of two staged entries joins the window in ascending order; one with an entry that
fails one of checks 1 to 3 replies with its status and sub-index, and none of it has effect. SUBSCRIBE sets the
slot its first word names, whatever that word's reserved bits hold (R6).
It rests on the model's own reading where the spec leaves it open: the choices of log entries 73 and 96.
Commands shown to complete with their own effect, under conditions on state and operands alone: writeBlock, subscribe. -/
def Obligations.BlocksAreWholeAndSubscriptionsAreKept : Prop :=
  (∀ (s u : State) (sess : Fin 17) (seq idx sub : Nat) (body ws ws' : List Nat) (r r' : Row) (v v' : Int), s.takes sess seq →
    u = s.accepted sess seq → idx < 65536 → sub + 1 ≤ entryCount idx → entryCount idx < 256 → (∀ w ∈ body, w < 2 ^ 32) →
    body.length < 256 →
    splitBlock idx (entryCount idx) 256 sub body = ([(sub, ws), (sub + 1, ws')], false) →
    u.writeHead sess idx sub = .ok r → u.writeHead sess idx (sub + 1) = .ok r' → r.staged = true → r'.staged = true →
    bodyStatus idx sub r ws = .ok v → bodyStatus idx (sub + 1) r' ws' = .ok v' →
    (∀ x : State, x.stagedEntries idx sub v = [⟨objKey idx sub, v⟩] ∧
      x.stagedEntries idx (sub + 1) v' = [⟨objKey idx (sub + 1), v'⟩]) →
    (∀ win, u.windowTakes 2 = true ∧ u.writeTail idx sub r v = none ∧
      ({ u with core := { u.core with window := win } } : State).writeTail idx (sub + 1) r' v' = none) →
    s.core.window.any (fun w => w.key == objKey idx sub) = false →
    s.core.window.any (fun w => w.key == objKey idx (sub + 1)) = false →
    Completes (.writeBlock sess seq idx sub body) s (fun t => t.regs = s.regs ∧ t.agent.lastReply.status = 0 ∧
      t.core = { s.core with window := s.core.window ++ [⟨objKey idx sub, v⟩, ⟨objKey idx (sub + 1), v'⟩] })) ∧
  (∀ (s u : State) (sess : Fin 17) (seq idx sub e bad : Nat) (body : List Nat) (parts : List (Nat × List Nat)) (long : Bool)
      (k : Option Nat), s.takes sess seq → u = s.accepted sess seq → idx < 65536 → sub ≤ entryCount idx → entryCount idx < 256 →
    (∀ w ∈ body, w < 2 ^ 32) → body.length < 256 → splitBlock idx (entryCount idx) 256 sub body = (parts, long) →
    u.blockHead sess idx parts = .error (e, bad, k) →
    Completes (.writeBlock sess seq idx sub body) s (fun t => Replied u t sess seq e ∧ t.agent.lastReply.words = [bad])) ∧
  (∀ (s u : State) (sess : Fin 17) (seq a b : Nat), s.takes sess seq → u = s.accepted sess seq → b < 2 ^ 32 → a < 8 * 2 ^ 24 →
    Completes (.subscribe sess seq [a, b]) s (fun t => t = { s with agent := t.agent } ∧ t.agent.lastReply.status = 0 ∧
      (a / 2 ^ 24, { enable := bitOf a 0, minSev := a / 2 ^ 8 % 4, source := b / 2 ^ 16, mask := b % 2 ^ 16 }) ∈
        (t.session sess).subs)) ∧
  (∀ (s u : State) (sess : Fin 17) (seq a b : Nat), s.takes sess seq → u = s.accepted sess seq → a < 2 ^ 32 → b < 2 ^ 32 →
    8 * 2 ^ 24 ≤ a → Completes (.subscribe sess seq [a, b]) s (Replied u · sess seq Status.outOfRange))
/-- Sessions (R75, R79 to R84). OPEN with a known credential and a good MAC opens the lowest free session at the credential's level, with its
key; an unknown credential and a full table are refused, a bad MAC is counted. CLOSE, IDLE_TIMEOUT and the last sequence number end
a session. A RETRY of a kept request gets its reply again and executes nothing. A datagram of an open session with a good MAC is
served and answered where it came from; one that is no message is dropped;
either ends a DORMANT request in progress where WAKE_ENABLE names that source (R494).
It rests on the model's own reading where the spec leaves it open: the choices of log entries 31, 40 and 75.
Commands shown to complete with their own effect, under conditions on state and operands alone: openSession, closeSession,
sessionIdleTimeout, requestRetry, uandatenDatagramRx. -/
def Obligations.SessionsOpenCloseAndRepeat : Prop :=
  (∀ (s : State) (cred seq n : Nat) (nonce mac : List Byte) (k : Credential), s.agent.serving = true → cred < 256 →
    s.agent.creds.find? (fun c => c.1 == cred) = some (cred, k) → nonce.length = 16 → s.freeSession = some n →
    mac = macUnder k.secret (openBytes cred nonce seq) →
    Completes (.openSession cred nonce seq mac) s (fun t => (t.session n).isOpen = true ∧ (t.session n).cred = cred ∧
      (t.session n).level = k.level ∧ (t.session n).hi = 0 ∧ (t.session n).lastTick = s.core.tick ∧
      (t.session n).key = hmacSha256 k.secret (([0x55, 0x41, 0x4E, 0x44, 0x41, 0x54, 0x45, 0x4E, 0x2D, 0x53] : List Byte) ++
        beBytes 1 cred ++ nonce ++ Config.entropy s.key.draws) ∧
      (∀ j, j ≠ n → t.session j = s.session j) ∧ t.agent.lastReply.status = 0 ∧ t.regs = s.regs ∧
      t.core = { s.core with inFlight := s.core.inFlight ++ [⟨0x4001, 0x1410, cred * 65536 + n, s.core.tick, s.life⟩] })) ∧
  (∀ (s : State) (cred seq : Nat) (nonce mac : List Byte), s.agent.serving = true → cred < 256 →
    s.agent.creds.find? (fun c => c.1 == cred) = none →
    Completes (.openSession cred nonce seq mac) s (fun t => t = { s with agent := t.agent } ∧
      t.agent.lastReply.status = Status.unknownCredential ∧ t.agent.sessions = s.agent.sessions)) ∧
  (∀ (s : State) (cred seq : Nat) (nonce mac : List Byte) (k : Credential), s.agent.serving = true → cred < 256 →
    s.agent.creds.find? (fun c => c.1 == cred) = some (cred, k) → nonce.length = 16 → s.freeSession = none →
    mac = macUnder k.secret (openBytes cred nonce seq) →
    Completes (.openSession cred nonce seq mac) s (fun t => t = { s with agent := t.agent } ∧
      t.agent.lastReply.status = Status.sessionLimit ∧ t.agent.sessions = s.agent.sessions)) ∧
  (∀ (s : State) (cred seq : Nat) (nonce mac : List Byte) (k : Credential), s.agent.serving = true → cred < 256 →
    s.agent.creds.find? (fun c => c.1 == cred) = some (cred, k) →
    (∀ c ∈ s.agent.creds, c.1 = cred → mac ≠ macUnder c.2.secret (openBytes cred nonce seq)) →
    Completes (.openSession cred nonce seq mac) s (fun t => t.agent = s.agent ∧
      t.rdN Obj.authFailures = (s.rdN Obj.authFailures + 1) % 2 ^ 64)) ∧
  (∀ (s : State) (sess : Fin 17) (seq : Nat), 0 < sess.val → s.takes sess seq →
    Completes (.closeSession sess seq) s (fun t => t.session sess = {} ∧ t.agent.lastReply.status = 0 ∧ t.regs = s.regs ∧
      (∀ j, j ≠ sess.val → t.session j = s.session j) ∧
      t.core = { s.core with inFlight := s.core.inFlight ++ [⟨0x4002, 0x1410, sess.val, s.core.tick, s.life⟩] })) ∧
  (∀ (s : State) (sess : Fin 17), 0 < sess.val → (s.session sess).isOpen = true →
    (s.session sess).lastTick + s.rdN Obj.idleTimeout ≤ s.core.tick →
    Completes (.sessionIdleTimeout sess) s (fun t => t.session sess = {} ∧ t.regs = s.regs ∧
      (∀ j, j ≠ sess.val → t.session j = s.session j) ∧
      t.core = { s.core with inFlight := s.core.inFlight ++ [⟨0x4002, 0x1410, 2 ^ 24 + sess.val, s.core.tick, s.life⟩] })) ∧
  (∀ (s : State) (sess : Fin 17), s.core.tick < (s.session sess).lastTick + s.rdN Obj.idleTimeout →
    NoEffect (.sessionIdleTimeout sess) s) ∧
  (∀ (s : State) (sess : Fin 17) (p : Reply) (rest : List Reply), s.agent.serving = true → 0 < sess.val →
    (s.session sess).isOpen = true → (s.session sess).kept = p :: rest → p.seq < 2 ^ 32 →
    (s.session sess).accepts p.seq = false →
    Completes (.requestRetry sess p.seq) s (fun t => t = { s with agent := { s.agent with lastReply := p } })) ∧
  (∀ (s : State) (addr port : Nat) (bytes : List Byte) (m : Msg) (k : Fin 17), s.power.dormant = false → s.agent.serving = true →
    parseMsg true bytes = some m → m.opcode = 8 → m.sess = k.val → 0 < k.val → (s.session k).isOpen = true →
    m.mac = (hmacSha256 (s.session k).key m.signed).take 16 → bitOf m.flags 2 = false →
    (s.session k).accepts m.seq = true → m.seq < 2 ^ 32 - 1 →
    (bitOf (s.rdN Obj.wakeEnable) 0 = false ∨ (s.power.dormantCommitted = false ∧ ∀ q ∈ s.power.cur, q.target ≠ 3)) →
    Completes (.uandatenDatagramRx addr port false bytes) s (fun t => t.session k = {} ∧ t.agent.lastReply.status = 0 ∧
      t.agent.lastReply.seq = m.seq ∧ t.regs = s.regs ∧
      ∃ x, t.agent.outbox = s.agent.outbox ++ [x] ∧ x.via = .udp addr port)) ∧
  (∀ (s : State) (addr port : Nat) (fragment : Bool) (bytes : List Byte), s.power.dormant = false →
    (s.agent.serving = false ∨ fragment = true ∨ parseMsg true bytes = none) →
    (bitOf (s.rdN Obj.wakeEnable) 0 = false ∨ (s.power.dormantCommitted = false ∧ ∀ q ∈ s.power.cur, q.target ≠ 3)) →
    NoEffect (.uandatenDatagramRx addr port fragment bytes) s) ∧
  (∀ (s : State) (addr port : Nat) (fragment : Bool) (bytes : List Byte) (q : PowReq), s.power.dormant = false →
    s.power.dormantCommitted = false → s.power.cur = some q → q.target = 3 → bitOf (s.rdN Obj.wakeEnable) 0 = true →
    (s.agent.serving = false ∨ fragment = true ∨ parseMsg true bytes = none) →
    Completes (.uandatenDatagramRx addr port fragment bytes) s (fun t =>
      t.power = { s.power with cur := none, draining := [], committed := false } ∧ t.agent = s.agent ∧
      (⟨0x8111, 0x1200, 7 * 2 ^ 24, s.core.tick, s.life⟩ : Event) ∈ t.core.inFlight ∧ t.rdN Obj.powerState ≠ 2))

/-- The host port's mailbox and rings (R85 to R87, R91, R97, Tables 3.13 to 3.15b). A submit of a free slot sets BUSY, and waits for step 6;
one of a slot that is busy or done sets ERROR; a slot that holds no message is freed (log entry 31). DONE and ERROR are cleared by
writing 1. A ring's TAIL moves up to its HEAD and no further. A message area keeps what is written; read-only space ignores it.
It rests on the model's own reading where the spec leaves it open: the choices of log entries 31, 33 and 82.
Commands shown to complete with their own effect, under conditions on state and operands alone: mbxSubmit, mbxDoneClear,
mbxErrorClear, pcieLinkUp, ringTailWrite, bar0RegisterWrite. -/
def Obligations.MailboxesAndRingsFollowTheirRegisters : Prop :=
  (∀ (s : State) (n : Nat), n < 4 → bitOf (s.bar 0x4) n = false → bitOf (s.bar 0x8) n = false → s.agent.serving = false →
    Completes (.mbxSubmit (2 ^ n)) s (fun t => bitOf (t.bar 0x4) n = true ∧ t.agent.heldSlots = s.agent.heldSlots ++ [n] ∧
      (∀ off, off / 4 ≠ 1 → t.bar off = s.bar off) ∧ t.regs = s.regs ∧ t.core = s.core)) ∧
  (∀ (s : State) (n : Nat), n < 4 → (bitOf (s.bar 0x4) n = true ∨ bitOf (s.bar 0x8) n = true) →
    Completes (.mbxSubmit (2 ^ n)) s (fun t => bitOf (t.bar 0xC) n = true ∧ (∀ off, off / 4 ≠ 3 → t.bar off = s.bar off) ∧
      t.agent.heldSlots = s.agent.heldSlots ∧ t.regs = s.regs ∧ t.core = s.core)) ∧
  (∀ (s : State) (n : Nat), n < 4 → bitOf (s.bar 0x4) n = false → bitOf (s.bar 0x8) n = false → s.agent.serving = true →
    parseMsg false (s.barBytes (0x1000 * (n + 1)) 512) = none →
    Completes (.mbxSubmit (2 ^ n)) s (fun t => bitOf (t.bar 0x4) n = false ∧ bitOf (t.bar 0x8) n = false ∧
      t.agent.lastReply = s.agent.lastReply ∧ t.regs = s.regs)) ∧
  (∀ (s : State) (bits : Nat), Completes (.mbxDoneClear bits) s (fun t => t = { s with agent := t.agent } ∧
    (∀ n, n < 4 → bitOf (t.bar 0x8) n = (bitOf (s.bar 0x8) n && !bitOf bits n)) ∧
    (∀ off, off / 4 ≠ 2 → t.bar off = s.bar off))) ∧
  (∀ (s : State) (bits : Nat), Completes (.mbxErrorClear bits) s (fun t => t = { s with agent := t.agent } ∧
    (∀ n, n < 4 → bitOf (t.bar 0xC) n = (bitOf (s.bar 0xC) n && !bitOf bits n)) ∧
    (∀ off, off / 4 ≠ 3 → t.bar off = s.bar off))) ∧
  (∀ (s : State), s.agent.serving = false →
    Completes .pcieLinkUp s (fun t => t = { s with agent := { s.agent with pcieUp := true } })) ∧
  (∀ (s : State) (q : Fin 16) (v : Nat), v < 2 ^ 32 →
    (s.bar (ringHeadOff q) + 2 ^ 32 - v) % 2 ^ 32 ≤ ringCapacity q →
    Completes (.ringTailWrite q v) s (fun t => t.bar (ringTailOff q) = v ∧ t = { s with agent := t.agent } ∧
      (∀ off, off / 4 ≠ ringTailOff q / 4 → t.bar off = s.bar off))) ∧
  (∀ (s : State) (q : Fin 16) (v : Nat), v < 2 ^ 32 →
    ringCapacity q < (s.bar (ringHeadOff q) + 2 ^ 32 - v) % 2 ^ 32 → NoEffect (.ringTailWrite q v) s) ∧
  (∀ (s : State) (off v : Nat), off % 4 = 0 → 0x1000 ≤ off → off < 0x5000 →
    Completes (.bar0RegisterWrite off v) s (fun t => t.bar off = v % 2 ^ 32 ∧ t = { s with agent := t.agent } ∧
      (∀ o, o / 4 ≠ off / 4 → t.bar o = s.bar o))) ∧
  (∀ (s : State) (off v : Nat), (off = 0x4 ∨ off = 0x10 ∨ 0x9000 ≤ off) → NoEffect (.bar0RegisterWrite off v) s)
/-- The DMA channels (R90, R91, Table 3.15a). An enabled channel with a valid ring size takes the next descriptor where its RING_TAIL
stands apart from its RING_HEAD; its end advances the head, counts and shows its status, and a bad address or length halts the
channel; RESET of a channel that is not enabled takes both pointers to 0. A descriptor is the 32 little-endian bytes that the host's
memory holds at RING_BASE + 32 × RING_HEAD; at its end its STATUS word is written there, after what the copy itself writes.
It rests on the model's own reading where the spec leaves it open: the choice of log entry 4.
Commands shown to complete with their own effect, under conditions on state and operands alone: channelEnable, channelReset,
dmaRingTailWrite, dmaDescriptorDone. -/
def Obligations.DmaChannelsWorkTheirRings : Prop :=
  (∀ (s : State) (n : Fin 8) (bs : List Byte), s.dmaOn n = false → dmaSizeOk (s.bar (dmaOff n + 8)) = true →
    s.dmaFlight n = none → s.bar (dmaOff n + 0xC) ≠ s.bar (dmaOff n + 0x10) →
    Completes (.channelEnable n true bs) s (fun t => t.dmaOn n = true ∧
      t.agent.dma = s.agent.dma ++ [(n.val, readDescriptor
        (s.bar (dmaOff n + 4) * 2 ^ 32 + s.bar (dmaOff n) + 32 * s.bar (dmaOff n + 0xC)) bs)] ∧
      n.val ∉ t.agent.dmaHalted ∧ t = { s with agent := t.agent })) ∧
  (∀ (s : State) (n : Fin 8) (bs : List Byte), Completes (.channelEnable n false bs) s (fun t => t.dmaOn n = false ∧
    t.agent.dma = s.agent.dma ∧ t = { s with agent := t.agent })) ∧
  (∀ (s : State) (n : Fin 8) (bs : List Byte), dmaSizeOk (s.bar (dmaOff n + 8)) = false →
    NoEffect (.channelEnable n true bs) s) ∧
  (∀ (s : State) (n : Fin 8), s.dmaOn n = false →
    Completes (.channelReset n) s (fun t => t.bar (dmaOff n + 0xC) = 0 ∧ t.bar (dmaOff n + 0x10) = 0 ∧
      t = { s with agent := t.agent } ∧
      (∀ o, o / 4 ≠ (dmaOff n + 0xC) / 4 → o / 4 ≠ (dmaOff n + 0x10) / 4 → t.bar o = s.bar o))) ∧
  (∀ (s : State) (n : Fin 8), s.dmaOn n = true → NoEffect (.channelReset n) s) ∧
  (∀ (s : State) (n : Fin 8) (v : Nat) (bs : List Byte), s.dmaOn n = true → v < 2 ^ 32 → v ≠ s.bar (dmaOff n + 0xC) →
    n.val ∉ s.agent.dmaHalted → s.dmaFlight n = none →
    Completes (.dmaRingTailWrite n v bs) s (fun t => t.bar (dmaOff n + 0x10) = v ∧
      t.agent.dma = s.agent.dma ++ [(n.val, readDescriptor
        (s.bar (dmaOff n + 4) * 2 ^ 32 + s.bar (dmaOff n) + 32 * s.bar (dmaOff n + 0xC)) bs)] ∧
      t = { s with agent := t.agent })) ∧
  (∀ (ring : Nat) (bs : List Byte), readDescriptor ring bs = ⟨ring, leNat (bs.take 8), leNat ((bs.drop 8).take 4),
    leNat ((bs.drop 12).take 4), bitOf (leNat ((bs.drop 16).take 4)) 0, bitOf (leNat ((bs.drop 16).take 4)) 1⟩) ∧
  (∀ (s : State) (n : Fin 8) (d : DmaDescriptor) (data next : List Byte), s.dmaFlight n = some d → descriptorGood d = true →
    d.toBar2 = false → d.irq = false → s.dmaOn n = false →
    Completes (.dmaDescriptorDone n data next) s (fun t => t.dmaFlight n = none ∧ t.bar (dmaOff n + 0x18) = 0 ∧
      t.bar (dmaOff n + 0xC) = (s.bar (dmaOff n + 0xC) + 1) % max 1 (s.bar (dmaOff n + 8)) % 2 ^ 32 ∧
      t.bar (dmaOff n + 0x1C) = (s.bar (dmaOff n + 0x1C) + 1) % 2 ^ 32 ∧ t.agent.bar2 = s.agent.bar2 ∧
      t.agent.hostMem = s.agent.hostMem ++ [⟨d.hostAddr, s.getBar2 d.bar2Offset d.length⟩, ⟨d.ring + 20, [0, 0, 0, 0]⟩] ∧
      t = { s with agent := t.agent })) ∧
  (∀ (s : State) (n : Fin 8) (d : DmaDescriptor) (data next : List Byte), s.dmaFlight n = some d → descriptorGood d = true →
    d.toBar2 = true → d.irq = false → s.dmaOn n = false → s.imageLocked = false → data.length = d.length →
    Completes (.dmaDescriptorDone n data next) s (fun t => t.dmaFlight n = none ∧ t.bar (dmaOff n + 0x18) = 0 ∧
      t.getBar2 d.bar2Offset d.length = data ∧ t.agent.hostMem = s.agent.hostMem ++ [⟨d.ring + 20, [0, 0, 0, 0]⟩] ∧
      t = { s with agent := t.agent })) ∧
  (∀ (s : State) (n : Fin 8) (d : DmaDescriptor) (data next : List Byte), s.dmaFlight n = some d → descriptorGood d = false →
    d.irq = false →
    Completes (.dmaDescriptorDone n data next) s (fun t => t.dmaFlight n = none ∧
      t.bar (dmaOff n + 0x18) = 256 * Status.refused ∧ n.val ∈ t.agent.dmaHalted ∧ t.agent.bar2 = s.agent.bar2 ∧
      t.agent.hostMem = s.agent.hostMem ++ [⟨d.ring + 20, leBytes 4 Status.refused⟩])) ∧
  (∀ (s : State) (n : Fin 8) (data next : List Byte), s.dmaFlight n = none →
    NoEffect (.dmaDescriptorDone n data next) s)
/-- The management link, the tick's crossings and the event log (R18, R32, R41, R42, R59, R68, R73, R84, R231). A change of the management link is
shown where it wakes nothing. The window closes before its boundary, which fixes the domains due; then the marker names the next boundary. Each chamber has
a place of its own; it delivers a value and launches the newest that waits, counting those between. A source's tally delivers the
difference of its counters modulo 2^16, and so many of the events on their way from that source into the log, in order, each with its
argument; who asked is notified, and an alarm sets the latch. The boundary's tally brings each other domain the last boundary once. A rate-limit period that held events back ends with one
that carries their count.
It rests on the model's own reading where the spec leaves it open: the choices of log entries 32, 72 and 97.
Commands shown to complete with their own effect, under conditions on state and operands alone: mgmtLinkUpChange,
stagingWindowClose, tickMarkerSend, chamberDelivery, tallyDelivery, rateLimitPeriodEnd. -/
def Obligations.CrossingsDeliverAndTheLogKeepsEvents : Prop :=
  (∀ (s : State) (up : Bool), s.power.dormant = false → s.rdN Obj.linkUp ≠ (if up then 1 else 0) →
    (bitOf (s.rdN Obj.wakeEnable) 0 = false ∨ (s.power.dormantCommitted = false ∧ ∀ q ∈ s.power.cur, q.target ≠ 3)) →
    Completes (.mgmtLinkUpChange up) s (fun t => t.rdN Obj.linkUp = (if up then 1 else 0) ∧ KeepsRegs [Obj.linkUp] s t ∧
      t.core = s.core ∧ t.agent = s.agent)) ∧
  (∀ (s : State), s.core.windowOpen = true →
    Completes .stagingWindowClose s (fun t => t.core.windowOpen = false ∧ t.core.window = s.core.window ∧
      t.core.held = s.core.held ∧ t.core.due = (List.range 37).filter s.releaseDue ∧ t.regs = s.regs)) ∧
  (∀ (s : State), s.core.windowOpen = false → NoEffect .stagingWindowClose s) ∧
  (∀ (s : State), s.core.running = true → s.core.windowOpen = false → s.power.dormant = false → s.timing.advance = none →
    Completes .tickMarkerSend s (fun t => t = { s with core := { s.core with marker := some (s.core.tick + 1) } })) ∧
  (∀ (s : State), (s.core.running = false ∨ s.core.windowOpen = true ∨ s.power.dormant = true) → NoEffect .tickMarkerSend s) ∧
  (∀ a b : ChamberAt, ChamberAt.key a = ChamberAt.key b → a = b) ∧
  (∀ (s : State) (ch : ChamberAt) (v : Nat), (tget (fun _ => {}) s.core.chambers (ChamberAt.key ch) : Chamber).busy = false →
    (tget (fun _ => {}) s.core.chambers (ChamberAt.key ch) : Chamber).waiting = none →
    Completes (.chamberDelivery ch [v]) s (fun t =>
      tget (fun _ => {}) t.core.chambers (ChamberAt.key ch) =
        { (tget (fun _ => {}) s.core.chambers (ChamberAt.key ch) : Chamber) with value := v, delivered := v } ∧
      (∀ k, k ≠ ChamberAt.key ch → tget (fun _ => {}) t.core.chambers k = (tget (fun _ => {}) s.core.chambers k : Chamber)))) ∧
  (∀ (s : State) (ch : ChamberAt) (a b c : Nat), (tget (fun _ => {}) s.core.chambers (ChamberAt.key ch) : Chamber) = {} →
    Completes (.chamberDelivery ch [a, b, c]) s (fun t =>
      tget (fun _ => {}) t.core.chambers (ChamberAt.key ch) = (⟨true, c, none, a⟩ : Chamber) ∧
      t.rdN Obj.chamberSuperseded = (s.rdN Obj.chamberSuperseded + 1) % 2 ^ 64 ∧ KeepsRegs [Obj.chamberSuperseded] s t)) ∧
  (∀ (s : State) (source n : Nat) (x : Tally), (∀ e ∈ s.core.inFlight, e.source ≠ source) →
    x = tget (fun _ => {}) s.core.tallies source → x.src < 2 ^ 16 →
    (∀ k, k < 17 → (s.session k).queue = []) → (∀ k, k < 17 → (s.session k).lost = false) →
    Completes (.tallyDelivery (.log source) n) s (fun t =>
      tget (fun _ => {}) t.core.tallies source = (⟨x.src, x.src, x.total + (x.src + 2 ^ 16 - x.dst) % 2 ^ 16⟩ : Tally) ∧
      (∀ k, k ≠ source → tget (fun _ => {}) t.core.tallies k = (tget (fun _ => {}) s.core.tallies k : Tally)) ∧
      t.rdN Obj.tallyMaxStep = max (s.rdN Obj.tallyMaxStep) ((x.src + 2 ^ 16 - x.dst) % 2 ^ 16) % 2 ^ 64 ∧
      t.core.inFlight = s.core.inFlight ∧ t.core.log = s.core.log)) ∧
  (∀ (s : State) (d : Fin 92), s.core.boundarySent ≠ 0 → d.val ∉ s.core.boundaryGot →
    Completes (.tallyDelivery (.boundary d) 1) s (fun t => t.core = { s.core with boundaryGot := s.core.boundaryGot ++ [d.val] } ∧
      t.rdN Obj.tallyMaxStep = max (s.rdN Obj.tallyMaxStep) 1 % 2 ^ 64 ∧ KeepsRegs [Obj.tallyMaxStep] s t)) ∧
  (∀ (s : State) (d : Fin 92) (n : Nat), (s.core.boundarySent = 0 ∨ d.val ∈ s.core.boundaryGot) →
    NoEffect (.tallyDelivery (.boundary d) n) s) ∧
  (∀ (s : State) (n : Nat) (e : Event), s.core.inFlight = [e] → 0 < n → s.core.log.length < 4096 → s.core.nextSeq < 2 ^ 32 - 1 →
    (∀ k, k < 17 → (s.session k).wants e = false ∧ (s.session k).queue = []) →
    Completes (.tallyDelivery (.log e.source) n) s (fun t => t.core.inFlight = [] ∧ t.core.log = s.core.log ++ [⟨s.core.nextSeq, e⟩] ∧
      t.core.nextSeq = s.core.nextSeq + 1 ∧ t.agent = s.agent ∧
      ((tget (fun _ => {}) s.core.chambers (ChamberAt.key (.argument e.source)) : Chamber) = {} →
        (tget (fun _ => {}) t.core.chambers (ChamberAt.key (.argument e.source)) : Chamber) = (⟨false, e.arg, none, e.arg⟩ : Chamber)) ∧
      t.rdN Obj.alarmLatch = (if severity e.code = 3 then 1 else s.rdN Obj.alarmLatch) ∧
      KeepsRegs [Obj.alarmLatch, Obj.tallyMaxStep] s t)) ∧
  (∀ (s : State) (n : Nat) (j : Fin 17) (addr port : Nat) (e : Event), s.core.inFlight = [e] → 0 < n →
    s.core.log.length < 4096 →
    0 < j.val → (s.session j).isOpen = true → (s.session j).via = .udp addr port → (s.session j).wants e = true →
    (∀ k, k < 17 → k ≠ j.val → (s.session k).wants e = false) → (∀ k, k < 17 → (s.session k).queue = []) →
    (s.session j).lost = false →
    Completes (.tallyDelivery (.log e.source) n) s (fun t => (t.session j).queue = [] ∧
      (t.session j).notifySeq = (s.session j).notifySeq % (2 ^ 32 - 1) + 1 ∧
      t.agent.outbox = s.agent.outbox ++ [⟨.udp addr port,
        (notifyOf j (s.session j).notifySeq false ⟨s.core.nextSeq, e⟩).bytes ++
          macUnder (s.session j).key (notifyOf j (s.session j).notifySeq false ⟨s.core.nextSeq, e⟩).bytes⟩])) ∧
  (∀ (s : State) (code src : Nat) (l : RateLimit), s.core.limits = [l] → l.code = code → l.source = src →
    l.ends ≤ s.core.tick → l.held = 0 →
    Completes (.rateLimitPeriodEnd code src) s (fun t => t = { s with core := { s.core with limits := [] } })) ∧
  (∀ (s : State) (code src : Nat) (l : RateLimit), s.core.limits = [l] → l.code = code → l.source = src →
    l.ends ≤ s.core.tick → 0 < l.held →
    Completes (.rateLimitPeriodEnd code src) s (fun t => t = { s with core := { s.core with
      limits := [⟨code, src, l.item, s.core.tick + 100000, 0, l.last⟩],
      inFlight := s.core.inFlight ++ [⟨code, src, limitedArg code l.held l.last, s.core.tick, s.life⟩] } })) ∧
  (∀ (s : State) (code src : Nat), (∀ l ∈ s.core.limits, s.core.tick < l.ends) → NoEffect (.rateLimitPeriodEnd code src) s)
/-- The tick boundary (R11, R27, R31, R35, R36, R491). There is none in reset, and in DORMANT only the always-on domain counts. Otherwise the count
goes on by one, or stands at the first boundary, and goes to the other domains by their tallies; the window of the boundary is applied and
a new one opens: what a reach die holds takes its change at the boundary the marker names, and waits while none came. A staged write of an object
that simply holds its value takes it in its step; of a unit that is off it is dropped and counted from step 3 on.
It rests on the model's own reading where the spec leaves it open: the choices of log entries 8, 9, 20, 30 and 99.
Commands shown to complete with their own effect, under conditions on state and operands alone: tickBoundary. -/
def Obligations.TheBoundaryCountsTheTickAndOpensTheWindow : Prop :=
  (∀ (s : State) (i : BoundaryInput), (s.start.inReset = true ∨ s.board.noOsc = true ∨ s.board.hot = true) →
    NoEffect (.tickBoundary i) s) ∧
  (∀ (s : State) (i : BoundaryInput), s.start.inReset = false → s.board.noOsc = false → s.board.hot = false →
    s.power.dormant = true → s.core.running = true → s.timing.advance = none →
    Completes (.tickBoundary i) s (fun t => t.core.tick = s.core.tick + 1 ∧ t.agent = s.agent ∧ t.basin = s.basin ∧
      t.core.boundaryGot = [] ∧ t.core.window = s.core.window ∧ t.core.windowOpen = s.core.windowOpen ∧ t.berth = s.berth ∧ t.conv = s.conv ∧ t.engine = s.engine ∧ t.key = s.key)) ∧
  (∀ (s : State) (i : BoundaryInput), s.start.inReset = false → s.board.noOsc = false → s.board.hot = false →
    s.power.dormant = false → s.timing.advance = none → s.core.held = [] →
    Completes (.tickBoundary i) s (fun t => t.core.windowOpen = true ∧ t.core.held = [] ∧ t.core.marker = none ∧ t.core.boundaryGot = [] ∧
      t.core.window = s.core.window.filter (fun w => !(s.core.marker == some s.nextTick.core.tick || !onReachDie (w.key / 256))) ∧
      t.core.tick = (if s.core.running then s.core.tick + 1 else s.core.tick))) ∧
  (∀ (s : State) (w : StagedWrite) (n : Nat), (w.key = Obj.modeRequest ∨ w.key = Obj.highWater ∨ w.key = Obj.cdMode 0) →
    stepOfWrite w.key = n → s.ownerOff (w.key / 256) = false →
    (s.applyStep [w] n).rd w.key = w.val ∧ KeepsRegs [w.key, Obj.stagedApplied] s (s.applyStep [w] n) ∧
      (s.applyStep [w] n).rdN Obj.stagedApplied = (s.rdN Obj.stagedApplied + 1) % 2 ^ 64) ∧
  (∀ (s : State) (w : StagedWrite) (n : Nat), 3 ≤ n → stepOfWrite w.key = n → s.ownerOff (w.key / 256) = true →
    KeepsRegs [Obj.stagedDropped] s (s.applyStep [w] n) ∧
      (s.applyStep [w] n).rdN Obj.stagedDropped = (s.rdN Obj.stagedDropped + 1) % 2 ^ 64 ∧
      (s.applyStep [w] n).core = { s.core with inFlight := s.core.inFlight ++ [⟨0x8011, 0x40C0, w.key, s.core.tick, s.life⟩] })

/-- The supervisory converter's slots (R432, R434, R437, R439). With nothing converted yet, the head of the injection list is converted from
the tick's start, in a slot of 20 TREF cycles in full mode; the end of a slot counts its conversion and
shows its result, and the next slot starts where it ended, in the tick it ended in, or at the tick in progress if that is later. A request of the keeper takes the general place, unless
it is taken (R437).
It rests on the model's own reading where the spec leaves it open: the choices of log entries 63 and 67.
Commands shown to complete with their own effect, under conditions on state and operands alone: conversionSlot. -/
def Obligations.ConversionSlotsFollowEachOther : Prop :=
  (∀ (s : State) (code : BitVec 16) (place ch : Nat) (rest : List (Nat × Nat)), s.sup.now = none → s.sup.inj = (place, ch) :: rest →
    s.rdN Obj.modeInForce = 0 →
    Completes (.conversionSlot code {} 0) s (fun t => t.sup.inj = rest ∧ t.core = s.core ∧
      t.sup.now = some { kind := 2, channel := ch, place := place, tick := s.core.tick, phase := 0, len := 20 })) ∧
  (∀ (s : State) (code : BitVec 16) (keeper : KeeperSlot) (drained : Nat) (c : Conv), s.sup.now = some c → c.kind ≠ 3 → c.channel < 96 →
    Completes (.conversionSlot code keeper drained) s (fun t =>
      t.rdN Obj.conversions = (s.rdN Obj.conversions + 1) % 2 ^ 64 ∧
      t.rdN (Obj.latest c.channel) = resultWord c.channel c.settling (c.kind == 2) (s.noSource c.channel)
        (if s.noSource c.channel then 0 else code.toNat) ∧
      ∃ q, t.sup.now = some q ∧ q.tick = max s.core.tick (c.tick + (c.phase + c.len) / 400) ∧
        q.phase = (c.phase + c.len) % 400)) ∧
  (∀ (s : State) (code : BitVec 16) (ch : Nat), s.sup.inj = [] → ch < 96 →
    Completes (.conversionSlot code { inject := some ch } 0) s (fun t =>
      ∃ q, t.sup.now = some q ∧ q.kind = 2 ∧ q.channel = ch ∧ q.place = 0)) ∧
  (∀ (s : State) (code : BitVec 16) (ch drained : Nat), (s.injectBusy = true ∨ 96 ≤ ch) →
    exec (.conversionSlot code { inject := some ch } drained) s = exec (.conversionSlot code {} drained) s) ∧
  (∀ (s : State) (code : BitVec 16) (c : Conv), s.sup.now = some c → c.kind = 3 →
    Completes (.conversionSlot code {} 0) s (fun t => t.rdN Obj.conversions = s.rdN Obj.conversions ∧ t.core = s.core ∧
      ∃ q, t.sup.now = some q ∧ q.phase = (c.phase + c.len) % 400))
/-- Memory integrity and the stockpile (R459, R462, R465 to R468, R470, R471, R473, R475). A scrub reads its group’s bytes in ascending order
and counts what it corrects or cannot correct; the last byte ends a lap with its time; a group that is off is not read. The rake goes on to the
next slot of a port that is UP, counting what it corrects, or drops where the slot was written since (R466), and poisoning what it cannot: more than six changed bytes, a failed WORD_CHECK or a reserved STATE; its last slot ends the pass. A page whose copy and commit have ended is retired, counted and announced. Failures are served in order:
a spare that fails is retired alone. An engine's state is copied in the tick after the commit.
It rests on the model's own reading where the spec leaves it open: the choices of log entries 64, 65, 66, 68, 69 and 85.
Commands shown to complete with their own effect, under conditions on state and operands alone: scrubRead, rakeRead,
basinPageRetired, stockpileFailure, engineStateCopy. -/
def Obligations.ScrubRakeAndStockpileGoOn : Prop :=
  (∀ (s : State) (m : Fin 22) (addr owner : Nat) (lost : List Nat), s.groupPowered m = true → s.byteLost m addr = false →
    addr = tget (fun _ => 0) s.integ.scrubAt m →
    Completes (.scrubRead m addr 0 true owner lost) s (fun t =>
      t.rdN (Obj.lapTicks m) = s.core.tick - (tget (fun _ => (0, 0)) s.integ.laps m : Nat × Nat).2 ∧
      tget (fun _ => (0, 0)) t.integ.laps m = ((tget (fun _ => (0, 0)) s.integ.laps m : Nat × Nat).1 + 1, s.core.tick) ∧
      tget (fun _ => 0) t.integ.scrubAt m = 0 ∧ KeepsRegs [Obj.lapTicks m] s t ∧ t.core = s.core)) ∧
  (∀ (s : State) (m : Fin 22) (addr owner : Nat) (lost : List Nat), s.groupPowered m = true → s.byteLost m addr = false →
    addr = tget (fun _ => 0) s.integ.scrubAt m →
    Completes (.scrubRead m addr 1 false owner lost) s (fun t =>
      t.rdN (Obj.corrections m) = (s.rdN (Obj.corrections m) + 1) % 2 ^ 64 ∧
      t.rdN (Obj.uncorrectable m) = s.rdN (Obj.uncorrectable m) ∧ tget (fun _ => 0) t.integ.scrubAt m = addr + 1)) ∧
  (∀ (s : State) (m : Fin 22) (addr owner : Nat) (o : Fin 3) (lost : List Nat), s.groupPowered m = true →
    addr = tget (fun _ => 0) s.integ.scrubAt m → (o = 2 ∨ (s.byteLost m addr = true ∧ m ≠ 21)) →
    Completes (.scrubRead m addr o false owner lost) s (fun t =>
      t.rdN (Obj.uncorrectable m) = (s.rdN (Obj.uncorrectable m) + 1) % 2 ^ 64 ∧ KeepsRegs [Obj.uncorrectable m] s t ∧
      t.byteLost m addr = true ∧ tget (fun _ => 0) t.integ.scrubAt m = addr + 1 ∧ (m = 21 → owner ∈ t.integ.logBad))) ∧
  (∀ (s : State) (m : Fin 22) (addr owner : Nat) (o : Fin 3) (last : Bool) (lost : List Nat),
    (s.groupPowered m = false ∨ addr ≠ tget (fun _ => 0) s.integ.scrubAt m) →
    NoEffect (.scrubRead m addr o last owner lost) s) ∧
  (∀ (s : State) (gen p n : Nat), s.opRunning 8 = true → s.rakeSlot = some (p, n) →
    (rakeNext (s.upPorts.map (fun p => (p, s.rdN (Obj.slots p)))) (p, n + 1)).isSome = true →
    s.integ.rakeAt + 1 < s.rdN (Obj.opPositionEnd 8) → (∀ q ∈ s.basin.slots, q.2.st < 4) →
    Completes (.rakeRead [] gen) s (fun t =>
      t.integ = { s.integ with rakeAt := s.integ.rakeAt + 1, rakePlace := (p, n + 1) } ∧
      t.rdN (Obj.opPosition 8) = max (s.rdN (Obj.opPosition 8)) (s.integ.rakeAt + 1) ∧ t.opRunning 8 = true ∧
      KeepsRegs [Obj.opPosition 8, Obj.opPercent 8] s t ∧ t.basin = s.basin ∧ t.core = s.core)) ∧
  (∀ (ports : List (Nat × Nat)) (k q : Nat × Nat), ports.Pairwise (fun x y => x.1 < y.1) → rakeNext ports k = some q →
    (∃ c, (q.1, c) ∈ ports ∧ q.2 < c) ∧ (k.1 < q.1 ∨ (k.1 = q.1 ∧ k.2 ≤ q.2))) ∧
  (∀ (ports : List (Nat × Nat)) (k q x : Nat × Nat) (m : Nat), ports.Pairwise (fun x y => x.1 < y.1) →
    rakeNext ports k = some q → x ∈ ports → m < x.2 → (k.1 < x.1 ∨ (k.1 = x.1 ∧ k.2 ≤ m)) →
    (q.1 < x.1 ∨ (q.1 = x.1 ∧ q.2 ≤ m))) ∧
  (∀ (s : State) (noise : List (Nat × Byte)) (gen p n : Nat) (rd : SlotRead), s.opRunning 8 = true → p < 8 →
    s.rakeSlot = some (p, n) →
    n / 4096 ∉ (s.bport p).retired → (s.slot (slotBase * p + n)).st ≠ 3 → (s.slot (slotBase * p + n)).read noise = rd →
    rd.bad = false → 0 < rd.errs →
    Completes (.rakeRead noise gen) s (fun t => t.rdN (Obj.correctedSlots p) = (s.rdN (Obj.correctedSlots p) + 1) % 2 ^ 64 ∧
      (let key := if gen = (s.slot (slotBase * p + n)).gen then Obj.rakeCorrected else Obj.rakeWritebacksDropped
       let other := if gen = (s.slot (slotBase * p + n)).gen then Obj.rakeWritebacksDropped else Obj.rakeCorrected
       t.rdN key = (s.rdN key + 1) % 2 ^ 64 ∧ t.rdN other = s.rdN other) ∧ t.basin.slots = s.basin.slots ∧
      t.integ.rakeAt = s.integ.rakeAt + 1)) ∧
  (∀ (s : State) (noise : List (Nat × Byte)) (gen p n : Nat) (rd : SlotRead), s.opRunning 8 = true → p < 8 → n < slotBase →
    s.rakeSlot = some (p, n) →
    n / 4096 ∉ (s.bport p).retired → (s.slot (slotBase * p + n)).st ≠ 3 → (s.slot (slotBase * p + n)).read noise = rd →
    rd.bad = true → s.durableFlows = [] →
    Completes (.rakeRead noise gen) s (fun t => (t.slot (slotBase * p + n)).st = 3 ∧
      (t.slot (slotBase * p + n)).gen = genNext (s.slot (slotBase * p + n)).gen ∧
      t.rdN (Obj.poisonedSlots p) = (s.rdN (Obj.poisonedSlots p) + 1) % 2 ^ 64 ∧
      t.rdN Obj.rakePoisoned = (s.rdN Obj.rakePoisoned + 1) % 2 ^ 64 ∧ t.integ.rakeAt = s.integ.rakeAt + 1)) ∧
  (∀ x : Slot, x.st < 4 → x.read [] = ⟨0, slotWord x.gen x.st (x.cellBytes.take 4), false⟩) ∧
  (∀ (x : Slot) (noise : List (Nat × Byte)),
    (6 < (x.read noise).errs ∨ 4 ≤ bitsOf (x.read noise).word 15 12 ∨
      bitsOf (x.read noise).word 11 0 ≠
        wordCheck ((x.read noise).word / 65536) (bitsOf (x.read noise).word 15 12) (x.cellBytes.take 4)) →
    (x.read noise).bad = true) ∧
  (∀ (s : State) (gen : Nat), s.opRunning 8 = true → (∀ q ∈ s.basin.slots, q.2.st < 4) →
    (∀ q ∈ s.rakeSlot, rakeNext (s.upPorts.map (fun p => (p, s.rdN (Obj.slots p)))) (q.1, q.2 + 1) = none) →
    Completes (.rakeRead [] gen) s (fun t => t.rdN (Obj.opState 8) = 2 ∧ t.rdN (Obj.opPercent 8) = 10000 ∧
      t.rdN Obj.rakeLapTicks = s.core.tick - s.rdN (Obj.opStartTick 8) ∧
      t.core = { s.core with inFlight := s.core.inFlight ++ [⟨0x4005, 0x1188, 0, s.core.tick, s.life⟩] })) ∧
  (∀ (s : State) (noise : List (Nat × Byte)) (gen : Nat), s.opRunning 8 = false → NoEffect (.rakeRead noise gen) s) ∧
  (∀ (s : State) (p : Fin 8) (page v : Nat) (w : Swap), s.integ.swaps = [w] → w.kind = 5 → w.unit = pageBase * p.val + page →
    w.valid.isSome = true → w.succ = some v →
    Completes (.basinPageRetired p page) s (fun t => (t.bport p).retired = (s.bport p).retired ++ [page] ∧
      t.integ.swaps = [] ∧ t.rdN Obj.retiredPages = s.rdN Obj.retiredPages + 1 ∧
      ⟨0x8106, 0x3520 + p.val, page, s.core.tick, s.life⟩ ∈ t.core.inFlight)) ∧
  (∀ (s : State) (p : Fin 8) (page : Nat), (∀ w ∈ s.integ.swaps, w.kind = 5 → w.unit ≠ pageBase * p.val + page) →
    NoEffect (.basinPageRetired p page) s) ∧
  (∀ (s : State) (u k : Nat) (rest : List Nat), s.integ.reported = u :: rest → unitKind u = some k → s.unitRetired u = false →
    s.unitSpare u = true → s.integ.swaps = [] → s.integ.late = [] → s.start.started = false →
    Completes (.stockpileFailure none) s (fun t => t.integ.reported = rest ∧ t.integ.swaps = [{ kind := k, unit := u }] ∧
      t.opRunning 9 = true ∧ t.core = s.core)) ∧
  (∀ (s : State), s.integ.reported = [] → NoEffect (.stockpileFailure none) s) ∧
  (∀ (s : State) (c : Fin 12) (w : Swap) (n : Nat), s.integ.swaps = [w] → w.kind = 3 → (w.unit - 0x1300) / 17 = c.val →
    w.valid = some n → n < s.core.tick →
    Completes (.engineStateCopy c) s (fun t =>
      t = { s with integ := { s.integ with swaps := [{ w with copied := true }] } }))

/-- Power steps, DORMANT and wake (R485, R488, R491 to R494). A tick after the commit to OFF the domain's switch opens; 100 ticks after it
closes the domain is MOORED; a request still refused at DRAIN_LIMIT is refused whole. DORMANT entry opens every switch and the hub's,
ends the request and counts; an enabled wake source ends DORMANT at step 3 with its cause, and supersedes a DORMANT request not yet
committed; one that is not enabled does nothing, nor does a reach's signal
that has not stood above WAKE_LEVEL for 1,000 ticks, a lane of a berth group without a port, or fewer than 8 WAKE sets at 1.25 Gb/s
(Table 20.6). A wake pattern's word wakes where every bit, by its half of the full energy, is as in 0xA5C3. The wake pattern ends on
time.
It rests on the model's own reading where the spec leaves it open: the choices of log entries 39, 40, 46 and 86.
Commands shown to complete with their own effect, under conditions on state and operands alone: powerSwitchOpen, domainPowered,
drainLimitExpiry, dormantEntry, wake, wakePatternWord, wakePatternEnd. -/
def Obligations.PowerStepsDormantAndWake : Prop :=
  (∀ (s : State) (d : Fin 37) (a : Nat), s.power.opening = [(d.val, a)] → a + 1 ≤ s.core.tick →
    Completes (.powerSwitchOpen d) s (fun t => t.dom d = 0 ∧ t.power.opening = [] ∧ (∀ k, k ≠ d.val → t.dom k = s.dom k))) ∧
  (∀ (s : State) (d : Fin 37), (∀ o ∈ s.power.opening, o.1 = d.val → s.core.tick < o.2 + 1) → NoEffect (.powerSwitchOpen d) s) ∧
  (∀ (s : State) (d : Fin 37) (a : Nat), s.power.powering = [(d.val, a)] → a + 100 ≤ s.core.tick →
    Completes (.domainPowered d) s (fun t => t.dom d = 2 ∧ t.power.powering = [] ∧ (∀ k, k ≠ d.val → t.dom k = s.dom k))) ∧
  (∀ (s : State) (d : Fin 37), (∀ o ∈ s.power.powering, o.1 = d.val → s.core.tick < o.2 + 100) → NoEffect (.domainPowered d) s) ∧
  (∀ (s : State) (q : PowReq) (k id : Nat), s.power.cur = some q → q.urgent = false →
    s.power.since + s.rdN Obj.drainLimit ≤ s.core.tick → firstRefuser ((s.refusers q).filter waitedFor) = some (k, id) →
    Completes .drainLimitExpiry s (fun t => t.power.cur = none ∧ t.power.draining = [] ∧ t.power.committed = false ∧
      t.power.dom = s.power.dom ∧ ⟨0x8111, 0x1200, 2 ^ 24 * k + id % 2 ^ 24, s.core.tick, s.life⟩ ∈ t.core.inFlight)) ∧
  (∀ (s : State), s.power.cur = none → NoEffect .drainLimitExpiry s) ∧
  (∀ (s : State), s.power.dormantCommitted = true → s.power.since + 1 ≤ s.core.tick → s.power.wakeWaiting = none →
    Completes .dormantEntry s (fun t => t.power.dormant = true ∧ t.power.dormantCommitted = false ∧ t.power.cur = none ∧
      (∀ d, d < 37 → t.dom d = 0) ∧ t.agent.serving = false ∧ t.start.wdArmed = false ∧
      t.rdN Obj.dormantEntries = (s.rdN Obj.dormantEntries + 1) % 2 ^ 64 ∧
      t.rdN Obj.requestsDone = (s.rdN Obj.requestsDone + 1) % 2 ^ 64 ∧
      ⟨0x4112, 0x1200, 3, s.core.tick, s.life⟩ ∈ t.core.inFlight)) ∧
  (∀ (s : State), s.power.dormantCommitted = false → NoEffect .dormantEntry s) ∧
  (∀ (s : State) (k : WakeSource), s.power.dormant = true → bitOf (s.rdN Obj.wakeEnable) k.bit = true →
    s.wakeDetected k = true →
    Completes (.wake k) s (fun t => t.power.dormant = false ∧ t.power.leaving = true ∧ t.start.step = 3 ∧
      t.rdN Obj.wakeCause = k.bit ∧ t.core.tick = s.core.tick ∧ t.core.log = s.core.log ∧ t.basin = s.basin)) ∧
  (∀ (s : State) (k : WakeSource) (q : PowReq), s.power.dormant = false → s.power.dormantCommitted = false →
    s.power.cur = some q → q.target = 3 → bitOf (s.rdN Obj.wakeEnable) k.bit = true →
    s.wakeDetected k = true →
    Completes (.wake k) s (fun t => t.power.cur = none ∧ t.power.draining = [] ∧ t.power.dom = s.power.dom)) ∧
  (∀ (s : State) (k : WakeSource), bitOf (s.rdN Obj.wakeEnable) k.bit = false → NoEffect (.wake k) s) ∧
  (∀ (s : State) (r : Fin 4), (tget (fun _ => 0) s.sup.wakeSince r.val = 0 ∨
      s.core.tick < tget (fun _ => 0) s.sup.wakeSince r.val + 999) → NoEffect (.wake (.reach r)) s) ∧
  (∀ (s : State) (lane : Fin 64), (∀ i, i < 8 → s.isPort (lane.val / 8 * 8 + i) = false) → NoEffect (.wake (.berth lane)) s) ∧
  (∀ (s : State) (rate sets : Nat), (rate ≠ 0 ∨ sets < 8) → NoEffect (.wake (.wakeSets rate sets)) s) ∧
  (∀ (s : State) (w : WakeWord), s.power.dormant = true → bitOf (s.rdN Obj.wakeEnable) (8 + w.r.val) = true →
    w.energy.length = 16 → (∀ i, i < 16 → decide (w.full < 2 * w.energy.getD i 0) = bitOf 0xA5C3 (15 - i)) →
    Completes (.wakePatternWord w) s (fun t => t.power.dormant = false ∧ t.power.leaving = true ∧
      t.rdN Obj.wakeCause = 8 + w.r.val)) ∧
  (∀ (s : State) (w : WakeWord), (w.energy.length ≠ 16 ∨
      ∃ i, i < 16 ∧ decide (w.full < 2 * w.energy.getD i 0) ≠ bitOf 0xA5C3 (15 - i)) → NoEffect (.wakePatternWord w) s) ∧
  (∀ (s : State) (r : Fin 4), tget (fun _ => 0) s.power.wakeSend r ≠ 0 → tget (fun _ => 0) s.power.wakeSend r ≤ s.core.tick →
    Completes (.wakePatternEnd r) s (fun t => t = { s with power := { s.power with wakeSend := t.power.wakeSend } } ∧
      tget (fun _ => 0) t.power.wakeSend r = 0 ∧
      (∀ k, k ≠ r.val → tget (fun _ => 0) t.power.wakeSend k = tget (fun _ => 0) s.power.wakeSend k)))
/-- Temperature, oscillator, AVSBus and the 2-wire masters (R503, R510, R511, R514, R519). A sensor above the trip level fires the emergency
transmit-off and the device's own urgent request to moor the reaches; its return clears THERMAL_STATE. 122 °C, and an absent local
oscillator, hold the device in reset; its return starts step 1. A transaction moves the rail by at most 5 mV, to 700 mV for a start or
shutdown assay (R451); the third failure in
a row is a FAULT, which a retry ends. A transfer's end shows its status and data.
It rests on the model's own reading where the spec leaves it open: the choices of log entries 50 and 51.
Commands shown to complete with their own effect, under conditions on state and operands alone: thermalTrip, thermalCleared,
thermalShutdown, thermalShutdownExit, localOscAbsent, localOscReturn, avsTransaction, avsRetry, twiTransferEnd, twiBusHeld. -/
def Obligations.ThermalOscillatorRailAndTwiEvents : Prop :=
  (∀ (s : State) (ch : Fin 4) (temp : Nat), s.rdN Obj.thermalTripLevel < temp → temp < 65536 → s.start.inReset = false →
    s.power.cur = none → s.power.waiting = none → s.power.pend = none → s.power.leaving = false → s.power.dormant = false →
    Completes (.thermalTrip ch temp) s (fun t => t.rdN Obj.thermalState = 1 ∧
      t.rdN Obj.thermalTrips = (s.rdN Obj.thermalTrips + 1) % 2 ^ 64 ∧
      (∀ r, r < 4 → t.rdN (Obj.txState r) = 4 ∧ r ∉ t.conv.txen) ∧
      t.power.waiting = some ⟨1, true, 15, 0, true⟩ ∧
      ⟨0xC120, 0x1700, (16 + ch.val) * 65536 + temp, s.core.tick, s.life⟩ ∈ t.core.inFlight)) ∧
  (∀ (s : State) (ch : Fin 4) (temp : Nat), temp ≤ s.rdN Obj.thermalTripLevel → NoEffect (.thermalTrip ch temp) s) ∧
  (∀ (s : State), s.rdN Obj.thermalState = 1 →
    Completes .thermalCleared s (fun t => t.rdN Obj.thermalState = 0 ∧ KeepsRegs [Obj.thermalState] s t ∧
      t.core = { s.core with inFlight := s.core.inFlight ++
        [⟨0x4121, 0x1700, min (s.core.tick - s.board.tripTick) 0xFFFFFFFF, s.core.tick, s.life⟩] })) ∧
  (∀ (s : State), Completes .thermalShutdown s (fun t => t.board.hot = true ∧ t.start.inReset = true ∧
    t.rdN Obj.resetCause = 2 ∧ KeepsRegs [Obj.resetCause] State.reset t ∧ t.agent.creds = s.agent.creds ∧
    t.pending = s.pending ∧ t.basin = State.reset.basin ∧ t.core.log = [])) ∧
  (∀ (s : State), s.board.hot = true → s.board.noOsc = false →
    Completes .thermalShutdownExit s (fun t => t.board.hot = false ∧ t.start.inReset = false ∧ t.start.step = 1 ∧
      t.rdN Obj.resetCause = 2 ∧ t.rdN Obj.powerState = 1)) ∧
  (∀ (s : State), s.board.hot = false → NoEffect .thermalShutdownExit s) ∧
  (∀ (s : State), Completes .localOscAbsent s (fun t => t.board.noOsc = true ∧ t.start.inReset = true ∧
    t.rdN Obj.resetCause = 0 ∧ KeepsRegs [Obj.resetCause] State.reset t ∧ t.agent.creds = s.agent.creds ∧
    t.pending = s.pending ∧ t.core.log = [])) ∧
  (∀ (s : State), s.board.noOsc = true → s.board.hot = false →
    Completes .localOscReturn s (fun t => t.board.noOsc = false ∧ t.start.inReset = false ∧ t.start.step = 1 ∧
      t.rdN Obj.resetCause = 0)) ∧
  (∀ (s : State), s.board.noOsc = false → NoEffect .localOscReturn s) ∧
  (∀ (s : State) (a : Assay), 5 ≤ s.start.step → s.rdN Obj.avsState = 0 → s.board.avsMoved + 100 ≤ s.core.tick →
    s.integ.assay = some a → a.kind < 2 →
    Completes (.avsTransaction true) s (fun t => t.core = s.core ∧ KeepsRegs [] s t ∧
      t.board.avsRail = (if s.board.avsRail < 700 then min 700 (s.board.avsRail + 5) else max 700 (s.board.avsRail - 5)))) ∧
  (∀ (s : State), 6 ≤ s.start.step → (∀ a ∈ s.integ.assay, a.kind = 2) → s.rdN Obj.avsState = 0 →
    s.board.avsMoved + 100 ≤ s.core.tick →
    Completes (.avsTransaction true) s (fun t => t.rdN Obj.avsState = 0 ∧ t.board.avsFails = 0 ∧ t.board.avsSent = true ∧ t.core = s.core ∧
      (s.board.avsRail < s.rdN Obj.avsTarget → t.board.avsRail = min (s.rdN Obj.avsTarget) (s.board.avsRail + 5)) ∧
      (s.rdN Obj.avsTarget < s.board.avsRail → t.board.avsRail = max (s.rdN Obj.avsTarget) (s.board.avsRail - 5)) ∧
      (s.board.avsRail = s.rdN Obj.avsTarget → t.board.avsRail = s.board.avsRail))) ∧
  (∀ (s : State), 5 ≤ s.start.step → s.rdN Obj.avsState = 0 → s.board.avsFails = 2 →
    Completes (.avsTransaction false) s (fun t => t.rdN Obj.avsState = 1 ∧ t.board.avsRail = s.board.avsRail ∧
      t.core = { s.core with inFlight := s.core.inFlight ++ [⟨0xC122, 0x1700, 0, s.core.tick, s.life⟩] })) ∧
  (∀ (s : State) (ok : Bool), s.start.step < 5 → NoEffect (.avsTransaction ok) s) ∧
  (∀ (s : State), s.rdN Obj.avsState = 1 → s.board.avsRetry + 100000 ≤ s.core.tick →
    Completes (.avsRetry true) s (fun t => t.rdN Obj.avsState = 0 ∧ t.board.avsFails = 0 ∧ t.core = s.core)) ∧
  (∀ (s : State) (ok : Bool), s.core.tick < s.board.avsRetry + 100000 → NoEffect (.avsRetry ok) s) ∧
  (∀ (s : State) (r : Fin 4) (x : Twi) (data : List Byte), s.board.twi = [(r.val, x)] → data.length = x.reads → x.reads ≤ 16 →
    Completes (.twiTransferEnd r 0 data) s (fun t => t.board.twi = [] ∧ KeepsRegs [Obj.twiResult r] s t ∧ t.core = s.core ∧
      t.rdN (Obj.twiResult r) = beNat ([0, BitVec.ofNat 8 x.reads, 0, 0] ++ data ++ List.replicate (16 - x.reads) 0#8))) ∧
  (∀ (s : State) (r : Fin 4) (x : Twi), s.board.twi = [(r.val, x)] →
    Completes (.twiBusHeld r) s (fun t => t.board.twi = [] ∧ KeepsRegs [Obj.twiResult r] s t ∧
      t.rdN (Obj.twiResult r) = beNat ([4, 0, 0, 0] ++ List.replicate 16 0#8))) ∧
  (∀ (s : State) (r : Fin 4), (∀ q ∈ s.board.twi, q.1 ≠ r.val) → NoEffect (.twiBusHeld r) s)

/-- Every command of the table completes in every state: no meaning ends in a fault or a refusal.
It rests on the model's own reading where the spec leaves it open: the choice of log entry 2. -/
def Obligations.EveryCommandCompletes : Prop := ∀ (i : Instr) (s : State), ∃ t, exec i s = .next t

/-- The words of the Kizaiz engines (R401, Tables 16.4 to 16.6). A word reads as an instruction exactly where it is that instruction's
word and the fields its function leaves at zero are zero; any other word reads as none, an ILLEGAL_INSTRUCTION. -/
def Obligations.EngineWordsAndInstructionsAgree : Prop :=
  ∀ (w : BitVec 32) (i : EngI), engDecode w = some i ↔ i.wellFormed = true ∧ i.word = w

/-- The inner code (R212): a codeword of the encoder meets every row of H, at each rate, the last row among them. -/
def Obligations.EncodedCodewordsMeetEveryParityRow : Prop :=
  ∀ (rate : Nat) (u : Nat → BitVec 512) (i : Nat), rate < 3 → i < ldpcRows rate →
    ldpcSyndrome rate i (ldpcCodeword rate u) = 0

/-- Ledger records (R108, R109): a record whose fields fit reads back, every field of it, from its 256 bytes, and those are not the bytes of
a free slot. -/
def Obligations.LedgerRecordsReadBack : Prop :=
  ∀ x : LedgerRec, x.fits → x.bytes.length = 256 ∧ parseRecord x.bytes = some x ∧ x.bytes ≠ freeBytes

/-- The encodings of Table 3.1: a value of a type decodes from its words, and a body that decodes is the words of its value. A mate message reads back as it was sent: TYPE, FLAGS, PEER, MSG_SEQ, MSG_TICK and body (R382; Tables 15.4 and 15.5). -/
def Obligations.ObjectValuesAndMateMessagesReadBack : Prop :=
  (∀ (t : OType) (v : Int), t.fits v → t.decode (t.encode v) = some v) ∧
  (∀ (t : OType) (ws : List Nat) (v : Int), (∀ w ∈ ws, w < 2 ^ 32) → t.decode ws = some v → t.fits v ∧ t.encode v = ws) ∧
  (∀ (type flags peer seq tick : Nat) (body : List Byte), type < 256 → flags < 256 → peer < 65536 → body.length ≤ 1000 →
    mateLengthOk type body = true →
    mateRead (mateBytes type flags peer seq tick body) = some ⟨type, flags, peer, seq % 65536, tick % 2 ^ 32, body⟩)


/-- The dictionary's table keeps its canonical form over every step, so that equal dictionaries are equal data. -/
def Obligations.DictionaryStaysCanonical : Prop := ∀ s t : State, s.canonical → step s = .next t → t.canonical

/-- The dictionary of the reset state is in canonical form. -/
def Obligations.ResetDictionaryIsCanonical : Prop := State.reset.canonical
end

