-- ==== Sys2Proof/Laws/Table.lean ====
section
/-! SUPPORT. The laws of sparse tables: a read after a write, and that every table operation keeps the canonical form. -/
namespace Sys2Proof.Machine

variable {α : Type}

theorem tget_tdel (d : Nat → α) (t : List (Nat × α)) (k j : Nat) :
    tget d (tdel k t) j = if j = k then d j else tget d t j := by
  induction t with
  | nil => simp [tdel, tget]
  | cons p t ih =>
    obtain ⟨a, v⟩ := p
    by_cases h : a = k
    · subst h
      have : tdel a ((a, v) :: t) = tdel a t := by simp [tdel]
      rw [this, ih]
      by_cases hj : j = a
      · simp [hj]
      · have : ¬ a = j := fun h => hj h.symm
        simp [tget, hj, this]
    · have : tdel k ((a, v) :: t) = (a, v) :: tdel k t := by simp [tdel, h]
      rw [this]
      simp only [tget, ih]
      by_cases hj : a = j
      · subst hj; simp [h]
      · simp [hj]

theorem tget_tput (d : Nat → α) (t : List (Nat × α)) (k j : Nat) (v : α) :
    tget d (tput k v t) j = if j = k then v else tget d t j := by
  induction t with
  | nil =>
    by_cases h : j = k
    · simp [tput, tget, h]
    · have : ¬ k = j := fun e => h e.symm
      simp [tput, tget, h, this]
  | cons p t ih =>
    obtain ⟨a, w⟩ := p
    simp only [tput]
    split
    · by_cases h : j = k
      · simp [tget, h]
      · have : ¬ k = j := fun e => h e.symm
        simp [tget, h, this]
    · split
      · rename_i h1 h2
        subst h2
        by_cases h : j = k
        · simp [tget, h]
        · have : ¬ k = j := fun e => h e.symm
          simp [tget, h, this]
      · rename_i h1 h2
        simp only [tget, ih]
        by_cases h : a = j
        · subst h; have : ¬ a = k := fun e => h2 e.symm
          simp [this]
        · simp [h]

/-- A read after a write gives the value written at its key, and what stood there at every other. -/
theorem tget_tset [DecidableEq α] (d : Nat → α) (t : List (Nat × α)) (k j : Nat) (v : α) :
    tget d (tset d t k v) j = if j = k then v else tget d t j := by
  unfold tset
  split
  · rename_i h
    rw [tget_tdel]
    by_cases hj : j = k
    · simp [hj, h]
    · simp [hj]
  · rw [tget_tput, tget_tdel]
    by_cases hj : j = k
    · simp [hj]
    · simp [hj]

@[simp] theorem tget_tset_self [DecidableEq α] (d : Nat → α) (t : List (Nat × α)) (k : Nat) (v : α) :
    tget d (tset d t k v) k = v := by simp [tget_tset]

theorem tget_tset_ne [DecidableEq α] (d : Nat → α) (t : List (Nat × α)) {k j : Nat} (v : α) (h : j ≠ k) :
    tget d (tset d t k v) j = tget d t j := by simp [tget_tset, h]

@[simp] theorem tget_tmod_self [DecidableEq α] (d : Nat → α) (t : List (Nat × α)) (k : Nat) (f : α → α) :
    tget d (tmod d t k f) k = f (tget d t k) := by simp [tmod]

theorem tget_tmod_ne [DecidableEq α] (d : Nat → α) (t : List (Nat × α)) {k j : Nat} (f : α → α) (h : j ≠ k) :
    tget d (tmod d t k f) j = tget d t j := by simp [tmod, tget_tset_ne, h]

@[simp] theorem tget_nil (d : Nat → α) (k : Nat) : tget d [] k = d k := rfl

theorem tabove_tdel (b k : Nat) (t : List (Nat × α)) (h : tabove b t = true) : tabove b (tdel k t) = true := by
  simp only [tabove, tdel, List.all_eq_true, List.mem_filter] at *
  exact fun x hx => h x hx.1

theorem tabove_tput {b k : Nat} {v : α} {t : List (Nat × α)} (h : tabove b t = true) (hb : b < k) :
    tabove b (tput k v t) = true := by
  induction t with
  | nil => simp [tput, tabove, hb]
  | cons p t ih =>
    obtain ⟨a, w⟩ := p
    simp only [tabove, List.all_cons, Bool.and_eq_true, decide_eq_true_eq] at h
    have ih' := ih h.2
    simp only [tabove] at ih' ⊢
    simp only [tput]
    split
    · simp [hb, h.1, h.2]
    · split
      · simp [hb, h.2]
      · simp [h.1, ih']

theorem twf_tdel [DecidableEq α] (d : Nat → α) (k : Nat) {t : List (Nat × α)} (h : twf d t = true) :
    twf d (tdel k t) = true := by
  induction t with
  | nil => simp [tdel, twf]
  | cons p t ih =>
    obtain ⟨a, v⟩ := p
    simp only [twf, Bool.and_eq_true, decide_eq_true_eq] at h
    have ih' := ih h.2
    by_cases e : a = k
    · have : tdel k ((a, v) :: t) = tdel k t := by simp [tdel, e]
      rw [this]; exact ih'
    · have : tdel k ((a, v) :: t) = (a, v) :: tdel k t := by simp [tdel, e]
      rw [this]
      simp only [twf, Bool.and_eq_true, decide_eq_true_eq]
      exact ⟨⟨h.1.1, tabove_tdel _ _ _ h.1.2⟩, ih'⟩

theorem tabove_mono {a b : Nat} {t : List (Nat × α)} (h : tabove b t = true) (hab : a ≤ b) : tabove a t = true := by
  simp only [tabove, List.all_eq_true, decide_eq_true_eq] at *
  exact fun x hx => Nat.lt_of_le_of_lt hab (h x hx)

theorem twf_tput [DecidableEq α] (d : Nat → α) (k : Nat) (v : α) {t : List (Nat × α)} (h : twf d t = true) (hv : v ≠ d k) :
    twf d (tput k v t) = true := by
  induction t with
  | nil => simp [tput, twf, tabove, hv]
  | cons p t ih =>
    obtain ⟨a, w⟩ := p
    simp only [twf, Bool.and_eq_true, decide_eq_true_eq] at h
    have ih' := ih h.2
    simp only [tput]
    split
    · rename_i hk
      simp only [twf, Bool.and_eq_true, decide_eq_true_eq]
      refine ⟨⟨hv, ?_⟩, h⟩
      simp only [tabove, List.all_cons, Bool.and_eq_true, decide_eq_true_eq]
      exact ⟨hk, tabove_mono h.1.2 (Nat.le_of_lt hk)⟩
    · split
      · rename_i h2
        subst h2
        simp only [twf, Bool.and_eq_true, decide_eq_true_eq]
        exact ⟨⟨hv, h.1.2⟩, h.2⟩
      · rename_i h1 h2
        simp only [twf, Bool.and_eq_true, decide_eq_true_eq]
        exact ⟨⟨h.1.1, tabove_tput h.1.2 (by omega)⟩, ih'⟩

/-- A write keeps the canonical form. -/
theorem twf_tset [DecidableEq α] (d : Nat → α) (k : Nat) (v : α) {t : List (Nat × α)} (h : twf d t = true) :
    twf d (tset d t k v) = true := by
  unfold tset
  split
  · exact twf_tdel d k h
  · rename_i hv; exact twf_tput d k v (twf_tdel d k h) hv

theorem twf_tmod [DecidableEq α] (d : Nat → α) (k : Nat) (f : α → α) {t : List (Nat × α)} (h : twf d t = true) :
    twf d (tmod d t k f) = true := twf_tset d k _ h

/-- A fold of writes keeps the canonical form. -/
theorem twf_foldl_tset [DecidableEq α] {β : Type} (d : Nat → α) (key : β → Nat) (val : β → α) (l : List β)
    {t : List (Nat × α)} (h : twf d t = true) : twf d (l.foldl (fun t b => tset d t (key b) (val b)) t) = true := by
  induction l generalizing t with
  | nil => exact h
  | cons b l ih => exact ih (twf_tset d _ _ h)

/-- Two canonical tables that read alike are equal: equal memories are equal data. -/
theorem twf_ext [DecidableEq α] (d : Nat → α) {t u : List (Nat × α)} (ht : twf d t = true) (hu : twf d u = true)
    (h : ∀ k, tget d t k = tget d u k) : t = u := by
  have low : ∀ (t : List (Nat × α)) (k : Nat), tabove k t = true → ∀ j, j ≤ k → tget d t j = d j := by
    intro t k
    induction t with
    | nil => intros; rfl
    | cons p t ih =>
      obtain ⟨a, v⟩ := p
      intro hab j hj
      simp only [tabove, List.all_cons, Bool.and_eq_true, decide_eq_true_eq] at hab
      have : ¬ a = j := by omega
      simp only [tget, this, if_false]
      exact ih hab.2 j hj
  induction t generalizing u with
  | nil =>
    cases u with
    | nil => rfl
    | cons q u =>
      obtain ⟨b, w⟩ := q
      simp only [twf, Bool.and_eq_true, decide_eq_true_eq] at hu
      have := h b
      simp [tget] at this
      exact absurd this.symm hu.1.1
  | cons p t ih =>
    obtain ⟨a, v⟩ := p
    simp only [twf, Bool.and_eq_true, decide_eq_true_eq] at ht
    cases u with
    | nil =>
      have := h a
      simp [tget] at this
      exact absurd this ht.1.1
    | cons q u =>
      obtain ⟨b, w⟩ := q
      simp only [twf, Bool.and_eq_true, decide_eq_true_eq] at hu
      have hab : a = b := by
        rcases Nat.lt_trichotomy a b with g | g | g
        · have := h a
          have e : ¬ b = a := by omega
          simp only [tget, if_true, e, if_false] at this
          rw [low u b hu.1.2 a (by omega)] at this
          exact absurd this ht.1.1
        · exact g
        · have := h b
          have e : ¬ a = b := by omega
          simp only [tget, if_true, e, if_false] at this
          rw [low t a ht.1.2 b (by omega)] at this
          exact absurd this.symm hu.1.1
      subst hab
      have hv : v = w := by have := h a; simpa [tget] using this
      subst hv
      congr 1
      refine ih ht.2 hu.2 (fun k => ?_)
      by_cases hk : a = k
      · subst hk; rw [low t a ht.1.2 a (Nat.le_refl _), low u a hu.1.2 a (Nat.le_refl _)]
      · have := h k
        simpa [tget, hk] using this

/-! ### A run of values replaced (tputs) -/

/-- A sub-list keeps the canonical form. -/
theorem twf_filter [DecidableEq α] (d : Nat → α) (p : Nat × α → Bool) {t : List (Nat × α)} (h : twf d t = true) :
    twf d (t.filter p) = true := by
  induction t with
  | nil => rfl
  | cons q t ih =>
    simp only [twf, Bool.and_eq_true, decide_eq_true_eq] at h
    simp only [List.filter_cons]
    split
    · simp only [twf, Bool.and_eq_true, decide_eq_true_eq]
      refine ⟨⟨h.1.1, ?_⟩, ih h.2⟩
      simp only [tabove, List.all_eq_true, List.mem_filter] at *
      exact fun x hx => h.1.2 x hx.1
    · exact ih h.2

/-- Two canonical tables, the keys of the second above those of the first, are one canonical table. -/
theorem twf_append [DecidableEq α] (d : Nat → α) {t u : List (Nat × α)} (ht : twf d t = true) (hu : twf d u = true)
    (h : ∀ p ∈ t, tabove p.1 u = true) : twf d (t ++ u) = true := by
  induction t with
  | nil => exact hu
  | cons q t ih =>
    simp only [twf, Bool.and_eq_true, decide_eq_true_eq] at ht
    simp only [List.cons_append, twf, Bool.and_eq_true, decide_eq_true_eq]
    refine ⟨⟨ht.1.1, ?_⟩, ih ht.2 (fun p hp => h p (by simp [hp]))⟩
    have := h q (by simp)
    simp only [tabove, List.all_append, Bool.and_eq_true] at *
    exact ⟨ht.1.2, this⟩

/-- The entries of a run stand at its keys. -/
theorem tlist_keys [DecidableEq α] (d : α) (k : Nat) (vs : List α) :
    ∀ p ∈ tlist d k vs, k ≤ p.1 ∧ p.1 < k + vs.length := by
  induction vs generalizing k with
  | nil => simp [tlist]
  | cons v vs ih =>
    intro p hp
    simp only [tlist] at hp
    split at hp
    · have := ih (k + 1) p hp; simp only [List.length_cons]; omega
    · rcases List.mem_cons.mp hp with rfl | hp
      · simp
      · have := ih (k + 1) p hp; simp only [List.length_cons]; omega

/-- A run is a canonical table. -/
theorem twf_tlist [DecidableEq α] (d : α) (k : Nat) (vs : List α) : twf (fun _ => d) (tlist d k vs) = true := by
  induction vs generalizing k with
  | nil => rfl
  | cons v vs ih =>
    simp only [tlist]
    split
    · exact ih (k + 1)
    · rename_i hv
      simp only [twf, Bool.and_eq_true, decide_eq_true_eq]
      refine ⟨⟨hv, ?_⟩, ih (k + 1)⟩
      simp only [tabove, List.all_eq_true, decide_eq_true_eq]
      intro p hp
      have := tlist_keys d (k + 1) vs p hp
      omega

/-- Replacing a run of values keeps the canonical form. -/
theorem twf_tputs [DecidableEq α] (d : α) (base : Nat) (vs : List α) {t : List (Nat × α)} (h : twf (fun _ => d) t = true) :
    twf (fun _ => d) (tputs d base vs t) = true := by
  unfold tputs
  refine twf_append _ (twf_append _ (twf_filter _ _ h) (twf_tlist d base vs) ?_) (twf_filter _ _ h) ?_
  · intro p hp
    simp only [List.mem_filter, decide_eq_true_eq] at hp
    simp only [tabove, List.all_eq_true, decide_eq_true_eq]
    intro q hq
    have := tlist_keys d base vs q hq
    omega
  · intro p hp
    simp only [tabove, List.all_eq_true, List.mem_filter, decide_eq_true_eq]
    intro q hq
    rcases List.mem_append.mp hp with hp | hp
    · simp only [List.mem_filter, decide_eq_true_eq] at hp; omega
    · have := tlist_keys d base vs p hp; omega

end Sys2Proof.Machine
end

