-- ==== Sys2Proof/Laws/State.lean ====
section
/-! SUPPORT. Each of State's setters field by field: what it leaves is read unchanged, and what it sets is read back. All hold
by the definitions of the setters, so that no later proof unfolds a record update. -/
namespace Sys2Proof.Machine

variable (s : State)

section
variable (k : Nat) (v : Int)
@[simp] theorem State.wr_pending : (s.wr k v).pending = s.pending := rfl
@[simp] theorem State.wr_core : (s.wr k v).core = s.core := rfl
@[simp] theorem State.wr_agent : (s.wr k v).agent = s.agent := rfl
@[simp] theorem State.wr_start : (s.wr k v).start = s.start := rfl
@[simp] theorem State.wr_power : (s.wr k v).power = s.power := rfl
@[simp] theorem State.wr_conv : (s.wr k v).conv = s.conv := rfl
@[simp] theorem State.wr_loads : (s.wr k v).loads = s.loads := rfl
@[simp] theorem State.wr_eq : (s.wr k v).eq = s.eq := rfl
@[simp] theorem State.wr_pool : (s.wr k v).pool = s.pool := rfl
@[simp] theorem State.wr_frame : (s.wr k v).frame = s.frame := rfl
@[simp] theorem State.wr_berth : (s.wr k v).berth = s.berth := rfl
@[simp] theorem State.wr_basin : (s.wr k v).basin = s.basin := rfl
@[simp] theorem State.wr_rest : (s.wr k v).rest = s.rest := rfl
@[simp] theorem State.wr_key : (s.wr k v).key = s.key := rfl
@[simp] theorem State.wr_timing : (s.wr k v).timing = s.timing := rfl
@[simp] theorem State.wr_towpath : (s.wr k v).towpath = s.towpath := rfl
@[simp] theorem State.wr_engine : (s.wr k v).engine = s.engine := rfl
@[simp] theorem State.wr_sup : (s.wr k v).sup = s.sup := rfl
@[simp] theorem State.wr_integ : (s.wr k v).integ = s.integ := rfl
@[simp] theorem State.wr_board : (s.wr k v).board = s.board := rfl
end

section
variable (k v : Nat)
@[simp] theorem State.wrN_pending : (s.wrN k v).pending = s.pending := rfl
@[simp] theorem State.wrN_core : (s.wrN k v).core = s.core := rfl
@[simp] theorem State.wrN_agent : (s.wrN k v).agent = s.agent := rfl
@[simp] theorem State.wrN_start : (s.wrN k v).start = s.start := rfl
@[simp] theorem State.wrN_power : (s.wrN k v).power = s.power := rfl
@[simp] theorem State.wrN_conv : (s.wrN k v).conv = s.conv := rfl
@[simp] theorem State.wrN_loads : (s.wrN k v).loads = s.loads := rfl
@[simp] theorem State.wrN_eq : (s.wrN k v).eq = s.eq := rfl
@[simp] theorem State.wrN_pool : (s.wrN k v).pool = s.pool := rfl
@[simp] theorem State.wrN_frame : (s.wrN k v).frame = s.frame := rfl
@[simp] theorem State.wrN_berth : (s.wrN k v).berth = s.berth := rfl
@[simp] theorem State.wrN_basin : (s.wrN k v).basin = s.basin := rfl
@[simp] theorem State.wrN_rest : (s.wrN k v).rest = s.rest := rfl
@[simp] theorem State.wrN_key : (s.wrN k v).key = s.key := rfl
@[simp] theorem State.wrN_timing : (s.wrN k v).timing = s.timing := rfl
@[simp] theorem State.wrN_towpath : (s.wrN k v).towpath = s.towpath := rfl
@[simp] theorem State.wrN_engine : (s.wrN k v).engine = s.engine := rfl
@[simp] theorem State.wrN_sup : (s.wrN k v).sup = s.sup := rfl
@[simp] theorem State.wrN_integ : (s.wrN k v).integ = s.integ := rfl
@[simp] theorem State.wrN_board : (s.wrN k v).board = s.board := rfl
end

section
variable (k n : Nat)
@[simp] theorem State.incBy_pending : (s.incBy k n).pending = s.pending := rfl
@[simp] theorem State.incBy_core : (s.incBy k n).core = s.core := rfl
@[simp] theorem State.incBy_agent : (s.incBy k n).agent = s.agent := rfl
@[simp] theorem State.incBy_start : (s.incBy k n).start = s.start := rfl
@[simp] theorem State.incBy_power : (s.incBy k n).power = s.power := rfl
@[simp] theorem State.incBy_conv : (s.incBy k n).conv = s.conv := rfl
@[simp] theorem State.incBy_loads : (s.incBy k n).loads = s.loads := rfl
@[simp] theorem State.incBy_eq : (s.incBy k n).eq = s.eq := rfl
@[simp] theorem State.incBy_pool : (s.incBy k n).pool = s.pool := rfl
@[simp] theorem State.incBy_frame : (s.incBy k n).frame = s.frame := rfl
@[simp] theorem State.incBy_berth : (s.incBy k n).berth = s.berth := rfl
@[simp] theorem State.incBy_basin : (s.incBy k n).basin = s.basin := rfl
@[simp] theorem State.incBy_rest : (s.incBy k n).rest = s.rest := rfl
@[simp] theorem State.incBy_key : (s.incBy k n).key = s.key := rfl
@[simp] theorem State.incBy_timing : (s.incBy k n).timing = s.timing := rfl
@[simp] theorem State.incBy_towpath : (s.incBy k n).towpath = s.towpath := rfl
@[simp] theorem State.incBy_engine : (s.incBy k n).engine = s.engine := rfl
@[simp] theorem State.incBy_sup : (s.incBy k n).sup = s.sup := rfl
@[simp] theorem State.incBy_integ : (s.incBy k n).integ = s.integ := rfl
@[simp] theorem State.incBy_board : (s.incBy k n).board = s.board := rfl
end

section
variable (k : Nat)
@[simp] theorem State.inc_pending : (s.inc k).pending = s.pending := rfl
@[simp] theorem State.inc_core : (s.inc k).core = s.core := rfl
@[simp] theorem State.inc_agent : (s.inc k).agent = s.agent := rfl
@[simp] theorem State.inc_start : (s.inc k).start = s.start := rfl
@[simp] theorem State.inc_power : (s.inc k).power = s.power := rfl
@[simp] theorem State.inc_conv : (s.inc k).conv = s.conv := rfl
@[simp] theorem State.inc_loads : (s.inc k).loads = s.loads := rfl
@[simp] theorem State.inc_eq : (s.inc k).eq = s.eq := rfl
@[simp] theorem State.inc_pool : (s.inc k).pool = s.pool := rfl
@[simp] theorem State.inc_frame : (s.inc k).frame = s.frame := rfl
@[simp] theorem State.inc_berth : (s.inc k).berth = s.berth := rfl
@[simp] theorem State.inc_basin : (s.inc k).basin = s.basin := rfl
@[simp] theorem State.inc_rest : (s.inc k).rest = s.rest := rfl
@[simp] theorem State.inc_key : (s.inc k).key = s.key := rfl
@[simp] theorem State.inc_timing : (s.inc k).timing = s.timing := rfl
@[simp] theorem State.inc_towpath : (s.inc k).towpath = s.towpath := rfl
@[simp] theorem State.inc_engine : (s.inc k).engine = s.engine := rfl
@[simp] theorem State.inc_sup : (s.inc k).sup = s.sup := rfl
@[simp] theorem State.inc_integ : (s.inc k).integ = s.integ := rfl
@[simp] theorem State.inc_board : (s.inc k).board = s.board := rfl
end

section
variable (c o a : Nat)
@[simp] theorem State.raise_pending : (s.raise c o a).pending = s.pending := rfl
@[simp] theorem State.raise_regs : (s.raise c o a).regs = s.regs := rfl
@[simp] theorem State.raise_agent : (s.raise c o a).agent = s.agent := rfl
@[simp] theorem State.raise_start : (s.raise c o a).start = s.start := rfl
@[simp] theorem State.raise_power : (s.raise c o a).power = s.power := rfl
@[simp] theorem State.raise_conv : (s.raise c o a).conv = s.conv := rfl
@[simp] theorem State.raise_loads : (s.raise c o a).loads = s.loads := rfl
@[simp] theorem State.raise_eq : (s.raise c o a).eq = s.eq := rfl
@[simp] theorem State.raise_pool : (s.raise c o a).pool = s.pool := rfl
@[simp] theorem State.raise_frame : (s.raise c o a).frame = s.frame := rfl
@[simp] theorem State.raise_berth : (s.raise c o a).berth = s.berth := rfl
@[simp] theorem State.raise_basin : (s.raise c o a).basin = s.basin := rfl
@[simp] theorem State.raise_rest : (s.raise c o a).rest = s.rest := rfl
@[simp] theorem State.raise_key : (s.raise c o a).key = s.key := rfl
@[simp] theorem State.raise_timing : (s.raise c o a).timing = s.timing := rfl
@[simp] theorem State.raise_towpath : (s.raise c o a).towpath = s.towpath := rfl
@[simp] theorem State.raise_engine : (s.raise c o a).engine = s.engine := rfl
@[simp] theorem State.raise_sup : (s.raise c o a).sup = s.sup := rfl
@[simp] theorem State.raise_integ : (s.raise c o a).integ = s.integ := rfl
@[simp] theorem State.raise_board : (s.raise c o a).board = s.board := rfl
@[simp] theorem State.raise_rd (i : Nat) : (s.raise c o a).rd i = s.rd i := rfl
@[simp] theorem State.raise_rdN (i : Nat) : (s.raise c o a).rdN i = s.rdN i := rfl
end

section
variable (d v : Nat)
@[simp] theorem State.setDom_pending : (s.setDom d v).pending = s.pending := rfl
@[simp] theorem State.setDom_regs : (s.setDom d v).regs = s.regs := rfl
@[simp] theorem State.setDom_core : (s.setDom d v).core = s.core := rfl
@[simp] theorem State.setDom_agent : (s.setDom d v).agent = s.agent := rfl
@[simp] theorem State.setDom_start : (s.setDom d v).start = s.start := rfl
@[simp] theorem State.setDom_conv : (s.setDom d v).conv = s.conv := rfl
@[simp] theorem State.setDom_loads : (s.setDom d v).loads = s.loads := rfl
@[simp] theorem State.setDom_eq : (s.setDom d v).eq = s.eq := rfl
@[simp] theorem State.setDom_pool : (s.setDom d v).pool = s.pool := rfl
@[simp] theorem State.setDom_frame : (s.setDom d v).frame = s.frame := rfl
@[simp] theorem State.setDom_berth : (s.setDom d v).berth = s.berth := rfl
@[simp] theorem State.setDom_basin : (s.setDom d v).basin = s.basin := rfl
@[simp] theorem State.setDom_rest : (s.setDom d v).rest = s.rest := rfl
@[simp] theorem State.setDom_key : (s.setDom d v).key = s.key := rfl
@[simp] theorem State.setDom_timing : (s.setDom d v).timing = s.timing := rfl
@[simp] theorem State.setDom_towpath : (s.setDom d v).towpath = s.towpath := rfl
@[simp] theorem State.setDom_engine : (s.setDom d v).engine = s.engine := rfl
@[simp] theorem State.setDom_sup : (s.setDom d v).sup = s.sup := rfl
@[simp] theorem State.setDom_integ : (s.setDom d v).integ = s.integ := rfl
@[simp] theorem State.setDom_board : (s.setDom d v).board = s.board := rfl
@[simp] theorem State.setDom_rd (i : Nat) : (s.setDom d v).rd i = s.rd i := rfl
@[simp] theorem State.setDom_rdN (i : Nat) : (s.setDom d v).rdN i = s.rdN i := rfl
@[simp] theorem State.setDom_dom : (s.setDom d v).dom d = v := tget_tset_self _ _ _ _
end

section
variable (o v : Nat)
@[simp] theorem State.setBar_pending : (s.setBar o v).pending = s.pending := rfl
@[simp] theorem State.setBar_regs : (s.setBar o v).regs = s.regs := rfl
@[simp] theorem State.setBar_core : (s.setBar o v).core = s.core := rfl
@[simp] theorem State.setBar_start : (s.setBar o v).start = s.start := rfl
@[simp] theorem State.setBar_power : (s.setBar o v).power = s.power := rfl
@[simp] theorem State.setBar_conv : (s.setBar o v).conv = s.conv := rfl
@[simp] theorem State.setBar_loads : (s.setBar o v).loads = s.loads := rfl
@[simp] theorem State.setBar_eq : (s.setBar o v).eq = s.eq := rfl
@[simp] theorem State.setBar_pool : (s.setBar o v).pool = s.pool := rfl
@[simp] theorem State.setBar_frame : (s.setBar o v).frame = s.frame := rfl
@[simp] theorem State.setBar_berth : (s.setBar o v).berth = s.berth := rfl
@[simp] theorem State.setBar_basin : (s.setBar o v).basin = s.basin := rfl
@[simp] theorem State.setBar_rest : (s.setBar o v).rest = s.rest := rfl
@[simp] theorem State.setBar_key : (s.setBar o v).key = s.key := rfl
@[simp] theorem State.setBar_timing : (s.setBar o v).timing = s.timing := rfl
@[simp] theorem State.setBar_towpath : (s.setBar o v).towpath = s.towpath := rfl
@[simp] theorem State.setBar_engine : (s.setBar o v).engine = s.engine := rfl
@[simp] theorem State.setBar_sup : (s.setBar o v).sup = s.sup := rfl
@[simp] theorem State.setBar_integ : (s.setBar o v).integ = s.integ := rfl
@[simp] theorem State.setBar_board : (s.setBar o v).board = s.board := rfl
@[simp] theorem State.setBar_rd (i : Nat) : (s.setBar o v).rd i = s.rd i := rfl
@[simp] theorem State.setBar_rdN (i : Nat) : (s.setBar o v).rdN i = s.rdN i := rfl
end

section
variable (n : Nat) (x : Session)
@[simp] theorem State.setSession_pending : (s.setSession n x).pending = s.pending := rfl
@[simp] theorem State.setSession_regs : (s.setSession n x).regs = s.regs := rfl
@[simp] theorem State.setSession_core : (s.setSession n x).core = s.core := rfl
@[simp] theorem State.setSession_start : (s.setSession n x).start = s.start := rfl
@[simp] theorem State.setSession_power : (s.setSession n x).power = s.power := rfl
@[simp] theorem State.setSession_conv : (s.setSession n x).conv = s.conv := rfl
@[simp] theorem State.setSession_loads : (s.setSession n x).loads = s.loads := rfl
@[simp] theorem State.setSession_eq : (s.setSession n x).eq = s.eq := rfl
@[simp] theorem State.setSession_pool : (s.setSession n x).pool = s.pool := rfl
@[simp] theorem State.setSession_frame : (s.setSession n x).frame = s.frame := rfl
@[simp] theorem State.setSession_berth : (s.setSession n x).berth = s.berth := rfl
@[simp] theorem State.setSession_basin : (s.setSession n x).basin = s.basin := rfl
@[simp] theorem State.setSession_rest : (s.setSession n x).rest = s.rest := rfl
@[simp] theorem State.setSession_key : (s.setSession n x).key = s.key := rfl
@[simp] theorem State.setSession_timing : (s.setSession n x).timing = s.timing := rfl
@[simp] theorem State.setSession_towpath : (s.setSession n x).towpath = s.towpath := rfl
@[simp] theorem State.setSession_engine : (s.setSession n x).engine = s.engine := rfl
@[simp] theorem State.setSession_sup : (s.setSession n x).sup = s.sup := rfl
@[simp] theorem State.setSession_integ : (s.setSession n x).integ = s.integ := rfl
@[simp] theorem State.setSession_board : (s.setSession n x).board = s.board := rfl
@[simp] theorem State.setSession_rd (i : Nat) : (s.setSession n x).rd i = s.rd i := rfl
@[simp] theorem State.setSession_rdN (i : Nat) : (s.setSession n x).rdN i = s.rdN i := rfl
@[simp] theorem State.setSession_session : (s.setSession n x).session n = x := tget_tset_self _ _ _ _
end

section
variable (r : Nat) (x : Agc)
@[simp] theorem State.setAgc_pending : (s.setAgc r x).pending = s.pending := rfl
@[simp] theorem State.setAgc_regs : (s.setAgc r x).regs = s.regs := rfl
@[simp] theorem State.setAgc_core : (s.setAgc r x).core = s.core := rfl
@[simp] theorem State.setAgc_agent : (s.setAgc r x).agent = s.agent := rfl
@[simp] theorem State.setAgc_start : (s.setAgc r x).start = s.start := rfl
@[simp] theorem State.setAgc_power : (s.setAgc r x).power = s.power := rfl
@[simp] theorem State.setAgc_loads : (s.setAgc r x).loads = s.loads := rfl
@[simp] theorem State.setAgc_eq : (s.setAgc r x).eq = s.eq := rfl
@[simp] theorem State.setAgc_pool : (s.setAgc r x).pool = s.pool := rfl
@[simp] theorem State.setAgc_frame : (s.setAgc r x).frame = s.frame := rfl
@[simp] theorem State.setAgc_berth : (s.setAgc r x).berth = s.berth := rfl
@[simp] theorem State.setAgc_basin : (s.setAgc r x).basin = s.basin := rfl
@[simp] theorem State.setAgc_rest : (s.setAgc r x).rest = s.rest := rfl
@[simp] theorem State.setAgc_key : (s.setAgc r x).key = s.key := rfl
@[simp] theorem State.setAgc_timing : (s.setAgc r x).timing = s.timing := rfl
@[simp] theorem State.setAgc_towpath : (s.setAgc r x).towpath = s.towpath := rfl
@[simp] theorem State.setAgc_engine : (s.setAgc r x).engine = s.engine := rfl
@[simp] theorem State.setAgc_sup : (s.setAgc r x).sup = s.sup := rfl
@[simp] theorem State.setAgc_integ : (s.setAgc r x).integ = s.integ := rfl
@[simp] theorem State.setAgc_board : (s.setAgc r x).board = s.board := rfl
@[simp] theorem State.setAgc_rd (i : Nat) : (s.setAgc r x).rd i = s.rd i := rfl
@[simp] theorem State.setAgc_rdN (i : Nat) : (s.setAgc r x).rdN i = s.rdN i := rfl
@[simp] theorem State.setAgc_agc : (s.setAgc r x).agc r = x := tget_tset_self _ _ _ _
end

section
variable (r c : Nat) (x : Ramp)
@[simp] theorem State.setRamp_pending : (s.setRamp r c x).pending = s.pending := rfl
@[simp] theorem State.setRamp_regs : (s.setRamp r c x).regs = s.regs := rfl
@[simp] theorem State.setRamp_core : (s.setRamp r c x).core = s.core := rfl
@[simp] theorem State.setRamp_agent : (s.setRamp r c x).agent = s.agent := rfl
@[simp] theorem State.setRamp_start : (s.setRamp r c x).start = s.start := rfl
@[simp] theorem State.setRamp_power : (s.setRamp r c x).power = s.power := rfl
@[simp] theorem State.setRamp_loads : (s.setRamp r c x).loads = s.loads := rfl
@[simp] theorem State.setRamp_eq : (s.setRamp r c x).eq = s.eq := rfl
@[simp] theorem State.setRamp_pool : (s.setRamp r c x).pool = s.pool := rfl
@[simp] theorem State.setRamp_frame : (s.setRamp r c x).frame = s.frame := rfl
@[simp] theorem State.setRamp_berth : (s.setRamp r c x).berth = s.berth := rfl
@[simp] theorem State.setRamp_basin : (s.setRamp r c x).basin = s.basin := rfl
@[simp] theorem State.setRamp_rest : (s.setRamp r c x).rest = s.rest := rfl
@[simp] theorem State.setRamp_key : (s.setRamp r c x).key = s.key := rfl
@[simp] theorem State.setRamp_timing : (s.setRamp r c x).timing = s.timing := rfl
@[simp] theorem State.setRamp_towpath : (s.setRamp r c x).towpath = s.towpath := rfl
@[simp] theorem State.setRamp_engine : (s.setRamp r c x).engine = s.engine := rfl
@[simp] theorem State.setRamp_sup : (s.setRamp r c x).sup = s.sup := rfl
@[simp] theorem State.setRamp_integ : (s.setRamp r c x).integ = s.integ := rfl
@[simp] theorem State.setRamp_board : (s.setRamp r c x).board = s.board := rfl
@[simp] theorem State.setRamp_rd (i : Nat) : (s.setRamp r c x).rd i = s.rd i := rfl
@[simp] theorem State.setRamp_rdN (i : Nat) : (s.setRamp r c x).rdN i = s.rdN i := rfl
@[simp] theorem State.setRamp_ramp : (s.setRamp r c x).ramp r c = x := tget_tset_self _ _ _ _
end

section
variable (r : Nat) (x : Cal)
@[simp] theorem State.setCal_pending : (s.setCal r x).pending = s.pending := rfl
@[simp] theorem State.setCal_regs : (s.setCal r x).regs = s.regs := rfl
@[simp] theorem State.setCal_core : (s.setCal r x).core = s.core := rfl
@[simp] theorem State.setCal_agent : (s.setCal r x).agent = s.agent := rfl
@[simp] theorem State.setCal_start : (s.setCal r x).start = s.start := rfl
@[simp] theorem State.setCal_power : (s.setCal r x).power = s.power := rfl
@[simp] theorem State.setCal_loads : (s.setCal r x).loads = s.loads := rfl
@[simp] theorem State.setCal_eq : (s.setCal r x).eq = s.eq := rfl
@[simp] theorem State.setCal_pool : (s.setCal r x).pool = s.pool := rfl
@[simp] theorem State.setCal_frame : (s.setCal r x).frame = s.frame := rfl
@[simp] theorem State.setCal_berth : (s.setCal r x).berth = s.berth := rfl
@[simp] theorem State.setCal_basin : (s.setCal r x).basin = s.basin := rfl
@[simp] theorem State.setCal_rest : (s.setCal r x).rest = s.rest := rfl
@[simp] theorem State.setCal_key : (s.setCal r x).key = s.key := rfl
@[simp] theorem State.setCal_timing : (s.setCal r x).timing = s.timing := rfl
@[simp] theorem State.setCal_towpath : (s.setCal r x).towpath = s.towpath := rfl
@[simp] theorem State.setCal_engine : (s.setCal r x).engine = s.engine := rfl
@[simp] theorem State.setCal_sup : (s.setCal r x).sup = s.sup := rfl
@[simp] theorem State.setCal_integ : (s.setCal r x).integ = s.integ := rfl
@[simp] theorem State.setCal_board : (s.setCal r x).board = s.board := rfl
@[simp] theorem State.setCal_rd (i : Nat) : (s.setCal r x).rd i = s.rd i := rfl
@[simp] theorem State.setCal_rdN (i : Nat) : (s.setCal r x).rdN i = s.rdN i := rfl
@[simp] theorem State.setCal_cal : (s.setCal r x).cal r = x := tget_tset_self _ _ _ _
end

section
variable (r g : Nat) (x : Load)
@[simp] theorem State.setLoad_pending : (s.setLoad r g x).pending = s.pending := rfl
@[simp] theorem State.setLoad_regs : (s.setLoad r g x).regs = s.regs := rfl
@[simp] theorem State.setLoad_core : (s.setLoad r g x).core = s.core := rfl
@[simp] theorem State.setLoad_agent : (s.setLoad r g x).agent = s.agent := rfl
@[simp] theorem State.setLoad_start : (s.setLoad r g x).start = s.start := rfl
@[simp] theorem State.setLoad_power : (s.setLoad r g x).power = s.power := rfl
@[simp] theorem State.setLoad_conv : (s.setLoad r g x).conv = s.conv := rfl
@[simp] theorem State.setLoad_eq : (s.setLoad r g x).eq = s.eq := rfl
@[simp] theorem State.setLoad_pool : (s.setLoad r g x).pool = s.pool := rfl
@[simp] theorem State.setLoad_frame : (s.setLoad r g x).frame = s.frame := rfl
@[simp] theorem State.setLoad_berth : (s.setLoad r g x).berth = s.berth := rfl
@[simp] theorem State.setLoad_basin : (s.setLoad r g x).basin = s.basin := rfl
@[simp] theorem State.setLoad_rest : (s.setLoad r g x).rest = s.rest := rfl
@[simp] theorem State.setLoad_key : (s.setLoad r g x).key = s.key := rfl
@[simp] theorem State.setLoad_timing : (s.setLoad r g x).timing = s.timing := rfl
@[simp] theorem State.setLoad_towpath : (s.setLoad r g x).towpath = s.towpath := rfl
@[simp] theorem State.setLoad_engine : (s.setLoad r g x).engine = s.engine := rfl
@[simp] theorem State.setLoad_sup : (s.setLoad r g x).sup = s.sup := rfl
@[simp] theorem State.setLoad_integ : (s.setLoad r g x).integ = s.integ := rfl
@[simp] theorem State.setLoad_board : (s.setLoad r g x).board = s.board := rfl
@[simp] theorem State.setLoad_rd (i : Nat) : (s.setLoad r g x).rd i = s.rd i := rfl
@[simp] theorem State.setLoad_rdN (i : Nat) : (s.setLoad r g x).rdN i = s.rdN i := rfl
@[simp] theorem State.setLoad_load : (s.setLoad r g x).load r g = x := tget_tset_self _ _ _ _
end

section
variable (r : Nat) (x : Cd)
@[simp] theorem State.setCd_pending : (s.setCd r x).pending = s.pending := rfl
@[simp] theorem State.setCd_regs : (s.setCd r x).regs = s.regs := rfl
@[simp] theorem State.setCd_core : (s.setCd r x).core = s.core := rfl
@[simp] theorem State.setCd_agent : (s.setCd r x).agent = s.agent := rfl
@[simp] theorem State.setCd_start : (s.setCd r x).start = s.start := rfl
@[simp] theorem State.setCd_power : (s.setCd r x).power = s.power := rfl
@[simp] theorem State.setCd_conv : (s.setCd r x).conv = s.conv := rfl
@[simp] theorem State.setCd_loads : (s.setCd r x).loads = s.loads := rfl
@[simp] theorem State.setCd_pool : (s.setCd r x).pool = s.pool := rfl
@[simp] theorem State.setCd_frame : (s.setCd r x).frame = s.frame := rfl
@[simp] theorem State.setCd_berth : (s.setCd r x).berth = s.berth := rfl
@[simp] theorem State.setCd_basin : (s.setCd r x).basin = s.basin := rfl
@[simp] theorem State.setCd_rest : (s.setCd r x).rest = s.rest := rfl
@[simp] theorem State.setCd_key : (s.setCd r x).key = s.key := rfl
@[simp] theorem State.setCd_timing : (s.setCd r x).timing = s.timing := rfl
@[simp] theorem State.setCd_towpath : (s.setCd r x).towpath = s.towpath := rfl
@[simp] theorem State.setCd_engine : (s.setCd r x).engine = s.engine := rfl
@[simp] theorem State.setCd_sup : (s.setCd r x).sup = s.sup := rfl
@[simp] theorem State.setCd_integ : (s.setCd r x).integ = s.integ := rfl
@[simp] theorem State.setCd_board : (s.setCd r x).board = s.board := rfl
@[simp] theorem State.setCd_rd (i : Nat) : (s.setCd r x).rd i = s.rd i := rfl
@[simp] theorem State.setCd_rdN (i : Nat) : (s.setCd r x).rdN i = s.rdN i := rfl
@[simp] theorem State.setCd_cd : (s.setCd r x).cd r = x := tget_tset_self _ _ _ _
end

section
variable (r : Nat) (x : Watch)
@[simp] theorem State.setWatch_pending : (s.setWatch r x).pending = s.pending := rfl
@[simp] theorem State.setWatch_regs : (s.setWatch r x).regs = s.regs := rfl
@[simp] theorem State.setWatch_core : (s.setWatch r x).core = s.core := rfl
@[simp] theorem State.setWatch_agent : (s.setWatch r x).agent = s.agent := rfl
@[simp] theorem State.setWatch_start : (s.setWatch r x).start = s.start := rfl
@[simp] theorem State.setWatch_power : (s.setWatch r x).power = s.power := rfl
@[simp] theorem State.setWatch_conv : (s.setWatch r x).conv = s.conv := rfl
@[simp] theorem State.setWatch_loads : (s.setWatch r x).loads = s.loads := rfl
@[simp] theorem State.setWatch_pool : (s.setWatch r x).pool = s.pool := rfl
@[simp] theorem State.setWatch_frame : (s.setWatch r x).frame = s.frame := rfl
@[simp] theorem State.setWatch_berth : (s.setWatch r x).berth = s.berth := rfl
@[simp] theorem State.setWatch_basin : (s.setWatch r x).basin = s.basin := rfl
@[simp] theorem State.setWatch_rest : (s.setWatch r x).rest = s.rest := rfl
@[simp] theorem State.setWatch_key : (s.setWatch r x).key = s.key := rfl
@[simp] theorem State.setWatch_timing : (s.setWatch r x).timing = s.timing := rfl
@[simp] theorem State.setWatch_towpath : (s.setWatch r x).towpath = s.towpath := rfl
@[simp] theorem State.setWatch_engine : (s.setWatch r x).engine = s.engine := rfl
@[simp] theorem State.setWatch_sup : (s.setWatch r x).sup = s.sup := rfl
@[simp] theorem State.setWatch_integ : (s.setWatch r x).integ = s.integ := rfl
@[simp] theorem State.setWatch_board : (s.setWatch r x).board = s.board := rfl
@[simp] theorem State.setWatch_rd (i : Nat) : (s.setWatch r x).rd i = s.rd i := rfl
@[simp] theorem State.setWatch_rdN (i : Nat) : (s.setWatch r x).rdN i = s.rdN i := rfl
@[simp] theorem State.setWatch_watch : (s.setWatch r x).watch r = x := tget_tset_self _ _ _ _
end

section
variable (r c v taps : Nat)
@[simp] theorem State.putEqSc_pending : (s.putEqSc r c v taps).pending = s.pending := rfl
@[simp] theorem State.putEqSc_regs : (s.putEqSc r c v taps).regs = s.regs := rfl
@[simp] theorem State.putEqSc_core : (s.putEqSc r c v taps).core = s.core := rfl
@[simp] theorem State.putEqSc_agent : (s.putEqSc r c v taps).agent = s.agent := rfl
@[simp] theorem State.putEqSc_start : (s.putEqSc r c v taps).start = s.start := rfl
@[simp] theorem State.putEqSc_power : (s.putEqSc r c v taps).power = s.power := rfl
@[simp] theorem State.putEqSc_conv : (s.putEqSc r c v taps).conv = s.conv := rfl
@[simp] theorem State.putEqSc_loads : (s.putEqSc r c v taps).loads = s.loads := rfl
@[simp] theorem State.putEqSc_pool : (s.putEqSc r c v taps).pool = s.pool := rfl
@[simp] theorem State.putEqSc_frame : (s.putEqSc r c v taps).frame = s.frame := rfl
@[simp] theorem State.putEqSc_berth : (s.putEqSc r c v taps).berth = s.berth := rfl
@[simp] theorem State.putEqSc_basin : (s.putEqSc r c v taps).basin = s.basin := rfl
@[simp] theorem State.putEqSc_rest : (s.putEqSc r c v taps).rest = s.rest := rfl
@[simp] theorem State.putEqSc_key : (s.putEqSc r c v taps).key = s.key := rfl
@[simp] theorem State.putEqSc_timing : (s.putEqSc r c v taps).timing = s.timing := rfl
@[simp] theorem State.putEqSc_towpath : (s.putEqSc r c v taps).towpath = s.towpath := rfl
@[simp] theorem State.putEqSc_engine : (s.putEqSc r c v taps).engine = s.engine := rfl
@[simp] theorem State.putEqSc_sup : (s.putEqSc r c v taps).sup = s.sup := rfl
@[simp] theorem State.putEqSc_integ : (s.putEqSc r c v taps).integ = s.integ := rfl
@[simp] theorem State.putEqSc_board : (s.putEqSc r c v taps).board = s.board := rfl
@[simp] theorem State.putEqSc_rd (i : Nat) : (s.putEqSc r c v taps).rd i = s.rd i := rfl
@[simp] theorem State.putEqSc_rdN (i : Nat) : (s.putEqSc r c v taps).rdN i = s.rdN i := rfl
end

section
variable (r g : Nat) (x : FrameRx)
@[simp] theorem State.setFrx_pending : (s.setFrx r g x).pending = s.pending := rfl
@[simp] theorem State.setFrx_regs : (s.setFrx r g x).regs = s.regs := rfl
@[simp] theorem State.setFrx_core : (s.setFrx r g x).core = s.core := rfl
@[simp] theorem State.setFrx_agent : (s.setFrx r g x).agent = s.agent := rfl
@[simp] theorem State.setFrx_start : (s.setFrx r g x).start = s.start := rfl
@[simp] theorem State.setFrx_power : (s.setFrx r g x).power = s.power := rfl
@[simp] theorem State.setFrx_conv : (s.setFrx r g x).conv = s.conv := rfl
@[simp] theorem State.setFrx_loads : (s.setFrx r g x).loads = s.loads := rfl
@[simp] theorem State.setFrx_eq : (s.setFrx r g x).eq = s.eq := rfl
@[simp] theorem State.setFrx_pool : (s.setFrx r g x).pool = s.pool := rfl
@[simp] theorem State.setFrx_berth : (s.setFrx r g x).berth = s.berth := rfl
@[simp] theorem State.setFrx_basin : (s.setFrx r g x).basin = s.basin := rfl
@[simp] theorem State.setFrx_rest : (s.setFrx r g x).rest = s.rest := rfl
@[simp] theorem State.setFrx_key : (s.setFrx r g x).key = s.key := rfl
@[simp] theorem State.setFrx_timing : (s.setFrx r g x).timing = s.timing := rfl
@[simp] theorem State.setFrx_towpath : (s.setFrx r g x).towpath = s.towpath := rfl
@[simp] theorem State.setFrx_engine : (s.setFrx r g x).engine = s.engine := rfl
@[simp] theorem State.setFrx_sup : (s.setFrx r g x).sup = s.sup := rfl
@[simp] theorem State.setFrx_integ : (s.setFrx r g x).integ = s.integ := rfl
@[simp] theorem State.setFrx_board : (s.setFrx r g x).board = s.board := rfl
@[simp] theorem State.setFrx_rd (i : Nat) : (s.setFrx r g x).rd i = s.rd i := rfl
@[simp] theorem State.setFrx_rdN (i : Nat) : (s.setFrx r g x).rdN i = s.rdN i := rfl
@[simp] theorem State.setFrx_frx : (s.setFrx r g x).frx r g = x := tget_tset_self _ _ _ _
end

section
variable (b : Nat) (x : Port)
@[simp] theorem State.setPort_pending : (s.setPort b x).pending = s.pending := rfl
@[simp] theorem State.setPort_regs : (s.setPort b x).regs = s.regs := rfl
@[simp] theorem State.setPort_core : (s.setPort b x).core = s.core := rfl
@[simp] theorem State.setPort_agent : (s.setPort b x).agent = s.agent := rfl
@[simp] theorem State.setPort_start : (s.setPort b x).start = s.start := rfl
@[simp] theorem State.setPort_power : (s.setPort b x).power = s.power := rfl
@[simp] theorem State.setPort_conv : (s.setPort b x).conv = s.conv := rfl
@[simp] theorem State.setPort_loads : (s.setPort b x).loads = s.loads := rfl
@[simp] theorem State.setPort_eq : (s.setPort b x).eq = s.eq := rfl
@[simp] theorem State.setPort_pool : (s.setPort b x).pool = s.pool := rfl
@[simp] theorem State.setPort_frame : (s.setPort b x).frame = s.frame := rfl
@[simp] theorem State.setPort_basin : (s.setPort b x).basin = s.basin := rfl
@[simp] theorem State.setPort_rest : (s.setPort b x).rest = s.rest := rfl
@[simp] theorem State.setPort_key : (s.setPort b x).key = s.key := rfl
@[simp] theorem State.setPort_timing : (s.setPort b x).timing = s.timing := rfl
@[simp] theorem State.setPort_towpath : (s.setPort b x).towpath = s.towpath := rfl
@[simp] theorem State.setPort_engine : (s.setPort b x).engine = s.engine := rfl
@[simp] theorem State.setPort_sup : (s.setPort b x).sup = s.sup := rfl
@[simp] theorem State.setPort_integ : (s.setPort b x).integ = s.integ := rfl
@[simp] theorem State.setPort_board : (s.setPort b x).board = s.board := rfl
@[simp] theorem State.setPort_rd (i : Nat) : (s.setPort b x).rd i = s.rd i := rfl
@[simp] theorem State.setPort_rdN (i : Nat) : (s.setPort b x).rdN i = s.rdN i := rfl
@[simp] theorem State.setPort_port : (s.setPort b x).port b = x := tget_tset_self _ _ _ _
end

section
variable (f : Nat) (x : Flow)
@[simp] theorem State.setFlow_pending : (s.setFlow f x).pending = s.pending := rfl
@[simp] theorem State.setFlow_regs : (s.setFlow f x).regs = s.regs := rfl
@[simp] theorem State.setFlow_core : (s.setFlow f x).core = s.core := rfl
@[simp] theorem State.setFlow_agent : (s.setFlow f x).agent = s.agent := rfl
@[simp] theorem State.setFlow_start : (s.setFlow f x).start = s.start := rfl
@[simp] theorem State.setFlow_power : (s.setFlow f x).power = s.power := rfl
@[simp] theorem State.setFlow_conv : (s.setFlow f x).conv = s.conv := rfl
@[simp] theorem State.setFlow_loads : (s.setFlow f x).loads = s.loads := rfl
@[simp] theorem State.setFlow_eq : (s.setFlow f x).eq = s.eq := rfl
@[simp] theorem State.setFlow_pool : (s.setFlow f x).pool = s.pool := rfl
@[simp] theorem State.setFlow_frame : (s.setFlow f x).frame = s.frame := rfl
@[simp] theorem State.setFlow_berth : (s.setFlow f x).berth = s.berth := rfl
@[simp] theorem State.setFlow_rest : (s.setFlow f x).rest = s.rest := rfl
@[simp] theorem State.setFlow_key : (s.setFlow f x).key = s.key := rfl
@[simp] theorem State.setFlow_timing : (s.setFlow f x).timing = s.timing := rfl
@[simp] theorem State.setFlow_towpath : (s.setFlow f x).towpath = s.towpath := rfl
@[simp] theorem State.setFlow_engine : (s.setFlow f x).engine = s.engine := rfl
@[simp] theorem State.setFlow_sup : (s.setFlow f x).sup = s.sup := rfl
@[simp] theorem State.setFlow_integ : (s.setFlow f x).integ = s.integ := rfl
@[simp] theorem State.setFlow_board : (s.setFlow f x).board = s.board := rfl
@[simp] theorem State.setFlow_rd (i : Nat) : (s.setFlow f x).rd i = s.rd i := rfl
@[simp] theorem State.setFlow_rdN (i : Nat) : (s.setFlow f x).rdN i = s.rdN i := rfl
@[simp] theorem State.setFlow_flow : (s.setFlow f x).flow f = x := tget_tset_self _ _ _ _
end

section
variable (p : Nat) (x : BasinPort)
@[simp] theorem State.setBport_pending : (s.setBport p x).pending = s.pending := rfl
@[simp] theorem State.setBport_regs : (s.setBport p x).regs = s.regs := rfl
@[simp] theorem State.setBport_core : (s.setBport p x).core = s.core := rfl
@[simp] theorem State.setBport_agent : (s.setBport p x).agent = s.agent := rfl
@[simp] theorem State.setBport_start : (s.setBport p x).start = s.start := rfl
@[simp] theorem State.setBport_power : (s.setBport p x).power = s.power := rfl
@[simp] theorem State.setBport_conv : (s.setBport p x).conv = s.conv := rfl
@[simp] theorem State.setBport_loads : (s.setBport p x).loads = s.loads := rfl
@[simp] theorem State.setBport_eq : (s.setBport p x).eq = s.eq := rfl
@[simp] theorem State.setBport_pool : (s.setBport p x).pool = s.pool := rfl
@[simp] theorem State.setBport_frame : (s.setBport p x).frame = s.frame := rfl
@[simp] theorem State.setBport_berth : (s.setBport p x).berth = s.berth := rfl
@[simp] theorem State.setBport_rest : (s.setBport p x).rest = s.rest := rfl
@[simp] theorem State.setBport_key : (s.setBport p x).key = s.key := rfl
@[simp] theorem State.setBport_timing : (s.setBport p x).timing = s.timing := rfl
@[simp] theorem State.setBport_towpath : (s.setBport p x).towpath = s.towpath := rfl
@[simp] theorem State.setBport_engine : (s.setBport p x).engine = s.engine := rfl
@[simp] theorem State.setBport_sup : (s.setBport p x).sup = s.sup := rfl
@[simp] theorem State.setBport_integ : (s.setBport p x).integ = s.integ := rfl
@[simp] theorem State.setBport_board : (s.setBport p x).board = s.board := rfl
@[simp] theorem State.setBport_rd (i : Nat) : (s.setBport p x).rd i = s.rd i := rfl
@[simp] theorem State.setBport_rdN (i : Nat) : (s.setBport p x).rdN i = s.rdN i := rfl
@[simp] theorem State.setBport_bport : (s.setBport p x).bport p = x := tget_tset_self _ _ _ _
end

section
variable (k : Nat) (x : Slot)
@[simp] theorem State.setSlot_pending : (s.setSlot k x).pending = s.pending := rfl
@[simp] theorem State.setSlot_regs : (s.setSlot k x).regs = s.regs := rfl
@[simp] theorem State.setSlot_core : (s.setSlot k x).core = s.core := rfl
@[simp] theorem State.setSlot_agent : (s.setSlot k x).agent = s.agent := rfl
@[simp] theorem State.setSlot_start : (s.setSlot k x).start = s.start := rfl
@[simp] theorem State.setSlot_power : (s.setSlot k x).power = s.power := rfl
@[simp] theorem State.setSlot_conv : (s.setSlot k x).conv = s.conv := rfl
@[simp] theorem State.setSlot_loads : (s.setSlot k x).loads = s.loads := rfl
@[simp] theorem State.setSlot_eq : (s.setSlot k x).eq = s.eq := rfl
@[simp] theorem State.setSlot_pool : (s.setSlot k x).pool = s.pool := rfl
@[simp] theorem State.setSlot_frame : (s.setSlot k x).frame = s.frame := rfl
@[simp] theorem State.setSlot_berth : (s.setSlot k x).berth = s.berth := rfl
@[simp] theorem State.setSlot_rest : (s.setSlot k x).rest = s.rest := rfl
@[simp] theorem State.setSlot_key : (s.setSlot k x).key = s.key := rfl
@[simp] theorem State.setSlot_timing : (s.setSlot k x).timing = s.timing := rfl
@[simp] theorem State.setSlot_towpath : (s.setSlot k x).towpath = s.towpath := rfl
@[simp] theorem State.setSlot_engine : (s.setSlot k x).engine = s.engine := rfl
@[simp] theorem State.setSlot_sup : (s.setSlot k x).sup = s.sup := rfl
@[simp] theorem State.setSlot_integ : (s.setSlot k x).integ = s.integ := rfl
@[simp] theorem State.setSlot_board : (s.setSlot k x).board = s.board := rfl
@[simp] theorem State.setSlot_rd (i : Nat) : (s.setSlot k x).rd i = s.rd i := rfl
@[simp] theorem State.setSlot_rdN (i : Nat) : (s.setSlot k x).rdN i = s.rdN i := rfl
@[simp] theorem State.setSlot_slot : (s.setSlot k x).slot k = x := tget_tset_self _ _ _ _
end

section
variable (u : Nat) (x : UnitSt)
@[simp] theorem State.setUnit_pending : (s.setUnit u x).pending = s.pending := rfl
@[simp] theorem State.setUnit_regs : (s.setUnit u x).regs = s.regs := rfl
@[simp] theorem State.setUnit_core : (s.setUnit u x).core = s.core := rfl
@[simp] theorem State.setUnit_agent : (s.setUnit u x).agent = s.agent := rfl
@[simp] theorem State.setUnit_start : (s.setUnit u x).start = s.start := rfl
@[simp] theorem State.setUnit_power : (s.setUnit u x).power = s.power := rfl
@[simp] theorem State.setUnit_conv : (s.setUnit u x).conv = s.conv := rfl
@[simp] theorem State.setUnit_loads : (s.setUnit u x).loads = s.loads := rfl
@[simp] theorem State.setUnit_eq : (s.setUnit u x).eq = s.eq := rfl
@[simp] theorem State.setUnit_pool : (s.setUnit u x).pool = s.pool := rfl
@[simp] theorem State.setUnit_frame : (s.setUnit u x).frame = s.frame := rfl
@[simp] theorem State.setUnit_berth : (s.setUnit u x).berth = s.berth := rfl
@[simp] theorem State.setUnit_basin : (s.setUnit u x).basin = s.basin := rfl
@[simp] theorem State.setUnit_key : (s.setUnit u x).key = s.key := rfl
@[simp] theorem State.setUnit_timing : (s.setUnit u x).timing = s.timing := rfl
@[simp] theorem State.setUnit_towpath : (s.setUnit u x).towpath = s.towpath := rfl
@[simp] theorem State.setUnit_engine : (s.setUnit u x).engine = s.engine := rfl
@[simp] theorem State.setUnit_sup : (s.setUnit u x).sup = s.sup := rfl
@[simp] theorem State.setUnit_integ : (s.setUnit u x).integ = s.integ := rfl
@[simp] theorem State.setUnit_board : (s.setUnit u x).board = s.board := rfl
@[simp] theorem State.setUnit_rd (i : Nat) : (s.setUnit u x).rd i = s.rd i := rfl
@[simp] theorem State.setUnit_rdN (i : Nat) : (s.setUnit u x).rdN i = s.rdN i := rfl
@[simp] theorem State.setUnit_unit : (s.setUnit u x).unit u = x := tget_tset_self _ _ _ _
end

section
variable (r g : Nat) (x : KeyGrp)
@[simp] theorem State.setKg_pending : (s.setKg r g x).pending = s.pending := rfl
@[simp] theorem State.setKg_regs : (s.setKg r g x).regs = s.regs := rfl
@[simp] theorem State.setKg_core : (s.setKg r g x).core = s.core := rfl
@[simp] theorem State.setKg_agent : (s.setKg r g x).agent = s.agent := rfl
@[simp] theorem State.setKg_start : (s.setKg r g x).start = s.start := rfl
@[simp] theorem State.setKg_power : (s.setKg r g x).power = s.power := rfl
@[simp] theorem State.setKg_conv : (s.setKg r g x).conv = s.conv := rfl
@[simp] theorem State.setKg_loads : (s.setKg r g x).loads = s.loads := rfl
@[simp] theorem State.setKg_eq : (s.setKg r g x).eq = s.eq := rfl
@[simp] theorem State.setKg_pool : (s.setKg r g x).pool = s.pool := rfl
@[simp] theorem State.setKg_frame : (s.setKg r g x).frame = s.frame := rfl
@[simp] theorem State.setKg_berth : (s.setKg r g x).berth = s.berth := rfl
@[simp] theorem State.setKg_basin : (s.setKg r g x).basin = s.basin := rfl
@[simp] theorem State.setKg_rest : (s.setKg r g x).rest = s.rest := rfl
@[simp] theorem State.setKg_timing : (s.setKg r g x).timing = s.timing := rfl
@[simp] theorem State.setKg_towpath : (s.setKg r g x).towpath = s.towpath := rfl
@[simp] theorem State.setKg_engine : (s.setKg r g x).engine = s.engine := rfl
@[simp] theorem State.setKg_sup : (s.setKg r g x).sup = s.sup := rfl
@[simp] theorem State.setKg_integ : (s.setKg r g x).integ = s.integ := rfl
@[simp] theorem State.setKg_board : (s.setKg r g x).board = s.board := rfl
@[simp] theorem State.setKg_rd (i : Nat) : (s.setKg r g x).rd i = s.rd i := rfl
@[simp] theorem State.setKg_rdN (i : Nat) : (s.setKg r g x).rdN i = s.rdN i := rfl
@[simp] theorem State.setKg_kg : (s.setKg r g x).kg r g = x := tget_tset_self _ _ _ _
end

section
variable (n : Nat) (x : KeySlot)
@[simp] theorem State.setKslot_pending : (s.setKslot n x).pending = s.pending := rfl
@[simp] theorem State.setKslot_regs : (s.setKslot n x).regs = s.regs := rfl
@[simp] theorem State.setKslot_core : (s.setKslot n x).core = s.core := rfl
@[simp] theorem State.setKslot_agent : (s.setKslot n x).agent = s.agent := rfl
@[simp] theorem State.setKslot_start : (s.setKslot n x).start = s.start := rfl
@[simp] theorem State.setKslot_power : (s.setKslot n x).power = s.power := rfl
@[simp] theorem State.setKslot_conv : (s.setKslot n x).conv = s.conv := rfl
@[simp] theorem State.setKslot_loads : (s.setKslot n x).loads = s.loads := rfl
@[simp] theorem State.setKslot_eq : (s.setKslot n x).eq = s.eq := rfl
@[simp] theorem State.setKslot_pool : (s.setKslot n x).pool = s.pool := rfl
@[simp] theorem State.setKslot_frame : (s.setKslot n x).frame = s.frame := rfl
@[simp] theorem State.setKslot_berth : (s.setKslot n x).berth = s.berth := rfl
@[simp] theorem State.setKslot_basin : (s.setKslot n x).basin = s.basin := rfl
@[simp] theorem State.setKslot_rest : (s.setKslot n x).rest = s.rest := rfl
@[simp] theorem State.setKslot_timing : (s.setKslot n x).timing = s.timing := rfl
@[simp] theorem State.setKslot_towpath : (s.setKslot n x).towpath = s.towpath := rfl
@[simp] theorem State.setKslot_engine : (s.setKslot n x).engine = s.engine := rfl
@[simp] theorem State.setKslot_sup : (s.setKslot n x).sup = s.sup := rfl
@[simp] theorem State.setKslot_integ : (s.setKslot n x).integ = s.integ := rfl
@[simp] theorem State.setKslot_board : (s.setKslot n x).board = s.board := rfl
@[simp] theorem State.setKslot_rd (i : Nat) : (s.setKslot n x).rd i = s.rd i := rfl
@[simp] theorem State.setKslot_rdN (i : Nat) : (s.setKslot n x).rdN i = s.rdN i := rfl
@[simp] theorem State.setKslot_kslot : (s.setKslot n x).kslot n = x := tget_tset_self _ _ _ _
end

section
variable (i : Nat) (x : RefIn)
@[simp] theorem State.setRefIn_pending : (s.setRefIn i x).pending = s.pending := rfl
@[simp] theorem State.setRefIn_regs : (s.setRefIn i x).regs = s.regs := rfl
@[simp] theorem State.setRefIn_core : (s.setRefIn i x).core = s.core := rfl
@[simp] theorem State.setRefIn_agent : (s.setRefIn i x).agent = s.agent := rfl
@[simp] theorem State.setRefIn_start : (s.setRefIn i x).start = s.start := rfl
@[simp] theorem State.setRefIn_power : (s.setRefIn i x).power = s.power := rfl
@[simp] theorem State.setRefIn_conv : (s.setRefIn i x).conv = s.conv := rfl
@[simp] theorem State.setRefIn_loads : (s.setRefIn i x).loads = s.loads := rfl
@[simp] theorem State.setRefIn_eq : (s.setRefIn i x).eq = s.eq := rfl
@[simp] theorem State.setRefIn_pool : (s.setRefIn i x).pool = s.pool := rfl
@[simp] theorem State.setRefIn_frame : (s.setRefIn i x).frame = s.frame := rfl
@[simp] theorem State.setRefIn_berth : (s.setRefIn i x).berth = s.berth := rfl
@[simp] theorem State.setRefIn_basin : (s.setRefIn i x).basin = s.basin := rfl
@[simp] theorem State.setRefIn_rest : (s.setRefIn i x).rest = s.rest := rfl
@[simp] theorem State.setRefIn_key : (s.setRefIn i x).key = s.key := rfl
@[simp] theorem State.setRefIn_towpath : (s.setRefIn i x).towpath = s.towpath := rfl
@[simp] theorem State.setRefIn_engine : (s.setRefIn i x).engine = s.engine := rfl
@[simp] theorem State.setRefIn_sup : (s.setRefIn i x).sup = s.sup := rfl
@[simp] theorem State.setRefIn_integ : (s.setRefIn i x).integ = s.integ := rfl
@[simp] theorem State.setRefIn_board : (s.setRefIn i x).board = s.board := rfl
@[simp] theorem State.setRefIn_rd (i : Nat) : (s.setRefIn i x).rd i = s.rd i := rfl
@[simp] theorem State.setRefIn_rdN (i : Nat) : (s.setRefIn i x).rdN i = s.rdN i := rfl
@[simp] theorem State.setRefIn_refIn : (s.setRefIn i x).refIn i = x := tget_tset_self _ _ _ _
end

section
variable (r : Nat) (x : DelaySt)
@[simp] theorem State.setDelay_pending : (s.setDelay r x).pending = s.pending := rfl
@[simp] theorem State.setDelay_regs : (s.setDelay r x).regs = s.regs := rfl
@[simp] theorem State.setDelay_core : (s.setDelay r x).core = s.core := rfl
@[simp] theorem State.setDelay_agent : (s.setDelay r x).agent = s.agent := rfl
@[simp] theorem State.setDelay_start : (s.setDelay r x).start = s.start := rfl
@[simp] theorem State.setDelay_power : (s.setDelay r x).power = s.power := rfl
@[simp] theorem State.setDelay_conv : (s.setDelay r x).conv = s.conv := rfl
@[simp] theorem State.setDelay_loads : (s.setDelay r x).loads = s.loads := rfl
@[simp] theorem State.setDelay_eq : (s.setDelay r x).eq = s.eq := rfl
@[simp] theorem State.setDelay_pool : (s.setDelay r x).pool = s.pool := rfl
@[simp] theorem State.setDelay_frame : (s.setDelay r x).frame = s.frame := rfl
@[simp] theorem State.setDelay_berth : (s.setDelay r x).berth = s.berth := rfl
@[simp] theorem State.setDelay_basin : (s.setDelay r x).basin = s.basin := rfl
@[simp] theorem State.setDelay_rest : (s.setDelay r x).rest = s.rest := rfl
@[simp] theorem State.setDelay_key : (s.setDelay r x).key = s.key := rfl
@[simp] theorem State.setDelay_towpath : (s.setDelay r x).towpath = s.towpath := rfl
@[simp] theorem State.setDelay_engine : (s.setDelay r x).engine = s.engine := rfl
@[simp] theorem State.setDelay_sup : (s.setDelay r x).sup = s.sup := rfl
@[simp] theorem State.setDelay_integ : (s.setDelay r x).integ = s.integ := rfl
@[simp] theorem State.setDelay_board : (s.setDelay r x).board = s.board := rfl
@[simp] theorem State.setDelay_rd (i : Nat) : (s.setDelay r x).rd i = s.rd i := rfl
@[simp] theorem State.setDelay_rdN (i : Nat) : (s.setDelay r x).rdN i = s.rdN i := rfl
@[simp] theorem State.setDelay_delay : (s.setDelay r x).delay r = x := tget_tset_self _ _ _ _
end

section
variable (l : Nat) (x : LaneSt)
@[simp] theorem State.setLane_pending : (s.setLane l x).pending = s.pending := rfl
@[simp] theorem State.setLane_regs : (s.setLane l x).regs = s.regs := rfl
@[simp] theorem State.setLane_core : (s.setLane l x).core = s.core := rfl
@[simp] theorem State.setLane_agent : (s.setLane l x).agent = s.agent := rfl
@[simp] theorem State.setLane_start : (s.setLane l x).start = s.start := rfl
@[simp] theorem State.setLane_power : (s.setLane l x).power = s.power := rfl
@[simp] theorem State.setLane_conv : (s.setLane l x).conv = s.conv := rfl
@[simp] theorem State.setLane_loads : (s.setLane l x).loads = s.loads := rfl
@[simp] theorem State.setLane_eq : (s.setLane l x).eq = s.eq := rfl
@[simp] theorem State.setLane_pool : (s.setLane l x).pool = s.pool := rfl
@[simp] theorem State.setLane_frame : (s.setLane l x).frame = s.frame := rfl
@[simp] theorem State.setLane_berth : (s.setLane l x).berth = s.berth := rfl
@[simp] theorem State.setLane_basin : (s.setLane l x).basin = s.basin := rfl
@[simp] theorem State.setLane_rest : (s.setLane l x).rest = s.rest := rfl
@[simp] theorem State.setLane_key : (s.setLane l x).key = s.key := rfl
@[simp] theorem State.setLane_timing : (s.setLane l x).timing = s.timing := rfl
@[simp] theorem State.setLane_engine : (s.setLane l x).engine = s.engine := rfl
@[simp] theorem State.setLane_sup : (s.setLane l x).sup = s.sup := rfl
@[simp] theorem State.setLane_integ : (s.setLane l x).integ = s.integ := rfl
@[simp] theorem State.setLane_board : (s.setLane l x).board = s.board := rfl
@[simp] theorem State.setLane_rd (i : Nat) : (s.setLane l x).rd i = s.rd i := rfl
@[simp] theorem State.setLane_rdN (i : Nat) : (s.setLane l x).rdN i = s.rdN i := rfl
@[simp] theorem State.setLane_lane : (s.setLane l x).lane l = x := tget_tset_self _ _ _ _
end

section
variable (c e : Nat) (x : EngSlot)
@[simp] theorem State.setEng_pending : (s.setEng c e x).pending = s.pending := rfl
@[simp] theorem State.setEng_regs : (s.setEng c e x).regs = s.regs := rfl
@[simp] theorem State.setEng_core : (s.setEng c e x).core = s.core := rfl
@[simp] theorem State.setEng_agent : (s.setEng c e x).agent = s.agent := rfl
@[simp] theorem State.setEng_start : (s.setEng c e x).start = s.start := rfl
@[simp] theorem State.setEng_power : (s.setEng c e x).power = s.power := rfl
@[simp] theorem State.setEng_conv : (s.setEng c e x).conv = s.conv := rfl
@[simp] theorem State.setEng_loads : (s.setEng c e x).loads = s.loads := rfl
@[simp] theorem State.setEng_eq : (s.setEng c e x).eq = s.eq := rfl
@[simp] theorem State.setEng_pool : (s.setEng c e x).pool = s.pool := rfl
@[simp] theorem State.setEng_frame : (s.setEng c e x).frame = s.frame := rfl
@[simp] theorem State.setEng_berth : (s.setEng c e x).berth = s.berth := rfl
@[simp] theorem State.setEng_basin : (s.setEng c e x).basin = s.basin := rfl
@[simp] theorem State.setEng_rest : (s.setEng c e x).rest = s.rest := rfl
@[simp] theorem State.setEng_key : (s.setEng c e x).key = s.key := rfl
@[simp] theorem State.setEng_timing : (s.setEng c e x).timing = s.timing := rfl
@[simp] theorem State.setEng_towpath : (s.setEng c e x).towpath = s.towpath := rfl
@[simp] theorem State.setEng_sup : (s.setEng c e x).sup = s.sup := rfl
@[simp] theorem State.setEng_integ : (s.setEng c e x).integ = s.integ := rfl
@[simp] theorem State.setEng_board : (s.setEng c e x).board = s.board := rfl
@[simp] theorem State.setEng_rd (i : Nat) : (s.setEng c e x).rd i = s.rd i := rfl
@[simp] theorem State.setEng_rdN (i : Nat) : (s.setEng c e x).rdN i = s.rdN i := rfl
@[simp] theorem State.setEng_eng : (s.setEng c e x).eng c e = x := tget_tset_self _ _ _ _
end

section
variable (f : Nat) (x : FilterSt)
@[simp] theorem State.setFilt_pending : (s.setFilt f x).pending = s.pending := rfl
@[simp] theorem State.setFilt_regs : (s.setFilt f x).regs = s.regs := rfl
@[simp] theorem State.setFilt_core : (s.setFilt f x).core = s.core := rfl
@[simp] theorem State.setFilt_agent : (s.setFilt f x).agent = s.agent := rfl
@[simp] theorem State.setFilt_start : (s.setFilt f x).start = s.start := rfl
@[simp] theorem State.setFilt_power : (s.setFilt f x).power = s.power := rfl
@[simp] theorem State.setFilt_conv : (s.setFilt f x).conv = s.conv := rfl
@[simp] theorem State.setFilt_loads : (s.setFilt f x).loads = s.loads := rfl
@[simp] theorem State.setFilt_eq : (s.setFilt f x).eq = s.eq := rfl
@[simp] theorem State.setFilt_pool : (s.setFilt f x).pool = s.pool := rfl
@[simp] theorem State.setFilt_frame : (s.setFilt f x).frame = s.frame := rfl
@[simp] theorem State.setFilt_berth : (s.setFilt f x).berth = s.berth := rfl
@[simp] theorem State.setFilt_basin : (s.setFilt f x).basin = s.basin := rfl
@[simp] theorem State.setFilt_rest : (s.setFilt f x).rest = s.rest := rfl
@[simp] theorem State.setFilt_key : (s.setFilt f x).key = s.key := rfl
@[simp] theorem State.setFilt_timing : (s.setFilt f x).timing = s.timing := rfl
@[simp] theorem State.setFilt_towpath : (s.setFilt f x).towpath = s.towpath := rfl
@[simp] theorem State.setFilt_engine : (s.setFilt f x).engine = s.engine := rfl
@[simp] theorem State.setFilt_integ : (s.setFilt f x).integ = s.integ := rfl
@[simp] theorem State.setFilt_board : (s.setFilt f x).board = s.board := rfl
@[simp] theorem State.setFilt_rd (i : Nat) : (s.setFilt f x).rd i = s.rd i := rfl
@[simp] theorem State.setFilt_rdN (i : Nat) : (s.setFilt f x).rdN i = s.rdN i := rfl
@[simp] theorem State.setFilt_filt : (s.setFilt f x).filt f = x := tget_tset_self _ _ _ _
end


section
variable (k j : Nat) (v : Int) (n : Nat)
/-- A register reads as it was last written. -/
theorem State.wr_rd : (s.wr k v).rd j = if j = k then v else s.rd j := tget_tset _ _ _ _ _
@[simp] theorem State.wr_rd_self : (s.wr k v).rd k = v := tget_tset_self _ _ _ _
@[simp] theorem State.wr_rdN_self : (s.wr k v).rdN k = v.toNat := by simp [State.rdN]
@[simp] theorem State.wrN_rd_self : (s.wrN k n).rd k = (n : Int) := tget_tset_self _ _ _ _
@[simp] theorem State.wrN_rdN_self : (s.wrN k n).rdN k = n := by simp [State.rdN]
/-- Another register reads as before. -/
theorem State.wr_rd_ne (h : j ≠ k) : (s.wr k v).rd j = s.rd j := tget_tset_ne _ _ _ h
theorem State.wrN_rd_ne (h : j ≠ k) : (s.wrN k n).rd j = s.rd j := tget_tset_ne _ _ _ h
theorem State.wr_rdN_ne (h : j ≠ k) : (s.wr k v).rdN j = s.rdN j := by simp [State.rdN, State.wr_rd_ne, h]
theorem State.wrN_rdN_ne (h : j ≠ k) : (s.wrN k n).rdN j = s.rdN j := by simp [State.rdN, State.wrN_rd_ne, h]
/-- A counter advances by what it counts, modulo 2^64. -/
theorem State.incBy_rdN_self : (s.incBy k n).rdN k = (s.rdN k + n) % 2 ^ 64 := by simp [State.incBy]
theorem State.incBy_rdN_ne (h : j ≠ k) : (s.incBy k n).rdN j = s.rdN j := by simp [State.incBy, State.wrN_rdN_ne, h]
theorem State.inc_rdN_self : (s.inc k).rdN k = (s.rdN k + 1) % 2 ^ 64 := by simp [State.inc, State.incBy]
theorem State.inc_rdN_ne (h : j ≠ k) : (s.inc k).rdN j = s.rdN j := by simp [State.inc, State.incBy_rdN_ne, h]
theorem State.setDom_dom_ne (d e : Nat) (h : e ≠ d) : (s.setDom d n).dom e = s.dom e := tget_tset_ne _ _ _ h
end

section
variable (c o a : Nat)
/-- An event is on its way once it is raised, with the tick and the lifetime of the moment (R68). -/
@[simp] theorem State.raise_inFlight :
    (s.raise c o a).core.inFlight = s.core.inFlight ++ [⟨c, o, a, s.core.tick, s.life⟩] := rfl
@[simp] theorem State.raise_tick : (s.raise c o a).core.tick = s.core.tick := rfl
@[simp] theorem State.raise_window : (s.raise c o a).core.window = s.core.window := rfl
@[simp] theorem State.raise_held : (s.raise c o a).core.held = s.core.held := rfl
@[simp] theorem State.raise_log : (s.raise c o a).core.log = s.core.log := rfl
@[simp] theorem State.raise_windowOpen : (s.raise c o a).core.windowOpen = s.core.windowOpen := rfl
@[simp] theorem State.raise_limits : (s.raise c o a).core.limits = s.core.limits := rfl
end

@[simp] theorem State.each_nil {α : Type} (f : State → α → State) : s.each [] f = s := rfl
@[simp] theorem State.each_cons {α : Type} (a : α) (l : List α) (f : State → α → State) :
    s.each (a :: l) f = (f s a).each l f := rfl
@[simp] theorem State.onlyIf_true (f : State → State) : s.onlyIf true f = f s := rfl
@[simp] theorem State.onlyIf_false (f : State → State) : s.onlyIf false f = s := rfl

/-- What every step of a fold keeps, the fold keeps. -/
theorem State.each_keeps {α β : Type} (p : State → β) (l : List α) (f : State → α → State)
    (h : ∀ s a, p (f s a) = p s) : p (s.each l f) = p s := by
  induction l generalizing s with
  | nil => rfl
  | cons a l ih => exact (ih (f s a)).trans (h s a)

/-- A property that every step of a fold keeps holds after it. -/
theorem State.each_inv {α : Type} (P : State → Prop) (l : List α) (f : State → α → State)
    (h : ∀ s a, P s → P (f s a)) (h0 : P s) : P (s.each l f) := by
  induction l generalizing s with
  | nil => exact h0
  | cons a l ih => exact ih (f s a) (h s a h0)

end Sys2Proof.Machine
end

