-- ==== Sys2Proof/Laws/Agent.lean ====
section
/-! SUPPORT. What the dictionary agent does with a command that is a session's write. -/
namespace Sys2Proof.Machine

/-- Every row that is a session's write runs as that WRITE request. -/
theorem exec_writeOf (i : Instr) (s : State) (sess : Fin 17) (seq key : Nat) (words : List Nat)
    (h : writeOf i = some (sess, seq, key, words)) :
    exec i s = .next (s.direct { mkReq sess seq 2 (key / 256) (key % 256) words with meas := writeMeas i }) := by
  cases i <;> simp only [writeOf, reduceCtorEq, Option.some.injEq, Prod.mk.injEq] at h <;> try (obtain ⟨rfl, rfl, rfl, rfl⟩ := h; rfl)
  · obtain ⟨rfl, rfl, rfl, rfl⟩ := h
    have h1 : ∀ a b, b < 256 → objKey a b / 256 = a := fun a b h => by unfold objKey; omega
    have h2 : ∀ a b, b < 256 → objKey a b % 256 = b := fun a b h => by unfold objKey; omega
    simp [exec, execWriteReq, writeMeas, h1, h2, Nat.mod_lt, mkReq]
  · split at h
    · rename_i hc
      simp only [Option.some.injEq, Prod.mk.injEq] at h
      obtain ⟨rfl, rfl, rfl, rfl⟩ := h
      simp [exec, execMgmtAddressChange, hc, writeMeas, State.write, mkReq]
    · simp at h

end Sys2Proof.Machine
end

