-- ==== Sys2Proof/Laws/Ops.lean ====
section
/-! SUPPORT. What the shared operations do, said once: the dictionary's reads after writes, the counters, events, progress records,
domains and BAR0 registers, what each leaves, and that each keeps the dictionary's canonical form. -/
namespace Sys2Proof.Machine

variable (s : State)

/-! ### The dictionary: reads after writes (R62) -/

/-- A write of a register shows at its key and nowhere else. -/
theorem State.rd_wr (k j : Nat) (v : Int) : (s.wr k v).rd j = if j = k then v else s.rd j := by
  simp [State.rd, State.wr, tget_tset]

@[simp] theorem State.rd_wr_self (k : Nat) (v : Int) : (s.wr k v).rd k = v := by simp [State.rd_wr]

theorem State.rd_wr_ne {k j : Nat} (v : Int) (h : j ≠ k) : (s.wr k v).rd j = s.rd j := by simp [State.rd_wr, h]

@[simp] theorem State.rdN_wrN_self (k v : Nat) : (s.wrN k v).rdN k = v := by simp [State.rdN, State.wrN]

theorem State.rd_wrN_ne {k j : Nat} (v : Nat) (h : j ≠ k) : (s.wrN k v).rd j = s.rd j := State.rd_wr_ne s _ h

theorem State.rdN_wrN_ne {k j : Nat} (v : Nat) (h : j ≠ k) : (s.wrN k v).rdN j = s.rdN j := by
  simp [State.rdN, State.rd_wrN_ne s v h]

/-- Registers are read from the dictionary alone. -/
theorem State.rd_of_regs {s t : State} (h : t.regs = s.regs) (k : Nat) : t.rd k = s.rd k := by simp [State.rd, h]

/-! ### Frames of the dictionary -/

theorem KeepsRegs.refl (ks : List Nat) : KeepsRegs ks s s := fun _ _ => rfl

theorem KeepsRegs.of_regs {s t : State} (h : t.regs = s.regs) (ks : List Nat) : KeepsRegs ks s t :=
  fun k _ => State.rd_of_regs h k

theorem KeepsRegs.trans {ks : List Nat} {s t u : State} (h : KeepsRegs ks s t) (g : KeepsRegs ks t u) : KeepsRegs ks s u :=
  fun k hk => (g k hk).trans (h k hk)

theorem KeepsRegs.mono {ks js : List Nat} {s t : State} (h : KeepsRegs ks s t) (hs : ∀ k ∈ ks, k ∈ js) : KeepsRegs js s t :=
  fun k hk => h k (fun hm => hk (hs k hm))

/-- A write keeps every register but its own. -/
theorem KeepsRegs.wr {ks : List Nat} {k : Nat} (v : Int) (h : k ∈ ks) : KeepsRegs ks s (s.wr k v) :=
  fun j hj => State.rd_wr_ne s v (fun e => hj (e ▸ h))

theorem KeepsRegs.wrN {ks : List Nat} {k : Nat} (v : Nat) (h : k ∈ ks) : KeepsRegs ks s (s.wrN k v) := KeepsRegs.wr s _ h

theorem KeepsRegs.incBy {ks : List Nat} {k : Nat} (n : Nat) (h : k ∈ ks) : KeepsRegs ks s (s.incBy k n) := KeepsRegs.wr s _ h

theorem KeepsRegs.inc {ks : List Nat} {k : Nat} (h : k ∈ ks) : KeepsRegs ks s (s.inc k) := KeepsRegs.wr s _ h

/-- Folding changes that each keep the registers keeps them. -/
theorem KeepsRegs.each {α : Type} {ks : List Nat} {f : State → α → State} (hf : ∀ s a, KeepsRegs ks s (f s a)) (l : List α) :
    KeepsRegs ks s (s.each l f) := by
  induction l generalizing s with
  | nil => exact KeepsRegs.refl s ks
  | cons a l ih => exact (hf s a).trans (ih (f s a))

/-! ### Counters (R54) -/

/-- A counter goes on by n and wraps at 64 bits. -/
@[simp] theorem State.rdN_incBy_self (k n : Nat) : (s.incBy k n).rdN k = (s.rdN k + n) % 2 ^ 64 := by simp [State.incBy]

@[simp] theorem State.rdN_inc_self (k : Nat) : (s.inc k).rdN k = (s.rdN k + 1) % 2 ^ 64 := by simp [State.inc]

theorem State.rd_incBy_ne {k j : Nat} (n : Nat) (h : j ≠ k) : (s.incBy k n).rd j = s.rd j := State.rd_wr_ne s _ h

theorem State.rd_inc_ne {k j : Nat} (h : j ≠ k) : (s.inc k).rd j = s.rd j := State.rd_wr_ne s _ h

/-! ### Folds and conditions -/

/-- A property that every change of a fold keeps holds after it. -/
theorem State.each_ind {α : Type} {P : State → Prop} {f : State → α → State} (hf : ∀ s a, P s → P (f s a)) (l : List α) {s : State}
    (h : P s) : P (s.each l f) := by
  induction l generalizing s with
  | nil => exact h
  | cons a l ih => exact ih (hf s a h)

theorem State.onlyIf_ind {P : State → Prop} {f : State → State} {s : State} (b : Bool) (hf : P s → P (f s)) (h : P s) :
    P (s.onlyIf b f) := by cases b <;> simp [h, hf]

/-! ### Events (R68, R231) -/

/-- An event raised is the last on its way to the log; nothing else changes. -/
theorem State.raise_spec (code source arg : Nat) : s.raise code source arg =
    { s with core := { s.core with inFlight := s.core.inFlight ++ [⟨code, source, arg, s.core.tick, s.life⟩] } } := rfl

@[simp] theorem State.rd_raise (code source arg k : Nat) : (s.raise code source arg).rd k = s.rd k := rfl

/-- The first of a rate-limited event is raised at once, with its own count. -/
theorem State.raiseLimitedItem_first (code source item n last : Nat)
    (h : s.core.limits.any (fun l => l.code == code && l.source == source && l.item == item) = false) :
    (s.raiseLimitedItem code source item n last).core.inFlight =
      s.core.inFlight ++ [⟨code, source, limitedArg code n last, s.core.tick, s.life⟩] := by
  simp [State.raiseLimitedItem, h, State.raise]

/-- A later one within the period is held back: nothing goes to the log. -/
theorem State.raiseLimitedItem_held (code source item n last : Nat)
    (h : s.core.limits.any (fun l => l.code == code && l.source == source && l.item == item) = true) :
    (s.raiseLimitedItem code source item n last).core.inFlight = s.core.inFlight := by
  simp [State.raiseLimitedItem, h]

theorem State.raiseLimitedItem_regs (code source item n last : Nat) : (s.raiseLimitedItem code source item n last).regs = s.regs := by
  simp only [State.raiseLimitedItem]; split <;> rfl

/-! ### Domains (R481) -/

theorem State.dom_setDom (d e v : Nat) : (s.setDom d v).dom e = if e = d then v else s.dom e := by
  simp [State.dom, State.setDom, tget_tset]

@[simp] theorem State.dom_setDom_self (d v : Nat) : (s.setDom d v).dom d = v := by simp [State.dom_setDom]

theorem State.dom_setDom_ne {d e : Nat} (v : Nat) (h : e ≠ d) : (s.setDom d v).dom e = s.dom e := by simp [State.dom_setDom, h]

/-! ### Progress records (R65, R66) -/

/-- A start shows RUNNING from position 0, with its end and its tick. -/
theorem State.opStart_spec (o posEnd : Nat) :
    (s.opStart o posEnd).rdN (Obj.opStartTick o) = s.core.tick ∧ (s.opStart o posEnd).core = s.core ∧
    KeepsRegs [Obj.opState o, Obj.opPosition o, Obj.opPercent o, Obj.opPositionEnd o, Obj.opStartTick o] s (s.opStart o posEnd) := by
  refine ⟨by simp [State.opStart], rfl, ?_⟩
  unfold State.opStart
  refine (((KeepsRegs.wrN _ _ ?_).trans (KeepsRegs.wrN _ _ ?_)).trans (KeepsRegs.wrN _ _ ?_)).trans
    (KeepsRegs.wrN _ _ ?_) |>.trans (KeepsRegs.wrN _ _ ?_) <;> simp

/-- A good end shows DONE, with event 0x4005. -/
theorem State.opDone_spec (o : Nat) : (s.opDone o).rdN (Obj.opState o) = 2 ∧
    KeepsRegs [Obj.opPercent o, Obj.opState o] s (s.opDone o) ∧
    (s.opDone o).core = { s.core with inFlight := s.core.inFlight ++ [⟨0x4005, 0x1180 + o, 0, s.core.tick, s.life⟩] } := by
  refine ⟨?_, ?_, rfl⟩
  · unfold State.opDone; rw [State.rdN, State.rd_raise]; simp [State.wrN]
  · exact ((KeepsRegs.wrN _ _ (by simp)).trans (KeepsRegs.wrN _ _ (by simp))).trans (KeepsRegs.of_regs rfl _)

/-- A failure shows FAILED with its status, with event 0x8006. -/
theorem State.opFail_spec (o status : Nat) : (s.opFail o status).rdN (Obj.opState o) = 3 ∧
    KeepsRegs [Obj.opLastStatus o, Obj.opState o] s (s.opFail o status) ∧
    (s.opFail o status).core = { s.core with inFlight := s.core.inFlight ++ [⟨0x8006, 0x1180 + o, status, s.core.tick, s.life⟩] } := by
  refine ⟨?_, ?_, rfl⟩
  · unfold State.opFail; rw [State.rdN, State.rd_raise]; simp [State.wrN]
  · exact ((KeepsRegs.wrN _ _ (by simp)).trans (KeepsRegs.wrN _ _ (by simp))).trans (KeepsRegs.of_regs rfl _)

/-- An abort shows ABORTED with its status, with event 0x8006. -/
theorem State.opAbort_spec (o status : Nat) : (s.opAbort o status).rdN (Obj.opState o) = 4 ∧
    KeepsRegs [Obj.opLastStatus o, Obj.opState o] s (s.opAbort o status) ∧
    (s.opAbort o status).core = { s.core with inFlight := s.core.inFlight ++ [⟨0x8006, 0x1180 + o, status, s.core.tick, s.life⟩] } := by
  refine ⟨?_, ?_, rfl⟩
  · unfold State.opAbort; rw [State.rdN, State.rd_raise]; simp [State.wrN]
  · exact ((KeepsRegs.wrN _ _ (by simp)).trans (KeepsRegs.wrN _ _ (by simp))).trans (KeepsRegs.of_regs rfl _)

/-! ### BAR0 registers (R86) -/

theorem State.bar_setBar (off o v : Nat) : (s.setBar off v).bar o = if o / 4 = off / 4 then v % 2 ^ 32 else s.bar o := by
  simp [State.bar, State.setBar, tget_tset]

@[simp] theorem State.bar_setBar_self (off v : Nat) : (s.setBar off v).bar off = v % 2 ^ 32 := by simp [State.bar_setBar]

/-! ### The canonical form of the dictionary -/

theorem State.canonical_of_regs {s t : State} (h : t.regs = s.regs) (hs : s.canonical) : t.canonical := by
  unfold State.canonical at *; rw [h]; exact hs

theorem State.canonical_wr {s : State} (k : Nat) (v : Int) (hs : s.canonical) : (s.wr k v).canonical :=
  twf_tset objDefault k v hs

theorem State.canonical_wrN {s : State} (k v : Nat) (hs : s.canonical) : (s.wrN k v).canonical := State.canonical_wr k _ hs

theorem State.canonical_incBy {s : State} (k n : Nat) (hs : s.canonical) : (s.incBy k n).canonical := State.canonical_wr k _ hs

theorem State.canonical_inc {s : State} (k : Nat) (hs : s.canonical) : (s.inc k).canonical := State.canonical_wr k _ hs

theorem State.canonical_raise {s : State} (code source arg : Nat) (hs : s.canonical) : (s.raise code source arg).canonical := hs

theorem State.canonical_raiseLimitedItem {s : State} (code source item n last : Nat) (hs : s.canonical) :
    (s.raiseLimitedItem code source item n last).canonical :=
  State.canonical_of_regs (State.raiseLimitedItem_regs s code source item n last) hs

theorem State.canonical_setDom {s : State} (d v : Nat) (hs : s.canonical) : (s.setDom d v).canonical := hs

theorem State.canonical_setBar {s : State} (off v : Nat) (hs : s.canonical) : (s.setBar off v).canonical := hs

theorem State.canonical_draw {s : State} (hs : s.canonical) : s.draw.2.canonical := hs

theorem State.canonical_opStart {s : State} (o posEnd : Nat) (hs : s.canonical) : (s.opStart o posEnd).canonical :=
  State.canonical_wrN _ _ (State.canonical_wrN _ _ (State.canonical_wrN _ _ (State.canonical_wrN _ _ (State.canonical_wrN _ _ hs))))

theorem State.canonical_opDone {s : State} (o : Nat) (hs : s.canonical) : (s.opDone o).canonical :=
  State.canonical_raise _ _ _ (State.canonical_wrN _ _ (State.canonical_wrN _ _ hs))

theorem State.canonical_opFail {s : State} (o status : Nat) (hs : s.canonical) : (s.opFail o status).canonical :=
  State.canonical_raise _ _ _ (State.canonical_wrN _ _ (State.canonical_wrN _ _ hs))

theorem State.canonical_opAbort {s : State} (o status : Nat) (hs : s.canonical) : (s.opAbort o status).canonical :=
  State.canonical_raise _ _ _ (State.canonical_wrN _ _ (State.canonical_wrN _ _ hs))

/-! ### The addressed memories -/

theorem Memory.wf_tset {m : List Host.Cell} (k : Nat) (b : Byte) (h : Memory.wf m = true) :
    Memory.wf (tset (fun _ => 0#8) m k b) = true := twf_tset _ k b h

theorem Memory.wf_tapPut {m : List Host.Cell} (off : Nat) (bs : List Byte) (h : Memory.wf m = true) :
    Memory.wf (tapPut m off bs) = true :=
  twf_foldl_tset (fun _ => 0#8) (fun p : Byte × Nat => off + p.2) (fun p => p.1) bs.zipIdx h

/-- What holds of every entry of a table holds after a write of an entry of which it holds. -/
theorem all_tset {α : Type} [DecidableEq α] (d : Nat → α) (t : List (Nat × α)) (k : Nat) (v : α) (p : Nat × α → Bool)
    (h : t.all p = true) (hv : p (k, v) = true) : (tset d t k v).all p = true := by
  have del : ∀ u : List (Nat × α), u.all p = true → (tdel k u).all p = true := by
    intro u hu
    simp only [tdel, List.all_eq_true, List.mem_filter] at *
    exact fun x hx => hu x hx.1
  have put : ∀ u : List (Nat × α), u.all p = true → (tput k v u).all p = true := by
    intro u hu
    induction u with
    | nil => simpa [tput] using hv
    | cons q u ih =>
      obtain ⟨a, w⟩ := q
      simp only [List.all_cons, Bool.and_eq_true] at hu
      simp only [tput]
      split
      · simp [hv, hu]
      · split
        · simpa [hv] using hu.2
        · simpa [hu.1] using ih hu.2
  unfold tset
  split
  · exact del t h
  · exact put _ (del t h)

/-- An entry of a table, or the default, has what every entry and the default have. -/
theorem all_tget {α : Type} (d : Nat → α) (t : List (Nat × α)) (k : Nat) (p : α → Bool)
    (h : t.all (fun q => p q.2) = true) (hd : p (d k) = true) : p (tget d t k) = true := by
  induction t with
  | nil => exact hd
  | cons q t ih =>
    obtain ⟨a, w⟩ := q
    simp only [List.all_cons, Bool.and_eq_true] at h
    simp only [tget]
    split
    · exact h.1
    · exact ih h.2

theorem State.reset_memoriesWf : State.reset.memoriesWf = true := rfl

theorem State.memoriesWf_putBar2 {s : State} (off : Nat) (bs : List Byte) (h : s.memoriesWf = true) :
    (s.putBar2 off bs).memoriesWf = true := by
  simp only [State.memoriesWf, Bool.and_eq_true] at *
  exact ⟨⟨⟨⟨twf_tputs 0#8 off bs h.1.1.1.1, h.1.1.1.2⟩, h.1.1.2⟩, h.1.2⟩, h.2⟩

/-- Programming an image keeps every memory canonical. -/
theorem State.memoriesWf_imageProgram {s : State} (n : Nat) (h : s.memoriesWf = true) : (s.imageProgram n).memoriesWf = true := by
  simp only [State.memoriesWf, State.imageProgram, Bool.and_eq_true] at *
  exact ⟨h.1, twf_tputs 0xFF#8 _ _ h.2⟩

theorem State.memoriesWf_setEng {s : State} (c e : Nat) (x : EngSlot) (h : s.memoriesWf = true)
    (ht : Memory.wf x.text = true) (hd : Memory.wf x.data = true) : (s.setEng c e x).memoriesWf = true := by
  simp only [State.memoriesWf, Bool.and_eq_true] at *
  exact ⟨⟨⟨⟨h.1.1.1.1, all_tset (fun _ => {}) s.engine.slots (16 * c + e) x _ h.1.1.1.2 (by simp [ht, hd])⟩, h.1.1.2⟩, h.1.2⟩, h.2⟩

/-- A slot's memories are in canonical form. -/
theorem State.memoriesWf_eng {s : State} (c e : Nat) (h : s.memoriesWf = true) :
    Memory.wf (s.eng c e).text = true ∧ Memory.wf (s.eng c e).data = true := by
  simp only [State.memoriesWf, Bool.and_eq_true] at h
  have := all_tget (fun _ => ({} : EngSlot)) s.engine.slots (16 * c + e) (fun x => Memory.wf x.text && Memory.wf x.data) h.1.1.1.2 rfl
  simpa [State.eng, Bool.and_eq_true] using this

/-- An engine's store of a byte keeps every memory canonical. -/
theorem State.memoriesWf_engPut {s : State} (c e a : Nat) (b : Byte) (h : s.memoriesWf = true) :
    (s.engPut c e a b).memoriesWf = true := by
  have he := State.memoriesWf_eng c e h
  unfold State.engPut
  simp only
  split
  · exact State.memoriesWf_setEng c e _ h he.1 (Memory.wf_tset _ _ he.2)
  · split
    · simp only [State.memoriesWf, Bool.and_eq_true] at *
      refine ⟨⟨⟨h.1.1.1, ?_⟩, h.1.2⟩, h.2⟩
      refine all_tset _ _ _ _ _ h.1.1.2 ?_
      exact Memory.wf_tset _ _ (all_tget (fun _ => []) s.engine.shared _ Memory.wf h.1.1.2 rfl)
    · exact h

/-- What a write of bytes does to their check bits: the bytes known to be uncorrectable alone change. -/
theorem State.bytesWritten_eq (s : State) (m addr n : Nat) :
    s.bytesWritten m addr n = { s with integ := (s.bytesWritten m addr n).integ } := by
  unfold State.bytesWritten
  split <;> rfl

/-- The same of an engine's write. -/
theorem State.engMarks_eq (s : State) (c e a n : Nat) : s.engMarks c e a n = { s with integ := (s.engMarks c e a n).integ } := by
  unfold State.engMarks
  split
  · exact State.bytesWritten_eq _ _ _ _
  · rfl

@[simp] theorem State.memoriesWf_engMarks (s : State) (c e a n : Nat) : (s.engMarks c e a n).memoriesWf = s.memoriesWf := by
  rw [State.engMarks_eq]
  rfl

/-- A store keeps every memory canonical. -/
theorem State.memoriesWf_engWrite {s : State} (c e a : Nat) (bs : List Byte) (h : s.memoriesWf = true) :
    (s.engWrite c e a bs).memoriesWf = true := by
  unfold State.engWrite
  rw [State.memoriesWf_engMarks]
  refine State.each_ind (P := fun s => s.memoriesWf = true) (fun u q hs => ?_) _ h
  exact State.memoriesWf_engPut c e (a + q.2) q.1 hs

/-- The memories that an ENGINE_LOAD fills are canonical. -/
theorem Memory.wf_cellsFrom (bs : List Byte) : Memory.wf (cellsFrom bs) = true := by
  have gen : ∀ (bs : List Byte) (n : Nat),
      twf (fun _ => 0#8) (((bs.zipIdx n).filter (fun q => q.1 != 0#8)).map (fun q => (q.2, q.1))) = true ∧
      ∀ k, k < n → tabove k (((bs.zipIdx n).filter (fun q => q.1 != 0#8)).map (fun q => (q.2, q.1))) = true := by
    intro bs
    induction bs with
    | nil => intro n; simp [twf, tabove]
    | cons b bs ih =>
      intro n
      obtain ⟨h1, h2⟩ := ih (n + 1)
      by_cases hb : b = 0#8
      · simp only [List.zipIdx_cons, hb, List.filter_cons, bne_self_eq_false, Bool.false_eq_true, if_false]
        exact ⟨h1, fun k hk => h2 k (by omega)⟩
      · have hb' : (b != 0#8) = true := by simpa using hb
        simp only [List.zipIdx_cons, List.filter_cons, hb', if_true, List.map_cons, twf, tabove, List.all_cons, Bool.and_eq_true,
          decide_eq_true_eq]
        refine ⟨⟨⟨hb, ?_⟩, h1⟩, fun k hk => ⟨hk, ?_⟩⟩
        · exact h2 n (by omega)
        · exact h2 k (by omega)
  exact (gen bs 0).1

/-! ### Completion -/

/-- A command that answers a next state completes with it. -/
theorem Completes.intro {i : Instr} {s t : State} {P : State → Prop} (h : exec i s = .next t) (hp : P t) : Completes i s P :=
  ⟨t, h, hp⟩

theorem Completes.mono {i : Instr} {s : State} {P Q : State → Prop} (h : Completes i s P) (hq : ∀ t, P t → Q t) :
    Completes i s Q :=
  let ⟨t, ht, hp⟩ := h
  ⟨t, ht, hq t hp⟩

end Sys2Proof.Machine
end

