-- ==== Sys2Proof/WellFormed.lean ====
section
/-! DEFINITION. Well-formed commands: operands within the widths that the spec gives them. Unit numbers are bounded by their
types; the checks here are on numbers, byte strings and what a boundary brings in. exec gives every command a meaning,
well-formed or not. -/
namespace Sys2Proof

/-- A 32-bit number (R77: SEQUENCE and body words). -/
def isWord (n : Nat) : Bool := decide (n < 2 ^ 32)
/-- A 16-bit number: an index, a code, a UDP port. -/
def isU16 (n : Nat) : Bool := decide (n < 2 ^ 16)
/-- An 8-bit number: a sub-index, a priority vector. -/
def isU8 (n : Nat) : Bool := decide (n < 2 ^ 8)
/-- A signed 32-bit value. -/
def isS32 (v : Int) : Bool := decide (-(2 ^ 31) ≤ v ∧ v < 2 ^ 31)
/-- A phase in ps within a tick of 10 µs (R27). -/
def isPhase (n : Nat) : Bool := decide (n < 10000000)
/-- Body words of a request, at most 255 (R77). -/
def isWords (l : List Nat) : Bool := l.all isWord && decide (l.length ≤ 255)
/-- The eight times of a PFC frame (R262). -/
def isTimes (l : List Nat) : Bool := l.all isU16 && decide (l.length = 8)
/-- A byte string of a fixed length. -/
def isLength (n : Nat) (l : List Byte) : Bool := decide (l.length = n)
/-- A byte string that fits a frame, a datagram or a DMA descriptor. -/
def isShort (l : List Byte) : Bool := decide (l.length < 2 ^ 24)

/-- A measured slice names a converter of its reach and one of its 132 slices (R137). -/
def isMeas (l : List SliceMeas) : Bool := l.all (fun m => decide (m.conv < 8 ∧ m.slice < 132))

/-- What a boundary brings in names units that exist. -/
def BoundaryInput.wf (i : BoundaryInput) : Bool :=
  i.reaches.all (fun t => decide (t.r < 4)) && i.frames.all (fun f => decide (f.r < 4 ∧ f.g < 8 ∧ f.sel < 3)) &&
    i.refOffsets.all (fun q => decide (q.1 < 12)) && i.lanes.all (fun q => decide (q.lane < 8) && q.groups.all (fun g => decide (g < 1024))) &&
    i.berths.all (fun q => decide (q.1 < 64)) && isU16 i.pins && i.dmaNext.all (fun q => decide (q.1 < 8))

/-- A well-formed command. -/
def Instr.wf : Instr → Bool
  | .resetNRelease => true
  | .vddAonLoss => true
  | .ledgerRecordSelect => true
  | .bootFlashTimeout => true
  | .imageVerify => true
  | .stateSramFill _ _ => true
  | .assayPreconditionTimeout _ low high => isU16 low && isU16 high
  | .assayEnd _ _ vcore => isU16 vcore
  | .startCommit => true
  | .basinPortTrained _ _ _ _ => true
  | .basinTrainingTimeout _ => true
  | .basinPortFillDone _ _ _ => true
  | .durableAccepted => true
  | .tickBoundary i => i.wf
  | .stagingWindowClose => true
  | .tickMarkerSend => true
  | .chamberDelivery _ _ => true
  | .tallyDelivery _ _ => true
  | .uandatenDatagramRx addr port _ bytes => decide (addr < 2 ^ 128) && isU16 port && isShort bytes
  | .readReq _ seq index sub body => isWord seq && isU16 index && isU8 sub && isWords body
  | .readBlock _ seq index sub body => isWord seq && isU16 index && isU8 sub && isWords body
  | .writeReq _ seq index sub body => isWord seq && isU16 index && isU8 sub && isWords body
  | .writeBlock _ seq index sub body => isWord seq && isU16 index && isU8 sub && isWords body
  | .subscribe _ seq body => isWord seq && isWords body
  | .openSession cred nonce seq _ => isU16 cred && isLength 16 nonce && isWord seq
  | .closeSession _ seq => isWord seq
  | .requestRetry _ seq => isWord seq
  | .rateLimitPeriodEnd code source => isU16 code && isU16 source
  | .sessionIdleTimeout _ => true
  | .logEntryRead _ seq => isWord seq
  | .credential _ seq words => isWord seq && isWords words
  | .credentialErase _ seq id => isWord seq && isWord id
  | .mgmtAddressChange _ seq sub words => isWord seq && isU8 sub && isWords words
  | .abortOp _ seq _ v => isWord seq && isWord v
  | .mbxSubmit bits => isWord bits
  | .mbxDoneClear bits => isWord bits
  | .mbxErrorClear bits => isWord bits
  | .ringTailWrite _ v => isWord v
  | .channelEnable _ _ _ => true
  | .channelReset _ => true
  | .dmaRingTailWrite _ v _ => isWord v
  | .dmaDescriptorDone _ data _ => isShort data
  | .bar0RegisterWrite off v => decide (off < 65536 ∧ off % 4 = 0) && isWord v
  | .firmwareLoad _ seq v => isWord seq && isWord v
  | .firmwareLoadEnd => true
  | .shutdown _ seq v => isWord seq && isWord v
  | .shutdownDrainEnd => true
  | .commitNow _ seq v => isWord seq && isWord v
  | .assayWhenWrite _ seq v => isWord seq && isWord v
  | .ledgerPeriodicCommit => true
  | .ledgerCommitDone _ => true
  | .watchdogExpiry => true
  | .watchdogRunClear => true
  | .dieLinkTrained _ => true
  | .dieLinkFlitError _ _ _ _ _ => true
  | .dieLinkDegraded _ => true
  | .reachEnable _ seq _ v => isWord seq && isWord v
  | .agcSlewUpdate _ errs _ => decide (errs.length = 4)
  | .agcSettleEntry _ => true
  | .agcFreeze _ => true
  | .agcTrainingLossRearm _ => true
  | .agcRearm _ seq _ v => isWord seq && isWord v
  | .rampEnd _ => true
  | .txOffNow _ seq _ v => isWord seq && isWord v
  | .eyeSafetyInput _ _ => true
  | .txOffRelease _ seq _ v => isWord seq && isWord v
  | .calStart _ seq _ v => isWord seq && isWord v
  | .calRoundStart _ => true
  | .calSparesMeasured _ => true
  | .calPositionStep _ => true
  | .calRoundEnd _ meas => isMeas meas
  | .startRoundBegin _ => true
  | .startRoundEnd _ meas => isMeas meas
  | .coeffWrite _ seq _ _ _ words => isWord seq && isWords words
  | .groupEnable _ seq _ _ v => isWord seq && isWord v
  | .groupLayoutWrite _ seq _ _ _ v => isWord seq && isWord v
  | .preEmphasis _ seq _ _ v => isWord seq && isS32 v
  | .loadingMode _ seq _ _ v => isWord seq && isWord v
  | .fixedApply _ seq _ _ v => isWord seq && isWord v
  | .historyValidWrite _ seq _ _ v => isWord seq && isWord v
  | .loadingDeadline _ _ => true
  | .loadingSwitch _ _ => true
  | .groupRestart _ _ => true
  | .historyCapture _ _ => true
  | .shortfallMarginExpiry _ _ => true
  | .bankCdWrite _ seq _ _ v => isWord seq && isS32 v
  | .cdBankReady _ => true
  | .cdSwap _ seq _ v => isWord seq && isWord v
  | .cdMode _ seq _ v => isWord seq && isWord v
  | .cdSearch _ => true
  | .cdTracking _ => true
  | .eqModeChange _ => true
  | .watchSuppressEnd _ => true
  | .watchArmed _ => true
  | .watchCleared _ => true
  | .decoderCheckerFailure _ _ _ => true
  | .frameLost _ _ => true
  | .groupLayout _ seq _ v => isWord seq && isWord v
  | .laneLocked _ => true
  | .portUp _ => true
  | .aligningTimeout _ => true
  | .remoteFaultRx _ _ => true
  | .portDown _ _ => true
  | .clientFrameRx _ frame _ phase _ => isShort frame && isPhase phase
  | .pfcFrameRx _ vec times phase => isU8 vec && isTimes times && isPhase phase
  | .pfcRxPauseExpiry _ _ phase => isPhase phase
  | .pauseSourceChange _ phase => isPhase phase
  | .pfcRefresh _ phase => isPhase phase
  | .egressFrameTx _ _ => true
  | .frameInject _ seq _ bytes => isWord seq && isLength 1020 bytes
  | .injectedFrameSend _ phase => isPhase phase
  | .synceInput _ seq _ v => isWord seq && isWord v
  | .flowEntry _ seq _ v => isWord seq && isWord v
  | .ladder _ seq v => isWord seq && isWord v
  | .heldCellHandover _ _ => true
  | .retxTimeout _ _ => true
  | .waterMarkWrite _ seq _ v => isWord seq && isWord v
  | .stockpileReserve _ seq v => isWord seq && isWord v
  | .basinLinkLost _ _ => true
  | .unitMode _ seq _ v => isWord seq && isWord v
  | .pairedGroupWrite _ seq _ _ _ v => isWord seq && isWord v
  | .lockout _ seq _ => isWord seq
  | .force _ seq _ => isWord seq
  | .clear _ seq _ => isWord seq
  | .restorationStart _ => true
  | .withdrawEnd _ => true
  | .drainStart _ => true
  | .restored _ => true
  | .restoreLimitExpiry _ => true
  | .doubleFaultPathRetry _ => true
  | .waitToRestoreExpiry _ => true
  | .preArm _ => true
  | .disarm _ => true
  | .hello _ value => isShort value
  | .restoreNotice value => isShort value
  | .mirror value => isShort value
  | .mirrorAck value => isShort value
  | .timeRelay value => isShort value
  | .mateUnreachable => true
  | .keyImport _ seq entry => isWord seq && isLength 60 entry
  | .keyBatchStart _ seq v => isWord seq && isWord v
  | .keyBatchEntry => true
  | .slotErase _ seq v => isWord seq && isWord v
  | .keyRoll _ seq _ _ v => isWord seq && isWord v
  | .encryptKeySlotWrite _ seq _ _ _ v => isWord seq && isWord v
  | .keyPostponed _ _ => true
  | .keyEpochSwitch _ _ => true
  | .keyMismatch _ _ => true
  | .cipherParityFault _ => true
  | .segmentBlanked _ _ _ => true
  | .entropyFault => true
  | .referenceLost _ _ phase _ => isPhase phase
  | .referenceQualified _ => true
  | .switchEnd => true
  | .locked _ => true
  | .lockedSecond _ => true
  | .phaseStep _ seq v => isWord seq && isS32 v
  | .ppsEdge _ phase => isPhase phase
  | .alignNow _ seq v => isWord seq && isWord v
  | .todAssociate _ seq value => isWord seq && isLength 20 value
  | .delayMarkSend _ => true
  | .laneSignalDetect _ => true
  | .cap _ _ _ => true
  | .laneTrainingEnd _ _ => true
  | .laneDown _ _ _ => true
  | .elasticError _ _ => true
  | .retrain _ seq _ v => isWord seq && isWord v
  | .loopback _ seq _ v => isWord seq && isWord v
  | .skipSend _ => true
  | .helloSend => true
  | .timeRelaySend => true
  | .mateMessageError => true
  | .wakeMate _ seq v => isWord seq && isWord v
  | .wakeSendEnd => true
  | .tickOverrun _ _ => true
  | .mooringDelivery _ _ _ => true
  | .engineLoad _ seq _ v => isWord seq && isWord v
  | .engineLoadEnd _ => true
  | .partitionWrite _ seq _ _ v => isWord seq && isWord v
  | .overflowClear _ seq _ _ v => isWord seq && isWord v
  | .eventSelect _ seq _ _ _ v => isWord seq && isWord v
  | .engAdd _ _ _ _ _ => true
  | .engSub _ _ _ _ _ => true
  | .engAnd _ _ _ _ _ => true
  | .engOr _ _ _ _ _ => true
  | .engXor _ _ _ _ _ => true
  | .engShl _ _ _ _ _ => true
  | .engShr _ _ _ _ _ => true
  | .engSar _ _ _ _ _ => true
  | .engLt _ _ _ _ _ => true
  | .engLtu _ _ _ _ _ => true
  | .engMin _ _ _ _ _ => true
  | .engMax _ _ _ _ _ => true
  | .engMinu _ _ _ _ _ => true
  | .engMaxu _ _ _ _ _ => true
  | .engLzc _ _ _ _ => true
  | .engOnes _ _ _ _ => true
  | .engMul _ _ _ _ _ => true
  | .engMulhs _ _ _ _ _ => true
  | .engMulhu _ _ _ _ _ => true
  | .engDq _ _ _ _ _ => true
  | .engDqu _ _ _ _ _ => true
  | .engDr _ _ _ _ _ => true
  | .engDru _ _ _ _ _ => true
  | .engAddsat _ _ _ _ _ => true
  | .engSubsat _ _ _ _ _ => true
  | .engAddk _ _ _ _ _ => true
  | .engAndk _ _ _ _ _ => true
  | .engOrk _ _ _ _ _ => true
  | .engXork _ _ _ _ _ => true
  | .engLtk _ _ _ _ _ => true
  | .engLtku _ _ _ _ _ => true
  | .engShlk _ _ _ _ _ => true
  | .engShrk _ _ _ _ _ => true
  | .engSark _ _ _ _ _ => true
  | .engMulk _ _ _ _ _ => true
  | .engSethi _ _ _ _ => true
  | .engCall _ _ _ _ => true
  | .engJumpr _ _ _ _ _ => true
  | .engLdW _ _ _ _ _ _ => true
  | .engLdH _ _ _ _ _ _ => true
  | .engLdHu _ _ _ _ _ _ => true
  | .engLdB _ _ _ _ _ _ => true
  | .engLdBu _ _ _ _ _ _ => true
  | .engStW _ _ _ _ _ _ => true
  | .engStH _ _ _ _ _ _ => true
  | .engStB _ _ _ _ _ _ => true
  | .engBrEq _ _ _ _ _ => true
  | .engBrNe _ _ _ _ _ => true
  | .engBrLt _ _ _ _ _ => true
  | .engBrGe _ _ _ _ _ => true
  | .engBrLo _ _ _ _ _ => true
  | .engBrHs _ _ _ _ _ => true
  | .engMsend _ _ _ _ _ _ _ => true
  | .engMrecv _ _ _ _ _ => true
  | .engMwait _ _ _ _ => true
  | .mwaitReturn _ _ => true
  | .engXcsR _ _ _ _ _ => true
  | .engXcsW _ _ _ _ _ => true
  | .engXcsOr _ _ _ _ _ => true
  | .engXcsAndn _ _ _ _ _ => true
  | .engAtomSwap _ _ _ _ _ _ => true
  | .engAtomAdd _ _ _ _ _ _ => true
  | .engAtomAnd _ _ _ _ _ _ => true
  | .engAtomOr _ _ _ _ _ _ => true
  | .engAtomMin _ _ _ _ _ _ => true
  | .engAtomMax _ _ _ _ _ _ => true
  | .engVadd _ _ _ _ _ => true
  | .engVsub _ _ _ _ _ => true
  | .engVcmul _ _ _ _ _ => true
  | .engVcmulc _ _ _ _ _ => true
  | .engVcmac _ _ _ _ _ => true
  | .engVmag2 _ _ _ _ => true
  | .engVmaga _ _ _ _ => true
  | .engVconj _ _ _ _ => true
  | .engVshr _ _ _ _ _ => true
  | .engVld _ _ _ _ _ _ => true
  | .engVst _ _ _ _ _ _ => true
  | .engVbcast _ _ _ _ => true
  | .engVext _ _ _ _ _ => true
  | .engVins _ _ _ _ _ => true
  | .engVsumr _ _ _ _ => true
  | .engVsumi _ _ _ _ => true
  | .engNop _ _ => true
  | .engTend _ _ => true
  | .engFence _ _ wait => decide (wait < 9000)
  | .engTrap _ _ _ => true
  | .engResume _ _ => true
  | .engHalt _ _ => true
  | .conversionSlot _ keeper _ => keeper.inject.all (fun ch => decide (ch < 96))
  | .modeRequest _ seq v => isWord seq && isWord v
  | .inject _ seq v => isWord seq && isWord v
  | .seqEntry _ seq _ v => isWord seq && isWord v
  | .filterConfigWrite _ seq _ _ v => isWord seq && isWord v
  | .filterCoeffWrite _ seq _ _ v => isWord seq && isS32 v
  | .bankSwap _ seq _ v => isWord seq && isWord v
  | .biasWrite _ seq _ _ v => isWord seq && isWord v
  | .assayRun _ seq v _ low high => isWord seq && isWord v && isU16 low && isU16 high
  | .scrubRead _ _ _ _ _ _ => true
  | .rakeRead _ _ => true
  | .basinPageRetired _ _ => true
  | .peekAddress _ seq v => isWord seq && isWord v
  | .peek _ seq _ => isWord seq
  | .stockpileFailure _ => true
  | .swapUnit _ seq v => isWord seq && isWord v
  | .engineStateCopy _ => true
  | .powerRequestReleased _ seq _ maskA maskB => isWord seq && isWord maskA && isWord maskB
  | .powerRequestMoored _ seq _ maskA maskB => isWord seq && isWord maskA && isWord maskB
  | .powerRequestOff _ seq _ maskA maskB => isWord seq && isWord maskA && isWord maskB
  | .powerRequestDormant _ seq _ maskA maskB => isWord seq && isWord maskA && isWord maskB
  | .powerSwitchOpen _ => true
  | .domainPowered _ => true
  | .drainLimitExpiry => true
  | .dormantEntry => true
  | .wake _ => true
  | .wakePatternWord _ => true
  | .wakePeer _ seq v => isWord seq && isWord v
  | .wakePatternEnd _ => true
  | .thermalTrip _ temp => isU16 temp
  | .thermalCleared => true
  | .thermalShutdown => true
  | .thermalShutdownExit => true
  | .localOscAbsent => true
  | .localOscReturn => true
  | .avsTransaction _ => true
  | .avsRetry _ => true
  | .alarmClear _ seq v => isWord seq && isWord v
  | .gpioConfig _ seq _ v => isWord seq && isWord v
  | .pathSelectGpioWrite _ seq _ v => isWord seq && isWord v
  | .twiXfer _ seq _ words => isWord seq && isWords words
  | .twiTransferEnd _ _ data => isShort data
  | .twiBusHeld _ => true
  | .gcInvert _ seq v => isWord seq && isWord v
  | .resetNPulse => true
  | .referenceQualifying _ => true
  | .localFaultRx _ _ => true
  | .mgmtLinkUpChange _ => true
  | .pcieLinkUp => true

end Sys2Proof
end

