-- ==== Sys2Proof/Tests/Slice0.lean ====
section
/-! SUPPORT. Tests: an ill-formed term for each check of WellFormed, worked examples of the spec, and, for every statement with
hypotheses, a witness that meets the hypotheses of each of its clauses. -/
open Sys2Proof Sys2Proof.Machine
namespace Sys2Proof.Tests
set_option maxRecDepth 10000
set_option Elab.async false

/-! ### Well-formedness: each check refuses an ill-formed term -/

theorem test_wf_accepts : Instr.wf (.closeSession 1 (2 ^ 32 - 1)) = true ∧ Instr.wf .resetNRelease = true := by decide
theorem test_wf_word : Instr.wf (.closeSession 1 (2 ^ 32)) = false := by decide
theorem test_wf_u16 : Instr.wf (.rateLimitPeriodEnd (2 ^ 16) 0) = false := by decide
theorem test_wf_u8 : Instr.wf (.readReq 0 1 0x1100 256 []) = false := by decide
theorem test_wf_words : Instr.wf (.readReq 0 1 0x1100 1 [2 ^ 32]) = false ∧
    Instr.wf (.writeReq 0 1 0x1100 1 (List.replicate 256 0)) = false := by decide +kernel
theorem test_wf_s32 : Instr.wf (.preEmphasis 0 1 0 0 (2 ^ 31)) = false := by decide
theorem test_wf_phase : Instr.wf (.pfcRefresh 0 10000000) = false := by decide
theorem test_wf_times : Instr.wf (.pfcFrameRx 0 0 [1, 2] 0) = false := by decide
theorem test_wf_length : Instr.wf (.openSession 1 [1, 2] 3 []) = false := by decide
theorem test_wf_meas : Instr.wf (.calRoundEnd 0 [{ conv := 8, slice := 0 }]) = false := by decide
theorem test_wf_errors : Instr.wf (.agcSlewUpdate 0 [1, 2, 3] true) = false := by decide
theorem test_wf_bar0 : Instr.wf (.bar0RegisterWrite 6 0) = false ∧ Instr.wf (.bar0RegisterWrite 65536 0) = false := by decide
theorem test_wf_address : Instr.wf (.uandatenDatagramRx (2 ^ 128) 0 false []) = false := by decide
theorem test_wf_short (l : List Byte) (h : l.length = 2 ^ 24) : Instr.wf (.clientFrameRx 0 l false 0 0) = false := by
  simp [Instr.wf, isShort, h]
theorem test_wf_boundary : Instr.wf (.tickBoundary { reaches := [{ r := 4 }] }) = false ∧
    Instr.wf (.tickBoundary { frames := [{ r := 0, g := 8 }] }) = false ∧
    Instr.wf (.tickBoundary { refOffsets := [(12, 0)] }) = false ∧ Instr.wf (.tickBoundary { lanes := [⟨8, []⟩] }) = false ∧
    Instr.wf (.tickBoundary { berths := [(64, 0, 0, 0)] }) = false ∧ Instr.wf (.tickBoundary { pins := 65536 }) = false ∧
    Instr.wf (.tickBoundary { dmaNext := [(8, [])] }) = false ∧
    Instr.wf (.tickBoundary { lanes := [⟨0, [1024]⟩] }) = false := by decide
theorem test_wf_waits : Instr.wf (.engFence 0 0 9000) = false ∧ Instr.wf (.conversionSlot 0#16 { inject := some 96 } 0) = false := by
  decide

/-! ### Worked examples of the spec -/

/-- The map of the examples of chapters 8 and 9: 64 sub-carriers at code 13, rate 0.8333, outer code on. -/
def rated : MapC := ⟨1, 1, 1, 0, 64, List.replicate 64 13⟩
/-- 08, "Frame bits at the rated loading". -/
theorem test_frame_bits : rated.codewords = 1336 ∧ rated.tailBits = 18944 ∧ rated.streamBits = 34201600 ∧
    rated.rsWords = 6287 ∧ rated.frameBits = 32315180 := by decide +kernel
/-- 09, Table 9.1. -/
theorem test_frame_layout : rated.frameBytes = 4039397 ∧ rated.segmentBytes = 4039365 ∧ rated.fullSegments = 123 ∧
    rated.lastPayload = 6917 ∧ rated.segments = 124 ∧ rated.payload = 4037381 ∧ rated.cellSlots = 16820 := by decide +kernel
/-- 13, the nonce of segment 2 of the frame three ticks after T. -/
theorem test_nonce : segNonce [0x9C, 0x1E, 0x07, 0xA4] 1000 1003 2 =
    [0x9C, 0x1E, 0x07, 0xA4, 0, 0, 0, 0, 0, 0, 3, 2] := by decide +kernel
/-- 16, "Two encodings": VLD v1, 32(g4) and BR.NE g7, g0 back 22 words. -/
theorem test_two_encodings : engDecode 0xD0900010#32 = some (.vld 1 4 1) ∧
    engDecode 0x8380FFEA#32 = some (.br .ne 7 0 (BitVec.ofInt 15 (-22))) := by decide +kernel
/-- 10, "A mixed group": GROUP_LAYOUT of group 1 is 0x1102_0003. -/
theorem test_mixed_group : layoutValid 0x11020003 = true ∧ layoutValid 0x00000004 = true ∧ layoutValid 0x00000020 = false := by
  decide +kernel
/-- 03, "An authenticated staged write": H becomes 42 and the write joins the open window. -/
theorem test_staged_write :
    let s : State := { State.reset with
      agent.serving := true, core.windowOpen := true, start.started := true,
      agent.sessions := [(3, { isOpen := true, level := 1, hi := 41 })] }
    (match exec (.writeReq 3 42 0x201C 6 [12]) s with
      | .next t => decide (t.core.window = [⟨objKey 0x201C 6, 12⟩] ∧ (t.session 3).hi = 42 ∧ t.agent.lastReply.status = 0)
      | _ => false) = true := by decide +kernel
/-- A command at the front of the queue is the next step's; none is left after it. -/
theorem test_queue : (match step { State.reset with pending := [.tickMarkerSend] } with
    | .next t => decide (t.pending = []) | _ => false) = true := by decide +kernel
/-- The table gives no row bits: no word spells a command. -/
theorem test_no_words : decodeTableWord 16 0x1234 = none := by decide

/-! ### Published vectors of the named standards -/

/-- FIPS 180-4's example "abc". -/
theorem test_sha : sha256 [0x61, 0x62, 0x63] = beBytes 32 0xba7816bf8f01cfea414140de5dae2223b00361a396177a9cb410ff61f20015ad ∧
    sha384 [0x61, 0x62, 0x63] = beBytes 48
      0xcb00753f45a35e8bb5a03d699ac65007272c32ab0eded1631a8b605a43ff5bed8086072ba1e7cc2358baeca134c825a7 := by
  decide +kernel
/-- RFC 4231's test case 2. -/
theorem test_hmac : hmacSha256 (beBytes 4 0x4a656665) (beBytes 28 0x7768617420646f2079612077616e7420666f72206e6f7468696e673f) =
    beBytes 32 0x5bdcc146bf60754e6a042426089575c75a003f089d2739839dec58b964ec3843 := by decide +kernel
/-- FIPS 197, appendix C.3. -/
theorem test_aes : aesBytes (aesKeys (beBytes 32 0x000102030405060708090a0b0c0d0e0f101112131415161718191a1b1c1d1e1f))
    (beBytes 16 0x00112233445566778899aabbccddeeff) = beBytes 16 0x8ea2b7ca516745bfeafc49904b496089 := by decide +kernel
/-- SP 800-38B's example for AES-256 with no message; the GCM specification's test case 13. -/
theorem test_modes :
    aesCmac (beBytes 32 0x603deb1015ca71be2b73aef0857d77811f352c073b6108d72d9810a30914dff4) [] =
      beBytes 16 0x028962f61b7bf89efc6b551f4667d983 ∧
    gcmTag (aesKeys (List.replicate 32 0#8)) (List.replicate 12 0#8) [] [] = beBytes 16 0x530f8afbc74536b9a963b4f1c4cb738b := by
  decide +kernel

/-! ### How witnesses meet what is not a Bool -/

/-- A Bool that says State.admits. -/
def admitsB (s : State) (i : Instr) (v : Int) (staged : Bool) : Bool :=
  match writeOf i with
  | none => false
  | some q =>
    s.agent.serving && (q.1 == 0 || ((s.session q.1).isOpen && (s.session q.1).accepts (q.2.1 % 2 ^ 32) && q.2.1 % 2 ^ 32 != 2 ^ 32 - 1)) &&
    match (s.accepted q.1 q.2.1).writeHead q.1 (q.2.2.1 / 256) (q.2.2.1 % 256) with
    | .error _ => false
    | .ok r => (match bodyStatus (q.2.2.1 / 256) (q.2.2.1 % 256) r (reqWords q.2.2.2) with | .ok x => x == v | .error _ => false) &&
      ((s.accepted q.1 q.2.1).writeTail (q.2.2.1 / 256) (q.2.2.1 % 256) r v).isNone && r.staged == staged
theorem admits_of {s : State} {i : Instr} {v : Int} {staged : Bool} (h : admitsB s i v staged = true) : s.admits i v staged := by
  unfold admitsB at h
  split at h
  · cases h
  · rename_i q hq
    rw [Bool.and_eq_true] at h
    obtain ⟨h1, h2⟩ := h
    split at h2
    · cases h2
    · rename_i r hr
      simp only [Bool.and_eq_true, beq_iff_eq, Option.isNone_iff_eq_none] at h2
      obtain ⟨⟨h3, h4⟩, h5⟩ := h2
      split at h3
      · rename_i x hx
        refine ⟨q.1, q.2.1, q.2.2.1, q.2.2.2, r, hq, ?_, hr, ?_, h4, h5⟩
        · simpa [State.takes, Bool.and_eq_true, Bool.or_eq_true, and_assoc] using h1
        · rw [hx, beq_iff_eq.mp h3]
      · cases h3
theorem takes_of {s : State} {sess : Fin 17} {seq : Nat}
    (h : (s.agent.serving && (sess == 0 || ((s.session sess).isOpen && (s.session sess).accepts (seq % 2 ^ 32) &&
      seq % 2 ^ 32 != 2 ^ 32 - 1))) = true) : s.takes sess seq := by
  simpa [State.takes, Bool.and_eq_true, Bool.or_eq_true, and_assoc] using h
/-- Out of reset, nothing else done. -/
def w0 : State := { State.reset with start := { step := 8, started := true } }
/-- A state with some objects' values. -/
def wr (l : List (Nat × Nat)) (s : State := w0) : State := l.foldl (fun s p => s.wrN p.1 p.2) s
/-- A state with some domains' states. -/
def wd (l : List (Nat × Nat)) (s : State := w0) : State := l.foldl (fun s p => s.setDom p.1 p.2) s
/-- A state at a tick. -/
def wt (n : Nat) (s : State := w0) : State := { s with core.tick := n }
/-- A state at a step of the start-up. -/
def ws (n : Nat) : State := { State.reset with start := { step := n } }
theorem slotRuns_of {s : State} {c e : Nat} {i : EngI}
    (h : ((s.eng c e).active && decide ((s.eng c e).pc.toNat < 0x10000) && !s.engLost c e (s.eng c e).pc.toNat 4 &&
      (match engDecode (s.fetched c e i) with | some j => decide (j.norm = i.norm) | none => false) &&
      decide (((s.eng c e).issueAt i).1 < 9000)) = true) : s.slotRuns c e i := by
  simp only [Bool.and_eq_true, Bool.not_eq_true', decide_eq_true_eq] at h
  obtain ⟨⟨⟨⟨h1, h2⟩, h3⟩, h4⟩, h5⟩ := h
  refine ⟨h1, h2, h3, ?_, h5⟩
  split at h4
  · rename_i j hj; exact ⟨j, hj, of_decide_eq_true h4⟩
  · cases h4

/-! ### Worked values of the named standards: an image that verifies, and two wrapped records

The image and the records were computed outside the package from SHA-384, ECDSA P-384 and RFC 3394. -/

/-- An image whose header, signature and body verify: a body of 4,096 erased bytes. -/
def imageHead : List Byte := beBytes 161 0x474b46570000000100050002000010009761a6cc8f381514125bd5461b11a17a721703fb2179ddf15348b6276b47fe93bbca565060bdb425c99cae93fbd68d84049bf01b50f0203e9a29dbddbbbfa0d038119aecfec506e66040353ee734d7cfbbab38fc0f8bc9df6f54a396bd31719ac5a35d04a878bb639812a85459694eedea5c281b9b95c5cbb7ed44044455a5ee9d671dcc94f3fa1e898df2c5ffc0a19162 ++ List.replicate 95 0#8
/-- Its signature, 96 bytes. -/
def imageSig : List Byte := beBytes 96 0xab5deaa54da9164dbd83116fb10cbe238269ed9edd1f1b846dd89f8ee11eca235cb7d6835437714ca0210b8b2a36c2a6f63d0e4858caf2446b1c73ffb09c40bd9519d8d139167ef4fe4d21d7beae9a9241c3615844a5a19ccba82ecdf6592fb0
/-- The image in the boot flash. -/
def imageCells : List Host.Cell := tlist 0xFF#8 0 (imageHead ++ imageSig ++ List.replicate 160 0#8)
/-- The hash of its public key, as fused. -/
def imageKey : List Byte := beBytes 48 0xf2c54f79a3585fb81b16f62246bdfd7d06f6f9934920409f986bea7cfdd51508a2bcbe611a759be4fe620bb7c5f9286f
theorem tget_low {α : Type} (d : Nat → α) (t : List (Nat × α)) (k : Nat) (h : t.all (fun p => decide (p.1 < k)) = true) :
    tget d t k = d k := by
  induction t with
  | nil => rfl
  | cons p t ih =>
    simp only [List.all_cons, Bool.and_eq_true, decide_eq_true_eq] at h
    simp only [tget]
    rw [if_neg (by omega)]
    exact ih h.2
theorem image_cells_low : imageCells.all (fun p => decide (p.1 < 512)) = true := by decide +kernel
theorem image_body (s : State) (h : s.start.images = imageCells) : s.imagePart 0 512 4096 = List.replicate 4096 0xFF#8 := by
  refine List.eq_replicate_iff.mpr ⟨by simp [State.imagePart], ?_⟩
  intro b hb
  simp only [State.imagePart, imageBase, h, List.mem_map, List.mem_range] at hb
  obtain ⟨i, -, rfl⟩ := hb
  refine tget_low _ _ _ ?_
  have := image_cells_low
  simp only [List.all_eq_true, decide_eq_true_eq] at *
  intro p hp
  have := this p hp
  omega
theorem image_head (s : State) (h : s.start.images = imageCells) :
    s.imageField 0 0 4 = 0x474B4657 ∧ s.imageField 0 4 4 = 1 ∧ s.imageField 0 12 4 = 4096 ∧ s.imageField 0 8 4 = 0x00050002 := by
  simp only [State.imageField, State.imagePart, h]; decide +kernel
theorem image_key (s : State) (h : s.start.images = imageCells) : sha384 (s.imagePart 0 64 97) = imageKey := by
  simp only [State.imagePart, h]; decide +kernel
theorem image_signed (s : State) (h : s.start.images = imageCells) :
    ecdsaVerify (s.imagePart 0 64 97) (s.imagePart 0 256 96) (s.imagePart 0 0 256) = true := by
  simp only [State.imagePart, h]; decide +kernel
theorem image_digest (s : State) (h : s.start.images = imageCells) : s.imagePart 0 16 48 = sha384 (List.replicate 4096 0xFF#8) := by
  simp only [State.imagePart, h]; decide +kernel
theorem image_verifies (s : State) (h : s.start.images = imageCells) (k : s.start.keyHash = imageKey) : s.imageVerifies 0 = true := by
  obtain ⟨h1, h2, h3, -⟩ := image_head s h
  simp only [State.imageVerifies, h1, h2, h3, k, image_key s h, image_signed s h, image_body s h, image_digest s h, beq_self_eq_true,
    Bool.and_true]
  decide

/-- A record that holds a DATA key of slot 5, label 7. -/
def wkey : List Byte := [5, 3, 0, 0, 0, 0, 0, 0, 0, 0, 0, 0, 0, 0, 0, 7] ++ List.replicate 32 9#8
/-- An import entry with that record, wrapped under the fused key. -/
def wentry : Nat := 0xd974d0f0b05bad867a546555e31441039361556dfb8b95928c24fa715f77d6dbf08e23daff51cb74c1cef0b7b1839bc641b9158a2a51b814
/-- A record that holds credential 5 of level 2. -/
def wcrec : List Byte := [5, 2, 0, 0, 0, 0, 0, 0] ++ List.replicate 32 9#8
/-- That record, wrapped under the fused key. -/
def wcred : Nat := 0xa990c2c62c15db5dcdc4bc6d2600f77695dc07bf5fd033aefbb27ebb6c366d3866361c86b119142b4761a3de30d45565
theorem unwrap_key : aesUnwrap (List.replicate 32 0#8) (beBytes 56 wentry) = some wkey := by decide +kernel
theorem unwrap_credential : aesUnwrap (List.replicate 32 0#8) (beBytes 48 wcred) = some wcrec := by decide +kernel
theorem import_of (s : State) (hk : s.key.fusedKek = List.replicate 32 0#8) (hs : s.usageFits 5 3 = true) :
    s.importRecord (beBytes 60 wentry) = some (5, 3, 7, List.replicate 32 9#8) := by
  have h2 : ((beBytes 60 wentry).drop 4).take 56 = beBytes 56 wentry := by decide +kernel
  have h3 : hdrField wkey 0 1 = 5 ∧ hdrField wkey 1 1 = 3 ∧ hdrField wkey 2 6 = 0 ∧ hdrField wkey 8 8 = 7 ∧
    (wkey.drop 16).take 32 = List.replicate 32 9#8 ∧ hdrField (beBytes 60 wentry) 1 3 = 0 ∧
    hdrField (beBytes 60 wentry) 0 1 = 0 := by decide +kernel
  obtain ⟨a, b, c, d, e, f, g⟩ := h3
  have hu := unwrap_key
  have hkk : s.kek 0 = some s.key.fusedKek := if_pos rfl
  rw [← hk] at hu
  unfold State.importRecord
  rw [h2, f, g]
  simp only [hkk, hu]
  simp only [a, b, c, d, e, hs]
  decide
theorem credential_of (s : State) (hk : s.key.fusedKek = List.replicate 32 0#8) :
    s.credentialOf wcred = some (5, 2, List.replicate 32 9#8) := by
  have h3 : hdrField wcrec 0 1 = 5 ∧ hdrField wcrec 1 1 = 2 ∧ hdrField wcrec 2 6 = 0 ∧ wcrec.length = 40 ∧
    wcrec.drop 8 = List.replicate 32 9#8 := by decide +kernel
  obtain ⟨a, b, c, d, e⟩ := h3
  have hu := unwrap_credential
  rw [← hk] at hu
  unfold State.credentialOf
  simp only [hu]
  simp only [a, b, c, d, e]
  decide
theorem tail_own (s : State) (idx sub : Nat) (r : Row) (v : Int) (h1 : s.ownerOff idx = false) (h2 : r.acc ≠ .rwm)
    (h3 : ¬ (0x2000 ≤ idx ∧ idx < 0x2800)) (h4 : ¬ (0x3000 ≤ idx ∧ idx ≤ 0x33FF)) :
    s.writeTail idx sub r v = s.ownStatus (canonIdx idx) idx sub v := by
  unfold State.writeTail State.check9
  rw [if_neg (by simp [h1]), if_neg h2, if_neg h3, if_neg h4]
theorem own_credential (s : State) (v : Int) : s.ownStatus 0x1410 0x1410 7 v =
    if (s.credentialOf v.toNat).isNone = true then some Status.refused else none := rfl
theorem own_import (s : State) (v : Int) : s.ownStatus 0x3804 0x3804 1 v =
    if (s.importRecord (beBytes 60 v.toNat)).isNone = true then some Status.refused else none := rfl
theorem tail_credential (s : State) (r : Row) (h1 : s.ownerOff 0x1410 = false) (h2 : r.acc ≠ .rwm)
    (hk : s.key.fusedKek = List.replicate 32 0#8) : s.writeTail 0x1410 7 r wcred = none := by
  rw [tail_own s _ _ _ _ h1 h2 (by decide) (by decide), show canonIdx 0x1410 = 0x1410 from by decide, own_credential,
    Int.toNat_natCast, credential_of s hk]
  decide
theorem tail_import (s : State) (r : Row) (h1 : s.ownerOff 0x3804 = false) (h2 : r.acc ≠ .rwm)
    (hk : s.key.fusedKek = List.replicate 32 0#8) (hs : s.usageFits 5 3 = true) : s.writeTail 0x3804 1 r wentry = none := by
  rw [tail_own s _ _ _ _ h1 h2 (by decide) (by decide), show canonIdx 0x3804 = 0x3804 from by decide, own_import,
    Int.toNat_natCast, import_of s hk hs]
  decide

/-! ### Witnesses: statements of file 02 -/

namespace W02

theorem witness_ResetsStartAfreshAndKeepTheBootFlash :
    (∃ (s : State), s.start.inReset = true ∧ s.board.hot = false ∧ s.board.noOsc = false) ∧
    (∃ (s : State), s.start.commit = none ∧ s.board.hot = false ∧ s.board.noOsc = false) ∧
    (∃ (s : State), s.start.wdArmed = true ∧ s.power.dormant = false ∧ s.rdN Obj.shutdownState ≠ 5 ∧ s.start.wdRestart + 100000 ≤
      s.core.tick) :=
  ⟨⟨State.reset, by and_intros <;> decide +kernel⟩,
   ⟨(wr [(Obj.opState 1, 1)]), by and_intros <;> decide +kernel⟩,
   ⟨{ wt 100000 with start.wdArmed := true }, by and_intros <;> decide +kernel⟩⟩
end W02

/-! ### Witnesses: statements of file 03 -/

namespace W03
/-- A ledger record of one slot. -/
def wrec : LedgerRec := { clean := true, sequence := 7, lifetime := 12, powerCycles := 3, hotSeconds := 4, assayFailed := 2, watchdogRun := 1, sliceMap := List.replicate 128 255, repairList := List.replicate 8 0xFFFFFFFF, reserveUsed := List.replicate 8 0 }

/-- Step 3, with the image that verifies in place A. -/
def wim : State := { ws 3 with start.images := imageCells, start.keyHash := imageKey }
theorem image_witness :
    ∃ (s : State) (n : Nat), s.start.step = 3 ∧ s.start.holdCode = 0 ∧ s.power.dormant = false ∧
    s.power.leaving = false ∧ s.rdN Obj.activeImage < 2 ∧
    (let first := if s.start.winner.any (fun x => x.watchdogRun == 3) then 1 - s.rdN Obj.activeImage else s.rdN Obj.activeImage
     if s.imageVerifies first then n = first else n = 1 - first ∧ s.imageVerifies n = true) :=
  ⟨wim, 0, rfl, rfl, rfl, rfl, by decide +kernel, by
    show (if wim.imageVerifies 0 then 0 = 0 else 0 = 1 - 0 ∧ wim.imageVerifies 0 = true)
    rw [image_verifies wim rfl rfl]; decide⟩
theorem witness_StartUpReadsLedgerAndImage :
    (∃ (s : State), s.start.step = 2 ∧ s.start.holdCode = 0 ∧ s.winningRecord = none) ∧
    (∃ (s : State) (k : Nat) (x : LedgerRec), s.start.step = 2 ∧ s.start.holdCode = 0 ∧ s.winningRecord = some (k, x)) ∧
    (∃ (s : State), s.start.step = 2 ∧ s.start.holdCode = 0 ∧ 1000 ≤ s.core.tick) ∧
    (∃ (s : State), s.start.step = 3 ∧ s.start.holdCode = 0 ∧ s.power.dormant = false ∧ (if s.power.leaving then s.rdN
      Obj.runningImage else s.rdN Obj.activeImage) < 2 ∧ s.imageVerifies 0 = false ∧ s.imageVerifies 1 = false) ∧
    (∃ (s : State) (n : Nat), s.start.step = 3 ∧ s.start.holdCode = 0 ∧ s.power.dormant = false ∧
    s.power.leaving = false ∧ s.rdN Obj.activeImage < 2 ∧
    (let first := if s.start.winner.any (fun x => x.watchdogRun == 3) then 1 - s.rdN Obj.activeImage else s.rdN Obj.activeImage
     if s.imageVerifies first then n = first else n = 1 - first ∧ s.imageVerifies n = true)) :=
  ⟨⟨(ws 2), by and_intros <;> decide +kernel⟩,
   ⟨{ ws 2 with start.flash := [(257, wrec.bytes)] }, 257, wrec, by and_intros <;> decide +kernel⟩,
   ⟨(wt 1000 (ws 2)), by and_intros <;> decide +kernel⟩,
   ⟨(ws 3), by and_intros <;> decide +kernel⟩,
   image_witness⟩
end W03

/-! ### Witnesses: statements of file 04 -/

namespace W04

theorem witness_StartUpFillsAssaysCommitsAndServes :
    (∃ (s : State) (units : List Nat) (domains : List Nat), s.start.step = 4 ∧ s.start.holdCode = 0 ∧ s.start.inReset = false ∧ (37
      ∈ domains ∨ ∃ u ∈ units, 0x1500 ≤ u ∧ u < 0x1508)) ∧
    (∃ (s : State) (u : Nat), s.start.step = 4 ∧ s.start.holdCode = 0 ∧ s.start.inReset = false ∧ s.power.leaving = false ∧
      s.start.winner = none ∧ s.start.assayDue = true ∧ 0x1400 ≤ u ∧ u < 0x1404 ∧ s.poweredDom (domReach (u - 0x1400)) = true) ∧
    (∃ (s : State) (domains : List Nat), s.start.step = 4 ∧ s.start.holdCode = 0 ∧ s.start.inReset = false ∧ s.power.leaving = false
      ∧ 37 ∉ domains ∧ s.start.assayDue = true) ∧
    (∃ (s : State) (domains : List Nat), s.start.step = 4 ∧ s.start.holdCode = 0 ∧ s.start.inReset = false ∧ s.power.leaving = false
      ∧ 37 ∉ domains ∧ s.start.assayDue = false) ∧
    (∃ (s : State) (c : Commit), s.start.step = 6 ∧ s.start.commit = some c ∧ c.slot < 256 ∧ s.start.nextCommit = none ∧
      s.agent.heldSlots = [] ∧ s.rdN Obj.shutdownState ≠ 4) ∧
    (∃ (s : State) (u : Nat) (vcore : Nat) (pll : Int), s.integ.assay = some ⟨2, u⟩) ∧
    (∃ (s : State) (u : Nat) (vcore : Nat) (pll : Int), s.integ.assay = some ⟨0, u⟩ ∧ (∀ v ∈ s.integ.failedUnits, v < 0x1500) ∧
      pll.natAbs ≤ 200 ∧ 660 ≤ vcore ∧ vcore ≤ 740) ∧
    (∃ (s : State) (a : Assay) (pll : Int) (low : Nat) (high : Nat), s.integ.assay = some a ∧ a.kind = 1 ∧ s.rdN Obj.shutdownState ≠
      3 ∧ (200 < pll.natAbs ∨ low < 660 ∨ 740 < high) ∧ s.rdN (Obj.opStartTick 1) + 10000 ≤ s.core.tick) :=
  ⟨⟨(ws 4), [], [3, 37], by and_intros <;> decide +kernel⟩,
   ⟨{ ws 4 with start.assayDue := true }, 0x1402, by and_intros <;> decide +kernel⟩,
   ⟨{ ws 4 with start.assayDue := true }, [3], by and_intros <;> decide +kernel⟩,
   ⟨(ws 4), [], by and_intros <;> decide +kernel⟩,
   ⟨{ ws 6 with start.commit := some ⟨0, false, 0, [1], 0, 3, 0⟩, core.tick := 9 }, ⟨0, false, 0, [1], 0, 3, 0⟩,
      by and_intros <;> decide +kernel⟩,
   ⟨{ w0 with integ.assay := some ⟨2, 0x1102⟩ }, 0x1102, 701, (-3), by decide +kernel⟩,
   ⟨{ ws 5 with integ.assay := some ⟨0, 0⟩ }, 0, 700, 5, by and_intros <;> decide +kernel⟩,
   ⟨{ wt 10000 with integ.assay := some ⟨1, 0⟩ }, ⟨1, 0⟩, 300, 700, 700, by and_intros <;> decide +kernel⟩⟩
theorem witness_CommitsGoToTheOtherBankWithThreeAttempts :
    (∃ (s : State), s.start.lastCommit + 360000000 ≤ s.core.tick ∧ s.start.started = true ∧ s.start.commit = none) ∧
    (∃ (s : State), 8 ≤ s.start.step ∧ s.start.wdRunCleared = false ∧ s.start.startCommitTick + 10000000 ≤ s.core.tick ∧
      s.start.started = true ∧ s.start.commit = none) ∧
    (∃ (s : State) (c : Commit), s.start.commit = some c ∧ c.slot < 256 ∧ c.bank < 2 ∧ c.batch = 0 ∧ s.start.step ≠ 6 ∧
      s.start.nextCommit = none ∧ (c.clean = true → s.rdN Obj.shutdownState ≠ 4) ∧ s.agent.serving = false) ∧
    (∃ (s : State) (c : Commit), s.start.commit = some c ∧ c.slot < 256 ∧ c.attempts + 1 < 3 ∧ s.agent.serving = false) ∧
    (∃ (s : State) (c : Commit), s.start.commit = some c ∧ c.slot < 256 ∧ 3 ≤ c.attempts + 1 ∧ c.batch = 0 ∧ s.start.nextCommit =
      none ∧ (c.clean = true → s.rdN Obj.shutdownState ≠ 4) ∧ s.agent.serving = false) :=
  ⟨⟨(wt 360000000), by and_intros <;> decide +kernel⟩,
   ⟨(wt 10000000), by and_intros <;> decide +kernel⟩,
   ⟨{ w0 with start.commit := some ⟨1, false, 0, [1, 2], 1, 3, 0⟩, core.tick := 9 }, ⟨1, false, 0, [1, 2], 1, 3, 0⟩,
      by and_intros <;> decide +kernel⟩,
   ⟨{ w0 with start.commit := some ⟨1, false, 1, [1, 2], 1, 3, 0⟩ }, ⟨1, false, 1, [1, 2], 1, 3, 0⟩,
      by and_intros <;> decide +kernel⟩,
   ⟨{ w0 with start.commit := some ⟨1, false, 2, [1, 2], 1, 3, 0⟩ }, ⟨1, false, 2, [1, 2], 1, 3, 0⟩,
      by and_intros <;> decide +kernel⟩⟩
end W04

/-! ### Witnesses: statements of file 06 -/

namespace W06
def imageKey : List Byte := beBytes 48 0xf2c54f79a3585fb81b16f62246bdfd7d06f6f9934920409f986bea7cfdd51508a2bcbe611a759be4fe620bb7c5f9286f

/-- A firmware load whose bytes have been written, into image A. -/
def wfw : State :=
  { wr [(Obj.opState 6, 1), (Obj.activeImage, 1)] with
    start := { step := 8, started := true, fwErased := true, images := imageCells, keyHash := imageKey } }
theorem load_witness :
    ∃ s : State, s.opRunning 6 = true ∧ s.start.started = true ∧ s.start.commit = none ∧
    (let u := (if s.start.fwErased then s else s.imageErase).imageProgram (s.rdN (Obj.opPositionEnd 6))
     u.imageVerifies s.loadTarget = true) :=
  ⟨wfw, by decide +kernel, rfl, rfl, by
    show ((if wfw.start.fwErased then wfw else wfw.imageErase).imageProgram (wfw.rdN (Obj.opPositionEnd 6))).imageVerifies
      wfw.loadTarget = true
    rw [show wfw.loadTarget = 0 from by decide +kernel]
    exact image_verifies _ (by decide +kernel) (by decide +kernel)⟩
theorem witness_BasinPortsTrainFillAndAreAccepted :
    (∃ (s : State) (p : Fin 8) (rate : Nat) (width : Nat) (capacity : Nat), s.rdN (Obj.basinPortState p) = 1 ∧ ((s.bport p).contents
      = false ∨ s.start.fillAborted = true)) ∧
    (∃ (s : State) (p : Fin 8) (rate : Nat) (width : Nat) (capacity : Nat), s.rdN (Obj.basinPortState p) = 1 ∧ (s.bport p).contents
      = true ∧ s.start.fillAborted = false) ∧
    (∃ (s : State) (p : Fin 8), s.rdN (Obj.basinPortState p) = 1 ∧ (s.bport p).trainAt + 10000 ≤ s.core.tick ∧ (∃ q, q < 8 ∧ q ≠
      p.val ∧ s.rdN (Obj.basinPortState q) = 1)) ∧
    (∃ (s : State) (p : Fin 8) (bad : List Nat), s.rdN (Obj.basinPortState p) = 2 ∧ (s.bport p).filled = false) ∧
    (∃ (s : State) (p : Fin 8) (bad : List Nat), s.rdN (Obj.basinPortState p) = 2 ∧ (s.bport p).filled = false) ∧
    (∃ (s : State), s.start.fillDone = true ∧ s.basin.accepted = false ∧ s.start.fillTick < s.core.tick) :=
  ⟨⟨(wr [(Obj.basinPortState 2, 1)]), 2, 3, 8, (2 ^ 38), by and_intros <;> decide +kernel⟩,
   ⟨{ wr [(Obj.basinPortState 2, 1)] with basin.ports := [(2, { contents := true })] }, 2, 3, 8, (2 ^ 38),
      by and_intros <;> decide +kernel⟩,
   ⟨{ wr [(Obj.basinPortState 2, 1), (Obj.basinPortState 5, 1)] with core.tick := 10000 }, 2, by and_intros <;> decide +kernel⟩,
   ⟨{ wr [(Obj.basinPortState 2, 2), (Obj.slots 2, 8192)] with basin.ports := [(2, { cap := 2 ^ 25 })] }, 2, [4097, 5000, 20000],
      by and_intros <;> decide +kernel⟩,
   ⟨{ wr [(Obj.basinPortState 2, 2)] with basin.ports := [(2, { cap := 2 ^ 25 })] }, 2, [], by and_intros <;> decide +kernel⟩,
   ⟨{ w0 with start.fillDone := true, core.tick := 1 }, by and_intros <;> decide +kernel⟩⟩
theorem witness_ShutdownDrainsAndFirmwareLoads :
    (∃ (s : State), s.rdN Obj.shutdownState = 1 ∧ (s.unackedCells = 0 ∨ s.start.drainStart + s.rdN Obj.shutdownDrain ≤ s.core.tick)
      ∧ s.opRunning 0 = false ∧ s.opRunning 7 = false ∧ (∃ r, r < 4 ∧ s.txState r ≠ 0 ∧ s.txState r ≠ 4)) ∧
    (∃ s : State, s.opRunning 6 = true ∧ s.start.started = true ∧ s.start.commit = none ∧
    (let u := (if s.start.fwErased then s else s.imageErase).imageProgram (s.rdN (Obj.opPositionEnd 6))
     u.imageVerifies s.loadTarget = true)) ∧
    (∃ (s : State), let u := (if s.start.fwErased then s else s.imageErase).imageProgram (s.rdN (Obj.opPositionEnd 6)); s.opRunning 6 = true ∧ u.imageVerifies s.loadTarget = false) :=
  ⟨⟨(wr [(Obj.shutdownState, 1), (Obj.txState 1, 2)]), by and_intros <;> decide +kernel⟩,
   load_witness,
   ⟨{ wr [(Obj.opState 6, 1)] with start.fwErased := true }, by (try dsimp only); and_intros <;> decide +kernel⟩⟩
theorem witness_DieLinksTrainCountAndDegrade :
    (∃ (s : State) (r : Fin 4), s.rdN (Obj.linkState r) = 1 ∧ 1 ≤ s.dom (domReach r)) ∧
    (∃ (s : State) (r : Fin 4) (tx : Bool) (g : Fin 8) (flit : Nat), 2 ≤ s.rdN (Obj.linkState r)) ∧
    (∃ (s : State) (r : Fin 4) (g : Fin 8) (flit : Nat), 2 ≤ s.rdN (Obj.linkState r)) ∧
    (∃ (s : State) (r : Fin 4) (g : Fin 8) (flit : Nat), 2 ≤ s.rdN (Obj.linkState r)) ∧
    (∃ (s : State) (r : Fin 4), let k := tget (fun _ => (0, 0)) s.conv.overRun r.val; s.rdN (Obj.linkState r) = 2 ∧ (s.rdN (Obj.degradeTicks r) ≤ k.1 ∨ s.rdN (Obj.degradeTicks r) ≤ k.2) ∧ s.released (domReach r) = false) ∧
    (∃ (s : State) (r : Fin 4), let k := tget (fun _ => (0, 0)) s.conv.overRun r.val; s.rdN (Obj.linkState r) = 2 ∧ (s.rdN (Obj.degradeTicks r) ≤ k.1 ∨ s.rdN (Obj.degradeTicks r) ≤ k.2) ∧ s.released (domReach r) = true ∧ (∀ u, u < 4 → s.carrier u ≠ some r.val) ∧ r.val ∉ s.conv.faultMoor) :=
  ⟨⟨(wr [(Obj.linkState 2, 1)]), 2, by and_intros <;> decide +kernel⟩,
   ⟨(wr [(Obj.linkState 2, 2)]), 2, true, 3, 7, by decide +kernel⟩,
   ⟨(wr [(Obj.linkState 2, 3)]), 2, 3, 7, by decide +kernel⟩,
   ⟨(wr [(Obj.linkState 2, 2)]), 2, 3, 7, by decide +kernel⟩,
   ⟨{ wr [(Obj.linkState 2, 2)] with conv.overRun := [(2, (0, 1000000))] }, 2, by (try dsimp only); and_intros <;> decide +kernel⟩,
   ⟨{ wd [(2, 3)] (wr [(Obj.linkState 2, 2)]) with conv.overRun := [(2, (1000000, 0))] }, 2,
      by (try dsimp only); and_intros <;> decide +kernel⟩⟩
end W06

/-! ### Witnesses: statements of file 07 -/

namespace W07

theorem witness_AgcSlewsSettlesFreezesAndRearms :
    (∃ (s : State) (r : Fin 4) (errs : List Int), s.agcState r = 1 ∧ errs.length = 4 ∧ s.reachReacquires r = true) ∧
    (∃ (s : State) (r : Fin 4) (errs : List Int) (light : Bool), s.agcState r = 1 ∧ errs.length = 4 ∧ (light = true ∨
      s.reachReacquires r = false)) ∧
    (∃ (s : State) (r : Fin 4), s.agcState r = 1 ∧ 20 ≤ (s.agc r).inRange) ∧
    (∃ (s : State) (r : Fin 4), s.agcState r = 2 ∧ 2 ≤ (s.agc r).found ∧ (∀ u, u < 4 → s.uMode u = 1 → s.rdN (Obj.workingReach u) ≠
      r.val)) ∧
    (∃ (s : State) (r : Fin 4) (u : Fin 4), s.agcState r = 2 ∧ 2 ≤ (s.agc r).found ∧ s.uMode u = 1 ∧ s.rdN (Obj.workingReach u) =
      r.val) ∧
    (∃ (s : State) (r : Fin 4), s.agcState r = 3 ∧ 8 ≤ (s.agc r).missed) ∧
    (∃ (s : State) (r : Nat), let t := s.agcLossStep r; s.agcState r = 3 ∧ (s.agc r).lossRearm = true) :=
  ⟨⟨(wr [(Obj.agcState 1, 1), (Obj.unitMode 2, 1), (Obj.workingReach 2, 1), (Obj.unitState 2, 3)]), 1, [1, 2, 3, 4],
      by and_intros <;> decide +kernel⟩,
   ⟨(wr [(Obj.agcState 1, 1), (Obj.gainCode 1 0, 100), (Obj.gainCode 1 1, 4095), (Obj.gainCode 1 2, 7), (Obj.gainCode 1 3, 2000)]),
      1, [50, -300, 900, 0], true, by and_intros <;> decide +kernel⟩,
   ⟨{ wr [(Obj.agcState 1, 1)] with conv.agc := [(1, { inRange := 20, slew := [(5, 6, 20), (1, 1, 3)], est := [(1, 1), (2, 2), (3, 3), (4, 4)] })] },
      1, by and_intros <;> decide +kernel⟩,
   ⟨{ wr [(Obj.agcState 1, 2), (Obj.gainCode 1 2, 77)] with conv.agc := [(1, { found := 2, since := 4 })], core.tick := 90 }, 1,
      by and_intros <;> decide +kernel⟩,
   ⟨{ wr [(Obj.agcState 1, 2), (Obj.gainCode 1 2, 77), (Obj.unitMode 2, 1), (Obj.workingReach 2, 1)] with conv.agc := [(1, { found := 2 })] },
      1, 2, by and_intros <;> decide +kernel⟩,
   ⟨{ wr [(Obj.agcState 1, 3), (Obj.gainCode 1 2, 77)] with conv.agc := [(1, { missed := 8 })] }, 1,
      by and_intros <;> decide +kernel⟩,
   ⟨{ wr [(Obj.agcState 1, 3), (Obj.gainCode 1 2, 77)] with conv.agc := [(1, { missed := 9, lossRearm := true })], core.tick := 5 },
      1, by (try dsimp only); and_intros <;> decide +kernel⟩⟩
theorem witness_RampsEndAndEyeSafetyTurnsOff :
    (∃ (s : State) (r : Fin 4), s.txState r = 1 ∧ (∀ sc, sc < 64 → s.scEnabled r sc = true → (s.ramp r sc).m = 0 ∧ (s.ramp r sc).cur
      = level10 (s.rd (Obj.preEmphasis r sc))) ∧ s.rdN Obj.shutdownState ≠ 2) ∧
    (∃ (s : State) (r : Fin 4), s.txState r = 3 ∧ (∀ sc, sc < 64 → (s.ramp r sc).m = 0 ∧ (s.ramp r sc).cur = 0) ∧ s.rdN
      Obj.shutdownState ≠ 2) ∧
    (∃ (s : State) (n : Fin 16) (r : Fin 4) (level : Bool), (s.pathSelects n).isNone = true ∧ gpioFunction (s.rdN (Obj.gpioConfig
      n)) = 2 ∧ bitsOf (s.rdN (Obj.gpioConfig n)) 5 4 = r.val ∧ bitOf s.board.pins n ≠ level ∧ level ≠ bitOf (s.rdN (Obj.gpioConfig
      n)) 8) ∧
    (∃ (s : State) (n : Fin 16) (level : Bool), gpioFunction (s.rdN (Obj.gpioConfig n)) ≠ 2) :=
  ⟨⟨(wr [(Obj.txState 3, 1)]), 3, by and_intros <;> decide +kernel⟩,
   ⟨{ wr [(Obj.txState 3, 3)] with conv.txen := [0, 3], conv.drven := [3] }, 3, by and_intros <;> decide +kernel⟩,
   ⟨{ wd [(1, 3)] (wr [(Obj.gpioConfig 5, 0x012), (Obj.txState 1, 2)]) with board.pins := 0 }, 5, 1, true,
      by and_intros <;> decide +kernel⟩,
   ⟨(wr [(Obj.gpioConfig 5, 0)]), 5, true, by decide +kernel⟩⟩
end W07

/-! ### Witnesses: statements of file 08 -/

namespace W08

theorem witness_CalibrationRoundsWalkTheSlices :
    (∃ (s : State) (r : Fin 4), s.released (domReach r) = true ∧ s.agcState r = 3 ∧ (s.cal r).kind = 0 ∧ (((s.cal r).requested =
      true ∧ (s.cal r).dueAt ≤ s.core.tick) ∨ ((s.cal r).tempHeld = true ∧ s.rdB (Obj.calAuto r) = true)) ∧ (∀ k, k < 8 →
      (s.shadowSlice r k).isSome)) ∧
    (∃ (s : State) (r : Fin 4), s.calRuns r = true ∧ (s.cal r).sparesDone = false ∧ (s.cal r).next ≤ s.core.tick) ∧
    (∃ (s : State) (r : Fin 4), s.calRuns r = true ∧ (s.cal r).sparesDone = true ∧ (s.cal r).next ≤ s.core.tick ∧ (s.cal r).pos = 0)
      ∧
    (∃ (s : State) (r : Fin 4), s.calRuns r = true ∧ (s.cal r).sparesDone = true ∧ (s.cal r).next ≤ s.core.tick ∧ (s.cal r).pos =
      128) ∧
    (∃ (s : State) (r : Fin 4) (ms : List SliceMeas), s.calRuns r = true ∧ (s.cal r).pos = 129 ∧ (s.cal r).verdict = none ∧ (∀ m ∈
      ms, measFails m (s.rdN (Obj.sliceCoeff r m.conv m.slice)) true = none)) ∧
    (∃ (s : State) (r : Fin 4) (v : CalVerdict), let t := s.calApply r; (s.cal r).verdict = some v ∧ (s.cal r).suspended = false ∧ v.failed = none ∧ v.retire = [] ∧ v.result / 256 % 256 = 0 ∧ ((s.cal r).accepted.map (·.1)).Nodup ∧ (∀ p ∈ (s.cal r).accepted, p.1 < 1056)) ∧
    (∃ (s : State) (r : Fin 4), (s.cal r).startDue = true ∧ (s.cal r).dueAt ≤ s.core.tick ∧ (s.cal r).kind = 0 ∧ s.dom (domReach r)
      = 2 ∧ s.rdN (Obj.linkState r) = 2 ∧ (s.rdB (Obj.calSeedWait r) = true → s.rdB (Obj.reachEnable r) = true)) ∧
    (∃ (s : State) (r : Fin 4) (ms : List SliceMeas), (s.cal r).kind = 2 ∧ (s.cal r).since + (s.cal r).duration ≤ s.core.tick + 1 ∧
      (s.cal r).verdict = none ∧ (∀ m ∈ ms, measFails m (s.rdN (Obj.sliceCoeff r m.conv m.slice)) false = none)) ∧
    (∃ (s : State) (r : Fin 4) (m : SliceMeas), (s.cal r).kind = 2 ∧ (s.cal r).since + (s.cal r).duration ≤ s.core.tick + 1 ∧ (s.cal
      r).verdict = none ∧ m.conv < 8 ∧ m.slice < 132 ∧ s.sliceRetired r m.conv m.slice = false ∧ plausible m.offset m.gain m.skew
      m.bandwidth = true ∧ measFails m (s.rdN (Obj.sliceCoeff r m.conv m.slice)) false = some 1) ∧
    (∃ (s : State) (r : Fin 4) (v : CalVerdict) (a : Nat), let t := s.calApply r; (s.cal r).kind = 2 ∧ (s.cal r).verdict = some v ∧ (s.cal r).suspended = false ∧ v.failed = some a ∧ v.retire = [] ∧ v.result / 256 % 256 ≠ 0) :=
  ⟨⟨{ wd [(1, 3)] (wr [(Obj.agcState 1, 3)]) with conv.cal := [(1, { requested := true })] }, 1, by and_intros <;> decide +kernel⟩,
   ⟨{ wd [(1, 3)] (wr [(Obj.agcState 1, 3)]) with conv.cal := [(1, { kind := 1, next := 5 })], core.tick := 5 }, 1,
      by and_intros <;> decide +kernel⟩,
   ⟨{ wr [(Obj.agcState 1, 3)] with conv.cal := [(1, { kind := 1, sparesDone := true, window := 4, shadow := [128, 129, 130, 131, 128, 128, 128, 128] })] },
      1, by and_intros <;> decide +kernel⟩,
   ⟨{ wr [(Obj.agcState 1, 3)] with conv.cal := [(1, { kind := 1, sparesDone := true, pos := 128, window := 4, shadow := [128, 129, 130, 131, 128, 128, 128, 128], displaced := [127, 127, 255, 127, 127, 127, 127, 126] })] },
      1, by and_intros <;> decide +kernel⟩,
   ⟨{ wr [(Obj.agcState 1, 3)] with conv.cal := [(1, { kind := 1, sparesDone := true, pos := 129, shadow := [128, 129, 130, 131, 128, 128, 128, 128] })] },
      1, [{ conv := 2, slice := 9 }], by and_intros <;> decide +kernel⟩,
   ⟨{ w0 with conv.cal := [(1, { kind := 1, pos := 129, accepted := [(5, 77), (1055, 3)], verdict := some { result := 0x55, failed := none, retire := [] } })] },
      1, { result := 0x55, failed := none, retire := [] }, by (try dsimp only); and_intros <;> decide +kernel⟩,
   ⟨(wr [(Obj.linkState 1, 2), (Obj.reachEnable 1, 1)]), 1, by and_intros <;> decide +kernel⟩,
   ⟨{ w0 with conv.cal := [(1, { kind := 2, startDue := false })] }, 1, [{ conv := 2, slice := 9, errs := [0, 0, 0, 0] }],
      by and_intros <;> decide +kernel⟩,
   ⟨{ w0 with conv.cal := [(1, { kind := 2, startDue := false, startFails := 1 })] }, 1,
      { conv := 2, slice := 9, errs := [9000, 9000, 9000, 9000] }, by and_intros <;> decide +kernel⟩,
   ⟨{ w0 with conv.cal := [(1, { kind := 2, startFails := 1, verdict := some { result := 0x400, failed := some 260, retire := [] } })] },
      1, { result := 0x400, failed := some 260, retire := [] }, 260, by (try dsimp only); and_intros <;> decide +kernel⟩⟩
end W08

/-! ### Witnesses: statements of file 09 -/

namespace W09
/-- A loading map. -/
def wm : MapC := { version := 9, rate := 0, outer := 0, first := 0, count := 4, codes := [1, 2, 3, 4] }
theorem witness_LoadingAnnouncesSwitchesAndRestarts :
    (∃ (s : State) (r : Fin 4) (g : Fin 8) (a : Announce), (s.load r g).ann = some a ∧ a.committed = false ∧ a.at_ ≤ s.core.tick + 3
      ∧ a.postponed < 4) ∧
    (∃ (s : State) (r : Fin 4) (g : Fin 8) (a : Announce), (s.load r g).ann = some a ∧ a.committed = false ∧ a.at_ ≤ s.core.tick + 3
      ∧ 4 ≤ a.postponed) ∧
    (∃ (s : State) (r : Fin 4) (g : Fin 8) (a : Announce), (s.load r g).ann = some a ∧ a.committed = true ∧ a.at_ ≤ s.core.tick) ∧
    (∃ (s : State) (r : Fin 4) (g : Fin 8) (cause : Nat) (due : Nat), (s.load r g).restart = some (cause, due) ∧ due ≤ s.core.tick)
      ∧
    (∃ (s : State) (r : Fin 4) (g : Fin 8), (s.load r g).rxCur.isSome = true ∧ s.inFrame r g = true ∧ s.rdN (Obj.loadingWindow r g)
      ≤ (s.load r g).curTicks ∧ (∀ sc ∈ s.groupScs r g, s.quality r g sc ≠ 0)) ∧
    (∃ (s : State) (r : Fin 4) (g : Fin 8), (s.load r g).xOn = true ∧ (s.load r g).xTick + 10000 ≤ s.core.tick) :=
  ⟨⟨{ wr [(Obj.loadingLead 1 2, 50)] with loads := [(10, { ann := some { map := wm, ta := 4, at_ := 103 } })], core.tick := 100 },
      1, 2, { map := wm, ta := 4, at_ := 103 }, by and_intros <;> decide +kernel⟩,
   ⟨{ w0 with loads := [(10, { ann := some { map := wm, ta := 4, at_ := 103, postponed := 4 }, cand := some wm })], core.tick := 100 },
      1, 2, { map := wm, ta := 4, at_ := 103, postponed := 4 }, by and_intros <;> decide +kernel⟩,
   ⟨{ wr [(Obj.subcarrierCount 1 2, 4)] with loads := [(10, { ann := some { map := wm, ta := 4, at_ := 103, committed := true }, cand := some wm })], core.tick := 103 },
      1, 2, { map := wm, ta := 4, at_ := 103, committed := true }, by and_intros <;> decide +kernel⟩,
   ⟨{ wr [(Obj.subcarrierCount 1 2, 4)] with loads := [(10, { tx := some wm, restart := some (2, 7) })], core.tick := 8 }, 1, 2, 2,
      7, by and_intros <;> decide +kernel⟩,
   ⟨{ wr [(Obj.subcarrierCount 1 2, 4), (Obj.rxFrameState 1 2, 2), (Obj.snrAvg 1 0, 800), (Obj.snrAvg 1 1, 1500), (Obj.snrAvg 1 2, 1100), (Obj.snrAvg 1 3, 1200)] with loads := [(10, { rxCur := some wm, curTicks := 1000000 })] },
      1, 2, by and_intros <;> decide +kernel⟩,
   ⟨{ w0 with loads := [(10, { xOn := true, xTick := 3 })], core.tick := 10003 }, 1, 2, by and_intros <;> decide +kernel⟩⟩
end W09

/-! ### Witnesses: statements of file 10 -/

namespace W10

theorem witness_DispersionEqualiserAndWatchFollowTheLine :
    (∃ (s : State) (r : Fin 4), (s.rdN (Obj.cdMode r) = 1 ∨ s.rdN (Obj.cdMode r) = 2) ∧ s.released (domReach r) = true ∧
      s.reachInFrame r = false ∧ 20 ≤ (s.cd r).noFrame ∧ (s.cd r).searchFrom + 20 ≤ s.core.tick ∧ (s.cd r).swappedAt ≠ some
      s.core.tick ∧ 500 < ((s.cd r).blind - s.cdInForceVal r).natAbs ∧ -160000 ≤ (s.cd r).blind ∧ (s.cd r).blind ≤ 160000) ∧
    (∃ (s : State) (r : Fin 4), s.rdN (Obj.cdMode r) = 2 ∧ ((s.cd r).tracking = true ∨ 1000 ≤ (s.cd r).trackRun) ∧ (s.cd
      r).swappedAt ≠ some s.core.tick ∧ -160000 ≤ s.cdInForceVal r ∧ s.cdInForceVal r ≤ 160000 ∧ -160000 ≤ (s.cd r).trained ∧ (s.cd
      r).trained ≤ 160000) ∧
    (∃ (s : State) (r : Fin 4) (want : Bool), want = (if s.rdN (Obj.eqTracking r) = 0 then false else if s.rdN (Obj.eqTracking r) =
      1 then true else if s.rdB (Obj.eqAgile r) then decide (tget (fun _ => 0) s.eq.slow r < 1000) else decide (1000 < tget (fun _
      => 0) s.eq.peak r)) ∧ want ≠ s.rdB (Obj.eqAgile r)) ∧
    (∃ (s : State) (r : Fin 4), s.rdN (Obj.watchState r) = 0 ∧ s.rdN (Obj.suppressTicks r) ≤ (s.watch r).count ∧ s.released
      (domReach r) = true) ∧
    (∃ (s : State) (r : Fin 4) (score : Nat), s.rdN (Obj.watchState r) = 2 ∧ s.armScore r = some score) ∧
    (∃ (s : State) (r : Fin 4), (s.rdN (Obj.watchState r) = 2 ∨ s.rdN (Obj.watchState r) = 3) ∧ s.rdN (Obj.clearTicks r) ≤ (s.watch
      r).quiet) :=
  ⟨⟨{ wd [(1, 3)] (wr [(Obj.cdMode 1, 1)]) with eq.cd := [(1, { noFrame := 20, blind := 90000 })], core.tick := 30 }, 1,
      by and_intros <;> decide +kernel⟩,
   ⟨{ wr [(Obj.cdMode 1, 2)] with eq.cd := [(1, { tracking := true, trained := 500 })], core.tick := 30 }, 1,
      by and_intros <;> decide +kernel⟩,
   ⟨(wr [(Obj.eqTracking 1, 1)]), 1, true, by and_intros <;> decide +kernel⟩,
   ⟨{ wd [(1, 3)] with eq.watch := [(1, { count := 100000, sSop := 50, sPhase := 9, sTap := 100000 })] }, 1,
      by and_intros <;> decide +kernel⟩,
   ⟨{ wr [(Obj.watchState 1, 2), (Obj.armTicks 1, 2), (Obj.armThreshold 1, 100), (Obj.armClasses 1, 15), (Obj.preArmEnable 1, 1)] with eq.watch := [(1, { hist := [(8, 120), (7, 110)] })], core.tick := 10 },
      1, 120, by and_intros <;> decide +kernel⟩,
   ⟨{ wr [(Obj.watchState 1, 3), (Obj.clearTicks 1, 5)] with eq.watch := [(1, { quiet := 5, leftQuiet := 3, sent := true })], core.tick := 10 },
      1, by and_intros <;> decide +kernel⟩⟩
theorem witness_DecoderFailuresAndLossOfFrame :
    (∃ (s : State) (core : Fin 52) (frame : Nat) (word : Nat) (d : DecFrame), s.offDom (domQuarter (core.val / 13)) = false ∧
      s.coreRetired core.val = false ∧ 0x1100 + core.val ∉ s.integ.out ∧ s.pool.job[frame]? = some d ∧ word < d.out.length ∧ lget 1
      d.out word = 0) ∧
    (∃ (s : State) (core : Fin 52) (frame : Nat) (word : Nat), s.offDom (domQuarter (core.val / 13)) = false ∧ s.coreRetired
      core.val = false ∧ 0x1100 + core.val ∉ s.integ.out ∧ s.pool.job[frame]? = none) ∧
    (∃ (s : State) (r : Fin 4) (g : Fin 8) (c : Nat), s.lostCause r g = some c ∧ (∀ u, u < 4 → s.carrier u ≠ some r.val) ∧ s.rdN
      (Obj.delayGroup r) ≠ g.val) :=
  ⟨⟨{ w0 with pool.job := [{ f := { r := 1, g := 2 }, map := ⟨9, 0, 0, 0, 4, [1, 2, 3, 4]⟩, out := [0, 0, 1] }] }, 3, 0, 1,
      { f := { r := 1, g := 2 }, map := ⟨9, 0, 0, 0, 4, [1, 2, 3, 4]⟩, out := [0, 0, 1] }, by and_intros <;> decide +kernel⟩,
   ⟨w0, 3, 0, 1, by and_intros <;> decide +kernel⟩,
   ⟨{ wr [(Obj.rxFrameState 1 2, 2), (Obj.delayGroup 1, 7), (Obj.subcarrierCount 1 2, 4)] with frame.rx := [(10, { noTrain := 1000 })], eq.sc := [(66, 2), (70, 2)], frame.openFrames := [(4, { rg := 10 }), (5, { rg := 11 })] },
      1, 2, 0, by and_intros <;> decide +kernel⟩⟩
end W10

/-! ### Witnesses: statements of file 11 -/

namespace W11

theorem witness_PortsAlignComeUpAndGoDown :
    (∃ (s : State) (b : Fin 64) (p : Nat), s.rdN (Obj.berthLaneState b) ≠ 0 ∧ s.portOf b = some p ∧ s.rdN (Obj.berthPortState p) = 0
      ∧ s.isPort p = true ∧ s.released (domBerth (p / 8)) = true ∧ (∀ l ∈ s.portLanes p, l ≠ b.val → s.rdN (Obj.berthLaneState l) =
      2)) ∧
    (∃ (s : State) (b : Fin 64), s.rdN (Obj.berthLaneState b) ≠ 0 ∧ s.portOf b = none) ∧
    (∃ (s : State) (b : Fin 64), s.rdN (Obj.berthPortState b) = 1 ∧ s.isPort b = true) ∧
    (∃ (s : State) (b : Fin 64), s.rdN (Obj.berthPortState b) = 1 ∧ (s.port b).alignAt + 10000 ≤ s.core.tick) ∧
    (∃ (s : State) (b : Fin 64) (on : Bool), s.rdN (Obj.berthPortState b) = (if on then 2 else 3)) ∧
    (∃ (s : State) (b : Fin 64) (on : Bool), s.isPort b = true) ∧
    (∃ (s : State) (b : Fin 64) (l : Fin 64), l.val ∈ s.portLanes b ∧ s.rdN (Obj.berthLaneState l) = 2 ∧ (s.rdN (Obj.berthPortState
      b) = 2 ∨ s.rdN (Obj.berthPortState b) = 3)) ∧
    (∃ (s : State) (b : Fin 64), s.isPort b = true ∧ (s.rdN (Obj.berthPortState b) = 2 ∨ s.rdN (Obj.berthPortState b) = 3)) :=
  ⟨⟨(wd [(4, 3)] (wr [(Obj.berthLaneState 3, 1)])), 3, 3, by and_intros <;> decide +kernel⟩,
   ⟨(wr [(Obj.berthLaneState 3, 1), (Obj.groupLayout 0, 0)]), 3, by and_intros <;> decide +kernel⟩,
   ⟨(wr [(Obj.berthPortState 3, 1)]), 3, by and_intros <;> decide +kernel⟩,
   ⟨{ wr [(Obj.berthPortState 3, 1), (Obj.berthLaneState 3, 2)] with core.tick := 10000 }, 3, by and_intros <;> decide +kernel⟩,
   ⟨(wr [(Obj.berthPortState 3, 2)]), 3, true, by decide +kernel⟩,
   ⟨(wr [(Obj.berthPortState 3, 2), (Obj.berthLaneState 3, 2)]), 3, true, by decide +kernel⟩,
   ⟨(wr [(Obj.berthPortState 3, 2), (Obj.berthLaneState 3, 2)]), 3, 3, by and_intros <;> decide +kernel⟩,
   ⟨(wr [(Obj.berthPortState 3, 3), (Obj.berthLaneState 3, 2)]), 3, by and_intros <;> decide +kernel⟩⟩
theorem witness_PriorityFlowControlPausesAndReleases :
    (∃ (s : State) (b : Fin 64) (vec : Nat) (phase : Nat) (times : List Nat), s.isPort b = true ∧ (s.rdN (Obj.berthPortState b) = 2
      ∨ s.rdN (Obj.berthPortState b) = 3)) ∧
    (∃ (s : State) (b : Fin 64) (p : Fin 8) (phase : Nat) (until_ : Nat), (s.port b).rxUntil.find? (fun e => e.1 == p.val) = some
      (p.val, until_) ∧ until_ ≤ s.at phase) ∧
    (∃ (s : State) (b : Fin 64) (phase : Nat) (paused : Nat), s.isPort b = true ∧ paused = maskOf 8 (fun p => bitOf (s.demanded b) p
      && bitOf (s.rdN (Obj.pfcTxEnable b)) p) ∧ paused ≠ s.rdN (Obj.pausedTx b)) ∧
    (∃ (s : State) (b : Fin 64) (phase : Nat), s.isPort b = true ∧ s.rdN (Obj.pausedTx b) = maskOf 8 (fun p => bitOf (s.demanded b)
      p && bitOf (s.rdN (Obj.pfcTxEnable b)) p)) ∧
    (∃ (s : State) (b : Fin 64) (phase : Nat), s.rdN (Obj.pausedTx b) ≠ 0 ∧ 2 * (s.port b).pfcAt + s.rdN (Obj.pfcQuanta b) *
      s.quantum b ≤ 2 * s.at phase) :=
  ⟨⟨(wr [(Obj.berthPortState 3, 2), (Obj.pfcRxEnable 3, 0xF), (Obj.pausedRx 3, 0xA)]), 3, 0x33, 7, [0, 9, 5, 5, 70000, 65536],
      by and_intros <;> decide +kernel⟩,
   ⟨{ wr [(Obj.pausedRx 3, 0xA)] with berth.ports := [(3, { rxUntil := [(1, 50), (3, 90)] })], core.tick := 100 }, 3, 1, 0, 50,
      by and_intros <;> decide +kernel⟩,
   ⟨{ wr [(Obj.pausedTx 3, 2), (Obj.pfcTxEnable 3, 0xF0), (Obj.pfcQuanta 3, 77)] with berth.ports := [(3, { ingressFull := true })], core.tick := 100 },
      3, 0, 0xF0, by and_intros <;> decide +kernel⟩,
   ⟨{ wr [(Obj.pausedTx 3, 0xF0), (Obj.pfcTxEnable 3, 0xF0), (Obj.pfcQuanta 3, 77)] with berth.ports := [(3, { ingressFull := true })], core.tick := 100 },
      3, 0, by and_intros <;> decide +kernel⟩,
   ⟨{ wr [(Obj.pausedTx 3, 0xF0), (Obj.pfcQuanta 3, 77)] with berth.ports := [(3, { pfcAt := 5 })], core.tick := 1000000 }, 3, 6,
      by and_intros <;> decide +kernel⟩⟩
end W11

/-! ### Witnesses: statements of file 12 -/

namespace W12
/-- A client frame of 64 bytes. -/
def wf : List Byte := List.replicate 12 0x22#8 ++ [0x08#8, 0#8] ++ List.replicate 50 7#8
/-- A MAC control frame with an opcode. -/
def wfc (op : Byte) : List Byte := List.replicate 12 0x22#8 ++ [0x88#8, 0x08#8, (if op = 1 then 0 else 1), op] ++ List.replicate 50 7#8
/-- Port 3 UP and group 0 of reach 0 in frame. -/
def wpf : State := wd [(0, 3)] (wr [(Obj.berthPortState 3, 2), (Obj.defaultFlow 3, 5), (Obj.pfcTxEnable 3, 255),
  (Obj.groupEnable 0 0, 1), (Obj.rxFrameState 0 0, 2)])
/-- Port 3 UP. -/
def wp : State := wr [(Obj.berthPortState 3, 2), (Obj.defaultFlow 3, 5), (Obj.pfcTxEnable 3, 255)]
theorem witness_ClientFramesAreClassifiedAndCut :
    (∃ (s : State) (b : Fin 64) (f : List Byte) (e : Bool) (ph : Nat) (dr : Nat), s.isPort b = true ∧ s.portUp b = true ∧ macControl
      f 0x0101 = true) ∧
    (∃ (s : State) (b : Fin 64) (f : List Byte) (e : Bool) (ph : Nat) (dr : Nat), s.isPort b = true ∧ s.portUp b = true ∧ macControl
      f 0x0101 = false ∧ (macControl f 1 = true ∨ f.length < 64)) ∧
    (∃ (s : State) (b : Fin 64) (f : List Byte) (e : Bool) (ph : Nat) (dr : Nat), s.isPort b = true ∧ s.portUp b = true ∧ macControl f 0x0101 = false ∧ macControl f 1 = false ∧ 64 ≤ f.length ∧ s.bufferBytes b < (s.port b).ingress - dr + s.rdN (Obj.maxFrame b) ∧ (let p := s.priorityOf b (f.take (s.rdN (Obj.maxFrame b))); bitOf (s.rdN (Obj.pausedTx b)) p = false ∧ bitOf (s.rdN (Obj.pfcTxEnable b)) p = true)) ∧
    (∃ (s : State) (b : Fin 64) (f : List Byte) (e : Bool) (ph : Nat) (dr : Nat), s.isPort b = true ∧ s.portUp b = true ∧ macControl f 0x0101 = false ∧ macControl f 1 = false ∧ 64 ≤ f.length ∧ s.bufferBytes b < (s.port b).ingress - dr + s.rdN (Obj.maxFrame b) ∧ (let p := s.priorityOf b (f.take (s.rdN (Obj.maxFrame b))); bitOf (s.rdN (Obj.pausedTx b)) p = true ∧ s.ignoresPause b p ph = true)) ∧
    (∃ (s : State) (b : Fin 64) (f : List Byte) (e : Bool) (ph : Nat) (dr : Nat), s.isPort b = true ∧ s.portUp b = true ∧ macControl f 0x0101 = false ∧ macControl f 1 = false ∧ 64 ≤ f.length ∧ (s.port b).ingress - dr + s.rdN (Obj.maxFrame b) ≤ s.bufferBytes b ∧ s.rdN (Obj.frameTrap b) = 0 ∧ (let g := f.take (s.rdN (Obj.maxFrame b)); bitOf (s.rdN (Obj.pausedTx b)) (s.priorityOf b g) = false ∧ bitOf (s.rdN (Obj.pfcTxEnable b)) (s.priorityOf b g) = true ∧ (4096 ≤ s.classify b g ∨ entryOn (s.entry (s.classify b g)) = false))) ∧
    (∃ (s : State) (b : Fin 64) (f : List Byte) (e : Bool) (ph : Nat) (dr : Nat) (fl : Nat), s.isPort b = true ∧ s.portUp b = true ∧ macControl f 0x0101 = false ∧ macControl f 1 = false ∧ 64 ≤ f.length ∧ (s.port b).ingress - dr + s.rdN (Obj.maxFrame b) ≤ s.bufferBytes b ∧ s.rdN (Obj.frameTrap b) = 0 ∧ (let g := f.take (s.rdN (Obj.maxFrame b)); bitOf (s.rdN (Obj.pausedTx b)) (s.priorityOf b g) = false ∧ bitOf (s.rdN (Obj.pfcTxEnable b)) (s.priorityOf b g) = true ∧ s.classify b g = fl) ∧ fl < 4096 ∧ entryOn (s.entry fl) = true ∧ entryKind (s.entry fl) < 2 ∧ s.integ.flowBad.contains fl = false ∧ s.outage (s.flowGroup fl) = false) ∧
    (∃ (s : State) (b : Fin 64) (f : List Byte) (e : Bool) (ph : Nat) (dr : Nat) (fl : Nat), s.isPort b = true ∧ s.portUp b = true ∧ macControl f 0x0101 = false ∧ macControl f 1 = false ∧ 64 ≤ f.length ∧ (s.port b).ingress - dr + s.rdN (Obj.maxFrame b) ≤ s.bufferBytes b ∧ s.rdN (Obj.frameTrap b) = 0 ∧ (let g := f.take (s.rdN (Obj.maxFrame b)); bitOf (s.rdN (Obj.pausedTx b)) (s.priorityOf b g) = false ∧ bitOf (s.rdN (Obj.pfcTxEnable b)) (s.priorityOf b g) = true ∧ s.classify b g = fl) ∧ fl < 4096 ∧ entryOn (s.entry fl) = true ∧ entryKind (s.entry fl) < 2 ∧ s.integ.flowBad.contains fl = false ∧ s.outage (s.flowGroup fl) = true) ∧
    (∃ (s : State) (b : Fin 64) (f : List Byte) (e : Bool) (ph : Nat) (dr : Nat) (fl : Nat) (k : Nat) (pg : Page), s.isPort b = true
      ∧ s.portUp b = true ∧ macControl f 0x0101 = false ∧ macControl f 1 = false ∧ 64 ≤ f.length ∧ f.length ≤ 228 ∧ f.length ≤ s.rdN
      (Obj.maxFrame b) ∧ (s.port b).ingress - dr + s.rdN (Obj.maxFrame b) ≤ s.bufferBytes b ∧ s.rdN (Obj.frameTrap b) = 0 ∧ bitOf
      (s.rdN (Obj.pausedTx b)) (s.priorityOf b f) = false ∧ bitOf (s.rdN (Obj.pfcTxEnable b)) (s.priorityOf b f) = true ∧ s.classify
      b f = fl ∧ fl < 4096 ∧ entryOn (s.entry fl) = true ∧ entryKind (s.entry fl) = 2 ∧ s.integ.flowBad.contains fl = false ∧
      s.basin.accepted = true ∧ (s.flow fl).state ≠ 0 ∧ s.openPage fl false = some (k, pg)) :=
  ⟨⟨wp, 3, (List.replicate 12 0#8 ++ [0x88#8, 8#8, 1#8, 1#8]), false, 4, 0, by and_intros <;> decide +kernel⟩,
   ⟨wp, 3, [1, 2, 3], false, 4, 0, by and_intros <;> decide +kernel⟩,
   ⟨{ wp with berth.ports := [(3, { ingress := 262144 })] }, 3, wf, false, 4, 5, by and_intros <;> decide +kernel⟩,
   ⟨{ wr [(Obj.pausedTx 3, 255)] wp with berth.ports := [(3, { ingress := 262144, pausedAt := (List.range 8).map (fun p => (p, 0)) })], core.tick := 1000 },
      3, wf, false, 4, 5, by and_intros <;> decide +kernel⟩,
   ⟨wp, 3, wf, false, 4, 0, by and_intros <;> decide +kernel⟩,
   ⟨(wr [(flowKey 5, 2 ^ 31)] wpf), 3, wf, true, 4, 0, 5, by and_intros <;> decide +kernel⟩,
   ⟨(wr [(flowKey 5, 2 ^ 31)] wp), 3, wf, true, 4, 0, 5, by and_intros <;> decide +kernel⟩,
   ⟨{ wd [(18, 3)] (wr [(flowKey 5, 2 ^ 31 + 2 ^ 30), (Obj.basinPortState 2, 3)] wp) with basin.accepted := true, basin.flows := [(5, { state := 1, next := 2 ^ 48 - 1, epoch := 3 })], basin.pages := [(2 * pageBase + 9, { flow := 5, rx := false, used := [0, 1] })] },
      3, wf, false, 4, 0, 5, (2 * pageBase + 9), { flow := 5, rx := false, used := [0, 1] }, by and_intros <;> decide +kernel⟩⟩
theorem witness_EgressAndInjectedFramesLeaveInOrder :
    (∃ (s : State) (b : Fin 64) (p : Fin 8) (q : Nat × List Byte), s.portUp b = true ∧ bitOf (s.rdN (Obj.pausedRx b)) p = false ∧
      (s.port b).inject = [] ∧ (s.port b).egress.find? (fun e => e.1 == p.val) = some q) ∧
    (∃ (s : State) (b : Fin 64) (phase : Nat) (j : Injected) (rest : List Injected), s.isPort b = true ∧ s.portUp b = true ∧ (s.port
      b).inject = j :: rest ∧ j.mode = 0) ∧
    (∃ (s : State) (b : Fin 64) (phase : Nat) (j : Injected) (rest : List Injected), s.isPort b = true ∧ s.portUp b = true ∧ (s.port
      b).inject = j :: rest ∧ j.mode = 1 ∧ s.ringFill 3 ≠ ringCapacity 3) ∧
    (∃ (s : State) (b : Fin 64) (phase : Nat) (j : Injected) (rest : List Injected), s.isPort b = true ∧ s.portUp b = true ∧ (s.port
      b).inject = j :: rest ∧ j.mode = 2) :=
  ⟨⟨{ wp with berth.ports := [(3, { egress := [(1, [1]), (2, [2]), (2, [3])] })] }, 3, 2, (2, [2]),
      by and_intros <;> decide +kernel⟩,
   ⟨{ wp with berth.ports := [(3, { inject := [⟨0, 4, wf⟩, ⟨1, 4, wf⟩] })] }, 3, 9, ⟨0, 4, wf⟩, [⟨1, 4, wf⟩],
      by and_intros <;> decide +kernel⟩,
   ⟨{ wp with berth.ports := [(3, { inject := [⟨1, 4, wf⟩] })] }, 3, 9, ⟨1, 4, wf⟩, [], by and_intros <;> decide +kernel⟩,
   ⟨{ wp with berth.ports := [(3, { inject := [⟨2, 4, wf⟩] })] }, 3, 9, ⟨2, 4, wf⟩, [], by and_intros <;> decide +kernel⟩⟩
end W12

/-! ### Witnesses: statements of file 13 -/

namespace W13

theorem witness_DurableFlowsHandOverRetransmitAndDrain :
    (∃ (s : State) (f : Fin 4096) (h : Held), (s.flow f).rxHeld = [h] ∧ h.seq = (s.flow f).rn ∧ s.portServes (slotPort h.slot) =
      true ∧ (s.slot h.slot).st ≠ 3 ∧ (s.slot h.slot).cell.flow = f.val ∧ (s.slot h.slot).cell.seq = h.seq ∧ (s.slot
      h.slot).cell.kind = 3 ∧ s.mayHandOver (s.slot h.slot).cell = true) ∧
    (∃ (s : State) (f : Fin 4096), (∀ h ∈ (s.flow f).rxHeld, (s.slot h.slot).st ≠ 3 ∧ (h.seq = (s.flow f).rn → s.mayHandOver (s.slot
      h.slot).cell = false))) ∧
    (∃ (s : State) (f : Fin 4096), ((s.flow f).state = 1 ∨ (s.flow f).state = 3) ∧ (∀ h ∈ (s.flow f).held, (s.slot h.slot).st ≠ 3))
      ∧
    (∃ (s : State) (f : Fin 4096) (h : Held) (bytes : List (Nat × Byte)), ((s.flow f).state = 1 ∨ (s.flow f).state = 3) ∧ (s.flow
      f).held = [h] ∧ 0 < h.times ∧ h.sent + (s.rttOf f + s.rdN Obj.retxGuard) ≤ s.core.tick ∧ h.lost = false ∧ (s.slot h.slot).st =
      1 ∧ ((s.slot h.slot).read bytes).bad = true) ∧
    (∃ (s : State) (f : Fin 4096) (u : Nat), s.unitOfFlow f = some u ∧ (s.flow f).state = 2 ∧ (s.flow f).reconcile ≠ 0 ∧ s.uState u
      ≠ 5 ∧ s.inFrame (s.flowGroup f / 8) (s.flowGroup f % 8) = true ∧ ((s.flow f).entered = true ∨ (s.flow f).reconcile - 1 + s.rdN
      (Obj.reconcileTicks u) ≤ s.core.tick)) ∧
    (∃ (s : State) (p : Fin 8) (fatal : Bool), s.rdN (Obj.basinPortState p) = 3) :=
  ⟨⟨{ wd [(18, 3)] (wr [(flowKey 5, 2 ^ 31 + 2 ^ 30 + 3), (Obj.basinPortState 2, 3), (Obj.berthPortState 3, 2)]) with basin.flows := [(5, { state := 1, next := 4, rn := 2 ^ 48 - 1, rxHeld := [⟨2 ^ 48 - 1, 2 * slotBase + 9, 0, 0, false, false⟩] })], basin.slots := [(2 * slotBase + 9, { st := 2, cell := { flow := 5, kind := 3, seq := 2 ^ 48 - 1, sof := true, eof := true, body := [1, 2] } })], basin.pages := [(2 * pageBase, { flow := 5, rx := true, used := [9] })] },
      5, ⟨2 ^ 48 - 1, 2 * slotBase + 9, 0, 0, false, false⟩, by and_intros <;> decide +kernel⟩,
   ⟨{ w0 with basin.flows := [(5, { state := 1, next := 4, rn := 8, rxHeld := [⟨9, 2 * slotBase + 9, 0, 0, false, false⟩] })] }, 5,
      by decide +kernel⟩,
   ⟨{ w0 with basin.flows := [(5, { state := 1, next := 4, held := [⟨9, 2 * slotBase + 9, 0, 1, false, false⟩, ⟨10, 2 * slotBase + 10, 90000, 1, false, false⟩] })], core.tick := 90000 },
      5, by and_intros <;> decide +kernel⟩,
   ⟨{ w0 with basin.flows := [(5, { state := 1, next := 4, held := [⟨9, 2 * slotBase + 9, 0, 1, false, false⟩] })], basin.slots := [(2 * slotBase + 9, { st := 1 })], core.tick := 90000 },
      5, ⟨9, 2 * slotBase + 9, 0, 1, false, false⟩, [(0, 1), (1, 2), (2, 3), (3, 4), (4, 5), (5, 6), (251, 7)],
      by and_intros <;> decide +kernel⟩,
   ⟨{ wr [(flowKey 5, 2 ^ 31 + 2 ^ 30 + 2 ^ 20), (Obj.unitMode 2, 1), (Obj.workingReach 2, 1), (Obj.groupEnable 1 0, 1), (Obj.rxFrameState 1 0, 2)] with basin.flows := [(5, { state := 2, reconcile := 1, held := [⟨9, 2 * slotBase + 9, 0, 1, false, false⟩] })], core.tick := 90000 },
      5, 2, by and_intros <;> decide +kernel⟩,
   ⟨{ wr [(Obj.basinPortState 2, 3)] with basin.slots := [(slotBase, { st := 1 }), (2 * slotBase + 9, { st := 1 })], basin.pages := [(pageBase, { flow := 5, rx := true, used := [0] }), (2 * pageBase, { flow := 5, rx := true, used := [9] })] },
      2, true, by decide +kernel⟩⟩
end W13

/-! ### Witnesses: statements of file 14 -/

namespace W14
/-- Unit 2 of a mode and a state, working reach 1 and protect reach 3. -/
def wu (mode st : Nat) (x : UnitSt) : State :=
  { wr [(Obj.unitMode 2, mode), (Obj.unitState 2, st), (Obj.workingReach 2, 1), (Obj.protectReach 2, 3)] with
    rest.units := [(2, x)], core.tick := 500000 }
theorem witness_RestorationStartsEndsAndTimesOut :
    (∃ (s : State) (u : Fin 4) (cause : Nat) (start : Nat), (s.unit u).trigger = some (cause, start) ∧ (s.uState u = 1 ∨ s.uState u
      = 2 ∨ s.uState u = 4) ∧ s.uMode u ≠ 0) ∧
    (∃ (s : State) (u : Fin 4) (cause : Nat), let t := s.restSwitch u; s.restStarts u = some cause ∧ cause ≠ 1 ∧ s.uMode u = 1 ∧ s.rdN (Obj.workingReach u) < 4) ∧
    (∃ (s : State) (u : Fin 4), s.restStarts u = some 1) ∧
    (∃ (s : State) (u : Fin 4) (cause : Nat), let t := s.restoreStart u cause; s.uMode u = 2 ∧ (s.unit u).side < 2) ∧
    (∃ (s : State) (u : Fin 4) (cause : Nat), let t := s.restoreStart u cause; s.uMode u = 1) ∧
    (∃ (s : State) (u : Fin 4) (cause : Nat), let t := s.restoreStart u cause; s.uMode u = 3) ∧
    (∃ (s : State) (u : Fin 4) (w : Withdrawal), w ∈ (s.unit u).withdraw ∧ w.until_ ≤ s.core.tick) ∧
    (∃ (s : State) (u : Fin 4), (∀ w ∈ (s.unit u).withdraw, s.core.tick < w.until_)) ∧
    (∃ (s : State) (u : Fin 4), s.uState u = 3 ∧ (s.uMode u = 1 ∨ s.uMode u = 2) ∧ s.restoreMet u = true) ∧
    (∃ (s : State) (u : Fin 4), s.uState u = 3 ∧ (s.unit u).limitFrom + s.rdN (Obj.restoreLimit u) ≤ s.core.tick) ∧
    (∃ (s : State) (u : Fin 4), s.uState u = 5 ∧ s.uMode u = 1 ∧ s.released (domReach (s.rdN (Obj.workingReach u))) = true ∧ (s.unit
      u).limitFrom + s.rdN (Obj.restoreLimit u) ≤ s.core.tick + 1) ∧
    (∃ (s : State) (u : Fin 4), let t := s.restSwitch u; s.uState u = 5 ∧ s.uMode u = 1 ∧ s.rdN (Obj.workingReach u) < 4 ∧ (s.unit u).planned = some .otherPath) ∧
    (∃ (s : State) (u : Fin 4) (from_ : Nat), s.rdB (Obj.unitRevertive u) = true ∧ s.uState u = 4 ∧ (s.unit u).goodSince = some
      from_ ∧ from_ + s.rdN (Obj.waitToRestore u) ≤ s.core.tick + 1) ∧
    (∃ (s : State) (u : Fin 4) (at_ : Nat), s.rdB (Obj.unitRevertive u) = true ∧ s.uState u = 2 ∧ (s.unit u).disarmAt = some at_ ∧
      at_ + s.rdN (Obj.waitToRestore u) ≤ s.core.tick + 1) ∧
    (∃ (s : State) (u : Fin 4), let t := s.planStep u; s.uState u = 4 ∧ (s.unit u).planned = some (.all 0 1 true) ∧ (s.unit u).goodSince ≠ none) ∧
    (∃ (s : State) (u : Fin 4), let t := s.planStep u; s.uState u = 4 ∧ (s.unit u).planned = some (.all 0 1 true) ∧ (s.unit u).goodSince = none) ∧
    (∃ (s : State) (u : Fin 4), let t := s.planStep u; s.uState u = 2 ∧ (s.unit u).planned = some (.durable 0 1)) :=
  ⟨⟨(wu 2 1 { trigger := some (2, 499990) }), 2, 2, 499990, by and_intros <;> decide +kernel⟩,
   ⟨(wu 1 1 { decided := true, trigger := some (3, 500000) }), 2, 3, by (try dsimp only); and_intros <;> decide +kernel⟩,
   ⟨(wu 1 2 { decided := true, trigger := some (1, 500000) }), 2, by decide +kernel⟩,
   ⟨(wd [(1, 3), (3, 3)] (wu 2 1 { decided := true, trigger := some (2, 500000) })), 2, 2,
      by (try dsimp only); and_intros <;> decide +kernel⟩,
   ⟨{ wr [(flowKey 5, 2 ^ 31 + 2 ^ 30 + 2 ^ 20)] (wu 1 2 { decided := true, trigger := some (1, 500000) }) with basin.flows := [(5, { state := 1 })] },
      2, 1, by decide +kernel⟩,
   ⟨{ wr [(flowKey 5, 2 ^ 31 + 2 ^ 30 + 2 ^ 20)] (wu 3 1 { decided := true, trigger := some (0, 500000) }) with basin.flows := [(5, { state := 1 })] },
      2, 0, by decide +kernel⟩,
   ⟨(wr [(Obj.groupEnable 1 0, 1)] (wu 2 3 { withdraw := [⟨1, 499999, [0]⟩, ⟨3, 600000, [1]⟩] })), 2, ⟨1, 499999, [0]⟩,
      by and_intros <;> decide +kernel⟩,
   ⟨(wu 2 3 { withdraw := [⟨3, 600000, [1]⟩] }), 2, by decide +kernel⟩,
   ⟨(wu 2 3 { side := 1, start := 7 }), 2, by and_intros <;> decide +kernel⟩,
   ⟨(wu 2 3 { side := 1, limitFrom := 7 }), 2, by and_intros <;> decide +kernel⟩,
   ⟨(wd [(1, 3)] (wu 1 5 { limitFrom := 7 })), 2, by and_intros <;> decide +kernel⟩,
   ⟨(wd [(1, 3)] (wr [(Obj.agcState 1, 3)] (wu 1 5 { limitFrom := 7, planned := some .otherPath }))), 2,
      by (try dsimp only); and_intros <;> decide +kernel⟩,
   ⟨(wr [(Obj.unitRevertive 2, 1), (Obj.waitToRestore 2, 10), (Obj.durableSide 2, 1)] (wu 2 4
      { side := 1, goodSince := some 9, since := 6 })), 2, 9, by and_intros <;> decide +kernel⟩,
   ⟨(wr [(Obj.unitRevertive 2, 1), (Obj.waitToRestore 2, 10), (Obj.durableSide 2, 1)] (wu 2 2 { disarmAt := some 9 })), 2, 9,
      by and_intros <;> decide +kernel⟩,
   ⟨(wr [(Obj.durableSide 2, 1)] (wu 2 4 { side := 1, goodSince := some 9, since := 6, planned := some (.all 0 1 true) })), 2,
      by (try dsimp only); and_intros <;> decide +kernel⟩,
   ⟨(wr [(Obj.durableSide 2, 1)] (wu 2 4 { side := 1, since := 6, planned := some (.all 0 1 true) })), 2,
      by (try dsimp only); and_intros <;> decide +kernel⟩,
   ⟨(wr [(Obj.durableSide 2, 1)] (wu 2 2 { disarmAt := some 9, planned := some (.durable 0 1) })), 2,
      by (try dsimp only); and_intros <;> decide +kernel⟩⟩
theorem witness_PreArmMovesDurableFlows :
    (∃ (s : State) (r : Fin 4) (u : Fin 4), r.val ∈ s.eq.prearm ∧ s.unitsOf r = [u.val] ∧ s.uState u = 1 ∧ s.uMode u = 2 ∧ s.rdN
      (Obj.workingReach u) = r.val ∧ s.rdN (Obj.preArmAction u) = 1 ∧ s.frameOn (s.protectOf u) (s.enabledGroups r) = true ∧ s.armed
      (s.protectOf u) = false ∧ s.rdN (Obj.durableSide u) = 0) ∧
    (∃ (s : State) (u : Fin 4), let t := s.planStep u; s.uState u = 1 ∧ (s.unit u).planned = some (.durable 1 2) ∧ s.rdN (Obj.durableSide u) = 0) ∧
    (∃ (s : State) (r : Fin 4) (u : Fin 4), r.val ∈ s.eq.prearm ∧ s.unitsOf r = [u.val] ∧ (s.uState u = 3 ∨ s.uState u = 5 ∨
      s.uState u = 6)) ∧
    (∃ (s : State) (r : Fin 4) (u : Fin 4), r.val ∈ s.eq.disarm ∧ s.unitsOf r = [u.val] ∧ s.uState u = 2 ∧ s.rdN (Obj.workingReach
      u) = r.val ∧ s.rdB (Obj.unitRevertive u) = true) ∧
    (∃ (s : State) (r : Fin 4) (u : Fin 4), r.val ∈ s.eq.disarm ∧ s.unitsOf r = [u.val] ∧ s.uState u = 2 ∧ s.rdN (Obj.workingReach
      u) = r.val ∧ s.rdB (Obj.unitRevertive u) = false) ∧
    (∃ (s : State) (u : Fin 4), let t := s.planStep u; s.uState u = 2 ∧ (s.unit u).planned = some (.all 1 4 false)) :=
  ⟨⟨{ wr [(Obj.preArmAction 2, 1), (Obj.groupEnable 1 0, 1), (Obj.rxFrameState 0 0, 2)] (wu 2 1 {}) with eq.prearm := [0, 1] }, 1,
      2, by and_intros <;> decide +kernel⟩,
   ⟨(wu 2 1 { planned := some (.durable 1 2) }), 2, by (try dsimp only); and_intros <;> decide +kernel⟩,
   ⟨{ wr [(Obj.preArmAction 2, 1)] (wu 2 5 {}) with eq.prearm := [0, 1] }, 1, 2, by and_intros <;> decide +kernel⟩,
   ⟨{ wr [(Obj.unitRevertive 2, 1)] (wu 2 2 {}) with eq.disarm := [0, 1] }, 1, 2, by and_intros <;> decide +kernel⟩,
   ⟨{ wr [(Obj.unitRevertive 2, 0), (Obj.durableSide 2, 1)] (wu 2 2 {}) with eq.disarm := [0, 1] }, 1, 2,
      by and_intros <;> decide +kernel⟩,
   ⟨(wr [(Obj.durableSide 2, 1)] (wu 2 2 { disarmAt := some 9, planned := some (.all 1 4 false) })), 2,
      by (try dsimp only); and_intros <;> decide +kernel⟩⟩
end W14

/-! ### Witnesses: statements of file 15 -/

namespace W15
/-- A message of the mate, as it comes. -/
def wm15 (type flags : Nat) (body : List Byte) : List Byte := mateBytes type flags 7 20 400 body
/-- The same, as it is read. -/
def wr15 (type flags : Nat) (body : List Byte) : MateMsg := ⟨type, flags, 7, 20, 400, body⟩
/-- A HELLO's body, a RESTORE_NOTICE's, a MIRROR's, an acknowledgment's and a TIME_RELAY's. -/
def wb1 : List Byte := beBytes 12 0x010203040506070809
def wb2 : List Byte := beBytes 12 0x0001030200000000000000000
def wb4 : List Byte := [2#8, 0#8, 1#8, 1#8, 0#8, 0#8, 0#8, 9#8] ++ List.replicate 28 0#8
def wb5 : List Byte := [2#8, 0#8, 0#8, 0#8, 0#8, 0#8, 0#8, 9#8]
def wb6 : List Byte := [1#8, 4#8, 0#8, 0#8, 0#8, 0#8, 0#8, 0#8]
/-- Lane 3 UP. -/
def wl : State := { wr [(Obj.tpLaneState 3, 3)] with core.tick := 900 }
theorem witness_MateMessagesActOnce :
    (∃ (s : State) (lane : Fin 8) (bs : List Byte) (m : MateMsg), s.laneState lane = 3 ∧ mateRead bs = some m ∧ m.type = 1 ∧ m.seq ∉
      s.towpath.seen) ∧
    (∃ (s : State) (bs : List Byte) (m : MateMsg), s.lanesUp ≠ [] ∧ mateRead bs = some m ∧ m.type = 2 ∧ m.seq ∉ s.towpath.seen) ∧
    (∃ (s : State) (bs : List Byte) (m : MateMsg), s.lanesUp ≠ [] ∧ mateRead bs = some m ∧ m.type = 4 ∧ m.seq ∉ s.towpath.seen) ∧
    (∃ (s : State) (bs : List Byte) (m : MateMsg), s.lanesUp ≠ [] ∧ mateRead bs = some m ∧ m.type = 5 ∧ m.seq ∉ s.towpath.seen) ∧
    (∃ (s : State) (bs : List Byte) (m : MateMsg), s.lanesUp ≠ [] ∧ mateRead bs = some m ∧ m.type = 6 ∧ m.seq ∉ s.towpath.seen) ∧
    (∃ (s : State) (lane : Fin 8) (bs : List Byte) (m : MateMsg), s.laneState lane = 3 ∧ mateRead bs = some m ∧ m.type = 1 ∧ m.seq ∈
      s.towpath.seen) ∧
    (∃ (s : State) (m : MateMsg), s.towpath.inbox = [m]) ∧
    (∃ (s : State) (m : MateMsg), let t := s.mateActs m; m.type = 1 ∧ (∀ u, u < 4 → s.uMode u ≠ 3)) ∧
    (∃ (s : State) (m : MateMsg) (u : Fin 4), let t := s.mateActs m; m.type = 2 ∧ bitOf m.flags 1 = true ∧ hdrField m.body 4 2 = 0 ∧ s.uMode u = 3 ∧ s.uState u = 7 ∧ s.rdN (Obj.protectReach u) = hdrField m.body 1 1) ∧
    (∃ (s : State) (u : Fin 4) (cause : Nat) (at_ : Nat), let t := s.switchStep u; (s.unit u).switchAt = some (cause, at_) ∧ s.uMode u = 3 ∧ s.uState u = 7 ∧ at_ ≤ s.core.tick) ∧
    (∃ (s : State) (m : MateMsg) (u : Fin 4), let t := s.mateActs m; s.lanesUp ≠ [] ∧ m.type = 4 ∧ hdrField m.body 0 1 = u.val ∧ s.uMode u = 3 ∧ s.uState u = 7 ∧ hdrField m.body 1 1 = 0 ∧ hdrField m.body 2 1 = 1 ∧ (s.unit u).parts.1 ≠ hdrField m.body 4 4) ∧
    (∃ (s : State) (m : MateMsg) (u : Fin 4) (es : List (Nat × List Nat)), let t := s.mateActs m; m.type = 5 ∧ hdrField m.body 0 1 = u.val ∧ (s.unit u).mirrors.find? (fun q => q.1 == hdrField m.body 4 4) = some (hdrField m.body 4 4, es) ∧ (es.map (·.1)).Nodup) ∧
    (∃ (s : State) (m : MateMsg), m.type = 6) ∧
    (∃ (s : State) (bs : List Byte), s.lanesUp ≠ [] ∧ mateRead bs = none) ∧
    (∃ (s : State), s.rdB Obj.mateReachable = true ∧ s.rest.lastMate + s.rdN Obj.mateTimeout ≤ s.core.tick) :=
  ⟨⟨wl, 3, (wm15 1 0 wb1), (wr15 1 0 wb1), by and_intros <;> decide +kernel⟩,
   ⟨wl, (wm15 2 2 wb2), (wr15 2 2 wb2), by and_intros <;> decide +kernel⟩,
   ⟨wl, (wm15 4 0 wb4), (wr15 4 0 wb4), by and_intros <;> decide +kernel⟩,
   ⟨wl, (wm15 5 0 wb5), (wr15 5 0 wb5), by and_intros <;> decide +kernel⟩,
   ⟨wl, (wm15 6 0 wb6), (wr15 6 0 wb6), by and_intros <;> decide +kernel⟩,
   ⟨{ wl with towpath.seen := [20] }, 3, (wm15 1 0 wb1), (wr15 1 0 wb1), by and_intros <;> decide +kernel⟩,
   ⟨{ wl with towpath.inbox := [wr15 6 0 wb6] }, (wr15 6 0 wb6), by decide +kernel⟩,
   ⟨wl, (wr15 1 0 wb1), by (try dsimp only); and_intros <;> decide +kernel⟩,
   ⟨(wr [(Obj.unitMode 2, 3), (Obj.unitState 2, 7), (Obj.workingReach 2, 1), (Obj.protectReach 2, hdrField wb2 1 1)] wl), (wr15 2 2
      wb2), 2, by (try dsimp only); and_intros <;> decide +kernel⟩,
   ⟨{ wr [(Obj.unitMode 2, 3), (Obj.unitState 2, 7), (Obj.workingReach 2, 1)] wl with rest.units := [(2, { switchAt := some (2, 900) })] },
      2, 2, 900, by (try dsimp only); and_intros <;> decide +kernel⟩,
   ⟨(wr [(Obj.unitMode 2, 3), (Obj.unitState 2, 7), (Obj.workingReach 2, 1)] wl), (wr15 4 0 wb4), 2,
      by (try dsimp only); and_intros <;> decide +kernel⟩,
   ⟨{ wl with rest.units := [(2, { mirrors := [(9, [(5, [1, 2, 3, 4, 5, 6]), (6, [1, 2, 3, 4, 5, 8])])] })], basin.flows := [(5, { state := 1 })] },
      (wr15 5 0 wb5), 2, [(5, [1, 2, 3, 4, 5, 6]), (6, [1, 2, 3, 4, 5, 8])], by (try dsimp only); and_intros <;> decide +kernel⟩,
   ⟨wl, (wr15 6 0 wb6), by decide +kernel⟩,
   ⟨wl, [1, 2, 3], by and_intros <;> decide +kernel⟩,
   ⟨{ wr [(Obj.mateReachable, 1), (Obj.unitMode 2, 3), (Obj.workingReach 2, 1), (flowKey 5, 2 ^ 31 + 2 ^ 30 + 2 ^ 20)] wl with core.tick := 90000, basin.flows := [(5, { state := 1 })] },
      by and_intros <;> decide +kernel⟩⟩
end W15

/-! ### Witnesses: statements of file 16 -/

namespace W16
/-- A group's keys, with an announcement. -/
def wk (x : KeyGrp) : List (Nat × KeyGrp) := [(10, x), (11, { own := [5] })]

/-- A batch that runs, its first entry one that unwraps. -/
def wbt : State :=
  { wr [(Obj.opState 10, 1)] with
    key.batchLeft := 3, key.fusedKek := List.replicate 32 0#8, key.batch := [(0, beBytes 60 wentry)] }
theorem batch_witness :
    ∃ (s : State) (label : Nat) (key : List Byte) (n : Nat), s.opRunning 10 = true ∧ s.key.batchAbort = false ∧
    s.importRecord (tget (fun _ => List.replicate 60 0#8) s.key.batch s.key.batchDone) = some (n, 3, label, key) ∧
    n < 128 ∧ s.rdN (Obj.keySlotState n) = 0 ∧ s.key.batchDone + 1 < s.key.batchLeft :=
  ⟨wbt, 7, List.replicate 32 9#8, 5, by decide +kernel, by decide +kernel,
   import_of wbt rfl (by decide +kernel), by decide, by decide +kernel, by decide +kernel⟩
theorem witness_KeyBatchesImportAndEpochsComeIntoForce :
    (∃ (s : State) (label : Nat) (key : List Byte) (n : Nat), s.opRunning 10 = true ∧ s.key.batchAbort = false ∧
    s.importRecord (tget (fun _ => List.replicate 60 0#8) s.key.batch s.key.batchDone) = some (n, 3, label, key) ∧
    n < 128 ∧ s.rdN (Obj.keySlotState n) = 0 ∧ s.key.batchDone + 1 < s.key.batchLeft) ∧
    (∃ (s : State), s.opRunning 10 = true ∧ s.key.batchAbort = false ∧ s.importRecord (tget (fun _ => List.replicate 60 0#8)
      s.key.batch s.key.batchDone) = none) ∧
    (∃ (s : State) (r : Fin 4) (g : Fin 8) (e : Nat) (ta : Nat) (at_ : Nat), (s.kg r g).ann = some ⟨e, ta, at_, false⟩ ∧ at_ ≤
      s.core.tick + 3) ∧
    (∃ (s : State) (r : Fin 4) (g : Fin 8) (e : Nat) (ta : Nat) (at_ : Nat) (key : List Byte) (peer : List Byte), (s.kg r g).ann =
      some ⟨e, ta, at_, true⟩ ∧ at_ ≤ s.core.tick ∧ s.rdN (Obj.keySlotState (s.rdN (Obj.keySlot r g))) = 1 ∧ s.kslot (s.rdN
      (Obj.keySlot r g)) = ⟨key, none⟩ ∧ (s.kg r g).peer = some peer) ∧
    (∃ (s : State) (r : Fin 4) (g : Fin 8), s.rdN (Obj.authFailLimit r g) ≤ (s.kg r g).failRun ∧ (s.keySt r g = 2 ∨ s.keySt r g =
      3)) ∧
    (∃ (s : State) (r : Fin 4) (g : Fin 8), s.rdN (Obj.authFailLimit r g) ≤ (s.kg r g).failRun ∧ (s.keySt r g = 1 ∨ s.keySt r g =
      4)) :=
  ⟨batch_witness,
   ⟨{ wr [(Obj.opState 10, 1)] with key.batchLeft := 4, key.batch := [(0, [7, 0, 0, 0])] }, by and_intros <;> decide +kernel⟩,
   ⟨{ wr [(Obj.keyLead 1 2, 40)] with key.grps := wk { ann := some ⟨3, 4, 103, false⟩ }, core.tick := 100 }, 1, 2, 3, 4, 103,
      by and_intros <;> decide +kernel⟩,
   ⟨{ wr [(Obj.keySlot 1 2, 9), (Obj.keySlotState 9, 1), (Obj.slotLabel 9, 77), (Obj.keyState 1 2, 1)] with key.slots := [(9, ⟨[1, 2, 3], none⟩)], key.grps := wk { own := [4], peer := some [6], early := 3, ann := some ⟨3, 4, 100, true⟩ }, core.tick := 100 },
      1, 2, 3, 4, 100, [1, 2, 3], [6], by and_intros <;> decide +kernel⟩,
   ⟨{ wr [(Obj.keySlot 1 2, 9), (Obj.keyState 1 2, 2), (Obj.authFailLimit 1 2, 8)] with key.grps := wk { own := [4], peer := some [6], failRun := 8, txKey := some [9] } },
      1, 2, by and_intros <;> decide +kernel⟩,
   ⟨{ wr [(Obj.keySlot 1 2, 9), (Obj.keyState 1 2, 4), (Obj.authFailLimit 1 2, 8)] with key.grps := wk { own := [4], peer := some [6], failRun := 8 } },
      1, 2, by and_intros <;> decide +kernel⟩⟩
theorem witness_CipherFailuresAreCountedAndReported :
    (∃ (s : State) (core : Fin 36), s.rdN (Obj.cipherCoreState core) = 1 ∧ core.val ∉ s.key.withdrawn) ∧
    (∃ (s : State) (core : Fin 36), core.val ∈ s.key.withdrawn) ∧
    (∃ (s : State) (r : Fin 4) (g : Fin 8) (n : Nat) (fr : TxFrame), s.frame.tx = [(8 * r.val + g.val, fr)] ∧ fr.epoch.isSome = true
      ∧ n ∉ fr.blanked) ∧
    (∃ (s : State), s.rdN Obj.entropyState ≠ 1) ∧
    (∃ (s : State), s.rdN Obj.entropyState = 1) :=
  ⟨⟨(wr [(Obj.cipherCoreState 5, 1)]), 5, by and_intros <;> decide +kernel⟩,
   ⟨{ w0 with key.withdrawn := [5] }, 5, by decide +kernel⟩,
   ⟨{ w0 with frame.tx := [(10, { tick := 4, header := [], oh := [], epoch := some 3, blanked := [1] })] }, 1, 2, 3,
      { tick := 4, header := [], oh := [], epoch := some 3, blanked := [1] }, by and_intros <;> decide +kernel⟩,
   ⟨w0, by decide +kernel⟩,
   ⟨(wr [(Obj.entropyState, 1)]), by decide +kernel⟩⟩
end W16

/-! ### Witnesses: statements of file 17 -/

namespace W17

theorem witness_TimingInputsQualifyAndAreLost :
    (∃ (s : State) (i : Fin 12) (f : Fin 4) (ph : Nat) (off : Int), 0 < s.refState i ∧ s.selectedIn ≠ i ∧ ((f = 0 ∧ s.sourceLost i =
      true) ∨ f = 1)) ∧
    (∃ (s : State) (i : Fin 12) (ph : Nat) (off : Int), 0 < s.refState i ∧ s.selectedIn = i ∧ 1000 * s.rdN Obj.acceptLimit <
      off.natAbs) ∧
    (∃ (s : State) (i : Fin 12), s.refState i = 0 ∧ s.refFaulted i = false) ∧
    (∃ (s : State) (i : Fin 12), s.refState i = 0 ∧ s.refFaulted i = true) ∧
    (∃ (s : State) (i : Fin 12), s.refState i = 1 ∧ (s.refIn i).since + s.rdN (Obj.qualTime i) ≤ s.core.tick ∧ s.refFaulted i =
      false) ∧
    (∃ (s : State) (i : Fin 12), (s.core.tick < (s.refIn i).since + s.rdN (Obj.qualTime i) ∨ s.refFaulted i = true)) ∧
    (∃ (s : State) (i : Fin 2) (ph : Nat), s.rdN (Obj.phaseMode i) = 1 ∧ s.rdB Obj.tickAligned = false ∧ ph < 5000000) ∧
    (∃ (s : State) (i : Fin 2) (ph : Nat), s.rdN (Obj.phaseMode i) = 1 ∧ s.rdB Obj.tickAligned = true ∧ s.core.tick % 100000 = 0 ∧
      5000005 ≤ ph ∧ ph < 10000000 ∧ 0 < s.refState i ∧ (s.refIn i).mismatch = false) :=
  ⟨⟨(wr [(Obj.inputState 3, 1)]), 3, 0, 5, 7, by and_intros <;> decide +kernel⟩,
   ⟨(wr [(Obj.inputState 0, 2), (Obj.selected, 0), (Obj.acceptLimit, 9)]), 0, 5, (-9001), by and_intros <;> decide +kernel⟩,
   ⟨(wt 8 (wr [(Obj.inputState 0, 0)])), 0, by and_intros <;> decide +kernel⟩,
   ⟨(wr [(Obj.inputState 3, 0)]), 3, by and_intros <;> decide +kernel⟩,
   ⟨{ wr [(Obj.inputState 0, 1), (Obj.qualTime 0, 9)] with timing.inputs := [(0, { since := 3 })], core.tick := 12 }, 0,
      by and_intros <;> decide +kernel⟩,
   ⟨{ wr [(Obj.inputState 0, 1), (Obj.qualTime 0, 9)] with timing.inputs := [(0, { since := 3 })], core.tick := 11 }, 0,
      by decide +kernel⟩,
   ⟨(wt 12 (wr [(Obj.phaseMode 1, 1), (Obj.inputState 1, 1)])), 1, 4999999, by and_intros <;> decide +kernel⟩,
   ⟨(wt 100000 (wr [(Obj.phaseMode 1, 1), (Obj.inputState 1, 1), (Obj.tickAligned, 1)])), 1, 5000007,
      by and_intros <;> decide +kernel⟩⟩
theorem witness_TimingLocksKeepsSecondsAndMarksDelay :
    (∃ (s : State), s.timing.switching = true ∧ s.timing.pull.natAbs ≤ 100000) ∧
    (∃ (s : State), 100000 < s.timing.pull.natAbs) ∧
    (∃ (s : State) (means : List Int), s.rdN Obj.timingState = 1 ∧ s.timing.switching = false ∧ s.timing.acqAt + 1000000 ≤
      s.core.tick ∧ means.length = 10 ∧ (∀ m ∈ means, m.natAbs < 1000)) ∧
    (∃ (s : State) (means : List Int), means.length < 10) ∧
    (∃ (s : State) (m : Int), s.rdN Obj.timingState = 2 ∧ s.timing.secStart + 100000 ≤ s.core.tick) ∧
    (∃ (s : State) (m : Int), s.rdN Obj.timingState ≠ 2) ∧
    (∃ (s : State) (r : Fin 4), s.released (domReach r) = true ∧ s.groupOn r (s.rdN (Obj.delayGroup r)) = true ∧ (s.delay
      r).lastMark + s.rdN (Obj.delayInterval r) ≤ s.core.tick) :=
  ⟨⟨{ w0 with timing.switching := true, timing.pull := -100000 }, by and_intros <;> decide +kernel⟩,
   ⟨{ w0 with timing.switching := true, timing.pull := -100001 }, by decide +kernel⟩,
   ⟨{ wr [(Obj.timingState, 1), (Obj.selected, 1)] with timing.acqAt := 5, core.tick := 1000005 }, [999, -999, 0, 0, 0, 1, 2, 3, 4,
      5], by and_intros <;> decide +kernel⟩,
   ⟨(wr [(Obj.timingState, 1), (Obj.selected, 1)]), [999, -999, 0, 0], by decide +kernel⟩,
   ⟨{ wr [(Obj.timingState, 2), (Obj.selected, 1)] with timing.secStart := 4, timing.seconds := [(4, 77)], core.tick := 100004 },
      (-6), by and_intros <;> decide +kernel⟩,
   ⟨(wr [(Obj.timingState, 3)]), 5, by decide +kernel⟩,
   ⟨(wt 200000 (wd [(1, 3)] (wr [(Obj.delayGroup 1, 2), (Obj.groupEnable 1 2, 1), (Obj.subcarrierCount 1 2, 4)]))), 1,
      by and_intros <;> decide +kernel⟩⟩
end W17

/-! ### Witnesses: statements of file 18 -/

namespace W18
/-- Lane 3 in a state. -/
def wlane (st : Nat) (x : LaneSt) : State :=
  { wr [(Obj.tpLaneState 3, st), (Obj.maxRate, 3)] with towpath.lanes := [(3, x), (4, { skips := 1 })], core.tick := 200000 }
theorem witness_LanesTrainComeUpAndGoDown :
    (∃ (s : State) (l : Fin 8), s.laneState l = 0 ∧ s.hubPowered = true ∧ s.rdN (Obj.loopback l) = 0) ∧
    (∃ (s : State) (l : Fin 8), s.rdN (Obj.loopback l) ≠ 0) ∧
    (∃ (s : State) (l : Fin 8) (c1 : Byte) (c2 : Byte), s.laneState l = 1 ∧ c2.toNat = l.val ∧ 0 < c1.toNat % 4 ∧ 0 < s.rdN
      Obj.maxRate) ∧
    (∃ (s : State) (l : Fin 8) (c1 : Byte) (c2 : Byte), s.laneState l = 1 ∧ c2.toNat = l.val ∧ c1.toNat % 4 = 0) ∧
    (∃ (s : State) (l : Fin 8) (c1 : Byte) (c2 : Byte), s.laneState l = 1 ∧ c2.toNat ≠ l.val) ∧
    (∃ (s : State) (l : Fin 8), s.laneState l = 2 ∧ (s.lane l).trainAt + s.rdN Obj.trainTicks ≤ s.core.tick ∧ (s.lane l).clean
      (s.rdN Obj.trainTicks) = true ∧ ((s.lane l).fellBack = true ∨ (s.lane l).target ≤ (s.lane l).training)) ∧
    (∃ (s : State) (l : Fin 8), s.laneState l = 2 ∧ (s.lane l).trainAt + s.rdN Obj.trainTicks ≤ s.core.tick ∧ (s.lane l).clean
      (s.rdN Obj.trainTicks) = true ∧ (s.lane l).fellBack = false ∧ (s.lane l).training < (s.lane l).target) ∧
    (∃ (s : State) (l : Fin 8) (locked : Bool), s.laneState l = 2 ∧ (s.lane l).trainAt + s.rdN Obj.trainTicks ≤ s.core.tick ∧
      (s.lane l).fails < 2 ∧ (locked = false ∨ (s.lane l).clean (s.rdN Obj.trainTicks) = false)) ∧
    (∃ (s : State) (l : Fin 8) (locked : Bool), s.laneState l = 2 ∧ (s.lane l).trainAt + s.rdN Obj.trainTicks ≤ s.core.tick ∧
      (s.lane l).fails = 2 ∧ 0 < (s.lane l).training ∧ (locked = false ∨ (s.lane l).clean (s.rdN Obj.trainTicks) = false)) ∧
    (∃ (s : State) (l : Fin 8) (cause : Fin 3), s.laneState l = 3) ∧
    (∃ (s : State) (l : Fin 8) (cause : Fin 3), s.laneState l ≠ 3) ∧
    (∃ (s : State) (l : Fin 8), (s.laneState l ≠ 0 ∨ s.rdN (Obj.loopback l) ≠ 0 ∧ s.hubPowered = true)) :=
  ⟨⟨(wlane 0 {}), 3, by and_intros <;> decide +kernel⟩,
   ⟨(wr [(Obj.loopback 3, 1)] (wlane 0 {})), 3, by decide +kernel⟩,
   ⟨(wlane 1 { fails := 1 }), 3, 0x42, 3, by and_intros <;> decide +kernel⟩,
   ⟨(wlane 1 { fails := 1 }), 3, 0x40, 3, by and_intros <;> decide +kernel⟩,
   ⟨(wlane 1 { fails := 1 }), 3, 0x41, 4, by and_intros <;> decide +kernel⟩,
   ⟨(wlane 2 { target := 2, training := 2, fails := 1, rx := { alignedAt := some 2 } }), 3, by and_intros <;> decide +kernel⟩,
   ⟨(wlane 2 { target := 3, training := 1, fails := 2, rx := { alignedAt := some 2 } }), 3, by and_intros <;> decide +kernel⟩,
   ⟨(wlane 2 { target := 3, training := 1, fails := 1 }), 3, true, by and_intros <;> decide +kernel⟩,
   ⟨(wlane 2 { target := 3, training := 1, fails := 2 }), 3, false, by and_intros <;> decide +kernel⟩,
   ⟨(wlane 3 { target := 3, training := 1, fails := 2 }), 3, 1, by decide +kernel⟩,
   ⟨(wlane 2 { target := 3, training := 1, fails := 2 }), 3, 1, by decide +kernel⟩,
   ⟨(wlane 2 { target := 3, training := 1, fails := 2 }), 3, by decide +kernel⟩⟩
theorem witness_TowpathSendsSkipHelloTimeAndWake :
    (∃ (s : State) (l : Fin 8), s.laneFill l ≠ none) ∧
    (∃ (s : State) (l : Fin 8), s.laneFill l = none) ∧
    (∃ (s : State), s.towpath.helloAt + 5 ≤ s.core.tick ∧ s.hubPowered = true ∧ s.lanesUp ≠ []) ∧
    (∃ (s : State), s.core.tick < s.towpath.helloAt + 5) ∧
    (∃ (s : State) (l : Nat), (s.towpath.relayAt + 100 ≤ s.core.tick ∨ s.timeRelayBody ≠ s.towpath.relayed) ∧ s.hubPowered = true ∧
      s.lanesUp = [l]) ∧
    (∃ (s : State), 0 < s.towpath.wakeUntil ∧ s.towpath.wakeUntil ≤ s.core.tick) ∧
    (∃ (s : State), s.core.tick < s.towpath.wakeUntil) :=
  ⟨⟨(wlane 2 {}), 3, by decide +kernel⟩,
   ⟨(wlane 0 {}), 3, by decide +kernel⟩,
   ⟨(wlane 3 {}), by and_intros <;> decide +kernel⟩,
   ⟨w0, by decide +kernel⟩,
   ⟨(wlane 3 {}), 3, by and_intros <;> decide +kernel⟩,
   ⟨{ w0 with towpath.wakeUntil := 5, core.tick := 5 }, by and_intros <;> decide +kernel⟩,
   ⟨{ w0 with towpath.wakeUntil := 6, core.tick := 5 }, by decide +kernel⟩⟩
end W18

/-! ### Witnesses: statements of file 20 -/

namespace W20
/-- A word's four bytes at an offset. -/
def wcells (o : Nat) (w : Word) : List Host.Cell :=
  ((List.range 4).map (fun k => (o + k, BitVec.ofNat 8 (w.toNat / 2 ^ (8 * k))))).filter (fun q => q.2 != 0#8)
/-- Slot 5 of cluster 2 runs a task, with an instruction at PC 0x40. -/
def weng (mode : Nat) (i : EngI) (x : EngSlot := {}) : State :=
  { wr [(Obj.clusterMode 2, mode), (Obj.trapLimit 2, 3)] with
    engine.slots := [(37, { x with running := true, pc := 0x40#32, text := wcells 0x40 i.word }), (38, { g := [(1, 1#32)] })] }
/-- Registers of the slot. -/
def wgs (x y : Word) : EngSlot := { g := [(1, x), (2, y), (3, 9#32)], csr := [(0x13, 8000#32)] }
theorem witness_EngineArithmeticPutsItsResultInD :
    (∃ (s : State) (c : Fin 12) (e : Fin 16) (d : BitVec 5) (a : BitVec 5) (b : BitVec 5) (f : AluOp) (x : Word) (y : Word) (op :
      Fin 12 → Fin 16 → BitVec 5 → BitVec 5 → BitVec 5 → Instr) (v : Word), s.slotRuns c e (.alu f d a b) ∧ (s.eng c e).gpr a = x ∧
      (s.eng c e).gpr b = y ∧ ((op = .engAdd ∧ f = .add ∧ v = BitVec.ofNat 32 (x.toNat + y.toNat)) ∨ (op = .engSub ∧ f = .sub ∧ v =
      BitVec.ofInt 32 (x.toInt - y.toInt)) ∨ (op = .engAnd ∧ f = .and ∧ v = x &&& y) ∨ (op = .engOr ∧ f = .or ∧ v = x ||| y) ∨ (op =
      .engXor ∧ f = .xor ∧ v = x ^^^ y) ∨ (op = .engShl ∧ f = .shl ∧ v = BitVec.ofNat 32 (x.toNat * 2 ^ (y.toNat % 32))) ∨ (op =
      .engShr ∧ f = .shr ∧ v = BitVec.ofNat 32 (x.toNat / 2 ^ (y.toNat % 32))) ∨ (op = .engSar ∧ f = .sar ∧ v = BitVec.ofInt 32
      (x.toInt / 2 ^ (y.toNat % 32))) ∨ (op = .engLt ∧ f = .lt ∧ v = if x.toInt < y.toInt then 1 else 0) ∨ (op = .engLtu ∧ f = .ltu
      ∧ v = if x.toNat < y.toNat then 1 else 0) ∨ (op = .engMin ∧ f = .min ∧ v = BitVec.ofInt 32 (min x.toInt y.toInt)) ∨ (op =
      .engMax ∧ f = .max ∧ v = BitVec.ofInt 32 (max x.toInt y.toInt)) ∨ (op = .engMinu ∧ f = .minu ∧ v = BitVec.ofNat 32 (min
      x.toNat y.toNat)) ∨ (op = .engMaxu ∧ f = .maxu ∧ v = BitVec.ofNat 32 (max x.toNat y.toNat)) ∨ (op = .engMul ∧ f = .mul ∧ v =
      BitVec.ofNat 32 (x.toNat * y.toNat)) ∨ (op = .engMulhs ∧ f = .mulhs ∧ v = BitVec.ofInt 32 (x.toInt * y.toInt / 2 ^ 32)) ∨ (op
      = .engMulhu ∧ f = .mulhu ∧ v = BitVec.ofNat 32 (x.toNat * y.toNat / 2 ^ 32)))) ∧
    (∃ (s : State) (c : Fin 12) (e : Fin 16) (d : BitVec 5) (a : BitVec 5) (b : BitVec 5) (f : AluOp) (x : Word) (y : Word) (op :
      Fin 12 → Fin 16 → BitVec 5 → BitVec 5 → BitVec 5 → Instr) (v : Word) (dz : Bool) (ov : Bool), s.slotRuns c e (.alu f d a b) ∧
      (s.eng c e).gpr a = x ∧ (s.eng c e).gpr b = y ∧ ((op = .engDq ∧ f = .dq ∧ dz = (y == 0) ∧ ov = (x == 0x80000000 && y ==
      0xFFFFFFFF) ∧ v = if y = 0 then 0 else if x = 0x80000000 ∧ y = 0xFFFFFFFF then 0x7FFFFFFF else BitVec.ofInt 32 (x.toInt.tdiv
      y.toInt)) ∨ (op = .engDqu ∧ f = .dqu ∧ dz = (y == 0) ∧ ov = false ∧ v = if y = 0 then 0 else BitVec.ofNat 32 (x.toNat /
      y.toNat)) ∨ (op = .engDr ∧ f = .dr ∧ dz = (y == 0) ∧ ov = (x == 0x80000000 && y == 0xFFFFFFFF) ∧ v = if y = 0 then x else if x
      = 0x80000000 ∧ y = 0xFFFFFFFF then 0 else BitVec.ofInt 32 (x.toInt.tmod y.toInt)) ∨ (op = .engDru ∧ f = .dru ∧ dz = (y == 0) ∧
      ov = false ∧ v = if y = 0 then x else BitVec.ofNat 32 (x.toNat % y.toNat)) ∨ (op = .engAddsat ∧ f = .addsat ∧ dz = false ∧ ov
      = decide (x.toInt + y.toInt < -2 ^ 31 ∨ 2 ^ 31 ≤ x.toInt + y.toInt) ∧ v = BitVec.ofInt 32 (max (-2 ^ 31) (min (2 ^ 31 - 1)
      (x.toInt + y.toInt)))) ∨ (op = .engSubsat ∧ f = .subsat ∧ dz = false ∧ ov = decide (x.toInt - y.toInt < -2 ^ 31 ∨ 2 ^ 31 ≤
      x.toInt - y.toInt) ∧ v = BitVec.ofInt 32 (max (-2 ^ 31) (min (2 ^ 31 - 1) (x.toInt - y.toInt)))))) ∧
    (∃ (s : State) (c : Fin 12) (e : Fin 16) (d : BitVec 5) (a : BitVec 5), s.slotRuns c e (.alu .lzc d a 0)) ∧
    (∃ (s : State) (c : Fin 12) (e : Fin 16) (d : BitVec 5) (a : BitVec 5), s.slotRuns c e (.alu .ones d a 0)) ∧
    (∃ (s : State) (c : Fin 12) (e : Fin 16) (d : BitVec 5) (a : BitVec 5) (k : BitVec 14) (f : RkOp) (x : Word) (op : Fin 12 → Fin
      16 → BitVec 5 → BitVec 5 → BitVec 14 → Instr) (v : Word), s.slotRuns c e (.rk f d a k) ∧ (s.eng c e).gpr a = x ∧ ((op =
      .engAddk ∧ f = .addk ∧ v = BitVec.ofInt 32 (x.toInt + k.toInt)) ∨ (op = .engAndk ∧ f = .andk ∧ v = x &&& BitVec.ofNat 32
      k.toNat) ∨ (op = .engOrk ∧ f = .ork ∧ v = x ||| BitVec.ofNat 32 k.toNat) ∨ (op = .engXork ∧ f = .xork ∧ v = x ^^^ BitVec.ofNat
      32 k.toNat) ∨ (op = .engLtk ∧ f = .ltk ∧ v = if x.toInt < k.toInt then 1 else 0) ∨ (op = .engLtku ∧ f = .ltku ∧ v = if x.toNat
      < k.toNat then 1 else 0) ∨ (op = .engMulk ∧ f = .mulk ∧ v = BitVec.ofInt 32 (x.toInt * k.toInt)))) ∧
    (∃ (s : State) (c : Fin 12) (e : Fin 16) (d : BitVec 5) (a : BitVec 5) (k : BitVec 5) (f : RkOp) (x : Word) (op : Fin 12 → Fin
      16 → BitVec 5 → BitVec 5 → BitVec 5 → Instr) (v : Word), s.slotRuns c e (.rk f d a (0#9 ++ k)) ∧ (s.eng c e).gpr a = x ∧ ((op
      = .engShlk ∧ f = .shlk ∧ v = BitVec.ofNat 32 (x.toNat * 2 ^ k.toNat)) ∨ (op = .engShrk ∧ f = .shrk ∧ v = BitVec.ofNat 32
      (x.toNat / 2 ^ k.toNat)) ∨ (op = .engSark ∧ f = .sark ∧ v = BitVec.ofInt 32 (x.toInt / 2 ^ k.toNat)))) :=
  ⟨⟨(weng 1 (.alu (.add) 3 1 2) (wgs 0xFFFFFFF6#32 3#32)), 2, 5, 3, 1, 2, (.add), 0xFFFFFFF6#32, 3#32, .engAdd, (BitVec.ofNat 32
      ((0xFFFFFFF6#32 : Word).toNat + (3#32 : Word).toNat)), slotRuns_of (by decide +kernel), by decide +kernel, by decide +kernel,
      Or.inl ⟨rfl, rfl, rfl⟩⟩,
   ⟨(weng 1 (.alu (.dq) 3 1 2) (wgs 0xFFFFFFF6#32 3#32)), 2, 5, 3, 1, 2, (.dq), 0xFFFFFFF6#32, 3#32, .engDq, (if 3#32 = 0 then 0
      else if 0xFFFFFFF6#32 = 0x80000000 ∧ 3#32 = 0xFFFFFFFF then 0x7FFFFFFF else BitVec.ofInt 32 ((0xFFFFFFF6#32 : Word).toInt.tdiv
      (3#32 : Word).toInt)), ((3#32 == 0)), ((0xFFFFFFF6#32 == 0x80000000 && 3#32 == 0xFFFFFFFF)), slotRuns_of (by decide +kernel),
      by decide +kernel, by decide +kernel, Or.inl ⟨rfl, rfl, rfl, rfl, rfl⟩⟩,
   ⟨(weng 1 (.alu .lzc 3 1 0) (wgs 0x00800000#32 3#32)), 2, 5, 3, 1, slotRuns_of (by decide +kernel)⟩,
   ⟨(weng 1 (.alu .ones 3 1 0) (wgs 0x00800F01#32 3#32)), 2, 5, 3, 1, slotRuns_of (by decide +kernel)⟩,
   ⟨(weng 1 (.rk (.addk) 3 1 0x3FF6#14) (wgs 0x80800F01#32 3#32)), 2, 5, 3, 1, 0x3FF6#14, (.addk), 0x80800F01#32, .engAddk,
      (BitVec.ofInt 32 ((0x80800F01#32 : Word).toInt + (0x3FF6#14 : BitVec 14).toInt)), slotRuns_of (by decide +kernel),
      by decide +kernel, Or.inl ⟨rfl, rfl, rfl⟩⟩,
   ⟨(weng 1 (.rk (.shlk) 3 1 (0#9 ++ 7#5)) (wgs 0x80800F01#32 3#32)), 2, 5, 3, 1, 7#5, (.shlk), 0x80800F01#32, .engShlk,
      (BitVec.ofNat 32 ((0x80800F01#32 : Word).toNat * 2 ^ (7#5 : BitVec 5).toNat)), slotRuns_of (by decide +kernel),
      by decide +kernel, Or.inl ⟨rfl, rfl, rfl⟩⟩⟩
theorem witness_EngineJumpsAndBranchesSetPc :
    (∃ (s : State) (c : Fin 12) (e : Fin 16) (d : BitVec 5) (k : BitVec 18), s.slotRuns c e (.sethi d k)) ∧
    (∃ (s : State) (c : Fin 12) (e : Fin 16) (d : BitVec 5) (k : BitVec 23), s.slotRuns c e (.call d k)) ∧
    (∃ (s : State) (c : Fin 12) (e : Fin 16) (d : BitVec 5) (a : BitVec 5) (k : BitVec 14), s.slotRuns c e (.jumpr d a k) ∧ ((s.eng
      c e).gpr a).toNat % 4 = 0) ∧
    (∃ (s : State) (c : Fin 12) (e : Fin 16) (d : BitVec 5) (a : BitVec 5) (k : BitVec 14), s.slotRuns c e (.jumpr d a k) ∧ ((s.eng
      c e).gpr a).toNat % 4 ≠ 0) ∧
    (∃ (s : State) (c : Fin 12) (e : Fin 16) (a : BitVec 5) (b : BitVec 5) (off : BitVec 15) (f : BrOp) (x : Word) (y : Word) (op :
      Fin 12 → Fin 16 → BitVec 5 → BitVec 5 → BitVec 15 → Instr) (taken : Prop), s.slotRuns c e (.br f a b off) ∧ (s.eng c e).gpr a
      = x ∧ (s.eng c e).gpr b = y ∧ ((op = .engBrEq ∧ f = .eq ∧ taken = (x = y)) ∨ (op = .engBrNe ∧ f = .ne ∧ taken = (x ≠ y)) ∨ (op
      = .engBrLt ∧ f = .lt ∧ taken = (x.toInt < y.toInt)) ∨ (op = .engBrGe ∧ f = .ge ∧ taken = (y.toInt ≤ x.toInt)) ∨ (op = .engBrLo
      ∧ f = .lo ∧ taken = (x.toNat < y.toNat)) ∨ (op = .engBrHs ∧ f = .hs ∧ taken = (y.toNat ≤ x.toNat)))) :=
  ⟨⟨(weng 1 (.sethi 3 0x3FFFF#18) (wgs 1#32 3#32)), 2, 5, 3, 0x3FFFF#18, slotRuns_of (by decide +kernel)⟩,
   ⟨(weng 1 (.call 3 0x7FFFF0#23) (wgs 1#32 3#32)), 2, 5, 3, 0x7FFFF0#23, slotRuns_of (by decide +kernel)⟩,
   ⟨(weng 1 (.jumpr 1 1 0x3FF0#14) (wgs 0x100#32 3#32)), 2, 5, 1, 1, 0x3FF0#14, slotRuns_of (by decide +kernel), by decide +kernel⟩,
   ⟨(weng 1 (.jumpr 1 1 0x3FF0#14) (wgs 0x102#32 3#32)), 2, 5, 1, 1, 0x3FF0#14, slotRuns_of (by decide +kernel), by decide +kernel⟩,
   ⟨(weng 1 (.br (.eq) 1 2 0x7FF0#15) (wgs 3#32 3#32)), 2, 5, 1, 2, 0x7FF0#15, (.eq), 3#32, 3#32, .engBrEq, True, slotRuns_of
      (by decide +kernel), by decide +kernel, by decide +kernel, Or.inl ⟨rfl, rfl, (eq_self _).symm⟩⟩⟩
end W20

/-! ### Witnesses: statements of file 21 -/

namespace W21
/-- A word's four bytes at an offset. -/
def wcells (o : Nat) (w : Word) : List Host.Cell :=
  ((List.range 4).map (fun k => (o + k, BitVec.ofNat 8 (w.toNat / 2 ^ (8 * k))))).filter (fun q => q.2 != 0#8)
/-- Slot 5 of cluster 2 runs a task, with an instruction at PC 0x40. -/
def weng (mode : Nat) (i : EngI) (x : EngSlot := {}) : State :=
  { wr [(Obj.clusterMode 2, mode), (Obj.trapLimit 2, 3)] with
    engine.slots := [(37, { x with running := true, pc := 0x40#32, text := wcells 0x40 i.word }), (38, { g := [(1, 1#32)] })] }
/-- Registers of the slot. -/
def wgs (x y : Word) : EngSlot := { g := [(1, x), (2, y), (3, 9#32)], csr := [(0x13, 8000#32)] }
/-- The slot's memories: data from 0x10000000, shared memory of cluster 2 from 0x20400000. -/
def wmemD : List Host.Cell := (List.range 40).map (fun k => (k, BitVec.ofNat 8 (0x85 + k)))
/-- Slot 5 of cluster 2 with its memories; cluster 2 is in partition 1. -/
def wmem (mode : Nat) (i : EngI) (x : EngSlot := {}) : State :=
  { weng mode i { x with data := wmemD } with
    regs := (wr [(Obj.clusterMode 2, mode), (Obj.trapLimit 2, 3), (Obj.firstCluster 1, 2), (Obj.clusterCount 1, 2)]).regs,
    engine.shared := [(2, wmemD)] }
/-- A system slot whose text the model does not list. -/
def wvend (x : EngSlot) : State :=
  { wr [(Obj.clusterMode 2, 0), (Obj.trapLimit 2, 3)] with engine.slots := [(37, { x with running := true, pc := 0x40#32 })] }
theorem witness_EngineLoadsStoresAndAtomicsMoveTheirBytes :
    (∃ (s : State) (c : Fin 12) (e : Fin 16) (r : BitVec 5) (base : BitVec 5) (disp : BitVec 14) (m : MemPort) (f : LdOp) (w : Nat)
      (a : Nat) (n : Nat) (v : Word) (op : Fin 12 → Fin 16 → BitVec 5 → BitVec 5 → BitVec 14 → MemPort → Instr), s.slotRuns c e (.ld
      f r base disp) ∧ a = (BitVec.ofInt 32 (((s.eng c e).gpr base).toInt + disp.toInt * w)).toNat ∧ n = leNat ((List.range w).map
      (fun k => s.engByte c e (a + k))) ∧ s.accessTrap c e a w .read m = none ∧ (0x10000 ≤ a ∨ (s.eng c e).text ≠ []) ∧ ((op =
      .engLdW ∧ f = .w ∧ w = 4 ∧ v = BitVec.ofNat 32 n) ∨ (op = .engLdH ∧ f = .h ∧ w = 2 ∧ v = BitVec.ofNat 32 (if n < 0x8000 then n
      else n + 0xFFFF0000)) ∨ (op = .engLdHu ∧ f = .hu ∧ w = 2 ∧ v = BitVec.ofNat 32 n) ∨ (op = .engLdB ∧ f = .b ∧ w = 1 ∧ v =
      BitVec.ofNat 32 (if n < 0x80 then n else n + 0xFFFFFF00)) ∨ (op = .engLdBu ∧ f = .bu ∧ w = 1 ∧ v = BitVec.ofNat 32 n))) ∧
    (∃ (s : State) (c : Fin 12) (e : Fin 16) (r : BitVec 5) (base : BitVec 5) (disp : BitVec 14) (m : MemPort) (f : LdOp) (w : Nat)
      (a : Nat) (op : Fin 12 → Fin 16 → BitVec 5 → BitVec 5 → BitVec 14 → MemPort → Instr), s.slotRuns c e (.ld f r base disp) ∧ a =
      (BitVec.ofInt 32 (((s.eng c e).gpr base).toInt + disp.toInt * w)).toNat ∧ s.accessTrap c e a w .read m = none ∧ a < 0x10000 ∧
      (s.eng c e).text = [] ∧ ((op = .engLdW ∧ f = .w ∧ w = 4) ∨ (op = .engLdH ∧ f = .h ∧ w = 2) ∨ (op = .engLdHu ∧ f = .hu ∧ w = 2)
      ∨ (op = .engLdB ∧ f = .b ∧ w = 1) ∨ (op = .engLdBu ∧ f = .bu ∧ w = 1))) ∧
    (∃ (s : State) (c : Fin 12) (e : Fin 16) (v : BitVec 3) (base : BitVec 5) (disp : BitVec 14) (m : MemPort) (a : Nat), s.slotRuns
      c e (.vld v base disp) ∧ a = (BitVec.ofInt 32 (((s.eng c e).gpr base).toInt + disp.toInt * 32)).toNat ∧ s.accessTrap c e a 32
      .read m = none ∧ a < 0x10000 ∧ (s.eng c e).text = []) ∧
    (∃ (s : State) (c : Fin 12) (e : Fin 16) (v : BitVec 3) (base : BitVec 5) (disp : BitVec 14) (m : MemPort) (a : Nat), s.slotRuns
      c e (.vld v base disp) ∧ a = (BitVec.ofInt 32 (((s.eng c e).gpr base).toInt + disp.toInt * 32)).toNat ∧ s.accessTrap c e a 32
      .read m = none ∧ (0x10000 ≤ a ∨ (s.eng c e).text ≠ [])) ∧
    (∃ (s : State) (c : Fin 12) (e : Fin 16) (r : BitVec 5) (base : BitVec 5) (disp : BitVec 14) (m : MemPort) (f : StOp) (w : Nat)
      (a : Nat) (op : Fin 12 → Fin 16 → BitVec 5 → BitVec 5 → BitVec 14 → MemPort → Instr), s.slotRuns c e (.st f r base disp) ∧ a =
      (BitVec.ofInt 32 (((s.eng c e).gpr base).toInt + disp.toInt * w)).toNat ∧ s.accessTrap c e a w .write m = none ∧ ((op =
      .engStW ∧ f = .w ∧ w = 4) ∨ (op = .engStH ∧ f = .h ∧ w = 2) ∨ (op = .engStB ∧ f = .b ∧ w = 1))) ∧
    (∃ (s : State) (c : Fin 12) (e : Fin 16) (v : BitVec 3) (base : BitVec 5) (disp : BitVec 14) (m : MemPort) (a : Nat), s.slotRuns
      c e (.vst v base disp) ∧ a = (BitVec.ofInt 32 (((s.eng c e).gpr base).toInt + disp.toInt * 32)).toNat ∧ s.accessTrap c e a 32
      .write m = none) ∧
    (∃ (s : State) (c : Fin 12) (e : Fin 16) (i : Instr) (j : EngI) (m : MemPort) (acc : EngAcc) (base : BitVec 5) (disp : BitVec
      14) (w : Nat) (a : Nat) (k : Nat), s.slotRuns c e j ∧ a = (BitVec.ofInt 32 (((s.eng c e).gpr base).toInt + disp.toInt *
      w)).toNat ∧ s.accessTrap c e a w acc m = some k ∧ ((∃ r, i = .engLdW c e r base disp m ∧ j = .ld .w r base disp ∧ w = 4 ∧ acc
      = .read) ∨ (∃ r, i = .engLdB c e r base disp m ∧ j = .ld .b r base disp ∧ w = 1 ∧ acc = .read) ∨ (∃ r, i = .engStW c e r base
      disp m ∧ j = .st .w r base disp ∧ w = 4 ∧ acc = .write) ∨ (∃ r, i = .engStH c e r base disp m ∧ j = .st .h r base disp ∧ w = 2
      ∧ acc = .write) ∨ (∃ v, i = .engVld c e v base disp m ∧ j = .vld v base disp ∧ w = 32 ∧ acc = .read) ∨ (∃ v, i = .engVst c e v
      base disp m ∧ j = .vst v base disp ∧ w = 32 ∧ acc = .write))) ∧
    (∃ (s : State) (c : Fin 12) (e : Fin 16) (d : BitVec 5) (a : BitVec 5) (b : BitVec 5) (m : MemPort) (f : AtomOp) (ad : Nat) (old
      : Word) (y : Word) (v : Word) (op : Fin 12 → Fin 16 → BitVec 5 → BitVec 5 → BitVec 5 → MemPort → Instr), s.slotRuns c e (.atom
      f d a b) ∧ ((s.eng c e).gpr a).toNat = ad ∧ s.accessTrap c e ad 4 .atom m = none ∧ old = BitVec.ofNat 32 (leNat ((List.range
      4).map (fun k => s.engByte c e (ad + k)))) ∧ (s.eng c e).gpr b = y ∧ ((op = .engAtomSwap ∧ f = .swap ∧ v = y) ∨ (op =
      .engAtomAdd ∧ f = .add ∧ v = BitVec.ofNat 32 (old.toNat + y.toNat)) ∨ (op = .engAtomAnd ∧ f = .and ∧ v = old &&& y) ∨ (op =
      .engAtomOr ∧ f = .or ∧ v = old ||| y) ∨ (op = .engAtomMin ∧ f = .min ∧ v = BitVec.ofInt 32 (min old.toInt y.toInt)) ∨ (op =
      .engAtomMax ∧ f = .max ∧ v = BitVec.ofInt 32 (max old.toInt y.toInt)))) :=
  ⟨⟨(wmem 1 (.ld (.w) 3 1 0x3FFF#14) (wgs 0x10000008#32 3#32)), 2, 5, 3, 1, 0x3FFF#14, {}, (.w), (4), ((BitVec.ofInt 32 (((((wmem 1
      (.ld (.w) 3 1 0x3FFF#14) (wgs 0x10000008#32 3#32)) : State).eng 2 5).gpr 1).toInt + (0x3FFF#14 : BitVec 14).toInt *
      (4))).toNat), (leNat ((List.range (4)).map (fun k => ((wmem 1 (.ld (.w) 3 1 0x3FFF#14) (wgs 0x10000008#32 3#32)) :
      State).engByte 2 5 (((BitVec.ofInt 32 (((((wmem 1 (.ld (.w) 3 1 0x3FFF#14) (wgs 0x10000008#32 3#32)) : State).eng 2 5).gpr
      1).toInt + (0x3FFF#14 : BitVec 14).toInt * (4))).toNat) + k)))), (BitVec.ofNat 32 (leNat ((List.range (4)).map (fun k =>
      ((wmem 1 (.ld (.w) 3 1 0x3FFF#14) (wgs 0x10000008#32 3#32)) : State).engByte 2 5 (((BitVec.ofInt 32 (((((wmem 1 (.ld (.w) 3 1
      0x3FFF#14) (wgs 0x10000008#32 3#32)) : State).eng 2 5).gpr 1).toInt + (0x3FFF#14 : BitVec 14).toInt * (4))).toNat) + k))))),
      .engLdW, slotRuns_of (by decide +kernel), by refine ⟨?_, ?_, ?_, ?_, Or.inl ⟨rfl, rfl, rfl, rfl⟩⟩ <;> decide +kernel⟩,
   ⟨(wvend (wgs 0x48#32 3#32)), 2, 5, 3, 1, 0x3FFF#14, {}, (.w), (4), ((BitVec.ofInt 32 (((((wvend (wgs 0x48#32 3#32)) : State).eng
      2 5).gpr 1).toInt + (0x3FFF#14 : BitVec 14).toInt * (4))).toNat), .engLdW, slotRuns_of (by decide +kernel),
      by refine ⟨?_, ?_, ?_, ?_, Or.inl ⟨rfl, rfl, rfl⟩⟩ <;> decide +kernel⟩,
   ⟨(wvend (wgs 0x40#32 3#32)), 2, 5, 3, 1, 0x3FFF#14, {}, ((BitVec.ofInt 32 (((((wvend (wgs 0x40#32 3#32)) : State).eng 2 5).gpr
      1).toInt + (0x3FFF#14 : BitVec 14).toInt * 32)).toNat), slotRuns_of (by decide +kernel), by and_intros <;> decide +kernel⟩,
   ⟨(wmem 1 (.vld 3 1 0x3FFF#14) (wgs 0x10000020#32 3#32)), 2, 5, 3, 1, 0x3FFF#14, {}, ((BitVec.ofInt 32 (((((wmem 1 (.vld 3 1
      0x3FFF#14) (wgs 0x10000020#32 3#32)) : State).eng 2 5).gpr 1).toInt + (0x3FFF#14 : BitVec 14).toInt * 32)).toNat), slotRuns_of
      (by decide +kernel), by and_intros <;> decide +kernel⟩,
   ⟨(wmem 1 (.st (.w) 2 1 0x3FFF#14) (wgs 0x10000010#32 0xA1B2C3D4#32)), 2, 5, 2, 1, 0x3FFF#14, {}, (.w), (4), ((BitVec.ofInt 32
      (((((wmem 1 (.st (.w) 2 1 0x3FFF#14) (wgs 0x10000010#32 0xA1B2C3D4#32)) : State).eng 2 5).gpr 1).toInt + (0x3FFF#14 : BitVec
      14).toInt * (4))).toNat), .engStW, slotRuns_of (by decide +kernel), by decide +kernel, by decide +kernel, Or.inl ⟨rfl, rfl,
      rfl⟩⟩,
   ⟨(wmem 0 (.vst 3 1 0x3FFF#14) { wgs 0x20400020#32 0#32 with v := [(24, 0x01020304#32), (31, 5#32)] }), 2, 5, 3, 1, 0x3FFF#14, {},
      ((BitVec.ofInt 32 (((((wmem 0 (.vst 3 1 0x3FFF#14) { wgs 0x20400020#32 0#32 with v := [(24, 0x01020304#32), (31, 5#32)] }) :
      State).eng 2 5).gpr 1).toInt + (0x3FFF#14 : BitVec 14).toInt * 32)).toNat), slotRuns_of (by decide +kernel),
      by and_intros <;> decide +kernel⟩,
   ⟨(wmem 1 (.ld .w 4 1 1#14) (wgs 0x10000011#32 0#32)), 2, 5, (.engLdW 2 5 4 1 1#14 {}), (.ld .w 4 1 1#14), {}, .read, 1, 1#14, 4,
      ((BitVec.ofInt 32 (((((wmem 1 (.ld .w 4 1 1#14) (wgs 0x10000011#32 0#32)) : State).eng 2 5).gpr 1).toInt + (1#14 : BitVec
      14).toInt * 4)).toNat), 3, slotRuns_of (by decide +kernel), by decide +kernel, by decide +kernel, Or.inl ⟨_, rfl, rfl, rfl,
      rfl⟩⟩,
   ⟨(wmem 1 (.atom (.swap) 3 1 2) (wgs 0x20400010#32 0xA1B2C3D4#32)), 2, 5, 3, 1, 2, {}, (.swap), (((((wmem 1 (.atom (.swap) 3 1 2)
      (wgs 0x20400010#32 0xA1B2C3D4#32)) : State).eng 2 5).gpr 1).toNat), (BitVec.ofNat 32 (leNat ((List.range 4).map (fun k =>
      ((wmem 1 (.atom (.swap) 3 1 2) (wgs 0x20400010#32 0xA1B2C3D4#32)) : State).engByte 2 5 ((((((wmem 1 (.atom (.swap) 3 1 2) (wgs
      0x20400010#32 0xA1B2C3D4#32)) : State).eng 2 5).gpr 1).toNat) + k))))), ((((wmem 1 (.atom (.swap) 3 1 2) (wgs 0x20400010#32
      0xA1B2C3D4#32)) : State).eng 2 5).gpr 2), (((((wmem 1 (.atom (.swap) 3 1 2) (wgs 0x20400010#32 0xA1B2C3D4#32)) : State).eng 2
      5).gpr 2)), .engAtomSwap, slotRuns_of (by decide +kernel),
      by refine ⟨?_, ?_, ?_, ?_, Or.inl ⟨rfl, rfl, rfl⟩⟩ <;> decide +kernel⟩⟩
theorem witness_VectorRowsPutTheirLanesInVd :
    (∃ (s : State) (c : Fin 12) (e : Fin 16) (vd : BitVec 3) (va : BitVec 3) (vb : BitVec 3) (f : ValuOp) (i : Instr) (re : Int → Int → Int → Int → Int → Int → Int) (im : Int → Int → Int → Int → Int → Int → Int), s.slotRuns c e (.valu f vd va vb 0) ∧ (let sat : Int → Int := fun x => max (-0x8000) (min 0x7FFF x); let rnd : Int → Int := fun x => sat ((x + 0x4000) / 0x8000); (i = .engVadd c e vd va vb ∧ f = .vadd ∧ (∀ dr di ar ai br bi, re dr di ar ai br bi = sat (ar + br) ∧ im dr di ar ai br bi = sat (ai + bi))) ∨ (i = .engVsub c e vd va vb ∧ f = .vsub ∧ (∀ dr di ar ai br bi, re dr di ar ai br bi = sat (ar - br) ∧ im dr di ar ai br bi = sat (ai - bi))) ∨ (i = .engVcmul c e vd va vb ∧ f = .vcmul ∧ (∀ dr di ar ai br bi, re dr di ar ai br bi = rnd (ar * br - ai * bi) ∧ im dr di ar ai br bi = rnd (ar * bi + ai * br))) ∨ (i = .engVcmulc c e vd va vb ∧ f = .vcmulc ∧ (∀ dr di ar ai br bi, re dr di ar ai br bi = rnd (ar * br + ai * bi) ∧ im dr di ar ai br bi = rnd (ai * br - ar * bi))) ∨ (i = .engVcmac c e vd va vb ∧ f = .vcmac ∧ (∀ dr di ar ai br bi, re dr di ar ai br bi = sat (dr + rnd (ar * br - ai * bi)) ∧ im dr di ar ai br bi = sat (di + rnd (ar * bi + ai * br)))) ∨ (i = .engVmag2 c e vd va ∧ vb = 0 ∧ f = .vmag2 ∧ (∀ dr di ar ai br bi, re dr di ar ai br bi = rnd (ar * ar + ai * ai) ∧ im dr di ar ai br bi = 0)) ∨ (i = .engVmaga c e vd va ∧ vb = 0 ∧ f = .vmaga ∧ (∀ dr di ar ai br bi, re dr di ar ai br bi = sat (dr + rnd (ar * ar + ai * ai)) ∧ im dr di ar ai br bi = di)) ∨ (i = .engVconj c e vd va ∧ vb = 0 ∧ f = .vconj ∧ (∀ dr di ar ai br bi, re dr di ar ai br bi = ar ∧ im dr di ar ai br bi = -ai)))) ∧
    (∃ (s : State) (c : Fin 12) (e : Fin 16) (vd : BitVec 3) (va : BitVec 3) (sh : BitVec 4), s.slotRuns c e (.valu .vshr vd va 0
      sh)) ∧
    (∃ (s : State) (c : Fin 12) (e : Fin 16) (vd : BitVec 3) (a : BitVec 5), s.slotRuns c e (.vbcast vd a 0)) ∧
    (∃ (s : State) (c : Fin 12) (e : Fin 16) (vd : BitVec 3) (a : BitVec 5) (k : BitVec 3), s.slotRuns c e (.vins vd a 0 k)) ∧
    (∃ (s : State) (c : Fin 12) (e : Fin 16) (d : BitVec 5) (va : BitVec 3) (k : BitVec 3), s.slotRuns c e (.vext d va 0 k)) ∧
    (∃ (s : State) (c : Fin 12) (e : Fin 16) (d : BitVec 5) (va : BitVec 3) (im : Bool) (i : Instr), s.slotRuns c e (.vsum im d va
      0) ∧ ((i = .engVsumr c e d va ∧ im = false) ∨ (i = .engVsumi c e d va ∧ im = true))) :=
  ⟨⟨(wmem 1 (.valu .vadd 3 4 5 0) { wgs 0#32 0#32 with v := [(24, 0x7FF07FF0#32), (25, 0x00100020#32), (32, 0x81027304#32), (33, 0x80008000#32), (39, 0xFFFF8001#32), (40, 0x7FFF8000#32), (41, 0x80008000#32), (47, 0x1234F001#32)] }), 2, 5, 3, 4, 5, .vadd, (.engVadd 2 5 3 4 5), (fun dr di ar ai br bi => let sat : Int → Int := fun x => max (-0x8000) (min 0x7FFF x); let rnd : Int → Int := fun x => sat ((x + 0x4000) / 0x8000);  sat (ar + br)), (fun dr di ar ai br bi => let sat : Int → Int := fun x => max (-0x8000) (min 0x7FFF x); let rnd : Int → Int := fun x => sat ((x + 0x4000) / 0x8000);  sat (ai + bi)), slotRuns_of (by decide +kernel), Or.inl ⟨rfl, rfl, fun _ _ _ _ _ _ => ⟨rfl, rfl⟩⟩⟩,
   ⟨(wmem 1 (.valu .vshr 3 4 0 3#4) { wgs 0#32 0#32 with v := [(32, 0x81020304#32), (39, 0xFFFF8001#32)] }), 2, 5, 3, 4, 3#4,
      slotRuns_of (by decide +kernel)⟩,
   ⟨(wmem 1 (.vbcast 3 1 0) (wgs 0xABCD#32 0#32)), 2, 5, 3, 1, slotRuns_of (by decide +kernel)⟩,
   ⟨(wmem 1 (.vins 3 1 0 5) { wgs 0xABCD#32 0#32 with v := [(24, 0x81020304#32)] }), 2, 5, 3, 1, 5, slotRuns_of
      (by decide +kernel)⟩,
   ⟨(wmem 1 (.vext 3 4 0 5) { wgs 0xABCD#32 0#32 with v := [(37, 0x81020304#32)] }), 2, 5, 3, 4, 5, slotRuns_of
      (by decide +kernel)⟩,
   ⟨(wmem 1 (.vsum (false) 3 4 0) { wgs 0xABCD#32 0#32 with v := [(37, 0x81020304#32), (36, 0xFFFF8001#32)] }), 2, 5, 3, 4, (false),
      (.engVsumr 2 5 3 4), slotRuns_of (by decide +kernel), Or.inl ⟨rfl, rfl⟩⟩⟩
end W21

/-! ### Witnesses: statements of file 22 -/

namespace W22
/-- A word's four bytes at an offset. -/
def wcells (o : Nat) (w : Word) : List Host.Cell :=
  ((List.range 4).map (fun k => (o + k, BitVec.ofNat 8 (w.toNat / 2 ^ (8 * k))))).filter (fun q => q.2 != 0#8)
/-- Slot 5 of cluster 2 runs a task, with an instruction at PC 0x40. -/
def weng (mode : Nat) (i : EngI) (x : EngSlot := {}) : State :=
  { wr [(Obj.clusterMode 2, mode), (Obj.trapLimit 2, 3)] with
    engine.slots := [(37, { x with running := true, pc := 0x40#32, text := wcells 0x40 i.word }), (38, { g := [(1, 1#32)] })] }
/-- Registers of the slot. -/
def wgs (x y : Word) : EngSlot := { g := [(1, x), (2, y), (3, 9#32)], csr := [(0x13, 8000#32)] }
/-- The slot's memories: data from 0x10000000, shared memory of cluster 2 from 0x20400000. -/
def wmemD : List Host.Cell := (List.range 40).map (fun k => (k, BitVec.ofNat 8 (0x85 + k)))
/-- Slot 5 of cluster 2 with its memories; cluster 2 is in partition 1. -/
def wmem (mode : Nat) (i : EngI) (x : EngSlot := {}) : State :=
  { weng mode i { x with data := wmemD } with
    regs := (wr [(Obj.clusterMode 2, mode), (Obj.trapLimit 2, 3), (Obj.firstCluster 1, 2), (Obj.clusterCount 1, 2)]).regs,
    engine.shared := [(2, wmemD)] }
/-- An image of 8 bytes of instructions and 4 of data in the image buffer. -/
def wimg : List Host.Cell :=
  let body : List Byte := leBytes 4 (EngI.nop.word.toNat) ++ leBytes 4 (EngI.tend.word.toNat) ++ leBytes 4 0x01020304
  let head := leBytes 4 0x4B5A4931 ++ leBytes 4 1 ++ leBytes 4 8 ++ leBytes 4 4 ++ leBytes 4 4 ++ leBytes 4 700 ++
    leBytes 4 (crc32 body) ++ List.replicate 36 0#8
  ((head ++ body).zipIdx.map (fun q => (imageBuffer + q.2, q.1))).filter (fun q => q.2 != 0#8)
/-- The slot with messages or outputs, and a state with a message to it. -/
def wg4 : EngSlot := { wgs 0x4010#32 0x10000004#32 with moor := [(1, [(0, 2, [7#32, 8#32]), (0, 9, [1#32])])], out := [(16, [5#32])] }
theorem witness_MooringsSendReceiveAndWait :
    (∃ (s : State) (c : Fin 12) (e : Fin 16) (d : BitVec 5) (a : BitVec 5) (b : BitVec 5) (n : BitVec 3) (m : MemPort) (from_ : Nat)
      (dst : Nat) (at_ : Nat) (ws : List Word), s.slotRuns c e (.msend d a b n) ∧ ((s.eng c e).gpr b).toNat = from_ ∧ ((s.eng c
      e).gpr a).toNat = dst ∧ from_ % 4 = 0 ∧ 0x10000000 ≤ from_ ∧ from_ + 4 * (n.toNat + 1) ≤ 0x10020000 ∧ m.uncorrectable = false
      ∧ s.engLost c e from_ (4 * (n.toNat + 1)) = false ∧ s.destTrap c ((s.eng c e).gpr a) = none ∧ dst < 0x4000 ∧ s.moorFill dst <
      16 ∧ ws = (List.range (n.toNat + 1)).map (fun k => BitVec.ofNat 32 (s.engRead c e (from_ + 4 * k) 4)) ∧ at_ = s.issueCycle c e
      (.msend d a b n) + (if dst / 1024 = c.val then 2 else 10)) ∧
    (∃ (s : State) (c : Fin 12) (e : Fin 16) (d : BitVec 5) (a : BitVec 5) (b : BitVec 5) (n : BitVec 3) (m : MemPort) (from_ : Nat)
      (dst : Nat), s.slotRuns c e (.msend d a b n) ∧ ((s.eng c e).gpr b).toNat = from_ ∧ ((s.eng c e).gpr a).toNat = dst ∧ from_ % 4
      = 0 ∧ 0x10000000 ≤ from_ ∧ from_ + 4 * (n.toNat + 1) ≤ 0x10020000 ∧ m.uncorrectable = false ∧ s.engLost c e from_ (4 *
      (n.toNat + 1)) = false ∧ s.destTrap c ((s.eng c e).gpr a) = none ∧ dst < 0x4000 ∧ 16 ≤ s.moorFill dst) ∧
    (∃ (s : State) (c : Fin 12) (e : Fin 16) (d : BitVec 5) (a : BitVec 5) (k : BitVec 2), s.slotRuns c e (.mrecv d a k) ∧ (s.eng c
      e).messages k.toNat (s.eng c e).tick (s.issueCycle c e (.mrecv d a k)) = []) ∧
    (∃ (s : State) (c : Fin 12) (e : Fin 16) (d : BitVec 5) (a : BitVec 5) (k : BitVec 2) (dst : Nat) (q : Nat × Nat × List Word)
      (rest : List (Nat × Nat × List Word)), s.slotRuns c e (.mrecv d a k) ∧ ((s.eng c e).gpr a).toNat = dst ∧ dst % 4 = 0 ∧
      0x10000000 ≤ dst ∧ dst + 4 * q.2.2.length ≤ 0x10020000 ∧ 0 < q.2.2.length ∧ (s.eng c e).messages k.toNat (s.eng c e).tick
      (s.issueCycle c e (.mrecv d a k)) = q :: rest ∧ s.mrecvLost c e k.toNat q = none) ∧
    (∃ (s : State) (c : Fin 12) (e : Fin 16) (d : BitVec 5) (a : BitVec 5) (k : BitVec 2) (dst : Nat) (b : Nat) (q : Nat × Nat ×
      List Word) (rest : List (Nat × Nat × List Word)), s.slotRuns c e (.mrecv d a k) ∧ ((s.eng c e).gpr a).toNat = dst ∧ dst % 4 =
      0 ∧ 0x10000000 ≤ dst ∧ dst + 4 * q.2.2.length ≤ 0x10020000 ∧ 0 < q.2.2.length ∧ (s.eng c e).messages k.toNat (s.eng c e).tick
      (s.issueCycle c e (.mrecv d a k)) = q :: rest ∧ s.mrecvLost c e k.toNat q = some b) ∧
    (∃ (s : State) (c : Fin 12) (e : Fin 16) (d : BitVec 5) (mask : BitVec 4) (held : Nat), s.slotRuns c e (.mwait d mask) ∧ held =
      (s.eng c e).moorMask (s.issueCycle c e (.mwait d mask)) ∧ (held &&& mask.toNat ≠ 0 ∨ ((s.eng c e).cs 0x013).toNat ≤
      s.issueCycle c e (.mwait d mask))) ∧
    (∃ (s : State) (c : Fin 12) (e : Fin 16) (d : BitVec 5) (mask : BitVec 4), s.slotRuns c e (.mwait d mask) ∧ (s.eng c e).moorMask
      (s.issueCycle c e (.mwait d mask)) &&& mask.toNat = 0 ∧ s.issueCycle c e (.mwait d mask) < ((s.eng c e).cs 0x013).toNat) ∧
    (∃ (s : State) (c : Fin 12) (e : Fin 16) (d : BitVec 5) (mask : BitVec 4) (k : Nat) (cyc : Nat) (ws : List Word), (s.eng c
      e).waiting = some (d, mask) ∧ (s.eng c e).running = true ∧ k < 4 ∧ mask.getLsbD k = true ∧ (s.eng c e).moor = [(k, [((s.eng c
      e).tick, cyc, ws)])] ∧ (s.eng c e).cycle < cyc ∧ cyc < 9000 ∧ cyc ≤ ((s.eng c e).cs 0x013).toNat) ∧
    (∃ (s : State) (c : Fin 12) (e : Fin 16) (d : BitVec 5) (mask : BitVec 4), (s.eng c e).waiting = some (d, mask) ∧ (s.eng c
      e).running = true ∧ (s.eng c e).moor = [] ∧ (s.eng c e).cycle < ((s.eng c e).cs 0x013).toNat ∧ ((s.eng c e).cs 0x013).toNat <
      9000) ∧
    (∃ (s : State) (c : Fin 12) (e : Fin 16) (dest : BitVec 16) (m : EngMsg) (rest : List EngMsg), s.engine.transit = m :: rest ∧
      m.src = 16 * c.val + e.val ∧ m.dest = dest.toNat ∧ m.dest < 0x4000) ∧
    (∃ (s : State) (c : Fin 12) (e : Fin 16) (dest : BitVec 16) (m : EngMsg) (rest : List EngMsg), s.engine.transit = m :: rest ∧
      m.src = 16 * c.val + e.val ∧ m.dest = dest.toNat ∧ 0x4000 ≤ m.dest ∧ m.dest < 0x8000) ∧
    (∃ (s : State) (m : EngMsg), s.engine.gathered ++ s.engine.transit.filter EngMsg.isOutput = [m] ∧ 0x4000 ≤ m.dest ∧ m.dest <
      0x4010) ∧
    (∃ (s : State) (m : EngMsg), s.engine.gathered ++ s.engine.transit.filter EngMsg.isOutput = [m] ∧ 0x4010 ≤ m.dest ∧ m.dest <
      0x4014) ∧
    (∃ (s : State) (c : Fin 12) (e : Fin 16) (dest : BitVec 16), (∀ m ∈ s.engine.transit, m.dest ≠ dest.toNat)) :=
  ⟨⟨(wmem 1 (.msend 3 1 2 1) (wgs 0x0D41#32 0x10000004#32)), 2, 5, 3, 1, 2, 1, {}, (((((wmem 1 (.msend 3 1 2 1) (wgs 0x0D41#32
      0x10000004#32)) : State).eng 2 5).gpr 2).toNat), (((((wmem 1 (.msend 3 1 2 1) (wgs 0x0D41#32 0x10000004#32)) : State).eng 2
      5).gpr 1).toNat), (((wmem 1 (.msend 3 1 2 1) (wgs 0x0D41#32 0x10000004#32)) : State).issueCycle 2 5 (.msend 3 1 2 1) + (if
      (((((wmem 1 (.msend 3 1 2 1) (wgs 0x0D41#32 0x10000004#32)) : State).eng 2 5).gpr 1).toNat) / 1024 = (2 : Fin 12).val then 2
      else 10)), ((List.range ((1 : BitVec 3).toNat + 1)).map (fun k => BitVec.ofNat 32 (((wmem 1 (.msend 3 1 2 1) (wgs 0x0D41#32
      0x10000004#32)) : State).engRead 2 5 ((((((wmem 1 (.msend 3 1 2 1) (wgs 0x0D41#32 0x10000004#32)) : State).eng 2 5).gpr
      2).toNat) + 4 * k) 4))), slotRuns_of (by decide +kernel), by and_intros <;> decide +kernel⟩,
   ⟨{ wmem 1 (.msend 3 1 2 1) (wgs 0x0941#32 0x10000004#32) with engine.transit := List.replicate 16 ⟨1, 0x941, [], 0, 0, 0⟩ }, 2,
      5, 3, 1, 2, 1, {},
      (((({ wmem 1 (.msend 3 1 2 1) (wgs 0x0941#32 0x10000004#32) with engine.transit := List.replicate 16 ⟨1, 0x941, [], 0, 0, 0⟩ }
      : State).eng 2 5).gpr 2).toNat),
      (((({ wmem 1 (.msend 3 1 2 1) (wgs 0x0941#32 0x10000004#32) with engine.transit := List.replicate 16 ⟨1, 0x941, [], 0, 0, 0⟩ }
      : State).eng 2 5).gpr 1).toNat), slotRuns_of (by decide +kernel), by and_intros <;> decide +kernel⟩,
   ⟨(wmem 1 (.mrecv 3 1 2) (wgs 0x10000008#32 0x10000004#32)), 2, 5, 3, 1, 2, slotRuns_of (by decide +kernel), by decide +kernel⟩,
   ⟨(wmem 1 (.mrecv 3 2 1) { wg4 with cycle := 4 }), 2, 5, 3, 2, 1, (((((wmem 1 (.mrecv 3 2 1) { wg4 with cycle := 4 }) : State).eng
      2 5).gpr 2).toNat), (0, 2, [7#32, 8#32]), [], slotRuns_of (by decide +kernel), by and_intros <;> decide +kernel⟩,
   ⟨{ wmem 1 (.mrecv 3 2 1) { wg4 with cycle := 4 } with integ.lostBytes := [(2, 0x170203)] }, 2, 5, 3, 2, 1,
      (((({ wmem 1 (.mrecv 3 2 1) { wg4 with cycle := 4 } with integ.lostBytes := [(2, 0x170203)] } : State).eng 2 5).gpr 2).toNat),
      0x170203, (0, 2, [7#32, 8#32]), [], slotRuns_of (by decide +kernel), by and_intros <;> decide +kernel⟩,
   ⟨(wmem 1 (.mwait 3 2) { wg4 with cycle := 4 }), 2, 5, 3, 2, ((((wmem 1 (.mwait 3 2) { wg4 with cycle := 4 }) : State).eng 2
      5).moorMask (((wmem 1 (.mwait 3 2) { wg4 with cycle := 4 }) : State).issueCycle 2 5 (.mwait 3 2))), slotRuns_of
      (by decide +kernel), by and_intros <;> decide +kernel⟩,
   ⟨(wmem 1 (.mwait 3 1) { wg4 with cycle := 85 }), 2, 5, 3, 1, slotRuns_of (by decide +kernel), by and_intros <;> decide +kernel⟩,
   ⟨(wmem 1 (.mwait 3 2) { wgs 0#32 0#32 with waiting := some (3, 2), moor := [(1, [(0, 50, [7#32])])] }), 2, 5, 3, 2, 1, 50,
      [7#32], by and_intros <;> decide +kernel⟩,
   ⟨(wmem 1 (.mwait 3 2) { wgs 0#32 0#32 with waiting := some (3, 2) }), 2, 5, 3, 2, by and_intros <;> decide +kernel⟩,
   ⟨{ wmem 1 .nop {} with engine.transit := [⟨37, 0x941, [4#32], 3, 3, 9⟩, ⟨37, 0x941, [5#32], 3, 3, 9⟩] }, 2, 5, 0x941, ⟨37, 0x941,
      [4#32], 3, 3, 9⟩, [⟨37, 0x941, [5#32], 3, 3, 9⟩], by and_intros <;> decide +kernel⟩,
   ⟨{ wmem 1 .nop {} with engine.transit := [⟨37, 0x4005, [4#32], 3, 3, 9⟩, ⟨37, 0x941, [5#32], 3, 3, 9⟩] }, 2, 5, 0x4005, ⟨37,
      0x4005, [4#32], 3, 3, 9⟩, [⟨37, 0x941, [5#32], 3, 3, 9⟩], by and_intros <;> decide +kernel⟩,
   ⟨{ w0 with engine.gathered := [⟨37, 0x4005, [4#32], 3, 3, 9⟩], engine.hubIn := [(1, [2])] }, ⟨37, 0x4005, [4#32], 3, 3, 9⟩,
      by and_intros <;> decide +kernel⟩,
   ⟨{ w0 with engine.gathered := [⟨37, 0x4011, [4#32], 3, 3, 9⟩] }, ⟨37, 0x4011, [4#32], 3, 3, 9⟩,
      by and_intros <;> decide +kernel⟩,
   ⟨w0, 2, 5, 0x941, by decide +kernel⟩⟩
theorem witness_CsrRowsReadAndWriteTheirRegister :
    (∃ (s : State) (c : Fin 12) (e : Fin 16) (d : BitVec 5) (a : BitVec 5) (csr : BitVec 12) (w : Bool), s.slotRuns c e (.xcs .r d a
      csr) ∧ s.csrAccess c csr.toNat = some (true, w) ∧ (csr.toNat < 0x100 ∨ 0x120 ≤ csr.toNat) ∧ csr ≠ 0x130) ∧
    (∃ (s : State) (c : Fin 12) (e : Fin 16) (d : BitVec 5) (a : BitVec 5) (w : Bool), s.slotRuns c e (.xcs .r d a 0x100) ∧
      s.csrAccess c 0x100 = some (true, w) ∧ (s.eng c e).preset = []) ∧
    (∃ (s : State) (c : Fin 12) (e : Fin 16) (d : BitVec 5) (a : BitVec 5) (csr : BitVec 12) (f : XcsOp) (x : Word) (old : Word) (v
      : Word) (op : Fin 12 → Fin 16 → BitVec 5 → BitVec 5 → BitVec 12 → Instr), s.slotRuns c e (.xcs f d a csr) ∧ s.csrAccess c
      csr.toNat = some (true, true) ∧ (csr = 6 ∨ 0x800 ≤ csr.toNat) ∧ (s.eng c e).gpr a = x ∧ (s.eng c e).cs csr.toNat = old ∧ ((op
      = .engXcsW ∧ f = .w ∧ v = x) ∨ (op = .engXcsOr ∧ f = .or ∧ v = old ||| x) ∨ (op = .engXcsAndn ∧ f = .andn ∧ v = old &&&
      ~~~x))) ∧
    (∃ (s : State) (c : Fin 12) (e : Fin 16) (d : BitVec 5) (a : BitVec 5) (csr : BitVec 12) (f : XcsOp) (op : Fin 12 → Fin 16 →
      BitVec 5 → BitVec 5 → BitVec 12 → Instr), s.slotRuns c e (.xcs f d a csr) ∧ ((op = .engXcsR ∧ f = .r) ∨ (op = .engXcsW ∧ f =
      .w) ∨ (op = .engXcsOr ∧ f = .or) ∨ (op = .engXcsAndn ∧ f = .andn))) :=
  ⟨⟨(wmem 1 (.xcs .r 3 0 6) { wgs 0#32 0#32 with csr := [(6, 3#32)] }), 2, 5, 3, 0, 6, true, slotRuns_of (by decide +kernel),
      by and_intros <;> decide +kernel⟩,
   ⟨(wr [(ctrKey 2 5 0, 2 ^ 33 + 7)] (wmem 0 (.xcs .r 3 0 0x100) { wgs 0#32 0#32 with cycle := 5, used := 1 })), 2, 5, 3, 0, true,
      slotRuns_of (by decide +kernel), by and_intros <;> decide +kernel⟩,
   ⟨(wmem 1 (.xcs (.w) 3 1 6) { wgs 0xFFFFFFFE#32 0#32 with csr := [(6, 3#32)] }), 2, 5, 3, 1, 6, (.w), ((((wmem 1 (.xcs (.w) 3 1 6)
      { wgs 0xFFFFFFFE#32 0#32 with csr := [(6, 3#32)] }) : State).eng 2 5).gpr 1), ((((wmem 1 (.xcs (.w) 3 1 6)
      { wgs 0xFFFFFFFE#32 0#32 with csr := [(6, 3#32)] }) : State).eng 2 5).cs (6 : BitVec 12).toNat), (((((wmem 1 (.xcs (.w) 3 1 6)
      { wgs 0xFFFFFFFE#32 0#32 with csr := [(6, 3#32)] }) : State).eng 2 5).gpr 1)), .engXcsW, slotRuns_of (by decide +kernel),
      by refine ⟨?_, ?_, ?_, ?_, Or.inl ⟨rfl, rfl, rfl⟩⟩ <;> decide +kernel⟩,
   ⟨(wmem 1 (.xcs (.r) 3 1 7) { wgs 0xFFFFFFFE#32 0#32 with csr := [(6, 3#32)] }), 2, 5, 3, 1, 7, (.r), .engXcsR, slotRuns_of
      (by decide +kernel), Or.inl ⟨rfl, rfl⟩⟩⟩
theorem witness_TasksGoOnTrapAndEnd :
    (∃ (s : State) (c : Fin 12) (e : Fin 16), s.slotRuns c e .nop) ∧
    (∃ (s : State) (c : Fin 12) (e : Fin 16) (wait : Nat), s.slotRuns c e .fence) ∧
    (∃ (s : State) (c : Fin 12) (e : Fin 16), s.slotRuns c e .tend) ∧
    (∃ (s : State) (c : Fin 12) (e : Fin 16) (code : BitVec 6), s.slotRuns c e (.trap code) ∧ s.crew c = true) ∧
    (∃ (s : State) (c : Fin 12) (e : Fin 16) (code : BitVec 6), s.slotRuns c e (.trap code) ∧ s.crew c = false ∧ ((s.eng c e).cs
      0).getLsbD 1 = false) ∧
    (∃ (s : State) (c : Fin 12) (e : Fin 16) (code : BitVec 6), s.slotRuns c e (.trap code) ∧ s.crew c = false ∧ ((s.eng c e).cs
      0).getLsbD 1 = true) ∧
    (∃ (s : State) (c : Fin 12) (e : Fin 16), s.slotRuns c e .resume ∧ s.crew c = false) ∧
    (∃ (s : State) (c : Fin 12) (e : Fin 16), s.slotRuns c e .halt ∧ s.crew c = false) ∧
    (∃ (s : State) (c : Fin 12) (e : Fin 16) (i : Instr) (j : EngI), s.slotRuns c e j ∧ s.crew c = true ∧ ((i = .engResume c e ∧ j =
      .resume) ∨ (i = .engHalt c e ∧ j = .halt))) ∧
    (∃ (s : State) (c : Fin 12) (e : Fin 16), s.crew c = true ∧ (s.eng c e).active = true ∧ (s.eng c e).pc.toNat < 0x10000 ∧
      s.engLost c e (s.eng c e).pc.toNat 4 = false ∧ engDecode (s.engFetch c e) = none ∧ s.issueCycle c e .nop < 9000) ∧
    (∃ (s : State) (c : Fin 12) (e : Fin 16), (s.eng c e).active = true ∧ s.issueCycle c e .nop < 9000 ∧ (0x10000 ≤ (s.eng c
      e).pc.toNat ∨ s.engLost c e (s.eng c e).pc.toNat 4 = true)) ∧
    (∃ (s : State) (c : Fin 12) (e : Fin 16), (s.eng c e).active = false) ∧
    (∃ (s : State) (c : Fin 12) (e : Fin 16), (s.eng c e).running = true) ∧
    (∃ (s : State) (c : Fin 12) (e : Fin 16), (s.eng c e).running = false) :=
  ⟨⟨(wmem 1 .nop (wgs 0#32 0#32)), 2, 5, slotRuns_of (by decide +kernel)⟩,
   ⟨(wmem 1 .fence (wgs 0#32 0#32)), 2, 5, 44, slotRuns_of (by decide +kernel)⟩,
   ⟨(wmem 1 .tend { wg4 with trapRun := 2, overRun := 1 }), 2, 5, slotRuns_of (by decide +kernel)⟩,
   ⟨(wr [(Obj.engSlotState 2 5, 2)] (wmem 1 (.trap 9) { wg4 with trapRun := 2, overRun := 1 })), 2, 5, 9, slotRuns_of
      (by decide +kernel), by decide +kernel⟩,
   ⟨(wr [(Obj.engSlotState 2 5, 2)] (wmem 0 (.trap 9) { wg4 with csr := [(4, 0x500#32)] })), 2, 5, 9, slotRuns_of
      (by decide +kernel), by and_intros <;> decide +kernel⟩,
   ⟨(wr [(Obj.engSlotState 2 5, 2)] (wmem 0 (.trap 9) { wg4 with csr := [(0, 2#32), (4, 0x500#32)] })), 2, 5, 9, slotRuns_of
      (by decide +kernel), by and_intros <;> decide +kernel⟩,
   ⟨(wmem 0 .resume { wg4 with csr := [(0, 2#32), (2, 0x520#32), (4, 0x500#32)] }), 2, 5, slotRuns_of (by decide +kernel),
      by decide +kernel⟩,
   ⟨(wmem 0 .halt wg4), 2, 5, slotRuns_of (by decide +kernel), by decide +kernel⟩,
   ⟨(wmem 1 .halt wg4), 2, 5, (.engHalt 2 5), .halt, slotRuns_of (by decide +kernel), by decide +kernel, Or.inr (⟨rfl, rfl⟩)⟩,
   ⟨{ wmem 1 .nop {} with engine.slots := [(37, { running := true, pc := 0x44#32 })] }, 2, 5, by and_intros <;> decide +kernel⟩,
   ⟨{ wmem 1 .nop {} with engine.slots := [(37, { wg4 with running := true, pc := 0x10000#32 })] }, 2, 5,
      by and_intros <;> decide +kernel⟩,
   ⟨w0, 2, 5, by decide +kernel⟩,
   ⟨(wr [(Obj.engSlotState 2 5, 2)] (wmem 1 .nop { wg4 with overRun := 2 })), 2, 5, by decide +kernel⟩,
   ⟨w0, 2, 5, by decide +kernel⟩⟩
theorem witness_EngineLoadsCheckTheirImage :
    (∃ (s : State) (c : Fin 12) (at_ : Nat), s.rdN (Obj.loadState c) = 1 ∧ s.imageFault = some at_) ∧
    (∃ (s : State) (c : Fin 12) (e : Fin 16), s.rdN (Obj.loadState c) = 1 ∧ s.imageFault = none ∧ tget (fun _ => 0) s.engine.loading
      c = 2 ^ e.val) ∧
    (∃ (s : State) (c : Fin 12), s.rdN (Obj.loadState c) ≠ 1) :=
  ⟨⟨(wr [(Obj.loadState 2, 1)]), 2, 0, by and_intros <;> decide +kernel⟩,
   ⟨{ wr [(Obj.loadState 2, 1)] (wmem 1 .nop wg4) with agent.bar2 := wimg, engine.loading := [(2, 32)] }, 2, 5,
      by and_intros <;> decide +kernel⟩,
   ⟨w0, 2, by decide +kernel⟩⟩
end W22

/-! ### Witnesses: statements of file 25 -/

namespace W25
/-- The agent serves. -/
def wsv (l : List (Nat × Nat) := []) : State := { wr l with agent.serving := true }
/-- A commit in progress. -/
def wc : Commit := { cause := 1, clean := false, bytes := [1], bank := 1, slot := 3 }

/-- A SECURE session 3 is open, and the fused key is known. -/
def wss (l : List (Nat × Nat) := []) : State :=
  { wr l with agent.serving := true, agent.sessions := [(3, { isOpen := true, level := 3 })], key.fusedKek := List.replicate 32 0#8 }
/-- The row of an entry. -/
def wrow (idx sub : Nat) : Row :=
  if sub = 0 then ⟨0, 0, .u8, .ro, false, (entryCount idx : Int), .any⟩
  else ((rowsOf idx).filter (fun r => r.lo ≤ sub && sub ≤ r.hi)).headD ⟨0, 0, .u8, .ro, false, 0, .any⟩
theorem credential_witness :
    ∃ (s : State) (sess : Fin 17) (seq n id level : Nat) (words : List Nat) (secret : List Byte),
    s.admits (.credential sess seq words) n false ∧ s.credentialOf n = some (id, level, secret) :=
  ⟨wss, 3, 3, wcred, 5, 2, bodyOf (beBytes 48 wcred), List.replicate 32 9#8,
   ⟨3, 3, Obj.credential, bodyOf (beBytes 48 wcred), wrow 0x1410 7, rfl, takes_of (by decide +kernel), by rfl, by decide +kernel,
    tail_credential _ _ (by decide +kernel) (by decide +kernel) (by decide +kernel), by decide +kernel⟩, credential_of _ (by decide +kernel)⟩
theorem witness_HubWritesActAtOnce :
    (∃ (s : State) (sess : Fin 17) (seq : Nat) (n : Nat) (c : Commit), s.admits (.commitNow sess seq n) 1 false ∧ s.start.started =
      true ∧ s.start.commit = some c ∧ s.start.nextCommit = none) ∧
    (∃ (s : State) (sess : Fin 17) (seq : Nat) (n : Nat) (v : Int), s.admits (.commitNow sess seq n) v false ∧ s.start.started =
      true ∧ s.start.commit = none) ∧
    (∃ (s : State) (sess : Fin 17) (seq : Nat) (n : Nat) (v : Int) (c : Commit), s.admits (.assayWhenWrite sess seq n) v false ∧
      s.start.started = true ∧ s.start.commit = some c ∧ s.start.nextCommit = none) ∧
    (∃ (s : State) (sess : Fin 17) (seq : Nat) (n : Nat) (v : Int), s.admits (.shutdown sess seq n) v false) ∧
    (∃ (s : State) (sess : Fin 17) (seq : Nat) (n : Nat) (v : Int), s.admits (.firmwareLoad sess seq n) v false) ∧
    (∃ (s : State) (sess : Fin 17) (seq : Nat) (n : Nat) (v : Int) (o : Fin 11), (o = 6 ∨ o = 8) ∧ s.admits (.abortOp sess seq o n)
      v false) ∧
    (∃ (s : State) (sess : Fin 17) (seq : Nat) (n : Nat) (v : Int), s.admits (.abortOp sess seq 1 n) v false) ∧
    (∃ (s : State) (sess : Fin 17) (seq : Nat) (n : Nat) (v : Int) (o : Fin 11) (r : Fin 4), o.val = 2 + r.val ∧ s.admits (.abortOp
      sess seq o n) v false) ∧
    (∃ (s : State) (sess : Fin 17) (seq : Nat) (n : Nat) (v : Int), s.admits (.abortOp sess seq 10 n) v false) ∧
    (∃ (s : State) (sess : Fin 17) (seq n id level : Nat) (words : List Nat) (secret : List Byte),
    s.admits (.credential sess seq words) n false ∧ s.credentialOf n = some (id, level, secret)) ∧
    (∃ (s : State) (sess : Fin 17) (seq : Nat) (id : Nat), s.admits (.credentialErase sess seq id) id false) ∧
    (∃ (s : State) (sess : Fin 17) (seq : Nat) (sub : Nat) (v : Int) (words : List Nat), 3 ≤ sub ∧ sub ≤ 6 ∧ s.agent.addrChange = []
      ∧ s.admits (.mgmtAddressChange sess seq sub words) v false) ∧
    (∃ (s : State) (sess : Fin 17) (seq : Nat) (u : Nat) (pll : Int) (low : Nat) (high : Nat), s.admits (.assayRun sess seq u pll
      low high) u false ∧ pll.natAbs ≤ 200 ∧ 660 ≤ low ∧ high ≤ 740) ∧
    (∃ (s : State) (sess : Fin 17) (seq : Nat) (u : Nat) (pll : Int) (low : Nat) (high : Nat), s.admits (.assayRun sess seq u pll
      low high) u false ∧ 200 < pll.natAbs ∧ 660 ≤ low ∧ high ≤ 740) ∧
    (∃ (s : State) (sess : Fin 17) (seq : Nat) (u : Nat) (k : Nat) (sp : Nat), s.admits (.swapUnit sess seq u) u false ∧ unitKind u
      = some k ∧ s.successor u = some sp ∧ s.start.started = false ∧ s.opRunning 9 = false) :=
  ⟨⟨{ wsv with start.commit := some wc }, 0, 3, 1, wc, admits_of (by decide +kernel), by and_intros <;> decide +kernel⟩,
   ⟨wsv, 0, 3, 1, 1, admits_of (by decide +kernel), by and_intros <;> decide +kernel⟩,
   ⟨{ wsv with start.commit := some wc }, 0, 3, 1, 1, wc, admits_of (by decide +kernel), by and_intros <;> decide +kernel⟩,
   ⟨wsv, 0, 3, 1, 1, admits_of (by decide +kernel)⟩,
   ⟨wsv, 0, 3, 1, 1, admits_of (by decide +kernel)⟩,
   ⟨(wsv [(Obj.opState 6, 1)]), 0, 3, 1, 1, 6, by decide +kernel, admits_of (by decide +kernel)⟩,
   ⟨{ wsv [(Obj.opState 1, 1)] with integ.assay := some ⟨2, 0⟩ }, 0, 3, 1, 1, admits_of (by decide +kernel)⟩,
   ⟨{ wsv [(Obj.opState 3, 1)] with conv.cal := [(1, { kind := 1 })] }, 0, 3, 1, 1, 3, 1, by decide +kernel, admits_of
      (by decide +kernel)⟩,
   ⟨{ wsv [(Obj.opState 10, 1)] with key.batchLeft := 3 }, 0, 3, 1, 1, admits_of (by decide +kernel)⟩,
   credential_witness,
   ⟨{ wsv with agent.creds := [(4, { level := 3, secret := [1] }), (5, { level := 2, secret := [2] })], agent.sessions := [(3, { isOpen := true, cred := 4, level := 3 })] },
      3, 3, 4, admits_of (by decide +kernel)⟩,
   ⟨wsv, 0, 3, 5, 0x0A000001, [0x0A000001], by decide +kernel, by decide +kernel, by decide +kernel, admits_of (by decide +kernel)⟩,
   ⟨wsv, 0, 3, 0x1102, 5, 700, 701, admits_of (by decide +kernel), by and_intros <;> decide +kernel⟩,
   ⟨wsv, 0, 3, 0x1102, 201, 700, 701, admits_of (by decide +kernel), by and_intros <;> decide +kernel⟩,
   ⟨(wd [(domQuarter 0, 3)] { wsv with start.started := false }), 0, 3, 0x1102, 1, 0x110C, admits_of (by decide +kernel),
      by and_intros <;> decide +kernel⟩⟩
theorem witness_ReachWritesActAtOnce :
    (∃ (s : State) (sess : Fin 17) (seq : Nat) (n : Nat) (v : Int) (r : Fin 4), s.admits (.txOffNow sess seq r n) v false) ∧
    (∃ (s : State) (sess : Fin 17) (seq : Nat) (n : Nat) (v : Int) (r : Fin 4), s.admits (.txOffRelease sess seq r n) v false ∧
      s.txState r = 4) ∧
    (∃ (s : State) (sess : Fin 17) (seq : Nat) (n : Nat) (v : Int) (r : Fin 4), s.admits (.calStart sess seq r n) v false) ∧
    (∃ (s : State) (sess : Fin 17) (seq : Nat) (v : Int) (r : Fin 4) (k : Fin 8) (slice : Fin 132) (words : List Nat), s.admits
      (.coeffWrite sess seq r k slice words) v false) ∧
    (∃ (s : State) (sess : Fin 17) (seq : Nat) (v : Int) (n : Int) (r : Fin 4), s.admits (.bankCdWrite sess seq r false n) v false)
      ∧
    (∃ (s : State) (sess : Fin 17) (seq : Nat) (v : Int) (n : Int) (r : Fin 4), s.admits (.bankCdWrite sess seq r true n) v false) ∧
    (∃ (s : State) (sess : Fin 17) (seq : Nat) (n : Nat) (v : Int) (r : Fin 4) (g : Fin 8), s.admits (.fixedApply sess seq r g n) v
      false) ∧
    (∃ (s : State) (sess : Fin 17) (seq : Nat) (n : Nat) (v : Int) (r : Fin 4) (g : Fin 8) (count : Bool), s.admits
      (.groupLayoutWrite sess seq r g count n) v false) ∧
    (∃ (s : State) (sess : Fin 17) (seq : Nat) (n : Nat) (v : Int) (r : Fin 4) (g : Fin 8), s.admits (.historyValidWrite sess seq r
      g n) v false) ∧
    (∃ (s : State) (sess : Fin 17) (seq : Nat) (n : Nat) (v : Int) (r : Fin 4) (q : Fin 4) (g : Fin 8), s.pairedReach r = some q.val
      ∧ s.admits (.pairedGroupWrite sess seq r g true n) v false) ∧
    (∃ (s : State) (sess : Fin 17) (seq : Nat) (n : Nat) (v : Int) (k : Fin 8), s.admits (.groupLayout sess seq k n) v false) :=
  ⟨⟨{ wsv [(Obj.txState 1, 2)] with conv.txen := [1, 2] }, 0, 3, 1, 1, 1, admits_of (by decide +kernel)⟩,
   ⟨(wd [(1, 3)] (wsv [(Obj.txState 1, 4), (Obj.txOffSource 1, 1)])), 0, 3, 1, 1, 1, admits_of (by decide +kernel),
      by decide +kernel⟩,
   ⟨(wd [(1, 3)] (wsv [(Obj.agcState 1, 3)])), 0, 3, 1, 1, 1, admits_of (by decide +kernel)⟩,
   ⟨wsv, 0, 3, 0x0000400000000000, 1, 2, 7, [0x00004000, 0], admits_of (by decide +kernel)⟩,
   ⟨(wsv [(Obj.cdActiveBank 1, 1)]), 0, 3, (-5), (-5), 1, admits_of (by decide +kernel)⟩,
   ⟨wsv, 0, 3, 700, 700, 1, admits_of (by decide +kernel)⟩,
   ⟨(wd [(1, 3)] (wsv [(Obj.loadingMode 1 2, 2), (Obj.firstSubcarrier 1 2, 0), (Obj.subcarrierCount 1 2, 1), (Obj.fixedLoading 1 0,
      4)])), 0, 3, 1, 1, 1, 2, admits_of (by decide +kernel)⟩,
   ⟨wsv, 0, 3, 4, 4, 1, 2, true, admits_of (by decide +kernel)⟩,
   ⟨(wsv [(Obj.historyValid 1 2, 3)]), 0, 3, 1, 1, 1, 2, admits_of (by decide +kernel)⟩,
   ⟨(wsv [(Obj.unitMode 2, 2), (Obj.workingReach 2, 1)]), 0, 3, 77, 77, 1, 0, 2, by decide +kernel, admits_of (by decide +kernel)⟩,
   ⟨(wsv [(Obj.berthLaneState 17, 2), (Obj.berthLaneState 3, 2)]), 0, 3, 0, 0, 2, admits_of (by decide +kernel)⟩⟩
end W25

/-! ### Witnesses: statements of file 26 -/

namespace W26
/-- The agent serves. -/
def wsv (l : List (Nat × Nat) := []) : State := { wr l with agent.serving := true }
/-- A SECURE session 3 is open. -/
def wss (l : List (Nat × Nat) := []) : State :=
  { wsv l with agent.sessions := [(3, { isOpen := true, level := 3 })] }
/-- A FRAME_INJECT value of a 64-byte frame with flags 1. -/
def wfi : List Byte := [0#8, 64#8, 0#8, 7#8, 1#8, 0#8, 0#8, 0#8] ++ List.replicate 1012 5#8
/-- A TOD_ASSOCIATE value. -/
def wtod : List Byte := [0,0,0,0,0,1,0x86,0xA0, 0,0,0,0,0,9, 0,0, 0,0,0,0]
/-- An import entry that names an empty slot. -/
def wimp : List Byte := 5#8 :: List.replicate 59 0#8
/-- The words of a TWI_XFER value: address 0x50, one byte written, two read. -/
def wtw : List Nat := [0x50010200, 0xAA000000, 0, 0, 0]
/-- KEY_IMPORT's row. -/
def wimpRow : Row := ((rowsOf 0x3804).filter (fun r => r.lo == 1)).headD ⟨0, 0, .u8, .ro, false, 0, .any⟩

/-- A SECURE session 3 is open, and the fused key is known. -/
def wsk (l : List (Nat × Nat) := []) : State :=
  { wr l with agent.serving := true, agent.sessions := [(3, { isOpen := true, level := 3 })], key.fusedKek := List.replicate 32 0#8 }
/-- The row of an entry. -/
def wrow (idx sub : Nat) : Row :=
  if sub = 0 then ⟨0, 0, .u8, .ro, false, (entryCount idx : Int), .any⟩
  else ((rowsOf idx).filter (fun r => r.lo ≤ sub && sub ≤ r.hi)).headD ⟨0, 0, .u8, .ro, false, 0, .any⟩
theorem import_witness :
    ∃ (s : State) (sess : Fin 17) (seq n k label : Nat) (entry key : List Byte), s.admits (.keyImport sess seq entry) n false ∧
    s.importRecord (beBytes 60 n) = some (k, 3, label, key) ∧ k < 128 ∧ s.rdN (Obj.keySlotState k) = 0 :=
  ⟨wsk, 3, 3, wentry, 5, 7, beBytes 60 wentry, List.replicate 32 9#8,
   ⟨3, 3, Obj.keyImport, bodyOf (beBytes 60 wentry), wrow 0x3804 1, rfl, takes_of (by decide +kernel), by rfl, by decide +kernel,
    tail_import _ _ (by decide +kernel) (by decide +kernel) (by decide +kernel) (by decide +kernel), by decide +kernel⟩,
   import_of _ (by decide +kernel) (by decide +kernel), by decide, by decide +kernel⟩
theorem witness_BerthUnitKeyAndPowerWritesActAtOnce :
    (∃ (s : State) (sess : Fin 17) (seq : Nat) (n : Nat) (b : Fin 64) (bytes : List Byte) (v : List Byte), s.admits (.frameInject
      sess seq b bytes) n false ∧ v = beBytes 1020 n) ∧
    (∃ (s : State) (sess : Fin 17) (seq : Nat) (n : Nat) (v : Int), s.admits (.stockpileReserve sess seq n) v false) ∧
    (∃ (s : State) (sess : Fin 17) (seq : Nat) (n : Nat) (u : Fin 4), s.admits (.unitMode sess seq u n) n false) ∧
    (∃ (s : State) (sess : Fin 17) (seq n k label : Nat) (entry key : List Byte), s.admits (.keyImport sess seq entry) n false ∧
    s.importRecord (beBytes 60 n) = some (k, 3, label, key) ∧ k < 128 ∧ s.rdN (Obj.keySlotState k) = 0) ∧
    (∃ (s : State) (u : State) (sess : Fin 17) (seq : Nat) (n : Nat) (entry : List Byte) (r : Row), s.takes sess seq ∧ u =
      s.accepted sess seq ∧ u.writeHead sess 0x3804 1 = .ok r ∧ r.staged = false ∧ bodyStatus 0x3804 1 r (reqWords (bodyOf entry)) =
      .ok (n : Int) ∧ s.importRecord (beBytes 60 n) = none) ∧
    (∃ (s : State) (sess : Fin 17) (seq : Nat) (n : Nat), s.admits (.keyBatchStart sess seq n) n false) ∧
    (∃ (s : State) (sess : Fin 17) (seq : Nat) (n : Nat) (v : Int) (r : Fin 4) (g : Fin 8), s.admits (.keyRoll sess seq r g n) v
      false) ∧
    (∃ (s : State) (sess : Fin 17) (seq : Nat) (n : Nat) (v : Int) (r : Fin 4) (g : Fin 8) (slot : Bool), s.admits
      (.encryptKeySlotWrite sess seq r g slot n) v false) ∧
    (∃ (s : State) (i : Instr) (sess : Fin 17) (seq : Nat) (n : Nat) (target : Nat) (maskA : Nat) (maskB : Nat) (urgent : Bool) (q :
      PowReq), ((i = .powerRequestReleased sess seq urgent maskA maskB ∧ target = 0) ∨ (i = .powerRequestMoored sess seq urgent
      maskA maskB ∧ target = 1) ∨ (i = .powerRequestOff sess seq urgent maskA maskB ∧ target = 2) ∨ (i = .powerRequestDormant sess
      seq urgent maskA maskB ∧ target = 3)) ∧ s.admits i n false ∧ q = ⟨target, urgent, maskA % 2 ^ 32, maskB % 2 ^ 32, false⟩ ∧
      s.power.cur = none ∧ s.power.waiting = none ∧ s.power.pend = none ∧ s.power.leaving = false) ∧
    (∃ (s : State) (sess : Fin 17) (seq : Nat) (n : Nat) (maskA : Nat) (maskB : Nat) (urgent : Bool) (p : PowReq), s.admits
      (.powerRequestMoored sess seq urgent maskA maskB) n false ∧ s.power.cur = none ∧ s.power.waiting = none ∧ s.power.pend = some
      p ∧ s.power.leaving = false) ∧
    (∃ (s : State) (sess : Fin 17) (seq : Nat) (n : Nat) (r : Fin 4), s.admits (.wakePeer sess seq n) n false ∧ bitOf n r = true ∧
      s.released (domReach r) = true ∧ s.enabledGroups r = []) :=
  ⟨⟨wsv, 0, 3, (beNat wfi), 2, wfi, (beBytes 1020 (beNat wfi)), admits_of (by decide +kernel), by rfl⟩,
   ⟨wsv, 0, 3, 256, 256, admits_of (by decide +kernel)⟩,
   ⟨wsv, 0, 3, 0, 1, admits_of (by decide +kernel)⟩,
   import_witness,
   ⟨wss, (wss.accepted 3 3), 3, 3, (beNat wimp), wimp, wimpRow, takes_of (by decide +kernel), by and_intros <;> decide +kernel⟩,
   ⟨wss, 3, 3, 2, admits_of (by decide +kernel)⟩,
   ⟨(wss [(Obj.keyState 1 2, 2)]), 3, 3, 1, 1, 1, 2, admits_of (by decide +kernel)⟩,
   ⟨wss, 3, 3, 0, 0, 1, 2, false, admits_of (by decide +kernel)⟩,
   ⟨wsv, (.powerRequestReleased 0 3 true 5 3), 0, 3, (0 * 2 ^ 88 + 1 * 2 ^ 80 + 5 * 2 ^ 32 + 3), 0, 5, 3, true, (⟨0, true, 5 % 2 ^
      32, 3 % 2 ^ 32, false⟩), Or.inl ⟨rfl, rfl⟩, admits_of (by decide +kernel), by and_intros <;> decide +kernel⟩,
   ⟨{ wsv with power.pend := some ⟨0, false, 1, 0, false⟩ }, 0, 3, (1 * 2 ^ 88 + 0 * 2 ^ 80 + 5 * 2 ^ 32 + 3), 5, 3, false, ⟨0,
      false, 1, 0, false⟩, admits_of (by decide +kernel), by and_intros <;> decide +kernel⟩,
   ⟨(wd [(1, 3)] wsv), 0, 3, 2, 1, admits_of (by decide +kernel), by and_intros <;> decide +kernel⟩⟩
theorem witness_TimingLaneEngineAndBoardWritesActAtOnce :
    (∃ (s : State) (sess : Fin 17) (seq : Nat) (n : Nat) (value : List Byte) (v : List Byte), s.admits (.todAssociate sess seq
      value) n false ∧ v = beBytes 20 n) ∧
    (∃ (s : State) (sess : Fin 17) (seq : Nat) (n : Nat) (v : Int) (l : Fin 8), s.admits (.retrain sess seq l n) v false ∧
      s.laneState l = 2) ∧
    (∃ (s : State) (sess : Fin 17) (seq : Nat) (n : Nat) (v : Int) (l : Fin 8), s.admits (.retrain sess seq l n) v false ∧
      s.laneState l = 3) ∧
    (∃ (s : State) (sess : Fin 17) (seq : Nat) (n : Nat) (l : Fin 8), s.admits (.loopback sess seq l n) n false ∧ s.rdN
      (Obj.loopback l) ≠ n ∧ s.laneState l = 2) ∧
    (∃ (s : State) (sess : Fin 17) (seq : Nat) (n : Nat) (v : Int), s.admits (.wakeMate sess seq n) v false) ∧
    (∃ (s : State) (sess : Fin 17) (seq : Nat) (n : Nat) (c : Fin 12), s.admits (.engineLoad sess seq c n) n false) ∧
    (∃ (s : State) (sess : Fin 17) (seq : Nat) (n : Nat) (p : Fin 4) (count : Bool), s.admits (.partitionWrite sess seq p count n) n
      false) ∧
    (∃ (s : State) (sess : Fin 17) (seq : Nat) (n : Nat) (c : Fin 12) (e : Fin 16), s.admits (.overflowClear sess seq c e n) n
      false) ∧
    (∃ (s : State) (sess : Fin 17) (seq : Nat) (n : Nat), s.admits (.inject sess seq n) n false) ∧
    (∃ (s : State) (i : Instr) (v : Int) (k : Nat), s.admits i v false ∧ ((∃ sess seq f n x, i = .filterCoeffWrite sess seq f n x ∧
      k = Obj.filterCoeff f n) ∨ (∃ sess seq x, i = .peekAddress sess seq x ∧ k = Obj.peekAddress) ∨ (∃ sess seq u x, i =
      .pathSelectGpioWrite sess seq u x ∧ k = Obj.pathSelectGpio u) ∨ (∃ sess seq x, i = .gcInvert sess seq x ∧ k = Obj.gcInvert)))
      ∧
    (∃ (s : State) (sess : Fin 17) (seq : Nat) (n : Nat) (v : Int), s.admits (.alarmClear sess seq n) v false) ∧
    (∃ (s : State) (sess : Fin 17) (seq : Nat) (n : Nat) (k : Fin 16), s.admits (.gpioConfig sess seq k n) n false ∧ gpioFunction n
      ≠ 2) ∧
    (∃ (s : State) (sess : Fin 17) (seq : Nat) (n : Nat) (r : Fin 4) (words : List Nat), s.admits (.twiXfer sess seq r words) n
      false) :=
  ⟨⟨wsv, 0, 3, (beNat wtod), wtod, (beBytes 20 (beNat wtod)), admits_of (by decide +kernel), by rfl⟩,
   ⟨(wsv [(Obj.tpLaneState 3, 2)]), 0, 3, 1, 1, 3, admits_of (by decide +kernel), by decide +kernel⟩,
   ⟨(wsv [(Obj.tpLaneState 3, 3)]), 0, 3, 1, 1, 3, admits_of (by decide +kernel), by decide +kernel⟩,
   ⟨(wsv [(Obj.tpLaneState 3, 2)]), 0, 3, 1, 3, admits_of (by decide +kernel), by and_intros <;> decide +kernel⟩,
   ⟨wsv, 0, 3, 1, 1, admits_of (by decide +kernel)⟩,
   ⟨(wsv [(Obj.clusterCount 0, 1)]), 0, 3, 3, 8, admits_of (by decide +kernel)⟩,
   ⟨wsv, 0, 3, 8, 0, false, admits_of (by decide +kernel)⟩,
   ⟨(wsv [(objKey 0x5412 14, 7)]), 0, 3, 5, 1, 2, admits_of (by decide +kernel)⟩,
   ⟨wsv, 0, 3, 8, admits_of (by decide +kernel)⟩,
   ⟨wsv, (.filterCoeffWrite 0 3 9 33 5), 5, (Obj.filterCoeff 9 33), admits_of (by decide +kernel), Or.inl ⟨_, _, _, _, _, rfl,
      rfl⟩⟩,
   ⟨(wsv [(Obj.alarmLatch, 3)]), 0, 3, 1, 1, admits_of (by decide +kernel)⟩,
   ⟨wsv, 0, 3, 1, 5, admits_of (by decide +kernel), by decide +kernel⟩,
   ⟨wsv, 0, 3, (wordsNat wtw), 1, wtw, admits_of (by decide +kernel)⟩⟩
end W26

/-! ### Witnesses: statements of file 27 -/

namespace W27
/-- The agent serves. -/
def wsv (l : List (Nat × Nat) := []) : State := { wr l with agent.serving := true }
/-- A session 3 is open. -/
def wse (x : Session := { isOpen := true, level := 3, hi := 2, seen := [1, 2] }) (s : State := wsv) : State :=
  { s with agent.sessions := [(3, x)] }
/-- The row of an entry. -/
def wrow (idx sub : Nat) : Row :=
  if sub = 0 then ⟨0, 0, .u8, .ro, false, (entryCount idx : Int), .any⟩
  else ((rowsOf idx).filter (fun r => r.lo ≤ sub && sub ≤ r.hi)).headD ⟨0, 0, .u8, .ro, false, 0, .any⟩
/-- A stored log entry. -/
def wle : LogEntry := ⟨7, ⟨0x8006, 0x1186, 0, 5, 1⟩⟩
/-- A credential. -/
def wcr : Credential := { level := 2, secret := [9] }
/-- A nonce. -/
def wno : List Byte := List.replicate 16 3#8
/-- Sessions 1 to 16 are open. -/
def wfull : List (Nat × Session) := (List.range 16).map (fun k => (k + 1, { isOpen := true }))
/-- The first bytes of a CLOSE of session 3. -/
def wclose : List Byte := [0x55, 0xDA, 1, 8, 0, 0, 0, 3, 0, 0, 0, 3, 0, 0, 0, 0]
/-- A message of a CLOSE request of session 3. -/
def wmsg (body : List Byte) (mac : List Byte) : List Byte := body ++ mac
/-- A reply kept. -/
def wrep : Reply := { opcode := 2, flags := 1, status := 0, sess := 3, seq := 2, index := 0x1410, sub := 2, words := [] }
theorem witness_ReadsReplyWithTheirValue :
    (∃ (s : State) (u : State) (sess : Fin 17) (seq : Nat) (idx : Nat) (sub : Nat) (r : Row), s.takes sess seq ∧ u = s.accepted sess
      seq ∧ idx < 65536 ∧ sub < 256 ∧ entryCheck idx sub = .ok r ∧ r.acc ≠ .wo ∧ u.readLevel idx sub ≤ u.levelOf sess ∧ u.ownerOff
      idx = false ∧ (¬ (canonIdx idx = 0x1300 ∧ sub = 4)) ∧ idx ≠ 0x3530) ∧
    (∃ (s : State) (u : State) (sess : Fin 17) (seq : Nat) (idx : Nat) (sub : Nat) (body : List Nat) (r : Row), s.takes sess seq ∧ u
      = s.accepted sess seq ∧ idx < 65536 ∧ sub < 256) ∧
    (∃ (s : State) (u : State) (sess : Fin 17) (seq : Nat) (idx : Nat) (sub : Nat) (w : Nat) (r : Row), s.takes sess seq ∧ u =
      s.accepted sess seq ∧ idx < 65536 ∧ sub < 256 ∧ entryCheck idx sub = .ok r ∧ r.acc ≠ .wo ∧ u.readLevel idx sub ≤ u.levelOf
      sess ∧ u.ownerOff idx = false ∧ canonIdx idx ≠ 0x1300 ∧ idx ≠ 0x3530 ∧ r.ty.words ≤ w ∧ w < 256) ∧
    (∃ (s : State) (u : State) (sess : Fin 17) (seq : Nat) (e : LogEntry), s.takes sess seq ∧ u = s.accepted sess seq ∧
      s.core.log.find? (fun x => x.seq == (s.session sess).logReadSeq) = some e ∧ (s.session sess).logReadSeq ∉ s.integ.logBad) ∧
    (∃ (s : State) (u : State) (sess : Fin 17) (seq : Nat) (noise : List (Nat × Byte)), s.takes sess seq ∧ u = s.accepted sess seq ∧
      s.slotState (slotBase * (s.rdN Obj.peekAddress / 2 ^ 32) + s.rdN Obj.peekAddress % 2 ^ 32) = 0) :=
  ⟨⟨(wsv [(Obj.hostPortLevel, 2)]), (wsv [(Obj.hostPortLevel, 2)]), 0, 3, 0x1410, 2, (wrow 0x1410 2), takes_of (by decide +kernel),
      by and_intros <;> decide +kernel⟩,
   ⟨wsv, wsv, 0, 3, 0x1410, 0x22, [], (wrow 0x1410 0x22), takes_of (by decide +kernel), by and_intros <;> decide +kernel⟩,
   ⟨wsv, wsv, 0, 3, 0x1410, 2, 3, (wrow 0x1410 2), takes_of (by decide +kernel), by and_intros <;> decide +kernel⟩,
   ⟨{ wse { isOpen := true, logReadSeq := 7 } with core.log := [wle] },
      ({ wse { isOpen := true, logReadSeq := 7 } with core.log := [wle] }.accepted 3 3), 3, 3, wle, takes_of (by decide +kernel),
      by and_intros <;> decide +kernel⟩,
   ⟨wse, (wse.accepted 3 3), 3, 3, [(3, 1)], takes_of (by decide +kernel), by and_intros <;> decide +kernel⟩⟩
theorem witness_BlocksAreWholeAndSubscriptionsAreKept :
    (∃ (s : State) (u : State) (sess : Fin 17) (seq : Nat) (idx : Nat) (sub : Nat) (body : List Nat) (ws : List Nat) (ws' : List
      Nat) (r : Row) (r' : Row) (v : Int) (v' : Int), s.takes sess seq ∧ u = s.accepted sess seq ∧ idx < 65536 ∧ sub + 1 ≤
      entryCount idx ∧ entryCount idx < 256 ∧ (∀ w ∈ body, w < 2 ^ 32) ∧ body.length < 256 ∧ splitBlock idx (entryCount idx) 256 sub
      body = ([(sub, ws), (sub + 1, ws')], false) ∧ u.writeHead sess idx sub = .ok r ∧ u.writeHead sess idx (sub + 1) = .ok r' ∧
      r.staged = true ∧ r'.staged = true ∧ bodyStatus idx sub r ws = .ok v ∧ bodyStatus idx (sub + 1) r' ws' = .ok v' ∧ (∀ x :
      State, x.stagedEntries idx sub v = [⟨objKey idx sub, v⟩] ∧ x.stagedEntries idx (sub + 1) v' = [⟨objKey idx (sub + 1), v'⟩]) ∧
      (∀ win, u.windowTakes 2 = true ∧ u.writeTail idx sub r v = none ∧ ({ u with core := { u.core with window := win } } :
      State).writeTail idx (sub + 1) r' v' = none) ∧ s.core.window.any (fun w => w.key == objKey idx sub) = false ∧
      s.core.window.any (fun w => w.key == objKey idx (sub + 1)) = false) ∧
    (∃ (s : State) (u : State) (sess : Fin 17) (seq : Nat) (idx : Nat) (sub : Nat) (e : Nat) (bad : Nat) (body : List Nat) (parts :
      List (Nat × List Nat)) (long : Bool) (k : Option Nat), s.takes sess seq ∧ u = s.accepted sess seq ∧ idx < 65536 ∧ sub ≤
      entryCount idx ∧ entryCount idx < 256 ∧ (∀ w ∈ body, w < 2 ^ 32) ∧ body.length < 256 ∧ splitBlock idx (entryCount idx) 256 sub
      body = (parts, long) ∧ u.blockHead sess idx parts = .error (e, bad, k)) ∧
    (∃ (s : State) (u : State) (sess : Fin 17) (seq : Nat) (a : Nat) (b : Nat), s.takes sess seq ∧ u = s.accepted sess seq ∧ b < 2 ^
      32 ∧ a < 8 * 2 ^ 24) ∧
    (∃ (s : State) (u : State) (sess : Fin 17) (seq : Nat) (a : Nat) (b : Nat), s.takes sess seq ∧ u = s.accepted sess seq ∧ a < 2 ^
      32 ∧ b < 2 ^ 32 ∧ 8 * 2 ^ 24 ≤ a) :=
  ⟨⟨{ wsv with core.windowOpen := true }, { wsv with core.windowOpen := true }, 0, 3, 0x2810, 1, [9, 3], [9], [3], (wrow 0x2810 1),
      (wrow 0x2810 2), 9, 3, takes_of (by decide +kernel),
      by refine ⟨?_, ?_, ?_, ?_, ?_, ?_, ?_, ?_, ?_, ?_, ?_, ?_, ?_, fun _ => ⟨rfl, rfl⟩, fun _ => ⟨by decide +kernel, by decide +kernel, by rfl⟩, ?_, ?_⟩ <;> decide +kernel⟩,
   ⟨wsv, wsv, 0, 3, 0x2810, 2, Status.readOnly, 3, [3, 5], ((splitBlock 0x2810 13 256 2 [3, 5]).1), ((splitBlock 0x2810 13 256 2 [3,
      5]).2), none, takes_of (by decide +kernel), by and_intros <;> decide +kernel⟩,
   ⟨wse, (wse.accepted 3 3), 3, 3, (2 * 2 ^ 24 + 2 ^ 8 + 1), 0x2000FFFF, takes_of (by decide +kernel),
      by and_intros <;> decide +kernel⟩,
   ⟨wse, (wse.accepted 3 3), 3, 3, (8 * 2 ^ 24), 0x2000FFFF, takes_of (by decide +kernel), by and_intros <;> decide +kernel⟩⟩
theorem witness_SessionsOpenCloseAndRepeat :
    (∃ (s : State) (cred : Nat) (seq : Nat) (n : Nat) (nonce : List Byte) (mac : List Byte) (k : Credential), s.agent.serving = true
      ∧ cred < 256 ∧ s.agent.creds.find? (fun c => c.1 == cred) = some (cred, k) ∧ nonce.length = 16 ∧ s.freeSession = some n ∧ mac
      = macUnder k.secret (openBytes cred nonce seq)) ∧
    (∃ (s : State) (cred : Nat) (seq : Nat) (nonce : List Byte) (mac : List Byte), s.agent.serving = true ∧ cred < 256 ∧
      s.agent.creds.find? (fun c => c.1 == cred) = none) ∧
    (∃ (s : State) (cred : Nat) (seq : Nat) (nonce : List Byte) (mac : List Byte) (k : Credential), s.agent.serving = true ∧ cred <
      256 ∧ s.agent.creds.find? (fun c => c.1 == cred) = some (cred, k) ∧ nonce.length = 16 ∧ s.freeSession = none ∧ mac = macUnder
      k.secret (openBytes cred nonce seq)) ∧
    (∃ (s : State) (cred : Nat) (seq : Nat) (nonce : List Byte) (mac : List Byte) (k : Credential), s.agent.serving = true ∧ cred <
      256 ∧ s.agent.creds.find? (fun c => c.1 == cred) = some (cred, k) ∧ (∀ c ∈ s.agent.creds, c.1 = cred → mac ≠ macUnder
      c.2.secret (openBytes cred nonce seq))) ∧
    (∃ (s : State) (sess : Fin 17) (seq : Nat), 0 < sess.val ∧ s.takes sess seq) ∧
    (∃ (s : State) (sess : Fin 17), 0 < sess.val ∧ (s.session sess).isOpen = true ∧ (s.session sess).lastTick + s.rdN
      Obj.idleTimeout ≤ s.core.tick) ∧
    (∃ (s : State) (sess : Fin 17), s.core.tick < (s.session sess).lastTick + s.rdN Obj.idleTimeout) ∧
    (∃ (s : State) (sess : Fin 17) (p : Reply) (rest : List Reply), s.agent.serving = true ∧ 0 < sess.val ∧ (s.session sess).isOpen
      = true ∧ (s.session sess).kept = p :: rest ∧ p.seq < 2 ^ 32 ∧ (s.session sess).accepts p.seq = false) ∧
    (∃ (s : State) (addr : Nat) (port : Nat) (bytes : List Byte) (m : Msg) (k : Fin 17), s.power.dormant = false ∧ s.agent.serving =
      true ∧ parseMsg true bytes = some m ∧ m.opcode = 8 ∧ m.sess = k.val ∧ 0 < k.val ∧ (s.session k).isOpen = true ∧ m.mac =
      (hmacSha256 (s.session k).key m.signed).take 16 ∧ bitOf m.flags 2 = false ∧ (s.session k).accepts m.seq = true ∧ m.seq < 2 ^
      32 - 1 ∧ (bitOf (s.rdN Obj.wakeEnable) 0 = false ∨ (s.power.dormantCommitted = false ∧ ∀ q ∈ s.power.cur, q.target ≠ 3))) ∧
    (∃ (s : State) (addr : Nat) (port : Nat) (fragment : Bool) (bytes : List Byte), s.power.dormant = false ∧ (s.agent.serving =
      false ∨ fragment = true ∨ parseMsg true bytes = none) ∧ (bitOf (s.rdN Obj.wakeEnable) 0 = false ∨ (s.power.dormantCommitted =
      false ∧ ∀ q ∈ s.power.cur, q.target ≠ 3))) ∧
    (∃ (s : State) (addr : Nat) (port : Nat) (fragment : Bool) (bytes : List Byte) (q : PowReq), s.power.dormant = false ∧
      s.power.dormantCommitted = false ∧ s.power.cur = some q ∧ q.target = 3 ∧ bitOf (s.rdN Obj.wakeEnable) 0 = true ∧
      (s.agent.serving = false ∨ fragment = true ∨ parseMsg true bytes = none)) :=
  ⟨⟨{ wse with agent.creds := [(4, wcr)] }, 4, 3, 1, wno, (macUnder [9] (openBytes 4 wno 3)), wcr,
      by refine ⟨?_, ?_, ?_, ?_, ?_, by rfl⟩ <;> decide +kernel⟩,
   ⟨{ wse with agent.creds := [(4, wcr)] }, 5, 3, wno, [], by and_intros <;> decide +kernel⟩,
   ⟨{ wsv with agent.creds := [(4, wcr)], agent.sessions := wfull }, 4, 3, wno, (macUnder [9] (openBytes 4 wno 3)), wcr,
      by refine ⟨?_, ?_, ?_, ?_, ?_, by rfl⟩ <;> decide +kernel⟩,
   ⟨{ wse with agent.creds := [(4, wcr)] }, 4, 3, wno, [], wcr, by and_intros <;> decide +kernel⟩,
   ⟨wse, 3, 3, by decide +kernel, takes_of (by decide +kernel)⟩,
   ⟨(wt 6000000 wse), 3, by and_intros <;> decide +kernel⟩,
   ⟨(wt 5999999 wse), 3, by decide +kernel⟩,
   ⟨(wse { isOpen := true, hi := 2, seen := [1, 2], kept := [wrep] }), 3, wrep, [], by and_intros <;> decide +kernel⟩,
   ⟨wse, 1, 2, (wclose ++ (hmacSha256 [] wclose).take 16),
      { opcode := 8, flags := 0, sess := 3, seq := 3, index := 0, sub := 0, words := [], signed := wclose, mac := (hmacSha256 [] wclose).take 16 },
      3, by refine ⟨?_, ?_, by rfl, ?_, ?_, ?_, ?_, by rfl, ?_, ?_, ?_, ?_⟩ <;> decide +kernel⟩,
   ⟨{ wse with agent.serving := false }, 1, 2, false, wclose, by and_intros <;> decide +kernel⟩,
   ⟨{ wsv [(Obj.wakeEnable, 1)] with agent.serving := false, power.cur := some ⟨3, false, 0, 0, false⟩ }, 1, 2, false, wclose, ⟨3,
      false, 0, 0, false⟩, by and_intros <;> decide +kernel⟩⟩
end W27

/-! ### Witnesses: statements of file 28 -/

namespace W28
/-- The agent serves. -/
def wsv (l : List (Nat × Nat) := []) : State := { wr l with agent.serving := true }
/-- BAR0 registers with values. -/
def wb (l : List (Nat × Nat)) (s : State := w0) : State := l.foldl (fun s p => s.setBar p.1 p.2) s
/-- A descriptor that is good. -/
def wdd : DmaDescriptor := { hostAddr := 4096, bar2Offset := 64, length := 128 }
/-- A descriptor that is not. -/
def wdb : DmaDescriptor := { hostAddr := 4097, bar2Offset := 64, length := 128 }
/-- Channel 1 is enabled, with a ring of 4 descriptors and a descriptor in flight. -/
def wdm (d : DmaDescriptor) (en : Nat) : State :=
  { wb [(dmaOff 1 + 8, 4), (dmaOff 1 + 0xC, 3), (dmaOff 1 + 0x14, en)] with agent.dma := [(1, d)] }
/-- Session 3 wants every event. -/
def wsn : State :=
  { wsv with
    agent.sessions := [(3, { isOpen := true, via := .udp 5 6, subs := [(0, { enable := true, minSev := 0, source := 0, mask := 0 })] })] }
/-- An event. -/
def wev : Event := ⟨0xC036, 0x2040, 7, 5, 1⟩
theorem witness_MailboxesAndRingsFollowTheirRegisters :
    (∃ (s : State) (n : Nat), n < 4 ∧ bitOf (s.bar 0x4) n = false ∧ bitOf (s.bar 0x8) n = false ∧ s.agent.serving = false) ∧
    (∃ (s : State) (n : Nat), n < 4 ∧ (bitOf (s.bar 0x4) n = true ∨ bitOf (s.bar 0x8) n = true)) ∧
    (∃ (s : State) (n : Nat), n < 4 ∧ bitOf (s.bar 0x4) n = false ∧ bitOf (s.bar 0x8) n = false ∧ s.agent.serving = true ∧ parseMsg
      false (s.barBytes (0x1000 * (n + 1)) 512) = none) ∧
    (∃ (s : State), s.agent.serving = false) ∧
    (∃ (s : State) (q : Fin 16) (v : Nat), v < 2 ^ 32 ∧ (s.bar (ringHeadOff q) + 2 ^ 32 - v) % 2 ^ 32 ≤ ringCapacity q) ∧
    (∃ (s : State) (q : Fin 16) (v : Nat), v < 2 ^ 32 ∧ ringCapacity q < (s.bar (ringHeadOff q) + 2 ^ 32 - v) % 2 ^ 32) ∧
    (∃ (s : State) (off : Nat) (v : Nat), off % 4 = 0 ∧ 0x1000 ≤ off ∧ off < 0x5000) ∧
    (∃ (s : State) (off : Nat) (v : Nat), (off = 0x4 ∨ off = 0x10 ∨ 0x9000 ≤ off)) :=
  ⟨⟨w0, 3, by and_intros <;> decide +kernel⟩,
   ⟨(wb [(4, 8)]), 3, by and_intros <;> decide +kernel⟩,
   ⟨wsv, 3, by and_intros <;> decide +kernel⟩,
   ⟨w0, by decide +kernel⟩,
   ⟨(wb [(ringHeadOff 0, 5)]), 0, 3, by and_intros <;> decide +kernel⟩,
   ⟨(wb [(ringHeadOff 0, 5)]), 0, 7, by and_intros <;> decide +kernel⟩,
   ⟨w0, 0x4FFC, (2 ^ 32 + 5), by and_intros <;> decide +kernel⟩,
   ⟨w0, 4, 5, by decide +kernel⟩⟩
theorem witness_DmaChannelsWorkTheirRings :
    (∃ (s : State) (n : Fin 8) (bs : List Byte), s.dmaOn n = false ∧ dmaSizeOk (s.bar (dmaOff n + 8)) = true ∧ s.dmaFlight n = none
      ∧ s.bar (dmaOff n + 0xC) ≠ s.bar (dmaOff n + 0x10)) ∧
    (∃ (s : State) (n : Fin 8) (bs : List Byte), dmaSizeOk (s.bar (dmaOff n + 8)) = false) ∧
    (∃ (s : State) (n : Fin 8), s.dmaOn n = false) ∧
    (∃ (s : State) (n : Fin 8), s.dmaOn n = true) ∧
    (∃ (s : State) (n : Fin 8) (v : Nat) (bs : List Byte), s.dmaOn n = true ∧ v < 2 ^ 32 ∧ v ≠ s.bar (dmaOff n + 0xC) ∧ n.val ∉
      s.agent.dmaHalted ∧ s.dmaFlight n = none) ∧
    (∃ (s : State) (n : Fin 8) (d : DmaDescriptor) (data : List Byte) (next : List Byte), s.dmaFlight n = some d ∧ descriptorGood d
      = true ∧ d.toBar2 = false ∧ d.irq = false ∧ s.dmaOn n = false) ∧
    (∃ (s : State) (n : Fin 8) (d : DmaDescriptor) (data : List Byte) (next : List Byte), s.dmaFlight n = some d ∧ descriptorGood d
      = true ∧ d.toBar2 = true ∧ d.irq = false ∧ s.dmaOn n = false ∧ s.imageLocked = false ∧ data.length = d.length) ∧
    (∃ (s : State) (n : Fin 8) (d : DmaDescriptor) (data : List Byte) (next : List Byte), s.dmaFlight n = some d ∧ descriptorGood d
      = false ∧ d.irq = false) ∧
    (∃ (s : State) (n : Fin 8) (data : List Byte) (next : List Byte), s.dmaFlight n = none) :=
  ⟨⟨(wb [(dmaOff 1, 64), (dmaOff 1 + 4, 1), (dmaOff 1 + 8, 4), (dmaOff 1 + 0x10, 3)]), 1, [0, 1, 2],
      by and_intros <;> decide +kernel⟩,
   ⟨(wb [(dmaOff 1 + 8, 3)]), 1, [], by decide +kernel⟩,
   ⟨(wb [(dmaOff 1 + 0xC, 3), (dmaOff 1 + 0x10, 2)]), 1, by decide +kernel⟩,
   ⟨(wdm wdd 1), 1, by decide +kernel⟩,
   ⟨{ wdm wdd 1 with agent.dma := [] }, 1, 1, [0, 1, 2], by and_intros <;> decide +kernel⟩,
   ⟨(wdm wdd 0), 1, wdd, [1, 2], [], by and_intros <;> decide +kernel⟩,
   ⟨(wdm { wdd with toBar2 := true } 0), 1, { wdd with toBar2 := true }, (List.replicate 128 7), [],
      by and_intros <;> decide +kernel⟩,
   ⟨(wdm wdb 1), 1, wdb, [1, 2], [], by and_intros <;> decide +kernel⟩,
   ⟨w0, 1, [1, 2], [], by decide +kernel⟩⟩
theorem witness_CrossingsDeliverAndTheLogKeepsEvents :
    (∃ (s : State) (up : Bool), s.power.dormant = false ∧ s.rdN Obj.linkUp ≠ (if up then 1 else 0) ∧ (bitOf (s.rdN Obj.wakeEnable) 0
      = false ∨ (s.power.dormantCommitted = false ∧ ∀ q ∈ s.power.cur, q.target ≠ 3))) ∧
    (∃ (s : State), s.core.windowOpen = true) ∧
    (∃ (s : State), s.core.windowOpen = false) ∧
    (∃ (s : State), s.core.running = true ∧ s.core.windowOpen = false ∧ s.power.dormant = false ∧ s.timing.advance = none) ∧
    (∃ (s : State), (s.core.running = false ∨ s.core.windowOpen = true ∨ s.power.dormant = true)) ∧
    (∃ (a : ChamberAt) (b : ChamberAt), ChamberAt.key a = ChamberAt.key b) ∧
    (∃ (s : State) (ch : ChamberAt) (v : Nat), (tget (fun _ => {}) s.core.chambers (ChamberAt.key ch) : Chamber).busy = false ∧
      (tget (fun _ => {}) s.core.chambers (ChamberAt.key ch) : Chamber).waiting = none) ∧
    (∃ (s : State) (ch : ChamberAt) (a : Nat) (b : Nat) (c : Nat), (tget (fun _ => {}) s.core.chambers (ChamberAt.key ch) : Chamber)
      = {}) ∧
    (∃ (s : State) (source : Nat) (n : Nat) (x : Tally), (∀ e ∈ s.core.inFlight, e.source ≠ source) ∧ x = tget (fun _ => {})
      s.core.tallies source ∧ x.src < 2 ^ 16 ∧ (∀ k, k < 17 → (s.session k).queue = []) ∧ (∀ k, k < 17 → (s.session k).lost =
      false)) ∧
    (∃ (s : State) (d : Fin 92), s.core.boundarySent ≠ 0 ∧ d.val ∉ s.core.boundaryGot) ∧
    (∃ (s : State) (d : Fin 92) (n : Nat), (s.core.boundarySent = 0 ∨ d.val ∈ s.core.boundaryGot)) ∧
    (∃ (s : State) (n : Nat) (e : Event), s.core.inFlight = [e] ∧ 0 < n ∧ s.core.log.length < 4096 ∧ s.core.nextSeq < 2 ^ 32 - 1 ∧
      (∀ k, k < 17 → (s.session k).wants e = false ∧ (s.session k).queue = [])) ∧
    (∃ (s : State) (n : Nat) (j : Fin 17) (addr : Nat) (port : Nat) (e : Event), s.core.inFlight = [e] ∧ 0 < n ∧ s.core.log.length <
      4096 ∧ 0 < j.val ∧ (s.session j).isOpen = true ∧ (s.session j).via = .udp addr port ∧ (s.session j).wants e = true ∧ (∀ k, k <
      17 → k ≠ j.val → (s.session k).wants e = false) ∧ (∀ k, k < 17 → (s.session k).queue = []) ∧ (s.session j).lost = false) ∧
    (∃ (s : State) (code : Nat) (src : Nat) (l : RateLimit), s.core.limits = [l] ∧ l.code = code ∧ l.source = src ∧ l.ends ≤
      s.core.tick ∧ l.held = 0) ∧
    (∃ (s : State) (code : Nat) (src : Nat) (l : RateLimit), s.core.limits = [l] ∧ l.code = code ∧ l.source = src ∧ l.ends ≤
      s.core.tick ∧ 0 < l.held) ∧
    (∃ (s : State) (code : Nat) (src : Nat), (∀ l ∈ s.core.limits, s.core.tick < l.ends)) :=
  ⟨⟨w0, true, by and_intros <;> decide +kernel⟩,
   ⟨{ w0 with core.windowOpen := true }, by decide +kernel⟩,
   ⟨{ w0 with core.windowOpen := false }, by decide +kernel⟩,
   ⟨{ w0 with core.running := true, core.windowOpen := false }, by and_intros <;> decide +kernel⟩,
   ⟨{ w0 with core.running := true, core.windowOpen := true }, by decide +kernel⟩,
   ⟨(ChamberAt.mooring 11 15 3 7), (ChamberAt.mooring 11 15 3 7), by decide +kernel⟩,
   ⟨w0, (ChamberAt.mailbox 3 127), 7, by and_intros <;> decide +kernel⟩,
   ⟨w0, (ChamberAt.argument 0x2040), 7, 8, 9, by decide +kernel⟩,
   ⟨{ w0 with core.tallies := [(3, ⟨5, 65530, 9⟩)] }, 3, 2, ⟨5, 65530, 9⟩, by and_intros <;> decide +kernel⟩,
   ⟨{ w0 with core.boundarySent := 65535 }, 91, by and_intros <;> decide +kernel⟩,
   ⟨{ w0 with core.boundarySent := 65535, core.boundaryGot := [91] }, 91, 1, by decide +kernel⟩,
   ⟨{ wsv with core.inFlight := [wev] }, 1, wev, by and_intros <;> decide +kernel⟩,
   ⟨{ wsn with core.inFlight := [wev] }, 1, 3, 5, 6, wev, by and_intros <;> decide +kernel⟩,
   ⟨{ w0 with core.limits := [⟨0x8006, 0x1180, 0, 0, 0, 0⟩] }, 0x8006, 0x1180, ⟨0x8006, 0x1180, 0, 0, 0, 0⟩,
      by and_intros <;> decide +kernel⟩,
   ⟨{ w0 with core.limits := [⟨0x8006, 0x1180, 0, 0, 5, 0⟩] }, 0x8006, 0x1180, ⟨0x8006, 0x1180, 0, 0, 5, 0⟩,
      by and_intros <;> decide +kernel⟩,
   ⟨{ w0 with core.limits := [⟨0x8006, 0x1180, 0, 1, 5, 0⟩] }, 0x8006, 0x1180, by decide +kernel⟩⟩
theorem witness_TheBoundaryCountsTheTickAndOpensTheWindow :
    (∃ (s : State) (i : BoundaryInput), (s.start.inReset = true ∨ s.board.noOsc = true ∨ s.board.hot = true)) ∧
    (∃ (s : State) (i : BoundaryInput), s.start.inReset = false ∧ s.board.noOsc = false ∧ s.board.hot = false ∧ s.power.dormant =
      true ∧ s.core.running = true ∧ s.timing.advance = none) ∧
    (∃ (s : State) (i : BoundaryInput), s.start.inReset = false ∧ s.board.noOsc = false ∧ s.board.hot = false ∧ s.power.dormant =
      false ∧ s.timing.advance = none ∧ s.core.held = []) ∧
    (∃ (s : State) (w : StagedWrite) (n : Nat), (w.key = Obj.modeRequest ∨ w.key = Obj.highWater ∨ w.key = Obj.cdMode 0) ∧
      stepOfWrite w.key = n ∧ s.ownerOff (w.key / 256) = false) ∧
    (∃ (s : State) (w : StagedWrite) (n : Nat), 3 ≤ n ∧ stepOfWrite w.key = n ∧ s.ownerOff (w.key / 256) = true) :=
  ⟨⟨State.reset, { }, by decide +kernel⟩,
   ⟨{ w0 with core.running := true, power.dormant := true }, { }, by and_intros <;> decide +kernel⟩,
   ⟨{ w0 with core.running := true }, { }, by and_intros <;> decide +kernel⟩,
   ⟨w0, ⟨Obj.modeRequest, 1⟩, 9, by and_intros <;> decide +kernel⟩,
   ⟨(wd [(1, 0)]), ⟨Obj.cdMode 1, 1⟩, 9, by and_intros <;> decide +kernel⟩⟩
end W28

/-! ### Witnesses: statements of file 29 -/

namespace W29
/-- A conversion in progress. -/
def wcv (kind : Nat) : Conv := { kind := kind, channel := 17, tick := 5, phase := 390, len := 20 }
/-- A rake at a slot of port 1. -/
def wrk (at_ endp : Nat) : State :=
  { wr [(Obj.opState 8, 1), (Obj.opPositionEnd 8, endp), (Obj.opStartTick 8, 3), (Obj.basinPortState 1, 3), (Obj.slots 1, 8192)] (wt 9) with
    integ.rakeAt := at_, integ.rakePlace := (1, at_) }
/-- A page that waits for its copy. -/
def wpg : Swap := { kind := 5, unit := pageBase * 1 + 7, succ := some 9, valid := some 4, batch := 1 }
/-- An engine's replacement whose commit is valid. -/
def wen : Swap := { kind := 3, unit := 0x1300 + 17 * 2 + 5, succ := some (0x1300 + 17 * 2 + 16), valid := some 4, batch := 1 }
theorem witness_ConversionSlotsFollowEachOther :
    (∃ (s : State) (code : BitVec 16) (place : Nat) (ch : Nat) (rest : List (Nat × Nat)), s.sup.now = none ∧ s.sup.inj = (place, ch)
      :: rest ∧ s.rdN Obj.modeInForce = 0) ∧
    (∃ (s : State) (code : BitVec 16) (keeper : KeeperSlot) (drained : Nat) (c : Conv), s.sup.now = some c ∧ c.kind ≠ 3 ∧ c.channel
      < 96) ∧
    (∃ (s : State) (code : BitVec 16) (ch : Nat), s.sup.inj = [] ∧ ch < 96) ∧
    (∃ (s : State) (code : BitVec 16) (ch : Nat) (drained : Nat), (s.injectBusy = true ∨ 96 ≤ ch)) ∧
    (∃ (s : State) (code : BitVec 16) (c : Conv), s.sup.now = some c ∧ c.kind = 3) :=
  ⟨⟨{ w0 with sup.inj := [(3, 40), (0, 5)] }, 77, 3, 40, [(0, 5)], by and_intros <;> decide +kernel⟩,
   ⟨{ wt 5 with sup.now := some (wcv 1) }, 77, {}, 0, (wcv 1), by and_intros <;> decide +kernel⟩,
   ⟨w0, 77, 40, by and_intros <;> decide +kernel⟩,
   ⟨{ w0 with sup.inj := [(0, 5)] }, 77, 40, 0, by decide +kernel⟩,
   ⟨{ wt 5 with sup.now := some (wcv 3) }, 77, (wcv 3), by and_intros <;> decide +kernel⟩⟩
theorem witness_ScrubRakeAndStockpileGoOn :
    (∃ (s : State) (m : Fin 22) (addr : Nat) (owner : Nat) (lost : List Nat), s.groupPowered m = true ∧ s.byteLost m addr = false ∧
      addr = tget (fun _ => 0) s.integ.scrubAt m) ∧
    (∃ (s : State) (m : Fin 22) (addr : Nat) (owner : Nat) (lost : List Nat), s.groupPowered m = true ∧ s.byteLost m addr = false ∧
      addr = tget (fun _ => 0) s.integ.scrubAt m) ∧
    (∃ (s : State) (m : Fin 22) (addr : Nat) (owner : Nat) (o : Fin 3) (lost : List Nat), s.groupPowered m = true ∧ addr = tget (fun
      _ => 0) s.integ.scrubAt m ∧ (o = 2 ∨ (s.byteLost m addr = true ∧ m ≠ 21))) ∧
    (∃ (s : State) (m : Fin 22) (addr : Nat) (owner : Nat) (o : Fin 3) (last : Bool) (lost : List Nat), (s.groupPowered m = false ∨
      addr ≠ tget (fun _ => 0) s.integ.scrubAt m)) ∧
    (∃ (s : State) (gen : Nat) (p : Nat) (n : Nat), s.opRunning 8 = true ∧ s.rakeSlot = some (p, n) ∧ (rakeNext (s.upPorts.map (fun
      p => (p, s.rdN (Obj.slots p)))) (p, n + 1)).isSome = true ∧ s.integ.rakeAt + 1 < s.rdN (Obj.opPositionEnd 8) ∧ (∀ q ∈
      s.basin.slots, q.2.st < 4)) ∧
    (∃ (ports : List (Nat × Nat)) (k : Nat × Nat) (q : Nat × Nat), ports.Pairwise (fun x y => x.1 < y.1) ∧ rakeNext ports k = some
      q) ∧
    (∃ (ports : List (Nat × Nat)) (k : Nat × Nat) (q : Nat × Nat) (x : Nat × Nat) (m : Nat), ports.Pairwise (fun x y => x.1 < y.1) ∧
      rakeNext ports k = some q ∧ x ∈ ports ∧ m < x.2 ∧ (k.1 < x.1 ∨ (k.1 = x.1 ∧ k.2 ≤ m))) ∧
    (∃ (s : State) (noise : List (Nat × Byte)) (gen : Nat) (p : Nat) (n : Nat) (rd : SlotRead), s.opRunning 8 = true ∧ p < 8 ∧
      s.rakeSlot = some (p, n) ∧ n / 4096 ∉ (s.bport p).retired ∧ (s.slot (slotBase * p + n)).st ≠ 3 ∧ (s.slot (slotBase * p +
      n)).read noise = rd ∧ rd.bad = false ∧ 0 < rd.errs) ∧
    (∃ (s : State) (noise : List (Nat × Byte)) (gen : Nat) (p : Nat) (n : Nat) (rd : SlotRead), s.opRunning 8 = true ∧ p < 8 ∧ n <
      slotBase ∧ s.rakeSlot = some (p, n) ∧ n / 4096 ∉ (s.bport p).retired ∧ (s.slot (slotBase * p + n)).st ≠ 3 ∧ (s.slot (slotBase
      * p + n)).read noise = rd ∧ rd.bad = true ∧ s.durableFlows = []) ∧
    (∃ (x : Slot), x.st < 4) ∧
    (∃ (x : Slot) (noise : List (Nat × Byte)), (6 < (x.read noise).errs ∨ 4 ≤ bitsOf (x.read noise).word 15 12 ∨ bitsOf (x.read
      noise).word 11 0 ≠ wordCheck ((x.read noise).word / 65536) (bitsOf (x.read noise).word 15 12) (x.cellBytes.take 4))) ∧
    (∃ (s : State) (gen : Nat), s.opRunning 8 = true ∧ (∀ q ∈ s.basin.slots, q.2.st < 4) ∧ (∀ q ∈ s.rakeSlot, rakeNext
      (s.upPorts.map (fun p => (p, s.rdN (Obj.slots p)))) (q.1, q.2 + 1) = none)) ∧
    (∃ (s : State) (noise : List (Nat × Byte)) (gen : Nat), s.opRunning 8 = false) ∧
    (∃ (s : State) (p : Fin 8) (page : Nat) (v : Nat) (w : Swap), s.integ.swaps = [w] ∧ w.kind = 5 ∧ w.unit = pageBase * p.val +
      page ∧ w.valid.isSome = true ∧ w.succ = some v) ∧
    (∃ (s : State) (p : Fin 8) (page : Nat), (∀ w ∈ s.integ.swaps, w.kind = 5 → w.unit ≠ pageBase * p.val + page)) ∧
    (∃ (s : State) (u : Nat) (k : Nat) (rest : List Nat), s.integ.reported = u :: rest ∧ unitKind u = some k ∧ s.unitRetired u =
      false ∧ s.unitSpare u = true ∧ s.integ.swaps = [] ∧ s.integ.late = [] ∧ s.start.started = false) ∧
    (∃ (s : State), s.integ.reported = []) ∧
    (∃ (s : State) (c : Fin 12) (w : Swap) (n : Nat), s.integ.swaps = [w] ∧ w.kind = 3 ∧ (w.unit - 0x1300) / 17 = c.val ∧ w.valid =
      some n ∧ n < s.core.tick) :=
  ⟨⟨{ wt 9 with integ.laps := [(21, (2, 4))], integ.scrubAt := [(21, 5)] }, 21, 5, 0, [], by and_intros <;> decide +kernel⟩,
   ⟨{ wt 9 with integ.scrubAt := [(21, 5)] }, 21, 5, 0, [], by and_intros <;> decide +kernel⟩,
   ⟨{ wt 9 with integ.scrubAt := [(21, 5)] }, 21, 5, 8, 2, [], by and_intros <;> decide +kernel⟩,
   ⟨(wd [(domCluster 2, 0)]), 2, 0, 0, 1, true, [], by decide +kernel⟩,
   ⟨(wrk 6 8192), 7, 1, 6, by and_intros <;> decide +kernel⟩,
   ⟨[(0, 3), (2, 5)], (0, 3), (2, 0), by and_intros <;> decide +kernel⟩,
   ⟨[(0, 3), (2, 5)], (0, 3), (2, 0), (2, 5), 4, by and_intros <;> decide +kernel⟩,
   ⟨(wrk 6 8192), [(5, 1), (7, 2)], 0, 1, 6, ⟨2, slotWord 0 0 [0, 0, 0, 0], false⟩, by and_intros <;> decide +kernel⟩,
   ⟨(wrk 6 8192), [(255, 1)], 0, 1, 6, ⟨0, slotWord 0 0 [0, 0, 0, 0] ^^^ 1, true⟩, by and_intros <;> decide +kernel⟩,
   ⟨{ st := 2, gen := 5 }, by decide +kernel⟩,
   ⟨{}, [(254, 64)], by decide +kernel⟩,
   ⟨(wrk 8191 8192), 3, by and_intros <;> decide +kernel⟩,
   ⟨w0, [(9, 1)], 3, by decide +kernel⟩,
   ⟨{ wrk 0 0 with integ.swaps := [wpg] }, 1, 7, 9, wpg, by and_intros <;> decide +kernel⟩,
   ⟨{ wrk 0 0 with integ.swaps := [wpg] }, 1, 8, by decide +kernel⟩,
   ⟨{ wrk 0 0 with start.started := false, integ.reported := [0x110C, 0x1105] }, 0x110C, 1, [0x1105],
      by and_intros <;> decide +kernel⟩,
   ⟨w0, by decide +kernel⟩,
   ⟨{ wrk 0 0 with integ.swaps := [wen] }, 2, wen, 4, by and_intros <;> decide +kernel⟩⟩
end W29

/-! ### Witnesses: statements of file 30 -/

namespace W30
/-- A request in progress. -/
def wq (t : Nat) (u : Bool) : PowReq := ⟨t, u, 2, 0, false⟩
/-- WAKE_ENABLE and no more. -/
def wwe (m : Nat) : State := wr [(Obj.wakeEnable, m)] (wt 300)
/-- A word that carries 0xA5C3. -/
def wkw : WakeWord := ⟨1, 10, (List.range 16).map (fun i => if bitOf 0xA5C3 (15 - i) then 9 else 1)⟩
theorem witness_PowerStepsDormantAndWake :
    (∃ (s : State) (d : Fin 37) (a : Nat), s.power.opening = [(d.val, a)] ∧ a + 1 ≤ s.core.tick) ∧
    (∃ (s : State) (d : Fin 37), (∀ o ∈ s.power.opening, o.1 = d.val → s.core.tick < o.2 + 1)) ∧
    (∃ (s : State) (d : Fin 37) (a : Nat), s.power.powering = [(d.val, a)] ∧ a + 100 ≤ s.core.tick) ∧
    (∃ (s : State) (d : Fin 37), (∀ o ∈ s.power.powering, o.1 = d.val → s.core.tick < o.2 + 100)) ∧
    (∃ (s : State) (q : PowReq) (k : Nat) (id : Nat), s.power.cur = some q ∧ q.urgent = false ∧ s.power.since + s.rdN Obj.drainLimit
      ≤ s.core.tick ∧ firstRefuser ((s.refusers q).filter waitedFor) = some (k, id)) ∧
    (∃ (s : State), s.power.cur = none) ∧
    (∃ (s : State), s.power.dormantCommitted = true ∧ s.power.since + 1 ≤ s.core.tick ∧ s.power.wakeWaiting = none) ∧
    (∃ (s : State), s.power.dormantCommitted = false) ∧
    (∃ (s : State) (k : WakeSource), s.power.dormant = true ∧ bitOf (s.rdN Obj.wakeEnable) k.bit = true ∧ s.wakeDetected k = true) ∧
    (∃ (s : State) (k : WakeSource) (q : PowReq), s.power.dormant = false ∧ s.power.dormantCommitted = false ∧ s.power.cur = some q
      ∧ q.target = 3 ∧ bitOf (s.rdN Obj.wakeEnable) k.bit = true ∧ s.wakeDetected k = true) ∧
    (∃ (s : State) (k : WakeSource), bitOf (s.rdN Obj.wakeEnable) k.bit = false) ∧
    (∃ (s : State) (r : Fin 4), (tget (fun _ => 0) s.sup.wakeSince r.val = 0 ∨ s.core.tick < tget (fun _ => 0) s.sup.wakeSince r.val
      + 999)) ∧
    (∃ (s : State) (lane : Fin 64), (∀ i, i < 8 → s.isPort (lane.val / 8 * 8 + i) = false)) ∧
    (∃ (s : State) (rate : Nat) (sets : Nat), (rate ≠ 0 ∨ sets < 8)) ∧
    (∃ (s : State) (w : WakeWord), s.power.dormant = true ∧ bitOf (s.rdN Obj.wakeEnable) (8 + w.r.val) = true ∧ w.energy.length = 16
      ∧ (∀ i, i < 16 → decide (w.full < 2 * w.energy.getD i 0) = bitOf 0xA5C3 (15 - i))) ∧
    (∃ (s : State) (w : WakeWord), (w.energy.length ≠ 16 ∨ ∃ i, i < 16 ∧ decide (w.full < 2 * w.energy.getD i 0) ≠ bitOf 0xA5C3 (15
      - i))) ∧
    (∃ (s : State) (r : Fin 4), tget (fun _ => 0) s.power.wakeSend r ≠ 0 ∧ tget (fun _ => 0) s.power.wakeSend r ≤ s.core.tick) :=
  ⟨⟨{ wt 9 with power.opening := [(5, 8)] }, 5, 8, by and_intros <;> decide +kernel⟩,
   ⟨{ wt 8 with power.opening := [(5, 8)] }, 5, by decide +kernel⟩,
   ⟨{ wd [(36, 1)] (wt 108) with power.powering := [(36, 8)] }, 36, 8, by and_intros <;> decide +kernel⟩,
   ⟨{ wt 107 with power.powering := [(36, 8)] }, 36, by decide +kernel⟩,
   ⟨{ wd [(1, 3)] (wt 300) with power.cur := some (wq 1 false), power.since := 100, agent.dma := [(3, { bar2Offset := 0x5FFFC0, length := 64 })] },
      (wq 1 false), 2, 3, by and_intros <;> decide +kernel⟩,
   ⟨w0, by decide +kernel⟩,
   ⟨{ wt 9 with power.dormantCommitted := true, power.since := 8, power.cur := some (wq 3 false) },
      by and_intros <;> decide +kernel⟩,
   ⟨w0, by decide +kernel⟩,
   ⟨{ wwe 1 with power.dormant := true }, .management, by and_intros <;> decide +kernel⟩,
   ⟨{ wwe 8 with power.cur := some ⟨3, false, 0, 0, false⟩ }, (.wakeSets 0 8), ⟨3, false, 0, 0, false⟩,
      by and_intros <;> decide +kernel⟩,
   ⟨(wwe 8), .towpath, by decide +kernel⟩,
   ⟨{ wt 1000 with sup.wakeSince := [(1, 2)] }, 1, by decide +kernel⟩,
   ⟨(wr [(Obj.groupLayout 0, 0)] (wwe 2)), 3, by decide +kernel⟩,
   ⟨(wwe 2), 0, 7, by decide +kernel⟩,
   ⟨{ wwe 0x200 with power.dormant := true }, wkw, by and_intros <;> decide +kernel⟩,
   ⟨(wwe 0x200), { wkw with energy := [] }, by decide +kernel⟩,
   ⟨{ wt 300 with power.wakeSend := [(1, 300)] }, 1, by and_intros <;> decide +kernel⟩⟩
theorem witness_ThermalOscillatorRailAndTwiEvents :
    (∃ (s : State) (ch : Fin 4) (temp : Nat), s.rdN Obj.thermalTripLevel < temp ∧ temp < 65536 ∧ s.start.inReset = false ∧
      s.power.cur = none ∧ s.power.waiting = none ∧ s.power.pend = none ∧ s.power.leaving = false ∧ s.power.dormant = false) ∧
    (∃ (s : State) (ch : Fin 4) (temp : Nat), temp ≤ s.rdN Obj.thermalTripLevel) ∧
    (∃ (s : State), s.rdN Obj.thermalState = 1) ∧
    (∃ (s : State), s.board.hot = true ∧ s.board.noOsc = false) ∧
    (∃ (s : State), s.board.hot = false) ∧
    (∃ (s : State), s.board.noOsc = true ∧ s.board.hot = false) ∧
    (∃ (s : State), s.board.noOsc = false) ∧
    (∃ (s : State) (a : Assay), 5 ≤ s.start.step ∧ s.rdN Obj.avsState = 0 ∧ s.board.avsMoved + 100 ≤ s.core.tick ∧ s.integ.assay =
      some a ∧ a.kind < 2) ∧
    (∃ (s : State), 6 ≤ s.start.step ∧ (∀ a ∈ s.integ.assay, a.kind = 2) ∧ s.rdN Obj.avsState = 0 ∧ s.board.avsMoved + 100 ≤
      s.core.tick) ∧
    (∃ (s : State), 5 ≤ s.start.step ∧ s.rdN Obj.avsState = 0 ∧ s.board.avsFails = 2) ∧
    (∃ (s : State) (ok : Bool), s.start.step < 5) ∧
    (∃ (s : State), s.rdN Obj.avsState = 1 ∧ s.board.avsRetry + 100000 ≤ s.core.tick) ∧
    (∃ (s : State) (ok : Bool), s.core.tick < s.board.avsRetry + 100000) ∧
    (∃ (s : State) (r : Fin 4) (x : Twi) (data : List Byte), s.board.twi = [(r.val, x)] ∧ data.length = x.reads ∧ x.reads ≤ 16) ∧
    (∃ (s : State) (r : Fin 4) (x : Twi), s.board.twi = [(r.val, x)]) ∧
    (∃ (s : State) (r : Fin 4), (∀ q ∈ s.board.twi, q.1 ≠ r.val)) :=
  ⟨⟨(wd [(1, 3)]), 1, 12000, by and_intros <;> decide +kernel⟩,
   ⟨w0, 1, 5, by decide +kernel⟩,
   ⟨(wr [(Obj.thermalState, 1)] (wt 9)), by decide +kernel⟩,
   ⟨{ State.reset with board.hot := true }, by and_intros <;> decide +kernel⟩,
   ⟨w0, by decide +kernel⟩,
   ⟨{ State.reset with board.noOsc := true }, by and_intros <;> decide +kernel⟩,
   ⟨w0, by decide +kernel⟩,
   ⟨{ wt 100 with integ.assay := some { kind := 1 } }, { kind := 1 }, by and_intros <;> decide +kernel⟩,
   ⟨(wr [(Obj.avsTarget, 703)] (wt 100)), by and_intros <;> decide +kernel⟩,
   ⟨{ wt 100 with board.avsFails := 2 }, by and_intros <;> decide +kernel⟩,
   ⟨{ wt 100 with start.step := 4 }, false, by decide +kernel⟩,
   ⟨(wr [(Obj.avsState, 1)] (wt 100000)), by and_intros <;> decide +kernel⟩,
   ⟨(wr [(Obj.avsState, 1)] (wt 99999)), true, by decide +kernel⟩,
   ⟨{ wt 9 with board.twi := [(2, { addr := 0x50, reads := 2 })] }, 2, { addr := 0x50, reads := 2 }, [5, 6],
      by and_intros <;> decide +kernel⟩,
   ⟨{ wt 9 with board.twi := [(2, { addr := 0x50, reads := 2 })] }, 2, { addr := 0x50, reads := 2 }, by decide +kernel⟩,
   ⟨{ wt 9 with board.twi := [(2, { addr := 0x50, reads := 2 })] }, 1, by decide +kernel⟩⟩
end W30

/-! ### Witnesses: the queue, the writes, the encodings -/

namespace W00
theorem witness_StepServesTheQueueInOrder :
    (∃ (c : Instr) (rest : List Instr) (s : State), s.pending = c :: rest) ∧ (∃ (s : State), s.pending = []) :=
  ⟨⟨.tickMarkerSend, [.resetNRelease], { State.reset with pending := [.tickMarkerSend, .resetNRelease] }, rfl⟩, ⟨State.reset, rfl⟩⟩
/-- The agent serves, its window is open, and a SECURE session 3 has accepted 1 and 2. -/
def wso (l : List (Nat × Nat) := []) : State :=
  { wr l with
    agent.serving := true, core.windowOpen := true,
    agent.sessions := [(3, { isOpen := true, level := 3, hi := 2, seen := [1, 2] })] }
/-- The row of an entry. -/
def wrow (idx sub : Nat) : Row :=
  ((rowsOf idx).filter (fun r => r.lo ≤ sub && sub ≤ r.hi)).headD ⟨0, 0, .u8, .ro, false, 0, .any⟩
/-- The hypotheses that the cases of a write that is taken share. -/
def shared (s u : State) (i : Instr) (sess : Fin 17) (seq key : Nat) (words : List Nat) (r : Row) (v : Int) : Prop :=
  writeOf i = some (sess, seq, key, words) ∧ s.takes sess seq ∧ u = s.accepted sess seq ∧
  u.writeHead sess (key / 256) (key % 256) = .ok r ∧ bodyStatus (key / 256) (key % 256) r (reqWords words) = .ok v
theorem witness_SessionWritesAreCheckedStagedOrDoneAtOnce :
    (∃ s u i sess seq key words r v, shared s u i sess seq key words r v ∧ r.staged = true ∧
      u.windowTakes (u.stagedEntries (key / 256) (key % 256) v).length = true ∧ u.writeTail (key / 256) (key % 256) r v = none) ∧
    (∃ s u i sess seq key words r v, shared s u i sess seq key words r v ∧ r.staged = true ∧
      u.windowTakes (u.stagedEntries (key / 256) (key % 256) v).length = false) ∧
    (∃ s u i sess seq key words r v, shared s u i sess seq key words r v ∧ r.staged = false ∧
      u.writeTail (key / 256) (key % 256) r v = none) ∧
    (∃ s u i sess seq key words r v e, shared s u i sess seq key words r v ∧ u.writeTail (key / 256) (key % 256) r v = some e ∧
      key ≠ Obj.keyImport ∧ (r.staged = false ∨ u.windowTakes (u.stagedEntries (key / 256) (key % 256) v).length = true)) ∧
    (∃ (s u : State) (i : Instr) (sess : Fin 17) (seq key : Nat) (words : List Nat) (r : Row) (e : Nat),
      writeOf i = some (sess, seq, key, words) ∧ s.takes sess seq ∧ u = s.accepted sess seq ∧
      (u.writeHead sess (key / 256) (key % 256) = .error e ∨ (u.writeHead sess (key / 256) (key % 256) = .ok r ∧
        bodyStatus (key / 256) (key % 256) r (reqWords words) = .error e))) ∧
    (∃ (s : State) (i : Instr), (writeOf i).isSome = true ∧ s.agent.serving = false) ∧
    (∃ (s : State) (i : Instr) (sess : Fin 17) (seq key : Nat) (words : List Nat), writeOf i = some (sess, seq, key, words) ∧
      s.agent.serving = true ∧ 0 < sess.val ∧ (s.session sess).isOpen = false) ∧
    (∃ (s : State) (i : Instr) (sess : Fin 17) (seq key : Nat) (words : List Nat), writeOf i = some (sess, seq, key, words) ∧
      s.agent.serving = true ∧ 0 < sess.val ∧ (s.session sess).isOpen = true ∧ (s.session sess).accepts (seq % 2 ^ 32) = false) ∧
    (∃ (s u : State) (i : Instr) (sess : Fin 17) (seq key : Nat) (words : List Nat) (v : Int), (∃ w, i = .modeRequest sess seq w) ∧
      writeOf i = some (sess, seq, key, words) ∧ s.admits i v true ∧ u = s.accepted sess seq ∧
      u.windowTakes (u.stagedEntries (key / 256) (key % 256) v).length = true) :=
  ⟨⟨wso, wso.accepted 3 3, .modeRequest 3 3 1, 3, 3, Obj.modeRequest, [1], wrow 0x1600 1, 1,
    ⟨rfl, takes_of (by decide +kernel), rfl, by rfl, by rfl⟩, by decide +kernel, by decide +kernel, by decide +kernel⟩,
   ⟨{ wso with core.windowOpen := false }, { wso with core.windowOpen := false }.accepted 3 3, .modeRequest 3 3 1, 3, 3,
    Obj.modeRequest, [1], wrow 0x1600 1, 1,
    ⟨rfl, takes_of (by decide +kernel), rfl, by rfl, by rfl⟩, by decide +kernel, by decide +kernel⟩,
   ⟨wso, wso.accepted 3 3, .calStart 3 3 1 1, 3, 3, Obj.calStart 1, [1], wrow 0x2221 3, 1,
    ⟨rfl, takes_of (by decide +kernel), rfl, by rfl, by rfl⟩, by decide +kernel, by decide +kernel⟩,
   ⟨wso, wso.accepted 3 3, .groupEnable 3 3 1 2 1, 3, 3, Obj.groupEnable 1 2, [1], wrow 0x2342 1, 1, 12,
    ⟨rfl, takes_of (by decide +kernel), rfl, by rfl, by rfl⟩, by decide +kernel, by decide +kernel, .inr (by decide +kernel)⟩,
   ⟨wso, wso.accepted 3 3, .modeRequest 3 3 99, 3, 3, Obj.modeRequest, [99], wrow 0x1600 1, Status.outOfRange,
    rfl, takes_of (by decide +kernel), rfl, .inr ⟨by rfl, by rfl⟩⟩,
   ⟨State.reset, .modeRequest 3 3 1, rfl, rfl⟩,
   ⟨wso, .modeRequest 4 3 1, 4, 3, Obj.modeRequest, [1], rfl, rfl, by decide, by decide +kernel⟩,
   ⟨wso, .modeRequest 3 2 1, 3, 2, Obj.modeRequest, [1], rfl, rfl, by decide, by decide +kernel, by decide +kernel⟩,
   ⟨wso, wso.accepted 3 3, .modeRequest 3 3 1, 3, 3, Obj.modeRequest, [1], 1, ⟨1, rfl⟩, rfl, admits_of (by decide +kernel), rfl,
    by decide +kernel⟩⟩
theorem witness_EncodedCodewordsMeetEveryParityRow : ∃ rate i, rate < 3 ∧ i < ldpcRows rate := ⟨2, 5, by decide, by decide⟩
/-- A record that fits. -/
def wrec : LedgerRec :=
  { sequence := 7, sliceMap := List.replicate 128 0xFF, repairList := List.replicate 8 0, reserveUsed := List.replicate 8 3 }
theorem witness_LedgerRecordsReadBack : ∃ x : LedgerRec, x.fits := ⟨wrec, by unfold LedgerRec.fits; decide +kernel⟩
theorem witness_ObjectValuesAndMateMessagesReadBack :
    (∃ (t : OType) (v : Int), t.fits v) ∧
    (∃ (t : OType) (ws : List Nat) (v : Int), (∀ w ∈ ws, w < 2 ^ 32) ∧ t.decode ws = some v) ∧
    (∃ (type flags peer : Nat) (body : List Byte), type < 256 ∧ flags < 256 ∧ peer < 65536 ∧ body.length ≤ 1000 ∧
      mateLengthOk type body = true) :=
  ⟨⟨.u8, 255, by unfold OType.fits; decide⟩, ⟨.u64, [1, 2], 2 ^ 32 + 2, by decide, by decide +kernel⟩,
   ⟨255, 255, 65535, List.replicate 1000 0, by decide, by decide, by decide, by decide +kernel, by decide⟩⟩
theorem witness_DictionaryStaysCanonical : ∃ s t : State, s.canonical ∧ step s = .next t :=
  ⟨State.reset, State.reset, by unfold State.canonical; decide +kernel, rfl⟩
end W00

end Sys2Proof.Tests
end

section
/-! The objects' defaults at reset (R62): what the reset state reads, and the default of each entry, by its row of the object
tables or by the number of its unit. -/
open Sys2Proof Sys2Proof.Machine
namespace Sys2Proof.Machine

/-! ### What reset reads -/

/-- No register is written at reset, so each one reads its default. -/
@[simp] theorem State.rd_reset (k : Nat) : State.reset.rd k = objDefault k := tget_nil objDefault k

/-! ### The key of an entry and the record it belongs to -/

theorem objKey_div_256 (idx : Nat) {sub : Nat} (h : sub < 256) : objKey idx sub / 256 = idx := by
  unfold objKey; omega

theorem objKey_mod_256 (idx : Nat) {sub : Nat} (h : sub < 256) : objKey idx sub % 256 = sub := by
  unfold objKey; omega

theorem rowAt_eq_of_canonIdx_eq {i j : Nat} (h : canonIdx i = canonIdx j) (sub : Nat) : rowAt i sub = rowAt j sub := by
  unfold rowAt rowsOf; rw [h]

/-- Reach r's copy of group g's record stands 0x200 above that of the reach before. -/
theorem canonIdx_group {r g : Nat} (hr : r < 4) (hg : g < 8) : canonIdx (0x2140 + 0x200 * r + g) = 0x2140 := by
  have hpos : 0x2000 ≤ 0x2140 + 0x200 * r + g ∧ 0x2140 + 0x200 * r + g < 0x2800 := by omega
  have hoff : (0x2140 + 0x200 * r + g - 0x2000) % 0x200 = 0x140 + g := by omega
  simp (disch := omega) only [canonIdx, if_pos hpos, hoff, if_neg, if_pos]

theorem canonIdx_filter {f : Nat} (hf : f < 32) : canonIdx (0x1660 + f) = 0x1660 := by
  simp (disch := omega) only [canonIdx, if_neg, if_pos]

theorem canonIdx_restUnit {u : Nat} (hu : u < 4) : canonIdx (0x3590 + u) = 0x3590 := by
  simp (disch := omega) only [canonIdx, if_neg, if_pos]

theorem canonIdx_keyGroup {r g : Nat} (hr : r < 4) (hg : g < 8) : canonIdx (0x3820 + 8 * r + g) = 0x3820 := by
  simp (disch := omega) only [canonIdx, if_neg, if_pos]

theorem canonIdx_partition {p : Nat} (hp : p < 4) : canonIdx (0x5310 + p) = 0x5310 := by
  simp (disch := omega) only [canonIdx, if_neg, if_pos]

/-! ### Defaults that the object tables' rows give -/

/-- The entries whose default the number of the unit or of the entry gives, and not the row alone. -/
abbrev DefaultByNumber (base sub : Nat) : Prop :=
  base ∈ [0x2030, 0x2801, 0x3801, 0x3802, 0x1660, 0x1602] ∨
  (base, sub) ∈ [(0x2140, 4), (0x3590, 2), (0x3590, 3), (0x5010, 2), (0x5000, 7), (0x5310, 1), (0x1510, 2), (0x1510, 7)]

/-- The default is the one in the entry's row of the record at base, which the index belongs to. -/
theorem objDefault_of_row (base : Nat) {idx sub : Nat} {v : Int} (hbase : canonIdx idx = canonIdx base) (hpos : 0 < sub)
    (hlt : sub < 256) (hnum : ¬ DefaultByNumber (canonIdx base) sub) (hrow : (rowAt base sub).map Row.dflt = some v) :
    objDefault (objKey idx sub) = v := by
  obtain ⟨row, hat, rfl⟩ := Option.map_eq_some_iff.mp hrow
  rw [← rowAt_eq_of_canonIdx_eq hbase] at hat
  simp only [DefaultByNumber, ← hbase, List.mem_cons, Prod.mk.injEq, List.not_mem_nil, or_false, not_or] at hnum
  simp only [objDefault, objKey_div_256 idx hlt, objKey_mod_256 idx hlt, hpos.ne', hnum, hat, if_false]

theorem objDefault_hostPortLevel : objDefault Obj.hostPortLevel = 2 :=
  objDefault_of_row 0x1410 rfl (by decide) (by decide) (by decide) (by decide)

theorem objDefault_idleTimeout : objDefault Obj.idleTimeout = 6000000 :=
  objDefault_of_row 0x1410 rfl (by decide) (by decide) (by decide) (by decide)

theorem objDefault_drainLimit : objDefault Obj.drainLimit = 200 :=
  objDefault_of_row 0x1200 rfl (by decide) (by decide) (by decide) (by decide)

theorem objDefault_stockpileReserve : objDefault Obj.stockpileReserve = 64 :=
  objDefault_of_row 0x3510 rfl (by decide) (by decide) (by decide) (by decide)

theorem objDefault_pathSelectGpio {u : Nat} (hu : u < 4) : objDefault (Obj.pathSelectGpio u) = 255 :=
  objDefault_of_row 0x3590 (canonIdx_restUnit hu) (by decide) (by decide) (by decide) (by decide)

theorem objDefault_keySlot {r g : Nat} (hr : r < 4) (hg : g < 8) : objDefault (Obj.keySlot r g) = 1 :=
  objDefault_of_row 0x3820 (canonIdx_keyGroup hr hg) (by decide) (by decide) (by decide) (by decide)

/-! ### Defaults that the number of the unit or of the entry gives -/

/-- The last core of each quarter of 13 is its stockpile core. -/
theorem objDefault_decCoreState {n : Nat} (hn : n < 52) :
    objDefault (Obj.decCoreState n) = if n % 13 = 12 then 2 else 1 := by
  have hsub : 1 + n < 256 := by omega
  have hbase : canonIdx 0x2801 = 0x2801 := by decide
  have hlast : (1 + n) % 13 = 0 ↔ n % 13 = 12 := by omega
  simp [objDefault, Obj.decCoreState, objKey_div_256 _ hsub, objKey_mod_256 _ hsub, hbase, hlast]

/-- Group 0 of each reach has every sub-carrier. -/
theorem objDefault_subcarrierCount {r g : Nat} (hr : r < 4) (hg : g < 8) :
    objDefault (Obj.subcarrierCount r g) = if g = 0 then 64 else 0 := by
  have hoff : (0x2140 + 0x200 * r + g - 0x2140) % 0x200 = g := by omega
  simp only [objDefault, Obj.subcarrierCount, objKey_div_256 _ (show 4 < 256 by decide),
    objKey_mod_256 _ (show 4 < 256 by decide), canonIdx_group hr hg, hoff]
  simp

/-- The first tap of either bank passes the signal at full scale. -/
theorem objDefault_filterCoeff {f n : Nat} (hf : f < 32) (hn : n < 64) :
    objDefault (Obj.filterCoeff f n) = if n % 32 = 0 then 131071 else 0 := by
  have hsub : 1 + n < 256 := by omega
  have hfirst : 1 + n = 1 ∨ 1 + n = 33 ↔ n % 32 = 0 := by omega
  simp only [objDefault, Obj.filterCoeff, objKey_div_256 _ hsub, objKey_mod_256 _ hsub, canonIdx_filter hf, hfirst]
  simp

/-- Partition p starts as cluster 8 + p alone. -/
theorem objDefault_firstCluster {p : Nat} (hp : p < 4) : objDefault (Obj.firstCluster p) = 8 + (p : Int) := by
  simp [objDefault, Obj.firstCluster, objKey_div_256 _ (show 1 < 256 by decide), objKey_mod_256 _ (show 1 < 256 by decide),
    canonIdx_partition hp]

/-! ### The obligation -/

/-- Settles O2: the reset state has no register written, and each default is the case of its family's lemma. -/
theorem resetGivesEveryObjectItsDefault : Obligations.ResetGivesEveryObjectItsDefault := by
  unfold Obligations.ResetGivesEveryObjectItsDefault
  exact ⟨State.rd_reset, objDefault_hostPortLevel, objDefault_idleTimeout, objDefault_drainLimit,
    objDefault_decCoreState (by decide), objDefault_decCoreState (by decide),
    objDefault_subcarrierCount (by decide) (by decide), objDefault_subcarrierCount (by decide) (by decide),
    objDefault_stockpileReserve, objDefault_pathSelectGpio (by decide),
    objDefault_filterCoeff (by decide) (by decide), objDefault_keySlot (by decide) (by decide),
    objDefault_firstCluster (by decide)⟩

end Sys2Proof.Machine
end

section
/-! The encoder's codewords meet H·c = 0 (R209–R212): XOR over a list of columns, the entries of the parity columns, each
parity block as the sum of the rows before it, and a row of H on a codeword. -/
open Sys2Proof Sys2Proof.Machine
namespace Sys2Proof.Machine

/-! ### XOR over a list -/

@[simp] theorem xorOver_nil (f : Nat → BitVec 512) : xorOver [] f = 0 := rfl

theorem foldl_xor_eq_xor_xorOver (l : List Nat) (f : Nat → BitVec 512) (a : BitVec 512) :
    l.foldl (fun b j => b ^^^ f j) a = a ^^^ xorOver l f := by
  induction l generalizing a with
  | nil => simp
  | cons j l ih =>
    have hcons : xorOver (j :: l) f = f j ^^^ xorOver l f := (ih (0 ^^^ f j)).trans (by simp)
    rw [List.foldl_cons, ih, hcons, BitVec.xor_assoc]

theorem xorOver_append (l₁ l₂ : List Nat) (f : Nat → BitVec 512) :
    xorOver (l₁ ++ l₂) f = xorOver l₁ f ^^^ xorOver l₂ f := by
  rw [xorOver, List.foldl_append, foldl_xor_eq_xor_xorOver l₂, ← xorOver]

@[simp] theorem xorOver_singleton (j : Nat) (f : Nat → BitVec 512) : xorOver [j] f = f j := by simp [xorOver]

theorem xorOver_map (l : List Nat) (g : Nat → Nat) (f : Nat → BitVec 512) :
    xorOver (l.map g) f = xorOver l (fun j => f (g j)) := List.foldl_map

theorem xorOver_congr {l : List Nat} {f g : Nat → BitVec 512} (h : ∀ j ∈ l, f j = g j) : xorOver l f = xorOver l g :=
  List.foldl_ext _ _ _ fun a j hj => by rw [h j hj]

theorem xorOver_range_succ (n : Nat) (f : Nat → BitVec 512) :
    xorOver (List.range (n + 1)) f = xorOver (List.range n) f ^^^ f n := by
  rw [List.range_succ, xorOver_append, xorOver_singleton]

/-- Two neighbouring ones in a row of n columns take at most two blocks. -/
theorem xorOver_range_neighbours (n i : Nat) (f : Nat → BitVec 512) :
    xorOver (List.range n) (fun k => if i = k ∨ i = k + 1 then f (k + 1) else 0) =
      (if i < n then f (i + 1) else 0) ^^^ (if 0 < i ∧ i ≤ n then f i else 0) := by
  induction n with
  | zero =>
    have hnone : ¬ (0 < i ∧ i ≤ 0) := by omega
    rw [if_neg i.not_lt_zero, if_neg hnone, List.range_zero, xorOver_nil]
    exact BitVec.xor_self.symm
  | succ n ih =>
    rw [xorOver_range_succ, ih]
    obtain hlt | rfl | rfl | hgt : i < n ∨ i = n ∨ i = n + 1 ∨ n + 1 < i := by omega
    · have hno : ¬ (i = n ∨ i = n + 1) := by omega
      have hle : (0 < i ∧ i ≤ n + 1) ↔ (0 < i ∧ i ≤ n) := by omega
      simp only [hno, hle, hlt, Nat.lt_succ_of_lt hlt, if_true, if_false]
      exact BitVec.xor_zero
    · have hle : (0 < i ∧ i ≤ i + 1) ↔ (0 < i ∧ i ≤ i) := by omega
      simp only [hle, lt_irrefl, Nat.lt_succ_self, true_or, if_true, if_false]
      generalize (if 0 < i ∧ i ≤ i then f i else 0) = y
      simp [BitVec.xor_comm]
    · simp
    · simp [show ¬ i < n by omega, show ¬ i < n + 1 by omega, show ¬ i ≤ n by omega, show ¬ i ≤ n + 1 by omega,
        show i ≠ n by omega, hgt.ne']

/-! ### The base matrix -/

theorem ldpcRows_bounds (rate : Nat) : 6 ≤ ldpcRows rate ∧ ldpcRows rate ≤ 15 := by
  unfold ldpcRows; split_ifs <;> decide

/-- The columns are the information columns, column K_b, and the m − 1 columns after it (R209). -/
theorem range_columns (rate : Nat) :
    List.range 60 = List.range (ldpcInfoCols rate) ++
      (ldpcInfoCols rate :: (List.range (ldpcRows rate - 1)).map (fun k => ldpcInfoCols rate + (k + 1))) := by
  obtain ⟨hlo, hhi⟩ := ldpcRows_bounds rate
  have h60 : 60 = ldpcInfoCols rate + (ldpcRows rate - 1 + 1) := by unfold ldpcInfoCols; omega
  rw [h60, List.range_add, List.range_succ_eq_map]
  simp [Function.comp_def]

@[simp] theorem circulant_zero (x : BitVec 512) : circulant 0 x = x := by
  simp [circulant, BitVec.rotateRight_def]

/-- Column K_b of H has rows 0, μ and m − 1 (R211). -/
theorem ldpcEntry_infoCols (rate i : Nat) :
    ldpcEntry rate i (ldpcInfoCols rate) =
      if i = 0 ∨ i = ldpcRows rate - 1 then some 1 else if i = ldpcMiddle rate then some 0 else none := by
  simp [ldpcEntry]

/-- What a row between the first and the last has of p_0. -/
theorem ldpcEntry_infoCols_between {rate q : Nat} (x : BitVec 512) (hq : q + 1 < ldpcRows rate - 1) :
    (ldpcEntry rate (q + 1) (ldpcInfoCols rate)).elim 0 (fun s => circulant s x) =
      if q + 1 = ldpcMiddle rate then x else 0 := by
  have hinner : ¬ (q + 1 = 0 ∨ q + 1 = ldpcRows rate - 1) := by omega
  rw [ldpcEntry_infoCols, if_neg hinner]
  split_ifs <;> simp

/-- Column K_b + k + 1 of H has rows k and k + 1 (R211). -/
theorem ldpcEntry_infoCols_add_succ {rate k : Nat} (i : Nat) (hk : k + 1 < ldpcRows rate) :
    ldpcEntry rate i (ldpcInfoCols rate + (k + 1)) = if i = k ∨ i = k + 1 then some 0 else none := by
  have h60 : ldpcInfoCols rate + (k + 1) < 60 := by
    have := ldpcRows_bounds rate
    unfold ldpcInfoCols; omega
  simp [ldpcEntry, h60]

theorem ldpcRowSum_eq_xorOver (rate i : Nat) (cols : List Nat) (block : Nat → BitVec 512) :
    ldpcRowSum rate i cols block =
      xorOver cols (fun j => (ldpcEntry rate i j).elim 0 (fun s => circulant s (block j))) := by
  unfold ldpcRowSum
  refine xorOver_congr fun j _ => ?_
  cases ldpcEntry rate i j <;> rfl

theorem ldpcRowSum_congr {rate i : Nat} {cols : List Nat} {b c : Nat → BitVec 512} (h : ∀ j ∈ cols, b j = c j) :
    ldpcRowSum rate i cols b = ldpcRowSum rate i cols c := by
  rw [ldpcRowSum_eq_xorOver, ldpcRowSum_eq_xorOver]
  exact xorOver_congr fun j hj => by rw [h j hj]

/-! ### The encoder's blocks -/

theorem ldpcCodeword_of_lt {rate j : Nat} (u : Nat → BitVec 512) (h : j < ldpcInfoCols rate) :
    ldpcCodeword rate u j = u j := if_pos h

@[simp] theorem ldpcCodeword_infoCols_add (rate q : Nat) (u : Nat → BitVec 512) :
    ldpcCodeword rate u (ldpcInfoCols rate + q) = ldpcParity rate u q := by
  simp [ldpcCodeword]

@[simp] theorem ldpcCodeword_infoCols (rate : Nat) (u : Nat → BitVec 512) :
    ldpcCodeword rate u (ldpcInfoCols rate) = ldpcP0 rate u := by
  simp [ldpcCodeword, ldpcParity]

/-- Parity block q + 1 sums the information of rows 0 to q and what those rows have of p_0: P^1 p_0 in row 0 and p_0 in row μ. -/
theorem ldpcParity_succ_eq_xorOver (rate : Nat) (u : Nat → BitVec 512) (q : Nat) :
    ldpcParity rate u (q + 1) = xorOver (List.range (q + 1)) (ldpcLambda rate u) ^^^ circulant 1 (ldpcP0 rate u) ^^^
      (if ldpcMiddle rate ≤ q then ldpcP0 rate u else 0) := by
  induction q with
  | zero =>
    have hmid : ¬ ldpcMiddle rate ≤ 0 := by
      have := ldpcRows_bounds rate
      unfold ldpcMiddle; omega
    simp [ldpcParity, hmid]
  | succ q ih =>
    rw [ldpcParity, ih, xorOver_range_succ (q + 1)]
    obtain hlt | heq | hgt := lt_trichotomy (q + 1) (ldpcMiddle rate)
    · simp [hlt.ne, show ¬ ldpcMiddle rate ≤ q + 1 by omega, show ¬ ldpcMiddle rate ≤ q by omega]
      ac_rfl
    · simp [← heq]
      ac_rfl
    · simp [hgt.ne', hgt.le, show ldpcMiddle rate ≤ q by omega]
      ac_rfl

/-! ### A row of H on a codeword -/

/-- Row i of H on a codeword: its information entries, its entry of column K_b, and the parity blocks i + 1 and i. -/
theorem ldpcSyndrome_ldpcCodeword (rate i : Nat) (u : Nat → BitVec 512) :
    ldpcSyndrome rate i (ldpcCodeword rate u) =
      ldpcLambda rate u i ^^^
      (ldpcEntry rate i (ldpcInfoCols rate)).elim 0 (fun s => circulant s (ldpcP0 rate u)) ^^^
      ((if i < ldpcRows rate - 1 then ldpcParity rate u (i + 1) else 0) ^^^
       (if 0 < i ∧ i ≤ ldpcRows rate - 1 then ldpcParity rate u i else 0)) := by
  have hinfo : ldpcRowSum rate i (List.range (ldpcInfoCols rate)) (ldpcCodeword rate u) = ldpcLambda rate u i :=
    ldpcRowSum_congr fun j hj => ldpcCodeword_of_lt u (List.mem_range.mp hj)
  have hparity : ∀ k ∈ List.range (ldpcRows rate - 1),
      (ldpcEntry rate i (ldpcInfoCols rate + (k + 1))).elim 0
        (fun s => circulant s (ldpcCodeword rate u (ldpcInfoCols rate + (k + 1)))) =
      if i = k ∨ i = k + 1 then ldpcParity rate u (k + 1) else 0 := fun k hk => by
    have hk' : k + 1 < ldpcRows rate := by have := List.mem_range.mp hk; omega
    rw [ldpcEntry_infoCols_add_succ i hk', ldpcCodeword_infoCols_add]
    split_ifs <;> simp
  rw [ldpcSyndrome, range_columns rate, ldpcRowSum_eq_xorOver, xorOver_append, ← ldpcRowSum_eq_xorOver, hinfo,
    ← List.singleton_append, xorOver_append, xorOver_singleton, ldpcCodeword_infoCols, xorOver_map, xorOver_congr hparity,
    xorOver_range_neighbours, BitVec.xor_assoc]

theorem ldpcSyndrome_first (rate : Nat) (u : Nat → BitVec 512) : ldpcSyndrome rate 0 (ldpcCodeword rate u) = 0 := by
  have hrows : 0 < ldpcRows rate - 1 := by have := ldpcRows_bounds rate; omega
  simp [ldpcSyndrome_ldpcCodeword, ldpcEntry_infoCols, hrows, ldpcParity]

theorem ldpcSyndrome_between {rate q : Nat} (u : Nat → BitVec 512) (hq : q + 1 < ldpcRows rate - 1) :
    ldpcSyndrome rate (q + 1) (ldpcCodeword rate u) = 0 := by
  have hpred : 0 < q + 1 ∧ q + 1 ≤ ldpcRows rate - 1 := ⟨q.succ_pos, hq.le⟩
  rw [ldpcSyndrome_ldpcCodeword, ldpcEntry_infoCols_between _ hq, if_pos hq, if_pos hpred, ldpcParity]
  generalize ldpcLambda rate u (q + 1) = a, ldpcParity rate u (q + 1) = b,
    (if q + 1 = ldpcMiddle rate then ldpcP0 rate u else 0) = m
  calc a ^^^ m ^^^ (a ^^^ b ^^^ m ^^^ b) = (a ^^^ a) ^^^ (b ^^^ b) ^^^ (m ^^^ m) := by ac_rfl
    _ = 0 := by simp

/-- Row m − 1, which the encoder leaves out, holds because p_0 is the sum of every row's information (R212). -/
theorem ldpcSyndrome_last (rate : Nat) (u : Nat → BitVec 512) :
    ldpcSyndrome rate (ldpcRows rate - 1) (ldpcCodeword rate u) = 0 := by
  obtain ⟨q, hrows⟩ : ∃ q, ldpcRows rate = q + 2 := ⟨ldpcRows rate - 2, by have := ldpcRows_bounds rate; omega⟩
  have hmid : ldpcMiddle rate ≤ q := by have := ldpcRows_bounds rate; unfold ldpcMiddle; omega
  have hsum : xorOver (List.range (q + 1)) (ldpcLambda rate u) = ldpcLambda rate u (q + 1) ^^^ ldpcP0 rate u := by
    rw [ldpcP0, hrows, xorOver_range_succ (q + 1), BitVec.xor_comm, BitVec.xor_assoc, BitVec.xor_self, BitVec.xor_zero]
  have hlast : ldpcParity rate u (q + 1) = ldpcLambda rate u (q + 1) ^^^ circulant 1 (ldpcP0 rate u) := by
    rw [ldpcParity_succ_eq_xorOver, if_pos hmid, hsum]
    generalize ldpcLambda rate u (q + 1) = a, ldpcP0 rate u = p
    calc a ^^^ p ^^^ circulant 1 p ^^^ p = a ^^^ circulant 1 p ^^^ (p ^^^ p) := by ac_rfl
      _ = a ^^^ circulant 1 p := by simp
  simp [ldpcSyndrome_ldpcCodeword, ldpcEntry_infoCols, hrows, hlast]

/-- Settles O56: the rows by which the encoder finds p_1 to p_{m-1} hold by its recursion, and row m − 1 by the choice of p_0. -/
theorem encodedCodewordsMeetEveryParityRow : Obligations.EncodedCodewordsMeetEveryParityRow := by
  unfold Obligations.EncodedCodewordsMeetEveryParityRow
  intro rate u i _ hi
  obtain hlt | rfl : i < ldpcRows rate - 1 ∨ i = ldpcRows rate - 1 := by omega
  · cases i with
    | zero => exact ldpcSyndrome_first rate u
    | succ q => exact ldpcSyndrome_between u hlt
  · exact ldpcSyndrome_last rate u

end Sys2Proof.Machine
end

section
/-! Steps and the dictionary's canonical form (R62). A register is written by `State.wr` alone, so whatever changes a state keeps
the canonical form: one lemma for each operation of the model, by its own recursion, and one for each command. -/
open Sys2Proof Sys2Proof.Machine
namespace Sys2Proof.Machine

/-- An outcome that is a next state, its dictionary canonical where that of the state before is. -/
def NextCanonical (s : State) (o : Host.Outcome State Fault Refusal) : Prop := ∃ t, o = .next t ∧ (s.canonical → t.canonical)

theorem NextCanonical.next {s t : State} (h : s.canonical → t.canonical) : NextCanonical s (.next t) := ⟨t, rfl, h⟩

theorem NextCanonical.ite {s : State} {p : Prop} [Decidable p] {a b : Host.Outcome State Fault Refusal} (ha : NextCanonical s a)
    (hb : NextCanonical s b) : NextCanonical s (if p then a else b) := by split <;> assumption

namespace State
variable {s : State}

/-! ### Changes of a state, branches and folds -/

theorem canonical_reset : State.reset.canonical := rfl

/-- A change of other fields than the dictionary. -/
theorem canonical_upd {pending core agent start power conv loads eq pool frame berth basin rest key timing towpath engine sup
    integ board} (hc : s.canonical) :
    (State.mk pending s.regs core agent start power conv loads eq pool frame berth basin rest key timing towpath engine sup
      integ board).canonical := hc

theorem canonical_ite {p : Prop} [Decidable p] {a b : State} (ha : a.canonical) (hb : b.canonical) :
    (if p then a else b).canonical := by split <;> assumption

theorem canonical_ite_fst {α : Type} {p : Prop} [Decidable p] {a b : State × α} (ha : a.1.canonical) (hb : b.1.canonical) :
    (if p then a else b).1.canonical := by split <;> assumption

theorem canonical_ite_snd {α : Type} {p : Prop} [Decidable p] {a b : α × State} (ha : a.2.canonical) (hb : b.2.canonical) :
    (if p then a else b).2.canonical := by split <;> assumption

theorem canonical_foldl_fst {α β : Type} {l : List β} {f : State × α → β → State × α} {p : State × α}
    (hf : ∀ p b, p.1.canonical → (f p b).1.canonical) (hc : p.1.canonical) : (l.foldl f p).1.canonical :=
  List.foldlRecOn l f hc fun p hp b _ => hf p b hp

theorem canonical_each {α : Type} {l : List α} {f : State → α → State} (hf : ∀ s a, s.canonical → (f s a).canonical)
    (hc : s.canonical) : (s.each l f).canonical :=
  State.each_ind (P := State.canonical) hf l hc

theorem canonical_onlyIf {b : Bool} {f : State → State} (hf : ∀ {s : State}, s.canonical → (f s).canonical) (hc : s.canonical) :
    (s.onlyIf b f).canonical :=
  State.onlyIf_ind (P := State.canonical) b hf hc

/-! ### Shared operations -/

theorem canonical_roundFree {a b : Nat} (hc : s.canonical) : (s.roundFree a b).2.canonical :=
  canonical_ite_snd hc (canonical_ite_snd hc (canonical_draw hc))

theorem canonical_roundFreeInt {a : Int} {b : Nat} (hc : s.canonical) : (s.roundFreeInt a b).2.canonical :=
  canonical_ite_snd hc (canonical_ite_snd hc (canonical_draw hc))

theorem canonical_raiseLimitedFor {code source n last : Nat} (hc : s.canonical) : (s.raiseLimitedFor code source n
    last).canonical :=
  canonical_raiseLimitedItem _ _ _ _ _ hc

theorem canonical_raiseLimited {code source n : Nat} (hc : s.canonical) : (s.raiseLimited code source n).canonical :=
  canonical_raiseLimitedFor hc

theorem canonical_showPower (hc : s.canonical) : s.showPower.canonical := canonical_wr _ _ (canonical_wr _ _ hc)

theorem canonical_powerRefused {kind ident : Nat} (hc : s.canonical) : (s.powerRefused kind ident).canonical :=
  canonical_raise _ _ _ (canonical_wrN _ _ (canonical_inc _ hc))

theorem canonical_countSuperseded (hc : s.canonical) : s.countSuperseded.canonical := canonical_powerRefused hc

theorem canonical_putTargets {q : PowReq} (hc : s.canonical) : (s.putTargets q).canonical :=
  canonical_ite hc (canonical_each (fun _ _ h => canonical_wrN _ _ h) hc)

theorem canonical_submitPower {q : PowReq} (hc : s.canonical) : (s.submitPower q).canonical := by
  unfold State.submitPower
  dsimp only
  split
  · exact canonical_ite (canonical_showPower (canonical_upd (canonical_onlyIf (fun h => canonical_countSuperseded h)
        (canonical_putTargets hc)))) (canonical_showPower (canonical_upd (canonical_onlyIf (fun h => canonical_countSuperseded
        h) (canonical_onlyIf (fun h => canonical_countSuperseded h) (canonical_putTargets hc)))))
  · exact canonical_ite (canonical_showPower (canonical_upd (canonical_onlyIf (fun h => canonical_countSuperseded h)
        (canonical_putTargets hc)))) (canonical_showPower (canonical_upd (canonical_countSuperseded (canonical_putTargets hc))))

theorem canonical_reportFailed {unit : Nat} (hc : s.canonical) : (s.reportFailed unit).canonical :=
  canonical_ite hc (canonical_upd hc)

theorem canonical_opAdvance {o pos : Nat} (hc : s.canonical) : (s.opAdvance o pos).canonical :=
  canonical_ite (canonical_wrN _ _ (canonical_wrN _ _ hc)) hc

theorem canonical_opResize {o posEnd : Nat} (hc : s.canonical) : (s.opResize o posEnd).canonical :=
  canonical_opAdvance (canonical_wrN _ _ hc)

theorem canonical_signal {v : Nat} (hc : s.canonical) : (s.signal v).canonical :=
  canonical_ite (canonical_setBar _ _ hc) (canonical_upd hc)

theorem canonical_ringWrite {q : Nat} {bs : List Byte} (hc : s.canonical) : (s.ringWrite q bs).canonical :=
  canonical_ite hc (canonical_ite (canonical_setBar _ _ hc) (canonical_ite (canonical_signal (canonical_setBar _ _
      (canonical_upd (canonical_upd hc)))) (canonical_setBar _ _ (canonical_upd (canonical_upd hc)))))

/-! ### The ledger -/

theorem canonical_commitStart {cause : Nat} {clean : Bool} (hc : s.canonical) : (s.commitStart cause clean).canonical :=
  canonical_upd (canonical_ite (canonical_upd hc) hc)

theorem canonical_requestCommit {cause : Nat} {clean : Bool} (hc : s.canonical) : (s.requestCommit cause clean).canonical := by
  unfold State.requestCommit
  refine canonical_ite hc ?_
  split
  · exact canonical_commitStart hc
  · split <;> exact canonical_upd hc

theorem canonical_requestSwap {w : Swap} (hc : s.canonical) : (s.requestSwap w).canonical :=
  canonical_requestCommit (canonical_ite (canonical_ite (canonical_wrN _ _ (canonical_upd hc)) (canonical_upd hc))
      (canonical_upd (canonical_opStart _ _ (canonical_upd hc))))

theorem canonical_exhaustedKind {kind : Nat} (hc : s.canonical) : (s.exhaustedKind kind).canonical :=
  canonical_raise _ _ _ (canonical_wrN _ _ hc)

theorem canonical_trackCorrection {key addr : Nat} (hc : s.canonical) : (s.trackCorrection key addr).1.canonical :=
  canonical_ite (canonical_inc _ (canonical_upd hc)) (canonical_upd hc)

theorem canonical_listRepeat {v : Nat} (hc : s.canonical) : (s.listRepeat v).canonical :=
  canonical_ite (canonical_wrN _ _ (canonical_wrN _ _ hc)) (canonical_inc _ hc)

theorem canonical_spentMacro {mac : Nat} (hc : s.canonical) : (s.spentMacro mac).canonical :=
  canonical_ite hc (canonical_exhaustedKind (canonical_upd hc))

theorem canonical_repairRow {m addr : Nat} (hc : s.canonical) : (s.repairRow m addr).canonical :=
  canonical_ite hc (canonical_ite (canonical_requestSwap hc) (canonical_spentMacro (canonical_listRepeat hc)))

theorem canonical_corrected {m addr : Nat} (hc : s.canonical) : (s.corrected m addr).canonical :=
  canonical_ite (canonical_repairRow (canonical_raiseLimitedFor (canonical_inc _ (canonical_trackCorrection (canonical_inc _
      hc))))) (canonical_trackCorrection (canonical_inc _ hc))

theorem canonical_loseByte {m addr : Nat} (hc : s.canonical) : (s.loseByte m addr).canonical :=
  canonical_ite hc (canonical_upd hc)

theorem canonical_bytesWritten {m addr n : Nat} (hc : s.canonical) : (s.bytesWritten m addr n).canonical :=
  canonical_ite hc (canonical_upd hc)

theorem canonical_uncorrectable {m arg : Nat} (hc : s.canonical) : (s.uncorrectable m arg).canonical :=
  canonical_raiseLimitedFor (canonical_inc _ hc)

/-! ### Line converters -/

theorem canonical_setGainCodes {r : Nat} {cs : List Nat} (hc : s.canonical) : (s.setGainCodes r cs).canonical :=
  canonical_each (fun _ _ h => canonical_wrN _ _ h) hc

theorem canonical_agcToSlew {r : Nat} (hc : s.canonical) : (s.agcToSlew r).canonical := canonical_wrN _ _ (canonical_upd hc)

theorem canonical_agcRelease {r : Nat} (hc : s.canonical) : (s.agcRelease r).canonical :=
  canonical_agcToSlew (canonical_upd (canonical_ite hc (canonical_setGainCodes hc)))

theorem canonical_agcHold {r : Nat} (hc : s.canonical) : (s.agcHold r).canonical := canonical_wrN _ _ hc

theorem canonical_watchSuppress {r : Nat} (hc : s.canonical) : (s.watchSuppress r).canonical :=
  canonical_wrN _ _ (canonical_wrN _ _ (canonical_upd (canonical_ite (canonical_upd hc) hc)))

theorem canonical_agcRearmOp {r : Nat} {seeds : Option (List Nat)} {cause : Nat} (hc : s.canonical) : (s.agcRearmOp r seeds
    cause).canonical := by
  unfold State.agcRearmOp
  refine canonical_ite ?_ ?_
  · refine canonical_upd ?_
    refine canonical_watchSuppress ?_
    refine canonical_raise _ _ _ ?_
    refine canonical_inc _ ?_
    split
    · exact canonical_setGainCodes hc
    · exact hc
  · refine canonical_agcToSlew ?_
    refine canonical_upd ?_
    refine canonical_watchSuppress ?_
    refine canonical_raise _ _ _ ?_
    refine canonical_inc _ ?_
    split
    · exact canonical_setGainCodes hc
    · exact hc

theorem canonical_agcRearmWrite {r v : Nat} (hc : s.canonical) : (s.agcRearmWrite r v).canonical := canonical_agcRearmOp hc

theorem canonical_agcBoundary {r : Nat} {errs : List Int} (hc : s.canonical) : (s.agcBoundary r errs).canonical :=
  canonical_ite (canonical_ite (canonical_agcToSlew (canonical_upd hc)) (canonical_ite (canonical_upd (canonical_setGainCodes
      (canonical_upd hc))) (canonical_upd hc))) (canonical_ite (canonical_each (fun _ _ h => canonical_raise _ _ _ h)
      (canonical_each (fun _ _ h => canonical_wr _ _ h) (canonical_upd (canonical_upd hc)))) (canonical_upd hc))

theorem canonical_agcCount {r : Nat} {found : Bool} (hc : s.canonical) : (s.agcCount r found).canonical :=
  canonical_ite (canonical_upd hc) (canonical_ite (canonical_upd hc) hc)

theorem canonical_agcFreezeOp {r : Nat} (hc : s.canonical) : (s.agcFreezeOp r).canonical :=
  canonical_raise _ _ _ (canonical_inc _ (canonical_wrN _ _ (canonical_each (fun _ _ h => canonical_wr _ _ h) (canonical_upd
      hc))))

theorem canonical_agcLossStep {r : Nat} (hc : s.canonical) : (s.agcLossStep r).canonical :=
  canonical_onlyIf (fun h => canonical_agcRearmOp h) hc

theorem canonical_showRamps {r : Nat} (hc : s.canonical) : (s.showRamps r).canonical := canonical_wrN _ _ (canonical_wrN _ _ hc)

theorem canonical_startRamps {r : Nat} (hc : s.canonical) : (s.startRamps r).canonical :=
  canonical_each (fun _ _ h => canonical_ite h (canonical_upd h)) hc

theorem canonical_turnUp {r : Nat} (hc : s.canonical) : (s.turnUp r).canonical :=
  canonical_ite hc (canonical_showRamps (canonical_startRamps (canonical_wrN _ _ (canonical_upd hc))))

theorem canonical_rampStep {r : Nat} (hc : s.canonical) : (s.rampStep r).canonical :=
  canonical_ite hc (canonical_ite (canonical_ite (canonical_turnUp (canonical_upd (canonical_each (fun _ _ h => canonical_ite h
      (canonical_upd h)) hc))) (canonical_upd (canonical_each (fun _ _ h => canonical_ite h (canonical_upd h)) hc)))
      (canonical_ite (canonical_showRamps (canonical_ite (canonical_wrN _ _ (canonical_each (fun _ _ h => canonical_ite h
      (canonical_upd h)) hc)) (canonical_ite (canonical_wrN _ _ (canonical_each (fun _ _ h => canonical_ite h (canonical_upd h))
      hc)) (canonical_each (fun _ _ h => canonical_ite h (canonical_upd h)) hc)))) (canonical_showRamps (canonical_startRamps
      (canonical_ite (canonical_wrN _ _ (canonical_each (fun _ _ h => canonical_ite h (canonical_upd h)) hc)) (canonical_ite
      (canonical_wrN _ _ (canonical_each (fun _ _ h => canonical_ite h (canonical_upd h)) hc)) (canonical_each (fun _ _ h =>
      canonical_ite h (canonical_upd h)) hc)))))))

theorem canonical_rampEndOp {r : Nat} (hc : s.canonical) : (s.rampEndOp r).canonical :=
  canonical_ite (canonical_wrN _ _ hc) (canonical_ite (canonical_wrN _ _ (canonical_upd hc)) hc)

theorem canonical_emergencyOff {r source : Nat} (hc : s.canonical) : (s.emergencyOff r source).canonical :=
  canonical_raise _ _ _ (canonical_inc _ (canonical_wrN _ _ (canonical_showRamps (canonical_wrN _ _ (canonical_upd
      (canonical_each (fun _ _ h => canonical_upd h) hc))))))

theorem canonical_txOffReleaseOp {r : Nat} (hc : s.canonical) : (s.txOffReleaseOp r).canonical :=
  canonical_ite (canonical_ite (canonical_upd (canonical_wrN _ _ (canonical_wrN _ _ hc))) (canonical_wrN _ _ (canonical_wrN _ _
      hc))) (canonical_wrN _ _ hc)

theorem canonical_calFinish {r : Nat} {skipped : List Nat} {ok : Bool} (hc : s.canonical) : (s.calFinish r skipped ok).canonical
    :=
  canonical_ite (canonical_opDone _ (canonical_opAdvance (canonical_upd (canonical_ite (canonical_inc _ hc) (canonical_inc _
      (canonical_inc _ hc)))))) (canonical_opFail _ _ (canonical_opAdvance (canonical_upd (canonical_ite (canonical_inc _ hc)
      (canonical_inc _ (canonical_inc _ hc))))))

theorem canonical_startRoundOver {r failing : Nat} (hc : s.canonical) : (s.startRoundOver r failing).canonical :=
  canonical_ite (canonical_upd hc) (canonical_ite (canonical_upd hc) (canonical_raise _ _ _ (canonical_upd hc)))

theorem canonical_calApply {r : Nat} (hc : s.canonical) : (s.calApply r).canonical := by
  unfold State.calApply
  dsimp only
  split
  · exact hc
  · refine canonical_ite hc ?_
    refine canonical_onlyIf (fun h => canonical_startRoundOver h) ?_
    refine canonical_calFinish ?_
    refine canonical_each (fun _ _ h => canonical_reportFailed (canonical_raise _ _ _ h)) ?_
    split
    · exact canonical_wrN _ _ (canonical_upd (canonical_each (fun _ _ h => canonical_wrN _ _ h) hc))
    · exact canonical_raise _ _ _ (canonical_wrN _ _ (canonical_upd (canonical_each (fun _ _ h => canonical_wrN _ _ h) hc)))

theorem canonical_coeffReapply {r : Nat} (hc : s.canonical) : (s.coeffReapply r).canonical :=
  canonical_upd (canonical_each (fun _ _ h => canonical_wrN _ _ h) hc)

theorem canonical_calReturn {r : Nat} (hc : s.canonical) : (s.calReturn r).canonical :=
  canonical_ite (canonical_upd (canonical_each (fun _ _ h => canonical_ite h (canonical_wrN _ _ h)) hc)) hc

theorem canonical_calTake {r p : Nat} (hc : s.canonical) : (s.calTake r p).canonical :=
  canonical_upd (canonical_each (fun _ _ h => canonical_wrN _ _ h) hc)

theorem canonical_calSuspend {r : Nat} (hc : s.canonical) : (s.calSuspend r).canonical :=
  canonical_ite (canonical_ite (canonical_upd (canonical_calReturn hc)) (canonical_ite (canonical_ite (canonical_calTake
      (canonical_upd hc)) (canonical_ite (canonical_upd hc) (canonical_upd (canonical_upd hc)))) hc)) hc

theorem canonical_calBoundary {r : Nat} (hc : s.canonical) : (s.calBoundary r).canonical :=
  canonical_ite (canonical_opAbort _ _ (canonical_upd (canonical_calReturn (canonical_upd hc)))) (canonical_ite
      (canonical_opAdvance (canonical_upd hc)) (canonical_calSuspend (canonical_upd hc)))

theorem canonical_calStartOp {r : Nat} (hc : s.canonical) : (s.calStartOp r).canonical :=
  canonical_ite (canonical_upd hc) (canonical_upd hc)

/-! ### Sub-carriers and loading -/

theorem canonical_showCodedBits {r : Nat} (hc : s.canonical) : (s.showCodedBits r).canonical := canonical_wrN _ _ hc

theorem canonical_showTx {r g : Nat} (hc : s.canonical) : (s.showTx r g).canonical :=
  canonical_showCodedBits (canonical_each (fun _ _ h => canonical_wrN _ _ h) (canonical_wrN _ _ hc))

theorem canonical_showRx {r g : Nat} (hc : s.canonical) : (s.showRx r g).canonical :=
  canonical_each (fun _ _ h => canonical_wrN _ _ h) (canonical_wrN _ _ hc)

theorem canonical_showAnn {r g : Nat} (hc : s.canonical) : (s.showAnn r g).canonical := by
  unfold State.showAnn
  split <;> exact canonical_wrN _ _ (canonical_wrN _ _ hc)

theorem canonical_txToProbe {r g : Nat} (hc : s.canonical) : (s.txToProbe r g).canonical :=
  canonical_showAnn (canonical_showTx (canonical_ite (canonical_inc _ (canonical_upd hc)) (canonical_upd hc)))

theorem canonical_abandonAnn {r g : Nat} (hc : s.canonical) : (s.abandonAnn r g).canonical :=
  canonical_showAnn (canonical_upd hc)

theorem canonical_withdrawAnn {r g : Nat} (hc : s.canonical) : (s.withdrawAnn r g).canonical :=
  canonical_showAnn (canonical_upd hc)

theorem canonical_announceStep {r g : Nat} (hc : s.canonical) : (s.announceStep r g).canonical := by
  unfold State.announceStep
  dsimp only
  split
  · exact hc
  · split
    · exact canonical_showAnn (canonical_upd hc)
    · exact canonical_ite (canonical_ite hc (canonical_upd hc)) (canonical_ite (canonical_upd hc) (canonical_showAnn
          (canonical_upd hc)))

theorem canonical_loadingCompute {r g : Nat} (hc : s.canonical) : (s.loadingCompute r g).canonical := by
  unfold State.loadingCompute
  split
  · exact hc
  · exact canonical_upd hc

theorem canonical_loadingAck {r g version check : Nat} (hc : s.canonical) : (s.loadingAck r g version check).canonical := by
  unfold State.loadingAck
  dsimp only
  split
  · exact hc
  · exact canonical_ite (canonical_wrN _ _ (canonical_upd hc)) hc

theorem canonical_loadingDeadline {r g : Nat} (hc : s.canonical) : (s.loadingDeadline r g).canonical := by
  unfold State.loadingDeadline
  dsimp only
  split
  · exact hc
  · exact canonical_ite hc (canonical_ite (canonical_raise _ _ _ (canonical_inc _ (canonical_showAnn (canonical_upd hc))))
        (canonical_raise _ _ _ (canonical_abandonAnn hc)))

theorem canonical_loadingSwitchOp {r g : Nat} {a : Announce} (hc : s.canonical) : (s.loadingSwitchOp r g a).canonical :=
  canonical_raise _ _ _ (canonical_inc _ (canonical_showAnn (canonical_showTx (canonical_upd hc))))

theorem canonical_loadingSwitchDue {r g : Nat} (hc : s.canonical) : (s.loadingSwitchDue r g).canonical := by
  unfold State.loadingSwitchDue
  split
  · exact canonical_ite (canonical_loadingSwitchOp hc) hc
  · exact hc

theorem canonical_rxAnnounce {r g : Nat} {m : MapC} (hc : s.canonical) : (s.rxAnnounce r g m).canonical :=
  canonical_ite (canonical_inc _ hc) (canonical_ite hc (canonical_upd hc))

theorem canonical_rxDemapped {r g : Nat} {m : MapC} (hc : s.canonical) : (s.rxDemapped r g m).canonical :=
  canonical_ite (canonical_ite (canonical_showRx (canonical_upd hc)) hc) (canonical_ite hc (canonical_raise _ _ _
      (canonical_showRx (canonical_upd hc))))

theorem canonical_rxReport {r g : Nat} {rep : LoadReport} (hc : s.canonical) : (s.rxReport r g rep).canonical :=
  canonical_ite (canonical_upd (canonical_upd hc)) (canonical_upd hc)

theorem canonical_rttClear {rg : Nat} (hc : s.canonical) : (s.rttClear rg).canonical := canonical_wrN _ _ (canonical_upd hc)

theorem canonical_restartOp {r g cause : Nat} (hc : s.canonical) : (s.restartOp r g cause).canonical :=
  canonical_rttClear (canonical_raise _ _ _ (canonical_inc _ (canonical_each (fun _ _ h => canonical_wr _ _ h) (canonical_upd
      (canonical_txToProbe hc)))))

theorem canonical_restartDue {r g : Nat} (hc : s.canonical) : (s.restartDue r g).canonical := by
  unfold State.restartDue
  split
  · exact canonical_ite (canonical_restartOp hc) hc
  · exact hc

theorem canonical_fixedResolve {r g : Nat} (hc : s.canonical) : (s.fixedResolve r g).canonical :=
  canonical_ite (canonical_upd hc) hc

theorem canonical_groupStart {r g : Nat} (hc : s.canonical) : (s.groupStart r g).canonical :=
  canonical_showTx (canonical_showRx (canonical_each (fun _ _ h => canonical_wr _ _ h) (canonical_upd (canonical_txToProbe
      hc))))

theorem canonical_groupDrop {r g : Nat} (hc : s.canonical) : (s.groupDrop r g).canonical :=
  canonical_showRx (canonical_each (fun _ _ h => canonical_wr _ _ h) (canonical_upd hc))

theorem canonical_dbOf {a b : Nat} (hc : s.canonical) : (s.dbOf a b).2.canonical :=
  canonical_ite_snd hc (canonical_ite_snd hc (canonical_ite_snd hc (canonical_draw hc)))

theorem canonical_snrCheck {r g : Nat} (hc : s.canonical) : (s.snrCheck r g).canonical :=
  canonical_onlyIf (fun h => canonical_each (fun _ _ h => canonical_wr _ _ h) h) hc

theorem canonical_pilotStep {r g : Nat} {pilots : List (Nat × Nat × Nat)} (hc : s.canonical) : (s.pilotStep r g
    pilots).canonical := by
  unfold State.pilotStep
  refine canonical_each ?_ (canonical_ite (canonical_snrCheck (canonical_upd (canonical_each (fun _ _ h => canonical_wr _ _
      (canonical_dbOf h)) hc))) (canonical_each (fun _ _ h => canonical_wr _ _ (canonical_dbOf h)) (canonical_upd
      (canonical_each (fun _ _ h => canonical_wr _ _ (canonical_dbOf h)) hc))))
  intro _ _ h
  split
  · exact canonical_ite h (canonical_wr _ _ h)
  · exact h

theorem canonical_berStep {r : Nat} (hc : s.canonical) : (s.berStep r).canonical :=
  canonical_each (fun _ _ h => canonical_onlyIf (fun h => canonical_wrN _ _ h) h) hc

theorem canonical_lqfStep {r : Nat} (hc : s.canonical) : (s.lqfStep r).canonical := by
  unfold State.lqfStep
  dsimp only
  split <;> exact canonical_wrN _ _ (canonical_wrN _ _ (canonical_each (fun _ _ h => canonical_wrN _ _ h) hc))

/-! ### Equalisation and the watch -/

theorem canonical_showCd {r : Nat} (hc : s.canonical) : (s.showCd r).canonical :=
  canonical_wrN _ _ (canonical_wr _ _ (canonical_upd hc))

theorem canonical_cdBankLoad {r : Nat} {bankB : Bool} (hc : s.canonical) : (s.cdBankLoad r bankB).canonical :=
  canonical_ite (canonical_wrN _ _ (canonical_upd hc)) (canonical_wrN _ _ (canonical_upd hc))

theorem canonical_cdPowerUp {r : Nat} (hc : s.canonical) : (s.cdPowerUp r).canonical :=
  canonical_ite (canonical_wrN _ _ (canonical_upd hc)) (canonical_wrN _ _ (canonical_upd hc))

theorem canonical_setEqSc {r sc v taps : Nat} (hc : s.canonical) : (s.setEqSc r sc v taps).canonical :=
  canonical_ite (canonical_each (fun _ _ h => canonical_upd h) (canonical_ite (canonical_upd hc) (canonical_wrN _ _
      (canonical_wrN _ _ (canonical_upd hc))))) (canonical_ite (canonical_upd hc) (canonical_wrN _ _ (canonical_wrN _ _
      (canonical_upd hc))))

theorem canonical_showTrack {r : Nat} (hc : s.canonical) : (s.showTrack r).canonical :=
  canonical_ite (canonical_wrN _ _ (canonical_wrN _ _ (canonical_wrN _ _ (canonical_wrN _ _ (canonical_wrN _ _ hc)))))
      (canonical_wrN _ _ (canonical_wrN _ _ (canonical_wrN _ _ (canonical_wrN _ _ hc))))

theorem canonical_eqRetrain {r : Nat} {scs : List Nat} {keep : Bool} (hc : s.canonical) : (s.eqRetrain r scs keep).canonical :=
  canonical_showTrack (canonical_each (fun _ _ h => canonical_ite h (canonical_setEqSc h)) hc)

theorem canonical_eqMembership {r : Nat} (hc : s.canonical) : (s.eqMembership r).canonical :=
  canonical_showTrack (canonical_each (fun _ _ h => canonical_ite (canonical_setEqSc h) (canonical_ite (canonical_setEqSc h) h))
      hc)

theorem canonical_eqTraining {r : Nat} {found : List Nat} (hc : s.canonical) : (s.eqTraining r found).canonical :=
  canonical_showTrack (canonical_each (fun _ _ h => canonical_ite (canonical_ite (canonical_setEqSc h) (canonical_upd h))
      (canonical_ite (canonical_ite (canonical_raiseLimitedFor (canonical_inc _ (canonical_setEqSc h))) (canonical_upd h)) h))
      hc)

theorem canonical_coarseOffsets {r : Nat} {t : ReachTick} (hc : s.canonical) : (s.coarseOffsets r t).canonical :=
  canonical_each (fun _ _ h => canonical_ite (canonical_upd (canonical_wr _ _ h)) h) hc

theorem canonical_eqFigures {r : Nat} {t : ReachTick} (hc : s.canonical) : (s.eqFigures r t).canonical :=
  canonical_upd (canonical_incBy _ _ (canonical_showTrack (canonical_wrN _ _ (canonical_each (fun _ _ h => canonical_wrN _ _
      (canonical_wrN _ _ h)) hc))))

theorem canonical_watchAge {r : Nat} (hc : s.canonical) : (s.watchAge r).canonical :=
  canonical_onlyIf (fun h => canonical_wrN _ _ (canonical_upd h)) hc

theorem canonical_showBaselines {r : Nat} (hc : s.canonical) : (s.showBaselines r).canonical :=
  canonical_wrN _ _ (canonical_wrN _ _ hc)

theorem canonical_watchTick {r : Nat} {t : ReachTick} (hc : s.canonical) : (s.watchTick r t).canonical := by
  unfold State.watchTick
  refine canonical_ite ?_ ?_
  · split
    · exact canonical_wrN _ _ hc
    · exact hc
  · refine canonical_ite ?_ ?_
    · refine canonical_showBaselines ?_
      refine canonical_upd ?_
      split
      · exact canonical_wrN _ _ hc
      · exact hc
    · refine canonical_ite ?_ ?_
      · refine canonical_raise _ _ _ ?_
        refine canonical_wrN _ _ ?_
        refine canonical_showBaselines ?_
        refine canonical_wrN _ _ ?_
        refine canonical_wrN _ _ ?_
        refine canonical_upd ?_
        split
        · exact canonical_wrN _ _ hc
        · exact hc
      · refine canonical_showBaselines ?_
        refine canonical_wrN _ _ ?_
        refine canonical_wrN _ _ ?_
        refine canonical_upd ?_
        split
        · exact canonical_wrN _ _ hc
        · exact hc

theorem nextCanonical_execWatchArmed {r : Fin 4} : NextCanonical s (execWatchArmed r s) := by
  unfold execWatchArmed
  refine .ite ?_ (.next id)
  split
  · exact .next fun hc => canonical_raise _ _ _ (canonical_inc _ (canonical_wrN _ _ (canonical_ite (canonical_upd (canonical_upd
        hc)) (canonical_upd hc))))
  · exact .next fun hc => hc

theorem canonical_cdSwapOp {r : Nat} (hc : s.canonical) : (s.cdSwapOp r).canonical :=
  canonical_raise _ _ _ (canonical_watchSuppress (canonical_eqRetrain (canonical_showCd (canonical_inc _ (canonical_wrN _ _
      (canonical_upd (canonical_ite (canonical_wrN _ _ (canonical_wrN _ _ (canonical_wr _ _ (canonical_wrN _ _ hc))))
      (canonical_wrN _ _ (canonical_wrN _ _ (canonical_wr _ _ (canonical_wrN _ _ hc)))))))))))

theorem canonical_cdPut {r : Nat} {v : Int} (hc : s.canonical) : (s.cdPut r v).canonical :=
  canonical_ite (canonical_raise _ _ _ (canonical_upd (canonical_showCd (canonical_wr _ _ hc)))) (canonical_upd
      (canonical_showCd (canonical_wr _ _ hc)))

theorem canonical_cdTick {r : Nat} {t : ReachTick} (hc : s.canonical) : (s.cdTick r t).canonical :=
  canonical_ite (canonical_wrN _ _ (canonical_upd hc)) (canonical_wr _ _ (canonical_wrN _ _ (canonical_upd hc)))

/-! ### Coding and the decoder pool -/

theorem canonical_poolCapacity (hc : s.canonical) : s.poolCapacity.canonical :=
  canonical_onlyIf (fun h => canonical_raise _ _ _ h) (canonical_wrN _ _ (canonical_wrN _ _ (canonical_upd hc)))

theorem canonical_demap {f : RxFrame} (hc : s.canonical) : (s.demap f).1.canonical := by
  unfold State.demap
  split
  · exact canonical_rxDemapped hc
  · exact canonical_inc _ hc

theorem canonical_groupShortfall {r g granted : Nat} (hc : s.canonical) : (s.groupShortfall r g granted).canonical :=
  canonical_raiseLimitedFor (canonical_upd (canonical_inc _ hc))

theorem canonical_poolAllocate {frames : List DecFrame} (hc : s.canonical) : (s.poolAllocate frames).canonical :=
  canonical_upd (canonical_onlyIf (fun h => canonical_inc _ h) (canonical_each (fun _ _ h => canonical_onlyIf (fun h =>
      canonical_groupShortfall h) (canonical_onlyIf (fun h => canonical_raiseLimited h) (canonical_onlyIf (fun h =>
      canonical_raiseLimited h) (canonical_incBy _ _ (canonical_incBy _ _ (canonical_incBy _ _ (canonical_wrN _ _ (canonical_wrN
      _ _ (canonical_wrN _ _ h))))))))) (canonical_each (fun _ _ h => canonical_ite h (canonical_wrN _ _ (canonical_wrN _ _
      (canonical_wrN _ _ h)))) (canonical_incBy _ _ (canonical_incBy _ _ (canonical_incBy _ _ (canonical_wrN _ _ (canonical_wrN
      _ _ (canonical_wrN _ _ hc)))))))))

theorem canonical_decodeFigures {r g : Nat} {ds : List DecFrame} (hc : s.canonical) : (s.decodeFigures r g ds).canonical :=
  canonical_each (fun _ _ h => canonical_incBy _ _ (canonical_incBy _ _ h)) (canonical_wrN _ _ (canonical_ite_snd (canonical_upd
      hc) (canonical_roundFree (canonical_upd hc))))

/-! ### The tick frame -/

theorem canonical_discardOpen {r g : Nat} (hc : s.canonical) : (s.discardOpen r g).canonical :=
  canonical_upd (canonical_incBy _ _ hc)

theorem canonical_frameHunt {r g : Nat} (hc : s.canonical) : (s.frameHunt r g).canonical :=
  canonical_wrN _ _ (canonical_upd (canonical_discardOpen hc))

theorem canonical_frameDecision {r g : Nat} {found : Bool} (hc : s.canonical) : (s.frameDecision r g found).canonical :=
  canonical_ite (canonical_upd hc) (canonical_ite (canonical_wrN _ _ (canonical_upd hc)) (canonical_upd hc))

theorem canonical_frameRejected {r g n : Nat} {d : DecFrame} (hc : s.canonical) : (s.frameRejected r g n d).canonical :=
  canonical_ite (canonical_wrN _ _ (canonical_upd (canonical_ite (canonical_wrN _ _ (canonical_ite (canonical_raiseLimitedFor
      (canonical_inc _ hc)) (canonical_inc _ hc))) (canonical_ite (canonical_raiseLimitedFor (canonical_inc _ hc))
      (canonical_inc _ hc))))) (canonical_ite (canonical_upd (canonical_ite (canonical_wrN _ _ (canonical_ite
      (canonical_raiseLimitedFor (canonical_inc _ hc)) (canonical_inc _ hc))) (canonical_ite (canonical_raiseLimitedFor
      (canonical_inc _ hc)) (canonical_inc _ hc)))) (canonical_ite (canonical_wrN _ _ (canonical_ite (canonical_raiseLimitedFor
      (canonical_inc _ hc)) (canonical_inc _ hc))) (canonical_ite (canonical_raiseLimitedFor (canonical_inc _ hc))
      (canonical_inc _ hc))))

theorem canonical_frameAccepted {r g : Nat} {d : DecFrame} (hc : s.canonical) : (s.frameAccepted r g d).canonical :=
  canonical_ite (canonical_upd (canonical_ite (canonical_incBy _ _ (canonical_inc _ (canonical_wrN _ _ (canonical_wrN _ _ hc))))
      (canonical_inc _ (canonical_wrN _ _ (canonical_wrN _ _ hc))))) (canonical_ite (canonical_raise _ _ _ (canonical_wrN _ _
      (canonical_upd (canonical_ite (canonical_incBy _ _ (canonical_inc _ (canonical_wrN _ _ (canonical_wrN _ _ hc))))
      (canonical_inc _ (canonical_wrN _ _ (canonical_wrN _ _ hc))))))) (canonical_wrN _ _ (canonical_upd (canonical_ite
      (canonical_incBy _ _ (canonical_inc _ (canonical_wrN _ _ (canonical_wrN _ _ hc)))) (canonical_inc _ (canonical_wrN _ _
      (canonical_wrN _ _ hc)))))))

theorem canonical_frameLost {r g cause : Nat} (hc : s.canonical) : (s.frameLost r g cause).canonical :=
  canonical_upd (canonical_raise _ _ _ (canonical_inc _ (canonical_wrN _ _ (canonical_eqRetrain (canonical_upd (canonical_upd
      (canonical_discardOpen hc)))))))

theorem canonical_countSegments {r g : Nat} {failed : List Nat} (hc : s.canonical) : (s.countSegments r g failed).canonical :=
  canonical_ite hc (canonical_raiseLimited (canonical_incBy _ _ hc))

theorem canonical_countOhErrors {r g n : Nat} (hc : s.canonical) : (s.countOhErrors r g n).canonical :=
  canonical_ite hc (canonical_raiseLimited (canonical_incBy _ _ hc))

theorem canonical_loadingMessage {r g : Nat} {m : Nat × List Byte} (hc : s.canonical) : (s.loadingMessage r g m).canonical :=
  canonical_ite (canonical_rxAnnounce hc) (canonical_ite (canonical_loadingAck hc) (canonical_ite (canonical_rxReport hc) hc))

theorem canonical_reassemble {rg : Nat} {c : Cell} (hc : s.canonical) : (s.reassemble rg c).1.canonical := by
  unfold State.reassemble
  extract_lets r g old s₁ cur
  have h₁ : s₁.canonical := canonical_ite (canonical_inc _ hc) hc
  clear_value s₁ cur
  split
  · exact h₁
  · exact canonical_ite_fst (canonical_ite_fst (canonical_upd h₁) (canonical_inc _ (canonical_upd h₁)))
      (canonical_upd h₁)

theorem canonical_countMapMismatch {r : Nat} (hc : s.canonical) : (s.countMapMismatch r).canonical :=
  canonical_raiseLimited (canonical_inc _ hc)

/-! ### Berths -/

theorem canonical_squelch {b : Nat} (hc : s.canonical) : (s.squelch b).canonical :=
  canonical_ite (canonical_raise _ _ _ (canonical_wrN _ _ hc)) (canonical_wrN _ _ hc)

theorem canonical_squelchPort {b : Nat} (hc : s.canonical) : (s.squelchPort b).canonical :=
  canonical_each (fun _ _ h => canonical_squelch h) hc

theorem canonical_berthTrain {k : Nat} (hc : s.canonical) : (s.berthTrain k).canonical :=
  canonical_each (fun _ _ h => canonical_ite (canonical_wrN _ _ h) h) hc

theorem canonical_berthLayout {k : Nat} (hc : s.canonical) : (s.berthLayout k).canonical :=
  canonical_each (fun _ _ h => canonical_squelch (canonical_wrN _ _ h)) hc

theorem canonical_berthMoor {k : Nat} (hc : s.canonical) : (s.berthMoor k).canonical :=
  canonical_each (fun _ _ h => canonical_squelch h) (canonical_each (fun _ _ h => canonical_wrN _ _ (canonical_wrN _ _ h)) hc)

theorem canonical_tryAlign {b : Nat} (hc : s.canonical) : (s.tryAlign b).canonical :=
  canonical_ite (canonical_upd (canonical_wrN _ _ hc)) hc

theorem canonical_alignStep {k : Nat} (hc : s.canonical) : (s.alignStep k).canonical :=
  canonical_each (fun _ _ h => canonical_tryAlign h) hc

theorem canonical_berthRelease {k : Nat} (hc : s.canonical) : (s.berthRelease k).canonical :=
  canonical_alignStep (canonical_berthTrain hc)

theorem nextCanonical_execLaneLocked {b : Fin 64} : NextCanonical s (execLaneLocked b s) := by
  unfold execLaneLocked
  refine .ite (.next id) ?_
  dsimp only
  split
  · exact .next fun hc => canonical_tryAlign (canonical_squelch (canonical_wrN _ _ hc))
  · exact .next fun hc => canonical_squelch (canonical_wrN _ _ hc)

theorem nextCanonical_execPortDown {b : Fin 64} {lane : Option (Fin 64)} : NextCanonical s (execPortDown b lane s) := by
  unfold execPortDown
  refine .ite ?_ (.next id)
  refine .ite ?_ ?_
  · refine .next fun hc => ?_
    refine canonical_squelchPort ?_
    refine canonical_raise _ _ _ ?_
    refine canonical_upd ?_
    refine canonical_wrN _ _ ?_
    split
    · exact canonical_wrN _ _ hc
    · exact hc
  · refine .next fun hc => ?_
    refine canonical_squelchPort ?_
    split
    · exact canonical_wrN _ _ hc
    · exact hc

theorem canonical_sendPfc {b phase : Nat} {released : List Nat} (hc : s.canonical) : (s.sendPfc b phase released).canonical :=
  canonical_inc _ (canonical_upd hc)

theorem canonical_pauseFollow {b phase : Nat} (hc : s.canonical) : (s.pauseFollow b phase).canonical :=
  canonical_ite (canonical_wrN _ _ hc) (canonical_sendPfc (canonical_upd (canonical_wrN _ _ (canonical_wrN _ _ hc))))

theorem nextCanonical_execPfcRxPauseExpiry {b : Fin 64} {p : Fin 8} {phase : Nat} : NextCanonical s (execPfcRxPauseExpiry b p
    phase s) := by
  unfold execPfcRxPauseExpiry
  dsimp only
  split
  · exact .ite (.next fun hc => canonical_wrN _ _ (canonical_upd hc)) (.next id)
  · exact .next fun hc => hc

theorem canonical_portFresh {b : Nat} (hc : s.canonical) : (s.portFresh b).canonical :=
  canonical_wrN _ _ (canonical_wrN _ _ (canonical_upd hc))

theorem nextCanonical_execEgressFrameTx {b : Fin 64} {p : Fin 8} : NextCanonical s (execEgressFrameTx b p s) := by
  unfold execEgressFrameTx
  refine .ite ?_ (.next id)
  split
  · exact .next fun hc => canonical_inc _ (canonical_upd hc)
  · exact .next fun hc => hc

theorem canonical_trapFrame {b : Nat} {f : List Byte} {phase : Nat} (hc : s.canonical) : (s.trapFrame b f phase).canonical :=
  canonical_ite (canonical_inc _ hc) (canonical_ringWrite (canonical_inc _ hc))

/-! ### Consignments and the basin -/

theorem canonical_waterCheck (hc : s.canonical) : s.waterCheck.canonical :=
  canonical_wrN _ _ (canonical_ite (canonical_raise _ _ _ (canonical_upd (canonical_wrN _ _ hc))) (canonical_ite
      (canonical_raise _ _ _ (canonical_upd (canonical_wrN _ _ hc))) (canonical_wrN _ _ hc)))

theorem canonical_takeSlot {t : State} {f k : Nat} {rx : Bool} (hc : s.canonical) (h : s.takeSlot f rx = some (t, k)) :
    t.canonical := by
  unfold State.takeSlot at h
  split at h
  · cases h; exact hc
  · split at h
    · cases h
    · split at h
      · cases h
      · cases h; exact hc

theorem canonical_showQueue (hc : s.canonical) : s.showQueue.canonical := canonical_wrN _ _ hc

theorem canonical_writeSlot {k : Nat} {rx : Bool} {c : Cell} (hc : s.canonical) : (s.writeSlot k rx c).canonical :=
  canonical_showQueue (canonical_ite (canonical_upd (canonical_upd hc)) (canonical_upd (canonical_upd hc)))

theorem canonical_drainQueue {n : Nat} (hc : s.canonical) : (s.drainQueue n).canonical := canonical_showQueue (canonical_upd hc)

theorem canonical_withholdPages {p : Nat} (hc : s.canonical) : (s.withholdPages p).canonical :=
  canonical_ite hc (canonical_upd hc)

theorem canonical_freeSlot {k : Nat} (hc : s.canonical) : (s.freeSlot k).canonical := by
  unfold State.freeSlot
  dsimp only
  split
  · exact hc
  · exact canonical_ite (canonical_withholdPages (canonical_upd hc)) (canonical_upd hc)

theorem canonical_freeHeld {hs : List Held} (hc : s.canonical) : (s.freeHeld hs).canonical :=
  canonical_waterCheck (canonical_each (fun _ _ h => canonical_freeSlot h) hc)

theorem canonical_poison {k : Nat} (hc : s.canonical) : (s.poison k).canonical := canonical_inc _ (canonical_upd hc)

theorem canonical_showRtt {rg : Nat} (hc : s.canonical) : (s.showRtt rg).canonical := canonical_wrN _ _ (canonical_upd hc)

theorem canonical_durableStart {f : Nat} (hc : s.canonical) : (s.durableStart f).canonical := canonical_upd (canonical_upd hc)

theorem canonical_resync {f : Nat} (hc : s.canonical) : (s.resync f).canonical :=
  canonical_raise _ _ _ (canonical_upd (canonical_upd (canonical_each (fun _ _ h => canonical_ite h (canonical_upd h))
      (canonical_upd (canonical_incBy _ _ (canonical_freeHeld hc))))))

theorem canonical_reserveLoss {f n : Nat} (hc : s.canonical) : (s.reserveLoss f n).canonical :=
  canonical_ite hc (canonical_raiseLimitedItem _ _ _ _ _ (canonical_incBy _ _ (canonical_upd hc)))

theorem canonical_cutDurable {f : Nat} {c : Cell} (hc : s.canonical) : (s.cutDurable f c).canonical := by
  unfold State.cutDurable
  split
  · exact canonical_reserveLoss hc
  · next h =>
    exact canonical_upd (canonical_upd (canonical_writeSlot (canonical_takeSlot hc h)))

theorem canonical_cutFrame {f : Nat} {frame : List Byte} {bad ignored : Bool} (hc : s.canonical) : (s.cutFrame f frame bad
    ignored).canonical :=
  canonical_ite hc (canonical_ite (canonical_ite (canonical_reserveLoss hc) (canonical_waterCheck (canonical_upd (canonical_upd
      (canonical_each (fun _ _ h => canonical_cutDurable h) hc))))) (canonical_ite (canonical_incBy _ _ hc) (canonical_upd hc)))

theorem canonical_deliverCell {rg : Nat} {c : Cell} (hc : s.canonical) : (s.deliverCell rg c).canonical := by
  have h := canonical_reassemble (rg := rg) (c := c) hc
  unfold State.deliverCell
  generalize s.reassemble rg c = p at h ⊢
  obtain ⟨t, fr⟩ := p
  refine canonical_ite (canonical_inc _ (canonical_upd (canonical_ite (canonical_inc _ hc) hc))) ?_
  cases fr with
  | none => exact h
  | some fr => exact canonical_upd h

theorem canonical_handOver {rg : Nat} {c : Cell} (hc : s.canonical) : (s.handOver rg c).canonical := by
  have h := canonical_reassemble (rg := rg) (c := c) hc
  unfold State.handOver
  generalize s.reassemble rg c = p at h ⊢
  obtain ⟨t, fr⟩ := p
  cases fr with
  | none => exact canonical_upd h
  | some fr => exact canonical_upd (canonical_upd h)

theorem canonical_handHeld {f rg n : Nat} (hc : s.canonical) : (s.handHeld f rg n).canonical := by
  induction n generalizing s with
  | zero => exact hc
  | succ n ih =>
    unfold State.handHeld
    dsimp only
    split
    · exact hc
    · exact canonical_ite (ih (canonical_handOver (canonical_freeSlot (canonical_upd hc)))) hc

theorem canonical_holdRx {f : Nat} {c : Cell} {atN : Bool} (hc : s.canonical) :
    (s.holdRx f c atN).canonical := by
  unfold State.holdRx
  refine canonical_ite (canonical_inc _ hc) ?_
  split
  · exact canonical_inc _ hc
  · next h =>
    exact canonical_waterCheck (canonical_upd (canonical_upd
      (canonical_writeSlot (canonical_takeSlot hc h))))

theorem canonical_durableRx {rg : Nat} {c : Cell} (hc : s.canonical) : (s.durableRx rg c).canonical :=
  canonical_ite (canonical_raiseLimited (canonical_inc _ (canonical_ite (canonical_raise _ _ _ (canonical_upd
      (canonical_freeHeld hc))) hc))) (canonical_ite (canonical_upd (canonical_ite (canonical_raise _ _ _ (canonical_upd
      (canonical_freeHeld hc))) hc)) (canonical_ite (canonical_waterCheck (canonical_handHeld (canonical_handOver (canonical_ite
      (canonical_raise _ _ _ (canonical_upd (canonical_freeHeld hc))) hc)))) (canonical_holdRx (canonical_ite (canonical_raise _
      _ _ (canonical_upd (canonical_freeHeld hc))) hc))))

theorem canonical_noteReserve {p n : Nat} (hc : s.canonical) : (s.noteReserve p n).canonical := canonical_upd (canonical_upd hc)

theorem canonical_reserveTake {p n : Nat} (hc : s.canonical) : (s.reserveTake p n).canonical :=
  canonical_noteReserve (canonical_upd hc)

theorem canonical_retirePage {p n : Nat} (hc : s.canonical) : (s.retirePage p n).canonical := by
  unfold State.retirePage
  refine canonical_ite hc ?_
  refine canonical_ite (canonical_requestSwap (canonical_reserveTake hc)) ?_
  split
  · exact canonical_listRepeat (canonical_exhaustedKind hc)
  · exact canonical_requestSwap (canonical_ite (canonical_reserveTake hc) (canonical_exhaustedKind hc))

theorem canonical_slotCorrected {p n : Nat} (hc : s.canonical) : (s.slotCorrected p n).canonical :=
  canonical_ite (canonical_retirePage (canonical_raiseLimitedFor (canonical_trackCorrection (canonical_inc _ hc))))
      (canonical_trackCorrection (canonical_inc _ hc))

theorem canonical_slotLost {k : Nat} (hc : s.canonical) : (s.slotLost k).canonical := canonical_retirePage (canonical_poison hc)

theorem canonical_readHeld {hs : List Held} {noise : List (Nat × List (Nat × Byte))} (hc : s.canonical) : (s.readHeld hs
    noise).canonical :=
  canonical_each (fun _ _ h => canonical_ite h (canonical_ite (canonical_slotLost h) (canonical_onlyIf (fun h =>
      canonical_slotCorrected h) h))) hc

theorem canonical_misrouted {f : Nat} (hc : s.canonical) : (s.misrouted f).canonical :=
  canonical_raiseLimitedItem _ _ _ _ _ (canonical_inc _ hc)

theorem canonical_acknowledge {f sq : Nat} (hc : s.canonical) : (s.acknowledge f sq).canonical :=
  canonical_showRtt (canonical_freeHeld (canonical_upd (canonical_upd hc)))

theorem canonical_manifestEntry {f sq e : Nat} {gap : Bool} (hc : s.canonical) : (s.manifestEntry f sq e gap).canonical :=
  canonical_ite hc (canonical_ite (canonical_ite hc (canonical_resync hc)) (canonical_ite hc (canonical_ite (canonical_ite hc
      (canonical_upd hc)) (canonical_ite (canonical_acknowledge hc) hc))))

theorem canonical_manifestApply {rg : Nat} {prev : Option Nat} {l : List (Nat × Nat × Nat)} (hc : s.canonical) :
    (s.manifestApply rg prev l).canonical := by
  induction l generalizing s prev with
  | nil => exact hc
  | cons m l ih => exact ih (canonical_ite (canonical_manifestEntry hc) hc)

theorem canonical_manifestIn {rg : Nat} {v : List Byte} (hc : s.canonical) : (s.manifestIn rg v).canonical :=
  canonical_manifestApply hc

theorem canonical_becomeActive {u : Nat} {all : Bool} (hc : s.canonical) : (s.becomeActive u all).canonical :=
  canonical_upd (canonical_wrN _ _ (canonical_wrN _ _ (canonical_each (fun _ _ h => canonical_ite (canonical_resync
      (canonical_upd (canonical_freeHeld h))) (canonical_upd (canonical_freeHeld h))) hc)))

theorem canonical_takeover {f : Nat} (hc : s.canonical) : (s.takeover f).canonical := by
  unfold State.takeover
  split
  · exact canonical_ite (canonical_becomeActive hc) hc
  · exact hc

theorem canonical_cellIn {rg : Nat} {c : Cell} (hc : s.canonical) : (s.cellIn rg c).canonical :=
  canonical_ite hc (canonical_ite (canonical_each (fun _ _ h => canonical_manifestIn h) (canonical_countOhErrors hc))
      (canonical_ite hc (canonical_ite (canonical_ite (canonical_ite (canonical_takeover hc) (canonical_durableRx
      (canonical_takeover hc))) (canonical_ite (canonical_takeover hc) (canonical_deliverCell (canonical_takeover hc))))
      (canonical_misrouted hc))))

theorem canonical_manifestFill {rg room slots : Nat} (hc : s.canonical) : (s.manifestFill rg room slots).1.canonical := by
  unfold State.manifestFill
  refine canonical_incBy _ _ ?_
  split
  · exact canonical_upd (canonical_each (fun _ _ h => canonical_upd h) hc)
  · exact canonical_each (fun _ _ h => canonical_upd h) hc

theorem canonical_serveList {rg item : Nat} {queues : List (Nat × List Cell)} {p free : Nat} (hc : s.canonical) :
    (s.serveList rg item queues p free).1.canonical := by
  induction p generalizing s free with
  | zero => exact hc
  | succ p ih => exact ih (canonical_upd hc)

theorem canonical_voidCells {f : Nat} {sel : Held → Bool} (hc : s.canonical) : (s.voidCells f sel).canonical :=
  canonical_ite hc (canonical_freeHeld (canonical_each (fun _ _ h => canonical_raiseLimitedItem _ _ _ _ _ h) (canonical_upd
      hc)))

theorem canonical_markSent {f : Nat} {seqs : List Nat} (hc : s.canonical) : (s.markSent f seqs).canonical :=
  canonical_incBy _ _ (canonical_upd hc)

theorem canonical_serveItem {rg item free : Nat} (hc : s.canonical) : (s.serveItem rg item free).1.canonical :=
  canonical_ite_fst (canonical_each (fun _ _ h => canonical_upd h) (canonical_serveList hc)) (canonical_each (fun _ _ h =>
      canonical_markSent h) (canonical_serveList (canonical_ite (canonical_each (fun _ _ h => canonical_voidCells h) hc) hc)))

theorem canonical_serveItems {rg : Nat} {l : List Nat} {free : Nat} (hc : s.canonical) :
    (s.serveItems rg l free).1.canonical := by
  induction l generalizing s free with
  | nil => exact hc
  | cons i l ih => exact ih (canonical_serveItem hc)

theorem canonical_servePrompt {rg slots : Nat} (hc : s.canonical) : (s.servePrompt rg slots).1.canonical := by
  unfold State.servePrompt
  extract_lets fl live
  have h := canonical_serveList (rg := rg) (item := 2) (queues := live.map (fun f => (f, (s.flow f).queue.map (·.cell))))
    (p := 8) (free := slots) hc
  generalize s.serveList rg 2 _ 8 slots = p at h ⊢
  exact canonical_incBy _ _ (canonical_each (fun _ _ h => canonical_upd h) h)

theorem canonical_ageStandard {rg : Nat} (hc : s.canonical) : (s.ageStandard rg).canonical :=
  canonical_each (fun _ _ h => canonical_incBy _ _ (canonical_upd h)) hc

theorem canonical_outageDiscard {rg : Nat} (hc : s.canonical) : (s.outageDiscard rg).canonical :=
  canonical_each (fun _ _ h => canonical_incBy _ _ (canonical_upd h)) hc

theorem canonical_fillSlots {rg slots room : Nat} (hc : s.canonical) :
    (s.fillSlots rg slots room).1.canonical := by
  have h := canonical_servePrompt (rg := rg) (slots := slots) hc
  unfold State.fillSlots
  generalize s.servePrompt rg slots = p at h ⊢
  obtain ⟨s₁, prompt⟩ := p
  have h := canonical_manifestFill (rg := rg) (room := room) (slots := min slots ((slots - prompt.length) * 8)) h
  dsimp only
  generalize s₁.manifestFill rg room _ = p at h ⊢
  obtain ⟨s₂, ms, ctl⟩ := p
  have h := canonical_serveItems (rg := rg) (l := s₂.ladderItems) (free := slots - prompt.length - ctl.length) h
  dsimp only
  generalize s₂.serveItems rg _ _ = p at h ⊢
  exact canonical_ageStandard h

theorem canonical_flowDisable {f : Nat} (hc : s.canonical) : (s.flowDisable f).canonical := by
  unfold State.flowDisable
  refine canonical_freeHeld ?_
  refine canonical_upd ?_
  refine canonical_upd ?_
  split
  · exact canonical_inc _ (canonical_upd (canonical_incBy _ _ hc))
  · exact canonical_incBy _ _ hc

theorem canonical_flowEnable {f : Nat} (hc : s.canonical) : (s.flowEnable f).canonical :=
  canonical_ite (canonical_durableStart (canonical_upd hc)) (canonical_upd hc)

theorem canonical_flowApply {f : Nat} {v : Int} (hc : s.canonical) : (s.flowApply f v).canonical :=
  canonical_wrN _ _ (canonical_ite (canonical_flowEnable (canonical_wr _ _ (canonical_ite (canonical_flowDisable hc) hc)))
      (canonical_wr _ _ (canonical_ite (canonical_flowDisable hc) hc)))

theorem canonical_freeze {f : Nat} (hc : s.canonical) : (s.freeze f).canonical :=
  canonical_ite (canonical_upd hc) (canonical_ite (canonical_ite (canonical_upd (canonical_opAbort _ _ (canonical_upd hc)))
      (canonical_upd hc)) hc)

theorem canonical_drainFlow {f : Nat} (hc : s.canonical) : (s.drainFlow f).canonical := canonical_rttClear (canonical_upd hc)

theorem canonical_drainStep (hc : s.canonical) : s.drainStep.canonical :=
  canonical_ite (canonical_ite (canonical_opDone _ (canonical_opAdvance (canonical_each (fun _ _ h => canonical_ite
      (canonical_upd h) h) hc))) (canonical_opAdvance (canonical_each (fun _ _ h => canonical_ite (canonical_upd h) h) hc)))
      (canonical_each (fun _ _ h => canonical_ite (canonical_upd h) h) hc)

theorem canonical_basinTrain {p : Nat} (hc : s.canonical) : (s.basinTrain p).canonical := canonical_upd (canonical_wrN _ _ hc)

theorem canonical_portContentsLost {p : Nat} (hc : s.canonical) : (s.portContentsLost p).canonical :=
  canonical_waterCheck (canonical_upd (canonical_each (fun _ _ h => canonical_upd (canonical_voidCells h)) hc))

theorem canonical_flowsAfresh (hc : s.canonical) : s.flowsAfresh.canonical :=
  canonical_onlyIf (fun h => canonical_each (fun _ _ h => canonical_durableStart h) h) (canonical_upd hc)

theorem canonical_checkpointWrite (hc : s.canonical) : s.checkpointWrite.canonical := by
  unfold State.checkpointWrite
  split
  · exact hc
  · exact canonical_upd hc

theorem canonical_checkpointRead {p : Nat} (hc : s.canonical) : (s.checkpointRead p).canonical := by
  unfold State.checkpointRead
  split
  · exact hc
  · exact canonical_ite (canonical_upd hc) hc

theorem canonical_checkpointLost {p : Nat} (hc : s.canonical) : (s.checkpointLost p).canonical :=
  canonical_onlyIf (fun h => canonical_flowsAfresh h) hc

theorem canonical_basinFail {p cause : Nat} (hc : s.canonical) : (s.basinFail p cause).canonical :=
  canonical_raise _ _ _ (canonical_wrN _ _ (canonical_upd (canonical_portContentsLost (canonical_checkpointLost hc))))

theorem canonical_basinOff {p : Nat} {byRequest : Bool} (hc : s.canonical) : (s.basinOff p byRequest).canonical :=
  canonical_upd (canonical_wrN _ _ (canonical_wrN _ _ (canonical_wrN _ _ (canonical_ite (canonical_basinFail hc)
      (canonical_portContentsLost (canonical_checkpointLost hc))))))

theorem canonical_basinRelease {p : Nat} (hc : s.canonical) : (s.basinRelease p).canonical :=
  canonical_upd (canonical_each (fun _ _ h => canonical_retirePage h) (canonical_withholdPages (canonical_upd (canonical_wrN _ _
      hc))))

theorem canonical_basinFigures {drained : Nat} (hc : s.canonical) : (s.basinFigures drained).canonical := by
  unfold State.basinFigures
  extract_lets ports gone usable s₁ s₂ h _ s₃ cells bytes
  have h₃ : s₃.canonical := canonical_upd (canonical_drainQueue (canonical_wrN _ _ (canonical_wrN _ _ hc)))
  have hr := canonical_roundFree (a := bytes * 8) (b := 10000) h₃
  clear_value bytes cells s₃
  generalize s₃.roundFree (bytes * 8) 10000 = p at hr ⊢
  obtain ⟨mbps, s₄⟩ := p
  dsimp only
  have h₇ : (s₄.wrN Obj.durableIngress mbps).queueCheck.waterCheck.canonical :=
    canonical_waterCheck (canonical_upd (canonical_wrN _ _ hr))
  exact canonical_ite (canonical_wrN _ _ (canonical_onlyIf (fun h => canonical_upd h) h₇))
    (canonical_wrN _ _ (canonical_onlyIf (fun h => canonical_upd h) h₇))

theorem canonical_groupFigures (hc : s.canonical) : s.groupFigures.canonical :=
  canonical_each (fun _ _ h => canonical_showRtt (canonical_wrN _ _ (canonical_wrN _ _ h))) hc

theorem canonical_showRanks (hc : s.canonical) : s.showRanks.canonical := canonical_each (fun _ _ h => canonical_wrN _ _ h) hc

/-! ### Line encryption -/

theorem canonical_cipherCapacity (hc : s.canonical) : s.cipherCapacity.canonical := canonical_wrN _ _ (canonical_wrN _ _ hc)

theorem nextCanonical_execSegmentBlanked {r : Fin 4} {g : Fin 8} {segment : Nat} : NextCanonical s (execSegmentBlanked r g
    segment s) := by
  unfold execSegmentBlanked
  split
  · exact .ite (.next fun hc => canonical_raiseLimited (canonical_inc _ (canonical_upd hc))) (.next id)
  · exact .next fun hc => hc

theorem canonical_capCandidate {r g : Nat} (hc : s.canonical) : (s.capCandidate r g).canonical := by
  unfold State.capCandidate
  dsimp only
  split
  · exact hc
  · exact canonical_ite (canonical_ite hc (canonical_ite (canonical_upd hc)
      (canonical_inc _ (canonical_upd hc)))) hc

theorem canonical_bootNonces (hc : s.canonical) : s.bootNonces.canonical :=
  canonical_ite hc (canonical_each (fun _ _ h => canonical_upd (canonical_upd h)) (canonical_each (fun _ _ h => canonical_upd h)
      hc))

theorem canonical_txKeyGone {r g : Nat} (hc : s.canonical) : (s.txKeyGone r g).canonical := canonical_wrN _ _ (canonical_upd hc)

theorem canonical_rxKeysGone {r g : Nat} (hc : s.canonical) : (s.rxKeysGone r g).canonical :=
  canonical_wrN _ _ (canonical_upd hc)

theorem canonical_toKeying {r g : Nat} (hc : s.canonical) : (s.toKeying r g).canonical :=
  canonical_wrN _ _ (canonical_wrN _ _ (canonical_upd (canonical_rxKeysGone (canonical_txKeyGone hc))))

theorem canonical_keyEnable {r g : Nat} (hc : s.canonical) : (s.keyEnable r g).canonical :=
  canonical_ite (canonical_toKeying hc) hc

theorem canonical_sealGroup {r g cause : Nat} (hc : s.canonical) : (s.sealGroup r g cause).canonical :=
  canonical_raise _ _ _ (canonical_wrN _ _ (canonical_wrN _ _ (canonical_txKeyGone hc)))

theorem canonical_epochWrap {r g : Nat} (hc : s.canonical) : (s.epochWrap r g).canonical :=
  canonical_ite (canonical_upd (canonical_toKeying hc)) (canonical_upd (canonical_upd (canonical_toKeying hc)))

theorem canonical_keyState4 {r g : Nat} (hc : s.canonical) : (s.keyState4 r g).canonical := by
  unfold State.keyState4
  refine canonical_ite ?_ (canonical_ite (canonical_upd hc) (canonical_ite (canonical_ite (canonical_ite (canonical_epochWrap
      hc) (canonical_upd hc)) hc) hc))
  split
  · exact canonical_sealGroup hc
  · exact canonical_ite (canonical_ite (canonical_epochWrap hc) (canonical_ite (canonical_wrN _ _ (canonical_upd hc)) hc)) hc

theorem canonical_keyPostpone {r g : Nat} (hc : s.canonical) : (s.keyPostpone r g).canonical := by
  unfold State.keyPostpone
  dsimp only
  split
  · exact canonical_ite (canonical_raise _ _ _ (canonical_upd hc)) hc
  · exact hc

theorem canonical_keyAckIn {r g epoch : Nat} (hc : s.canonical) : (s.keyAckIn r g epoch).canonical := by
  unfold State.keyAckIn
  dsimp only
  split
  · exact canonical_ite (canonical_wrN _ _ (canonical_upd hc)) hc
  · exact hc

theorem canonical_promote {n : Nat} (hc : s.canonical) : (s.promote n).canonical := by
  unfold State.promote
  split
  · exact canonical_ite (canonical_raise _ _ _ (canonical_each (fun _ _ h => canonical_upd h) (canonical_wrN _ _ (canonical_wrN
        _ _ (canonical_upd hc))))) hc
  · exact hc

theorem canonical_keySwitchOp {r g : Nat} {a : KeyAnn} (hc : s.canonical) : (s.keySwitchOp r g a).canonical := by
  unfold State.keySwitchOp
  split
  · exact hc
  · exact canonical_promote (canonical_ite (canonical_raise _ _ _ (canonical_inc _ (canonical_wrN _ _ (canonical_wrN _ _
        (canonical_wrN _ _ (canonical_wrN _ _ (canonical_upd hc))))))) (canonical_raise _ _ _ (canonical_inc _ (canonical_wrN _
        _ (canonical_wrN _ _ (canonical_wrN _ _ (canonical_wrN _ _ (canonical_upd hc))))))))

theorem canonical_keySwitchDue {r g : Nat} (hc : s.canonical) : (s.keySwitchDue r g).canonical := by
  unfold State.keySwitchDue
  split
  · exact canonical_ite (canonical_keySwitchOp hc) hc
  · exact hc

theorem canonical_keyStep {r g : Nat} (hc : s.canonical) : (s.keyStep r g).canonical :=
  canonical_keyState4 (canonical_keyPostpone (canonical_keySwitchDue hc))

theorem canonical_sealLate {r g : Nat} (hc : s.canonical) : (s.sealLate r g).canonical := by
  unfold State.sealLate
  refine canonical_ite ?_ hc
  split
  · exact canonical_sealGroup hc
  · exact hc

theorem canonical_keyAnnounceIn {r g epoch t0 : Nat} {nonce : List Byte} (hc : s.canonical) : (s.keyAnnounceIn r g epoch t0
    nonce).canonical := by
  unfold State.keyAnnounceIn
  refine canonical_ite (canonical_ite (canonical_toKeying (canonical_upd hc)) (canonical_upd hc)) ?_
  refine canonical_ite ?_ (canonical_upd hc)
  refine canonical_ite (canonical_upd (canonical_upd hc)) ?_
  split
  · exact canonical_upd hc
  · exact canonical_upd (canonical_upd hc)

theorem canonical_decryptFrame {r g : Nat} {d : DecFrame} {m : MapC} {room : Nat} (hc : s.canonical) :
    (s.decryptFrame r g d m room).1.canonical := by
  unfold State.decryptFrame
  refine canonical_ite_fst hc ?_
  extract_lets x epoch run late keys opens
  clear_value keys
  split
  · exact canonical_upd (canonical_incBy _ _ hc)
  · have h := canonical_incBy (Obj.keyAuthFailures r g) 0 hc
    refine canonical_ite (canonical_promote (canonical_raise _ _ _ (canonical_wrN _ _ ?_)))
      (canonical_ite (canonical_promote ?_) ?_) <;>
      exact canonical_upd (canonical_incBy _ _ (canonical_incBy _ _ hc))

theorem canonical_importFailed {kek : Nat} (hc : s.canonical) : (s.importFailed kek).canonical :=
  canonical_raise _ _ _ (canonical_inc _ hc)

theorem canonical_rederive {n : Nat} (hc : s.canonical) : (s.rederive n).canonical :=
  canonical_each (fun _ _ h => canonical_upd h) hc

theorem canonical_importKey {t usage label : Nat} {key : List Byte} (hc : s.canonical) : (s.importKey t usage label
    key).canonical :=
  canonical_promote (canonical_raise _ _ _ (canonical_ite (canonical_rederive (canonical_wrN _ _ (canonical_upd (canonical_inc _
      hc)))) (canonical_wrN _ _ (canonical_wrN _ _ (canonical_upd (canonical_inc _ hc))))))

theorem canonical_importEntry {e : List Byte} (hc : s.canonical) : (s.importEntry e).1.canonical := by
  unfold State.importEntry
  split
  · exact canonical_importKey hc
  · exact canonical_importFailed hc

theorem canonical_batchStart {n : Nat} (hc : s.canonical) : (s.batchStart n).canonical :=
  canonical_upd (canonical_opStart _ _ hc)

theorem canonical_eraseSlot {n : Nat} (hc : s.canonical) : (s.eraseSlot n).canonical :=
  canonical_each (fun _ _ h => canonical_upd (canonical_rxKeysGone (canonical_sealGroup h))) (canonical_raise _ _ _
      (canonical_wrN _ _ (canonical_wrN _ _ (canonical_upd hc))))

theorem canonical_keyDisable {r g : Nat} (hc : s.canonical) : (s.keyDisable r g).canonical :=
  canonical_ite hc (canonical_promote (canonical_wrN _ _ (canonical_toKeying hc)))

theorem canonical_storeLost (hc : s.canonical) : s.storeLost.canonical :=
  canonical_each (fun _ _ h => canonical_upd (canonical_ite (canonical_toKeying h) h)) (canonical_upd (canonical_each (fun _ _ h
      => canonical_wrN _ _ (canonical_wrN _ _ h)) hc))

theorem canonical_invoke {r g n : Nat} (hc : s.canonical) : (s.invoke r g n).canonical :=
  canonical_ite (canonical_upd (canonical_incBy _ _ hc)) (canonical_incBy _ _ (canonical_incBy _ _ hc))

theorem canonical_keyMessage {r g : Nat} {m : Nat × List Byte} (hc : s.canonical) : (s.keyMessage r g m).canonical :=
  canonical_ite (canonical_keyAnnounceIn hc) (canonical_ite (canonical_keyAckIn hc) hc)

theorem canonical_cipherPause (hc : s.canonical) : s.cipherPause.canonical :=
  canonical_ite (canonical_each (fun _ _ h => canonical_toKeying h) (canonical_upd hc)) (canonical_raise _ _ _ (canonical_wrN _
      _ (canonical_each (fun _ _ h => canonical_toKeying h) (canonical_upd hc))))

/-! ### The timing core -/

theorem canonical_holdoverFigures (hc : s.canonical) : s.holdoverFigures.canonical :=
  canonical_wrN _ _ (canonical_wr _ _ (canonical_wrN _ _ (canonical_ite_snd (canonical_roundFreeInt hc) hc)))

theorem canonical_showTod (hc : s.canonical) : s.showTod.canonical := canonical_wrN _ _ hc

theorem canonical_timingTo {st : Nat} (hc : s.canonical) : (s.timingTo st).canonical :=
  canonical_showTod (canonical_wrN _ _ (canonical_upd hc))

theorem canonical_refLost {i fault : Nat} (hc : s.canonical) : (s.refLost i fault).canonical :=
  canonical_ite hc (canonical_ite (canonical_upd (canonical_raise _ _ _ (canonical_inc _ (canonical_wrN _ _ hc))))
      (canonical_raise _ _ _ (canonical_inc _ (canonical_wrN _ _ hc))))

theorem canonical_showPull (hc : s.canonical) : s.showPull.canonical := by
  have h := canonical_roundFreeInt (a := s.timing.pull) (b := 1000) hc
  unfold State.showPull
  generalize s.roundFreeInt s.timing.pull 1000 = p at h ⊢
  exact canonical_wr _ _ h

theorem canonical_phasePull (hc : s.canonical) : s.phasePull.canonical :=
  canonical_showPull (canonical_ite (canonical_upd hc) (canonical_each (fun _ _ h => canonical_ite (canonical_upd h) h)
      (canonical_upd hc)))

theorem canonical_markAt {i : Nat} {m : Int} (hc : s.canonical) : (s.markAt i m).canonical := by
  unfold State.markAt
  extract_lets off x s₁ s₂
  have h₂ : s₂.canonical := canonical_wr _ _ (canonical_upd hc)
  have hr := canonical_roundFree (a := off.natAbs) (b := 1000000) h₂
  clear_value s₂
  generalize s₂.roundFree off.natAbs 1000000 = p at hr ⊢
  exact canonical_ite (canonical_ite h₂ (canonical_raise _ _ _ (canonical_refLost
    (canonical_upd hr)))) (canonical_upd h₂)

theorem nextCanonical_execPpsEdge {i : Fin 2} {phase : Nat} : NextCanonical s (execPpsEdge i phase s) := by
  unfold execPpsEdge
  refine .ite ?_ (.next id)
  have h := canonical_roundFree (s := s) (a := s.at phase) (b := 5)
  generalize s.roundFree (s.at phase) 5 = p at h ⊢
  obtain ⟨n, t⟩ := p
  dsimp only at h ⊢
  exact .next fun hc => canonical_markAt (canonical_upd (h hc))

theorem canonical_switchTo {w : Nat} (hc : s.canonical) : (s.switchTo w).canonical := by
  unfold State.switchTo
  refine canonical_ite ?_ (canonical_upd (canonical_timingTo (canonical_upd (canonical_wrN _ _ (canonical_raise _ _ _
      (canonical_inc _ hc))))))
  refine canonical_ite ?_ (canonical_upd (canonical_timingTo (canonical_upd (canonical_wrN _ _ (canonical_raise _ _ _
      (canonical_inc _ hc))))))
  split
  · exact canonical_upd (canonical_upd (canonical_timingTo (canonical_upd (canonical_wrN _ _ (canonical_raise _ _ _
        (canonical_inc _ hc))))))
  · exact canonical_upd (canonical_timingTo (canonical_upd (canonical_wrN _ _ (canonical_raise _ _ _ (canonical_inc _ hc)))))

theorem canonical_advanceTick (hc : s.canonical) : s.advanceTick.canonical := by
  unfold State.advanceTick
  split
  · exact hc
  · exact canonical_raise _ _ _ (canonical_incBy _ _ (canonical_wrN _ _ (canonical_upd hc)))

theorem canonical_alignNowOp (hc : s.canonical) : s.alignNowOp.canonical :=
  canonical_each (fun _ _ h => canonical_ite (canonical_upd h) h) (canonical_wrN _ _ hc)

theorem canonical_refSelect (hc : s.canonical) : s.refSelect.canonical := by
  unfold State.refSelect
  extract_lets cs s₁ sel alive f choice wanted st
  have h₁ : s₁.canonical := by
    unfold s₁
    split
    · exact canonical_wrN _ _ (canonical_ite hc (canonical_raise _ _ _ hc))
    · exact canonical_wrN _ _ hc
  clear_value s₁ wanted
  split
  · exact canonical_ite h₁ (canonical_switchTo h₁)
  · exact canonical_ite (canonical_timingTo (canonical_raise _ _ _ (canonical_wrN _ _ (canonical_upd h₁)))) h₁

theorem canonical_timingBoundary {offsets : List (Nat × Int)} {control : Option Int} (hc : s.canonical) : (s.timingBoundary
    offsets control).canonical := by
  unfold State.timingBoundary
  refine canonical_showTod ?_
  refine canonical_phasePull ?_
  refine canonical_wr _ _ ?_
  refine canonical_refSelect ?_
  refine canonical_holdoverFigures ?_
  refine canonical_ite ?_ ?_
  · refine canonical_upd ?_
    split
    · exact canonical_ite (canonical_upd (canonical_ite (canonical_upd (canonical_each (fun _ _ h => canonical_ite (canonical_wr
          _ _ h) h) hc)) (canonical_each (fun _ _ h => canonical_ite (canonical_wr _ _ h) h) hc))) (canonical_ite (canonical_upd
          (canonical_each (fun _ _ h => canonical_ite (canonical_wr _ _ h) h) hc)) (canonical_each (fun _ _ h => canonical_ite
          (canonical_wr _ _ h) h) hc))
    · exact canonical_ite (canonical_upd (canonical_each (fun _ _ h => canonical_ite (canonical_wr _ _ h) h) hc))
          (canonical_each (fun _ _ h => canonical_ite (canonical_wr _ _ h) h) hc)
  · split
    · exact canonical_ite (canonical_upd (canonical_ite (canonical_upd (canonical_each (fun _ _ h => canonical_ite (canonical_wr
          _ _ h) h) hc)) (canonical_each (fun _ _ h => canonical_ite (canonical_wr _ _ h) h) hc))) (canonical_ite (canonical_upd
          (canonical_each (fun _ _ h => canonical_ite (canonical_wr _ _ h) h) hc)) (canonical_each (fun _ _ h => canonical_ite
          (canonical_wr _ _ h) h) hc))
    · exact canonical_ite (canonical_upd (canonical_each (fun _ _ h => canonical_ite (canonical_wr _ _ h) h) hc))
          (canonical_each (fun _ _ h => canonical_ite (canonical_wr _ _ h) h) hc)

theorem canonical_delayMessages {r g : Nat} (hc : s.canonical) : (s.delayMessages r g).1.canonical := by
  unfold State.delayMessages
  refine canonical_ite_fst hc ?_
  split
  · exact canonical_upd hc
  · exact canonical_ite_fst (canonical_upd hc) hc

theorem canonical_showDelayValid {r : Nat} (hc : s.canonical) : (s.showDelayValid r).canonical := canonical_wrN _ _ hc

theorem canonical_delayClear {r cause : Nat} (hc : s.canonical) : (s.delayClear r cause).canonical :=
  canonical_ite (canonical_raise _ _ _ (canonical_showDelayValid (canonical_upd hc))) (canonical_showDelayValid (canonical_upd
      hc))

theorem canonical_delayAsymmetry {r g : Nat} (hc : s.canonical) : (s.delayAsymmetry r g).2.canonical :=
  canonical_roundFreeInt hc

theorem canonical_showDelay {r : Nat} (hc : s.canonical) : (s.showDelay r).canonical :=
  canonical_wr _ _ (canonical_wr _ _ (canonical_wrN _ _ (canonical_roundFreeInt (canonical_roundFreeInt (canonical_roundFreeInt
      hc)))))

theorem canonical_delayMessage {r g tick phase : Nat} {v : List Byte} (hc : s.canonical) : (s.delayMessage r g tick phase
    v).canonical := by
  unfold State.delayMessage
  refine canonical_ite hc ?_
  refine canonical_ite (canonical_upd hc) ?_
  refine canonical_ite ?_ hc
  split
  · exact canonical_ite (canonical_markAt (canonical_showDelayValid (canonical_showDelay (canonical_inc _ (canonical_wrN _ _
        (canonical_upd (canonical_delayAsymmetry hc))))))) (canonical_showDelayValid (canonical_showDelay (canonical_inc _
        (canonical_wrN _ _ (canonical_upd (canonical_delayAsymmetry hc))))))
  · exact hc

theorem canonical_todAssociateOp {v : List Byte} (hc : s.canonical) : (s.todAssociateOp v).canonical :=
  canonical_showTod (canonical_upd hc)

/-! ### The towpath -/

theorem canonical_capSent {l : Nat} (hc : s.canonical) : (s.capSent l).canonical :=
  canonical_ite (canonical_upd (canonical_draw hc)) hc

theorem canonical_putMate {every : Bool} {m : List Byte} (hc : s.canonical) : (s.putMate every m).canonical :=
  canonical_ite (canonical_ite (canonical_upd hc) hc) (canonical_incBy _ _ (canonical_each (fun _ _ h => canonical_upd
      (canonical_upd h)) (canonical_upd hc)))

theorem canonical_skipSend {l : Nat} (hc : s.canonical) : (s.skipSend l).canonical := canonical_upd (canonical_upd hc)

theorem canonical_lanesTick (hc : s.canonical) : s.lanesTick.canonical :=
  canonical_upd (canonical_each (fun _ _ h => canonical_upd (canonical_each (fun _ _ h => canonical_skipSend h) (canonical_upd
      h))) hc)

theorem canonical_sendMate {every : Bool} {type flags : Nat} {body : List Byte} (hc : s.canonical) : (s.sendMate every type
    flags body).1.canonical :=
  canonical_putMate (canonical_upd hc)

theorem canonical_mateError (hc : s.canonical) : s.mateError.canonical := canonical_raiseLimited (canonical_inc _ hc)

theorem canonical_mateHeard {m : MateMsg} (hc : s.canonical) : (s.mateHeard m).1.canonical :=
  canonical_ite (canonical_upd (canonical_ite (canonical_wrN _ _ (canonical_upd hc)) (canonical_upd hc))) (canonical_ite
      (canonical_wrN _ _ (canonical_upd hc)) (canonical_upd hc))

theorem canonical_mateTake {type : Nat} {bs : List Byte} (hc : s.canonical) : (s.mateTake type bs).1.canonical := by
  unfold State.mateTake
  refine canonical_ite_fst hc ?_
  split
  · exact canonical_mateError hc
  · exact canonical_ite_fst (canonical_ite_fst hc (canonical_inc _ (canonical_mateHeard hc))) (canonical_mateHeard hc)

theorem canonical_mateArrive {type : Nat} {bs : List Byte} (hc : s.canonical) :
    (s.mateArrive type bs).canonical := by
  have ht := canonical_mateTake (type := type) (bs := bs) hc
  unfold State.mateArrive
  split <;> next h => rw [h] at ht; exact ht

theorem canonical_relayMessages {r g : Nat} (hc : s.canonical) : (s.relayMessages r g).1.canonical := by
  unfold State.relayMessages
  split
  · exact canonical_upd hc
  · exact hc

theorem canonical_relayForward {r g : Nat} {bs : List Byte} (hc : s.canonical) : (s.relayForward r g bs).canonical := by
  unfold State.relayForward
  split
  · exact canonical_mateError hc
  · exact canonical_ite (canonical_upd hc) hc
  · exact hc

theorem canonical_laneTo {l st : Nat} (hc : s.canonical) : (s.laneTo l st).canonical := canonical_wrN _ _ (canonical_wrN _ _ hc)

theorem canonical_laneUp {l : Nat} (hc : s.canonical) : (s.laneUp l).canonical :=
  canonical_raise _ _ _ (canonical_laneTo (canonical_upd hc))

theorem canonical_laneDrop {l cause : Nat} {cut : Bool} (hc : s.canonical) : (s.laneDrop l cause cut).canonical :=
  canonical_ite hc (canonical_raise _ _ _ (canonical_onlyIf (fun h => canonical_mateError h) (canonical_wrN _ _
      (canonical_laneTo (canonical_upd hc)))))

theorem canonical_laneRetrain {l : Nat} (hc : s.canonical) : (s.laneRetrain l).canonical :=
  canonical_ite (canonical_laneDrop (canonical_draw hc)) (canonical_laneDrop hc)

theorem canonical_lanesOff (hc : s.canonical) : s.lanesOff.canonical :=
  canonical_each (fun _ _ h => canonical_wrN _ _ (canonical_laneTo (canonical_upd h))) hc

theorem canonical_train {l rate start : Nat} (hc : s.canonical) : (s.train l rate start).canonical :=
  canonical_laneTo (canonical_upd hc)

theorem canonical_loopbackOp {l v : Nat} (hc : s.canonical) : (s.loopbackOp l v).canonical :=
  canonical_ite hc (canonical_laneRetrain (canonical_wrN _ _ hc))

theorem canonical_laneReceive {q : LaneRx} (hc : s.canonical) : (s.laneReceive q).canonical :=
  canonical_ite hc (canonical_ite (canonical_laneDrop (canonical_ite (canonical_incBy _ _ (canonical_incBy _ _ (canonical_upd
      hc))) (canonical_ite (canonical_upd (canonical_incBy _ _ (canonical_upd hc))) (canonical_incBy _ _ (canonical_upd hc)))))
      (canonical_ite (canonical_incBy _ _ (canonical_incBy _ _ (canonical_upd hc))) (canonical_ite (canonical_upd
      (canonical_incBy _ _ (canonical_upd hc))) (canonical_incBy _ _ (canonical_upd hc)))))

theorem canonical_lanesReceive {ls : List LaneRx} (hc : s.canonical) : (s.lanesReceive ls).canonical :=
  canonical_each (fun _ _ h => canonical_laneReceive h) hc

theorem canonical_wakeMateOp (hc : s.canonical) : s.wakeMateOp.canonical :=
  canonical_each (fun _ _ h => canonical_wrN _ _ h) (canonical_upd hc)

/-! ### Restoration -/

theorem canonical_sendNotice {u cause start : Nat} {switch : Bool} (hc : s.canonical) : (s.sendNotice u cause start
    switch).canonical :=
  canonical_ite (canonical_ite (canonical_sendMate hc) (canonical_upd (canonical_sendMate hc))) hc

theorem canonical_noticeStep (hc : s.canonical) : s.noticeStep.canonical :=
  canonical_each (fun _ _ h => canonical_ite (canonical_upd h) (canonical_ite (canonical_ite h (canonical_putMate h))
      (canonical_upd (canonical_ite h (canonical_putMate h))))) (canonical_upd hc)

theorem canonical_restTrigger {u cause : Nat} (hc : s.canonical) : (s.restTrigger u cause).canonical :=
  canonical_ite (canonical_ite (canonical_upd hc) (canonical_sendNotice (canonical_upd hc))) hc

theorem canonical_lossTriggers {r : Nat} (hc : s.canonical) : (s.lossTriggers r).canonical :=
  canonical_each (fun _ _ h => canonical_ite (canonical_restTrigger h) h) hc

theorem canonical_faultTriggers {r : Nat} (hc : s.canonical) : (s.faultTriggers r).canonical :=
  canonical_each (fun _ _ h => canonical_ite (canonical_restTrigger h) h) hc

theorem nextCanonical_execFrameLost {r : Fin 4} {g : Fin 8} : NextCanonical s (execFrameLost r g s) := by
  unfold execFrameLost
  split
  · exact .next fun hc => canonical_lossTriggers (canonical_ite (canonical_delayClear (canonical_frameLost hc))
        (canonical_frameLost hc))
  · exact .next fun hc => hc

theorem canonical_switchPath {u : Nat} (hc : s.canonical) : (s.switchPath u).canonical :=
  canonical_wrN _ _ (canonical_agcRearmOp (canonical_ite hc (canonical_ite (canonical_cdSwapOp hc) (canonical_raise _ _ _ hc))))

theorem canonical_freezeAll {fs : List Nat} (hc : s.canonical) : (s.freezeAll fs).canonical :=
  canonical_each (fun _ _ h => canonical_freeze h) hc

theorem canonical_restRestart {r cause : Nat} (hc : s.canonical) : (s.restRestart r cause).canonical :=
  canonical_ite hc (canonical_each (fun _ _ h => canonical_upd h) hc)

theorem canonical_setDurableSide {u side : Nat} (hc : s.canonical) : (s.setDurableSide u side).canonical := canonical_wrN _ _ hc

theorem canonical_moveDurable {u side : Nat} (hc : s.canonical) : (s.moveDurable u side).canonical :=
  canonical_ite hc (canonical_raise _ _ _ (canonical_setDurableSide hc))

theorem canonical_moveAll {u side : Nat} (hc : s.canonical) : (s.moveAll u side).canonical :=
  canonical_upd (canonical_moveDurable hc)

theorem canonical_toStandby {u : Nat} (hc : s.canonical) : (s.toStandby u).canonical :=
  canonical_upd (canonical_setDurableSide (canonical_wrN _ _ (canonical_each (fun _ _ h => canonical_ite (canonical_upd h) h)
      hc)))

theorem canonical_restSwitch {u : Nat} (hc : s.canonical) : (s.restSwitch u).canonical := by
  unfold State.restSwitch
  split
  · exact canonical_ite (canonical_restRestart (canonical_switchPath hc)) hc
  · exact canonical_ite (canonical_onlyIf (fun h => canonical_delayClear h) (canonical_switchPath (canonical_upd hc))) hc

theorem canonical_restoreStart {u cause : Nat} (hc : s.canonical) : (s.restoreStart u cause).canonical :=
  canonical_ite (canonical_ite (canonical_raise _ _ _ (canonical_wrN _ _ (canonical_freezeAll (canonical_ite
      (canonical_wakeMateOp (canonical_delayClear (canonical_raise _ _ _ (canonical_inc _ (canonical_wrN _ _ (canonical_upd
      hc)))))) (canonical_delayClear (canonical_raise _ _ _ (canonical_inc _ (canonical_wrN _ _ (canonical_upd hc)))))))))
      (canonical_wrN _ _ (canonical_freezeAll (canonical_ite (canonical_wakeMateOp (canonical_delayClear (canonical_raise _ _ _
      (canonical_inc _ (canonical_wrN _ _ (canonical_upd hc)))))) (canonical_delayClear (canonical_raise _ _ _ (canonical_inc _
      (canonical_wrN _ _ (canonical_upd hc))))))))) (canonical_ite (canonical_wrN _ _ (canonical_ite (canonical_each (fun _ _ h
      => canonical_groupStart h) (canonical_upd (canonical_upd (canonical_setDurableSide (canonical_ite (canonical_freezeAll
      (canonical_ite (canonical_wakeMateOp (canonical_delayClear (canonical_raise _ _ _ (canonical_inc _ (canonical_wrN _ _
      (canonical_upd hc)))))) (canonical_delayClear (canonical_raise _ _ _ (canonical_inc _ (canonical_wrN _ _ (canonical_upd
      hc))))))) (canonical_ite (canonical_wakeMateOp (canonical_delayClear (canonical_raise _ _ _ (canonical_inc _
      (canonical_wrN _ _ (canonical_upd hc)))))) (canonical_delayClear (canonical_raise _ _ _ (canonical_inc _ (canonical_wrN _
      _ (canonical_upd hc))))))))))) (canonical_upd (canonical_upd (canonical_setDurableSide (canonical_ite (canonical_freezeAll
      (canonical_ite (canonical_wakeMateOp (canonical_delayClear (canonical_raise _ _ _ (canonical_inc _ (canonical_wrN _ _
      (canonical_upd hc)))))) (canonical_delayClear (canonical_raise _ _ _ (canonical_inc _ (canonical_wrN _ _ (canonical_upd
      hc))))))) (canonical_ite (canonical_wakeMateOp (canonical_delayClear (canonical_raise _ _ _ (canonical_inc _
      (canonical_wrN _ _ (canonical_upd hc)))))) (canonical_delayClear (canonical_raise _ _ _ (canonical_inc _ (canonical_wrN _
      _ (canonical_upd hc)))))))))))) (canonical_wrN _ _ (canonical_upd (canonical_sendNotice (canonical_setDurableSide
      (canonical_freezeAll (canonical_ite (canonical_wakeMateOp (canonical_delayClear (canonical_raise _ _ _ (canonical_inc _
      (canonical_wrN _ _ (canonical_upd hc)))))) (canonical_delayClear (canonical_raise _ _ _ (canonical_inc _ (canonical_wrN _
      _ (canonical_upd hc))))))))))))

theorem nextCanonical_execRestorationStart {u : Fin 4} : NextCanonical s (execRestorationStart u s) := by
  unfold execRestorationStart
  split
  · exact .ite (.next fun hc => canonical_upd hc) (.next id)
  · exact .next fun hc => hc

theorem canonical_drainStart {f : Nat} (hc : s.canonical) : (s.drainStart f).canonical := by
  unfold State.drainStart
  split
  · exact hc
  · exact canonical_ite (canonical_ite (canonical_wrN _ _ (canonical_opAdvance (canonical_opStart _ _ (canonical_upd
        (canonical_drainFlow hc))))) (canonical_drainFlow hc)) hc

theorem canonical_reconcileFrom {u : Nat} (hc : s.canonical) : (s.reconcileFrom u).canonical :=
  canonical_each (fun _ _ h => canonical_upd h) hc

theorem canonical_faultRecovery {u : Nat} (hc : s.canonical) : (s.faultRecovery u).canonical :=
  canonical_ite hc (canonical_ite hc (canonical_ite (canonical_ite (canonical_reconcileFrom (canonical_wrN _ _ (canonical_upd
      hc))) hc) (canonical_ite (canonical_ite (canonical_reconcileFrom (canonical_wrN _ _ (canonical_setDurableSide
      (canonical_upd hc)))) (canonical_ite (canonical_reconcileFrom (canonical_wrN _ _ (canonical_setDurableSide (canonical_upd
      hc)))) hc)) (canonical_ite (canonical_reconcileFrom (canonical_wrN _ _ (canonical_setDurableSide hc))) hc))))

theorem canonical_prearmIgnored {u why : Nat} (hc : s.canonical) : (s.prearmIgnored u why).canonical :=
  canonical_raise _ _ _ (canonical_inc _ hc)

theorem canonical_preArmUnit {u r : Nat} (hc : s.canonical) : (s.preArmUnit u r).canonical :=
  canonical_ite (canonical_prearmIgnored (canonical_ite (canonical_upd hc) hc)) (canonical_ite (canonical_ite (canonical_upd hc)
      hc) (canonical_ite (canonical_prearmIgnored (canonical_ite (canonical_upd hc) hc)) (canonical_ite (canonical_ite
      (canonical_ite (canonical_ite (canonical_upd (canonical_ite (canonical_upd hc) hc)) (canonical_ite (canonical_upd hc) hc))
      (canonical_ite (canonical_restTrigger (canonical_ite (canonical_upd hc) hc)) (canonical_ite (canonical_upd hc) hc)))
      (canonical_ite (canonical_ite (canonical_restTrigger (canonical_ite (canonical_upd hc) hc)) (canonical_ite (canonical_upd
      hc) hc)) (canonical_ite (canonical_upd hc) hc))) (canonical_ite (canonical_ite (canonical_upd (canonical_ite
      (canonical_upd hc) hc)) (canonical_ite (canonical_upd hc) hc)) (canonical_ite (canonical_upd hc) hc)))))

theorem canonical_plannedSwitch {u : Nat} (hc : s.canonical) : (s.plannedSwitch u).canonical :=
  canonical_raise _ _ _ (canonical_upd (canonical_toStandby (canonical_upd (canonical_sendNotice hc))))

theorem canonical_helloIn {b : List Byte} (hc : s.canonical) : (s.helloIn b).canonical :=
  canonical_each (fun _ _ h => canonical_ite (canonical_upd h) (canonical_ite (canonical_toStandby (canonical_raise _ _ _
      (canonical_wrN _ _ (canonical_upd h)))) (canonical_ite (canonical_upd (canonical_upd h)) (canonical_upd h)))) hc

theorem canonical_noticeIn {m : MateMsg} (hc : s.canonical) : (s.noticeIn m).canonical :=
  canonical_ite (canonical_each (fun _ _ h => canonical_ite (canonical_upd h) h) (canonical_each (fun _ _ h => canonical_ite
      (canonical_preArmUnit h) h) hc)) (canonical_each (fun _ _ h => canonical_ite (canonical_preArmUnit h) h) hc)

theorem canonical_mateRestoration {u : Nat} (hc : s.canonical) : (s.mateRestoration u).canonical :=
  canonical_delayClear (canonical_ite (canonical_wakeMateOp (canonical_raise _ _ _ (canonical_inc _ (canonical_wrN _ _
      (canonical_upd hc))))) (canonical_raise _ _ _ (canonical_inc _ (canonical_wrN _ _ (canonical_upd hc)))))

theorem canonical_switchStep {u : Nat} (hc : s.canonical) : (s.switchStep u).canonical := by
  unfold State.switchStep
  split
  · exact canonical_ite (canonical_ite (canonical_raise _ _ _ (canonical_ite (canonical_raise _ _ _ (canonical_becomeActive
        (canonical_mateRestoration hc))) (canonical_becomeActive (canonical_mateRestoration hc)))) (canonical_ite
        (canonical_raise _ _ _ (canonical_becomeActive (canonical_mateRestoration hc))) (canonical_becomeActive
        (canonical_mateRestoration hc)))) hc
  · exact hc

theorem canonical_electStep {u : Nat} (hc : s.canonical) : (s.electStep u).canonical := by
  unfold State.electStep
  refine canonical_ite ?_ hc
  split
  · exact canonical_ite (canonical_upd (canonical_wrN _ _ (canonical_setDurableSide hc))) (canonical_ite hc (canonical_ite
        (canonical_upd (canonical_wrN _ _ (canonical_setDurableSide (canonical_draw hc)))) (canonical_draw hc)))
  · exact hc

theorem canonical_mirrorStep {u : Nat} (hc : s.canonical) : (s.mirrorStep u).canonical :=
  canonical_ite hc (canonical_ite (canonical_each (fun _ _ h => canonical_upd h) hc) (canonical_ite (canonical_upd hc)
      (canonical_each (fun _ _ h => canonical_sendMate h) (canonical_upd (canonical_upd hc)))))

theorem canonical_mirrorEntryIn {u : Nat} {b : List Byte} (hc : s.canonical) : (s.mirrorEntryIn u b).canonical := by
  unfold State.mirrorEntryIn
  refine canonical_ite hc ?_
  dsimp only
  split
  · exact canonical_ite (canonical_upd (canonical_freeHeld (canonical_upd hc))) (canonical_raiseLimitedItem _ _ _ _ _
        (canonical_upd (canonical_freeHeld (canonical_upd hc))))
  · exact canonical_freeHeld (canonical_upd hc)

theorem canonical_mirrorIn {b : List Byte} (hc : s.canonical) : (s.mirrorIn b).canonical :=
  canonical_ite hc (canonical_ite (canonical_sendMate (canonical_upd (canonical_each (fun _ _ h => canonical_mirrorEntryIn h)
      hc))) (canonical_upd (canonical_each (fun _ _ h => canonical_mirrorEntryIn h) hc)))

theorem canonical_mirrorAckIn {b : List Byte} (hc : s.canonical) : (s.mirrorAckIn b).canonical := by
  unfold State.mirrorAckIn
  refine canonical_ite hc ?_
  dsimp only
  split
  · exact canonical_each (fun _ _ h => canonical_upd h) (canonical_upd hc)
  · exact hc

theorem canonical_mateActs {m : MateMsg} (hc : s.canonical) : (s.mateActs m).canonical :=
  canonical_ite (canonical_helloIn hc) (canonical_ite (canonical_noticeIn hc) (canonical_ite (canonical_mirrorIn hc)
      (canonical_ite (canonical_mirrorAckIn hc) (canonical_ite (canonical_upd hc) hc))))

theorem canonical_mateBoundary (hc : s.canonical) : s.mateBoundary.canonical :=
  canonical_each (fun _ _ h => canonical_mateActs h) (canonical_upd hc)

theorem canonical_mateRelayIn {r g : Nat} {bs : List Byte} (hc : s.canonical) : (s.mateRelayIn r g bs).canonical := by
  unfold State.mateRelayIn
  refine canonical_ite (canonical_relayForward hc) ?_
  refine canonical_ite hc ?_
  split
  · exact canonical_mateError hc
  · exact canonical_ite hc (canonical_ite (canonical_inc _ (canonical_mateHeard hc)) (canonical_ite (canonical_mateActs
        (canonical_mateHeard hc)) (canonical_mateHeard hc)))

theorem canonical_lockoutOp {u : Nat} (hc : s.canonical) : (s.lockoutOp u).canonical :=
  canonical_ite hc (canonical_wrN _ _ (canonical_upd (canonical_ite (canonical_moveAll hc) hc)))

theorem canonical_forceOp {u : Nat} (hc : s.canonical) : (s.forceOp u).canonical :=
  canonical_ite (canonical_onlyIf (fun h => canonical_upd h) hc) (canonical_ite (canonical_restTrigger (canonical_onlyIf (fun h
      => canonical_upd h) hc)) (canonical_ite (canonical_wrN _ _ (canonical_upd (canonical_moveAll (canonical_onlyIf (fun h =>
      canonical_upd h) hc)))) (canonical_ite (canonical_plannedSwitch (canonical_onlyIf (fun h => canonical_upd h) hc))
      (canonical_onlyIf (fun h => canonical_upd h) hc))))

theorem canonical_clearOp {u : Nat} (hc : s.canonical) : (s.clearOp u).canonical := canonical_ite (canonical_wrN _ _ hc) hc

theorem canonical_commandOp {u v : Nat} (hc : s.canonical) : (s.commandOp u v).canonical :=
  canonical_ite (canonical_lockoutOp hc) (canonical_ite (canonical_forceOp hc) (canonical_clearOp hc))

theorem canonical_unitModeOp {u v : Nat} (hc : s.canonical) : (s.unitModeOp u v).canonical :=
  canonical_wrN _ _ (canonical_setDurableSide (canonical_upd (canonical_wrN _ _ hc)))

theorem canonical_restFigures {u : Nat} (hc : s.canonical) : (s.restFigures u).canonical := canonical_ite hc (canonical_upd hc)

theorem canonical_reconcileStep {f : Nat} (hc : s.canonical) : (s.reconcileStep f).canonical :=
  canonical_ite (canonical_onlyIf (fun h => canonical_upd h) hc) (canonical_onlyIf (fun h => canonical_upd h) hc)

theorem canonical_planStep {u : Nat} (hc : s.canonical) : (s.planStep u).canonical := by
  unfold State.planStep
  refine canonical_ite hc ?_
  split
  · exact canonical_wrN _ _ (canonical_upd (canonical_ite (canonical_upd (canonical_moveDurable (canonical_upd hc)))
        (canonical_moveDurable (canonical_upd hc))))
  · exact canonical_ite (canonical_upd hc) (canonical_wrN _ _ (canonical_upd (canonical_ite (canonical_upd (canonical_ite
        (canonical_raise _ _ _ (canonical_moveAll (canonical_upd hc))) (canonical_moveAll (canonical_upd hc)))) (canonical_ite
        (canonical_raise _ _ _ (canonical_moveAll (canonical_upd hc))) (canonical_moveAll (canonical_upd hc))))))
  · exact canonical_ite (canonical_plannedSwitch (canonical_upd hc)) (canonical_upd hc)
  · exact canonical_upd hc
  · exact canonical_upd hc

theorem canonical_restBoundary (hc : s.canonical) : s.restBoundary.canonical := by
  unfold State.restBoundary
  refine canonical_each (fun _ _ h => canonical_wrN _ _ h) ?_
  refine canonical_each (fun _ _ h => canonical_drainStart h) ?_
  refine canonical_each ?_ (canonical_each (fun _ _ h => canonical_reconcileStep h) hc)
  intro _ _ h
  refine canonical_electStep ?_
  refine canonical_switchStep ?_
  refine canonical_faultRecovery ?_
  split
  · exact canonical_restoreStart (canonical_restFigures h)
  · exact canonical_planStep (canonical_restFigures h)

/-! ### The engines -/

theorem canonical_wrap {c e k cyc : Nat} (hc : s.canonical) : (s.wrap c e k cyc).canonical :=
  canonical_wrN _ _ (canonical_upd hc)

theorem canonical_countIn {c e k n cyc last : Nat} (hc : s.canonical) : (s.countIn c e k n cyc last).canonical := by
  unfold State.countIn
  refine canonical_ite hc ?_
  split
  · exact canonical_onlyIf (fun h => canonical_wrap h) (canonical_upd hc)
  · exact canonical_onlyIf (fun h => canonical_wrap h) (canonical_wrN _ _ (canonical_upd hc))

theorem canonical_count {c e k n : Nat} (hc : s.canonical) : (s.count c e k n).canonical := canonical_countIn hc

theorem canonical_eventIn {c e code n cyc : Nat} (hc : s.canonical) : (s.eventIn c e code n cyc).canonical :=
  canonical_each (fun _ _ h => canonical_ite (canonical_countIn h) h) hc

theorem canonical_event {c e code n : Nat} (hc : s.canonical) : (s.event c e code n).canonical := canonical_eventIn hc

theorem canonical_passTo {c e t used : Nat} (hc : s.canonical) : (s.passTo c e t used).canonical :=
  canonical_countIn (canonical_upd hc)

theorem canonical_starve {c e cyc : Nat} {causes : List Nat} (hc : s.canonical) : (s.starve c e cyc causes).canonical :=
  canonical_each (fun _ _ h => canonical_eventIn (canonical_countIn h)) hc

theorem canonical_issued {c e : Nat} {i : EngI} {t : Nat} {second : Bool} {causes : List Nat} (hc : s.canonical) : (s.issued c e
    i t second causes).canonical :=
  canonical_upd (canonical_passTo (canonical_starve (canonical_starve hc)))

theorem canonical_engPut {c e a : Nat} {b : Byte} (hc : s.canonical) : (s.engPut c e a b).canonical :=
  canonical_ite (canonical_upd hc) (canonical_ite (canonical_upd hc) hc)

theorem canonical_engMarks {c e a n : Nat} (hc : s.canonical) : (s.engMarks c e a n).canonical :=
  canonical_ite (canonical_bytesWritten hc) hc

theorem canonical_engWrite {c e a : Nat} {bs : List Byte} (hc : s.canonical) : (s.engWrite c e a bs).canonical :=
  canonical_engMarks (canonical_each (fun _ _ h => canonical_engPut h) hc)

theorem canonical_csrLatch {c e n : Nat} (hc : s.canonical) : (s.csrLatch c e n).canonical :=
  canonical_ite (canonical_upd hc) hc

theorem canonical_csrWrite {c e n t : Nat} {v : Word} (hc : s.canonical) : (s.csrWrite c e n t v).canonical :=
  canonical_ite (canonical_upd hc) (canonical_ite (canonical_upd hc) (canonical_ite (canonical_upd (canonical_wrN _ _ hc))
      (canonical_ite (canonical_wrN _ _ hc) (canonical_ite (canonical_wrN _ _ hc) (canonical_upd hc)))))

theorem canonical_sendMsg {c e d : Nat} {ws : List Word} {t : Nat} (hc : s.canonical) : (s.sendMsg c e d ws t).1.canonical :=
  canonical_ite_fst (canonical_upd hc) (canonical_ite_fst (canonical_upd hc) (canonical_upd hc))

theorem canonical_releaseOut {c e t : Nat} (hc : s.canonical) : (s.releaseOut c e t).canonical :=
  canonical_upd (canonical_upd hc)

theorem canonical_outputsLand (hc : s.canonical) : s.outputsLand.canonical :=
  canonical_each (fun _ _ h => canonical_ringWrite h) (canonical_upd hc)

theorem nextCanonical_execMooringDelivery {c : Fin 12} {e : Fin 16} {dest : BitVec 16} : NextCanonical s (execMooringDelivery c
    e dest s) := by
  unfold execMooringDelivery
  split
  · exact .next fun hc => hc
  · exact .ite (.next fun hc => canonical_upd (canonical_upd hc)) (.next fun hc => canonical_upd (canonical_bytesWritten
        (canonical_upd hc)))

theorem canonical_engFault {c e : Nat} (hc : s.canonical) : (s.engFault c e).canonical := canonical_wrN _ _ hc

theorem canonical_beside {c e : Nat} {i : EngI} {next : Word} (hc : s.canonical) : (s.beside c e i next).canonical := by
  unfold State.beside
  split
  · exact canonical_ite (canonical_count hc) (canonical_starve hc)
  · exact canonical_count hc

theorem canonical_engTrapAt {c e : Nat} {i : EngI} {pc : Word} {cause info : Nat} {second : Bool} (hc : s.canonical) :
    (s.engTrapAt c e i pc cause info second).canonical :=
  canonical_ite (canonical_ite (canonical_raise _ _ _ (canonical_engFault (canonical_raiseLimitedFor (canonical_inc _
      (canonical_upd (canonical_upd (canonical_wrN _ _ (canonical_wrN _ _ (canonical_wrN _ _ (canonical_upd (canonical_onlyIf
      (fun h => canonical_beside h) (canonical_count hc)))))))))))) (canonical_raiseLimitedFor (canonical_inc _ (canonical_upd
      (canonical_upd (canonical_wrN _ _ (canonical_wrN _ _ (canonical_wrN _ _ (canonical_upd (canonical_onlyIf (fun h =>
      canonical_beside h) (canonical_count hc))))))))))) (canonical_ite (canonical_engFault (canonical_upd (canonical_upd
      (canonical_wrN _ _ (canonical_wrN _ _ (canonical_wrN _ _ (canonical_upd (canonical_onlyIf (fun h => canonical_beside h)
      (canonical_count hc))))))))) (canonical_upd (canonical_count (canonical_passTo (canonical_draw (canonical_wrN _ _
      (canonical_wrN _ _ (canonical_wrN _ _ (canonical_upd (canonical_onlyIf (fun h => canonical_beside h) (canonical_count
      hc)))))))))))

theorem canonical_bankServe {c e a w t : Nat} (hc : s.canonical) : (s.bankServe c e a w t).canonical :=
  canonical_ite hc (canonical_upd hc)

theorem canonical_retireEvents {c e : Nat} {i : EngI} {f : EngEff} (hc : s.canonical) : (s.retireEvents c e i f).canonical := by
  unfold State.retireEvents
  refine canonical_ite ?_ ?_
  · refine canonical_event ?_
    split
    · exact canonical_corrected (canonical_event (canonical_ite (canonical_event (canonical_ite (canonical_event (canonical_ite
          (canonical_event (canonical_ite (canonical_event hc) hc)) (canonical_ite (canonical_event hc) hc))) (canonical_ite
          (canonical_event (canonical_ite (canonical_event hc) hc)) (canonical_ite (canonical_event hc) hc)))) (canonical_ite
          (canonical_event (canonical_ite (canonical_event (canonical_ite (canonical_event hc) hc)) (canonical_ite
          (canonical_event hc) hc))) (canonical_ite (canonical_event (canonical_ite (canonical_event hc) hc)) (canonical_ite
          (canonical_event hc) hc)))))
    · exact canonical_ite (canonical_event (canonical_ite (canonical_event (canonical_ite (canonical_event (canonical_ite
          (canonical_event hc) hc)) (canonical_ite (canonical_event hc) hc))) (canonical_ite (canonical_event (canonical_ite
          (canonical_event hc) hc)) (canonical_ite (canonical_event hc) hc)))) (canonical_ite (canonical_event (canonical_ite
          (canonical_event (canonical_ite (canonical_event hc) hc)) (canonical_ite (canonical_event hc) hc))) (canonical_ite
          (canonical_event (canonical_ite (canonical_event hc) hc)) (canonical_ite (canonical_event hc) hc)))
  · split
    · exact canonical_corrected (canonical_event (canonical_ite (canonical_event (canonical_ite (canonical_event (canonical_ite
          (canonical_event (canonical_ite (canonical_event hc) hc)) (canonical_ite (canonical_event hc) hc))) (canonical_ite
          (canonical_event (canonical_ite (canonical_event hc) hc)) (canonical_ite (canonical_event hc) hc)))) (canonical_ite
          (canonical_event (canonical_ite (canonical_event (canonical_ite (canonical_event hc) hc)) (canonical_ite
          (canonical_event hc) hc))) (canonical_ite (canonical_event (canonical_ite (canonical_event hc) hc)) (canonical_ite
          (canonical_event hc) hc)))))
    · exact canonical_ite (canonical_event (canonical_ite (canonical_event (canonical_ite (canonical_event (canonical_ite
          (canonical_event hc) hc)) (canonical_ite (canonical_event hc) hc))) (canonical_ite (canonical_event (canonical_ite
          (canonical_event hc) hc)) (canonical_ite (canonical_event hc) hc)))) (canonical_ite (canonical_event (canonical_ite
          (canonical_event (canonical_ite (canonical_event hc) hc)) (canonical_ite (canonical_event hc) hc))) (canonical_ite
          (canonical_event (canonical_ite (canonical_event hc) hc)) (canonical_ite (canonical_event hc) hc)))

theorem canonical_afterIssue {c e : Nat} {i : EngI} {next : Word} {t wait : Nat} {second : Bool} {f : EngEff} (hc : s.canonical)
    : (s.afterIssue c e i next t wait second f).canonical :=
  canonical_ite (canonical_count (canonical_passTo (canonical_onlyIf (fun h => canonical_beside h) hc))) (canonical_ite
      (canonical_starve (canonical_passTo (canonical_starve hc))) hc)

theorem canonical_tendOp {c e t : Nat} {second : Bool} (hc : s.canonical) : (s.tendOp c e t second).canonical :=
  canonical_upd (canonical_upd (canonical_releaseOut (canonical_ite (canonical_inc _ (canonical_count hc)) (canonical_count
      hc))))

theorem canonical_readLost {c e : Nat} {i : EngI} {a : Nat} (hc : s.canonical) : (s.readLost c e i a).canonical :=
  canonical_uncorrectable (canonical_loseByte hc)

/-- An instruction's effect leaves a canonical dictionary, where it is no trap. -/
def EffCanonical (f : Except (Nat × Nat) EngEff) : Prop := ∀ y, f = .ok y → y.s.canonical

theorem EffCanonical.ok {y : EngEff} (h : y.s.canonical) : EffCanonical (.ok y) := fun _ e => by cases e; exact h

theorem EffCanonical.error {p : Nat × Nat} : EffCanonical (.error p) := fun _ e => by cases e

theorem EffCanonical.ite {p : Prop} [Decidable p] {a b : Except (Nat × Nat) EngEff} (ha : EffCanonical a) (hb : EffCanonical b) :
    EffCanonical (if p then a else b) := by split <;> assumption

theorem effCanonical_engDo {c e : Nat} {i : EngI} {m : MemPort} {fenceWait t : Nat} (hc : s.canonical) :
    EffCanonical (s.engDo c e i m fenceWait t) := by
  cases i <;> dsimp only [State.engDo]
  case alu => exact .ok (canonical_upd hc)
  case rk => exact .ok (canonical_upd hc)
  case sethi => exact .ok (canonical_upd hc)
  case call => exact .ok (canonical_upd hc)
  case jumpr => exact .ite .error (.ok (canonical_upd hc))
  case ld =>
    split
    · exact .error
    · exact .ite (.ok (canonical_upd (canonical_draw hc)))
        (.ok (canonical_upd (canonical_bankServe hc)))
  case st =>
    split
    · exact .error
    · exact .ok (canonical_engWrite (canonical_bankServe hc))
  case br => exact .ite (.ok hc) (.ok hc)
  case msend d a b n =>
    refine .ite .error (.ite .error ?_)
    split
    · exact .error
    · refine .ite .error ?_
      have h := canonical_sendMsg (c := c) (e := e) (d := ((s.eng c e).gpr a).toNat) (t := t)
        (ws := (List.range (n.toNat + 1)).map (fun j => BitVec.ofNat 32 (s.engRead c e (((s.eng c e).gpr b).toNat + 4 * j) 4))) hc
      generalize s.sendMsg c e ((s.eng c e).gpr a).toNat _ t = p at h ⊢
      exact .ok (canonical_upd (canonical_ite h (canonical_event h)))
  case mrecv =>
    split
    · exact .ok (canonical_upd (canonical_event hc))
    · exact .ite .error (.ite .error (.ite .error
        (.ok (canonical_upd (canonical_engWrite (canonical_upd hc))))))
  case mwait => exact .ite (.ok (canonical_upd hc)) (.ok (canonical_upd hc))
  case xcs f d a csr =>
    split
    · exact .error
    · refine .ite .error (.ok (canonical_upd ?_))
      have hl := canonical_csrLatch (c := c) (e := e) (n := csr.toNat) hc
      cases f
      · exact hl
      · exact canonical_csrWrite hl
      · exact canonical_csrWrite hl
      · exact canonical_csrWrite hl
  case atom =>
    split
    · exact .error
    · exact .ok (canonical_upd (canonical_engWrite (canonical_bankServe hc)))
  case valu => exact .ok (canonical_upd hc)
  case vld =>
    split
    · exact .error
    · exact .ite (.ok (canonical_upd (canonical_draw hc)))
        (.ok (canonical_upd (canonical_bankServe hc)))
  case vst =>
    split
    · exact .error
    · exact .ok (canonical_engWrite (canonical_bankServe hc))
  case vbcast => exact .ok (canonical_upd hc)
  case vext => exact .ok (canonical_upd hc)
  case vins => exact .ok (canonical_upd hc)
  case vsum => exact .ok (canonical_upd hc)
  case nop => exact .ok hc
  case tend => exact .ok hc
  case fence => exact .ok hc
  case trap => exact .error
  case resume => exact .ite .error (.ok (canonical_upd (canonical_draw hc)))
  case halt => exact .ite .error (.ok hc)

theorem canonical_engIssue {c e : Nat} {i : EngI} {m : MemPort} {fenceWait : Nat} (hc : s.canonical) :
    (s.engIssue c e i m fenceWait).canonical := by
  unfold State.engIssue
  extract_lets x
  generalize x.issueAt i = q
  obtain ⟨t, second, causes⟩ := q
  refine canonical_ite hc ?_
  extract_lets s₁
  have h₁ : s₁.canonical := canonical_issued hc
  have hdo := effCanonical_engDo (c := c) (e := e) (i := i) (m := m) (fenceWait := fenceWait) (t := t) h₁
  clear_value s₁
  split
  · exact canonical_engTrapAt (canonical_onlyIf (fun h => canonical_readLost h) h₁)
  · next f hf =>
    have hb : (f.s.setEng c e { (f.s.eng c e).book i t f with pc := f.pc }).canonical := canonical_upd (hdo f hf)
    have h₂ := canonical_retireEvents (c := c) (e := e) (i := i) (f := f) (canonical_count (c := c) (e := e) (k := 1)
      (n := 1) hb)
    exact canonical_ite (canonical_tendOp h₂) (canonical_ite (canonical_engFault (canonical_upd
      (canonical_upd (canonical_onlyIf (fun h => canonical_starve h) h₂)))) (canonical_afterIssue h₂))

theorem canonical_engRow {c e : Nat} {i : EngI} {m : MemPort} {fenceWait : Nat} (hc : s.canonical) : (s.engRow c e i m
    fenceWait).canonical := by
  unfold State.engRow
  refine canonical_ite hc ?_
  refine canonical_ite (canonical_ite hc (canonical_engTrapAt (canonical_onlyIf (fun h => canonical_readLost h)
      (canonical_issued hc)))) ?_
  refine canonical_ite (canonical_ite hc (canonical_engTrapAt (canonical_onlyIf (fun h => canonical_readLost h)
      (canonical_issued hc)))) ?_
  split
  · exact canonical_ite hc (canonical_engTrapAt (canonical_onlyIf (fun h => canonical_readLost h) (canonical_issued hc)))
  · exact canonical_ite (canonical_engIssue hc) (canonical_ite (canonical_engIssue hc) hc)

theorem canonical_mwaitReturn {c e : Nat} (hc : s.canonical) : (s.mwaitReturn c e).canonical := by
  unfold State.mwaitReturn
  dsimp only
  split
  · exact hc
  · exact canonical_ite hc (canonical_upd (canonical_starve (canonical_passTo (canonical_starve hc))))

theorem canonical_taskCut {c e : Nat} (hc : s.canonical) : (s.taskCut c e).canonical :=
  canonical_upd (canonical_upd (canonical_each (fun _ _ h => canonical_incBy _ _ h) hc))

theorem canonical_cycleEnds {c e : Nat} (hc : s.canonical) : (s.cycleEnds c e).canonical := canonical_upd (canonical_starve hc)

theorem nextCanonical_execTickOverrun {c : Fin 12} {e : Fin 16} : NextCanonical s (execTickOverrun c e s) := by
  unfold execTickOverrun
  refine .ite (.next id) ?_
  refine .ite ?_ ?_
  · refine .next fun hc => ?_
    refine canonical_raise _ _ _ ?_
    refine canonical_engFault ?_
    refine canonical_upd ?_
    refine canonical_taskCut ?_
    refine canonical_raiseLimited ?_
    split
    · exact canonical_onlyIf (fun h => canonical_inc _ h) (canonical_inc _ (canonical_event (canonical_starve (canonical_passTo
          (canonical_starve (canonical_mwaitReturn hc))))))
    · exact canonical_inc _ (canonical_event (canonical_starve (canonical_passTo (canonical_starve (canonical_mwaitReturn
          hc)))))
  · refine .next fun hc => ?_
    refine canonical_upd ?_
    refine canonical_taskCut ?_
    refine canonical_raiseLimited ?_
    split
    · exact canonical_onlyIf (fun h => canonical_inc _ h) (canonical_inc _ (canonical_event (canonical_starve (canonical_passTo
          (canonical_starve (canonical_mwaitReturn hc))))))
    · exact canonical_inc _ (canonical_event (canonical_starve (canonical_passTo (canonical_starve (canonical_mwaitReturn
          hc)))))

theorem canonical_taskStart {c e : Nat} (hc : s.canonical) : (s.taskStart c e).canonical :=
  canonical_ite (canonical_count (canonical_inc _ (canonical_upd (canonical_ite (canonical_wrN _ _ (canonical_onlyIf (fun h =>
      canonical_upd (canonical_upd (canonical_cycleEnds h))) hc)) (canonical_ite (canonical_wrN _ _ (canonical_onlyIf (fun h =>
      canonical_upd (canonical_upd (canonical_cycleEnds h))) hc)) (canonical_onlyIf (fun h => canonical_upd (canonical_upd
      (canonical_cycleEnds h))) hc)))))) (canonical_ite (canonical_wrN _ _ (canonical_onlyIf (fun h => canonical_upd
      (canonical_upd (canonical_cycleEnds h))) hc)) (canonical_ite (canonical_wrN _ _ (canonical_onlyIf (fun h => canonical_upd
      (canonical_upd (canonical_cycleEnds h))) hc)) (canonical_onlyIf (fun h => canonical_upd (canonical_upd
      (canonical_cycleEnds h))) hc)))

theorem canonical_taskStarts (hc : s.canonical) : s.taskStarts.canonical :=
  canonical_each (fun _ _ h => canonical_each (fun _ _ h => canonical_taskStart h) h) (canonical_upd hc)

theorem canonical_engClear {c e : Nat} (hc : s.canonical) : (s.engClear c e).canonical :=
  canonical_upd (canonical_bytesWritten (canonical_upd hc))

theorem canonical_clusterClear {c : Nat} (hc : s.canonical) : (s.clusterClear c).canonical :=
  canonical_bytesWritten (canonical_upd (canonical_each (fun _ _ h => canonical_wrN _ _ (canonical_wrN _ _ (canonical_wrN _ _
      (canonical_engClear h)))) hc))

theorem canonical_keeperCluster {c : Nat} (hc : s.canonical) : (s.keeperCluster c).canonical :=
  canonical_each (fun _ _ h => canonical_wrN _ _ (canonical_wrN _ _ (canonical_wrN _ _ (canonical_wrN _ _ (canonical_upd
      (canonical_engClear h)))))) hc

theorem canonical_keeperLoad (hc : s.canonical) : s.keeperLoad.canonical :=
  canonical_each (fun _ _ h => canonical_keeperCluster h) hc

theorem canonical_engineLoadOp {c v : Nat} (hc : s.canonical) : (s.engineLoadOp c v).canonical :=
  canonical_wrN _ _ (canonical_wrN _ _ (canonical_upd hc))

theorem nextCanonical_execEngineLoadEnd {c : Fin 12} : NextCanonical s (execEngineLoadEnd c s) := by
  unfold execEngineLoadEnd
  refine .ite (.next id) ?_
  dsimp only
  split
  · exact .next fun hc => canonical_raise _ _ _ (canonical_wrN _ _ (canonical_wrN _ _ (canonical_upd hc)))
  · exact .next fun hc => canonical_raise _ _ _ (canonical_wrN _ _ (canonical_wrN _ _ (canonical_each (fun _ _ h =>
        canonical_wrN _ _ (canonical_wrN _ _ (canonical_wrN _ _ (canonical_wrN _ _ (canonical_wrN _ _ (canonical_upd
        (canonical_engClear h))))))) (canonical_upd hc))))

theorem canonical_showPartitions (hc : s.canonical) : s.showPartitions.canonical :=
  canonical_each (fun _ _ h => canonical_wrN _ _ h) (canonical_wrN _ _ (canonical_wrN _ _ hc))

theorem canonical_partitionOp {p first count : Nat} (hc : s.canonical) : (s.partitionOp p first count).canonical :=
  canonical_ite (canonical_showPartitions (canonical_each (fun _ _ h => canonical_wrN _ _ (canonical_clusterClear h))
      (canonical_wrN _ _ (canonical_wrN _ _ hc)))) (canonical_raise _ _ _ (canonical_showPartitions (canonical_each (fun _ _ h
      => canonical_wrN _ _ (canonical_clusterClear h)) (canonical_wrN _ _ (canonical_wrN _ _ hc)))))

/-! ### The supervisory converter -/

theorem canonical_nearest {a : Int} {b : Nat} (hc : s.canonical) : (s.nearest a b).2.canonical :=
  canonical_ite_snd hc (canonical_ite_snd hc (canonical_draw hc))

theorem canonical_filterWindow {f : Nat} {y : Int} (hc : s.canonical) : (s.filterWindow f y).canonical :=
  canonical_ite (canonical_ite (canonical_wrN _ _ (canonical_wr _ _ (canonical_wr _ _ (canonical_upd hc)))) (canonical_wrN _ _
      (canonical_draw (canonical_wr _ _ (canonical_wr _ _ (canonical_upd hc)))))) (canonical_upd hc)

theorem canonical_filterEnvelope {f : Nat} {y : Int} (hc : s.canonical) : (s.filterEnvelope f y).canonical :=
  canonical_ite (canonical_wr _ _ (canonical_roundFreeInt hc)) (canonical_wr _ _ (canonical_roundFreeInt hc))

theorem canonical_filterOutput {f : Nat} (hc : s.canonical) : (s.filterOutput f).canonical :=
  canonical_ite (canonical_inc _ (canonical_wr _ _ (canonical_wr _ _ (canonical_inc _ (canonical_onlyIf (fun h =>
      canonical_raiseLimited (canonical_inc _ h)) (canonical_wr _ _ (canonical_nearest (canonical_upd (canonical_wrN _ _
      hc))))))))) (canonical_filterEnvelope (canonical_filterWindow (canonical_wr _ _ (canonical_wr _ _ (canonical_inc _
      (canonical_onlyIf (fun h => canonical_raiseLimited (canonical_inc _ h)) (canonical_wr _ _ (canonical_nearest
      (canonical_upd (canonical_wrN _ _ hc))))))))))

theorem canonical_filterIn {f code : Nat} (hc : s.canonical) : (s.filterIn f code).canonical :=
  canonical_ite (canonical_upd hc) (canonical_ite (canonical_upd hc) (canonical_filterOutput (canonical_upd (canonical_nearest
      hc))))

theorem canonical_slotStart {tick phase : Nat} (hc : s.canonical) : (s.slotStart tick phase).canonical := by
  unfold State.slotStart
  dsimp only
  split
  · exact canonical_upd hc
  · refine canonical_ite (canonical_upd hc) ?_
    split <;> exact canonical_upd hc

theorem canonical_railIn {ch code : Nat} (hc : s.canonical) : (s.railIn ch code).canonical := by
  unfold State.railIn
  split
  · exact hc
  · exact canonical_onlyIf (fun h => canonical_raiseLimitedItem _ _ _ _ _ h) (canonical_upd hc)

theorem canonical_sentinelIn {i code : Nat} (hc : s.canonical) : (s.sentinelIn i code).canonical :=
  canonical_ite (canonical_raiseLimitedFor (canonical_inc _ (canonical_wrN _ _ (canonical_wrN _ _ hc)))) (canonical_upd
      (canonical_wrN _ _ hc))

theorem canonical_sentinelRead {read : Nat} (hc : s.canonical) : (s.sentinelRead read).canonical :=
  canonical_wrN _ _ (canonical_upd hc)

theorem canonical_queueResult {w : Nat} (hc : s.canonical) : (s.queueResult w).canonical :=
  canonical_onlyIf (fun h => canonical_ringWrite h) (canonical_wrN _ _ (canonical_upd (canonical_onlyIf (fun h =>
      canonical_raiseLimited (canonical_inc _ (canonical_upd h))) hc)))

theorem canonical_temperatureIn {c : Conv} {code : Nat} {tagged : Bool} (hc : s.canonical) : (s.temperatureIn c code
    tagged).canonical :=
  canonical_ite hc (canonical_ite (canonical_onlyIf (fun h => canonical_wr _ _ h) hc) (canonical_wr _ _ (canonical_upd
      (canonical_onlyIf (fun h => canonical_wr _ _ h) hc))))

theorem canonical_wakeIn {ch code : Nat} (hc : s.canonical) : (s.wakeIn ch code).canonical :=
  canonical_ite (canonical_upd hc) hc

theorem canonical_convResult {c : Conv} {code : Nat} (hc : s.canonical) : (s.convResult c code).canonical :=
  canonical_ite (canonical_onlyIf (fun h => canonical_railIn h) (canonical_wakeIn (canonical_temperatureIn (canonical_ite
      (canonical_sentinelIn (canonical_wrN _ _ (canonical_inc _ hc))) (canonical_ite (canonical_wrN _ _ (canonical_inc _ hc))
      (canonical_queueResult (canonical_wrN _ _ (canonical_inc _ hc)))))))) (canonical_each (fun _ _ h => canonical_filterIn h)
      (canonical_onlyIf (fun h => canonical_railIn h) (canonical_wakeIn (canonical_temperatureIn (canonical_ite
      (canonical_sentinelIn (canonical_wrN _ _ (canonical_inc _ hc))) (canonical_ite (canonical_wrN _ _ (canonical_inc _ hc))
      (canonical_queueResult (canonical_wrN _ _ (canonical_inc _ hc)))))))))

theorem canonical_keeperInject {request : Option Nat} (hc : s.canonical) : (s.keeperInject request).canonical := by
  unfold State.keeperInject
  split
  · exact canonical_onlyIf (fun h => canonical_upd h) hc
  · exact hc

theorem nextCanonical_execConversionSlot {code : BitVec 16} {keeper : KeeperSlot} {drained : Nat} : NextCanonical s
    (execConversionSlot code keeper drained s) := by
  unfold execConversionSlot
  dsimp only
  split
  · exact .next fun hc => canonical_slotStart (canonical_wrN _ _ (canonical_upd (canonical_keeperInject (canonical_sentinelRead
        hc))))
  · exact .next fun hc => canonical_slotStart (canonical_onlyIf (fun h => canonical_convResult h) (canonical_wrN _ _
        (canonical_upd (canonical_keeperInject (canonical_sentinelRead hc)))))

theorem canonical_superMode (hc : s.canonical) : s.superMode.canonical := canonical_wrN _ _ hc

theorem canonical_biasStep {r : Nat} {auto : List Nat} (hc : s.canonical) : (s.biasStep r auto).canonical :=
  canonical_ite hc (canonical_each (fun _ _ h => canonical_ite (canonical_upd h) h) hc)

theorem canonical_filterBoundary (hc : s.canonical) : s.filterBoundary.canonical :=
  canonical_each (fun _ _ h => canonical_upd (canonical_upd (canonical_each (fun _ _ h => canonical_wr _ _ h) h))) hc

/-! ### Memory integrity and the stockpile -/

theorem canonical_showSpares (hc : s.canonical) : s.showSpares.canonical :=
  canonical_wrN _ _ (canonical_each (fun _ _ h => canonical_wrN _ _ h) (canonical_wrN _ _ (canonical_wrN _ _ (canonical_wrN _ _
      hc))))

theorem canonical_faultMoorReach {r : Nat} (hc : s.canonical) : (s.faultMoorReach r).canonical :=
  canonical_ite hc (canonical_faultTriggers (canonical_upd hc))

theorem canonical_engineLost {c e : Nat} (hc : s.canonical) : (s.engineLost c e).canonical :=
  canonical_wrN _ _ (canonical_upd (canonical_upd (canonical_upd hc)))

theorem canonical_exhaustedUnit {u : Nat} (hc : s.canonical) : (s.exhaustedUnit u).canonical := by
  unfold State.exhaustedUnit
  split
  · exact canonical_faultMoorReach (canonical_exhaustedKind (canonical_upd hc))
  · dsimp only
    split
    · exact canonical_exhaustedKind hc
    · exact canonical_ite (canonical_showPartitions (canonical_raise _ _ _ (canonical_engFault (canonical_engineLost
          (canonical_exhaustedKind hc))))) (canonical_upd (canonical_engineLost (canonical_exhaustedKind hc)))
  · exact canonical_exhaustedKind hc
  · exact hc

theorem canonical_replaceUnit {k u : Nat} {commanded : Bool} (hc : s.canonical) : (s.replaceUnit k u commanded).canonical := by
  unfold State.replaceUnit
  split
  · exact canonical_requestSwap hc
  · exact canonical_requestSwap (canonical_exhaustedUnit hc)

theorem canonical_serveFailure {u : Nat} {commanded : Bool} (hc : s.canonical) : (s.serveFailure u commanded).canonical := by
  unfold State.serveFailure
  split
  · exact hc
  · refine canonical_ite hc ?_
    refine canonical_ite ?_ (canonical_replaceUnit hc)
    split
    · exact canonical_requestSwap hc
    · exact canonical_replaceUnit (canonical_requestSwap (canonical_upd hc))

theorem canonical_engineParity {c e : Nat} (hc : s.canonical) : (s.engineParity c e).canonical := by
  unfold State.engineParity
  refine canonical_ite hc ?_
  refine canonical_reportFailed ?_
  refine canonical_upd ?_
  split
  · exact hc
  · exact canonical_ite (canonical_upd (canonical_taskCut (canonical_cycleEnds hc))) hc

theorem nextCanonical_execStockpileFailure {parity : Option (Fin 12 × Fin 17)} :
    NextCanonical s (execStockpileFailure parity s) := by
  unfold execStockpileFailure
  extract_lets s₁
  have h₁ : s.canonical → s₁.canonical := fun hc => by
    unfold s₁
    split
    · exact canonical_engineParity hc
    · exact hc
  clear_value s₁
  split
  · exact .next h₁
  · exact .ite (.next h₁) (.next fun hc => canonical_serveFailure (canonical_upd (h₁ hc)))

theorem canonical_batchCheck (hc : s.canonical) : s.batchCheck.canonical := by
  unfold State.batchCheck
  refine canonical_ite hc ?_
  dsimp only
  split
  · exact canonical_opDone _ (canonical_opAdvance hc)
  · exact canonical_ite (canonical_opAdvance (canonical_upd (canonical_opStart _ _ (canonical_opDone _ (canonical_opAdvance
        hc))))) (canonical_upd (canonical_opStart _ _ (canonical_opDone _ (canonical_opAdvance hc))))

theorem canonical_batchValid {b : Nat} (hc : s.canonical) : (s.batchValid b).canonical :=
  canonical_ite hc (canonical_ite (canonical_opAdvance (canonical_upd hc)) (canonical_upd hc))

theorem canonical_batchRefused {b : Nat} (hc : s.canonical) : (s.batchRefused b).canonical := by
  unfold State.batchRefused
  refine canonical_ite hc ?_
  extract_lets mine kept _ s₁ s₂ s₃ _ _
  have h₁ : s₁.canonical := canonical_upd hc
  have h₂ : s₂.canonical := by
    refine canonical_each (fun s w h => ?_) h₁
    refine canonical_ite (canonical_ite (canonical_exhaustedUnit h) h) ?_
    refine canonical_ite (canonical_spentMacro (canonical_listRepeat h)) ?_
    extract_lets t
    have ht : t.canonical := by
      show (match w.succ with | some v => _ | none => s : State).canonical
      split
      · exact canonical_ite (canonical_noteReserve (canonical_upd h)) h
      · exact h
    clear_value t
    split
    · exact canonical_requestSwap (canonical_exhaustedKind ht)
    · exact canonical_exhaustedKind (canonical_listRepeat ht)
  have h₃ : s₃.canonical := canonical_opFail _ _ h₂
  clear_value s₂
  exact canonical_ite (canonical_ite h₃ (canonical_upd (canonical_opStart _ _ h₃))) h₂

theorem canonical_swapAbort (hc : s.canonical) : s.swapAbort.canonical :=
  canonical_batchCheck (canonical_opAbort _ _ (canonical_upd hc))

theorem canonical_swapTake {w : Swap} (hc : s.canonical) : (s.swapTake w).canonical := canonical_upd (canonical_upd hc)

theorem canonical_placeIn {w : Swap} (hc : s.canonical) : (s.placeIn w).canonical := by
  unfold State.placeIn
  refine canonical_showSpares ?_
  split
  · refine canonical_ite ?_ ?_
    · refine canonical_raise _ _ _ ?_
      refine canonical_inc _ ?_
      refine canonical_ite ?_ ?_
      · dsimp only
        split
        · exact canonical_wrN _ _ hc
        · exact hc
      · refine canonical_ite ?_ ?_
        · split
          · exact canonical_wrN _ _ (canonical_wrN _ _ hc)
          · exact canonical_wrN _ _ hc
        · refine canonical_ite ?_ ?_
          · refine canonical_cipherCapacity ?_
            split
            · exact canonical_wrN _ _ (canonical_upd (canonical_wrN _ _ hc))
            · exact canonical_upd (canonical_wrN _ _ hc)
          · refine canonical_ite ?_ (canonical_wrN _ _ (canonical_wrN _ _ (canonical_wrN _ _ (canonical_upd hc))))
            dsimp only
            split
            · exact canonical_wrN _ _ hc
            · exact hc
    · refine canonical_ite ?_ ?_
      · dsimp only
        split
        · exact canonical_wrN _ _ hc
        · exact hc
      · refine canonical_ite ?_ ?_
        · split
          · exact canonical_wrN _ _ (canonical_wrN _ _ hc)
          · exact canonical_wrN _ _ hc
        · refine canonical_ite ?_ ?_
          · refine canonical_cipherCapacity ?_
            split
            · exact canonical_wrN _ _ (canonical_upd (canonical_wrN _ _ hc))
            · exact canonical_upd (canonical_wrN _ _ hc)
          · refine canonical_ite ?_ (canonical_wrN _ _ (canonical_wrN _ _ (canonical_wrN _ _ (canonical_upd hc))))
            dsimp only
            split
            · exact canonical_wrN _ _ hc
            · exact hc
  · refine canonical_ite ?_ ?_
    · dsimp only
      split
      · exact canonical_wrN _ _ hc
      · exact hc
    · refine canonical_ite ?_ ?_
      · split
        · exact canonical_wrN _ _ (canonical_wrN _ _ hc)
        · exact canonical_wrN _ _ hc
      · refine canonical_ite ?_ ?_
        · refine canonical_cipherCapacity ?_
          split
          · exact canonical_wrN _ _ (canonical_upd (canonical_wrN _ _ hc))
          · exact canonical_upd (canonical_wrN _ _ hc)
        · refine canonical_ite ?_ (canonical_wrN _ _ (canonical_wrN _ _ (canonical_wrN _ _ (canonical_upd hc))))
          dsimp only
          split
          · exact canonical_wrN _ _ hc
          · exact hc

theorem canonical_bringIn {w : Swap} (hc : s.canonical) : (s.bringIn w).canonical :=
  canonical_ite (canonical_upd (canonical_swapTake hc)) (canonical_placeIn (canonical_swapTake hc))

theorem canonical_bringInLate {d : Nat} (hc : s.canonical) : (s.bringInLate d).canonical :=
  canonical_each (fun _ _ h => canonical_placeIn h) (canonical_upd hc)

theorem canonical_calAbortFor {w : Swap} (hc : s.canonical) : (s.calAbortFor w).canonical :=
  canonical_ite (canonical_opAbort _ _ (canonical_upd (canonical_calReturn hc))) hc

theorem canonical_stockpileStep {slices : Bool} (hc : s.canonical) : (s.stockpileStep slices).canonical :=
  canonical_batchCheck (canonical_each (fun _ _ h => canonical_bringIn (canonical_calAbortFor h)) hc)

theorem canonical_takeCluster {c : Nat} (hc : s.canonical) : (s.takeCluster c).canonical := by
  unfold State.takeCluster
  dsimp only
  split
  · refine canonical_raise _ _ _ ?_
    refine canonical_showPartitions ?_
    refine canonical_wrN _ _ ?_
    refine canonical_wrN _ _ ?_
    refine canonical_clusterClear ?_
    split
    · exact canonical_wrN _ _ hc
    · exact hc
  · refine canonical_raise _ _ _ ?_
    refine canonical_showPartitions ?_
    refine canonical_wrN _ _ ?_
    refine canonical_wrN _ _ ?_
    refine canonical_clusterClear ?_
    split
    · exact canonical_wrN _ _ hc
    · exact hc

theorem canonical_systemStep (hc : s.canonical) : s.systemStep.canonical := by
  unfold State.systemStep
  refine canonical_each ?_ (canonical_upd hc)
  intro _ _ h
  dsimp only
  split
  · split
    · exact canonical_takeCluster h
    · exact h
  · refine canonical_wrN _ _ ?_
    refine canonical_engClear ?_
    refine canonical_wrN _ _ ?_
    refine canonical_wrN _ _ ?_
    refine canonical_upd ?_
    split
    · exact canonical_takeCluster h
    · exact h

theorem canonical_assayBegin {kind unit : Nat} (hc : s.canonical) : (s.assayBegin kind unit).canonical :=
  canonical_opStart _ _ (canonical_upd hc)

theorem canonical_assayNotRun {bits : Nat} (hc : s.canonical) : (s.assayNotRun bits).canonical :=
  canonical_opFail _ _ (canonical_raise _ _ _ (canonical_wrN _ _ (canonical_upd hc)))

theorem canonical_assayResult {a : Assay} {failed : List Nat} {pllError : Int} {vcore : Nat} (hc : s.canonical) : (s.assayResult
    a failed pllError vcore).canonical :=
  canonical_opDone _ (canonical_opAdvance (canonical_onlyIf (fun h => canonical_wrN _ _ h) (canonical_wrN _ _ (canonical_each
      (fun _ _ h => canonical_serveFailure h) (canonical_each (fun _ _ h => canonical_raise _ _ _ h) (canonical_wrN _ _
      (canonical_wrN _ _ (canonical_wrN _ _ (canonical_wr _ _ (canonical_upd hc))))))))))

theorem canonical_assayRunOp {u : Nat} {pllError : Int} {low high : Nat} (hc : s.canonical) : (s.assayRunOp u pllError low
    high).canonical :=
  canonical_ite (canonical_assayBegin hc) (canonical_assayNotRun (canonical_assayBegin hc))

theorem canonical_assayCut (hc : s.canonical) : s.assayCut.canonical := by
  unfold State.assayCut
  split
  · exact canonical_ite (canonical_upd hc) (canonical_upd hc)
  · exact hc

theorem canonical_assayAbort (hc : s.canonical) : s.assayAbort.canonical := canonical_opAbort _ _ (canonical_assayCut hc)

theorem canonical_memConsequence {m owner : Nat} {lost : List Nat} (hc : s.canonical) : (s.memConsequence m owner
    lost).canonical :=
  canonical_ite hc (canonical_ite (canonical_upd hc) (canonical_ite (canonical_upd hc) (canonical_ite (canonical_upd hc)
      (canonical_upd hc))))

theorem canonical_memRead {x : MemRead} (hc : s.canonical) : (s.memRead x).canonical :=
  canonical_ite hc (canonical_ite (canonical_memConsequence (canonical_uncorrectable (canonical_loseByte hc))) (canonical_ite
      (canonical_corrected hc) hc))

theorem canonical_memBoundary (hc : s.canonical) : s.memBoundary.canonical :=
  canonical_each (fun _ _ h => canonical_ite (canonical_faultMoorReach h) (canonical_ite (canonical_ite h (canonical_resync
      (canonical_voidCells h))) (canonical_ite (canonical_eraseSlot h) h))) (canonical_upd hc)

theorem canonical_slotBad {k : Nat} (hc : s.canonical) : (s.slotBad k).canonical := by
  unfold State.slotBad
  dsimp only
  split
  · exact canonical_slotLost hc
  · exact canonical_freeHeld (canonical_upd (canonical_voidCells (canonical_slotLost hc)))

theorem canonical_rakeSlotRead {noise : List (Nat × Byte)} {gen p n : Nat} (hc : s.canonical) :
    (let k := slotBase * p + n
     let rd := (s.slot k).read noise
     if (s.bport p).retired.contains (n / 4096) ∨ (s.slot k).st = 3 then s
     else if rd.bad then (s.slotBad k).inc Obj.rakePoisoned
     else if rd.errs = 0 then s
     else (if gen ≠ (s.slot k).gen then s.inc Obj.rakeWritebacksDropped else s.inc Obj.rakeCorrected).slotCorrected p n).canonical :=
  canonical_ite hc (canonical_ite (canonical_inc _ (canonical_slotBad hc))
    (canonical_ite hc (canonical_slotCorrected
      (canonical_ite (canonical_inc _ hc) (canonical_inc _ hc)))))

theorem nextCanonical_execRakeRead {noise : List (Nat × Byte)} {gen : Nat} :
    NextCanonical s (execRakeRead noise gen s) := by
  unfold execRakeRead
  refine .ite (.next id) ?_
  extract_lets at_ next _ s₁ s₂ s₃ l _ s₄
  have h₃ : s.canonical → s₃.canonical := fun hc => by
    have h₁ : s₁.canonical := canonical_upd hc
    refine canonical_opAdvance ?_
    show s₂.canonical
    clear_value s₁ next
    unfold s₂
    split
    · exact h₁
    · exact canonical_rakeSlotRead h₁
  clear_value s₃
  exact .ite (.next fun hc => canonical_opDone _ (canonical_wrN _ _ (canonical_upd (h₃ hc)))) (.next h₃)

theorem canonical_rakeBoundary (hc : s.canonical) : s.rakeBoundary.canonical :=
  canonical_ite hc (canonical_upd (canonical_opStart _ _ hc))

theorem canonical_movePage {k v : Nat} (hc : s.canonical) : (s.movePage k v).canonical := by
  unfold State.movePage
  refine canonical_each (fun _ _ h => canonical_upd h) ?_
  split
  · exact canonical_upd (canonical_each (fun _ _ h => canonical_upd (canonical_upd h)) hc)
  · exact canonical_each (fun _ _ h => canonical_upd (canonical_upd h)) hc

theorem nextCanonical_execBasinPageRetired {p : Fin 8} {page : Nat} : NextCanonical s (execBasinPageRetired p page s) := by
  unfold execBasinPageRetired
  dsimp only
  split
  · exact .next fun hc => hc
  · refine .next fun hc => ?_
    refine canonical_batchCheck ?_
    refine canonical_upd ?_
    refine canonical_raise _ _ _ ?_
    refine canonical_wrN _ _ ?_
    refine canonical_upd ?_
    split
    · exact canonical_movePage hc
    · exact hc

theorem canonical_peekEffect {noise : List (Nat × Byte)} (hc : s.canonical) : (s.peekEffect noise).canonical :=
  canonical_ite hc (canonical_ite (canonical_slotBad hc) (canonical_onlyIf (fun h => canonical_slotCorrected h) hc))

/-! ### Releases -/

theorem canonical_showBasinSlots (hc : s.canonical) : s.showBasinSlots.canonical :=
  canonical_onlyIf (fun h => canonical_opResize h) (canonical_wrN _ _ hc)

theorem canonical_takeCapacity {p : Nat} (hc : s.canonical) : (s.takeCapacity p).canonical :=
  canonical_each (fun _ _ h => canonical_wrN _ _ (canonical_wrN _ _ h)) hc

theorem canonical_fillCheck (hc : s.canonical) : s.fillCheck.canonical :=
  canonical_ite hc (canonical_ite (canonical_ite (canonical_upd (canonical_opDone _ (canonical_opAdvance hc))) (canonical_opFail
      _ _ hc)) (canonical_ite hc (canonical_opFail _ _ (canonical_opStart _ _ hc))))

theorem canonical_leaveFill {p : Nat} (hc : s.canonical) : (s.leaveFill p).canonical :=
  canonical_fillCheck (canonical_showBasinSlots (canonical_upd (canonical_wrN _ _ hc)))

theorem canonical_downgradeStep (hc : s.canonical) : s.downgradeStep.canonical :=
  canonical_ite hc (canonical_onlyIf (fun h => canonical_raise _ _ _ h) (canonical_upd hc))

theorem canonical_calPowerAbort {r : Nat} (hc : s.canonical) : (s.calPowerAbort r).canonical :=
  canonical_ite hc (canonical_opAbort _ _ (canonical_upd (canonical_calReturn hc)))

theorem canonical_reachMoor {r : Nat} (hc : s.canonical) : (s.reachMoor r).canonical :=
  canonical_upd (canonical_delayClear (canonical_each (fun _ _ h => canonical_frameHunt (canonical_groupDrop
      (canonical_withdrawAnn h))) (canonical_watchSuppress (canonical_ite (canonical_upd (canonical_calPowerAbort
      (canonical_agcHold hc))) (canonical_wrN _ _ (canonical_upd (canonical_calPowerAbort (canonical_agcHold hc))))))))

theorem canonical_clusterMoor {c : Nat} (hc : s.canonical) : (s.clusterMoor c).canonical :=
  canonical_each (fun _ _ h => canonical_upd (canonical_upd h)) hc

theorem canonical_moorDomain {d : Nat} (hc : s.canonical) : (s.moorDomain d).canonical :=
  canonical_ite (canonical_ite (canonical_reachMoor (canonical_setDom _ _ hc)) (canonical_ite (canonical_berthMoor
      (canonical_setDom _ _ hc)) (canonical_ite (canonical_clusterMoor (canonical_setDom _ _ hc)) (canonical_setDom _ _ hc))))
      hc

theorem canonical_twiEnd {r status : Nat} {data : List Byte} (hc : s.canonical) : (s.twiEnd r status data).canonical := by
  unfold State.twiEnd
  split
  · exact hc
  · exact canonical_wrN _ _ (canonical_upd hc)

theorem canonical_isolate {d : Nat} (hc : s.canonical) : (s.isolate d).canonical :=
  canonical_onlyIf (fun h => canonical_wrN _ _ (canonical_upd (canonical_twiEnd h))) hc

theorem canonical_commitOff {d : Nat} (hc : s.canonical) : (s.commitOff d).canonical := canonical_upd (canonical_isolate hc)

theorem canonical_offDomain {d : Nat} {request : Bool} (hc : s.canonical) : (s.offDomain d request).canonical :=
  canonical_ite (canonical_upd (canonical_isolate (canonical_upd (canonical_setDom _ _ hc)))) (canonical_ite (canonical_each
      (fun _ _ h => canonical_portFresh h) (canonical_berthMoor (canonical_upd (canonical_setDom _ _ hc)))) (canonical_ite
      (canonical_ite (canonical_showBasinSlots (canonical_basinOff (canonical_upd (canonical_setDom _ _ hc)))) (canonical_ite
      (canonical_upd (canonical_setDom _ _ hc)) (canonical_basinOff (canonical_upd (canonical_setDom _ _ hc))))) (canonical_ite
      (canonical_cipherCapacity (canonical_upd (canonical_setDom _ _ hc))) (canonical_ite (canonical_clusterClear (canonical_upd
      (canonical_setDom _ _ hc))) (canonical_upd (canonical_setDom _ _ hc))))))

theorem canonical_reachFirstUse {r : Nat} (hc : s.canonical) : (s.reachFirstUse r).canonical :=
  canonical_wrN _ _ (canonical_showTrack (canonical_cdPowerUp (canonical_showBaselines (canonical_wrN _ _ (canonical_upd
      (canonical_each (fun _ _ h => canonical_showAnn (canonical_showRx (canonical_showTx (canonical_upd h))))
      (canonical_coeffReapply (canonical_upd (canonical_showRamps (canonical_wrN _ _ (canonical_each (fun _ _ h =>
      canonical_setEqSc (canonical_upd h)) (canonical_wrN _ _ hc))))))))))))

theorem canonical_poweredUp {d : Nat} (hc : s.canonical) : (s.poweredUp d).canonical :=
  canonical_ite (canonical_reachFirstUse (canonical_bringInLate (canonical_upd (canonical_setDom _ _ hc)))) (canonical_ite
      (canonical_each (fun _ _ h => canonical_squelch (canonical_portFresh h)) (canonical_bringInLate (canonical_upd
      (canonical_setDom _ _ hc)))) (canonical_ite (canonical_onlyIf (fun h => canonical_basinTrain h) (canonical_bringInLate
      (canonical_upd (canonical_setDom _ _ hc)))) (canonical_ite (canonical_cipherCapacity (canonical_bringInLate (canonical_upd
      (canonical_setDom _ _ hc)))) (canonical_ite (canonical_ite (canonical_keeperCluster (canonical_clusterClear
      (canonical_bringInLate (canonical_upd (canonical_setDom _ _ hc))))) (canonical_clusterClear (canonical_bringInLate
      (canonical_upd (canonical_setDom _ _ hc))))) (canonical_bringInLate (canonical_upd (canonical_setDom _ _ hc)))))))

theorem canonical_releaseDomain {d : Nat} (hc : s.canonical) : (s.releaseDomain d).canonical :=
  canonical_ite (canonical_turnUp (canonical_each (fun _ _ h => canonical_rttClear (canonical_groupStart h))
      (canonical_watchSuppress (canonical_agcRelease (canonical_upd (canonical_raise _ _ _ (canonical_setDom _ _ hc)))))))
      (canonical_ite (canonical_berthRelease (canonical_raise _ _ _ (canonical_setDom _ _ hc))) (canonical_ite
      (canonical_basinRelease (canonical_raise _ _ _ (canonical_setDom _ _ hc))) (canonical_raise _ _ _ (canonical_setDom _ _
      hc))))

theorem canonical_releaseStep (hc : s.canonical) : s.releaseStep.canonical :=
  canonical_upd (canonical_each (fun _ _ h => canonical_releaseDomain h) hc)

theorem canonical_trainMoored (hc : s.canonical) : s.trainMoored.canonical :=
  canonical_each (fun _ _ h => canonical_ite (canonical_berthTrain h) (canonical_onlyIf (fun h => canonical_berthMoor h) h)) hc

/-! ### Power -/

theorem canonical_sessionClose {n cause : Nat} (hc : s.canonical) : (s.sessionClose n cause).canonical :=
  canonical_ite (canonical_raise _ _ _ (canonical_upd hc)) hc

theorem canonical_dmaFetch {n : Nat} {bs : List Byte} (hc : s.canonical) : (s.dmaFetch n bs).canonical :=
  canonical_ite (canonical_upd hc) hc

theorem canonical_dmaFinish {n status : Nat} (hc : s.canonical) : (s.dmaFinish n status).canonical := by
  unfold State.dmaFinish
  split
  · exact hc
  · exact canonical_onlyIf (fun h => canonical_signal h) (canonical_ite (canonical_upd (canonical_setBar _ _ (canonical_setBar _
        _ (canonical_setBar _ _ (canonical_upd hc))))) (canonical_setBar _ _ (canonical_setBar _ _ (canonical_setBar _ _
        (canonical_upd hc)))))

theorem canonical_showPowerState (hc : s.canonical) : s.showPowerState.canonical :=
  canonical_ite hc (canonical_raise _ _ _ (canonical_wrN _ _ hc))

theorem canonical_showDevice (hc : s.canonical) : s.showDevice.canonical := canonical_setBar _ _ (canonical_wrN _ _ hc)

theorem canonical_abortRefuser {next : List (Nat × List Byte)} {x : Nat × Nat} (hc : s.canonical) : (s.abortRefuser next
    x).canonical :=
  canonical_ite (canonical_dmaFetch (canonical_dmaFinish (canonical_raise _ _ _ (canonical_inc _ hc)))) (canonical_ite
      (canonical_ite (canonical_showQueue (canonical_upd (canonical_raise _ _ _ (canonical_inc _ hc)))) (canonical_raise _ _ _
      (canonical_inc _ hc))) (canonical_ite (canonical_calPowerAbort (canonical_raise _ _ _ (canonical_inc _ hc)))
      (canonical_ite (canonical_assayAbort (canonical_raise _ _ _ (canonical_inc _ hc))) (canonical_ite (canonical_each (fun _ _
      h => canonical_upd h) (canonical_upd (canonical_raise _ _ _ (canonical_inc _ hc)))) (canonical_ite (canonical_ite
      (canonical_ite (canonical_upd (canonical_opAbort _ _ (canonical_raise _ _ _ (canonical_inc _ hc)))) (canonical_raise _ _ _
      (canonical_inc _ hc))) (canonical_leaveFill (canonical_raise _ _ _ (canonical_inc _ hc)))) (canonical_ite (canonical_upd
      (canonical_opAbort _ _ (canonical_raise _ _ _ (canonical_inc _ hc)))) (canonical_raise _ _ _ (canonical_inc _ hc))))))))

theorem canonical_showPhase (hc : s.canonical) : s.showPhase.canonical := by
  unfold State.showPhase
  split <;> exact canonical_wrN _ _ hc

theorem canonical_showRequests (hc : s.canonical) : s.showRequests.canonical :=
  canonical_showPowerState (canonical_showPhase (canonical_showPower hc))

theorem canonical_refuseCurrent {x : Nat × Nat} (hc : s.canonical) : (s.refuseCurrent x).canonical :=
  canonical_powerRefused (canonical_upd hc)

theorem canonical_requestEnd (hc : s.canonical) : s.requestEnd.canonical := by
  unfold State.requestEnd
  split
  · exact canonical_ite (canonical_showPower (canonical_raise _ _ _ (canonical_inc _ (canonical_upd hc)))) hc
  · exact hc

theorem canonical_drainCheck {next : List (Nat × List Byte)} (hc : s.canonical) : (s.drainCheck next).canonical := by
  unfold State.drainCheck
  split
  · exact hc
  · extract_lets refs stops
    clear_value stops
    split
    · exact canonical_refuseCurrent hc
    · exact canonical_ite (canonical_each (fun _ _ h => canonical_abortRefuser h) hc) hc

theorem canonical_requestStart (hc : s.canonical) : s.requestStart.canonical := by
  unfold State.requestStart
  refine canonical_ite hc ?_
  split
  · exact hc
  · extract_lets _ s₁
    have h₁ : s₁.canonical := canonical_ite (canonical_upd hc) (canonical_upd hc)
    clear_value s₁
    split
    · exact canonical_powerRefused h₁
    · exact canonical_each (fun _ _ h => canonical_basinTrain h) (canonical_upd h₁)

theorem canonical_requestBoundary {next : List (Nat × List Byte)} (hc : s.canonical) : (s.requestBoundary next).canonical :=
  canonical_drainCheck (canonical_requestStart hc)

theorem canonical_dormantCommit (hc : s.canonical) : s.dormantCommit.canonical :=
  canonical_upd (canonical_each (fun _ _ h => canonical_sessionClose h) (canonical_each (fun _ _ h => canonical_ite
      (canonical_upd (canonical_wrN _ _ h)) h) (canonical_onlyIf (fun h => canonical_upd (canonical_opAbort _ _ h))
      (canonical_checkpointWrite (canonical_each (fun _ _ h => canonical_isolate h) (canonical_each (fun _ _ h =>
      canonical_moorDomain h) hc))))))

theorem canonical_commitStep (hc : s.canonical) : s.commitStep.canonical := by
  unfold State.commitStep
  dsimp only
  split
  · exact canonical_upd (canonical_each (fun _ _ h => canonical_ite (canonical_moorDomain h) h) hc)
  · exact canonical_ite (canonical_upd (canonical_each (fun _ _ h => canonical_ite (canonical_moorDomain h) h) hc))
        (canonical_ite (canonical_ite (canonical_dormantCommit (canonical_upd (canonical_each (fun _ _ h => canonical_ite
        (canonical_moorDomain h) h) hc))) (canonical_upd (canonical_each (fun _ _ h => canonical_ite (canonical_moorDomain h) h)
        hc))) (canonical_requestEnd (canonical_each (fun _ _ h => canonical_ite h (canonical_upd (canonical_ite
        (canonical_commitOff (canonical_moorDomain h)) (canonical_moorDomain h)))) (canonical_upd (canonical_each (fun _ _ h =>
        canonical_ite (canonical_moorDomain h) h) hc)))))

theorem canonical_switchClose (hc : s.canonical) : s.switchClose.canonical := by
  unfold State.switchClose
  split
  · exact hc
  · exact canonical_each (fun _ _ h => canonical_upd (canonical_setDom _ _ h)) hc

theorem nextCanonical_execDrainLimitExpiry : NextCanonical s (execDrainLimitExpiry s) := by
  unfold execDrainLimitExpiry
  split
  · exact .next fun hc => hc
  · refine .ite ?_ (.next id)
    split
    · exact .next fun hc => canonical_showRequests (canonical_refuseCurrent hc)
    · exact .next fun hc => hc

theorem canonical_leaveDormant {source : Nat} (hc : s.canonical) : (s.leaveDormant source).canonical :=
  canonical_showDevice (canonical_showRequests (canonical_wrN _ _ (canonical_upd (canonical_each (fun _ _ h => canonical_upd
      (canonical_setDom _ _ h)) (canonical_each (fun _ _ h => canonical_wrN _ _ h) hc)))))

theorem canonical_hubOff (hc : s.canonical) : s.hubOff.canonical :=
  canonical_upd (canonical_wrN _ _ (canonical_upd (canonical_lanesOff (canonical_storeLost hc))))

theorem nextCanonical_execDormantEntry : NextCanonical s (execDormantEntry s) := by
  unfold execDormantEntry
  refine .ite ?_ (.next id)
  dsimp only
  split
  · exact .next fun hc => canonical_leaveDormant (canonical_superMode (canonical_upd (canonical_showRequests (canonical_raise _
        _ _ (canonical_inc _ (canonical_inc _ (canonical_upd (canonical_hubOff (canonical_each (fun _ _ h => canonical_offDomain
        h) hc)))))))))
  · exact .next fun hc => canonical_superMode (canonical_upd (canonical_showRequests (canonical_raise _ _ _ (canonical_inc _
        (canonical_inc _ (canonical_upd (canonical_hubOff (canonical_each (fun _ _ h => canonical_offDomain h) hc))))))))

theorem canonical_wakeOp {source : Nat} (hc : s.canonical) : (s.wakeOp source).canonical :=
  canonical_ite hc (canonical_ite (canonical_leaveDormant hc) (canonical_ite (canonical_showRequests (canonical_upd
      (canonical_onlyIf (fun h => canonical_countSuperseded h) hc))) (canonical_ite (canonical_showRequests (canonical_upd
      (canonical_countSuperseded hc))) hc)))

theorem canonical_wakePeerOp {v : Nat} (hc : s.canonical) : (s.wakePeerOp v).canonical :=
  canonical_each (fun _ _ h => canonical_upd h) hc

/-! ### Start-up -/

theorem canonical_tearCommit (hc : s.canonical) : s.tearCommit.canonical := by
  unfold State.tearCommit
  split
  · exact canonical_ite (canonical_upd hc) hc
  · exact hc

theorem canonical_restart {cause : Nat} {inReset : Bool} : (s.restart cause inReset).canonical :=
  canonical_wrN _ _ canonical_reset

theorem canonical_startStep1 (hc : s.canonical) : s.startStep1.canonical :=
  canonical_each (fun _ _ h => canonical_wrN _ _ h) (canonical_wrN _ _ (canonical_upd hc))

theorem nextCanonical_execLedgerRecordSelect : NextCanonical s (execLedgerRecordSelect s) := by
  unfold execLedgerRecordSelect
  refine .ite ?_ (.next id)
  dsimp only
  split
  · exact .next fun hc => canonical_raise _ _ _ (canonical_wrN _ _ (canonical_upd (canonical_upd hc)))
  · exact .next fun hc => canonical_wrN _ _ (canonical_wrN _ _ (canonical_wrN _ _ (canonical_wrN _ _ (canonical_wrN _ _
        (canonical_wrN _ _ (canonical_wrN _ _ (canonical_wrN _ _ (canonical_wrN _ _ (canonical_wrN _ _ (canonical_wrN _ _
        (canonical_upd (canonical_upd hc))))))))))))

theorem nextCanonical_execImageVerify : NextCanonical s (execImageVerify s) := by
  unfold execImageVerify
  refine .ite ?_ (.next id)
  extract_lets active run first again pick
  clear_value pick
  split
  · exact .next fun hc => canonical_upd hc
  · exact .next fun hc => canonical_onlyIf (fun h => canonical_raise _ _ _ h)
      (canonical_wrN _ _ (canonical_wrN _ _ (canonical_wrN _ _ (canonical_upd hc))))

theorem canonical_applySlices {conv : Nat} (hc : s.canonical) : (s.applySlices conv).canonical := by
  unfold State.applySlices
  refine canonical_each ?_ hc
  intro _ _ h
  dsimp only
  split
  · exact canonical_ite h (canonical_wrN _ _ h)
  · exact h

theorem canonical_applyMaps (hc : s.canonical) : s.applyMaps.canonical := by
  unfold State.applyMaps
  split
  · exact canonical_showSpares hc
  · exact canonical_showSpares (canonical_cipherCapacity (canonical_wrN _ _ (canonical_each (fun _ _ h => canonical_wrN _ _ h)
        (canonical_upd (canonical_showPartitions (canonical_each (fun _ _ h => canonical_each (fun _ _ h => canonical_ite
        (canonical_engineLost h) (canonical_upd (canonical_engineLost h))) (canonical_ite (canonical_each (fun _ _ h =>
        canonical_wrN _ _ h) h) h)) (canonical_each (fun _ _ h => canonical_wrN _ _ h) (canonical_each (fun _ _ h =>
        canonical_wrN _ _ h) (canonical_each (fun _ _ h => canonical_applySlices h) (canonical_upd hc))))))))))

theorem canonical_startCommitBegin (hc : s.canonical) : s.startCommitBegin.canonical := by
  unfold State.startCommitBegin
  refine canonical_showDevice ?_
  refine canonical_commitStart ?_
  split
  · refine canonical_wrN _ _ ?_
    split
    · exact canonical_wrN _ _ (canonical_wrN _ _ (canonical_upd hc))
    · exact canonical_upd hc
  · split
    · exact canonical_wrN _ _ (canonical_wrN _ _ (canonical_upd hc))
    · exact canonical_upd hc

theorem canonical_afterFill (hc : s.canonical) : s.afterFill.canonical :=
  canonical_ite (canonical_upd (canonical_assayBegin hc)) (canonical_startCommitBegin hc)

theorem canonical_enginesReleased (hc : s.canonical) : s.enginesReleased.canonical :=
  canonical_showDevice (canonical_each (fun _ _ h => canonical_ite (canonical_releaseDomain h) h) (canonical_bootNonces
      (canonical_keeperLoad (canonical_upd hc))))

theorem canonical_startCommitted (hc : s.canonical) : s.startCommitted.canonical := by
  unfold State.startCommitted
  refine canonical_each (fun _ _ h => canonical_basinTrain h) ?_
  refine canonical_enginesReleased ?_
  refine canonical_onlyIf (fun h => canonical_raise _ _ _ h) ?_
  split
  · exact canonical_onlyIf (fun h => canonical_raise _ _ _ h) (canonical_upd hc)
  · exact canonical_upd hc

theorem canonical_dormantServe (hc : s.canonical) : s.dormantServe.canonical :=
  canonical_raise _ _ _ (canonical_each (fun _ _ h => canonical_basinTrain h) (canonical_onlyIf (fun h => canonical_flowsAfresh
      h) (canonical_enginesReleased hc)))

theorem canonical_shutdownCommit (hc : s.canonical) : s.shutdownCommit.canonical :=
  canonical_requestCommit (canonical_wrN _ _ hc)

theorem canonical_shutdownRamped (hc : s.canonical) : s.shutdownRamped.canonical :=
  canonical_ite (canonical_ite (canonical_assayBegin (canonical_wrN _ _ hc)) (canonical_shutdownCommit hc)) hc

theorem canonical_shutdownDone (hc : s.canonical) : s.shutdownDone.canonical :=
  canonical_raise _ _ _ (canonical_wrN _ _ (canonical_each (fun _ _ h => canonical_moorDomain h) hc))

theorem canonical_shutdownOp (hc : s.canonical) : s.shutdownOp.canonical := canonical_wrN _ _ (canonical_upd hc)

theorem canonical_commitValid {c : Commit} (hc : s.canonical) : (s.commitValid c).canonical := by
  unfold State.commitValid
  dsimp only
  split
  · exact canonical_commitStart (canonical_upd (canonical_ite (canonical_shutdownDone (canonical_ite (canonical_startCommitted
        (canonical_batchValid (canonical_ite (canonical_upd (canonical_upd (canonical_inc _ (canonical_wrN _ _ (canonical_wrN _
        _ (canonical_wrN _ _ (canonical_upd hc))))))) (canonical_upd (canonical_inc _ (canonical_wrN _ _ (canonical_wrN _ _
        (canonical_wrN _ _ (canonical_upd hc))))))))) (canonical_batchValid (canonical_ite (canonical_upd (canonical_upd
        (canonical_inc _ (canonical_wrN _ _ (canonical_wrN _ _ (canonical_wrN _ _ (canonical_upd hc))))))) (canonical_upd
        (canonical_inc _ (canonical_wrN _ _ (canonical_wrN _ _ (canonical_wrN _ _ (canonical_upd hc)))))))))) (canonical_ite
        (canonical_startCommitted (canonical_batchValid (canonical_ite (canonical_upd (canonical_upd (canonical_inc _
        (canonical_wrN _ _ (canonical_wrN _ _ (canonical_wrN _ _ (canonical_upd hc))))))) (canonical_upd (canonical_inc _
        (canonical_wrN _ _ (canonical_wrN _ _ (canonical_wrN _ _ (canonical_upd hc))))))))) (canonical_batchValid (canonical_ite
        (canonical_upd (canonical_upd (canonical_inc _ (canonical_wrN _ _ (canonical_wrN _ _ (canonical_wrN _ _ (canonical_upd
        hc))))))) (canonical_upd (canonical_inc _ (canonical_wrN _ _ (canonical_wrN _ _ (canonical_wrN _ _ (canonical_upd
        hc)))))))))))
  · exact canonical_ite (canonical_shutdownDone (canonical_ite (canonical_startCommitted (canonical_batchValid (canonical_ite
        (canonical_upd (canonical_upd (canonical_inc _ (canonical_wrN _ _ (canonical_wrN _ _ (canonical_wrN _ _ (canonical_upd
        hc))))))) (canonical_upd (canonical_inc _ (canonical_wrN _ _ (canonical_wrN _ _ (canonical_wrN _ _ (canonical_upd
        hc))))))))) (canonical_batchValid (canonical_ite (canonical_upd (canonical_upd (canonical_inc _ (canonical_wrN _ _
        (canonical_wrN _ _ (canonical_wrN _ _ (canonical_upd hc))))))) (canonical_upd (canonical_inc _ (canonical_wrN _ _
        (canonical_wrN _ _ (canonical_wrN _ _ (canonical_upd hc)))))))))) (canonical_ite (canonical_startCommitted
        (canonical_batchValid (canonical_ite (canonical_upd (canonical_upd (canonical_inc _ (canonical_wrN _ _ (canonical_wrN _
        _ (canonical_wrN _ _ (canonical_upd hc))))))) (canonical_upd (canonical_inc _ (canonical_wrN _ _ (canonical_wrN _ _
        (canonical_wrN _ _ (canonical_upd hc))))))))) (canonical_batchValid (canonical_ite (canonical_upd (canonical_upd
        (canonical_inc _ (canonical_wrN _ _ (canonical_wrN _ _ (canonical_wrN _ _ (canonical_upd hc))))))) (canonical_upd
        (canonical_inc _ (canonical_wrN _ _ (canonical_wrN _ _ (canonical_wrN _ _ (canonical_upd hc)))))))))

theorem canonical_commitFailed {c : Commit} (hc : s.canonical) : (s.commitFailed c).canonical := by
  unfold State.commitFailed
  extract_lets s₁ _ s₂ s₃ s₄ _
  have h₁ : s₁.canonical := canonical_ite (canonical_upd hc) hc
  clear_value s₁
  have h₃ : s₃.canonical := canonical_batchRefused (canonical_raise _ _ _ (canonical_inc _ (canonical_upd h₁)))
  have h₄ : s₄.canonical := canonical_ite (canonical_shutdownDone h₃) h₃
  clear_value s₄
  refine canonical_ite (canonical_upd h₁) ?_
  split
  · exact canonical_commitStart (canonical_upd h₄)
  · exact h₄

theorem canonical_commitDone {ok : Bool} (hc : s.canonical) : (s.commitDone ok).canonical := by
  unfold State.commitDone
  split
  · exact hc
  · exact canonical_ite (canonical_commitValid hc) (canonical_commitFailed hc)

theorem canonical_afterAssay {kind : Nat} (hc : s.canonical) : (s.afterAssay kind).canonical :=
  canonical_ite (canonical_ite (canonical_upd hc) (canonical_startCommitBegin hc)) (canonical_ite (canonical_shutdownCommit hc)
      hc)

theorem nextCanonical_execAssayEnd {failed : List Nat} {pllError : Int} {vcore : Nat} : NextCanonical s (execAssayEnd failed
    pllError vcore s) := by
  unfold execAssayEnd
  split
  · exact .ite (.next id) (.next fun hc => canonical_afterAssay (canonical_assayResult hc))
  · exact .next fun hc => hc

theorem nextCanonical_execAssayPreconditionTimeout {pllError : Int} {low high : Nat} : NextCanonical s
    (execAssayPreconditionTimeout pllError low high s) := by
  unfold execAssayPreconditionTimeout
  split
  · exact .ite (.next fun hc => canonical_afterAssay (canonical_assayNotRun hc)) (.next id)
  · exact .next fun hc => hc

theorem canonical_firmwareLoadOp (hc : s.canonical) : s.firmwareLoadOp.canonical := canonical_upd (canonical_opStart _ _ hc)

theorem canonical_opWork {o n : Nat} (hc : s.canonical) : (s.opWork o n).canonical := canonical_opAdvance hc

theorem canonical_workStep {o n : Nat} (hc : s.canonical) : (s.workStep o n).canonical :=
  canonical_ite hc (canonical_ite (canonical_ite hc (canonical_ite (canonical_upd hc) (canonical_opWork hc))) (canonical_ite
      (canonical_opWork hc) hc))

theorem canonical_flitLost {r : Nat} {tx : Bool} {g flit : Nat} (hc : s.canonical) :
    (s.flitLost r tx g flit).canonical := by
  unfold State.flitLost
  extract_lets s₁ q _ s₂ k _ _
  have h₂ : s₂.canonical := canonical_upd (canonical_inc _ hc)
  clear_value s₂
  refine canonical_ite ?_ (canonical_upd h₂)
  split
  · exact canonical_upd h₂
  · exact h₂

theorem canonical_step8 (hc : s.canonical) : s.step8.canonical := canonical_ite (canonical_upd hc) hc

theorem canonical_hotStep (hc : s.canonical) : s.hotStep.canonical := canonical_wrN _ _ (canonical_upd hc)

/-! ### Package and board -/

theorem canonical_eyeStep {fresh : Nat → Bool} (hc : s.canonical) : (s.eyeStep fresh).canonical :=
  canonical_each (fun _ _ h => canonical_emergencyOff h) (canonical_upd hc)

theorem canonical_gpioWritten {n was : Nat} (hc : s.canonical) : (s.gpioWritten n was).canonical := canonical_eyeStep hc

theorem nextCanonical_execThermalShutdownExit : NextCanonical s (execThermalShutdownExit s) := by
  unfold execThermalShutdownExit
  split
  · exact .ite (.next fun _ => canonical_restart) (.next fun _ => canonical_startStep1 canonical_restart)
  · exact .next id

theorem nextCanonical_execLocalOscReturn : NextCanonical s (execLocalOscReturn s) := by
  unfold execLocalOscReturn
  split
  · exact .ite (.next fun _ => canonical_restart) (.next fun _ => canonical_startStep1 canonical_restart)
  · exact .next id

theorem canonical_showAvs (hc : s.canonical) : s.showAvs.canonical := canonical_ite (canonical_wrN _ _ hc) hc

theorem canonical_avsEnd {ok : Bool} (hc : s.canonical) : (s.avsEnd ok).canonical :=
  canonical_ite (canonical_ite (canonical_upd (canonical_wrN _ _ (canonical_upd hc))) (canonical_wrN _ _ (canonical_upd hc)))
      (canonical_ite (canonical_raise _ _ _ (canonical_wrN _ _ (canonical_upd hc))) (canonical_upd hc))

theorem canonical_twiOp {r v : Nat} (hc : s.canonical) : (s.twiOp r v).canonical := canonical_wrN _ _ (canonical_upd hc)

/-! ### The dictionary agent: requests -/

theorem canonical_putBar0 {off : Nat} {bs : List Byte} (hc : s.canonical) : (s.putBar0 off bs).canonical :=
  canonical_each (fun _ _ h => canonical_setBar _ _ h) hc

theorem canonical_mbxFree {n : Nat} (hc : s.canonical) : (s.mbxFree n).canonical := canonical_setBar _ _ hc

theorem canonical_sendTo {via : Via} {bs : List Byte} (hc : s.canonical) : (s.sendTo via bs).canonical := by
  unfold State.sendTo
  split
  · exact hc
  · exact canonical_upd hc
  · exact canonical_signal (canonical_setBar _ _ (canonical_mbxFree (canonical_putBar0 hc)))

theorem canonical_sendReply {via : Via} {mac : List Byte} {p : Reply} (hc : s.canonical) : (s.sendReply via mac p).canonical :=
  canonical_ite (canonical_upd (canonical_upd (canonical_sendTo (canonical_upd hc)))) (canonical_upd (canonical_sendTo
      (canonical_upd hc)))

theorem canonical_reply {c : ReqCtx} {key : List Byte} {status : Nat} {more : Bool} {words : List Nat} (hc : s.canonical) :
    (s.reply c key status more words).canonical :=
  canonical_sendReply hc

theorem canonical_readEffect {sess : Nat} {noise : List (Nat × Byte)} {idx sub : Nat} (hc : s.canonical) : (s.readEffect sess
    noise idx sub).canonical := by
  unfold State.readEffect
  split
  · exact canonical_upd hc
  · exact canonical_peekEffect hc
  · exact hc

theorem canonical_used {q : Req} (hc : s.canonical) : (q.used s).canonical := canonical_ite (canonical_upd hc) hc

theorem canonical_abortEffect {o : Nat} (hc : s.canonical) : (s.abortEffect o).canonical :=
  canonical_ite (canonical_opAbort _ _ (canonical_assayCut hc)) (canonical_ite (canonical_upd hc) (canonical_ite
      (canonical_swapAbort hc) (canonical_ite (canonical_upd hc) (canonical_opAbort _ _ hc))))

theorem canonical_credentialDrop {id : Nat} (hc : s.canonical) : (s.credentialDrop id).canonical :=
  canonical_each (fun _ _ h => canonical_sessionClose h) (canonical_upd hc)

theorem canonical_measured {m : Option (Int × Nat × Nat)} (hc : s.canonical) : (s.measured m).2.canonical := by
  unfold State.measured
  split
  · exact hc
  · exact canonical_draw (canonical_draw (canonical_draw hc))

theorem canonical_reachEffect {base idx sub : Nat} {v : Int} (hc : s.canonical) : (s.reachEffect base idx sub v).canonical := by
  unfold State.reachEffect
  split
  · exact canonical_calStartOp hc
  · exact canonical_upd (canonical_wr _ _ hc)
  · exact canonical_emergencyOff hc
  · exact canonical_txOffReleaseOp hc
  · exact canonical_cdBankLoad (canonical_wr _ _ hc)
  · exact canonical_cdBankLoad (canonical_wr _ _ hc)
  · exact canonical_showCd (canonical_wr _ _ hc)
  · exact canonical_showRx (canonical_showTx (canonical_wr _ _ hc))
  · exact canonical_showRx (canonical_showTx (canonical_wr _ _ hc))
  · dsimp only
    split
    · exact canonical_wr _ _ (canonical_wr _ _ hc)
    · exact canonical_wr _ _ hc
  · exact canonical_upd hc
  · exact canonical_wr _ _ hc

theorem canonical_effect {sess idx sub : Nat} {v : Int} {meas : Option (Int × Nat × Nat)} (hc : s.canonical) :
    (s.effect sess idx sub v meas).canonical := by
  have hw : (s.wr (objKey idx sub) v).canonical := canonical_wr _ _ hc
  unfold State.effect
  refine canonical_ite (canonical_reachEffect hc) ?_
  dsimp only
  split
  · exact canonical_requestCommit hw
  · exact canonical_shutdownOp hc
  · exact canonical_firmwareLoadOp hc
  · exact canonical_requestCommit hc
  · exact canonical_abortEffect hc
  · exact canonical_submitPower hc
  · exact canonical_wakePeerOp hc
  · exact canonical_upd hc
  · exact hw
  · exact canonical_upd hw
  · split
    · exact canonical_upd hc
    · exact hc
  · exact canonical_credentialDrop hc
  · exact canonical_assayRunOp (canonical_measured hc)
  · exact canonical_upd hc
  · exact canonical_serveFailure hc
  · exact canonical_upd hc
  · exact canonical_upd hc
  · exact canonical_upd hc
  · exact canonical_wrN _ _ hc
  · exact canonical_gpioWritten hw
  · exact canonical_twiOp hc
  · exact canonical_upd hc
  · exact canonical_berthLayout hw
  · exact canonical_upd hc
  · exact canonical_unitModeOp hc
  · exact canonical_importEntry hc
  · exact canonical_batchStart hc
  · exact canonical_upd hc
  · exact canonical_ite (canonical_upd hc) hc
  · exact canonical_todAssociateOp hc
  · exact canonical_showTod hw
  · exact canonical_wakeMateOp hc
  · exact canonical_loopbackOp hc
  · exact canonical_laneRetrain hc
  · exact canonical_engineLoadOp hc
  · exact canonical_partitionOp hc
  · exact canonical_partitionOp hc
  · exact canonical_wrN _ _ hc
  · exact hw

theorem canonical_stage {w : StagedWrite} (hc : s.canonical) : (s.stage w).canonical :=
  canonical_upd (canonical_onlyIf (fun h => canonical_inc _ h) hc)

theorem canonical_putWrite {sess idx sub : Nat} {r : Row} {v : Int} {meas : Option (Int × Nat × Nat)} (hc : s.canonical) :
    (s.putWrite sess idx sub r v meas).canonical :=
  canonical_ite (canonical_each (fun _ _ h => canonical_stage h) hc) (canonical_effect hc)

theorem canonical_runBlock {t : State} {sess idx : Nat} {meas : Option (Int × Nat × Nat)}
    {es : List (Nat × Row × List Nat)} (hc : s.canonical) (h : s.runBlock sess idx meas es = .ok t) : t.canonical := by
  induction es generalizing s with
  | nil => cases h; exact hc
  | cons e es ih =>
    obtain ⟨sub, r, ws⟩ := e
    unfold State.runBlock at h
    split at h
    · cases h
    · split at h
      · cases h
      · exact ih (canonical_putWrite hc) h

theorem canonical_runHeld {t : State} {sess : Nat} {ws : List StagedWrite} (hc : s.canonical)
    (h : s.runHeld sess ws = .ok t) : t.canonical := by
  induction ws generalizing s with
  | nil => cases h; exact hc
  | cons w ws ih =>
    unfold State.runHeld at h
    dsimp only at h
    split at h
    · cases h; exact hc
    · split at h
      · cases h
      · exact ih (canonical_putWrite hc) h

theorem canonical_rejected {kek : Option Nat} (hc : s.canonical) : (s.rejected kek).canonical := by
  unfold State.rejected
  split
  · exact canonical_importFailed hc
  · exact hc

theorem canonical_writeEntries {q : Req} {key : List Byte} {block : Bool} {es : List (Nat × Row × List Nat)}
    (hc : s.canonical) : (s.writeEntries q key block es).canonical := by
  unfold State.writeEntries
  dsimp only
  split
  · split
    · exact canonical_ite (canonical_reply (canonical_rejected hc))
        (canonical_reply (canonical_rejected hc))
    · exact canonical_reply (canonical_rejected hc)
  · refine canonical_ite (canonical_inc _ (canonical_upd hc)) ?_
    split
    · exact canonical_reply (canonical_rejected hc)
    · next h => exact canonical_reply (canonical_runBlock hc h)

theorem canonical_writeOne {q : Req} {key : List Byte} (hc : s.canonical) : (s.writeOne q key).canonical := by
  unfold State.writeOne
  split
  · exact canonical_reply hc
  · exact canonical_writeEntries hc

theorem canonical_writeMany {q : Req} {key : List Byte} (hc : s.canonical) : (s.writeMany q key).canonical := by
  unfold State.writeMany
  refine canonical_ite (canonical_reply hc) ?_
  dsimp only
  split
  · exact canonical_reply hc
  · refine canonical_ite (canonical_reply hc) ?_
    split
    · exact canonical_reply hc
    · exact canonical_writeEntries hc

theorem canonical_heldAnswer {c : ReqCtx} {p q : Prop} [Decidable p] [Decidable q] {key : List Byte} {e : Nat}
    {ws : List Nat} (hc : s.canonical) :
    (if p then if q then (s.reply c key e false ws).sessionClose c.sess 2 else s.reply c key e false ws
      else match c.via with
        | .slot n => s.mbxFree n
        | _ => s).canonical := by
  refine canonical_ite (canonical_ite (canonical_sessionClose (canonical_reply hc))
    (canonical_reply hc)) ?_
  split
  · exact canonical_mbxFree hc
  · exact hc

theorem canonical_acceptHeld {fuel : Nat} (hc : s.canonical) : (s.acceptHeld fuel).canonical := by
  induction fuel generalizing s with
  | zero => exact hc
  | succ fuel ih =>
    unfold State.acceptHeld
    dsimp only
    split
    · exact hc
    · refine canonical_ite hc ?_
      split
      · exact ih (canonical_heldAnswer (canonical_upd hc))
      · next h => exact ih (canonical_heldAnswer (canonical_runHeld (canonical_upd hc) h))

theorem canonical_authFail (hc : s.canonical) : s.authFail.canonical := canonical_raiseLimited (canonical_inc _ hc)

theorem canonical_serve {q : Req} {key : List Byte} (hc : s.canonical) : (s.serve q key).canonical := by
  unfold State.serve
  dsimp only
  split
  · split
    · exact canonical_reply hc
    · exact canonical_reply (canonical_used (canonical_readEffect hc))
  · exact canonical_writeOne hc
  · split
    · exact canonical_reply hc
    · exact canonical_reply (canonical_used (canonical_each (fun _ _ h => canonical_readEffect h) hc))
  · exact canonical_writeMany hc
  · split
    · exact canonical_reply hc
    · exact canonical_reply (canonical_upd hc)
  · exact canonical_sessionClose (canonical_reply hc)
  · exact canonical_reply hc

theorem canonical_discard {via : Via} (hc : s.canonical) : (s.discard via).canonical := by
  unfold State.discard
  split
  · exact canonical_mbxFree hc
  · exact hc

theorem canonical_request {q : Req} (hc : s.canonical) : (s.request q).canonical := by
  unfold State.request
  refine canonical_ite (canonical_serve hc) ?_
  refine canonical_ite (canonical_discard (canonical_authFail hc)) ?_
  split
  · exact canonical_sendTo (canonical_upd hc)
  · exact canonical_ite (canonical_discard hc) (canonical_ite (canonical_discard (canonical_inc _ hc)) (canonical_ite
        (canonical_sessionClose (canonical_serve (canonical_upd hc))) (canonical_serve (canonical_upd hc))))

theorem canonical_openOp {via : Via} {seq index sub cred : Nat} {nonce : List Byte} {macOk bodyOk : Bool} (hc : s.canonical) :
    (s.openOp via seq index sub cred nonce macOk bodyOk).canonical := by
  unfold State.openOp
  split
  · exact canonical_sendReply hc
  · refine canonical_ite (canonical_discard (canonical_authFail hc)) ?_
    refine canonical_ite (canonical_sendReply hc) ?_
    split
    · exact canonical_sendReply hc
    · exact canonical_sendReply (canonical_raise _ _ _ (canonical_upd (canonical_upd hc)))

theorem canonical_direct {q : Req} (hc : s.canonical) : (s.direct q).canonical := canonical_ite (canonical_request hc) hc

theorem canonical_write {sess : Fin 17} {seq key : Nat} {words : List Nat} (hc : s.canonical) : (s.write sess seq key
    words).canonical :=
  canonical_direct hc

theorem canonical_write1 {sess : Fin 17} {seq key v : Nat} (hc : s.canonical) : (s.write1 sess seq key v).canonical :=
  canonical_write hc

theorem canonical_drainNotify {n fuel : Nat} (hc : s.canonical) : (s.drainNotify n fuel).canonical := by
  induction fuel generalizing s with
  | zero => exact hc
  | succ fuel ih =>
    unfold State.drainNotify
    dsimp only
    split
    · exact hc
    · exact hc
    · exact ih (canonical_upd (canonical_upd hc))

theorem canonical_notify {n : Nat} {x : LogEntry} (hc : s.canonical) : (s.notify n x).canonical :=
  canonical_ite hc (canonical_ite (canonical_ringWrite hc) (canonical_ite hc (canonical_ite (canonical_upd hc) (canonical_onlyIf
      (fun h => canonical_raise _ _ _ h) (canonical_upd hc)))))

theorem canonical_logEvent {e : Event} (hc : s.canonical) : (s.logEvent e).canonical :=
  canonical_each (fun _ _ h => canonical_notify h) (canonical_onlyIf (fun h => canonical_wrN _ _ h) (canonical_upd
      (canonical_onlyIf (fun h => canonical_inc _ h) hc)))

theorem canonical_showTallyStep {n : Nat} (hc : s.canonical) : (s.showTallyStep n).canonical := canonical_wrN _ _ hc

theorem canonical_logDelivery {source n : Nat} (hc : s.canonical) : (s.logDelivery source n).canonical :=
  canonical_each (fun _ _ h => canonical_drainNotify h) (canonical_each (fun _ _ h => canonical_logEvent h)
      (canonical_showTallyStep (canonical_each (fun _ _ h => canonical_upd h) (canonical_upd hc))))

theorem canonical_boundaryReceived {d : Nat} (hc : s.canonical) : (s.boundaryReceived d).canonical :=
  canonical_ite hc (canonical_showTallyStep (canonical_upd hc))

theorem nextCanonical_execTallyDelivery {t : TallyAt} {n : Nat} : NextCanonical s (execTallyDelivery t n s) := by
  unfold execTallyDelivery
  split
  · exact .next fun hc => canonical_logDelivery hc
  · exact .next fun hc => canonical_boundaryReceived hc

/-! ### The host port -/

theorem canonical_openMsg {via : Via} {m : Msg} (hc : s.canonical) : (s.openMsg via m).canonical := by
  unfold State.openMsg
  split
  · exact canonical_discard (canonical_authFail hc)
  · exact canonical_openOp hc

theorem canonical_message {via : Via} {m : Msg} (hc : s.canonical) : (s.message via m).canonical :=
  canonical_ite (canonical_ite (canonical_openMsg hc) (canonical_discard (canonical_authFail hc))) (canonical_ite
      (canonical_discard (canonical_authFail hc)) (canonical_request hc))

theorem nextCanonical_execUandatenDatagramRx {addr port : Nat} {fragment : Bool} {bytes : List Byte} : NextCanonical s
    (execUandatenDatagramRx addr port fragment bytes s) := by
  unfold execUandatenDatagramRx
  refine .ite (.next fun hc => canonical_wakeOp hc) ?_
  refine .ite (.next fun hc => canonical_wakeOp hc) ?_
  split
  · exact .next fun hc => canonical_wakeOp hc
  · exact .ite (.next fun hc => canonical_wakeOp hc) (.next fun hc => canonical_message (canonical_wakeOp hc))

theorem canonical_serveSlot {n : Nat} (hc : s.canonical) : (s.serveSlot n).canonical := by
  unfold State.serveSlot
  split
  · exact canonical_mbxFree hc
  · exact canonical_message hc

theorem canonical_serveHeld (hc : s.canonical) : s.serveHeld.canonical :=
  canonical_ite (canonical_each (fun _ _ h => canonical_serveSlot h) (canonical_upd hc)) hc

theorem canonical_submitSlot {n : Nat} (hc : s.canonical) : (s.submitSlot n).canonical :=
  canonical_ite (canonical_setBar _ _ hc) (canonical_ite (canonical_serveSlot (canonical_setBar _ _ hc)) (canonical_upd
      (canonical_setBar _ _ hc)))

theorem canonical_submitSlots {bits : Nat} (hc : s.canonical) : (s.submitSlots bits).canonical :=
  canonical_each (fun _ _ h => canonical_submitSlot h) hc

theorem canonical_clearBits {off bits : Nat} (hc : s.canonical) : (s.clearBits off bits).canonical := canonical_setBar _ _ hc

theorem canonical_ringTailTo {q v : Nat} (hc : s.canonical) : (s.ringTailTo q v).canonical :=
  canonical_ite hc (canonical_setBar _ _ hc)

theorem canonical_dmaEnable {n : Nat} {on : Bool} {next : List Byte} (hc : s.canonical) : (s.dmaEnable n on next).canonical :=
  canonical_ite (canonical_setBar _ _ hc) (canonical_ite hc (canonical_dmaFetch (canonical_setBar _ _ (canonical_ite hc
      (canonical_upd hc)))))

theorem canonical_dmaReset {n : Nat} (hc : s.canonical) : (s.dmaReset n).canonical :=
  canonical_ite hc (canonical_setBar _ _ (canonical_setBar _ _ hc))

theorem canonical_dmaTail {n v : Nat} {next : List Byte} (hc : s.canonical) : (s.dmaTail n v next).canonical :=
  canonical_dmaFetch (canonical_setBar _ _ hc)

theorem canonical_hostPut {off : Nat} {bs : List Byte} (hc : s.canonical) : (s.hostPut off bs).canonical :=
  canonical_ite (canonical_upd hc) (canonical_upd hc)

theorem canonical_hostWrites {l : List (Nat × List Byte)} (hc : s.canonical) : (s.hostWrites l).canonical :=
  canonical_each (fun _ _ h => canonical_hostPut h) hc

theorem canonical_dmaCopy {d : DmaDescriptor} {data : List Byte} (hc : s.canonical) : (s.dmaCopy d data).canonical :=
  canonical_ite (canonical_hostPut hc) (canonical_upd hc)

theorem nextCanonical_execDmaDescriptorDone {n : Fin 8} {data next : List Byte} : NextCanonical s (execDmaDescriptorDone n data
    next s) := by
  unfold execDmaDescriptorDone
  split
  · exact .next fun hc => hc
  · exact .ite (.next fun hc => canonical_dmaFinish hc) (.next fun hc => canonical_dmaFetch (canonical_dmaFinish
        (canonical_dmaCopy hc)))

theorem canonical_freeDescriptor (hc : s.canonical) : (s.freeDescriptor).2.canonical := canonical_draw hc

theorem canonical_dmaRegister {n o v : Nat} (hc : s.canonical) : (s.dmaRegister n o v).canonical := by
  unfold State.dmaRegister
  split
  · exact canonical_ite hc (canonical_setBar _ _ hc)
  · exact canonical_ite hc (canonical_setBar _ _ hc)
  · exact canonical_ite hc (canonical_setBar _ _ hc)
  · exact canonical_dmaTail (canonical_freeDescriptor hc)
  · exact canonical_dmaEnable (canonical_freeDescriptor (canonical_onlyIf (fun h => canonical_dmaReset h) hc))
  · exact hc

theorem canonical_msixWrite {off v : Nat} (hc : s.canonical) : (s.msixWrite off v).canonical :=
  canonical_ite (canonical_signal (canonical_setBar _ _ (canonical_setBar _ _ hc))) (canonical_setBar _ _ hc)

theorem canonical_barWrite {off v : Nat} (hc : s.canonical) : (s.barWrite off v).canonical :=
  canonical_ite hc (canonical_ite (canonical_submitSlots hc) (canonical_ite (canonical_clearBits hc) (canonical_ite
      (canonical_clearBits hc) (canonical_ite (canonical_ringTailTo hc) (canonical_ite (canonical_dmaRegister hc) (canonical_ite
      (canonical_ringTailTo hc) (canonical_ite (canonical_setBar _ _ hc) (canonical_ite (canonical_msixWrite hc) hc))))))))

theorem canonical_sramUnitsFail {units : List Nat} (hc : s.canonical) : (s.sramUnitsFail units).canonical :=
  canonical_each (fun _ _ h => canonical_serveFailure h) (canonical_each (fun _ _ h => canonical_raise _ _ _ h) (canonical_upd
      hc))

/-! ### Write commands -/

theorem canonical_powerWrite {sess : Fin 17} {seq target : Nat} {urgent : Bool} {maskA maskB : Nat} (hc : s.canonical) :
    (s.powerWrite sess seq target urgent maskA maskB).canonical :=
  canonical_write hc

/-! ### The tick boundary -/

theorem canonical_reachDecision {r : Nat} {t : ReachTick} (hc : s.canonical) : (s.reachDecision r t).canonical :=
  canonical_ite hc (canonical_onlyIf (fun h => canonical_agcCount h) (canonical_each (fun _ _ h => canonical_frameDecision h)
      hc))

theorem canonical_reachTelemetry {r : Nat} {t : ReachTick} (hc : s.canonical) : (s.reachTelemetry r t).canonical :=
  canonical_ite hc (canonical_ite (canonical_upd hc) (canonical_cdTick (canonical_watchTick (canonical_eqFigures
      (canonical_eqTraining (canonical_coarseOffsets (canonical_agcBoundary (canonical_each (fun _ _ h => canonical_pilotStep h)
      hc))))))))

theorem canonical_berthTick {l : List (Nat × Nat × Nat × Nat)} (hc : s.canonical) : (s.berthTick l).canonical := by
  unfold State.berthTick
  refine canonical_each ?_ (canonical_each (fun _ _ h => canonical_alignStep h) hc)
  intro _ _ h
  split
  · exact canonical_upd (canonical_incBy _ _ (canonical_incBy _ _ h))
  · exact h

theorem canonical_overheadMessage {d : DecFrame} {m : Nat × List Byte} (hc : s.canonical) : (s.overheadMessage d m).canonical :=
  canonical_ite (canonical_loadingMessage hc) (canonical_ite (canonical_keyMessage hc) (canonical_ite (canonical_delayMessage
      hc) (canonical_ite (canonical_manifestIn hc) (canonical_ite (canonical_mateRelayIn hc) hc))))

theorem canonical_framePayload {room : Nat} {d : DecFrame} (hc : s.canonical) : (s.framePayload room d).1.canonical :=
  canonical_ite_fst (canonical_inc _ hc) (canonical_ite_fst (canonical_countMapMismatch (canonical_ite (canonical_countSegments
      (canonical_ite_fst (canonical_decryptFrame (canonical_ite (canonical_upd hc) hc)) (canonical_ite (canonical_upd hc) hc)))
      (canonical_each (fun _ _ h => canonical_overheadMessage h) (canonical_countOhErrors (canonical_countSegments
      (canonical_ite_fst (canonical_decryptFrame (canonical_ite (canonical_upd hc) hc)) (canonical_ite (canonical_upd hc)
      hc))))))) (canonical_each (fun _ _ h => canonical_cellIn h) (canonical_incBy _ _ (canonical_ite (canonical_countSegments
      (canonical_ite_fst (canonical_decryptFrame (canonical_ite (canonical_upd hc) hc)) (canonical_ite (canonical_upd hc) hc)))
      (canonical_each (fun _ _ h => canonical_overheadMessage h) (canonical_countOhErrors (canonical_countSegments
      (canonical_ite_fst (canonical_decryptFrame (canonical_ite (canonical_upd hc) hc)) (canonical_ite (canonical_upd hc)
      hc)))))))))

theorem canonical_frameRelease {room : Nat} {d : DecFrame} (hc : s.canonical) : (s.frameRelease room d).1.canonical :=
  canonical_ite_fst hc (canonical_ite_fst (canonical_frameRejected hc) (canonical_framePayload (canonical_frameAccepted hc)))

theorem canonical_releaseAll {l : List DecFrame} {room : Nat} (hc : s.canonical) :
    (s.releaseAll l room).canonical := by
  induction l generalizing s room with
  | nil => exact hc
  | cons d l ih => exact ih (canonical_frameRelease hc)

theorem canonical_decodeRelease (hc : s.canonical) : s.decodeRelease.canonical :=
  canonical_upd (canonical_releaseAll (canonical_each (fun _ _ h => canonical_berStep h) (canonical_each (fun _ _ h =>
      canonical_decodeFigures h) (canonical_wrN _ _ (canonical_upd hc)))))

theorem canonical_groupEnableApply {r g : Nat} {v : Int} (hc : s.canonical) : (s.groupEnableApply r g v).canonical :=
  canonical_showCodedBits (canonical_ite (canonical_rttClear (canonical_keyEnable (canonical_groupStart (canonical_upd
      (canonical_wr _ _ hc))))) (canonical_ite (canonical_upd (canonical_wrN _ _ (canonical_wrN _ _ (canonical_upd
      (canonical_frameHunt (canonical_keyDisable (canonical_groupDrop (canonical_withdrawAnn (canonical_wr _ _ hc)))))))))
      (canonical_wr _ _ hc)))

theorem canonical_applyStaged {w : StagedWrite} (hc : s.canonical) : (s.applyStaged w).canonical := by
  unfold State.applyStaged
  dsimp only
  split
  · exact canonical_agcRearmWrite hc
  · exact canonical_delayClear (canonical_cdSwapOp hc)
  · exact canonical_groupEnableApply hc
  · exact canonical_snrCheck (canonical_wr _ _ hc)
  · exact canonical_ite (canonical_txToProbe (canonical_wr _ _ hc)) (canonical_wr _ _ hc)
  · exact canonical_squelch (canonical_wr _ _ hc)
  · exact canonical_onlyIf (fun h => canonical_pauseFollow h) (canonical_wr _ _ hc)
  · exact canonical_showRanks (canonical_wr _ _ hc)
  · exact canonical_flowApply hc
  · exact canonical_commandOp hc
  · exact canonical_eraseSlot hc
  · exact canonical_upd hc
  · exact canonical_alignNowOp hc
  · exact canonical_showDelay (canonical_wr _ _ hc)
  · exact canonical_upd (canonical_wr _ _ hc)
  · exact canonical_upd (canonical_wr _ _ hc)
  · exact canonical_upd (canonical_wr _ _ hc)
  · exact canonical_upd hc
  · exact canonical_wr _ _ hc

theorem canonical_applyStep {ws : List StagedWrite} {n : Nat} (hc : s.canonical) : (s.applyStep ws n).canonical :=
  canonical_each (fun _ _ h => canonical_ite (canonical_raise _ _ _ (canonical_inc _ h)) (canonical_inc _ (canonical_applyStaged
      h))) hc

theorem canonical_frameBuild {r g : Nat} (hc : s.canonical) : (s.frameBuild r g).canonical := by
  unfold State.frameBuild
  extract_lets rg s₁ _ s₂ t m enc keying first n
  have h₁ : s₁.canonical := canonical_ite (canonical_outageDiscard hc) hc
  have h₂ : s₂.canonical := canonical_sealLate h₁
  refine canonical_ite (canonical_upd h₁) ?_
  clear_value n first keying enc m t s₂
  have h₃ := canonical_delayMessages (r := r) (g := g) h₂
  generalize s₂.delayMessages r g = p at h₃ ⊢
  obtain ⟨s₃, delay⟩ := p
  have h₄ : (if keying then (s₃, []) else s₃.relayMessages r g).1.canonical :=
    canonical_ite_fst h₃ (canonical_relayMessages h₃)
  dsimp only
  generalize (if keying then (s₃, []) else s₃.relayMessages r g) = p at h₄ ⊢
  obtain ⟨s₄, relay⟩ := p
  have h₅ : (if keying then ((s₄.servePrompt rg 0).1.ageStandard rg, ([] : List (List Byte)), ([] : List Cell))
      else if s₄.txDown r then s₄.fillSlots rg 0 (508 - (ohMessage <$> (first ++ delay ++ relay)).flatten.length)
      else if s₄.outage rg then s₄.manifestFill rg (508 - (ohMessage <$> (first ++ delay ++ relay)).flatten.length) n
      else s₄.fillSlots rg n (508 - (ohMessage <$> (first ++ delay ++ relay)).flatten.length)).1.canonical :=
    canonical_ite_fst (canonical_ageStandard (canonical_servePrompt h₄)) (canonical_ite_fst
      (canonical_fillSlots h₄) (canonical_ite_fst (canonical_manifestFill h₄) (canonical_fillSlots h₄)))
  dsimp only
  generalize (if keying then ((s₄.servePrompt rg 0).1.ageStandard rg, ([] : List (List Byte)), ([] : List Cell)) else _) = p
    at h₅ ⊢
  exact canonical_wrN _ _ (canonical_wrN _ _ (canonical_ite (canonical_invoke (canonical_upd h₅))
    (canonical_upd h₅)))

theorem canonical_tapRecords {t : ReachTick} (hc : s.canonical) : (s.tapRecords t).1.canonical :=
  canonical_foldl_fst (fun _ _ h => canonical_dbOf (canonical_dbOf h)) hc

theorem canonical_tapBlock {r ended : Nat} {t : ReachTick} (hc : s.canonical) : (s.tapBlock r ended t).1.canonical :=
  canonical_ite_fst (canonical_tapRecords hc) (canonical_tapRecords hc)

theorem canonical_linkTelemetry {frames : List DecFrame} {r : Nat} {t : ReachTick} (hc : s.canonical) : (s.linkTelemetry frames
    r t).1.canonical :=
  canonical_ite_fst hc (canonical_upd hc)

theorem canonical_linkCaptures {frames : List DecFrame} {r : Nat} {t : ReachTick} (hc : s.canonical) : (s.linkCaptures frames r
    t).canonical :=
  canonical_each (fun _ _ h => canonical_upd h) (canonical_upd hc)

theorem canonical_linkTick {frames : List DecFrame} {r ended : Nat} {t : ReachTick} (hc : s.canonical) : (s.linkTick frames r
    ended t).1.canonical :=
  canonical_linkCaptures (canonical_tapBlock (canonical_linkTelemetry hc))

theorem canonical_linkTicks {i : BoundaryInput} {frames : List DecFrame} {ended : Nat} (hc : s.canonical) :
    (s.linkTicks i frames ended).1.canonical :=
  canonical_foldl_fst (fun _ _ h => canonical_linkTick h) hc

theorem canonical_reapplyDefaults (hc : s.canonical) : s.reapplyDefaults.canonical := by
  unfold State.reapplyDefaults
  refine canonical_each ?_ hc
  intro _ _ h
  split
  · exact canonical_ite (canonical_upd h) (canonical_effect h)
  · exact h

theorem canonical_boundaryIn {i : BoundaryInput} (hc : s.canonical) : (s.boundaryIn i).1.canonical := by
  unfold State.boundaryIn
  extract_lets _ s₁ s₂ s₃ s₄ s₅ frames
  have h₁ : s₁.canonical := canonical_mateBoundary (canonical_lanesTick (canonical_upd (canonical_upd hc)))
  have h₂ : s₂.canonical := canonical_each (fun _ _ h => canonical_workStep h)
    (canonical_hostWrites h₁)
  have h₃ : s₃.canonical := canonical_berthTick (canonical_lanesReceive h₂)
  have h₄ : s₄.canonical := canonical_showAvs (canonical_hotStep (canonical_each (fun _ _ h => canonical_upd h) h₃))
  have h₅ : s₅.canonical := canonical_each (fun _ _ h => canonical_onlyIf (fun h => canonical_upd h) h) h₄
  clear_value s₅
  generalize hp : frames.foldl _ (s₅, []) = p
  have hf : p.1.canonical := by
    rw [← hp]
    exact canonical_foldl_fst (fun _ _ h => canonical_demap h) h₅
  clear hp
  refine canonical_rakeBoundary (canonical_memBoundary (canonical_reapplyDefaults
    (canonical_each (fun _ _ h => canonical_memRead (canonical_onlyIf (fun h => canonical_event h) h))
    (canonical_each (fun _ _ h => canonical_lqfStep h) (canonical_decodeRelease
    (canonical_each (fun _ _ h => canonical_reachTelemetry (canonical_reachDecision (canonical_watchAge h)))
    (canonical_upd ?_)))))))
  exact hf

theorem canonical_loadingStep {r g : Nat} (hc : s.canonical) : (s.loadingStep r g).canonical :=
  canonical_ite (canonical_loadingCompute (canonical_announceStep (canonical_capCandidate (canonical_loadingDeadline
      (canonical_loadingSwitchDue (canonical_restartDue hc)))))) (canonical_withdrawAnn (canonical_loadingDeadline
      (canonical_loadingSwitchDue (canonical_restartDue hc))))

theorem canonical_boundarySteps {i : BoundaryInput} {decs : List DecFrame} (hc : s.canonical) : (s.boundarySteps i
    decs).canonical :=
  canonical_each (fun _ _ h => canonical_showDelayValid (canonical_eqMembership h)) (canonical_each (fun _ _ h =>
      canonical_fixedResolve h) (canonical_superMode (canonical_trainMoored (canonical_poolCapacity (canonical_requestEnd
      (canonical_step8 (canonical_releaseStep (canonical_applyStep (canonical_showRanks (canonical_upd (canonical_timingBoundary
      (canonical_superMode (canonical_each (fun _ _ h => canonical_biasStep h) (canonical_filterBoundary (canonical_outputsLand
      (canonical_applyStep (canonical_upd (canonical_downgradeStep (canonical_drainStep (canonical_restBoundary
      (canonical_applyStep (canonical_poolAllocate (canonical_each (fun _ _ h => canonical_loadingStep h) (canonical_applyStep
      (canonical_each (fun _ _ h => canonical_calApply h) (canonical_stockpileStep (canonical_each (fun _ _ h =>
      canonical_agcLossStep h) (canonical_each (fun _ _ h => canonical_restSwitch h) (canonical_applyStep (canonical_each (fun _
      _ h => canonical_calBoundary h) (canonical_cipherPause (canonical_each (fun _ _ h => canonical_keyStep h)
      (canonical_applyStep (canonical_poolCapacity (canonical_systemStep (canonical_stockpileStep (canonical_commitStep
      (canonical_each (fun _ _ h => canonical_rampStep h) (canonical_applyStep (canonical_upd
      hc))))))))))))))))))))))))))))))))))))))))

theorem canonical_boundaryEnd {i : BoundaryInput} {ended : Nat} {blocks : List (List Host.Cell)}
    {job : List DecFrame} {grants : List (Nat × Nat × Nat)} (hc : s.canonical) :
    (s.boundaryEnd i ended blocks job grants).canonical := by
  unfold State.boundaryEnd
  extract_lets s₁ s₂ s₃ s₄ s₅ s₆ s₇
  have h₂ : s₂.canonical := canonical_taskStarts (canonical_upd (canonical_each (fun _ _ h =>
    canonical_upd h) hc))
  have h₃ : s₃.canonical := canonical_each (fun _ _ h => canonical_mirrorStep h) (canonical_noticeStep h₂)
  have h₄ : s₄.canonical := canonical_each (fun _ _ h => canonical_frameBuild h) h₃
  have h₅ : s₅.canonical := canonical_groupFigures (canonical_basinFigures h₄)
  have h₆ : s₆.canonical := canonical_showDevice (canonical_showRequests (canonical_switchClose
    (canonical_upd h₅)))
  exact canonical_upd (canonical_ite (canonical_upd h₆) h₆)

theorem canonical_nextTick (hc : s.canonical) : s.nextTick.canonical :=
  canonical_ite (canonical_upd (canonical_advanceTick hc)) (canonical_upd hc)

theorem canonical_boundaryTallies (hc : s.canonical) : s.boundaryTallies.canonical :=
  canonical_upd (canonical_ite hc (canonical_showTallyStep hc))

theorem nextCanonical_execDecoderCheckerFailure {core : Fin 52} {frame word : Nat} : NextCanonical s (execDecoderCheckerFailure
    core frame word s) := by
  unfold execDecoderCheckerFailure
  refine .ite (.next id) ?_
  refine .next fun hc => ?_
  refine canonical_reportFailed ?_
  split
  · exact canonical_ite (canonical_incBy _ _ (canonical_upd hc)) (canonical_raiseLimited (canonical_inc _ (canonical_incBy _ _
        (canonical_upd hc))))
  · exact canonical_incBy _ _ (canonical_upd hc)

theorem nextCanonical_execInjectedFrameSend {b : Fin 64} {phase : Nat} :
    NextCanonical s (execInjectedFrameSend b phase s) := by
  unfold execInjectedFrameSend
  refine .ite (.next id) ?_
  dsimp only
  split
  · exact .next id
  · exact .next fun hc => canonical_ite (canonical_ringWrite (canonical_upd hc)) (canonical_upd hc)

/-! ### The dispatch -/

/-- Every row of the command table answers a next state, and keeps the dictionary canonical. -/
theorem nextCanonical_exec (i : Instr) (s : State) : NextCanonical s (exec i s) := by
  cases i
  case resetNRelease => exact .ite (.next fun hc => canonical_startStep1 hc) (.next fun hc => hc)
  case vddAonLoss | thermalShutdown | localOscAbsent => exact .next fun hc => canonical_restart
  case ledgerRecordSelect => exact nextCanonical_execLedgerRecordSelect
  case bootFlashTimeout | tickMarkerSend | agcTrainingLossRearm | calRoundEnd | startRoundEnd | shortfallMarginExpiry |
      doubleFaultPathRetry | switchEnd | delayMarkSend | wakeSendEnd | wakePatternEnd =>
    exact .ite (.next fun hc => canonical_upd hc) (.next fun hc => hc)
  case imageVerify => exact nextCanonical_execImageVerify
  case stateSramFill =>
    exact .ite (.ite (.next fun hc => canonical_upd (canonical_upd (canonical_sramUnitsFail (canonical_ite hc
        (canonical_applyMaps hc))))) (.ite (.next fun hc => canonical_serveHeld (canonical_dormantServe (canonical_upd
        (canonical_sramUnitsFail (canonical_ite hc (canonical_applyMaps hc)))))) (.next fun hc => canonical_afterFill
        (canonical_upd (canonical_sramUnitsFail (canonical_ite hc (canonical_applyMaps hc))))))) (.next fun hc => hc)
  case assayPreconditionTimeout => exact nextCanonical_execAssayPreconditionTimeout
  case assayEnd => exact nextCanonical_execAssayEnd
  case startCommit =>
    exact .ite (.next fun hc => canonical_serveHeld (canonical_commitDone hc)) (.next fun hc => hc)
  case basinPortTrained =>
    exact .ite (.ite (.next fun hc => canonical_showBasinSlots (canonical_upd (canonical_wrN _ _ (canonical_wrN _ _
        (canonical_wrN _ _ (canonical_checkpointRead hc)))))) (.next fun hc => canonical_ite (canonical_showBasinSlots
        (canonical_takeCapacity (canonical_wrN _ _ (canonical_upd (canonical_upd (canonical_wrN _ _ (canonical_wrN _ _
        (canonical_checkpointRead hc)))))))) (canonical_opStart _ _ (canonical_showBasinSlots (canonical_takeCapacity
        (canonical_wrN _ _ (canonical_upd (canonical_upd (canonical_wrN _ _ (canonical_wrN _ _ (canonical_checkpointRead
        hc))))))))))) (.next fun hc => hc)
  case basinTrainingTimeout =>
    exact .ite (.next fun hc => canonical_fillCheck (canonical_showBasinSlots (canonical_basinFail hc))) (.next fun hc => hc)
  case basinPortFillDone =>
    exact .ite (.ite (.next fun hc => canonical_fillCheck (canonical_opAdvance (canonical_upd hc))) (.next fun hc =>
        canonical_leaveFill hc)) (.next fun hc => hc)
  case durableAccepted =>
    exact .ite (.next fun hc => canonical_raise _ _ _ (canonical_wrN _ _ (canonical_each (fun _ _ h => canonical_durableStart h)
        (canonical_upd hc)))) (.next fun hc => hc)
  case tickBoundary =>
    exact .ite (.next fun hc => hc) (.ite (.next fun hc => canonical_hotStep (canonical_superMode (canonical_timingBoundary
        (canonical_boundaryTallies (canonical_nextTick hc))))) (.next fun hc => canonical_acceptHeld (canonical_boundaryEnd
        (canonical_boundarySteps (canonical_requestBoundary (canonical_linkTicks (canonical_boundaryIn
        (canonical_boundaryTallies (canonical_nextTick hc)))))))))
  case stagingWindowClose => exact .ite (.next fun hc => canonical_upd (canonical_upd hc)) (.next fun hc => hc)
  case chamberDelivery => exact .next fun hc => canonical_incBy _ _ (canonical_upd hc)
  case tallyDelivery => exact nextCanonical_execTallyDelivery
  case uandatenDatagramRx => exact nextCanonical_execUandatenDatagramRx
  case readReq | readBlock | writeReq | writeBlock | subscribe | closeSession | logEntryRead | assayRun | peek =>
    exact .next canonical_direct
  case openSession => exact .next fun hc => canonical_ite (canonical_openOp hc) hc
  case requestRetry => exact .ite (.next fun hc => hc) (.next fun hc => canonical_request hc)
  case rateLimitPeriodEnd =>
    exact .next fun hc => canonical_each (fun _ _ h => canonical_ite h (canonical_raiseLimitedItem _ _ _ _ _ h)) (canonical_upd
        hc)
  case sessionIdleTimeout => exact .ite (.next fun hc => canonical_sessionClose hc) (.next fun hc => hc)
  case credential | coeffWrite | frameInject | keyImport | todAssociate | peekAddress | twiXfer =>
    exact .next canonical_write
  case credentialErase | abortOp | firmwareLoad | shutdown | commitNow | assayWhenWrite | reachEnable | agcRearm | txOffNow |
      txOffRelease | calStart | groupEnable | groupLayoutWrite | preEmphasis | loadingMode | fixedApply | historyValidWrite |
      bankCdWrite | cdSwap | cdMode | groupLayout | synceInput | flowEntry | ladder | waterMarkWrite | stockpileReserve |
      unitMode | pairedGroupWrite | lockout | force | clear | keyBatchStart | slotErase | keyRoll | encryptKeySlotWrite |
      phaseStep | alignNow | retrain | loopback | wakeMate | engineLoad | partitionWrite | overflowClear | eventSelect |
      modeRequest | inject | seqEntry | filterConfigWrite | filterCoeffWrite | bankSwap | biasWrite | swapUnit | wakePeer |
      alarmClear | gpioConfig | pathSelectGpioWrite | gcInvert =>
    exact .next canonical_write1
  case mgmtAddressChange => exact .next fun hc => canonical_ite (canonical_write hc) hc
  case mbxSubmit => exact .next canonical_submitSlots
  case mbxDoneClear | mbxErrorClear => exact .next canonical_clearBits
  case ringTailWrite => exact .next canonical_ringTailTo
  case channelEnable => exact .next canonical_dmaEnable
  case channelReset => exact .next canonical_dmaReset
  case dmaRingTailWrite => exact .next canonical_dmaTail
  case dmaDescriptorDone => exact nextCanonical_execDmaDescriptorDone
  case bar0RegisterWrite => exact .next canonical_barWrite
  case firmwareLoadEnd =>
    exact .ite (.ite (.next fun hc => canonical_requestCommit (canonical_wrN _ _ (canonical_opDone _ (canonical_opAdvance
        (canonical_upd (canonical_ite hc (canonical_upd hc))))))) (.next fun hc => canonical_opFail _ _ (canonical_upd
        (canonical_ite hc (canonical_upd hc))))) (.next fun hc => hc)
  case shutdownDrainEnd =>
    exact .ite (.next fun hc => canonical_shutdownRamped (canonical_onlyIf (fun h => canonical_upd (canonical_opAbort _ _ h))
        (canonical_onlyIf (fun h => canonical_opAbort _ _ h) (canonical_wrN _ _ (canonical_upd hc))))) (.next fun hc => hc)
  case ledgerPeriodicCommit => exact .ite (.next fun hc => canonical_requestCommit hc) (.next fun hc => hc)
  case ledgerCommitDone => exact .next fun hc => canonical_serveHeld (canonical_commitDone hc)
  case watchdogExpiry => exact .ite (.next fun hc => canonical_startStep1 canonical_restart) (.next fun hc => hc)
  case watchdogRunClear =>
    exact .ite (.next fun hc => canonical_requestCommit (canonical_upd hc)) (.next fun hc => hc)
  case dieLinkTrained => exact .ite (.next fun hc => canonical_wrN _ _ hc) (.next fun hc => hc)
  case dieLinkFlitError =>
    exact .ite (.next fun hc => hc) (.ite (.next fun hc => canonical_inc _ hc) (.ite (.next fun hc => canonical_flitLost hc)
        (.ite (.next fun hc => canonical_flitLost (canonical_draw hc)) (.next fun hc => canonical_draw hc))))
  case dieLinkDegraded =>
    exact .ite (.next fun hc => canonical_faultMoorReach (canonical_raise _ _ _ (canonical_wrN _ _ hc))) (.next fun hc => hc)
  case agcSlewUpdate =>
    exact .ite (.next fun hc => hc) (.next fun hc => canonical_wrN _ _ (canonical_upd (canonical_setGainCodes (canonical_draw
        hc))))
  case agcSettleEntry | referenceQualifying =>
    exact .ite (.next fun hc => canonical_wrN _ _ (canonical_upd hc)) (.next fun hc => hc)
  case agcFreeze =>
    exact .ite (.next fun hc => canonical_each (fun _ _ h => canonical_ite (canonical_wrN _ _ h) h) (canonical_agcFreezeOp hc))
        (.next fun hc => hc)
  case rampEnd => exact .next fun hc => canonical_shutdownRamped (canonical_rampEndOp hc)
  case eyeSafetyInput => exact .next fun hc => canonical_eyeStep (canonical_upd hc)
  case calRoundStart =>
    exact .ite (.next fun hc => canonical_ite (canonical_opStart _ _ (canonical_upd (canonical_upd hc))) (canonical_raise _ _ _
        (canonical_opStart _ _ (canonical_upd (canonical_upd hc))))) (.next fun hc => hc)
  case calSparesMeasured => exact .ite (.next fun hc => canonical_opAdvance (canonical_upd hc)) (.next fun hc => hc)
  case calPositionStep =>
    exact .ite (.ite (.next fun hc => canonical_calTake (canonical_ite hc (canonical_opAdvance (canonical_calReturn hc))))
        (.next fun hc => canonical_upd (canonical_ite hc (canonical_opAdvance (canonical_calReturn hc))))) (.next fun hc => hc)
  case startRoundBegin => exact .ite (.next fun hc => canonical_opStart _ _ (canonical_upd hc)) (.next fun hc => hc)
  case loadingDeadline => exact .next canonical_loadingDeadline
  case loadingSwitch => exact .next canonical_loadingSwitchDue
  case groupRestart => exact .next canonical_restartDue
  case historyCapture =>
    exact .ite (.next fun hc => canonical_wrN _ _ (canonical_each (fun _ _ h => canonical_wrN _ _ h) hc)) (.next fun hc => hc)
  case cdBankReady =>
    exact .next fun hc => canonical_ite (canonical_wrN _ _ (canonical_ite (canonical_wrN _ _ hc) hc)) (canonical_ite
        (canonical_wrN _ _ hc) hc)
  case cdSearch =>
    exact .ite (.ite (.next fun hc => canonical_cdPut hc) (.next fun hc => canonical_raise _ _ _ (canonical_upd (canonical_cdPut
        hc)))) (.next fun hc => hc)
  case cdTracking =>
    exact .ite (.next fun hc => canonical_upd (canonical_cdPut (canonical_upd hc))) (.next fun hc => hc)
  case eqModeChange =>
    exact .ite (.next fun hc => hc) (.next fun hc => canonical_raise _ _ _ (canonical_inc _ (canonical_wrN _ _ hc)))
  case watchSuppressEnd =>
    exact .ite (.next fun hc => canonical_showBaselines (canonical_wrN _ _ (canonical_upd hc))) (.next fun hc => hc)
  case watchArmed => exact nextCanonical_execWatchArmed
  case watchCleared =>
    exact .ite (.next fun hc => canonical_raise _ _ _ (canonical_wrN _ _ (canonical_upd (canonical_ite (canonical_upd hc) hc))))
        (.next fun hc => hc)
  case decoderCheckerFailure => exact nextCanonical_execDecoderCheckerFailure
  case frameLost => exact nextCanonical_execFrameLost
  case laneLocked => exact nextCanonical_execLaneLocked
  case portUp =>
    exact .ite (.next fun hc => canonical_squelchPort (canonical_raise _ _ _ (canonical_upd (canonical_wrN _ _ hc)))) (.next fun
        hc => hc)
  case aligningTimeout =>
    exact .ite (.next fun hc => canonical_squelchPort (canonical_raise _ _ _ (canonical_wrN _ _ (canonical_each (fun _ _ h =>
        canonical_wrN _ _ h) hc)))) (.next fun hc => hc)
  case remoteFaultRx =>
    exact .ite (.next fun hc => canonical_squelchPort (canonical_wrN _ _ hc)) (.ite (.next fun hc => canonical_squelchPort
        (canonical_wrN _ _ hc)) (.next fun hc => hc))
  case portDown => exact nextCanonical_execPortDown
  case clientFrameRx =>
    exact .ite (.next fun hc => hc) (.ite (.next fun hc => hc) (.ite (.next fun hc => canonical_inc _ hc) (.ite (.next fun hc =>
        canonical_inc _ (canonical_ite (canonical_raiseLimited (canonical_inc _ (canonical_onlyIf (fun h => canonical_inc _ h)
        (canonical_inc _ (canonical_upd hc))))) (canonical_onlyIf (fun h => canonical_inc _ h) (canonical_inc _ (canonical_upd
        hc))))) (.ite (.next fun hc => canonical_trapFrame (canonical_upd (canonical_ite (canonical_raiseLimited (canonical_inc
        _ (canonical_onlyIf (fun h => canonical_inc _ h) (canonical_inc _ (canonical_upd hc))))) (canonical_onlyIf (fun h =>
        canonical_inc _ h) (canonical_inc _ (canonical_upd hc)))))) (.ite (.next fun hc => canonical_raiseLimited (canonical_inc
        _ (canonical_upd (canonical_ite (canonical_raiseLimited (canonical_inc _ (canonical_onlyIf (fun h => canonical_inc _ h)
        (canonical_inc _ (canonical_upd hc))))) (canonical_onlyIf (fun h => canonical_inc _ h) (canonical_inc _ (canonical_upd
        hc))))))) (.next fun hc => canonical_cutFrame (canonical_upd (canonical_ite (canonical_raiseLimited (canonical_inc _
        (canonical_onlyIf (fun h => canonical_inc _ h) (canonical_inc _ (canonical_upd hc))))) (canonical_onlyIf (fun h =>
        canonical_inc _ h) (canonical_inc _ (canonical_upd hc)))))))))))
  case pfcFrameRx =>
    exact .ite (.next fun hc => canonical_wrN _ _ (canonical_upd (canonical_inc _ hc))) (.next fun hc => hc)
  case pfcRxPauseExpiry => exact nextCanonical_execPfcRxPauseExpiry
  case pauseSourceChange => exact .ite (.next fun hc => canonical_pauseFollow hc) (.next fun hc => hc)
  case pfcRefresh => exact .ite (.next fun hc => canonical_sendPfc hc) (.next fun hc => hc)
  case egressFrameTx => exact nextCanonical_execEgressFrameTx
  case injectedFrameSend => exact nextCanonical_execInjectedFrameSend
  case heldCellHandover =>
    exact .next fun hc => canonical_waterCheck (canonical_handHeld (canonical_freeHeld (canonical_upd (canonical_readHeld hc))))
  case retxTimeout =>
    exact .ite (.next fun hc => canonical_voidCells (canonical_readHeld (canonical_upd hc))) (.next fun hc => hc)
  case basinLinkLost =>
    exact .ite (.next fun hc => canonical_onlyIf (fun h => canonical_inc _ h) (canonical_basinFail hc)) (.next fun hc => hc)
  case restorationStart => exact nextCanonical_execRestorationStart
  case withdrawEnd =>
    exact .ite (.next fun hc => hc) (.next fun hc => canonical_each (fun _ _ h => canonical_each (fun _ _ h =>
        canonical_txToProbe h) h) (canonical_upd hc))
  case drainStart => exact .next canonical_drainStart
  case restored =>
    exact .ite (.ite (.next fun hc => canonical_upd (canonical_wrN _ _ (canonical_raise _ _ _ (canonical_wrN _ _ hc)))) (.next
        fun hc => canonical_wrN _ _ (canonical_raise _ _ _ (canonical_wrN _ _ hc)))) (.next fun hc => hc)
  case restoreLimitExpiry =>
    exact .ite (.next fun hc => canonical_raise _ _ _ (canonical_wrN _ _ (canonical_upd hc))) (.next fun hc => hc)
  case waitToRestoreExpiry =>
    exact .ite (.next fun hc => hc) (.ite (.next fun hc => canonical_upd hc) (.ite (.next fun hc => canonical_upd hc) (.next fun
        hc => hc)))
  case preArm =>
    exact .ite (.next fun hc => canonical_each (fun _ _ h => canonical_preArmUnit h) (canonical_upd hc)) (.next fun hc => hc)
  case disarm =>
    exact .ite (.next fun hc => canonical_each (fun _ _ h => canonical_ite (canonical_ite (canonical_upd h) (canonical_upd h))
        h) (canonical_upd hc)) (.next fun hc => hc)
  case hello => exact .ite (.next fun hc => hc) (.next fun hc => canonical_mateArrive hc)
  case restoreNotice | mirror | mirrorAck | timeRelay => exact .next canonical_mateArrive
  case mateUnreachable =>
    exact .ite (.next fun hc => canonical_each (fun _ _ h => canonical_each (fun _ _ h => canonical_upd h) h) (canonical_raise _
        _ _ (canonical_wrN _ _ hc))) (.next fun hc => hc)
  case keyBatchEntry =>
    exact .ite (.ite (.next fun hc => canonical_upd (canonical_opAbort _ _ hc)) (.ite (.next fun hc => canonical_ite
        (canonical_upd (canonical_opDone _ (canonical_opAdvance (canonical_upd (canonical_importEntry hc)))))
        (canonical_opAdvance (canonical_upd (canonical_importEntry hc)))) (.next fun hc => canonical_upd (canonical_opFail _ _
        (canonical_importEntry hc))))) (.next fun hc => hc)
  case keyPostponed => exact .next canonical_keyPostpone
  case keyEpochSwitch => exact .next canonical_keySwitchDue
  case keyMismatch =>
    exact .ite (.ite (.next fun hc => canonical_toKeying (canonical_raiseLimited (canonical_inc _ hc))) (.next fun hc =>
        canonical_upd (canonical_raiseLimited (canonical_inc _ hc)))) (.next fun hc => hc)
  case cipherParityFault =>
    exact .ite (.next fun hc => canonical_cipherCapacity (canonical_reportFailed (canonical_upd (canonical_raise _ _ _
        (canonical_inc _ (canonical_inc _ hc)))))) (.next fun hc => hc)
  case segmentBlanked => exact nextCanonical_execSegmentBlanked
  case entropyFault =>
    exact .ite (.next fun hc => hc) (.next fun hc => canonical_raise _ _ _ (canonical_wrN _ _ hc))
  case referenceLost =>
    exact .ite (.next fun hc => canonical_refLost (canonical_ite (canonical_wr _ _ hc) hc)) (.next fun hc => hc)
  case referenceQualified | thermalCleared =>
    exact .ite (.next fun hc => canonical_raise _ _ _ (canonical_wrN _ _ hc)) (.next fun hc => hc)
  case locked => exact .ite (.next fun hc => canonical_raise _ _ _ (canonical_timingTo hc)) (.next fun hc => hc)
  case lockedSecond =>
    exact .ite (.next fun hc => canonical_holdoverFigures (canonical_upd hc)) (.next fun hc => hc)
  case ppsEdge => exact nextCanonical_execPpsEdge
  case laneSignalDetect => exact .ite (.next fun hc => canonical_wrN _ _ (canonical_laneTo hc)) (.next fun hc => hc)
  case cap =>
    exact .ite (.ite (.next fun hc => canonical_ite (canonical_laneUp (canonical_upd (canonical_capSent hc))) (canonical_train
        (canonical_upd (canonical_capSent hc)))) (.next fun hc => canonical_raise _ _ _ hc)) (.next fun hc => hc)
  case laneTrainingEnd =>
    exact .ite (.ite (.next fun hc => canonical_ite (canonical_laneUp (canonical_wrN _ _ (canonical_upd hc))) (canonical_train
        (canonical_wrN _ _ (canonical_upd hc)))) (.ite (.next fun hc => canonical_train (canonical_upd hc)) (.next fun hc =>
        canonical_train (canonical_raise _ _ _ (canonical_wrN _ _ (canonical_upd hc)))))) (.next fun hc => hc)
  case laneDown => exact .ite (.next fun hc => canonical_laneDrop hc) (.next fun hc => hc)
  case elasticError => exact .ite (.next fun hc => hc) (.next fun hc => canonical_laneDrop (canonical_inc _ hc))
  case skipSend => exact .ite (.next fun hc => canonical_skipSend hc) (.next fun hc => hc)
  case helloSend | timeRelaySend =>
    exact .ite (.next fun hc => canonical_sendMate (canonical_upd hc)) (.next fun hc => hc)
  case mateMessageError => exact .next canonical_mateError
  case tickOverrun => exact nextCanonical_execTickOverrun
  case mooringDelivery => exact nextCanonical_execMooringDelivery
  case engineLoadEnd => exact nextCanonical_execEngineLoadEnd
  case engAdd | engSub | engAnd | engOr | engXor | engShl | engShr | engSar | engLt | engLtu | engMin | engMax | engMinu |
      engMaxu | engLzc | engOnes | engMul | engMulhs | engMulhu | engDq | engDqu | engDr | engDru | engAddsat | engSubsat |
      engAddk | engAndk | engOrk | engXork | engLtk | engLtku | engShlk | engShrk | engSark | engMulk | engSethi | engCall |
      engJumpr | engLdW | engLdH | engLdHu | engLdB | engLdBu | engStW | engStH | engStB | engBrEq | engBrNe | engBrLt | engBrGe
      | engBrLo | engBrHs | engMsend | engMrecv | engMwait | engXcsR | engXcsW | engXcsOr | engXcsAndn | engAtomSwap |
      engAtomAdd | engAtomAnd | engAtomOr | engAtomMin | engAtomMax | engVadd | engVsub | engVcmul | engVcmulc | engVcmac |
      engVmag2 | engVmaga | engVconj | engVshr | engVld | engVst | engVbcast | engVext | engVins | engVsumr | engVsumi | engNop
      | engTend | engFence | engTrap | engResume | engHalt =>
    exact .next canonical_engRow
  case mwaitReturn => exact .next canonical_mwaitReturn
  case conversionSlot => exact nextCanonical_execConversionSlot
  case scrubRead =>
    exact .ite (.next fun hc => hc) (.ite (.next fun hc => canonical_wrN _ _ (canonical_upd (canonical_upd (canonical_memRead
        hc)))) (.next fun hc => canonical_upd (canonical_memRead hc)))
  case rakeRead => exact nextCanonical_execRakeRead
  case basinPageRetired => exact nextCanonical_execBasinPageRetired
  case stockpileFailure => exact nextCanonical_execStockpileFailure
  case engineStateCopy => exact .next canonical_upd
  case powerRequestReleased | powerRequestMoored | powerRequestOff | powerRequestDormant =>
    exact .next canonical_powerWrite
  case powerSwitchOpen =>
    exact .ite (.next fun hc => canonical_showRequests (canonical_requestEnd (canonical_offDomain hc))) (.next fun hc => hc)
  case domainPowered =>
    exact .ite (.next fun hc => canonical_showRequests (canonical_requestEnd (canonical_poweredUp hc))) (.next fun hc => hc)
  case drainLimitExpiry => exact nextCanonical_execDrainLimitExpiry
  case dormantEntry => exact nextCanonical_execDormantEntry
  case wake | wakePatternWord => exact .ite (.next fun hc => canonical_wakeOp hc) (.next fun hc => hc)
  case thermalTrip =>
    exact .ite (.ite (.next fun hc => canonical_raise _ _ _ (canonical_each (fun _ _ h => canonical_emergencyOff h)
        (canonical_wrN _ _ (canonical_ite (canonical_inc _ hc) (canonical_upd (canonical_inc _ hc)))))) (.next fun hc =>
        canonical_submitPower (canonical_raise _ _ _ (canonical_each (fun _ _ h => canonical_emergencyOff h) (canonical_wrN _ _
        (canonical_ite (canonical_inc _ hc) (canonical_upd (canonical_inc _ hc)))))))) (.next fun hc => hc)
  case thermalShutdownExit => exact nextCanonical_execThermalShutdownExit
  case localOscReturn => exact nextCanonical_execLocalOscReturn
  case avsTransaction => exact .ite (.next fun hc => canonical_avsEnd (canonical_upd hc)) (.next fun hc => hc)
  case avsRetry => exact .ite (.next fun hc => canonical_avsEnd hc) (.next fun hc => hc)
  case twiTransferEnd => exact .ite (.next fun hc => hc) (.next fun hc => canonical_twiEnd hc)
  case twiBusHeld => exact .next canonical_twiEnd
  case resetNPulse =>
    exact .ite (.next fun hc => canonical_restart) (.next fun hc => canonical_startStep1 canonical_restart)
  case localFaultRx => exact .ite (.next fun hc => canonical_squelchPort (canonical_upd hc)) (.next fun hc => hc)
  case mgmtLinkUpChange => exact .ite (.next fun hc => hc) (.next fun hc => canonical_wakeOp (canonical_wrN _ _ hc))
  case pcieLinkUp => exact .next fun hc => canonical_serveHeld (canonical_upd hc)

end State

/-! ### The obligations -/

/-- Settles O54: every row of the table answers a next state, whatever the state. -/
theorem everyCommandCompletes : Obligations.EveryCommandCompletes := by
  unfold Obligations.EveryCommandCompletes
  intro i s
  obtain ⟨t, ht, -⟩ := State.nextCanonical_exec i s
  exact ⟨t, ht⟩

/-- Settles O59: a step idles, or runs a command, which keeps the dictionary canonical. -/
theorem dictionaryStaysCanonical : Obligations.DictionaryStaysCanonical := by
  unfold Obligations.DictionaryStaysCanonical
  intro s t hs h
  unfold step at h
  split at h
  · cases h
    exact hs
  · next c rest _ =>
    obtain ⟨u, hu, hkeeps⟩ := State.nextCanonical_exec c { s with pending := rest }
    rw [hu] at h
    cases h
    exact hkeeps hs

/-- Settles O60: the reset state lists no register. -/
theorem resetDictionaryIsCanonical : Obligations.ResetDictionaryIsCanonical := State.canonical_reset

/-- Settles O1: the two cases of the queue. -/
theorem stepServesTheQueueInOrder : Obligations.StepServesTheQueueInOrder := by
  unfold Obligations.StepServesTheQueueInOrder
  constructor
  · intro c rest s h
    simp [step, h]
  · intro s h
    simp [step, h]

end Sys2Proof.Machine
end

section
/-! The engines' instruction words (R401, Tables 16.4 to 16.6): a word reads as an instruction exactly where its fields are that
instruction's. -/
open Sys2Proof Sys2Proof.Machine
namespace Sys2Proof.Machine

theorem toNat_append_eq_add {m n : Nat} (x : BitVec m) (y : BitVec n) : (x ++ y).toNat = x.toNat * 2 ^ n + y.toNat := by
  rw [BitVec.toNat_append, ← Nat.shiftLeft_add_eq_or_of_lt y.isLt, Nat.shiftLeft_eq]

/-! ### Formats and their fields (Table 16.4): a word of a format is one whose fields are the format's arguments -/

section Formats
variable {c : BitVec 4} {d a b r : BitVec 5} {w : BitVec 32}

theorem fmtRR_eq_iff {fn : BitVec 13} : fmtRR c d a b fn = w ↔
    fieldOf w 28 4 = c ∧ fieldOf w 23 5 = d ∧ fieldOf w 18 5 = a ∧ fieldOf w 13 5 = b ∧ fieldOf w 0 13 = fn := by
  simp only [fmtRR, ← BitVec.toNat_inj, toNat_append_eq_add, BitVec.extractLsb'_toNat, Nat.shiftRight_eq_div_pow]
  omega

theorem fmtRK_eq_iff {k : BitVec 14} {fn : BitVec 4} : fmtRK c d a k fn = w ↔
    fieldOf w 28 4 = c ∧ fieldOf w 23 5 = d ∧ fieldOf w 18 5 = a ∧ fieldOf w 4 14 = k ∧ fieldOf w 0 4 = fn := by
  simp only [fmtRK, ← BitVec.toNat_inj, toNat_append_eq_add, BitVec.extractLsb'_toNat, Nat.shiftRight_eq_div_pow]
  omega

theorem fmtM_eq_iff {disp : BitVec 14} {size ext : BitVec 2} : fmtM c r b disp size ext = w ↔
    fieldOf w 28 4 = c ∧ fieldOf w 23 5 = r ∧ fieldOf w 18 5 = b ∧ fieldOf w 4 14 = disp ∧ fieldOf w 2 2 = size ∧
      fieldOf w 0 2 = ext := by
  simp only [fmtM, ← BitVec.toNat_inj, toNat_append_eq_add, BitVec.extractLsb'_toNat, Nat.shiftRight_eq_div_pow]
  omega

theorem fmtC_eq_iff {cond : BitVec 3} {off : BitVec 15} : fmtC c a b cond off = w ↔
    fieldOf w 28 4 = c ∧ fieldOf w 23 5 = a ∧ fieldOf w 18 5 = b ∧ fieldOf w 15 3 = cond ∧ fieldOf w 0 15 = off := by
  simp only [fmtC, ← BitVec.toNat_inj, toNat_append_eq_add, BitVec.extractLsb'_toNat, Nat.shiftRight_eq_div_pow]
  omega

theorem fmtL_eq_iff {k : BitVec 23} : fmtL c d k = w ↔ fieldOf w 28 4 = c ∧ fieldOf w 23 5 = d ∧ fieldOf w 0 23 = k := by
  simp only [fmtL, ← BitVec.toNat_inj, toNat_append_eq_add, BitVec.extractLsb'_toNat, Nat.shiftRight_eq_div_pow]
  omega

theorem fmtX_eq_iff {mode : BitVec 2} {csr : BitVec 12} : fmtX c d a mode csr = w ↔
    fieldOf w 28 4 = c ∧ fieldOf w 23 5 = d ∧ fieldOf w 18 5 = a ∧ fieldOf w 16 2 = mode ∧ fieldOf w 4 12 = csr ∧
      fieldOf w 0 4 = 0 := by
  simp only [fmtX, ← BitVec.toNat_inj, toNat_append_eq_add, BitVec.extractLsb'_toNat, Nat.shiftRight_eq_div_pow,
    BitVec.ofNat_eq_ofNat, BitVec.toNat_ofNat]
  omega

theorem fmtV_eq_iff {vd va vb : BitVec 3} {shamt : BitVec 4} {fn : BitVec 6} :
    fmtV c vd va vb shamt fn = w ↔ fieldOf w 28 4 = c ∧ fieldOf w 25 3 = vd ∧ fieldOf w 22 3 = va ∧ fieldOf w 19 3 = vb ∧
      fieldOf w 10 9 = 0 ∧ fieldOf w 6 4 = shamt ∧ fieldOf w 0 6 = fn := by
  simp only [fmtV, ← BitVec.toNat_inj, toNat_append_eq_add, BitVec.extractLsb'_toNat, Nat.shiftRight_eq_div_pow,
    BitVec.ofNat_eq_ofNat, BitVec.toNat_ofNat]
  omega

theorem eq_vreg_iff {v : BitVec 3} : d = vreg v ↔ d.extractLsb' 3 2 = 0 ∧ d.extractLsb' 0 3 = v := by
  simp only [vreg, ← BitVec.toNat_inj, toNat_append_eq_add, BitVec.extractLsb'_toNat, Nat.shiftRight_eq_div_pow,
    BitVec.ofNat_eq_ofNat, BitVec.toNat_ofNat]
  omega
end Formats

/-! ### Function codes and the fields inside a function code (Tables 16.5, 16.6) -/

@[simp] theorem find_aluOps_code (f : AluOp) : aluOps.find? (fun g => g.code == f.code) = some f := by cases f <;> rfl

@[simp] theorem find_rkOps_code (f : RkOp) : rkOps.find? (fun g => g.code == f.code) = some f := by cases f <;> rfl

@[simp] theorem find_ldOps_code (f : LdOp) : ldOps.find? (fun g => g.code == f.code) = some f := by cases f <;> rfl

@[simp] theorem find_stOps_code (f : StOp) : stOps.find? (fun g => g.code == f.code) = some f := by cases f <;> rfl

@[simp] theorem find_brOps_code (f : BrOp) : brOps.find? (fun g => g.code == f.code) = some f := by cases f <;> rfl

@[simp] theorem find_xcsOps_code (f : XcsOp) : xcsOps.find? (fun g => g.code == f.code) = some f := by cases f <;> rfl

@[simp] theorem find_atomOps_code (f : AtomOp) : atomOps.find? (fun g => g.code == f.code) = some f := by cases f <;> rfl

@[simp] theorem find_valuOps_code (f : ValuOp) : valuOps.find? (fun g => g.code == f.code) = some f := by cases f <;> rfl


theorem sethi_field_iff {w : BitVec 32} {k : BitVec 18} :
    fieldOf w 0 23 = 0#5 ++ k ↔ fieldOf w 18 5 = 0 ∧ fieldOf w 0 18 = k := by
  simp only [← BitVec.toNat_inj, toNat_append_eq_add, BitVec.extractLsb'_toNat, Nat.shiftRight_eq_div_pow,
    BitVec.ofNat_eq_ofNat, BitVec.toNat_ofNat]
  omega

theorem vreg_field_iff {w : BitVec 32} {v : BitVec 3} : fieldOf w 23 5 = vreg v ↔ fieldOf w 26 2 = 0 ∧ fieldOf w 23 3 = v := by
  simp only [vreg, ← BitVec.toNat_inj, toNat_append_eq_add, BitVec.extractLsb'_toNat, Nat.shiftRight_eq_div_pow,
    BitVec.ofNat_eq_ofNat, BitVec.toNat_ofNat]
  omega

theorem eq_msendFn_iff {fn : BitVec 13} {n : BitVec 3} :
    fn = 0#10 ++ n ↔ fn.extractLsb' 10 3 = 0 ∧ fn.extractLsb' 3 7 = 0 ∧ fn.extractLsb' 0 3 = n := by
  simp only [← BitVec.toNat_inj, toNat_append_eq_add, BitVec.extractLsb'_toNat, Nat.shiftRight_eq_div_pow,
    BitVec.ofNat_eq_ofNat, BitVec.toNat_ofNat]
  omega

theorem eq_mrecvFn_iff {fn : BitVec 13} {k : BitVec 2} :
    fn = 1#3 ++ 0#8 ++ k ↔ fn.extractLsb' 10 3 = 1 ∧ fn.extractLsb' 2 8 = 0 ∧ fn.extractLsb' 0 2 = k := by
  simp only [← BitVec.toNat_inj, toNat_append_eq_add, BitVec.extractLsb'_toNat, Nat.shiftRight_eq_div_pow,
    BitVec.ofNat_eq_ofNat, BitVec.toNat_ofNat]
  omega

theorem eq_mwaitFn_iff {fn : BitVec 13} {mask : BitVec 4} :
    fn = 2#3 ++ 0#6 ++ mask ↔ fn.extractLsb' 10 3 = 2 ∧ fn.extractLsb' 4 6 = 0 ∧ fn.extractLsb' 0 4 = mask := by
  simp only [← BitVec.toNat_inj, toNat_append_eq_add, BitVec.extractLsb'_toNat, Nat.shiftRight_eq_div_pow,
    BitVec.ofNat_eq_ofNat, BitVec.toNat_ofNat]
  omega

theorem eq_vmovFn_iff {fn : BitVec 13} {k : BitVec 3} {x : BitVec 8} :
    fn = 0#2 ++ k ++ x ↔ fn.extractLsb' 11 2 = 0 ∧ fn.extractLsb' 8 3 = k ∧ fn.extractLsb' 0 8 = x := by
  simp only [← BitVec.toNat_inj, toNat_append_eq_add, BitVec.extractLsb'_toNat, Nat.shiftRight_eq_div_pow,
    BitVec.ofNat_eq_ofNat, BitVec.toNat_ofNat]
  omega

theorem eq_trapFn_iff {fn : BitVec 13} {code : BitVec 6} :
    fn = 0#2 ++ code ++ 3#5 ↔ fn.extractLsb' 11 2 = 0 ∧ fn.extractLsb' 5 6 = code ∧ fn.extractLsb' 0 5 = 3 := by
  simp only [← BitVec.toNat_inj, toNat_append_eq_add, BitVec.extractLsb'_toNat, Nat.shiftRight_eq_div_pow,
    BitVec.ofNat_eq_ofNat, BitVec.toNat_ofNat]
  omega

/-! ### An instruction's word reads as it -/

theorem engDecode_word (i : EngI) (h : i.wellFormed) : engDecode i.word = some i := by
  generalize hw : i.word = w
  cases i <;> simp only [EngI.word, fmtRR_eq_iff, fmtRK_eq_iff, fmtM_eq_iff, fmtC_eq_iff, fmtL_eq_iff, fmtX_eq_iff, fmtV_eq_iff,
    eq_vreg_iff, sethi_field_iff, eq_msendFn_iff, eq_mrecvFn_iff, eq_mwaitFn_iff, eq_vmovFn_iff, eq_trapFn_iff] at hw
  case alu | rk | st | atom | jumpr =>
    obtain ⟨hc, rfl, rfl, rfl, hf⟩ := hw
    simp [engDecode, hc, hf, h]
  case br =>
    obtain ⟨hc, rfl, rfl, hf, rfl⟩ := hw
    simp [engDecode, hc, hf]
  case xcs =>
    obtain ⟨hc, rfl, rfl, hf, rfl, hz⟩ := hw
    simp [engDecode, hc, hf, hz]
  case sethi =>
    obtain ⟨hc, rfl, hk, rfl⟩ := hw
    simp [engDecode, hc, hk]
  case call =>
    obtain ⟨hc, rfl, rfl⟩ := hw
    simp [engDecode, hc]
  case ld =>
    obtain ⟨hc, rfl, rfl, rfl, hs, he⟩ := hw
    simp [engDecode, hc, hs, he]
  case valu =>
    obtain ⟨hc, rfl, rfl, rfl, hz, rfl, hf⟩ := hw
    simp [engDecode, hc, hz, hf]
  case vld | vst =>
    obtain ⟨hc, hv, rfl, rfl, hs, he⟩ := hw
    obtain ⟨hz, rfl⟩ := vreg_field_iff.mp (eq_vreg_iff.mpr hv)
    simp [engDecode, hc, hz, hs, he]
  case msend =>
    obtain ⟨hc, rfl, rfl, rfl, h0, h1, rfl⟩ := hw
    simp [engDecode, hc, decodeMooring, h0, h1]
  case mrecv =>
    obtain ⟨hc, rfl, rfl, hb, h0, h1, rfl⟩ := hw
    simp [engDecode, hc, decodeMooring, hb, h0, h1]
  case mwait =>
    obtain ⟨hc, rfl, ha, hb, h0, h1, rfl⟩ := hw
    simp [engDecode, hc, decodeMooring, ha, hb, h0, h1]
  case vbcast =>
    obtain ⟨hc, ⟨hd, rfl⟩, rfl, rfl, hf⟩ := hw
    simp [engDecode, hc, hf, hd, decodeVmov]
  case vext =>
    obtain ⟨hc, rfl, ⟨ha, rfl⟩, rfl, h0, rfl, h2⟩ := hw
    simp [engDecode, hc, h0, h2, ha, decodeVmov]
  case vins =>
    obtain ⟨hc, ⟨ha, rfl⟩, rfl, rfl, h0, rfl, h2⟩ := hw
    simp [engDecode, hc, h0, h2, ha, decodeVmov]
  case vsum im _ _ _ =>
    obtain ⟨hc, rfl, ⟨ha, rfl⟩, rfl, hf⟩ := hw
    cases im <;> simp [engDecode, hc, hf, ha, decodeVmov]
  case nop | tend | fence | resume | halt =>
    obtain ⟨hc, hd, ha, hb, hf⟩ := hw
    simp [engDecode, hc, hf, hd, ha, hb, decodeSys]
  case trap =>
    obtain ⟨hc, hd, ha, hb, h0, rfl, h2⟩ := hw
    simp [engDecode, hc, hd, ha, hb, h0, h2, decodeSys]

/-! ### A word that reads as an instruction is its word -/

theorem code_of_find {α β : Type} [BEq β] [LawfulBEq β] {l : List α} {code : α → β} {x : β} {f : α}
    (h : l.find? (fun g => code g == x) = some f) : x = code f :=
  (eq_of_beq (List.find?_some h :)).symm

section Read
variable {w : BitVec 32} {i : EngI}

theorem word_of_decodeMooring {d a b : BitVec 5} {fn : BitVec 13} (h : decodeMooring d a b fn = some i) :
    i.wellFormed ∧ i.word = fmtRR 9 d a b fn := by
  unfold decodeMooring at h
  split_ifs at h with h0 h1 h2 h3 h4 h5 <;> cases h
  · exact ⟨rfl, by rw [EngI.word, ← eq_msendFn_iff.mpr ⟨h0, h1, rfl⟩]⟩
  · exact ⟨rfl, by rw [EngI.word, ← eq_mrecvFn_iff.mpr ⟨h2, h3.1, rfl⟩, h3.2]⟩
  · exact ⟨rfl, by rw [EngI.word, ← eq_mwaitFn_iff.mpr ⟨h4, h5.1, rfl⟩, h5.2.1, h5.2.2]⟩

theorem word_of_decodeVmov {d a b : BitVec 5} {fn : BitVec 13} (h : decodeVmov d a b fn = some i) :
    i.wellFormed ∧ i.word = fmtRR 14 d a b fn := by
  have hd : d.extractLsb' 3 2 = 0 → vreg (d.extractLsb' 0 3) = d := fun h => (eq_vreg_iff.mpr ⟨h, rfl⟩).symm
  have ha : a.extractLsb' 3 2 = 0 → vreg (a.extractLsb' 0 3) = a := fun h => (eq_vreg_iff.mpr ⟨h, rfl⟩).symm
  unfold decodeVmov at h
  simp only [beq_iff_eq, ne_eq, ite_not] at h
  split_ifs at h with h0 hf ha0 hf hd0 hk hf hd0 hf ha0 hf ha0 <;> cases h
  · exact ⟨rfl, by rw [EngI.word, ha ha0, ← eq_vmovFn_iff (x := 1#8).mpr ⟨h0, rfl, hf⟩]⟩
  · exact ⟨rfl, by rw [EngI.word, hd hd0, ← eq_vmovFn_iff (x := 2#8).mpr ⟨h0, rfl, hf⟩]⟩
  · exact ⟨rfl, by rw [EngI.word, hd hd0, eq_vmovFn_iff.mpr ⟨h0, hk, hf⟩]; rfl⟩
  · exact ⟨rfl, by rw [EngI.word, ha ha0, eq_vmovFn_iff.mpr ⟨h0, hk, hf⟩]; rfl⟩
  · exact ⟨rfl, by rw [EngI.word, ha ha0, eq_vmovFn_iff.mpr ⟨h0, hk, hf⟩]; rfl⟩

theorem word_of_decodeSys {d a b : BitVec 5} {fn : BitVec 13} (h : decodeSys d a b fn = some i) :
    i.wellFormed ∧ i.word = fmtRR 15 d a b fn := by
  unfold decodeSys at h
  split at h
  · cases h
  · next hz =>
    obtain ⟨rfl, rfl, rfl, h0⟩ : d = 0 ∧ a = 0 ∧ b = 0 ∧ fn.extractLsb' 11 2 = 0 := by
      simpa only [not_or, ne_eq, not_not] using hz
    split_ifs at h with ht hz hf hf hf hf hf <;> cases h
    · exact ⟨rfl, by rw [EngI.word, ← eq_trapFn_iff.mpr ⟨h0, rfl, ht⟩]⟩
    all_goals exact ⟨rfl, by rw [EngI.word, hf]⟩

theorem word_of_engDecode (h : engDecode w = some i) : i.wellFormed ∧ i.word = w := by
  unfold engDecode at h
  dsimp only at h
  split at h
  · next hc =>
    replace hc : fieldOf w 28 4 = 1 := BitVec.eq_of_toNat_eq hc
    obtain ⟨f, hf, h⟩ := Option.bind_eq_some_iff.mp h
    split at h <;> cases h
    next hwf => exact ⟨hwf, fmtRR_eq_iff.mpr ⟨hc, rfl, rfl, rfl, code_of_find hf⟩⟩
  · next hc =>
    replace hc : fieldOf w 28 4 = 2 := BitVec.eq_of_toNat_eq hc
    obtain ⟨f, hf, h⟩ := Option.bind_eq_some_iff.mp h
    split at h <;> cases h
    next hwf => exact ⟨hwf, fmtRK_eq_iff.mpr ⟨hc, rfl, rfl, rfl, code_of_find hf⟩⟩
  · next hc =>
    replace hc : fieldOf w 28 4 = 3 := BitVec.eq_of_toNat_eq hc
    split at h <;> cases h
    next hz => exact ⟨rfl, fmtL_eq_iff.mpr ⟨hc, rfl, sethi_field_iff.mpr ⟨hz, rfl⟩⟩⟩
  · next hc =>
    replace hc : fieldOf w 28 4 = 4 := BitVec.eq_of_toNat_eq hc
    cases h
    exact ⟨rfl, fmtL_eq_iff.mpr ⟨hc, rfl, rfl⟩⟩
  · next hc =>
    replace hc : fieldOf w 28 4 = 5 := BitVec.eq_of_toNat_eq hc
    split at h <;> cases h
    next hz => exact ⟨rfl, fmtRK_eq_iff.mpr ⟨hc, rfl, rfl, rfl, hz⟩⟩
  · next hc =>
    replace hc : fieldOf w 28 4 = 6 := BitVec.eq_of_toNat_eq hc
    obtain ⟨f, hf, rfl⟩ := Option.map_eq_some_iff.mp h
    obtain ⟨hs, he⟩ := Prod.ext_iff.mp (code_of_find hf)
    exact ⟨rfl, fmtM_eq_iff.mpr ⟨hc, rfl, rfl, rfl, hs, he⟩⟩
  · next hc =>
    replace hc : fieldOf w 28 4 = 7 := BitVec.eq_of_toNat_eq hc
    split at h
    · next he =>
      obtain ⟨f, hf, rfl⟩ := Option.map_eq_some_iff.mp h
      exact ⟨rfl, fmtM_eq_iff.mpr ⟨hc, rfl, rfl, rfl, code_of_find hf, he⟩⟩
    · cases h
  · next hc =>
    replace hc : fieldOf w 28 4 = 8 := BitVec.eq_of_toNat_eq hc
    obtain ⟨f, hf, rfl⟩ := Option.map_eq_some_iff.mp h
    exact ⟨rfl, fmtC_eq_iff.mpr ⟨hc, rfl, rfl, code_of_find hf, rfl⟩⟩
  · next hc =>
    replace hc : fieldOf w 28 4 = 9 := BitVec.eq_of_toNat_eq hc
    exact (word_of_decodeMooring h).imp_right fun hi => hi.trans (fmtRR_eq_iff.mpr ⟨hc, rfl, rfl, rfl, rfl⟩)
  · next hc =>
    replace hc : fieldOf w 28 4 = 10 := BitVec.eq_of_toNat_eq hc
    split at h
    · next hz =>
      obtain ⟨f, hf, rfl⟩ := Option.map_eq_some_iff.mp h
      exact ⟨rfl, fmtX_eq_iff.mpr ⟨hc, rfl, rfl, code_of_find hf, rfl, hz⟩⟩
    · cases h
  · next hc =>
    replace hc : fieldOf w 28 4 = 11 := BitVec.eq_of_toNat_eq hc
    obtain ⟨f, hf, rfl⟩ := Option.map_eq_some_iff.mp h
    exact ⟨rfl, fmtRR_eq_iff.mpr ⟨hc, rfl, rfl, rfl, code_of_find hf⟩⟩
  · next hc =>
    replace hc : fieldOf w 28 4 = 12 := BitVec.eq_of_toNat_eq hc
    split at h
    · next hz =>
      obtain ⟨f, hf, rfl⟩ := Option.map_eq_some_iff.mp h
      exact ⟨rfl, fmtV_eq_iff.mpr ⟨hc, rfl, rfl, rfl, hz, rfl, code_of_find hf⟩⟩
    · cases h
  · next hc =>
    replace hc : fieldOf w 28 4 = 13 := BitVec.eq_of_toNat_eq hc
    split_ifs at h with hz h0 h1 <;> cases h
    · exact ⟨rfl, fmtM_eq_iff.mpr ⟨hc, vreg_field_iff.mpr ⟨hz.1, rfl⟩, rfl, rfl, h0, hz.2⟩⟩
    · exact ⟨rfl, fmtM_eq_iff.mpr ⟨hc, vreg_field_iff.mpr ⟨hz.1, rfl⟩, rfl, rfl, h1, hz.2⟩⟩
  · next hc =>
    replace hc : fieldOf w 28 4 = 14 := BitVec.eq_of_toNat_eq hc
    exact (word_of_decodeVmov h).imp_right fun hi => hi.trans (fmtRR_eq_iff.mpr ⟨hc, rfl, rfl, rfl, rfl⟩)
  · next hc =>
    replace hc : fieldOf w 28 4 = 15 := BitVec.eq_of_toNat_eq hc
    exact (word_of_decodeSys h).imp_right fun hi => hi.trans (fmtRR_eq_iff.mpr ⟨hc, rfl, rfl, rfl, rfl⟩)
  · cases h
end Read

/-- Settles O55: an instruction's word reads back, and a word that reads as an instruction has that instruction's fields. -/
theorem engineWordsAndInstructionsAgree : Obligations.EngineWordsAndInstructionsAgree := by
  unfold Obligations.EngineWordsAndInstructionsAgree
  exact fun w i => ⟨word_of_engDecode, fun ⟨hwf, hw⟩ => hw ▸ engDecode_word i hwf⟩
end Sys2Proof.Machine
end

section
/-! What the dictionary's setters leave (R62), as rules for simp. -/
open Sys2Proof Sys2Proof.Machine
namespace Sys2Proof.Machine

variable {ks : List Nat} {s t : State}

@[simp] theorem State.rd_upd {pending core agent start power conv loads eq pool frame berth basin rest key timing towpath engine sup
    integ board} (k : Nat) :
    (State.mk pending s.regs core agent start power conv loads eq pool frame berth basin rest key timing towpath engine sup
      integ board).rd k = s.rd k := rfl

@[simp] theorem State.rdN_upd {pending core agent start power conv loads eq pool frame berth basin rest key timing towpath engine sup
    integ board} (k : Nat) :
    (State.mk pending s.regs core agent start power conv loads eq pool frame berth basin rest key timing towpath engine sup
      integ board).rdN k = s.rdN k := rfl

@[simp] theorem keepsRegs_self : KeepsRegs ks s s := fun _ _ => rfl

@[simp] theorem keepsRegs_upd {pending core agent start power conv loads eq pool frame berth basin rest key timing towpath engine sup
    integ board} :
    KeepsRegs ks s (State.mk pending t.regs core agent start power conv loads eq pool frame berth basin rest key timing towpath engine
      sup integ board) ↔ KeepsRegs ks s t := Iff.rfl

@[simp] theorem keepsRegs_wr {k : Nat} {v : Int} (h : k ∈ ks) : KeepsRegs ks s (t.wr k v) ↔ KeepsRegs ks s t :=
  forall₂_congr fun j hj => by
    have hne : j ≠ k := fun e => hj (by rw [e]; exact h)
    rw [State.rd_wr_ne t v hne]

@[simp] theorem keepsRegs_wrN {k v : Nat} (h : k ∈ ks) : KeepsRegs ks s (t.wrN k v) ↔ KeepsRegs ks s t := keepsRegs_wr h

@[simp] theorem keepsRegs_incBy {k n : Nat} (h : k ∈ ks) : KeepsRegs ks s (t.incBy k n) ↔ KeepsRegs ks s t := keepsRegs_wr h

@[simp] theorem keepsRegs_inc {k : Nat} (h : k ∈ ks) : KeepsRegs ks s (t.inc k) ↔ KeepsRegs ks s t := keepsRegs_wr h

@[simp] theorem keepsRegs_raise {code source arg : Nat} : KeepsRegs ks s (t.raise code source arg) ↔ KeepsRegs ks s t := Iff.rfl

end Sys2Proof.Machine
end

section
/-! The Kizaiz engines (chapters 16 and 17). An instruction's effect is what its row names; the account of its issue (R403,
R424–R427) changes the slot's account and its counters' records alone, so a claim about a row follows from its effect and one
lemma about the account. -/
open Sys2Proof Sys2Proof.Machine
namespace Sys2Proof.Machine

/-! ### A slot's place among the slots -/

section
variable (s : State) (c e : Nat) (x : EngSlot)

@[simp] theorem State.wr_eng (k : Nat) (v : Int) : (s.wr k v).eng c e = s.eng c e := rfl

@[simp] theorem State.wrN_eng (k v : Nat) : (s.wrN k v).eng c e = s.eng c e := rfl

theorem State.setEng_other {k : Nat} (h : k ≠ 16 * c + e) :
    tget (fun _ => {}) (s.setEng c e x).engine.slots k = tget (fun _ => {}) s.engine.slots k := tget_tset_ne _ _ _ h

end

/-- A slot with another's account: the cycle and slots of its last issue, what R403 keeps of its results, and what the counters keep. -/
def EngSlot.timed (x y : EngSlot) : EngSlot :=
  { x with cycle := y.cycle, used := y.used, first := y.first, ready := y.ready, acc := y.acc, portFree := y.portFree,
           portCode := y.portCode, divFree := y.divFree, memDone := y.memDone, memOpen := y.memOpen, preset := y.preset,
           wrapped := y.wrapped, counted := y.counted }

/-- A slot with another's record of its counters (Table 17.4). -/
def EngSlot.tallied (x y : EngSlot) : EngSlot := { x with preset := y.preset, wrapped := y.wrapped, counted := y.counted }

/-- What accounting changes (R424–R427): of the dictionary the slot's counters among P and their overflow bits, of the engines the
slot itself and what the banks have served. -/
structure CounterFrame (c e : Nat) (P : Nat → Prop) (s t : State) : Prop where
  upd : t = { s with regs := t.regs, engine := { s.engine with slots := t.engine.slots, banks := t.engine.banks } }
  regs : ∀ k, k ≠ Obj.counterOverflow c e → (∀ j ≤ 8, P j → k ≠ ctrKey c e j) → t.rd k = s.rd k
  other : ∀ k, k ≠ 16 * c + e → tget (fun _ => {}) t.engine.slots k = tget (fun _ => {}) s.engine.slots k
  preset : (s.eng c e).preset = [] → (t.eng c e).preset = []

/-- Accounting that counts alone: the slot changes in its record of the counters. -/
structure Counts (c e : Nat) (P : Nat → Prop) (s t : State) : Prop extends CounterFrame c e P s t where
  slot : t.eng c e = (s.eng c e).tallied (t.eng c e)

/-- Accounting: the slot changes in its account alone. -/
structure Accounts (c e : Nat) (P : Nat → Prop) (s t : State) : Prop extends CounterFrame c e P s t where
  slot : t.eng c e = (s.eng c e).timed (t.eng c e)

section
variable {c e : Nat} {P Q : Nat → Prop} {s t u : State}

theorem CounterFrame.refl : CounterFrame c e P s s := ⟨rfl, fun _ _ _ => rfl, fun _ _ => rfl, id⟩

theorem CounterFrame.trans (h : CounterFrame c e P s t) (h' : CounterFrame c e P t u) : CounterFrame c e P s u where
  upd := by rw [h'.upd, h.upd]
  regs k ho hk := (h'.regs k ho hk).trans (h.regs k ho hk)
  other k hk := (h'.other k hk).trans (h.other k hk)
  preset hp := h'.preset (h.preset hp)

theorem CounterFrame.mono (h : CounterFrame c e P s t) (hpq : ∀ j, P j → Q j) : CounterFrame c e Q s t :=
  { h with regs := fun k ho hk => h.regs k ho fun j hj hp => hk j hj (hpq j hp) }

theorem Counts.refl : Counts c e P s s := ⟨.refl, rfl⟩

theorem Counts.trans (h : Counts c e P s t) (h' : Counts c e P t u) : Counts c e P s u where
  toCounterFrame := h.toCounterFrame.trans h'.toCounterFrame
  slot := by rw [h'.slot, h.slot]; rfl

theorem Counts.accounts (h : Counts c e P s t) : Accounts c e P s t where
  toCounterFrame := h.toCounterFrame
  slot := by rw [h.slot]; rfl

theorem Accounts.refl : Accounts c e P s s := ⟨.refl, rfl⟩

theorem Accounts.trans (h : Accounts c e P s t) (h' : Accounts c e P t u) : Accounts c e P s u where
  toCounterFrame := h.toCounterFrame.trans h'.toCounterFrame
  slot := by rw [h'.slot, h.slot]; rfl

theorem Accounts.mono (h : Accounts c e P s t) (hpq : ∀ j, P j → Q j) : Accounts c e Q s t :=
  ⟨h.toCounterFrame.mono hpq, h.slot⟩

theorem Counts.onlyIf {b : Bool} {f : State → State} (h : Counts c e P s (f s)) : Counts c e P s (s.onlyIf b f) := by
  unfold State.onlyIf
  split
  · exact h
  · exact .refl

theorem Counts.each {α : Type} {l : List α} {f : State → α → State} (h : ∀ s, ∀ a ∈ l, Counts c e P s (f s a)) :
    Counts c e P s (s.each l f) := by
  unfold State.each
  induction l generalizing s with
  | nil => exact .refl
  | cons a l ih => exact (h s a (by simp)).trans (ih fun s a ha => h s a (by simp [ha]))

/-- A write of a counter's register or the overflow bits, with the slot's record of the counters. -/
theorem Counts.write {k v : Nat} {x : EngSlot} (hx : x = (s.eng c e).tallied x)
    (hp : (s.eng c e).preset = [] → x.preset = [])
    (hk : k = Obj.counterOverflow c e ∨ ∃ j ≤ 8, P j ∧ k = ctrKey c e j) : Counts c e P s ((s.setEng c e x).wrN k v) where
  upd := rfl
  regs i ho hi := by
    refine State.rd_wr_ne _ _ fun h => ?_
    obtain rfl | ⟨j, hj, hp, rfl⟩ := hk
    · exact ho h
    · exact hi j hj hp h
  other i hi := State.setEng_other s c e x hi
  preset := by simpa using hp
  slot := by simpa using hx

theorem Counts.set {x : EngSlot} (hx : x = (s.eng c e).tallied x) (hp : (s.eng c e).preset = [] → x.preset = []) :
    Counts c e P s (s.setEng c e x) where
  upd := rfl
  regs _ _ _ := rfl
  other i hi := State.setEng_other s c e x hi
  preset := by simpa using hp
  slot := by simpa using hx

theorem Accounts.set {x : EngSlot} (hx : x = (s.eng c e).timed x) (hp : x.preset = (s.eng c e).preset) :
    Accounts c e P s (s.setEng c e x) where
  upd := rfl
  regs _ _ _ := rfl
  other i hi := State.setEng_other s c e x hi
  preset := by simp [hp]
  slot := by simpa using hx

theorem counts_wrap (k cyc : Nat) : Counts c e P s (s.wrap c e k cyc) := .write rfl id (.inl rfl)

theorem counts_countIn {k n cyc last : Nat} (hk : k ≤ 8) (hp : P k) : Counts c e P s (s.countIn c e k n cyc last) := by
  unfold State.countIn
  split
  · exact .refl
  · dsimp only
    split
    · next q hq =>
      refine .trans (.set rfl fun h => ?_) (.onlyIf (counts_wrap _ _))
      rw [h] at hq
      cases hq
    · refine .trans (.write ?_ ?_ (.inr ⟨k, hk, hp, rfl⟩)) (.onlyIf (counts_wrap _ _))
      · rfl
      · exact id

theorem counts_count {k n : Nat} (hk : k ≤ 8) (hp : P k) : Counts c e P s (s.count c e k n) := counts_countIn hk hp

theorem counts_eventIn {code n cyc : Nat} (hp : ∀ j, 5 ≤ j → P j) : Counts c e P s (s.eventIn c e code n cyc) := by
  refine .each fun s j hj => ?_
  have := List.mem_range.1 hj
  split
  · exact counts_countIn (by omega) (hp _ (by omega))
  · exact .refl

theorem counts_event {code n : Nat} (hp : ∀ j, 5 ≤ j → P j) : Counts c e P s (s.event c e code n) := counts_eventIn hp

theorem counts_starve {cyc : Nat} {causes : List Nat} (hp : ∀ j, 4 ≤ j → P j) : Counts c e P s (s.starve c e cyc causes) :=
  .each fun _ _ _ => .trans (counts_countIn (by omega) (hp 4 le_rfl)) (counts_eventIn fun j hj => hp j (by omega))

theorem accounts_passTo {t used : Nat} (hp : P 0) : Accounts c e P s (s.passTo c e t used) :=
  have hs : Accounts c e P s (s.setEng c e { (s.eng c e) with cycle := t, used := used }) := .set rfl rfl
  hs.trans (counts_countIn (by omega) hp).accounts

theorem accounts_first (w : Word) : Accounts c e P s (s.setEng c e { (s.eng c e) with first := w }) := .set rfl rfl

theorem accounts_book {i : EngI} {n : Nat} {f : EngEff} : Accounts c e P s (s.setEng c e ((s.eng c e).book i n f)) := .set rfl rfl

theorem passTo_cycle {t used : Nat} : ((s.passTo c e t used).eng c e).cycle = t := by
  have h := (counts_countIn (c := c) (e := e) (P := fun _ => True) (s := s.setEng c e { (s.eng c e) with cycle := t, used := used })
    (k := 0) (n := t - (s.eng c e).cycle) (cyc := t) (last := 1) (by omega) trivial).slot
  unfold State.passTo
  rw [h]
  simp [EngSlot.tallied]

/-! ### The issue of an instruction -/

/-- The state in which an instruction of the slot issues: the cycles and empty slots before it accounted (R403). -/
def State.atIssue (s : State) (c e : Nat) (i : EngI) : State :=
  s.issued c e i ((s.eng c e).issueAt i).1 ((s.eng c e).issueAt i).2.1 ((s.eng c e).issueAt i).2.2

theorem accounts_atIssue {i : EngI} (h0 : P 0) (h4 : ∀ j, 4 ≤ j → P j) : Accounts c e P s (s.atIssue c e i) := by
  unfold State.atIssue State.issued
  dsimp only
  exact (((counts_starve h4).trans (counts_starve h4)).accounts.trans (accounts_passTo h0)).trans (accounts_first _)

theorem atIssue_cycle {i : EngI} : ((s.atIssue c e i).eng c e).cycle = ((s.eng c e).issueAt i).1 := by
  unfold State.atIssue State.issued
  simp [passTo_cycle]

theorem accounts_count {k n : Nat} (hk : k ≤ 8) (hp : P k) : Accounts c e P s (s.count c e k n) := (counts_count hk hp).accounts

theorem passTo_mem {t used : Nat} : ((s.passTo c e t used).eng c e).memDone = (s.eng c e).memDone ∧
    ((s.passTo c e t used).eng c e).memOpen = (s.eng c e).memOpen := by
  have h := (counts_countIn (c := c) (e := e) (P := fun _ => True) (s := s.setEng c e { (s.eng c e) with cycle := t, used := used })
    (k := 0) (n := t - (s.eng c e).cycle) (cyc := t) (last := 1) (by omega) trivial).slot
  unfold State.passTo
  rw [h]
  simp [EngSlot.tallied]

theorem starve_mem {cyc : Nat} {l : List Nat} : ((s.starve c e cyc l).eng c e).memDone = (s.eng c e).memDone ∧
    ((s.starve c e cyc l).eng c e).memOpen = (s.eng c e).memOpen := by
  rw [(counts_starve (P := fun _ => True) fun _ _ => trivial).slot]
  simp [EngSlot.tallied]

theorem atIssue_mem {i : EngI} : ((s.atIssue c e i).eng c e).memDone = (s.eng c e).memDone ∧
    ((s.atIssue c e i).eng c e).memOpen = (s.eng c e).memOpen := by
  unfold State.atIssue State.issued
  dsimp only
  rw [State.setEng_eng]
  dsimp only
  rw [passTo_mem.1, passTo_mem.2, starve_mem.1, starve_mem.2, starve_mem.1, starve_mem.2]
  exact ⟨rfl, rfl⟩

/-- A corrected byte of a read is reported (R458). -/
def State.fixRead (s : State) (c e : Nat) : Option Nat → State
  | none => s
  | some a => s.corrected (engPlace c e a).1 (engPlace c e a).2

theorem counts_ite {p : Prop} [Decidable p] (h : Counts c e P s t) : Counts c e P s (if p then t else s) := by
  split
  · exact h
  · exact .refl

theorem counts_retireEvents {i : EngI} {f : EngEff} (hp : ∀ j, 5 ≤ j → P j) :
    ∃ a, Counts c e P s a ∧ Counts c e P (a.fixRead c e f.fixed) (s.retireEvents c e i f) := by
  have hev (s : State) (p : Prop) [Decidable p] (code n : Nat) : Counts c e P s (if p then s.event c e code n else s) :=
    counts_ite (counts_event hp)
  unfold State.retireEvents
  extract_lets load store s1 s2 s3 s4 s5
  have h4 : Counts c e P s s4 := (((hev s _ 8 1).trans (hev s1 _ 9 1)).trans (hev s2 _ 10 1)).trans (hev s3 _ 11 1)
  have h5 : ∃ a, Counts c e P s4 a ∧ s5 = a.fixRead c e f.fixed := by
    unfold s5
    cases f.fixed with
    | none => exact ⟨s4, .refl, rfl⟩
    | some a => exact ⟨s4.event c e 14 1, counts_event hp, rfl⟩
  obtain ⟨a, ha, h5⟩ := h5
  exact ⟨a, h4.trans ha, h5 ▸ hev s5 _ 7 _⟩

/-- An instruction's effect takes its place: its result booked, its PC, the instruction and its events counted. -/
def State.retire (c e : Nat) (i : EngI) (t : Nat) (f : EngEff) : State :=
  ((f.s.setEng c e { ((f.s.eng c e).book i t f) with pc := f.pc }).count c e 1 1).retireEvents c e i f

/-- An instruction of the slot after its issue at cycle t: its effect, or its trap. -/
def State.issueEffect (s : State) (c e : Nat) (i : EngI) (m : MemPort) (fenceWait t : Nat) (second : Bool) (pc : Word) (gap : Nat) :
    State :=
  match s.engDo c e i m fenceWait t with
  | .error (cause, info) =>
    (s.onlyIf (cause == 8) (fun s => s.readLost c e i info)).engTrapAt c e i pc cause info second
  | .ok f =>
    if f.fin = 1 then (State.retire c e i t f).tendOp c e t second
    else if f.fin = 2 then
      let s := (State.retire c e i t f).onlyIf (!second) (fun s => s.starve c e t [6])
      ((s.setEng c e { (s.eng c e) with out := [] }).taskOver c e).engFault c e
    else (State.retire c e i t f).afterIssue c e i (pc + 4#32) t gap second f

theorem engIssue_eq {i : EngI} {m : MemPort} {w : Nat} (h : ((s.eng c e).issueAt i).1 < 9000) :
    s.engIssue c e i m w = (s.atIssue c e i).issueEffect c e i m w ((s.eng c e).issueAt i).1 ((s.eng c e).issueAt i).2.1 (s.eng c e).pc
      ((s.eng c e).fenceGap w ((s.eng c e).issueAt i).1) := by
  unfold State.engIssue State.issueEffect State.atIssue State.retire
  dsimp only
  rw [if_neg (by omega)] <;> rfl

/-! ### Unused fields -/

theorem EngI.norm_reads (i : EngI) : i.norm.reads = i.reads ∧ i.norm.writes = i.writes := by
  cases i with
  | valu f => cases f <;> exact ⟨rfl, rfl⟩
  | xcs f => cases f <;> exact ⟨rfl, rfl⟩
  | _ => exact ⟨rfl, rfl⟩

theorem EngI.norm_uses (i : EngI) : i.norm.usesPort = i.usesPort ∧ i.norm.usesVector = i.usesVector ∧
    i.norm.usesDivider = i.usesDivider ∧ i.norm.usesMulDiv = i.usesMulDiv ∧ i.norm.isControl = i.isControl ∧
    i.norm.accumulator = i.accumulator := by
  cases i with
  | valu f => cases f <;> exact ⟨rfl, rfl, rfl, rfl, rfl, rfl⟩
  | xcs f => cases f <;> exact ⟨rfl, rfl, rfl, rfl, rfl, rfl⟩
  | _ => exact ⟨rfl, rfl, rfl, rfl, rfl, rfl⟩

theorem issueAt_norm (x : EngSlot) (i : EngI) : x.issueAt i.norm = x.issueAt i := by
  obtain ⟨hr, hw⟩ := i.norm_reads
  obtain ⟨hp, hv, hd, hm, hc, ha⟩ := i.norm_uses
  have hpend (u : Nat) : x.pendingAt i.norm u = x.pendingAt i u := by simp only [EngSlot.pendingAt, hr, ha, hd, hp]
  have hfree (n u : Nat) : x.freeFrom i.norm n u = x.freeFrom i n u := by
    induction n generalizing u with
    | zero => rfl
    | succ n ih => simp only [EngSlot.freeFrom, hpend, ih]
  have hpairs (f : EngI) : pairs f i.norm = pairs f i := by simp only [pairs, hr, hw, hp, hv, hm, hc]
  simp only [EngSlot.issueAt, hpend, hfree, hpairs, EngSlot.causeAt]

theorem issueAt_congr {i j : EngI} (h : j.norm = i.norm) (x : EngSlot) : x.issueAt j = x.issueAt i := by
  rw [← issueAt_norm x j, h, issueAt_norm]

/-- The fields that a function leaves unused take no part in its effect. -/
theorem engDo_norm {i : EngI} {m : MemPort} {w n : Nat} (hx : ∀ d a csr, i ≠ .xcs .r d a csr) :
    s.engDo c e i.norm m w n = s.engDo c e i m w n := by
  cases i with
  | valu f => cases f <;> rfl
  | xcs f d a csr =>
    cases f with
    | r => exact absurd rfl (hx d a csr)
    | _ => rfl
  | _ => rfl

theorem engDo_congr {i j : EngI} {m : MemPort} {w n : Nat} (h : j.norm = i.norm) (hx : ∀ d a csr, i ≠ .xcs .r d a csr) :
    s.engDo c e j m w n = s.engDo c e i m w n := by
  have hj : ∀ d a csr, j ≠ .xcs .r d a csr := by
    rintro d a csr rfl
    cases i with
    | xcs f => cases f with
      | r => exact hx _ _ _ rfl
      | _ => cases h
    | _ => cases h
  rw [← engDo_norm hj, h, engDo_norm hx]

/-- Every field of the instruction counts: its function leaves none unused. -/
def EngI.full : EngI → Bool
  | .valu _ _ _ _ _ => false
  | .vbcast _ _ _ => false
  | .vext _ _ _ _ => false
  | .vins _ _ _ _ => false
  | .vsum _ _ _ _ => false
  | .xcs .r _ _ _ => false
  | _ => true

theorem EngI.norm_of_full {i : EngI} (h : i.full = true) : i.norm = i := by
  cases i with
  | xcs f => cases f with
    | r => cases h
    | _ => rfl
  | valu => cases h
  | vbcast => cases h
  | vext => cases h
  | vins => cases h
  | vsum => cases h
  | _ => rfl

theorem EngI.full_norm (i : EngI) : i.norm.full = i.full := by
  cases i with
  | xcs f => cases f <;> rfl
  | _ => rfl

theorem EngI.eq_of_norm {i j : EngI} (h : j.norm = i.norm) (hi : i.full = true) : j = i := by
  have hj : j.full = true := by rw [← j.full_norm, h, i.full_norm, hi]
  rw [← EngI.norm_of_full hj, h, EngI.norm_of_full hi]

/-- A row that the slot runs is issued: as the instruction in memory, which is the row's but for unused fields. -/
theorem State.slotRuns.engRow {c : Fin 12} {e : Fin 16} {i : EngI} (h : s.slotRuns c e i) (m : MemPort) (w : Nat) :
    ∃ j, j.norm = i.norm ∧ s.engRow c e i m w = s.engIssue c e j m w := by
  obtain ⟨hact, hpc, hlost, ⟨j, hdec, hnorm⟩, hissue⟩ := h
  unfold State.engRow
  unfold State.fetched at hdec
  dsimp only
  rw [if_neg (by simp [hact]), if_neg (by omega), if_neg (by simp [hlost]), hdec]
  dsimp only
  rw [if_pos hnorm]
  split
  · exact ⟨i, rfl, rfl⟩
  · exact ⟨j, hnorm, rfl⟩

/-- What a row that the slot runs does, from the state in which it issues on. -/
theorem State.slotRuns.effect {c : Fin 12} {e : Fin 16} {i : EngI} (h : s.slotRuns c e i) (m : MemPort) (w : Nat) :
    ∃ j u second, j.norm = i.norm ∧ (∀ P : Nat → Prop, P 0 → (∀ k, 4 ≤ k → P k) → Accounts c e P s u) ∧
      (u.eng c e).cycle = s.issueCycle c e i ∧
      ((u.eng c e).memDone = (s.eng c e).memDone ∧ (u.eng c e).memOpen = (s.eng c e).memOpen) ∧
      s.engRow c e i m w = u.issueEffect c e j m w (s.issueCycle c e i) second (s.eng c e).pc
        ((s.eng c e).fenceGap w (s.issueCycle c e i)) := by
  obtain ⟨j, hj, hrow⟩ := h.engRow m w
  have hat := issueAt_congr hj (s.eng c e)
  refine ⟨j, s.atIssue c e j, ((s.eng c e).issueAt i).2.1, hj, fun P h0 h4 => accounts_atIssue h0 h4, ?_, atIssue_mem, ?_⟩
  · rw [atIssue_cycle, hat]
    rfl
  · obtain ⟨_, _, _, _, hlt⟩ := h
    rw [hrow, engIssue_eq (by rwa [hat]), hat]
    rfl

end

section
variable {c e : Nat} {P : Nat → Prop} {s t u : State}

theorem counts_beside {i : EngI} {next : Word} (h2 : P 2) (h4 : ∀ j, 4 ≤ j → P j) : Counts c e P s (s.beside c e i next) := by
  have hcount : Counts c e P s (s.count c e 2 1) := counts_count (by omega) h2
  unfold State.beside
  dsimp only
  split
  · split
    · exact hcount
    · exact counts_starve h4
  · exact hcount

theorem accounts_afterIssue {i : EngI} {next : Word} {n gap : Nat} {second : Bool} {f : EngEff} :
    Accounts c e (· ≠ 1) s (s.afterIssue c e i next n gap second f) := by
  have hst {s : State} {cyc : Nat} {l : List Nat} : Accounts c e (· ≠ 1) s (s.starve c e cyc l) :=
    (counts_starve fun j hj => by omega).accounts
  have hbeside {s : State} : Counts c e (· ≠ 1) s (s.beside c e i next) := counts_beside (by omega) fun j hj => by omega
  unfold State.afterIssue
  split
  · exact ((Counts.onlyIf hbeside).accounts.trans (accounts_passTo (by omega))).trans (accounts_count (by omega) (by omega))
  · split
    · exact (hst.trans (accounts_passTo (by omega))).trans hst
    · exact .refl

theorem accounts_retire {i : EngI} {n : Nat} {f : EngEff} :
    ∃ a b, Accounts c e (· ≠ 1) (f.s.setEng c e { (f.s.eng c e) with pc := f.pc }) a ∧
      Counts c e (· ≠ 1) (a.count c e 1 1) b ∧ Counts c e (· ≠ 1) (b.fixRead c e f.fixed) (State.retire c e i n f) := by
  obtain ⟨b, hb, hb'⟩ := counts_retireEvents (P := (· ≠ 1)) (i := i) (f := f) (c := c) (e := e)
    (s := (f.s.setEng c e { ((f.s.eng c e).book i n f) with pc := f.pc }).count c e 1 1) (fun j hj => by omega)
  refine ⟨_, b, ?_, hb, hb'⟩
  refine ⟨⟨rfl, fun _ _ _ => rfl, fun k hk => ?_, fun hp => ?_⟩, ?_⟩
  · rw [State.setEng_other _ _ _ _ hk, State.setEng_other _ _ _ _ hk]
  · simpa [EngSlot.book] using hp
  · simp [EngSlot.book, EngSlot.timed]

/-- The slot stands as x, but for its account, and nothing else than its counters has changed. -/
structure SlotGoes (c e : Nat) (s t : State) (x : EngSlot) : Prop extends CounterFrame c e (fun _ => True) s t where
  slot : t.eng c e = x.timed (t.eng c e)

theorem CounterFrame.quiet {c : Fin 12} {e : Fin 16} (h : CounterFrame c e P s t) : EngQuiet s t c e := by
  refine ⟨?_, ?_, ?_, ?_, fun k hk => h.regs k ?_ fun j hj _ => ?_⟩
  · rw [h.upd]
  · rw [h.upd]
  · rw [h.upd]
  · rw [h.upd]
  · rintro rfl
    simp only [Obj.counterOverflow, objKey] at hk
    omega
  · rintro rfl
    simp only [ctrKey, objKey] at hk
    omega

theorem SlotGoes.quiet {c : Fin 12} {e : Fin 16} {x : EngSlot} (h : SlotGoes c e s t x) : EngQuiet s t c e := h.toCounterFrame.quiet

theorem SlotGoes.goes {c : Fin 12} {e : Fin 16} {x : EngSlot} (h : SlotGoes c e s t x) (hrun : x.running = true) (hwait : x.waiting = none)
    (htext : x.text = (s.eng c e).text) (hdata : x.data = (s.eng c e).data) (hmoor : x.moor = (s.eng c e).moor)
    (hout : x.out = (s.eng c e).out) : EngGoes s t c e x.pc := by
  refine ⟨?_, ?_, ?_, ?_, ?_, ?_, ?_, h.other, ?_, ?_⟩
  · rw [h.slot]; rfl
  · rw [h.slot]; exact hrun
  · rw [h.slot]; exact hwait
  · rw [h.slot]; exact htext
  · rw [h.slot]; exact hdata
  · rw [h.slot]; exact hmoor
  · rw [h.slot]; exact hout
  · rw [h.upd]
  · rw [h.upd]

/-- An operation on a slot that takes no part in its account. -/
def TimedFree (y : EngSlot → EngSlot) : Prop := ∀ x z, y (x.timed z) = (y x).timed z

theorem TimedFree.preset {y : EngSlot → EngSlot} (hy : TimedFree y) (x : EngSlot) : (y x).preset = x.preset := by
  have h := congrArg EngSlot.preset (hy x x)
  exact h

/-- The row's effect, from any state in which it may issue: a change of the slot, the next PC, and no byte read corrected. -/
def RowDoes (s : State) (c e : Nat) (i : EngI) (m : MemPort) (w : Nat) (y : EngSlot → EngSlot) (pc : Word) : Prop :=
  ∀ u j, Accounts c e (fun _ => True) s u → j.norm = i.norm → ∃ f, u.engDo c e j m w (s.issueCycle c e i) = .ok f ∧
    CounterFrame c e (· ≠ 1) u f.s ∧ f.s.eng c e = y (u.eng c e) ∧ f.pc = pc ∧ f.fixed = none ∧ f.fin ≠ 1 ∧ f.fin ≠ 2

theorem frame_setEng {x : EngSlot} (hp : x.preset = (s.eng c e).preset) : CounterFrame c e P s (s.setEng c e x) where
  upd := rfl
  regs _ _ _ := rfl
  other _ hk := State.setEng_other _ _ _ _ hk
  preset h := by simpa [hp] using h

theorem frame_pc {pc : Word} : CounterFrame c e P s (s.setEng c e { (s.eng c e) with pc := pc }) := frame_setEng rfl

theorem issueEffect_ok {j : EngI} {m : MemPort} {w n gap : Nat} {second : Bool} {pc : Word} {f : EngEff}
    (hdo : u.engDo c e j m w n = .ok f) (h1 : f.fin ≠ 1) (h2 : f.fin ≠ 2) :
    u.issueEffect c e j m w n second pc gap = (State.retire c e j n f).afterIssue c e j (pc + 4#32) n gap second f := by
  simp only [State.issueEffect, hdo, h1, h2, if_false]

theorem count_one (hp : (s.eng c e).preset = []) : (s.count c e 1 1).rdN (ctrKey c e 1) = (s.rdN (ctrKey c e 1) + 1) % 2 ^ 48 := by
  have hne : ctrKey c e 1 ≠ Obj.counterOverflow c e := by simp only [ctrKey, Obj.counterOverflow, objKey]; omega
  unfold State.count State.countIn
  rw [if_neg (by omega)]
  dsimp only
  rw [hp]
  simp only [List.find?_nil]
  unfold State.onlyIf State.wrap
  split
  · simp [State.wrN_rdN_ne, hne]
  · simp

theorem CounterFrame.rdN_one (h : CounterFrame c e (· ≠ 1) s t) : t.rdN (ctrKey c e 1) = s.rdN (ctrKey c e 1) := by
  unfold State.rdN
  rw [h.regs]
  · simp only [ctrKey, Obj.counterOverflow, objKey]; omega
  · intro j hj h1
    simp only [ctrKey, objKey]; omega

theorem State.slotRuns.step {c : Fin 12} {e : Fin 16} {i : EngI} {m : MemPort} {w : Nat} {y : EngSlot → EngSlot} {pc : Word}
    (h : s.slotRuns c e i) (hy : TimedFree y) (hdo : RowDoes s c e i m w y pc) :
    SlotGoes c e s (s.engRow c e i m w) { y (s.eng c e) with pc := pc } ∧
      ((s.eng c e).preset = [] → (s.engRow c e i m w).rdN (ctrKey c e 1) = (s.rdN (ctrKey c e 1) + 1) % 2 ^ 48) := by
  obtain ⟨j, u, second, hj, hacc, -, -, hrow⟩ := h.effect m w
  obtain ⟨f, hf, hframe, hfs, rfl, hfix, h1, h2⟩ := hdo u j (hacc _ trivial fun _ _ => trivial) hj
  obtain ⟨a, b, hva, hab, hbr⟩ := accounts_retire (c := c) (e := e) (i := j) (n := s.issueCycle c e i) (f := f)
  rw [hfix] at hbr
  have hbt := hbr.accounts.trans (accounts_afterIssue (i := j) (next := (s.eng c e).pc + 4#32) (n := s.issueCycle c e i)
    (gap := (s.eng c e).fenceGap w (s.issueCycle c e i)) (second := second) (f := f))
  rw [← issueEffect_ok hf h1 h2, ← hrow] at hbt
  have hsu := hacc (· ≠ 1) (by omega) fun k hk => by omega
  have hsv : CounterFrame c e (· ≠ 1) s (f.s.setEng c e { (f.s.eng c e) with pc := f.pc }) :=
    (hsu.toCounterFrame.trans hframe).trans frame_pc
  have ht := (hva.mono fun _ _ => trivial).trans ((accounts_count (P := fun _ => True) (k := 1) (n := 1) (by omega) trivial).trans
    ((hab.accounts.trans hbt).mono fun _ _ => trivial))
  refine ⟨⟨(hsv.mono fun _ _ => trivial).trans ht.toCounterFrame, ?_⟩, fun hp => ?_⟩
  · rw [ht.slot, State.setEng_eng, hfs, hsu.slot, hy]
    rfl
  · have hva' := hsv.trans hva.toCounterFrame
    rw [(hab.toCounterFrame.trans hbt.toCounterFrame).rdN_one, count_one (hva'.preset hp), hva'.rdN_one]

/-! ### Results in a register -/

theorem timedFree_setGpr (d : BitVec 5) (v : Word) : TimedFree (·.setGpr d v) := fun x z => by
  unfold EngSlot.setGpr
  split <;> rfl

theorem timedFree_flag (dz ov : Bool) : TimedFree (·.flag dz ov) := fun x z => by
  unfold EngSlot.flag
  split <;> rfl

theorem TimedFree.comp {y y' : EngSlot → EngSlot} (hy : TimedFree y) (hy' : TimedFree y') : TimedFree (fun x => y' (y x)) :=
  fun x z => by
    dsimp only
    rw [hy, hy']

theorem frame_engSet {d : BitVec 5} {v : Word} : CounterFrame c e P s (s.engSet c e d v) :=
  frame_setEng ((timedFree_setGpr d v).preset _)

theorem EngSlot.gpr_setGpr (x : EngSlot) (d r : BitVec 5) (v : Word) :
    (x.setGpr d v).gpr r = if r = d ∧ r ≠ 0 then v else x.gpr r := by
  unfold EngSlot.setGpr EngSlot.gpr
  by_cases hd : d = 0
  · subst hd
    rw [if_pos rfl, if_neg (c := r = 0 ∧ r ≠ 0) fun h => h.2 h.1]
  · rw [if_neg hd]
    by_cases hr : r = 0
    · simp [hr]
    · simp only [hr, if_false, ne_eq, not_false_eq_true, and_true, tget_tset, BitVec.toNat_inj]

/-- What a write of a general register leaves of the slot. -/
theorem EngSlot.setGpr_rest (x : EngSlot) (d : BitVec 5) (v : Word) : x.setGpr d v = { x with g := (x.setGpr d v).g } := by
  unfold EngSlot.setGpr
  split <;> rfl

theorem State.slotRuns.active {c : Fin 12} {e : Fin 16} {i : EngI} (h : s.slotRuns c e i) :
    (s.eng c e).running = true ∧ (s.eng c e).waiting = none := by
  obtain ⟨hact, -⟩ := h
  simpa [EngSlot.active] using hact

/-- A row whose effect is a result in a general register and the next PC. -/
theorem State.slotRuns.reg {c : Fin 12} {e : Fin 16} {i : EngI} {m : MemPort} {w : Nat} {d : BitVec 5} {v pc : Word}
    (h : s.slotRuns c e i) (hdo : RowDoes s c e i m w (·.setGpr d v) pc) :
    (EngReg s (s.engRow c e i m w) c e d v ∧ ((s.engRow c e i m w).eng c e).csr = (s.eng c e).csr ∧
      EngGoes s (s.engRow c e i m w) c e pc ∧ EngQuiet s (s.engRow c e i m w) c e) ∧
      ((s.eng c e).preset = [] → (s.engRow c e i m w).rdN (ctrKey c e 1) = (s.rdN (ctrKey c e 1) + 1) % 2 ^ 48) := by
  obtain ⟨hgo, hone⟩ := h.step (timedFree_setGpr d v) hdo
  refine ⟨⟨⟨fun r => ?_, ?_⟩, ?_, ?_, hgo.quiet⟩, hone⟩
  · rw [hgo.slot]
    exact EngSlot.gpr_setGpr _ _ _ _
  · rw [hgo.slot, EngSlot.setGpr_rest]
    rfl
  · rw [hgo.slot, EngSlot.setGpr_rest]
    rfl
  · rw [EngSlot.setGpr_rest] at hgo
    exact hgo.goes h.active.1 h.active.2 rfl rfl rfl rfl

theorem Accounts.gpr (h : Accounts c e P s u) (r : BitVec 5) : (u.eng c e).gpr r = (s.eng c e).gpr r := by
  rw [h.slot]
  rfl

theorem Accounts.lane (h : Accounts c e P s u) (v : BitVec 3) (l : Nat) : (u.eng c e).lane v l = (s.eng c e).lane v l := by
  rw [h.slot]
  rfl

theorem Accounts.pc (h : Accounts c e P s u) : (u.eng c e).pc = (s.eng c e).pc := by
  rw [h.slot]
  rfl

theorem Accounts.cs (h : Accounts c e P s u) (n : Nat) : (u.eng c e).cs n = (s.eng c e).cs n := by
  rw [h.slot]
  rfl

/-- A row's effect by the instruction that the row names: what its fields leave unused takes no part. -/
theorem RowDoes.of {i : EngI} {m : MemPort} {w : Nat} {y : EngSlot → EngSlot} {pc : Word} (hx : ∀ d a csr, i ≠ .xcs .r d a csr)
    (h : ∀ u, Accounts c e (fun _ => True) s u → ∃ f, u.engDo c e i m w (s.issueCycle c e i) = .ok f ∧
      CounterFrame c e (· ≠ 1) u f.s ∧ f.s.eng c e = y (u.eng c e) ∧ f.pc = pc ∧ f.fixed = none ∧ f.fin ≠ 1 ∧ f.fin ≠ 2) : RowDoes s c e i m w y pc :=
  fun u j hu hj => by
    rw [engDo_congr hj hx]
    exact h u hu

theorem rowDoes_alu {f : AluOp} {d a b : BitVec 5} {v : Word} {dz ov : Bool} {m : MemPort} {w : Nat}
    (hv : f.eval ((s.eng c e).gpr a) ((s.eng c e).gpr b) = ⟨v, dz, ov⟩) :
    RowDoes s c e (.alu f d a b) m w (fun x => (x.setGpr d v).flag dz ov) ((s.eng c e).pc + 4) :=
  .of (by simp) fun u hu => by
    refine ⟨_, rfl, frame_setEng ?_, ?_, ?_, rfl, by simp, by simp⟩
    · exact ((timedFree_setGpr d _).comp (timedFree_flag _ _)).preset _
    · simp [hu.gpr, hv]
    · simp [hu.pc]

theorem rowDoes_rk {f : RkOp} {d a : BitVec 5} {k : BitVec 14} {v : Word} {m : MemPort} {w : Nat}
    (hv : f.eval ((s.eng c e).gpr a) k = v) : RowDoes s c e (.rk f d a k) m w (·.setGpr d v) ((s.eng c e).pc + 4) :=
  .of (by simp) fun u hu => by
    refine ⟨_, rfl, frame_engSet, ?_, ?_, rfl, by simp, by simp⟩
    · simp [hu.gpr, hv, State.engSet]
    · simp [hu.pc]

end

/-! ### The functions of class 0x1 and 0x2 in numbers (Tables 16.5 and 16.6) -/

section
variable (x y : Word)

theorem slt_iff_toInt : x.slt y = decide (x.toInt < y.toInt) := rfl

theorem boolWord_decide (p : Prop) [Decidable p] : boolWord (decide p) = if p then 1 else 0 := by
  by_cases h : p <;> simp [boolWord, h]

theorem ofInt_toInt_add (i : Int) : x + BitVec.ofInt 32 i = BitVec.ofInt 32 (x.toInt + i) := by
  rw [BitVec.ofInt_add, BitVec.ofInt_toInt]

theorem shiftLeft_eq_ofNat (n : Nat) : x <<< n = BitVec.ofNat 32 (x.toNat * 2 ^ n) := by
  apply BitVec.eq_of_toNat_eq
  simp [Nat.shiftLeft_eq]

theorem ushiftRight_eq_ofNat (n : Nat) : x >>> n = BitVec.ofNat 32 (x.toNat / 2 ^ n) := by
  apply BitVec.eq_of_toNat_eq
  rw [BitVec.toNat_ushiftRight, Nat.shiftRight_eq_div_pow, BitVec.toNat_ofNat, Nat.mod_eq_of_lt]
  exact (Nat.div_le_self _ _).trans_lt x.isLt

theorem sshiftRight_eq_ofInt (n : Nat) : x.sshiftRight n = BitVec.ofInt 32 (x.toInt / 2 ^ n) := by
  unfold BitVec.sshiftRight
  rw [Int.shiftRight_eq_div_pow, Nat.cast_pow, Nat.cast_ofNat]

theorem smin_eq_ofInt : (if x.slt y then x else y) = BitVec.ofInt 32 (min x.toInt y.toInt) := by
  rw [slt_iff_toInt]
  by_cases h : x.toInt < y.toInt
  · rw [if_pos (by simpa using h), Int.min_eq_left (by omega), BitVec.ofInt_toInt]
  · rw [if_neg (by simpa using h), Int.min_eq_right (by omega), BitVec.ofInt_toInt]

theorem smax_eq_ofInt : (if x.slt y then y else x) = BitVec.ofInt 32 (max x.toInt y.toInt) := by
  rw [slt_iff_toInt]
  by_cases h : x.toInt < y.toInt
  · rw [if_pos (by simpa using h), Int.max_eq_right (by omega), BitVec.ofInt_toInt]
  · rw [if_neg (by simpa using h), Int.max_eq_left (by omega), BitVec.ofInt_toInt]

theorem umin_eq_ofNat : (if x.ult y then x else y) = BitVec.ofNat 32 (min x.toNat y.toNat) := by
  by_cases h : x.toNat < y.toNat
  · rw [if_pos (by simpa [BitVec.ult] using h), Nat.min_eq_left (by omega), BitVec.ofNat_toNat, BitVec.setWidth_eq]
  · rw [if_neg (by simpa [BitVec.ult] using h), Nat.min_eq_right (by omega), BitVec.ofNat_toNat, BitVec.setWidth_eq]

theorem umax_eq_ofNat : (if x.ult y then y else x) = BitVec.ofNat 32 (max x.toNat y.toNat) := by
  by_cases h : x.toNat < y.toNat
  · rw [if_pos (by simpa [BitVec.ult] using h), Nat.max_eq_right (by omega), BitVec.ofNat_toNat, BitVec.setWidth_eq]
  · rw [if_neg (by simpa [BitVec.ult] using h), Nat.max_eq_left (by omega), BitVec.ofNat_toNat, BitVec.setWidth_eq]

end

section
variable (x : Word) (k : BitVec 14)

theorem sext_toInt : (sext k).toInt = k.toInt := BitVec.toInt_signExtend_of_le (by omega)

theorem zext_toNat : (zext k).toNat = k.toNat := by
  have := k.isLt
  simp [zext, BitVec.toNat_setWidth]
  omega

theorem zext_eq_ofNat : zext k = BitVec.ofNat 32 k.toNat := by
  rw [BitVec.ofNat_toNat]
  rfl

theorem satWord_eq (i : Int) :
    satWord i = ⟨BitVec.ofInt 32 (max (-2 ^ 31) (min (2 ^ 31 - 1) i)), false, decide (i < -2 ^ 31 ∨ 2 ^ 31 ≤ i)⟩ := by
  have h : satTo 32 i = max (-2 ^ 31) (min (2 ^ 31 - 1) i) := rfl
  simp only [satWord, h, AluOut.mk.injEq, true_and]
  rw [Bool.eq_iff_iff]
  simp only [bne_iff_ne, ne_eq, decide_eq_true_eq]
  omega

theorem getLsbD_eq_false_of_leadingZeros {k : Nat} (hk : 32 - leadingZeros x ≤ k) : x.getLsbD k = false := by
  by_cases hx : x = 0
  · simp [hx]
  · simp only [leadingZeros, hx, if_false] at hk
    have hne : x.toNat ≠ 0 := fun h => hx (BitVec.eq_of_toNat_eq h)
    have hlog : x.toNat.log2 < 32 := (Nat.log2_lt hne).2 x.isLt
    exact Nat.testBit_lt_two_pow (Nat.lt_of_lt_of_le Nat.lt_log2_self (Nat.pow_le_pow_right (by omega) (by omega)))

theorem getLsbD_of_leadingZeros (h : leadingZeros x < 32) : x.getLsbD (31 - leadingZeros x) = true := by
  by_cases hx : x = 0
  · simp [leadingZeros, hx] at h
  · have hne : x.toNat ≠ 0 := fun h => hx (BitVec.eq_of_toNat_eq h)
    have hlog : x.toNat.log2 < 32 := (Nat.log2_lt hne).2 x.isLt
    simp only [leadingZeros, hx, if_false]
    rw [show 31 - (31 - x.toNat.log2) = x.toNat.log2 by omega]
    exact Nat.testBit_log2 hne

theorem leadingZeros_le : leadingZeros x ≤ 32 := by
  unfold leadingZeros
  split <;> omega

end

/-! ### Quotients and remainders -/

section
variable (x y : Word)

theorem aluEval_dq : AluOp.dq.eval x y = ⟨if y = 0 then 0 else if x = 0x80000000 ∧ y = 0xFFFFFFFF then 0x7FFFFFFF
    else BitVec.ofInt 32 (x.toInt.tdiv y.toInt), y == 0, x == 0x80000000 && y == 0xFFFFFFFF⟩ := by
  have hmin : BitVec.intMin 32 = 0x80000000#32 := rfl
  have hone : (-1 : Word) = 0xFFFFFFFF#32 := rfl
  simp only [AluOp.eval, hmin, hone]
  by_cases hy : y = 0
  · simp [hy]
  · by_cases h : x = 0x80000000 ∧ y = 0xFFFFFFFF
    · obtain ⟨rfl, rfl⟩ := h
      rfl
    · have hz : (y == 0) = false := by simpa using hy
      have ho : (x == 0x80000000 && y == 0xFFFFFFFF) = false := by simpa using h
      simp only [if_neg hy, if_neg h, hz, ho]
      exact if_neg h

theorem aluEval_dr : AluOp.dr.eval x y = ⟨if y = 0 then x else if x = 0x80000000 ∧ y = 0xFFFFFFFF then 0
    else BitVec.ofInt 32 (x.toInt.tmod y.toInt), y == 0, x == 0x80000000 && y == 0xFFFFFFFF⟩ := by
  have hmin : BitVec.intMin 32 = 0x80000000#32 := rfl
  have hone : (-1 : Word) = 0xFFFFFFFF#32 := rfl
  simp only [AluOp.eval, hmin, hone]
  by_cases hy : y = 0
  · simp [hy]
  · by_cases h : x = 0x80000000 ∧ y = 0xFFFFFFFF
    · obtain ⟨rfl, rfl⟩ := h
      rfl
    · have hz : (y == 0) = false := by simpa using hy
      have ho : (x == 0x80000000 && y == 0xFFFFFFFF) = false := by simpa using h
      simp only [if_neg hy, if_neg h, hz, ho]
      exact if_neg h

theorem aluEval_dqu : AluOp.dqu.eval x y = ⟨if y = 0 then 0 else BitVec.ofNat 32 (x.toNat / y.toNat), y == 0, false⟩ := by
  by_cases hy : y = 0
  · simp [AluOp.eval, hy]
  · have hz : (y == 0) = false := by simpa using hy
    simp only [AluOp.eval, if_neg hy, hz]

theorem aluEval_dru : AluOp.dru.eval x y = ⟨if y = 0 then x else BitVec.ofNat 32 (x.toNat % y.toNat), y == 0, false⟩ := by
  by_cases hy : y = 0
  · simp [AluOp.eval, hy]
  · have hz : (y == 0) = false := by simpa using hy
    simp only [AluOp.eval, if_neg hy, hz]

end

/-! ### Results with flags -/

section
variable {s : State}

theorem EngSlot.flag_rest (x : EngSlot) (dz ov : Bool) : x.flag dz ov = { x with csr := (x.flag dz ov).csr } := by
  unfold EngSlot.flag
  split <;> rfl

theorem EngSlot.cs_setCs (x : EngSlot) (n k : Nat) (v : Word) : (x.setCs n v).cs k = if k = n then v else x.cs k :=
  tget_tset _ _ _ _ _

theorem EngSlot.cs_flag (x : EngSlot) (dz ov : Bool) (n : Nat) :
    (x.flag dz ov).cs n = if n = 6 then x.cs 6 ||| (if dz then 1 else 0) ||| (if ov then 2 else 0) else x.cs n := by
  unfold EngSlot.flag
  by_cases h : n = 6
  · subst h
    cases dz <;> cases ov <;> simp [EngSlot.cs_setCs, boolWord]
  · simp only [if_neg h]
    split
    · rw [EngSlot.cs_setCs, if_neg h]
    · rfl

/-- A row whose effect is a result in a general register with its flags, and the next PC. -/
theorem State.slotRuns.regFlags {c : Fin 12} {e : Fin 16} {i : EngI} {m : MemPort} {w : Nat} {d : BitVec 5} {v pc : Word} {dz ov : Bool}
    (h : s.slotRuns c e i) (hdo : RowDoes s c e i m w (fun x => (x.setGpr d v).flag dz ov) pc) :
    EngReg s (s.engRow c e i m w) c e d v ∧ EngGoes s (s.engRow c e i m w) c e pc ∧ EngQuiet s (s.engRow c e i m w) c e ∧
      (∀ n, ((s.engRow c e i m w).eng c e).cs n = if n = 6 then (s.eng c e).cs 6 ||| (if dz then 1 else 0) ||| (if ov then 2 else 0)
        else (s.eng c e).cs n) := by
  obtain ⟨hgo, -⟩ := h.step ((timedFree_setGpr d v).comp (timedFree_flag dz ov)) hdo
  have hcs (n : Nat) : ((s.engRow c e i m w).eng c e).cs n = (((s.eng c e).setGpr d v).flag dz ov).cs n := by
    rw [hgo.slot]
    rfl
  refine ⟨⟨fun r => ?_, ?_⟩, ?_, hgo.quiet, fun n => ?_⟩
  · rw [hgo.slot, EngSlot.flag_rest]
    exact EngSlot.gpr_setGpr _ _ _ _
  · rw [hgo.slot, EngSlot.flag_rest, EngSlot.setGpr_rest]
    rfl
  · rw [EngSlot.flag_rest, EngSlot.setGpr_rest] at hgo
    exact hgo.goes h.active.1 h.active.2 rfl rfl rfl rfl
  · rw [hcs, EngSlot.cs_flag, EngSlot.setGpr_rest]
    rfl

end

/-! ### O30: the arithmetic rows -/

section
variable {s : State} {c : Fin 12} {e : Fin 16}

/-- A class 0x1 row that sets no flag. -/
theorem alu_completes {i : Instr} {f : AluOp} {d a b : BitVec 5} {v : Word} (h : s.slotRuns c e (.alu f d a b))
    (hi : exec i s = .next (s.engRow c e (.alu f d a b) {} 0))
    (hv : f.eval ((s.eng c e).gpr a) ((s.eng c e).gpr b) = ⟨v, false, false⟩) :
    Completes i s (fun t => (EngReg s t c e d v ∧ (t.eng c e).csr = (s.eng c e).csr ∧
      EngGoes s t c e ((s.eng c e).pc + 4) ∧ EngQuiet s t c e) ∧
      ((s.eng c e).preset = [] → t.rdN (ctrKey c e 1) = (s.rdN (ctrKey c e 1) + 1) % 2 ^ 48)) :=
  .intro hi (h.reg (rowDoes_alu hv))

end

/-- Settles O30: each row's effect is its function's value in d, and the account of its issue is all else that changes. -/
theorem engineArithmeticPutsItsResultInD : Obligations.EngineArithmeticPutsItsResultInD := by
  unfold Obligations.EngineArithmeticPutsItsResultInD
  refine ⟨?_, ?_, ?_, ?_, ?_, ?_⟩
  · rintro s c e d a b f x y op v h rfl rfl hop
    suffices h' : exec (op c e d a b) s = .next (s.engRow c e (.alu f d a b) {} 0) ∧
        f.eval ((s.eng c e).gpr a) ((s.eng c e).gpr b) = ⟨v, false, false⟩ by
      exact (alu_completes h h'.1 h'.2).mono fun t ⟨⟨h1, h2, h3, h4⟩, h5⟩ => ⟨h1, h2, h3, h4, h5⟩
    generalize (s.eng c e).gpr a = x at *
    generalize (s.eng c e).gpr b = y at *
    obtain ⟨rfl, rfl, rfl⟩ | ⟨rfl, rfl, rfl⟩ | ⟨rfl, rfl, rfl⟩ | ⟨rfl, rfl, rfl⟩ | ⟨rfl, rfl, rfl⟩ | ⟨rfl, rfl, rfl⟩ |
      ⟨rfl, rfl, rfl⟩ | ⟨rfl, rfl, rfl⟩ | ⟨rfl, rfl, rfl⟩ | ⟨rfl, rfl, rfl⟩ | ⟨rfl, rfl, rfl⟩ | ⟨rfl, rfl, rfl⟩ | ⟨rfl, rfl, rfl⟩ |
      ⟨rfl, rfl, rfl⟩ | ⟨rfl, rfl, rfl⟩ | ⟨rfl, rfl, rfl⟩ | ⟨rfl, rfl, rfl⟩ := hop
    all_goals refine ⟨rfl, ?_⟩
    all_goals simp only [AluOp.eval, AluOut.mk.injEq, and_true]
    · apply BitVec.eq_of_toNat_eq; simp
    · apply BitVec.eq_of_toInt_eq; simp [BitVec.toInt_sub]
    · exact shiftLeft_eq_ofNat _ _
    · exact ushiftRight_eq_ofNat _ _
    · exact sshiftRight_eq_ofInt _ _
    · exact boolWord_decide _
    · exact boolWord_decide _
    · exact smin_eq_ofInt _ _
    · exact smax_eq_ofInt _ _
    · exact umin_eq_ofNat _ _
    · exact umax_eq_ofNat _ _
    · apply BitVec.eq_of_toNat_eq; simp
  · rintro s c e d a b f x y op v dz ov h rfl rfl hop
    suffices h' : exec (op c e d a b) s = .next (s.engRow c e (.alu f d a b) {} 0) ∧
        f.eval ((s.eng c e).gpr a) ((s.eng c e).gpr b) = ⟨v, dz, ov⟩ from .intro h'.1 (h.regFlags (rowDoes_alu h'.2))
    generalize (s.eng c e).gpr a = x at *
    generalize (s.eng c e).gpr b = y at *
    obtain ⟨rfl, rfl, rfl, rfl, rfl⟩ | ⟨rfl, rfl, rfl, rfl, rfl⟩ | ⟨rfl, rfl, rfl, rfl, rfl⟩ | ⟨rfl, rfl, rfl, rfl, rfl⟩ |
      ⟨rfl, rfl, rfl, rfl, rfl⟩ | ⟨rfl, rfl, rfl, rfl, rfl⟩ := hop
    · exact ⟨rfl, aluEval_dq x y⟩
    · exact ⟨rfl, aluEval_dqu x y⟩
    · exact ⟨rfl, aluEval_dr x y⟩
    · exact ⟨rfl, aluEval_dru x y⟩
    · exact ⟨rfl, satWord_eq _⟩
    · exact ⟨rfl, satWord_eq _⟩
  · intro s c e d a h
    exact (alu_completes h rfl rfl).mono fun t ⟨ht, _⟩ => ⟨leadingZeros ((s.eng c e).gpr a), leadingZeros_le _,
      fun _ => getLsbD_eq_false_of_leadingZeros _, getLsbD_of_leadingZeros _, ht⟩
  · intro s c e d a h
    refine (alu_completes h rfl ?_).mono fun t ⟨ht, _⟩ => ht
    simp only [AluOp.eval, oneBits, List.countP_eq_length_filter]
  · rintro s c e d a k f x op v h rfl hop
    suffices h' : exec (op c e d a k) s = .next (s.engRow c e (.rk f d a k) {} 0) ∧
        f.eval ((s.eng c e).gpr a) k = v from .intro h'.1 (h.reg (rowDoes_rk h'.2)).1
    generalize (s.eng c e).gpr a = x at *
    obtain ⟨rfl, rfl, rfl⟩ | ⟨rfl, rfl, rfl⟩ | ⟨rfl, rfl, rfl⟩ | ⟨rfl, rfl, rfl⟩ | ⟨rfl, rfl, rfl⟩ | ⟨rfl, rfl, rfl⟩ |
      ⟨rfl, rfl, rfl⟩ := hop
    all_goals refine ⟨rfl, ?_⟩
    · apply BitVec.eq_of_toInt_eq; simp [RkOp.eval, sext_toInt]
    · simp [RkOp.eval, zext_eq_ofNat]
    · simp [RkOp.eval, zext_eq_ofNat]
    · simp [RkOp.eval, zext_eq_ofNat]
    · simp only [RkOp.eval, slt_iff_toInt, sext_toInt, boolWord_decide]
    · simp only [RkOp.eval, BitVec.ult, zext_toNat, boolWord_decide]
    · apply BitVec.eq_of_toInt_eq; simp [RkOp.eval, sext_toInt]
  · rintro s c e d a k f x op v h rfl hop
    have hk : (0#9 ++ k : BitVec 14).toNat % 32 = k.toNat := by
      rw [BitVec.toNat_append, Nat.mod_eq_of_lt] <;> simp [k.isLt]
    suffices h' : exec (op c e d a k) s = .next (s.engRow c e (.rk f d a (0#9 ++ k)) {} 0) ∧
        f.eval ((s.eng c e).gpr a) (0#9 ++ k) = v from .intro h'.1 (h.reg (rowDoes_rk h'.2)).1
    obtain ⟨rfl, rfl, rfl⟩ | ⟨rfl, rfl, rfl⟩ | ⟨rfl, rfl, rfl⟩ := hop
    all_goals refine ⟨rfl, ?_⟩
    · exact (congrArg (fun n => (s.eng c e).gpr a <<< n) hk).trans (shiftLeft_eq_ofNat _ _)
    · exact (congrArg (fun n => (s.eng c e).gpr a >>> n) hk).trans (ushiftRight_eq_ofNat _ _)
    · exact (congrArg (BitVec.sshiftRight _) hk).trans (sshiftRight_eq_ofInt _ _)

/-! ### What the rules and events leave of the engines -/

section
variable (s : State) (c e : Nat)

theorem State.raiseLimitedItem_eq (code source item n last : Nat) : s.raiseLimitedItem code source item n last =
    { s with core := (s.raiseLimitedItem code source item n last).core } := by
  unfold State.raiseLimitedItem
  dsimp only
  split <;> rfl

@[simp] theorem State.raise_eng (code source arg : Nat) : (s.raise code source arg).eng c e = s.eng c e := rfl

@[simp] theorem State.inc_eng (k : Nat) : (s.inc k).eng c e = s.eng c e := rfl

@[simp] theorem State.raiseLimitedFor_engine (code source n last : Nat) : (s.raiseLimitedFor code source n last).engine = s.engine := by
  rw [State.raiseLimitedFor, State.raiseLimitedItem_eq]

@[simp] theorem State.raiseLimitedFor_eng (code source n last : Nat) :
    (s.raiseLimitedFor code source n last).eng c e = s.eng c e := by simp [State.eng]

@[simp] theorem State.raiseLimitedFor_rd (code source n last k : Nat) : (s.raiseLimitedFor code source n last).rd k = s.rd k := by
  rw [State.raiseLimitedFor, State.raiseLimitedItem_eq]
  rfl

@[simp] theorem State.raiseLimitedFor_rdN (code source n last k : Nat) : (s.raiseLimitedFor code source n last).rdN k = s.rdN k := by
  simp [State.rdN]

@[simp] theorem State.raiseLimitedFor_tick (code source n last : Nat) :
    (s.raiseLimitedFor code source n last).core.tick = s.core.tick := by
  unfold State.raiseLimitedFor State.raiseLimitedItem
  dsimp only
  split <;> rfl

@[simp] theorem State.raiseLimitedFor_start (code source n last : Nat) : (s.raiseLimitedFor code source n last).start = s.start := by
  rw [State.raiseLimitedFor, State.raiseLimitedItem_eq]

@[simp] theorem State.raiseLimitedFor_life (code source n last : Nat) : (s.raiseLimitedFor code source n last).life = s.life := by
  simp [State.life]

@[simp] theorem State.setEng_shared (x : EngSlot) : (s.setEng c e x).engine.shared = s.engine.shared := rfl

@[simp] theorem State.setEng_transit (x : EngSlot) : (s.setEng c e x).engine.transit = s.engine.transit := rfl

end

section
variable {s a : State} {c e : Nat}

/-- A trap noted in the slot's CSRs and LAST_TRAP objects (R405, R406). -/
def State.trapNoted (a : State) (c e : Nat) (pc : Word) (cause info : Nat) : State :=
  (((a.setEng c e { ((((a.eng c e).setCs 1 (BitVec.ofNat 32 cause)).setCs 2 pc).setCs 3 (BitVec.ofNat 32 info)) with used := 2 }).wrN
    (Obj.lastTrapcode c e) cause).wrN (Obj.lastTrappc c e) pc.toNat).wrN (Obj.lastTrapinfo c e) info

/-- In crew mode a trap ends the task (R407). -/
def State.crewTrap (s : State) (c e cause : Nat) : State :=
  let n := (s.eng c e).trapRun + 1
  let s := (s.setEng c e { (s.eng c e) with trapRun := n, overRun := 0, out := [] }).taskOver c e
  let s := (s.inc (Obj.traps c e)).raiseLimitedFor 0x80E0 (engSource c e) 1 cause
  if s.rdN (Obj.trapLimit c) ≤ n then (s.engFault c e).raise 0xC0E1 (engSource c e) cause else s

/-- A trap of the keeper in a trap faults the slot (R406). -/
def State.nestedTrap (s : State) (c e : Nat) : State := ((s.setEng c e { (s.eng c e) with out := [] }).taskOver c e).engFault c e

/-- A trap of the keeper goes to its handler (R406). -/
def State.keeperTrap (s : State) (c e : Nat) : State :=
  let x := s.eng c e
  let gap := min s.draw.1 (8999 - x.cycle)
  let s := (s.draw.2.passTo c e (x.cycle + gap) 2).count c e 3 (2 * gap)
  s.setEng c e { ((s.eng c e).setCs 0 (x.cs 0 ||| 2)) with pc := pcOf (x.cs 4) }

/-- The counters' records lie above the engines' other objects. -/
theorem CounterFrame.rd_below {P : Nat → Prop} {t : State} (h : CounterFrame c e P s t) {k : Nat} (hk : k < 0x540000) :
    t.rd k = s.rd k := by
  refine h.regs k ?_ fun j hj _ => ?_
  · simp only [Obj.counterOverflow, objKey]; omega
  · simp only [ctrKey, objKey]; omega

theorem CounterFrame.rdN_below {P : Nat → Prop} {t : State} (h : CounterFrame c e P s t) {k : Nat} (hk : k < 0x540000) :
    t.rdN k = s.rdN k := by rw [State.rdN, h.rd_below hk, State.rdN]

theorem clusterMode_lt (c : Fin 12) : Obj.clusterMode c < 0x540000 := by simp only [Obj.clusterMode, objKey]; omega

theorem CounterFrame.crew {c : Fin 12} {P : Nat → Prop} {t : State} (h : CounterFrame c e P s t) : t.crew c = s.crew c := by
  unfold State.crew
  rw [h.rdN_below (clusterMode_lt c)]

theorem trapNoted_rdN {pc : Word} {cause info k : Nat} (h1 : k ≠ Obj.lastTrapcode c e) (h2 : k ≠ Obj.lastTrappc c e)
    (h3 : k ≠ Obj.lastTrapinfo c e) : (a.trapNoted c e pc cause info).rdN k = a.rdN k := by
  simp [State.trapNoted, State.wrN_rdN_ne, h1, h2, h3]

theorem trapNoted_crew (pc : Word) (cause info : Nat) : (a.trapNoted c e pc cause info).crew c = a.crew c := by
  unfold State.crew
  rw [trapNoted_rdN]
  all_goals simp only [Obj.clusterMode, Obj.lastTrapcode, Obj.lastTrappc, Obj.lastTrapinfo, objKey]; omega

theorem EngSlot.setCs_cs (x : EngSlot) (n k : Nat) (v : Word) (h : k ≠ n) : (x.setCs n v).cs k = x.cs k := by
  rw [EngSlot.cs_setCs, if_neg h]

/-- A trap: it is noted, and goes on as the mode says. -/
theorem engTrapAt_eq {c : Fin 12} (i : EngI) (pc : Word) (cause info : Nat) (second : Bool) :
    ∃ a, Accounts c e (fun _ => True) s a ∧ s.engTrapAt c e i pc cause info second =
      (let n := a.trapNoted c e pc cause info
       if s.crew c then n.crewTrap c e cause
       else if bitOf ((s.eng c e).cs 0).toNat 1 then n.nestedTrap c e else n.keeperTrap c e) := by
  have hbeside {s : State} : Counts c e (fun _ => True) s (s.beside c e i (pc + 4#32)) := counts_beside trivial fun _ _ => trivial
  have hs : Accounts c e (fun _ => True) s ((s.count c e 2 1).onlyIf (!second) (fun s => s.beside c e i (pc + 4#32))) :=
    ((counts_count (by omega) trivial).trans (.onlyIf hbeside)).accounts
  refine ⟨_, hs, ?_⟩
  unfold State.engTrapAt
  generalize (s.count c e 2 1).onlyIf (!second) (fun s => s.beside c e i (pc + 4#32)) = a at *
  have hcrew : (a.trapNoted c e pc cause info).crew c = s.crew c := (trapNoted_crew _ _ _).trans hs.crew
  have hcs : bitOf ((a.eng c e).cs 0).toNat 1 = bitOf ((s.eng c e).cs 0).toNat 1 := by rw [hs.cs]
  dsimp only
  rw [← hcrew, ← hcs]
  rfl
end

section
variable {s n u t : State} {e : Fin 16} {c : Fin 12}

/-- What a trap leaves: cs.status alone of the CSRs may change, and no LAST_TRAP object does. -/
structure TrapKeeps (c e : Nat) (n t : State) : Prop where
  cs : ∀ k, k ≠ 0 → (t.eng c e).cs k = (n.eng c e).cs k
  g : (t.eng c e).g = (n.eng c e).g
  v : (t.eng c e).v = (n.eng c e).v
  data : (t.eng c e).data = (n.eng c e).data
  shared : t.engine.shared = n.engine.shared
  code : t.rdN (Obj.lastTrapcode c e) = n.rdN (Obj.lastTrapcode c e)
  info : t.rdN (Obj.lastTrapinfo c e) = n.rdN (Obj.lastTrapinfo c e)

theorem lastTrap_lt (c : Fin 12) (e : Fin 16) : Obj.lastTrapcode c e < 0x540000 ∧ Obj.lastTrapinfo c e < 0x540000 := by
  simp only [Obj.lastTrapcode, Obj.lastTrapinfo, objKey]
  omega

theorem trapKeys_ne (c e : Nat) : Obj.lastTrapcode c e ≠ Obj.engSlotState c e ∧ Obj.lastTrapinfo c e ≠ Obj.engSlotState c e ∧
    Obj.lastTrapcode c e ≠ Obj.traps c e ∧ Obj.lastTrapinfo c e ≠ Obj.traps c e := by
  simp only [Obj.lastTrapcode, Obj.lastTrapinfo, Obj.engSlotState, Obj.traps, objKey]
  omega

theorem State.rdN_inc_ne {k j : Nat} (h : j ≠ k) : (s.inc k).rdN j = s.rdN j := by
  rw [State.rdN, State.rd_inc_ne s h, State.rdN]

theorem trapKeeps_nested : TrapKeeps c e n (n.nestedTrap c e) := by
  obtain ⟨h1, h2, -, -⟩ := trapKeys_ne c e
  constructor <;> simp [State.nestedTrap, State.engFault, State.taskOver, EngSlot.cs, State.wrN_rdN_ne, h1, h2]

theorem trapKeeps_crew (cause : Nat) : TrapKeeps c e n (n.crewTrap c e cause) := by
  obtain ⟨h1, h2, h3, h4⟩ := trapKeys_ne c e
  unfold State.crewTrap
  dsimp only
  split <;> constructor <;>
    simp [State.engFault, State.taskOver, EngSlot.cs, State.wrN_rdN_ne, State.rdN_inc_ne, h1, h2, h3, h4]

theorem trapKeeps_keeper : TrapKeeps c e n (n.keeperTrap c e) := by
  obtain ⟨h1, h2⟩ := lastTrap_lt c e
  unfold State.keeperTrap
  dsimp only
  have hacc : Accounts c e (fun _ => True) n.draw.2 ((n.draw.2.passTo c e ((n.eng c e).cycle + min n.draw.1 (8999 - (n.eng c e).cycle)) 2).count c e 3
      (2 * min n.draw.1 (8999 - (n.eng c e).cycle))) := (accounts_passTo trivial).trans (accounts_count (by omega) trivial)
  generalize State.count _ _ _ 3 _ = t at *
  have hs : t.eng c e = (n.eng c e).timed (t.eng c e) := hacc.slot
  constructor
  · intro k hk
    rw [State.setEng_eng]
    refine (EngSlot.setCs_cs (t.eng c e) 0 k _ hk).trans ?_
    rw [hs]
    rfl
  · rw [State.setEng_eng, hs]; rfl
  · rw [State.setEng_eng, hs]; rfl
  · rw [State.setEng_eng, hs]; rfl
  · rw [State.setEng_shared, hacc.upd]; rfl
  · rw [State.setEng_rdN, hacc.rdN_below h1]; rfl
  · rw [State.setEng_rdN, hacc.rdN_below h2]; rfl

/-- A trap with its cause and information, before which the instruction has had no effect. -/
structure Trapped (c e : Nat) (s t : State) (cause info : Nat) : Prop where
  cs1 : (t.eng c e).cs 1 = BitVec.ofNat 32 cause
  cs2 : (t.eng c e).cs 2 = (s.eng c e).pc
  cs3 : (t.eng c e).cs 3 = BitVec.ofNat 32 info
  g : (t.eng c e).g = (s.eng c e).g
  v : (t.eng c e).v = (s.eng c e).v
  data : (t.eng c e).data = (s.eng c e).data
  shared : t.engine.shared = s.engine.shared
  code : t.rdN (Obj.lastTrapcode c e) = cause
  info : t.rdN (Obj.lastTrapinfo c e) = info

theorem TrapKeeps.trapped {a : State} {cause info : Nat} (hs : a.eng c e = (s.eng c e).timed (a.eng c e))
    (hsh : a.engine.shared = s.engine.shared) (h : TrapKeeps c e (a.trapNoted c e (s.eng c e).pc cause info) t) :
    Trapped c e s t cause info := by
  have hkeys : Obj.lastTrapcode c e ≠ Obj.lastTrappc c e ∧ Obj.lastTrapcode c e ≠ Obj.lastTrapinfo c e := by
    simp only [Obj.lastTrapcode, Obj.lastTrapinfo, Obj.lastTrappc, objKey]
    omega
  have hn : (a.trapNoted c e (s.eng c e).pc cause info).eng c e =
      { ((((a.eng c e).setCs 1 (BitVec.ofNat 32 cause)).setCs 2 (s.eng c e).pc).setCs 3 (BitVec.ofNat 32 info)) with used := 2 } := by
    simp [State.trapNoted]
  constructor
  · rw [h.cs 1 (by omega), hn]; simp [EngSlot.cs, EngSlot.setCs, tget_tset]
  · rw [h.cs 2 (by omega), hn]; simp [EngSlot.cs, EngSlot.setCs, tget_tset]
  · rw [h.cs 3 (by omega), hn]; simp [EngSlot.cs, EngSlot.setCs]
  · rw [h.g, hn, hs]; rfl
  · rw [h.v, hn, hs]; rfl
  · rw [h.data, hn, hs]; rfl
  · rw [h.shared, ← hsh]; rfl
  · rw [h.code]; simp [State.trapNoted, State.wrN_rdN_ne, hkeys]
  · rw [h.info]; simp [State.trapNoted]

theorem trapped_engTrapAt {i : EngI} {cause info : Nat} {second : Bool} (hs : u.eng c e = (s.eng c e).timed (u.eng c e))
    (hsh : u.engine.shared = s.engine.shared) : Trapped c e s (u.engTrapAt c e i (s.eng c e).pc cause info second) cause info := by
  obtain ⟨a, ha, ht⟩ := engTrapAt_eq (s := u) (e := e) (c := c) i (s.eng c e).pc cause info second
  have has : a.eng c e = (s.eng c e).timed (a.eng c e) := by rw [ha.slot, hs]; rfl
  have hash : a.engine.shared = s.engine.shared := by rw [ha.upd]; exact hsh
  rw [ht]
  dsimp only
  split
  · exact (trapKeeps_crew cause).trapped has hash
  · split
    · exact trapKeeps_nested.trapped has hash
    · exact trapKeeps_keeper.trapped has hash

theorem loseByte_engine (m a : Nat) : (s.loseByte m a).engine = s.engine := by
  unfold State.loseByte
  split <;> rfl

theorem readLost_engine (i : EngI) (a : Nat) : (s.readLost c e i a).engine = s.engine := by
  unfold State.readLost State.uncorrectable
  rw [State.raiseLimitedFor_engine]
  exact loseByte_engine _ _

/-- A row whose instruction traps. -/
theorem State.slotRuns.trapRow {i : EngI} {m : MemPort} {w cause info : Nat} (h : s.slotRuns c e i)
    (hdo : ∀ u j, Accounts c e (fun _ => True) s u → j.norm = i.norm → u.engDo c e j m w (s.issueCycle c e i) = .error (cause, info)) :
    Trapped c e s (s.engRow c e i m w) cause info := by
  obtain ⟨j, u, second, hj, hacc, -, -, hrow⟩ := h.effect m w
  have hu := hacc (fun _ => True) trivial fun _ _ => trivial
  rw [hrow, State.issueEffect, hdo u j hu hj]
  dsimp only
  have heng : (u.onlyIf (cause == 8) (fun s => s.readLost c e j info)).engine = u.engine := by
    unfold State.onlyIf
    split
    · exact readLost_engine _ _
    · rfl
  refine trapped_engTrapAt ?_ ?_
  · unfold State.eng
    rw [heng]
    exact hu.slot
  · rw [heng, hu.upd]

/-! ### O31: SETHI, the jumps and the branches -/

theorem wordTarget_eq {n : Nat} (x : Word) (k : BitVec n) (hn : n ≤ 32) : wordTarget x k = BitVec.ofInt 32 (x.toInt + 4 * k.toInt) := by
  have hk : (sext k).toInt = k.toInt := BitVec.toInt_signExtend_of_le hn
  have h4 : (4#32).toInt = 4 := rfl
  apply BitVec.eq_of_toInt_eq
  rw [wordTarget, BitVec.toInt_add, BitVec.toInt_mul, hk, h4, BitVec.toInt_ofInt, Int.add_bmod_bmod, Int.mul_comm]

theorem rowDoes_set {i : EngI} {d : BitVec 5} {v pc : Word} {m : MemPort} {w : Nat} (hx : ∀ d a csr, i ≠ .xcs .r d a csr)
    (h : ∀ u, Accounts c e (fun _ => True) s u → ∃ r b, u.engDo c e i m w (s.issueCycle c e i) =
      .ok { s := u.engSet c e d v, pc := pc, redirect := r, taken := b }) : RowDoes s c e i m w (·.setGpr d v) pc :=
  .of hx fun u hu => by
    obtain ⟨r, b, h⟩ := h u hu
    exact ⟨_, h, frame_engSet, u.setEng_eng c e _, rfl, rfl, by simp, by simp⟩

/-- A branch goes to its target or on, and does nothing else. -/
theorem branch_completes {i : Instr} {f : BrOp} {a b : BitVec 5} {off : BitVec 15} (h : s.slotRuns c e (.br f a b off))
    (hi : exec i s = .next (s.engRow c e (.br f a b off) {} 0)) :
    Completes i s (fun t => EngKeepsRegs s t c e ∧ EngQuiet s t c e ∧
      EngGoes s t c e (if f.test ((s.eng c e).gpr a) ((s.eng c e).gpr b) then BitVec.ofInt 32 ((s.eng c e).pc.toInt + 4 * off.toInt)
        else (s.eng c e).pc + 4)) := by
  have hdo : RowDoes s c e (.br f a b off) {} 0 id (if f.test ((s.eng c e).gpr a) ((s.eng c e).gpr b) then
      BitVec.ofInt 32 ((s.eng c e).pc.toInt + 4 * off.toInt) else (s.eng c e).pc + 4) := .of (by simp) fun u hu => by
    rw [← wordTarget_eq _ off (by omega)]
    simp only [State.engDo, hu.gpr, hu.pc]
    split
    · exact ⟨_, rfl, .refl, rfl, rfl, rfl, by simp, by simp⟩
    · exact ⟨_, rfl, .refl, rfl, rfl, rfl, by simp, by simp⟩
  obtain ⟨hgo, -⟩ := h.step (y := id) (fun x z => rfl) hdo
  refine .intro hi ⟨⟨?_, ?_, ?_⟩, hgo.quiet, hgo.goes h.active.1 h.active.2 rfl rfl rfl rfl⟩
  all_goals rw [hgo.slot]; rfl

end

/-- Settles O31: each row's effect is a result in d and a PC; JUMPR from an address that is none of a word's traps instead. -/
theorem engineJumpsAndBranchesSetPc : Obligations.EngineJumpsAndBranchesSetPc := by
  unfold Obligations.EngineJumpsAndBranchesSetPc
  refine ⟨fun s c e d k h => ?_, fun s c e d k h => ?_, fun s c e d a k h ha => ?_, fun s c e d a k h ha => ?_, ?_⟩
  · have hk : (k ++ 0#14 : Word) = BitVec.ofNat 32 (k.toNat * 2 ^ 14) := by
      apply BitVec.eq_of_toNat_eq
      have := k.isLt
      rw [BitVec.toNat_append, Nat.shiftLeft_eq, BitVec.toNat_ofNat, BitVec.toNat_ofNat, Nat.mod_eq_of_lt (b := 2 ^ 32) (by omega)]
      simp
    exact .intro rfl (h.reg (rowDoes_set (by simp) fun u hu => ⟨0, false, by simp only [State.engDo, hk, hu.pc]; rfl⟩)).1
  · exact .intro rfl (h.reg (rowDoes_set (by simp) fun u hu => ⟨2, true, by
      simp only [State.engDo, hu.pc, wordTarget_eq _ k (show 23 ≤ 32 by omega)]; rfl⟩)).1
  · refine .intro rfl (h.reg (rowDoes_set (by simp) fun u hu => ⟨3, true, ?_⟩)).1
    simp only [State.engDo, hu.pc, hu.gpr, ha, wordTarget_eq _ k (show 14 ≤ 32 by omega)]
    rfl
  · have ht := h.trapRow (m := {}) (w := 0) (cause := 3) (info := (wordTarget ((s.eng c e).gpr a) k).toNat) fun u j hu hj => by
      rw [engDo_congr hj (by simp)]
      simp only [State.engDo, hu.gpr]
      exact if_pos ha
    refine .intro rfl ⟨ht.cs1, ht.cs2, ?_, ht.code, ht.g, ht.v⟩
    rw [← wordTarget_eq _ k (by omega), ht.cs3, BitVec.ofNat_toNat, BitVec.setWidth_eq]
  · rintro s c e a b off f x y op taken h rfl rfl hop
    suffices h' : exec (op c e a b off) s = .next (s.engRow c e (.br f a b off) {} 0) ∧
        (f.test ((s.eng c e).gpr a) ((s.eng c e).gpr b) = true ↔ taken) by
      refine (branch_completes h h'.1).mono fun t ⟨hregs, hq, hgo⟩ => ⟨hregs, hq, fun ht => ?_, fun ht => ?_⟩
      · rwa [if_pos (h'.2.2 ht)] at hgo
      · rwa [if_neg fun hn => ht (h'.2.1 hn)] at hgo
    generalize (s.eng c e).gpr a = x at *
    generalize (s.eng c e).gpr b = y at *
    obtain ⟨rfl, rfl, rfl⟩ | ⟨rfl, rfl, rfl⟩ | ⟨rfl, rfl, rfl⟩ | ⟨rfl, rfl, rfl⟩ | ⟨rfl, rfl, rfl⟩ | ⟨rfl, rfl, rfl⟩ := hop
    all_goals refine ⟨rfl, ?_⟩
    all_goals simp [BrOp.test, BitVec.slt, BitVec.ult]

/-! ### Vector registers -/

section
variable {s t : State} {c : Fin 12} {e : Fin 16}

theorem EngSlot.lane_setLane (x : EngSlot) (v v' : BitVec 3) {l l' : Nat} (w : Word) (hl : l < 8) (hl' : l' < 8) :
    (x.setLane v l w).lane v' l' = if v' = v ∧ l' = l then w else x.lane v' l' := by
  unfold EngSlot.lane EngSlot.setLane
  rw [tget_tset]
  have h : 8 * v'.toNat + l' = 8 * v.toNat + l ↔ v' = v ∧ l' = l := by
    rw [← BitVec.toNat_inj]
    omega
  simp only [h]

theorem EngSlot.lane_setVec (x : EngSlot) (v v' : BitVec 3) {l : Nat} (ls : List Word) (hl : l < 8) :
    (x.setVec v ls).lane v' l = if v' = v then ls.getD l 0 else x.lane v' l := by
  have hr : List.range 8 = [0, 1, 2, 3, 4, 5, 6, 7] := rfl
  simp only [EngSlot.setVec, hr, List.foldl_cons, List.foldl_nil]
  by_cases hv : v' = v
  · interval_cases l <;> simp [EngSlot.lane_setLane, hv]
  · simp [EngSlot.lane_setLane, hv, hl]

theorem EngSlot.vec_setVec (x : EngSlot) (v v' : BitVec 3) (ls : List Word) (hls : ls.length = 8) :
    (x.setVec v ls).vec v' = if v' = v then ls else x.vec v' := by
  unfold EngSlot.vec
  split
  · next h =>
    refine List.ext_getElem (by simp [hls]) fun l hl hl' => ?_
    rw [List.getElem_map, List.getElem_range, EngSlot.lane_setVec _ _ _ _ (by simpa using hl), if_pos h]
    simp [hl']
  · next h =>
    refine List.map_congr_left fun l hl => ?_
    rw [EngSlot.lane_setVec _ _ _ _ (by simpa using hl), if_neg h]

theorem EngSlot.vec_setLane (x : EngSlot) (v v' : BitVec 3) {k : Nat} (w : Word) (hk : k < 8) :
    (x.setLane v k w).vec v' = if v' = v then (x.vec v).set k w else x.vec v' := by
  unfold EngSlot.vec
  split
  · next h =>
    subst h
    refine List.ext_getElem (by simp) fun l hl hl' => ?_
    rw [List.getElem_map, List.getElem_range, EngSlot.lane_setLane _ _ _ _ hk (by simpa using hl), List.getElem_set, List.getElem_map,
      List.getElem_range]
    simp [eq_comm]
  · next h =>
    refine List.map_congr_left fun l hl => ?_
    rw [EngSlot.lane_setLane _ _ _ _ hk (by simpa using hl), if_neg fun h' => h h'.1]

theorem EngSlot.setVec_rest (x : EngSlot) (v : BitVec 3) (ls : List Word) : x.setVec v ls = { x with v := (x.setVec v ls).v } := by
  unfold EngSlot.setVec
  induction List.range 8 generalizing x with
  | nil => rfl
  | cons l r ih => exact ih (x.setLane v l (ls.getD l 0))

theorem timedFree_setVec (v : BitVec 3) (ls : List Word) : TimedFree (·.setVec v ls) := fun x z => by
  dsimp only
  unfold EngSlot.setVec
  induction List.range 8 generalizing x with
  | nil => rfl
  | cons l r ih => exact ih (x.setLane v l (ls.getD l 0))

theorem frame_setVec {P : Nat → Prop} {v : BitVec 3} {ls : List Word} : CounterFrame c e P s (s.setEng c e ((s.eng c e).setVec v ls)) :=
  frame_setEng ((timedFree_setVec v ls).preset _)

theorem timedFree_setLane (v : BitVec 3) (k : Nat) (w : Word) : TimedFree (·.setLane v k w) := fun _ _ => rfl

/-- A row whose effect is a change of the vector registers alone and the next PC. -/
theorem State.slotRuns.vecs {i : EngI} {m : MemPort} {w : Nat} {y : EngSlot → EngSlot} {pc : Word} (h : s.slotRuns c e i)
    (hy : TimedFree y) (hv : ∀ x, y x = { x with v := (y x).v }) (hdo : RowDoes s c e i m w y pc) :
    (∀ v, ((s.engRow c e i m w).eng c e).vec v = (y (s.eng c e)).vec v) ∧ ((s.engRow c e i m w).eng c e).g = (s.eng c e).g ∧
      ((s.engRow c e i m w).eng c e).csr = (s.eng c e).csr ∧ EngGoes s (s.engRow c e i m w) c e pc ∧
      EngQuiet s (s.engRow c e i m w) c e := by
  obtain ⟨hgo, -⟩ := h.step hy hdo
  refine ⟨fun v => ?_, ?_, ?_, ?_, hgo.quiet⟩
  · rw [hgo.slot]; rfl
  · rw [hgo.slot, hv]; rfl
  · rw [hgo.slot, hv]; rfl
  · rw [hv] at hgo
    exact hgo.goes h.active.1 h.active.2 rfl rfl rfl rfl

/-- A row that puts eight lanes in a vector register. -/
theorem State.slotRuns.vec {i : EngI} {m : MemPort} {w : Nat} {vd : BitVec 3} {ls : List Word} {pc : Word} (h : s.slotRuns c e i)
    (hls : ls.length = 8) (hdo : RowDoes s c e i m w (·.setVec vd ls) pc) :
    EngVec s (s.engRow c e i m w) c e vd ls ∧ EngGoes s (s.engRow c e i m w) c e pc ∧ EngQuiet s (s.engRow c e i m w) c e := by
  obtain ⟨hvec, hg, hcsr, hgo, hq⟩ := h.vecs (timedFree_setVec vd ls) (fun x => x.setVec_rest vd ls) hdo
  exact ⟨⟨fun v => by rw [hvec, EngSlot.vec_setVec _ _ _ _ hls], hg, hcsr⟩, hgo, hq⟩

/-- The lanes of a class 0xC function. -/
def EngSlot.valuLanes (x : EngSlot) (f : ValuOp) (vd va vb : BitVec 3) (shamt : Nat) : List Word :=
  (List.range 8).map (fun l => f.lane (x.lane vd l) (x.lane va l) (x.lane vb l) shamt)

theorem rowDoes_valu {f : ValuOp} {vd va vb : BitVec 3} {shamt : BitVec 4} :
    RowDoes s c e (.valu f vd va vb shamt) {} 0 (·.setVec vd ((s.eng c e).valuLanes f vd va vb shamt.toNat)) ((s.eng c e).pc + 4) :=
  .of (by simp) fun u hu => by
    refine ⟨_, rfl, frame_setVec, ?_, ?_, rfl, by simp, by simp⟩
    · simp [hu.lane, EngSlot.valuLanes]
    · simp [hu.pc]

theorem valu_completes {i : Instr} {f : ValuOp} {vd va vb : BitVec 3} {shamt : BitVec 4} {ls : List Word}
    (h : s.slotRuns c e (.valu f vd va vb shamt)) (hi : exec i s = .next (s.engRow c e (.valu f vd va vb shamt) {} 0))
    (hls : (s.eng c e).valuLanes f vd va vb shamt.toNat = ls) :
    Completes i s (fun t => EngVec s t c e vd ls ∧ EngGoes s t c e ((s.eng c e).pc + 4) ∧ EngQuiet s t c e) := by
  subst hls
  exact .intro hi (h.vec (by simp [EngSlot.valuLanes]) rowDoes_valu)

end

/-! ### The functions of class 0xC in numbers (Table 16.6) -/

theorem satTo_16 (x : Int) : satTo 16 x = max (-0x8000) (min 0x7FFF x) := rfl

theorem satTo_16_zero : satTo 16 0 = 0 := rfl

theorem roundProduct_eq (p : Int) : roundProduct p = max (-0x8000) (min 0x7FFF ((p + 0x4000) / 0x8000)) := rfl

theorem lane_bounds (x : BitVec 16) : -0x8000 ≤ x.toInt ∧ x.toInt ≤ 0x7FFF := by
  have h1 := x.le_toInt
  have h2 := x.toInt_lt
  norm_num at h1 h2
  omega

theorem satTo_16_of_bounds {x : Int} (h : -0x8000 ≤ x ∧ x ≤ 0x7FFF) : satTo 16 x = x := by
  rw [satTo_16]
  omega

theorem satTo_16_laneIm (x : Word) : satTo 16 (laneIm x) = laneIm x := satTo_16_of_bounds (lane_bounds _)

theorem satTo_16_roundProduct (p : Int) : satTo 16 (roundProduct p) = roundProduct p :=
  satTo_16_of_bounds (by rw [roundProduct_eq]; omega)

theorem div_pow_bounds {x : Int} (h : -0x8000 ≤ x ∧ x ≤ 0x7FFF) (n : Nat) : -0x8000 ≤ x / 2 ^ n ∧ x / 2 ^ n ≤ 0x7FFF := by
  have hp : (0 : Int) < 2 ^ n := by positivity
  have h1 : (1 : Int) ≤ 2 ^ n := hp
  refine ⟨?_, ?_⟩
  · rw [Int.le_ediv_iff_mul_le hp]
    nlinarith
  · rw [← Int.lt_add_one_iff, Int.ediv_lt_iff_lt_mul hp]
    nlinarith

/-- Settles O33: each row's effect is its function's eight lanes in vd, or a result in d. -/
theorem vectorRowsPutTheirLanesInVd : Obligations.VectorRowsPutTheirLanesInVd := by
  unfold Obligations.VectorRowsPutTheirLanesInVd
  refine ⟨?_, fun s c e vd va sh h => ?_, fun s c e vd a h => ?_, fun s c e vd a k h => ?_, fun s c e d va k h => ?_,
    fun s c e d va im i h hi => ?_⟩
  · intro s c e vd va vb f i re im h hop
    suffices h' : exec i s = .next (s.engRow c e (.valu f vd va vb 0) {} 0) ∧ ∀ d a b, f.lane d a b 0 =
        BitVec.ofInt 16 (im (laneRe d) (laneIm d) (laneRe a) (laneIm a) (laneRe b) (laneIm b)) ++
          BitVec.ofInt 16 (re (laneRe d) (laneIm d) (laneRe a) (laneIm a) (laneRe b) (laneIm b)) from
      valu_completes h h'.1 (List.map_congr_left fun l _ => h'.2 _ _ _)
    obtain ⟨rfl, rfl, hf⟩ | ⟨rfl, rfl, hf⟩ | ⟨rfl, rfl, hf⟩ | ⟨rfl, rfl, hf⟩ | ⟨rfl, rfl, hf⟩ | ⟨rfl, rfl, rfl, hf⟩ |
      ⟨rfl, rfl, rfl, hf⟩ | ⟨rfl, rfl, rfl, hf⟩ := hop
    all_goals refine ⟨rfl, fun d a b => ?_⟩
    all_goals rw [(hf _ _ _ _ _ _).1, (hf _ _ _ _ _ _).2]
    all_goals simp only [ValuOp.lane, laneOf, satTo_16_laneIm, satTo_16_zero, satTo_16_roundProduct]
    all_goals simp only [satTo_16, roundProduct_eq]
  · refine valu_completes h rfl (List.map_congr_left fun l _ => ?_)
    simp only [ValuOp.lane, laneOf, satTo_16_of_bounds (div_pow_bounds (lane_bounds _) _), laneRe, laneIm]
  · refine .intro rfl (h.vec (by simp) (.of (by simp) fun u hu => ⟨_, rfl, frame_setVec, ?_, ?_, rfl, by simp, by simp⟩))
    · simp [hu.gpr]
    · simp [hu.pc]
  · have hdo : RowDoes s c e (.vins vd a 0 k) {} 0 (·.setLane vd k.toNat ((s.eng c e).gpr a)) ((s.eng c e).pc + 4) :=
      .of (by simp) fun u hu => ⟨_, rfl, frame_setEng rfl, by simp [hu.gpr], by simp [hu.pc], rfl, by simp, by simp⟩
    obtain ⟨hvec, hg, hcsr, hgo, hq⟩ := h.vecs (timedFree_setLane _ _ _) (fun _ => rfl) hdo
    exact .intro rfl ⟨⟨fun v => by rw [hvec, EngSlot.vec_setLane _ _ _ _ k.isLt], hg, hcsr⟩, hgo, hq⟩
  · refine .intro rfl (h.reg (.of (by simp) fun u hu => ⟨_, rfl, frame_engSet, ?_, ?_, rfl, by simp, by simp⟩)).1
    · simp [State.engSet, hu.lane]
    · simp [hu.pc]
  · suffices h' : exec i s = .next (s.engRow c e (.vsum im d va 0) {} 0) by
      refine .intro h' (h.reg (.of (by simp) fun u hu => ⟨_, rfl, frame_engSet, ?_, ?_, rfl, by simp, by simp⟩)).1
      · have hvec : (u.eng c e).vec va = (s.eng c e).vec va := List.map_congr_left fun l _ => hu.lane va l
        simp [State.engSet, hvec, List.sum_eq_foldl, List.foldl_map]
      · simp [hu.pc]
    obtain ⟨rfl, rfl⟩ | ⟨rfl, rfl⟩ := hi <;> rfl

end Sys2Proof.Machine
end

section
/-! How a task traps, goes on and ends (R405–R409, R422, R423), and what its loads, stores and atomics move (R393–R397). -/
open Sys2Proof Sys2Proof.Machine
namespace Sys2Proof.Machine

section
variable {s t u : State} {c : Fin 12} {e : Fin 16}

/-- An instruction that takes effect on from its own result: its PC, its booking, its count and its events. -/
theorem accounts_retire_all {i : EngI} {n : Nat} {f : EngEff} (hfix : f.fixed = none) :
    Accounts c e (fun _ => True) (f.s.setEng c e { (f.s.eng c e) with pc := f.pc }) (State.retire c e i n f) := by
  obtain ⟨a, b, ha, hb, hr⟩ := accounts_retire (c := c) (e := e) (i := i) (n := n) (f := f)
  rw [hfix] at hr
  exact ((ha.mono fun _ _ => trivial).trans (accounts_count (k := 1) (by omega) trivial)).trans
    ((hb.trans hr).accounts.mono fun _ _ => trivial)

theorem retire_cycle {i : EngI} {n : Nat} {f : EngEff} (hfix : f.fixed = none) :
    ((State.retire c e i n f).eng c e).cycle = (f.s.eng c e).cycle := by
  unfold State.retire
  obtain ⟨a, ha, hr⟩ := counts_retireEvents (c := c) (e := e) (P := fun _ => True) (i := i) (f := f)
    (s := (f.s.setEng c e { ((f.s.eng c e).book i n f) with pc := f.pc }).count c e 1 1) fun _ _ => trivial
  rw [hfix] at hr
  have h := ((counts_count (by omega) trivial).trans ha).trans hr
  rw [h.slot, State.setEng_eng]
  rfl

theorem starve_cycle {cyc : Nat} {l : List Nat} : ((s.starve c e cyc l).eng c e).cycle = (s.eng c e).cycle := by
  rw [(counts_starve (P := fun _ => True) fun _ _ => trivial).slot]
  simp [EngSlot.tallied]

/-- NOP and FENCE change nothing but PC and the account. -/
theorem State.slotRuns.keeps {i : EngI} {w : Nat} (h : s.slotRuns c e i) (hdo : RowDoes s c e i {} w id ((s.eng c e).pc + 4)) :
    EngKeepsRegs s (s.engRow c e i {} w) c e ∧ EngGoes s (s.engRow c e i {} w) c e ((s.eng c e).pc + 4) ∧
      EngQuiet s (s.engRow c e i {} w) c e := by
  obtain ⟨hgo, -⟩ := h.step (y := id) (fun _ _ => rfl) hdo
  refine ⟨⟨?_, ?_, ?_⟩, hgo.goes h.active.1 h.active.2 rfl rfl rfl rfl, hgo.quiet⟩
  all_goals rw [hgo.slot]; rfl

theorem nop_completes (h : s.slotRuns c e .nop) :
    Completes (.engNop c e) s (fun t => EngKeepsRegs s t c e ∧ EngGoes s t c e ((s.eng c e).pc + 4) ∧ EngQuiet s t c e ∧
      (t.eng c e).cycle = s.issueCycle c e .nop) := by
  obtain ⟨h1, h2, h3⟩ := h.keeps (i := .nop) (w := 0)
    (.of (by simp) fun u hu => ⟨_, rfl, .refl, rfl, by simp [hu.pc], rfl, by simp, by simp⟩)
  refine .intro rfl ⟨h1, h2, h3, ?_⟩
  obtain ⟨j, u, second, hj, -, hcyc, -, hrow⟩ := h.effect {} 0
  obtain rfl : j = .nop := EngI.eq_of_norm hj rfl
  rw [hrow, issueEffect_ok rfl (by simp) (by simp)]
  unfold State.afterIssue
  rw [if_neg (by simp), if_neg (by simp), retire_cycle rfl]
  exact hcyc

theorem fence_completes (wait : Nat) (h : s.slotRuns c e .fence) :
    Completes (.engFence c e wait) s (fun t => EngKeepsRegs s t c e ∧ EngGoes s t c e ((s.eng c e).pc + 4) ∧ EngQuiet s t c e ∧
      (t.eng c e).cycle = s.issueCycle c e .fence +
        min ((s.eng c e).fenceGap wait (s.issueCycle c e .fence)) (8999 - s.issueCycle c e .fence)) := by
  obtain ⟨h1, h2, h3⟩ := h.keeps (i := .fence) (w := wait) (.of (by simp) fun u hu => ⟨_, rfl, .refl, rfl, by simp [hu.pc], rfl,
    by dsimp only; split <;> omega, by dsimp only; split <;> omega⟩)
  refine .intro rfl ⟨h1, h2, h3, ?_⟩
  obtain ⟨j, u, second, hj, -, hcyc, hmem, hrow⟩ := h.effect {} wait
  obtain rfl : j = .fence := EngI.eq_of_norm hj rfl
  have hgap : (u.eng c e).fenceGap wait (s.issueCycle c e .fence) = (s.eng c e).fenceGap wait (s.issueCycle c e .fence) := by
    unfold EngSlot.fenceGap
    rw [hmem.1, hmem.2]
  rw [hrow, issueEffect_ok rfl (by dsimp only; split <;> omega) (by dsimp only; split <;> omega), hgap]
  unfold State.afterIssue
  dsimp only
  rw [if_neg (by simp)]
  by_cases hg : (s.eng c e).fenceGap wait (s.issueCycle c e .fence) = 0
  · rw [if_pos hg, if_neg (by omega), hg]
    rw [retire_cycle rfl]
    exact hcyc
  · rw [if_neg hg, if_pos rfl, starve_cycle, passTo_cycle]

end

section
variable {s t u : State} {c : Fin 12} {e : Fin 16}

/-- The state of a row's slot after its effect has taken its place, where the effect is the PC's alone. -/
theorem State.slotRuns.retired {i : EngI} {u : State} {f : EngEff} {n : Nat} {pc : Word} (hu : Accounts c e (fun _ => True) s u)
    (hs : f.s = u) (hpc : f.pc = pc) (hfix : f.fixed = none) :
    SlotGoes c e s (State.retire c e i n f) { (s.eng c e) with pc := pc } := by
  have hr := accounts_retire_all (c := c) (e := e) (i := i) (n := n) hfix
  rw [hs, hpc] at hr
  refine ⟨(hu.toCounterFrame.trans frame_pc).trans hr.toCounterFrame, ?_⟩
  rw [hr.slot, State.setEng_eng, hu.slot]
  rfl

theorem SlotGoes.accounts {x : EngSlot} (h : SlotGoes c e s t x) (h' : Accounts c e (fun _ => True) t u) : SlotGoes c e s u x := by
  refine ⟨h.toCounterFrame.trans h'.toCounterFrame, ?_⟩
  rw [h'.slot, h.slot]
  rfl

theorem budgetExceeded_ne (c : Fin 12) (e : Fin 16) {k : Nat} (hk : k / 256 ≠ 0x5400 + 16 * c.val + e.val) :
    k ≠ Obj.budgetExceeded c e := by
  rintro rfl
  simp only [Obj.budgetExceeded, objKey] at hk
  omega

theorem CounterFrame.rdN_budget {P : Nat → Prop} (h : CounterFrame c e P s t) :
    t.rdN (Obj.budgetExceeded c e) = s.rdN (Obj.budgetExceeded c e) := by
  unfold State.rdN
  rw [h.regs]
  · simp only [Obj.budgetExceeded, Obj.counterOverflow, objKey]; omega
  · intro j hj _
    simp only [Obj.budgetExceeded, ctrKey, objKey]; omega

/-- The end of TEND's effect touches the engines alone: the outputs go on their way, and the slot's task is over. -/
theorem tendOp_ends (b : State) (c e n : Nat) : ∃ g,
    ((b.releaseOut c e n).setEng c e { ((b.releaseOut c e n).eng c e) with trapRun := 0, overRun := 0 }).taskOver c e =
      { b with engine := g } ∧
    g.transit = b.engine.transit ++ (b.eng c e).out.map (fun q =>
      ⟨16 * c + e, 0x4000 + q.1, q.2, (b.eng c e).tick, (b.eng c e).tick, n⟩) ∧
    State.eng { b with engine := g } c e =
      { (b.eng c e) with out := [], running := false, waiting := none, trapRun := 0, overRun := 0 } := by
  have heng : (b.releaseOut c e n).eng c e = { (b.eng c e) with out := [] } := State.setEng_eng _ _ _ _
  unfold State.taskOver
  rw [State.setEng_eng, heng]
  exact ⟨_, rfl, rfl, State.setEng_eng _ _ _ _⟩

theorem EngQuiet.engine {b : State} (h : EngQuiet s b c e) (g : EngineSt) : EngQuiet s { b with engine := g } c e := h

/-- What TEND does to a slot that stands as its account says. -/
theorem tendOp_spec {n : Nat} {second : Bool} {pc : Word} (h : SlotGoes c e s u { (s.eng c e) with pc := pc }) :
    EngKeepsRegs s (u.tendOp c e n second) c e ∧ EngQuiet s (u.tendOp c e n second) c e ∧
    ((u.tendOp c e n second).eng c e).running = false ∧ ((u.tendOp c e n second).eng c e).out = [] ∧
    ((u.tendOp c e n second).eng c e).trapRun = 0 ∧ ((u.tendOp c e n second).eng c e).overRun = 0 ∧
    ((u.tendOp c e n second).eng c e).data = (s.eng c e).data ∧
    (u.tendOp c e n second).engine.transit = s.engine.transit ++ (s.eng c e).out.map (fun q =>
      ⟨16 * c.val + e.val, 0x4000 + q.1, q.2, (s.eng c e).tick, (s.eng c e).tick, n⟩) ∧
    (u.tendOp c e n second).rdN (Obj.budgetExceeded c e) = (if ((s.eng c e).cs 0x013).toNat ≤ n
      then (s.rdN (Obj.budgetExceeded c e) + 1) % 2 ^ 64 else s.rdN (Obj.budgetExceeded c e)) := by
  have ha : SlotGoes c e s (u.count c e 2 (if second then 0 else 1)) { (s.eng c e) with pc := pc } :=
    h.accounts (accounts_count (by omega) trivial)
  have hcs : ((u.count c e 2 (if second then 0 else 1)).eng c e).cs 0x013 = (s.eng c e).cs 0x013 := by
    rw [ha.slot]
    rfl
  unfold State.tendOp
  dsimp only
  rw [hcs]
  generalize u.count c e 2 (if second then 0 else 1) = a at *
  have hq : EngQuiet s (if ((s.eng c e).cs 0x013).toNat ≤ n then a.inc (Obj.budgetExceeded c e) else a) c e := by
    obtain ⟨h1, h2, h3, h4, h5⟩ := ha.quiet
    split
    · exact ⟨h1, h2, h3, h4, fun k hk => (State.rd_inc_ne a (budgetExceeded_ne c e hk)).trans (h5 k hk)⟩
    · exact ⟨h1, h2, h3, h4, h5⟩
  have hrd : (if ((s.eng c e).cs 0x013).toNat ≤ n then a.inc (Obj.budgetExceeded c e) else a).rdN (Obj.budgetExceeded c e) =
      if ((s.eng c e).cs 0x013).toNat ≤ n then (s.rdN (Obj.budgetExceeded c e) + 1) % 2 ^ 64 else s.rdN (Obj.budgetExceeded c e) := by
    rw [← ha.toCounterFrame.rdN_budget]
    split
    · exact State.rdN_inc_self a _
    · rfl
  have hengine : (if ((s.eng c e).cs 0x013).toNat ≤ n then a.inc (Obj.budgetExceeded c e) else a).engine = a.engine := by
    split <;> rfl
  generalize (if ((s.eng c e).cs 0x013).toNat ≤ n then a.inc (Obj.budgetExceeded c e) else a) = b at *
  have hslot : b.eng c e = { (s.eng c e) with pc := pc }.timed (b.eng c e) := by
    unfold State.eng
    rw [hengine]
    exact ha.slot
  have htransit : b.engine.transit = s.engine.transit := by rw [hengine, ha.upd]
  obtain ⟨g, hg, htr, heng⟩ := tendOp_ends b c e n
  rw [hg, heng, hslot]
  refine ⟨⟨?_, ?_, ?_⟩, hq.engine g, rfl, rfl, rfl, rfl, rfl, ?_, hrd⟩
  · rw [heng, hslot]; rfl
  · rw [heng, hslot]; rfl
  · rw [heng, hslot]; rfl
  · rw [htr, htransit, hslot]; rfl

theorem tend_completes (h : s.slotRuns c e .tend) :
    Completes (.engTend c e) s (fun t => EngKeepsRegs s t c e ∧ EngQuiet s t c e ∧ (t.eng c e).running = false ∧
      (t.eng c e).out = [] ∧ (t.eng c e).trapRun = 0 ∧ (t.eng c e).overRun = 0 ∧ (t.eng c e).data = (s.eng c e).data ∧
      t.engine.transit = s.engine.transit ++ (s.eng c e).out.map (fun q =>
        ⟨16 * c.val + e.val, 0x4000 + q.1, q.2, (s.eng c e).tick, (s.eng c e).tick, s.issueCycle c e .tend⟩) ∧
      t.rdN (Obj.budgetExceeded c e) = (if ((s.eng c e).cs 0x013).toNat ≤ s.issueCycle c e .tend
        then (s.rdN (Obj.budgetExceeded c e) + 1) % 2 ^ 64 else s.rdN (Obj.budgetExceeded c e))) := by
  obtain ⟨j, u, second, hj, hacc, -, -, hrow⟩ := h.effect {} 0
  obtain rfl : j = .tend := EngI.eq_of_norm hj rfl
  have hu := hacc (fun _ => True) trivial fun _ _ => trivial
  refine .intro (t := s.engRow c e .tend {} 0) rfl ?_
  rw [hrow]
  exact tendOp_spec (pc := (u.eng c e).pc + 4#32) (State.slotRuns.retired hu rfl rfl rfl)

/-- Where a row's instruction traps with no byte lost, it goes on from the trap noted in an accounted state. -/
theorem State.slotRuns.trapsIn {i : EngI} {m : MemPort} {w cause info : Nat} (h : s.slotRuns c e i) (hcause : cause ≠ 8)
    (hdo : ∀ u j, Accounts c e (fun _ => True) s u → j.norm = i.norm → u.engDo c e j m w (s.issueCycle c e i) = .error (cause, info)) :
    ∃ a, Accounts c e (fun _ => True) s a ∧ s.engRow c e i m w =
      (let n := a.trapNoted c e (s.eng c e).pc cause info
       if s.crew c then n.crewTrap c e cause
       else if bitOf ((s.eng c e).cs 0).toNat 1 then n.nestedTrap c e else n.keeperTrap c e) := by
  obtain ⟨j, u, second, hj, hacc, -, -, hrow⟩ := h.effect m w
  have hu := hacc (fun _ => True) trivial fun _ _ => trivial
  have hlost : (u.onlyIf (cause == 8) (fun s => s.readLost c e j info)) = u := if_neg (by simpa using hcause)
  obtain ⟨a, ha, ht⟩ := engTrapAt_eq (s := u) (e := e) (c := c) j (s.eng c e).pc cause info second
  refine ⟨a, hu.trans ha, ?_⟩
  rw [hrow, State.issueEffect, hdo u j hu hj]
  dsimp only
  rw [hlost, ht, hu.toCounterFrame.crew, hu.cs]

theorem trapNoted_eng {a : State} (ha : a.eng c e = (s.eng c e).timed (a.eng c e)) (pc : Word) (cause info : Nat) :
    (a.trapNoted c e pc cause info).eng c e =
      ({ (s.eng c e) with csr := ((((s.eng c e).setCs 1 (BitVec.ofNat 32 cause)).setCs 2 pc).setCs 3 (BitVec.ofNat 32 info)).csr }).timed
        ((a.trapNoted c e pc cause info).eng c e) := by
  simp only [State.trapNoted, State.wrN_eng, State.setEng_eng]
  rw [ha]
  rfl

/-- What a trap of the crew does: the task ends with its outputs stale (R407). -/
theorem crewTrap_spec {n : State} {cause : Nat} :
    ((n.crewTrap c e cause).eng c e).running = false ∧ ((n.crewTrap c e cause).eng c e).out = [] ∧
    (n.crewTrap c e cause).rdN (Obj.traps c e) = (n.rdN (Obj.traps c e) + 1) % 2 ^ 64 ∧
    (n.crewTrap c e cause).engine.transit = n.engine.transit ∧
    (n.rdN (Obj.trapLimit c) ≤ (n.eng c e).trapRun + 1 → (n.crewTrap c e cause).engState c e = 3 ∧
      ⟨0xC0E1, engSource c e, cause, n.core.tick, n.life⟩ ∈ (n.crewTrap c e cause).core.inFlight) ∧
    ((n.eng c e).trapRun + 1 < n.rdN (Obj.trapLimit c) → (n.crewTrap c e cause).engState c e = n.engState c e) := by
  have hlim : Obj.trapLimit c ≠ Obj.traps c e := by simp only [Obj.trapLimit, Obj.traps, objKey]; omega
  have hstate : Obj.traps c e ≠ Obj.engSlotState c e := by simp only [Obj.engSlotState, Obj.traps, objKey]; omega
  unfold State.crewTrap State.taskOver
  dsimp only
  simp only [State.raiseLimitedFor_rdN, State.rdN_inc_ne hlim, State.setEng_rdN]
  split
  · next hle =>
    refine ⟨?_, ?_, ?_, ?_, fun _ => ⟨?_, ?_⟩, fun hlt => absurd hle (by omega)⟩
    · simp [State.engFault]
    · simp [State.engFault]
    · simp [State.engFault, State.wrN_rdN_ne, hstate]
    · simp [State.engFault]
    · simp [State.engFault, State.engState]
    · rw [State.raise_spec]
      refine List.mem_append_right _ (List.mem_singleton.2 ?_)
      simp [State.engFault, State.life]
  · next hle =>
    refine ⟨?_, ?_, ?_, ?_, fun h => absurd h hle, fun _ => ?_⟩
    · simp
    · simp
    · simp
    · simp
    · simp [State.engState, State.rdN_inc_ne, hstate.symm]

end

section
variable {s t u a : State} {c : Fin 12} {e : Fin 16}

theorem engKeys_lt (c : Fin 12) (e : Fin 16) :
    Obj.traps c e < 0x540000 ∧ Obj.trapLimit c < 0x540000 ∧ Obj.engSlotState c e < 0x540000 := by
  simp only [Obj.traps, Obj.trapLimit, Obj.engSlotState, objKey]
  omega

/-- What the noting of a trap in an accounted state leaves of the slot's objects and the engines. -/
theorem trapNoted_leaves (ha : Accounts c e (fun _ => True) s a) (pc : Word) (cause info : Nat) :
    (a.trapNoted c e pc cause info).rdN (Obj.traps c e) = s.rdN (Obj.traps c e) ∧
    (a.trapNoted c e pc cause info).rdN (Obj.trapLimit c) = s.rdN (Obj.trapLimit c) ∧
    (a.trapNoted c e pc cause info).engState c e = s.engState c e ∧
    (a.trapNoted c e pc cause info).engine.transit = s.engine.transit ∧ (a.trapNoted c e pc cause info).core = s.core ∧
    (a.trapNoted c e pc cause info).life = s.life ∧
    ((a.trapNoted c e pc cause info).eng c e).trapRun = (s.eng c e).trapRun := by
  obtain ⟨h1, h2, h3⟩ := engKeys_lt c e
  refine ⟨?_, ?_, ?_, ?_, ?_, ?_, ?_⟩
  · rw [trapNoted_rdN, ha.rdN_below h1]
    all_goals simp only [Obj.traps, Obj.lastTrapcode, Obj.lastTrappc, Obj.lastTrapinfo, objKey]; omega
  · rw [trapNoted_rdN, ha.rdN_below h2]
    all_goals simp only [Obj.trapLimit, Obj.lastTrapcode, Obj.lastTrappc, Obj.lastTrapinfo, objKey]; omega
  · unfold State.engState
    rw [trapNoted_rdN, ha.rdN_below h3]
    all_goals simp only [Obj.engSlotState, Obj.lastTrapcode, Obj.lastTrappc, Obj.lastTrapinfo, objKey]; omega
  · rw [ha.upd]; rfl
  · rw [ha.upd]; rfl
  · rw [ha.upd]; rfl
  · rw [trapNoted_eng ha.slot]; rfl

theorem getLsbD_iff_bitOf (x : Word) : x.getLsbD 1 = bitOf x.toNat 1 := by
  rw [BitVec.getLsbD, Nat.testBit_eq_decide_div_mod_eq]
  rfl

/-- A trap of the keeper out of a trap: the task goes on at the handler, in a trap. -/
theorem keeperTrap_spec {n : State} :
    ((n.keeperTrap c e).eng c e).running = (n.eng c e).running ∧ ((n.keeperTrap c e).eng c e).pc = pcOf ((n.eng c e).cs 4) ∧
    (((n.keeperTrap c e).eng c e).cs 0).getLsbD 1 = true ∧ (n.keeperTrap c e).engState c e = n.engState c e := by
  unfold State.keeperTrap
  dsimp only
  have hacc : Accounts c e (fun _ => True) n.draw.2 ((n.draw.2.passTo c e ((n.eng c e).cycle + min n.draw.1 (8999 - (n.eng c e).cycle)) 2).count c e 3
      (2 * min n.draw.1 (8999 - (n.eng c e).cycle))) := (accounts_passTo trivial).trans (accounts_count (by omega) trivial)
  generalize State.count _ _ _ 3 _ = t at *
  have hs : t.eng c e = (n.eng c e).timed (t.eng c e) := hacc.slot
  refine ⟨?_, ?_, ?_, ?_⟩
  · rw [State.setEng_eng, hs]; rfl
  · rw [State.setEng_eng]
  · have hcs : ({ ((t.eng c e).setCs 0 ((n.eng c e).cs 0 ||| 2)) with pc := pcOf ((n.eng c e).cs 4) } : EngSlot).cs 0 =
        (n.eng c e).cs 0 ||| 2 := (EngSlot.cs_setCs (t.eng c e) 0 0 _).trans (if_pos rfl)
    rw [State.setEng_eng, hcs, BitVec.getLsbD_or]
    simp
  · rw [State.engState, State.setEng_rdN, hacc.rdN_below (engKeys_lt c e).2.2]; rfl

/-- A trap of the keeper in a trap: the slot is FAULTED. -/
theorem nestedTrap_spec {n : State} : ((n.nestedTrap c e).eng c e).running = false ∧ (n.nestedTrap c e).engState c e = 3 := by
  simp [State.nestedTrap, State.engFault, State.taskOver, State.engState]

theorem engDo_trap {i : EngI} {code : BitVec 6} (hi : i = .trap code) :
    ∀ u j, Accounts c e (fun _ => True) s u → j.norm = i.norm →
      u.engDo c e j {} 0 (s.issueCycle c e i) = .error (9, code.toNat) := by
  rintro u j - hj
  subst hi
  obtain rfl : j = .trap code := EngI.eq_of_norm hj rfl
  rfl

/-- A row that traps in crew mode ends its task. -/
theorem State.slotRuns.crewEnds {i : EngI} {m : MemPort} {w cause info : Nat} (h : s.slotRuns c e i) (hcause : cause ≠ 8)
    (hcrew : s.crew c = true)
    (hdo : ∀ u j, Accounts c e (fun _ => True) s u → j.norm = i.norm → u.engDo c e j m w (s.issueCycle c e i) = .error (cause, info)) :
    ∃ n : State, s.engRow c e i m w = n.crewTrap c e cause ∧ n.rdN (Obj.traps c e) = s.rdN (Obj.traps c e) ∧
      n.rdN (Obj.trapLimit c) = s.rdN (Obj.trapLimit c) ∧ n.engState c e = s.engState c e ∧
      n.engine.transit = s.engine.transit ∧ n.core = s.core ∧ n.life = s.life ∧ (n.eng c e).trapRun = (s.eng c e).trapRun := by
  obtain ⟨a, ha, hrow⟩ := h.trapsIn hcause hdo
  exact ⟨_, hrow.trans (if_pos hcrew), trapNoted_leaves ha _ _ _⟩

theorem trap_completes_crew {code : BitVec 6} (h : s.slotRuns c e (.trap code)) (hcrew : s.crew c = true) :
    Completes (.engTrap c e code) s (fun t => (t.eng c e).running = false ∧ (t.eng c e).out = [] ∧ (t.eng c e).cs 1 = 9 ∧
      (t.eng c e).cs 2 = (s.eng c e).pc ∧ (t.eng c e).cs 3 = BitVec.ofNat 32 code.toNat ∧
      (t.eng c e).g = (s.eng c e).g ∧ (t.eng c e).v = (s.eng c e).v ∧ (t.eng c e).data = (s.eng c e).data ∧
      t.rdN (Obj.lastTrapcode c e) = 9 ∧ t.rdN (Obj.lastTrapinfo c e) = code.toNat ∧
      t.rdN (Obj.traps c e) = (s.rdN (Obj.traps c e) + 1) % 2 ^ 64 ∧ t.engine.transit = s.engine.transit ∧
      (s.rdN (Obj.trapLimit c) ≤ (s.eng c e).trapRun + 1 → t.engState c e = 3 ∧
        ⟨0xC0E1, engSource c e, 9, s.core.tick, s.life⟩ ∈ t.core.inFlight) ∧
      ((s.eng c e).trapRun + 1 < s.rdN (Obj.trapLimit c) → t.engState c e = s.engState c e)) := by
  have ht := h.trapRow (engDo_trap rfl)
  obtain ⟨n, hrow, htraps, hlimit, hstate, htransit, hcore, hlife, hrun⟩ := h.crewEnds (by omega) hcrew (engDo_trap rfl)
  obtain ⟨h1, h2, h3, h4, h5, h6⟩ := crewTrap_spec (c := c) (e := e) (n := n) (cause := 9)
  rw [htraps] at h3
  rw [htransit] at h4
  rw [hlimit, hrun, hcore, hlife] at h5
  rw [hlimit, hrun, hstate] at h6
  rw [← hrow] at h1 h2 h3 h4 h5 h6
  exact .intro rfl ⟨h1, h2, ht.cs1, ht.cs2, ht.cs3, ht.g, ht.v, ht.data, ht.code, ht.info, h3, h4, h5, h6⟩

theorem trap_completes_keeper {code : BitVec 6} (h : s.slotRuns c e (.trap code)) (hcrew : s.crew c = false)
    (hbit : ((s.eng c e).cs 0).getLsbD 1 = false) :
    Completes (.engTrap c e code) s (fun t => (t.eng c e).running = true ∧ (t.eng c e).pc = pcOf ((s.eng c e).cs 4) ∧
      (t.eng c e).cs 1 = 9 ∧ (t.eng c e).cs 2 = (s.eng c e).pc ∧ ((t.eng c e).cs 0).getLsbD 1 = true ∧
      (t.eng c e).g = (s.eng c e).g ∧ t.engState c e = s.engState c e) := by
  have ht := h.trapRow (engDo_trap rfl)
  obtain ⟨a, ha, hrow⟩ := h.trapsIn (by omega) (engDo_trap rfl)
  obtain ⟨-, -, hstate, -⟩ := trapNoted_leaves ha (s.eng c e).pc 9 code.toNat
  have heng := trapNoted_eng ha.slot (s.eng c e).pc 9 code.toNat
  rw [getLsbD_iff_bitOf] at hbit
  simp only [hcrew, hbit, Bool.false_eq_true, if_false] at hrow
  obtain ⟨h1, h2, h3, h4⟩ := keeperTrap_spec (c := c) (e := e) (n := a.trapNoted c e (s.eng c e).pc 9 code.toNat)
  rw [← hrow] at h1 h2 h3 h4
  refine .intro rfl ⟨?_, ?_, ht.cs1, ht.cs2, h3, ht.g, h4.trans hstate⟩
  · rw [h1, heng]
    exact h.active.1
  · have hcs : ((a.trapNoted c e (s.eng c e).pc 9 code.toNat).eng c e).cs 4 = (s.eng c e).cs 4 := by
      rw [heng]
      simp [EngSlot.cs, EngSlot.setCs, EngSlot.timed, tget_tset]
    rw [h2, hcs]

theorem trap_completes_nested {code : BitVec 6} (h : s.slotRuns c e (.trap code)) (hcrew : s.crew c = false)
    (hbit : ((s.eng c e).cs 0).getLsbD 1 = true) :
    Completes (.engTrap c e code) s (fun t => (t.eng c e).running = false ∧ t.engState c e = 3 ∧
      t.rdN (Obj.lastTrapcode c e) = 9) := by
  have ht := h.trapRow (engDo_trap rfl)
  obtain ⟨a, ha, hrow⟩ := h.trapsIn (by omega) (engDo_trap rfl)
  rw [getLsbD_iff_bitOf] at hbit
  simp only [hcrew, hbit, Bool.false_eq_true, if_false, if_true] at hrow
  obtain ⟨h1, h2⟩ := nestedTrap_spec (c := c) (e := e) (n := a.trapNoted c e (s.eng c e).pc 9 code.toNat)
  rw [← hrow] at h1 h2
  exact .intro rfl ⟨h1, h2, ht.code⟩

theorem Accounts.crew_eq (hu : Accounts c e (fun _ => True) s u) : u.crew c = s.crew c := hu.toCounterFrame.crew

theorem CounterFrame.withCore {P : Nat → Prop} (h : CounterFrame c e P s u) (k : CoreSt) :
    CounterFrame c e P { s with core := k } { u with core := k } where
  upd := by conv_lhs => rw [h.upd]
  regs := h.regs
  other := h.other
  preset := h.preset

/-- HALT of the keeper faults the slot, and what it holds back is lost. -/
theorem halt_completes (h : s.slotRuns c e .halt) (hcrew : s.crew c = false) :
    Completes (.engHalt c e) s (fun t => EngKeepsRegs s t c e ∧ (t.eng c e).running = false ∧ t.engState c e = 3 ∧
      (t.eng c e).out = [] ∧ t.engine.transit = s.engine.transit ∧ t.core = s.core) := by
  obtain ⟨j, u, second, hj, hacc, -, -, hrow⟩ := h.effect {} 0
  obtain rfl : j = .halt := EngI.eq_of_norm hj rfl
  have hu := hacc (fun _ => True) trivial fun _ _ => trivial
  have hdo : u.engDo c e .halt {} 0 (s.issueCycle c e .halt) = .ok { s := u, pc := (u.eng c e).pc + 4#32, fin := 2 } :=
    if_neg (by rw [hu.crew_eq, hcrew]; simp)
  have hret := State.slotRuns.retired (i := .halt) (n := s.issueCycle c e .halt) hu (f :=
    { s := u, pc := (u.eng c e).pc + 4#32, fin := 2 }) rfl rfl rfl
  refine .intro (t := s.engRow c e .halt {} 0) rfl ?_
  rw [hrow, State.issueEffect, hdo]
  dsimp only
  rw [if_neg (by omega), if_pos rfl]
  generalize State.retire _ _ _ _ _ = r at *
  have hst : Counts c e (fun _ => True) r (r.starve c e (s.issueCycle c e .halt) [6]) := counts_starve fun _ _ => trivial
  have hgo := hret.accounts (Counts.onlyIf (b := !second) (f := fun s' => s'.starve c e (s.issueCycle c e .halt) [6]) hst).accounts
  generalize State.onlyIf _ _ _ = t at *
  unfold State.engFault State.taskOver
  refine ⟨⟨?_, ?_, ?_⟩, ?_, ?_, ?_, ?_, ?_⟩
  all_goals simp only [State.wrN_eng, State.setEng_eng, State.engState, State.wrN_rdN_self, State.wrN_engine, State.setEng_transit,
    State.wrN_core, State.setEng_core]
  · rw [hgo.slot]; rfl
  · rw [hgo.slot]; rfl
  · rw [hgo.slot]; rfl
  · rw [hgo.upd]
  · rw [hgo.upd]

theorem resume_completes (h : s.slotRuns c e .resume) (hcrew : s.crew c = false) :
    Completes (.engResume c e) s (fun t => EngGoes s t c e (pcOf ((s.eng c e).cs 2)) ∧ (t.eng c e).g = (s.eng c e).g ∧
      (∀ n, (t.eng c e).cs n = if n = 0 then (s.eng c e).cs 0 &&& ~~~2#32 else (s.eng c e).cs n) ∧
      (∀ k, k / 256 ≠ 0x5400 + 16 * c.val + e.val → t.rd k = s.rd k)) := by
  obtain ⟨j, u, second, hj, hacc, -, -, hrow⟩ := h.effect {} 0
  obtain rfl : j = .resume := EngI.eq_of_norm hj rfl
  have hu := hacc (fun _ => True) trivial fun _ _ => trivial
  obtain ⟨f, hdo, hs, hpc, hfix, h1, h2⟩ : ∃ f, u.engDo c e .resume {} 0 (s.issueCycle c e .resume) = .ok f ∧
      f.s = u.draw.2.setEng c e ((u.eng c e).setCs 0 ((s.eng c e).cs 0 &&& ~~~2#32)) ∧ f.pc = pcOf ((s.eng c e).cs 2) ∧
      f.fixed = none ∧ f.fin ≠ 1 ∧ f.fin ≠ 2 := by
    rw [← hu.cs, ← hu.cs]
    exact ⟨_, if_neg (by rw [hu.crew_eq, hcrew]; decide), rfl, rfl, rfl, by simp, by simp⟩
  refine .intro (t := s.engRow c e .resume {} 0) rfl ?_
  have ht := (accounts_retire_all (c := c) (e := e) (i := .resume) (n := s.issueCycle c e .resume) hfix).trans
    ((accounts_afterIssue (i := .resume) (next := (s.eng c e).pc + 4#32) (n := s.issueCycle c e .resume)
      (gap := (s.eng c e).fenceGap 0 (s.issueCycle c e .resume)) (second := second) (f := f)).mono fun _ _ => trivial)
  rw [← issueEffect_ok hdo h1 h2, ← hrow, hs, hpc, State.setEng_eng] at ht
  have hgo : SlotGoes c e { s with core := u.draw.2.core } (s.engRow c e .resume {} 0)
      { (s.eng c e).setCs 0 ((s.eng c e).cs 0 &&& ~~~2#32) with pc := pcOf ((s.eng c e).cs 2) } := by
    have h1 : CounterFrame c e (fun _ => True) u.draw.2 (u.draw.2.setEng c e ((u.eng c e).setCs 0 ((s.eng c e).cs 0 &&& ~~~2#32))) :=
      frame_setEng rfl
    have h2 : CounterFrame c e (fun _ => True) _ ((u.draw.2.setEng c e ((u.eng c e).setCs 0 ((s.eng c e).cs 0 &&& ~~~2#32))).setEng c e
        { (u.eng c e).setCs 0 ((s.eng c e).cs 0 &&& ~~~2#32) with pc := pcOf ((s.eng c e).cs 2) }) := frame_setEng (by
      rw [State.setEng_eng])
    refine ⟨((hu.toCounterFrame.withCore u.draw.2.core).trans (h1.trans h2)).trans ht.toCounterFrame, ?_⟩
    rw [ht.slot, State.setEng_eng, hu.slot]
    rfl
  obtain ⟨-, -, -, -, hregs⟩ := hgo.quiet
  refine ⟨hgo.goes h.active.1 h.active.2 rfl rfl rfl rfl, ?_, fun n => ?_, hregs⟩
  · rw [hgo.slot]; rfl
  · rw [hgo.slot]
    exact (EngSlot.cs_setCs _ _ _ _)

/-- RESUME and HALT of the crew trap with PRIVILEGE. -/
theorem privilege_completes {i : Instr} {j : EngI} (h : s.slotRuns c e j) (hcrew : s.crew c = true)
    (hij : (i = .engResume c e ∧ j = .resume) ∨ (i = .engHalt c e ∧ j = .halt)) :
    Completes i s (fun t => (t.eng c e).running = false ∧ (t.eng c e).cs 1 = 2 ∧ (t.eng c e).cs 2 = (s.eng c e).pc ∧
      (t.eng c e).g = (s.eng c e).g) := by
  have hrow : exec i s = .next (s.engRow c e j {} 0) := by obtain ⟨rfl, rfl⟩ | ⟨rfl, rfl⟩ := hij <;> rfl
  have hfull : j.full = true := by obtain ⟨-, rfl⟩ | ⟨-, rfl⟩ := hij <;> rfl
  have hdo : ∀ u j', Accounts c e (fun _ => True) s u → j'.norm = j.norm →
      u.engDo c e j' {} 0 (s.issueCycle c e j) = .error (2, 0) := by
    intro u j' hu hj
    obtain rfl : j' = j := EngI.eq_of_norm hj hfull
    have hc : u.crew c = true := hu.crew_eq.trans hcrew
    obtain ⟨-, rfl⟩ | ⟨-, rfl⟩ := hij <;> exact if_pos hc
  have ht := h.trapRow hdo
  obtain ⟨n, hn, -⟩ := h.crewEnds (by omega) hcrew hdo
  exact .intro hrow ⟨by rw [hn]; exact crewTrap_spec.1, ht.cs1, ht.cs2, ht.g⟩

/-! ### Fetches that trap -/

/-- The fetch at PC traps: PC is outside instruction memory, a byte there is lost, or the word is no instruction (R408). -/
def FetchTraps (s : State) (c e cause info : Nat) : Prop :=
  (0x10000 ≤ (s.eng c e).pc.toNat ∧ cause = 4 ∧ info = (s.eng c e).pc.toNat) ∨
  ((s.eng c e).pc.toNat < 0x10000 ∧ s.engLost c e (s.eng c e).pc.toNat 4 = true ∧ cause = 8 ∧ info = (s.eng c e).pc.toNat) ∨
  ((s.eng c e).pc.toNat < 0x10000 ∧ s.engLost c e (s.eng c e).pc.toNat 4 = false ∧ s.crew c = true ∧
    engDecode (s.engFetch c e) = none ∧ cause = 1 ∧ info = (s.engFetch c e).toNat)

theorem engRow_trap (hact : (s.eng c e).active = true) (hissue : s.issueCycle c e .nop < 9000) {cause info : Nat}
    (h : FetchTraps s c e cause info) :
    ∃ second, s.engRow c e .nop {} 0 = ((s.atIssue c e .nop).onlyIf (cause == 8) (fun s => s.readLost c e .nop info)).engTrapAt c e .nop
      (s.eng c e).pc cause info second := by
  have h9 : ¬ 9000 ≤ ((s.eng c e).issueAt .nop).1 := by simpa [State.issueCycle] using hissue
  refine ⟨((s.eng c e).issueAt .nop).2.1, ?_⟩
  unfold State.engRow State.atIssue
  dsimp only
  rw [if_neg (by simp [hact])]
  obtain ⟨hpc, rfl, rfl⟩ | ⟨hpc, hlost, rfl, rfl⟩ | ⟨hpc, hlost, hcrew, hdec, rfl, rfl⟩ := h
  · rw [if_pos hpc, if_neg h9]
  · rw [if_neg (by omega), if_pos hlost, if_neg h9]
  · rw [if_neg (by omega), if_neg (by simp [hlost])]
    simp only [hcrew, Bool.not_true, Bool.false_and, Bool.false_eq_true, if_false, hdec]
    rw [if_neg h9]

theorem engRow_trapped (hact : (s.eng c e).active = true) (hissue : s.issueCycle c e .nop < 9000) {cause info : Nat}
    (h : FetchTraps s c e cause info) :
    Trapped c e s (s.engRow c e .nop {} 0) cause info := by
  obtain ⟨second, hrow⟩ := engRow_trap hact hissue h
  have hu : Accounts c e (fun _ => True) s (s.atIssue c e .nop) := accounts_atIssue trivial fun _ _ => trivial
  have heng : ((s.atIssue c e .nop).onlyIf (cause == 8) (fun s => s.readLost c e .nop info)).engine = (s.atIssue c e .nop).engine := by
    unfold State.onlyIf
    split
    · exact readLost_engine _ _
    · rfl
  rw [hrow]
  refine trapped_engTrapAt ?_ ?_
  · unfold State.eng
    rw [heng]
    exact hu.slot
  · rw [heng, hu.upd]

end

section
variable {s t u a : State} {c : Fin 12} {e : Fin 16}

theorem illegal_completes (hcrew : s.crew c = true) (hact : (s.eng c e).active = true) (hpc : (s.eng c e).pc.toNat < 0x10000)
    (hlost : s.engLost c e (s.eng c e).pc.toNat 4 = false) (hdec : engDecode (s.engFetch c e) = none)
    (hissue : s.issueCycle c e .nop < 9000) :
    Completes (.engNop c e) s (fun t => (t.eng c e).running = false ∧ (t.eng c e).cs 1 = 1 ∧
      (t.eng c e).cs 2 = (s.eng c e).pc ∧ (t.eng c e).cs 3 = s.engFetch c e) := by
  have hfault : FetchTraps s c e 1 (s.engFetch c e).toNat := .inr (.inr ⟨hpc, hlost, hcrew, hdec, rfl, rfl⟩)
  have ht := engRow_trapped hact hissue hfault
  obtain ⟨second, hrow⟩ := engRow_trap hact hissue hfault
  have hu : Accounts c e (fun _ => True) s (s.atIssue c e .nop) := accounts_atIssue trivial fun _ _ => trivial
  obtain ⟨a, -, htrap⟩ := engTrapAt_eq (s := s.atIssue c e .nop) (e := e) (c := c) .nop (s.eng c e).pc 1 (s.engFetch c e).toNat second
  refine .intro rfl ⟨?_, ht.cs1, ht.cs2, ?_⟩
  · rw [hrow]
    have honly : (s.atIssue c e .nop).onlyIf (1 == 8) (fun s' => s'.readLost c e .nop (s.engFetch c e).toNat) = s.atIssue c e .nop := rfl
    rw [honly, htrap]
    dsimp only
    rw [if_pos (hu.crew_eq.trans hcrew)]
    exact crewTrap_spec.1
  · rw [ht.cs3, BitVec.ofNat_toNat, BitVec.setWidth_eq]

theorem unfetched_completes (hact : (s.eng c e).active = true) (hissue : s.issueCycle c e .nop < 9000)
    (h : 0x10000 ≤ (s.eng c e).pc.toNat ∨ s.engLost c e (s.eng c e).pc.toNat 4 = true) :
    Completes (.engNop c e) s (fun t => (t.eng c e).cs 1 = (if 0x10000 ≤ (s.eng c e).pc.toNat then 4 else 8) ∧
      (t.eng c e).cs 2 = (s.eng c e).pc ∧ (t.eng c e).cs 3 = (s.eng c e).pc ∧ (t.eng c e).g = (s.eng c e).g) := by
  have hinfo : BitVec.ofNat 32 (s.eng c e).pc.toNat = (s.eng c e).pc := by rw [BitVec.ofNat_toNat, BitVec.setWidth_eq]
  by_cases hpc : 0x10000 ≤ (s.eng c e).pc.toNat
  · have ht := engRow_trapped hact hissue (.inl ⟨hpc, rfl, rfl⟩)
    exact .intro rfl ⟨by rw [if_pos hpc]; exact ht.cs1, ht.cs2, ht.cs3.trans hinfo, ht.g⟩
  · have ht := engRow_trapped hact hissue (.inr (.inl ⟨by omega, h.resolve_left hpc, rfl, rfl⟩))
    exact .intro rfl ⟨by rw [if_neg hpc]; exact ht.cs1, ht.cs2, ht.cs3.trans hinfo, ht.g⟩

/-! ### Overrun (R422, R423) -/

/-- What a return of MWAIT leaves of a slot. -/
structure Waited (x y : EngSlot) : Prop where
  keeps : x.waiting = none → y = x
  v : y.v = x.v
  csr : y.csr = x.csr
  run : y.overRun = x.overRun
  out : y.out = x.out
  gpr : ∀ d mask, x.waiting = some (d, mask) → ∀ r, r ≠ d → y.gpr r = x.gpr r

theorem mwaitReturn_slot : ∃ x, SlotGoes c e s (s.mwaitReturn c e) x ∧ Waited (s.eng c e) x := by
  have hself : SlotGoes c e s s (s.eng c e) ∧ Waited (s.eng c e) (s.eng c e) :=
    ⟨⟨.refl, rfl⟩, fun _ => rfl, rfl, rfl, rfl, rfl, fun _ _ _ _ _ => rfl⟩
  unfold State.mwaitReturn
  dsimp only
  split
  · exact ⟨_, hself⟩
  · next d mask hw =>
    split
    · exact ⟨_, hself⟩
    · have hst {s : State} {cyc : Nat} {l : List Nat} : Accounts c e (fun _ => True) s (s.starve c e cyc l) :=
        (counts_starve fun _ _ => trivial).accounts
      have hacc (l l' : List Nat) (n k : Nat) : Accounts c e (fun _ => True) s
          (((s.starve c e k l).passTo c e n 2).starve c e n l') := (hst.trans (accounts_passTo trivial)).trans hst
      generalize max ((s.eng c e).cycle + 1) _ = rc
      have ha := hacc (if (s.eng c e).used = 1 then [1] else []) (List.replicate (2 * (rc - 1 - (s.eng c e).cycle)) 1) (rc - 1)
        (s.eng c e).cycle
      generalize State.starve _ c e (rc - 1) _ = a at *
      generalize BitVec.ofNat 32 _ = v
      refine ⟨({ (s.eng c e) with waiting := none } : EngSlot).setGpr d v, ⟨ha.toCounterFrame.trans (frame_setEng ?_), ?_⟩,
        ⟨fun h => absurd h (by rw [hw]; simp), ?_, ?_, ?_, ?_, ?_⟩⟩
      · exact (timedFree_setGpr d v).preset _
      · rw [State.setEng_eng, ha.slot]
        have hy := timedFree_setGpr d v { (s.eng c e) with waiting := none } (a.eng c e)
        exact hy.trans (congrArg (EngSlot.timed _) hy).symm
      · rw [EngSlot.setGpr_rest]
      · rw [EngSlot.setGpr_rest]
      · rw [EngSlot.setGpr_rest]
      · rw [EngSlot.setGpr_rest]
      · intro d' mask' h r hr
        obtain ⟨rfl, -⟩ : d = d' ∧ mask = mask' := by simpa using hw.symm.trans h
        exact (EngSlot.gpr_setGpr _ _ _ _).trans (if_neg fun h => hr h.1)

theorem raiseLimited_stands (code source n : Nat) : (s.raiseLimited code source n).engine = s.engine ∧
    (s.raiseLimited code source n).core.tick = s.core.tick ∧ (s.raiseLimited code source n).life = s.life ∧
    ∀ k, (s.raiseLimited code source n).rdN k = s.rdN k := by
  unfold State.raiseLimited
  simp

/-- The overrun of a task that stands as x: it is counted and its outputs are stale. -/
def State.overrunNoted (s : State) (c e : Nat) : State :=
  let s := s.inc (Obj.slotOverruns c e)
  let s := match s.partOf c with
    | some p => s.onlyIf (s.crew c) (fun s => s.inc (Obj.partOverruns p))
    | none => s
  let s := s.raiseLimited 0x80E4 (engSource c e) 1
  s.each (List.range 4) (fun s' p => s'.incBy (Obj.staleRingEntries p) ((s.eng c e).out.countP (fun q => decide (q.1 = 16 + p))))

theorem partOverrun_stands (c : Nat) :
    let u := match s.partOf c with
      | some p => s.onlyIf (s.crew c) (fun s => s.inc (Obj.partOverruns p))
      | none => s
    u.engine = s.engine ∧ u.core.tick = s.core.tick ∧ u.life = s.life ∧ ∀ k, (∀ p, k ≠ Obj.partOverruns p) → u.rdN k = s.rdN k := by
  dsimp only
  split
  · unfold State.onlyIf
    split
    · exact ⟨rfl, rfl, rfl, fun k hk => State.rdN_inc_ne (hk _)⟩
    · exact ⟨rfl, rfl, rfl, fun _ _ => rfl⟩
  · exact ⟨rfl, rfl, rfl, fun _ _ => rfl⟩

theorem State.rdN_incBy_ne {k j n : Nat} (h : j ≠ k) : (s.incBy k n).rdN j = s.rdN j := by
  rw [State.rdN, State.rd_incBy_ne s n h, State.rdN]

theorem staleEach_stands (n : Nat → Nat) :
    let u := s.each (List.range 4) (fun s' p => s'.incBy (Obj.staleRingEntries p) (n p))
    u.engine = s.engine ∧ u.core.tick = s.core.tick ∧ u.life = s.life ∧
      (∀ k, (∀ p, k ≠ Obj.staleRingEntries p) → u.rdN k = s.rdN k) ∧
      ∀ p, p < 4 → u.rdN (Obj.staleRingEntries p) = (s.rdN (Obj.staleRingEntries p) + n p) % 2 ^ 64 := by
  have hr : List.range 4 = [0, 1, 2, 3] := rfl
  have hne {p q : Nat} (h : p ≠ q) : Obj.staleRingEntries p ≠ Obj.staleRingEntries q := by
    simp only [Obj.staleRingEntries, objKey]
    omega
  simp only [State.each, hr, List.foldl_cons, List.foldl_nil]
  refine ⟨rfl, rfl, rfl, fun k hk => ?_, fun p hp => ?_⟩
  · simp [State.rdN_incBy_ne, hk]
  · interval_cases p <;> simp [State.rdN_incBy_ne, hne]

theorem overrunNoted_stands (c : Fin 12) (e : Fin 16) :
    (s.overrunNoted c e).engine = s.engine ∧ (s.overrunNoted c e).core.tick = s.core.tick ∧ (s.overrunNoted c e).life = s.life ∧
    (s.overrunNoted c e).rdN (Obj.slotOverruns c e) = (s.rdN (Obj.slotOverruns c e) + 1) % 2 ^ 64 ∧
    (s.overrunNoted c e).rdN (Obj.trapLimit c) = s.rdN (Obj.trapLimit c) ∧
    (s.overrunNoted c e).engState c e = s.engState c e ∧ (s.overrunNoted c e).crew c = s.crew c ∧
    ∀ p, p < 4 → (s.overrunNoted c e).rdN (Obj.staleRingEntries p) = (s.rdN (Obj.staleRingEntries p) +
      (s.eng c e).out.countP (fun q => decide (q.1 = 16 + p))) % 2 ^ 64 := by
  obtain ⟨e1, t1, l1, k1⟩ := partOverrun_stands (s := s.inc (Obj.slotOverruns c e)) c
  unfold State.overrunNoted
  dsimp only
  generalize (match (s.inc (Obj.slotOverruns c e)).partOf c with
    | some p => _
    | none => _) = u at *
  obtain ⟨e2, t2, l2, k2⟩ := raiseLimited_stands (s := u) 0x80E4 (engSource c e) 1
  generalize u.raiseLimited 0x80E4 (engSource c e) 1 = v at *
  have heng : v.eng c e = s.eng c e := by unfold State.eng; rw [e2, e1]; rfl
  rw [heng]
  obtain ⟨e3, t3, l3, k3, h3⟩ := staleEach_stands (s := v) fun p => (s.eng c e).out.countP (fun q => decide (q.1 = 16 + p))
  generalize v.each (List.range 4) _ = w at *
  have hkeep {k : Nat} (hover : k ≠ Obj.slotOverruns c e) (hpart : ∀ p, k ≠ Obj.partOverruns p)
      (hstale : ∀ p, k ≠ Obj.staleRingEntries p) : w.rdN k = s.rdN k := by
    rw [k3 k hstale, k2, k1 k hpart, State.rdN_inc_ne hover]
  refine ⟨e3.trans (e2.trans e1), t3.trans (t2.trans t1), l3.trans (l2.trans l1), ?_, hkeep ?_ ?_ ?_, hkeep ?_ ?_ ?_,
    congrArg (· == 1) (hkeep ?_ ?_ ?_), fun p hp => ?_⟩
  · rw [k3, k2, k1, State.rdN_inc_self]
    all_goals intro p; simp only [Obj.slotOverruns, Obj.partOverruns, Obj.staleRingEntries, objKey]; omega
  · simp only [Obj.slotOverruns, Obj.trapLimit, objKey]; omega
  · simp only [Obj.partOverruns, Obj.trapLimit, objKey]; omega
  · simp only [Obj.staleRingEntries, Obj.trapLimit, objKey]; omega
  · simp only [Obj.slotOverruns, Obj.engSlotState, objKey]; omega
  · simp only [Obj.partOverruns, Obj.engSlotState, objKey]; omega
  · simp only [Obj.staleRingEntries, Obj.engSlotState, objKey]; omega
  · simp only [Obj.slotOverruns, Obj.clusterMode, objKey]; omega
  · simp only [Obj.partOverruns, Obj.clusterMode, objKey]; omega
  · simp only [Obj.staleRingEntries, Obj.clusterMode, objKey]; omega
  · have hk : w.rdN (Obj.staleRingEntries p) = (v.rdN (Obj.staleRingEntries p) + _) % 2 ^ 64 := h3 p hp
    rw [hk, k2, k1, State.rdN_inc_ne]
    · simp only [Obj.slotOverruns, Obj.staleRingEntries, objKey]; omega
    · intro q; simp only [Obj.partOverruns, Obj.staleRingEntries, objKey]; omega

end

section
variable {s t u a : State} {c : Fin 12} {e : Fin 16}

/-- The cut of a task at its overrun: its outputs are dropped, and the overruns in a row counted (R423). -/
def State.overrunCut (s : State) (c e k : Nat) : State :=
  let s := (s.setEng c e { (s.eng c e) with out := [] }).taskOver c e
  s.setEng c e { (s.eng c e) with overRun := k, trapRun := 0 }

/-- The end of an overrun after it is noted: the task is cut, and in crew mode the trap limit holds (R423). -/
def State.overrunEnds (s : State) (c e k : Nat) : State :=
  let s := s.overrunCut c e k
  if s.crew c && decide (s.rdN (Obj.trapLimit c) ≤ k) then (s.engFault c e).raise 0xC0E1 (engSource c e) 0xFF else s

/-- The state in which an overrun is noted: the wait of MWAIT has ended, and the cycles up to cs.phase 8,999 are accounted. -/
theorem tickOverrun_eq (hrun : (s.eng c e).running = true) :
    ∃ x a, SlotGoes c e s a x ∧ Waited (s.eng c e) x ∧
      exec (.tickOverrun c e) s = .next ((a.overrunNoted c e).overrunEnds c e (x.overRun + 1)) := by
  obtain ⟨x, hx, hw⟩ := mwaitReturn_slot (s := s) (c := c) (e := e)
  have hst {s : State} {cyc : Nat} {l : List Nat} : Accounts c e (fun _ => True) s (s.starve c e cyc l) :=
    (counts_starve fun _ _ => trivial).accounts
  have hacc (m : State) (l l' : List Nat) (n : Nat) : Accounts c e (fun _ => True) m
      ((((m.starve c e n l).passTo c e 8999 2).starve c e 8999 l').event c e 15 1) :=
    ((hst.trans (accounts_passTo trivial)).trans hst).trans (counts_event fun _ _ => trivial).accounts
  have hover : ((s.mwaitReturn c e).eng c e).overRun = x.overRun := by rw [hx.slot]; rfl
  refine ⟨x, _, hx.accounts (hacc (s.mwaitReturn c e) (((s.mwaitReturn c e).overrunCauses c e).take (2 - ((s.mwaitReturn c e).eng c e).used))
    (((s.mwaitReturn c e).overrunCauses c e).drop (2 - ((s.mwaitReturn c e).eng c e).used)) ((s.mwaitReturn c e).eng c e).cycle), hw, ?_⟩
  show execTickOverrun c e s = _
  unfold execTickOverrun
  rw [if_neg (by simp [hrun])]
  rw [← hover]
  clear hacc hst hx hw hover
  generalize s.mwaitReturn c e = m
  extract_lets y causes s1 s2
  exact (apply_ite Host.Outcome.next _ _ _).symm

/-- The cut of a task touches its slot alone. -/
theorem overrunCut_spec (n : State) (c e k : Nat) : ∃ g, n.overrunCut c e k = { n with engine := g } ∧
    g.transit = n.engine.transit ∧ State.eng { n with engine := g } c e =
      { (n.eng c e) with out := [], running := false, waiting := none, overRun := k, trapRun := 0 } := by
  unfold State.overrunCut State.taskOver
  dsimp only
  rw [State.setEng_eng, State.setEng_eng]
  exact ⟨_, rfl, rfl, State.setEng_eng _ _ _ _⟩

/-- The end of an overrun. -/
theorem overrunEnds_spec {n : State} {k : Nat} :
    ((n.overrunEnds c e k).eng c e) = { (n.eng c e) with out := [], running := false, waiting := none, overRun := k, trapRun := 0 } ∧
    (n.overrunEnds c e k).engine.transit = n.engine.transit ∧
    (∀ j, j ≠ Obj.engSlotState c e → (n.overrunEnds c e k).rdN j = n.rdN j) ∧
    ((n.crew c = true ∧ n.rdN (Obj.trapLimit c) ≤ k) → (n.overrunEnds c e k).engState c e = 3 ∧
      ⟨0xC0E1, engSource c e, 0xFF, n.core.tick, n.life⟩ ∈ (n.overrunEnds c e k).core.inFlight) ∧
    (n.crew c = false → (n.overrunEnds c e k).engState c e = n.engState c e) := by
  obtain ⟨g, hcut, htransit, hslot⟩ := overrunCut_spec n c e k
  unfold State.overrunEnds
  rw [hcut]
  have hcrew : State.crew { n with engine := g } c = n.crew c := rfl
  dsimp only
  rw [hcrew, State.rdN_upd]
  by_cases h : (n.crew c && decide (n.rdN (Obj.trapLimit c) ≤ k)) = true
  · rw [if_pos h]
    refine ⟨hslot, htransit, fun j hj => State.wrN_rdN_ne (h := hj) .., fun _ => ⟨State.wrN_rdN_self .., ?_⟩, fun h' => ?_⟩
    · rw [State.raise_spec]
      exact List.mem_append_right _ (List.mem_singleton.2 rfl)
    · simp [h'] at h
  · rw [if_neg h]
    refine ⟨hslot, htransit, fun j _ => rfl, fun h' => absurd ?_ h, fun _ => rfl⟩
    rw [h'.1, Bool.true_and]
    exact decide_eq_true h'.2

theorem overrun_completes (hrun : (s.eng c e).running = true) :
    Completes (.tickOverrun c e) s (fun t => (t.eng c e).running = false ∧ (t.eng c e).out = [] ∧
      (t.eng c e).overRun = (s.eng c e).overRun + 1 ∧ t.engine.transit = s.engine.transit ∧
      ((s.eng c e).waiting = none → EngKeepsRegs s t c e) ∧ (t.eng c e).v = (s.eng c e).v ∧ (t.eng c e).csr = (s.eng c e).csr ∧
      (∀ d mask, (s.eng c e).waiting = some (d, mask) → ∀ x, x ≠ d → (t.eng c e).gpr x = (s.eng c e).gpr x) ∧
      (∀ p, p < 4 → t.rdN (Obj.staleRingEntries p) = (s.rdN (Obj.staleRingEntries p) +
        ((s.eng c e).out.filter (fun q => decide (q.1 = 16 + p))).length) % 2 ^ 64) ∧
      t.rdN (Obj.slotOverruns c e) = (s.rdN (Obj.slotOverruns c e) + 1) % 2 ^ 64 ∧
      ((s.crew c = true ∧ s.rdN (Obj.trapLimit c) ≤ (s.eng c e).overRun + 1) → t.engState c e = 3 ∧
        ⟨0xC0E1, engSource c e, 0xFF, s.core.tick, s.life⟩ ∈ t.core.inFlight) ∧
      (s.crew c = false → t.engState c e = s.engState c e)) := by
  obtain ⟨x, a, ha, hw, hexec⟩ := tickOverrun_eq hrun
  rw [hw.run] at hexec
  refine .intro hexec ?_
  obtain ⟨hengine, htick, hlife, hover, hlimit, hstate, hcrew, hstale⟩ := overrunNoted_stands (s := a) c e
  have hacrew := ha.toCounterFrame.crew
  have hacore : a.core = s.core := by rw [ha.upd]
  have halife : a.life = s.life := by rw [ha.upd]; rfl
  have hn : (a.overrunNoted c e).eng c e = x.timed (a.eng c e) := by
    unfold State.eng
    rw [hengine]
    exact ha.slot
  have hout : (a.eng c e).out = (s.eng c e).out := by rw [ha.slot, ← hw.out]; rfl
  have hentry : a.rdN (Obj.slotOverruns c e) = s.rdN (Obj.slotOverruns c e) := by
    unfold State.rdN
    rw [ha.regs]
    · simp only [Obj.slotOverruns, Obj.counterOverflow, objKey]; omega
    · intro j hj _
      simp only [Obj.slotOverruns, ctrKey, objKey]; omega
  obtain ⟨-, hlt, hslt⟩ := engKeys_lt c e
  obtain ⟨h1, h2, h3, h4, h5⟩ := overrunEnds_spec (c := c) (e := e) (n := a.overrunNoted c e) (k := (s.eng c e).overRun + 1)
  rw [hcrew, hacrew, hlimit, ha.rdN_below hlt, htick, hacore, hlife, halife] at h4
  have hastate : a.engState c e = s.engState c e := ha.rdN_below hslt
  rw [hcrew, hacrew, hstate, hastate] at h5
  rw [hn] at h1
  refine ⟨?_, ?_, ?_, ?_, fun hnone => ⟨?_, ?_, ?_⟩, ?_, ?_, fun d mask hwait r hr => ?_, fun p hp => ?_, ?_, ?_, ?_⟩
  · rw [h1]
  · rw [h1]
  · rw [h1]
  · rw [h2, hengine, ha.upd]
  · rw [h1, hw.keeps hnone]; rfl
  · rw [h1, hw.keeps hnone]; rfl
  · rw [h1, hw.keeps hnone]; rfl
  · rw [h1, ← hw.v]; rfl
  · rw [h1, ← hw.csr]; rfl
  · rw [h1]
    exact hw.gpr d mask hwait r hr
  · rw [h3, hstale p hp, hout, List.countP_eq_length_filter, ha.rdN_below]
    · simp only [Obj.staleRingEntries, objKey]; omega
    · simp only [Obj.staleRingEntries, Obj.engSlotState, objKey]; omega
  · rw [h3, hover, hentry]
    simp only [Obj.slotOverruns, Obj.engSlotState, objKey]; omega
  · exact h4
  · exact h5
end

/-- Settles O36, one lemma for each way in which a task goes on or ends. -/
theorem tasksGoOnTrapAndEnd : Obligations.TasksGoOnTrapAndEnd := by
  unfold Obligations.TasksGoOnTrapAndEnd
  refine ⟨fun s c e h => nop_completes h, fun s c e wait h => fence_completes wait h, fun s c e h => tend_completes h,
    fun s c e code h hcrew => trap_completes_crew h hcrew, fun s c e code h hcrew hbit => trap_completes_keeper h hcrew hbit,
    fun s c e code h hcrew hbit => trap_completes_nested h hcrew hbit, fun s c e h hcrew => resume_completes h hcrew,
    fun s c e h hcrew => halt_completes h hcrew, fun s c e i j h hcrew hij => privilege_completes h hcrew hij,
    fun s c e hcrew hact hpc hlost hdec hissue => illegal_completes hcrew hact hpc hlost hdec hissue,
    fun s c e hact hissue h => unfetched_completes hact hissue h, fun s c e hact => ?_, fun s c e hrun => overrun_completes hrun,
    fun s c e hrun => ?_⟩
  · show Host.Outcome.next (s.engRow c e .nop {} 0) = _
    unfold State.engRow
    simp [hact]
  · exact if_pos (by simp [hrun])

section
variable {s t u a : State} {c : Fin 12} {e : Fin 16}

/-! ### A corrected byte changes nothing of the engines -/

theorem commitStart_engine (cause : Nat) (clean : Bool) : (s.commitStart cause clean).engine = s.engine := by
  unfold State.commitStart
  dsimp only
  split <;> rfl

theorem requestCommit_engine (cause : Nat) (clean : Bool) : (s.requestCommit cause clean).engine = s.engine := by
  unfold State.requestCommit
  split
  · rfl
  · split
    · exact commitStart_engine _ _
    · split <;> rfl

theorem requestSwap_engine (w : Swap) : (s.requestSwap w).engine = s.engine := by
  unfold State.requestSwap
  dsimp only
  rw [requestCommit_engine]
  split
  · split <;> rfl
  · rfl

theorem listRepeat_engine (v : Nat) : (s.listRepeat v).engine = s.engine := by
  unfold State.listRepeat
  dsimp only
  split <;> rfl

theorem spentMacro_engine (mac : Nat) : (s.spentMacro mac).engine = s.engine := by
  unfold State.spentMacro
  split <;> rfl

theorem repairRow_engine (m addr : Nat) : (s.repairRow m addr).engine = s.engine := by
  unfold State.repairRow
  dsimp only
  split
  · rfl
  · split
    · exact requestSwap_engine _
    · rw [spentMacro_engine, listRepeat_engine]

theorem trackCorrection_engine (key addr : Nat) : (s.trackCorrection key addr).1.engine = s.engine := by
  unfold State.trackCorrection
  dsimp only
  split <;> rfl

theorem corrected_engine (m addr : Nat) : (s.corrected m addr).engine = s.engine := by
  have h := trackCorrection_engine (s := s.inc (Obj.corrections m)) m addr
  unfold State.corrected
  generalize State.trackCorrection _ m addr = q at *
  obtain ⟨v, rep⟩ := q
  dsimp only
  split
  · rw [repairRow_engine, State.raiseLimitedFor_engine]
    exact h
  · exact h

theorem fixRead_engine (o : Option Nat) : (s.fixRead c e o).engine = s.engine := by
  cases o with
  | none => rfl
  | some a => exact corrected_engine _ _

/-! ### From an effect to the state after the instruction -/

/-- The state after an instruction follows from its effect's by accounting, with the report of a corrected byte in between. -/
theorem retire_after {u : State} {j : EngI} {m : MemPort} {w n gap : Nat} {second : Bool} {pc : Word} {f : EngEff}
    (hdo : u.engDo c e j m w n = .ok f) (h1 : f.fin ≠ 1) (h2 : f.fin ≠ 2) :
    ∃ b, Accounts c e (fun _ => True) (f.s.setEng c e { (f.s.eng c e) with pc := f.pc }) b ∧
      Accounts c e (fun _ => True) (b.fixRead c e f.fixed) (u.issueEffect c e j m w n second pc gap) := by
  obtain ⟨a, b, ha, hb, hr⟩ := accounts_retire (c := c) (e := e) (i := j) (n := n) (f := f)
  refine ⟨b, ((ha.mono fun _ _ => trivial).trans (accounts_count (k := 1) (by omega) trivial)).trans
    (hb.accounts.mono fun _ _ => trivial), ?_⟩
  rw [issueEffect_ok hdo h1 h2]
  exact (hr.accounts.mono fun _ _ => trivial).trans (accounts_afterIssue.mono fun _ _ => trivial)

/-- What a row does to the engines: its slot stands as x, but for its account, and the shared memories are as before. -/
structure SlotStands (c e : Nat) (s t : State) (x : EngSlot) : Prop where
  slot : t.eng c e = x.timed (t.eng c e)
  other : ∀ k, k ≠ 16 * c + e → tget (fun _ => {}) t.engine.slots k = tget (fun _ => {}) s.engine.slots k
  shared : t.engine.shared = s.engine.shared
  taps : t.engine.taps = s.engine.taps
  transit : t.engine.transit = s.engine.transit

theorem Accounts.stands {P : Nat → Prop} (h : Accounts c e P s t) : SlotStands c e s t (s.eng c e) :=
  ⟨h.slot, h.other, by rw [h.upd], by rw [h.upd], by rw [h.upd]⟩

theorem SlotStands.trans {x : EngSlot} (h : SlotStands c e s t x) (h' : SlotStands c e t u (t.eng c e)) : SlotStands c e s u x := by
  refine ⟨?_, fun k hk => (h'.other k hk).trans (h.other k hk), h'.shared.trans h.shared, h'.taps.trans h.taps,
    h'.transit.trans h.transit⟩
  rw [h'.slot, h.slot]
  rfl

theorem SlotStands.step {x : EngSlot} {y : EngSlot → EngSlot} (h : SlotStands c e s t x) (hy : TimedFree y)
    (h' : SlotStands c e t u (y (t.eng c e))) : SlotStands c e s u (y x) := by
  refine ⟨?_, fun k hk => (h'.other k hk).trans (h.other k hk), h'.shared.trans h.shared, h'.taps.trans h.taps,
    h'.transit.trans h.transit⟩
  rw [h'.slot, h.slot, hy]
  rfl

theorem SlotStands.of_engine (h : t.engine = s.engine) : SlotStands c e s t (s.eng c e) := by
  refine ⟨?_, fun k _ => by rw [h], by rw [h], by rw [h], by rw [h]⟩
  unfold State.eng
  rw [h]
  rfl

theorem stands_pc {pc : Word} : SlotStands c e s (s.setEng c e { (s.eng c e) with pc := pc }) { (s.eng c e) with pc := pc } :=
  ⟨by rw [State.setEng_eng]; rfl, fun k hk => State.setEng_other _ _ _ _ hk, rfl, rfl, rfl⟩

/-- After an instruction that took effect, the engines are as its effect leaves them but for its slot's PC and account. -/
theorem stands_after {u : State} {j : EngI} {m : MemPort} {w n gap : Nat} {second : Bool} {pc : Word} {f : EngEff}
    (hdo : u.engDo c e j m w n = .ok f) (h1 : f.fin ≠ 1) (h2 : f.fin ≠ 2) :
    SlotStands c e f.s (u.issueEffect c e j m w n second pc gap) { (f.s.eng c e) with pc := f.pc } := by
  obtain ⟨b, hb, hr⟩ := retire_after (second := second) (pc := pc) (gap := gap) hdo h1 h2
  have hfix : (b.fixRead c e f.fixed).engine = b.engine := fixRead_engine _
  have h3 : SlotStands c e (f.s.setEng c e { (f.s.eng c e) with pc := f.pc }) b _ := hb.stands
  rw [State.setEng_eng] at h3
  have h4 := h3.trans (.of_engine hfix)
  exact ((stands_pc (pc := f.pc)).trans (by rw [State.setEng_eng]; exact h4)).trans hr.stands

end

section
variable {s t u a : State} {c : Fin 12} {e : Fin 16} {P : Nat → Prop}

/-! ### What accounting leaves of an access -/

theorem CounterFrame.partOf (h : CounterFrame c e P s u) (k : Nat) : u.partOf k = s.partOf k := by
  have hr : List.range 4 = [0, 1, 2, 3] := rfl
  have hf {p : Nat} (hp : p < 4) : u.rdN (Obj.firstCluster p) = s.rdN (Obj.firstCluster p) :=
    h.rdN_below (by simp only [Obj.firstCluster, objKey]; omega)
  have hc {p : Nat} (hp : p < 4) : u.rdN (Obj.clusterCount p) = s.rdN (Obj.clusterCount p) :=
    h.rdN_below (by simp only [Obj.clusterCount, objKey]; omega)
  simp only [State.partOf, hr, List.find?_cons, List.find?_nil, hf, hc, Nat.ofNat_pos, Nat.reduceLT, Nat.one_lt_ofNat]

theorem State.partOf_lt {k p : Nat} (h : s.partOf k = some p) : p < 4 := List.mem_range.1 (List.mem_of_find?_eq_some h)

theorem CounterFrame.tapGranted (h : CounterFrame c e P s u) (k bit : Nat) : u.tapGranted k bit = s.tapGranted k bit := by
  unfold State.tapGranted
  rw [h.partOf]
  cases hp : s.partOf k with
  | none => rfl
  | some p =>
    have := State.partOf_lt hp
    dsimp only
    rw [h.rdN_below (by simp only [Obj.tapGrant, objKey]; omega)]

theorem CounterFrame.engLost (h : CounterFrame c e P s u) (x n : Nat) : u.engLost c e x n = s.engLost c e x n := by
  unfold State.engLost State.firstLost State.byteLost
  rw [h.upd]

theorem CounterFrame.accessTrap (h : CounterFrame c e P s u) (x w : Nat) (k : EngAcc) (m : MemPort) :
    u.accessTrap c e x w k m = s.accessTrap c e x w k m := by
  unfold State.accessTrap
  simp only [h.crew, h.partOf, h.tapGranted, h.engLost]

theorem Accounts.engByte (h : Accounts c e P s u) (x : Nat) : u.engByte c e x = s.engByte c e x := by
  have ht : (u.eng c e).text = (s.eng c e).text := by rw [h.slot]; rfl
  have hd : (u.eng c e).data = (s.eng c e).data := by rw [h.slot]; rfl
  have hs : u.engine.shared = s.engine.shared := by rw [h.upd]
  have hp : u.engine.taps = s.engine.taps := by rw [h.upd]
  unfold State.engByte
  rw [ht, hd, hs, hp]

theorem Accounts.engRead (h : Accounts c e P s u) (x n : Nat) :
    u.engRead c e x n = leNat ((List.range n).map (fun i => s.engByte c e (x + i))) := by
  unfold State.engRead
  simp only [h.engByte]

theorem Accounts.text (h : Accounts c e P s u) : (u.eng c e).text = (s.eng c e).text := by rw [h.slot]; rfl

/-! ### Addresses and what a load extends (R402) -/

theorem memAddr_eq (x : Word) (disp : BitVec 14) (w : Nat) (hw : w ≤ 32) :
    memAddr x disp w = BitVec.ofInt 32 (x.toInt + disp.toInt * w) := by
  have h4 : (BitVec.ofNat 32 w).toInt = w := by interval_cases w <;> rfl
  apply BitVec.eq_of_toInt_eq
  rw [memAddr, BitVec.toInt_add, BitVec.toInt_mul, sext_toInt, h4, BitVec.toInt_ofInt, Int.add_bmod_bmod]

theorem extend_h {n : Nat} (hn : n < 2 ^ 16) :
    LdOp.h.extend n = BitVec.ofNat 32 (if n < 0x8000 then n else n + 0xFFFF0000) := by
  have hmod : n % 2 ^ 16 = n := Nat.mod_eq_of_lt hn
  apply BitVec.eq_of_toNat_eq
  simp only [LdOp.extend, sext, BitVec.toNat_signExtend, BitVec.msb_eq_decide, BitVec.toNat_setWidth, BitVec.toNat_ofNat, hmod,
    decide_eq_true_eq]
  split <;> split <;> omega

theorem extend_b {n : Nat} (hn : n < 2 ^ 8) :
    LdOp.b.extend n = BitVec.ofNat 32 (if n < 0x80 then n else n + 0xFFFFFF00) := by
  have hmod : n % 2 ^ 8 = n := Nat.mod_eq_of_lt hn
  apply BitVec.eq_of_toNat_eq
  simp only [LdOp.extend, sext, BitVec.toNat_signExtend, BitVec.msb_eq_decide, BitVec.toNat_setWidth, BitVec.toNat_ofNat, hmod,
    decide_eq_true_eq]
  split <;> split <;> omega

theorem leNat_lt (l : List Byte) : leNat l < 2 ^ (8 * l.length) := by
  induction l with
  | nil => simp [leNat]
  | cons b l ih =>
    have := b.isLt
    rw [leNat, List.length_cons, Nat.mul_succ, Nat.pow_add]
    omega

/-! ### Loads -/

theorem engRegion_eq_one {x : Nat} : (engRegion x).1 = 1 ↔ x < 0x10000 := by
  unfold engRegion
  split
  · simp_all
  · split
    · simp_all
    · split
      · simp_all
        omega
      · split
        · simp_all
          omega
        · split <;> simp_all

theorem frame_bankServe {x w n : Nat} : CounterFrame c e P s (s.bankServe c e x w n) ∧ (s.bankServe c e x w n).eng c e = s.eng c e := by
  unfold State.bankServe
  split
  · exact ⟨.refl, rfl⟩
  · exact ⟨⟨rfl, fun _ _ _ => rfl, fun _ _ => rfl, id⟩, rfl⟩

/-- The bytes of a load's access, as a number. -/
def State.loadNat (s : State) (c e a n : Nat) : Nat := leNat ((List.range n).map (fun k => s.engByte c e (a + k)))

theorem load_effect {f : LdOp} {r base : BitVec 5} {disp : BitVec 14} {m : MemPort} {x n : Nat} (hu : Accounts c e P s u)
    (hx : x = (memAddr ((s.eng c e).gpr base) disp f.width).toNat) (htrap : s.accessTrap c e x f.width .read m = none)
    (htext : 0x10000 ≤ x ∨ (s.eng c e).text ≠ []) :
    ∃ f', u.engDo c e (.ld f r base disp) m 0 n = .ok f' ∧
      f'.s = (u.bankServe c e x f.width n).engSet c e r (f.extend (s.loadNat c e x f.width)) ∧
      f'.pc = (s.eng c e).pc + 4 ∧ f'.fixed = bankFixed (engRegion x).1 x m ∧ f'.fin = 0 := by
  have hregion : ¬ ((engRegion x).1 = 1 ∧ (s.eng c e).text.isEmpty = true) := by
    rw [engRegion_eq_one, List.isEmpty_iff]
    rintro ⟨h1, h2⟩
    exact htext.elim (by omega) (absurd h2)
  simp only [State.engDo, hu.gpr, ← hx, hu.toCounterFrame.accessTrap, htrap, hu.text]
  rw [if_neg hregion, hu.engRead, hu.pc]
  exact ⟨_, rfl, rfl, rfl, rfl, rfl⟩

/-- What a row leaves of the engines whose effect is a change of its slot alone, whether a byte was corrected or not. -/
theorem State.slotRuns.rowStands {i : EngI} {m : MemPort} {w : Nat} {y : EngSlot → EngSlot} {pc : Word} (h : s.slotRuns c e i)
    (hx : ∀ d a csr, i ≠ .xcs .r d a csr) (hy : TimedFree y)
    (hdo : ∀ u, Accounts c e (fun _ => True) s u → ∃ f, u.engDo c e i m w (s.issueCycle c e i) = .ok f ∧
      SlotStands c e u f.s (y (u.eng c e)) ∧ f.pc = pc ∧ f.fin = 0) :
    SlotStands c e s (s.engRow c e i m w) { y (s.eng c e) with pc := pc } := by
  obtain ⟨j, u, second, hj, hacc, -, -, hrow⟩ := h.effect m w
  have hu := hacc (fun _ => True) trivial fun _ _ => trivial
  obtain ⟨f, hf, hs, rfl, hfin⟩ := hdo u hu
  rw [← engDo_congr hj hx] at hf
  have hafter := stands_after (second := second) (pc := (s.eng c e).pc) (gap := (s.eng c e).fenceGap w (s.issueCycle c e i)) hf
    (by omega) (by omega)
  rw [← hrow] at hafter
  exact (hu.stands.step hy hs).step (y := fun x => { x with pc := f.pc }) (fun _ _ => rfl) hafter

theorem SlotStands.goes {x : EngSlot} (h : SlotStands c e s t x) (hrun : x.running = true) (hwait : x.waiting = none)
    (htext : x.text = (s.eng c e).text) (hdata : x.data = (s.eng c e).data) (hmoor : x.moor = (s.eng c e).moor)
    (hout : x.out = (s.eng c e).out) : EngGoes s t c e x.pc := by
  refine ⟨?_, ?_, ?_, ?_, ?_, ?_, ?_, h.other, h.shared, h.transit⟩
  · rw [h.slot]; rfl
  · rw [h.slot]; exact hrun
  · rw [h.slot]; exact hwait
  · rw [h.slot]; exact htext
  · rw [h.slot]; exact hdata
  · rw [h.slot]; exact hmoor
  · rw [h.slot]; exact hout

theorem SlotStands.reg {d : BitVec 5} {v pc : Word} (h : SlotStands c e s t { (s.eng c e).setGpr d v with pc := pc })
    (hact : (s.eng c e).running = true ∧ (s.eng c e).waiting = none) :
    EngReg s t c e d v ∧ (t.eng c e).csr = (s.eng c e).csr ∧ EngGoes s t c e pc := by
  refine ⟨⟨fun r => ?_, ?_⟩, ?_, ?_⟩
  · rw [h.slot]
    exact EngSlot.gpr_setGpr _ _ _ _
  · rw [h.slot, EngSlot.setGpr_rest]
    rfl
  · rw [h.slot, EngSlot.setGpr_rest]
    rfl
  · rw [EngSlot.setGpr_rest] at h
    exact h.goes hact.1 hact.2 rfl rfl rfl rfl

theorem SlotStands.vecs {x : EngSlot} {pc : Word} (h : SlotStands c e s t { x with pc := pc }) (hx : x = { (s.eng c e) with v := x.v })
    (hact : (s.eng c e).running = true ∧ (s.eng c e).waiting = none) :
    (∀ v, (t.eng c e).vec v = x.vec v) ∧ (t.eng c e).g = (s.eng c e).g ∧ (t.eng c e).csr = (s.eng c e).csr ∧ EngGoes s t c e pc := by
  refine ⟨fun v => ?_, ?_, ?_, ?_⟩
  · rw [h.slot]; rfl
  · rw [h.slot, hx]; rfl
  · rw [h.slot, hx]; rfl
  · rw [hx] at h
    exact h.goes hact.1 hact.2 rfl rfl rfl rfl

theorem stands_setEng {x : EngSlot} : SlotStands c e s (s.setEng c e x) x :=
  ⟨by rw [State.setEng_eng]; rfl, fun k hk => State.setEng_other _ _ _ _ hk, rfl, rfl, rfl⟩

/-- A load that meets no trap, of a memory that the model lists. -/
theorem load_completes {i : Instr} {f : LdOp} {r base : BitVec 5} {disp : BitVec 14} {m : MemPort} {x : Nat}
    (h : s.slotRuns c e (.ld f r base disp)) (hi : exec i s = .next (s.engRow c e (.ld f r base disp) m 0))
    (hx : x = (memAddr ((s.eng c e).gpr base) disp f.width).toNat) (htrap : s.accessTrap c e x f.width .read m = none)
    (htext : 0x10000 ≤ x ∨ (s.eng c e).text ≠ []) :
    Completes i s (fun t => EngReg s t c e r (f.extend (s.loadNat c e x f.width)) ∧ (t.eng c e).csr = (s.eng c e).csr ∧
      EngGoes s t c e ((s.eng c e).pc + 4) ∧ (m.corrected = false → EngQuiet s t c e)) := by
  have hst := h.rowStands (m := m) (w := 0) (pc := (s.eng c e).pc + 4) (by simp)
    (timedFree_setGpr r (f.extend (s.loadNat c e x f.width))) fun u hu => by
      obtain ⟨f', hdo, hs, hpc, -, hfin⟩ := load_effect (n := s.issueCycle c e (.ld f r base disp)) hu hx htrap htext
      refine ⟨f', hdo, ?_, hpc, hfin⟩
      have hb := frame_bankServe (s := u) (c := c) (e := e) (P := fun _ => True) (x := x) (w := f.width)
        (n := s.issueCycle c e (.ld f r base disp))
      rw [hs, State.engSet, hb.2]
      have hstand : SlotStands c e u (u.bankServe c e x f.width (s.issueCycle c e (.ld f r base disp))) (u.eng c e) :=
        ⟨by rw [hb.2]; rfl, hb.1.other, by rw [hb.1.upd], by rw [hb.1.upd], by rw [hb.1.upd]⟩
      exact hstand.step (timedFree_setGpr r _) (by rw [hb.2]; exact stands_setEng)
  obtain ⟨h1, h2, h3⟩ := hst.reg h.active
  refine .intro hi ⟨h1, h2, h3, fun hm => ?_⟩
  have hdoes : RowDoes s c e (.ld f r base disp) m 0 (·.setGpr r (f.extend (s.loadNat c e x f.width))) ((s.eng c e).pc + 4) :=
    .of (by simp) fun u hu => by
      obtain ⟨f', hdo, hs, hpc, hfix, hfin⟩ := load_effect (n := s.issueCycle c e (.ld f r base disp)) hu hx htrap htext
      refine ⟨f', hdo, ?_, ?_, hpc, ?_, by omega, by omega⟩
      · rw [hs]
        exact frame_bankServe.1.trans frame_engSet
      · rw [hs, State.engSet, State.setEng_eng, (frame_bankServe (P := fun _ => True)).2]
      · rw [hfix, bankFixed, hm]
        simp
  exact (h.reg hdoes).1.2.2.2

end

section
variable {s t u a : State} {c : Fin 12} {e : Fin 16}

/-! ### Regions of addresses (Table 16.2) -/

theorem engRegion_data {x : Nat} (h : 0x10000000 ≤ x ∧ x < 0x10020000) : engRegion x = (2, x - 0x10000000) := by
  unfold engRegion
  rw [if_neg (by omega), if_pos h]

theorem engRegion_shared {x : Nat} (h : 0x20000000 ≤ x ∧ x < 0x20000000 + 12 * 0x200000) :
    engRegion x = (3 + (x - 0x20000000) / 0x200000, (x - 0x20000000) % 0x200000) := by
  unfold engRegion
  rw [if_neg (by omega), if_neg (by omega), if_pos h]

/-- Data and shared memory, which alone are written. -/
def Writable (x : Nat) : Prop := 2 ≤ (engRegion x).1 ∧ (engRegion x).1 < 15

theorem writable_iff {x : Nat} : Writable x ↔ (0x10000000 ≤ x ∧ x < 0x10020000) ∨ (0x20000000 ≤ x ∧ x < 0x20000000 + 12 * 0x200000) := by
  unfold Writable
  constructor
  · unfold engRegion
    split
    · simp
    · split
      · exact fun _ => .inl ‹_›
      · split
        · exact fun _ => .inr ‹_›
        · split
          · simp
          · split <;> simp
  · rintro (h | h)
    · rw [engRegion_data h]; simp
    · rw [engRegion_shared h]; dsimp only; omega

theorem engRegion_inj {p x : Nat} (hp : Writable p) (h : engRegion x = engRegion p) : x = p := by
  have hx : Writable x := by unfold Writable; rwa [h]
  rw [writable_iff] at hp hx
  obtain hp | hp := hp <;> obtain hx | hx := hx
  · rw [engRegion_data hp, engRegion_data hx, Prod.mk.injEq] at h
    omega
  · rw [engRegion_data hp, engRegion_shared hx, Prod.mk.injEq] at h
    omega
  · rw [engRegion_shared hp, engRegion_data hx, Prod.mk.injEq] at h
    omega
  · rw [engRegion_shared hp, engRegion_shared hx, Prod.mk.injEq] at h
    omega

/-- A writable access that is aligned to its width is writable byte by byte. -/
theorem Writable.add {x w k : Nat} (hx : Writable x) (hal : x % w = 0) (hw : w = 1 ∨ w = 2 ∨ w = 4 ∨ w = 32) (hk : k < w) :
    Writable (x + k) := by
  rw [writable_iff] at *
  obtain rfl | rfl | rfl | rfl := hw <;> omega

/-! ### Bytes written -/

theorem engPut_data {p : Nat} {b : Byte} (h : (engRegion p).1 = 2) : s.engPut c e p b =
    s.setEng c e { (s.eng c e) with data := tset (fun _ => 0#8) (s.eng c e).data (engRegion p).2 b } := if_pos h

theorem engPut_shared {p : Nat} {b : Byte} (h : 3 ≤ (engRegion p).1 ∧ (engRegion p).1 < 15) : s.engPut c e p b =
    { s with engine.shared := tmod (fun _ => []) s.engine.shared ((engRegion p).1 - 3) (fun m => tset (fun _ => 0#8) m
      (engRegion p).2 b) } := (if_neg (show ¬ (engRegion p).1 = 2 by omega)).trans (if_pos h)

/-- A byte written shows at its address and nowhere else. -/
theorem engByte_engPut {p : Nat} (hp : Writable p) (b : Byte) (x : Nat) :
    (s.engPut c e p b).engByte c e x = if x = p then b else s.engByte c e x := by
  have hinj : engRegion x = engRegion p ↔ x = p := ⟨engRegion_inj hp, fun h => by rw [h]⟩
  by_cases hdata : (engRegion p).1 = 2
  · rw [engPut_data hdata]
    unfold State.engByte
    rw [State.setEng_eng, State.setEng_shared]
    generalize engRegion x = qx at *
    generalize engRegion p = qp at *
    obtain ⟨rg, off⟩ := qx
    obtain ⟨rp, op⟩ := qp
    subst hdata
    rw [Prod.mk.injEq] at hinj
    dsimp only
    by_cases hrg : rg = 2
    · subst hrg
      simp only [true_and] at hinj
      simp [tget_tset, hinj]
    · rw [if_neg fun h => hrg (hinj.2 h).1, if_neg hrg, if_neg hrg]
      rfl
  · have hsh : 3 ≤ (engRegion p).1 ∧ (engRegion p).1 < 15 := ⟨by have := hp.1; omega, hp.2⟩
    rw [engPut_shared hsh]
    unfold State.engByte
    generalize engRegion x = qx at *
    generalize engRegion p = qp at *
    obtain ⟨rg, off⟩ := qx
    obtain ⟨rp, op⟩ := qp
    rw [Prod.mk.injEq] at hinj
    dsimp only at hsh hdata ⊢
    by_cases hrg : rg = rp
    · subst hrg
      simp only [true_and] at hinj
      rw [if_neg (show ¬ rg = 1 by omega), if_neg hdata, if_pos hsh, tget_tmod_self, tget_tset, if_neg (show ¬ rg = 1 by omega), if_neg hdata,
        if_pos hsh]
      simp only [hinj]
    · rw [if_neg (c := x = p) fun h => hrg (hinj.2 h).1]
      by_cases hsh' : 3 ≤ rg ∧ rg < 15
      · rw [if_pos hsh', if_pos hsh', tget_tmod_ne _ _ _ (show rg - 3 ≠ rp - 3 by omega)]
        rfl
      · rw [if_neg hsh', if_neg hsh']
        rfl

/-- What stores change: data memory of the slot and the shared memories. -/
structure StoreFrame (c e : Nat) (s t : State) : Prop where
  upd : t = { s with engine := { s.engine with slots := t.engine.slots, shared := t.engine.shared } }
  slot : t.eng c e = { (s.eng c e) with data := (t.eng c e).data }
  other : ∀ k, k ≠ 16 * c + e → tget (fun _ => {}) t.engine.slots k = tget (fun _ => {}) s.engine.slots k

theorem StoreFrame.refl {c e : Nat} : StoreFrame c e s s := ⟨rfl, rfl, fun _ _ => rfl⟩

theorem StoreFrame.trans {c e : Nat} (h : StoreFrame c e s t) (h' : StoreFrame c e t u) : StoreFrame c e s u where
  upd := by rw [h'.upd, h.upd]
  slot := by rw [h'.slot, h.slot]
  other k hk := (h'.other k hk).trans (h.other k hk)

theorem storeFrame_engPut (p : Nat) (b : Byte) : StoreFrame c e s (s.engPut c e p b) := by
  unfold State.engPut
  dsimp only
  split
  · exact ⟨rfl, by rw [State.setEng_eng], fun k hk => State.setEng_other _ _ _ _ hk⟩
  · split
    · exact ⟨rfl, rfl, fun _ _ => rfl⟩
    · exact .refl

theorem engPuts_spec (bs : List Byte) (p k : Nat) (hp : ∀ i, i < bs.length → Writable (p + k + i)) :
    StoreFrame c e s (s.each (bs.zipIdx k) (fun s q => s.engPut c e (p + q.2) q.1)) ∧
    ∀ x, (s.each (bs.zipIdx k) (fun s q => s.engPut c e (p + q.2) q.1)).engByte c e x =
      if p + k ≤ x ∧ x < p + k + bs.length then bs.getD (x - (p + k)) 0 else s.engByte c e x := by
  induction bs generalizing s k with
  | nil => 
    refine ⟨.refl, fun x => ?_⟩
    rw [if_neg (by simp)]
    rfl
  | cons b bs ih =>
    have hw : Writable (p + k) := hp 0 (by simp)
    obtain ⟨hf, hb⟩ := ih (s := s.engPut c e (p + k) b) (k + 1) fun i hi => by
      have := hp (i + 1) (by simpa using hi)
      rwa [show p + k + (i + 1) = p + (k + 1) + i by omega] at this
    refine ⟨(storeFrame_engPut _ _).trans hf, fun x => (hb x).trans ?_⟩
    rw [engByte_engPut hw]
    by_cases hxk : x = p + k
    · rw [if_neg (by omega), if_pos hxk, if_pos (by simp; omega), hxk, Nat.sub_self]
      rfl
    · rw [if_neg hxk]
      by_cases hin : p + (k + 1) ≤ x ∧ x < p + (k + 1) + bs.length
      · rw [if_pos hin, if_pos (by simp; omega), show x - (p + k) = x - (p + (k + 1)) + 1 by omega, List.getD_cons_succ]
      · rw [if_neg hin, if_neg (by simp; omega)]

theorem leBytes_length (n v : Nat) : (leBytes n v).length = n := by
  induction n generalizing v with
  | zero => rfl
  | succ n ih => rw [leBytes, List.length_cons, ih]

theorem leBytes_getD (n v k : Nat) (hk : k < n) : (leBytes n v).getD k 0 = BitVec.ofNat 8 (v / 2 ^ (8 * k)) := by
  induction n generalizing v k with
  | zero => omega
  | succ n ih =>
    cases k with
    | zero =>
      apply BitVec.eq_of_toNat_eq
      simp [leBytes]
    | succ k =>
      rw [leBytes, List.getD_cons_succ, ih _ _ (by omega), Nat.div_div_eq_div_mul, Nat.mul_succ, Nat.pow_add, Nat.mul_comm (2 ^ (8 * k))]

theorem leBytes_flatMap_getD (ls : List Word) (k : Nat) (hk : k < 4 * ls.length) :
    (ls.flatMap (fun w => leBytes 4 w.toNat)).getD k 0 = BitVec.ofNat 8 ((ls.getD (k / 4) 0).toNat / 2 ^ (8 * (k % 4))) := by
  induction ls generalizing k with
  | nil => simp at hk
  | cons w ls ih =>
    have hl : (leBytes 4 w.toNat).length = 4 := leBytes_length _ _
    rw [List.flatMap_cons]
    by_cases hk4 : k < 4
    · rw [List.getD_append _ _ _ _ (by omega), leBytes_getD _ _ _ hk4, Nat.div_eq_of_lt hk4, Nat.mod_eq_of_lt hk4]
      rfl
    · rw [List.getD_append_right _ _ _ _ (by omega), hl, ih _ (by rw [List.length_cons] at hk; omega),
        show k / 4 = (k - 4) / 4 + 1 by omega, List.getD_cons_succ, show (k - 4) % 4 = k % 4 by omega]

end

section
variable {s t u a : State} {c : Fin 12} {e : Fin 16}

theorem engMarks_integ {x n : Nat} (h : t.integ = s.integ) : (t.engMarks c e x n).integ = (s.engMarks c e x n).integ := by
  unfold State.engMarks State.bytesWritten
  rw [h]
  split
  · split <;> simp [h]
  · exact h

/-- What a write of bytes does (R391, R460). -/
structure Written (c e : Nat) (s t : State) (p : Nat) (bs : List Byte) : Prop where
  byte : ∀ x, t.engByte c e x = if p ≤ x ∧ x < p + bs.length then bs.getD (x - p) 0 else s.engByte c e x
  slot : t.eng c e = { (s.eng c e) with data := (t.eng c e).data }
  other : ∀ k, k ≠ 16 * c + e → tget (fun _ => {}) t.engine.slots k = tget (fun _ => {}) s.engine.slots k
  regs : t.regs = s.regs
  core : t.core = s.core
  agent : t.agent = s.agent
  basin : t.basin = s.basin
  integ : t.integ = (s.engMarks c e p bs.length).integ

theorem written_engWrite (bs : List Byte) (p : Nat) (hp : ∀ i, i < bs.length → Writable (p + i)) :
    Written c e s (s.engWrite c e p bs) p bs := by
  obtain ⟨hf, hb⟩ := engPuts_spec (s := s) (c := c) (e := e) bs p 0 hp
  unfold State.engWrite
  generalize State.each s bs.zipIdx _ = w at *
  have hm : w.engMarks c e p bs.length = { w with integ := (w.engMarks c e p bs.length).integ } := State.engMarks_eq _ _ _ _ _
  have hw : w.integ = s.integ := by rw [hf.upd]
  refine ⟨fun x => ?_, ?_, ?_, ?_, ?_, ?_, ?_, engMarks_integ hw⟩
  · rw [hm]
    exact hb x
  · rw [hm]
    exact hf.slot
  · rw [hm]
    exact hf.other
  all_goals rw [hm]; dsimp only; rw [hf.upd]

theorem SlotStands.engByte {x : EngSlot} (h : SlotStands c e s t x) (ht : x.text = (s.eng c e).text) (hd : x.data = (s.eng c e).data)
    (p : Nat) : t.engByte c e p = s.engByte c e p := by
  have htext : (t.eng c e).text = (s.eng c e).text := by rw [h.slot, ← ht]; rfl
  have hdata : (t.eng c e).data = (s.eng c e).data := by rw [h.slot, ← hd]; rfl
  unfold State.engByte
  rw [htext, hdata, h.shared, h.taps]

theorem accounts_bankServe {x w n : Nat} : Accounts c e (fun _ => True) s (s.bankServe c e x w n) := by
  obtain ⟨h1, h2⟩ := frame_bankServe (s := s) (c := c) (e := e) (P := fun _ => True) (x := x) (w := w) (n := n)
  exact ⟨h1, by rw [h2]; rfl⟩

/-- After a row whose instruction took effect: the engines as its effect leaves them, and, where no byte was corrected, all else. -/
theorem State.slotRuns.after {i : EngI} {m : MemPort} {w : Nat} (h : s.slotRuns c e i) (hx : ∀ d a csr, i ≠ .xcs .r d a csr)
    (hdo : ∀ u, Accounts c e (fun _ => True) s u → ∃ f, u.engDo c e i m w (s.issueCycle c e i) = .ok f ∧ f.fin = 0) :
    ∃ u f, Accounts c e (fun _ => True) s u ∧ u.engDo c e i m w (s.issueCycle c e i) = .ok f ∧
      SlotStands c e f.s (s.engRow c e i m w) { (f.s.eng c e) with pc := f.pc } ∧
      (f.fixed = none → CounterFrame c e (fun _ => True) f.s (s.engRow c e i m w)) := by
  obtain ⟨j, u, second, hj, hacc, -, -, hrow⟩ := h.effect m w
  have hu := hacc (fun _ => True) trivial fun _ _ => trivial
  obtain ⟨f, hf, hfin⟩ := hdo u hu
  refine ⟨u, f, hu, hf, ?_⟩
  rw [← engDo_congr hj hx] at hf
  rw [hrow]
  refine ⟨stands_after hf (by omega) (by omega), fun hfix => ?_⟩
  obtain ⟨b, hb, hr⟩ := retire_after (second := second) (pc := (s.eng c e).pc) (gap := (s.eng c e).fenceGap w (s.issueCycle c e i)) hf
    (by omega) (by omega)
  rw [hfix] at hr
  exact (frame_pc.trans hb.toCounterFrame).trans hr.toCounterFrame

/-- An access that writes and meets no trap is of writable bytes. -/
theorem writable_of_accessTrap {p w : Nat} {k : EngAcc} {m : MemPort} (h : s.accessTrap c e p w k m = none) {i : Nat}
    (hk : k = .write ∨ k = .atom) (hw : w = 1 ∨ w = 2 ∨ w = 4 ∨ w = 32) (hi : i < w) : Writable (p + i) := by
  unfold State.accessTrap at h
  dsimp only at h
  by_cases hal : p % w = 0
  · rw [if_neg (not_not.2 hal)] at h
    refine Writable.add ?_ hal hw hi
    unfold Writable
    generalize (engRegion p).1 = rg at *
    generalize (engRegion p).2 = off at *
    split_ifs at h with h0 ha h1 h2 h3 h4
    obtain rfl | rfl := hk
    · simp only [true_and] at h4
      omega
    · simp only [true_and, Bool.not_eq_eq_eq_not, Bool.not_true, decide_eq_false_iff_not, not_not] at ha
      omega
  · rw [if_pos hal] at h
    cases h

/-- A store that meets no trap: the bytes that it writes. -/
structure Stores (c e : Nat) (i : EngI) (m : MemPort) (s : State) (p : Nat) (bs : List Byte) : Prop where
  ok : ∀ u n, Accounts c e (fun _ => True) s u → ∃ f, u.engDo c e i m 0 n = .ok f ∧
    (∃ v, Accounts c e (fun _ => True) s v ∧ f.s = v.engWrite c e p bs) ∧ f.pc = (s.eng c e).pc + 4 ∧ f.fixed = none ∧ f.fin = 0
  writable : ∀ i, i < bs.length → Writable (p + i)

theorem store_completes {i : Instr} {j : EngI} {m : MemPort} {p : Nat} {bs : List Byte} (h : s.slotRuns c e j)
    (hi : exec i s = .next (s.engRow c e j m 0)) (hx : ∀ d a csr, j ≠ .xcs .r d a csr) (hst : Stores c e j m s p bs) :
    Completes i s (fun t =>
      (∀ x, t.engByte c e x = if p ≤ x ∧ x < p + bs.length then bs.getD (x - p) 0 else s.engByte c e x) ∧
      (∀ k, k ≠ 16 * c.val + e.val → tget (fun _ => {}) t.engine.slots k = tget (fun _ => {}) s.engine.slots k) ∧
      (t.eng c e).pc = (s.eng c e).pc + 4 ∧ EngKeepsRegs s t c e ∧ EngQuiet (s.engMarks c e p bs.length) t c e) := by
  obtain ⟨u, f, hu, hf, hstands, hquiet⟩ := h.after (m := m) (w := 0) hx fun u hu => by
    obtain ⟨f, hf, -, -, -, hfin⟩ := hst.ok u (s.issueCycle c e j) hu
    exact ⟨f, hf, hfin⟩
  obtain ⟨f', hf', ⟨v, hv, hs⟩, hpc, hfix, -⟩ := hst.ok u (s.issueCycle c e j) hu
  obtain rfl : f' = f := by simpa using hf'.symm.trans hf
  have hw : Written c e v f'.s p bs := by rw [hs]; exact written_engWrite bs p hst.writable
  have hframe := hquiet hfix
  refine .intro hi ⟨fun x => ?_, fun k hk => ?_, ?_, ?_, ?_⟩
  · rw [hstands.engByte rfl rfl, hw.byte, hv.engByte]
  · rw [hstands.other k hk, hw.other k hk, hv.other k hk]
  · rw [hstands.slot]
    exact hpc
  · refine ⟨?_, ?_, ?_⟩
    all_goals rw [hstands.slot, hw.slot, hv.slot]; rfl
  · have hm := s.engMarks_eq c e p bs.length
    obtain ⟨h1, h2, h3, h4, h5⟩ := hframe.quiet
    refine ⟨?_, ?_, ?_, ?_, fun k hk => ?_⟩
    · rw [h1, hw.core, hv.upd, hm]
    · rw [h2, hw.agent, hv.upd, hm]
    · rw [h3, hw.integ]
      exact engMarks_integ (by rw [hv.upd])
    · rw [h4, hw.basin, hv.upd, hm]
    · rw [h5 k hk, State.rd_of_regs hw.regs, hv.toCounterFrame.quiet.2.2.2.2 k hk, hm]
      rfl

theorem stores_st {f : StOp} {r base : BitVec 5} {disp : BitVec 14} {m : MemPort} {p : Nat}
    (hp : p = (memAddr ((s.eng c e).gpr base) disp f.width).toNat) (htrap : s.accessTrap c e p f.width .write m = none) :
    Stores c e (.st f r base disp) m s p (leBytes f.width ((s.eng c e).gpr r).toNat) := by
  refine ⟨fun u n hu => ?_, ?_⟩
  · simp only [State.engDo, hu.gpr, ← hp, hu.toCounterFrame.accessTrap, htrap, hu.pc]
    exact ⟨_, rfl, ⟨_, hu.trans accounts_bankServe, rfl⟩, rfl, rfl, rfl⟩
  · rw [leBytes_length]
    exact fun i hi => writable_of_accessTrap htrap (.inl rfl) (by cases f <;> simp [StOp.width]) hi

theorem stores_vst {v : BitVec 3} {base : BitVec 5} {disp : BitVec 14} {m : MemPort} {p : Nat}
    (hp : p = (memAddr ((s.eng c e).gpr base) disp 32).toNat) (htrap : s.accessTrap c e p 32 .write m = none) :
    Stores c e (.vst v base disp) m s p (((s.eng c e).vec v).flatMap (fun w => leBytes 4 w.toNat)) := by
  refine ⟨fun u n hu => ?_, ?_⟩
  · have hvec : (u.eng c e).vec v = (s.eng c e).vec v := List.map_congr_left fun l _ => hu.lane v l
    simp only [State.engDo, hu.gpr, ← hp, hu.toCounterFrame.accessTrap, htrap, hu.pc, hvec]
    exact ⟨_, rfl, ⟨_, hu.trans accounts_bankServe, rfl⟩, rfl, rfl, rfl⟩
  · intro i hi
    refine writable_of_accessTrap htrap (.inl rfl) (by simp) (lt_of_lt_of_eq hi ?_)
    simp [List.length_flatMap, leBytes_length, EngSlot.vec]
    rfl

end

section
variable {s t u a : State} {c : Fin 12} {e : Fin 16}

/-! ### What is read of memory that the model does not list -/

theorem stands_draw_set {x : EngSlot} : SlotStands c e u (u.draw.2.setEng c e x) x :=
  ⟨by rw [State.setEng_eng]; rfl, fun k hk => State.setEng_other _ _ _ _ hk, rfl, rfl, rfl⟩

theorem Accounts.draw (hu : Accounts c e (fun _ => True) s u) : u.draw.1 = s.draw.1 := by
  unfold State.draw
  rw [hu.upd]

theorem vendorLoad_completes {i : Instr} {f : LdOp} {r base : BitVec 5} {disp : BitVec 14} {m : MemPort} {x : Nat}
    (h : s.slotRuns c e (.ld f r base disp)) (hi : exec i s = .next (s.engRow c e (.ld f r base disp) m 0))
    (hx : x = (memAddr ((s.eng c e).gpr base) disp f.width).toNat) (htrap : s.accessTrap c e x f.width .read m = none)
    (hlow : x < 0x10000) (htext : (s.eng c e).text = []) :
    Completes i s (fun t => (∃ v, EngReg s t c e r v) ∧ (t.eng c e).csr = (s.eng c e).csr ∧
      EngGoes s t c e ((s.eng c e).pc + 4)) := by
  have hst := h.rowStands (m := m) (w := 0) (pc := (s.eng c e).pc + 4) (by simp)
    (timedFree_setGpr r (f.extend s.draw.1)) fun u hu => by
      simp only [State.engDo, hu.gpr, ← hx, hu.toCounterFrame.accessTrap, htrap, hu.text, hu.pc]
      rw [if_pos ⟨engRegion_eq_one.2 hlow, by rw [htext]; rfl⟩]
      refine ⟨_, rfl, ?_, rfl, rfl⟩
      rw [← hu.draw]
      exact stands_draw_set
  obtain ⟨h1, h2, h3⟩ := hst.reg h.active
  exact .intro hi ⟨⟨_, h1⟩, h2, h3⟩

theorem vendorVld_completes {v : BitVec 3} {base : BitVec 5} {disp : BitVec 14} {m : MemPort} {x : Nat}
    (h : s.slotRuns c e (.vld v base disp)) (hx : x = (memAddr ((s.eng c e).gpr base) disp 32).toNat)
    (htrap : s.accessTrap c e x 32 .read m = none) (hlow : x < 0x10000) (htext : (s.eng c e).text = []) :
    Completes (.engVld c e v base disp m) s (fun t => (∃ ls, EngVec s t c e v ls) ∧ EngGoes s t c e ((s.eng c e).pc + 4)) := by
  have hst := h.rowStands (m := m) (w := 0) (pc := (s.eng c e).pc + 4) (by simp)
    (timedFree_setVec v ((List.range 8).map (fun l => BitVec.ofNat 32 (s.draw.1 / 2 ^ (32 * l))))) fun u hu => by
      simp only [State.engDo, hu.gpr, ← hx, hu.toCounterFrame.accessTrap, htrap, hu.text, hu.pc]
      rw [if_pos ⟨engRegion_eq_one.2 hlow, by rw [htext]; rfl⟩]
      refine ⟨_, rfl, ?_, rfl, rfl⟩
      rw [← hu.draw]
      exact stands_draw_set
  obtain ⟨h1, h2, h3, h4⟩ := hst.vecs (EngSlot.setVec_rest _ _ _) h.active
  exact .intro rfl ⟨⟨_, fun v' => by rw [h1, EngSlot.vec_setVec _ _ _ _ (by simp)], h2, h3⟩, h4⟩

/-! ### Vector loads -/

/-- The eight lanes at an address. -/
def State.loadLanes (s : State) (c e x : Nat) : List Word :=
  (List.range 8).map (fun l => BitVec.ofNat 32 (leNat ((List.range 4).map (fun k => s.engByte c e (x + 4 * l + k)))))

theorem vld_effect {v : BitVec 3} {base : BitVec 5} {disp : BitVec 14} {m : MemPort} {x n : Nat}
    (hu : Accounts c e (fun _ => True) s u) (hx : x = (memAddr ((s.eng c e).gpr base) disp 32).toNat)
    (htrap : s.accessTrap c e x 32 .read m = none) (htext : 0x10000 ≤ x ∨ (s.eng c e).text ≠ []) :
    ∃ f, u.engDo c e (.vld v base disp) m 0 n = .ok f ∧
      f.s = (u.bankServe c e x 32 n).setEng c e ((u.eng c e).setVec v (s.loadLanes c e x)) ∧
      f.pc = (s.eng c e).pc + 4 ∧ f.fixed = bankFixed (engRegion x).1 x m ∧ f.fin = 0 := by
  have hregion : ¬ ((engRegion x).1 = 1 ∧ (s.eng c e).text.isEmpty = true) := by
    rw [engRegion_eq_one, List.isEmpty_iff]
    rintro ⟨h1, h2⟩
    exact htext.elim (by omega) (absurd h2)
  simp only [State.engDo, hu.gpr, ← hx, hu.toCounterFrame.accessTrap, htrap, hu.text]
  rw [if_neg hregion, hu.pc]
  refine ⟨_, rfl, ?_, rfl, rfl, rfl⟩
  simp only [hu.engRead]
  rfl

theorem vld_completes {v : BitVec 3} {base : BitVec 5} {disp : BitVec 14} {m : MemPort} {x : Nat}
    (h : s.slotRuns c e (.vld v base disp)) (hx : x = (memAddr ((s.eng c e).gpr base) disp 32).toNat)
    (htrap : s.accessTrap c e x 32 .read m = none) (htext : 0x10000 ≤ x ∨ (s.eng c e).text ≠ []) :
    Completes (.engVld c e v base disp m) s (fun t => EngVec s t c e v (s.loadLanes c e x) ∧
      EngGoes s t c e ((s.eng c e).pc + 4) ∧ (m.corrected = false → EngQuiet s t c e)) := by
  have hst := h.rowStands (m := m) (w := 0) (pc := (s.eng c e).pc + 4) (by simp)
    (timedFree_setVec v (s.loadLanes c e x)) fun u hu => by
      obtain ⟨f, hdo, hs, hpc, -, hfin⟩ := vld_effect (n := s.issueCycle c e (.vld v base disp)) hu hx htrap htext
      refine ⟨f, hdo, ?_, hpc, hfin⟩
      rw [hs]
      have hb := (accounts_bankServe (s := u) (c := c) (e := e) (x := x) (w := 32) (n := s.issueCycle c e (.vld v base disp))).stands
      have hset := stands_setEng (s := u.bankServe c e x 32 (s.issueCycle c e (.vld v base disp))) (c := c) (e := e)
        (x := (u.eng c e).setVec v (s.loadLanes c e x))
      exact ⟨hset.slot, fun k hk => (hset.other k hk).trans (hb.other k hk), hset.shared.trans hb.shared, hset.taps.trans hb.taps,
        hset.transit.trans hb.transit⟩
  obtain ⟨h1, h2, h3, h4⟩ := hst.vecs (EngSlot.setVec_rest _ _ _) h.active
  refine .intro rfl ⟨⟨fun v' => by rw [h1, EngSlot.vec_setVec _ _ _ _ (by simp [State.loadLanes])], h2, h3⟩, h4, fun hm => ?_⟩
  have hdoes : RowDoes s c e (.vld v base disp) m 0 (·.setVec v (s.loadLanes c e x)) ((s.eng c e).pc + 4) :=
    .of (by simp) fun u hu => by
      obtain ⟨f, hdo, hs, hpc, hfix, hfin⟩ := vld_effect (n := s.issueCycle c e (.vld v base disp)) hu hx htrap htext
      refine ⟨f, hdo, ?_, ?_, hpc, ?_, by omega, by omega⟩
      · rw [hs, ← (frame_bankServe (P := fun _ => True) (s := u) (x := x) (w := 32) (n := s.issueCycle c e (.vld v base disp))).2]
        exact frame_bankServe.1.trans frame_setVec
      · rw [hs, State.setEng_eng]
      · rw [hfix, bankFixed, hm]
        simp
  exact (h.vecs (timedFree_setVec _ _) (fun x' => x'.setVec_rest _ _) hdoes).2.2.2.2

/-! ### ATOM -/

theorem atom_effect {f : AtomOp} {d a b : BitVec 5} {m : MemPort} {p n : Nat} (hu : Accounts c e (fun _ => True) s u)
    (hp : p = ((s.eng c e).gpr a).toNat) (htrap : s.accessTrap c e p 4 .atom m = none) :
    ∃ g v, u.engDo c e (.atom f d a b) m 0 n = .ok g ∧ Accounts c e (fun _ => True) s v ∧
      g.s = (v.engWrite c e p (leBytes 4 (f.eval (BitVec.ofNat 32 (s.loadNat c e p 4)) ((s.eng c e).gpr b)).toNat)).engSet c e d
        (BitVec.ofNat 32 (s.loadNat c e p 4)) ∧
      g.pc = (s.eng c e).pc + 4 ∧ g.fixed = (if m.corrected then some p else none) ∧ g.fin = 0 := by
  simp only [State.engDo, hu.gpr, ← hp, hu.toCounterFrame.accessTrap, htrap, hu.engRead, hu.pc]
  exact ⟨_, _, rfl, hu.trans accounts_bankServe, rfl, rfl, rfl, rfl⟩

theorem engPuts_eng (bs : List Byte) (p k : Nat) (hp : ∀ i, i < bs.length → (engRegion (p + k + i)).1 ≠ 2) :
    (s.each (bs.zipIdx k) (fun s q => s.engPut c e (p + q.2) q.1)).eng c e = s.eng c e := by
  induction bs generalizing s k with
  | nil => rfl
  | cons b bs ih =>
    have h0 : (engRegion (p + k)).1 ≠ 2 := hp 0 (by simp)
    have hput : (s.engPut c e (p + k) b).eng c e = s.eng c e := by
      unfold State.engPut
      dsimp only
      rw [if_neg h0]
      split <;> rfl
    refine (ih (s := s.engPut c e (p + k) b) (k + 1) fun i hi => ?_).trans hput
    have := hp (i + 1) (by simpa using hi)
    rwa [show p + k + (i + 1) = p + (k + 1) + i by omega] at this

/-- A write of shared memory leaves the slot. -/
theorem engWrite_eng (bs : List Byte) (p : Nat) (hp : ∀ i, i < bs.length → (engRegion (p + i)).1 ≠ 2) :
    (s.engWrite c e p bs).eng c e = s.eng c e := by
  unfold State.engWrite
  rw [State.engMarks_eq]
  exact engPuts_eng bs p 0 hp

theorem atom_region {p : Nat} {m : MemPort} (h : s.accessTrap c e p 4 .atom m = none) {i : Nat} (hi : i < 4) :
    (engRegion (p + i)).1 ≠ 2 := by
  have hshared : 0x20000000 ≤ p := by
    have hw := writable_of_accessTrap h (.inr rfl) (by simp) (show 0 < 4 by omega)
    rw [writable_iff] at hw
    obtain hw | hw := hw
    · unfold State.accessTrap at h
      rw [engRegion_data (by simpa using hw)] at h
      dsimp only at h
      by_cases hal : p % 4 ≠ 0
      · rw [if_pos hal] at h
        cases h
      · rw [if_neg hal, if_neg (by simp), if_pos (by simp)] at h
        cases h
    · simpa using hw.1
  have hw := writable_of_accessTrap h (.inr rfl) (by simp) hi
  rw [writable_iff] at hw
  obtain hw | hw := hw
  · omega
  · rw [engRegion_shared hw]
    dsimp only
    omega

theorem atom_completes {i : Instr} {f : AtomOp} {d a b : BitVec 5} {m : MemPort} {p : Nat} {old v : Word}
    (h : s.slotRuns c e (.atom f d a b)) (hi : exec i s = .next (s.engRow c e (.atom f d a b) m 0))
    (hp : p = ((s.eng c e).gpr a).toNat) (htrap : s.accessTrap c e p 4 .atom m = none)
    (hold : old = BitVec.ofNat 32 (s.loadNat c e p 4)) (hv : f.eval old ((s.eng c e).gpr b) = v) :
    Completes i s (fun t => EngReg s t c e d old ∧ (t.eng c e).pc = (s.eng c e).pc + 4 ∧
      (t.eng c e).csr = (s.eng c e).csr ∧ (t.eng c e).data = (s.eng c e).data ∧
      (∀ x, t.engByte c e x = if p ≤ x ∧ x < p + 4 then BitVec.ofNat 8 (v.toNat / 2 ^ (8 * (x - p))) else s.engByte c e x) ∧
      (∀ k, k ≠ 16 * c.val + e.val → tget (fun _ => {}) t.engine.slots k = tget (fun _ => {}) s.engine.slots k) ∧
      (m.corrected = false → EngQuiet (s.engMarks c e p 4) t c e)) := by
  have hbytes : (leBytes 4 v.toNat).length = 4 := leBytes_length _ _
  obtain ⟨u, g, hu, hg, hstands, hquiet⟩ := h.after (m := m) (w := 0) (by simp) fun u hu => by
    obtain ⟨g, -, hg, -, -, -, -, hfin⟩ := atom_effect (d := d) (f := f) (b := b) (n := s.issueCycle c e (.atom f d a b)) hu hp htrap
    exact ⟨g, hg, hfin⟩
  obtain ⟨g', w, hg', hw, hs, hpc, hfix, -⟩ := atom_effect (d := d) (f := f) (b := b) (n := s.issueCycle c e (.atom f d a b)) hu hp htrap
  obtain rfl : g' = g := by simpa using hg'.symm.trans hg
  rw [← hold, hv] at hs
  have hwr : Written c e w (w.engWrite c e p (leBytes 4 v.toNat)) p (leBytes 4 v.toNat) := written_engWrite _ _ fun i hi =>
    writable_of_accessTrap htrap (.inr rfl) (by simp) (by rwa [hbytes] at hi)
  have hweng : (w.engWrite c e p (leBytes 4 v.toNat)).eng c e = w.eng c e := engWrite_eng _ _ fun i hi => atom_region htrap (by rwa [hbytes] at hi)
  generalize w.engWrite c e p (leBytes 4 v.toNat) = q at *
  have hgeng : g'.s.eng c e = (w.eng c e).setGpr d old := by rw [hs, State.engSet, State.setEng_eng, hweng]
  have hgslot : g'.s.eng c e = ((s.eng c e).setGpr d old).timed (w.eng c e) := by
    rw [hgeng, hw.slot]
    exact timedFree_setGpr d old _ _
  have hset : SlotStands c e q g'.s (g'.s.eng c e) := by rw [hs, State.engSet, State.setEng_eng]; exact stands_setEng
  refine .intro hi ⟨⟨fun r => ?_, ?_⟩, ?_, ?_, ?_, fun x => ?_, fun k hk => ?_, fun hm => ?_⟩
  · rw [hstands.slot, hgslot]
    exact EngSlot.gpr_setGpr _ _ _ _
  · rw [hstands.slot, hgslot, EngSlot.setGpr_rest]; rfl
  · rw [hstands.slot]; exact hpc
  · rw [hstands.slot, hgslot, EngSlot.setGpr_rest]; rfl
  · rw [hstands.slot, hgslot, EngSlot.setGpr_rest]; rfl
  · have htext : (g'.s.eng c e).text = (q.eng c e).text := by rw [hgeng, hweng, EngSlot.setGpr_rest]
    have hdata : (g'.s.eng c e).data = (q.eng c e).data := by rw [hgeng, hweng, EngSlot.setGpr_rest]
    rw [hstands.engByte rfl rfl, hset.engByte htext hdata, hwr.byte, hw.engByte, hbytes]
    by_cases hin : p ≤ x ∧ x < p + 4
    · rw [if_pos hin, if_pos hin, leBytes_getD _ _ _ (by omega)]
    · rw [if_neg hin, if_neg hin]
  · rw [hstands.other k hk, hset.other k hk, hwr.other k hk, hw.other k hk]
  · have hframe := (hquiet (by rw [hfix, hm]; rfl)).quiet
    have hmarks := s.engMarks_eq c e p 4
    have hinteg := hwr.integ
    rw [hbytes] at hinteg
    obtain ⟨h1, h2, h3, h4, h5⟩ := hframe
    have hgs : g'.s = { q with engine := g'.s.engine } := by rw [hs]; rfl
    refine ⟨?_, ?_, ?_, ?_, fun k hk => ?_⟩
    · rw [h1, hgs, hmarks]
      exact hwr.core.trans (by rw [hw.upd])
    · rw [h2, hgs, hmarks]
      exact hwr.agent.trans (by rw [hw.upd])
    · rw [h3, hgs]
      exact hinteg.trans (engMarks_integ (by rw [hw.upd]))
    · rw [h4, hgs, hmarks]
      exact hwr.basin.trans (by rw [hw.upd])
    · rw [h5 k hk, hgs, hmarks]
      exact (State.rd_of_regs hwr.regs k).trans (hw.toCounterFrame.quiet.2.2.2.2 k hk)

end

/-- Settles O32: an access that meets no trap moves its bytes from or to the state in which its instruction issues, which differs from
the state before in the slot's account alone; one that meets a trap is noted and has no other effect. -/
theorem engineLoadsStoresAndAtomicsMoveTheirBytes : Obligations.EngineLoadsStoresAndAtomicsMoveTheirBytes := by
  unfold Obligations.EngineLoadsStoresAndAtomicsMoveTheirBytes
  refine ⟨?_, ?_, ?_, ?_, ?_, ?_, ?_, ?_⟩
  · rintro s c e r base disp m f w a n v op h ha rfl htrap htext hop
    suffices h' : exec (op c e r base disp m) s = .next (s.engRow c e (.ld f r base disp) m 0) ∧ w = f.width ∧
        v = f.extend (s.loadNat c e a w) by
      obtain ⟨hexec, rfl, rfl⟩ := h'
      exact load_completes h hexec (by rw [memAddr_eq _ _ _ (by cases f <;> simp [LdOp.width])]; exact ha) htrap htext
    have hlt : leNat ((List.range w).map (fun k => s.engByte c e (a + k))) < 2 ^ (8 * w) := by
      simpa using leNat_lt ((List.range w).map (fun k => s.engByte c e (a + k)))
    obtain ⟨rfl, rfl, rfl, rfl⟩ | ⟨rfl, rfl, rfl, rfl⟩ | ⟨rfl, rfl, rfl, rfl⟩ | ⟨rfl, rfl, rfl, rfl⟩ | ⟨rfl, rfl, rfl, rfl⟩ := hop
    · exact ⟨rfl, rfl, rfl⟩
    · exact ⟨rfl, rfl, (extend_h hlt).symm⟩
    · exact ⟨rfl, rfl, rfl⟩
    · exact ⟨rfl, rfl, (extend_b hlt).symm⟩
    · exact ⟨rfl, rfl, rfl⟩
  · rintro s c e r base disp m f w a op h ha htrap hlow htext hop
    suffices h' : exec (op c e r base disp m) s = .next (s.engRow c e (.ld f r base disp) m 0) ∧ w = f.width by
      obtain ⟨hexec, rfl⟩ := h'
      exact vendorLoad_completes h hexec (by rw [memAddr_eq _ _ _ (by cases f <;> simp [LdOp.width])]; exact ha) htrap hlow htext
    obtain ⟨rfl, rfl, rfl⟩ | ⟨rfl, rfl, rfl⟩ | ⟨rfl, rfl, rfl⟩ | ⟨rfl, rfl, rfl⟩ | ⟨rfl, rfl, rfl⟩ := hop <;> exact ⟨rfl, rfl⟩
  · intro s c e v base disp m a h ha htrap hlow htext
    exact vendorVld_completes h (by rw [memAddr_eq _ _ _ (by omega)]; exact ha) htrap hlow htext
  · intro s c e v base disp m a h ha htrap htext
    exact vld_completes h (by rw [memAddr_eq _ _ _ (by omega)]; exact ha) htrap htext
  · rintro s c e r base disp m f w a op h ha htrap hop
    suffices h' : exec (op c e r base disp m) s = .next (s.engRow c e (.st f r base disp) m 0) ∧ w = f.width by
      obtain ⟨hexec, rfl⟩ := h'
      have hst := stores_st (r := r) (by rw [memAddr_eq _ _ _ (by cases f <;> simp [StOp.width])]; exact ha) htrap
      refine (store_completes h hexec (by simp) hst).mono fun t ⟨hb, hrest⟩ => ?_
      rw [leBytes_length] at hb hrest
      refine ⟨fun x => ?_, hrest⟩
      rw [hb]
      by_cases hin : a ≤ x ∧ x < a + f.width
      · rw [if_pos hin, if_pos hin, leBytes_getD _ _ _ (by omega)]
      · rw [if_neg hin, if_neg hin]
    obtain ⟨rfl, rfl, rfl⟩ | ⟨rfl, rfl, rfl⟩ | ⟨rfl, rfl, rfl⟩ := hop <;> exact ⟨rfl, rfl⟩
  · intro s c e v base disp m a h ha htrap
    have hst := stores_vst (v := v) (by rw [memAddr_eq _ _ _ (by omega)]; exact ha) htrap
    have hvec : ((s.eng c e).vec v).length = 8 := by simp [EngSlot.vec]
    have hlen : (((s.eng c e).vec v).flatMap (fun w => leBytes 4 w.toNat)).length = 32 := by
      simp [List.length_flatMap, leBytes_length, EngSlot.vec]
      rfl
    refine (store_completes (i := .engVst c e v base disp m) h rfl (by simp) hst).mono fun t ⟨hb, hrest⟩ => ?_
    rw [hlen] at hb hrest
    refine ⟨fun x => ?_, hrest⟩
    rw [hb]
    by_cases hin : a ≤ x ∧ x < a + 32
    · have hlane : ((s.eng c e).vec v).getD ((x - a) / 4) 0 = (s.eng c e).lane v ((x - a) / 4) := by
        have hl : (x - a) / 4 < 8 := by omega
        simp [EngSlot.vec, hl]
      rw [if_pos hin, if_pos hin, leBytes_flatMap_getD _ _ (by omega), hlane]
    · rw [if_neg hin, if_neg hin]
  · intro s c e i j m acc base disp w a k h ha htrap hij
    suffices h' : exec i s = .next (s.engRow c e j m 0) ∧ ∀ u j', Accounts c e (fun _ => True) s u → j'.norm = j.norm →
        u.engDo c e j' m 0 (s.issueCycle c e j) = .error (k, a) by
      have ht := h.trapRow h'.2
      exact .intro h'.1 ⟨ht.cs1, ht.cs2, ht.cs3, ht.code, ht.info, ht.g, ht.v, ht.data, ht.shared⟩
    have haddr (hw : w ≤ 32) : a = (memAddr ((s.eng c e).gpr base) disp w).toNat := by rw [memAddr_eq _ _ _ hw]; exact ha
    obtain ⟨r, rfl, rfl, rfl, rfl⟩ | ⟨r, rfl, rfl, rfl, rfl⟩ | ⟨r, rfl, rfl, rfl, rfl⟩ | ⟨r, rfl, rfl, rfl, rfl⟩ |
      ⟨r, rfl, rfl, rfl, rfl⟩ | ⟨r, rfl, rfl, rfl, rfl⟩ := hij
    all_goals
      refine ⟨rfl, fun u j' hu hj => ?_⟩
      obtain rfl := EngI.eq_of_norm hj rfl
      simp only [State.engDo, LdOp.width, StOp.width, hu.gpr, ← haddr, hu.toCounterFrame.accessTrap, htrap, Nat.reduceLeDiff]
  · rintro s c e d a b m f ad old y v op h rfl htrap hold rfl hop
    suffices h' : exec (op c e d a b m) s = .next (s.engRow c e (.atom f d a b) m 0) ∧ f.eval old ((s.eng c e).gpr b) = v from
      atom_completes h h'.1 rfl htrap hold h'.2
    generalize (s.eng c e).gpr b = y at *
    obtain ⟨rfl, rfl, rfl⟩ | ⟨rfl, rfl, rfl⟩ | ⟨rfl, rfl, rfl⟩ | ⟨rfl, rfl, rfl⟩ | ⟨rfl, rfl, rfl⟩ | ⟨rfl, rfl, rfl⟩ := hop
    all_goals refine ⟨rfl, ?_⟩
    · rfl
    · apply BitVec.eq_of_toNat_eq; simp [AtomOp.eval]
    · rfl
    · rfl
    · exact smin_eq_ofInt _ _
    · exact smax_eq_ofInt _ _

end Sys2Proof.Machine
end

section
/-! The engines' CSRs: a read of a counter whose register holds more than its 48 bits (R427). -/
open Sys2Proof Sys2Proof.Machine
namespace Sys2Proof.Machine

/-- A keeper's slot that stands at a read of cs.pclok, in the cycle in which its account stands, with a register of CYCLES that holds more
than a counter's 48 bits. -/
def wideCycles : State :=
  { State.reset with
    regs := [(ctrKey 2 5 0, 2 ^ 48)]
    engine.slots := [(37, { running := true })] }

theorem slotRuns_wideCycles : wideCycles.slotRuns (2 : Fin 12) (5 : Fin 16) (.xcs .r 3 1 0x100) :=
  ⟨by decide +kernel, by decide +kernel, by decide +kernel, ⟨.xcs .r 3 1 0x100, by decide +kernel, rfl⟩, by decide +kernel⟩

/-- Refutes O35: the read latches bits 63:32 of the register as it stands where no cycle is counted with it. -/
theorem not_csrRowsReadAndWriteTheirRegister : ¬ Obligations.CsrRowsReadAndWriteTheirRegister := by
  unfold Obligations.CsrRowsReadAndWriteTheirRegister
  rintro ⟨-, hread, -⟩
  obtain ⟨t, ht, v, hv, -, hlatch, -⟩ := hread wideCycles 2 5 3 1 true slotRuns_wideCycles (by decide +kernel) (by decide +kernel)
  have hrow : exec (.engXcsR 2 5 3 1 0x100) wideCycles = .next (wideCycles.engRow 2 5 (.xcs .r 3 1 0x100) {} 0) := rfl
  obtain rfl : wideCycles.engRow 2 5 (.xcs .r 3 1 0x100) {} 0 = t := Host.Outcome.next.inj (hrow.symm.trans ht)
  have hzero : v = 0 := hv.trans (by decide +kernel)
  have hwide : tget (fun _ => 0) ((wideCycles.engRow 2 5 (.xcs .r 3 1 0x100) {} 0).eng 2 5).latch 0 = 65536 := by decide +kernel
  exact absurd (hwide.symm.trans hlatch) (by rw [hzero]; decide)

end Sys2Proof.Machine
end

section
/-! Encodings: numbers and their bytes, records and their fields, values and their words, messages. -/
open Sys2Proof Sys2Proof.Machine
namespace Sys2Proof.Machine

/-! #### Numbers and their bytes, most significant first -/

@[simp] theorem beBytes_length (n v : Nat) : (beBytes n v).length = n := by
  induction n generalizing v with
  | zero => rfl
  | succ n ih => simp [beBytes, ih]

theorem beNat_concat (l : List Byte) (b : Byte) : beNat (l ++ [b]) = beNat l * 256 + b.toNat := by
  simp [beNat]

theorem beNat_singleton (b : Byte) : beNat [b] = b.toNat := by
  simp [beNat]

/-- The bytes of a number spell it modulo their width. -/
theorem beNat_beBytes_mod (n v : Nat) : beNat (beBytes n v) = v % 256 ^ n := by
  induction n generalizing v with
  | zero => simp [beBytes, beNat, Nat.mod_one]
  | succ n ih =>
    have hdigit : v % 256 ^ (n + 1) = v % 256 + 256 * (v / 256 % 256 ^ n) := by rw [pow_succ', Nat.mod_mul]
    rw [beBytes, beNat_concat, ih, BitVec.toNat_ofNat, hdigit]
    omega

theorem beNat_beBytes {n v : Nat} (h : v < 256 ^ n) : beNat (beBytes n v) = v := by
  rw [beNat_beBytes_mod, Nat.mod_eq_of_lt h]

/-! #### The CRC-32 is a word -/

theorem crc32Shift_lt (n c : Nat) (h : c < 2 ^ 32) : crc32Shift n c < 2 ^ 32 := by
  induction n generalizing c with
  | zero => exact h
  | succ n ih =>
    refine ih _ ?_
    split
    · exact Nat.xor_lt_two_pow (by omega) (by decide)
    · omega

theorem crc32_lt (bs : List Byte) : crc32 bs < 2 ^ 32 := by
  have hfold : ∀ (bs : List Byte) (c : Nat), c < 2 ^ 32 →
      bs.foldl (fun c b => crc32Shift 8 (c ^^^ b.toNat)) c < 2 ^ 32 := by
    intro bs
    induction bs with
    | nil => exact fun c h => h
    | cons b bs ih =>
      exact fun c h => ih _ (crc32Shift_lt 8 _ (Nat.xor_lt_two_pow h (Nat.lt_trans b.isLt (by decide))))
  exact Nat.xor_lt_two_pow (hfold bs _ (by decide)) (by decide)

/-! #### Fields of bytes put one after the other -/

theorem recField_skip (a b : List Byte) (k n : Nat) (h : a.length ≤ k) : recField (a ++ b) k n = recField b (k - a.length) n := by
  rw [recField, recField, List.drop_append, List.drop_eq_nil_of_le h, List.nil_append]

theorem recField_skip_add (a b : List Byte) (k i n : Nat) (h : a.length ≤ k) :
    recField (a ++ b) (k + i) n = recField b (k - a.length + i) n := by
  rw [recField_skip _ _ _ _ (by omega), Nat.sub_add_comm h]

theorem recField_here (a b : List Byte) (n : Nat) (h : a.length = n) : recField (a ++ b) 0 n = beNat a := by
  rw [recField, List.drop_zero, ← h, List.take_left]

theorem recField_all (a : List Byte) (n : Nat) (h : a.length = n) : recField a 0 n = beNat a := by
  rw [recField, List.drop_zero, ← h, List.take_length]

theorem recField_within (a b : List Byte) (k n : Nat) (h : k + n ≤ a.length) : recField (a ++ b) k n = recField a k n := by
  rw [recField, recField, List.drop_append_of_le_length (by omega), List.take_append_of_le_length (by simp; omega)]

theorem hdrField_eq_recField (bs : List Byte) (k n : Nat) : hdrField bs k n = recField bs k n := rfl

theorem row_length (n m : Nat) (f : Nat → Nat) : ((List.range m).flatMap (fun i => beBytes n (f i))).length = n * m := by
  simp [List.length_flatMap, Nat.mul_comm]

/-- A row of numbers of `n` bytes each reads back number by number. -/
theorem recField_flatMap (n : Nat) (f : Nat → Nat) (m i : Nat) (hi : i < m) (hf : f i < 256 ^ n) :
    recField ((List.range m).flatMap (fun i => beBytes n (f i))) (n * i) n = f i := by
  induction m with
  | zero => omega
  | succ m ih =>
    have hlen := row_length n m f
    rw [List.range_succ, List.flatMap_append]
    by_cases him : i < m
    · have hle : n * i + n ≤ n * m := by
        rw [← Nat.mul_succ]; exact Nat.mul_le_mul_left n him
      rw [recField_within _ _ _ _ (by rw [hlen]; exact hle), ih him]
    · have heq : i = m := by omega
      subst heq
      rw [recField_skip _ _ _ _ (by rw [hlen]), hlen, Nat.sub_self, List.flatMap_singleton, recField_all _ _ (beBytes_length _ _),
        beNat_beBytes hf]

/-- A row of bytes is a row of numbers of one byte each. -/
theorem map_ofNat_eq_flatMap (f : Nat → Nat) (m : Nat) :
    (List.range m).map (fun i => BitVec.ofNat 8 (f i)) = (List.range m).flatMap (fun i => beBytes 1 (f i)) := by
  rw [List.map_eq_flatMap]
  refine List.flatMap_congr (fun i _ => ?_)
  simp only [beBytes, List.nil_append]
  congr 1
  exact BitVec.eq_of_toNat_eq (by simp)

/-- The flags of a record (Table 4.7, byte 3). -/
def LedgerRec.flagByte (x : LedgerRec) : Nat :=
  (if x.clean then 1 else 0) + 2 * (x.activeImage % 2) + 4 * (x.assayWhen % 4) + 16 * (x.watchdogRun % 4)

theorem LedgerRec.body_length (x : LedgerRec) : x.body.length = 252 := by
  unfold LedgerRec.body
  simp only [List.length_append, beBytes_length, List.length_map, List.length_range, row_length]

theorem LedgerRec.bytes_length (x : LedgerRec) : x.bytes.length = 256 := by
  simp [LedgerRec.bytes, LedgerRec.body_length]

theorem LedgerRec.flagByte_fields (x : LedgerRec) (hi : x.activeImage < 2) (ha : x.assayWhen < 4) (hw : x.watchdogRun < 4) :
    bitOf x.flagByte 0 = x.clean ∧ bitsOf x.flagByte 1 1 = x.activeImage ∧ bitsOf x.flagByte 3 2 = x.assayWhen ∧
      bitsOf x.flagByte 5 4 = x.watchdogRun ∧ x.flagByte < 256 := by
  unfold LedgerRec.flagByte bitOf bitsOf
  cases x.clean
  all_goals
    simp only [Bool.false_eq_true, if_true, if_false, beq_eq_false_iff_ne, beq_iff_eq]
    omega

/-- A row of 8-bit or 32-bit entries reads back entry by entry. -/
theorem map_recField_flatMap (n m d : Nat) (l : List Nat) (hlen : l.length = m) (hl : ∀ b ∈ l, b < 256 ^ n) :
    (List.range m).map (fun i => recField ((List.range m).flatMap (fun i => beBytes n (l.getD i d))) (n * i) n) = l := by
  refine List.ext_getElem (by simp [hlen]) (fun i h₁ h₂ => ?_)
  have him : i < m := by simpa using h₁
  have hget : l.getD i d = l[i] := by simp [List.getD, h₂]
  rw [List.getElem_map, List.getElem_range,
    recField_flatMap n (fun i => l.getD i d) m i him (by simpa only [hget] using hl _ (List.getElem_mem h₂)), hget]

/-- A record's bytes field after field (Table 4.7). -/
theorem LedgerRec.bytes_eq (x : LedgerRec) : x.bytes =
    beBytes 2 0x4C47 ++ (beBytes 1 1 ++ (beBytes 1 x.flagByte ++ (beBytes 4 x.sequence ++ (beBytes 4 x.lifetime ++
    (beBytes 4 x.bootEpoch ++ (beBytes 1 x.cause ++ (beBytes 1 0 ++ (beBytes 2 x.repairCount ++ (beBytes 1 x.assayOutcome ++
    (beBytes 1 x.assayFailed ++ (beBytes 2 x.assayFirst ++ (beBytes 4 x.assayLifetime ++
    ((List.range 128).flatMap (fun i => beBytes 1 (x.sliceMap.getD i 0xFF)) ++ (beBytes 7 x.decoderMap ++ (beBytes 1 0 ++
    (beBytes 5 x.cipherMap ++ (beBytes 3 0 ++ (beBytes 26 x.engineMap ++ (beBytes 2 0 ++
    ((List.range 8).flatMap (fun i => beBytes 4 (x.repairList.getD i 0xFFFFFFFF)) ++ (beBytes 4 x.powerCycles ++
    (beBytes 4 x.hotSeconds ++ ((List.range 8).flatMap (fun i => beBytes 1 (x.reserveUsed.getD i 0)) ++ (beBytes 4 0 ++
    beBytes 4 (crc32 x.body))))))))))))))))))))))))) := by
  unfold LedgerRec.bytes
  generalize crc32 x.body = c
  unfold LedgerRec.body LedgerRec.flagByte
  rw [map_ofNat_eq_flatMap, map_ofNat_eq_flatMap]
  simp only [List.append_assoc]

/-- MAGIC, FORMAT and CRC of a record are correct. -/
theorem LedgerRec.bytes_valid (x : LedgerRec) : recField x.bytes 0 2 = 0x4C47 ∧ recField x.bytes 2 1 = 1 ∧
    recField x.bytes 252 4 = crc32 (x.bytes.take 252) := by
  have hcrc : recField x.bytes 252 4 = crc32 x.body := by
    rw [LedgerRec.bytes, recField_skip _ _ _ _ (by rw [x.body_length]), x.body_length, recField_all _ _ (beBytes_length _ _),
      beNat_beBytes (Nat.lt_of_lt_of_le (crc32_lt _) (by decide))]
  have htake : x.bytes.take 252 = x.body := by rw [LedgerRec.bytes, ← x.body_length, List.take_left]
  rw [htake, hcrc, x.bytes_eq]
  simp (disch := simp) only [recField_skip, recField_here, beBytes_length, beNat_beBytes_mod, Nat.sub_self]
  decide

/-- Each number of a record's bytes is its field modulo the field's width. -/
theorem LedgerRec.bytes_numbers (x : LedgerRec) :
    recField x.bytes 3 1 = x.flagByte % 256 ^ 1 ∧ recField x.bytes 4 4 = x.sequence % 256 ^ 4 ∧
    recField x.bytes 8 4 = x.lifetime % 256 ^ 4 ∧ recField x.bytes 12 4 = x.bootEpoch % 256 ^ 4 ∧
    recField x.bytes 16 1 = x.cause % 256 ^ 1 ∧ recField x.bytes 18 2 = x.repairCount % 256 ^ 2 ∧
    recField x.bytes 20 1 = x.assayOutcome % 256 ^ 1 ∧ recField x.bytes 21 1 = x.assayFailed % 256 ^ 1 ∧
    recField x.bytes 22 2 = x.assayFirst % 256 ^ 2 ∧ recField x.bytes 24 4 = x.assayLifetime % 256 ^ 4 ∧
    recField x.bytes 156 7 = x.decoderMap % 256 ^ 7 ∧ recField x.bytes 164 5 = x.cipherMap % 256 ^ 5 ∧
    recField x.bytes 172 26 = x.engineMap % 256 ^ 26 ∧ recField x.bytes 232 4 = x.powerCycles % 256 ^ 4 ∧
    recField x.bytes 236 4 = x.hotSeconds % 256 ^ 4 := by
  rw [x.bytes_eq]
  and_intros
  all_goals
    simp (disch := simp only [row_length, beBytes_length, Nat.reduceMul, Nat.reduceSub, Nat.reduceLeDiff]) only
      [recField_skip, recField_here, row_length, beBytes_length, Nat.reduceMul, Nat.reduceSub, beNat_beBytes_mod]

/-- The row of a record's slice map, of its repair list and of its reserve's use (Table 4.7). -/
theorem LedgerRec.bytes_rows (x : LedgerRec) (i : Nat) :
    (i < 128 → recField x.bytes (28 + i) 1 =
      recField ((List.range 128).flatMap (fun i => beBytes 1 (x.sliceMap.getD i 0xFF))) (1 * i) 1) ∧
    (i < 8 → recField x.bytes (200 + 4 * i) 4 =
      recField ((List.range 8).flatMap (fun i => beBytes 4 (x.repairList.getD i 0xFFFFFFFF))) (4 * i) 4) ∧
    (i < 8 → recField x.bytes (240 + i) 1 =
      recField ((List.range 8).flatMap (fun i => beBytes 1 (x.reserveUsed.getD i 0))) (1 * i) 1) := by
  rw [x.bytes_eq]
  refine ⟨fun hi => ?_, fun hi => ?_, fun hi => ?_⟩
  all_goals
    simp (disch := simp only [row_length, beBytes_length, Nat.reduceMul, Nat.reduceSub, Nat.reduceLeDiff]) only
      [recField_skip_add, row_length, beBytes_length, Nat.reduceMul, Nat.reduceSub, Nat.zero_add, Nat.one_mul]
    exact recField_within _ _ _ _ (by rw [row_length]; omega)

theorem LedgerRec.bytes_ne_freeBytes (x : LedgerRec) : x.bytes ≠ freeBytes := by
  intro h
  obtain ⟨hmagic, -, -⟩ := x.bytes_valid
  rw [h] at hmagic
  exact absurd hmagic (by decide)

/-- A valid record's 256 bytes read back every field of it. -/
theorem parseRecord_bytes (x : LedgerRec) (h : x.fits) : parseRecord x.bytes = some x := by
  obtain ⟨⟨hai, haw, hwd, hseq, hlife, hboot, hcause, hrep, hout, hfail, hfirst, halife⟩,
    hsl, hsb, hdec, hcip, heng, hrl, hrb, hpow, hhot, hul, hub⟩ := h
  obtain ⟨hmagic, hformat, hcrc⟩ := x.bytes_valid
  obtain ⟨nflag, nseq, nlife, nboot, ncause, nrep, nout, nfail, nfirst, nalife, ndec, ncip, neng, npow, nhot⟩ := x.bytes_numbers
  obtain ⟨fclean, fimage, fwhen, frun, fbyte⟩ := x.flagByte_fields hai haw hwd
  have hslice : (List.range 128).map (fun i => recField x.bytes (28 + i) 1) = x.sliceMap := by
    rw [← map_recField_flatMap 1 128 0xFF x.sliceMap hsl hsb]
    exact List.map_congr_left (fun i hi => (x.bytes_rows i).1 (List.mem_range.mp hi))
  have hrepair : (List.range 8).map (fun i => recField x.bytes (200 + 4 * i) 4) = x.repairList := by
    rw [← map_recField_flatMap 4 8 0xFFFFFFFF x.repairList hrl hrb]
    exact List.map_congr_left (fun i hi => (x.bytes_rows i).2.1 (List.mem_range.mp hi))
  have hused : (List.range 8).map (fun i => recField x.bytes (240 + i) 1) = x.reserveUsed := by
    rw [← map_recField_flatMap 1 8 0 x.reserveUsed hul hub]
    exact List.map_congr_left (fun i hi => (x.bytes_rows i).2.2 (List.mem_range.mp hi))
  unfold parseRecord
  rw [if_pos ⟨x.bytes_length, hmagic, hformat, hcrc⟩]
  dsimp only
  rw [nflag.trans (Nat.mod_eq_of_lt fbyte), fclean, fimage, fwhen, frun, nseq.trans (Nat.mod_eq_of_lt hseq), nlife.trans
    (Nat.mod_eq_of_lt hlife), nboot.trans (Nat.mod_eq_of_lt hboot), ncause.trans (Nat.mod_eq_of_lt hcause), nrep.trans
    (Nat.mod_eq_of_lt hrep), nout.trans (Nat.mod_eq_of_lt hout), nfail.trans (Nat.mod_eq_of_lt hfail), nfirst.trans
    (Nat.mod_eq_of_lt hfirst), nalife.trans (Nat.mod_eq_of_lt halife), ndec.trans (Nat.mod_eq_of_lt hdec), ncip.trans
    (Nat.mod_eq_of_lt hcip), neng.trans (Nat.mod_eq_of_lt heng), npow.trans (Nat.mod_eq_of_lt hpow), nhot.trans
    (Nat.mod_eq_of_lt hhot), hslice, hrepair, hused]

/-- Settles O57: the record's layout is read field by field at the places where it is put (Table 4.7). -/
theorem ledgerRecordsReadBack : Obligations.LedgerRecordsReadBack :=
  fun x h => ⟨x.bytes_length, parseRecord_bytes x h, x.bytes_ne_freeBytes⟩

/-! #### Words, most significant first -/

theorem wordsNat_concat (l : List Nat) (w : Nat) : wordsNat (l ++ [w]) = wordsNat l * 2 ^ 32 + w % 2 ^ 32 := by
  simp [wordsNat]

/-- The words of a number, `w` of them. -/
def natWords (w x : Nat) : List Nat := (List.range w).map (fun i => x / 2 ^ (32 * (w - 1 - i)) % 2 ^ 32)

@[simp] theorem natWords_length (w x : Nat) : (natWords w x).length = w := by
  simp [natWords]

theorem octetWords_eq (n v : Nat) :
    octetWords n v = natWords ((n + 3) / 4) (v * 2 ^ (8 * (4 * ((n + 3) / 4) - n))) := rfl

theorem natWords_succ (w x : Nat) : natWords (w + 1) x = natWords w (x / 2 ^ 32) ++ [x % 2 ^ 32] := by
  unfold natWords
  rw [List.range_succ, List.map_append]
  congr 1
  · refine List.map_congr_left (fun i hi => ?_)
    have hi := List.mem_range.mp hi
    rw [Nat.div_div_eq_div_mul, ← pow_add, show 32 + 32 * (w - 1 - i) = 32 * (w + 1 - 1 - i) by omega]
  · simp

/-- The words of a number spell it modulo their width. -/
theorem wordsNat_natWords (w x : Nat) : wordsNat (natWords w x) = x % 2 ^ (32 * w) := by
  induction w generalizing x with
  | zero => simp [natWords, wordsNat, Nat.mod_one]
  | succ w ih =>
    have hdigit : x % 2 ^ (32 * (w + 1)) = x % 2 ^ 32 + 2 ^ 32 * (x / 2 ^ 32 % 2 ^ (32 * w)) := by
      rw [Nat.mul_succ, Nat.add_comm, pow_add, Nat.mod_mul]
    rw [natWords_succ, wordsNat_concat, ih, hdigit, Nat.mod_mod]
    omega

theorem wordsNat_lt (ws : List Nat) : wordsNat ws < 2 ^ (32 * ws.length) := by
  induction ws using List.reverseRecOn with
  | nil => decide
  | append_singleton ws w ih =>
    have hmul : 2 ^ (32 * (ws ++ [w]).length) = 2 ^ (32 * ws.length) * 2 ^ 32 := by
      rw [List.length_append, List.length_singleton, Nat.mul_succ, pow_add]
    rw [wordsNat_concat, hmul]
    omega

/-- Words that are words are those of the number they spell. -/
theorem natWords_wordsNat (ws : List Nat) (h : ∀ w ∈ ws, w < 2 ^ 32) : natWords ws.length (wordsNat ws) = ws := by
  induction ws using List.reverseRecOn with
  | nil => rfl
  | append_singleton ws w ih =>
    have hw : w < 2 ^ 32 := h w (by simp)
    have hdiv : (wordsNat ws * 2 ^ 32 + w % 2 ^ 32) / 2 ^ 32 = wordsNat ws := by omega
    have hmod : (wordsNat ws * 2 ^ 32 + w % 2 ^ 32) % 2 ^ 32 = w := by omega
    rw [List.length_append, List.length_singleton, natWords_succ, wordsNat_concat, hdiv, hmod,
      ih (fun x hx => h x (by simp [hx]))]

theorem octetWords_length (n v : Nat) : (octetWords n v).length = (n + 3) / 4 := natWords_length _ _

/-- The words of an OCTETS value cover its bytes and its padding. -/
theorem octet_widths (n : Nat) : 2 ^ (32 * ((n + 3) / 4)) = 2 ^ (8 * n) * 2 ^ (8 * (4 * ((n + 3) / 4) - n)) := by
  rw [← pow_add]
  congr 1
  omega

theorem OType.decode_octets_encode (n : Nat) (v : Int) (h : 0 ≤ v ∧ v < 2 ^ (8 * n)) :
    (OType.octets n).decode ((OType.octets n).encode v) = some v := by
  obtain ⟨hv0, hv⟩ := h
  obtain ⟨x, rfl⟩ := Int.eq_ofNat_of_zero_le hv0
  have hx : x < 2 ^ (8 * n) := by exact_mod_cast hv
  have hpos : 0 < 2 ^ (8 * (4 * ((n + 3) / 4) - n)) := Nat.two_pow_pos _
  show (OType.octets n).decode (octetWords n x) = _
  unfold OType.decode
  rw [if_neg (show ¬ (octetWords n x).length ≠ (OType.octets n).words from not_not.mpr (octetWords_length n x)), octetWords_eq, wordsNat_natWords, octet_widths, Nat.mul_mod_mul_right,
    Nat.mod_eq_of_lt hx]
  dsimp only
  rw [if_pos (Nat.mul_mod_left _ _), Nat.mul_div_cancel _ hpos]

theorem OType.octets_of_decode (n : Nat) (ws : List Nat) (v : Int) (hws : ∀ w ∈ ws, w < 2 ^ 32)
    (h : (OType.octets n).decode ws = some v) :
    (0 ≤ v ∧ v < 2 ^ (8 * n)) ∧ (OType.octets n).encode v = ws := by
  unfold OType.decode at h
  split at h
  · exact absurd h (by simp)
  · next hlen =>
    have hlen : ws.length = (n + 3) / 4 := not_not.mp hlen
    dsimp only at h
    split at h
    · next hpad =>
      obtain rfl := Option.some.inj h
      have hlt := wordsNat_lt ws
      rw [hlen, octet_widths] at hlt
      refine ⟨⟨Int.natCast_nonneg _, ?_⟩, ?_⟩
      · exact_mod_cast Nat.div_lt_of_lt_mul (by rw [Nat.mul_comm]; exact hlt)
      · show octetWords n _ = ws
        rw [octetWords_eq, Int.toNat_natCast, Nat.div_mul_cancel (Nat.dvd_of_mod_eq_zero hpad), ← hlen, natWords_wordsNat ws hws]
    · exact absurd h (by simp)

/-- One word spells itself. -/
theorem wordsNat_one (w : Nat) (h : w < 2 ^ 32) : wordsNat [w] = w := by
  simp only [wordsNat, List.foldl_cons, List.foldl_nil]
  omega

theorem wordsNat_two (a b : Nat) (ha : a < 2 ^ 32) (hb : b < 2 ^ 32) : wordsNat [a, b] = a * 2 ^ 32 + b := by
  simp only [wordsNat, List.foldl_cons, List.foldl_nil]
  omega

theorem OType.decode_encode (t : OType) (v : Int) (h : t.fits v) : t.decode (t.encode v) = some v := by
  have hword : wordsNat [(v % 2 ^ 32).toNat] = (v % 2 ^ 32).toNat := wordsNat_one _ (by omega)
  have hpair : wordsNat [(v % 2 ^ 64).toNat / 2 ^ 32, (v % 2 ^ 64).toNat % 2 ^ 32] = (v % 2 ^ 64).toNat := by
    rw [wordsNat_two _ _ (by omega) (by omega)]
    omega
  cases t with
  | octets n => exact OType.decode_octets_encode n v h
  | u64 | s64 =>
    simp only [OType.fits, OType.decode, OType.encode, OType.words, signedWord, List.length_cons, List.length_nil, ne_eq,
      not_true_eq_false, if_false, hpair, Option.some.injEq] at h ⊢
    omega
  | _ =>
    simp only [OType.fits, OType.decode, OType.encode, OType.words, signedWord, List.length_cons, List.length_nil, ne_eq,
      not_true_eq_false, if_false, hword, Option.ite_none_right_eq_some, Option.some.injEq] at h ⊢
    omega

theorem OType.length_of_decode {t : OType} {ws : List Nat} {v : Int} (h : t.decode ws = some v) : ws.length = t.words := by
  by_contra hne
  unfold OType.decode at h
  rw [if_pos hne] at h
  exact absurd h (by simp)

theorem OType.encode_of_decode (t : OType) (ws : List Nat) (v : Int) (hws : ∀ w ∈ ws, w < 2 ^ 32) (h : t.decode ws = some v) :
    t.fits v ∧ t.encode v = ws := by
  have hlen := OType.length_of_decode h
  cases t with
  | octets n => exact OType.octets_of_decode n ws v hws h
  | u64 | s64 =>
    obtain ⟨a, b, rfl⟩ := List.length_eq_two.mp hlen
    have ha : a < 2 ^ 32 := hws a (by simp)
    have hb : b < 2 ^ 32 := hws b (by simp)
    simp only [OType.fits, OType.decode, OType.encode, OType.words, signedWord, List.length_cons, List.length_nil, ne_eq,
      not_true_eq_false, if_false, wordsNat_two a b ha hb, Option.some.injEq, List.cons.injEq, and_true] at h ⊢
    omega
  | _ =>
    obtain ⟨w, rfl⟩ := List.length_eq_one_iff.mp hlen
    have hw : w < 2 ^ 32 := hws w (by simp)
    simp only [OType.fits, OType.decode, OType.encode, OType.words, signedWord, List.length_cons, List.length_nil, ne_eq,
      not_true_eq_false, if_false, wordsNat_one w hw, Option.ite_none_right_eq_some, Option.some.injEq, List.cons.injEq,
      and_true] at h ⊢
    omega

/-! #### Mate messages -/

/-- The header and body of a mate message (Table 15.4). -/
def mateHead (type flags peer seq tick : Nat) (body : List Byte) : List Byte :=
  beBytes 1 type ++ beBytes 1 flags ++ beBytes 2 body.length ++ beBytes 2 peer ++ beBytes 2 (seq % 65536) ++
    beBytes 4 (tick % 2 ^ 32) ++ body

theorem mateHead_length (type flags peer seq tick : Nat) (body : List Byte) :
    (mateHead type flags peer seq tick body).length = 12 + body.length := by
  simp only [mateHead, List.length_append, beBytes_length]

theorem mateBytes_eq (type flags peer seq tick : Nat) (body : List Byte) : mateBytes type flags peer seq tick body =
    mateHead type flags peer seq tick body ++ beBytes 4 (crc32 (mateHead type flags peer seq tick body)) := rfl

/-- The header's fields, each modulo its width. -/
theorem mateBytes_fields (type flags peer seq tick : Nat) (body : List Byte) :
    hdrField (mateBytes type flags peer seq tick body) 0 1 = type % 256 ^ 1 ∧
    hdrField (mateBytes type flags peer seq tick body) 1 1 = flags % 256 ^ 1 ∧
    hdrField (mateBytes type flags peer seq tick body) 2 2 = body.length % 256 ^ 2 ∧
    hdrField (mateBytes type flags peer seq tick body) 4 2 = peer % 256 ^ 2 ∧
    hdrField (mateBytes type flags peer seq tick body) 6 2 = seq % 65536 % 256 ^ 2 ∧
    hdrField (mateBytes type flags peer seq tick body) 8 4 = tick % 2 ^ 32 % 256 ^ 4 := by
  rw [mateBytes_eq]
  generalize crc32 (mateHead type flags peer seq tick body) = crc
  unfold mateHead
  simp only [List.append_assoc]
  and_intros
  all_goals
    simp (disch := simp only [beBytes_length, Nat.reduceSub, Nat.reduceLeDiff]) only
      [hdrField_eq_recField, recField_skip, recField_here, beBytes_length, Nat.reduceSub, beNat_beBytes_mod]

theorem mateBytes_length (type flags peer seq tick : Nat) (body : List Byte) :
    (mateBytes type flags peer seq tick body).length = 16 + body.length := by
  rw [mateBytes_eq, List.length_append, mateHead_length, beBytes_length]
  omega

theorem mateBytes_body (type flags peer seq tick : Nat) (body : List Byte) :
    ((mateBytes type flags peer seq tick body).drop 12).take body.length = body := by
  have hdrop : (mateHead type flags peer seq tick body).drop 12 = body := by
    unfold mateHead
    exact List.drop_left' (by simp)
  rw [mateBytes_eq, List.drop_append_of_le_length (by rw [mateHead_length]; omega), hdrop, List.take_left]

theorem mateBytes_crc (type flags peer seq tick : Nat) (body : List Byte) :
    hdrField (mateBytes type flags peer seq tick body) (12 + body.length) 4 =
      crc32 ((mateBytes type flags peer seq tick body).take (12 + body.length)) := by
  rw [mateBytes_eq, ← mateHead_length type flags peer seq tick body, List.take_left, hdrField_eq_recField,
    recField_skip _ _ _ _ (Nat.le_refl _), Nat.sub_self, recField_all _ _ (beBytes_length _ _),
    beNat_beBytes (Nat.lt_of_lt_of_le (crc32_lt _) (by decide))]

theorem mateRead_mateBytes {type flags peer : Nat} (seq tick : Nat) {body : List Byte} (ht : type < 256) (hf : flags < 256)
    (hp : peer < 65536) (hb : body.length ≤ 1000) (hok : mateLengthOk type body = true) :
    mateRead (mateBytes type flags peer seq tick body) = some ⟨type, flags, peer, seq % 65536, tick % 2 ^ 32, body⟩ := by
  obtain ⟨ntype, nflags, nlen, npeer, nseq, ntick⟩ := mateBytes_fields type flags peer seq tick body
  have hcrc := mateBytes_crc type flags peer seq tick body
  have hbody := mateBytes_body type flags peer seq tick body
  have hlen := mateBytes_length type flags peer seq tick body
  rw [Nat.mod_eq_of_lt (by omega)] at ntype nflags nlen npeer nseq ntick
  unfold mateRead
  dsimp only
  rw [hlen, show 16 + body.length - 16 = body.length by omega, show 16 + body.length - 4 = 12 + body.length by omega, hbody, ntype,
    nflags, nlen, npeer, nseq, ntick, if_neg (show ¬ _ by omega), if_neg (not_not.mpr hcrc), hok]
  rfl

/-- Settles O58: a value is the number its words spell, and a message's fields stand where they were put. -/
theorem objectValuesAndMateMessagesReadBack : Obligations.ObjectValuesAndMateMessagesReadBack :=
  ⟨OType.decode_encode, fun t ws v hws h => OType.encode_of_decode t ws v hws h,
    fun _ _ _ seq tick _ ht hf hp hb hok => mateRead_mateBytes seq tick ht hf hp hb hok⟩

end Sys2Proof.Machine
end

section
/-! What the operations shared by many commands touch, and the obligations of the line side, the towpath and the start-up. -/
open Sys2Proof Sys2Proof.Machine
namespace Sys2Proof.Machine

/-! #### What the shared operations touch -/

/-- Only registers differ. -/
def RegsOnly (s t : State) : Prop := ∃ x, t = { s with regs := x }

section
variable {s t : State}

theorem RegsOnly.refl : RegsOnly s s := ⟨_, rfl⟩

theorem RegsOnly.wr (h : RegsOnly s t) (k : Nat) (v : Int) : RegsOnly s (t.wr k v) := by
  obtain ⟨x, rfl⟩ := h
  exact ⟨_, rfl⟩

theorem RegsOnly.wrN (h : RegsOnly s t) (k v : Nat) : RegsOnly s (t.wrN k v) := h.wr k v

theorem RegsOnly.incBy (h : RegsOnly s t) (k n : Nat) : RegsOnly s (t.incBy k n) := h.wrN _ _

theorem RegsOnly.inc (h : RegsOnly s t) (k : Nat) : RegsOnly s (t.inc k) := h.incBy _ _

theorem RegsOnly.trans {u : State} (h : RegsOnly s t) (g : RegsOnly t u) : RegsOnly s u := by
  obtain ⟨x, rfl⟩ := h
  obtain ⟨y, rfl⟩ := g
  exact ⟨_, rfl⟩

theorem RegsOnly.eq (h : RegsOnly s t) : t = { s with regs := t.regs } := by
  obtain ⟨x, rfl⟩ := h
  rfl

theorem RegsOnly.core (h : RegsOnly s t) : t.core = s.core := by rw [h.eq]

theorem RegsOnly.life (h : RegsOnly s t) : t.life = s.life := by
  obtain ⟨x, rfl⟩ := h
  rfl

/-- An event raised after registers were written is the event raised before. -/
theorem RegsOnly.raise (h : RegsOnly s t) (code source arg : Nat) : RegsOnly (s.raise code source arg) (t.raise code source arg) := by
  obtain ⟨x, rfl⟩ := h
  exact ⟨_, rfl⟩

end

/-- A rate-limited event touches the core alone. -/
theorem State.raiseLimitedFor_upd {s u : State} {code source n last : Nat} (h : s.raiseLimitedFor code source n last = u) :
    ∃ g, u = { s with core := g } := by
  rw [← h, State.raiseLimitedFor, State.raiseLimitedItem_eq]
  exact ⟨_, rfl⟩

theorem State.raiseLimited_upd {s u : State} {code source n : Nat} (h : s.raiseLimited code source n = u) :
    ∃ g, u = { s with core := g } := State.raiseLimitedFor_upd h

/-- A failed unit stands among the reported ones (R465); nothing else changes. -/
theorem State.reportFailed_upd {s u : State} {unit : Nat} (h : s.reportFailed unit = u) :
    ∃ g, u = { s with integ := g } ∧ unit ∈ g.reported := by
  rw [← h]
  unfold State.reportFailed
  split
  · next h => exact ⟨_, rfl, by simpa using h⟩
  · exact ⟨_, rfl, by simp⟩

theorem State.reportFailed_out {s u : State} {unit : Nat} (h : s.reportFailed unit = u) : u.integ.out = s.integ.out := by
  rw [← h]
  unfold State.reportFailed
  split <;> rfl

/-- A free choice counts itself and touches nothing else (log entry 4). -/
theorem State.roundFree_upd (s : State) (a b : Nat) : ∃ n, (s.roundFree a b).2 = { s with core.freeCtr := n } := by
  unfold State.roundFree State.draw
  dsimp only
  split
  · exact ⟨_, rfl⟩
  · split
    · exact ⟨_, rfl⟩
    · exact ⟨_, rfl⟩

theorem State.roundFreeInt_upd (s : State) (a : Int) (b : Nat) : ∃ n, (s.roundFreeInt a b).2 = { s with core.freeCtr := n } := by
  unfold State.roundFreeInt State.draw
  dsimp only
  split
  · exact ⟨_, rfl⟩
  · split
    · exact ⟨_, rfl⟩
    · exact ⟨_, rfl⟩

/-! #### Single bits of a number -/

theorem bitOf_of_div_eq {v w i j : Nat} (h : v / 2 ^ (i + 1) = w / 2 ^ (i + 1)) (hj : i < j) : bitOf v j = bitOf w j := by
  obtain ⟨d, rfl⟩ : ∃ d, j = (i + 1) + d := ⟨j - (i + 1), by omega⟩
  unfold bitOf
  rw [pow_add, ← Nat.div_div_eq_div_mul, ← Nat.div_div_eq_div_mul, h]

theorem bitOf_add_two_pow {v i j : Nat} (hv : bitOf v i = false) : bitOf (v + 2 ^ i) j = if j = i then true else bitOf v j := by
  have hpos : 0 < 2 ^ i := Nat.two_pow_pos i
  have hdiv : (v + 2 ^ i) / 2 ^ i = v / 2 ^ i + 1 := Nat.add_div_right v hpos
  have heven : v / 2 ^ i % 2 = 0 := by
    simp only [bitOf, beq_eq_false_iff_ne, ne_eq] at hv
    omega
  rcases Nat.lt_trichotomy j i with hj | rfl | hj
  · obtain ⟨d, rfl⟩ : ∃ d, i = j + 1 + d := ⟨i - (j + 1), by omega⟩
    rw [if_neg (by omega)]
    unfold bitOf
    have hpow : 2 ^ (j + 1 + d) = 2 ^ j * (2 * 2 ^ d) := by rw [pow_add, pow_add, pow_one, mul_assoc]
    rw [hpow, Nat.add_mul_div_left _ _ (Nat.two_pow_pos j), Nat.add_mul_mod_self_left]
  · rw [if_pos rfl]
    unfold bitOf
    rw [hdiv]
    simp only [beq_iff_eq]
    omega
  · rw [if_neg (by omega)]
    refine bitOf_of_div_eq ?_ hj
    rw [pow_succ, ← Nat.div_div_eq_div_mul, ← Nat.div_div_eq_div_mul, hdiv]
    omega

theorem bitOf_sub_two_pow {v i j : Nat} (hv : bitOf v i = true) : bitOf (v - 2 ^ i) j = if j = i then false else bitOf v j := by
  have hpos : 0 < 2 ^ i := Nat.two_pow_pos i
  have hodd : v / 2 ^ i % 2 = 1 := by simpa [bitOf] using hv
  have hge : 2 ^ i ≤ v := by
    by_contra hlt
    rw [Nat.div_eq_of_lt (by omega)] at hodd
    omega
  have hclear : bitOf (v - 2 ^ i) i = false := by
    have hdiv : (v - 2 ^ i) / 2 ^ i = v / 2 ^ i - 1 := by simpa using Nat.sub_mul_div v (2 ^ i) 1
    unfold bitOf
    rw [hdiv]
    simp only [beq_eq_false_iff_ne, ne_eq]
    omega
  have h := bitOf_add_two_pow (j := j) hclear
  rw [Nat.sub_add_cancel hge] at h
  split
  · next heq => rw [heq]; exact hclear
  · next hne => rw [h, if_neg hne]

/-- A bit set or cleared: that bit reads as it was put, every other one as before. -/
theorem bitOf_setBit (v i j : Nat) (b : Bool) : bitOf (setBit v i b) j = if j = i then b else bitOf v j := by
  unfold setBit
  by_cases h : bitOf v i = b
  · rw [if_pos (by simpa using h)]
    split
    · next heq => rw [heq]; exact h
    · rfl
  · rw [if_neg (by simpa using h)]
    cases b with
    | true => exact bitOf_add_two_pow (by simpa using h)
    | false => exact bitOf_sub_two_pow (by simpa using h)

/-! #### Emergency transmit-off (R134) -/

section
variable {s : State}

@[simp] theorem State.ramp_setRamp_self (s : State) (r sc : Nat) (x : Ramp) : (s.setRamp r sc x).ramp r sc = x :=
  tget_tset_self _ _ _ _

theorem State.ramp_setRamp_ne (s : State) (r sc : Nat) (x : Ramp) {q c : Nat} (h : 64 * q + c ≠ 64 * r + sc) :
    (s.setRamp r sc x).ramp q c = s.ramp q c := tget_tset_ne _ _ _ h

/-- Sub-carriers of a reach taken to 0 touch those sub-carriers' ramps alone. -/
theorem State.each_setRamp_zero (r : Nat) (l : List Nat) (s : State) :
    ∃ g, s.each l (fun s sc => s.setRamp r sc {}) = { s with conv.ramps := g } ∧
      (∀ sc ∈ l, tget (fun _ => {}) g (64 * r + sc) = {}) ∧
      (∀ q sc, (∀ c ∈ l, 64 * q + sc ≠ 64 * r + c) → tget (fun _ => {}) g (64 * q + sc) = s.ramp q sc) := by
  induction l generalizing s with
  | nil => exact ⟨_, rfl, by simp, fun _ _ _ => rfl⟩
  | cons c l ih =>
    obtain ⟨g, hg, hin, hout⟩ := ih (s.setRamp r c {})
    refine ⟨g, hg, fun sc hsc => ?_, fun q sc h => ?_⟩
    · by_cases hl : sc ∈ l
      · exact hin sc hl
      · have hc : sc = c := by simpa [hl] using hsc
        subst hc
        exact (hout r sc (fun d hd he => hl ((show d = sc by omega) ▸ hd))).trans (State.ramp_setRamp_self s r sc {})
    · exact (hout q sc (fun d hd => h d (List.mem_cons_of_mem _ hd))).trans
        (State.ramp_setRamp_ne s r c {} (h c List.mem_cons_self))

/-- What the emergency transmit-off of a reach leaves: every power at 0, the pins off, its source noted and counted. -/
structure TransmitOff (s t : State) (r source : Nat) : Prop where
  upd : ∃ g, RegsOnly ({ s with
    conv := { s.conv with ramps := g, txen := s.conv.txen.filter (· != r), drven := s.conv.drven.filter (· != r) } }.raise
      0xC036 (0x2040 + 0x200 * r) source) t
  state : t.txState r = 4
  powers : ∀ sc, sc < 64 → t.ramp r sc = {}
  others : ∀ q sc, q ≠ r → sc < 64 → t.ramp q sc = s.ramp q sc
  source : t.rdN (Obj.txOffSource r) = setBit (s.rdN (Obj.txOffSource r)) source true
  counted : t.rdN (Obj.emergencyOffs r) = (s.rdN (Obj.emergencyOffs r) + 1) % 2 ^ 64
  keeps : KeepsRegs [Obj.txState r, Obj.rampingLow r, Obj.rampingHigh r, Obj.txOffSource r, Obj.emergencyOffs r] s t

theorem State.emergencyOff_spec (s : State) (r source : Nat) : TransmitOff s (s.emergencyOff r source) r source := by
  obtain ⟨g, hg, hin, hout⟩ := State.each_setRamp_zero r (List.range 64) s
  have hstate : Obj.txState r ≠ Obj.rampingLow r ∧ Obj.txState r ≠ Obj.rampingHigh r ∧ Obj.txState r ≠ Obj.txOffSource r ∧
      Obj.txState r ≠ Obj.emergencyOffs r := by
    simp only [Obj.txState, Obj.rampingLow, Obj.rampingHigh, Obj.txOffSource, Obj.emergencyOffs, objKey]; omega
  have hsource : Obj.txOffSource r ≠ Obj.rampingLow r ∧ Obj.txOffSource r ≠ Obj.rampingHigh r ∧
      Obj.txOffSource r ≠ Obj.emergencyOffs r := by
    simp only [Obj.rampingLow, Obj.rampingHigh, Obj.txOffSource, Obj.emergencyOffs, objKey]; omega
  have hoffs : Obj.emergencyOffs r ≠ Obj.rampingLow r ∧ Obj.emergencyOffs r ≠ Obj.rampingHigh r := by
    simp only [Obj.rampingLow, Obj.rampingHigh, Obj.emergencyOffs, objKey]; omega
  obtain ⟨hs1, hs2, hs3, hs4⟩ := hstate
  obtain ⟨hc1, hc2, hc3⟩ := hsource
  obtain ⟨ho1, ho2⟩ := hoffs
  unfold State.emergencyOff
  rw [hg]
  unfold State.showRamps State.pinsOff
  dsimp only
  refine ⟨⟨g, ?_⟩, ?_, fun sc hsc => ?_, fun q sc hq hsc => ?_, ?_, ?_, ?_⟩
  · exact ((((((RegsOnly.refl.wrN _ _).wrN _ _).wrN _ _).wrN _ _).inc _).raise _ _ _)
  · simp [State.txState, State.wrN_rdN_ne, State.inc_rdN_ne, hs1, hs2, hs3, hs4]
  · exact hin sc (List.mem_range.2 hsc)
  · refine hout q sc fun c hc => ?_
    have hc := List.mem_range.1 hc
    omega
  · simp [State.wrN_rdN_ne, State.inc_rdN_ne, hs3.symm, hc1, hc2, hc3]
  · simp [State.wrN_rdN_ne, ho1, ho2, hs4.symm, hc3.symm]
  · simp

theorem TransmitOff.pins {s t : State} {r source : Nat} (h : TransmitOff s t r source) :
    r ∉ t.conv.txen ∧ r ∉ t.conv.drven := by
  obtain ⟨g, hg⟩ := h.upd
  rw [hg.eq]
  simp

end

section
variable {s : State}

theorem cipherParityFault_completes (core : Fin 36) (h : s.rdN (Obj.cipherCoreState core) = 1) (hw : core.val ∉ s.key.withdrawn) :
    Completes (.cipherParityFault core) s (fun t => t.key = { s.key with withdrawn := s.key.withdrawn ++ [core.val] } ∧
      t.rdN Obj.parityFaults = (s.rdN Obj.parityFaults + 1) % 2 ^ 64 ∧
      t.rdN Obj.segmentsRerun = (s.rdN Obj.segmentsRerun + 1) % 2 ^ 64 ∧
      0x1200 + core.val ∈ t.integ.reported ∧ t.frame = s.frame ∧
      t.core.inFlight = s.core.inFlight ++ [⟨0xC0B5, 0x3801, core.val, s.core.tick, s.life⟩] ∧
      KeepsRegs [Obj.parityFaults, Obj.segmentsRerun, Obj.cipherCoresInService, Obj.capacityBytes] s t) := by
  refine .intro (if_pos ⟨h, by simpa using hw⟩) ?_
  dsimp only
  generalize hu : State.reportFailed _ _ = u
  obtain ⟨g, rfl, hmem⟩ := State.reportFailed_upd hu
  unfold State.cipherCapacity
  refine ⟨rfl, ?_, ?_, hmem, rfl, rfl, ?_⟩
  all_goals simp (disch := decide) [State.wrN_rdN_ne, State.inc_rdN_ne]

theorem segmentBlanked_completes (r : Fin 4) (g : Fin 8) (n : Nat) (fr : TxFrame) (htx : s.frame.tx = [(8 * r.val + g.val, fr)])
    (he : fr.epoch.isSome = true) (hn : n ∉ fr.blanked) :
    Completes (.segmentBlanked r g n) s (fun t => t.frame.tx = [(8 * r.val + g.val, { fr with
        blanked := fr.blanked ++ [n], bytes := fr.map.blankSegment fr.bytes n
        words := fr.map.encode (fr.map.blankSegment fr.bytes n) })] ∧
      t.rdN Obj.segmentsBlanked = (s.rdN Obj.segmentsBlanked + 1) % 2 ^ 64 ∧ t.key = s.key ∧ t.basin = s.basin ∧
      KeepsRegs [Obj.segmentsBlanked] s t) := by
  have hfind : s.frame.tx.find? (fun p => p.1 == 8 * r.val + g.val) = some (8 * r.val + g.val, fr) := by
    simp [htx]
  show ∃ t, execSegmentBlanked r g n s = .next t ∧ _
  unfold execSegmentBlanked
  rw [hfind]
  dsimp only
  rw [if_pos ⟨he, by simpa using hn⟩]
  generalize hu : State.raiseLimited _ _ _ _ = u
  obtain ⟨c, rfl⟩ := State.raiseLimited_upd hu
  refine ⟨_, rfl, ?_, ?_, rfl, rfl, ?_⟩
  · simp [htx, tdel, tput]
  · simp
  · simp

theorem entropyFault_completes (h : s.rdN Obj.entropyState ≠ 1) :
    Completes .entropyFault s (fun t => t.rdN Obj.entropyState = 1 ∧ KeepsRegs [Obj.entropyState] s t ∧ t.key = s.key ∧
      t.core = { s.core with inFlight := s.core.inFlight ++ [⟨0xC0B8, 0x3800, 0, s.core.tick, s.life⟩] }) :=
  .intro (if_neg h) ⟨by simp, by simp, rfl, rfl⟩

end

/-- Settles O25. -/
theorem cipherFailuresAreCountedAndReported : Obligations.CipherFailuresAreCountedAndReported := by
  unfold Obligations.CipherFailuresAreCountedAndReported
  refine ⟨fun s core h hw => cipherParityFault_completes core h hw, fun s core h => ?_,
    fun s r g n fr htx he hn => segmentBlanked_completes r g n fr htx he hn, fun s h => entropyFault_completes h, fun s h => if_pos h⟩
  exact if_neg (fun hc => absurd hc.2 (by simpa using h))

section
variable {s : State}

theorem State.setPort_other (s : State) {b c : Nat} (x : Port) (h : c ≠ b) : (s.setPort b x).port c = s.port c :=
  tget_tset_ne _ _ _ h

/-- A signal touches the host port alone. -/
theorem State.signal_agent (s : State) (v : Nat) : s.signal v = { s with agent := (s.signal v).agent } := by
  unfold State.signal
  split <;> rfl

theorem State.signal_bar (s : State) {v off : Nat} (h : off / 4 ≠ (0x9000 + 4 * (v / 32)) / 4) : (s.signal v).bar off = s.bar off := by
  unfold State.signal
  split
  · rw [State.bar_setBar, if_neg h]
  · rfl

/-- An entry that finds room in its ring moves the ring's HEAD on (Table 3.9); nothing but the host port changes. -/
theorem State.ringWrite_room {q : Nat} (bs : List Byte) (hq : q < 16) (hcap : ringCapacity q ≠ 0) (hroom : s.ringFill q ≠ ringCapacity q) :
    ∃ g, s.ringWrite q bs = { s with agent := g } ∧
      State.bar { s with agent := g } (ringHeadOff q) = (s.bar (ringHeadOff q) + 1) % 2 ^ 32 := by
  unfold State.ringWrite
  dsimp only
  rw [if_neg hcap, if_neg hroom]
  have hoff : ringHeadOff q / 4 ≠ (0x9000 + 4 * (ringVector q / 32)) / 4 := by
    unfold ringHeadOff ringVector
    split <;> omega
  split
  · rw [State.signal_agent]
    exact ⟨_, rfl, (State.signal_bar _ hoff).trans (State.bar_setBar_self _ _ _)⟩
  · exact ⟨_, rfl, State.bar_setBar_self _ _ _⟩

theorem egressFrameTx_completes (b : Fin 64) (p : Fin 8) (q : Nat × List Byte) (hup : s.portUp b = true)
    (hp : bitOf (s.rdN (Obj.pausedRx b)) p = false) (hi : (s.port b).inject = [])
    (hq : (s.port b).egress.find? (fun e => e.1 == p.val) = some q) :
    Completes (.egressFrameTx b p) s (fun t =>
      t.port b = { s.port b with egress := (s.port b).egress.erase q, sent := q.2 } ∧
      (∀ c, c ≠ b.val → t.port c = s.port c) ∧ t.rdN (Obj.framesTx b) = (s.rdN (Obj.framesTx b) + 1) % 2 ^ 64 ∧
      t = { s with regs := t.regs, berth := { s.berth with ports := t.berth.ports } } ∧ KeepsRegs [Obj.framesTx b] s t) := by
  show ∃ t, execEgressFrameTx b p s = .next t ∧ _
  unfold execEgressFrameTx
  dsimp only
  rw [if_pos ⟨hup, hp, by rw [hi]; rfl⟩, hq]
  exact ⟨_, rfl, State.setPort_port _ _ _, fun c hc => State.setPort_other _ _ hc, by simp, rfl,
    by simp [State.setPort]⟩

/-- The bytes of an injected frame as they leave: those of a SYNC frame with the time of day put in (R269). -/
def State.injectedBytes (s : State) (j : Injected) (tick phase : Nat) : List Byte :=
  if j.mode = 2 then
    match s.todNs tick phase with
    | some ns => stampSync j.bytes ns.toNat
    | none => j.bytes
  else j.bytes

/-- What leaves a port at the next gap: the frame's bytes and their FCS. -/
def State.sendInjected (s : State) (b : Nat) (rest : List Injected) (bytes : List Byte) : State :=
  s.setPort b { s.port b with inject := rest, sent := bytes ++ leBytes 4 (crc32 bytes) }

theorem execInjectedFrameSend_eq {b : Fin 64} {j : Injected} {rest : List Injected} (phase : Nat) (hport : s.isPort b = true)
    (hup : s.portUp b = true) (hj : (s.port b).inject = j :: rest) : ∃ tick ph, execInjectedFrameSend b phase s =
      .next (if j.mode = 1 then (s.sendInjected b rest (s.injectedBytes j tick ph)).ringWrite 3 (leBytes 1 b.val ++ [0#8] ++
        leBytes 2 j.tag ++ leBytes 8 tick ++ leBytes 4 ph ++ List.replicate 8 0#8)
      else s.sendInjected b rest (s.injectedBytes j tick ph)) := by
  unfold execInjectedFrameSend
  rw [hport, hup]
  dsimp only
  rw [hj]
  exact ⟨_, _, rfl⟩

theorem injectedFrameSend_plain {b : Fin 64} {j : Injected} {rest : List Injected} (phase : Nat) (hport : s.isPort b = true)
    (hup : s.portUp b = true) (hj : (s.port b).inject = j :: rest) (hmode : j.mode = 0) :
    Completes (.injectedFrameSend b phase) s (fun t =>
      t = { s with berth := { s.berth with ports := t.berth.ports } } ∧
      t.port b = { s.port b with inject := rest, sent := j.bytes ++ leBytes 4 (crc32 j.bytes) } ∧
      (∀ c, c ≠ b.val → t.port c = s.port c)) := by
  obtain ⟨tick, ph, hexec⟩ := execInjectedFrameSend_eq phase hport hup hj
  have hbytes : s.injectedBytes j tick ph = j.bytes := by rw [State.injectedBytes, if_neg (by omega)]
  rw [if_neg (by omega), hbytes] at hexec
  exact .intro hexec ⟨rfl, State.setPort_port _ _ _, fun c hc => State.setPort_other _ _ hc⟩

theorem injectedFrameSend_reported {b : Fin 64} {j : Injected} {rest : List Injected} (phase : Nat) (hport : s.isPort b = true)
    (hup : s.portUp b = true) (hj : (s.port b).inject = j :: rest) (hmode : j.mode = 1) (hroom : s.ringFill 3 ≠ ringCapacity 3) :
    Completes (.injectedFrameSend b phase) s (fun t =>
      t.port b = { s.port b with inject := rest, sent := j.bytes ++ leBytes 4 (crc32 j.bytes) } ∧
      t.bar (ringHeadOff 3) = (s.bar (ringHeadOff 3) + 1) % 2 ^ 32 ∧ t.regs = s.regs ∧ t.core = s.core) := by
  obtain ⟨tick, ph, hexec⟩ := execInjectedFrameSend_eq phase hport hup hj
  have hbytes : s.injectedBytes j tick ph = j.bytes := by rw [State.injectedBytes, if_neg (by omega)]
  obtain ⟨g, hg, hhead⟩ := State.ringWrite_room (s := s.sendInjected b rest j.bytes) (leBytes 1 b.val ++ [0#8] ++
    leBytes 2 j.tag ++ leBytes 8 tick ++ leBytes 4 ph ++ List.replicate 8 0#8) (by decide) (by decide) hroom
  rw [if_pos hmode, hbytes, hg] at hexec
  exact .intro hexec ⟨State.setPort_port _ _ _, hhead, rfl, rfl⟩

theorem injectedFrameSend_sync {b : Fin 64} {j : Injected} {rest : List Injected} (phase : Nat) (hport : s.isPort b = true)
    (hup : s.portUp b = true) (hj : (s.port b).inject = j :: rest) (hmode : j.mode = 2) :
    Completes (.injectedFrameSend b phase) s (fun t => (t.port b).inject = rest ∧
      t = { s with berth := { s.berth with ports := t.berth.ports } } ∧ (s.timing.tod = none →
        (t.port b).sent = j.bytes ++ leBytes 4 (crc32 j.bytes))) := by
  obtain ⟨tick, ph, hexec⟩ := execInjectedFrameSend_eq phase hport hup hj
  rw [if_neg (by omega)] at hexec
  refine .intro hexec ⟨by rw [State.sendInjected, State.setPort_port], rfl, fun htod => ?_⟩
  have hbytes : s.injectedBytes j tick ph = j.bytes := by
    unfold State.injectedBytes State.todNs
    rw [if_pos hmode, htod]
    rfl
  rw [State.sendInjected, State.setPort_port, hbytes]
end

/-- Settles O19. -/
theorem egressAndInjectedFramesLeaveInOrder : Obligations.EgressAndInjectedFramesLeaveInOrder := by
  unfold Obligations.EgressAndInjectedFramesLeaveInOrder
  exact ⟨fun s b p q hup hp hi hq => egressFrameTx_completes b p q hup hp hi hq,
    fun s b phase j rest hport hup hj hmode => injectedFrameSend_plain phase hport hup hj hmode,
    fun s b phase j rest hport hup hj hmode hroom => injectedFrameSend_reported phase hport hup hj hmode hroom,
    fun s b phase j rest hport hup hj hmode => injectedFrameSend_sync phase hport hup hj hmode⟩

section
variable {α : Type}

theorem find?_tdel_ne {j k : Nat} (t : List (Nat × α)) (h : j ≠ k) :
    (tdel k t).find? (fun p => p.1 == j) = t.find? (fun p => p.1 == j) := by
  unfold tdel
  rw [List.find?_filter]
  congr 1
  funext p
  by_cases hp : p.1 = j
  · simp [hp, h]
  · simp [hp]

theorem find?_tput_ne {j k : Nat} (v : α) (t : List (Nat × α)) (h : j ≠ k) :
    (tput k v t).find? (fun p => p.1 == j) = t.find? (fun p => p.1 == j) := by
  induction t with
  | nil => simp [tput, h.symm]
  | cons p t ih =>
    unfold tput
    split
    · simp [h.symm]
    · split
      · next heq => simp [h.symm, ← heq]
      · simp [List.find?_cons, ih]

end

section
variable {s : State}

/-- The reach that carries a unit rests on its mode, its state, its reaches and its side. -/
theorem State.carrier_wrN {k v u : Nat} (hm : Obj.unitMode u ≠ k) (hs : Obj.unitState u ≠ k) (hw : Obj.workingReach u ≠ k)
    (hp : Obj.protectReach u ≠ k) : (s.wrN k v).carrier u = s.carrier u := by
  unfold State.carrier State.uMode State.uState State.sideReach State.protectOf State.unit
  rw [State.wrN_rdN_ne (h := hm), State.wrN_rdN_ne (h := hs), State.wrN_rdN_ne (h := hw), State.wrN_rdN_ne (h := hp), State.wrN_rest]

theorem State.faultTriggers_none {r : Nat} (h : ∀ u, u < 4 → s.carrier u ≠ some r) : s.faultTriggers r = s := by
  unfold State.faultTriggers
  rw [show List.range 4 = [0, 1, 2, 3] from rfl]
  simp [h]

theorem State.carrier_linkState (r u : Nat) (hr : r < 4) (v : Nat) : (s.wrN (Obj.linkState r) v).carrier u = s.carrier u := by
  apply State.carrier_wrN
  all_goals
    simp only [Obj.unitMode, Obj.unitState, Obj.workingReach, Obj.protectReach, Obj.linkState, objKey]
    omega

theorem dieLinkTrained_completes (r : Fin 4) (h : s.rdN (Obj.linkState r) = 1) (hd : 1 ≤ s.dom (domReach r)) :
    Completes (.dieLinkTrained r) s (fun t => t = { s with regs := t.regs } ∧ t.rd (Obj.linkState r) = 2 ∧
      KeepsRegs [Obj.linkState r] s t) :=
  .intro (if_pos ⟨h, hd⟩) ⟨rfl, by simp, by simp⟩

theorem flitCorrected_completes (r : Fin 4) (tx : Bool) (g : Fin 8) (flit : Nat) (h : 2 ≤ s.rdN (Obj.linkState r)) :
    Completes (.dieLinkFlitError r tx 1 g flit) s (fun t => t = { s with regs := t.regs } ∧
      t.rdN (Obj.correctedFlits r) = (s.rdN (Obj.correctedFlits r) + 1) % 2 ^ 64 ∧ KeepsRegs [Obj.correctedFlits r] s t) :=
  .intro (if_neg (by omega)) ⟨rfl, by simp, by simp⟩

theorem execFlitLost {r : Fin 4} {tx : Bool} {g : Fin 8} {flit : Nat} (h : 2 ≤ s.rdN (Obj.linkState r)) :
    exec (.dieLinkFlitError r tx 2 g flit) s = .next (s.flitLost r tx g flit) :=
  if_neg (show ¬ (s.rdN (Obj.linkState r) < 2 ∨ 2 = 0) by omega)

theorem flitLost_rx (r : Fin 4) (g : Fin 8) (flit : Nat) (h : 2 ≤ s.rdN (Obj.linkState r)) :
    Completes (.dieLinkFlitError r false 2 g flit) s (fun t =>
      t = { s with regs := t.regs, conv := { s.conv with flits := t.conv.flits, erased := t.conv.erased } } ∧
      tget (fun _ => []) t.conv.erased r = tget (fun _ => []) s.conv.erased r ++ [(g.val, flit)] ∧
      t.rdN (Obj.uncorrectableRx r) = (s.rdN (Obj.uncorrectableRx r) + 1) % 2 ^ 64 ∧ KeepsRegs [Obj.uncorrectableRx r] s t) := by
  refine .intro (execFlitLost h) ⟨rfl, ?_, ?_, ?_⟩
  all_goals simp [State.flitLost]

theorem flitLost_tx (r : Fin 4) (g : Fin 8) (flit : Nat) (h : 2 ≤ s.rdN (Obj.linkState r)) :
    Completes (.dieLinkFlitError r true 2 g flit) s (fun t =>
      t = { s with regs := t.regs, conv := { s.conv with flits := t.conv.flits }, frame := { s.frame with tx := t.frame.tx } } ∧
      (∀ k, k ≠ 8 * r.val + g.val → t.frame.tx.find? (fun p => p.1 == k) = s.frame.tx.find? (fun p => p.1 == k)) ∧
      t.rdN (Obj.uncorrectableTx r) = (s.rdN (Obj.uncorrectableTx r) + 1) % 2 ^ 64 ∧ KeepsRegs [Obj.uncorrectableTx r] s t) := by
  refine .intro (execFlitLost h) ?_
  unfold State.flitLost
  rw [if_pos rfl]
  dsimp only
  split
  · refine ⟨rfl, fun k hk => ?_, by simp, by simp⟩
    exact (find?_tput_ne _ _ hk).trans (find?_tdel_ne _ hk)
  · exact ⟨rfl, fun _ _ => rfl, by simp, by simp⟩

theorem dieLinkDegraded_held (r : Fin 4) (h : s.rdN (Obj.linkState r) = 2)
    (hk : s.rdN (Obj.degradeTicks r) ≤ (tget (fun _ => (0, 0)) s.conv.overRun r.val).1 ∨
      s.rdN (Obj.degradeTicks r) ≤ (tget (fun _ => (0, 0)) s.conv.overRun r.val).2)
    (hrel : s.released (domReach r) = false) :
    Completes (.dieLinkDegraded r) s (fun t =>
      t = { s with regs := t.regs, core := { s.core with inFlight := s.core.inFlight ++ [⟨0xC010, 0x201C + 0x200 * r.val,
        if s.rdN (Obj.degradeTicks r) ≤ (tget (fun _ => (0, 0)) s.conv.overRun r.val).1 then 0 else 1, s.core.tick, s.life⟩] } } ∧
      t.rd (Obj.linkState r) = 3 ∧ KeepsRegs [Obj.linkState r] s t) := by
  refine .intro ((if_pos ⟨h, hk⟩).trans (congrArg Host.Outcome.next (if_pos ?_))) ⟨rfl, by simp, by simp⟩
  exact (by rw [hrel]; rfl : (!s.released (domReach r) || s.conv.faultMoor.contains r.val) = true)

theorem dieLinkDegraded_moored (r : Fin 4) (h : s.rdN (Obj.linkState r) = 2)
    (hk : s.rdN (Obj.degradeTicks r) ≤ (tget (fun _ => (0, 0)) s.conv.overRun r.val).1 ∨
      s.rdN (Obj.degradeTicks r) ≤ (tget (fun _ => (0, 0)) s.conv.overRun r.val).2)
    (hrel : s.released (domReach r) = true) (hu : ∀ u, u < 4 → s.carrier u ≠ some r.val) (hf : r.val ∉ s.conv.faultMoor) :
    Completes (.dieLinkDegraded r) s (fun t =>
      t.rd (Obj.linkState r) = 3 ∧ t.conv.faultMoor = s.conv.faultMoor ++ [r.val] ∧ KeepsRegs [Obj.linkState r] s t) := by
  refine .intro ((if_pos ⟨h, hk⟩).trans (congrArg Host.Outcome.next ((if_neg ?_).trans (State.faultTriggers_none ?_))))
    ⟨by simp, rfl, by simp⟩
  · exact (by rw [hrel, Bool.not_true, Bool.false_or]; simpa using hf :
      ¬ (!s.released (domReach r) || s.conv.faultMoor.contains r.val) = true)
  · intro u hlt
    exact (State.carrier_linkState r.val u r.isLt 3 (s := s)).symm ▸ hu u hlt
end

/-- Settles O9. -/
theorem dieLinksTrainCountAndDegrade : Obligations.DieLinksTrainCountAndDegrade := by
  unfold Obligations.DieLinksTrainCountAndDegrade
  exact ⟨fun s r h hd => dieLinkTrained_completes r h hd, fun s r tx g flit h => flitCorrected_completes r tx g flit h,
    fun s r g flit h => flitLost_rx r g flit h, fun s r g flit h => flitLost_tx r g flit h,
    fun s r h hk hrel => dieLinkDegraded_held r h hk hrel,
    fun s r h hk hrel hu hf => dieLinkDegraded_moored r h hk hrel hu hf⟩

section
variable {s : State}

theorem State.shutdownRamped_else (h : s.rdN Obj.shutdownState ≠ 2) : s.shutdownRamped = s :=
  if_neg fun hc => h hc.1

theorem shutdownState_ne_txState (r : Nat) : Obj.shutdownState ≠ Obj.txState r := by
  simp only [Obj.shutdownState, Obj.txState, objKey]; omega

theorem rampUp_ends (r : Fin 4) (h : s.txState r = 1)
    (hend : ∀ sc, sc < 64 → s.scEnabled r sc = true → (s.ramp r sc).m = 0 ∧ (s.ramp r sc).cur = level10 (s.rd (Obj.preEmphasis r sc)))
    (hshut : s.rdN Obj.shutdownState ≠ 2) :
    Completes (.rampEnd r) s (fun t => t = { s with regs := t.regs } ∧ t.txState r = 2 ∧ KeepsRegs [Obj.txState r] s t) := by
  have hup : (List.range 64).all (fun sc => !s.scEnabled r sc ||
      ((s.ramp r sc).m == 0 && (s.ramp r sc).cur == level10 (s.rd (Obj.preEmphasis r sc)))) = true := by
    rw [List.all_eq_true]
    intro sc hsc
    cases hen : s.scEnabled r sc with
    | false => rfl
    | true => simpa using hend sc (List.mem_range.1 hsc) hen
  have hop : s.rampEndOp r = s.wrN (Obj.txState r) 2 := if_pos ⟨h, hup⟩
  have hkeep : (s.wrN (Obj.txState r) 2).rdN Obj.shutdownState ≠ 2 := by
    rw [State.wrN_rdN_ne (h := shutdownState_ne_txState r)]
    exact hshut
  refine .intro (congrArg Host.Outcome.next ((congrArg State.shutdownRamped hop).trans (State.shutdownRamped_else hkeep)))
    ⟨rfl, State.wrN_rdN_self .., by simp⟩

theorem rampDown_ends (r : Fin 4) (h : s.txState r = 3) (hend : ∀ sc, sc < 64 → (s.ramp r sc).m = 0 ∧ (s.ramp r sc).cur = 0)
    (hshut : s.rdN Obj.shutdownState ≠ 2) :
    Completes (.rampEnd r) s (fun t => t.txState r = 0 ∧ r.val ∉ t.conv.txen ∧ r.val ∉ t.conv.drven ∧
      (∀ q, q ≠ r.val → (q ∈ t.conv.txen ↔ q ∈ s.conv.txen) ∧ (q ∈ t.conv.drven ↔ q ∈ s.conv.drven)) ∧
      t = { s with regs := t.regs, conv := { s.conv with txen := t.conv.txen, drven := t.conv.drven } } ∧
      KeepsRegs [Obj.txState r] s t) := by
  have hdown : (List.range 64).all (fun sc => (s.ramp r sc).m == 0 && (s.ramp r sc).cur == 0) = true := by
    rw [List.all_eq_true]
    intro sc hsc
    simpa using hend sc (List.mem_range.1 hsc)
  have hop : s.rampEndOp r = (s.pinsOff r).wrN (Obj.txState r) 0 :=
    (if_neg (fun hc => by rw [h] at hc; omega)).trans (if_pos ⟨h, hdown⟩)
  have hkeep : ((s.pinsOff r).wrN (Obj.txState r) 0).rdN Obj.shutdownState ≠ 2 := by
    rw [State.wrN_rdN_ne (h := shutdownState_ne_txState r)]
    exact hshut
  refine .intro (congrArg Host.Outcome.next ((congrArg State.shutdownRamped hop).trans (State.shutdownRamped_else hkeep)))
    ⟨State.wrN_rdN_self .., ?_, ?_, fun q hq => ?_, rfl, ?_⟩
  all_goals simp [State.pinsOff]
  exact ⟨fun _ => hq, fun _ => hq⟩

/-- The pins with one of them at a new level. -/
def State.pinAt (s : State) (n : Nat) (level : Bool) : State := { s with board.pins := setBit s.board.pins n level }

theorem eyeActiveAt_pinAt {n r : Nat} {level : Bool} : (s.pinAt n level).eyeActiveAt n r =
    ((s.pathSelects n).isNone && gpioFunction (s.rdN (Obj.gpioConfig n)) == 2 && bitsOf (s.rdN (Obj.gpioConfig n)) 5 4 == r &&
      (level != bitOf (s.rdN (Obj.gpioConfig n)) 8)) := by
  have hbit : bitOf (s.pinAt n level).board.pins n = level := by rw [State.pinAt, bitOf_setBit, if_pos rfl]
  unfold State.eyeActiveAt
  dsimp only
  rw [hbit]
  rfl

theorem upto_eq_singleton {n k : Nat} {p : Nat → Bool} (h : ∀ i, i < n → (p i = true ↔ i = k)) (hk : k < n) : upto n p = [k] := by
  have hfilter : upto n p = (List.range n).filter (fun i => i == k) :=
    List.filter_congr fun i hi => by rw [Bool.eq_iff_iff, h i (List.mem_range.1 hi), beq_iff_eq]
  rw [hfilter, List.filter_beq, List.count_eq_one_of_mem List.nodup_range (List.mem_range.2 hk)]
  rfl

/-- The reaches that the pin's change fires: the one whose input the pin is, where it stands at its active level. -/
theorem fires_eq (s : State) (n : Fin 16) (fresh : Bool) :
    upto 4 (fun r => (List.range 16).any (fun m => (m == n.val && fresh) && s.eyeActiveAt m r)) =
      upto 4 (fun r => fresh && s.eyeActiveAt n r) := by
  refine List.filter_congr fun r _ => ?_
  rw [Bool.eq_iff_iff, List.any_eq_true]
  constructor
  · rintro ⟨m, -, hm⟩
    simp only [Bool.and_eq_true, beq_iff_eq] at hm ⊢
    obtain ⟨⟨rfl, hfresh⟩, hact⟩ := hm
    exact ⟨hfresh, hact⟩
  · intro h
    refine ⟨n.val, List.mem_range.2 n.isLt, by simpa using h⟩

/-- The reaches whose inputs stand at their active level. -/
def State.eyesNow (s : State) : List Nat := upto 4 (fun r => (List.range 16).any (fun n => s.eyeActiveAt n r))

theorem execEyeSafetyInput_eq (n : Fin 16) (level : Bool) : execEyeSafetyInput n level s = .next
    (State.each { s.pinAt n level with conv.eyeActive := (s.pinAt n level).eyesNow }
      (upto 4 (fun r => (bitOf s.board.pins n != level) && (s.pinAt n level).eyeActiveAt n r)) (fun s r => s.emergencyOff r 1)) := by
  rw [← fires_eq]
  rfl

theorem eyeSafety_fires (n : Fin 16) (r : Fin 4) (level : Bool) (hsel : (s.pathSelects n).isNone = true)
    (hfun : gpioFunction (s.rdN (Obj.gpioConfig n)) = 2) (hr : bitsOf (s.rdN (Obj.gpioConfig n)) 5 4 = r.val)
    (hnew : bitOf s.board.pins n ≠ level) (hact : level ≠ bitOf (s.rdN (Obj.gpioConfig n)) 8) :
    Completes (.eyeSafetyInput n level) s (fun t =>
      t.txState r = 4 ∧ (∀ sc, sc < 64 → (t.ramp r sc).cur = 0 ∧ (t.ramp r sc).m = 0) ∧
      r.val ∉ t.conv.txen ∧ r.val ∉ t.conv.drven ∧ bitOf t.board.pins n = level ∧ r.val ∈ t.conv.eyeActive ∧
      bitOf (t.rdN (Obj.txOffSource r)) 1 = true ∧
      t.rdN (Obj.emergencyOffs r) = (s.rdN (Obj.emergencyOffs r) + 1) % 2 ^ 64 ∧
      t.core = { s.core with inFlight := s.core.inFlight ++ [⟨0xC036, 0x2040 + 0x200 * r.val, 1, s.core.tick, s.life⟩] } ∧
      (∀ q, q < 4 → q ≠ r.val → t.txState q = s.txState q ∧ ∀ sc, sc < 64 → t.ramp q sc = s.ramp q sc) ∧
      t.power = s.power ∧ t.agent = s.agent) := by
  have hactive (q : Nat) : (s.pinAt n level).eyeActiveAt n q = true ↔ q = r.val := by
    rw [eyeActiveAt_pinAt, hsel, hfun, hr]
    simp only [Bool.true_and, beq_self_eq_true, Bool.and_eq_true, beq_iff_eq, bne_iff_ne, hact, ne_eq, not_false_eq_true, and_true]
    exact eq_comm
  have hfire : upto 4 (fun q => (bitOf s.board.pins n != level) && (s.pinAt n level).eyeActiveAt n q) = [r.val] :=
    upto_eq_singleton (fun q _ => by simp [hnew, hactive]) r.isLt
  have heye : r.val ∈ (s.pinAt n level).eyesNow := by
    refine List.mem_filter.2 ⟨List.mem_range.2 r.isLt, ?_⟩
    exact List.any_eq_true.2 ⟨n.val, List.mem_range.2 n.isLt, (hactive r.val).2 rfl⟩
  have hoff := State.emergencyOff_spec { s.pinAt n level with conv.eyeActive := (s.pinAt n level).eyesNow } r.val 1
  have hexec := execEyeSafetyInput_eq (s := s) n level
  rw [hfire, State.each_cons, State.each_nil] at hexec
  refine .intro hexec ?_
  generalize State.emergencyOff _ _ _ = t at hoff
  obtain ⟨g, hg⟩ := hoff.upd
  obtain ⟨htx, hdrv⟩ := hoff.pins
  have hpins : t.board = (s.pinAt n level).board := by rw [hg.eq]; rfl
  have hothers (q : Nat) (hq : q ≠ r.val) : t.txState q = s.txState q := by
    have hkeep : t.rd (Obj.txState q) = s.rd (Obj.txState q) := by
      refine hoff.keeps _ ?_
      simp only [List.mem_cons, List.not_mem_nil, or_false, Obj.txState, Obj.rampingLow, Obj.rampingHigh, Obj.txOffSource, Obj.emergencyOffs,
        objKey]
      omega
    unfold State.txState State.rdN
    rw [hkeep]
  refine ⟨hoff.state, fun sc hsc => ?_, htx, hdrv, ?_, ?_, ?_, hoff.counted, ?_,
    fun q _ hq => ⟨hothers q hq, fun sc hsc => (hoff.others q sc hq hsc).trans rfl⟩, ?_, ?_⟩
  · rw [hoff.powers sc hsc]
    exact ⟨rfl, rfl⟩
  · rw [hpins, State.pinAt, bitOf_setBit, if_pos rfl]
  · rw [hg.eq]
    exact heye
  · rw [hoff.source, bitOf_setBit, if_pos rfl]
  · rw [hg.core]; rfl
  · rw [hg.eq]; rfl
  · rw [hg.eq]; rfl

theorem eyeSafety_other (n : Fin 16) (level : Bool) (hfun : gpioFunction (s.rdN (Obj.gpioConfig n)) ≠ 2) :
    Completes (.eyeSafetyInput n level) s (fun t => bitOf t.board.pins n = level ∧ t.regs = s.regs ∧ t.conv.ramps = s.conv.ramps ∧
      t.conv.txen = s.conv.txen ∧ (∀ m, m ≠ n.val → bitOf t.board.pins m = bitOf s.board.pins m) ∧ t.core = s.core) := by
  have hfire : upto 4 (fun q => (bitOf s.board.pins n != level) && (s.pinAt n level).eyeActiveAt n q) = [] := by
    refine List.filter_eq_nil_iff.2 fun q _ => ?_
    simp [eyeActiveAt_pinAt, hfun]
  have hexec := execEyeSafetyInput_eq (s := s) n level
  rw [hfire, State.each_nil] at hexec
  refine .intro hexec ⟨?_, rfl, rfl, rfl, fun m hm => ?_, rfl⟩
  · exact (bitOf_setBit _ _ _ _).trans (if_pos rfl)
  · exact (bitOf_setBit _ _ _ _).trans (if_neg hm)
end

/-- Settles O11. -/
theorem rampsEndAndEyeSafetyTurnsOff : Obligations.RampsEndAndEyeSafetyTurnsOff := by
  unfold Obligations.RampsEndAndEyeSafetyTurnsOff
  exact ⟨fun s r h hend hshut => rampUp_ends r h hend hshut, fun s r h hend hshut => rampDown_ends r h hend hshut,
    fun s n r level hsel hfun hr hnew hact => eyeSafety_fires n r level hsel hfun hr hnew hact,
    fun s n level hfun => eyeSafety_other n level hfun⟩

section
variable {s : State}

theorem State.shutdownRamped_ramping {r : Nat} (hr : r < 4) (h0 : s.txState r ≠ 0) (h4 : s.txState r ≠ 4) : s.shutdownRamped = s := by
  refine if_neg fun hc => ?_
  have hall := List.all_eq_true.1 hc.2 r (List.mem_range.2 hr)
  simp [h0, h4] at hall

theorem shutdownDrain_ends (h : s.rdN Obj.shutdownState = 1)
    (hend : s.unackedCells = 0 ∨ s.start.drainStart + s.rdN Obj.shutdownDrain ≤ s.core.tick)
    (h0 : s.opRunning 0 = false) (h7 : s.opRunning 7 = false) (hr : ∃ r, r < 4 ∧ s.txState r ≠ 0 ∧ s.txState r ≠ 4) :
    Completes .shutdownDrainEnd s (fun t =>
      t = { s with regs := t.regs, start := { s.start with unacked := s.unackedCells } } ∧
      t.rd Obj.shutdownState = 2 ∧ KeepsRegs [Obj.shutdownState] s t) := by
  obtain ⟨r, hr, hr0, hr4⟩ := hr
  have hop (o : Nat) (ho : o < 8) (hs : s.opRunning o = false) :
      (State.wrN { s with start.unacked := s.unackedCells } Obj.shutdownState 2).opRunning o = false := by
    unfold State.opRunning at hs ⊢
    rw [State.wrN_rdN_ne (h := by simp only [Obj.opState, Obj.shutdownState, objKey]; omega)]
    exact hs
  have htx : (State.wrN { s with start.unacked := s.unackedCells } Obj.shutdownState 2).txState r = s.txState r :=
    State.wrN_rdN_ne (h := (shutdownState_ne_txState r).symm) ..
  refine .intro (t := State.wrN { s with start.unacked := s.unackedCells } Obj.shutdownState 2) ?_ ⟨rfl, by simp, by simp⟩
  show execShutdownDrainEnd s = _
  unfold execShutdownDrainEnd
  dsimp only
  rw [if_pos ⟨h, hend⟩, hop 0 (by omega) h0, State.onlyIf_false, hop 7 (by omega) h7, State.onlyIf_false,
    State.shutdownRamped_ramping hr (htx ▸ hr0) (htx ▸ hr4)]

/-- A commit requested with none on its way is begun (R111). -/
theorem State.requestCommit_begins {u : State} {cause : Nat} {clean : Bool} (hst : s.start.started = true)
    (hc : s.start.commit = none) (h : s.requestCommit cause clean = u) :
    ∃ g c, u = { s with integ := g, start.commit := some c } ∧ c.cause = cause ∧ c.clean = clean := by
  rw [← h]
  unfold State.requestCommit
  rw [hst, hc]
  unfold State.commitStart
  dsimp only
  simp only [Bool.not_true, Bool.false_eq_true, if_false]
  split
  · exact ⟨_, _, rfl, rfl, rfl⟩
  · exact ⟨_, _, rfl, rfl, rfl⟩

/-- The image buffer's bytes programmed, after the erase that the load begins with (R116). -/
def State.programmed (s : State) : State := (if s.start.fwErased then s else s.imageErase).imageProgram (s.rdN (Obj.opPositionEnd 6))

theorem State.programmed_upd (s : State) : ∃ g, s.programmed = { s with start := g } ∧ g.commit = s.start.commit ∧
    g.started = s.start.started ∧ g.lifeBase = s.start.lifeBase := by
  unfold State.programmed
  split
  · exact ⟨_, rfl, rfl, rfl, rfl⟩
  · exact ⟨_, rfl, rfl, rfl, rfl⟩

theorem execFirmwareLoadEnd_eq (h : s.opRunning 6 = true) : execFirmwareLoadEnd s =
    (if s.programmed.imageVerifies s.loadTarget then
      .next (((((s.programmed.opAdvance 6 (s.programmed.rdN (Obj.opPositionEnd 6))).opDone 6).wrN Obj.activeImage
        (1 - ((s.programmed.opAdvance 6 (s.programmed.rdN (Obj.opPositionEnd 6))).opDone 6).rdN Obj.activeImage))).requestCommit 4 false)
    else .next (s.programmed.opFail 6 Status.refused)) := by
  have htarget : s.programmed.loadTarget = s.loadTarget := by
    obtain ⟨g, hg, -⟩ := s.programmed_upd
    rw [hg]
    rfl
  rw [← htarget]
  unfold execFirmwareLoadEnd
  rw [if_pos h]
  unfold State.programmed
  split <;> rfl

theorem State.opAdvance_spec (s : State) (o pos : Nat) :
    RegsOnly s (s.opAdvance o pos) ∧ KeepsRegs [Obj.opPosition o, Obj.opPercent o] s (s.opAdvance o pos) := by
  unfold State.opAdvance
  split
  · exact ⟨(RegsOnly.refl.wrN _ _).wrN _ _, by simp⟩
  · exact ⟨.refl, by simp⟩

theorem firmwareLoad_verified (h : s.opRunning 6 = true) (hst : s.start.started = true) (hc : s.start.commit = none)
    (hv : s.programmed.imageVerifies s.loadTarget = true) :
    Completes .firmwareLoadEnd s (fun t =>
      t.rdN Obj.activeImage = 1 - s.rdN Obj.activeImage ∧ t.rd (Obj.opState 6) = 2 ∧ t.rd (Obj.opPercent 6) = 10000 ∧
      KeepsRegs [Obj.activeImage, Obj.opState 6, Obj.opPercent 6, Obj.opPosition 6] s t ∧
      t.start.images = s.programmed.start.images ∧
      t.core.inFlight = s.core.inFlight ++ [⟨0x4005, 0x1186, 0, s.core.tick, s.life⟩] ∧
      ∃ c, t.start.commit = some c ∧ c.cause = 4 ∧ c.clean = false) := by
  obtain ⟨g, hg, hgc, hgs, hgl⟩ := s.programmed_upd
  have hexec := execFirmwareLoadEnd_eq h
  rw [hg] at hexec hv
  rw [if_pos hv] at hexec
  obtain ⟨hadv, hkeep⟩ := State.opAdvance_spec { s with start := g } 6 (State.rdN { s with start := g } (Obj.opPositionEnd 6))
  generalize State.opAdvance _ _ _ = a at hexec hadv hkeep
  obtain ⟨x, rfl⟩ := hadv
  unfold State.opDone at hexec
  generalize hr : State.requestCommit _ 4 false = r at hexec
  obtain ⟨i, c, rfl, hcause, hclean⟩ := State.requestCommit_begins (hgs.trans hst) (hgc.trans hc) hr
  have hactive : State.rdN { s with start := g, regs := x } Obj.activeImage = s.rdN Obj.activeImage := by
    unfold State.rdN
    rw [hkeep _ (by decide)]
    rfl
  have hlife : State.life { s with start := g, regs := x } = s.life := by
    unfold State.life
    rw [← hgl]
  refine .intro hexec ⟨?_, ?_, ?_, ?_, ?_, ?_, c, rfl, hcause, hclean⟩
  · simp (disch := decide) [State.wrN_rdN_ne, hactive]
  · simp (disch := decide) [State.wrN_rd_ne]
  · simp (disch := decide) [State.wrN_rd_ne]
  · have hmono : KeepsRegs [Obj.activeImage, Obj.opState 6, Obj.opPercent 6, Obj.opPosition 6] s { s with start := g, regs := x } :=
      KeepsRegs.mono (s := s) hkeep (by decide)
    simpa using hmono
  · rw [hg]
    rfl
  · rw [← hlife]
    rfl

theorem firmwareLoad_refused (h : s.opRunning 6 = true) (hv : s.programmed.imageVerifies s.loadTarget = false) :
    Completes .firmwareLoadEnd s (fun t =>
      t = { s.programmed with regs := t.regs, core := { s.core with inFlight := s.core.inFlight ++
        [⟨0x8006, 0x1186, Status.refused, s.core.tick, s.life⟩] } } ∧
      t.rd (Obj.opState 6) = 3 ∧ t.rd (Obj.opLastStatus 6) = Status.refused ∧
      KeepsRegs [Obj.opState 6, Obj.opLastStatus 6] s t) := by
  obtain ⟨g, hg, hgc, hgs, hgl⟩ := s.programmed_upd
  have hexec := execFirmwareLoadEnd_eq h
  have hlife : State.life { s with start := g } = s.life := by
    unfold State.life
    rw [← hgl]
  rw [hg] at hexec hv ⊢
  rw [if_neg (by rw [hv]; simp)] at hexec
  unfold State.opFail at hexec
  refine .intro hexec ⟨?_, ?_, ?_, ?_⟩
  · rw [← hlife]
    rfl
  · simp (disch := decide) []
  · simp (disch := decide) [State.wrN_rd_ne]
  · simp
end

/-- Settles O8. -/
theorem shutdownDrainsAndFirmwareLoads : Obligations.ShutdownDrainsAndFirmwareLoads := by
  unfold Obligations.ShutdownDrainsAndFirmwareLoads
  exact ⟨fun s h hend h0 h7 hr => shutdownDrain_ends h hend h0 h7 hr, fun s h hst hc hv => firmwareLoad_verified h hst hc hv,
    fun s h hv => firmwareLoad_refused h hv⟩

section
variable {s : State}

theorem switchEnd_completes (hsw : s.timing.switching = true) (hp : s.timing.pull.natAbs ≤ 100000) :
    Completes .switchEnd s (fun t => t = { s with timing := { s.timing with switching := false } }) :=
  .intro (if_pos (by simp [hsw, hp])) rfl

theorem State.carriesPhase_timingState (v i : Nat) : (s.wrN Obj.timingState v).carriesPhase i = s.carriesPhase i := by
  unfold State.carriesPhase
  by_cases hi : i < 12
  · rw [State.wrN_rdN_ne (h := by simp only [Obj.phaseMode, Obj.timingState, objKey]; omega)]
  · simp [hi]

/-- LOCKED: the second starts, and TOD_STATE follows (R359, R372). -/
theorem State.timingTo_locked {u : State} (h : s.timingTo 2 = u) :
    RegsOnly { s with timing := { s.timing with secStart := s.core.tick } } u ∧ u.rdN Obj.timingState = 2 ∧
    KeepsRegs [Obj.timingState, Obj.todState] s u ∧
    u.rdN Obj.todState = (if s.timing.tod.isNone then 0
      else if s.rdB Obj.todFromPps && s.carriesPhase s.selectedIn then 2 else 1) := by
  rw [← h]
  unfold State.timingTo State.showTod
  dsimp only
  rw [if_neg (by decide : ¬ (2 : Nat) = 1), if_neg (fun hc => hc.2 rfl), if_pos rfl]
  refine ⟨(RegsOnly.refl.wrN _ _).wrN _ _, by simp (disch := decide) [State.wrN_rdN_ne], by simp, ?_⟩
  rw [State.wrN_rdN_self, State.wrN_rdN_self, if_neg (by decide : ¬ ((2 : Nat) = 0 ∨ 2 = 3))]
  simp (disch := decide) only [State.rdB, State.selectedIn, State.carriesPhase_timingState, State.wrN_rdN_ne, State.wrN_rd_ne,
    State.wrN_timing]
  rfl

theorem locked_completes (means : List Int) (h : s.rdN Obj.timingState = 1) (hsw : s.timing.switching = false)
    (ht : s.timing.acqAt + 1000000 ≤ s.core.tick) (hlen : means.length = 10) (hm : ∀ m ∈ means, m.natAbs < 1000) :
    Completes (.locked means) s (fun t => t.rdN Obj.timingState = 2 ∧
      t.timing = { s.timing with secStart := s.core.tick } ∧ KeepsRegs [Obj.timingState, Obj.todState] s t ∧
      t.rdN Obj.todState = (if s.timing.tod.isNone then 0
        else if s.rdB Obj.todFromPps && s.carriesPhase s.selectedIn then 2 else 1) ∧
      t.core = { s.core with inFlight := s.core.inFlight ++ [⟨0x40C4, 0x4000, s.selectedIn, s.core.tick, s.life⟩] }) := by
  have hall : (means.take 10).all (fun m => decide (m.natAbs < 1000)) = true :=
    List.all_eq_true.2 fun m hmem => decide_eq_true (hm m (List.mem_of_mem_take hmem))
  refine .intro (if_pos ⟨h, by simp [hsw], ht, by omega, hall⟩) ?_
  generalize hu : State.timingTo s 2 = u
  obtain ⟨hregs, hstate, hkeep, htod⟩ := State.timingTo_locked hu
  obtain ⟨x, rfl⟩ := hregs
  exact ⟨hstate, rfl, hkeep, htod, rfl⟩

theorem State.holdoverFigures_spec {u : State} (h : s.holdoverFigures = u) : u.timing = s.timing ∧
    u.rdN Obj.lockedSeconds = s.timing.seconds.length ∧
    KeepsRegs [Obj.holdoverReady, Obj.holdoverEstimate, Obj.lockedSeconds] s u ∧ u.core.inFlight = s.core.inFlight := by
  rw [← h]
  have hfree : ∃ n, (if (!s.guarded.isEmpty && s.guarded.length == s.rdN Obj.holdWindow) = true
      then s.roundFreeInt (s.guarded.foldl (· + ·) 0) s.guarded.length else (0, s)).2 = { s with core.freeCtr := n } := by
    split
    · exact State.roundFreeInt_upd _ _ _
    · exact ⟨_, rfl⟩
  obtain ⟨n, hn⟩ := hfree
  unfold State.holdoverFigures
  dsimp only
  rw [hn]
  exact ⟨rfl, State.wrN_rdN_self .., by simp, rfl⟩

theorem lockedSecond_completes (m : Int) (h : s.rdN Obj.timingState = 2) (ht : s.timing.secStart + 100000 ≤ s.core.tick) :
    Completes (.lockedSecond m) s (fun t =>
      t.timing = { s.timing with
        secStart := s.timing.secStart + 100000,
        seconds := ((s.timing.secStart + 100000, m) :: s.timing.seconds).take 4096 } ∧
      t.rdN Obj.lockedSeconds = min (s.timing.seconds.length + 1) 4096 ∧
      KeepsRegs [Obj.holdoverReady, Obj.holdoverEstimate, Obj.lockedSeconds] s t ∧
      t.core.inFlight = s.core.inFlight) := by
  refine .intro (if_pos ⟨h, ht⟩) ?_
  dsimp only
  generalize hu : State.holdoverFigures _ = u
  obtain ⟨htiming, hlen, hkeep, hflight⟩ := State.holdoverFigures_spec hu
  refine ⟨htiming, ?_, hkeep, hflight⟩
  rw [hlen, List.length_take, List.length_cons, Nat.min_comm]

theorem delayMarkSend_completes (r : Fin 4) (hrel : s.released (domReach r) = true)
    (hon : s.groupOn r (s.rdN (Obj.delayGroup r)) = true) (ht : (s.delay r).lastMark + s.rdN (Obj.delayInterval r) ≤ s.core.tick) :
    Completes (.delayMarkSend r) s (fun t => t.delay r = { s.delay r with markDue := true, lastMark := s.core.tick } ∧
      (∀ k, k ≠ r.val → t.delay k = s.delay k) ∧ t.regs = s.regs ∧ t.core = s.core ∧
      t.timing.inputs = s.timing.inputs ∧ t.timing.seconds = s.timing.seconds ∧ t.timing.pull = s.timing.pull) :=
  .intro (if_pos (by rw [hrel, hon]; simpa using ht))
    ⟨tget_tset_self _ _ _ _, fun _ hk => tget_tset_ne _ _ _ hk, rfl, rfl, rfl, rfl, rfl⟩
end

/-- Settles O27. -/
theorem timingLocksKeepsSecondsAndMarksDelay : Obligations.TimingLocksKeepsSecondsAndMarksDelay := by
  unfold Obligations.TimingLocksKeepsSecondsAndMarksDelay
  refine ⟨fun s hsw hp => switchEnd_completes hsw hp, fun s hp => if_neg (by simp; omega),
    fun s means h hsw ht hlen hm => locked_completes means h hsw ht hlen hm, fun s means hlen => ?_,
    fun s m h ht => lockedSecond_completes m h ht, fun s m h => if_neg fun hc => h hc.1,
    fun s r hrel hon ht => delayMarkSend_completes r hrel hon ht⟩
  exact if_neg fun ⟨_, _, _, hc, _⟩ => by omega

section
variable {s : State}

theorem State.setLane_other (s : State) {l k : Nat} (x : LaneSt) (h : k ≠ l) : (s.setLane l x).lane k = s.lane k :=
  tget_tset_ne _ _ _ h

theorem skipSend_completes (l : Fin 8) (h : s.laneFill l ≠ none) :
    Completes (.skipSend l) s (fun t => t.lane l = { s.lane l with
        skips := (s.lane l).skips + 1, sinceSkip := 0, positive := (codeGroups (s.lane l).positive setSkip).2
        line := (s.lane l).line ++ (codeGroups (s.lane l).positive setSkip).1 } ∧
      (∀ k, k ≠ l.val → t.lane k = s.lane k) ∧ t.regs = s.regs ∧ t.core = s.core) := by
  refine .intro (if_pos (Option.isSome_iff_ne_none.2 h)) ⟨?_, fun k hk => ?_, rfl, rfl⟩
  · unfold State.skipSend State.laneSend
    dsimp only
    rw [State.setLane_lane, State.setLane_lane]
  · exact (State.setLane_other _ _ hk).trans (State.setLane_other _ _ hk)

/-- A message put out on a lane, behind what waits there (R383). -/
def State.sendOn (s : State) (m : List Byte) (l : Nat) : State :=
  let s := s.laneSend l (framed m)
  s.setLane l { (s.lane l) with queued := (s.lane l).queued + (framed m).length }

theorem State.sendOn_spec (s : State) (m : List Byte) (l : Nat) : ∃ g, s.sendOn m l = { s with towpath.lanes := g } ∧
    (tget (fun _ => {}) g l).line = (s.lane l).line ++ (codeGroups (s.lane l).positive (framed m)).1 ∧
    (∀ k, k ≠ l → tget (fun _ => {}) g k = s.lane k) := by
  refine ⟨_, rfl, ?_, fun k hk => (tget_tset_ne _ _ _ hk).trans (tget_tset_ne _ _ _ hk)⟩
  have hsent : ((s.laneSend l (framed m)).lane l).line = (s.lane l).line ++ (codeGroups (s.lane l).positive (framed m)).1 := by
    unfold State.laneSend
    dsimp only
    rw [State.setLane_lane]
  rw [tget_tset_self]
  exact hsent

/-- A message put out on several lanes goes to each of them once. -/
theorem State.each_sendOn (m : List Byte) (ls : List Nat) (hnd : ls.Nodup) (s : State) :
    ∃ g, s.each ls (fun s l => s.sendOn m l) = { s with towpath.lanes := g } ∧
      (∀ l ∈ ls, (tget (fun _ => {}) g l).line = (s.lane l).line ++ (codeGroups (s.lane l).positive (framed m)).1) ∧
      (∀ l, l ∉ ls → tget (fun _ => {}) g l = s.lane l) := by
  induction ls generalizing s with
  | nil => exact ⟨_, rfl, by simp, fun _ _ => rfl⟩
  | cons c ls ih =>
    obtain ⟨hc, hnd⟩ := List.nodup_cons.1 hnd
    obtain ⟨x, hx, hline, hother⟩ := s.sendOn_spec m c
    obtain ⟨g, hg, hin, hout⟩ := ih hnd (s.sendOn m c)
    have hlane (k : Nat) : (s.sendOn m c).lane k = tget (fun _ => {}) x k := by rw [hx]; rfl
    refine ⟨g, hg.trans (by rw [hx]), fun l hl => ?_, fun l hl => ?_⟩
    · by_cases hlc : l = c
      · rw [hlc, hout c hc, hlane, hline]
      · rw [hin l ((List.mem_cons.1 hl).resolve_left hlc), hlane, hother l hlc]
    · rw [List.mem_cons, not_or] at hl
      obtain ⟨hlc, hls⟩ := hl
      rw [hout l hls, hlane, hother l hlc]

/-- The lanes that a message takes: all in service, or the one that is free first (R383). -/
def State.mateDest (s : State) (every : Bool) : List Nat := if every then s.lanesUp else s.freeLane.toList

/-- A message sent with lanes in service goes out on them, and every one counts. -/
theorem State.sendMate_up {u : State} {every : Bool} {type flags : Nat} {body : List Byte} (hup : s.lanesUp ≠ [])
    (hnd : (s.mateDest every).Nodup) (h : (s.sendMate every type flags body).1 = u) :
    ∃ g, RegsOnly { s with towpath := { s.towpath with
        msgSeq := (s.towpath.msgSeq + 1) % 65536, lanes := g,
        sent := s.towpath.sent ++ [(s.mateDest every, mateBytes type flags (s.rdN Obj.localPeerId) s.towpath.msgSeq s.core.tick body)] } } u ∧
      (∀ l ∈ s.mateDest every, (tget (fun _ => {}) g l).line = (s.lane l).line ++ (codeGroups (s.lane l).positive (framed
        (mateBytes type flags (s.rdN Obj.localPeerId) s.towpath.msgSeq s.core.tick body))).1) ∧
      (∀ l, l ∉ s.mateDest every → tget (fun _ => {}) g l = s.lane l) ∧
      u.rdN Obj.messagesSent = (s.rdN Obj.messagesSent + (s.mateDest every).length) % 2 ^ 64 ∧ KeepsRegs [Obj.messagesSent] s u := by
  rw [← h]
  generalize hm : mateBytes type flags (s.rdN Obj.localPeerId) s.towpath.msgSeq s.core.tick body = m
  obtain ⟨g, hg, hin, hout⟩ := State.each_sendOn m (s.mateDest every) hnd { s with towpath := { s.towpath with
    msgSeq := (s.towpath.msgSeq + 1) % 65536, sent := s.towpath.sent ++ [(s.mateDest every, m)] } }
  have hsend : (s.sendMate every type flags body).1 = State.incBy (State.each { s with towpath := { s.towpath with
      msgSeq := (s.towpath.msgSeq + 1) % 65536, sent := s.towpath.sent ++ [(s.mateDest every, m)] } } (s.mateDest every)
      (fun s l => s.sendOn m l)) Obj.messagesSent (s.mateDest every).length := by
    unfold State.sendMate State.putMate
    dsimp only
    rw [hm]
    split
    · next hc => exact absurd (show s.lanesUp.isEmpty = true from hc) (by simpa using hup)
    · rfl
  rw [hsend, hg]
  exact ⟨g, RegsOnly.refl.incBy _ _, hin, hout, State.rdN_incBy_self .., by simp⟩

theorem upto_nodup (n : Nat) (p : Nat → Bool) : (upto n p).Nodup := List.nodup_range.filter _

theorem State.mateDest_nodup (s : State) : (s.mateDest true).Nodup :=
  upto_nodup 8 (fun l => s.laneState l == 3)

theorem helloSend_completes (ht : s.towpath.helloAt + 5 ≤ s.core.tick) (hp : s.hubPowered = true) (hup : s.lanesUp ≠ []) :
    Completes .helloSend s (fun t => t.core = s.core ∧ t.towpath = { s.towpath with
        helloAt := s.core.tick, msgSeq := (s.towpath.msgSeq + 1) % 65536, lanes := t.towpath.lanes,
        sent := s.towpath.sent ++ [(s.lanesUp,
          mateBytes 1 0 (s.rdN Obj.localPeerId) s.towpath.msgSeq s.core.tick s.helloBody)] } ∧
      (∀ l ∈ s.lanesUp, (t.lane l).line = (s.lane l).line ++ (codeGroups (s.lane l).positive (framed
        (mateBytes 1 0 (s.rdN Obj.localPeerId) s.towpath.msgSeq s.core.tick s.helloBody))).1) ∧
      (∀ l, l ∉ s.lanesUp → t.lane l = s.lane l) ∧
      t.rdN Obj.messagesSent = (s.rdN Obj.messagesSent + s.lanesUp.length) % 2 ^ 64 ∧
      KeepsRegs [Obj.messagesSent] s t) := by
  refine .intro (if_pos ⟨ht, hp⟩) ?_
  generalize hu : (State.sendMate _ true 1 0 s.helloBody).1 = u
  obtain ⟨g, hregs, hin, hout, hsent, hkeep⟩ := State.sendMate_up (s := { s with towpath.helloAt := s.core.tick }) hup
    (State.mateDest_nodup _) hu
  obtain ⟨x, rfl⟩ := hregs
  exact ⟨rfl, rfl, hin, hout, hsent, hkeep⟩

theorem State.freeLane_single {l : Nat} (h : s.lanesUp = [l]) : s.freeLane = some l := by
  unfold State.freeLane
  rw [h]
  rfl

theorem timeRelaySend_completes (l : Nat) (ht : s.towpath.relayAt + 100 ≤ s.core.tick ∨ s.timeRelayBody ≠ s.towpath.relayed)
    (hp : s.hubPowered = true) (hup : s.lanesUp = [l]) :
    Completes .timeRelaySend s (fun t => t.core = s.core ∧ t.towpath = { s.towpath with
        relayAt := s.core.tick, relayed := s.timeRelayBody, msgSeq := (s.towpath.msgSeq + 1) % 65536, lanes := t.towpath.lanes,
        sent := s.towpath.sent ++ [([l],
          mateBytes 6 0 (s.rdN Obj.localPeerId) s.towpath.msgSeq s.core.tick s.timeRelayBody)] } ∧
      (t.lane l).line = (s.lane l).line ++ (codeGroups (s.lane l).positive (framed
        (mateBytes 6 0 (s.rdN Obj.localPeerId) s.towpath.msgSeq s.core.tick s.timeRelayBody))).1 ∧
      (∀ k, k ≠ l → t.lane k = s.lane k) ∧ KeepsRegs [Obj.messagesSent] s t) := by
  have hdest : State.mateDest { s with towpath.relayAt := s.core.tick, towpath.relayed := s.timeRelayBody } false = [l] := by
    have hfree : State.freeLane { s with towpath.relayAt := s.core.tick, towpath.relayed := s.timeRelayBody } = some l :=
      State.freeLane_single hup
    unfold State.mateDest
    rw [hfree]
    rfl
  refine .intro (if_pos ⟨ht, hp⟩) ?_
  generalize hu : (State.sendMate _ false 6 0 s.timeRelayBody).1 = u
  obtain ⟨g, hregs, hin, hout, hsent, hkeep⟩ := State.sendMate_up (s := { s with
    towpath.relayAt := s.core.tick, towpath.relayed := s.timeRelayBody }) (by
      show s.lanesUp ≠ []
      rw [hup]
      exact List.cons_ne_nil _ _) (by rw [hdest]; exact List.nodup_singleton l) hu
  rw [hdest] at hregs hin hout
  obtain ⟨x, rfl⟩ := hregs
  exact ⟨rfl, rfl, hin l (List.mem_singleton.2 rfl), fun k hk => hout k (fun hmem => hk (List.mem_singleton.1 hmem)), hkeep⟩
end

/-- Settles O29. -/
theorem towpathSendsSkipHelloTimeAndWake : Obligations.TowpathSendsSkipHelloTimeAndWake := by
  unfold Obligations.TowpathSendsSkipHelloTimeAndWake
  refine ⟨fun s l h => skipSend_completes l h, fun s l h => if_neg (by rw [h]; exact Bool.false_ne_true),
    fun s ht hp hup => helloSend_completes ht hp hup, fun s ht => if_neg (by omega),
    fun s l ht hp hup => timeRelaySend_completes l ht hp hup,
    fun s h0 ht => .intro (if_pos ⟨h0, ht⟩) rfl, fun s ht => if_neg (by omega)⟩

end Sys2Proof.Machine
end

section
/-! The obligations of pre-arming, loss of frame, priority flow control and the start-up's ledger and image. -/
open Sys2Proof Sys2Proof.Machine
namespace Sys2Proof.Machine

section
variable {s : State}

theorem State.setUnit_other (s : State) {u k : Nat} (x : UnitSt) (h : k ≠ u) : (s.setUnit u x).unit k = s.unit k :=
  tget_tset_ne _ _ _ h

theorem State.plan_eq (s : State) (u : Nat) (m : Planned) : s.plan u m = s.setUnit u { (s.unit u) with planned := some m } := rfl

/-- A pre-arm of the working side moves the durable flows to a protect side that has frame (R318). -/
theorem State.preArmUnit_moves {r u : Nat} (hst : s.uState u = 1) (hmode : s.uMode u = 2) (hw : s.rdN (Obj.workingReach u) = r)
    (hact : s.rdN (Obj.preArmAction u) = 1) (hframe : s.frameOn (s.protectOf u) (s.enabledGroups r) = true)
    (harmed : s.armed (s.protectOf u) = false) :
    s.preArmUnit u r = s.plan u (.durable 1 2) := by
  unfold State.preArmUnit
  simp only [hst, hmode, hw, hact]
  simp [hframe, harmed]

/-- A pre-arm of a unit that restores, is in DOUBLE_FAULT or locked out is ignored (R318). -/
theorem State.preArmUnit_ignored {r u : Nat} (hst : s.uState u = 3 ∨ s.uState u = 5 ∨ s.uState u = 6) :
    s.preArmUnit u r = s.prearmIgnored u 0 := by
  unfold State.preArmUnit
  rcases hst with h | h | h <;> simp [h]

/-- A signal acts on the one unit it concerns. -/
theorem execPreArm_eq {r u : Fin 4} (hmem : r.val ∈ s.eq.prearm) (hu : s.unitsOf r = [u.val]) :
    execPreArm r s = .next (State.preArmUnit { s with eq.prearm := s.eq.prearm.erase r.val } u r) := by
  have hunits : State.unitsOf { s with eq.prearm := s.eq.prearm.erase r.val } r = [u.val] := hu
  unfold execPreArm
  dsimp only
  rw [if_pos (by simpa using hmem), hunits, State.each_cons, State.each_nil]

theorem preArm_moves (r u : Fin 4) (hmem : r.val ∈ s.eq.prearm) (hu : s.unitsOf r = [u.val]) (hst : s.uState u = 1)
    (hmode : s.uMode u = 2) (hw : s.rdN (Obj.workingReach u) = r.val) (hact : s.rdN (Obj.preArmAction u) = 1)
    (hframe : s.frameOn (s.protectOf u) (s.enabledGroups r) = true) (harmed : s.armed (s.protectOf u) = false) :
    Completes (.preArm r) s (fun t => t.unit u = { s.unit u with planned := some (.durable 1 2) } ∧
      (∀ k, k ≠ u.val → t.unit k = s.unit k) ∧ t.eq.prearm = s.eq.prearm.erase r.val ∧ t.regs = s.regs ∧ t.core = s.core) := by
  have hplan : State.preArmUnit { s with eq.prearm := s.eq.prearm.erase r.val } u r = _ :=
    State.preArmUnit_moves hst hmode hw hact hframe harmed
  exact .intro ((execPreArm_eq hmem hu).trans (congrArg Host.Outcome.next hplan))
    ⟨State.setUnit_unit _ _ _, fun k hk => State.setUnit_other _ _ hk, rfl, rfl, rfl⟩

theorem preArm_ignored (r u : Fin 4) (hmem : r.val ∈ s.eq.prearm) (hu : s.unitsOf r = [u.val])
    (hst : s.uState u = 3 ∨ s.uState u = 5 ∨ s.uState u = 6) :
    Completes (.preArm r) s (fun t => t.rdN (Obj.prearmsIgnored) = (s.rdN (Obj.prearmsIgnored) + 1) % 2 ^ 64 ∧
      t.eq.prearm = s.eq.prearm.erase r.val ∧ t.rest = s.rest ∧
      t.core = { s.core with inFlight := s.core.inFlight ++ [⟨0x80A6, 0x3590 + u.val, 0, s.core.tick, s.life⟩] } ∧
      KeepsRegs [Obj.prearmsIgnored] s t) := by
  have hignored : State.preArmUnit { s with eq.prearm := s.eq.prearm.erase r.val } u r = _ := State.preArmUnit_ignored hst
  refine .intro ((execPreArm_eq hmem hu).trans (congrArg Host.Outcome.next hignored)) ⟨?_, rfl, rfl, rfl, ?_⟩
  · simp [State.prearmIgnored]
  · simp [State.prearmIgnored]

/-- What a disarm of the working side has a unit in PREMOVED do (R318). -/
theorem execDisarm_eq {r u : Fin 4} (hmem : r.val ∈ s.eq.disarm) (hu : s.unitsOf r = [u.val]) (hst : s.uState u = 2)
    (hw : s.rdN (Obj.workingReach u) = r.val) :
    execDisarm r s = .next (if s.rdB (Obj.unitRevertive u)
      then State.setUnit { s with eq.disarm := s.eq.disarm.erase r.val } u { (s.unit u) with disarmAt := some s.core.tick }
      else State.plan { s with eq.disarm := s.eq.disarm.erase r.val } u (.all 1 4 false)) := by
  have hunits : State.unitsOf { s with eq.disarm := s.eq.disarm.erase r.val } r = [u.val] := hu
  have hpre : State.uState { s with eq.disarm := s.eq.disarm.erase r.val } u = 2 ∧
      State.rdN { s with eq.disarm := s.eq.disarm.erase r.val } (Obj.workingReach u) = r.val := ⟨hst, hw⟩
  unfold execDisarm
  dsimp only
  rw [if_pos (by simpa using hmem), hunits, State.each_cons, State.each_nil, if_pos hpre]
  rfl

theorem disarm_waits (r u : Fin 4) (hmem : r.val ∈ s.eq.disarm) (hu : s.unitsOf r = [u.val]) (hst : s.uState u = 2)
    (hw : s.rdN (Obj.workingReach u) = r.val) (hrev : s.rdB (Obj.unitRevertive u) = true) :
    Completes (.disarm r) s (fun t => t.unit u = { s.unit u with disarmAt := some s.core.tick } ∧
      t.eq.disarm = s.eq.disarm.erase r.val ∧ t.regs = s.regs ∧ t.core = s.core) :=
  .intro ((execDisarm_eq hmem hu hst hw).trans (congrArg Host.Outcome.next (if_pos hrev)))
    ⟨State.setUnit_unit _ _ _, rfl, rfl, rfl⟩

theorem disarm_moves (r u : Fin 4) (hmem : r.val ∈ s.eq.disarm) (hu : s.unitsOf r = [u.val]) (hst : s.uState u = 2)
    (hw : s.rdN (Obj.workingReach u) = r.val) (hrev : s.rdB (Obj.unitRevertive u) = false) :
    Completes (.disarm r) s (fun t => t.unit u = { s.unit u with planned := some (.all 1 4 false) } ∧
      t.eq.disarm = s.eq.disarm.erase r.val ∧ t.regs = s.regs ∧ t.core = s.core) :=
  .intro ((execDisarm_eq hmem hu hst hw).trans (congrArg Host.Outcome.next (if_neg (by rw [hrev]; exact Bool.false_ne_true))))
    ⟨State.setUnit_unit _ _ _, rfl, rfl, rfl⟩

theorem unitState_ne_durableSide (u : Nat) : Obj.unitState u ≠ Obj.durableSide u := by
  simp only [Obj.unitState, Obj.durableSide, objKey]; omega

/-- A unit enters a state as a planned move ends (R317). -/
def State.enterUnit (s : State) (u st : Nat) : State :=
  let s := if st = 4 ∧ s.uState u ≠ 4 then s.setUnit u { (s.unit u) with since := s.core.tick } else s
  (s.setUnit u { (s.unit u) with disarmAt := none }).wrN (Obj.unitState u) st

theorem State.enterUnit_spec (s : State) (u st : Nat) : (s.enterUnit u st).uState u = st ∧
    (s.enterUnit u st).rdN (Obj.durableSide u) = s.rdN (Obj.durableSide u) ∧ (s.enterUnit u st).core = s.core ∧
    (s.enterUnit u st).unit u = { s.unit u with
      since := if st = 4 ∧ s.uState u ≠ 4 then s.core.tick else (s.unit u).since, disarmAt := none } ∧
    KeepsRegs [Obj.unitState u] s (s.enterUnit u st) := by
  have hne := (unitState_ne_durableSide u).symm
  unfold State.enterUnit
  dsimp only
  split
  · refine ⟨State.wrN_rdN_self .., State.wrN_rdN_ne (h := hne) .., rfl, ?_, by simp [State.setUnit]⟩
    rw [State.setUnit_unit]
    exact State.setUnit_unit _ _ _
  · exact ⟨State.wrN_rdN_self .., State.wrN_rdN_ne (h := hne) .., rfl, State.setUnit_unit _ _ _, by simp [State.setUnit]⟩

theorem planStep_durable {u side st : Nat} (hst : [1, 2, 4].contains (s.uState u) = true)
    (hplan : (s.unit u).planned = some (.durable side st)) :
    s.planStep u = ((s.setUnit u { (s.unit u) with planned := none }).moveDurable u side).enterUnit u st := by
  unfold State.planStep
  dsimp only
  rw [hplan, hst, if_neg (by decide)]
  rfl

theorem planStep_all {u side st : Nat} (hst : [1, 2, 4].contains (s.uState u) = true)
    (hplan : (s.unit u).planned = some (.all side st false)) :
    s.planStep u = ((s.setUnit u { (s.unit u) with planned := none }).moveAll u side).enterUnit u st := by
  unfold State.planStep
  dsimp only
  rw [hplan, hst, if_neg (by decide)]
  rfl

/-- Durable flows that move are on their new side (R317); the registers and the log alone change. -/
theorem State.moveDurable_spec (s : State) (u side : Nat) :
    (s.moveDurable u side).rdN (Obj.durableSide u) = side ∧ (s.moveDurable u side).unit u = s.unit u ∧
    (s.moveDurable u side).core.tick = s.core.tick ∧ (s.moveDurable u side).uState u = s.uState u ∧
    KeepsRegs [Obj.durableSide u] s (s.moveDurable u side) ∧ (s.rdN (Obj.durableSide u) ≠ side →
      (s.moveDurable u side).core =
        { s.core with inFlight := s.core.inFlight ++ [⟨0x40A4, 0x3590 + u, side, s.core.tick, s.life⟩] }) := by
  unfold State.moveDurable
  split
  · next h => exact ⟨h, rfl, rfl, rfl, by simp, fun hne => absurd h hne⟩
  · exact ⟨State.wrN_rdN_self .., rfl, rfl, State.wrN_rdN_ne (h := unitState_ne_durableSide u) .., by simp [State.setDurableSide],
      fun _ => rfl⟩

theorem planStep_premoves (u : Fin 4) (hst : s.uState u = 1) (hplan : (s.unit u).planned = some (.durable 1 2))
    (hside : s.rdN (Obj.durableSide u) = 0) :
    let t := s.planStep u
    t.uState u = 2 ∧ t.rdN (Obj.durableSide u) = 1 ∧ (t.unit u).planned = none ∧ (t.unit u).side = (s.unit u).side ∧
      t.core = { s.core with inFlight := s.core.inFlight ++ [⟨0x40A4, 0x3590 + u.val, 1, s.core.tick, s.life⟩] } ∧
      KeepsRegs [Obj.unitState u, Obj.durableSide u] s t := by
  dsimp only
  rw [planStep_durable (by rw [hst]; decide) hplan]
  obtain ⟨hd, hunit, -, -, hkeep, hcore⟩ := (s.setUnit u { (s.unit u) with planned := none }).moveDurable_spec u 1
  have hcore := hcore (by rw [State.setUnit_rdN, hside]; decide)
  rw [State.setUnit_unit] at hunit
  generalize State.moveDurable _ _ _ = m at *
  obtain ⟨hstate, hdur, hcore', hunit', hkeep'⟩ := m.enterUnit_spec u 2
  refine ⟨hstate, hdur.trans hd, ?_, ?_, hcore'.trans hcore, ?_⟩
  · rw [hunit', hunit]
  · rw [hunit', hunit]
  · have h1 : KeepsRegs [Obj.durableSide u] s m := hkeep
    exact (h1.mono (by simp)).trans (s := s) (hkeep'.mono (by simp))

theorem planStep_switches (u : Fin 4) (hst : s.uState u = 2) (hplan : (s.unit u).planned = some (.all 1 4 false)) :
    let t := s.planStep u
    t.uState u = 4 ∧ (t.unit u).side = 1 ∧ (t.unit u).since = s.core.tick ∧ (t.unit u).disarmAt = none ∧
      t.rdN (Obj.durableSide u) = 1 ∧ KeepsRegs [Obj.unitState u, Obj.durableSide u] s t := by
  dsimp only
  rw [planStep_all (by rw [hst]; decide) hplan]
  obtain ⟨hd, hunit, htick, hustate, hkeep, -⟩ := (s.setUnit u { (s.unit u) with planned := none }).moveDurable_spec u 1
  rw [State.setUnit_unit] at hunit
  unfold State.moveAll
  rw [State.setUnit_unit]
  generalize State.moveDurable _ _ _ = m at *
  obtain ⟨hstate, hdur, -, hunit', hkeep'⟩ := (m.setUnit u { (s.unit u) with planned := none, side := 1 }).enterUnit_spec u 4
  rw [State.setUnit_unit] at hunit'
  have hnot : (m.setUnit u { (s.unit u) with planned := none, side := 1 }).uState u ≠ 4 := by
    have h2 : m.uState u = 2 := hustate.trans hst
    show m.uState u ≠ 4
    omega
  rw [if_pos ⟨rfl, hnot⟩] at hunit'
  refine ⟨hstate, ?_, ?_, ?_, hdur.trans hd, ?_⟩
  · rw [hunit']
  · rw [hunit']
    exact htick
  · rw [hunit']
  · have h1 : KeepsRegs [Obj.durableSide u] s m := hkeep
    exact (h1.mono (by simp)).trans (s := s) (KeepsRegs.mono (s := m) hkeep' (by simp))
end

/-- Settles O22. -/
theorem preArmMovesDurableFlows : Obligations.PreArmMovesDurableFlows := by
  unfold Obligations.PreArmMovesDurableFlows
  exact ⟨fun s r u hmem hu hst hmode hw hact hframe harmed _ => preArm_moves r u hmem hu hst hmode hw hact hframe harmed,
    fun s u hst hplan hside => planStep_premoves u hst hplan hside, fun s r u hmem hu hst => preArm_ignored r u hmem hu hst,
    fun s r u hmem hu hst hw hrev => disarm_waits r u hmem hu hst hw hrev,
    fun s r u hmem hu hst hw hrev => disarm_moves r u hmem hu hst hw hrev, fun s u hst hplan => planStep_switches u hst hplan⟩

section
variable {s t : State}

/-- Only registers and the equalisers differ. -/
def EqOnly (s t : State) : Prop := ∃ x g, t = { s with regs := x, eq := g }

theorem EqOnly.trans {u : State} (h : EqOnly s t) (g : EqOnly t u) : EqOnly s u := by
  obtain ⟨x, e, rfl⟩ := h
  obtain ⟨y, f, rfl⟩ := g
  exact ⟨_, _, rfl⟩

theorem RegsOnly.eqOnly (h : RegsOnly s t) : EqOnly s t := by
  obtain ⟨x, rfl⟩ := h
  exact ⟨_, _, rfl⟩

/-- The coarse offsets' estimates asked anew touch the equalisers alone, and no sub-carrier's state. -/
theorem State.each_coarse (r : Nat) (l : List Nat) (s : State) : ∃ b,
    s.each l (fun s g => { s with eq.coarse := tset (fun _ => false) s.eq.coarse (8 * r + g) true }) = { s with eq.coarse := b } := by
  induction l generalizing s with
  | nil => exact ⟨_, rfl⟩
  | cons g l ih => exact ih { s with eq.coarse := tset (fun _ => false) s.eq.coarse (8 * r + g) true }

/-- A sub-carrier's return to TRAIN (Table 7.2). -/
theorem State.setEqSc_train {u : State} {r sc taps : Nat} (h : s.setEqSc r sc 1 taps = u) :
    EqOnly s u ∧ u.eq.sc = tset (fun _ => 0) s.eq.sc (64 * r + sc) 1 ∧ KeepsRegs [Obj.sopRate r sc, Obj.dgd r sc] s u := by
  rw [← h]
  unfold State.setEqSc
  dsimp only
  rw [if_pos rfl, if_neg (by decide)]
  generalize List.filter _ _ = l
  obtain ⟨b, hb⟩ := State.each_coarse r l (((s.putEqSc r sc 1 taps).wrN (Obj.sopRate r sc) 0).wrN (Obj.dgd r sc) 0)
  rw [hb]
  exact ⟨⟨_, _, rfl⟩, rfl, by simp [State.putEqSc]⟩

/-- The registers of a reach's sub-carriers. -/
def scKeys (r : Nat) : List Nat := (List.range 64).flatMap (fun sc => [Obj.sopRate r sc, Obj.dgd r sc])

theorem mem_scKeys {r sc : Nat} (h : sc < 64) : ∀ k ∈ [Obj.sopRate r sc, Obj.dgd r sc], k ∈ scKeys r :=
  fun _ hk => List.mem_flatMap.2 ⟨sc, List.mem_range.2 h, hk⟩

/-- One sub-carrier's part of a return to TRAIN. -/
def State.retrainSc (r : Nat) (keep : Bool) (s : State) (sc : Nat) : State :=
  if s.eqSc r sc = 0 then s else s.setEqSc r sc 1 (if keep then tget (fun _ => 0) s.eq.taps (64 * r + sc) else 0)

theorem State.retrainSc_spec (r : Nat) (keep : Bool) (s : State) {sc : Nat} (hsc : sc < 64) :
    EqOnly s (s.retrainSc r keep sc) ∧ KeepsRegs (scKeys r) s (s.retrainSc r keep sc) ∧
    (s.eqSc r sc ≠ 0 → (s.retrainSc r keep sc).eqSc r sc = 1) ∧
    (∀ c, c ≠ sc → (s.retrainSc r keep sc).eqSc r c = s.eqSc r c) := by
  unfold State.retrainSc
  split
  · next h => exact ⟨⟨_, _, rfl⟩, by simp, fun hne => absurd h hne, fun _ _ => rfl⟩
  · generalize hu : State.setEqSc _ _ _ _ _ = u
    obtain ⟨heq, htab, hkeep⟩ := State.setEqSc_train hu
    refine ⟨heq, hkeep.mono (mem_scKeys hsc), fun _ => ?_, fun c hc => ?_⟩
    · unfold State.eqSc
      rw [htab, tget_tset_self]
    · unfold State.eqSc
      rw [htab, tget_tset_ne _ _ _ (by omega)]

theorem State.each_retrainSc (r : Nat) (keep : Bool) (l : List Nat) (hl : ∀ sc ∈ l, sc < 64) (s : State) :
    EqOnly s (s.each l (State.retrainSc r keep)) ∧ KeepsRegs (scKeys r) s (s.each l (State.retrainSc r keep)) ∧
    (∀ sc ∈ l, s.eqSc r sc ≠ 0 → (s.each l (State.retrainSc r keep)).eqSc r sc = 1) ∧
    (∀ sc, sc ∉ l → (s.each l (State.retrainSc r keep)).eqSc r sc = s.eqSc r sc) := by
  induction l generalizing s with
  | nil => exact ⟨⟨_, _, rfl⟩, by simp, by simp, fun _ _ => rfl⟩
  | cons c l ih =>
    obtain ⟨hc, hl⟩ := List.forall_mem_cons.1 hl
    obtain ⟨heq, hkeep, hin, hout⟩ := State.retrainSc_spec r keep s hc
    rw [State.each_cons]
    generalize State.retrainSc r keep s c = u at *
    obtain ⟨heq', hkeep', hin', hout'⟩ := ih hl u
    refine ⟨heq.trans heq', hkeep.trans hkeep', fun sc hsc hne => ?_, fun sc hsc => ?_⟩
    · by_cases hmem : sc ∈ l
      · refine hin' sc hmem ?_
        by_cases hsame : sc = c
        · subst hsame
          rw [hin hne]
          decide
        · rw [hout sc hsame]
          exact hne
      · have hsame : sc = c := (List.mem_cons.1 hsc).resolve_right hmem
        subst hsame
        rw [hout' sc hmem, hin hne]
    · rw [List.mem_cons, not_or] at hsc
      rw [hout' sc hsc.2, hout sc hsc.1]

theorem State.showTrack_spec (s : State) (r : Nat) : RegsOnly s (s.showTrack r) ∧
    KeepsRegs [Obj.trackLow r, Obj.trackHigh r, Obj.sopRatePeak r, Obj.dgdMean r, Obj.pdl r] s (s.showTrack r) := by
  unfold State.showTrack
  dsimp only
  split
  · exact ⟨((((RegsOnly.refl.wrN _ _).wrN _ _).wrN _ _).wrN _ _).wrN _ _, by simp⟩
  · exact ⟨(((RegsOnly.refl.wrN _ _).wrN _ _).wrN _ _).wrN _ _, by simp⟩

/-- What a reach's sub-carriers taken back to TRAIN leave (Table 7.2). -/
theorem State.eqRetrain_spec {u : State} {r : Nat} {scs : List Nat} {keep : Bool} (hl : ∀ sc ∈ scs, sc < 64)
    (h : s.eqRetrain r scs keep = u) :
    EqOnly s u ∧
    KeepsRegs ([Obj.trackLow r, Obj.trackHigh r, Obj.sopRatePeak r, Obj.dgdMean r, Obj.pdl r] ++ scKeys r) s u ∧
    (∀ sc ∈ scs, s.eqSc r sc ≠ 0 → u.eqSc r sc = 1) ∧ (∀ sc, sc ∉ scs → u.eqSc r sc = s.eqSc r sc) := by
  have hu : u = (s.each scs (State.retrainSc r keep)).showTrack r := h.symm
  obtain ⟨heq, hkeep, hin, hout⟩ := State.each_retrainSc r keep scs hl s
  generalize State.each _ _ _ = e at *
  obtain ⟨hregs, hkeep'⟩ := e.showTrack_spec r
  rw [← hu] at hregs hkeep'
  refine ⟨heq.trans hregs.eqOnly, (hkeep.mono fun _ hk => List.mem_append_right _ hk).trans
    (hkeep'.mono fun _ hk => List.mem_append_left _ hk), ?_⟩
  obtain ⟨x, rfl⟩ := hregs
  exact ⟨hin, hout⟩

/-- The registers that a loss of frame writes. -/
def lostKeys (r g : Nat) : List Nat := [Obj.rxFrameState r g, Obj.lofEvents r g, Obj.clientFramesDiscarded r g, Obj.trackLow r,
  Obj.trackHigh r, Obj.sopRatePeak r, Obj.dgdMean r, Obj.pdl r] ++ scKeys r

/-- The part of a loss of frame that ends the group's open client frames and counts its ticks anew (R250). -/
def State.lostFrame (s : State) (r g : Nat) : State :=
  let s := s.discardOpen r g
  let s := s.setFrx r g { (s.frx r g) with noTrain := 0, rejected := 0 }
  s.setLoad r g { (s.load r g) with curTicks := 0 }

theorem State.lostFrame_spec {u : State} {r g : Nat} (h : s.lostFrame r g = u) :
    u.frame.openFrames = s.frame.openFrames.filter (fun p => p.2.rg != 8 * r + g) ∧ (u.frx r g).noTrain = 0 ∧
    (u.frx r g).rejected = 0 ∧ KeepsRegs [Obj.clientFramesDiscarded r g] s u ∧ u.core = s.core ∧ u.rest = s.rest ∧ u.eq = s.eq ∧
    u.start = s.start := by
  rw [← h]
  unfold State.lostFrame
  dsimp only
  refine ⟨rfl, ?_, ?_, ?_, rfl, rfl, rfl, rfl⟩
  · exact congrArg FrameRx.noTrain (tget_tset_self _ _ _ _)
  · exact congrArg FrameRx.rejected (tget_tset_self _ _ _ _)
  · simp [State.setLoad, State.setFrx, State.discardOpen]

/-- The part of a loss of frame that shows it and asks for the group's restart (R250). -/
def State.lossShown (s : State) (r g cause : Nat) : State :=
  let s := (s.wrN (Obj.rxFrameState r g) 3).inc (Obj.lofEvents r g)
  (s.raise 0xC071 (frmSource r g) cause).askRestart r g 0

theorem State.lossShown_spec {u : State} {r g c : Nat} (h : s.lossShown r g c = u) :
    u.rdN (Obj.rxFrameState r g) = 3 ∧ u.rdN (Obj.lofEvents r g) = (s.rdN (Obj.lofEvents r g) + 1) % 2 ^ 64 ∧
    (u.load r g).restart.isSome = true ∧
    u.core.inFlight = s.core.inFlight ++ [⟨0xC071, 0x2910 + 8 * r + g, c, s.core.tick, s.life⟩] ∧
    KeepsRegs [Obj.rxFrameState r g, Obj.lofEvents r g] s u ∧ u.frame = s.frame ∧ u.eq = s.eq ∧ u.rest = s.rest := by
  have hne : Obj.rxFrameState r g ≠ Obj.lofEvents r g := by simp only [Obj.rxFrameState, Obj.lofEvents, objKey]; omega
  rw [← h]
  unfold State.lossShown State.askRestart
  dsimp only
  refine ⟨?_, ?_, ?_, ?_, ?_, ?_, ?_, ?_⟩
  · rw [State.setLoad_rdN, State.raise_rdN, State.inc_rdN_ne (h := hne), State.wrN_rdN_self]
  · rw [State.setLoad_rdN, State.raise_rdN, State.inc_rdN_self, State.wrN_rdN_ne (h := hne.symm)]
  · rw [State.setLoad_load]
    rfl
  · rw [State.setLoad_core, State.raise_inFlight]
    rfl
  · simp [State.setLoad]
  · rfl
  · rfl
  · rfl

theorem not_mem_scKeys {r k : Nat} (h : ∀ sc, sc < 64 → k ≠ Obj.sopRate r sc ∧ k ≠ Obj.dgd r sc) : k ∉ scKeys r := by
  intro hmem
  obtain ⟨sc, hsc, hk⟩ := List.mem_flatMap.1 hmem
  obtain ⟨h1, h2⟩ := h sc (List.mem_range.1 hsc)
  rcases List.mem_cons.1 hk with rfl | hk
  · exact h1 rfl
  · exact h2 (List.mem_singleton.1 hk)

/-- A loss of frame (R250) before what follows from it for the delay and the restoration. -/
theorem State.frameLost_spec {u : State} {r : Fin 4} {g : Fin 8} {c : Nat} (h : s.frameLost r g c = u) :
    u.rdN (Obj.rxFrameState r g) = 3 ∧ u.rdN (Obj.lofEvents r g) = (s.rdN (Obj.lofEvents r g) + 1) % 2 ^ 64 ∧
    u.frame.openFrames = s.frame.openFrames.filter (fun p => p.2.rg != 8 * r.val + g.val) ∧
    (u.frx r g).noTrain = 0 ∧ (u.frx r g).rejected = 0 ∧ (u.load r g).restart.isSome = true ∧
    u.core.inFlight = s.core.inFlight ++ [⟨0xC071, 0x2910 + 8 * r.val + g.val, c, s.core.tick, s.life⟩] ∧
    (∀ sc < 64, s.groupCovers r g sc = true → s.eqSc r sc ≠ 0 → u.eqSc r sc = 1) ∧
    (∀ sc < 64, s.groupCovers r g sc = false → u.eqSc r sc = s.eqSc r sc) ∧
    KeepsRegs (lostKeys r g) s u ∧ u.rest = s.rest := by
  have hu : u = ((s.lostFrame r g).eqRetrain r (upto 64 ((s.lostFrame r g).groupCovers r g)) true).lossShown r g c := h.symm
  generalize ha : s.lostFrame r g = a at hu
  obtain ⟨aopen, atrain, arej, akeep, acore, arest, aeq, astart⟩ := State.lostFrame_spec ha
  generalize hb : a.eqRetrain r (upto 64 (a.groupCovers r g)) true = b at hu
  obtain ⟨beq, bkeep, bin, bout⟩ := State.eqRetrain_spec (fun sc hsc => List.mem_range.1 (List.mem_of_mem_filter hsc)) hb
  obtain ⟨cstate, clof, cload, cflight, ckeep, cframe, ceq, crest⟩ := State.lossShown_spec hu.symm
  have hcover (sc : Nat) : a.groupCovers r g sc = s.groupCovers r g sc := by
    unfold State.groupCovers State.rdN
    rw [akeep _ (by simp only [List.mem_singleton, Obj.firstSubcarrier, Obj.clientFramesDiscarded, objKey]; omega),
      akeep _ (by simp only [List.mem_singleton, Obj.subcarrierCount, Obj.clientFramesDiscarded, objKey]; omega)]
  have hlof : b.rdN (Obj.lofEvents r g) = s.rdN (Obj.lofEvents r g) := by
    have hsc : Obj.lofEvents r g ∉ scKeys r := not_mem_scKeys fun sc hsc => by
      simp only [Obj.lofEvents, Obj.sopRate, Obj.dgd, objKey]; omega
    unfold State.rdN
    rw [bkeep _ (by
        rw [List.mem_append, not_or]
        refine ⟨?_, hsc⟩
        simp only [List.mem_cons, List.not_mem_nil, or_false, Obj.lofEvents, Obj.trackLow, Obj.trackHigh, Obj.sopRatePeak,
          Obj.dgdMean, Obj.pdl, objKey]
        omega),
      akeep _ (by simp only [List.mem_singleton, Obj.lofEvents, Obj.clientFramesDiscarded, objKey]; omega)]
  have haeq (sc : Nat) : a.eqSc r sc = s.eqSc r sc := by unfold State.eqSc; rw [aeq]
  have hueq (sc : Nat) : u.eqSc r sc = b.eqSc r sc := by unfold State.eqSc; rw [ceq]
  have hbframe : b.frame = a.frame ∧ b.core = a.core ∧ b.rest = a.rest ∧ b.start = a.start := by
    obtain ⟨x, q, rfl⟩ := beq
    exact ⟨rfl, rfl, rfl, rfl⟩
  obtain ⟨bframe, bcore, brest, bstart⟩ := hbframe
  have hlife : b.life = s.life := by unfold State.life; rw [bcore, bstart, acore, astart]
  refine ⟨cstate, ?_, ?_, ?_, ?_, cload, ?_, fun sc hsc hc hne => ?_, fun sc hsc hc => ?_, ?_, ?_⟩
  · rw [clof, hlof]
  · rw [cframe, bframe, aopen]
  · rw [← atrain]; unfold State.frx; rw [cframe, bframe]
  · rw [← arej]; unfold State.frx; rw [cframe, bframe]
  · rw [cflight, hlife, bcore, acore]
  · rw [hueq]
    exact bin sc (List.mem_filter.2 ⟨List.mem_range.2 hsc, (hcover sc).trans hc⟩) (by rw [haeq]; exact hne)
  · rw [hueq, bout sc (fun hmem => absurd ((hcover sc).symm.trans (List.mem_filter.1 hmem).2) (by rw [hc]; exact Bool.false_ne_true)),
      haeq]
  · have h1 : KeepsRegs (lostKeys r g) s a := akeep.mono (by simp [lostKeys])
    have h2 : KeepsRegs (lostKeys r g) a b := bkeep.mono fun _ hk =>
      List.mem_append_right [Obj.rxFrameState r g, Obj.lofEvents r g, Obj.clientFramesDiscarded r g] hk
    have h3 : KeepsRegs (lostKeys r g) b u := ckeep.mono (by simp [lostKeys])
    exact (h1.trans h2).trans h3
  · rw [crest, brest, arest]

/-- The reach that carries a unit rests on four of its registers and its side. -/
theorem State.carrier_congr {u : Nat} (hrest : t.rest = s.rest)
    (hkeep : ∀ k, k ∈ [Obj.unitMode u, Obj.unitState u, Obj.workingReach u, Obj.protectReach u] → t.rd k = s.rd k) :
    t.carrier u = s.carrier u := by
  unfold State.carrier State.uMode State.uState State.sideReach State.protectOf State.unit State.rdN
  rw [hrest, hkeep (Obj.unitMode u) (by simp), hkeep (Obj.unitState u) (by simp), hkeep (Obj.workingReach u) (by simp),
    hkeep (Obj.protectReach u) (by simp)]

theorem State.lossTriggers_none {r : Nat} (h : ∀ u, u < 4 → s.carrier u ≠ some r) : s.lossTriggers r = s := by
  unfold State.lossTriggers
  rw [show List.range 4 = [0, 1, 2, 3] from rfl]
  simp [h]

theorem not_mem_lostKeys_of_unit {k u : Nat} (r : Fin 4) (g : Fin 8) (hu : u < 4) (hk : k / 256 = 0x3590 + u) : k ∉ lostKeys r g := by
  rw [lostKeys, List.mem_append, not_or]
  refine ⟨?_, not_mem_scKeys fun sc hsc => ?_⟩
  · simp only [List.mem_cons, List.not_mem_nil, or_false, Obj.rxFrameState, Obj.lofEvents, Obj.clientFramesDiscarded, Obj.trackLow,
      Obj.trackHigh, Obj.sopRatePeak, Obj.dgdMean, Obj.pdl, objKey]
    omega
  · simp only [Obj.sopRate, Obj.dgd, objKey]
    omega

theorem frameLost_completes (r : Fin 4) (g : Fin 8) (c : Nat) (hlost : s.lostCause r g = some c)
    (hcar : ∀ u, u < 4 → s.carrier u ≠ some r.val) (hdelay : s.rdN (Obj.delayGroup r) ≠ g.val) :
    Completes (.frameLost r g) s (fun t => t.rdN (Obj.rxFrameState r g) = 3 ∧
      t.rdN (Obj.lofEvents r g) = (s.rdN (Obj.lofEvents r g) + 1) % 2 ^ 64 ∧
      (∀ p ∈ t.frame.openFrames, p.2.rg ≠ 8 * r.val + g.val) ∧
      (∀ p ∈ s.frame.openFrames, p.2.rg ≠ 8 * r.val + g.val → p ∈ t.frame.openFrames) ∧
      (t.frx r g).noTrain = 0 ∧ (t.frx r g).rejected = 0 ∧ (t.load r g).restart.isSome = true ∧
      t.core.inFlight = s.core.inFlight ++ [⟨0xC071, 0x2910 + 8 * r.val + g.val, c, s.core.tick, s.life⟩] ∧
      (∀ sc < 64, s.groupCovers r g sc = true → s.eqSc r sc ≠ 0 → t.eqSc r sc = 1) ∧
      (∀ sc < 64, s.groupCovers r g sc = false → t.eqSc r sc = s.eqSc r sc) ∧
      KeepsRegs (lostKeys r g) s t) := by
  generalize hu : s.frameLost r g c = u
  obtain ⟨hstate, hlof, hopen, htrain, hrej, hload, hflight, hin, hout, hkeep, hrest⟩ := State.frameLost_spec hu
  have hdg : u.delayGroupIs r g = false := by
    unfold State.delayGroupIs State.rdN
    rw [hkeep]
    · exact beq_eq_false_iff_ne.2 hdelay
    · rw [lostKeys, List.mem_append, not_or]
      refine ⟨?_, not_mem_scKeys fun sc hsc => ?_⟩
      · simp only [List.mem_cons, List.not_mem_nil, or_false, Obj.delayGroup, Obj.rxFrameState, Obj.lofEvents,
          Obj.clientFramesDiscarded, Obj.trackLow, Obj.trackHigh, Obj.sopRatePeak, Obj.dgdMean, Obj.pdl, objKey]
        omega
      · simp only [Obj.delayGroup, Obj.sopRate, Obj.dgd, objKey]
        omega
  have hnone : u.lossTriggers r = u := State.lossTriggers_none fun v hv => by
    rw [State.carrier_congr hrest fun k hk => hkeep k (not_mem_lostKeys_of_unit r g hv ?_)]
    · exact hcar v hv
    · simp only [List.mem_cons, List.not_mem_nil, or_false] at hk
      rcases hk with rfl | rfl | rfl | rfl <;> simp only [Obj.unitMode, Obj.unitState, Obj.workingReach, Obj.protectReach, objKey] <;>
        omega
  refine .intro (t := u) ?_ ⟨hstate, hlof, fun p hp => ?_, fun p hp hne => ?_, htrain, hrej, hload, hflight, hin, hout, hkeep⟩
  · show execFrameLost r g s = _
    unfold execFrameLost
    rw [hlost]
    dsimp only
    rw [hu, if_neg (by rw [hdg]; exact Bool.false_ne_true), hnone]
  · rw [hopen] at hp
    simpa using (List.mem_filter.1 hp).2
  · rw [hopen]
    exact List.mem_filter.2 ⟨hp, by simpa using hne⟩

/-- The decoder's frames with one codeword's outcome replaced. -/
def State.jobFailed (s : State) (frame word : Nat) : List DecFrame := s.pool.job.zipIdx.map (fun p =>
  if p.2 = frame ∧ lget 1 p.1.out word = 0 then { p.1 with out := lset p.1.out word 1 } else p.1)

theorem State.jobFailed_getElem? (s : State) (frame word i : Nat) : (s.jobFailed frame word)[i]? = s.pool.job[i]?.map (fun d =>
    if i = frame ∧ lget 1 d.out word = 0 then { d with out := lset d.out word 1 } else d) := by
  unfold State.jobFailed
  rw [List.getElem?_map, List.getElem?_zipIdx]
  cases s.pool.job[i]? <;> simp

theorem lset_ne_self {l : List Nat} {n v : Nat} (hn : n < l.length) (h : lget v l n ≠ v) : lset l n v ≠ l := by
  induction l generalizing n with
  | nil => simp at hn
  | cons a l ih =>
    cases n with
    | zero => exact fun he => h (List.cons.inj he).1.symm
    | succ n => exact fun he => ih (Nat.lt_of_succ_lt_succ hn) h (List.cons.inj he).2

theorem State.jobFailed_ne {frame word : Nat} {d : DecFrame} (hd : s.pool.job[frame]? = some d) (hw : word < d.out.length)
    (h0 : lget 1 d.out word = 0) : s.jobFailed frame word ≠ s.pool.job := by
  intro heq
  have hget := s.jobFailed_getElem? frame word frame
  rw [heq, hd, Option.map_some, if_pos ⟨rfl, h0⟩, Option.some.injEq] at hget
  exact lset_ne_self hw (by rw [h0]; decide) (congrArg DecFrame.out hget).symm

theorem State.jobFailed_none {frame word : Nat} (hd : s.pool.job[frame]? = none) : s.jobFailed frame word = s.pool.job := by
  refine List.ext_getElem? fun i => ?_
  rw [State.jobFailed_getElem?]
  by_cases hi : i = frame
  · rw [hi, hd]
    rfl
  · cases s.pool.job[i]? <;> simp [hi]

/-- The state with a core withdrawn by its checker, and the codeword it had converged on failed (R203). -/
def State.coreFailed (s : State) (core frame word : Nat) : State :=
  { s with pool.job := s.jobFailed frame word, integ.out := s.integ.out ++ [0x1100 + core] }

theorem decoderCheckerFailure_converged (core : Fin 52) (frame word : Nat) (d : DecFrame)
    (hoff : s.offDom (domQuarter (core.val / 13)) = false) (hret : s.coreRetired core.val = false)
    (hout : 0x1100 + core.val ∉ s.integ.out) (hd : s.pool.job[frame]? = some d) (hw : word < d.out.length)
    (h0 : lget 1 d.out word = 0) :
    Completes (.decoderCheckerFailure core frame word) s (fun t =>
      t.integ.out = s.integ.out ++ [0x1100 + core.val] ∧ 0x1100 + core.val ∈ t.integ.reported ∧
      t.pool.job[frame]? = some { d with out := lset d.out word 1 } ∧
      (∀ i, i ≠ frame → t.pool.job[i]? = s.pool.job[i]?) ∧
      t.rdN Obj.failed = (s.rdN Obj.failed + 1) % 2 ^ 64 ∧
      t.rdN (Obj.failedCodewords d.f.r d.f.g) = (s.rdN (Obj.failedCodewords d.f.r d.f.g) + 1) % 2 ^ 64 ∧
      KeepsRegs [Obj.failed, Obj.failedCodewords d.f.r d.f.g] s t) := by
  have hjob : (s.jobFailed frame word)[frame]? = some { d with out := lset d.out word 1 } := by
    rw [State.jobFailed_getElem?, hd, Option.map_some, if_pos ⟨rfl, h0⟩]
  have hothers (i : Nat) (hi : i ≠ frame) : (s.jobFailed frame word)[i]? = s.pool.job[i]? := by
    rw [State.jobFailed_getElem?]
    cases s.pool.job[i]? <;> simp [hi]
  have hne : Obj.failed ≠ Obj.failedCodewords d.f.r d.f.g := by simp only [Obj.failed, Obj.failedCodewords, objKey]; omega
  have hexec : exec (.decoderCheckerFailure core frame word) s = .next (((((s.coreFailed core frame word).incBy Obj.failed 1).inc
      (Obj.failedCodewords d.f.r d.f.g)).raiseLimited 0x8062 (0x2810 + 8 * d.f.r + d.f.g) 1).reportFailed (0x1100 + core.val)) := by
    show execDecoderCheckerFailure core frame word s = _
    unfold execDecoderCheckerFailure
    rw [if_neg (by simp [hoff, hret, hout])]
    extract_lets job f _ _ s1 s2 s3
    have hf : f = 1 := if_neg (State.jobFailed_ne hd hw h0)
    have hs2 : s2 = (s.coreFailed core frame word).incBy Obj.failed 1 := congrArg (State.incBy _ Obj.failed) hf
    have hget : s2.pool.job[frame]? = some { d with out := lset d.out word 1 } := hjob
    have hs3 : s3 = (s2.inc (Obj.failedCodewords d.f.r d.f.g)).raiseLimited 0x8062 (0x2810 + 8 * d.f.r + d.f.g) 1 := by
      simp only [s3]
      rw [hget]
      exact if_neg (by rw [hf]; decide)
    rw [hs3, hs2]
  generalize hx : State.raiseLimited _ _ _ _ = x at hexec
  generalize hy : State.reportFailed _ _ = y at hexec
  obtain ⟨g, rfl⟩ := State.raiseLimited_upd hx
  have hkept := State.reportFailed_out hy
  obtain ⟨i, rfl, hmem⟩ := State.reportFailed_upd hy
  refine .intro hexec ⟨hkept, hmem, hjob, hothers, ?_, ?_, ?_⟩
  · simp (disch := exact hne) [State.inc_rdN_ne, State.coreFailed]
  · simp (disch := exact hne.symm) [State.incBy_rdN_ne, State.coreFailed]
  · simp [State.coreFailed]

theorem decoderCheckerFailure_idle (core : Fin 52) (frame word : Nat)
    (hoff : s.offDom (domQuarter (core.val / 13)) = false) (hret : s.coreRetired core.val = false)
    (hout : 0x1100 + core.val ∉ s.integ.out) (hd : s.pool.job[frame]? = none) :
    Completes (.decoderCheckerFailure core frame word) s (fun t =>
      t.integ.out = s.integ.out ++ [0x1100 + core.val] ∧ 0x1100 + core.val ∈ t.integ.reported ∧ t.pool = s.pool ∧
      KeepsRegs [Obj.failed] s t ∧ t.core = s.core) := by
  have hexec : exec (.decoderCheckerFailure core frame word) s =
      .next (((s.coreFailed core frame word).incBy Obj.failed 0).reportFailed (0x1100 + core.val)) := by
    show execDecoderCheckerFailure core frame word s = _
    unfold execDecoderCheckerFailure
    rw [if_neg (by simp [hoff, hret, hout])]
    extract_lets job f _ _ s1 s2 s3
    have hf : f = 0 := if_pos (State.jobFailed_none hd)
    have hs2 : s2 = (s.coreFailed core frame word).incBy Obj.failed 0 := congrArg (State.incBy _ Obj.failed) hf
    have hget : s2.pool.job[frame]? = none := (congrArg (fun l => l[frame]?) (State.jobFailed_none hd)).trans hd
    have hs3 : s3 = s2 := by
      simp only [s3]
      rw [hget]
    rw [hs3, hs2]
  generalize hy : State.reportFailed _ _ = y at hexec
  have hkept := State.reportFailed_out hy
  obtain ⟨i, rfl, hmem⟩ := State.reportFailed_upd hy
  refine .intro hexec ⟨hkept, hmem, ?_, ?_, rfl⟩
  · show { s.pool with job := s.jobFailed frame word } = s.pool
    rw [State.jobFailed_none hd]
  · simp [State.coreFailed]
end

/-- Settles O15. -/
theorem decoderFailuresAndLossOfFrame : Obligations.DecoderFailuresAndLossOfFrame := by
  unfold Obligations.DecoderFailuresAndLossOfFrame
  exact ⟨fun s core frame word d hoff hret hout hd hw h0 => decoderCheckerFailure_converged core frame word d hoff hret hout hd hw h0,
    fun s core frame word hoff hret hout hd => decoderCheckerFailure_idle core frame word hoff hret hout hd,
    fun s r g c hlost hcar hdelay => frameLost_completes r g c hlost hcar hdelay⟩

/-! #### Bit maps -/

theorem maskOf_succ (n : Nat) (f : Nat → Bool) : maskOf (n + 1) f = maskOf n f + if f n then 2 ^ n else 0 := by
  simp [maskOf, sumTo, List.range_succ]

theorem maskOf_lt (n : Nat) (f : Nat → Bool) : maskOf n f < 2 ^ n := by
  induction n with
  | zero => exact Nat.one_pos
  | succ n ih =>
    rw [maskOf_succ, pow_succ]
    split <;> omega

theorem bitOf_of_lt {v n i : Nat} (h : v < 2 ^ n) (hi : n ≤ i) : bitOf v i = false := by
  unfold bitOf
  rw [Nat.div_eq_of_lt (Nat.lt_of_lt_of_le h (Nat.pow_le_pow_right (by decide) hi))]
  rfl

/-- A bit of a bit map. -/
theorem bitOf_maskOf (n i : Nat) (f : Nat → Bool) : bitOf (maskOf n f) i = (decide (i < n) && f i) := by
  induction n with
  | zero => rw [bitOf_of_lt (maskOf_lt 0 f) (Nat.zero_le i)]; simp
  | succ n ih =>
    have hclear : bitOf (maskOf n f) n = false := bitOf_of_lt (maskOf_lt n f) (Nat.le_refl n)
    rw [maskOf_succ]
    cases hf : f n with
    | false =>
      rw [if_neg Bool.false_ne_true, Nat.add_zero, ih]
      rcases Nat.lt_trichotomy i n with h | rfl | h
      · simp [h, Nat.lt_succ_of_lt h]
      · simp [hf]
      · simp [show ¬ i < n by omega, show ¬ i < n + 1 by omega]
    | true =>
      rw [if_pos rfl, bitOf_add_two_pow hclear, ih]
      rcases Nat.lt_trichotomy i n with h | rfl | h
      · simp [h, Nat.lt_succ_of_lt h, Nat.ne_of_lt h]
      · simp [hf]
      · simp [show ¬ i < n by omega, show ¬ i < n + 1 by omega, show ¬ i = n by omega]

theorem mem_upto {n i : Nat} {p : Nat → Bool} : i ∈ upto n p ↔ i < n ∧ p i = true := by
  unfold upto
  rw [List.mem_filter, List.mem_range]

section
variable {s : State}

@[simp] theorem State.port_wrN (s : State) (k v b : Nat) : (s.wrN k v).port b = s.port b := rfl

@[simp] theorem State.port_inc (s : State) (k b : Nat) : (s.inc k).port b = s.port b := rfl

theorem pfcFrameRx_completes (b : Fin 64) (vec phase : Nat) (times : List Nat) (hport : s.isPort b = true)
    (hst : s.rdN (Obj.berthPortState b) = 2 ∨ s.rdN (Obj.berthPortState b) = 3) :
    Completes (.pfcFrameRx b vec times phase) s (fun t =>
      (∀ p, p < 8 → bitOf vec p = true → bitOf (s.rdN (Obj.pfcRxEnable b)) p = true →
        (bitOf (t.rdN (Obj.pausedRx b)) p = true ↔ times.getD p 0 % 65536 ≠ 0) ∧
        (times.getD p 0 % 65536 ≠ 0 →
          (p, s.at phase + times.getD p 0 % 65536 * s.quantum b) ∈ (t.port b).rxUntil)) ∧
      (∀ p, p < 8 → (bitOf vec p = false ∨ bitOf (s.rdN (Obj.pfcRxEnable b)) p = false) →
        bitOf (t.rdN (Obj.pausedRx b)) p = bitOf (s.rdN (Obj.pausedRx b)) p) ∧
      t.rdN (Obj.pfcReceived b) = (s.rdN (Obj.pfcReceived b) + 1) % 2 ^ 64 ∧
      t = { s with regs := t.regs, berth := { s.berth with ports := t.berth.ports } } ∧ (∀ q, q ≠ b.val → t.port q = s.port q) ∧
      KeepsRegs [Obj.pausedRx b, Obj.pfcReceived b] s t) := by
  have hne : Obj.pfcReceived b ≠ Obj.pausedRx b := by simp only [Obj.pfcReceived, Obj.pausedRx, objKey]; omega
  have henable : (s.inc (Obj.pfcReceived b)).rdN (Obj.pfcRxEnable b) = s.rdN (Obj.pfcRxEnable b) :=
    State.inc_rdN_ne (h := by simp only [Obj.pfcReceived, Obj.pfcRxEnable, objKey]; omega) ..
  have hquantum : (s.inc (Obj.pfcReceived b)).quantum b = s.quantum b := by
    unfold State.quantum State.portWidth
    rw [State.inc_rdN_ne (h := by simp only [Obj.pfcReceived, Obj.groupLayout, objKey]; omega)]
  have hpaused : (s.inc (Obj.pfcReceived b)).rdN (Obj.pausedRx b) = s.rdN (Obj.pausedRx b) := State.inc_rdN_ne (h := hne.symm) ..
  refine .intro (if_pos ⟨hport, hst⟩) ?_
  dsimp only
  rw [henable, hquantum]
  refine ⟨fun p hp hv he => ?_, fun p hp hor => ?_, ?_, ?_, fun q hq => ?_, ?_⟩
  · have hmem : p ∈ upto 8 (fun p => bitOf vec p && bitOf (s.rdN (Obj.pfcRxEnable b)) p) := mem_upto.2 ⟨hp, by simp [hv, he]⟩
    refine ⟨?_, fun hne => ?_⟩
    · rw [State.wrN_rdN_self, bitOf_maskOf]
      simp [hp, hmem]
    · rw [State.port_wrN, State.setPort_port]
      refine List.mem_append_right _ (List.mem_filterMap.2 ⟨p, hmem, ?_⟩)
      rw [if_neg hne]
      rfl
  · have hmem : p ∉ upto 8 (fun p => bitOf vec p && bitOf (s.rdN (Obj.pfcRxEnable b)) p) := fun hmem => by
      have h := (mem_upto.1 hmem).2
      rcases hor with h' | h' <;> simp [h'] at h
    rw [State.wrN_rdN_self, bitOf_maskOf, State.setPort_rdN, hpaused]
    simp [hp, hmem]
  · rw [State.wrN_rdN_ne (h := hne), State.setPort_rdN, State.inc_rdN_self]
  · rfl
  · rw [State.port_wrN, State.setPort_other _ _ hq, State.port_inc]
  · simp [State.setPort]

theorem pfcRxPauseExpiry_completes (b : Fin 64) (p : Fin 8) (phase until_ : Nat)
    (h : (s.port b).rxUntil.find? (fun e => e.1 == p.val) = some (p.val, until_)) (hu : until_ ≤ s.at phase) :
    Completes (.pfcRxPauseExpiry b p phase) s (fun t => bitOf (t.rdN (Obj.pausedRx b)) p = false ∧
      (t.port b).rxUntil = (s.port b).rxUntil.filter (fun e => e.1 != p.val) ∧
      t = { s with regs := t.regs, berth := { s.berth with ports := t.berth.ports } } ∧ KeepsRegs [Obj.pausedRx b] s t) := by
  show ∃ t, execPfcRxPauseExpiry b p phase s = .next t ∧ _
  unfold execPfcRxPauseExpiry
  dsimp only
  rw [h]
  dsimp only
  rw [if_pos hu]
  refine ⟨_, rfl, ?_, ?_, rfl, by simp [State.setPort]⟩
  · rw [State.wrN_rdN_self, bitOf_setBit, if_pos rfl]
  · rw [State.port_wrN, State.setPort_port]

/-- What a PFC frame sent leaves (R265). -/
theorem State.sendPfc_spec (s : State) (b phase : Nat) (released : List Nat) :
    (∃ x g, s.sendPfc b phase released = { s with regs := x, berth.ports := g }) ∧
    ((s.sendPfc b phase released).port b) = { s.port b with
      pfcAt := s.at phase, pfcSent := (upto 8 (bitOf (s.rdN (Obj.pausedTx b)))).map (fun p => (p, s.rdN (Obj.pfcQuanta b))) ++
        released.map (·, 0) } ∧
    (s.sendPfc b phase released).rdN (Obj.pfcSent b) = (s.rdN (Obj.pfcSent b) + 1) % 2 ^ 64 ∧
    KeepsRegs [Obj.pfcSent b] s (s.sendPfc b phase released) := by
  unfold State.sendPfc
  dsimp only
  refine ⟨⟨_, _, rfl⟩, ?_, ?_, by simp [State.setPort]⟩
  · rw [State.port_inc, State.setPort_port]
  · rw [State.inc_rdN_self, State.setPort_rdN]

theorem mem_pfcSent_paused {p q v : Nat} {released : List Nat} (hp : p < 8) (hq : bitOf q p = true) :
    (p, v) ∈ (upto 8 (bitOf q)).map (fun p => (p, v)) ++ released.map (·, 0) :=
  List.mem_append_left _ (List.mem_map.2 ⟨p, mem_upto.2 ⟨hp, hq⟩, rfl⟩)

theorem pfcRefresh_completes (b : Fin 64) (phase : Nat) (h : s.rdN (Obj.pausedTx b) ≠ 0)
    (ht : 2 * (s.port b).pfcAt + s.rdN (Obj.pfcQuanta b) * s.quantum b ≤ 2 * s.at phase) :
    Completes (.pfcRefresh b phase) s (fun t => (t.port b).pfcAt = s.at phase ∧
      (∀ p, p < 8 → bitOf (s.rdN (Obj.pausedTx b)) p = true → (p, s.rdN (Obj.pfcQuanta b)) ∈ (t.port b).pfcSent) ∧
      t.rdN (Obj.pfcSent b) = (s.rdN (Obj.pfcSent b) + 1) % 2 ^ 64 ∧
      t = { s with regs := t.regs, berth := { s.berth with ports := t.berth.ports } } ∧ KeepsRegs [Obj.pfcSent b] s t) := by
  obtain ⟨⟨x, g, heq⟩, hport, hsent, hkeep⟩ := s.sendPfc_spec b phase []
  refine .intro (if_pos ⟨h, ht⟩) ⟨?_, fun p hp hbit => ?_, hsent, ?_, hkeep⟩
  · rw [hport]
  · rw [hport]
    exact mem_pfcSent_paused hp hbit
  · rw [heq]

/-- PAUSED_TX as the sources demand it (R264). -/
def State.pausedBy (s : State) (b : Nat) : Nat := maskOf 8 (fun p => bitOf (s.demanded b) p && bitOf (s.rdN (Obj.pfcTxEnable b)) p)

theorem pauseSourceChange_same (b : Fin 64) (phase : Nat) (hport : s.isPort b = true) (hsame : s.rdN (Obj.pausedTx b) = s.pausedBy b) :
    Completes (.pauseSourceChange b phase) s (fun t => t = { s with regs := t.regs } ∧
      t.rdN (Obj.pauseSources b) = maskOf 5 (fun i => (s.demands b).getD i 0 != 0) ∧ KeepsRegs [Obj.pauseSources b] s t) :=
  .intro ((if_pos hport).trans (congrArg Host.Outcome.next (if_pos hsame.symm)))
    ⟨rfl, State.wrN_rdN_self .., by simp⟩

theorem pauseSourceChange_follows (b : Fin 64) (phase paused : Nat) (hport : s.isPort b = true) (hp : paused = s.pausedBy b)
    (hne : paused ≠ s.rdN (Obj.pausedTx b)) :
    Completes (.pauseSourceChange b phase) s (fun t => t.rdN (Obj.pausedTx b) = paused ∧
      t.rdN (Obj.pauseSources b) = maskOf 5 (fun i => (s.demands b).getD i 0 != 0) ∧
      (t.port b).pfcAt = s.at phase ∧
      (∀ p, p < 8 → bitOf paused p = true → (p, s.rdN (Obj.pfcQuanta b)) ∈ (t.port b).pfcSent) ∧
      (∀ p, p < 8 → bitOf paused p = false → bitOf (s.rdN (Obj.pausedTx b)) p = true → (p, 0) ∈ (t.port b).pfcSent) ∧
      (∀ p, p < 8 → bitOf paused p = true → bitOf (s.rdN (Obj.pausedTx b)) p = false → (p, s.at phase) ∈ (t.port b).pausedAt) ∧
      t.rdN (Obj.pfcSent b) = (s.rdN (Obj.pfcSent b) + 1) % 2 ^ 64 ∧
      t = { s with regs := t.regs, berth := { s.berth with ports := t.berth.ports } } ∧
      KeepsRegs [Obj.pausedTx b, Obj.pauseSources b, Obj.pfcSent b] s t) := by
  subst hp
  have hexec : exec (.pauseSourceChange b phase) s = .next (s.pauseFollow b phase) := if_pos hport
  have hkeys : Obj.pausedTx b ≠ Obj.pauseSources b ∧ Obj.pausedTx b ≠ Obj.pfcSent b ∧ Obj.pauseSources b ≠ Obj.pfcSent b ∧
      Obj.pfcQuanta b ≠ Obj.pausedTx b ∧ Obj.pfcQuanta b ≠ Obj.pauseSources b := by
    simp only [Obj.pausedTx, Obj.pauseSources, Obj.pfcSent, Obj.pfcQuanta, objKey]; omega
  obtain ⟨k1, k2, k3, k4, k5⟩ := hkeys
  unfold State.pauseFollow at hexec
  extract_lets ds paused was s1 s2 released fresh x kept s3 at hexec
  rw [if_neg (show ¬ paused = was from hne)] at hexec
  have hs3 : s3.rdN (Obj.pausedTx b) = s.pausedBy b ∧ s3.rdN (Obj.pfcQuanta b) = s.rdN (Obj.pfcQuanta b) ∧
      s3.rdN (Obj.pauseSources b) = maskOf 5 (fun i => (s.demands b).getD i 0 != 0) ∧
      s3.rdN (Obj.pfcSent b) = s.rdN (Obj.pfcSent b) := by
    refine ⟨(State.setPort_rdN ..).trans (State.wrN_rdN_self ..), ?_, ?_, ?_⟩
    · exact (State.setPort_rdN ..).trans <| (State.wrN_rdN_ne (h := k4) ..).trans (State.wrN_rdN_ne (h := k5) ..)
    · exact (State.setPort_rdN ..).trans <| (State.wrN_rdN_ne (h := k1.symm) ..).trans (State.wrN_rdN_self ..)
    · exact (State.setPort_rdN ..).trans <| (State.wrN_rdN_ne (h := k2.symm) ..).trans (State.wrN_rdN_ne (h := k3.symm) ..)
  have hs3keep : KeepsRegs [Obj.pausedTx b, Obj.pauseSources b, Obj.pfcSent b] s s3 := by
    simp [s3, s2, s1, State.setPort]
  have hs3port : s3.port b = { s.port b with pausedAt := kept ++ fresh.map (·, s.at phase) } := State.setPort_port _ _ _
  obtain ⟨hpaused, hquanta, hsources, hsent0⟩ := hs3
  obtain ⟨⟨y, g, heq⟩, hsport, hsent, hkeep⟩ := s3.sendPfc_spec b phase released
  have hupd : s3 = { s with regs := s3.regs, berth := { s.berth with ports := s3.berth.ports } } := rfl
  have hat : s3.at phase = s.at phase := rfl
  clear_value s3
  rw [hpaused, hquanta, hs3port, hat] at hsport
  have hreg {k : Nat} (hk : k ≠ Obj.pfcSent b) : (s3.sendPfc b phase released).rdN k = s3.rdN k := by
    unfold State.rdN
    rw [hkeep k (by simpa using hk)]
  refine .intro hexec ⟨(hreg k2).trans hpaused, (hreg k3).trans hsources, ?_, fun p hp hbit => ?_, fun p hp hbit hwas => ?_,
    fun p hp hbit hwas => ?_, ?_, ?_, ?_⟩
  · rw [hsport]
  · rw [hsport]
    exact mem_pfcSent_paused hp hbit
  · rw [hsport]
    exact List.mem_append_right _ (List.mem_map.2 ⟨p, mem_upto.2 ⟨hp, by rw [Bool.and_eq_true, Bool.not_eq_true']; exact ⟨hwas, hbit⟩⟩,
      rfl⟩)
  · rw [hsport]
    exact List.mem_append_right _ (List.mem_map.2 ⟨p, mem_upto.2 ⟨hp, by rw [Bool.and_eq_true, Bool.not_eq_true']; exact ⟨hbit, hwas⟩⟩,
      rfl⟩)
  · rw [hsent, hsent0]
  · rw [heq, hupd]
  · exact hs3keep.trans (hkeep.mono (by simp))
end

/-- Settles O17. -/
theorem priorityFlowControlPausesAndReleases : Obligations.PriorityFlowControlPausesAndReleases := by
  unfold Obligations.PriorityFlowControlPausesAndReleases
  exact ⟨fun s b vec phase times hport hst => pfcFrameRx_completes b vec phase times hport hst,
    fun s b p phase until_ h hu => pfcRxPauseExpiry_completes b p phase until_ h hu,
    fun s b phase paused hport hp hne => pauseSourceChange_follows b phase paused hport hp hne,
    fun s b phase hport hsame => pauseSourceChange_same b phase hport hsame,
    fun s b phase h ht => pfcRefresh_completes b phase h ht⟩

section
variable {s : State}

theorem ledgerRecordSelect_blank (hstep : s.start.step = 2) (hcode : s.start.holdCode = 0) (hwin : s.winningRecord = none) :
    Completes .ledgerRecordSelect s (fun t =>
      t = { s with
        regs := t.regs
        core := { s.core with inFlight := s.core.inFlight ++ [⟨0xC027, 0x1110, 0, s.core.tick, s.life⟩] }
        start := { s.start with step := 3, winner := none, assayDue := true } } ∧
      t.rd Obj.lastShutdown = 2 ∧ KeepsRegs [Obj.lastShutdown] s t) := by
  have hwin' : State.winningRecord { s with start.step := 3 } = none := hwin
  show ∃ t, execLedgerRecordSelect s = .next t ∧ _
  unfold execLedgerRecordSelect
  rw [if_pos ⟨hstep, hcode⟩]
  dsimp only
  rw [hwin']
  exact ⟨_, rfl, rfl, by simp, by simp⟩

/-- The state that a winning record gives (R109), before its values are shown. -/
def State.withRecord (s : State) (x : LedgerRec) : State :=
  { s with start := { s.start with step := 3, winner := some x, lifeBase := x.lifetime, hotBase := x.hotSeconds
                                   assayLifetime := x.assayLifetime
                                   assayDue := x.assayWhen == 1 || x.assayWhen == 2 || !x.clean } }

/-- A winning record's values shown (R109). -/
def State.showRecord (s : State) (k : Nat) (x : LedgerRec) : State :=
  ((((((((((s.wrN Obj.ledgerSequence x.sequence).wrN Obj.ledgerBank (k / 256)).wrN Obj.ledgerSlot (k % 256)).wrN Obj.activeImage
    x.activeImage).wrN Obj.assayWhen (min 2 x.assayWhen)).wrN Obj.powerCycles x.powerCycles).wrN Obj.hotSeconds x.hotSeconds).wrN
    Obj.assayOutcome (min 4 x.assayOutcome)).wrN Obj.assayFailed x.assayFailed).wrN Obj.assayFirst x.assayFirst).wrN Obj.lastShutdown
    (if x.clean then 0 else 1)

theorem State.showRecord_regsOnly (s : State) (k : Nat) (x : LedgerRec) : RegsOnly s (s.showRecord k x) :=
  ((((((((((RegsOnly.refl.wrN _ _).wrN _ _).wrN _ _).wrN _ _).wrN _ _).wrN _ _).wrN _ _).wrN _ _).wrN _ _).wrN _ _).wrN _ _

theorem ledgerRecordSelect_found (k : Nat) (x : LedgerRec) (hstep : s.start.step = 2) (hcode : s.start.holdCode = 0)
    (hwin : s.winningRecord = some (k, x)) :
    Completes .ledgerRecordSelect s (fun t =>
      t = { s with
        regs := t.regs
        start := { s.start with step := 3, winner := some x, lifeBase := x.lifetime, hotBase := x.hotSeconds
                                assayLifetime := x.assayLifetime
                                assayDue := x.assayWhen == 1 || x.assayWhen == 2 || !x.clean } } ∧
      t.rdN Obj.ledgerSequence = x.sequence ∧ t.rdN Obj.ledgerBank = k / 256 ∧ t.rdN Obj.ledgerSlot = k % 256 ∧
      t.rdN Obj.activeImage = x.activeImage ∧ t.rdN Obj.assayWhen = min 2 x.assayWhen ∧
      t.rdN Obj.powerCycles = x.powerCycles ∧ t.rdN Obj.hotSeconds = x.hotSeconds ∧
      t.rdN Obj.assayFailed = x.assayFailed ∧ t.rdN Obj.assayFirst = x.assayFirst ∧
      t.rdN Obj.lastShutdown = (if x.clean then 0 else 1) ∧
      KeepsRegs [Obj.ledgerSequence, Obj.ledgerBank, Obj.ledgerSlot, Obj.activeImage, Obj.assayWhen, Obj.powerCycles, Obj.hotSeconds,
        Obj.assayOutcome, Obj.assayFailed, Obj.assayFirst, Obj.lastShutdown] s t) := by
  have hwin' : State.winningRecord { s with start.step := 3 } = some (k, x) := hwin
  have hexec : exec .ledgerRecordSelect s = .next ((s.withRecord x).showRecord k x) := by
    show execLedgerRecordSelect s = _
    unfold execLedgerRecordSelect
    rw [if_pos ⟨hstep, hcode⟩]
    dsimp only
    rw [hwin']
    rfl
  refine .intro hexec ⟨(State.showRecord_regsOnly _ k x).eq, ?_⟩
  unfold State.showRecord
  and_intros
  all_goals simp (disch := decide) [State.wrN_rdN_ne, State.withRecord]

theorem bootFlashTimeout_holds (hstep : s.start.step = 2) (hcode : s.start.holdCode = 0) (htick : 1000 ≤ s.core.tick) :
    Completes .bootFlashTimeout s (fun t => t = { s with start := { s.start with holdCode := 3 } } ∧
      (s.board.hot = false → s.board.noOsc = false → s.start.inReset = false → t.faultCode = 3)) := by
  refine .intro (if_pos ⟨hstep, hcode, htick⟩) ⟨rfl, fun h1 h2 h3 => ?_⟩
  simp [State.faultCode, h1, h2, h3]

theorem imageVerify_held (hstep : s.start.step = 3) (hcode : s.start.holdCode = 0) (hd : s.power.dormant = false)
    (hlt : (if s.power.leaving then s.rdN Obj.runningImage else s.rdN Obj.activeImage) < 2)
    (h0 : s.imageVerifies 0 = false) (h1 : s.imageVerifies 1 = false) :
    Completes .imageVerify s (fun t => t = { s with start := { s.start with holdCode := 2 } }) := by
  have hv (n : Nat) (hn : n < 2) : s.imageVerifies n = false := by
    rcases (show n = 0 ∨ n = 1 by omega) with rfl | rfl
    · exact h0
    · exact h1
  show ∃ t, execImageVerify s = .next t ∧ _
  unfold execImageVerify
  rw [if_pos ⟨hstep, hcode, by simp [hd]⟩]
  extract_lets active run first again pick
  have hfirst : first < 2 := by
    show (if run = 3 then 1 - active else active) < 2
    split <;> omega
  have hpick : pick = none := by
    simp only [pick]
    rw [hv first hfirst, hv (1 - first) (by omega)]
    rfl
  rw [hpick]
  exact ⟨_, rfl, rfl⟩

/-- The image that the start-up tries first: the one in force, the other after a third watchdog run (R100, R116). -/
def State.firstImage (s : State) : Nat :=
  if s.start.winner.any (fun x => x.watchdogRun == 3) then 1 - s.rdN Obj.activeImage else s.rdN Obj.activeImage

/-- The image that verifies, shown as the one that runs (R100). -/
def State.showImage (s : State) (n : Nat) (fell : Bool) : State :=
  (((s.wrN Obj.runningImage n).wrN Obj.runningRelease (s.imageField n 8 4)).wrN Obj.dictionaryVersion (s.imageField n 8 4)).onlyIf fell
    (fun s => s.raise 0x8020 0x1100 n)

theorem State.showImage_spec (s : State) (n : Nat) (fell : Bool) :
    (s.showImage n fell).start = s.start ∧ (s.showImage n fell).rdN Obj.runningImage = n ∧
    (s.showImage n fell).rdN Obj.runningRelease = s.imageField n 8 4 ∧
    (s.showImage n fell).rdN Obj.dictionaryVersion = s.imageField n 8 4 ∧
    (s.showImage n fell).core.inFlight = s.core.inFlight ++ (if fell then [⟨0x8020, 0x1100, n, s.core.tick, s.life⟩] else []) ∧
    KeepsRegs [Obj.runningImage, Obj.runningRelease, Obj.dictionaryVersion] s (s.showImage n fell) := by
  unfold State.showImage
  cases fell
  · rw [State.onlyIf_false]
    refine ⟨rfl, ?_, ?_, ?_, ?_, ?_⟩
    all_goals simp (disch := decide) [State.wrN_rdN_ne]
  · rw [State.onlyIf_true]
    refine ⟨rfl, ?_, ?_, ?_, rfl, ?_⟩
    all_goals simp (disch := decide) [State.wrN_rdN_ne]

theorem imageVerify_runs (n : Nat) (hstep : s.start.step = 3) (hcode : s.start.holdCode = 0) (hd : s.power.dormant = false)
    (hl : s.power.leaving = false) (hlt : s.rdN Obj.activeImage < 2)
    (hn : if s.imageVerifies s.firstImage then n = s.firstImage else n = 1 - s.firstImage ∧ s.imageVerifies n = true) :
    Completes .imageVerify s (fun t =>
      t.start.step = 4 ∧ t.start.holdCode = 0 ∧ t.rdN Obj.runningImage = n ∧
      t.rdN Obj.runningRelease = s.imageField n 8 4 ∧ t.rdN Obj.dictionaryVersion = s.imageField n 8 4 ∧
      t.start.images = s.start.images ∧
      t.start.fallback = (if n = s.rdN Obj.activeImage then none else some n) ∧
      t.core.inFlight = s.core.inFlight ++
        (if n = s.rdN Obj.activeImage then [] else [⟨0x8020, 0x1100, n, s.core.tick, s.life⟩]) ∧
      KeepsRegs [Obj.runningImage, Obj.runningRelease, Obj.dictionaryVersion] s t) := by
  have hpick : (if s.imageVerifies s.firstImage then some s.firstImage
      else if s.imageVerifies (1 - s.firstImage) then some (1 - s.firstImage) else none) = some n := by
    split at hn
    · next h => rw [if_pos h, hn]
    · next h =>
      obtain ⟨rfl, hv⟩ := hn
      rw [if_neg h, if_pos hv]
  have hexec : ∃ w, exec .imageVerify s = .next (State.showImage { s with start := { s.start with
      step := 4, fallback := if n != s.rdN Obj.activeImage then some n else none, watchdogRun := w } } n (n != s.rdN Obj.activeImage)) := by
    show ∃ w, execImageVerify s = _
    unfold execImageVerify
    rw [if_pos ⟨hstep, hcode, by simp [hd]⟩, hl]
    extract_lets active run first again pick
    have hfirst : first = s.firstImage := by
      simp only [first, run, active, State.firstImage]
      cases s.start.winner <;> simp
    have hsome : pick = some n := by
      simp only [pick]
      rw [hfirst, hpick]
    rw [hsome]
    exact ⟨_, rfl⟩
  obtain ⟨w, hexec⟩ := hexec
  obtain ⟨hstart, himage, hrel, hver, hflight, hkeep⟩ := State.showImage_spec { s with start := { s.start with
      step := 4, fallback := if n != s.rdN Obj.activeImage then some n else none, watchdogRun := w } } n (n != s.rdN Obj.activeImage)
  refine .intro hexec ⟨?_, ?_, himage, hrel, hver, ?_, ?_, ?_, hkeep⟩
  · rw [hstart]
  · rw [hstart]
    exact hcode
  · rw [hstart]
  · rw [hstart]
    by_cases h : n = s.rdN Obj.activeImage <;> simp [h]
  · refine hflight.trans ?_
    by_cases h : n = s.rdN Obj.activeImage
    · simp [h]
    · simp only [h, bne_iff_ne, ne_eq, not_false_eq_true, if_true, if_false]
      rfl
end

/-- Settles O4. -/
theorem startUpReadsLedgerAndImage : Obligations.StartUpReadsLedgerAndImage := by
  unfold Obligations.StartUpReadsLedgerAndImage
  exact ⟨fun s hstep hcode hwin => ledgerRecordSelect_blank hstep hcode hwin,
    fun s k x hstep hcode hwin => ledgerRecordSelect_found k x hstep hcode hwin,
    fun s hstep hcode htick => bootFlashTimeout_holds hstep hcode htick,
    fun s hstep hcode hd hlt h0 h1 => imageVerify_held hstep hcode hd hlt h0 h1,
    fun s n hstep hcode hd hl hlt hn => imageVerify_runs n hstep hcode hd hl hlt hn⟩

end Sys2Proof.Machine
end

section
/-! The obligations of the basin's ports, the timing inputs, the gain control, the lanes and the key store. -/
open Sys2Proof Sys2Proof.Machine
namespace Sys2Proof.Machine

/-- A property that every step of a fold over a list keeps, for the list's own members, holds after it. -/
theorem State.each_mem_inv {α : Type} (P : State → Prop) (l : List α) (f : State → α → State) (h : ∀ s a, a ∈ l → P s → P (f s a))
    {s : State} (h0 : P s) : P (s.each l f) := by
  induction l generalizing s with
  | nil => exact h0
  | cons a l ih => exact ih (fun s b hb => h s b (List.mem_cons_of_mem _ hb)) (h s a List.mem_cons_self h0)

/-! #### Contents lost -/

/-- Nothing of the tick, of the start-up or of the registers changes but the basin's use. -/
structure Shed (s t : State) : Prop where
  tick : t.core.tick = s.core.tick
  start : t.start = s.start
  keeps : KeepsRegs [Obj.usedSlots, Obj.basinState] s t

section
variable {s t u : State}

theorem Shed.refl : Shed s s := ⟨rfl, rfl, by simp⟩

theorem Shed.trans (h : Shed s t) (g : Shed t u) : Shed s u :=
  ⟨g.tick.trans h.tick, g.start.trans h.start, h.keeps.trans g.keeps⟩

theorem Shed.basin (h : Shed s t) (b : BasinSt) : Shed s { t with basin := b } := ⟨h.tick, h.start, h.keeps⟩

theorem Shed.each {α : Type} {f : State → α → State} (hf : ∀ s a, Shed s (f s a)) (l : List α) : Shed s (s.each l f) :=
  State.each_ind (P := fun t => Shed s t) (fun t a h => h.trans (hf t a)) l .refl

theorem Shed.life (h : Shed s t) : t.life = s.life := by
  unfold State.life
  rw [h.tick, h.start]

theorem shed_raiseLimitedItem (s : State) (code source item n last : Nat) : Shed s (s.raiseLimitedItem code source item n last) := by
  unfold State.raiseLimitedItem
  dsimp only
  split
  · exact ⟨rfl, rfl, by simp⟩
  · exact ⟨rfl, rfl, by simp⟩

theorem shed_waterCheck (s : State) : Shed s s.waterCheck := by
  unfold State.waterCheck
  extract_lets used usable s1 at_ rise fall _ s2
  have h1 : Shed s s1 := ⟨rfl, rfl, by simp [s1]⟩
  have h2 : Shed s1 s2 := by
    simp only [s2]
    split
    · exact ⟨rfl, rfl, by simp⟩
    · split
      · exact ⟨rfl, rfl, by simp⟩
      · exact .refl
  have h3 : Shed s s2 := h1.trans h2
  clear_value s2
  exact ⟨h3.tick, h3.start, by simpa using h3.keeps⟩

theorem shed_freeSlot (s : State) (k : Nat) : Shed s (s.freeSlot k) := by
  unfold State.freeSlot State.withholdPages
  dsimp only
  split
  · exact .refl
  · split
    · split
      · exact Shed.refl.basin _
      · exact Shed.refl.basin _
    · exact Shed.refl.basin _

theorem shed_voidCells (s : State) (f : Nat) (sel : Held → Bool) : Shed s (s.voidCells f sel) := by
  unfold State.voidCells State.freeHeld
  dsimp only
  split
  · exact .refl
  · refine Shed.trans ?_ (shed_waterCheck _)
    refine Shed.trans ?_ (Shed.each (fun s (h : Held) => shed_freeSlot s h.slot) _)
    refine Shed.trans ?_ (Shed.each (fun s p => shed_raiseLimitedItem s _ _ _ _ _) _)
    exact Shed.refl.basin _

theorem shed_portContentsLost (s : State) (p : Nat) : Shed s (s.portContentsLost p) := by
  unfold State.portContentsLost
  dsimp only
  refine Shed.trans ?_ (shed_waterCheck _)
  refine Shed.basin ?_ _
  refine Shed.each (fun s f => ?_) _
  exact (shed_voidCells s f _).basin _

theorem shed_checkpointLost (s : State) (p : Nat) : Shed s (s.checkpointLost p) := by
  unfold State.checkpointLost State.flowsAfresh
  refine State.onlyIf_ind (P := fun t => Shed s t) _ (fun _ => ?_) .refl
  refine State.onlyIf_ind (P := fun t => Shed s t) _ (fun h => ?_) (Shed.refl.basin _)
  exact h.trans (Shed.each (fun s f => Shed.refl.basin _) _)

/-- A port that enters FAILED (Table 11.8). -/
theorem basinFail_spec (s : State) (p : Fin 8) (cause : Nat) :
    (s.basinFail p cause).rdN (Obj.basinPortState p) = 5 ∧ ((s.basinFail p cause).bport p).contents = false ∧
    (⟨0xC096, 0x3520 + p.val, cause, s.core.tick, s.life⟩ : Event) ∈ (s.basinFail p cause).core.inFlight ∧
    (∀ q, q < 8 → q ≠ p.val → (s.basinFail p cause).rdN (Obj.basinPortState q) = s.rdN (Obj.basinPortState q)) := by
  have hshed : Shed s ((s.checkpointLost p).portContentsLost p) := (shed_checkpointLost s p).trans (shed_portContentsLost _ p)
  unfold State.basinFail
  generalize State.portContentsLost _ _ = a at hshed
  refine ⟨State.wrN_rdN_self .., ?_, ?_, fun q hq hne => ?_⟩
  · exact congrArg BasinPort.contents (tget_tset_self _ _ _ _)
  · rw [← hshed.life, ← hshed.tick]
    exact List.mem_append_right _ (List.mem_singleton.2 rfl)
  · have hkeep : a.rdN (Obj.basinPortState q) = s.rdN (Obj.basinPortState q) := by
      unfold State.rdN
      rw [hshed.keeps _ (by simp only [List.mem_cons, List.not_mem_nil, or_false, Obj.basinPortState, Obj.usedSlots, Obj.basinState, objKey]; omega)]
    rw [← hkeep]
    exact State.wrN_rdN_ne (h := by simp only [Obj.basinPortState, objKey]; omega) ..

/-! #### Ports that train and fill -/

theorem State.showBasinSlots_spec (s : State) : RegsOnly s s.showBasinSlots ∧
    KeepsRegs [Obj.basinSlots, Obj.opPositionEnd 0, Obj.opPosition 0, Obj.opPercent 0] s s.showBasinSlots := by
  unfold State.showBasinSlots State.opResize
  dsimp only
  refine State.onlyIf_ind (P := fun t => RegsOnly s t ∧
    KeepsRegs [Obj.basinSlots, Obj.opPositionEnd 0, Obj.opPosition 0, Obj.opPercent 0] s t) _ (fun _ => ?_)
    ⟨RegsOnly.refl.wrN _ _, by simp⟩
  generalize hx : State.wrN (State.wrN s _ _) _ _ = x
  have hxs : RegsOnly s x := by rw [← hx]; exact (RegsOnly.refl.wrN _ _).wrN _ _
  have hxk : KeepsRegs [Obj.basinSlots, Obj.opPositionEnd 0, Obj.opPosition 0, Obj.opPercent 0] s x := by rw [← hx]; simp
  obtain ⟨hregs, hkeep⟩ := x.opAdvance_spec 0 0
  exact ⟨hxs.trans hregs, hxk.trans (hkeep.mono (by simp))⟩

/-- The registers in which the ports' capacity shows. -/
def capKeys : List Nat := (List.range 8).flatMap (fun q => [Obj.slots q, Obj.basinCapacity q])

theorem not_mem_capKeys {k : Nat} (h : ∀ q, q < 8 → k ≠ Obj.slots q ∧ k ≠ Obj.basinCapacity q) : k ∉ capKeys := by
  intro hmem
  obtain ⟨q, hq, hk⟩ := List.mem_flatMap.1 hmem
  obtain ⟨h1, h2⟩ := h q (List.mem_range.1 hq)
  rcases List.mem_cons.1 hk with rfl | hk
  · exact h1 rfl
  · exact h2 (List.mem_singleton.1 hk)

theorem State.takeCapacity_spec (s : State) (p : Nat) : RegsOnly s (s.takeCapacity p) ∧ KeepsRegs capKeys s (s.takeCapacity p) := by
  unfold State.takeCapacity
  refine State.each_mem_inv (fun t => RegsOnly s t ∧ KeepsRegs capKeys s t) _ _ (fun t q hq h => ?_) ⟨.refl, by simp⟩
  have hq8 : q < 8 := List.mem_range.1 (List.mem_of_mem_filter hq)
  have hmem : ∀ k ∈ [Obj.slots q, Obj.basinCapacity q], k ∈ capKeys := fun k hk =>
    List.mem_flatMap.2 ⟨q, List.mem_range.2 hq8, hk⟩
  obtain ⟨hregs, hkeep⟩ := h
  refine ⟨(hregs.wrN _ _).wrN _ _, ?_⟩
  rw [keepsRegs_wrN (hmem _ (by simp)), keepsRegs_wrN (hmem _ (by simp))]
  exact hkeep

theorem State.checkpointRead_spec (s : State) (p : Nat) : ∃ b, s.checkpointRead p = { s with basin := b } ∧ b.ports = s.basin.ports ∧
    b.slots = s.basin.slots ∧
    ((∀ c, s.basin.checkpoint = some c → c.port ≠ p) → b = s.basin) ∧
    (∀ c, s.basin.checkpoint = some c → c.port = p → b.checkpoint = none ∧ b.pages = c.pages ∧
      b.flows = c.flows.map (fun q => (q.1, { q.2 with queue := [] }))) := by
  unfold State.checkpointRead
  split
  · next h => exact ⟨_, rfl, rfl, rfl, fun _ => rfl, fun c hc => absurd (h.symm.trans hc) (by simp)⟩
  · next c h =>
    have hinj (d : Checkpoint) (hd : s.basin.checkpoint = some d) : d = c := (Option.some.inj (h.symm.trans hd)).symm
    split
    · next hp =>
      refine ⟨_, rfl, rfl, rfl, fun hno => absurd hp (hno c h), fun d hd _ => ?_⟩
      rw [hinj d hd]
      exact ⟨rfl, rfl, rfl⟩
    · next hp => exact ⟨_, rfl, rfl, rfl, fun _ => rfl, fun d hd hdp => absurd (hinj d hd ▸ hdp) hp⟩

theorem State.bport_other (s : State) {p q : Nat} (x : BasinPort) (h : q ≠ p) : (s.setBport p x).bport q = s.bport q :=
  tget_tset_ne _ _ _ h

/-- The registers in which the fill's slots show. -/
def fillKeys : List Nat := [Obj.basinSlots, Obj.opPositionEnd 0, Obj.opPosition 0, Obj.opPercent 0]

theorem not_mem_fillKeys {k p : Nat} (hp : p < 8) (h : k / 256 = 0x3520 + p) : k ∉ fillKeys := by
  simp only [fillKeys, List.mem_cons, List.not_mem_nil, or_false, Obj.basinSlots, Obj.opPositionEnd, Obj.opPosition, Obj.opPercent,
    objKey]
  omega

theorem State.showBasinSlots_port {p k : Nat} (s : State) (hp : p < 8) (h : k / 256 = 0x3520 + p) :
    s.showBasinSlots.rdN k = s.rdN k := by
  unfold State.rdN
  rw [s.showBasinSlots_spec.2 k (not_mem_fillKeys hp h)]

theorem portKeys_div (p : Nat) : Obj.basinPortState p / 256 = 0x3520 + p ∧ Obj.linkRate p / 256 = 0x3520 + p ∧
    Obj.linkWidth p / 256 = 0x3520 + p := by
  simp only [Obj.basinPortState, Obj.linkRate, Obj.linkWidth, objKey]
  omega

theorem portKeys_ne (p : Nat) : Obj.linkRate p ≠ Obj.basinPortState p ∧ Obj.linkWidth p ≠ Obj.basinPortState p := by
  simp only [Obj.basinPortState, Obj.linkRate, Obj.linkWidth, objKey]
  omega

/-- The port's link as it has trained (Table 11.8). -/
def State.linkShown (s : State) (p rate width : Nat) : State :=
  ((s.checkpointRead p).wrN (Obj.linkRate p) (min rate 3)).wrN (Obj.linkWidth p) (min width 8)

theorem State.linkShown_spec (s : State) (p : Fin 8) (rate width : Nat) : ∃ x b, s.linkShown p rate width = { s with regs := x, basin := b } ∧
    b.ports = s.basin.ports ∧ b.slots = s.basin.slots ∧
    ((∀ c, s.basin.checkpoint = some c → c.port ≠ p.val) → b = s.basin) ∧
    (∀ c, s.basin.checkpoint = some c → c.port = p.val → b.checkpoint = none ∧ b.pages = c.pages ∧
      b.flows = c.flows.map (fun q => (q.1, { q.2 with queue := [] }))) ∧
    (s.linkShown p rate width).rdN (Obj.linkRate p) = min rate 3 ∧ (s.linkShown p rate width).rdN (Obj.linkWidth p) = min width 8 := by
  obtain ⟨b, hb, hports, hslots, hnone, hsome⟩ := s.checkpointRead_spec p
  unfold State.linkShown
  rw [hb]
  refine ⟨_, b, rfl, hports, hslots, hnone, hsome, ?_, State.wrN_rdN_self ..⟩
  rw [State.wrN_rdN_ne (h := by simp only [Obj.linkRate, Obj.linkWidth, objKey]; omega), State.wrN_rdN_self]

theorem basinPortTrained_kept (p : Fin 8) (rate width capacity : Nat) (h : s.rdN (Obj.basinPortState p) = 1)
    (hc : (s.bport p).contents = true) (hf : s.start.fillAborted = false) :
    Completes (.basinPortTrained p rate width capacity) s (fun t =>
      t.rdN (Obj.basinPortState p) = 3 ∧ t.rdN (Obj.linkRate p) = min rate 3 ∧ t.rdN (Obj.linkWidth p) = min width 8 ∧
      t.bport p = { s.bport p with contents := false, filled := true } ∧ t.basin.slots = s.basin.slots ∧
      t.core = s.core ∧
      ((∀ c, s.basin.checkpoint = some c → c.port ≠ p.val) → t.basin.pages = s.basin.pages ∧ t.basin.flows = s.basin.flows) ∧
      (∀ c, s.basin.checkpoint = some c → c.port = p.val →
        t.basin.checkpoint = none ∧ t.basin.pages = c.pages ∧ t.basin.flows = c.flows.map (fun q => (q.1, { q.2 with queue := [] })))) := by
  have hexec : exec (.basinPortTrained p rate width capacity) s =
      (if ((s.linkShown p rate width).bport p).contents ∧ ¬ (s.linkShown p rate width).start.fillAborted then
        .next (((s.linkShown p rate width).wrN (Obj.basinPortState p) 3).setBport p
          { ((s.linkShown p rate width).bport p) with contents := false, filled := true }).showBasinSlots
      else _) := if_pos h
  obtain ⟨x, b, hl, hports, hslots, hnone, hsome, hrate, hwidth⟩ := s.linkShown_spec p rate width
  rw [hl] at hexec hrate hwidth
  have hbp : State.bport { s with regs := x, basin := b } p = s.bport p := by
    unfold State.bport
    rw [hports]
  rw [if_pos ⟨by rw [hbp]; exact hc, by rw [show _ = false from hf]; exact Bool.false_ne_true⟩, hbp] at hexec
  obtain ⟨kst, krate, kwidth⟩ := portKeys_div p
  obtain ⟨nrate, nwidth⟩ := portKeys_ne p
  refine .intro hexec ⟨?_, ?_, ?_, ?_⟩
  · rw [State.showBasinSlots_port _ p.isLt kst, State.setBport_rdN, State.wrN_rdN_self]
  · rw [State.showBasinSlots_port _ p.isLt krate, State.setBport_rdN, State.wrN_rdN_ne (h := nrate), hrate]
  · rw [State.showBasinSlots_port _ p.isLt kwidth, State.setBport_rdN, State.wrN_rdN_ne (h := nwidth), hwidth]
  · obtain ⟨y, hy⟩ := (State.showBasinSlots_spec (((State.wrN { s with regs := x, basin := b } (Obj.basinPortState p) 3).setBport p
      { (s.bport p) with contents := false, filled := true }))).1
    rw [hy]
    refine ⟨State.setBport_bport .., hslots, rfl, fun hno => ?_, fun c hc hp => ?_⟩
    · rw [hnone hno]
      exact ⟨rfl, rfl⟩
    · exact hsome c hc hp

/-- The fill's operation as a port joins it (R107). -/
def State.fillJoined (s : State) : State :=
  if s.opRunning 0 then s.showBasinSlots else (s.showBasinSlots).opStart 0 (s.showBasinSlots.rdN Obj.basinSlots)

theorem State.fillJoined_spec (s : State) : RegsOnly s s.fillJoined ∧ s.fillJoined.opRunning 0 = true ∧
    (∀ p k, p < 8 → k / 256 = 0x3520 + p → s.fillJoined.rdN k = s.rdN k) := by
  unfold State.fillJoined
  split
  · next h =>
    refine ⟨s.showBasinSlots_spec.1, ?_, fun p k hp hk => State.showBasinSlots_port s hp hk⟩
    unfold State.opRunning State.rdN at h ⊢
    rw [s.showBasinSlots_spec.2 _ (by decide)]
    exact h
  · refine ⟨s.showBasinSlots_spec.1.trans (((((RegsOnly.refl.wrN _ _).wrN _ _).wrN _ _).wrN _ _).wrN _ _), ?_, fun p k hp hk => ?_⟩
    · unfold State.opRunning State.opStart
      simp (disch := decide) [State.wrN_rdN_ne]
    · rw [← State.showBasinSlots_port s hp hk]
      unfold State.opStart
      simp (disch := (simp only [Obj.opState, Obj.opPosition, Obj.opPercent, Obj.opPositionEnd, Obj.opStartTick, objKey]; omega)) only
        [State.wrN_rdN_ne]

theorem not_mem_capKeys_of_port {k p : Nat} (hp : p < 8) (h : k = Obj.basinPortState p ∨ k = Obj.linkRate p ∨ k = Obj.linkWidth p) :
    k ∉ capKeys := not_mem_capKeys fun q hq => by
  rcases h with rfl | rfl | rfl <;> simp only [Obj.basinPortState, Obj.linkRate, Obj.linkWidth, Obj.slots, Obj.basinCapacity, objKey] <;>
    omega

/-- A port's fill begins: its slots are as a fill leaves them, and its capacity is taken (R107, R293). -/
def State.fillBegun (s : State) (p cap : Nat) : State :=
  (s.slotsFilled p).setBport p { ((s.slotsFilled p).bport p) with contents := false, cap := cap }

theorem State.fillBegun_spec (s : State) (p cap : Nat) : ∃ b, s.fillBegun p cap = { s with basin := b } ∧
    tget (fun _ => {}) b.ports p = { s.bport p with contents := false, cap := cap } ∧
    (∀ q, q ≠ p → tget (fun _ => {}) b.ports q = s.bport q) ∧ (∀ q ∈ b.slots, slotPort q.1 ≠ p) :=
  ⟨_, rfl, tget_tset_self _ _ _ _, fun _ hq => tget_tset_ne _ _ _ hq, fun q hq => by simpa using (List.mem_filter.1 hq).2⟩

theorem basinPortTrained_fills (p : Fin 8) (rate width capacity : Nat) (h : s.rdN (Obj.basinPortState p) = 1)
    (hc : (s.bport p).contents = false ∨ s.start.fillAborted = true) :
    Completes (.basinPortTrained p rate width capacity) s (fun t =>
      t.rdN (Obj.basinPortState p) = 2 ∧ t.rdN (Obj.linkRate p) = min rate 3 ∧ t.rdN (Obj.linkWidth p) = min width 8 ∧
      t.bport p = { s.bport p with contents := false, cap := min (capacity / 2 ^ 30 * 2 ^ 22) (2 ^ 32) } ∧
      t.opRunning 0 = true ∧ t.core = s.core ∧ t.agent = s.agent ∧ (∀ q, q ≠ p.val → t.bport q = s.bport q) ∧
      (∀ q ∈ t.basin.slots, slotPort q.1 ≠ p.val)) := by
  have hexec : exec (.basinPortTrained p rate width capacity) s =
      (if ((s.linkShown p rate width).bport p).contents ∧ ¬ (s.linkShown p rate width).start.fillAborted then _
      else .next (((((s.linkShown p rate width).fillBegun p (min (capacity / 2 ^ 30 * 2 ^ 22) (2 ^ 32))).wrN
        (Obj.basinPortState p) 2).takeCapacity p).fillJoined)) := if_pos h
  obtain ⟨x, b, hl, hports, hslots, hnone, hsome, hrate, hwidth⟩ := s.linkShown_spec p rate width
  have hbp (q : Nat) : State.bport { s with regs := x, basin := b } q = s.bport q := by
    unfold State.bport
    rw [hports]
  rw [hl] at hexec hrate hwidth
  rw [if_neg (fun hc' => by
    rcases hc with hc | hc
    · exact absurd (hbp p ▸ hc'.1) (by rw [hc]; exact Bool.false_ne_true)
    · exact hc'.2 hc)] at hexec
  obtain ⟨d, hd, hself, hother, hfilled⟩ := State.fillBegun_spec { s with regs := x, basin := b } p
    (min (capacity / 2 ^ 30 * 2 ^ 22) (2 ^ 32))
  rw [hd] at hexec
  obtain ⟨⟨y, hy⟩, hcap⟩ := State.takeCapacity_spec (State.wrN { s with regs := x, basin := d } (Obj.basinPortState p) 2) p
  generalize State.takeCapacity _ _ = c at *
  obtain ⟨⟨z, hz⟩, hrun, hjoin⟩ := c.fillJoined_spec
  obtain ⟨kst, krate, kwidth⟩ := portKeys_div p
  obtain ⟨nrate, nwidth⟩ := portKeys_ne p
  have hreg (k : Nat) (hk : k = Obj.basinPortState p ∨ k = Obj.linkRate p ∨ k = Obj.linkWidth p) (hdiv : k / 256 = 0x3520 + p.val) :
      c.fillJoined.rdN k = (State.wrN { s with regs := x, basin := d } (Obj.basinPortState p) 2).rdN k := by
    rw [hjoin p k p.isLt hdiv]
    unfold State.rdN
    rw [hcap k (not_mem_capKeys_of_port p.isLt hk)]
  refine .intro hexec ⟨?_, ?_, ?_, ?_⟩
  · rw [hreg _ (.inl rfl) kst, State.wrN_rdN_self]
  · rw [hreg _ (.inr (.inl rfl)) krate, State.wrN_rdN_ne (h := nrate)]
    exact hrate
  · rw [hreg _ (.inr (.inr rfl)) kwidth, State.wrN_rdN_ne (h := nwidth)]
    exact hwidth
  · rw [hz, hy] at hrun ⊢
    exact ⟨hself.trans (by rw [hbp]), hrun, rfl, rfl, fun q hq => (hother q hq).trans (hbp q), hfilled⟩

/-- The fill's end touches its operation, the start-up and the log alone. -/
theorem State.fillCheck_spec (s : State) : ∃ x st c, s.fillCheck = { s with regs := x, start := st, core := c } ∧
    (∀ k, k / 256 ≠ 0x1180 → s.fillCheck.rd k = s.rd k) := by
  have hop {k : Nat} (hk : k / 256 ≠ 0x1180) : k ≠ Obj.opState 0 ∧ k ≠ Obj.opPosition 0 ∧ k ≠ Obj.opPercent 0 ∧
      k ≠ Obj.opPositionEnd 0 ∧ k ≠ Obj.opStartTick 0 ∧ k ≠ Obj.opLastStatus 0 := by
    simp only [Obj.opState, Obj.opPosition, Obj.opPercent, Obj.opPositionEnd, Obj.opStartTick, Obj.opLastStatus, objKey]
    omega
  unfold State.fillCheck
  dsimp only
  split
  · exact ⟨_, _, _, rfl, fun _ _ => rfl⟩
  · split
    · split
      · obtain ⟨⟨x, hx⟩, hkeep⟩ := s.opAdvance_spec 0 (s.rdN (Obj.opPositionEnd 0))
        generalize State.opAdvance _ _ _ = a at *
        refine ⟨_, _, _, by rw [hx]; rfl, fun k hk => ?_⟩
        obtain ⟨h1, h2, h3, h4, h5, h6⟩ := hop hk
        rw [← hkeep k (by simp [h2, h3])]
        unfold State.opDone
        simp [State.wrN_rd_ne, h1, h3]
      · refine ⟨_, _, _, rfl, fun k hk => ?_⟩
        obtain ⟨h1, h2, h3, h4, h5, h6⟩ := hop hk
        unfold State.opFail
        simp [State.wrN_rd_ne, h1, h6]
    · split
      · exact ⟨_, _, _, rfl, fun _ _ => rfl⟩
      · refine ⟨_, _, _, rfl, fun k hk => ?_⟩
        obtain ⟨h1, h2, h3, h4, h5, h6⟩ := hop hk
        unfold State.opFail State.opStart
        simp [State.wrN_rd_ne, h1, h2, h3, h4, h5, h6]

theorem State.fillCheck_waiting {q : Nat} (hq : q < 8) (h : s.rdN (Obj.basinPortState q) = 1) : s.fillCheck = s := by
  refine if_pos (List.any_eq_true.2 ⟨q, List.mem_range.2 hq, ?_⟩)
  rw [h]
  rfl

theorem basinTrainingTimeout_fails (p : Fin 8) (h : s.rdN (Obj.basinPortState p) = 1) (ht : (s.bport p).trainAt + 10000 ≤ s.core.tick)
    (hother : ∃ q, q < 8 ∧ q ≠ p.val ∧ s.rdN (Obj.basinPortState q) = 1) :
    Completes (.basinTrainingTimeout p) s (fun t =>
      t.rdN (Obj.basinPortState p) = 5 ∧ (t.bport p).contents = false ∧
      (⟨0xC096, 0x3520 + p.val, 2, s.core.tick, s.life⟩ : Event) ∈ t.core.inFlight) := by
  obtain ⟨q, hq, hne, hq1⟩ := hother
  obtain ⟨hstate, hcontents, hevent, hothers⟩ := basinFail_spec s p 2
  have hexec : exec (.basinTrainingTimeout p) s = .next (s.basinFail p 2).showBasinSlots.fillCheck := if_pos ⟨h, ht⟩
  have hwait : (s.basinFail p 2).showBasinSlots.rdN (Obj.basinPortState q) = 1 := by
    rw [State.showBasinSlots_port _ hq (portKeys_div q).1, hothers q hq hne, hq1]
  rw [State.fillCheck_waiting hq hwait] at hexec
  refine .intro hexec ⟨?_, ?_⟩
  · rw [State.showBasinSlots_port _ p.isLt (portKeys_div p).1, hstate]
  · obtain ⟨x, hx⟩ := (s.basinFail p 2).showBasinSlots_spec.1
    rw [hx]
    exact ⟨hcontents, hevent⟩

/-- The pages whose read-back failed in a fill. -/
def State.badPages (s : State) (p : Nat) (bad : List Nat) : List Nat :=
  ((bad.map (· / 4096)).eraseDups).filter (fun n => decide (n < s.portPages p) && !(s.bport p).retired.contains n)

theorem State.mem_badPages {p n : Nat} {bad : List Nat} :
    n ∈ s.badPages p bad ↔ (∃ k ∈ bad, k / 4096 = n) ∧ n < s.portPages p ∧ n ∉ (s.bport p).retired := by
  unfold State.badPages
  rw [List.mem_filter, List.mem_eraseDups, List.mem_map, Bool.and_eq_true, decide_eq_true_eq]
  simp

theorem basinPortFillDone_waits (p : Fin 8) (bad : List Nat) (h : s.rdN (Obj.basinPortState p) = 2) (hf : (s.bport p).filled = false) :
    Completes (.basinPortFillDone p true bad) s (fun t =>
      t.rdN (Obj.basinPortState p) = 2 ∧ t.bport p = { s.bport p with filled := true, fillBad := (t.bport p).fillBad } ∧
      (∀ n, n ∈ (t.bport p).fillBad ↔ (∃ k ∈ bad, k / 4096 = n) ∧ n < s.portPages p ∧ n ∉ (s.bport p).retired) ∧
      (∀ q, q ≠ p.val → t.bport q = s.bport q) ∧ t.basin.slots = s.basin.slots ∧ t.agent = s.agent) := by
  have hexec : ∃ d, exec (.basinPortFillDone p true bad) s =
      .next ((s.setBport p { s.bport p with filled := true, fillBad := s.badPages p bad }).opAdvance 0 d).fillCheck :=
    ⟨_, if_pos ⟨h, by rw [hf]; exact Bool.false_ne_true⟩⟩
  obtain ⟨d, hexec⟩ := hexec
  obtain ⟨⟨x, hx⟩, hkeep⟩ := (s.setBport p { s.bport p with filled := true, fillBad := s.badPages p bad }).opAdvance_spec 0 d
  generalize State.opAdvance _ _ _ = a at *
  obtain ⟨y, st, c, hfill, hreg⟩ := a.fillCheck_spec
  have hdiv : Obj.basinPortState p / 256 ≠ 0x1180 := by simp only [Obj.basinPortState, objKey]; omega
  have hstate : a.fillCheck.rdN (Obj.basinPortState p) = s.rdN (Obj.basinPortState p) := by
    unfold State.rdN
    rw [hreg _ hdiv, hkeep _ (by
      simp only [List.mem_cons, List.not_mem_nil, or_false, Obj.basinPortState, Obj.opPosition, Obj.opPercent, objKey]; omega),
      State.setBport_rd]
  refine .intro hexec ⟨hstate.trans h, ?_⟩
  have hself := State.setBport_bport s p { s.bport p with filled := true, fillBad := s.badPages p bad }
  rw [hfill, hx]
  refine ⟨hself.trans ?_, fun n => ?_, fun q hq => State.bport_other s _ hq, rfl, rfl⟩
  · exact congrArg (fun l => { s.bport p with filled := true, fillBad := l }) (congrArg BasinPort.fillBad hself).symm
  · exact (iff_of_eq (congrArg (n ∈ ·) (congrArg BasinPort.fillBad hself))).trans State.mem_badPages

theorem basinPortFillDone_fails (p : Fin 8) (bad : List Nat) (h : s.rdN (Obj.basinPortState p) = 2) (hf : (s.bport p).filled = false) :
    Completes (.basinPortFillDone p false bad) s (fun t =>
      t.rdN (Obj.basinPortState p) = 5 ∧ (∀ q, q ≠ p.val → t.bport q = s.bport q) ∧ t.agent = s.agent) := by
  have hexec : exec (.basinPortFillDone p false bad) s = .next (s.leaveFill p) :=
    (if_pos ⟨h, by rw [hf]; exact Bool.false_ne_true⟩).trans (if_neg Bool.false_ne_true)
  unfold State.leaveFill at hexec
  generalize hb : ({ s.bport p with filled := false } : BasinPort) = b at hexec
  obtain ⟨x, hx⟩ := ((s.wrN (Obj.basinPortState p) 5).setBport p b).showBasinSlots_spec.1
  have hshown := State.showBasinSlots_port ((s.wrN (Obj.basinPortState p) 5).setBport p b) p.isLt (portKeys_div p).1
  generalize State.showBasinSlots _ = a at *
  obtain ⟨y, st, c, hfill, hreg⟩ := a.fillCheck_spec
  refine .intro hexec ⟨?_, ?_⟩
  · unfold State.rdN
    rw [hreg _ (by simp only [Obj.basinPortState, objKey]; omega)]
    exact hshown.trans ((State.setBport_rdN ..).trans (State.wrN_rdN_self ..))
  · rw [hfill, hx]
    exact ⟨fun q hq => State.bport_other (s.wrN _ 5) b hq, rfl⟩

/-- A flow started durable: it is ACTIVE and holds nothing, its numbering starts at 0, and no other flow changes (R292). -/
theorem State.durableStart_spec (s : State) (f : Nat) : ∃ fl, s.durableStart f = { s with basin.flows := fl } ∧
    ((s.durableStart f).flow f).state = 1 ∧ ((s.durableStart f).flow f).held = [] ∧ ((s.durableStart f).flow f).next = 0 ∧
    ((s.durableStart f).flow f).acked = 0 ∧ (∀ g, g ≠ f → (s.durableStart f).flow g = s.flow g) := by
  have hself : (s.durableStart f).flow f = { (s.newEpoch f).flow f with state := 1, held := [] } := State.setFlow_flow ..
  have hnew : (s.newEpoch f).flow f = _ := State.setFlow_flow ..
  rw [hself, hnew]
  exact ⟨_, rfl, rfl, rfl, rfl, rfl, fun g hg => (tget_tset_ne _ _ _ hg).trans (tget_tset_ne _ _ _ hg)⟩

/-- The flows of a list started durable: those are as `State.durableStart_spec` says, and no other changes. -/
theorem State.each_durableStart (l : List Nat) (s : State) : ∃ fl, s.each l State.durableStart = { s with basin.flows := fl } ∧
    (∀ f, f ∉ l → (s.each l State.durableStart).flow f = s.flow f) ∧
    (∀ f, f ∈ l → ((s.each l State.durableStart).flow f).state = 1 ∧ ((s.each l State.durableStart).flow f).held = [] ∧
      ((s.each l State.durableStart).flow f).next = 0 ∧ ((s.each l State.durableStart).flow f).acked = 0) := by
  induction l generalizing s with
  | nil => exact ⟨_, rfl, fun _ _ => rfl, fun f hf => absurd hf List.not_mem_nil⟩
  | cons g l ih =>
    rw [State.each_cons]
    obtain ⟨fl, hs, hstate, hheld, hnext, hacked, hother⟩ := s.durableStart_spec g
    generalize s.durableStart g = u at *
    obtain ⟨fl', hs', hout, hin⟩ := ih u
    refine ⟨fl', by rw [hs', hs], fun f hf => ?_, fun f hf => ?_⟩
    · rw [hout f fun h => hf (List.mem_cons_of_mem _ h), hother f fun h => hf (h ▸ List.mem_cons_self)]
    · by_cases hl : f ∈ l
      · exact hin f hl
      · obtain rfl := (List.mem_cons.1 hf).resolve_right hl
        rw [hout f hl]
        exact ⟨hstate, hheld, hnext, hacked⟩

theorem durableAccepted_starts (hd : s.start.fillDone = true) (ha : s.basin.accepted = false) (ht : s.start.fillTick < s.core.tick) :
    Completes .durableAccepted s (fun t =>
      t.basin.accepted = true ∧ t.rd Obj.durableAccepted = 1 ∧ KeepsRegs [Obj.durableAccepted] s t ∧
      t.core.inFlight = s.core.inFlight ++ [⟨0x4024, 0x1120, s.durableFlows.length, s.core.tick, s.life⟩] ∧
      (∀ f, f ∉ s.durableFlows → t.flow f = s.flow f) ∧
      (∀ f, f ∈ s.durableFlows → (t.flow f).state = 1 ∧ (t.flow f).held = [] ∧ (t.flow f).next = 0 ∧ (t.flow f).acked = 0)) := by
  have hexec : exec .durableAccepted s = .next (((State.each { s with basin.accepted := true, start.downgraded := [] } s.durableFlows
      State.durableStart).wrN Obj.durableAccepted 1).raise 0x4024 0x1120 s.durableFlows.length) :=
    if_pos ⟨hd, by rw [ha]; exact Bool.false_ne_true, ht⟩
  obtain ⟨fl, hs, hout, hin⟩ := State.each_durableStart s.durableFlows { s with basin.accepted := true, start.downgraded := [] }
  rw [hs] at hexec hout hin
  refine .intro hexec ⟨rfl, by simp, fun k hk => ?_, rfl, hout, hin⟩
  have hne : k ≠ Obj.durableAccepted := fun h => hk (h ▸ List.mem_singleton_self _)
  simp [State.wrN_rd_ne, hne]

/-- Settles O7. -/
theorem basinPortsTrainFillAndAreAccepted : Obligations.BasinPortsTrainFillAndAreAccepted := by
  unfold Obligations.BasinPortsTrainFillAndAreAccepted
  exact ⟨fun _ p rate width capacity h hc => basinPortTrained_fills p rate width capacity h hc,
    fun _ p rate width capacity h hc hf => basinPortTrained_kept p rate width capacity h hc hf,
    fun _ p h ht hother => basinTrainingTimeout_fails p h ht hother, fun _ p bad h hf => basinPortFillDone_waits p bad h hf,
    fun _ p bad h hf => basinPortFillDone_fails p bad h hf, fun _ hd ha ht => durableAccepted_starts hd ha ht⟩

end

section
variable {s : State}

/-- A rounding left open takes the whole part or one more, and one more only where something is left over. -/
theorem State.roundFree_spec (s : State) (a : Nat) {b : Nat} (hb : 0 < b) : ∃ n d, s.roundFree a b = (d, { s with core.freeCtr := n }) ∧
    (d = a / b ∨ d = a / b + 1) ∧ b * d < a + b ∧ a < b * d + b := by
  have hdiv := Nat.div_add_mod a b
  have hmod := Nat.mod_lt a hb
  unfold State.roundFree State.draw
  dsimp only
  rw [if_neg (by omega)]
  split
  · exact ⟨_, _, rfl, .inl rfl, by omega, by omega⟩
  · split
    · exact ⟨_, _, rfl, .inr rfl, by rw [Nat.mul_add, Nat.mul_one]; omega, by rw [Nat.mul_add, Nat.mul_one]; omega⟩
    · exact ⟨_, _, rfl, .inl rfl, by rw [Nat.add_zero]; omega, by rw [Nat.add_zero]; omega⟩

theorem selected_ne_inputKeys {i : Nat} (hi : i < 12) : Obj.selected ≠ Obj.inputState i ∧ Obj.selected ≠ Obj.losses i ∧
    Obj.selected ≠ Obj.inputOffset i ∧ Obj.inputState i ≠ Obj.losses i ∧ Obj.inputState i ≠ Obj.inputOffset i ∧
    Obj.losses i ≠ Obj.inputOffset i := by
  simp only [Obj.selected, Obj.inputState, Obj.losses, Obj.inputOffset, objKey]
  omega

/-- A lost input's state, count and event, and what the loss of the selected one keeps (R356, R361). -/
theorem State.refLost_spec {i : Nat} (fault : Nat) (hi : i < 12) (h : 0 < s.refState i) :
    ∃ x y, s.refLost i fault = { s with regs := x, timing := y
                                        core := { s.core with inFlight := s.core.inFlight ++
                                          [⟨0x80C1, 0x4010 + i, fault, s.core.tick, s.life⟩] } } ∧
      (s.refLost i fault).refState i = 0 ∧ (s.refLost i fault).rdN (Obj.losses i) = (s.rdN (Obj.losses i) + 1) % 2 ^ 64 ∧
      KeepsRegs [Obj.inputState i, Obj.losses i] s (s.refLost i fault) ∧
      (s.selectedIn ≠ i → y = s.timing) ∧
      (s.selectedIn = i → y = { s.timing with loss := some (s.rdB Obj.holdoverReady, s.rd Obj.holdoverEstimate) }) := by
  obtain ⟨hsel, hsel', _, hne, _, _⟩ := selected_ne_inputKeys hi
  have hkey (k : Nat) (h1 : k ≠ Obj.inputState i) (h2 : k ≠ Obj.losses i) :
      (((s.wrN (Obj.inputState i) 0).inc (Obj.losses i)).raise 0x80C1 (0x4010 + i) fault).rd k = s.rd k := by
    rw [State.raise_rd, State.inc, State.incBy, State.wrN_rd_ne (h := h2), State.wrN_rd_ne (h := h1)]
  have hstate : (((s.wrN (Obj.inputState i) 0).inc (Obj.losses i)).raise 0x80C1 (0x4010 + i) fault).refState i = 0 := by
    unfold State.refState
    rw [State.raise_rdN, State.inc_rdN_ne (h := hne), State.wrN_rdN_self]
  have hloss : (((s.wrN (Obj.inputState i) 0).inc (Obj.losses i)).raise 0x80C1 (0x4010 + i) fault).rdN (Obj.losses i) =
      (s.rdN (Obj.losses i) + 1) % 2 ^ 64 := by
    rw [State.raise_rdN, State.inc_rdN_self, State.wrN_rdN_ne (h := hne.symm)]
  have hkeep : KeepsRegs [Obj.inputState i, Obj.losses i] s
      (((s.wrN (Obj.inputState i) 0).inc (Obj.losses i)).raise 0x80C1 (0x4010 + i) fault) := fun k hk => by
    simp only [List.mem_cons, List.not_mem_nil, or_false, not_or] at hk
    exact hkey k hk.1 hk.2
  have hhold : Obj.holdoverReady ≠ Obj.inputState i ∧ Obj.holdoverReady ≠ Obj.losses i ∧ Obj.holdoverEstimate ≠ Obj.inputState i ∧
      Obj.holdoverEstimate ≠ Obj.losses i := by
    simp only [Obj.holdoverReady, Obj.holdoverEstimate, Obj.inputState, Obj.losses, objKey]
    omega
  have hpick : State.selectedIn (((s.wrN (Obj.inputState i) 0).inc (Obj.losses i)).raise 0x80C1 (0x4010 + i) fault) = s.selectedIn := by
    unfold State.selectedIn State.rdN
    rw [hkey _ hsel hsel']
  have hready := hkey _ hhold.1 hhold.2.1
  have hest := hkey _ hhold.2.2.1 hhold.2.2.2
  unfold State.refLost
  rw [if_neg (by omega)]
  dsimp only
  rw [hpick]
  unfold State.rdB
  rw [hready, hest]
  split
  · next hs => exact ⟨_, _, rfl, hstate, hloss, hkeep, fun hn => absurd hs hn, fun _ => rfl⟩
  · next hs => exact ⟨_, _, rfl, hstate, hloss, hkeep, fun _ => rfl, fun hn => absurd hn hs⟩

theorem referenceLost_sourceOrBoard (i : Fin 12) (f : Fin 4) (ph : Nat) (off : Int) (h : 0 < s.refState i) (hs : s.selectedIn ≠ i)
    (hf : (f = 0 ∧ s.sourceLost i = true) ∨ f = 1) :
    Completes (.referenceLost i f ph off) s (fun t => t.refState i = 0 ∧
      t.rdN (Obj.losses i) = (s.rdN (Obj.losses i) + 1) % 2 ^ 64 ∧ t.timing = s.timing ∧
      t.core = { s.core with inFlight := s.core.inFlight ++ [⟨0x80C1, 0x4010 + i.val, f.val, s.core.tick, s.life⟩] } ∧
      KeepsRegs [Obj.inputState i, Obj.losses i] s t) := by
  have hexec : exec (.referenceLost i f ph off) s = .next (s.refLost i f) := by
    rcases hf with ⟨rfl, hl⟩ | rfl
    · exact if_pos hl
    · rfl
  obtain ⟨x, y, heq, hstate, hloss, hkeep, hother, -⟩ := State.refLost_spec (s := s) f.val i.isLt h
  refine .intro hexec ⟨hstate, hloss, ?_, ?_, hkeep⟩
  · rw [heq]
    exact hother hs
  · rw [heq]

theorem referenceLost_offset (i : Fin 12) (ph : Nat) (off : Int) (h : 0 < s.refState i) (hs : s.selectedIn = i)
    (hoff : 1000 * s.rdN Obj.acceptLimit < off.natAbs) :
    Completes (.referenceLost i 2 ph off) s (fun t => t.refState i = 0 ∧ t.rd (Obj.inputOffset i) = off ∧
      t.timing = { s.timing with loss := some (s.rdB Obj.holdoverReady, s.rd Obj.holdoverEstimate) } ∧
      t.core = { s.core with inFlight := s.core.inFlight ++ [⟨0x80C1, 0x4010 + i.val, 2, s.core.tick, s.life⟩] } ∧
      KeepsRegs [Obj.inputState i, Obj.losses i, Obj.inputOffset i] s t) := by
  have hexec : exec (.referenceLost i 2 ph off) s = .next ((s.wr (Obj.inputOffset i) off).refLost i 2) :=
    if_pos (decide_eq_true hoff)
  obtain ⟨_, _, hsel, _, hst, hlo⟩ := selected_ne_inputKeys i.isLt
  have hstate' : (s.wr (Obj.inputOffset i) off).refState i = s.refState i := State.wr_rdN_ne _ _ _ _ hst
  have hsel' : (s.wr (Obj.inputOffset i) off).selectedIn = s.selectedIn := State.wr_rdN_ne _ _ _ _ hsel
  have hoffset : (s.wr (Obj.inputOffset i) off).rd (Obj.inputOffset i) = off := State.wr_rd_self ..
  have hhold : Obj.holdoverReady ≠ Obj.inputOffset i ∧ Obj.holdoverEstimate ≠ Obj.inputOffset i := by
    simp only [Obj.holdoverReady, Obj.holdoverEstimate, Obj.inputOffset, objKey]
    omega
  have hready : (s.wr (Obj.inputOffset i) off).rdB Obj.holdoverReady = s.rdB Obj.holdoverReady := by
    unfold State.rdB
    rw [State.wr_rd_ne (h := hhold.1)]
  have hest : (s.wr (Obj.inputOffset i) off).rd Obj.holdoverEstimate = s.rd Obj.holdoverEstimate :=
    State.wr_rd_ne _ _ _ _ hhold.2
  have hwr (k : Nat) (hk : k ≠ Obj.inputOffset i) : (s.wr (Obj.inputOffset i) off).rd k = s.rd k := State.wr_rd_ne _ _ _ _ hk
  have hlife : (s.wr (Obj.inputOffset i) off).life = s.life := rfl
  obtain ⟨x, y, heq, hstate, -, hkeep, -, htim⟩ :=
    State.refLost_spec (s := s.wr (Obj.inputOffset i) off) 2 i.isLt (by rw [hstate']; exact h)
  refine .intro hexec ⟨hstate, ?_, ?_, ?_, fun k hk => ?_⟩
  · exact (hkeep _ (by simp [hst.symm, hlo.symm])).trans hoffset
  · rw [heq]
    exact (htim (by rw [hsel', hs])).trans (by rw [hready, hest]; rfl)
  · rw [heq]
    rfl
  · simp only [List.mem_cons, List.not_mem_nil, or_false, not_or] at hk
    obtain ⟨h1, h2, h3⟩ := hk
    rw [hkeep k (by simp [h1, h2]), hwr k h3]

theorem referenceQualifying_starts (i : Fin 12) (h : s.refState i = 0) (hf : s.refFaulted i = false) :
    Completes (.referenceQualifying i) s (fun t => t.refState i = 1 ∧ t.refIn i = { s.refIn i with since := s.core.tick } ∧
      (∀ k, k ≠ i.val → t.refIn k = s.refIn k) ∧ KeepsRegs [Obj.inputState i] s t ∧ t.core = s.core) := by
  refine .intro (if_pos ⟨h, by rw [hf]; rfl⟩) ⟨State.wrN_rdN_self .., tget_tset_self _ _ _ _, fun k hk => tget_tset_ne _ _ _ hk,
    fun k hk => State.wrN_rd_ne (h := ?_) .., rfl⟩
  exact fun hc => hk (hc ▸ List.mem_singleton_self _)

theorem referenceQualified_announces (i : Fin 12) (h : s.refState i = 1)
    (ht : (s.refIn i).since + s.rdN (Obj.qualTime i) ≤ s.core.tick) (hf : s.refFaulted i = false) :
    Completes (.referenceQualified i) s (fun t => t.refState i = 2 ∧ t.timing = s.timing ∧ KeepsRegs [Obj.inputState i] s t ∧
      t.core = { s.core with inFlight := s.core.inFlight ++ [⟨0x40C2, 0x4010 + i.val, 0, s.core.tick, s.life⟩] }) := by
  refine .intro (if_pos ⟨h, ht, by rw [hf]; rfl⟩) ⟨State.wrN_rdN_self .., rfl, fun k hk => State.wrN_rd_ne (h := ?_) .., rfl⟩
  exact fun hc => hk (hc ▸ List.mem_singleton_self _)

/-- The edge's timestamp, to 5 ps, is the mark (R354). -/
theorem ppsEdge_marks (i : Fin 2) (ph : Nat) (h : s.rdN (Obj.phaseMode i) = 1) : ∃ n d : Nat, d % 5 = 0 ∧ d < ph + 5 ∧ ph < d + 5 ∧
    exec (.ppsEdge i ph) s = .next ((({ s with core.freeCtr := n } : State).setRefIn i
      { s.refIn i with mark := some (s.core.tick * 10000000 + d) }).markAt i (s.core.tick * 10000000 + d : Nat)) := by
  obtain ⟨n, m, hr, -, hlo, hhi⟩ := s.roundFree_spec (s.at ph) (by decide : 0 < 5)
  have hat : s.at ph = s.core.tick * 10000000 + ph := rfl
  refine ⟨n, 5 * m - s.core.tick * 10000000, by omega, by omega, by omega, ?_⟩
  have hm : s.core.tick * 10000000 + (5 * m - s.core.tick * 10000000) = 5 * m := by omega
  have hcast : (5 * (m : Int)) = ((s.core.tick * 10000000 + (5 * m - s.core.tick * 10000000) : Nat) : Int) := by
    rw [hm]
    push_cast
    rfl
  show execPpsEdge i ph s = _
  unfold execPpsEdge
  rw [if_pos h, hr]
  dsimp only
  rw [hcast, hm] <;> rfl

theorem reduceTo_of_lt {m d k : Int} (hd : 0 ≤ d) (hm : 2 * d ≤ m) (hpos : 0 < m) : reduceTo m (k * m + d) = d := by
  have hmod : (k * m + d) % m = d := by rw [Int.mul_add_emod_self_right]; exact Int.emod_eq_of_lt hd (by omega)
  unfold reduceTo
  dsimp only
  rw [hmod, if_neg (by omega)]

theorem State.setRefIn_other (s : State) {i k : Nat} (x : RefIn) (h : k ≠ i) : (s.setRefIn i x).refIn k = s.refIn k :=
  tget_tset_ne _ _ _ h

theorem tickAligned_ne_phaseError {i : Nat} : Obj.tickAligned ≠ Obj.phaseError i := by
  simp only [Obj.tickAligned, Obj.phaseError, objKey]
  omega

/-- A mark's offset is the input's phase error, and is shown (R365). -/
def State.marked (s : State) (i : Nat) (off : Nat) : State :=
  (s.setRefIn i { s.refIn i with err := 1000 * (off : Int) }).wr (Obj.phaseError i) off

theorem State.marked_spec (s : State) (i off : Nat) : ∃ x y, s.marked i off = { s with regs := x, timing := y } ∧
    (s.marked i off).refIn i = { s.refIn i with err := 1000 * (off : Int) } ∧ (∀ k, k ≠ i → (s.marked i off).refIn k = s.refIn k) ∧
    (s.marked i off).rd (Obj.phaseError i) = off ∧ KeepsRegs [Obj.phaseError i] s (s.marked i off) ∧
    (s.marked i off).rdB Obj.tickAligned = s.rdB Obj.tickAligned := by
  refine ⟨_, _, rfl, tget_tset_self _ _ _ _, fun k hk => tget_tset_ne _ _ _ hk, State.wr_rd_self .., fun k hk => ?_, ?_⟩
  · exact State.wr_rd_ne (s.setRefIn i _) _ _ _ fun hc => hk (hc ▸ List.mem_singleton_self _)
  · exact congrArg (· == 1) (State.wr_rd_ne (s.setRefIn i _) _ _ _ tickAligned_ne_phaseError)

theorem State.markAt_unaligned {i d : Nat} {m : Int} (ha : s.rdB Obj.tickAligned = false) (hm : s.markOffset m = d) (hd : d < 2 ^ 31) :
    s.markAt i m = (s.marked i d).setRefIn i { (s.marked i d).refIn i with mismatch := false } := by
  have hclamp : clampInt (-(2 ^ 31)) (2 ^ 31 - 1) (d : Int) = d := by unfold clampInt; omega
  obtain ⟨x, y, -, -, -, -, -, hal⟩ := s.marked_spec i d
  unfold State.markAt
  dsimp only
  rw [hm, hclamp]
  refine if_neg ?_
  show ¬ ((s.marked i d).rdB Obj.tickAligned && _) = true
  rw [hal, ha, Bool.false_and]
  exact Bool.false_ne_true

theorem State.markAt_mismatch {i d : Nat} {m : Int} (ha : s.rdB Obj.tickAligned = true) (hm : s.markOffset m = d) (hd : d < 2 ^ 31)
    (hfar : 5000000 < d) (hx : (s.refIn i).mismatch = false) : ∃ n us, (us = d / 1000000 ∨ us = d / 1000000 + 1) ∧
    s.markAt i m = ((({ s.marked i d with core.freeCtr := n } : State).setRefIn i
      { (s.marked i d).refIn i with mismatch := true }).refLost i 3).raise 0x80C7 (0x4010 + i) (min us 0xFFFFFFFF) := by
  have hclamp : clampInt (-(2 ^ 31)) (2 ^ 31 - 1) (d : Int) = d := by unfold clampInt; omega
  obtain ⟨x, y, -, -, -, -, -, hal⟩ := s.marked_spec i d
  obtain ⟨n, us, hround, hus, -, -⟩ := (s.marked i d).roundFree_spec d (by decide : 0 < 1000000)
  refine ⟨n, us, hus, ?_⟩
  unfold State.markAt
  dsimp only
  rw [hm, hclamp]
  refine (if_pos ?_).trans ((if_neg (by rw [hx]; exact Bool.false_ne_true)).trans ?_)
  · show ((s.marked i d).rdB Obj.tickAligned && decide (5000000 < d)) = true
    rw [hal, ha, decide_eq_true hfar]
    rfl
  · show (((((s.marked i d).roundFree d 1000000).2.setRefIn i
      { ((s.marked i d).roundFree d 1000000).2.refIn i with mismatch := true }).refLost i 3).raise 0x80C7 (0x4010 + i)
      (min ((s.marked i d).roundFree d 1000000).1 0xFFFFFFFF)) = _
    rw [hround] <;> rfl

theorem ppsEdge_unaligned (i : Fin 2) (ph : Nat) (h : s.rdN (Obj.phaseMode i) = 1) (ha : s.rdB Obj.tickAligned = false)
    (hp : ph < 5000000) :
    Completes (.ppsEdge i ph) s (fun t => ∃ d : Nat, d % 5 = 0 ∧ d < ph + 5 ∧ ph < d + 5 ∧
      t.refIn i = { s.refIn i with mark := some (s.core.tick * 10000000 + d), err := 1000 * (d : Int), mismatch := false } ∧
      t.rd (Obj.phaseError i) = (d : Int) ∧ KeepsRegs [Obj.phaseError i] s t ∧
      t.core = { s.core with freeCtr := t.core.freeCtr } ∧ (∀ k, k ≠ i.val → t.refIn k = s.refIn k)) := by
  obtain ⟨n, d, hmod, hlo, hhi, hexec⟩ := ppsEdge_marks i ph h
  generalize hu : State.setRefIn _ _ _ = u at hexec
  have hself : u.refIn i = { s.refIn i with mark := some (s.core.tick * 10000000 + d) } := by rw [← hu]; exact State.setRefIn_refIn ..
  have hothers (k : Nat) (hk : k ≠ i.val) : u.refIn k = s.refIn k := by
    rw [← hu]
    exact State.setRefIn_other { s with core.freeCtr := n } _ hk
  have hregs : u.regs = s.regs := by rw [← hu]; rfl
  have hcore : u.core = { s.core with freeCtr := n } := by rw [← hu]; rfl
  have hrd (k : Nat) : u.rd k = s.rd k := by unfold State.rd; rw [hregs]
  have haligned : u.rdB Obj.tickAligned = false := by rw [← ha]; unfold State.rdB; rw [hrd]
  have hoff : u.markOffset (s.core.tick * 10000000 + d : Nat) = (d : Int) := by
    unfold State.markOffset
    rw [haligned, if_neg Bool.false_ne_true]
    push_cast
    exact reduceTo_of_lt (by omega) (by omega) (by omega)
  rw [State.markAt_unaligned haligned hoff (by omega)] at hexec
  obtain ⟨x, y, heq, hrefin, hrest, hphase, hkeep, -⟩ := u.marked_spec i d
  generalize u.marked i d = v at *
  refine .intro hexec ⟨d, hmod, hlo, hhi, ?_, hphase, fun k hk => (hkeep k hk).trans (hrd k), ?_, fun k hk => ?_⟩
  · rw [State.setRefIn_refIn, hrefin, hself]
  · have hv : v.core = { s.core with freeCtr := n } := by rw [heq]; exact hcore
    rw [State.setRefIn_core, hv]
  · rw [State.setRefIn_other _ _ hk, hrest k hk, hothers k hk]

theorem ppsEdge_mismatch (i : Fin 2) (ph : Nat) (h : s.rdN (Obj.phaseMode i) = 1) (ha : s.rdB Obj.tickAligned = true)
    (htick : s.core.tick % 100000 = 0) (hp : 5000005 ≤ ph) (hp' : ph < 10000000) (hst : 0 < s.refState i)
    (hx : (s.refIn i).mismatch = false) :
    Completes (.ppsEdge i ph) s (fun t => ∃ d : Nat, d % 5 = 0 ∧ d < ph + 5 ∧ ph < d + 5 ∧
      t.refState i = 0 ∧ (t.refIn i).mismatch = true ∧ t.rd (Obj.phaseError i) = (d : Int) ∧
      ⟨0x80C1, 0x4010 + i.val, 3, s.core.tick, s.life⟩ ∈ t.core.inFlight ∧
      (∃ us, (us = d / 1000000 ∨ us = d / 1000000 + 1) ∧
        ⟨0x80C7, 0x4010 + i.val, us, s.core.tick, s.life⟩ ∈ t.core.inFlight)) := by
  obtain ⟨n, d, hmod, hlo, hhi, hexec⟩ := ppsEdge_marks i ph h
  generalize hu : State.setRefIn _ _ _ = u at hexec
  have hself : u.refIn i = { s.refIn i with mark := some (s.core.tick * 10000000 + d) } := by rw [← hu]; exact State.setRefIn_refIn ..
  have hregs : u.regs = s.regs := by rw [← hu]; rfl
  have htk : u.core.tick = s.core.tick ∧ u.life = s.life := by rw [← hu]; exact ⟨rfl, rfl⟩
  have hrd (k : Nat) : u.rd k = s.rd k := by unfold State.rd; rw [hregs]
  have haligned : u.rdB Obj.tickAligned = true := by rw [← ha]; unfold State.rdB; rw [hrd]
  have hoff : u.markOffset (s.core.tick * 10000000 + d : Nat) = (d : Int) := by
    unfold State.markOffset
    have hk : ((s.core.tick * 10000000 + d : Nat) : Int) = (s.core.tick / 100000 : Nat) * 1000000000000 + (d : Int) := by omega
    rw [haligned, if_pos rfl, hk]
    exact reduceTo_of_lt (by omega) (by omega) (by omega)
  obtain ⟨x, y, heq, hrefin, hrest, hphase, hkeep, -⟩ := u.marked_spec i d
  obtain ⟨m, us, hus, hmark⟩ := State.markAt_mismatch (i := i) haligned hoff (by omega) (by omega) (by rw [hself]; exact hx)
  rw [hmark] at hexec
  clear hmark
  generalize u.marked i d = v at *
  have hvtick : v.core.tick = s.core.tick ∧ v.life = s.life := by
    rw [← htk.1, ← htk.2, heq]
    exact ⟨rfl, rfl⟩
  have hkeys : Obj.inputState i ∉ [Obj.phaseError i] ∧ Obj.phaseError i ∉ [Obj.inputState i, Obj.losses i] := by
    simp only [List.mem_cons, List.not_mem_nil, or_false, Obj.inputState, Obj.losses, Obj.phaseError, objKey]
    omega
  have hvstate : v.refState i = s.refState i := by
    unfold State.refState State.rdN
    rw [hkeep _ hkeys.1, hrd]
  generalize hw : State.setRefIn _ _ _ = w at hexec
  have hwstate : w.refState i = s.refState i := by rw [← hvstate, ← hw]; rfl
  have hwtick : w.core.tick = s.core.tick ∧ w.life = s.life := by
    rw [← hvtick.1, ← hvtick.2, ← hw]
    exact ⟨rfl, rfl⟩
  have hwphase : w.rd (Obj.phaseError i) = d := by rw [← hphase, ← hw]; rfl
  have hwself : (w.refIn i).mismatch = true := by
    rw [← hw]
    exact congrArg RefIn.mismatch (State.setRefIn_refIn ..)
  obtain ⟨x', y', hlost, hstate, -, hkeep', hother, hsel⟩ :=
    State.refLost_spec (s := w) (i := i) 3 (by omega) (by rw [hwstate]; exact hst)
  have hinputs : y'.inputs = w.timing.inputs := by
    by_cases hs : w.selectedIn = i
    · rw [hsel hs]
    · rw [hother hs]
  rw [hwtick.1, hwtick.2] at hlost
  have hmin : min us 0xFFFFFFFF = us := by omega
  rw [hmin] at hexec
  refine .intro hexec ⟨d, hmod, hlo, hhi, hstate, ?_, ?_, ?_, us, hus, ?_⟩
  · rw [hlost]
    show (tget (fun _ => {}) y'.inputs i).mismatch = true
    rw [hinputs]
    exact hwself
  · exact (hkeep' _ hkeys.2).trans hwphase
  · rw [hlost, State.raise_inFlight]
    simp
  · rw [hlost, State.raise_inFlight]
    refine List.mem_append_right _ (List.mem_singleton.2 ?_)
    rw [← hwtick.1, ← hwtick.2]
    rfl

/-- Settles O26. -/
theorem timingInputsQualifyAndAreLost : Obligations.TimingInputsQualifyAndAreLost := by
  unfold Obligations.TimingInputsQualifyAndAreLost
  refine ⟨fun _ i f ph off h hs hf => referenceLost_sourceOrBoard i f ph off h hs hf,
    fun _ i ph off h hs hoff => referenceLost_offset i ph off h hs hoff, fun _ i h hf => referenceQualifying_starts i h hf,
    fun s i h hf => if_neg fun hc => ?_, fun _ i h ht hf => referenceQualified_announces i h ht hf,
    fun s i h => if_neg fun hc => ?_, fun _ i ph h ha hp => ppsEdge_unaligned i ph h ha hp,
    fun _ i ph h ha htick hp hp' hst hx => ppsEdge_mismatch i ph h ha htick hp hp' hst hx⟩
  · simp [hf] at hc
  · obtain ⟨-, ht, hf⟩ := hc
    rcases h with h | h
    · omega
    · simp [h] at hf

end

section
variable {s : State}

theorem gainCodes_eq (s : State) (r : Nat) : s.gainCodes r =
    [s.rdN (Obj.gainCode r 0), s.rdN (Obj.gainCode r 1), s.rdN (Obj.gainCode r 2), s.rdN (Obj.gainCode r 3)] := rfl

/-- A code is held to 0 to 4,095 as it is put (R124). -/
theorem State.setGainCodes_four (s : State) (r a b c d : Nat) : s.setGainCodes r [a, b, c, d] =
    (((s.wrN (Obj.gainCode r 0) (min a 4095)).wrN (Obj.gainCode r 1) (min b 4095)).wrN (Obj.gainCode r 2) (min c 4095)).wrN
      (Obj.gainCode r 3) (min d 4095) := rfl

theorem gainCode_inj {r i j : Nat} (h : i ≠ j) : Obj.gainCode r i ≠ Obj.gainCode r j := by
  simp only [Obj.gainCode, objKey]
  omega

theorem State.setGainCodes_rdN (s : State) (r a b c d : Nat) {i : Nat} (hi : i < 4) :
    (s.setGainCodes r [a, b, c, d]).rdN (Obj.gainCode r i) = min ([a, b, c, d].getD i 0) 4095 := by
  rw [State.setGainCodes_four]
  obtain rfl | rfl | rfl | rfl : i = 0 ∨ i = 1 ∨ i = 2 ∨ i = 3 := by omega
  all_goals simp [State.wrN_rdN_ne, gainCode_inj]

theorem State.setGainCodes_regsOnly (s : State) (r a b c d : Nat) : RegsOnly s (s.setGainCodes r [a, b, c, d]) :=
  (((RegsOnly.refl.wrN _ _).wrN _ _).wrN _ _).wrN _ _

theorem State.setGainCodes_keeps (s : State) (r a b c d : Nat) : KeepsRegs [Obj.gainCode r 0, Obj.gainCode r 1, Obj.gainCode r 2,
    Obj.gainCode r 3] s (s.setGainCodes r [a, b, c, d]) := fun k hk => by
  simp only [List.mem_cons, List.not_mem_nil, or_false, not_or] at hk
  obtain ⟨h0, h1, h2, h3⟩ := hk
  rw [State.setGainCodes_four, State.wrN_rd_ne (h := h3), State.wrN_rd_ne (h := h2), State.wrN_rd_ne (h := h1),
    State.wrN_rd_ne (h := h0)]

theorem State.setGainCodes_spec {r a b c d : Nat} {u : State} (h : s.setGainCodes r [a, b, c, d] = u) : RegsOnly s u ∧
    (∀ i, i < 4 → u.rdN (Obj.gainCode r i) = min ([a, b, c, d].getD i 0) 4095) ∧
    KeepsRegs [Obj.gainCode r 0, Obj.gainCode r 1, Obj.gainCode r 2, Obj.gainCode r 3] s u := by
  rw [← h]
  exact ⟨State.setGainCodes_regsOnly .., fun i hi => State.setGainCodes_rdN _ _ _ _ _ _ hi, State.setGainCodes_keeps s r a b c d⟩

/-- What an update moves a code to, with the amount left open (R124). DESIGN CHOICE: log entry 4. -/
def slewStep (errs : List Int) (n i c : Nat) : Nat :=
  if errs.getD i 0 = 0 then c else if 0 < errs.getD i 0 then c - n / 4096 ^ i % 4096 else min 4095 (c + n / 4096 ^ i % 4096)

theorem slewStep_towards (errs : List Int) (n i c : Nat) :
    min (slewStep errs n i c) 4095 ≤ 4095 ∧ (errs.getD i 0 = 0 → c ≤ 4095 → min (slewStep errs n i c) 4095 = c) ∧
      (0 < errs.getD i 0 → min (slewStep errs n i c) 4095 ≤ c) ∧
      (errs.getD i 0 < 0 → c ≤ 4095 → c ≤ min (slewStep errs n i c) 4095) := by
  unfold slewStep
  split
  · omega
  · split
    · omega
    · omega

theorem agcSlewUpdate_moves (r : Fin 4) (errs : List Int) (light : Bool) (h : s.agcState r = 1) (hlen : errs.length = 4)
    (hl : light = true ∨ s.reachReacquires r = false) :
    Completes (.agcSlewUpdate r errs light) s (fun t =>
      (∀ i, i < 4 → let e := errs.getD i 0; let c := s.rdN (Obj.gainCode r i); let d := t.rdN (Obj.gainCode r i)
        d ≤ 4095 ∧ (e = 0 → c ≤ 4095 → d = c) ∧ (0 < e → d ≤ c) ∧ (e < 0 → c ≤ 4095 → c ≤ d)) ∧
      (t.agc r).inRange = (if ∀ e ∈ errs, e.natAbs ≤ 100 then (s.agc r).inRange + 1 else 0) ∧
      t = { s with regs := t.regs, conv := { s.conv with agc := t.conv.agc }, core := { s.core with freeCtr := t.core.freeCtr } } ∧
      (∀ q, q ≠ r.val → t.agc q = s.agc q) ∧
      KeepsRegs [Obj.gainCode r 0, Obj.gainCode r 1, Obj.gainCode r 2, Obj.gainCode r 3, Obj.agcAtLimit r] s t) := by
  have hnot : ¬ (s.agcState r ≠ 1 ∨ errs.length ≠ 4 ∨ (!light ∧ s.reachReacquires r)) := by
    rintro (hc | hc | ⟨hc, hc'⟩)
    · exact hc h
    · exact hc hlen
    · rcases hl with hl | hl
      · simp [hl] at hc
      · simp [hl] at hc'
  have hexec : ∃ n slew limit, exec (.agcSlewUpdate r errs light) s = .next
      ((((({ s with core.freeCtr := s.core.freeCtr + 1 } : State).setGainCodes r
        ((s.gainCodes r).zipIdx.map (fun p => slewStep errs n p.2 p.1))).setAgc r
        { s.agc r with
          inRange := if errs.all (fun e => decide (e.natAbs ≤ 100)) then (s.agc r).inRange + 1 else 0
          slew, lastErr := errs, lastCodes := s.gainCodes r, slewTick := true }).wrN (Obj.agcAtLimit r) limit)) := by
    show ∃ n slew limit, execAgcSlewUpdate r errs light s = _
    unfold execAgcSlewUpdate
    rw [if_neg hnot]
    exact ⟨Config.free s.core.freeCtr, _, _, rfl⟩
  obtain ⟨n, slew, limit, hexec⟩ := hexec
  have hcodes : (s.gainCodes r).zipIdx.map (fun p => slewStep errs n p.2 p.1) =
      [slewStep errs n 0 (s.rdN (Obj.gainCode r 0)), slewStep errs n 1 (s.rdN (Obj.gainCode r 1)),
        slewStep errs n 2 (s.rdN (Obj.gainCode r 2)), slewStep errs n 3 (s.rdN (Obj.gainCode r 3))] := rfl
  rw [hcodes] at hexec
  generalize hv : State.setGainCodes _ _ _ = v at hexec
  obtain ⟨⟨x, hx⟩, hput, hkept⟩ := State.setGainCodes_spec hv
  refine .intro hexec ⟨fun i hi => ?_, ?_, ?_, fun q hq => ?_, fun k hk => ?_⟩
  · dsimp only
    rw [State.wrN_rdN_ne (h := by simp only [Obj.gainCode, Obj.agcAtLimit, objKey]; omega), State.setAgc_rdN, hput i hi]
    obtain rfl | rfl | rfl | rfl : i = 0 ∨ i = 1 ∨ i = 2 ∨ i = 3 := by omega
    all_goals exact slewStep_towards _ _ _ _
  · refine (congrArg Agc.inRange (tget_tset_self _ _ _ _)).trans ?_
    simp
  · rw [hx] <;> rfl
  · rw [hx]
    exact tget_tset_ne _ _ _ hq
  · simp only [List.mem_cons, List.not_mem_nil, or_false, not_or] at hk
    rw [State.wrN_rd_ne (h := hk.2.2.2.2), State.setAgc_rd, hkept k (by simp [hk])] <;> rfl

theorem agcSettleEntry_settles (r : Fin 4) (h : s.agcState r = 1) (hn : 20 ≤ (s.agc r).inRange) :
    Completes (.agcSettleEntry r) s (fun t =>
      t = { s with regs := t.regs, conv := { s.conv with agc := t.conv.agc } } ∧ t.agcState r = 2 ∧ (t.agc r).found = 0 ∧
      (∀ i, i < 4 → let o := (s.agc r).slew.getD i (0, 0, 0)
        (t.agc r).est.getD i (0, 0) = if 16 ≤ o.2.2 ∧ o.1 ≠ 0 then (o.1, o.2.1) else (s.agc r).est.getD i (0, 0)) ∧
      KeepsRegs [Obj.agcState r] s t) := by
  have hself : ((s.setAgc r { (s.agc r).learn with found := 0 }).wrN (Obj.agcState r) 2).agc r = { (s.agc r).learn with found := 0 } :=
    tget_tset_self _ _ _ _
  refine .intro (if_pos ⟨h, hn⟩) ⟨rfl, State.wrN_rdN_self .., ?_, fun i hi => ?_, fun k hk => ?_⟩
  · rw [hself]
  · dsimp only
    rw [hself]
    obtain rfl | rfl | rfl | rfl : i = 0 ∨ i = 1 ∨ i = 2 ∨ i = 3 := by omega
    all_goals rfl
  · exact State.wrN_rd_ne (s.setAgc r _) _ _ _ fun hc => hk (hc ▸ List.mem_singleton_self _)

theorem digitalGain_ne {r i : Nat} (hi : i < 4) : Obj.digitalGain r i ≠ Obj.agcState r ∧ Obj.digitalGain r i ≠ Obj.freezes r := by
  simp only [Obj.digitalGain, Obj.agcState, Obj.freezes, objKey]
  omega

/-- The four digital gains start at 0 (R125). -/
def State.driftStart (s : State) (r : Nat) : State :=
  (((s.wr (Obj.digitalGain r 0) 0).wr (Obj.digitalGain r 1) 0).wr (Obj.digitalGain r 2) 0).wr (Obj.digitalGain r 3) 0

theorem State.driftStart_rd (s : State) {r k : Nat} (hk : ∀ i, i < 4 → k ≠ Obj.digitalGain r i) : (s.driftStart r).rd k = s.rd k := by
  unfold State.driftStart
  rw [State.wr_rd_ne (h := hk 3 (by decide)), State.wr_rd_ne (h := hk 2 (by decide)), State.wr_rd_ne (h := hk 1 (by decide)),
    State.wr_rd_ne (h := hk 0 (by decide))]

theorem State.driftStart_regsOnly (s : State) (r : Nat) : RegsOnly s (s.driftStart r) :=
  (((RegsOnly.refl.wr _ _).wr _ _).wr _ _).wr _ _

theorem State.driftStart_zero (s : State) {r i : Nat} (hi : i < 4) : (s.driftStart r).rd (Obj.digitalGain r i) = 0 := by
  have hne {i j : Nat} (h : i ≠ j) : Obj.digitalGain r i ≠ Obj.digitalGain r j := by
    simp only [Obj.digitalGain, objKey]
    omega
  unfold State.driftStart
  obtain rfl | rfl | rfl | rfl : i = 0 ∨ i = 1 ∨ i = 2 ∨ i = 3 := by omega
  all_goals simp [State.wr_rd_ne, hne]

/-- The gain control's record as a freeze leaves it. -/
def Agc.freeze (a : Agc) (codes : List Nat) : Agc :=
  { a with frozen := codes, missed := 0, found := 0, drift := [0, 0, 0, 0], driftRaised := [] }

theorem State.agcFreezeOp_spec (s : State) (r : Nat) : ∃ x, s.agcFreezeOp r =
      { s with regs := x, conv := { s.conv with agc := tset (fun _ => {}) s.conv.agc r ((s.agc r).freeze (s.gainCodes r)) }
               core := { s.core with inFlight := s.core.inFlight ++
                 [⟨0x4030, 0x2020 + 0x200 * r, s.core.tick - (s.agc r).since, s.core.tick, s.life⟩] } } ∧
    (s.agcFreezeOp r).agcState r = 3 ∧ (∀ i, i < 4 → (s.agcFreezeOp r).rd (Obj.digitalGain r i) = 0) ∧
    (s.agcFreezeOp r).rdN (Obj.freezes r) = (s.rdN (Obj.freezes r) + 1) % 2 ^ 64 ∧
    KeepsRegs [Obj.agcState r, Obj.freezes r, Obj.digitalGain r 0, Obj.digitalGain r 1, Obj.digitalGain r 2, Obj.digitalGain r 3] s
      (s.agcFreezeOp r) := by
  have hop : s.agcFreezeOp r = ((((s.setAgc r ((s.agc r).freeze (s.gainCodes r))).driftStart r).wrN (Obj.agcState r) 3).inc
    (Obj.freezes r)).raise 0x4030 (0x2020 + 0x200 * r) (s.core.tick - (s.agc r).since) := rfl
  have hne : Obj.agcState r ≠ Obj.freezes r := by simp only [Obj.agcState, Obj.freezes, objKey]; omega
  have hkey (k : Nat) (h : k ≠ Obj.freezes r) : (s.agcFreezeOp r).rd k =
      (((s.setAgc r ((s.agc r).freeze (s.gainCodes r))).driftStart r).wrN (Obj.agcState r) 3).rd k := by
    rw [hop, State.raise_rd, State.inc, State.incBy, State.wrN_rd_ne (h := h)]
  have hdrift (k : Nat) (h : k ≠ Obj.freezes r) (h' : k ≠ Obj.agcState r) : (s.agcFreezeOp r).rd k =
      ((s.setAgc r ((s.agc r).freeze (s.gainCodes r))).driftStart r).rd k := by
    rw [hkey k h, State.wrN_rd_ne (h := h')]
  have hshape : ∃ x, s.agcFreezeOp r = { s with
      regs := x, conv := { s.conv with agc := tset (fun _ => {}) s.conv.agc r ((s.agc r).freeze (s.gainCodes r)) }
      core := { s.core with inFlight := s.core.inFlight ++
        [⟨0x4030, 0x2020 + 0x200 * r, s.core.tick - (s.agc r).since, s.core.tick, s.life⟩] } } := by
    rw [hop]
    obtain ⟨x, hx⟩ := (s.setAgc r ((s.agc r).freeze (s.gainCodes r))).driftStart_regsOnly r
    rw [hx]
    exact ⟨_, rfl⟩
  obtain ⟨x, hx⟩ := hshape
  refine ⟨x, hx, ?_, fun i hi => ?_, ?_, fun k hk => ?_⟩
  · unfold State.agcState State.rdN
    rw [hkey _ hne, State.wrN_rd_self]
    rfl
  · rw [hdrift _ (digitalGain_ne hi).2 (digitalGain_ne hi).1, State.driftStart_zero _ hi]
  · rw [hop, State.raise_rdN, State.inc_rdN_self, State.wrN_rdN_ne (h := hne.symm)]
    unfold State.rdN
    rw [State.driftStart_rd _ fun i hi => (digitalGain_ne hi).2.symm] <;> rfl
  · simp only [List.mem_cons, List.not_mem_nil, or_false, not_or] at hk
    obtain ⟨h1, h2, h3, h4, h5, h6⟩ := hk
    rw [hdrift k h2 h1, State.driftStart_rd _ fun i hi => ?_]
    · rfl
    · obtain rfl | rfl | rfl | rfl : i = 0 ∨ i = 1 ∨ i = 2 ∨ i = 3 := by omega
      · exact h3
      · exact h4
      · exact h5
      · exact h6

/-- A freeze of a unit's working reach keeps its codes as the seed of the path in use (R303). -/
def State.seedPath (r : Nat) (s : State) (u : Nat) : State :=
  if s.uMode u = 1 ∧ s.rdN (Obj.workingReach u) = r then
    s.wrN (if s.rdN (Obj.pathInUse u) = 0 then Obj.agcSeedPath0 u else Obj.agcSeedPath1 u)
      (beNat ((s.gainCodes r).flatMap (beBytes 2)))
  else s

theorem agcFreeze_eq {r : Fin 4} (h : s.agcState r = 2) (hf : 2 ≤ (s.agc r).found) :
    exec (.agcFreeze r) s = .next ((s.agcFreezeOp r).each (List.range 4) (State.seedPath r)) := if_pos ⟨h, hf⟩

theorem State.seedPath_of_not {r u : Nat} (h : ¬ (s.uMode u = 1 ∧ s.rdN (Obj.workingReach u) = r)) : s.seedPath r u = s := if_neg h

theorem KeepsRegs.rdN {ks : List Nat} {t : State} (h : KeepsRegs ks s t) {k : Nat} (hk : k ∉ ks) : t.rdN k = s.rdN k := by
  unfold State.rdN
  rw [h k hk]

theorem freezeKeys_outside {r k : Nat} (h : k / 256 ≠ 0x2020 + 0x200 * r) : k ∉ [Obj.agcState r, Obj.freezes r, Obj.digitalGain r 0,
    Obj.digitalGain r 1, Obj.digitalGain r 2, Obj.digitalGain r 3] := by
  simp only [List.mem_cons, List.not_mem_nil, or_false, Obj.agcState, Obj.freezes, Obj.digitalGain, objKey]
  omega

theorem unitKeys_div {u : Nat} : Obj.unitMode u / 256 = 0x3590 + u ∧ Obj.workingReach u / 256 = 0x3590 + u ∧
    Obj.pathInUse u / 256 = 0x3590 + u := by
  simp only [Obj.unitMode, Obj.workingReach, Obj.pathInUse, objKey]
  omega

theorem agcFreeze_freezes (r : Fin 4) (h : s.agcState r = 2) (hf : 2 ≤ (s.agc r).found)
    (hu : ∀ u, u < 4 → s.uMode u = 1 → s.rdN (Obj.workingReach u) ≠ r.val) :
    Completes (.agcFreeze r) s (fun t =>
      t.agcState r = 3 ∧ (t.agc r).frozen = s.gainCodes r ∧ (∀ i, i < 4 → t.rd (Obj.digitalGain r i) = 0) ∧
      t.rdN (Obj.freezes r) = (s.rdN (Obj.freezes r) + 1) % 2 ^ 64 ∧
      t = { s with regs := t.regs, conv := { s.conv with agc := t.conv.agc }
                   core := { s.core with inFlight := s.core.inFlight ++
                     [⟨0x4030, 0x2020 + 0x200 * r.val, s.core.tick - (s.agc r).since, s.core.tick, s.life⟩] } } ∧
      KeepsRegs [Obj.agcState r, Obj.freezes r, Obj.digitalGain r 0, Obj.digitalGain r 1, Obj.digitalGain r 2,
        Obj.digitalGain r 3] s t) := by
  have hexec := agcFreeze_eq h hf
  obtain ⟨x, heq, hstate, hdrift, hcount, hkeep⟩ := s.agcFreezeOp_spec r
  generalize s.agcFreezeOp r = v at *
  have hnone (u : Nat) (hlt : u < 4) : v.seedPath r u = v := by
    refine State.seedPath_of_not fun hc => hu u hlt ?_ ?_
    · exact (hkeep.rdN (freezeKeys_outside (by rw [unitKeys_div.1]; omega))).symm.trans hc.1
    · exact (hkeep.rdN (freezeKeys_outside (by rw [unitKeys_div.2.1]; omega))).symm.trans hc.2
  have heach : v.each (List.range 4) (State.seedPath r) = v := by
    show (((v.seedPath r 0).seedPath r 1).seedPath r 2).seedPath r 3 = v
    rw [hnone 0 (by decide), hnone 1 (by decide), hnone 2 (by decide), hnone 3 (by decide)]
  rw [heach] at hexec
  refine .intro hexec ⟨hstate, ?_, hdrift, hcount, ?_, hkeep⟩
  · rw [heq]
    exact congrArg Agc.frozen (tget_tset_self _ _ _ _)
  · rw [heq]

/-- The key of the seed of the path a unit uses. -/
def State.seedKey (s : State) (u : Nat) : Nat := if s.rdN (Obj.pathInUse u) = 0 then Obj.agcSeedPath0 u else Obj.agcSeedPath1 u

theorem State.seedKey_div (s : State) (u : Nat) : s.seedKey u = objKey (0x3590 + u) 19 ∨ s.seedKey u = objKey (0x3590 + u) 20 := by
  unfold State.seedKey
  split
  · exact .inl rfl
  · exact .inr rfl

/-- Outside the units' seeds a freeze's seeding changes nothing. -/
theorem State.seedPath_rd {r u k : Nat} (hk : k ≠ objKey (0x3590 + u) 19 ∧ k ≠ objKey (0x3590 + u) 20) :
    (s.seedPath r u).rd k = s.rd k := by
  have hkey : k ≠ s.seedKey u := by
    rcases s.seedKey_div u with h | h
    · rw [h]
      exact hk.1
    · rw [h]
      exact hk.2
  unfold State.seedPath
  split
  · exact State.wrN_rd_ne (h := hkey) ..
  · rfl

theorem State.seedPath_seeds {r u : Nat} (hm : s.uMode u = 1) (hw : s.rdN (Obj.workingReach u) = r) :
    (s.seedPath r u).rdN (s.seedKey u) = beNat ((s.gainCodes r).flatMap (beBytes 2)) := by
  unfold State.seedPath
  rw [if_pos ⟨hm, hw⟩]
  exact State.wrN_rdN_self ..

/-- The registers that decide a unit's seed are no seeds. -/
theorem State.seedPath_inputs {r : Nat} (u w : Nat) : (s.seedPath r u).uMode w = s.uMode w ∧
    (s.seedPath r u).rdN (Obj.workingReach w) = s.rdN (Obj.workingReach w) ∧ (s.seedPath r u).seedKey w = s.seedKey w := by
  have hp : (s.seedPath r u).rdN (Obj.pathInUse w) = s.rdN (Obj.pathInUse w) := by
    unfold State.rdN
    rw [State.seedPath_rd (by simp only [Obj.pathInUse, objKey]; omega)]
  unfold State.uMode State.seedKey
  rw [hp]
  unfold State.rdN
  rw [State.seedPath_rd (by simp only [Obj.unitMode, objKey]; omega), State.seedPath_rd (by simp only [Obj.workingReach, objKey]; omega)]
  exact ⟨rfl, rfl, rfl⟩

theorem State.seedPath_gainCodes {r u : Nat} (hr : r < 4) : (s.seedPath r u).gainCodes r = s.gainCodes r := by
  have hcode (i : Nat) (hi : i < 4) : (s.seedPath r u).rdN (Obj.gainCode r i) = s.rdN (Obj.gainCode r i) := by
    unfold State.rdN
    rw [State.seedPath_rd (by simp only [Obj.gainCode, objKey]; omega)]
  simp only [gainCodes_eq, hcode, Nat.lt_add_one, Nat.reduceLT]

theorem State.each_seedPath_others (l : List Nat) {r u : Nat} (t s : State) (h : u ∉ l) :
    (t.each l (State.seedPath r)).rdN (s.seedKey u) = t.rdN (s.seedKey u) := by
  induction l generalizing t with
  | nil => rfl
  | cons v l ih =>
    rw [State.each_cons, ih _ fun hc => h (List.mem_cons_of_mem _ hc)]
    have hne : u ≠ v := fun hc => h (hc ▸ List.mem_cons_self)
    unfold State.rdN
    rw [State.seedPath_rd]
    rcases s.seedKey_div u with h' | h'
    · rw [h']
      simp only [objKey]
      omega
    · rw [h']
      simp only [objKey]
      omega

/-- Seeding all units leaves each one that works on the reach its seed, whatever the others' do. -/
theorem State.each_seedPath (l : List Nat) {r u : Nat} (hr : r < 4) (hu : u ∈ l) (hm : s.uMode u = 1)
    (hw : s.rdN (Obj.workingReach u) = r) :
    (s.each l (State.seedPath r)).rdN (s.seedKey u) = beNat ((s.gainCodes r).flatMap (beBytes 2)) := by
  induction l generalizing s with
  | nil => exact absurd hu List.not_mem_nil
  | cons w l ih =>
    rw [State.each_cons]
    obtain ⟨hmode, hreach, hkey⟩ := State.seedPath_inputs (s := s) (r := r) w u
    by_cases hl : u ∈ l
    · rw [← hkey, ih hl (hmode.trans hm) (hreach.trans hw), State.seedPath_gainCodes hr]
    · obtain rfl := (List.mem_cons.1 hu).resolve_right hl
      rw [State.each_seedPath_others l _ s hl, State.seedPath_seeds hm hw]

theorem agcFreeze_seeds (r u : Fin 4) (h : s.agcState r = 2) (hf : 2 ≤ (s.agc r).found) (hm : s.uMode u = 1)
    (hw : s.rdN (Obj.workingReach u) = r.val) :
    Completes (.agcFreeze r) s (fun t => t.agcState r = 3 ∧
      t.rdN (if s.rdN (Obj.pathInUse u) = 0 then Obj.agcSeedPath0 u else Obj.agcSeedPath1 u) =
        beNat ((s.gainCodes r).flatMap (beBytes 2))) := by
  have hexec := agcFreeze_eq h hf
  obtain ⟨x, -, hstate, -, -, hkeep⟩ := s.agcFreezeOp_spec r
  generalize s.agcFreezeOp r = v at *
  have hunit (k : Nat) (hk : k / 256 = 0x3590 + u.val) : v.rdN k = s.rdN k := hkeep.rdN (freezeKeys_outside (by omega))
  have hcodes : v.gainCodes r = s.gainCodes r := by
    have hcode (i : Nat) (hi : i < 4) : v.rdN (Obj.gainCode r i) = s.rdN (Obj.gainCode r i) := hkeep.rdN (by
      simp only [List.mem_cons, List.not_mem_nil, or_false, Obj.agcState, Obj.freezes, Obj.digitalGain, Obj.gainCode, objKey]
      omega)
    simp only [gainCodes_eq, hcode, Nat.lt_add_one, Nat.reduceLT]
  have hkey : v.seedKey u = s.seedKey u := by
    unfold State.seedKey
    rw [hunit _ unitKeys_div.2.2]
  refine .intro hexec ⟨?_, ?_⟩
  · refine (State.each_keeps v (fun t => t.agcState r) _ _ fun t w => ?_).trans hstate
    unfold State.agcState State.rdN
    rw [State.seedPath_rd (by simp only [Obj.agcState, objKey]; omega)]
  · show (v.each _ _).rdN (s.seedKey u) = _
    rw [← hkey, State.each_seedPath _ r.isLt (List.mem_range.2 u.isLt) ((hunit _ unitKeys_div.1).trans hm)
      ((hunit _ unitKeys_div.2.1).trans hw), hcodes]

/-- A re-arm with no seed: it is counted and announced, and the reach's watch is suppressed (R128, R193). -/
def State.rearmed (s : State) (r : Nat) : State :=
  ((s.inc (Obj.rearms r)).raise 0x4031 (0x2020 + 0x200 * r) 0).watchSuppress r

theorem State.watchSuppress_spec (s : State) (r : Nat) : ∃ x e, s.watchSuppress r = { s with regs := x, eq := e } ∧
    KeepsRegs [Obj.watchState r, Obj.watchScore r] s (s.watchSuppress r) := by
  unfold State.watchSuppress
  dsimp only
  have hsent : ∃ e, (if s.rdN (Obj.watchState r) = 3 then { s with eq.disarm := s.eq.disarm ++ [r] } else s) = { s with eq := e } := by
    split
    · exact ⟨_, rfl⟩
    · exact ⟨_, rfl⟩
  obtain ⟨e, he⟩ := hsent
  rw [he]
  refine ⟨_, _, rfl, fun k hk => ?_⟩
  simp only [List.mem_cons, List.not_mem_nil, or_false, not_or] at hk
  rw [State.wrN_rd_ne (h := hk.2), State.wrN_rd_ne (h := hk.1)]
  rfl

theorem State.rearmed_spec (s : State) (r : Nat) : ∃ x e, s.rearmed r = { s with
      regs := x, eq := e
      core := { s.core with inFlight := s.core.inFlight ++ [⟨0x4031, 0x2020 + 0x200 * r, 0, s.core.tick, s.life⟩] } } ∧
    (s.rearmed r).rdN (Obj.rearms r) = (s.rdN (Obj.rearms r) + 1) % 2 ^ 64 ∧
    KeepsRegs [Obj.rearms r, Obj.watchState r, Obj.watchScore r] s (s.rearmed r) := by
  have hne : Obj.rearms r ∉ [Obj.watchState r, Obj.watchScore r] := by
    simp only [List.mem_cons, List.not_mem_nil, or_false, Obj.rearms, Obj.watchState, Obj.watchScore, objKey]
    omega
  unfold State.rearmed
  obtain ⟨x, e, heq, hkeep⟩ := ((s.inc (Obj.rearms r)).raise 0x4031 (0x2020 + 0x200 * r) 0).watchSuppress_spec r
  refine ⟨x, e, heq, ?_, fun k hk => ?_⟩
  · rw [hkeep.rdN hne, State.raise_rdN, State.inc_rdN_self]
  · rw [List.mem_cons, not_or] at hk
    rw [hkeep k hk.2, State.raise_rd, State.inc, State.incBy, State.wrN_rd_ne (h := hk.1)]

theorem State.agcToSlew_spec (s : State) (r : Nat) : (s.agcToSlew r).agcState r = 1 ∧ ((s.agcToSlew r).agc r).since = (s.agc r).since ∧
    ((s.agcToSlew r).agc r).missed = 0 ∧ ((s.agcToSlew r).agc r).lossRearm = false ∧ (s.agcToSlew r).core = s.core ∧
    KeepsRegs [Obj.agcState r] s (s.agcToSlew r) := by
  have hself : (s.agcToSlew r).agc r = { (s.agc r).learn with
      inRange := 0, found := 0, missed := 0, lossRearm := false, noDecision := 0, slewTick := true, lastErr := [], lastCodes := [] } :=
    State.setAgc_agc ..
  rw [hself]
  refine ⟨State.wrN_rdN_self .., rfl, rfl, rfl, rfl, fun k hk => ?_⟩
  exact State.wrN_rd_ne (s.setAgc r _) _ _ _ fun hc => hk (hc ▸ List.mem_singleton_self _)

theorem agcLossStep_rearms (r : Nat) (h : s.agcState r = 3) (hl : (s.agc r).lossRearm = true) :
    (s.agcLossStep r).agcState r = 1 ∧ (s.agcLossStep r).gainCodes r = s.gainCodes r ∧
    ((s.agcLossStep r).agc r).since = s.core.tick ∧ ((s.agcLossStep r).agc r).missed = 0 ∧
    ((s.agcLossStep r).agc r).lossRearm = false ∧ (s.agcLossStep r).rdN (Obj.rearms r) = (s.rdN (Obj.rearms r) + 1) % 2 ^ 64 ∧
    (s.agcLossStep r).core.inFlight = s.core.inFlight ++ [⟨0x4031, 0x2020 + 0x200 * r, 0, s.core.tick, s.life⟩] ∧
    KeepsRegs [Obj.agcState r, Obj.rearms r, Obj.watchState r, Obj.watchScore r] s (s.agcLossStep r) := by
  have hstep : s.agcLossStep r = s.agcRearmOp r none 0 := by
    unfold State.agcLossStep
    rw [h, hl]
    rfl
  obtain ⟨x, e, heq, hcount, hkeep⟩ := s.rearmed_spec r
  have hstate : (s.rearmed r).agcState r = 3 := by
    rw [← h]
    exact hkeep.rdN (by
      simp only [List.mem_cons, List.not_mem_nil, or_false, Obj.agcState, Obj.rearms, Obj.watchState, Obj.watchScore, objKey]
      omega)
  have hop : s.agcRearmOp r none 0 = ((s.rearmed r).setAgc r { (s.rearmed r).agc r with since := (s.rearmed r).core.tick }).agcToSlew r := by
    refine if_neg ?_
    show ¬ (s.rearmed r).agcState r = 0
    omega
  rw [hstep, hop]
  have htick : (s.rearmed r).core.tick = s.core.tick := by rw [heq]
  have hflight : (s.rearmed r).core.inFlight = s.core.inFlight ++ [⟨0x4031, 0x2020 + 0x200 * r, 0, s.core.tick, s.life⟩] := by rw [heq]
  clear heq
  generalize s.rearmed r = v at *
  have hsince : ((v.setAgc r { v.agc r with since := v.core.tick }).agc r).since = v.core.tick :=
    congrArg Agc.since (tget_tset_self _ _ _ _)
  obtain ⟨hslew, hsince', hmissed, hloss, hcore, hkeep'⟩ := (v.setAgc r { v.agc r with since := v.core.tick }).agcToSlew_spec r
  have hrd (k : Nat) : (v.setAgc r { v.agc r with since := v.core.tick }).rd k = v.rd k := rfl
  have hsame : (v.setAgc r { v.agc r with since := v.core.tick }).core = v.core := rfl
  generalize State.setAgc _ _ _ = w at *
  have hkept : KeepsRegs [Obj.agcState r, Obj.rearms r, Obj.watchState r, Obj.watchScore r] s (w.agcToSlew r) := fun k hk => by
    simp only [List.mem_cons, List.not_mem_nil, or_false, not_or] at hk
    rw [hkeep' k (by simp [hk]), hrd, hkeep k (by simp [hk])]
  have hcodes (i : Nat) (hi : i < 4) : (w.agcToSlew r).rdN (Obj.gainCode r i) = s.rdN (Obj.gainCode r i) := hkept.rdN (by
    simp only [List.mem_cons, List.not_mem_nil, or_false, Obj.agcState, Obj.rearms, Obj.watchState, Obj.watchScore, Obj.gainCode, objKey]
    omega)
  refine ⟨hslew, ?_, hsince'.trans (hsince.trans htick), hmissed, hloss, ?_, ?_, hkept⟩
  · simp only [gainCodes_eq, hcodes, Nat.lt_add_one, Nat.reduceLT, Nat.zero_lt_succ, Nat.one_lt_ofNat]
  · rw [← hcount, hkeep'.rdN (by simp only [List.mem_singleton, Obj.agcState, Obj.rearms, objKey]; omega)]
    unfold State.rdN
    rw [hrd]
  · rw [hcore, hsame, hflight]

/-- Settles O10. -/
theorem agcSlewsSettlesFreezesAndRearms : Obligations.AgcSlewsSettlesFreezesAndRearms := by
  unfold Obligations.AgcSlewsSettlesFreezesAndRearms
  refine ⟨fun s r errs h hlen hr => if_pos (.inr (.inr ⟨rfl, hr⟩)), fun _ r errs light h hlen hl => agcSlewUpdate_moves r errs light h hlen hl,
    fun _ r h hn => agcSettleEntry_settles r h hn, fun _ r h hf hu => agcFreeze_freezes r h hf hu,
    fun _ r u h hf hm hw => agcFreeze_seeds r u h hf hm hw, fun s r h hm => .intro (if_pos ⟨h, hm⟩) rfl,
    fun _ r h hl => agcLossStep_rearms r h hl⟩

end

section
variable {s : State}

theorem State.mem_lanesUp {l : Nat} : l ∈ s.lanesUp ↔ l < 8 ∧ s.laneState l = 3 := by
  unfold State.lanesUp
  rw [mem_upto, beq_iff_eq]

/-- A lane put into a state: LANE_STATE and LANES_IN_SERVICE alone change. -/
theorem State.laneTo_spec (s : State) {l : Nat} (hl : l < 8) (st : Nat) : RegsOnly s (s.laneTo l st) ∧ (s.laneTo l st).laneState l = st ∧
    KeepsRegs [Obj.tpLaneState l, Obj.lanesInService] s (s.laneTo l st) := by
  refine ⟨(RegsOnly.refl.wrN _ _).wrN _ _, ?_, fun k hk => ?_⟩
  · unfold State.laneState State.laneTo
    rw [State.wrN_rdN_ne (h := by simp only [Obj.tpLaneState, Obj.lanesInService, objKey]; omega), State.wrN_rdN_self]
  · simp only [List.mem_cons, List.not_mem_nil, or_false, not_or] at hk
    unfold State.laneTo
    rw [State.wrN_rd_ne (h := hk.2), State.wrN_rd_ne (h := hk.1)]

theorem State.setLane_lane_self (s : State) (l : Nat) (x : LaneSt) : (s.setLane l x).lane l = x := tget_tset_self _ _ _ _

/-- A lane enters training at a rate, from a tick on (R378). -/
theorem State.train_spec (s : State) {l : Nat} (hl : l < 8) (rate start : Nat) : ∃ x y, s.train l rate start =
      { s with regs := x, towpath := y } ∧ (s.train l rate start).laneState l = 2 ∧
    (s.train l rate start).lane l = { s.lane l with training := rate, trainAt := start, rx := {} } ∧
    (∀ k, k ≠ l → (s.train l rate start).lane k = s.lane k) ∧ KeepsRegs [Obj.tpLaneState l, Obj.lanesInService] s (s.train l rate start) := by
  unfold State.train
  have hself := s.setLane_lane_self l { s.lane l with training := rate, trainAt := start, rx := {} }
  have hother (k : Nat) (hk : k ≠ l) := s.setLane_other (x := { s.lane l with training := rate, trainAt := start, rx := {} }) hk
  have hrd (k : Nat) : (s.setLane l { s.lane l with training := rate, trainAt := start, rx := {} }).rd k = s.rd k := rfl
  have hshape : ∃ y, s.setLane l { s.lane l with training := rate, trainAt := start, rx := {} } = { s with towpath := y } := ⟨_, rfl⟩
  generalize State.setLane _ _ _ = v at *
  obtain ⟨⟨x, hx⟩, hstate, hkeep⟩ := v.laneTo_spec hl 2
  obtain ⟨y, hy⟩ := hshape
  refine ⟨x, y, by rw [hx, hy], hstate, ?_, fun k hk => ?_, fun k hk => (hkeep k hk).trans (hrd k)⟩
  · rw [hx, ← hself]
    rfl
  · rw [hx, ← hother k hk]
    rfl

/-- A lane enters service: it is announced with its rate, and free from now on (R379, R383). -/
theorem State.laneUp_spec (s : State) {l : Nat} (hl : l < 8) : ∃ x y, s.laneUp l = { s with
      regs := x, towpath := y
      core := { s.core with inFlight := s.core.inFlight ++ [⟨0x40D0, 0x4110 + l, s.rdN (Obj.laneRate l), s.core.tick, s.life⟩] } } ∧
    (s.laneUp l).laneState l = 3 ∧ l ∈ (s.laneUp l).lanesUp ∧ (s.laneUp l).lane l = { s.lane l with freeAt := 12500 * s.core.tick } ∧
    KeepsRegs [Obj.tpLaneState l, Obj.lanesInService] s (s.laneUp l) := by
  have hup : s.laneUp l = ((s.setLane l { s.lane l with freeAt := 12500 * s.core.tick }).laneTo l 3).raise 0x40D0 (0x4110 + l)
    (s.rdN (Obj.laneRate l)) := rfl
  rw [hup]
  have hself := s.setLane_lane_self l { s.lane l with freeAt := 12500 * s.core.tick }
  have hrd (k : Nat) : (s.setLane l { s.lane l with freeAt := 12500 * s.core.tick }).rd k = s.rd k := rfl
  have hshape : ∃ y, s.setLane l { s.lane l with freeAt := 12500 * s.core.tick } = { s with towpath := y } := ⟨_, rfl⟩
  generalize State.setLane _ _ _ = v at *
  obtain ⟨⟨x, hx⟩, hstate, hkeep⟩ := v.laneTo_spec hl 3
  obtain ⟨y, hy⟩ := hshape
  have hraised : ((v.laneTo l 3).raise 0x40D0 (0x4110 + l) (s.rdN (Obj.laneRate l))).laneState l = 3 := hstate
  refine ⟨x, y, ?_, hraised, State.mem_lanesUp.2 ⟨hl, hraised⟩, ?_, fun k hk => (hkeep k hk).trans (hrd k)⟩
  · rw [hx, hy]
    rfl
  · rw [hx, ← hself]
    rfl

theorem laneRate_ne {l : Nat} : Obj.laneRate l ∉ [Obj.tpLaneState l, Obj.lanesInService] := by
  simp only [List.mem_cons, List.not_mem_nil, or_false, Obj.laneRate, Obj.tpLaneState, Obj.lanesInService, objKey]
  omega

theorem laneSignalDetect_up (l : Fin 8) (h : s.laneState l = 0) (hp : s.hubPowered = true) (hb : s.rdN (Obj.loopback l) = 0) :
    Completes (.laneSignalDetect l) s (fun t => t.laneState l = 1 ∧ t.rdN (Obj.laneRate l) = 0 ∧ t.towpath = s.towpath ∧
      t.core = s.core ∧ KeepsRegs [Obj.tpLaneState l, Obj.laneRate l, Obj.lanesInService] s t) := by
  have hexec : exec (.laneSignalDetect l) s = .next ((s.laneTo l 1).wrN (Obj.laneRate l) 0) := if_pos ⟨h, hp, hb⟩
  obtain ⟨⟨x, hx⟩, hstate, hkeep⟩ := s.laneTo_spec l.isLt 1
  generalize s.laneTo l 1 = v at *
  refine .intro hexec ⟨?_, State.wrN_rdN_self .., ?_, ?_, fun k hk => ?_⟩
  · rw [← hstate]
    exact State.wrN_rdN_ne v _ _ _ fun hc => laneRate_ne (l := l) (by rw [← hc]; exact List.mem_cons_self)
  · rw [hx]
    rfl
  · rw [hx]
    rfl
  · simp only [List.mem_cons, List.not_mem_nil, or_false, not_or] at hk
    rw [State.wrN_rd_ne (h := hk.2.1), hkeep k (by simp [hk])]

/-- CAP sent: the disparity of the lane's next word may be left to the model's choice. -/
theorem State.capSent_spec (s : State) (l : Nat) : ∃ n y, s.capSent l = { s with core.freeCtr := n, towpath := y } ∧
    (∃ p, (s.capSent l).lane l = { s.lane l with positive := p } ∧ ((codeGroups false (setCap (s.rdN Obj.maxRate) l)).2 = false →
      p = (s.lane l).positive ∧ (s.capSent l).core = s.core)) ∧ (∀ k, k ≠ l → (s.capSent l).lane k = s.lane k) := by
  unfold State.capSent State.draw
  split
  · next h => exact ⟨_, _, rfl, ⟨_, State.setLane_lane_self .., fun hf => absurd (h.symm.trans hf) Bool.noConfusion⟩,
      fun k hk => State.setLane_other _ _ hk⟩
  · exact ⟨_, _, rfl, ⟨_, rfl, fun _ => ⟨rfl, rfl⟩⟩, fun _ _ => rfl⟩

/-- A CAP that names its own lane: the target is the lower rate of both ends (R378). -/
def State.capTaken (s : State) (l c1 : Nat) : State :=
  (s.capSent l).setLane l { (s.capSent l).lane l with target := min (c1 % 4) (s.rdN Obj.maxRate), fails := 0, fellBack := false }

theorem State.capTaken_spec (s : State) (l c1 : Nat) : ∃ n y, s.capTaken l c1 = { s with core.freeCtr := n, towpath := y } ∧
    (∃ p, (s.capTaken l c1).lane l =
        { s.lane l with target := min (c1 % 4) (s.rdN Obj.maxRate), fails := 0, fellBack := false, positive := p } ∧
      ((codeGroups false (setCap (s.rdN Obj.maxRate) l)).2 = false → p = (s.lane l).positive ∧ (s.capTaken l c1).core = s.core)) ∧
    (∀ k, k ≠ l → (s.capTaken l c1).lane k = s.lane k) := by
  unfold State.capTaken
  obtain ⟨n, y, heq, ⟨p, hp, hfree⟩, hother⟩ := s.capSent_spec l
  generalize s.capSent l = v at *
  refine ⟨n, _, by rw [heq]; rfl, ⟨p, ?_, hfree⟩, fun k hk => (State.setLane_other _ _ hk).trans (hother k hk)⟩
  rw [State.setLane_lane_self, hp]

theorem cap_trains (l : Fin 8) (c1 c2 : Byte) (h : s.laneState l = 1) (hc : c2.toNat = l.val) (h1 : 0 < c1.toNat % 4)
    (hm : 0 < s.rdN Obj.maxRate) :
    Completes (.cap l c1 c2) s (fun t => t.laneState l = 2 ∧
      (∃ p, t.lane l = { s.lane l with
          target := min (c1.toNat % 4) (s.rdN Obj.maxRate), fails := 0, fellBack := false, training := 1,
          trainAt := s.core.tick + 1, rx := {}, positive := p } ∧
        ((codeGroups false (setCap (s.rdN Obj.maxRate) l)).2 = false → p = (s.lane l).positive ∧ t.core = s.core)) ∧
      (∀ k, k ≠ l.val → t.lane k = s.lane k) ∧ KeepsRegs [Obj.tpLaneState l, Obj.lanesInService] s t ∧
      t.core.inFlight = s.core.inFlight ∧ t.core.tick = s.core.tick) := by
  have hexec : exec (.cap l c1 c2) s = .next (if min (c1.toNat % 4) (s.rdN Obj.maxRate) = 0 then (s.capTaken l c1.toNat).laneUp l else
      (s.capTaken l c1.toNat).train l 1 ((s.capTaken l c1.toNat).core.tick + 1)) := (if_pos h).trans (if_pos hc)
  rw [if_neg (by omega)] at hexec
  obtain ⟨n, y, heq, ⟨p, hp, hfree⟩, hother⟩ := s.capTaken_spec l c1.toNat
  have hrd (k : Nat) : (s.capTaken l c1.toNat).rd k = s.rd k := by rw [heq]; rfl
  have htick : (s.capTaken l c1.toNat).core.tick = s.core.tick ∧ (s.capTaken l c1.toNat).core.inFlight = s.core.inFlight := by
    rw [heq]
    exact ⟨rfl, rfl⟩
  clear heq
  generalize s.capTaken l c1.toNat = v at *
  obtain ⟨x, z, htrain, hstate, hlane, hrest, hkeep⟩ := v.train_spec l.isLt 1 (v.core.tick + 1)
  have hcore : (v.train l 1 (v.core.tick + 1)).core = v.core := by rw [htrain]
  generalize State.train _ _ _ _ = w at *
  refine .intro hexec ⟨hstate, ⟨p, ?_, fun hf => ⟨(hfree hf).1, hcore.trans (hfree hf).2⟩⟩,
    fun k hk => (hrest k hk).trans (hother k hk), fun k hk => (hkeep k hk).trans (hrd k), ?_, ?_⟩
  · rw [hlane, hp, htick.1]
  · rw [hcore, htick.2]
  · rw [hcore, htick.1]

theorem cap_entersService (l : Fin 8) (c1 c2 : Byte) (h : s.laneState l = 1) (hc : c2.toNat = l.val) (h1 : c1.toNat % 4 = 0) :
    Completes (.cap l c1 c2) s (fun t => t.laneState l = 3 ∧ l.val ∈ t.lanesUp ∧ (t.lane l).target = 0 ∧
      (t.lane l).freeAt = 12500 * s.core.tick ∧ t.core.inFlight = s.core.inFlight ++
        [⟨0x40D0, 0x4110 + l.val, s.rdN (Obj.laneRate l), s.core.tick, s.life⟩]) := by
  have hexec : exec (.cap l c1 c2) s = .next (if min (c1.toNat % 4) (s.rdN Obj.maxRate) = 0 then (s.capTaken l c1.toNat).laneUp l else
      (s.capTaken l c1.toNat).train l 1 ((s.capTaken l c1.toNat).core.tick + 1)) := (if_pos h).trans (if_pos hc)
  rw [if_pos (by omega)] at hexec
  obtain ⟨n, y, heq, ⟨p, hp, -⟩, -⟩ := s.capTaken_spec l c1.toNat
  obtain ⟨x, z, hup, hstate, hmem, hlane, -⟩ := (s.capTaken l c1.toNat).laneUp_spec l.isLt
  rw [hp] at hlane
  have hflight : ((s.capTaken l c1.toNat).laneUp l).core.inFlight = s.core.inFlight ++
      [⟨0x40D0, 0x4110 + l.val, s.rdN (Obj.laneRate l), s.core.tick, s.life⟩] := by
    rw [hup, heq]
    rfl
  have htick : (s.capTaken l c1.toNat).core.tick = s.core.tick := by rw [heq]
  refine .intro hexec ⟨hstate, hmem, ?_, ?_, hflight⟩
  · rw [hlane]
    exact Nat.min_eq_left (by omega) |>.trans h1
  · rw [hlane, htick]

theorem laneTrainingEnd_entersService (l : Fin 8) (h : s.laneState l = 2) (ht : (s.lane l).trainAt + s.rdN Obj.trainTicks ≤ s.core.tick)
    (hclean : (s.lane l).clean (s.rdN Obj.trainTicks) = true)
    (hend : (s.lane l).fellBack = true ∨ (s.lane l).target ≤ (s.lane l).training) :
    Completes (.laneTrainingEnd l true) s (fun t => t.laneState l = 3 ∧ t.rdN (Obj.laneRate l) = (s.lane l).training ∧
      t.lane l = { s.lane l with fails := 0, freeAt := 12500 * s.core.tick } ∧ l.val ∈ t.lanesUp ∧
      t.core = { s.core with inFlight := s.core.inFlight ++
        [⟨0x40D0, 0x4110 + l.val, (s.lane l).training, s.core.tick, s.life⟩] }) := by
  have hexec : exec (.laneTrainingEnd l true) s =
      .next (((s.setLane l { s.lane l with fails := 0 }).wrN (Obj.laneRate l) (s.lane l).training).laneUp l) :=
    (if_pos ⟨h, ht⟩).trans ((if_pos (by rw [hclean]; rfl)).trans (congrArg _ (if_pos hend)))
  have hlane : ((s.setLane l { s.lane l with fails := 0 }).wrN (Obj.laneRate l) (s.lane l).training).lane l = { s.lane l with fails := 0 } :=
    s.setLane_lane_self ..
  have hrate : ((s.setLane l { s.lane l with fails := 0 }).wrN (Obj.laneRate l) (s.lane l).training).rdN (Obj.laneRate l) =
    (s.lane l).training := State.wrN_rdN_self ..
  have hcore : ((s.setLane l { s.lane l with fails := 0 }).wrN (Obj.laneRate l) (s.lane l).training).core = s.core := rfl
  have hlife : ((s.setLane l { s.lane l with fails := 0 }).wrN (Obj.laneRate l) (s.lane l).training).life = s.life := rfl
  generalize State.wrN _ _ _ = v at *
  obtain ⟨x, z, hup, hstate, hmem, hlane', hkeep⟩ := v.laneUp_spec l.isLt
  refine .intro hexec ⟨hstate, ?_, ?_, hmem, ?_⟩
  · rw [hkeep.rdN laneRate_ne, hrate]
  · rw [hlane', hlane, hcore]
  · rw [hup, hcore, hlife, hrate]

theorem laneTrainingEnd_stepsUp (l : Fin 8) (h : s.laneState l = 2) (ht : (s.lane l).trainAt + s.rdN Obj.trainTicks ≤ s.core.tick)
    (hclean : (s.lane l).clean (s.rdN Obj.trainTicks) = true) (hf : (s.lane l).fellBack = false)
    (hend : (s.lane l).training < (s.lane l).target) :
    Completes (.laneTrainingEnd l true) s (fun t => t.laneState l = 2 ∧ t.rdN (Obj.laneRate l) = (s.lane l).training ∧
      t.lane l = { s.lane l with fails := 0, training := (s.lane l).training + 1, trainAt := s.core.tick, rx := {} } ∧
      t.core = s.core) := by
  have hexec : exec (.laneTrainingEnd l true) s =
      .next (((s.setLane l { s.lane l with fails := 0 }).wrN (Obj.laneRate l) (s.lane l).training).train l ((s.lane l).training + 1)
        s.core.tick) :=
    (if_pos ⟨h, ht⟩).trans ((if_pos (by rw [hclean]; rfl)).trans (congrArg _ (if_neg (by rw [hf]; simpa using hend))))
  have hlane : ((s.setLane l { s.lane l with fails := 0 }).wrN (Obj.laneRate l) (s.lane l).training).lane l = { s.lane l with fails := 0 } :=
    s.setLane_lane_self ..
  have hrate : ((s.setLane l { s.lane l with fails := 0 }).wrN (Obj.laneRate l) (s.lane l).training).rdN (Obj.laneRate l) =
    (s.lane l).training := State.wrN_rdN_self ..
  have hcore : ((s.setLane l { s.lane l with fails := 0 }).wrN (Obj.laneRate l) (s.lane l).training).core = s.core := rfl
  generalize State.wrN _ _ _ = v at *
  obtain ⟨x, z, htrain, hstate, hlane', hrest, hkeep⟩ := v.train_spec l.isLt ((s.lane l).training + 1) s.core.tick
  refine .intro hexec ⟨hstate, ?_, ?_, ?_⟩
  · rw [hkeep.rdN laneRate_ne, hrate]
  · rw [hlane', hlane]
  · rw [htrain]
    exact hcore

theorem notLockedAndClean {locked clean : Bool} (h : locked = false ∨ clean = false) : ¬ (locked && clean) = true := by
  rcases h with h | h
  · simp [h]
  · simp [h]

theorem laneTrainingEnd_repeats (l : Fin 8) (h : s.laneState l = 2) (ht : (s.lane l).trainAt + s.rdN Obj.trainTicks ≤ s.core.tick)
    (hn : (s.lane l).fails < 2) (locked : Bool) (hfail : locked = false ∨ (s.lane l).clean (s.rdN Obj.trainTicks) = false) :
    Completes (.laneTrainingEnd l locked) s (fun t => t.laneState l = 2 ∧
      t.lane l = { s.lane l with fails := (s.lane l).fails + 1, trainAt := s.core.tick, rx := {} } ∧ t.core = s.core ∧
      KeepsRegs [Obj.tpLaneState l, Obj.lanesInService] s t) := by
  have hexec : exec (.laneTrainingEnd l locked) s =
      .next ((s.setLane l { s.lane l with fails := (s.lane l).fails + 1 }).train l (s.lane l).training s.core.tick) :=
    (if_pos ⟨h, ht⟩).trans ((if_neg (notLockedAndClean hfail)).trans (if_pos (.inl (by omega))))
  have hlane := s.setLane_lane_self l { s.lane l with fails := (s.lane l).fails + 1 }
  have hcore : (s.setLane l { s.lane l with fails := (s.lane l).fails + 1 }).core = s.core := rfl
  have hrd (k : Nat) : (s.setLane l { s.lane l with fails := (s.lane l).fails + 1 }).rd k = s.rd k := rfl
  generalize State.setLane _ _ _ = v at *
  obtain ⟨x, z, htrain, hstate, hlane', hrest, hkeep⟩ := v.train_spec l.isLt (s.lane l).training s.core.tick
  refine .intro hexec ⟨hstate, ?_, ?_, fun k hk => (hkeep k hk).trans (hrd k)⟩
  · rw [hlane', hlane]
  · rw [htrain]
    exact hcore

theorem laneTrainingEnd_fallsBack (l : Fin 8) (h : s.laneState l = 2) (ht : (s.lane l).trainAt + s.rdN Obj.trainTicks ≤ s.core.tick)
    (hn : (s.lane l).fails = 2) (hr : 0 < (s.lane l).training) (locked : Bool)
    (hfail : locked = false ∨ (s.lane l).clean (s.rdN Obj.trainTicks) = false) :
    Completes (.laneTrainingEnd l locked) s (fun t => t.laneState l = 2 ∧
      t.lane l = { s.lane l with
        fails := 0, fellBack := true, training := (s.lane l).training - 1, trainAt := s.core.tick, rx := {} } ∧
      t.rdN (Obj.laneRate l) = (s.lane l).training - 1 ∧
      t.core = { s.core with inFlight := s.core.inFlight ++
        [⟨0x80D2, 0x4110 + l.val, (s.lane l).training - 1, s.core.tick, s.life⟩] }) := by
  have hexec : exec (.laneTrainingEnd l locked) s =
      .next ((((s.setLane l { s.lane l with fails := 0, fellBack := true }).wrN (Obj.laneRate l) ((s.lane l).training - 1)).raise 0x80D2
        (laneSource l) ((s.lane l).training - 1)).train l ((s.lane l).training - 1) s.core.tick) :=
    (if_pos ⟨h, ht⟩).trans ((if_neg (notLockedAndClean hfail)).trans (if_neg (by omega)))
  have hlane : (((s.setLane l { s.lane l with fails := 0, fellBack := true }).wrN (Obj.laneRate l) ((s.lane l).training - 1)).raise 0x80D2
    (laneSource l) ((s.lane l).training - 1)).lane l = _ := s.setLane_lane_self ..
  have hrate : (((s.setLane l { s.lane l with fails := 0, fellBack := true }).wrN (Obj.laneRate l) ((s.lane l).training - 1)).raise 0x80D2
    (laneSource l) ((s.lane l).training - 1)).rdN (Obj.laneRate l) = (s.lane l).training - 1 := State.wrN_rdN_self ..
  have hcore : (((s.setLane l { s.lane l with fails := 0, fellBack := true }).wrN (Obj.laneRate l) ((s.lane l).training - 1)).raise 0x80D2
    (laneSource l) ((s.lane l).training - 1)).core = { s.core with inFlight := s.core.inFlight ++
      [⟨0x80D2, 0x4110 + l.val, (s.lane l).training - 1, s.core.tick, s.life⟩] } := rfl
  generalize State.raise _ _ _ _ = v at *
  obtain ⟨x, z, htrain, hstate, hlane', hrest, hkeep⟩ := v.train_spec l.isLt ((s.lane l).training - 1) s.core.tick
  refine .intro hexec ⟨hstate, ?_, ?_, ?_⟩
  · rw [hlane', hlane]
  · rw [hkeep.rdN laneRate_ne, hrate]
  · rw [htrain]
    exact hcore

/-- A lane that goes DOWN with no message cut off: it is announced with its cause (R379). -/
theorem State.laneDrop_spec (s : State) {l : Nat} (hl : l < 8) (cause : Nat) (h : s.laneState l ≠ 0) :
    ∃ x y, s.laneDrop l cause false = { s with
      regs := x, towpath := y
      core := { s.core with inFlight := s.core.inFlight ++ [⟨0x80D1, 0x4110 + l, cause, s.core.tick, s.life⟩] } } ∧
    (s.laneDrop l cause false).laneState l = 0 ∧ ((s.laneDrop l cause false).lane l).training = 0 ∧
    (∀ k, k ≠ l → (s.laneDrop l cause false).lane k = s.lane k) ∧
    KeepsRegs [Obj.tpLaneState l, Obj.laneRate l, Obj.lanesInService] s (s.laneDrop l cause false) := by
  have hdrop : s.laneDrop l cause false = ((((s.setLane l { (s.lane l) with
      target := 0, training := 0, trainAt := 0, fails := 0, fellBack := false, queued := 0, rx := {} }).laneTo l 0).wrN
      (Obj.laneRate l) 0).raise 0x80D1 (0x4110 + l) cause) := if_neg h
  rw [hdrop]
  generalize hx : ({ (s.lane l) with target := 0, training := 0, trainAt := 0, fails := 0, fellBack := false, queued := 0, rx := {} } :
    LaneSt) = d
  have hself := s.setLane_lane_self l d
  have hother (k : Nat) (hk : k ≠ l) := s.setLane_other (x := d) hk
  have hrd (k : Nat) : (s.setLane l d).rd k = s.rd k := rfl
  have hshape : ∃ y, s.setLane l d = { s with towpath := y } := ⟨_, rfl⟩
  generalize s.setLane l d = v at *
  obtain ⟨⟨x, hx'⟩, hstate, hkeep⟩ := v.laneTo_spec hl 0
  obtain ⟨y, hy⟩ := hshape
  have htow : (v.laneTo l 0).towpath = v.towpath := by rw [hx']
  refine ⟨((v.laneTo l 0).wrN (Obj.laneRate l) 0).regs, y, ?_, ?_, ?_, fun k hk => ?_, fun k hk => ?_⟩
  · rw [hx', hy]
    rfl
  · exact (State.wrN_rdN_ne (v.laneTo l 0) _ _ _ fun hc => laneRate_ne (l := l)
      (by rw [← hc]; exact List.mem_cons_self)).trans hstate
  · show (tget (fun _ => {}) (v.laneTo l 0).towpath.lanes l).training = 0
    rw [htow]
    exact (congrArg LaneSt.training hself).trans (by rw [← hx])
  · show tget (fun _ => {}) (v.laneTo l 0).towpath.lanes k = _
    rw [htow]
    exact hother k hk
  · simp only [List.mem_cons, List.not_mem_nil, or_false, not_or] at hk
    rw [State.raise_rd, State.wrN_rd_ne (h := hk.2.1), hkeep k (by simp [hk]), hrd]

theorem laneDown_announces (l : Fin 8) (cause : Fin 3) (h : s.laneState l = 3) :
    Completes (.laneDown l cause false) s (fun t => t.laneState l = 0 ∧ l.val ∉ t.lanesUp ∧ (t.lane l).training = 0 ∧
      (∀ k, k ≠ l.val → t.lane k = s.lane k) ∧
      KeepsRegs [Obj.tpLaneState l, Obj.laneRate l, Obj.lanesInService] s t ∧
      t.core = { s.core with inFlight := s.core.inFlight ++ [⟨0x80D1, 0x4110 + l.val, cause.val, s.core.tick, s.life⟩] }) := by
  obtain ⟨x, y, heq, hstate, htrain, hother, hkeep⟩ := s.laneDrop_spec l.isLt cause.val (by omega)
  refine .intro (if_pos h) ⟨hstate, fun hc => ?_, htrain, hother, hkeep, by rw [heq]⟩
  have := (State.mem_lanesUp.1 hc).2
  omega

theorem elasticError_drops (l : Fin 8) (h : s.laneState l ≠ 0 ∨ s.rdN (Obj.loopback l) ≠ 0 ∧ s.hubPowered = true) :
    Completes (.elasticError l false) s (fun t => t.laneState l = 0 ∧
      t.rdN (Obj.elasticErrors l) = (s.rdN (Obj.elasticErrors l) + 1) % 2 ^ 64 ∧
      (s.laneState l ≠ 0 → ⟨0x80D1, 0x4110 + l.val, 3, s.core.tick, s.life⟩ ∈ t.core.inFlight)) := by
  have hexec : exec (.elasticError l false) s = .next ((s.inc (Obj.elasticErrors l)).laneDrop l 3 false) := by
    refine if_neg fun hc => ?_
    rcases h with h | ⟨hb, hp⟩
    · exact h hc.1
    · rcases hc.2 with hc | hc
      · exact hb hc
      · simp [hp] at hc
  have hne : Obj.tpLaneState l ≠ Obj.elasticErrors l ∧
      Obj.elasticErrors l ∉ [Obj.tpLaneState l, Obj.laneRate l, Obj.lanesInService] := by
    simp only [List.mem_cons, List.not_mem_nil, or_false, Obj.tpLaneState, Obj.elasticErrors, Obj.laneRate, Obj.lanesInService, objKey]
    omega
  have hstate : (s.inc (Obj.elasticErrors l)).laneState l = s.laneState l := State.inc_rdN_ne _ _ _ hne.1
  have hcount : (s.inc (Obj.elasticErrors l)).rdN (Obj.elasticErrors l) = (s.rdN (Obj.elasticErrors l) + 1) % 2 ^ 64 :=
    State.inc_rdN_self ..
  have hcore : (s.inc (Obj.elasticErrors l)).core = s.core := rfl
  have hlife : (s.inc (Obj.elasticErrors l)).life = s.life := rfl
  generalize s.inc (Obj.elasticErrors l) = v at *
  by_cases h0 : v.laneState l = 0
  · have hdrop : v.laneDrop l 3 false = v := if_pos h0
    rw [hdrop] at hexec
    exact .intro hexec ⟨h0, hcount, fun hc => absurd (hstate.symm.trans h0) hc⟩
  · obtain ⟨x, y, heq, hzero, -, -, hkeep⟩ := v.laneDrop_spec l.isLt 3 h0
    refine .intro hexec ⟨hzero, (hkeep.rdN hne.2).trans hcount, fun _ => ?_⟩
    rw [heq, hcore, hlife]
    simp

end

/-- Settles O28. -/
theorem lanesTrainComeUpAndGoDown : Obligations.LanesTrainComeUpAndGoDown := by
  unfold Obligations.LanesTrainComeUpAndGoDown
  refine ⟨fun _ l h hp hb => laneSignalDetect_up l h hp hb, fun _ l h => if_neg fun hc => h hc.2.2,
    fun _ l c1 c2 h hc h1 hm => cap_trains l c1 c2 h hc h1 hm, fun _ l c1 c2 h hc h1 => cap_entersService l c1 c2 h hc h1,
    fun _ l c1 c2 h hc => .intro ((if_pos h).trans (if_neg hc)) rfl,
    fun _ l h ht hclean hend => laneTrainingEnd_entersService l h ht hclean hend,
    fun _ l h ht hclean hf hend => laneTrainingEnd_stepsUp l h ht hclean hf hend,
    fun _ l h ht hn locked hfail => laneTrainingEnd_repeats l h ht hn locked hfail,
    fun _ l h ht hn hr locked hfail => laneTrainingEnd_fallsBack l h ht hn hr locked hfail,
    fun _ l cause h => laneDown_announces l cause h, fun _ l cause h => if_neg h, fun _ l h => elasticError_drops l h⟩

section
variable {s : State}

theorem State.promote_none {n : Nat} (h : (s.kslot n).next = none) : s.promote n = s := by
  unfold State.promote
  dsimp only
  rw [h]

/-- An import into an empty slot, or over a key-encryption key: the key, its usage and its label (R344). -/
theorem State.importKey_empty {n : Nat} (usage label : Nat) (key : List Byte) (h : s.rdN (Obj.keySlotState n) = 0) :
    s.importKey n usage label key = (((((s.inc Obj.imports).setKslot n ⟨key, none⟩).wrN (Obj.keySlotState n) usage).wrN
      (Obj.slotLabel n) label).raise 0x40B7 0x3802 n) := by
  have himport : s.importKey n usage label key = ((((((s.inc Obj.imports).setKslot n ⟨key, none⟩).wrN (Obj.keySlotState n) usage).wrN
      (Obj.slotLabel n) label).raise 0x40B7 0x3802 n)).promote n := by
    unfold State.importKey
    dsimp only
    rw [if_neg (by omega)]
  rw [himport]
  exact State.promote_none (congrArg KeySlot.next (tget_tset_self _ _ _ _))

theorem batchKeys_ne {n : Nat} (hn : n < 128) : Obj.keySlotState n ≠ Obj.slotLabel n ∧ Obj.imports ≠ Obj.keySlotState n ∧
    Obj.imports ≠ Obj.slotLabel n ∧ (∀ k, k / 256 = 0x118A → k ≠ Obj.keySlotState n ∧ k ≠ Obj.slotLabel n ∧ k ≠ Obj.imports) := by
  simp only [Obj.keySlotState, Obj.slotLabel, Obj.imports, objKey]
  refine ⟨by omega, by omega, by omega, fun k hk => ?_⟩
  omega

theorem keyBatchEntry_imports (label : Nat) (key : List Byte) (n : Nat) (hr : s.opRunning 10 = true) (ha : s.key.batchAbort = false)
    (hi : s.importRecord (tget (fun _ => List.replicate 60 0#8) s.key.batch s.key.batchDone) = some (n, 3, label, key)) (hn : n < 128)
    (hs : s.rdN (Obj.keySlotState n) = 0) (hl : s.key.batchDone + 1 < s.key.batchLeft) :
    Completes .keyBatchEntry s (fun t => t.rdN (Obj.keySlotState n) = 3 ∧ t.rdN (Obj.slotLabel n) = label ∧
      t.kslot n = ⟨key, none⟩ ∧ (∀ k, k ≠ n → t.kslot k = s.kslot k) ∧ t.key.grps = s.key.grps ∧
      t.key.batchDone = s.key.batchDone + 1 ∧ t.key.batch = s.key.batch ∧ t.opRunning 10 = true ∧
      t.rdN Obj.imports = (s.rdN Obj.imports + 1) % 2 ^ 64 ∧
      t.core.inFlight = s.core.inFlight ++ [⟨0x40B7, 0x3802, n, s.core.tick, s.life⟩] ∧
      t.agent = s.agent ∧ t.timing = s.timing) := by
  have hentry : s.importEntry (tget (fun _ => List.replicate 60 0#8) s.key.batch s.key.batchDone) =
      (s.importKey n 3 label key, true) := by
    unfold State.importEntry
    rw [hi]
  obtain ⟨hsl, himp, himp', hop⟩ := batchKeys_ne hn
  have hstate : (s.importKey n 3 label key).rdN (Obj.keySlotState n) = 3 ∧ (s.importKey n 3 label key).rdN (Obj.slotLabel n) = label ∧
      (s.importKey n 3 label key).rdN Obj.imports = (s.rdN Obj.imports + 1) % 2 ^ 64 ∧
      (∀ k, k / 256 = 0x118A → (s.importKey n 3 label key).rd k = s.rd k) := by
    rw [State.importKey_empty 3 label key hs]
    refine ⟨?_, ?_, ?_, fun k hk => ?_⟩
    · rw [State.raise_rdN, State.wrN_rdN_ne (h := hsl), State.wrN_rdN_self]
    · rw [State.raise_rdN, State.wrN_rdN_self]
    · rw [State.raise_rdN, State.wrN_rdN_ne (h := himp'), State.wrN_rdN_ne (h := himp)]
      exact State.inc_rdN_self ..
    · obtain ⟨h1, h2, h3⟩ := hop k hk
      rw [State.raise_rd, State.wrN_rd_ne (h := h2), State.wrN_rd_ne (h := h1)]
      exact State.wrN_rd_ne (h := h3) ..
  have hkey : (s.importKey n 3 label key).kslot n = ⟨key, none⟩ ∧ (∀ k, k ≠ n → (s.importKey n 3 label key).kslot k = s.kslot k) := by
    rw [State.importKey_empty 3 label key hs]
    exact ⟨tget_tset_self _ _ _ _, fun k hk => tget_tset_ne _ _ _ hk⟩
  have hshape : ∃ x y, s.importKey n 3 label key = { s with
      regs := x, key := { s.key with slots := y }
      core := { s.core with inFlight := s.core.inFlight ++ [⟨0x40B7, 0x3802, n, s.core.tick, s.life⟩] } } := by
    rw [State.importKey_empty 3 label key hs]
    exact ⟨_, _, rfl⟩
  obtain ⟨hslot, hlabel, himports, hop'⟩ := hstate
  obtain ⟨hself, hother⟩ := hkey
  obtain ⟨x, y, hx⟩ := hshape
  generalize s.importKey n 3 label key = v at *
  have hexec : exec .keyBatchEntry s = .next (if (({ v with key.batchDone := s.key.batchDone + 1 } : State).opAdvance 10
      (s.key.batchDone + 1)).key.batchLeft ≤ s.key.batchDone + 1 then
      ((({ v with key.batchDone := s.key.batchDone + 1 } : State).opAdvance 10 (s.key.batchDone + 1)).opDone 10).batchEnd
      else ({ v with key.batchDone := s.key.batchDone + 1 } : State).opAdvance 10 (s.key.batchDone + 1)) := by
    show execKeyBatchEntry s = _
    unfold execKeyBatchEntry
    rw [if_pos hr, if_neg (by rw [ha]; exact Bool.false_ne_true)]
    dsimp only
    rw [hentry]
    exact if_pos rfl
  obtain ⟨⟨z, hz⟩, hkeep⟩ := State.opAdvance_spec { v with key.batchDone := s.key.batchDone + 1 } 10 (s.key.batchDone + 1)
  have hleft : (State.opAdvance { v with key.batchDone := s.key.batchDone + 1 } 10 (s.key.batchDone + 1)).key.batchLeft =
      s.key.batchLeft := by
    rw [hz, hx]
  rw [if_neg (by rw [hleft]; omega)] at hexec
  have hrd (k : Nat) (hk : k ∉ [Obj.opPosition 10, Obj.opPercent 10]) :
      (State.opAdvance { v with key.batchDone := s.key.batchDone + 1 } 10 (s.key.batchDone + 1)).rdN k = v.rdN k := by
    unfold State.rdN
    rw [hkeep k hk]
    rfl
  have hout (k : Nat) (hk : k / 256 ≠ 0x118A) : k ∉ [Obj.opPosition 10, Obj.opPercent 10] := by
    simp only [List.mem_cons, List.not_mem_nil, or_false, Obj.opPosition, Obj.opPercent, objKey]
    omega
  refine .intro hexec ⟨?_, ?_, ?_⟩
  · rw [hrd _ (hout _ (by simp only [Obj.keySlotState, objKey]; omega)), hslot]
  · rw [hrd _ (hout _ (by simp only [Obj.slotLabel, objKey]; omega)), hlabel]
  have hrun : (State.opAdvance { v with key.batchDone := s.key.batchDone + 1 } 10 (s.key.batchDone + 1)).opRunning 10 = true := by
    rw [← hr]
    unfold State.opRunning
    rw [hrd _ (by decide)]
    unfold State.rdN
    rw [hop' _ (by decide)]
  have hcount := (hrd Obj.imports (by decide)).trans himports
  rw [hz] at hrun hcount ⊢
  exact ⟨hself, hother, by rw [hx], rfl, by rw [hx], hrun, hcount, by rw [hx], by rw [hx], by rw [hx]⟩

theorem keyBatchEntry_rejects (hr : s.opRunning 10 = true) (ha : s.key.batchAbort = false)
    (hi : s.importRecord (tget (fun _ => List.replicate 60 0#8) s.key.batch s.key.batchDone) = none) :
    Completes .keyBatchEntry s (fun t =>
      t.key = { s.key with batchLeft := 0, batch := [], batchAbort := false } ∧
      t.rdN (Obj.opState 10) = 3 ∧ t.rdN (Obj.opLastStatus 10) = Status.refused ∧
      t.rdN Obj.importFailures = (s.rdN Obj.importFailures + 1) % 2 ^ 64 ∧
      t.core.inFlight = s.core.inFlight ++
        [⟨0x80B6, 0x3804, hdrField (tget (fun _ => List.replicate 60 0#8) s.key.batch s.key.batchDone) 0 1, s.core.tick, s.life⟩,
         ⟨0x8006, 0x118A, Status.refused, s.core.tick, s.life⟩] ∧
      KeepsRegs [Obj.opState 10, Obj.opLastStatus 10, Obj.importFailures] s t) := by
  have hentry (e : List Byte) (he : s.importRecord e = none) : s.importEntry e = (s.importFailed (hdrField e 0 1), false) := by
    unfold State.importEntry
    rw [he]
  have hexec : exec .keyBatchEntry s = .next (((s.importFailed
      (hdrField (tget (fun _ => List.replicate 60 0#8) s.key.batch s.key.batchDone) 0 1)).opFail 10 Status.refused).batchEnd) := by
    show execKeyBatchEntry s = _
    unfold execKeyBatchEntry
    rw [if_pos hr, if_neg (by rw [ha]; exact Bool.false_ne_true)]
    dsimp only
    rw [hentry _ hi] <;> rfl
  have hrd (k : Nat) (u : State) : (u.batchEnd).rd k = u.rd k := rfl
  have hrdN (k : Nat) (u : State) : (u.batchEnd).rdN k = u.rdN k := rfl
  generalize hdrField _ 0 1 = kek at *
  refine .intro hexec ⟨rfl, ?_, ?_, ?_, ?_, fun k hk => ?_⟩
  · rw [hrdN, State.opFail, State.raise_rdN, State.wrN_rdN_self]
  · rw [hrdN, State.opFail, State.raise_rdN, State.wrN_rdN_ne (h := by decide), State.wrN_rdN_self]
  · rw [hrdN, State.opFail, State.raise_rdN, State.wrN_rdN_ne (h := by decide), State.wrN_rdN_ne (h := by decide), State.importFailed,
      State.raise_rdN, State.inc_rdN_self]
  · show (s.core.inFlight ++ [_]) ++ [_] = _
    rw [List.append_assoc]
    rfl
  · simp only [List.mem_cons, List.not_mem_nil, or_false, not_or] at hk
    rw [hrd, State.opFail, State.raise_rd, State.wrN_rd_ne (h := hk.1), State.wrN_rd_ne (h := hk.2.1), State.importFailed,
      State.raise_rd, State.inc, State.incBy, State.wrN_rd_ne (h := hk.2.2)]

theorem keyPostponed_postpones (r : Fin 4) (g : Fin 8) (e ta at_ : Nat) (ha : (s.kg r g).ann = some ⟨e, ta, at_, false⟩)
    (ht : at_ ≤ s.core.tick + 3) :
    Completes (.keyPostponed r g) s (fun t =>
      t.kg r g = { s.kg r g with ann := some ⟨e, at_ - 3, s.keyEffective r g (at_ - 3), false⟩ } ∧ t.regs = s.regs ∧
      (∀ k, k ≠ 8 * r.val + g.val → tget (fun _ => {}) t.key.grps k = tget (fun _ => {}) s.key.grps k) ∧
      t.core = { s.core with inFlight := s.core.inFlight ++ [⟨0x80B1, 0x3820 + 8 * r.val + g.val, e, s.core.tick, s.life⟩] }) := by
  have hdue : s.keyAnnDue r g s.core.tick ⟨e, ta, at_, false⟩ = ⟨e, at_ - 3, s.keyEffective r g (at_ - 3), false⟩ := by
    unfold State.keyAnnDue
    rw [if_neg]
    simpa using ht
  have hexec : exec (.keyPostponed r g) s = .next ((s.setKg r g { s.kg r g with
      ann := some ⟨e, at_ - 3, s.keyEffective r g (at_ - 3), false⟩ }).raise 0x80B1 (keySource r g) e) := by
    show Host.Outcome.next (s.keyPostpone r g) = _
    unfold State.keyPostpone
    dsimp only
    rw [ha]
    dsimp only
    rw [if_pos ⟨rfl, ht⟩, hdue]
  exact .intro hexec ⟨State.setKg_kg .., rfl, fun k hk => tget_tset_ne _ _ _ hk, rfl⟩

theorem keyGrpKeys_ne {r g : Nat} : Obj.keyState r g ≠ Obj.sealCause r g ∧ Obj.keyState r g ≠ Obj.epochSwitches r g ∧
    Obj.keyTxEpoch r g ≠ Obj.txInvocations r g ∧ Obj.keyTxEpoch r g ≠ Obj.keyState r g ∧ Obj.keyTxEpoch r g ≠ Obj.sealCause r g ∧
    Obj.keyTxEpoch r g ≠ Obj.epochSwitches r g ∧ Obj.txInvocations r g ≠ Obj.keyState r g ∧ Obj.txInvocations r g ≠ Obj.sealCause r g ∧
    Obj.txInvocations r g ≠ Obj.epochSwitches r g ∧ Obj.epochSwitches r g ≠ Obj.sealCause r g := by
  simp only [Obj.keyState, Obj.sealCause, Obj.epochSwitches, Obj.keyTxEpoch, Obj.txInvocations, objKey]
  omega

/-- A group's key record as an epoch comes into force (R342). -/
def KeyGrp.switched (x : KeyGrp) (e t0 : Nat) (key : List Byte) : KeyGrp :=
  { x with e := e, txKey := some key, txNext := false, t0 := t0, ann := none, roll := false, early := 0, offered := false }

/-- The registers an epoch's coming into force shows. -/
def State.switched (s : State) (r g e t0 : Nat) (key : List Byte) : State :=
  ((((((s.setKg r g ((s.kg r g).switched e t0 key)).wrN (Obj.keyTxEpoch r g) e).wrN (Obj.txInvocations r g) (s.kg r g).early).wrN
    (Obj.keyState r g) 2).wrN (Obj.sealCause r g) 0).inc (Obj.epochSwitches r g))

theorem State.switched_spec (s : State) (r g e t0 : Nat) (key : List Byte) :
    (s.switched r g e t0 key).keySt r g = 2 ∧ (s.switched r g e t0 key).rdN (Obj.keyTxEpoch r g) = e ∧
    (s.switched r g e t0 key).kg r g = (s.kg r g).switched e t0 key ∧
    (s.switched r g e t0 key).rdN (Obj.epochSwitches r g) = (s.rdN (Obj.epochSwitches r g) + 1) % 2 ^ 64 ∧
    (s.switched r g e t0 key).rdN (Obj.txInvocations r g) = (s.kg r g).early ∧
    (s.switched r g e t0 key).key.slots = s.key.slots ∧ (s.switched r g e t0 key).core = s.core := by
  obtain ⟨h1, h2, h3, h4, h5, h6, h7, h8, h9, h10⟩ := keyGrpKeys_ne (r := r) (g := g)
  unfold State.switched State.keySt
  refine ⟨?_, ?_, State.setKg_kg .., ?_, ?_, rfl, rfl⟩
  · rw [State.inc_rdN_ne (h := h2), State.wrN_rdN_ne (h := h1), State.wrN_rdN_self]
  · rw [State.inc_rdN_ne (h := h6), State.wrN_rdN_ne (h := h5), State.wrN_rdN_ne (h := h4), State.wrN_rdN_ne (h := h3),
      State.wrN_rdN_self]
  · rw [State.inc_rdN_self, State.wrN_rdN_ne (h := h10), State.wrN_rdN_ne (h := h2.symm), State.wrN_rdN_ne (h := h9.symm),
      State.wrN_rdN_ne (h := h6.symm)] <;> rfl
  · rw [State.inc_rdN_ne (h := h9), State.wrN_rdN_ne (h := h8), State.wrN_rdN_ne (h := h7), State.wrN_rdN_self]

theorem keyEpochSwitch_switches (r : Fin 4) (g : Fin 8) (e ta at_ : Nat) (key peer : List Byte)
    (ha : (s.kg r g).ann = some ⟨e, ta, at_, true⟩) (ht : at_ ≤ s.core.tick)
    (hs : s.rdN (Obj.keySlotState (s.rdN (Obj.keySlot r g))) = 1) (hk : s.kslot (s.rdN (Obj.keySlot r g)) = ⟨key, none⟩)
    (hp : (s.kg r g).peer = some peer) :
    Completes (.keyEpochSwitch r g) s (fun t => t.keySt r g = 2 ∧ t.rdN (Obj.keyTxEpoch r g) = e ∧
      t.kg r g = { s.kg r g with
        e := e, txNext := false, t0 := at_, ann := none, roll := false, early := 0, offered := false,
        txKey := some (deriveKey key (s.rdN (Obj.slotLabel (s.rdN (Obj.keySlot r g)))) (s.rdN Obj.localPeerId)
          (s.rdN (Obj.peerId r g)) g e (s.kg r g).own peer) } ∧
      t.rdN (Obj.epochSwitches r g) = (s.rdN (Obj.epochSwitches r g) + 1) % 2 ^ 64 ∧
      t.rdN (Obj.txInvocations r g) = (s.kg r g).early ∧ t.key.slots = s.key.slots ∧
      t.core = { s.core with inFlight := s.core.inFlight ++
        [⟨if s.keySt r g = 3 then 0x40B0 else 0x40B3, 0x3820 + 8 * r.val + g.val, e, s.core.tick, s.life⟩] }) := by
  have hmaster : s.masterKey (s.rdN (Obj.keySlot r g)) = some (false, key, s.rdN (Obj.slotLabel (s.rdN (Obj.keySlot r g)))) := by
    unfold State.masterKey
    dsimp only
    rw [if_pos (.inl hs), hk]
  have hderive : s.deriveTx r g e = some (false, deriveKey key (s.rdN (Obj.slotLabel (s.rdN (Obj.keySlot r g)))) (s.rdN Obj.localPeerId)
      (s.rdN (Obj.peerId r g)) g e (s.kg r g).own peer) := by
    unfold State.deriveTx
    dsimp only
    rw [hmaster, hp]
  generalize hd : deriveKey _ _ _ _ _ _ _ _ = d at *
  obtain ⟨hstate, hepoch, hself, hcount, hearly, hslots, hcore⟩ := s.switched_spec r g e at_ d
  have hswitch : exec (.keyEpochSwitch r g) s = .next
      ((if s.keySt r g = 3 then (s.switched r g e at_ d).raise 0x40B0 (keySource r g) e
        else (s.switched r g e at_ d).raise 0x40B3 (keySource r g) e).promote
      ((if s.keySt r g = 3 then (s.switched r g e at_ d).raise 0x40B0 (keySource r g) e
        else (s.switched r g e at_ d).raise 0x40B3 (keySource r g) e).rdN (Obj.keySlot r g))) := by
    show Host.Outcome.next (s.keySwitchDue r g) = _
    unfold State.keySwitchDue
    rw [ha]
    dsimp only
    rw [if_pos ⟨rfl, ht⟩]
    unfold State.keySwitchOp
    dsimp only
    rw [hderive] <;> rfl
  have hraise : (if s.keySt r g = 3 then (s.switched r g e at_ d).raise 0x40B0 (keySource r g) e
      else (s.switched r g e at_ d).raise 0x40B3 (keySource r g) e) =
      (s.switched r g e at_ d).raise (if s.keySt r g = 3 then 0x40B0 else 0x40B3) (keySource r g) e := by
    split
    · rfl
    · rfl
  rw [hraise] at hswitch
  have hslot : (s.switched r g e at_ d).rdN (Obj.keySlot r g) = s.rdN (Obj.keySlot r g) := by
    unfold State.switched
    have hne : Obj.keySlot r g ≠ Obj.epochSwitches r g ∧ Obj.keySlot r g ≠ Obj.sealCause r g ∧ Obj.keySlot r g ≠ Obj.keyState r g ∧
        Obj.keySlot r g ≠ Obj.txInvocations r g ∧ Obj.keySlot r g ≠ Obj.keyTxEpoch r g := by
      simp only [Obj.keySlot, Obj.keyState, Obj.sealCause, Obj.epochSwitches, Obj.keyTxEpoch, Obj.txInvocations, objKey]
      omega
    obtain ⟨h1, h2, h3, h4, h5⟩ := hne
    rw [State.inc_rdN_ne (h := h1), State.wrN_rdN_ne (h := h2), State.wrN_rdN_ne (h := h3), State.wrN_rdN_ne (h := h4),
      State.wrN_rdN_ne (h := h5)] <;> rfl
  have hlife : (s.switched r g e at_ d).life = s.life := rfl
  generalize s.switched r g e at_ d = v at *
  rw [State.promote_none (by
    rw [State.raise_rdN, hslot]
    have : v.kslot (s.rdN (Obj.keySlot r g)) = ⟨key, none⟩ := by
      rw [← hk]
      unfold State.kslot
      rw [hslots]
    exact congrArg KeySlot.next this)] at hswitch
  refine .intro hswitch ⟨hstate, hepoch, hself, hcount, hearly, hslots, ?_⟩
  unfold State.raise
  rw [hcore, hlife]
  rfl

theorem keyingKeys_ne {r g : Nat} : Obj.keyState r g ≠ Obj.keyTxEpoch r g ∧ Obj.keyState r g ≠ Obj.keyRxEpoch r g ∧
    Obj.keyTxEpoch r g ≠ Obj.keyRxEpoch r g ∧ Obj.keyRxEpoch r g ≠ Obj.keyState r g ∧ Obj.keyRxEpoch r g ≠ Obj.sealCause r g ∧
    Obj.keyMismatches r g ≠ Obj.keyState r g ∧ Obj.keyMismatches r g ≠ Obj.sealCause r g ∧ Obj.keyMismatches r g ≠ Obj.keyTxEpoch r g ∧
    Obj.keyMismatches r g ≠ Obj.keyRxEpoch r g := by
  simp only [Obj.keyState, Obj.sealCause, Obj.keyRxEpoch, Obj.keyTxEpoch, Obj.keyMismatches, objKey]
  omega

theorem State.txKeyGone_kg (s : State) (r g : Nat) :
    (s.txKeyGone r g).kg r g = { s.kg r g with txKey := none, txNext := false, roll := false, early := 0 } := State.setKg_kg ..

theorem State.rxKeysGone_kg (s : State) (r g : Nat) : (s.rxKeysGone r g).kg r g = { s.kg r g with rxCur := none, rxAnn := none } :=
  State.setKg_kg ..

/-- A group's announcement is given up with its run of failures. -/
theorem State.unannounced_kg (s : State) (r g : Nat) : (((s.setKg r g { s.kg r g with ann := none, failRun := 0, offered := false }).wrN
    (Obj.keyState r g) 1).wrN (Obj.sealCause r g) 0).kg r g = { s.kg r g with ann := none, failRun := 0, offered := false } :=
  State.setKg_kg ..

/-- A group sent back to KEYING has no traffic key and no announcement; its nonces stay (R348). -/
theorem State.toKeying_spec (s : State) (r g : Nat) : ∃ x y, s.toKeying r g = { s with regs := x, key := { s.key with grps := y } } ∧
    (s.toKeying r g).keySt r g = 1 ∧ (s.toKeying r g).rdN (Obj.keyTxEpoch r g) = 0 ∧ (s.toKeying r g).rdN (Obj.keyRxEpoch r g) = 0 ∧
    (s.toKeying r g).kg r g = { s.kg r g with
      txKey := none, txNext := false, roll := false, early := 0, rxCur := none, rxAnn := none, ann := none, failRun := 0,
      offered := false } ∧ (s.toKeying r g).rdN (Obj.keyMismatches r g) = s.rdN (Obj.keyMismatches r g) := by
  obtain ⟨h1, h2, h3, h4, h5, h6, h7, h8, h9⟩ := keyingKeys_ne (r := r) (g := g)
  obtain ⟨k1, -, -, k4, k5, -⟩ := keyGrpKeys_ne (r := r) (g := g)
  have hself : (s.toKeying r g).kg r g = { s.kg r g with
      txKey := none, txNext := false, roll := false, early := 0, rxCur := none, rxAnn := none, ann := none, failRun := 0,
      offered := false } := by
    unfold State.toKeying
    dsimp only
    rw [State.unannounced_kg, State.rxKeysGone_kg, State.txKeyGone_kg]
  have hkeys : (s.toKeying r g).rdN (Obj.keyTxEpoch r g) = 0 ∧ (s.toKeying r g).rdN (Obj.keyRxEpoch r g) = 0 ∧
      (s.toKeying r g).rdN (Obj.keyMismatches r g) = s.rdN (Obj.keyMismatches r g) := by
    unfold State.toKeying State.rxKeysGone State.txKeyGone
    dsimp only
    refine ⟨?_, ?_, ?_⟩
    · rw [State.wrN_rdN_ne (h := k5), State.wrN_rdN_ne (h := k4), State.setKg_rdN, State.wrN_rdN_ne (h := h3), State.setKg_rdN,
        State.wrN_rdN_self]
    · rw [State.wrN_rdN_ne (h := h5), State.wrN_rdN_ne (h := h4), State.setKg_rdN, State.wrN_rdN_self]
    · rw [State.wrN_rdN_ne (h := h7), State.wrN_rdN_ne (h := h6), State.setKg_rdN, State.wrN_rdN_ne (h := h9), State.setKg_rdN,
        State.wrN_rdN_ne (h := h8), State.setKg_rdN]
  obtain ⟨htxe, hrxe, hcount⟩ := hkeys
  have hshape : ∃ x y, s.toKeying r g = { s with regs := x, key := { s.key with grps := y } } := by
    obtain ⟨x, y, hx⟩ : ∃ x y, s.txKeyGone r g = { s with regs := x, key := { s.key with grps := y } } := ⟨_, _, rfl⟩
    obtain ⟨x', y', hx'⟩ : ∃ x' y', (s.txKeyGone r g).rxKeysGone r g =
        { s.txKeyGone r g with regs := x', key := { (s.txKeyGone r g).key with grps := y' } } := ⟨_, _, rfl⟩
    unfold State.toKeying
    rw [hx', hx]
    exact ⟨_, _, rfl⟩
  obtain ⟨x, y, hshape⟩ := hshape
  refine ⟨x, y, hshape, ?_, htxe, hrxe, hself, hcount⟩
  unfold State.toKeying State.keySt
  dsimp only
  rw [State.wrN_rdN_ne (h := k1), State.wrN_rdN_self]

/-- The mismatch is counted and announced (R348). -/
theorem State.mismatchCounted_spec (s : State) (r g : Nat) :
    ∃ u, (s.inc (Obj.keyMismatches r g)).raiseLimited 0xC0B4 (keySource r g) 1 = u ∧ u.keySt r g = s.keySt r g ∧
    u.rdN (Obj.keyMismatches r g) = (s.rdN (Obj.keyMismatches r g) + 1) % 2 ^ 64 ∧ KeepsRegs [Obj.keyMismatches r g] s u ∧
    u.key = s.key ∧ u.basin = s.basin ∧ u.timing = s.timing := by
  have hne : Obj.keyState r g ≠ Obj.keyMismatches r g := by
    simp only [Obj.keyState, Obj.keyMismatches, objKey]
    omega
  have hstate : (s.inc (Obj.keyMismatches r g)).keySt r g = s.keySt r g := State.inc_rdN_ne _ _ _ hne
  have hcount : (s.inc (Obj.keyMismatches r g)).rdN (Obj.keyMismatches r g) = (s.rdN (Obj.keyMismatches r g) + 1) % 2 ^ 64 :=
    State.inc_rdN_self ..
  have hkeep : KeepsRegs [Obj.keyMismatches r g] s (s.inc (Obj.keyMismatches r g)) := by simp
  have hsame : (s.inc (Obj.keyMismatches r g)).key = s.key ∧ (s.inc (Obj.keyMismatches r g)).basin = s.basin ∧
      (s.inc (Obj.keyMismatches r g)).timing = s.timing := ⟨rfl, rfl, rfl⟩
  generalize s.inc (Obj.keyMismatches r g) = v at *
  obtain ⟨c, hc⟩ := State.raiseLimited_upd (s := v) (code := 0xC0B4) (source := keySource r g) (n := 1) rfl
  refine ⟨_, hc, hstate, hcount, hkeep, hsame⟩

theorem keyMismatch_keys (r : Fin 4) (g : Fin 8) (hf : s.rdN (Obj.authFailLimit r g) ≤ (s.kg r g).failRun)
    (hs : s.keySt r g = 2 ∨ s.keySt r g = 3) :
    Completes (.keyMismatch r g) s (fun t => t.keySt r g = 1 ∧ t.rdN (Obj.keyTxEpoch r g) = 0 ∧ t.rdN (Obj.keyRxEpoch r g) = 0 ∧
      (t.kg r g).txKey = none ∧ (t.kg r g).ann = none ∧ (t.kg r g).rxCur = none ∧ (t.kg r g).rxAnn = none ∧
      (t.kg r g).failRun = 0 ∧ (t.kg r g).own = (s.kg r g).own ∧ (t.kg r g).peer = (s.kg r g).peer ∧
      t.rdN (Obj.keyMismatches r g) = (s.rdN (Obj.keyMismatches r g) + 1) % 2 ^ 64 ∧ t.key.slots = s.key.slots ∧
      t.basin = s.basin ∧ t.timing = s.timing) := by
  obtain ⟨u, hu, hstate, hcount, -, hkey, hbasin, htiming⟩ := s.mismatchCounted_spec r g
  have hexec : exec (.keyMismatch r g) s = .next (u.toKeying r g) := by
    show execKeyMismatch r g s = _
    unfold execKeyMismatch
    rw [if_pos ⟨hf, by omega⟩]
    dsimp only
    rw [hu, hstate, if_pos hs]
  have hkg : u.kg r g = s.kg r g := by
    unfold State.kg
    rw [hkey]
  obtain ⟨x, y, heq, hst, htx, hrx, hself, hmis⟩ := u.toKeying_spec r g
  have hsame : (u.toKeying r g).key.slots = s.key.slots ∧ (u.toKeying r g).basin = s.basin ∧ (u.toKeying r g).timing = s.timing := by
    rw [heq, ← hkey, ← hbasin, ← htiming]
    exact ⟨rfl, rfl, rfl⟩
  rw [hkg] at hself
  refine .intro hexec ⟨hst, htx, hrx, ?_⟩
  rw [hself]
  exact ⟨rfl, rfl, rfl, rfl, rfl, rfl, rfl, hmis.trans hcount, hsame⟩

theorem keyMismatch_counts (r : Fin 4) (g : Fin 8) (hf : s.rdN (Obj.authFailLimit r g) ≤ (s.kg r g).failRun)
    (hs : s.keySt r g = 1 ∨ s.keySt r g = 4) :
    Completes (.keyMismatch r g) s (fun t => t.keySt r g = s.keySt r g ∧ t.kg r g = { s.kg r g with failRun := 0 } ∧
      t.rdN (Obj.keyMismatches r g) = (s.rdN (Obj.keyMismatches r g) + 1) % 2 ^ 64 ∧
      KeepsRegs [Obj.keyMismatches r g] s t ∧ t.key.slots = s.key.slots ∧ t.basin = s.basin ∧ t.timing = s.timing) := by
  obtain ⟨u, hu, hstate, hcount, hkeep, hkey, hbasin, htiming⟩ := s.mismatchCounted_spec r g
  have hkg : u.kg r g = s.kg r g := by
    unfold State.kg
    rw [hkey]
  have hexec : exec (.keyMismatch r g) s = .next (u.setKg r g { s.kg r g with failRun := 0 }) := by
    show execKeyMismatch r g s = _
    unfold execKeyMismatch
    rw [if_pos ⟨hf, by omega⟩]
    dsimp only
    rw [hu, hstate, if_neg (by omega), hkg]
  refine .intro hexec ⟨hstate, State.setKg_kg .., hcount, hkeep, ?_, hbasin, htiming⟩
  rw [← hkey]
  rfl

/-- Settles O24. -/
theorem keyBatchesImportAndEpochsComeIntoForce : Obligations.KeyBatchesImportAndEpochsComeIntoForce := by
  unfold Obligations.KeyBatchesImportAndEpochsComeIntoForce
  exact ⟨fun _ label key n hr ha hi hn hs hl => keyBatchEntry_imports label key n hr ha hi hn hs hl,
    fun _ hr ha hi => keyBatchEntry_rejects hr ha hi, fun _ r g e ta at_ ha ht => keyPostponed_postpones r g e ta at_ ha ht,
    fun _ r g e ta at_ key peer ha ht hs hk hp => keyEpochSwitch_switches r g e ta at_ key peer ha ht hs hk hp,
    fun _ r g hf hs => keyMismatch_keys r g hf hs, fun _ r g hf hs => keyMismatch_counts r g hf hs⟩

end

end Sys2Proof.Machine
end

section
/-! The obligations of the host port, the loading and the dispersion banks, the equaliser and the watch. -/
open Sys2Proof Sys2Proof.Machine
namespace Sys2Proof.Machine

theorem tget_of_not_mem {α : Type} (d : Nat → α) {t : List (Nat × α)} {k : Nat} (h : ∀ q ∈ t, q.1 ≠ k) : tget d t k = d k := by
  induction t with
  | nil => rfl
  | cons q t ih =>
    unfold tget
    rw [if_neg (h q List.mem_cons_self), ih fun p hp => h p (List.mem_cons_of_mem _ hp)]

theorem tget_append_of_not_mem {α : Type} (d : Nat → α) {l t : List (Nat × α)} {k : Nat} (h : ∀ q ∈ l, q.1 ≠ k) :
    tget d (l ++ t) k = tget d t k := by
  induction l with
  | nil => rfl
  | cons q l ih =>
    rw [List.cons_append]
    conv_lhs => unfold tget
    rw [if_neg (h q List.mem_cons_self), ih fun p hp => h p (List.mem_cons_of_mem _ hp)]

theorem tget_tlist {α : Type} [DecidableEq α] (d : α) (base : Nat) (vs : List α) {t : List (Nat × α)} {i : Nat} (hi : i < vs.length)
    (ht : ∀ q ∈ t, base + vs.length ≤ q.1) : tget (fun _ => d) (tlist d base vs ++ t) (base + i) = vs.getD i d := by
  induction vs generalizing base i with
  | nil => exact absurd hi (Nat.not_lt_zero _)
  | cons v vs ih =>
    rw [List.length_cons] at hi ht
    have hrest (i : Nat) (hi : i < vs.length) := ih (base + 1) hi fun q hq => by have := ht q hq; omega
    unfold tlist
    cases i with
    | zero =>
      simp only [List.getD_cons_zero, Nat.add_zero]
      split
      · next hv =>
        rw [hv]
        refine tget_of_not_mem _ fun q hq => ?_
        rcases List.mem_append.1 hq with hq | hq
        · have := (tlist_keys _ _ _ q hq).1
          omega
        · have := ht q hq
          omega
      · rw [List.cons_append, tget, if_pos rfl]
    | succ i =>
      have hi' : i < vs.length := by omega
      rw [List.getD_cons_succ, ← hrest i hi', Nat.add_right_comm base 1 i]
      split
      · rfl
      · rw [List.cons_append, tget, if_neg (by omega)] <;> rfl

/-- Bytes put at an offset read back there. -/
theorem tget_tputs {α : Type} [DecidableEq α] (d : α) (base : Nat) (vs : List α) (t : List (Nat × α)) {i : Nat} (hi : i < vs.length) :
    tget (fun _ => d) (tputs d base vs t) (base + i) = vs.getD i d := by
  unfold tputs
  rw [List.append_assoc, tget_append_of_not_mem]
  · exact tget_tlist d base vs hi fun q hq => by simpa using (List.mem_filter.1 hq).2
  · intro q hq
    have : q.1 < base := by simpa using (List.mem_filter.1 hq).2
    omega

section
variable {s : State}

theorem State.getBar2_putBar2 (off : Nat) (bs : List Byte) : (s.putBar2 off bs).getBar2 off bs.length = bs := by
  refine List.ext_getElem (by simp [State.getBar2]) fun i h1 h2 => ?_
  refine (List.getElem_map _).trans ?_
  rw [List.getElem_range]
  exact (tget_tputs _ _ _ _ h2).trans (List.getD_eq_getElem _ _ h2)

theorem State.bar_setBar_ne (s : State) {off o : Nat} (v : Nat) (h : o / 4 ≠ off / 4) : (s.setBar off v).bar o = s.bar o := by
  rw [State.bar_setBar, if_neg h]

theorem State.setBar_agentOnly (s : State) (off v : Nat) : s.setBar off v = { s with agent := (s.setBar off v).agent } := rfl

/-- A channel's registers lie apart. -/
theorem dmaOff_ne {n a b : Nat} (h : a / 4 ≠ b / 4) : (dmaOff n + a) / 4 ≠ (dmaOff n + b) / 4 := by
  unfold dmaOff
  omega

/-- A fetch that finds a descriptor takes it (R91). -/
theorem State.dmaFetch_takes {n : Nat} {bs : List Byte} (hon : s.dmaOn n = true) (hne : s.bar (dmaOff n + 0xC) ≠ s.bar (dmaOff n + 0x10))
    (hh : n ∉ s.agent.dmaHalted) (hf : s.dmaFlight n = none) :
    s.dmaFetch n bs = { s with agent.dma := s.agent.dma ++ [(n, readDescriptor (s.dmaAddress n) bs)] } :=
  if_pos ⟨hon, hne, by simpa using hh, by rw [hf]; rfl⟩

theorem State.dmaFetch_off {n : Nat} {bs : List Byte} (hon : s.dmaOn n = false) : s.dmaFetch n bs = s :=
  if_neg fun hc => Bool.false_ne_true (hon.symm.trans hc.1)

theorem channelEnable_fetches (n : Fin 8) (bs : List Byte) (hon : s.dmaOn n = false) (hsize : dmaSizeOk (s.bar (dmaOff n + 8)) = true)
    (hf : s.dmaFlight n = none) (hne : s.bar (dmaOff n + 0xC) ≠ s.bar (dmaOff n + 0x10)) :
    Completes (.channelEnable n true bs) s (fun t => t.dmaOn n = true ∧
      t.agent.dma = s.agent.dma ++ [(n.val, readDescriptor
        (s.bar (dmaOff n + 4) * 2 ^ 32 + s.bar (dmaOff n) + 32 * s.bar (dmaOff n + 0xC)) bs)] ∧
      n.val ∉ t.agent.dmaHalted ∧ t = { s with agent := t.agent }) := by
  have hexec : exec (.channelEnable n true bs) s =
      .next ((State.setBar { s with agent.dmaHalted := s.agent.dmaHalted.filter (· != n.val) } (dmaOff n + 0x14) 1).dmaFetch n bs) := by
    show Host.Outcome.next (s.dmaEnable n true bs) = _
    unfold State.dmaEnable
    rw [hsize, hon] <;> rfl
  generalize hv : State.setBar _ _ _ = v at hexec
  have hbar (a : Nat) (ha : a / 4 ≠ 5) : v.bar (dmaOff n + a) = s.bar (dmaOff n + a) := by
    rw [← hv, State.bar_setBar_ne _ _ (dmaOff_ne ha)]
    rfl
  have hvon : v.dmaOn n = true := by
    unfold State.dmaOn
    rw [← hv, State.bar_setBar_self]
    rfl
  have hhalt : n.val ∉ v.agent.dmaHalted := by
    rw [← hv]
    exact fun hc => by simpa using (List.mem_filter.1 hc).2
  have hdma : v.agent.dma = s.agent.dma := by rw [← hv]; rfl
  have hflight : v.dmaFlight n = none := by
    rw [← hf]
    unfold State.dmaFlight
    rw [hdma]
  rw [State.dmaFetch_takes hvon (by rw [hbar _ (by decide), hbar _ (by decide)]; exact hne) hhalt hflight] at hexec
  have hb0 := hbar 0 (by decide)
  simp only [Nat.add_zero] at hb0
  refine .intro hexec ⟨hvon, ?_, hhalt, ?_⟩
  · show v.agent.dma ++ [(n.val, readDescriptor (v.dmaAddress n) bs)] = _
    unfold State.dmaAddress
    rw [hdma, hbar _ (by decide), hb0, hbar _ (by decide)]
  · rw [← hv]
    rfl

theorem channelEnable_stops (n : Fin 8) (bs : List Byte) :
    Completes (.channelEnable n false bs) s (fun t => t.dmaOn n = false ∧ t.agent.dma = s.agent.dma ∧ t = { s with agent := t.agent }) := by
  refine .intro rfl ⟨?_, rfl, rfl⟩
  show bitOf ((s.setBar (dmaOff n + 0x14) 0).bar (dmaOff n + 0x14)) 0 = false
  rw [State.bar_setBar_self]
  rfl

theorem channelReset_zeroes (n : Fin 8) (hon : s.dmaOn n = false) :
    Completes (.channelReset n) s (fun t => t.bar (dmaOff n + 0xC) = 0 ∧ t.bar (dmaOff n + 0x10) = 0 ∧
      t = { s with agent := t.agent } ∧
      (∀ o, o / 4 ≠ (dmaOff n + 0xC) / 4 → o / 4 ≠ (dmaOff n + 0x10) / 4 → t.bar o = s.bar o)) := by
  have hexec : exec (.channelReset n) s = .next ((s.setBar (dmaOff n + 0xC) 0).setBar (dmaOff n + 0x10) 0) :=
    congrArg _ (if_neg (by rw [hon]; exact Bool.false_ne_true))
  refine .intro hexec ⟨?_, ?_, rfl, fun o h1 h2 => ?_⟩
  · rw [State.bar_setBar_ne _ _ (dmaOff_ne (by decide)), State.bar_setBar_self]
    rfl
  · rw [State.bar_setBar_self]
    rfl
  · rw [State.bar_setBar_ne _ _ h2, State.bar_setBar_ne _ _ h1]

theorem dmaRingTailWrite_fetches (n : Fin 8) (v : Nat) (bs : List Byte) (hon : s.dmaOn n = true) (hv : v < 2 ^ 32)
    (hne : v ≠ s.bar (dmaOff n + 0xC)) (hh : n.val ∉ s.agent.dmaHalted) (hf : s.dmaFlight n = none) :
    Completes (.dmaRingTailWrite n v bs) s (fun t => t.bar (dmaOff n + 0x10) = v ∧
      t.agent.dma = s.agent.dma ++ [(n.val, readDescriptor
        (s.bar (dmaOff n + 4) * 2 ^ 32 + s.bar (dmaOff n) + 32 * s.bar (dmaOff n + 0xC)) bs)] ∧
      t = { s with agent := t.agent }) := by
  have hexec : exec (.dmaRingTailWrite n v bs) s = .next ((s.setBar (dmaOff n + 0x10) v).dmaFetch n bs) := rfl
  have hself : (s.setBar (dmaOff n + 0x10) v).bar (dmaOff n + 0x10) = v := by
    rw [State.bar_setBar_self, Nat.mod_eq_of_lt hv]
  have hbar (a : Nat) (ha : a / 4 ≠ 4) : (s.setBar (dmaOff n + 0x10) v).bar (dmaOff n + a) = s.bar (dmaOff n + a) :=
    State.bar_setBar_ne _ _ (dmaOff_ne ha)
  have hb0 := hbar 0 (by decide)
  simp only [Nat.add_zero] at hb0
  have hvon : (s.setBar (dmaOff n + 0x10) v).dmaOn n = true := by
    rw [← hon]
    unfold State.dmaOn
    rw [hbar _ (by decide)]
  rw [State.dmaFetch_takes hvon (by rw [hbar _ (by decide), hself]; exact hne.symm) hh hf] at hexec
  refine .intro hexec ⟨hself, ?_, rfl⟩
  show s.agent.dma ++ [(n.val, readDescriptor ((s.setBar (dmaOff n + 0x10) v).dmaAddress n) bs)] = _
  unfold State.dmaAddress
  rw [hbar _ (by decide), hb0, hbar _ (by decide)]

/-- A descriptor's end without an interrupt, before a refused one halts the channel: its status in host memory and in
CHANNEL_STATUS, the head advanced, and one more counted (R91). -/
def State.dmaEnded (s : State) (n status : Nat) (d : DmaDescriptor) : State :=
  let s : State := { s with agent.dma := s.agent.dma.filter (fun q => q.1 != n),
                            agent.hostMem := s.agent.hostMem ++ [⟨d.ring + 20, leBytes 4 status⟩] }
  let s := s.setBar (dmaOff n + 0x18) (256 * status)
  let s := s.setBar (dmaOff n + 0x0C) ((s.bar (dmaOff n + 0x0C) + 1) % max 1 (s.bar (dmaOff n + 0x08)))
  s.setBar (dmaOff n + 0x1C) (s.bar (dmaOff n + 0x1C) + 1)

theorem State.dmaFinish_eq {n : Nat} {d : DmaDescriptor} (status : Nat) (hf : s.dmaFlight n = some d) (hirq : d.irq = false) :
    s.dmaFinish n status = if status = Status.refused
      then { s.dmaEnded n status d with agent.dmaHalted := (s.dmaEnded n status d).agent.dmaHalted ++ [n] }
      else s.dmaEnded n status d := by
  unfold State.dmaFinish
  rw [hf]
  dsimp only
  rw [hirq] <;> rfl

theorem State.dmaEnded_spec (s : State) (n : Nat) {status : Nat} (hs : status < 256) (d : DmaDescriptor) :
    (s.dmaEnded n status d).dmaFlight n = none ∧ (s.dmaEnded n status d).bar (dmaOff n + 0x18) = 256 * status ∧
    (s.dmaEnded n status d).bar (dmaOff n + 0xC) = (s.bar (dmaOff n + 0xC) + 1) % max 1 (s.bar (dmaOff n + 8)) % 2 ^ 32 ∧
    (s.dmaEnded n status d).bar (dmaOff n + 0x1C) = (s.bar (dmaOff n + 0x1C) + 1) % 2 ^ 32 ∧
    (s.dmaEnded n status d).dmaOn n = s.dmaOn n ∧ (s.dmaEnded n status d).agent.bar2 = s.agent.bar2 ∧
    (s.dmaEnded n status d).agent.hostMem = s.agent.hostMem ++ [⟨d.ring + 20, leBytes 4 status⟩] ∧
    s.dmaEnded n status d = { s with agent := (s.dmaEnded n status d).agent } := by
  unfold State.dmaEnded
  dsimp only
  generalize hu : ({ s with agent.dma := s.agent.dma.filter (fun q => q.1 != n),
                            agent.hostMem := s.agent.hostMem ++ [⟨d.ring + 20, leBytes 4 status⟩] } : State) = u
  have hbar (o : Nat) : u.bar o = s.bar o := by rw [← hu]; rfl
  have hne {a b : Nat} (h : a / 4 ≠ b / 4) (t : State) (v : Nat) : (t.setBar (dmaOff n + b) v).bar (dmaOff n + a) = t.bar (dmaOff n + a) :=
    State.bar_setBar_ne _ _ (dmaOff_ne h)
  refine ⟨?_, ?_, ?_, ?_, ?_, ?_, ?_, ?_⟩
  · have hnone : (s.agent.dma.filter (fun q => q.1 != n)).find? (fun q => q.1 == n) = none :=
      List.find?_eq_none.2 fun q hq => by simpa using (List.mem_filter.1 hq).2
    rw [← hu]
    show ((s.agent.dma.filter (fun q => q.1 != n)).find? (fun q => q.1 == n)).map (·.2) = none
    rw [hnone]
    rfl
  · rw [hne (by decide), hne (by decide), State.bar_setBar_self]
    omega
  · rw [hne (by decide), State.bar_setBar_self, hne (by decide), hne (by decide), hbar, hbar]
  · rw [State.bar_setBar_self, hne (by decide), hne (by decide), hbar]
  · unfold State.dmaOn
    rw [hne (by decide), hne (by decide), hne (by decide), hbar]
  · rw [← hu]
    rfl
  · rw [← hu]
    rfl
  · rw [← hu]
    rfl

theorem dmaDescriptorDone_toHost (n : Fin 8) (d : DmaDescriptor) (data next : List Byte) (hf : s.dmaFlight n = some d)
    (hgood : descriptorGood d = true) (hto : d.toBar2 = false) (hirq : d.irq = false) (hon : s.dmaOn n = false) :
    Completes (.dmaDescriptorDone n data next) s (fun t => t.dmaFlight n = none ∧ t.bar (dmaOff n + 0x18) = 0 ∧
      t.bar (dmaOff n + 0xC) = (s.bar (dmaOff n + 0xC) + 1) % max 1 (s.bar (dmaOff n + 8)) % 2 ^ 32 ∧
      t.bar (dmaOff n + 0x1C) = (s.bar (dmaOff n + 0x1C) + 1) % 2 ^ 32 ∧ t.agent.bar2 = s.agent.bar2 ∧
      t.agent.hostMem = s.agent.hostMem ++ [⟨d.hostAddr, s.getBar2 d.bar2Offset d.length⟩, ⟨d.ring + 20, [0, 0, 0, 0]⟩] ∧
      t = { s with agent := t.agent }) := by
  have hexec : exec (.dmaDescriptorDone n data next) s = .next ((State.dmaFinish { s with agent.hostMem := s.agent.hostMem ++
      [⟨d.hostAddr, s.getBar2 d.bar2Offset d.length⟩] } n Status.ok).dmaFetch n next) := by
    show execDmaDescriptorDone n data next s = _
    unfold execDmaDescriptorDone
    rw [hf]
    dsimp only
    rw [hgood]
    unfold State.dmaCopy
    rw [hto] <;> rfl
  generalize hu : ({ s with agent.hostMem := s.agent.hostMem ++ [⟨d.hostAddr, s.getBar2 d.bar2Offset d.length⟩] } : State) = u at hexec
  have huf : u.dmaFlight n = some d := by rw [← hu]; exact hf
  have hbar (o : Nat) : u.bar o = s.bar o := by rw [← hu]; rfl
  have huon : u.dmaOn n = false := by
    rw [← hon]
    unfold State.dmaOn
    rw [hbar]
  obtain ⟨hflight, hstatus, hhead, hcount, hen, hbar2, hmem, heq⟩ := u.dmaEnded_spec n (by decide : Status.ok < 256) d
  rw [State.dmaFinish_eq _ huf hirq, if_neg (by decide), State.dmaFetch_off (hen.trans huon)] at hexec
  refine .intro hexec ⟨hflight, hstatus, ?_, ?_, ?_, ?_, ?_⟩
  · rw [hhead, hbar, hbar]
  · rw [hcount, hbar]
  · rw [hbar2, ← hu]
  · rw [hmem, ← hu]
    simp [leBytes, Status.ok]
  · rw [heq, ← hu]

theorem dmaDescriptorDone_toBar2 (n : Fin 8) (d : DmaDescriptor) (data next : List Byte) (hf : s.dmaFlight n = some d)
    (hgood : descriptorGood d = true) (hto : d.toBar2 = true) (hirq : d.irq = false) (hon : s.dmaOn n = false)
    (hlock : s.imageLocked = false) (hlen : data.length = d.length) :
    Completes (.dmaDescriptorDone n data next) s (fun t => t.dmaFlight n = none ∧ t.bar (dmaOff n + 0x18) = 0 ∧
      t.getBar2 d.bar2Offset d.length = data ∧ t.agent.hostMem = s.agent.hostMem ++ [⟨d.ring + 20, [0, 0, 0, 0]⟩] ∧
      t = { s with agent := t.agent }) := by
  have hexec : exec (.dmaDescriptorDone n data next) s =
      .next (((s.putBar2 d.bar2Offset data).dmaFinish n Status.ok).dmaFetch n next) := by
    have htake : data.take d.length = data := by rw [← hlen, List.take_length]
    show execDmaDescriptorDone n data next s = _
    unfold execDmaDescriptorDone
    rw [hf]
    dsimp only
    rw [hgood]
    unfold State.dmaCopy State.hostPut
    rw [hto, hlock, htake] <;> rfl
  have hread := State.getBar2_putBar2 (s := s) d.bar2Offset data
  have huf : (s.putBar2 d.bar2Offset data).dmaFlight n = some d := hf
  have huon : (s.putBar2 d.bar2Offset data).dmaOn n = false := hon
  have hmem' : (s.putBar2 d.bar2Offset data).agent.hostMem = s.agent.hostMem := rfl
  have heq' : s.putBar2 d.bar2Offset data = { s with agent := (s.putBar2 d.bar2Offset data).agent } := rfl
  generalize s.putBar2 d.bar2Offset data = u at *
  obtain ⟨hflight, hstatus, -, -, hen, hbar2, hmem, heq⟩ := u.dmaEnded_spec n (by decide : Status.ok < 256) d
  rw [State.dmaFinish_eq _ huf hirq, if_neg (by decide), State.dmaFetch_off (hen.trans huon)] at hexec
  refine .intro hexec ⟨hflight, hstatus, ?_, ?_, ?_⟩
  · rw [← hlen, ← hread]
    unfold State.getBar2
    rw [hbar2, List.length_map, List.length_range]
  · rw [hmem, hmem']
    simp [leBytes, Status.ok]
  · rw [heq, heq']

theorem dmaDescriptorDone_refuses (n : Fin 8) (d : DmaDescriptor) (data next : List Byte) (hf : s.dmaFlight n = some d)
    (hgood : descriptorGood d = false) (hirq : d.irq = false) :
    Completes (.dmaDescriptorDone n data next) s (fun t => t.dmaFlight n = none ∧
      t.bar (dmaOff n + 0x18) = 256 * Status.refused ∧ n.val ∈ t.agent.dmaHalted ∧ t.agent.bar2 = s.agent.bar2 ∧
      t.agent.hostMem = s.agent.hostMem ++ [⟨d.ring + 20, leBytes 4 Status.refused⟩]) := by
  have hexec : exec (.dmaDescriptorDone n data next) s = .next (s.dmaFinish n Status.refused) := by
    show execDmaDescriptorDone n data next s = _
    unfold execDmaDescriptorDone
    rw [hf]
    dsimp only
    rw [hgood] <;> rfl
  obtain ⟨hflight, hstatus, -, -, -, hbar2, hmem, -⟩ := s.dmaEnded_spec n (by decide : Status.refused < 256) d
  rw [State.dmaFinish_eq _ hf hirq, if_pos rfl] at hexec
  generalize s.dmaEnded n Status.refused d = v at *
  exact .intro hexec ⟨hflight, hstatus, List.mem_append_right _ (List.mem_singleton_self _), hbar2, hmem⟩

/-- Settles O47. -/
theorem dmaChannelsWorkTheirRings : Obligations.DmaChannelsWorkTheirRings := by
  unfold Obligations.DmaChannelsWorkTheirRings
  refine ⟨fun _ n bs hon hsize hf hne => channelEnable_fetches n bs hon hsize hf hne, fun _ n bs => channelEnable_stops n bs,
    fun s n bs hsize => ?_, fun _ n hon => channelReset_zeroes n hon, fun s n hon => congrArg _ (if_pos hon),
    fun _ n v bs hon hv hne hh hf => dmaRingTailWrite_fetches n v bs hon hv hne hh hf, fun ring bs => ?_,
    fun _ n d data next hf hgood hto hirq hon => dmaDescriptorDone_toHost n d data next hf hgood hto hirq hon,
    fun _ n d data next hf hgood hto hirq hon hlock hlen => dmaDescriptorDone_toBar2 n d data next hf hgood hto hirq hon hlock hlen,
    fun _ n d data next hf hgood hirq => dmaDescriptorDone_refuses n d data next hf hgood hirq, fun s n data next hf => ?_⟩
  · show Host.Outcome.next (s.dmaEnable n true bs) = _
    unfold State.dmaEnable
    rw [hsize] <;> rfl
  · rfl
  · show execDmaDescriptorDone n data next s = _
    unfold execDmaDescriptorDone
    rw [hf]

end

section
variable {s : State}

theorem bitOf_eq_testBit (v i : Nat) : bitOf v i = v.testBit i := by
  unfold bitOf
  rw [Nat.testBit_eq_decide_div_mod_eq]
  exact (Bool.beq_eq_decide_eq _ _)

theorem bitOf_mod {v n i : Nat} (hi : i < n) : bitOf (v % 2 ^ n) i = bitOf v i := by
  rw [bitOf_eq_testBit, bitOf_eq_testBit, Nat.testBit_mod_two_pow]
  simp [hi]

theorem upto_bitOf_two_pow {n m : Nat} (hn : n < m) : upto m (bitOf (2 ^ n)) = [n] := by
  refine upto_eq_singleton (fun i _ => ?_) hn
  rw [bitOf_eq_testBit, Nat.testBit_two_pow, decide_eq_true_eq]
  exact eq_comm

/-- A write-1-to-clear register of four bits (R87). -/
theorem bitOf_clear {v bits n : Nat} (hn : n < 4) : bitOf (v &&& (15 - bits % 16)) n = (bitOf v n && !bitOf bits n) := by
  have hmask : 15 - bits % 16 = 2 ^ 4 - (bits % 2 ^ 4 + 1) := by omega
  rw [bitOf_eq_testBit, Nat.testBit_and, hmask, Nat.testBit_two_pow_sub_succ (Nat.mod_lt _ (by decide)), Nat.testBit_mod_two_pow,
    bitOf_eq_testBit, bitOf_eq_testBit]
  simp [hn]

theorem mbxSubmit_one {n : Nat} (hn : n < 4) : exec (.mbxSubmit (2 ^ n)) s = .next (s.submitSlot n) := by
  show Host.Outcome.next (s.each (upto 4 (bitOf (2 ^ n))) State.submitSlot) = _
  rw [upto_bitOf_two_pow hn] <;> rfl

theorem bitOf_setBar_setBit (s : State) (o : Nat) {off n i : Nat} (b : Bool) (h : o / 4 = off / 4) (hi : i < 32) :
    bitOf ((s.setBar off (setBit (s.bar off) n b)).bar o) i = if i = n then b else bitOf (s.bar off) i := by
  rw [State.bar_setBar, if_pos h, bitOf_mod hi, bitOf_setBit]

theorem mbxSubmit_holds (n : Nat) (hn : n < 4) (hb : bitOf (s.bar 0x4) n = false) (hd : bitOf (s.bar 0x8) n = false)
    (hs : s.agent.serving = false) :
    Completes (.mbxSubmit (2 ^ n)) s (fun t => bitOf (t.bar 0x4) n = true ∧ t.agent.heldSlots = s.agent.heldSlots ++ [n] ∧
      (∀ off, off / 4 ≠ 1 → t.bar off = s.bar off) ∧ t.regs = s.regs ∧ t.core = s.core) := by
  have hsubmit : s.submitSlot n = { s.setBar 4 (setBit (s.bar 4) n true) with
      agent.heldSlots := (s.setBar 4 (setBit (s.bar 4) n true)).agent.heldSlots ++ [n] } := by
    unfold State.submitSlot mbxBusyOff mbxDoneOff
    rw [hb, hd, Bool.or_self, if_neg Bool.false_ne_true]
    dsimp only
    have hs' : (s.setBar 4 (setBit (s.bar 4) n true)).agent.serving = false := hs
    exact if_neg (by rw [hs']; exact Bool.false_ne_true)
  refine .intro (mbxSubmit_one hn) ?_
  rw [hsubmit]
  have hself := bitOf_setBar_setBit s 4 (off := 4) (n := n) (i := n) true rfl (by omega)
  have hother (off : Nat) (h : off / 4 ≠ 1) := State.bar_setBar_ne s (off := 4) (o := off) (setBit (s.bar 4) n true) h
  have hheld : (s.setBar 4 (setBit (s.bar 4) n true)).agent.heldSlots = s.agent.heldSlots := rfl
  have hsame : (s.setBar 4 (setBit (s.bar 4) n true)).regs = s.regs ∧ (s.setBar 4 (setBit (s.bar 4) n true)).core = s.core := ⟨rfl, rfl⟩
  rw [if_pos rfl] at hself
  generalize s.setBar 4 _ = v at *
  exact ⟨hself, by rw [hheld], hother, hsame⟩

theorem mbxSubmit_errs (n : Nat) (hn : n < 4) (h : bitOf (s.bar 0x4) n = true ∨ bitOf (s.bar 0x8) n = true) :
    Completes (.mbxSubmit (2 ^ n)) s (fun t => bitOf (t.bar 0xC) n = true ∧ (∀ off, off / 4 ≠ 3 → t.bar off = s.bar off) ∧
      t.agent.heldSlots = s.agent.heldSlots ∧ t.regs = s.regs ∧ t.core = s.core) := by
  have hsubmit : s.submitSlot n = s.setBar 0xC (setBit (s.bar 0xC) n true) := if_pos (by rwa [Bool.or_eq_true])
  refine .intro (mbxSubmit_one hn) ?_
  rw [hsubmit]
  refine ⟨?_, fun off hoff => State.bar_setBar_ne _ _ hoff, rfl, rfl, rfl⟩
  rw [bitOf_setBar_setBit _ _ _ rfl (by omega), if_pos rfl]

theorem State.barBytes_congr {u : State} {off dwords : Nat} (h : ∀ o, off ≤ o → u.bar o = s.bar o) :
    u.barBytes off dwords = s.barBytes off dwords := by
  unfold State.barBytes
  simp only [h _ (Nat.le_add_right off _)]

theorem mbxSubmit_frees (n : Nat) (hn : n < 4) (hb : bitOf (s.bar 0x4) n = false) (hd : bitOf (s.bar 0x8) n = false)
    (hs : s.agent.serving = true) (hp : parseMsg false (s.barBytes (0x1000 * (n + 1)) 512) = none) :
    Completes (.mbxSubmit (2 ^ n)) s (fun t => bitOf (t.bar 0x4) n = false ∧ bitOf (t.bar 0x8) n = false ∧
      t.agent.lastReply = s.agent.lastReply ∧ t.regs = s.regs) := by
  have hother (o : Nat) (h : o / 4 ≠ 1) : (s.setBar 4 (setBit (s.bar 4) n true)).bar o = s.bar o := State.bar_setBar_ne _ _ h
  have hparse : parseMsg false ((s.setBar 4 (setBit (s.bar 4) n true)).barBytes (0x1000 * (n + 1)) 512) = none := by
    rw [← hp, State.barBytes_congr fun o ho => hother o (by omega)]
  have hsubmit : s.submitSlot n = (s.setBar 4 (setBit (s.bar 4) n true)).mbxFree n := by
    unfold State.submitSlot mbxBusyOff mbxDoneOff
    rw [hb, hd, Bool.or_self, if_neg Bool.false_ne_true]
    dsimp only
    have hs' : (s.setBar 4 (setBit (s.bar 4) n true)).agent.serving = true := hs
    refine (if_pos hs').trans ?_
    unfold State.serveSlot
    rw [hparse]
  refine .intro (mbxSubmit_one hn) ?_
  rw [hsubmit]
  have hlast : (s.setBar 4 (setBit (s.bar 4) n true)).agent.lastReply = s.agent.lastReply := rfl
  have hregs : (s.setBar 4 (setBit (s.bar 4) n true)).regs = s.regs := rfl
  have h8 := hother 8 (by decide)
  clear hsubmit
  generalize s.setBar 4 _ = v at *
  refine ⟨?_, ?_, hlast, hregs⟩
  · unfold State.mbxFree mbxBusyOff
    rw [bitOf_setBar_setBit _ _ _ rfl (by omega), if_pos rfl]
  · unfold State.mbxFree mbxBusyOff
    rw [State.bar_setBar_ne _ _ (by decide), h8, hd]

theorem clearBits_clears {off : Nat} (bits : Nat) : (∀ n, n < 4 → bitOf ((s.clearBits off bits).bar off) n = (bitOf (s.bar off) n && !bitOf bits n)) ∧
    (∀ o, o / 4 ≠ off / 4 → (s.clearBits off bits).bar o = s.bar o) := by
  refine ⟨fun n hn => ?_, fun o ho => State.bar_setBar_ne _ _ ho⟩
  unfold State.clearBits
  rw [State.bar_setBar_self, bitOf_mod (by omega), bitOf_clear hn]

theorem ringTailWrite_moves (q : Fin 16) (v : Nat) (hv : v < 2 ^ 32) (h : (s.bar (ringHeadOff q) + 2 ^ 32 - v) % 2 ^ 32 ≤ ringCapacity q) :
    Completes (.ringTailWrite q v) s (fun t => t.bar (ringTailOff q) = v ∧ t = { s with agent := t.agent } ∧
      (∀ off, off / 4 ≠ ringTailOff q / 4 → t.bar off = s.bar off)) := by
  have hexec : exec (.ringTailWrite q v) s = .next (s.setBar (ringTailOff q) v) :=
    congrArg Host.Outcome.next (if_neg (by rw [Nat.mod_eq_of_lt hv]; omega))
  refine .intro hexec ⟨?_, rfl, fun off hoff => State.bar_setBar_ne _ _ hoff⟩
  rw [State.bar_setBar_self, Nat.mod_eq_of_lt hv]

theorem bar0RegisterWrite_area (off v : Nat) (h4 : off % 4 = 0) (hlo : 0x1000 ≤ off) (hhi : off < 0x5000) :
    Completes (.bar0RegisterWrite off v) s (fun t => t.bar off = v % 2 ^ 32 ∧ t = { s with agent := t.agent } ∧
      (∀ o, o / 4 ≠ off / 4 → t.bar o = s.bar o)) := by
  have hwrite : exec (.bar0RegisterWrite off v) s = .next (s.setBar off v) := by
    show Host.Outcome.next (s.barWrite off v) = _
    unfold State.barWrite
    rw [if_neg (by omega), if_neg (by omega), if_neg (by omega), if_neg (by omega), if_neg (by omega), if_neg (by omega),
      if_neg (by omega), if_pos ⟨hlo, hhi⟩]
  exact .intro hwrite ⟨State.bar_setBar_self .., rfl, fun o ho => State.bar_setBar_ne _ _ ho⟩

theorem bar0RegisterWrite_readOnly (off v : Nat) (h : off = 0x4 ∨ off = 0x10 ∨ 0x9000 ≤ off) : NoEffect (.bar0RegisterWrite off v) s := by
  show Host.Outcome.next (s.barWrite off v) = _
  unfold State.barWrite
  split
  · rfl
  · rw [if_neg (by omega), if_neg (by omega), if_neg (by omega), if_neg (by omega), if_neg (by omega), if_neg (by omega),
      if_neg (by omega), if_neg (by omega)]

/-- Settles O46. -/
theorem mailboxesAndRingsFollowTheirRegisters : Obligations.MailboxesAndRingsFollowTheirRegisters := by
  unfold Obligations.MailboxesAndRingsFollowTheirRegisters
  refine ⟨fun _ n hn hb hd hs => mbxSubmit_holds n hn hb hd hs, fun _ n hn h => mbxSubmit_errs n hn h,
    fun _ n hn hb hd hs hp => mbxSubmit_frees n hn hb hd hs hp, fun _ bits => .intro rfl ⟨rfl, clearBits_clears bits⟩,
    fun _ bits => .intro rfl ⟨rfl, clearBits_clears bits⟩, fun s hs => ?_, fun _ q v hv h => ringTailWrite_moves q v hv h,
    fun s q v hv h => congrArg Host.Outcome.next (if_pos (by rwa [Nat.mod_eq_of_lt hv])), fun _ off v h4 hlo hhi => bar0RegisterWrite_area off v h4 hlo hhi,
    fun _ off v h => bar0RegisterWrite_readOnly off v h⟩
  refine .intro (congrArg Host.Outcome.next (if_neg ?_)) rfl
  show ¬ s.agent.serving = true
  rw [hs]
  exact Bool.false_ne_true

end

section
variable {s : State}

/-- Writes of a register per element of a list, of values that the writes themselves do not change. -/
theorem State.each_wr_spec (key : Nat → Nat) (v : State → Nat → Int) (l : List Nat) (s : State)
    (hinj : ∀ a ∈ l, ∀ b ∈ l, key a = key b → a = b) (hv : ∀ t a x b, a ∈ l → v (State.wr t (key a) x) b = v t b) :
    RegsOnly s (s.each l (fun t a => t.wr (key a) (v t a))) ∧
    (∀ k, (∀ a ∈ l, k ≠ key a) → (s.each l (fun t a => t.wr (key a) (v t a))).rd k = s.rd k) ∧
    (∀ a ∈ l, (s.each l (fun t a => t.wr (key a) (v t a))).rd (key a) = v s a) := by
  induction l generalizing s with
  | nil => exact ⟨.refl, fun _ _ => rfl, fun a ha => absurd ha List.not_mem_nil⟩
  | cons c l ih =>
    rw [State.each_cons]
    obtain ⟨hregs, hkeep, hval⟩ := ih (s.wr (key c) (v s c))
      (fun a ha b hb => hinj a (List.mem_cons_of_mem _ ha) b (List.mem_cons_of_mem _ hb))
      (fun t a x b ha => hv t a x b (List.mem_cons_of_mem _ ha))
    generalize State.each (s.wr (key c) (v s c)) l _ = u at *
    refine ⟨(RegsOnly.refl.wr _ _).trans hregs, fun k hk => ?_, fun a ha => ?_⟩
    · rw [hkeep k fun a ha => hk a (List.mem_cons_of_mem _ ha), State.wr_rd_ne (h := hk c List.mem_cons_self)]
    · by_cases hl : a ∈ l
      · rw [hval a hl, hv _ _ _ _ List.mem_cons_self]
      · obtain rfl := (List.mem_cons.1 ha).resolve_right hl
        rw [hkeep _ fun b hb hc => hl ?_, State.wr_rd_self]
        rwa [hinj a List.mem_cons_self b (List.mem_cons_of_mem _ hb) hc]

theorem State.mem_groupScs {r g sc : Nat} (h : sc ∈ s.groupScs r g) : sc < 64 := (mem_upto.1 h).1

/-- The sub-carriers a group covers are those of its layout's registers. -/
theorem State.groupScs_congr {u : State} {r g : Nat} (h1 : u.rd (Obj.firstSubcarrier r g) = s.rd (Obj.firstSubcarrier r g))
    (h2 : u.rd (Obj.subcarrierCount r g) = s.rd (Obj.subcarrierCount r g)) : u.groupScs r g = s.groupScs r g := by
  unfold State.groupScs State.groupCovers State.rdN
  rw [h1, h2]

theorem loadingTx_inj {r a b : Nat} (h : Obj.loadingTx r a = Obj.loadingTx r b) : a = b := by
  simp only [Obj.loadingTx, objKey] at h
  omega

/-- The map in force on transmit as its registers show it (R158, R173). -/
theorem State.showTx_spec (s : State) (r g : Nat) : RegsOnly s (s.showTx r g) ∧
    (s.showTx r g).rdN (Obj.loadingMapVersion r g) = (s.txMap r g).version ∧
    (∀ sc ∈ s.groupScs r g, (s.showTx r g).rdN (Obj.loadingTx r sc) = (s.txMap r g).code sc) ∧
    (∀ k, k ≠ Obj.loadingMapVersion r g → k ≠ Obj.codedBitsTx r → (∀ sc, sc < 64 → k ≠ Obj.loadingTx r sc) →
      (s.showTx r g).rd k = s.rd k) := by
  have hscs : (s.wrN (Obj.loadingMapVersion r g) (s.txMap r g).version).groupScs r g = s.groupScs r g :=
    State.groupScs_congr (State.wrN_rd_ne s _ _ _ (by simp only [Obj.firstSubcarrier, Obj.loadingMapVersion, objKey]; omega))
      (State.wrN_rd_ne s _ _ _ (by simp only [Obj.subcarrierCount, Obj.loadingMapVersion, objKey]; omega))
  have hshow : s.showTx r g = State.showCodedBits (State.each (s.wrN (Obj.loadingMapVersion r g) (s.txMap r g).version) (s.groupScs r g)
      (fun t sc => t.wr (Obj.loadingTx r sc) ((s.txMap r g).code sc : Nat))) r := by
    rw [← hscs]
    rfl
  rw [hshow]
  obtain ⟨hregs, hkeep, hval⟩ := State.each_wr_spec (Obj.loadingTx r) (fun _ sc => ((s.txMap r g).code sc : Nat)) (s.groupScs r g)
    (s.wrN (Obj.loadingMapVersion r g) (s.txMap r g).version) (fun _ _ _ _ h => loadingTx_inj h) (fun _ _ _ _ _ => rfl)
  generalize State.each _ _ _ = u at *
  have hcoded (k : Nat) (hk : k ≠ Obj.codedBitsTx r) : (u.showCodedBits r).rd k = u.rd k := State.wrN_rd_ne u _ _ _ hk
  have hcodedN (k : Nat) (hk : k ≠ Obj.codedBitsTx r) : (u.showCodedBits r).rdN k = u.rdN k := State.wrN_rdN_ne u _ _ _ hk
  refine ⟨(((RegsOnly.refl.wrN _ _).trans hregs).wrN _ _), ?_, fun sc hsc => ?_, fun k h1 h2 h3 => ?_⟩
  · rw [hcodedN _ (by simp only [Obj.loadingMapVersion, Obj.codedBitsTx, objKey]; omega)]
    unfold State.rdN
    rw [hkeep _ fun sc hsc => by
      have := State.mem_groupScs hsc
      simp only [Obj.loadingMapVersion, Obj.loadingTx, objKey]
      omega, State.wrN_rd_self] <;> rfl
  · have := State.mem_groupScs hsc
    rw [hcodedN _ (by simp only [Obj.loadingTx, Obj.codedBitsTx, objKey]; omega)]
    unfold State.rdN
    rw [hval sc hsc] <;> rfl
  · rw [hcoded k h2, hkeep k fun sc hsc => h3 sc (State.mem_groupScs hsc), State.wrN_rd_ne (h := h1)]

/-- The announcement as its registers show it. -/
theorem State.showAnn_spec (s : State) (r g : Nat) : RegsOnly s (s.showAnn r g) ∧
    KeepsRegs [Obj.announcedVersion r g, Obj.announcedTick r g] s (s.showAnn r g) ∧
    ((s.load r g).ann = none → (s.showAnn r g).rdN (Obj.announcedVersion r g) = 0 ∧ (s.showAnn r g).rdN (Obj.announcedTick r g) = 0) := by
  have hne : Obj.announcedVersion r g ≠ Obj.announcedTick r g := by simp only [Obj.announcedVersion, Obj.announcedTick, objKey]; omega
  unfold State.showAnn
  split
  · next a ha => exact ⟨(RegsOnly.refl.wrN _ _).wrN _ _, by simp, fun hc => absurd (ha.symm.trans hc) (Option.some_ne_none _)⟩
  · exact ⟨(RegsOnly.refl.wrN _ _).wrN _ _, by simp, fun _ => ⟨by rw [State.wrN_rdN_ne (h := hne), State.wrN_rdN_self],
      State.wrN_rdN_self ..⟩⟩

theorem State.setLoad_other (s : State) {r g q h : Nat} (x : Load) (hne : 8 * q + h ≠ 8 * r + g) :
    (s.setLoad r g x).load q h = s.load q h := tget_tset_ne _ _ _ hne

theorem RegsOnly.load {t : State} (h : RegsOnly s t) (r g : Nat) : t.load r g = s.load r g := by
  rw [h.eq]
  rfl

theorem loadingDeadline_postpones (r : Fin 4) (g : Fin 8) (a : Announce) (ha : (s.load r g).ann = some a) (hc : a.committed = false)
    (ht : a.at_ ≤ s.core.tick + 3) (hp : a.postponed < 4) :
    Completes (.loadingDeadline r g) s (fun t =>
      (let ta := a.at_ - 3
       (t.load r g).ann = some { a with ta := ta, postponed := a.postponed + 1
                                        at_ := ta + max (s.rdN (Obj.loadingLead r g)) (s.rdN (Obj.ackLatency r g) + 4) }) ∧
      (t.load r g).tx = (s.load r g).tx ∧
      t.rdN (Obj.postponements r g) = (s.rdN (Obj.postponements r g) + 1) % 2 ^ 64 ∧
      t.core = { s.core with inFlight := s.core.inFlight ++ [⟨0x8041, 0x2140 + 0x200 * r.val + g.val,
        (a.postponed + 1) * 65536 + a.map.version, s.core.tick, s.life⟩] } ∧
      KeepsRegs [Obj.postponements r g, Obj.announcedVersion r g, Obj.announcedTick r g] s t) := by
  have hexec : exec (.loadingDeadline r g) s = .next ((((s.setLoad r g { s.load r g with ann := some { a with
      ta := a.at_ - 3, at_ := s.effectiveTick r g (a.at_ - 3), postponed := a.postponed + 1 } }).showAnn r g).inc
      (Obj.postponements r g)).raise 0x8041 (grpSource r g) ((a.postponed + 1) * 65536 + a.map.version)) := by
    show Host.Outcome.next (s.loadingDeadline r g) = _
    unfold State.loadingDeadline
    dsimp only
    rw [ha]
    dsimp only
    rw [if_neg (by rw [hc]; simp; omega), if_pos hp]
  generalize hx : ({ s.load r g with ann := some { a with
      ta := a.at_ - 3, at_ := s.effectiveTick r g (a.at_ - 3), postponed := a.postponed + 1 } } : Load) = x at hexec
  have hload : (s.setLoad r g x).load r g = x := State.setLoad_load ..
  have hrd (k : Nat) : (s.setLoad r g x).rd k = s.rd k := rfl
  have hrdN (k : Nat) : (s.setLoad r g x).rdN k = s.rdN k := rfl
  have hcore : (s.setLoad r g x).core = s.core ∧ (s.setLoad r g x).life = s.life := ⟨rfl, rfl⟩
  generalize s.setLoad r g x = v at *
  obtain ⟨hregs, hkeep, -⟩ := v.showAnn_spec r g
  have hl := hregs.load r g
  have hco := hregs.core
  have hli := hregs.life
  generalize v.showAnn r g = w at *
  have hl' : ((w.inc (Obj.postponements r g)).raise 0x8041 (grpSource r g) ((a.postponed + 1) * 65536 + a.map.version)).load r g = x :=
    hl.trans hload
  refine .intro hexec ⟨?_, ?_, ?_, ?_, fun k hk => ?_⟩
  · rw [hl', ← hx]
    rfl
  · rw [hl', ← hx]
  · rw [State.raise_rdN, State.inc_rdN_self, hkeep.rdN, hrdN]
    simp only [List.mem_cons, List.not_mem_nil, or_false, Obj.postponements, Obj.announcedVersion, Obj.announcedTick, objKey]
    omega
  · show ({ w.core with inFlight := w.core.inFlight ++ [⟨0x8041, _, _, w.core.tick, w.life⟩] } : CoreSt) = _
    rw [hco, hli, hcore.1, hcore.2] <;> rfl
  · rw [List.mem_cons, not_or] at hk
    rw [State.raise_rd, State.inc, State.incBy, State.wrN_rd_ne (h := hk.1), hkeep k hk.2, hrd]

theorem loadingDeadline_abandons (r : Fin 4) (g : Fin 8) (a : Announce) (ha : (s.load r g).ann = some a) (hc : a.committed = false)
    (ht : a.at_ ≤ s.core.tick + 3) (hp : 4 ≤ a.postponed) :
    Completes (.loadingDeadline r g) s (fun t =>
      (t.load r g).ann = none ∧ (t.load r g).cand = (s.load r g).cand ∧ (t.load r g).tx = (s.load r g).tx ∧
      t.rdN (Obj.announcedVersion r g) = 0 ∧ t.rdN (Obj.announcedTick r g) = 0 ∧
      t.core = { s.core with inFlight := s.core.inFlight ++ [⟨0x8042, 0x2140 + 0x200 * r.val + g.val, a.map.version, s.core.tick,
        s.life⟩] } ∧ KeepsRegs [Obj.announcedVersion r g, Obj.announcedTick r g] s t) := by
  have hexec : exec (.loadingDeadline r g) s = .next (((s.setLoad r g { s.load r g with ann := none }).showAnn r g).raise 0x8042
      (grpSource r g) a.map.version) := by
    show Host.Outcome.next (s.loadingDeadline r g) = _
    unfold State.loadingDeadline
    dsimp only
    rw [ha]
    dsimp only
    rw [if_neg (by rw [hc]; simp; omega), if_neg (by omega)]
    rfl
  generalize hx : ({ s.load r g with ann := none } : Load) = x at hexec
  have hload : (s.setLoad r g x).load r g = x := State.setLoad_load ..
  have hrd (k : Nat) : (s.setLoad r g x).rd k = s.rd k := rfl
  have hcore : (s.setLoad r g x).core = s.core ∧ (s.setLoad r g x).life = s.life := ⟨rfl, rfl⟩
  generalize s.setLoad r g x = v at *
  obtain ⟨hregs, hkeep, hnone⟩ := v.showAnn_spec r g
  obtain ⟨hver, htick⟩ := hnone (by rw [hload, ← hx])
  have hl := hregs.load r g
  have hco := hregs.core
  have hli := hregs.life
  generalize v.showAnn r g = w at *
  have hl' : (w.raise 0x8042 (grpSource r g) a.map.version).load r g = x := hl.trans hload
  refine .intro hexec ⟨?_, ?_, ?_, hver, htick, ?_, fun k hk => (hkeep k hk).trans (hrd k)⟩
  · rw [hl', ← hx]
  · rw [hl', ← hx]
  · rw [hl', ← hx]
  · show ({ w.core with inFlight := w.core.inFlight ++ [⟨0x8042, _, _, w.core.tick, w.life⟩] } : CoreSt) = _
    rw [hco, hli, hcore.1, hcore.2] <;> rfl

/-- A transmit map and its announcement as their registers show them: outside these registers nothing changes. -/
theorem State.shownTx_spec (s : State) (r g : Nat) (hr : r < 4) (hg : g < 8) (hann : (s.load r g).ann = none) :
    RegsOnly s ((s.showTx r g).showAnn r g) ∧ ((s.showTx r g).showAnn r g).rdN (Obj.loadingMapVersion r g) = (s.txMap r g).version ∧
    ((s.showTx r g).showAnn r g).rdN (Obj.announcedVersion r g) = 0 ∧
    (∀ sc ∈ s.groupScs r g, ((s.showTx r g).showAnn r g).rdN (Obj.loadingTx r sc) = (s.txMap r g).code sc) ∧
    (∀ k, k ∉ [Obj.announcedVersion r g, Obj.announcedTick r g] → k ≠ Obj.loadingMapVersion r g → k ≠ Obj.codedBitsTx r →
      (∀ sc, sc < 64 → k ≠ Obj.loadingTx r sc) → ((s.showTx r g).showAnn r g).rd k = s.rd k) := by
  obtain ⟨hregs, hver, hcodes, hkeep⟩ := s.showTx_spec r g
  have hload := hregs.load r g
  generalize s.showTx r g = v at *
  obtain ⟨hregs', hkeep', hnone⟩ := v.showAnn_spec r g
  refine ⟨hregs.trans hregs', ?_, (hnone (by rw [hload, hann])).1, fun sc hsc => ?_, fun k h0 h1 h2 h3 => ?_⟩
  · rw [hkeep'.rdN, hver]
    simp only [List.mem_cons, List.not_mem_nil, or_false, Obj.loadingMapVersion, Obj.announcedVersion, Obj.announcedTick, objKey]
    omega
  · have := State.mem_groupScs hsc
    rw [hkeep'.rdN, hcodes sc hsc]
    simp only [List.mem_cons, List.not_mem_nil, or_false, Obj.loadingTx, Obj.announcedVersion, Obj.announcedTick, objKey]
    omega
  · rw [hkeep' k h0, hkeep k h1 h2 h3]

/-- A counter of the group is none of the registers that show its transmit map. -/
theorem grpCounter_outside {r g i : Nat} (hr : r < 4) (hg : g < 8) (hi : 19 ≤ i ∧ i < 256) :
    objKey (0x2140 + 0x200 * r + g) i ∉ [Obj.announcedVersion r g, Obj.announcedTick r g] ∧
    objKey (0x2140 + 0x200 * r + g) i ≠ Obj.loadingMapVersion r g ∧ objKey (0x2140 + 0x200 * r + g) i ≠ Obj.codedBitsTx r ∧
    (∀ sc, sc < 64 → objKey (0x2140 + 0x200 * r + g) i ≠ Obj.loadingTx r sc) := by
  simp only [List.mem_cons, List.not_mem_nil, or_false, Obj.loadingMapVersion, Obj.announcedVersion, Obj.announcedTick, Obj.codedBitsTx,
    Obj.loadingTx, objKey]
  exact ⟨by omega, by omega, by omega, fun sc hsc => by omega⟩

theorem loadingSwitch_switches (r : Fin 4) (g : Fin 8) (a : Announce) (ha : (s.load r g).ann = some a) (hc : a.committed = true)
    (ht : a.at_ ≤ s.core.tick) :
    Completes (.loadingSwitch r g) s (fun t =>
      t.load r g = { s.load r g with tx := some a.map, lastVersion := a.map.version, lastSwitch := a.at_, ann := none
                                     cand := if s.rdN (Obj.loadingMode r g) = 2 then (s.load r g).cand else none } ∧
      t.rdN (Obj.loadingMapVersion r g) = a.map.version ∧ t.rdN (Obj.announcedVersion r g) = 0 ∧
      (∀ sc ∈ s.groupScs r g, t.rdN (Obj.loadingTx r sc) = a.map.code sc) ∧
      t.rdN (Obj.mapSwitches r g) = (s.rdN (Obj.mapSwitches r g) + 1) % 2 ^ 64 ∧
      (∀ q h, 8 * q + h ≠ 8 * r.val + g.val → t.load q h = s.load q h) ∧
      t.core = { s.core with inFlight := s.core.inFlight ++ [⟨0x4040, 0x2140 + 0x200 * r.val + g.val, a.map.version, s.core.tick,
        s.life⟩] }) := by
  have hexec : exec (.loadingSwitch r g) s = .next (((((s.setLoad r g { s.load r g with
      tx := some a.map, lastVersion := a.map.version, lastSwitch := a.at_, ann := none
      cand := if s.rdN (Obj.loadingMode r g) = 2 then (s.load r g).cand else none }).showTx r g).showAnn r g).inc
      (Obj.mapSwitches r g)).raise 0x4040 (grpSource r g) a.map.version) := by
    show Host.Outcome.next (s.loadingSwitchDue r g) = _
    unfold State.loadingSwitchDue
    rw [ha]
    dsimp only
    rw [if_pos ⟨hc, ht⟩] <;> rfl
  generalize hx : ({ s.load r g with
      tx := some a.map, lastVersion := a.map.version, lastSwitch := a.at_, ann := none
      cand := if s.rdN (Obj.loadingMode r g) = 2 then (s.load r g).cand else none } : Load) = x at hexec
  have hload : (s.setLoad r g x).load r g = x := State.setLoad_load ..
  have hothers (q h : Nat) (hne : 8 * q + h ≠ 8 * r.val + g.val) := s.setLoad_other x hne
  have hrdN (k : Nat) : (s.setLoad r g x).rdN k = s.rdN k := rfl
  have hscs : (s.setLoad r g x).groupScs r g = s.groupScs r g := rfl
  have hcore : (s.setLoad r g x).core = s.core ∧ (s.setLoad r g x).life = s.life := ⟨rfl, rfl⟩
  generalize s.setLoad r g x = v at *
  have hmap : v.txMap r g = a.map := by
    unfold State.txMap
    rw [hload, ← hx] <;> rfl
  obtain ⟨hregs, hver, hann, hcodes, hkeep⟩ := v.shownTx_spec r g r.isLt g.isLt (by rw [hload, ← hx])
  rw [hmap] at hver hcodes
  have hl (q h : Nat) := hregs.load q h
  have hco := hregs.core
  have hli := hregs.life
  generalize (v.showTx r g).showAnn r g = w at *
  have hl' (q h : Nat) : ((w.inc (Obj.mapSwitches r g)).raise 0x4040 (grpSource r g) a.map.version).load q h = w.load q h := rfl
  have hk (k : Nat) (hk : k ≠ Obj.mapSwitches r g) :
      ((w.inc (Obj.mapSwitches r g)).raise 0x4040 (grpSource r g) a.map.version).rdN k = w.rdN k := by
    rw [State.raise_rdN, State.inc_rdN_ne (h := hk)]
  refine .intro hexec ⟨?_, ?_, ?_, fun sc hsc => ?_, ?_, fun q h hne => ?_, ?_⟩
  · rw [hl', hl, hload]
  · rw [hk _ (by simp only [Obj.mapSwitches, Obj.loadingMapVersion, objKey]; omega), hver]
  · rw [hk _ (by simp only [Obj.mapSwitches, Obj.announcedVersion, objKey]; omega), hann]
  · have := State.mem_groupScs hsc
    rw [hk _ (by simp only [Obj.mapSwitches, Obj.loadingTx, objKey]; omega), hcodes sc (by rw [hscs]; exact hsc)]
  · obtain ⟨h0, h1, h2, h3⟩ := grpCounter_outside (i := 22) r.isLt g.isLt (by decide)
    rw [State.raise_rdN, State.inc_rdN_self, ← hrdN]
    unfold State.rdN
    rw [hkeep (Obj.mapSwitches r g) h0 h1 h2 h3]
  · rw [hl', hl, hothers q h hne]
  · show ({ w.core with inFlight := w.core.inFlight ++ [⟨0x4040, _, _, w.core.tick, w.life⟩] } : CoreSt) = _
    rw [hco, hli, hcore.1, hcore.2] <;> rfl

/-- A change of the map in force is counted (R173). -/
theorem State.switchCounted_spec (s : State) (r g : Nat) (b : Bool) : RegsOnly s (if b = true then s.inc (Obj.mapSwitches r g) else s) ∧
    KeepsRegs [Obj.mapSwitches r g] s (if b = true then s.inc (Obj.mapSwitches r g) else s) := by
  split
  · exact ⟨RegsOnly.refl.inc _, by simp⟩
  · exact ⟨.refl, keepsRegs_self⟩

/-- The probe map put into force on transmit (R163): the announcement, the candidate and the report are gone. -/
theorem State.txToProbe_spec (s : State) {r g : Nat} (hr : r < 4) (hg : g < 8) : ∃ x y, s.txToProbe r g = { s with regs := x, loads := y } ∧
    ((s.txToProbe r g).load r g).tx = none ∧ ((s.txToProbe r g).load r g).ann = none ∧ ((s.txToProbe r g).load r g).report = none ∧
    (s.txToProbe r g).rdN (Obj.loadingMapVersion r g) = 0 ∧ (s.txToProbe r g).groupScs r g = s.groupScs r g ∧
    (s.txToProbe r g).rdN (Obj.restarts r g) = s.rdN (Obj.restarts r g) := by
  have hop : ∃ l, s.txToProbe r g = ((if (s.load r g).tx.isSome = true then (s.setLoad r g { s.load r g with
      tx := none, cand := none, ann := none, report := none, lastSwitch := l }).inc (Obj.mapSwitches r g) else s.setLoad r g { s.load r g with
      tx := none, cand := none, ann := none, report := none, lastSwitch := l }).showTx r g).showAnn r g := ⟨_, rfl⟩
  obtain ⟨l, hop⟩ := hop
  rw [hop]
  generalize hx : ({ s.load r g with tx := none, cand := none, ann := none, report := none, lastSwitch := l } : Load) = x
  have hload : (s.setLoad r g x).load r g = x := State.setLoad_load ..
  have hrd (k : Nat) : (s.setLoad r g x).rd k = s.rd k := rfl
  have hshape : ∃ y, s.setLoad r g x = { s with loads := y } := ⟨_, rfl⟩
  generalize s.setLoad r g x = v at *
  obtain ⟨hregs, hkeep⟩ := v.switchCounted_spec r g (s.load r g).tx.isSome
  generalize (if (s.load r g).tx.isSome = true then v.inc (Obj.mapSwitches r g) else v) = w at *
  have hwload : w.load r g = x := (hregs.load r g).trans hload
  have hmap : (w.txMap r g).version = 0 := by
    unfold State.txMap
    rw [hwload, ← hx]
    rfl
  obtain ⟨hregs', hver, -, -, hkeep'⟩ := w.shownTx_spec r g hr hg (by rw [hwload, ← hx])
  have hread (k : Nat) (h : k ≠ Obj.mapSwitches r g) (h0 : k ∉ [Obj.announcedVersion r g, Obj.announcedTick r g])
      (h1 : k ≠ Obj.loadingMapVersion r g) (h2 : k ≠ Obj.codedBitsTx r) (h3 : ∀ sc, sc < 64 → k ≠ Obj.loadingTx r sc) :
      ((w.showTx r g).showAnn r g).rd k = s.rd k := by
    rw [hkeep' k h0 h1 h2 h3, hkeep k fun hc => h (List.mem_singleton.1 hc), hrd]
  have hl := (hregs'.load r g).trans hwload
  obtain ⟨y, hy⟩ := hshape
  obtain ⟨z, hz⟩ := hregs.trans hregs'
  refine ⟨z, y, by rw [hz, hy], ?_, ?_, ?_, hver.trans hmap, ?_, ?_⟩
  · rw [hl, ← hx]
  · rw [hl, ← hx]
  · rw [hl, ← hx]
  · refine State.groupScs_congr (hread _ ?_ ?_ ?_ ?_ ?_) (hread _ ?_ ?_ ?_ ?_ ?_)
    all_goals
      simp only [List.mem_cons, List.not_mem_nil, or_false, Obj.firstSubcarrier, Obj.subcarrierCount, Obj.mapSwitches,
        Obj.announcedVersion, Obj.announcedTick, Obj.loadingMapVersion, Obj.codedBitsTx, Obj.loadingTx, objKey]
      omega
  · obtain ⟨h0, h1, h2, h3⟩ := grpCounter_outside (i := 24) hr hg (by decide)
    unfold State.rdN
    rw [hread (Obj.restarts r g) (by simp only [Obj.restarts, Obj.mapSwitches, objKey]; omega) h0 h1 h2 h3]

theorem State.rttClear_rdN (s : State) (r : Fin 4) (g : Fin 8) {k : Nat} (h : k ≠ Obj.ackRtt r g) :
    (s.rttClear (8 * r + g)).rdN k = s.rdN k := by
  have hr : (8 * r.val + g.val) / 8 = r ∧ (8 * r.val + g.val) % 8 = g := by omega
  unfold State.rttClear
  rw [hr.1, hr.2, State.wrN_rdN_ne (h := h), State.rdN_upd]

theorem State.setLoad_groupScs (s : State) (r g q h : Nat) (x : Load) : (s.setLoad r g x).groupScs q h = s.groupScs q h :=
  State.groupScs_congr rfl rfl

/-- What a restart does beside the probe map's coming into force (R175, R287). -/
def State.restarted (s : State) (r g cause : Nat) : State :=
  let x := s.load r g
  let s := s.setLoad r g { x with
    restart := none, window := [], fromHistory := true, histOn := false, curTicks := 0, fixedDue := 1 }
  let s := s.each (s.groupScs r g) (fun s sc => s.wr (Obj.snrAvg r sc) (-32768))
  ((s.inc (Obj.restarts r g)).raise 0x4044 (grpSource r g) cause).rttClear (8 * r + g)

theorem groupRestart_restarts (r : Fin 4) (g : Fin 8) (cause due : Nat) (h : (s.load r g).restart = some (cause, due))
    (hd : due ≤ s.core.tick) :
    Completes (.groupRestart r g) s (fun t =>
      (t.load r g).tx = none ∧ (t.load r g).ann = none ∧ (t.load r g).report = none ∧ (t.load r g).window = [] ∧
      (t.load r g).restart = none ∧ (t.load r g).fromHistory = true ∧ t.rdN (Obj.loadingMapVersion r g) = 0 ∧
      (∀ sc ∈ s.groupScs r g, t.rd (Obj.snrAvg r sc) = -32768) ∧
      t.rdN (Obj.restarts r g) = (s.rdN (Obj.restarts r g) + 1) % 2 ^ 64 ∧
      t.core = { s.core with inFlight := s.core.inFlight ++ [⟨0x4044, 0x2140 + 0x200 * r.val + g.val, cause, s.core.tick, s.life⟩] }) := by
  obtain ⟨x, y, hshape, htx, hann, hrep, hver, hscs, hcount⟩ := s.txToProbe_spec r.isLt g.isLt
  have hcore : (s.txToProbe r g).core = s.core ∧ (s.txToProbe r g).life = s.life := by
    rw [hshape]
    exact ⟨rfl, rfl⟩
  clear hshape
  have hexec : exec (.groupRestart r g) s = .next ((s.txToProbe r g).restarted r g cause) := by
    show Host.Outcome.next (s.restartDue r g) = _
    unfold State.restartDue
    rw [h]
    exact congrArg Host.Outcome.next (if_pos hd)
  unfold State.restarted at hexec
  dsimp only at hexec
  rw [State.setLoad_groupScs, hscs] at hexec
  generalize s.txToProbe r g = p at *
  generalize hx' : ({ p.load r g with restart := none, window := [], fromHistory := true, histOn := false, curTicks := 0, fixedDue := 1 } :
    Load) = l at hexec
  have hload : (p.setLoad r g l).load r g = l := State.setLoad_load ..
  have hrdN (k : Nat) : (p.setLoad r g l).rdN k = p.rdN k := rfl
  have hcore' : (p.setLoad r g l).core = p.core ∧ (p.setLoad r g l).life = p.life := ⟨rfl, rfl⟩
  generalize p.setLoad r g l = v at *
  obtain ⟨hregs, hkeep, hval⟩ := State.each_wr_spec (Obj.snrAvg r) (fun _ _ => -32768) (s.groupScs r g) v
    (fun a _ b _ hab => by simp only [Obj.snrAvg, objKey] at hab; omega) (fun _ _ _ _ _ => rfl)
  have hl := (hregs.load r g).trans hload
  have hco := hregs.core
  have hli := hregs.life
  generalize State.each v _ _ = w at *
  have hw (k : Nat) (h1 : k ≠ Obj.restarts r g) (h2 : k ≠ Obj.ackRtt r g) :
      (((w.inc (Obj.restarts r g)).raise 0x4044 (grpSource r g) cause).rttClear (8 * r + g)).rd k = w.rd k := by
    unfold State.rttClear
    have hr : (8 * r.val + g.val) / 8 = r ∧ (8 * r.val + g.val) % 8 = g := by omega
    rw [hr.1, hr.2, State.wrN_rd_ne (h := h2)]
    exact State.wrN_rd_ne (h := h1) ..
  have hout (k : Nat) (hk : k / 256 = 0x2140 + 0x200 * r.val + g.val) : ∀ sc ∈ s.groupScs r g, k ≠ Obj.snrAvg r sc := fun sc hsc => by
    have := State.mem_groupScs hsc
    simp only [Obj.snrAvg, objKey]
    omega
  have hl' : (((w.inc (Obj.restarts r g)).raise 0x4044 (grpSource r g) cause).rttClear (8 * r + g)).load r g = l := hl
  have hrtt : Obj.restarts r g ≠ Obj.ackRtt r g := by simp only [Obj.restarts, Obj.ackRtt, objKey]; omega
  refine .intro hexec ⟨?_, ?_, ?_, ?_, ?_, ?_, ?_, fun sc hsc => ?_, ?_, ?_⟩
  · rw [hl', ← hx']
    exact htx
  · rw [hl', ← hx']
    exact hann
  · rw [hl', ← hx']
    exact hrep
  · rw [hl', ← hx']
  · rw [hl', ← hx']
  · rw [hl', ← hx']
  · rw [← hver, ← hrdN]
    unfold State.rdN
    rw [hw _ (by simp only [Obj.loadingMapVersion, Obj.restarts, objKey]; omega)
      (by simp only [Obj.loadingMapVersion, Obj.ackRtt, objKey]; omega),
      hkeep _ (hout _ (by simp only [Obj.loadingMapVersion, objKey]; omega))]
  · have := State.mem_groupScs hsc
    rw [hw _ (by simp only [Obj.snrAvg, Obj.restarts, objKey]; omega) (by simp only [Obj.snrAvg, Obj.ackRtt, objKey]; omega), hval sc hsc]
  · rw [State.rttClear_rdN _ _ _ hrtt, State.raise_rdN, State.inc_rdN_self, ← hcount, ← hrdN]
    unfold State.rdN
    rw [hkeep _ (hout _ (by simp only [Obj.restarts, objKey]; omega))]
  · show ({ w.core with inFlight := w.core.inFlight ++ [⟨0x4044, _, _, w.core.tick, w.life⟩] } : CoreSt) = _
    rw [hco, hli, hcore'.1, hcore'.2, hcore.1, hcore.2] <;> rfl

/-- The register of a path's profile (R176). -/
def historyKey (r p sc : Nat) : Nat := if p = 0 then Obj.historyPath0 r sc else Obj.historyPath1 r sc

theorem historyKey_eq (r p sc : Nat) : historyKey r p sc = objKey (0x2100 + 0x200 * r + sc) (if p = 0 then 8 else 9) := by
  unfold historyKey
  split
  · rfl
  · rfl

theorem State.quality_wr (t : State) {r g p a b : Nat} (x : Int) (ha : a < 64) : (t.wr (historyKey r p a) x).quality r g b = t.quality r g b := by
  have hne (k : Nat) (h : ∀ sc, sc < 64 → k ≠ objKey (0x2100 + 0x200 * r + sc) 8 ∧ k ≠ objKey (0x2100 + 0x200 * r + sc) 9) :
      (t.wr (historyKey r p a) x).rd k = t.rd k := by
    refine State.wr_rd_ne _ _ _ _ ?_
    rw [historyKey_eq]
    split
    · exact (h a ha).1
    · exact (h a ha).2
  unfold State.quality State.load
  rw [hne _ fun sc hsc => by simp only [Obj.snrAvg, objKey]; omega, hne _ fun sc hsc => by simp only [Obj.shortfallMargin, objKey]; omega,
    hne _ fun sc hsc => by simp only [Obj.loadingMargin, objKey]; omega] <;> rfl

theorem historyCapture_copies (r : Fin 4) (g : Fin 8) (hx : (s.load r g).rxCur.isSome = true) (hf : s.inFrame r g = true)
    (hw : s.rdN (Obj.loadingWindow r g) ≤ (s.load r g).curTicks) (hq : ∀ sc ∈ s.groupScs r g, s.quality r g sc ≠ 0) :
    Completes (.historyCapture r g) s (fun t => t = { s with regs := t.regs } ∧
      (∀ sc ∈ s.groupScs r g,
        t.rdN (if s.pathOf r = 0 then Obj.historyPath0 r sc else Obj.historyPath1 r sc) = s.quality r g sc) ∧
      t.rdN (Obj.historyValid r g) = setBit (s.rdN (Obj.historyValid r g)) (s.pathOf r) true) := by
  have hexec : exec (.historyCapture r g) s = .next
      ((s.each (s.groupScs r g) (fun t sc => t.wr (historyKey r (s.pathOf r) sc) (t.quality r g sc : Nat))).wrN (Obj.historyValid r g)
        (setBit ((s.each (s.groupScs r g) (fun t sc => t.wr (historyKey r (s.pathOf r) sc) (t.quality r g sc : Nat))).rdN
          (Obj.historyValid r g)) (s.pathOf r) true)) :=
    if_pos ⟨hx, hf, hw, List.all_eq_true.2 fun sc hsc => by simpa using hq sc hsc⟩
  obtain ⟨hregs, hkeep, hval⟩ := State.each_wr_spec (historyKey r (s.pathOf r)) (fun t sc => (t.quality r g sc : Nat)) (s.groupScs r g) s
    (fun a _ b _ hab => by simp only [historyKey_eq, objKey] at hab; omega)
    (fun t a x b ha => congrArg Int.ofNat (t.quality_wr x (State.mem_groupScs ha)))
  generalize State.each s _ _ = v at *
  refine .intro hexec ⟨(hregs.wrN _ _).eq, fun sc hsc => ?_, ?_⟩
  · have hlt := State.mem_groupScs hsc
    show (v.wrN _ _).rdN (historyKey r (s.pathOf r) sc) = _
    rw [State.wrN_rdN_ne]
    · unfold State.rdN
      rw [hval sc hsc] <;> rfl
    · rw [historyKey_eq]
      simp only [Obj.historyValid, objKey]
      split
      · omega
      · omega
  · rw [State.wrN_rdN_self]
    unfold State.rdN
    rw [hkeep _ fun sc hsc => by
      have := State.mem_groupScs hsc
      rw [historyKey_eq]
      simp only [Obj.historyValid, objKey]
      split
      · omega
      · omega]

theorem shortfallMarginExpiry_ends (r : Fin 4) (g : Fin 8) (hx : (s.load r g).xOn = true) (ht : (s.load r g).xTick + 10000 ≤ s.core.tick) :
    Completes (.shortfallMarginExpiry r g) s (fun t => t = { s with loads := t.loads } ∧
      t.load r g = { s.load r g with xOn := false } ∧ (∀ q h, 8 * q + h ≠ 8 * r.val + g.val → t.load q h = s.load q h)) :=
  .intro (if_pos ⟨hx, ht⟩) ⟨rfl, State.setLoad_load .., fun _ _ hne => State.setLoad_other _ _ hne⟩

/-- Settles O13. -/
theorem loadingAnnouncesSwitchesAndRestarts : Obligations.LoadingAnnouncesSwitchesAndRestarts := by
  unfold Obligations.LoadingAnnouncesSwitchesAndRestarts
  exact ⟨fun _ r g a ha hc ht hp => loadingDeadline_postpones r g a ha hc ht hp,
    fun _ r g a ha hc ht hp => loadingDeadline_abandons r g a ha hc ht hp,
    fun _ r g a ha hc ht => loadingSwitch_switches r g a ha hc ht,
    fun _ r g cause due h hd => groupRestart_restarts r g cause due h hd,
    fun _ r g hx hf hw hq => historyCapture_copies r g hx hf hw hq, fun _ r g hx ht => shortfallMarginExpiry_ends r g hx ht⟩

end

section
variable {s : State}

theorem bankState_ne {r : Nat} : Obj.bankBState r ≠ Obj.bankAState r := by
  simp only [Obj.bankBState, Obj.bankAState, objKey]
  omega

/-- A bank that loads is READY once its time has come (R189). -/
def State.bankReady (s : State) (k due : Nat) : State := if s.rdN k = 0 ∧ due ≤ s.core.tick then s.wrN k 1 else s

theorem State.bankReady_spec (s : State) (k due : Nat) : RegsOnly s (s.bankReady k due) ∧
    (s.bankReady k due).rdN k = (if s.rdN k = 0 ∧ due ≤ s.core.tick then 1 else s.rdN k) ∧ KeepsRegs [k] s (s.bankReady k due) := by
  unfold State.bankReady
  split
  · exact ⟨RegsOnly.refl.wrN _ _, State.wrN_rdN_self .., by simp⟩
  · exact ⟨.refl, rfl, keepsRegs_self⟩

theorem cdBankReady_readies (r : Fin 4) :
    Completes (.cdBankReady r) s (fun t => t = { s with regs := t.regs } ∧
      t.rdN (Obj.bankAState r) =
        (if s.rdN (Obj.bankAState r) = 0 ∧ (s.cd r).readyA ≤ s.core.tick then 1 else s.rdN (Obj.bankAState r)) ∧
      t.rdN (Obj.bankBState r) =
        (if s.rdN (Obj.bankBState r) = 0 ∧ (s.cd r).readyB ≤ s.core.tick then 1 else s.rdN (Obj.bankBState r)) ∧
      KeepsRegs [Obj.bankAState r, Obj.bankBState r] s t) := by
  have hexec : exec (.cdBankReady r) s =
      .next ((s.bankReady (Obj.bankAState r) (s.cd r).readyA).bankReady (Obj.bankBState r) (s.cd r).readyB) := rfl
  obtain ⟨hregs, hself, hkeep⟩ := s.bankReady_spec (Obj.bankAState r) (s.cd r).readyA
  generalize s.bankReady _ _ = v at *
  obtain ⟨hregs', hself', hkeep'⟩ := v.bankReady_spec (Obj.bankBState r) (s.cd r).readyB
  rw [hkeep.rdN (by simp only [List.mem_singleton]; exact bankState_ne), hregs.core] at hself'
  refine .intro hexec ⟨(hregs.trans hregs').eq, ?_, hself', fun k hk => ?_⟩
  · rw [hkeep'.rdN (by simp only [List.mem_singleton]; exact bankState_ne.symm), hself]
  · simp only [List.mem_cons, List.not_mem_nil, or_false, not_or] at hk
    rw [hkeep' k (by simp [hk]), hkeep k (by simp [hk])]

/-- The value in force shown: no register of the banks and none of the trim changes. -/
theorem State.showCd_spec (s : State) (r : Nat) : ∃ x e, s.showCd r = { s with regs := x, eq := e } ∧
    (∀ k, k ≠ Obj.cdInForce r → k ≠ Obj.rxDspLatency r → (s.showCd r).rd k = s.rd k) ∧
    (∃ b, (s.showCd r).cd r = { s.cd r with bulk := b }) := by
  unfold State.showCd
  dsimp only
  refine ⟨_, _, rfl, fun k h1 h2 => ?_, _, State.setCd_cd ..⟩
  rw [State.wrN_rd_ne (h := h2), State.wr_rd_ne (h := h1), State.setCd_rd]

/-- What a value in force is made of lies in other registers than those that show it. -/
theorem State.cdInForceVal_congr {u : State} {r : Nat} (h : ∀ k, k ∈ [Obj.cdActiveBank r, Obj.bankACd r, Obj.bankBCd r, Obj.cdTrim r] →
    u.rd k = s.rd k) : u.cdInForceVal r = s.cdInForceVal r := by
  unfold State.cdInForceVal State.cdActive State.rdN
  rw [h _ (by simp), h _ (by simp), h _ (by simp), h _ (by simp)]

/-- The trim is put, and shown (R193). -/
theorem State.trimShown_spec (s : State) {r : Nat} (hr : r < 4) (w : Int) :
    ∃ u x e, (s.wr (Obj.cdTrim r) (w - s.cdActive r)).showCd r = u ∧ u = { s with regs := x, eq := e } ∧
    u.cdInForceVal r = w ∧ u.rd (Obj.cdTrim r) = w - s.cdActive r ∧ (∃ b, u.cd r = { s.cd r with bulk := b }) := by
  have hne : Obj.cdActiveBank r ≠ Obj.cdTrim r ∧ Obj.bankACd r ≠ Obj.cdTrim r ∧ Obj.bankBCd r ≠ Obj.cdTrim r ∧
      (∀ k, k ∈ [Obj.cdActiveBank r, Obj.bankACd r, Obj.bankBCd r, Obj.cdTrim r] → k ≠ Obj.cdInForce r ∧ k ≠ Obj.rxDspLatency r) := by
    simp only [List.mem_cons, List.not_mem_nil, or_false, Obj.cdActiveBank, Obj.cdTrim, Obj.bankACd, Obj.bankBCd, Obj.cdInForce,
      Obj.rxDspLatency, objKey]
    exact ⟨by omega, by omega, by omega, fun k hk => by omega⟩
  obtain ⟨h1, h2, h3, hout⟩ := hne
  have hval : (s.wr (Obj.cdTrim r) (w - s.cdActive r)).cdInForceVal r = w := by
    have hact : (s.wr (Obj.cdTrim r) (w - s.cdActive r)).cdActive r = s.cdActive r := by
      generalize w - s.cdActive r = d
      unfold State.cdActive State.rdN
      rw [State.wr_rd_ne (h := h1), State.wr_rd_ne (h := h2), State.wr_rd_ne (h := h3)]
    unfold State.cdInForceVal
    rw [hact, State.wr_rd_self]
    omega
  have htrim : (s.wr (Obj.cdTrim r) (w - s.cdActive r)).rd (Obj.cdTrim r) = w - s.cdActive r := State.wr_rd_self ..
  have hcd : (s.wr (Obj.cdTrim r) (w - s.cdActive r)).cd r = s.cd r := rfl
  have hshape : ∃ x, s.wr (Obj.cdTrim r) (w - s.cdActive r) = { s with regs := x } := ⟨_, rfl⟩
  generalize s.wr (Obj.cdTrim r) (w - s.cdActive r) = v at *
  obtain ⟨x, e, heq, hkeep, b, hb⟩ := v.showCd_spec r
  obtain ⟨y, hy⟩ := hshape
  have hread (k : Nat) (hk : k ∈ [Obj.cdActiveBank r, Obj.bankACd r, Obj.bankBCd r, Obj.cdTrim r]) : (v.showCd r).rd k = v.rd k :=
    hkeep k (hout k hk).1 (hout k hk).2
  exact ⟨_, x, e, rfl, by rw [heq, hy], (State.cdInForceVal_congr hread).trans hval, (hread _ (by simp)).trans htrim, b, by rw [hb, hcd]⟩

/-- A value within the limits comes into force as it is (R193). -/
theorem State.cdPut_within (s : State) {r : Nat} (hr : r < 4) {v : Int} (hlo : -160000 ≤ v) (hhi : v ≤ 160000) :
    ∃ u x e, s.cdPut r v = u ∧ u = { s with regs := x, eq := e } ∧ u.cdInForceVal r = v ∧ u.rd (Obj.cdTrim r) = v - s.cdActive r ∧
    (∃ b l, u.cd r = { s.cd r with bulk := b, limited := l }) := by
  have hclamp : clampInt (-160000) 160000 v = v := by unfold clampInt; omega
  obtain ⟨u, x, e, hu, heq, hval, htrim, b, hb⟩ := s.trimShown_spec hr v
  have hput : ∃ l, s.cdPut r v = u.setCd r { u.cd r with limited := l } := by
    unfold State.cdPut
    dsimp only
    rw [hclamp, hu]
    exact ⟨_, if_neg (fun hc => hc.1 rfl)⟩
  obtain ⟨l, hput⟩ := hput
  refine ⟨_, u.regs, (u.setCd r { u.cd r with limited := l }).eq, hput, by rw [heq]; rfl, ?_, htrim, b, l, ?_⟩
  · exact (State.cdInForceVal_congr fun _ _ => rfl).trans hval
  · rw [State.setCd_cd, hb]

theorem cdSearch_puts (r : Fin 4) (hm : s.rdN (Obj.cdMode r) = 1 ∨ s.rdN (Obj.cdMode r) = 2) (hrel : s.released (domReach r) = true)
    (hf : s.reachInFrame r = false) (hn : 20 ≤ (s.cd r).noFrame) (ht : (s.cd r).searchFrom + 20 ≤ s.core.tick)
    (hsw : (s.cd r).swappedAt ≠ some s.core.tick) (hfar : 500 < ((s.cd r).blind - s.cdInForceVal r).natAbs)
    (hlo : -160000 ≤ (s.cd r).blind) (hhi : (s.cd r).blind ≤ 160000) :
    Completes (.cdSearch r) s (fun t =>
      t.cdInForceVal r = (s.cd r).blind ∧ (t.cd r).searchFrom = s.core.tick ∧ (t.cd r).noFrame = 0 ∧
      t.core = { s.core with inFlight := s.core.inFlight ++ [⟨0x4051, 0x2080 + 0x200 * r.val, ((s.cd r).blind % 2 ^ 32).toNat,
        s.core.tick, s.life⟩] } ∧ t.agent = s.agent) := by
  obtain ⟨u, x, e, hu, heq, hval, htrim, b, l, hcd⟩ := s.cdPut_within r.isLt hlo hhi
  have hmoved : ¬ u.rd (Obj.cdTrim r) = s.rd (Obj.cdTrim r) := by
    rw [htrim]
    unfold State.cdInForceVal at hfar
    omega
  have hexec : exec (.cdSearch r) s = .next ((u.setCd r { u.cd r with searchFrom := u.core.tick, noFrame := 0 }).raise 0x4051
      (0x2080 + 0x200 * r) ((u.setCd r { u.cd r with searchFrom := u.core.tick, noFrame := 0 }).cdInForceVal r % 2 ^ 32).toNat) := by
    show execCdSearch r s = _
    unfold execCdSearch
    dsimp only
    rw [if_pos ⟨hm, hrel, by rw [hf]; exact Bool.false_ne_true, hn, ht, hsw, hfar⟩, hu, if_neg hmoved]
  have hval' : (u.setCd r { u.cd r with searchFrom := u.core.tick, noFrame := 0 }).cdInForceVal r = (s.cd r).blind :=
    (State.cdInForceVal_congr fun _ _ => rfl).trans hval
  have hcore : u.core = s.core ∧ u.life = s.life ∧ u.agent = s.agent := by
    rw [heq]
    exact ⟨rfl, rfl, rfl⟩
  have hself := State.setCd_cd (s := u) (r := r) (x := { u.cd r with searchFrom := u.core.tick, noFrame := 0 })
  have hcore' : (u.setCd r { u.cd r with searchFrom := u.core.tick, noFrame := 0 }).core = u.core ∧
    (u.setCd r { u.cd r with searchFrom := u.core.tick, noFrame := 0 }).life = u.life ∧
    (u.setCd r { u.cd r with searchFrom := u.core.tick, noFrame := 0 }).agent = u.agent := ⟨rfl, rfl, rfl⟩
  rw [hval'] at hexec
  generalize State.setCd u _ _ = w at *
  refine .intro hexec ⟨?_, ?_, ?_, ?_, hcore'.2.2.trans hcore.2.2⟩
  · exact (State.cdInForceVal_congr fun _ _ => rfl).trans hval'
  · exact (congrArg Cd.searchFrom hself).trans (by rw [hcore.1])
  · exact congrArg Cd.noFrame hself
  · show ({ w.core with inFlight := w.core.inFlight ++ [⟨0x4051, _, _, w.core.tick, w.life⟩] } : CoreSt) = _
    rw [hcore'.1, hcore'.2.1, hcore.1, hcore.2.1]

/-- Tracking goes on while the value in force has not reached the estimate (R192). -/
def State.trackOn (s : State) (r : Nat) (trained : Int) : State :=
  s.setCd r { s.cd r with tracking := decide (s.cdInForceVal r ≠ trained) }

theorem cdTracking_tracks (r : Fin 4) (hm : s.rdN (Obj.cdMode r) = 2) (hrun : (s.cd r).tracking = true ∨ 1000 ≤ (s.cd r).trackRun)
    (hsw : (s.cd r).swappedAt ≠ some s.core.tick) (hlo : -160000 ≤ s.cdInForceVal r) (hhi : s.cdInForceVal r ≤ 160000)
    (hlo' : -160000 ≤ (s.cd r).trained) (hhi' : (s.cd r).trained ≤ 160000) :
    Completes (.cdTracking r) s (fun t =>
      t.cdInForceVal r = s.cdInForceVal r + clampInt (-20) 20 ((s.cd r).trained - s.cdInForceVal r) ∧
      (t.cdInForceVal r - s.cdInForceVal r).natAbs ≤ 20 ∧ ((t.cd r).tracking = true ↔ t.cdInForceVal r ≠ (s.cd r).trained) ∧
      (t.cd r).trackRun = 0 ∧ t.core = s.core) := by
  have hval0 : (s.setCd r { s.cd r with trackRun := 0 }).cdInForceVal r = s.cdInForceVal r := State.cdInForceVal_congr fun _ _ => rfl
  have hexec : exec (.cdTracking r) s = .next (((s.setCd r { s.cd r with trackRun := 0 }).cdPut r ((s.setCd r { s.cd r with
      trackRun := 0 }).cdInForceVal r + clampInt (-20) 20 ((s.cd r).trained - s.cdInForceVal r))).trackOn r (s.cd r).trained) :=
    if_pos ⟨hm, hrun, hsw⟩
  rw [hval0] at hexec
  have hrunSelf := State.setCd_cd (s := s) (r := r) (x := { s.cd r with trackRun := 0 })
  have hcore : (s.setCd r { s.cd r with trackRun := 0 }).core = s.core := rfl
  have hstep : -20 ≤ clampInt (-20) 20 ((s.cd r).trained - s.cdInForceVal r) ∧
      clampInt (-20) 20 ((s.cd r).trained - s.cdInForceVal r) ≤ 20 ∧
      -160000 ≤ s.cdInForceVal r + clampInt (-20) 20 ((s.cd r).trained - s.cdInForceVal r) ∧
      s.cdInForceVal r + clampInt (-20) 20 ((s.cd r).trained - s.cdInForceVal r) ≤ 160000 := by
    unfold clampInt
    omega
  generalize clampInt _ _ _ = d at *
  generalize State.setCd s _ _ = v at *
  obtain ⟨u, x, e, hu, heq, hval, -, b, l, hcd⟩ := v.cdPut_within r.isLt hstep.2.2.1 hstep.2.2.2
  rw [hu] at hexec
  have hcore' : u.core = s.core := by rw [heq, hcore]
  have hself : (u.trackOn r (s.cd r).trained).cd r = { u.cd r with tracking := decide (u.cdInForceVal r ≠ (s.cd r).trained) } :=
    State.setCd_cd ..
  have hval' : (u.trackOn r (s.cd r).trained).cdInForceVal r = u.cdInForceVal r := State.cdInForceVal_congr fun _ _ => rfl
  refine .intro hexec ⟨hval'.trans hval, ?_, ?_, ?_, hcore'⟩
  · rw [hval', hval]
    omega
  · rw [hval', hself]
    exact decide_eq_true_iff
  · rw [hself]
    show (u.cd r).trackRun = 0
    rw [hcd, hrunSelf]

theorem eqModeChange_turns (r : Fin 4) (want : Bool)
    (hw : want = (if s.rdN (Obj.eqTracking r) = 0 then false else if s.rdN (Obj.eqTracking r) = 1 then true
      else if s.rdB (Obj.eqAgile r) then decide (tget (fun _ => 0) s.eq.slow r < 1000)
      else decide (1000 < tget (fun _ => 0) s.eq.peak r))) (hne : want ≠ s.rdB (Obj.eqAgile r)) :
    Completes (.eqModeChange r) s (fun t => t.rdB (Obj.eqAgile r) = want ∧
      t.rdN (Obj.eqModeChanges r) = (s.rdN (Obj.eqModeChanges r) + 1) % 2 ^ 64 ∧
      t = { s with regs := t.regs, core := { s.core with inFlight := s.core.inFlight ++
              [⟨0x4054, 0x2060 + 0x200 * r.val, if want then 1 else 0, s.core.tick, s.life⟩] } } ∧
      KeepsRegs [Obj.eqAgile r, Obj.eqModeChanges r] s t) := by
  have hkeys : Obj.eqAgile r ≠ Obj.eqModeChanges r := by simp only [Obj.eqAgile, Obj.eqModeChanges, objKey]; omega
  have hexec : exec (.eqModeChange r) s = .next (((s.wrN (Obj.eqAgile r) (if want then 1 else 0)).inc (Obj.eqModeChanges r)).raise
      0x4054 (0x2060 + 0x200 * r) (if want then 1 else 0)) := by
    rw [hw] at hne ⊢
    exact if_neg hne
  refine .intro hexec ⟨?_, ?_, rfl, by simp⟩
  · unfold State.rdB
    rw [State.raise_rd, State.inc, State.incBy, State.wrN_rd_ne (h := hkeys), State.wrN_rd_self]
    cases want
    · rfl
    · rfl
  · rw [State.raise_rdN, State.inc_rdN_self, State.wrN_rdN_ne (h := hkeys.symm)]

theorem baselineKeys_ne {r : Nat} : Obj.watchState r ≠ Obj.baselineSop r ∧ Obj.watchState r ≠ Obj.baselinePhase r ∧
    Obj.baselineSop r ≠ Obj.baselinePhase r ∧ Obj.watchState r ≠ Obj.arms r ∧ Obj.watchClass r ≠ Obj.watchState r ∧
    Obj.watchClass r ≠ Obj.arms r := by
  simp only [Obj.watchState, Obj.baselineSop, Obj.baselinePhase, Obj.arms, Obj.watchClass, objKey]
  omega

/-- The watch's record with its baselines seeded (Table 7.5a). -/
def Watch.seeded (w : Watch) (sop phase tap : Nat) : Watch :=
  { w with bSop := sop, bPhase := phase, bTap := tap, count := 0, quiet := 0 }

/-- The watch turns QUIET with baselines, which are shown. -/
theorem State.seeded_spec (s : State) (r sop phase tap : Nat) :
    ∃ x w, ((s.setWatch r ((s.watch r).seeded sop phase tap)).wrN (Obj.watchState r) 1).showBaselines r =
      { s with regs := x, eq := { s.eq with watch := w } } ∧
    (((s.setWatch r ((s.watch r).seeded sop phase tap)).wrN (Obj.watchState r) 1).showBaselines r).watch r =
      (s.watch r).seeded sop phase tap ∧
    (((s.setWatch r ((s.watch r).seeded sop phase tap)).wrN (Obj.watchState r) 1).showBaselines r).rdN (Obj.watchState r) = 1 ∧
    (((s.setWatch r ((s.watch r).seeded sop phase tap)).wrN (Obj.watchState r) 1).showBaselines r).rdN (Obj.baselineSop r) = sop / 2 ^ 16 ∧
    (((s.setWatch r ((s.watch r).seeded sop phase tap)).wrN (Obj.watchState r) 1).showBaselines r).rdN (Obj.baselinePhase r) =
      phase / 2 ^ 16 ∧
    KeepsRegs [Obj.watchState r, Obj.baselineSop r, Obj.baselinePhase r] s
      (((s.setWatch r ((s.watch r).seeded sop phase tap)).wrN (Obj.watchState r) 1).showBaselines r) := by
  obtain ⟨h1, h2, h3, -⟩ := baselineKeys_ne (r := r)
  have hself : ((s.setWatch r ((s.watch r).seeded sop phase tap)).wrN (Obj.watchState r) 1).watch r = (s.watch r).seeded sop phase tap :=
    State.setWatch_watch ..
  have hstate : ((s.setWatch r ((s.watch r).seeded sop phase tap)).wrN (Obj.watchState r) 1).rdN (Obj.watchState r) = 1 :=
    State.wrN_rdN_self ..
  have hkeep : KeepsRegs [Obj.watchState r] s ((s.setWatch r ((s.watch r).seeded sop phase tap)).wrN (Obj.watchState r) 1) := fun k hk =>
    State.wrN_rd_ne (s.setWatch r _) _ _ _ fun hc => hk (hc ▸ List.mem_singleton_self _)
  have hshape : ∃ x w, (s.setWatch r ((s.watch r).seeded sop phase tap)).wrN (Obj.watchState r) 1 =
    { s with regs := x, eq := { s.eq with watch := w } } := ⟨_, _, rfl⟩
  generalize State.wrN _ _ _ = v at *
  have hshow : v.showBaselines r = (v.wrN (Obj.baselineSop r) (sop / 2 ^ 16)).wrN (Obj.baselinePhase r) (phase / 2 ^ 16) := by
    unfold State.showBaselines
    dsimp only
    rw [hself] <;> rfl
  obtain ⟨x, w, hx⟩ := hshape
  rw [hshow]
  generalize sop / 2 ^ 16 = m
  generalize phase / 2 ^ 16 = n
  refine ⟨_, w, by rw [hx]; rfl, hself, ?_, ?_, State.wrN_rdN_self .., fun k hk => ?_⟩
  · rw [State.wrN_rdN_ne (h := h2), State.wrN_rdN_ne (h := h1), hstate]
  · rw [State.wrN_rdN_ne (h := h3), State.wrN_rdN_self]
  · simp only [List.mem_cons, List.not_mem_nil, or_false, not_or] at hk
    rw [State.wrN_rd_ne (h := hk.2.2), State.wrN_rd_ne (h := hk.2.1), hkeep k (by simp [hk])]

theorem watchSuppressEnd_seeds (r : Fin 4) (h : s.rdN (Obj.watchState r) = 0) (hn : s.rdN (Obj.suppressTicks r) ≤ (s.watch r).count)
    (hrel : s.released (domReach r) = true) :
    Completes (.watchSuppressEnd r) s (fun t => t.rdN (Obj.watchState r) = 1 ∧
      (t.watch r).bSop = (s.watch r).sSop * watchUnit / (s.watch r).count ∧
      (t.watch r).bPhase = (s.watch r).sPhase * watchUnit / (s.watch r).count ∧
      (t.watch r).bTap = (s.watch r).sTap * watchUnit / (s.watch r).count ∧
      t.rdN (Obj.baselineSop r) = (t.watch r).bSop / 2 ^ 16 ∧ t.rdN (Obj.baselinePhase r) = (t.watch r).bPhase / 2 ^ 16 ∧
      t = { s with regs := t.regs, eq := { s.eq with watch := t.eq.watch } } ∧
      KeepsRegs [Obj.watchState r, Obj.baselineSop r, Obj.baselinePhase r] s t) := by
  have hexec : exec (.watchSuppressEnd r) s = .next (((s.setWatch r ((s.watch r).seeded
      ((s.watch r).sSop * watchUnit / (s.watch r).count) ((s.watch r).sPhase * watchUnit / (s.watch r).count)
      ((s.watch r).sTap * watchUnit / (s.watch r).count))).wrN (Obj.watchState r) 1).showBaselines r) := if_pos ⟨h, hn, hrel⟩
  generalize (s.watch r).sSop * watchUnit / (s.watch r).count = sop at *
  generalize (s.watch r).sPhase * watchUnit / (s.watch r).count = phase at *
  generalize (s.watch r).sTap * watchUnit / (s.watch r).count = tap at *
  obtain ⟨x, w, heq, hself, hstate, hsop, hphase, hkeep⟩ := s.seeded_spec r sop phase tap
  generalize State.showBaselines _ _ = u at *
  refine .intro hexec ⟨hstate, congrArg Watch.bSop hself, congrArg Watch.bPhase hself, congrArg Watch.bTap hself, ?_, ?_, ?_, hkeep⟩
  · rw [hsop, hself] <;> rfl
  · rw [hphase, hself] <;> rfl
  · rw [heq]

/-- A pre-arm signal goes out where it is enabled (R204). -/
def State.preArmed (s : State) (r : Nat) (on : Bool) : State :=
  if on then { s.setWatch r { s.watch r with sent := on } with eq.prearm := (s.setWatch r { s.watch r with sent := on }).eq.prearm ++ [r] }
  else s.setWatch r { s.watch r with sent := on }

theorem State.preArmed_spec (s : State) (r : Nat) (on : Bool) : ∃ e, s.preArmed r on = { s with eq := e } ∧
    ((s.preArmed r on).watch r).sent = on ∧ e.prearm = s.eq.prearm ++ (if on then [r] else []) ∧ e.disarm = s.eq.disarm := by
  have hself : (s.setWatch r { s.watch r with sent := on }).watch r = _ := State.setWatch_watch ..
  cases on with
  | false => exact ⟨_, rfl, congrArg Watch.sent hself, (List.append_nil _).symm, rfl⟩
  | true => exact ⟨_, rfl, congrArg Watch.sent hself, rfl, rfl⟩

theorem watchArmed_arms (r : Fin 4) (score : Nat) (h : s.rdN (Obj.watchState r) = 2) (ha : s.armScore r = some score) :
    Completes (.watchArmed r) s (fun t => t.rdN (Obj.watchState r) = 3 ∧ (t.watch r).sent = s.rdB (Obj.preArmEnable r) ∧
      t.eq.prearm = s.eq.prearm ++ (if s.rdB (Obj.preArmEnable r) then [r.val] else []) ∧ t.eq.disarm = s.eq.disarm ∧
      t.rdN (Obj.arms r) = (s.rdN (Obj.arms r) + 1) % 2 ^ 64 ∧
      t.core = { s.core with inFlight := s.core.inFlight ++ [⟨0xC056, 0x20A0 + 0x200 * r.val,
        (if s.rdB (Obj.preArmEnable r) then 2 ^ 31 else 0) + s.rdN (Obj.watchClass r) * 65536 + score, s.core.tick, s.life⟩] } ∧
      KeepsRegs [Obj.watchState r, Obj.arms r] s t) := by
  obtain ⟨h1, h2, h3, h4, h5, h6⟩ := baselineKeys_ne (r := r)
  have hexec : exec (.watchArmed r) s = .next ((((s.preArmed r (s.rdB (Obj.preArmEnable r))).wrN (Obj.watchState r) 3).inc (Obj.arms r)).raise
      0xC056 (0x20A0 + 0x200 * r) ((if s.rdB (Obj.preArmEnable r) then 2 ^ 31 else 0) +
        (((s.preArmed r (s.rdB (Obj.preArmEnable r))).wrN (Obj.watchState r) 3).inc (Obj.arms r)).rdN (Obj.watchClass r) * 65536 +
        score)) := by
    refine (if_pos h).trans ?_
    rw [ha] <;> rfl
  obtain ⟨e, heq, hsent, hpre, hdis⟩ := s.preArmed_spec r (s.rdB (Obj.preArmEnable r))
  have hrdN (k : Nat) : (s.preArmed r (s.rdB (Obj.preArmEnable r))).rdN k = s.rdN k := by rw [heq, State.rdN_upd]
  have hrd (k : Nat) : (s.preArmed r (s.rdB (Obj.preArmEnable r))).rd k = s.rd k := by rw [heq, State.rd_upd]
  have hsame : (s.preArmed r (s.rdB (Obj.preArmEnable r))).core = s.core ∧ (s.preArmed r (s.rdB (Obj.preArmEnable r))).life = s.life ∧
      (s.preArmed r (s.rdB (Obj.preArmEnable r))).eq = e := by
    rw [heq]
    exact ⟨rfl, rfl, rfl⟩
  clear heq
  rw [State.inc_rdN_ne (h := h6), State.wrN_rdN_ne (h := h5), hrdN] at hexec
  generalize State.preArmed _ _ _ = v at *
  obtain ⟨hcore, hlife, he⟩ := hsame
  refine .intro hexec ⟨?_, hsent, ?_, ?_, ?_, ?_, fun k hk => ?_⟩
  · rw [State.raise_rdN, State.inc_rdN_ne (h := h4), State.wrN_rdN_self]
  · exact (congrArg EqSt.prearm he).trans hpre
  · exact (congrArg EqSt.disarm he).trans hdis
  · rw [State.raise_rdN, State.inc_rdN_self, State.wrN_rdN_ne (h := h4.symm), hrdN]
  · show ({ v.core with inFlight := v.core.inFlight ++ [⟨0xC056, _, _, v.core.tick, v.life⟩] } : CoreSt) = _
    rw [hcore, hlife]
  · simp only [List.mem_cons, List.not_mem_nil, or_false, not_or] at hk
    rw [State.raise_rd, State.inc, State.incBy, State.wrN_rd_ne (h := hk.2), State.wrN_rd_ne (h := hk.1), hrd]

/-- A disarm signal goes out where the pre-arm signal did (R204). -/
def State.disarmed (s : State) (r : Nat) : State :=
  if s.rdN (Obj.watchState r) = 3 ∧ (s.watch r).sent then { s with eq.disarm := s.eq.disarm ++ [r] } else s

theorem State.disarmed_spec (s : State) (r : Nat) : ∃ e, s.disarmed r = { s with eq := e } ∧ e.prearm = s.eq.prearm ∧
    e.disarm = s.eq.disarm ++ (if s.rdN (Obj.watchState r) = 3 ∧ (s.watch r).sent = true then [r] else []) ∧ e.watch = s.eq.watch := by
  unfold State.disarmed
  split
  · exact ⟨_, rfl, rfl, rfl, rfl⟩
  · exact ⟨_, rfl, rfl, (List.append_nil _).symm, rfl⟩

theorem watchCleared_clears (r : Fin 4) (h : s.rdN (Obj.watchState r) = 2 ∨ s.rdN (Obj.watchState r) = 3)
    (hq : s.rdN (Obj.clearTicks r) ≤ (s.watch r).quiet) :
    Completes (.watchCleared r) s (fun t => t.rdN (Obj.watchState r) = 1 ∧ (t.watch r).sent = false ∧
      t.eq.disarm = s.eq.disarm ++ (if s.rdN (Obj.watchState r) = 3 ∧ (s.watch r).sent = true then [r.val] else []) ∧
      t.eq.prearm = s.eq.prearm ∧
      t.core = { s.core with inFlight := s.core.inFlight ++ [⟨0x4057, 0x20A0 + 0x200 * r.val,
        min (2 ^ 32 - 1) (s.core.tick - (s.watch r).leftQuiet), s.core.tick, s.life⟩] } ∧
      KeepsRegs [Obj.watchState r] s t) := by
  have hexec : exec (.watchCleared r) s = .next ((((s.disarmed r).setWatch r { s.watch r with sent := false }).wrN (Obj.watchState r) 1).raise
      0x4057 (0x20A0 + 0x200 * r)
      (min (2 ^ 32 - 1) (((s.disarmed r).setWatch r { s.watch r with sent := false }).core.tick - (s.watch r).leftQuiet))) := if_pos ⟨h, hq⟩
  obtain ⟨e, heq, hpre, hdis, -⟩ := s.disarmed_spec r
  have hrd (k : Nat) : ((s.disarmed r).setWatch r { s.watch r with sent := false }).rd k = s.rd k := by
    rw [State.setWatch_rd, heq, State.rd_upd]
  have hself := State.setWatch_watch (s := s.disarmed r) (r := r) (x := { s.watch r with sent := false })
  have hcore : ((s.disarmed r).setWatch r { s.watch r with sent := false }).core = s.core ∧
      ((s.disarmed r).setWatch r { s.watch r with sent := false }).life = s.life := by
    rw [heq]
    exact ⟨rfl, rfl⟩
  have heq' : ((s.disarmed r).setWatch r { s.watch r with sent := false }).eq.disarm = e.disarm ∧
      ((s.disarmed r).setWatch r { s.watch r with sent := false }).eq.prearm = e.prearm := by
    rw [heq]
    exact ⟨rfl, rfl⟩
  generalize State.setWatch _ _ _ = v at *
  rw [hcore.1] at hexec
  refine .intro hexec ⟨?_, congrArg Watch.sent hself, heq'.1.trans hdis, heq'.2.trans hpre, ?_, fun k hk => ?_⟩
  · rw [State.raise_rdN, State.wrN_rdN_self]
  · show ({ v.core with inFlight := v.core.inFlight ++ [⟨0x4057, _, _, v.core.tick, v.life⟩] } : CoreSt) = _
    rw [hcore.1, hcore.2]
  · rw [List.mem_singleton] at hk
    rw [State.raise_rd, State.wrN_rd_ne (h := hk), hrd]

/-- Settles O14. -/
theorem dispersionEqualiserAndWatchFollowTheLine : Obligations.DispersionEqualiserAndWatchFollowTheLine := by
  unfold Obligations.DispersionEqualiserAndWatchFollowTheLine
  exact ⟨fun _ r => cdBankReady_readies r,
    fun _ r hm hrel hf hn ht hsw hfar hlo hhi => cdSearch_puts r hm hrel hf hn ht hsw hfar hlo hhi,
    fun _ r hm hrun hsw hlo hhi hlo' hhi' => cdTracking_tracks r hm hrun hsw hlo hhi hlo' hhi',
    fun _ r want hw hne => eqModeChange_turns r want hw hne, fun _ r h hn hrel => watchSuppressEnd_seeds r h hn hrel,
    fun _ r score h ha => watchArmed_arms r score h ha, fun _ r h hq => watchCleared_clears r h hq⟩

end

end Sys2Proof.Machine
end

section
/-! The supervisory converter's slots: what the parts of a slot keep, and how one slot follows another (R432, R434, R437, R439).
-/
open Sys2Proof Sys2Proof.Machine
namespace Sys2Proof.Machine

section
variable {s t u : State}

/-- The registers that a conversion's end shows first, and that nothing after it in the slot writes. -/
def ConvKey (k : Nat) : Prop := k = Obj.conversions ∨ k / 256 = 0x1603

/-- What the parts of a slot keep: the injection list, the tick, and the count and the results shown. -/
structure ConvKeeps (s t : State) : Prop where
  inj : t.sup.inj = s.sup.inj
  tick : t.core.tick = s.core.tick
  rd : ∀ k, ConvKey k → t.rd k = s.rd k

theorem ConvKeeps.refl : ConvKeeps s s := ⟨rfl, rfl, fun _ _ => rfl⟩

theorem ConvKeeps.trans (h : ConvKeeps s t) (g : ConvKeeps t u) : ConvKeeps s u :=
  ⟨g.inj.trans h.inj, g.tick.trans h.tick, fun k hk => (g.rd k hk).trans (h.rd k hk)⟩

theorem ConvKeeps.wr (h : ConvKeeps s t) {j : Nat} (v : Int) (hj : ¬ ConvKey j) : ConvKeeps s (t.wr j v) :=
  ⟨h.inj, h.tick, fun k hk => (State.wr_rd_ne t j k v fun hc => hj (hc ▸ hk)).trans (h.rd k hk)⟩

theorem ConvKeeps.wrN (h : ConvKeeps s t) {j : Nat} (v : Nat) (hj : ¬ ConvKey j) : ConvKeeps s (t.wrN j v) := h.wr _ hj

theorem ConvKeeps.inc (h : ConvKeeps s t) {j : Nat} (hj : ¬ ConvKey j) : ConvKeeps s (t.inc j) := h.wr _ hj

/-- An update of other parts of the state than the registers and the converter's own. -/
theorem ConvKeeps.upd (h : ConvKeeps s t) {core agent} (hc : core.tick = t.core.tick) : ConvKeeps s { t with core := core, agent := agent } :=
  ⟨h.inj, hc.trans h.tick, h.rd⟩

theorem ConvKeeps.sup (h : ConvKeeps s t) {sup} (hs : sup.inj = t.sup.inj) : ConvKeeps s { t with sup := sup } := 
  ⟨hs.trans h.inj, h.tick, h.rd⟩

theorem ConvKeeps.same (h : ConvKeeps s t) (hr : u.regs = t.regs) (hs : u.sup.inj = t.sup.inj) (ht : u.core.tick = t.core.tick) : ConvKeeps s u :=
  ⟨hs.trans h.inj, ht.trans h.tick, fun k hk => (congrArg (fun x => tget _ x k) hr).trans (h.rd k hk)⟩

theorem ConvKeeps.core (h : ConvKeeps s t) {c} (hu : u = { t with core := c }) (hc : u.core.tick = t.core.tick) : ConvKeeps s u := by
  subst hu
  exact h.upd hc

theorem ConvKeeps.onlyIf (h : ConvKeeps s t) {b : Bool} {f : State → State} (hf : ConvKeeps t (f t)) : ConvKeeps s (t.onlyIf b f) := by
  cases b with
  | false => exact h
  | true => exact h.trans hf

theorem ConvKeeps.each (h : ConvKeeps s t) {l : List Nat} {f : State → Nat → State} (hf : ∀ u, ∀ a ∈ l, ConvKeeps u (f u a)) :
    ConvKeeps s (t.each l f) :=
  State.each_mem_inv (ConvKeeps s) l f (fun v a ha hv => hv.trans (hf v a ha)) h

theorem ConvKeeps.raiseLimited (h : ConvKeeps s t) (code source n : Nat) : ConvKeeps s (t.raiseLimited code source n) := by
  obtain ⟨c, hc⟩ := State.raiseLimited_upd (s := t) (code := code) (source := source) (n := n) rfl
  exact h.core hc (State.raiseLimitedFor_tick ..)

theorem not_convKey {a b : Nat} (ha : a ≠ 0x1603) (hb : b < 256) (h : a ≠ 0x1600 ∨ b ≠ 4) : ¬ ConvKey (objKey a b) := by
  unfold ConvKey
  simp only [Obj.conversions, objKey]
  omega

theorem ConvKeeps.nearest (h : ConvKeeps s t) (a : Int) (b : Nat) : ConvKeeps s (t.nearest a b).2 := by
  unfold State.nearest State.draw
  dsimp only
  split
  · exact h
  · split
    · exact h
    · exact h.upd rfl

theorem ConvKeeps.filterWindow (h : ConvKeeps s t) {f : Nat} (hf : f < 32) (y : Int) : ConvKeeps s (t.filterWindow f y) := by
  have hset (x : FilterSt) : ConvKeeps s (t.setFilt f x) := h.sup rfl
  have hmax : ¬ ConvKey (Obj.peakMax f) := not_convKey (by omega) (by decide) (.inl (by omega))
  have hmin : ¬ ConvKey (Obj.peakMin f) := not_convKey (by omega) (by decide) (.inl (by omega))
  have hrms : ¬ ConvKey (Obj.rmsLast f) := not_convKey (by omega) (by decide) (.inl (by omega))
  unfold State.filterWindow State.draw
  dsimp only
  split
  · split
    · exact (((hset _).wr _ hmax).wr _ hmin).wrN _ hrms
    · refine .wrN (.upd (((hset _).wr _ hmax).wr _ hmin) ?_) _ hrms
      rfl
  · exact hset _

theorem ConvKeeps.filterEnvelope (h : ConvKeeps s t) {f : Nat} (hf : f < 32) (y : Int) : ConvKeeps s (t.filterEnvelope f y) := by
  have henv : ¬ ConvKey (Obj.envelope f) := not_convKey (by omega) (by decide) (.inl (by omega))
  have hround (a : Int) (b : Nat) : ConvKeeps s (t.roundFreeInt a b).2 := by
    obtain ⟨n, hn⟩ := t.roundFreeInt_upd a b
    exact h.core hn (by rw [hn])
  unfold State.filterEnvelope
  dsimp only
  split
  · exact (hround _ _).wr _ henv
  · exact (hround _ _).wr _ henv

theorem filterKey {f i : Nat} (hf : f < 32) (hi : i < 256) : ¬ ConvKey (objKey (0x1640 + f) i) := not_convKey (by omega) hi (.inl (by omega))

theorem ConvKeeps.accumulate (h : ConvKeeps s t) {f : Nat} (hf : f < 32) (y a b : Int) (sat : Bool) :
    ConvKeeps s (((((t.wr (Obj.filterOutput f) y).onlyIf sat (fun s => (s.inc (Obj.saturations f)).raiseLimited 0x80F2 (0x1640 + f) 1)).inc
      (Obj.accCount f)).wr (Obj.accSum f) a).wr (Obj.accSumsq f) b) :=
  ((((h.wr _ (filterKey hf (by decide))).onlyIf ((ConvKeeps.refl.inc (filterKey hf (by decide))).raiseLimited _ _ _)).inc
    (filterKey hf (by decide))).wr _ (filterKey hf (by decide))).wr _ (filterKey hf (by decide))

theorem ConvKeeps.filterOutput (h : ConvKeeps s t) {f : Nat} (hf : f < 32) : ConvKeeps s (t.filterOutput f) := by
  have hbank : ¬ ConvKey (Obj.filterActiveBank f) := not_convKey (by omega) (by decide) (.inl (by omega))
  unfold State.filterOutput
  extract_lets x bank0 bank len swapSettle s1 sum
  have h1 : ConvKeeps s s1 := (h.wrN _ hbank).same rfl rfl rfl
  have h2 := h1.nearest sum (2 ^ 17)
  generalize s1.nearest sum (2 ^ 17) = p at h2 ⊢
  obtain ⟨q, s2⟩ := p
  dsimp only
  split
  · exact (h2.accumulate hf _ _ _ _).inc (filterKey hf (by decide))
  · exact ((h2.accumulate hf _ _ _ _).filterWindow hf _).filterEnvelope hf _

theorem ConvKeeps.filterIn (h : ConvKeeps s t) {f : Nat} (hf : f < 32) (code : Nat) : ConvKeeps s (t.filterIn f code) := by
  have hset {u : State} (hu : ConvKeeps s u) (x : FilterSt) : ConvKeeps s (u.setFilt f x) := hu.sup rfl
  unfold State.filterIn
  extract_lets x xs dec integ
  split
  · exact hset h _
  · split
    · exact hset h _
    · generalize cicComb _ _ = p
      obtain ⟨comb, out⟩ := p
      dsimp only
      have h2 := h.nearest (signed52 out * 256) (dec ^ 3)
      generalize t.nearest (signed52 out * 256) (dec ^ 3) = p at h2 ⊢
      obtain ⟨c, s2⟩ := p
      exact (hset h2 _).filterOutput hf

theorem ConvKeeps.signal (h : ConvKeeps s t) (v : Nat) : ConvKeeps s (t.signal v) := by
  rw [State.signal_agent]
  exact h.upd rfl

theorem ConvKeeps.ringWrite (h : ConvKeeps s t) (q : Nat) (bs : List Byte) : ConvKeeps s (t.ringWrite q bs) := by
  unfold State.ringWrite
  dsimp only
  split
  · exact h
  · split
    · exact h.same rfl rfl rfl
    · split
      · refine ConvKeeps.signal ?_ _
        exact h.same rfl rfl rfl
      · exact h.same rfl rfl rfl

theorem ConvKeeps.sentinelIn (h : ConvKeeps s t) {i : Nat} (hi : i < 8) (code : Nat) : ConvKeeps s (t.sentinelIn i code) := by
  have hval : ¬ ConvKey (Obj.sentinelValue i) := not_convKey (by decide) (by omega) (.inl (by decide))
  have hover : ¬ ConvKey Obj.sentinelOverrun ∧ ¬ ConvKey Obj.sentinelOverruns :=
    ⟨not_convKey (by decide) (by decide) (.inl (by decide)), not_convKey (by decide) (by decide) (.inl (by decide))⟩
  unfold State.sentinelIn
  dsimp only
  split
  · obtain ⟨c, hc⟩ := State.raiseLimitedFor_upd (s := ((t.wrN (Obj.sentinelValue i) code).wrN Obj.sentinelOverrun
      (setBit ((t.wrN (Obj.sentinelValue i) code).rdN Obj.sentinelOverrun) i true)).inc Obj.sentinelOverruns) (code := 0x80F0)
      (source := 0x1601) (n := 1) (last := i) rfl
    exact (((h.wrN _ hval).wrN _ hover.1).inc hover.2).core hc (State.raiseLimitedFor_tick ..)
  · exact (h.wrN _ hval).sup rfl

theorem ConvKeeps.queueResult (h : ConvKeeps s t) (w : Nat) : ConvKeeps s (t.queueResult w) := by
  have hkeys : ¬ ConvKey Obj.queueOverwritten ∧ ¬ ConvKey Obj.queueFill :=
    ⟨not_convKey (by decide) (by decide) (.inr (by decide)), not_convKey (by decide) (by decide) (.inr (by decide))⟩
  unfold State.queueResult
  extract_lets full s1 src s2 s3
  have h1 : ConvKeeps s s1 := by
    refine h.onlyIf (.raiseLimited (.inc ?_ hkeys.1) _ _ _)
    exact ConvKeeps.refl.same rfl rfl rfl
  have h2 : ConvKeeps s s2 := h1.same rfl rfl rfl
  have h3 : ConvKeeps s s3 := h2.wrN _ hkeys.2
  exact h3.onlyIf (ConvKeeps.refl.ringWrite _ _)

theorem ConvKeeps.temperatureIn (h : ConvKeeps s t) (c : Conv) (code : Nat) (tagged : Bool) :
    ConvKeeps s (t.temperatureIn c code tagged) := by
  unfold State.temperatureIn
  split
  · exact h
  · next hc =>
    have hcal : ¬ ConvKey (Obj.calTemp (c.channel / 4) (c.channel % 4)) := not_convKey (by omega) (by omega) (.inl (by omega))
    have htemp : ¬ ConvKey (Obj.temperature c.channel) := not_convKey (by decide) (by omega) (.inl (by decide))
    extract_lets s1
    have h1 : ConvKeeps s s1 := h.onlyIf (ConvKeeps.refl.wr _ hcal)
    split
    · exact h1
    · refine .wr ?_ _ htemp
      exact h1.same rfl rfl rfl

theorem ConvKeeps.wakeIn (h : ConvKeeps s t) (ch code : Nat) : ConvKeeps s (t.wakeIn ch code) := by
  unfold State.wakeIn
  split
  · exact h.sup rfl
  · exact h

theorem State.raiseLimitedItem_tick (code source item n last : Nat) : (s.raiseLimitedItem code source item n last).core.tick = s.core.tick := by
  unfold State.raiseLimitedItem
  extract_lets
  split
  · rfl
  · rfl

theorem ConvKeeps.railIn (h : ConvKeeps s t) (ch code : Nat) : ConvKeeps s (t.railIn ch code) := by
  unfold State.railIn
  split
  · exact h
  · extract_lets
    refine .onlyIf ?_ ?_
    · exact h.same rfl rfl rfl
    · exact ConvKeeps.refl.core (State.raiseLimitedItem_eq ..) (State.raiseLimitedItem_tick ..)

/-- The result of a conversion as it is shown first (R439). -/
def State.resultShown (s : State) (c : Conv) (code : Nat) : State :=
  (s.inc Obj.conversions).wrN (Obj.latest c.channel)
    (resultWord c.channel c.settling (c.kind == 2) (s.noSource c.channel) (if s.noSource c.channel then 0 else code))

theorem State.convResult_keeps (s : State) (c : Conv) (code : Nat) : ConvKeeps (s.resultShown c code) (s.convResult c code) := by
  unfold State.convResult
  extract_lets noSrc cd tagged w s1 s2 s3 s4 s5
  have h1 : ConvKeeps (s.resultShown c code) s1 := .refl
  have h2 : ConvKeeps (s.resultShown c code) s2 := by
    show ConvKeeps _ (ite _ _ _)
    split
    · exact h1.sentinelIn (by omega) _
    · split
      · exact h1
      · exact h1.queueResult _
  have h5 : ConvKeeps (s.resultShown c code) s5 :=
    ((h2.temperatureIn c cd tagged).wakeIn _ _).onlyIf (ConvKeeps.refl.railIn _ _)
  split
  · exact h5
  · exact h5.each fun u f hf => ConvKeeps.refl.filterIn (mem_upto.1 hf).1 _

/-- Every slot that starts has its tick and phase, and changes the converter alone (R434). -/
theorem State.slotStart_spec (s : State) (tick phase : Nat) : ∃ sup, s.slotStart tick phase = { s with sup := sup } ∧
    ∃ q, sup.now = some q ∧ q.tick = tick ∧ q.phase = phase := by
  unfold State.slotStart
  extract_lets md u0 u1 len tenth u2 early u3
  split
  · exact ⟨_, rfl, _, rfl, rfl, rfl⟩
  · split
    · exact ⟨_, rfl, _, rfl, rfl, rfl⟩
    · split
      · exact ⟨_, rfl, _, rfl, rfl, rfl⟩
      · exact ⟨_, rfl, _, rfl, rfl, rfl⟩

/-- The head of the injection list comes first (R434). -/
theorem State.slotStart_injects {place ch : Nat} {rest : List (Nat × Nat)} (h : s.sup.inj = (place, ch) :: rest) (tick phase : Nat) :
    ∃ sup, s.slotStart tick phase = { s with sup := sup } ∧ sup.inj = rest ∧
      sup.now = some { kind := 2, channel := ch, place, tick, phase, len := if s.rdN Obj.modeInForce = 0 then 20 else 160 } := by
  unfold State.slotStart
  extract_lets md u0 u1 len tenth u2 early u3
  have hu : u3.inj = (place, ch) :: rest := by
    rw [← h]
    show u1.inj = _
    show (if u0.mode = md then u0 else { u0 with mode := md, modeSettle := 2, modeSlots := 0 }).inj = _
    split
    · rfl
    · rfl
  split
  · next place' ch' rest' hinj =>
    rw [hu] at hinj
    obtain ⟨hhead, rfl⟩ := List.cons.inj hinj
    obtain ⟨rfl, rfl⟩ := Prod.mk.inj hhead
    exact ⟨_, rfl, rfl, rfl⟩
  · next hinj => exact absurd (hu.symm.trans hinj) (List.cons_ne_nil _ _)

/-- The state as a slot finds it: the keeper's reads and its request, and what the result queue was drained of. -/
def State.slotServed (s : State) (keeper : KeeperSlot) (drained : Nat) : State :=
  let s := (s.sentinelRead keeper.read).keeperInject keeper.inject
  let s := { s with sup.queue := s.sup.queue.drop drained }
  s.wrN Obj.queueFill s.sup.queue.length

theorem State.slotServed_spec (s : State) (keeper : KeeperSlot) (drained : Nat) :
    ∃ x sup, s.slotServed keeper drained = { s with regs := x, sup := sup } ∧ sup.now = s.sup.now ∧
    (∀ k, ConvKey k → (s.slotServed keeper drained).rd k = s.rd k) ∧
    (s.slotServed keeper drained).rd Obj.modeInForce = s.rd Obj.modeInForce ∧
    (keeper.inject = none → sup.inj = s.sup.inj) ∧
    (∀ ch, keeper.inject = some ch → s.injectBusy = false → ch < 96 → sup.inj = s.sup.inj ++ [(0, ch)]) := by
  have hread : ∃ x sup, s.sentinelRead keeper.read = { s with regs := x, sup := sup } ∧ sup.now = s.sup.now ∧ sup.inj = s.sup.inj ∧
      KeepsRegs [Obj.sentinelOverrun] s (s.sentinelRead keeper.read) := by
    unfold State.sentinelRead
    dsimp only
    exact ⟨_, _, rfl, rfl, rfl, by simp⟩
  obtain ⟨x, sup, hx, hnow, hinj, hkeep⟩ := hread
  have hreq : ∃ sup', (s.sentinelRead keeper.read).keeperInject keeper.inject = { s.sentinelRead keeper.read with sup := sup' } ∧
      sup'.now = s.sup.now ∧ (keeper.inject = none → sup'.inj = s.sup.inj) ∧
      (∀ ch, keeper.inject = some ch → s.injectBusy = false → ch < 96 → sup'.inj = s.sup.inj ++ [(0, ch)]) := by
    generalize s.sentinelRead keeper.read = v at *
    have hvnow : v.sup.now = s.sup.now := by rw [hx]; exact hnow
    have hvinj : v.sup.inj = s.sup.inj := by rw [hx]; exact hinj
    unfold State.keeperInject
    split
    · next ch hch =>
      have hbusy : v.injectBusy = s.injectBusy := by
        unfold State.injectBusy
        rw [hvinj]
      rw [hbusy]
      by_cases hok : (!s.injectBusy && decide (ch < 96)) = true
      · rw [hok]
        refine ⟨_, rfl, hvnow, fun hn => absurd (hch.symm.trans hn) (Option.some_ne_none _), fun ch' hch' _ _ => ?_⟩
        obtain rfl := Option.some.inj (hch.symm.trans hch')
        exact congrArg (· ++ _) hvinj
      · rw [Bool.not_eq_true] at hok
        rw [hok]
        refine ⟨_, rfl, hvnow, fun hn => absurd (hch.symm.trans hn) (Option.some_ne_none _), fun ch' hch' hb hlt => ?_⟩
        obtain rfl := Option.some.inj (hch.symm.trans hch')
        rw [hb, decide_eq_true hlt] at hok
        exact absurd hok (by decide)
    · next hn => exact ⟨_, rfl, hvnow, fun _ => hvinj, fun ch hch => absurd (hch.symm.trans hn) (Option.some_ne_none _)⟩
  obtain ⟨sup', hsup, hnow', hnone, hsome⟩ := hreq
  have hserved : s.slotServed keeper drained = State.wrN { s.sentinelRead keeper.read with sup := { sup' with
      queue := sup'.queue.drop drained } } Obj.queueFill (sup'.queue.drop drained).length := by
    unfold State.slotServed
    dsimp only
    rw [hsup]
  have hrd (k : Nat) (h1 : k ≠ Obj.queueFill) (h2 : k ≠ Obj.sentinelOverrun) : (s.slotServed keeper drained).rd k = s.rd k := by
    rw [hserved, State.wrN_rd_ne (h := h1), State.rd_upd]
    exact hkeep k fun hc => h2 (List.mem_singleton.1 hc)
  have hkeys : ¬ ConvKey Obj.queueFill ∧ ¬ ConvKey Obj.sentinelOverrun :=
    ⟨not_convKey (by decide) (by decide) (.inr (by decide)), not_convKey (by decide) (by decide) (.inl (by decide))⟩
  refine ⟨(s.slotServed keeper drained).regs, { sup' with queue := sup'.queue.drop drained }, ?_, hnow', fun k hk => ?_, ?_, hnone, hsome⟩
  · rw [hserved, hx]
    rfl
  · exact hrd k (fun hc => hkeys.1 (hc ▸ hk)) (fun hc => hkeys.2 (hc ▸ hk))
  · exact hrd _ (by decide) (by decide)

/-- The slot in progress ends: a conversion with its result, an empty slot without one. -/
def State.slotEnded (s : State) (c : Conv) (code : Nat) : State := s.onlyIf (c.kind != 3) (fun s => s.convResult c code)

theorem conversionSlot_eq (code : BitVec 16) (keeper : KeeperSlot) (drained : Nat) {c : Conv}
    (h : (s.slotServed keeper drained).sup.now = some c) : exec (.conversionSlot code keeper drained) s =
      .next (((s.slotServed keeper drained).slotEnded c code.toNat).slotStart
        (max ((s.slotServed keeper drained).slotEnded c code.toNat).core.tick (c.tick + (c.phase + c.len) / 400))
        ((c.phase + c.len) % 400)) := by
  show (match (s.slotServed keeper drained).sup.now with
    | none => _
    | some c => _) = _
  rw [h] <;> rfl

theorem conversionSlot_first (code : BitVec 16) (keeper : KeeperSlot) (drained : Nat)
    (h : (s.slotServed keeper drained).sup.now = none) : exec (.conversionSlot code keeper drained) s =
      .next ((s.slotServed keeper drained).slotStart (s.slotServed keeper drained).core.tick 0) := by
  show (match (s.slotServed keeper drained).sup.now with
    | none => _
    | some c => _) = _
  rw [h] <;> rfl

theorem State.resultShown_keeps (s : State) (c : Conv) (code : Nat) : ∃ x, s.resultShown c code = { s with regs := x } ∧
    (s.resultShown c code).rdN Obj.conversions = (s.rdN Obj.conversions + 1) % 2 ^ 64 ∧
    (s.resultShown c code).rdN (Obj.latest c.channel) =
      resultWord c.channel c.settling (c.kind == 2) (s.noSource c.channel) (if s.noSource c.channel then 0 else code) := by
  have hne : Obj.conversions ≠ Obj.latest c.channel := by
    simp only [Obj.conversions, Obj.latest, objKey]
    omega
  refine ⟨(s.resultShown c code).regs, rfl, ?_, State.wrN_rdN_self ..⟩
  unfold State.resultShown
  rw [State.wrN_rdN_ne (h := hne)]
  exact State.inc_rdN_self ..

/-- The slot that follows one that ends, with what is counted and shown of the conversion. -/
theorem conversionSlot_ends (code : BitVec 16) (keeper : KeeperSlot) (drained : Nat) {c : Conv} (h : s.sup.now = some c)
    (hkind : c.kind ≠ 3) (hch : c.channel < 96) : Completes (.conversionSlot code keeper drained) s (fun t =>
      t.rdN Obj.conversions = (s.rdN Obj.conversions + 1) % 2 ^ 64 ∧
      t.rdN (Obj.latest c.channel) = resultWord c.channel c.settling (c.kind == 2) (s.noSource c.channel)
        (if s.noSource c.channel then 0 else code.toNat) ∧
      ∃ q, t.sup.now = some q ∧ q.tick = max s.core.tick (c.tick + (c.phase + c.len) / 400) ∧
        q.phase = (c.phase + c.len) % 400) := by
  obtain ⟨x, sup, hv, hnow, hrd, -, -, -⟩ := s.slotServed_spec keeper drained
  have hexec := conversionSlot_eq (s := s) code keeper drained (c := c) (by rw [hv]; exact hnow.trans h)
  generalize s.slotServed keeper drained = v at hexec hv hrd
  have hsrc : v.noSource c.channel = s.noSource c.channel := by rw [hv]; rfl
  have hvt : v.core.tick = s.core.tick := by rw [hv]
  have hw : v.slotEnded c code.toNat = v.convResult c code.toNat := by
    unfold State.slotEnded
    rw [bne_iff_ne.2 hkind]
    rfl
  have hkeep := v.convResult_keeps c code.toNat
  obtain ⟨y, hy, hconv, hlatest⟩ := v.resultShown_keeps c code.toNat
  have hyt : (v.resultShown c code.toNat).core.tick = v.core.tick := by rw [hy]
  have hwt := hkeep.tick.trans (hyt.trans hvt)
  rw [hw, hwt] at hexec
  have hk1 : ConvKey Obj.conversions := .inl rfl
  have hk2 : ConvKey (Obj.latest c.channel) := .inr (by simp only [Obj.latest, objKey]; omega)
  generalize v.convResult c code.toNat = w at hexec hkeep
  obtain ⟨sup', hslot, q, hq, hqt, hqp⟩ := w.slotStart_spec (max s.core.tick (c.tick + (c.phase + c.len) / 400)) ((c.phase + c.len) % 400)
  rw [hslot] at hexec
  refine ⟨_, hexec, ?_, ?_, q, hq, hqt, hqp⟩
  · calc State.rdN { w with sup := sup' } Obj.conversions = w.rdN Obj.conversions := State.rdN_upd ..
      _ = (v.resultShown c code.toNat).rdN Obj.conversions := congrArg Int.toNat (hkeep.rd _ hk1)
      _ = (v.rdN Obj.conversions + 1) % 2 ^ 64 := hconv
      _ = _ := by rw [show v.rdN Obj.conversions = s.rdN Obj.conversions from congrArg Int.toNat (hrd _ hk1)]
  · calc State.rdN { w with sup := sup' } (Obj.latest c.channel) = w.rdN (Obj.latest c.channel) := State.rdN_upd ..
      _ = (v.resultShown c code.toNat).rdN (Obj.latest c.channel) := congrArg Int.toNat (hkeep.rd _ hk2)
      _ = _ := by rw [hlatest, hsrc]

/-- With nothing converted yet the head of the injection list is converted from the tick's start. -/
theorem conversionSlot_injection (code : BitVec 16) {place ch : Nat} {rest : List (Nat × Nat)} (hnow : s.sup.now = none)
    (hinj : s.sup.inj = (place, ch) :: rest) (hmode : s.rdN Obj.modeInForce = 0) :
    Completes (.conversionSlot code {} 0) s (fun t => t.sup.inj = rest ∧ t.core = s.core ∧
      t.sup.now = some { kind := 2, channel := ch, place := place, tick := s.core.tick, phase := 0, len := 20 }) := by
  obtain ⟨x, sup, hv, hvnow, -, hvmode, hvinj, -⟩ := s.slotServed_spec {} 0
  have hexec := conversionSlot_first (s := s) code {} 0 (by rw [hv]; exact hvnow.trans hnow)
  generalize s.slotServed {} 0 = v at hexec hv hvmode
  have hcore : v.core = s.core := by rw [hv]
  have hi : v.sup.inj = (place, ch) :: rest := by rw [hv]; exact (hvinj rfl).trans hinj
  have hm : v.rdN Obj.modeInForce = 0 := (congrArg Int.toNat hvmode).trans hmode
  obtain ⟨sup', hslot, hrest, hq⟩ := v.slotStart_injects hi v.core.tick 0
  rw [hslot] at hexec
  refine ⟨_, hexec, hrest, hcore, hq.trans ?_⟩
  rw [if_pos hm, hcore]

/-- The keeper's request is converted next where the injection list is empty (log entry 63). -/
theorem conversionSlot_requested (code : BitVec 16) {ch : Nat} (hinj : s.sup.inj = []) (hch : ch < 96) :
    Completes (.conversionSlot code { inject := some ch } 0) s (fun t =>
      ∃ q, t.sup.now = some q ∧ q.kind = 2 ∧ q.channel = ch ∧ q.place = 0) := by
  obtain ⟨x, sup, hv, -, -, -, -, hvinj⟩ := s.slotServed_spec { inject := some ch } 0
  have hbusy : s.injectBusy = false := by
    unfold State.injectBusy
    rw [hinj]
    rfl
  have hi : (s.slotServed { inject := some ch } 0).sup.inj = [(0, ch)] := by
    rw [hv]
    show sup.inj = _
    rw [hvinj ch rfl hbusy hch, hinj]
    rfl
  cases hnow : (s.slotServed { inject := some ch } 0).sup.now with
  | none =>
    have hexec := conversionSlot_first code { inject := some ch } 0 hnow
    obtain ⟨sup', hslot, -, hq⟩ := State.slotStart_injects hi (s.slotServed { inject := some ch } 0).core.tick 0
    rw [hslot] at hexec
    exact ⟨_, hexec, _, hq, rfl, rfl, rfl⟩
  | some c =>
    have hexec := conversionSlot_eq code { inject := some ch } 0 hnow
    generalize s.slotServed { inject := some ch } 0 = v at hexec hi
    have hw : (v.slotEnded c code.toNat).sup.inj = [(0, ch)] := by
      unfold State.slotEnded
      cases c.kind != 3 with
      | false => exact hi
      | true =>
        obtain ⟨y, hy, -, -⟩ := v.resultShown_keeps c code.toNat
        refine (v.convResult_keeps c code.toNat).inj.trans ?_
        rw [hy]
        exact hi
    generalize v.slotEnded c code.toNat = w at hexec hw
    obtain ⟨sup', hslot, -, hq⟩ := State.slotStart_injects hw (max w.core.tick (c.tick + (c.phase + c.len) / 400)) ((c.phase + c.len) % 400)
    rw [hslot] at hexec
    exact ⟨_, hexec, _, hq, rfl, rfl, rfl⟩

/-- A request of the keeper with the general place taken, or for no channel, does nothing. -/
theorem conversionSlot_refused (code : BitVec 16) (ch drained : Nat) (h : s.injectBusy = true ∨ 96 ≤ ch) :
    exec (.conversionSlot code { inject := some ch } drained) s = exec (.conversionSlot code {} drained) s := by
  have hreq : (s.sentinelRead 0).keeperInject (some ch) = (s.sentinelRead 0).keeperInject none := by
    have hno : (!(s.sentinelRead 0).injectBusy && decide (ch < 96)) = false := by
      obtain hbusy | hch := h
      · rw [show (s.sentinelRead 0).injectBusy = s.injectBusy from rfl, hbusy]
        rfl
      · rw [decide_eq_false (by omega), Bool.and_false]
    unfold State.keeperInject
    dsimp only
    rw [hno]
    rfl
  show execConversionSlot code { inject := some ch } drained s = execConversionSlot code {} drained s
  unfold execConversionSlot
  dsimp only
  rw [hreq]

/-- An empty slot ends without a conversion. -/
theorem conversionSlot_empty (code : BitVec 16) {c : Conv} (h : s.sup.now = some c) (hkind : c.kind = 3) :
    Completes (.conversionSlot code {} 0) s (fun t => t.rdN Obj.conversions = s.rdN Obj.conversions ∧ t.core = s.core ∧
      ∃ q, t.sup.now = some q ∧ q.phase = (c.phase + c.len) % 400) := by
  obtain ⟨x, sup, hv, hnow, hrd, -, -, -⟩ := s.slotServed_spec {} 0
  have hexec := conversionSlot_eq (s := s) code {} 0 (c := c) (by rw [hv]; exact hnow.trans h)
  generalize s.slotServed {} 0 = v at hexec hv hrd
  have hcore : v.core = s.core := by rw [hv]
  have hw : v.slotEnded c code.toNat = v := by
    unfold State.slotEnded
    rw [hkind]
    rfl
  rw [hw] at hexec
  obtain ⟨sup', hslot, q, hq, -, hqp⟩ := v.slotStart_spec (max v.core.tick (c.tick + (c.phase + c.len) / 400)) ((c.phase + c.len) % 400)
  rw [hslot] at hexec
  exact ⟨_, hexec, (State.rdN_upd ..).trans (congrArg Int.toNat (hrd _ (.inl rfl))), hcore, q, hq, hqp⟩

end

/-- Settles O50. -/
theorem conversionSlotsFollowEachOther : Obligations.ConversionSlotsFollowEachOther := by
  unfold Obligations.ConversionSlotsFollowEachOther
  exact ⟨fun s code place ch rest => conversionSlot_injection code, fun s code keeper drained c => conversionSlot_ends code keeper drained,
    fun s code ch => conversionSlot_requested code, fun s code ch drained => conversionSlot_refused code ch drained,
    fun s code c => conversionSlot_empty code⟩

end Sys2Proof.Machine
end

section
/-! Power requests as they are submitted, and the refutation of the temperature and rail obligation. -/
open Sys2Proof Sys2Proof.Machine
namespace Sys2Proof.Machine

section
variable {s t u : State}

/-! #### A power request as it is submitted (R485) -/

theorem PowReq.domains_lt {q : PowReq} {d : Nat} (h : d ∈ q.domains) : d < 37 := by
  unfold PowReq.domains at h
  rw [List.mem_append, List.mem_map] at h
  obtain h | ⟨c, hc, rfl⟩ := h
  · exact Nat.lt_of_lt_of_le (mem_upto.1 h).1 (by decide)
  · have := (mem_upto.1 hc).1
    omega

/-- A request's targets show in the registers of its own domains; DORMANT names none (R483). -/
theorem State.putTargets_spec (s : State) (q : PowReq) : RegsOnly s (s.putTargets q) ∧
    (∀ k, (∀ d, d < 37 → k ≠ Obj.domainTarget d) → (s.putTargets q).rd k = s.rd k) ∧
    (∀ d ∈ q.domains, (s.putTargets q).rdN (Obj.domainTarget d) = if q.target = 3 then s.rdN (Obj.domainTarget d) else q.target) := by
  unfold State.putTargets
  split
  · next h => exact ⟨.refl, fun _ _ => rfl, fun _ _ => rfl⟩
  · next h =>
    obtain ⟨hregs, hkeep, hval⟩ := State.each_wr_spec Obj.domainTarget (fun _ _ => (q.target : Int)) q.domains s
      (fun a _ b _ h => by simp only [Obj.domainTarget, objKey] at h; omega) (fun _ _ _ _ _ => rfl)
    exact ⟨hregs, fun k hk => hkeep k fun d hd => hk d (PowReq.domains_lt hd), fun d hd => congrArg Int.toNat (hval d hd)⟩

/-- The registers that a request shows itself in. -/
def PowerKey (k : Nat) : Prop := (∃ d, d < 37 ∧ k = Obj.domainTarget d) ∨ k = Obj.powerInProgress ∨ k = Obj.powerPending

/-- A request with none in progress takes the place of those held, each counted as superseded. -/
theorem State.submitPower_idle (q : PowReq) (hcur : (s.putTargets q).power.cur = none) (hleave : (s.putTargets q).power.leaving = false) :
    s.submitPower q = (let v := (s.putTargets q).onlyIf (s.putTargets q).power.waiting.isSome State.countSuperseded
      let v := v.onlyIf v.power.pend.isSome State.countSuperseded
      State.showPower { v with power := { v.power with waiting := some q, pend := none } }) := by
  unfold State.submitPower
  generalize s.putTargets q = v at *
  dsimp only
  split
  · split
    · next h => exact absurd (hleave.symm.trans h) Bool.false_ne_true
    · rfl
  · next c h => exact absurd (hcur.symm.trans h) (Option.some_ne_none c).symm

/-- A request with none held waits for the next boundary, and changes nothing else but the registers it shows itself in. -/
theorem State.submitPower_waits (q : PowReq) (hcur : s.power.cur = none) (hwait : s.power.waiting = none) (hpend : s.power.pend = none)
    (hleave : s.power.leaving = false) :
    ∃ x, s.submitPower q = { s with regs := x, power := { s.power with waiting := some q } } ∧
      (∀ k, ¬ PowerKey k → (s.submitPower q).rd k = s.rd k) ∧
      (∀ d ∈ q.domains, (s.submitPower q).rdN (Obj.domainTarget d) =
        if q.target = 3 then s.rdN (Obj.domainTarget d) else q.target) := by
  obtain ⟨⟨x, hx⟩, hkeep, htarget⟩ := s.putTargets_spec q
  have hsubmit : s.submitPower q = State.showPower { s.putTargets q with power := { s.power with waiting := some q } } := by
    have hp : (s.putTargets q).power = s.power := by rw [hx]
    rw [State.submitPower_idle q (hp ▸ hcur) (hp ▸ hleave), hp, hwait]
    dsimp only [Option.isSome_none, State.onlyIf_false]
    rw [hp, hpend]
    dsimp only [Option.isSome_none, State.onlyIf_false]
    exact congrArg (fun p : PowerSt => State.showPower { s.putTargets q with power := { p with waiting := some q, pend := none } }) hp
  rw [hsubmit]
  unfold State.showPower
  refine ⟨_, by rw [hx] <;> rfl, fun k hk => ?_, fun d hd => ?_⟩
  · rw [State.wr_rd_ne (h := fun hc => hk (.inr (.inr hc))), State.wr_rd_ne (h := fun hc => hk (.inr (.inl hc))), State.rd_upd]
    exact hkeep k fun d hd hc => hk (.inl ⟨d, hd, hc⟩)
  · have h1 : Obj.domainTarget d ≠ Obj.powerPending ∧ Obj.domainTarget d ≠ Obj.powerInProgress := by
      simp only [Obj.domainTarget, Obj.powerPending, Obj.powerInProgress, objKey]
      have := PowReq.domains_lt hd
      omega
    rw [State.wr_rdN_ne (h := h1.1), State.wr_rdN_ne (h := h1.2), State.rdN_upd]
    exact htarget d hd

/-- A request takes the place of the one that is pending, which is counted as superseded. -/
theorem State.submitPower_supersedes (q : PowReq) (hcur : s.power.cur = none) (hleave : s.power.leaving = false) :
    (s.submitPower q).power = { s.power with waiting := some q, pend := none } := by
  obtain ⟨⟨x, hx⟩, -, -⟩ := s.putTargets_spec q
  have hp : (s.putTargets q).power = s.power := by rw [hx]
  have hcount (v : State) (b : Bool) : (v.onlyIf b State.countSuperseded).power = v.power := by
    cases b with
    | false => rfl
    | true => rfl
  rw [State.submitPower_idle q (hp ▸ hcur) (hp ▸ hleave)]
  show ({ State.power _ with waiting := some q, pend := none } : PowerSt) = _
  rw [hcount, hcount, hp]

theorem not_powerKey {a b : Nat} (hb : b < 256) (ha : a ≠ 0x1200 ∧ a ≠ 0x1211) : ¬ PowerKey (objKey a b) := by
  rintro (⟨d, hd, h⟩ | h | h)
  · simp only [Obj.domainTarget, objKey] at h
    omega
  · simp only [Obj.powerInProgress, objKey] at h
    omega
  · simp only [Obj.powerPending, objKey] at h
    omega

end

/-! #### A register that shows less than 0 -/

/-- A tick in which an assay runs and the rail moves, with a negative value in AVS_STATE, which a read as a number takes as 0. -/
def avsNegative : State :=
  { State.reset with regs := [(Obj.avsState, -1)], core := { tick := 100 }, start := { step := 5 }, integ := { assay := some { kind := 0 } } }

/-- The transaction writes the 0 that it read. -/
theorem avsNegative_written : ∃ b, exec (.avsTransaction true) avsNegative = .next (State.wrN { avsNegative with board := b } Obj.avsState 0) := by
  exact ⟨_, rfl⟩

/-- Refutes O53: AVS_STATE counts as GOOD wherever its number is 0, so where it holds less than 0; a transaction writes 0 to it, and
the clause for an assay has no register change. -/
theorem not_thermalOscillatorRailAndTwiEvents : ¬ Obligations.ThermalOscillatorRailAndTwiEvents := by
  unfold Obligations.ThermalOscillatorRailAndTwiEvents
  intro h
  obtain ⟨-, -, -, -, -, -, -, -, -, hassay, -⟩ := h
  obtain ⟨t, hexec, -, hkeep, -⟩ := hassay avsNegative { kind := 0 } (by decide) (by decide) (by decide) rfl (by decide)
  obtain ⟨b, hb⟩ := avsNegative_written
  obtain rfl := Host.Outcome.next.inj (hexec.symm.trans hb)
  have hwritten := hkeep Obj.avsState List.not_mem_nil
  rw [State.wrN_rd_self] at hwritten
  exact absurd hwritten (by decide)

end Sys2Proof.Machine
end

section
/-! What becomes of a session's write row: the checks, the staging window, the reply (R33, R34, R57–R61, R79–R81). -/
open Sys2Proof Sys2Proof.Machine
namespace Sys2Proof.Machine

section
variable {s t u : State} {i : Instr} {sess : Fin 17} {seq key : Nat} {words : List Nat}

/-- The request that a write row puts to the agent. -/
def writeReqOf (i : Instr) (sess : Fin 17) (seq key : Nat) (words : List Nat) : Req :=
  { mkReq sess seq 2 (key / 256) (key % 256) words with meas := writeMeas i }

/-- Every write row is a WRITE of its object. -/
theorem exec_of_writeOf (h : writeOf i = some (sess, seq, key, words)) : exec i s = .next (s.direct (writeReqOf i sess seq key words)) := by
  unfold writeOf at h
  split at h
  case h_3 =>
    split at h
    · next hsub =>
      obtain ⟨⟩ := h
      exact congrArg Host.Outcome.next (if_pos hsub)
    · exact absurd h.symm (Option.some_ne_none _)
  case h_71 index sub _ =>
    obtain ⟨⟩ := h
    have hi : objKey (index % 65536) (sub % 256) / 256 % 65536 = index % 65536 := by
      unfold objKey
      omega
    have hs : objKey (index % 65536) (sub % 256) % 256 % 256 = sub % 256 := by
      unfold objKey
      omega
    show _ = Host.Outcome.next (s.direct { mkReq sess seq 2 (objKey (index % 65536) (sub % 256) / 256)
      (objKey (index % 65536) (sub % 256) % 256) words with meas := none })
    unfold mkReq
    rw [hi, hs]
    exact congrArg (fun q => Host.Outcome.next (s.direct q)) rfl
  case h_72 => exact absurd h.symm (Option.some_ne_none _)
  all_goals
    obtain ⟨⟩ := h
    rfl

/-- A row's object has an index of 16 bits. -/
theorem writeOf_key_lt (h : writeOf i = some (sess, seq, key, words)) : key / 256 < 65536 := by
  have hlt (a b : Nat) (ha : a < 65536) (hb : b < 256) : objKey a b / 256 < 65536 := by
    unfold objKey
    omega
  unfold writeOf at h
  split at h
  case h_3 =>
    split at h
    · obtain ⟨⟩ := h
      exact hlt _ _ (by decide) (by omega)
    · exact absurd h.symm (Option.some_ne_none _)
  case h_16 | h_21 | h_32 | h_40 | h_48 =>
    obtain ⟨⟩ := h
    split
    · exact hlt _ _ (by omega) (by omega)
    · exact hlt _ _ (by omega) (by omega)
  case h_54 f w _ =>
    obtain ⟨⟩ := h
    have hsub : ∀ w : Fin 7, [1, 2, 3, 4, 7, 8, 9].getD w.val 1 < 256 := by decide
    exact hlt _ _ (by omega) (hsub w)
  case h_57 =>
    obtain ⟨⟩ := h
    split
    · exact hlt _ _ (by omega) (by omega)
    · exact hlt _ _ (by omega) (by omega)
  case h_72 => exact absurd h.symm (Option.some_ne_none _)
  all_goals
    obtain ⟨⟩ := h
    refine hlt _ _ ?_ ?_
    · omega
    · omega

/-! #### A request of an open session (R79, R80, R97) -/

theorem State.direct_off (h : s.agent.serving = false) (q : Req) : s.direct q = s := by
  unfold State.direct
  rw [h]
  rfl

theorem State.accepted_upd (s : State) (sess : Fin 17) (seq : Nat) : ∃ x, s.accepted sess seq = { s with agent.sessions := x } := by
  unfold State.accepted
  split
  · exact ⟨_, rfl⟩
  · exact ⟨_, rfl⟩

/-- A request that is taken is served under its session's key, on the state in which its number is accepted. -/
theorem State.direct_takes (h : s.takes sess seq) (index sub : Nat) (body : List Nat) (m : Option (Int × Nat × Nat)) :
    ∃ k, s.direct { mkReq sess seq 2 index sub body with meas := m } =
      (s.accepted sess seq).writeOne { mkReq sess seq 2 index sub body with meas := m } k := by
  obtain ⟨hserve, hsess⟩ := h
  unfold State.direct
  rw [hserve, if_pos rfl]
  unfold State.request State.accepted
  by_cases h0 : sess = 0
  · subst h0
    exact ⟨[], rfl⟩
  · obtain ⟨hopen, hacc, hlast⟩ := hsess.resolve_left h0
    have hne : sess.val ≠ 0 := fun hc => h0 (Fin.ext hc)
    have hlt := sess.isLt
    refine ⟨(s.session sess).key, ?_⟩
    unfold mkReq
    dsimp only
    rw [if_neg hne, if_neg (by rw [hopen]; simp; omega), if_neg h0]
    rw [if_neg Bool.false_ne_true]
    rw [Bool.false_and, if_neg Bool.false_ne_true, hacc, Bool.not_true, if_neg Bool.false_ne_true, if_neg fun hc => hlast hc.1]
    rfl

theorem exec_takes (hw : writeOf i = some (sess, seq, key, words)) (h : s.takes sess seq) :
    ∃ k, exec i s = .next ((s.accepted sess seq).writeOne (writeReqOf i sess seq key words) k) := by
  obtain ⟨k, hk⟩ := State.direct_takes h (key / 256) (key % 256) words (writeMeas i)
  exact ⟨k, (exec_of_writeOf hw).trans (congrArg Host.Outcome.next hk)⟩

/-! #### Replies -/

theorem State.sendReply_replied (s : State) (mac : List Byte) (p : Reply) (hs : p.sess = sess) (hq : p.seq = seq % 2 ^ 32) :
    Replied s (s.sendReply .direct mac p) sess seq p.status := by
  unfold State.sendReply State.addressInForce State.sendTo
  dsimp only
  split
  · exact ⟨rfl, rfl, hq, hs, rfl, rfl⟩
  · exact ⟨rfl, rfl, hq, hs, rfl, rfl⟩

/-- A reply without a way back changes the agent's record of replies alone. -/
theorem State.reply_replied (s : State) (c : ReqCtx) (k : List Byte) (status : Nat) (more : Bool) (ws : List Nat) (hvia : c.via = .direct)
    (hs : c.sess = sess) (hq : c.seq = seq % 2 ^ 32) : Replied s (s.reply c k status more ws) sess seq status := by
  unfold State.reply
  rw [hvia]
  exact s.sendReply_replied _ _ hs hq

/-- The context of a write row's request. -/
theorem writeReqOf_ctx (h : writeOf i = some (sess, seq, key, words)) :
    (writeReqOf i sess seq key words).ctx = ⟨.direct, sess, seq % 2 ^ 32, 2, key / 256, key % 256⟩ := by
  show ReqCtx.mk .direct sess (seq % 2 ^ 32) 2 (key / 256 % 65536) (key % 256 % 256) = _
  rw [Nat.mod_eq_of_lt (writeOf_key_lt h), Nat.mod_mod]

/-! #### The checks of one entry (R57, R58, R61) -/

section
variable {q : Req} {k : List Byte} {idx sub : Nat} {r : Row} {v : Int} {e : Nat}

theorem State.writeOne_error (h : s.writeHead q.ctx.sess q.ctx.index q.ctx.sub = .error e) : s.writeOne q k = s.reply q.ctx k e false [] := by
  unfold State.writeOne
  rw [h]

theorem State.writeOne_ok (h : s.writeHead q.ctx.sess q.ctx.index q.ctx.sub = .ok r) :
    s.writeOne q k = s.writeEntries q k false [(q.ctx.sub, r, q.body)] := by
  unfold State.writeOne
  rw [h]

/-- An entry that fails one of checks 4 to 6 is answered with its status. -/
theorem State.writeEntries_bodyError (h : bodyStatus q.ctx.index q.ctx.sub r q.body = .error e) :
    s.writeEntries q k false [(q.ctx.sub, r, q.body)] = s.reply q.ctx k e false [] := by
  have hdec : decodeBlock q.ctx.index [(q.ctx.sub, r, q.body)] = .error (e, q.ctx.sub, none) := by
    unfold decodeBlock
    rw [h]
  have hrun : s.runBlock q.ctx.sess q.ctx.index q.meas [(q.ctx.sub, r, q.body)] = .error (e, q.ctx.sub, none) := by
    unfold State.runBlock
    rw [h]
  unfold State.writeEntries
  dsimp only
  rw [hdec, hrun]
  exact ite_self _

theorem decodeBlock_one (h : bodyStatus idx sub r q.body = .ok v) : decodeBlock idx [(sub, r, q.body)] = .ok [⟨objKey idx sub, v⟩] := by
  unfold decodeBlock
  rw [h]
  rfl

/-- The places that one entry takes in the window. -/
theorem State.writeEntries_ok (h : bodyStatus q.ctx.index q.ctx.sub r q.body = .ok v) (hsub : q.ctx.sub < 256) :
    s.writeEntries q k false [(q.ctx.sub, r, q.body)] =
      if r.staged && !s.windowTakes (s.stagedEntries q.ctx.index q.ctx.sub v).length then
        State.inc { s with core.held := s.core.held ++ [⟨q.ctx, [⟨objKey q.ctx.index q.ctx.sub, v⟩]⟩] } Obj.deferredWrites
      else match s.runBlock q.ctx.sess q.ctx.index q.meas [(q.ctx.sub, r, q.body)] with
        | .error e => (s.rejected e.2.2).reply q.ctx k e.1 false []
        | .ok s' => s'.reply q.ctx k Status.ok false [] := by
  have hmod : objKey q.ctx.index q.ctx.sub % 256 = q.ctx.sub := by
    unfold objKey
    omega
  unfold State.writeEntries
  dsimp only
  rw [decodeBlock_one h]
  dsimp only [List.foldl_cons, List.foldl_nil]
  simp only [hmod, Nat.zero_add, List.any_cons, List.any_nil, Bool.or_false, Bool.false_eq_true, if_false] <;> rfl

theorem State.runBlock_passes (h : bodyStatus idx sub r q.body = .ok v) (ht : s.writeTail idx sub r v = none) (sess : Nat)
    (m : Option (Int × Nat × Nat)) : s.runBlock sess idx m [(sub, r, q.body)] = .ok (s.putWrite sess idx sub r v m) := by
  unfold State.runBlock
  rw [h]
  dsimp only
  rw [ht]
  rfl

theorem State.runBlock_fails (h : bodyStatus idx sub r q.body = .ok v) (ht : s.writeTail idx sub r v = some e)
    (hk : ¬ (idx = 0x3804 ∧ sub = 1)) (sess : Nat) (m : Option (Int × Nat × Nat)) :
    s.runBlock sess idx m [(sub, r, q.body)] = .error (e, sub, none) := by
  unfold State.runBlock
  rw [h]
  dsimp only
  rw [ht]
  exact congrArg (fun x => Except.error (e, sub, x)) (if_neg fun hc => hk ⟨hc.1, hc.2.1⟩)

end

/-! #### What becomes of a write row (R57) -/

section
variable {r : Row} {v : Int} {e : Nat} (hw : writeOf i = some (sess, seq, key, words)) (ht : s.takes sess seq)
include hw ht

theorem exec_headError (h : (s.accepted sess seq).writeHead sess (key / 256) (key % 256) = .error e) :
    Completes i s (Replied (s.accepted sess seq) · sess seq e) := by
  obtain ⟨k, hk⟩ := exec_takes hw ht
  have hc := writeReqOf_ctx hw
  rw [State.writeOne_error (e := e) (by rw [hc]; exact h)] at hk
  exact ⟨_, hk, State.reply_replied _ _ _ _ _ _ (by rw [hc]) (by rw [hc]) (by rw [hc])⟩

/-- A row that passes checks 1 to 3 is a block of one entry. -/
theorem exec_entry (h : (s.accepted sess seq).writeHead sess (key / 256) (key % 256) = .ok r) :
    ∃ k, exec i s = .next ((s.accepted sess seq).writeEntries (writeReqOf i sess seq key words) k false
      [((writeReqOf i sess seq key words).ctx.sub, r, (writeReqOf i sess seq key words).body)]) := by
  obtain ⟨k, hk⟩ := exec_takes hw ht
  rw [State.writeOne_ok (r := r) (by rw [writeReqOf_ctx hw]; exact h)] at hk
  exact ⟨k, hk⟩

theorem exec_bodyError (h : (s.accepted sess seq).writeHead sess (key / 256) (key % 256) = .ok r)
    (hb : bodyStatus (key / 256) (key % 256) r (reqWords words) = .error e) :
    Completes i s (Replied (s.accepted sess seq) · sess seq e) := by
  obtain ⟨k, hk⟩ := exec_entry hw ht h
  have hc := writeReqOf_ctx hw
  rw [State.writeEntries_bodyError (e := e) (by rw [hc]; exact hb)] at hk
  exact ⟨_, hk, State.reply_replied _ _ _ _ _ _ (by rw [hc]) (by rw [hc]) (by rw [hc])⟩

/-- A staged write that finds no room waits, and has no reply yet (R33). -/
theorem exec_held (h : (s.accepted sess seq).writeHead sess (key / 256) (key % 256) = .ok r)
    (hb : bodyStatus (key / 256) (key % 256) r (reqWords words) = .ok v) (hs : r.staged = true)
    (hroom : (s.accepted sess seq).windowTakes ((s.accepted sess seq).stagedEntries (key / 256) (key % 256) v).length = false) :
    exec i s = .next (State.inc { s.accepted sess seq with core.held := (s.accepted sess seq).core.held ++
      [⟨⟨.direct, sess, seq % 2 ^ 32, 2, key / 256, key % 256⟩, [⟨key, v⟩]⟩] } Obj.deferredWrites) := by
  obtain ⟨k, hk⟩ := exec_entry hw ht h
  have hc := writeReqOf_ctx hw
  have hkey : objKey (key / 256) (key % 256) = key := by
    unfold objKey
    omega
  rw [State.writeEntries_ok (v := v) (by rw [hc]; exact hb) (by rw [hc]; exact Nat.mod_lt _ (by decide)), hc, hkey, if_pos] at hk
  · exact hk
  · dsimp only
    rw [hs, hroom]
    rfl

/-- The block of one entry that finds room, or needs none, is run. -/
theorem exec_run (h : (s.accepted sess seq).writeHead sess (key / 256) (key % 256) = .ok r)
    (hb : bodyStatus (key / 256) (key % 256) r (reqWords words) = .ok v)
    (hroom : r.staged = false ∨
      (s.accepted sess seq).windowTakes ((s.accepted sess seq).stagedEntries (key / 256) (key % 256) v).length = true) :
    ∃ k, exec i s = .next (match (s.accepted sess seq).runBlock sess (key / 256) (writeMeas i)
        [(key % 256, r, (writeReqOf i sess seq key words).body)] with
      | .error e => ((s.accepted sess seq).rejected e.2.2).reply (writeReqOf i sess seq key words).ctx k e.1 false []
      | .ok s' => s'.reply (writeReqOf i sess seq key words).ctx k Status.ok false []) := by
  obtain ⟨k, hk⟩ := exec_entry hw ht h
  have hc := writeReqOf_ctx hw
  rw [State.writeEntries_ok (v := v) (by rw [hc]; exact hb) (by rw [hc]; exact Nat.mod_lt _ (by decide)), if_neg] at hk
  · refine ⟨k, hk.trans ?_⟩
    rw [hc] <;> rfl
  · rw [hc]
    obtain hs | hs := hroom
    · rw [hs]
      exact Bool.false_ne_true
    · rw [hs, Bool.not_true, Bool.and_false]
      exact Bool.false_ne_true

/-- A write that fails one of checks 7 to 9 is answered with its status, but for a failed key import, which has its own consequence. -/
theorem exec_tailError (h : (s.accepted sess seq).writeHead sess (key / 256) (key % 256) = .ok r)
    (hb : bodyStatus (key / 256) (key % 256) r (reqWords words) = .ok v)
    (hroom : r.staged = false ∨
      (s.accepted sess seq).windowTakes ((s.accepted sess seq).stagedEntries (key / 256) (key % 256) v).length = true)
    (he : (s.accepted sess seq).writeTail (key / 256) (key % 256) r v = some e) (hk : key ≠ Obj.keyImport) :
    Completes i s (Replied (s.accepted sess seq) · sess seq e) := by
  obtain ⟨k, hexec⟩ := exec_run hw ht h hb hroom
  have hc := writeReqOf_ctx hw
  have hne : ¬ (key / 256 = 0x3804 ∧ key % 256 = 1) := by
    intro hcon
    refine hk ?_
    simp only [Obj.keyImport, objKey]
    omega
  rw [State.runBlock_fails hb he hne] at hexec
  exact ⟨_, hexec, State.reply_replied _ _ _ _ _ _ (by rw [hc]) (by rw [hc]) (by rw [hc])⟩

/-- A write that passes every check joins the window or acts at once, and is answered with OK. -/
theorem exec_passes (h : (s.accepted sess seq).writeHead sess (key / 256) (key % 256) = .ok r)
    (hb : bodyStatus (key / 256) (key % 256) r (reqWords words) = .ok v)
    (hroom : r.staged = false ∨
      (s.accepted sess seq).windowTakes ((s.accepted sess seq).stagedEntries (key / 256) (key % 256) v).length = true)
    (hp : (s.accepted sess seq).writeTail (key / 256) (key % 256) r v = none) :
    Completes i s (Replied ((s.accepted sess seq).putWrite sess (key / 256) (key % 256) r v (writeMeas i)) · sess seq 0) := by
  obtain ⟨k, hexec⟩ := exec_run hw ht h hb hroom
  have hc := writeReqOf_ctx hw
  rw [State.runBlock_passes hb hp] at hexec
  exact ⟨_, hexec, State.reply_replied _ _ _ _ _ _ (by rw [hc]) (by rw [hc]) (by rw [hc])⟩

end

/-- An admitted immediate write has its effect at once, and is answered with OK. -/
theorem exec_admits {v : Int} (hw : writeOf i = some (sess, seq, key, words)) (h : s.admits i v false) :
    Completes i s (Replied ((s.accepted sess seq).effect sess (key / 256) (key % 256) v (writeMeas i)) · sess seq 0) := by
  obtain ⟨sess', seq', key', words', r, hw', ht, hh, hb, hp, hs⟩ := h
  obtain ⟨⟩ := hw.symm.trans hw'
  have hrun := exec_passes hw ht hh hb (.inl hs) hp
  unfold State.putWrite at hrun
  rwa [hs, if_neg Bool.false_ne_true] at hrun

/-! #### Staging (R34) -/

/-- A write joins the window after the earlier ones; one of its object that stood there is counted as overwritten. -/
theorem State.stage_spec (s : State) (w : StagedWrite) :
    (∃ x, s.stage w = { s with regs := x, core := { s.core with window := s.core.window ++ [w] } }) ∧
    KeepsRegs [Obj.stagedOverwritten] s (s.stage w) ∧
    (s.stage w).rdN Obj.stagedOverwritten = if s.core.window.any (fun x => x.key == w.key) then
      (s.rdN Obj.stagedOverwritten + 1) % 2 ^ 64 else s.rdN Obj.stagedOverwritten := by
  unfold State.stage
  cases s.core.window.any (fun x => x.key == w.key) with
  | false => exact ⟨⟨_, rfl⟩, fun _ _ => rfl, rfl⟩
  | true => exact ⟨⟨_, rfl⟩, fun _ hk => State.wrN_rd_ne (h := fun hc => hk (List.mem_singleton.2 hc)) .., State.inc_rdN_self ..⟩

theorem State.each_stage (l : List StagedWrite) (s : State) :
    (∃ x, s.each l State.stage = { s with regs := x, core := { s.core with window := s.core.window ++ l } }) ∧
    KeepsRegs [Obj.stagedOverwritten] s (s.each l State.stage) := by
  induction l generalizing s with
  | nil => exact ⟨⟨s.regs, by rw [List.append_nil] <;> rfl⟩, fun _ _ => rfl⟩
  | cons w l ih =>
    obtain ⟨⟨x, hx⟩, hkeep, -⟩ := s.stage_spec w
    obtain ⟨⟨y, hy⟩, hkeep'⟩ := ih (s.stage w)
    rw [State.each_cons]
    refine ⟨⟨y, hy.trans ?_⟩, hkeep.trans hkeep'⟩
    rw [hx]
    show ({ s with regs := y, core := { s.core with window := (s.core.window ++ [w]) ++ l } } : State) = _
    rw [List.append_assoc] <;> rfl

/-- A staged write that passes every check has joined the window with its places, and is answered with OK. -/
theorem exec_staged {r : Row} {v : Int} (hw : writeOf i = some (sess, seq, key, words)) (ht : s.takes sess seq)
    (hh : (s.accepted sess seq).writeHead sess (key / 256) (key % 256) = .ok r)
    (hb : bodyStatus (key / 256) (key % 256) r (reqWords words) = .ok v) (hs : r.staged = true)
    (hroom : (s.accepted sess seq).windowTakes ((s.accepted sess seq).stagedEntries (key / 256) (key % 256) v).length = true)
    (hp : (s.accepted sess seq).writeTail (key / 256) (key % 256) r v = none) :
    Completes i s (fun t =>
      t.core = { s.core with window := s.core.window ++ (s.accepted sess seq).stagedEntries (key / 256) (key % 256) v } ∧
      t.agent.lastReply.status = 0 ∧ t = { s with regs := t.regs, core := t.core, agent := t.agent } ∧
      KeepsRegs [Obj.stagedOverwritten] s t ∧
      ((s.accepted sess seq).stagedEntries (key / 256) (key % 256) v = [⟨key, v⟩] → t.rdN Obj.stagedOverwritten =
        if s.core.window.any (fun w => w.key == key) then (s.rdN Obj.stagedOverwritten + 1) % 2 ^ 64
        else s.rdN Obj.stagedOverwritten)) := by
  obtain ⟨t, hexec, hupd, hstatus, -⟩ := exec_passes hw ht hh hb (.inr hroom) hp
  obtain ⟨x, hu⟩ := s.accepted_upd sess seq
  generalize hl : (s.accepted sess seq).stagedEntries (key / 256) (key % 256) v = l at *
  have hput : (s.accepted sess seq).putWrite sess (key / 256) (key % 256) r v (writeMeas i) = (s.accepted sess seq).each l State.stage := by
    unfold State.putWrite
    rw [hs, hl, if_pos rfl]
  rw [hput] at hupd
  obtain ⟨⟨y, hy⟩, hkeep⟩ := State.each_stage l (s.accepted sess seq)
  have ht' : t = { s with regs := y, core := { s.core with window := s.core.window ++ l }, agent := t.agent } := by
    refine hupd.trans ?_
    rw [hy, hu]
  have hregs : t.regs = ((s.accepted sess seq).each l State.stage).regs := by rw [hupd]
  have hrd (k : Nat) : t.rd k = ((s.accepted sess seq).each l State.stage).rd k := congrArg (fun x => tget objDefault x k) hregs
  refine ⟨t, hexec, ?_, hstatus, ?_, fun k hk => ?_, fun hone => ?_⟩
  · rw [ht']
  · rw [ht']
  · rw [hrd, hkeep k hk, hu]
    exact State.rd_upd ..
  · have hval := ((s.accepted sess seq).stage_spec ⟨key, v⟩).2.2
    rw [show t.rdN Obj.stagedOverwritten = _ from congrArg Int.toNat (hrd _), hone]
    refine hval.trans ?_
    rw [hu] <;> rfl

/-- A staged write that waits is counted (R33, R58). -/
theorem exec_waits {r : Row} {v : Int} (hw : writeOf i = some (sess, seq, key, words)) (ht : s.takes sess seq)
    (hh : (s.accepted sess seq).writeHead sess (key / 256) (key % 256) = .ok r)
    (hb : bodyStatus (key / 256) (key % 256) r (reqWords words) = .ok v) (hs : r.staged = true)
    (hroom : (s.accepted sess seq).windowTakes ((s.accepted sess seq).stagedEntries (key / 256) (key % 256) v).length = false) :
    Completes i s (fun t => t.core = { s.core with held := s.core.held ++
        [⟨⟨.direct, sess, seq % 2 ^ 32, 2, key / 256 % 65536, key % 256⟩, [⟨key, v⟩]⟩] } ∧
      t.agent = (s.accepted sess seq).agent ∧ t.rdN Obj.deferredWrites = (s.rdN Obj.deferredWrites + 1) % 2 ^ 64 ∧
      KeepsRegs [Obj.deferredWrites] s t) := by
  have hexec := exec_held hw ht hh hb hs hroom
  rw [Nat.mod_eq_of_lt (writeOf_key_lt hw)]
  obtain ⟨x, hu⟩ := s.accepted_upd sess seq
  rw [hu] at hexec ⊢
  exact ⟨_, hexec, rfl, rfl, State.inc_rdN_self .., fun k hk => State.wrN_rd_ne (h := fun hc => hk (List.mem_singleton.2 hc)) ..⟩

theorem State.request_direct (hs : s.agent.serving = true) (h0 : 0 < sess.val) (hw : writeOf i = some (sess, seq, key, words)) :
    exec i s = .next (if !(s.session sess).isOpen ∨ 16 < sess.val then s.authFail
      else if !(s.session sess).accepts (seq % 2 ^ 32) then s.inc Obj.replayed
      else
        let t := (s.setSession sess ((s.session sess).accept (seq % 2 ^ 32) s.core.tick .direct)).serve (writeReqOf i sess seq key words)
          (s.session sess).key
        if seq % 2 ^ 32 = 2 ^ 32 - 1 ∧ ¬ t.heldRequest (writeReqOf i sess seq key words).ctx then t.sessionClose sess 2 else t) := by
  refine (exec_of_writeOf hw).trans (congrArg Host.Outcome.next ?_)
  unfold State.direct
  rw [hs, if_pos rfl]
  unfold State.request
  dsimp only [writeReqOf, mkReq]
  rw [if_neg (by omega)]
  rfl

/-- A request of a session that is not open is an authentication failure (R81). -/
theorem exec_closed (hw : writeOf i = some (sess, seq, key, words)) (hs : s.agent.serving = true) (h0 : 0 < sess.val)
    (hopen : (s.session sess).isOpen = false) :
    Completes i s (fun t => t.rdN Obj.authFailures = (s.rdN Obj.authFailures + 1) % 2 ^ 64 ∧ t.agent = s.agent ∧
      t.core.window = s.core.window ∧ KeepsRegs [Obj.authFailures] s t) := by
  have hexec := State.request_direct hs h0 hw
  rw [if_pos (.inl (by rw [hopen]; rfl))] at hexec
  unfold State.authFail State.raiseLimited State.raiseLimitedFor State.raiseLimitedItem at hexec
  dsimp only at hexec
  split at hexec
  · exact ⟨_, hexec, State.inc_rdN_self .., rfl, rfl, fun k hk => State.wrN_rd_ne (h := fun hc => hk (List.mem_singleton.2 hc)) ..⟩
  · exact ⟨_, hexec, State.inc_rdN_self .., rfl, rfl, fun k hk => State.wrN_rd_ne (h := fun hc => hk (List.mem_singleton.2 hc)) ..⟩

/-- A sequence number that the session does not accept is counted, and its request is not executed (R80). -/
theorem exec_replayed (hw : writeOf i = some (sess, seq, key, words)) (hs : s.agent.serving = true) (h0 : 0 < sess.val)
    (hopen : (s.session sess).isOpen = true) (hacc : (s.session sess).accepts (seq % 2 ^ 32) = false) :
    Completes i s (fun t => t.rdN Obj.replayed = (s.rdN Obj.replayed + 1) % 2 ^ 64 ∧ t.agent = s.agent ∧ t.core = s.core ∧
      KeepsRegs [Obj.replayed] s t) := by
  have hexec := State.request_direct hs h0 hw
  have hlt := sess.isLt
  rw [if_neg (by rw [hopen]; simp; omega), hacc, Bool.not_false, if_pos rfl] at hexec
  exact ⟨_, hexec, State.inc_rdN_self .., rfl, rfl, fun k hk => State.wrN_rd_ne (h := fun hc => hk (List.mem_singleton.2 hc)) ..⟩

end

/-- Settles O38. -/
theorem sessionWritesAreCheckedStagedOrDoneAtOnce : Obligations.SessionWritesAreCheckedStagedOrDoneAtOnce := by
  unfold Obligations.SessionWritesAreCheckedStagedOrDoneAtOnce
  refine ⟨fun s u i sess seq key words r v hw ht hu hh hb => ?_, fun s u i sess seq key words v _ hw ha hu hroom => ?_,
    fun s u i sess seq key words r e hw ht hu he => ?_, fun s i hw hs => ?_, fun s i sess seq key words hw hs h0 hopen => ?_,
    fun s i sess seq key words hw hs h0 hopen hacc => ?_⟩
  · subst hu
    refine ⟨fun hs hroom hp => exec_staged hw ht hh hb hs hroom hp, fun hs hroom => ?_, fun hs hp => ?_,
      fun e he hk hroom => exec_tailError hw ht hh hb hroom he hk⟩
    · exact exec_waits hw ht hh hb hs hroom
    · have hrun := exec_passes hw ht hh hb (.inl hs) hp
      unfold State.putWrite at hrun
      rwa [hs, if_neg Bool.false_ne_true] at hrun
  · subst hu
    obtain ⟨sess', seq', key', words', r, hw', ht, hh, hb, hp, hs⟩ := ha
    obtain ⟨⟩ := hw.symm.trans hw'
    exact (exec_staged hw ht hh hb hs hroom hp).mono fun t ⟨hcore, hstatus, hupd, hkeep, _⟩ => ⟨hcore, hstatus, hupd, hkeep⟩
  · subst hu
    obtain he | ⟨hh, hb⟩ := he
    · exact exec_headError hw ht he
    · exact exec_bodyError hw ht hh hb
  · obtain ⟨⟨sess, seq, key, words⟩, hq⟩ := Option.isSome_iff_exists.1 hw
    exact (exec_of_writeOf hq).trans (congrArg Host.Outcome.next (State.direct_off hs _))
  · exact exec_closed hw hs h0 hopen
  · exact exec_replayed hw hs h0 hopen hacc

end Sys2Proof.Machine
end

section
/-! The immediate writes of the timing, towpath, engine, supervisory and board objects (R45). -/
open Sys2Proof Sys2Proof.Machine
namespace Sys2Proof.Machine

section
variable {s t u : State} {i : Instr} {sess : Fin 17} {seq : Nat} {words : List Nat} {v : Int} {n : Nat}

theorem objKey_div {a b : Nat} (hb : b < 256) : objKey a b / 256 = a := by
  unfold objKey
  omega

theorem objKey_mod {a b : Nat} (hb : b < 256) : objKey a b % 256 = b := by
  unfold objKey
  omega

/-- An admitted immediate write has its effect, and but for the agent's record nothing else. -/
theorem exec_acts {a b : Nat} (hw : writeOf i = some (sess, seq, objKey a b, words)) (hb : b < 256) (h : s.admits i v false) :
    ∃ g x, exec i s = .next { State.effect { s with agent := g } sess a b v (writeMeas i) with agent := x } ∧ x.lastReply.status = 0 := by
  obtain ⟨t, hexec, hupd, hstatus, -⟩ := exec_admits hw h
  rw [objKey_div hb, objKey_mod hb] at hupd
  obtain ⟨y, hy⟩ := s.accepted_upd sess seq
  rw [hy] at hupd
  refine ⟨{ s.agent with sessions := y }, t.agent, hexec.trans ?_, hstatus⟩
  rw [← hupd]

/-! #### What the effect is, row by row (R45) -/

section
variable {m : Option (Int × Nat × Nat)} {ss : Nat}

theorem effect_todAssociate : s.effect ss 0x4070 1 v m = s.todAssociateOp (beBytes 20 v.toNat) := rfl

theorem effect_retrain (l : Fin 8) : s.effect ss (0x4110 + l) 4 v m = s.laneRetrain l := by
  have hc : ∀ l : Fin 8, canonIdx (0x4110 + l) = 0x4110 := by decide
  unfold State.effect
  rw [if_neg (by omega), hc l]
  show s.laneRetrain (0x4110 + l - 0x4110) = _
  rw [Nat.add_sub_cancel_left]

theorem effect_loopback (l : Fin 8) : s.effect ss (0x4110 + l) 2 v m = s.loopbackOp l v.toNat := by
  have hc : ∀ l : Fin 8, canonIdx (0x4110 + l) = 0x4110 := by decide
  unfold State.effect
  rw [if_neg (by omega), hc l]
  show s.loopbackOp (0x4110 + l - 0x4110) _ = _
  rw [Nat.add_sub_cancel_left]

theorem effect_wakeMate : s.effect ss 0x4100 4 v m = s.wakeMateOp := rfl

theorem effect_engineLoad (c : Fin 12) : s.effect ss (0x5000 + 0x40 * c) 3 v m = s.engineLoadOp c v.toNat := by
  have hc : ∀ c : Fin 12, canonIdx (0x5000 + 0x40 * c) = 0x5000 ∧ clusterOf (0x5000 + 0x40 * c) = c := by decide
  unfold State.effect
  rw [if_neg (by omega), (hc c).1]
  show s.engineLoadOp (clusterOf (0x5000 + 0x40 * c)) _ = _
  rw [(hc c).2]

theorem effect_firstCluster (p : Fin 4) : s.effect ss (0x5310 + p) 1 v m = s.partitionOp p v.toNat (s.rdN (Obj.clusterCount p)) := by
  match p with
  | 0 => rfl
  | 1 => rfl
  | 2 => rfl
  | 3 => rfl

theorem effect_clusterCount (p : Fin 4) : s.effect ss (0x5310 + p) 2 v m = s.partitionOp p (s.rdN (Obj.firstCluster p)) v.toNat := by
  match p with
  | 0 => rfl
  | 1 => rfl
  | 2 => rfl
  | 3 => rfl

theorem effect_overflowClear (c : Fin 12) (e : Fin 16) : s.effect ss (0x5400 + 16 * c + e) 15 v m =
    s.wrN (Obj.counterOverflow c e) (s.rdN (Obj.counterOverflow c e) &&& (511 - v.toNat)) := by
  have hc : ∀ c : Fin 12, ∀ e : Fin 16, canonIdx (0x5400 + 16 * c + e) = 0x5400 := by decide
  unfold State.effect
  rw [if_neg (by omega), hc c e]
  rfl

theorem effect_inject : s.effect ss 0x1600 3 v m = s.injectOp v.toNat := rfl

theorem effect_filterCoeff (f : Fin 32) (n : Nat) : s.effect ss (0x1660 + f) n v m = s.wr (objKey (0x1660 + f) n) v := by
  have hc : ∀ f : Fin 32, canonIdx (0x1660 + f) = 0x1660 := by decide
  unfold State.effect
  rw [if_neg (by omega), hc f] <;> rfl

theorem effect_peekAddress : s.effect ss 0x3530 5 v m = s.wr Obj.peekAddress v := rfl

theorem effect_pathSelectGpio (u : Fin 4) : s.effect ss (0x3590 + u) 12 v m = s.wr (Obj.pathSelectGpio u) v := by
  have hc : ∀ u : Fin 4, canonIdx (0x3590 + u) = 0x3590 := by decide
  unfold State.effect
  rw [if_neg (by omega), hc u]
  rfl

theorem effect_gcInvert : s.effect ss 0x1700 9 v m = s.wr Obj.gcInvert v := rfl

theorem effect_alarmClear : s.effect ss 0x1700 3 v m = s.wrN Obj.alarmLatch 0 := rfl

theorem effect_gpioConfig (k : Fin 16) : s.effect ss 0x1710 (1 + k) v m =
    (s.wr (Obj.gpioConfig k) v).gpioWritten k (s.rdN (Obj.gpioConfig k)) := by
  show State.gpioWritten (s.wr (Obj.gpioConfig k) v) (1 + k - 1) _ = _
  rw [Nat.add_sub_cancel_left]
  rfl

theorem effect_twiXfer (r : Fin 4) : s.effect ss (0x1720 + r) 2 v m = s.twiOp r v.toNat := by
  have hc : ∀ r : Fin 4, canonIdx (0x1720 + r) = 0x1720 := by decide
  unfold State.effect
  rw [if_neg (by omega), hc r]
  show s.twiOp (0x1720 + r - 0x1720) _ = _
  rw [Nat.add_sub_cancel_left]

end

/-! #### The rows -/

theorem State.todAssociateOp_spec (s : State) (w : List Byte) : ∃ x, s.todAssociateOp w = { s with
      regs := x, timing := { s.timing with tod := some ⟨hdrField w 0 8, hdrField w 8 6, hdrField w 16 4⟩ } } ∧
    KeepsRegs [Obj.todState] s (s.todAssociateOp w) ∧ (s.rdN Obj.timingState = 0 → (s.todAssociateOp w).rdN Obj.todState = 3) := by
  unfold State.todAssociateOp
  generalize (⟨hdrField w 0 8, hdrField w 8 6, hdrField w 16 4⟩ : TodAssoc) = d
  have hrd (k : Nat) : State.rd { s with timing.tod := some d } k = s.rd k := rfl
  have hn : ({ s with timing.tod := some d } : State).timing.tod.isNone = false := rfl
  have hshow (u : State) : ∃ n, u.showTod = u.wrN Obj.todState n ∧ (u.timing.tod.isNone = false → u.rdN Obj.timingState = 0 → n = 3) := by
    refine ⟨_, rfl, fun h h0 => ?_⟩
    rw [h, h0, if_neg Bool.false_ne_true]
    rfl
  obtain ⟨n, hn', hval⟩ := hshow { s with timing.tod := some d }
  rw [hn']
  refine ⟨_, rfl, fun k hk => ?_, fun hstate => ?_⟩
  · exact (State.wrN_rd_ne (h := fun hc => hk (List.mem_singleton.2 hc)) ..).trans (hrd k)
  · exact (State.wrN_rdN_self ..).trans (hval hn ((congrArg Int.toNat (hrd _)).trans hstate))

theorem todAssociate_acts {bytes : List Byte} (h : s.admits (.todAssociate sess seq bytes) n false) {w : List Byte} (hw : w = beBytes 20 n) :
    Completes (.todAssociate sess seq bytes) s (fun t => t.core = s.core ∧ KeepsRegs [Obj.todState] s t ∧
      t.timing = { s.timing with tod := some ⟨hdrField w 0 8, hdrField w 8 6, hdrField w 16 4⟩ } ∧
      (s.rdN Obj.timingState = 0 → t.rdN Obj.todState = 3)) := by
  obtain ⟨g, x, hexec, -⟩ := exec_acts (a := 0x4070) (b := 1) rfl (by decide) h
  rw [effect_todAssociate, Int.toNat_natCast, ← hw] at hexec
  obtain ⟨y, hy, hkeep, hstate⟩ := State.todAssociateOp_spec { s with agent := g } w
  generalize State.todAssociateOp { s with agent := g } w = u at *
  refine ⟨_, hexec, ?_, fun k hk => (State.rd_upd ..).trans ((hkeep k hk).trans (State.rd_upd ..)), ?_, fun h0 => ?_⟩
  · rw [hy]
  · rw [hy]
  · exact (State.rdN_upd ..).trans (hstate ((State.rdN_upd ..).trans h0))

/-- What a lane that goes down changes but the announcement. -/
def State.laneDown (s : State) (l : Nat) : State :=
  ((s.setLane l { s.lane l with target := 0, training := 0, trainAt := 0, fails := 0, fellBack := false, queued := 0, rx := {} }).laneTo
    l 0).wrN (Obj.laneRate l) 0

theorem State.laneDown_spec (s : State) {l : Nat} (hl : l < 8) : ∃ x y, s.laneDown l = { s with regs := x, towpath := y } ∧
    (s.laneDown l).laneState l = 0 ∧ (s.laneDown l).rdN (Obj.laneRate l) = 0 ∧
    KeepsRegs [Obj.tpLaneState l, Obj.laneRate l, Obj.lanesInService] s (s.laneDown l) := by
  unfold State.laneDown
  have hrd (d : LaneSt) (k : Nat) : (s.setLane l d).rd k = s.rd k := rfl
  have hshape (d : LaneSt) : ∃ y, s.setLane l d = { s with towpath := y } := ⟨_, rfl⟩
  generalize ({ s.lane l with target := 0, training := 0, trainAt := 0, fails := 0, fellBack := false, queued := 0, rx := {} } : LaneSt) = d
  obtain ⟨y, hy⟩ := hshape d
  have hrd := hrd d
  generalize s.setLane l d = w at *
  obtain ⟨⟨x, hx⟩, hstate, hkeep⟩ := w.laneTo_spec hl 0
  generalize w.laneTo l 0 = z at *
  have hne : Obj.tpLaneState l ≠ Obj.laneRate l := by
    simp only [Obj.tpLaneState, Obj.laneRate, objKey]
    omega
  refine ⟨(z.wrN (Obj.laneRate l) 0).regs, y, ?_, (State.wrN_rdN_ne (h := hne) ..).trans hstate, State.wrN_rdN_self .., fun k hk => ?_⟩
  · rw [hx, hy] <;> rfl
  · simp only [List.mem_cons, List.not_mem_nil, or_false, not_or] at hk
    rw [State.wrN_rd_ne (h := hk.2.1), hkeep k (by simp [hk]), hrd]

theorem State.laneDrop_of_up (s : State) (l cause : Nat) (cut : Bool) (h : s.laneState l ≠ 0) :
    s.laneDrop l cause cut = ((s.laneDown l).onlyIf (cut && s.laneState l == 3) State.mateError).raise 0x80D1 (0x4110 + l) cause := if_neg h

theorem retrain_training (l : Fin 8) (h : s.admits (.retrain sess seq l n) v false) (hl : s.laneState l = 2) :
    Completes (.retrain sess seq l n) s (fun t => t.laneState l = 0 ∧ t.rdN (Obj.laneRate l) = 0 ∧
      t.core = { s.core with inFlight := s.core.inFlight ++ [⟨0x80D1, 0x4110 + l.val, 4, s.core.tick, s.life⟩] }) := by
  obtain ⟨g, x, hexec, -⟩ := exec_acts (a := 0x4110 + l) (b := 4) rfl (by decide) h
  have hstate : State.laneState { s with agent := g } l = 2 := hl
  have heff (u : State) (hu : u.laneState l = 2) : u.laneRetrain l = (u.laneDown l).raise 0x80D1 (0x4110 + l) 4 := by
    unfold State.laneRetrain
    rw [if_neg (by rw [hu]; decide), State.laneDrop_of_up u l 4 false (by rw [hu]; decide)]
    rfl
  rw [effect_retrain, heff _ hstate] at hexec
  obtain ⟨y, z, hy, hdown, hrate, -⟩ := State.laneDown_spec { s with agent := g } l.isLt
  generalize State.laneDown { s with agent := g } l = w at *
  refine ⟨_, hexec, hdown, hrate, ?_⟩
  rw [hy]
  rfl

/-- A message that ends with an error is counted, and at most announced (R386). -/
theorem State.mateErrorIf_spec (s : State) (cut : Bool) : ∃ x c, s.onlyIf cut State.mateError = { s with regs := x, core := c } ∧
    c.tick = s.core.tick ∧ KeepsRegs [Obj.messageErrors] s (s.onlyIf cut State.mateError) ∧
    ((s.onlyIf cut State.mateError).rdN Obj.messageErrors = s.rdN Obj.messageErrors ∨
      (s.onlyIf cut State.mateError).rdN Obj.messageErrors = (s.rdN Obj.messageErrors + 1) % 2 ^ 64) := by
  cases cut with
  | false => exact ⟨s.regs, s.core, rfl, rfl, fun _ _ => rfl, .inl rfl⟩
  | true =>
    rw [State.onlyIf_true]
    unfold State.mateError
    have htick := State.raiseLimitedFor_tick (s := s.inc Obj.messageErrors) 0x80D4 0x4100 1 0
    obtain ⟨c, hc⟩ := State.raiseLimited_upd (s := s.inc Obj.messageErrors) (code := 0x80D4) (source := 0x4100) (n := 1) rfl
    rw [show State.raiseLimitedFor (s.inc Obj.messageErrors) 0x80D4 0x4100 1 0 = _ from hc] at htick
    rw [hc]
    exact ⟨_, c, rfl, htick, fun k hk => (State.rd_upd ..).trans (State.wrN_rd_ne (h := fun hc => hk (List.mem_singleton.2 hc)) ..),
      .inr ((State.rdN_upd ..).trans (State.inc_rdN_self ..))⟩

/-- A lane in service that is retrained, with or without a frame cut short (R384; log entry 54). -/
theorem retrain_inService (l : Fin 8) (h : s.admits (.retrain sess seq l n) v false) (hl : s.laneState l = 3) :
    Completes (.retrain sess seq l n) s (fun t => t.laneState l = 0 ∧ t.rdN (Obj.laneRate l) = 0 ∧
      (t.rdN Obj.messageErrors = s.rdN Obj.messageErrors ∨
        t.rdN Obj.messageErrors = (s.rdN Obj.messageErrors + 1) % 2 ^ 64) ∧
      (⟨0x80D1, 0x4110 + l.val, 4, s.core.tick, s.life⟩ : Event) ∈ t.core.inFlight ∧
      KeepsRegs [Obj.tpLaneState l, Obj.laneRate l, Obj.messageErrors, Obj.lanesInService] s t) := by
  obtain ⟨g, x, hexec, -⟩ := exec_acts (a := 0x4110 + l) (b := 4) rfl (by decide) h
  have hstate : State.laneState { s with agent := g } l = 3 := hl
  have heff (u : State) (hu : u.laneState l = 3) : ∃ f cut, u.laneRetrain l =
      ((State.laneDown { u with core.freeCtr := f } l).onlyIf cut State.mateError).raise 0x80D1 (0x4110 + l) 4 := by
    refine ⟨u.core.freeCtr + 1, (Config.free u.core.freeCtr % 2 == 1) && true, ?_⟩
    unfold State.laneRetrain
    rw [if_pos hu]
    show State.laneDrop { u with core.freeCtr := u.core.freeCtr + 1 } l 4 _ = _
    have hu' : State.laneState { u with core.freeCtr := u.core.freeCtr + 1 } l = 3 := hu
    rw [State.laneDrop_of_up _ l 4 _ (by rw [hu']; decide), hu']
    rfl
  obtain ⟨f, cut, hcut⟩ := heff _ hstate
  rw [effect_retrain, hcut] at hexec
  obtain ⟨y, z, hy, hdown, hrate, hkeep⟩ := State.laneDown_spec { s with agent := g, core.freeCtr := f } l.isLt
  generalize State.laneDown { s with agent := g, core.freeCtr := f } l = w at *
  obtain ⟨y', c, hy', htick, hkeep', herr⟩ := w.mateErrorIf_spec cut
  generalize w.onlyIf cut State.mateError = w' at *
  have hne : Obj.tpLaneState l ∉ [Obj.messageErrors] ∧ Obj.laneRate l ∉ [Obj.messageErrors] ∧
      Obj.messageErrors ∉ [Obj.tpLaneState l, Obj.laneRate l, Obj.lanesInService] := by
    simp only [List.mem_cons, List.not_mem_nil, or_false, Obj.tpLaneState, Obj.laneRate, Obj.messageErrors, Obj.lanesInService, objKey]
    omega
  have hmsg : w.rdN Obj.messageErrors = s.rdN Obj.messageErrors := hkeep.rdN hne.2.2
  refine ⟨_, hexec, (hkeep'.rdN hne.1).trans hdown, (hkeep'.rdN hne.2.1).trans hrate, hmsg ▸ herr, ?_, fun k hk => ?_⟩
  · have hw : w'.core.tick = s.core.tick ∧ w'.life = s.life := by
      rw [hy', hy] at *
      exact ⟨htick, congrArg (fun n => s.start.lifeBase + n / 100000) htick⟩
    rw [← hw.1, ← hw.2]
    exact List.mem_append_right _ (List.mem_singleton.2 rfl)
  · simp only [List.mem_cons, List.not_mem_nil, or_false, not_or] at hk
    exact (hkeep' k (by simp [hk])).trans (hkeep k (by simp [hk]))

theorem loopback_acts (l : Fin 8) (h : s.admits (.loopback sess seq l n) n false) (hn : s.rdN (Obj.loopback l) ≠ n)
    (hl : s.laneState l = 2) : Completes (.loopback sess seq l n) s (fun t => t.rdN (Obj.loopback l) = n ∧ t.laneState l = 0 ∧
      ⟨0x80D1, 0x4110 + l.val, 4, s.core.tick, s.life⟩ ∈ t.core.inFlight) := by
  obtain ⟨g, x, hexec, -⟩ := exec_acts (a := 0x4110 + l) (b := 2) rfl (by decide) h
  have hkeys : Obj.tpLaneState l ≠ Obj.loopback l ∧ Obj.loopback l ∉ [Obj.tpLaneState l, Obj.laneRate l, Obj.lanesInService] := by
    simp only [List.mem_cons, List.not_mem_nil, or_false, Obj.tpLaneState, Obj.laneRate, Obj.loopback, Obj.lanesInService, objKey]
    omega
  have hwr (u : State) (hu : u.rdN (Obj.loopback l) ≠ n) (h2 : u.laneState l = 2) : u.loopbackOp l n =
      ((u.wrN (Obj.loopback l) n).laneDown l).raise 0x80D1 (0x4110 + l) 4 := by
    have hst : (u.wrN (Obj.loopback l) n).laneState l = 2 := (State.wrN_rdN_ne (h := hkeys.1) ..).trans h2
    unfold State.loopbackOp
    rw [if_neg hu]
    unfold State.laneRetrain
    rw [if_neg (by rw [hst]; decide), State.laneDrop_of_up _ l 4 false (by rw [hst]; decide)]
    rfl
  rw [effect_loopback, Int.toNat_natCast, hwr { s with agent := g } hn hl] at hexec
  obtain ⟨y, z, hy, hdown, -, hkeep⟩ := State.laneDown_spec (State.wrN { s with agent := g } (Obj.loopback l) n) l.isLt
  generalize State.laneDown (State.wrN { s with agent := g } (Obj.loopback l) n) l = w at *
  refine ⟨_, hexec, (hkeep.rdN hkeys.2).trans (State.wrN_rdN_self ..), hdown, ?_⟩
  rw [hy]
  exact List.mem_append_right _ (List.mem_singleton.2 rfl)

theorem wakeMate_acts (h : s.admits (.wakeMate sess seq n) v false) :
    Completes (.wakeMate sess seq n) s (fun t => t.towpath = { s.towpath with wakeUntil := s.core.tick + 1000 } ∧
      (∀ l : Fin 8, t.rdN (Obj.laneRate l) = 0) ∧ KeepsRegs ((List.range 8).map (Obj.laneRate ·)) s t ∧ t.core = s.core) := by
  obtain ⟨g, x, hexec, -⟩ := exec_acts (a := 0x4100) (b := 4) rfl (by decide) h
  have heff (u : State) : u.wakeMateOp = State.each { u with towpath.wakeUntil := u.core.tick + 1000 } (List.range 8)
      (fun t l => t.wr (Obj.laneRate l) ((fun _ _ => 0) t l)) := rfl
  rw [effect_wakeMate, heff] at hexec
  obtain ⟨⟨y, hy⟩, hkeep, hval⟩ := State.each_wr_spec Obj.laneRate (fun _ _ => 0) (List.range 8)
    { s with agent := g, towpath.wakeUntil := s.core.tick + 1000 } (fun a _ b _ h => by simp only [Obj.laneRate, objKey] at h; omega)
    (fun _ _ _ _ _ => rfl)
  generalize State.each _ _ _ = w at *
  refine ⟨_, hexec, ?_, fun l => congrArg Int.toNat (hval l (List.mem_range.2 l.isLt)), fun k hk => ?_, ?_⟩
  · rw [hy]
  · exact hkeep k fun l hl hc => hk (List.mem_map.2 ⟨l, hl, hc.symm⟩)
  · rw [hy]

theorem engineLoad_acts (c : Fin 12) (h : s.admits (.engineLoad sess seq c n) n false) :
    Completes (.engineLoad sess seq c n) s (fun t => t.rdN (Obj.loadState c) = 1 ∧ t.rdN (Obj.loadStatus c) = 0 ∧
      tget (fun _ => 0) t.engine.loading c = n ∧ KeepsRegs [Obj.loadState c, Obj.loadStatus c] s t ∧ t.core = s.core ∧
      t.engine.slots = s.engine.slots) := by
  obtain ⟨g, x, hexec, -⟩ := exec_acts (a := 0x5000 + 0x40 * c) (b := 3) rfl (by decide) h
  rw [effect_engineLoad, Int.toNat_natCast] at hexec
  have hne : Obj.loadState c ≠ Obj.loadStatus c := by
    simp only [Obj.loadState, Obj.loadStatus, objKey]
    omega
  refine ⟨_, hexec, (State.wrN_rdN_ne (h := hne) ..).trans (State.wrN_rdN_self ..), State.wrN_rdN_self .., tget_tset_self _ _ _ _,
    fun k hk => ?_, rfl, rfl⟩
  simp only [List.mem_cons, List.not_mem_nil, or_false, not_or] at hk
  exact (State.wrN_rd_ne (h := hk.2) ..).trans (State.wrN_rd_ne (h := hk.1) ..)

theorem overflowClear_acts (c : Fin 12) (e : Fin 16) (h : s.admits (.overflowClear sess seq c e n) n false) :
    Completes (.overflowClear sess seq c e n) s (fun t => KeepsRegs [Obj.counterOverflow c e] s t ∧ t.core = s.core ∧
      t.rdN (Obj.counterOverflow c e) = s.rdN (Obj.counterOverflow c e) &&& (511 - n)) := by
  obtain ⟨g, x, hexec, -⟩ := exec_acts (a := 0x5400 + 16 * c + e) (b := 15) rfl (by decide) h
  rw [effect_overflowClear, Int.toNat_natCast] at hexec
  exact ⟨_, hexec, fun k hk => State.wrN_rd_ne (h := fun hc => hk (List.mem_singleton.2 hc)) .., rfl, State.wrN_rdN_self ..⟩

theorem inject_acts (h : s.admits (.inject sess seq n) n false) :
    Completes (.inject sess seq n) s (fun t => t.sup = { s.sup with inj := s.sup.inj ++ [(0, n)] } ∧ t.regs = s.regs ∧
      t.core = s.core) := by
  obtain ⟨g, x, hexec, -⟩ := exec_acts (a := 0x1600) (b := 3) rfl (by decide) h
  exact ⟨_, hexec, rfl, rfl, rfl⟩

/-- A row whose effect is its object's new value. -/
theorem exec_writes {a b : Nat} (hw : writeOf i = some (sess, seq, objKey a b, words)) (hb : b < 256) (h : s.admits i v false)
    (heff : ∀ u : State, u.effect sess a b v (writeMeas i) = u.wr (objKey a b) v) :
    Completes i s (fun t => t.rd (objKey a b) = v ∧ KeepsRegs [objKey a b] s t ∧ t.core = s.core ∧ t.board = s.board ∧ t.sup = s.sup ∧
      t.key = s.key ∧ t.basin = s.basin) := by
  obtain ⟨g, x, hexec, -⟩ := exec_acts hw hb h
  rw [heff] at hexec
  exact ⟨_, hexec, State.wr_rd_self .., fun k hk => State.wr_rd_ne (h := fun hc => hk (List.mem_singleton.2 hc)) .., rfl, rfl, rfl, rfl, rfl⟩

theorem alarmClear_acts (h : s.admits (.alarmClear sess seq n) v false) :
    Completes (.alarmClear sess seq n) s (fun t => t.rdN Obj.alarmLatch = 0 ∧ KeepsRegs [Obj.alarmLatch] s t ∧ t.core = s.core) := by
  obtain ⟨g, x, hexec, -⟩ := exec_acts (a := 0x1700) (b := 3) rfl (by decide) h
  rw [effect_alarmClear] at hexec
  exact ⟨_, hexec, State.wrN_rdN_self { s with agent := g } Obj.alarmLatch 0, fun k hk => State.wrN_rd_ne { s with agent := g } Obj.alarmLatch k 0 fun hc => hk (List.mem_singleton.2 hc), rfl⟩

theorem twiXfer_acts (r : Fin 4) (h : s.admits (.twiXfer sess seq r words) n false) :
    Completes (.twiXfer sess seq r words) s (fun t => t.rdN (Obj.twiResult r) = 2 ^ 152 ∧ KeepsRegs [Obj.twiResult r] s t ∧
      ∃ x : Twi, t.board.twi = s.board.twi ++ [(r.val, x)] ∧ x.addr = n / 2 ^ 152 % 256 ∧ x.reads = n / 2 ^ 136 % 256 ∧
        x.write.length = n / 2 ^ 144 % 256) := by
  obtain ⟨g, x, hexec, -⟩ := exec_acts (a := 0x1720 + r) (b := 2) rfl (by decide) h
  rw [effect_twiXfer, Int.toNat_natCast] at hexec
  refine ⟨_, hexec, State.wrN_rdN_self .., fun k hk => State.wrN_rd_ne (h := fun hc => hk (List.mem_singleton.2 hc)) .., _, rfl, rfl, rfl, ?_⟩
  rw [List.length_map, List.length_range]
  rfl

/-! #### Registers kept through a computation -/

/-- The registers of a kind keep their values. -/
def KeepsWhere (P : Nat → Prop) (s t : State) : Prop := ∀ k, P k → t.rd k = s.rd k

section
variable {P : Nat → Prop}

theorem KeepsWhere.refl : KeepsWhere P s s := fun _ _ => rfl

theorem KeepsWhere.trans (h : KeepsWhere P s t) (g : KeepsWhere P t u) : KeepsWhere P s u := fun k hk => (g k hk).trans (h k hk)

theorem KeepsWhere.wr (h : KeepsWhere P s t) {j : Nat} (x : Int) (hj : ¬ P j) : KeepsWhere P s (t.wr j x) :=
  fun k hk => (State.wr_rd_ne t j k x fun hc => hj (hc ▸ hk)).trans (h k hk)

theorem KeepsWhere.wrN (h : KeepsWhere P s t) {j : Nat} (x : Nat) (hj : ¬ P j) : KeepsWhere P s (t.wrN j x) := h.wr _ hj

theorem KeepsWhere.inc (h : KeepsWhere P s t) {j : Nat} (hj : ¬ P j) : KeepsWhere P s (t.inc j) := h.wr _ hj

theorem KeepsWhere.regs (h : KeepsWhere P s t) (hr : u.regs = t.regs) : KeepsWhere P s u :=
  fun k hk => (congrArg (fun x => tget objDefault x k) hr).trans (h k hk)

theorem KeepsWhere.each {α : Type} (h : KeepsWhere P s t) {l : List α} {f : State → α → State}
    (hf : ∀ u, ∀ a ∈ l, KeepsWhere P u (f u a)) : KeepsWhere P s (t.each l f) :=
  State.each_mem_inv (KeepsWhere P s) l f (fun v a ha hv => hv.trans (hf v a ha)) h

theorem KeepsWhere.rdN (h : KeepsWhere P s t) {k : Nat} (hk : P k) : t.rdN k = s.rdN k := congrArg Int.toNat (h k hk)

end

/-- The registers that give the partitions. -/
def PartKey (k : Nat) : Prop := ∃ p b, p < 4 ∧ (b = 1 ∨ b = 2) ∧ k = objKey (0x5310 + p) b

theorem not_partKey {a b : Nat} (hb : b < 256) (h : a < 0x5310 ∨ 0x5313 < a ∨ 2 < b) : ¬ PartKey (objKey a b) := by
  rintro ⟨p, c, hp, hc, hk⟩
  simp only [objKey] at hk
  omega

theorem State.bytesWritten_regs (s : State) (m addr n : Nat) : (s.bytesWritten m addr n).regs = s.regs := by
  unfold State.bytesWritten
  split
  · rfl
  · rfl

theorem State.clusterClear_parts (s : State) {c : Nat} (hc : c < 12) : KeepsWhere PartKey s (s.clusterClear c) := by
  unfold State.clusterClear
  extract_lets s1
  refine KeepsWhere.regs (t := s1) (.each .refl fun u e he => ?_) ?_
  · have he := List.mem_range.1 he
    refine .wrN (.wrN (.wrN ?_ _ (not_partKey (by omega) (by omega))) _ (not_partKey (by omega) (by omega))) _
      (not_partKey (by omega) (by omega))
    exact KeepsWhere.regs .refl (State.bytesWritten_regs ..)
  · exact State.bytesWritten_regs ..

theorem State.partitionOp_spec (s : State) (p : Fin 4) (first count : Nat) :
    (s.partitionOp p first count).rdN (Obj.firstCluster p) = first ∧ (s.partitionOp p first count).rdN (Obj.clusterCount p) = count := by
  unfold State.partitionOp
  extract_lets was s1 changed s2 s3
  have hne : Obj.firstCluster p ≠ Obj.clusterCount p := by
    simp only [Obj.firstCluster, Obj.clusterCount, objKey]
    omega
  have hfirst : s1.rdN (Obj.firstCluster p) = first := (State.wrN_rdN_ne (h := hne) ..).trans (State.wrN_rdN_self ..)
  have hcount : s1.rdN (Obj.clusterCount p) = count := State.wrN_rdN_self ..
  have hlt : ∀ c ∈ changed, c < 12 := fun c hc => (mem_upto.1 hc).1
  clear_value s1 changed
  have h2 : KeepsWhere PartKey s1 s2 := .each .refl fun u c hc => by
    have hc := hlt c hc
    exact (u.clusterClear_parts hc).wrN _ (not_partKey (by omega) (by omega))
  clear_value s2
  have h3 : KeepsWhere PartKey s1 s3 := by
    refine .each ?_ fun u q hq => KeepsWhere.refl.wrN _ (not_partKey (by have := List.mem_range.1 hq; omega) (by omega))
    exact (h2.wrN _ (not_partKey (by decide) (by decide))).wrN _ (not_partKey (by decide) (by decide))
  clear_value s3
  have hr (v : State) (hv : v.regs = s3.regs) : v.rdN (Obj.firstCluster p) = first ∧ v.rdN (Obj.clusterCount p) = count := by
    have hv := KeepsWhere.regs h3 hv
    exact ⟨(hv.rdN ⟨p, 1, p.isLt, .inl rfl, rfl⟩).trans hfirst, (hv.rdN ⟨p, 2, p.isLt, .inr rfl, rfl⟩).trans hcount⟩
  split
  · exact hr _ rfl
  · exact hr _ rfl

theorem partitionWrite_acts (p : Fin 4) (count : Bool) (h : s.admits (.partitionWrite sess seq p count n) n false) :
    Completes (.partitionWrite sess seq p count n) s (fun t => t.agent.lastReply.status = 0 ∧
      t.rdN (if count then Obj.clusterCount p else Obj.firstCluster p) = n) := by
  cases count with
  | false =>
    obtain ⟨g, x, hexec, hstatus⟩ := exec_acts (a := 0x5310 + p) (b := 1) rfl (by decide) h
    rw [effect_firstCluster, Int.toNat_natCast] at hexec
    exact ⟨_, hexec, hstatus, (State.rdN_upd ..).trans (State.partitionOp_spec _ p n _).1⟩
  | true =>
    obtain ⟨g, x, hexec, hstatus⟩ := exec_acts (a := 0x5310 + p) (b := 2) rfl (by decide) h
    rw [effect_clusterCount, Int.toNat_natCast] at hexec
    exact ⟨_, hexec, hstatus, (State.rdN_upd ..).trans (State.partitionOp_spec _ p _ n).2⟩

/-! #### A pin's function -/

theorem maskless_upto (n : Nat) {p : Nat → Bool} (h : ∀ i, p i = false) : upto n p = [] := by
  unfold upto
  exact List.filter_eq_nil_iff.2 fun i _ hi => Bool.false_ne_true ((h i).symm.trans hi)

/-- A pin that is no eye-safety input turns no reach off as it is set (R134). -/
theorem State.gpioWritten_quiet (s : State) (k was : Nat) (h : gpioFunction (s.rdN (Obj.gpioConfig k)) ≠ 2) :
    ∃ e, s.gpioWritten k was = { s with conv := { s.conv with eyeActive := e } } := by
  have hfire (f : Nat → Bool) : upto 4 (fun r => (List.range 16).any (fun m => (m == k && f m) && s.eyeActiveAt m r)) = [] := by
    refine maskless_upto 4 fun r => List.any_eq_false.2 fun m _ hm => ?_
    rw [Bool.and_eq_true, Bool.and_eq_true, beq_iff_eq] at hm
    obtain ⟨⟨rfl, -⟩, hact⟩ := hm
    unfold State.eyeActiveAt at hact
    simp only [Bool.and_eq_true, beq_iff_eq] at hact
    exact h hact.1.1.2
  unfold State.gpioWritten State.eyeStep
  dsimp only
  rw [hfire]
  exact ⟨_, rfl⟩

theorem gpioConfig_acts (k : Fin 16) (h : s.admits (.gpioConfig sess seq k n) n false) (hn : gpioFunction n ≠ 2) :
    Completes (.gpioConfig sess seq k n) s (fun t => t.rdN (Obj.gpioConfig k) = n ∧ KeepsRegs [Obj.gpioConfig k] s t ∧
      t.core = s.core ∧ t.board = s.board) := by
  obtain ⟨g, x, hexec, -⟩ := exec_acts (a := 0x1710) (b := 1 + k) rfl (by omega) h
  have hval : State.rdN (State.wr { s with agent := g } (Obj.gpioConfig k) n) (Obj.gpioConfig k) = n := State.wrN_rdN_self ..
  obtain ⟨e, he⟩ := State.gpioWritten_quiet (State.wr { s with agent := g } (Obj.gpioConfig k) n) k (State.rdN { s with agent := g } (Obj.gpioConfig k))
    (by rw [hval]; exact hn)
  rw [effect_gpioConfig, he] at hexec
  exact ⟨_, hexec, hval, fun j hj => State.wr_rd_ne { s with agent := g } _ j n fun hc => hj (List.mem_singleton.2 hc), rfl, rfl⟩

end

/-- Settles O42. -/
theorem timingLaneEngineAndBoardWritesActAtOnce : Obligations.TimingLaneEngineAndBoardWritesActAtOnce := by
  unfold Obligations.TimingLaneEngineAndBoardWritesActAtOnce
  refine ⟨fun s sess seq n value v h hv => todAssociate_acts h hv, fun s sess seq n v l h hl => retrain_training l h hl,
    fun s sess seq n v l h hl => retrain_inService l h hl, fun s sess seq n l h hn hl => loopback_acts l h hn hl,
    fun s sess seq n v h => wakeMate_acts h, fun s sess seq n c h => engineLoad_acts c h,
    fun s sess seq n p count h => partitionWrite_acts p count h, fun s sess seq n c e h => overflowClear_acts c e h,
    fun s sess seq n h => inject_acts h, fun s i v k h hi => ?_, fun s sess seq n v h => alarmClear_acts h,
    fun s sess seq n k h hn => gpioConfig_acts k h hn, fun s sess seq n r words h => twiXfer_acts r h⟩
  have hrow {sess seq words a b} (hw : writeOf i = some (sess, seq, objKey a b, words)) (hb : b < 256)
      (heff : ∀ u : State, u.effect sess a b v (writeMeas i) = u.wr (objKey a b) v) :
      Completes i s (fun t => t.rd (objKey a b) = v ∧ KeepsRegs [objKey a b] s t ∧ t.core = s.core ∧ t.board = s.board ∧ t.sup = s.sup) :=
    (exec_writes hw hb h heff).mono fun t ⟨hrd, hkeep, hcore, hboard, hsup, _⟩ => ⟨hrd, hkeep, hcore, hboard, hsup⟩
  obtain ⟨sess, seq, f, n, x, rfl, rfl⟩ | ⟨sess, seq, x, rfl, rfl⟩ | ⟨sess, seq, u, x, rfl, rfl⟩ | ⟨sess, seq, x, rfl, rfl⟩ := hi
  · exact hrow rfl (by omega) fun w => effect_filterCoeff f (1 + n)
  · exact hrow rfl (by decide) fun w => effect_peekAddress
  · exact hrow rfl (by decide) fun w => effect_pathSelectGpio u
  · exact hrow rfl (by decide) fun w => effect_gcInvert

end Sys2Proof.Machine
end

section
/-! The immediate writes of the reaches' objects (R45). -/
open Sys2Proof Sys2Proof.Machine
namespace Sys2Proof.Machine

section
variable {s t u : State} {i : Instr} {sess : Fin 17} {seq : Nat} {words : List Nat} {v : Int} {n : Nat}

/-! #### What the effect is in the reaches' range -/

section
variable {m : Option (Int × Nat × Nat)} {ss : Nat}

theorem effect_reach {idx sub : Nat} (h : 0x2000 ≤ idx ∧ idx < 0x2800) :
    s.effect ss idx sub v m = s.reachEffect (canonIdx idx) idx sub v := by
  unfold State.effect
  exact if_pos h

theorem effect_calStart (r : Fin 4) : s.effect ss (0x2021 + 0x200 * r) 3 v m = s.calStartOp r := by
  have hc : ∀ r : Fin 4, canonIdx (0x2021 + 0x200 * r) = 0x2021 ∧ idxReach (0x2021 + 0x200 * r) = r := by decide
  rw [effect_reach (by omega), (hc r).1]
  show s.calStartOp (idxReach (0x2021 + 0x200 * r)) = _
  rw [(hc r).2]

theorem effect_coeffWrite (r : Fin 4) (k : Fin 8) (slice : Nat) : s.effect ss (0x2028 + 0x200 * r + k) (1 + slice) v m =
    (s.wr (Obj.sliceCoeff r k slice) v).coeffWritten r k slice v.toNat := by
  have hc : ∀ r : Fin 4, ∀ k : Fin 8, canonIdx (0x2028 + 0x200 * r + k) = 0x2028 ∧ idxReach (0x2028 + 0x200 * r + k) = r ∧
      idxConv (0x2028 + 0x200 * r + k) = k := by decide
  rw [effect_reach (by omega), (hc r k).1]
  show State.coeffWritten (s.wr (Obj.sliceCoeff r k slice) v) (idxReach (0x2028 + 0x200 * r + k)) (idxConv (0x2028 + 0x200 * r + k))
    (1 + slice - 1) _ = _
  rw [(hc r k).2.1, (hc r k).2.2, Nat.add_sub_cancel_left]

theorem reachEffect_txOffNow {idx : Nat} {w : State} (h : s.emergencyOff (idxReach idx) 0 = w) : s.reachEffect 0x2040 idx 4 v = w := by
  unfold State.reachEffect
  dsimp only
  rw [h]
  rfl

theorem reachEffect_txOffRelease {idx : Nat} {w : State} (h : s.txOffReleaseOp (idxReach idx) = w) :
    s.reachEffect 0x2040 idx 5 v = w := by
  unfold State.reachEffect
  dsimp only
  rw [h]
  rfl

theorem txOffIdx : ∀ r : Fin 4, canonIdx (0x2040 + 0x200 * r) = 0x2040 ∧ idxReach (0x2040 + 0x200 * r) = r := by decide

theorem effect_txOffNow (r : Fin 4) : s.effect ss (0x2040 + 0x200 * r) 4 v m = s.emergencyOff r 0 := by
  rw [effect_reach (by omega), (txOffIdx r).1, reachEffect_txOffNow rfl, (txOffIdx r).2]

theorem effect_txOffRelease (r : Fin 4) : s.effect ss (0x2040 + 0x200 * r) 5 v m = s.txOffReleaseOp r := by
  rw [effect_reach (by omega), (txOffIdx r).1, reachEffect_txOffRelease rfl, (txOffIdx r).2]

theorem effect_bankCd (r : Fin 4) (bankB : Bool) : s.effect ss (0x2080 + 0x200 * r) (if bankB then 3 else 2) v m =
    (s.wr (if bankB then Obj.bankBCd r else Obj.bankACd r) v).cdBankLoad r bankB := by
  have hc : ∀ r : Fin 4, canonIdx (0x2080 + 0x200 * r) = 0x2080 ∧ idxReach (0x2080 + 0x200 * r) = r := by decide
  rw [effect_reach (by omega), (hc r).1]
  cases bankB with
  | false =>
    show State.cdBankLoad (s.wr (Obj.bankACd r) v) (idxReach (0x2080 + 0x200 * r)) false = _
    rw [(hc r).2]
    rfl
  | true =>
    show State.cdBankLoad (s.wr (Obj.bankBCd r) v) (idxReach (0x2080 + 0x200 * r)) true = _
    rw [(hc r).2]
    rfl

theorem groupIdx : ∀ r : Fin 4, ∀ g : Fin 8, canonIdx (0x2140 + 0x200 * r + g) = 0x2140 ∧ idxReach (0x2140 + 0x200 * r + g) = r ∧
    idxGroup (0x2140 + 0x200 * r + g) = g := by decide

theorem effect_fixedApply (r : Fin 4) (g : Fin 8) : s.effect ss (0x2140 + 0x200 * r + g) 9 v m = s.fixedApplyOp r g := by
  rw [effect_reach (by omega), (groupIdx r g).1]
  show s.fixedApplyOp (idxReach (0x2140 + 0x200 * r + g)) (idxGroup (0x2140 + 0x200 * r + g)) = _
  rw [(groupIdx r g).2.1, (groupIdx r g).2.2]

theorem effect_groupLayoutWrite (r : Fin 4) (g : Fin 8) (count : Bool) :
    s.effect ss (0x2140 + 0x200 * r + g) (if count then 4 else 3) v m =
      ((s.wr (if count then Obj.subcarrierCount r g else Obj.firstSubcarrier r g) v).showTx r g).showRx r g := by
  rw [effect_reach (by omega), (groupIdx r g).1]
  cases count with
  | false =>
    show State.showRx (State.showTx (s.wr (Obj.firstSubcarrier r g) v) (idxReach (0x2140 + 0x200 * r + g))
      (idxGroup (0x2140 + 0x200 * r + g))) (idxReach (0x2140 + 0x200 * r + g)) (idxGroup (0x2140 + 0x200 * r + g)) = _
    rw [(groupIdx r g).2.1, (groupIdx r g).2.2]
    rfl
  | true =>
    show State.showRx (State.showTx (s.wr (Obj.subcarrierCount r g) v) (idxReach (0x2140 + 0x200 * r + g))
      (idxGroup (0x2140 + 0x200 * r + g))) (idxReach (0x2140 + 0x200 * r + g)) (idxGroup (0x2140 + 0x200 * r + g)) = _
    rw [(groupIdx r g).2.1, (groupIdx r g).2.2]
    rfl

theorem effect_historyValid (r : Fin 4) (g : Fin 8) : s.effect ss (0x2140 + 0x200 * r + g) 20 v m = s.wr (Obj.historyValid r g) v := by
  rw [effect_reach (by omega), (groupIdx r g).1] <;> rfl

theorem reachEffect_peerId {idx q : Nat} {w : State} (hp : s.pairedReach (idxReach idx) = some q)
    (h : (s.wr (objKey idx 5) v).wr (Obj.peerId q (idxGroup idx)) v = w) : s.reachEffect 0x2140 idx 5 v = w := by
  unfold State.reachEffect
  dsimp only
  rw [hp]
  dsimp only
  rw [h]
  rfl

theorem effect_peerId (r : Fin 4) (g : Fin 8) {q : Nat} (h : s.pairedReach r = some q) :
    s.effect ss (0x2140 + 0x200 * r + g) 5 v m = (s.wr (Obj.peerId r g) v).wr (Obj.peerId q g) v := by
  rw [effect_reach (by omega), (groupIdx r g).1, reachEffect_peerId (by rw [(groupIdx r g).2.1]; exact h) rfl, (groupIdx r g).2.2]
  rfl

theorem effect_layout {idx k : Nat} {w : State} (hc : canonIdx idx = 0x300F) (h : ¬ (0x2000 ≤ idx ∧ idx < 0x2800))
    (hk : (idx - 0x3000) / 0x80 = k) (hw : (s.wr (objKey idx 1) v).berthLayout k = w) : s.effect ss idx 1 v m = w := by
  unfold State.effect
  rw [if_neg h, hc, hk]
  dsimp only
  rw [hw]
  rfl

theorem effect_berthLayout (k : Fin 8) : s.effect ss (0x300F + 0x80 * k) 1 v m = (s.wr (Obj.groupLayout k) v).berthLayout k := by
  have hc : ∀ k : Fin 8, canonIdx (0x300F + 0x80 * k) = 0x300F := by decide
  exact effect_layout (hc k) (by omega) (by omega) rfl

end

/-! #### The rows -/

theorem txOffNow_acts (r : Fin 4) (h : s.admits (.txOffNow sess seq r n) v false) :
    Completes (.txOffNow sess seq r n) s (fun t => t.rdN (Obj.txState r) = 4 ∧ r.val ∉ t.conv.txen ∧ r.val ∉ t.conv.drven ∧
      (∀ sc : Fin 64, t.ramp r sc = {}) ∧
      t.rdN (Obj.txOffSource r) = setBit (s.rdN (Obj.txOffSource r)) 0 true ∧
      t.rdN (Obj.emergencyOffs r) = (s.rdN (Obj.emergencyOffs r) + 1) % 2 ^ 64 ∧
      t.core = { s.core with inFlight := s.core.inFlight ++ [⟨0xC036, 0x2040 + 0x200 * r.val, 0, s.core.tick, s.life⟩] }) := by
  obtain ⟨g, x, hexec, -⟩ := exec_acts (a := 0x2040 + 0x200 * r) (b := 4) rfl (by decide) h
  rw [effect_txOffNow] at hexec
  have hoff := State.emergencyOff_spec { s with agent := g } r 0
  generalize State.emergencyOff { s with agent := g } r 0 = w at *
  obtain ⟨y, hy⟩ := hoff.upd
  have hsame : State.rdN { s with agent := g } (Obj.txOffSource r) = s.rdN (Obj.txOffSource r) ∧
      State.rdN { s with agent := g } (Obj.emergencyOffs r) = s.rdN (Obj.emergencyOffs r) := ⟨rfl, rfl⟩
  have hsource := hoff.source
  have hcounted := hoff.counted
  rw [hsame.1] at hsource
  rw [hsame.2] at hcounted
  have hramp (z : State) (sc : Nat) : State.ramp { z with agent := x } r sc = z.ramp r sc := rfl
  exact ⟨_, hexec, (State.rdN_upd ..).trans hoff.state, hoff.pins.1, hoff.pins.2, fun sc => (hramp w sc).trans (hoff.powers sc sc.isLt),
    (State.rdN_upd ..).trans hsource, (State.rdN_upd ..).trans hcounted, hy.core⟩

theorem txOffRelease_acts (r : Fin 4) (h : s.admits (.txOffRelease sess seq r n) v false) (h4 : s.txState r = 4) :
    Completes (.txOffRelease sess seq r n) s (fun t => t.rdN (Obj.txOffSource r) = 0 ∧ t.rdN (Obj.txState r) = 0 ∧
      t.conv.turnUp = (if s.released (domReach r) then s.conv.turnUp.filter (· != r.val) ++ [r.val] else s.conv.turnUp) ∧
      KeepsRegs [Obj.txOffSource r, Obj.txState r] s t) := by
  obtain ⟨g, x, hexec, -⟩ := exec_acts (a := 0x2040 + 0x200 * r) (b := 5) rfl (by decide) h
  have hne : Obj.txOffSource r ≠ Obj.txState r := by
    simp only [Obj.txOffSource, Obj.txState, objKey]
    omega
  have heff (u : State) (hu : u.txState r = 4) : u.txOffReleaseOp r = { (u.wrN (Obj.txOffSource r) 0).wrN (Obj.txState r) 0 with
      conv.turnUp := if u.released (domReach r) then u.conv.turnUp.filter (· != r.val) ++ [r.val] else u.conv.turnUp } := by
    have h4 : (u.wrN (Obj.txOffSource r) 0).txState r = 4 := (State.wrN_rdN_ne (h := hne.symm) ..).trans hu
    unfold State.txOffReleaseOp
    dsimp only
    rw [if_pos h4]
    show (if u.released (domReach r) = true then _ else _) = _
    split
    · rfl
    · rfl
  rw [effect_txOffRelease, heff { s with agent := g } h4] at hexec
  refine ⟨_, hexec, ?_, ?_, rfl, fun k hk => ?_⟩
  · exact (State.wrN_rdN_ne (State.wrN { s with agent := g } (Obj.txOffSource r) 0) _ _ 0 hne).trans (State.wrN_rdN_self ..)
  · exact State.wrN_rdN_self (State.wrN { s with agent := g } (Obj.txOffSource r) 0) (Obj.txState r) 0
  · simp only [List.mem_cons, List.not_mem_nil, or_false, not_or] at hk
    exact (State.wrN_rd_ne (State.wrN { s with agent := g } (Obj.txOffSource r) 0) _ _ 0 hk.2).trans
      (State.wrN_rd_ne { s with agent := g } _ _ 0 hk.1)

theorem calStart_acts (r : Fin 4) (h : s.admits (.calStart sess seq r n) v false) :
    Completes (.calStart sess seq r n) s (fun t => t.regs = s.regs ∧ t.core = s.core ∧
      t.cal r = (if s.released (domReach r) then { s.cal r with requested := true, dueAt := s.core.tick + 1 }
        else { s.cal r with startDue := true, byCommand := true, dueAt := s.core.tick + 1 }) ∧
      (∀ k, k ≠ r.val → t.cal k = s.cal k)) := by
  obtain ⟨g, x, hexec, -⟩ := exec_acts (a := 0x2021 + 0x200 * r) (b := 3) rfl (by decide) h
  rw [effect_calStart] at hexec
  have heff (u : State) : u.calStartOp r = u.setCal r (if u.released (domReach r) then { u.cal r with requested := true, dueAt := u.core.tick + 1 }
        else { u.cal r with startDue := true, byCommand := true, dueAt := u.core.tick + 1 }) := by
    unfold State.calStartOp
    split
    · rfl
    · rfl
  rw [heff] at hexec
  exact ⟨_, hexec, rfl, rfl, tget_tset_self _ _ _ _, fun k hk => tget_tset_ne _ _ _ hk⟩

theorem coeffWrite_acts (r : Fin 4) (k : Fin 8) (slice : Fin 132) (h : s.admits (.coeffWrite sess seq r k slice words) v false) :
    Completes (.coeffWrite sess seq r k slice words) s (fun t => t.rd (Obj.sliceCoeff r k slice) = v ∧
      (132 * k.val + slice.val, v.toNat) ∈ (t.cal r).written ∧ 132 * k.val + slice.val ∉ (t.cal r).measured ∧
      KeepsRegs [Obj.sliceCoeff r k slice] s t) := by
  obtain ⟨g, x, hexec, -⟩ := exec_acts (a := 0x2028 + 0x200 * r + k) (b := 1 + slice) rfl (by omega) h
  rw [effect_coeffWrite] at hexec
  have hcal (u : State) : (u.coeffWritten r k slice v.toNat).cal r = { u.cal r with
      written := (u.cal r).written.filter (fun p => p.1 != 132 * k.val + slice.val) ++ [(132 * k.val + slice.val, v.toNat)],
      measured := (u.cal r).measured.filter (· != 132 * k.val + slice.val) } := tget_tset_self _ _ _ _
  have hwritten (u : State) : (132 * k.val + slice.val, v.toNat) ∈ ((u.coeffWritten r k slice v.toNat).cal r).written ∧
      132 * k.val + slice.val ∉ ((u.coeffWritten r k slice v.toNat).cal r).measured := by
    rw [hcal]
    exact ⟨List.mem_append_right _ (List.mem_singleton.2 rfl), fun hm => by simpa using (List.mem_filter.1 hm).2⟩
  exact ⟨_, hexec, State.wr_rd_self { s with agent := g } _ _, (hwritten _).1, (hwritten _).2,
    fun j hj => State.wr_rd_ne { s with agent := g } _ _ _ fun hc => hj (List.mem_singleton.2 hc)⟩

theorem bankCd_acts (r : Fin 4) (bankB : Bool) {x : Int} (h : s.admits (.bankCdWrite sess seq r bankB x) v false) :
    Completes (.bankCdWrite sess seq r bankB x) s (fun t => t.rd (if bankB then Obj.bankBCd r else Obj.bankACd r) = v ∧
      t.rdN (if bankB then Obj.bankBState r else Obj.bankAState r) = 0 ∧
      t.cd r = (if bankB then { s.cd r with readyB := s.core.tick + 4 } else { s.cd r with readyA := s.core.tick + 4 }) ∧
      KeepsRegs [if bankB then Obj.bankBCd r else Obj.bankACd r, if bankB then Obj.bankBState r else Obj.bankAState r] s t) := by
  have hw : writeOf (.bankCdWrite sess seq r bankB x) = some (sess, seq, objKey (0x2080 + 0x200 * r) (if bankB then 3 else 2), [word32 x]) := by
    cases bankB with
    | false => rfl
    | true => rfl
  obtain ⟨g, y, hexec, -⟩ := exec_acts hw (by split <;> decide) h
  rw [effect_bankCd] at hexec
  have hne : (if bankB then Obj.bankBCd r else Obj.bankACd r) ≠ (if bankB then Obj.bankBState r else Obj.bankAState r) := by
    cases bankB with
    | false => simp [Obj.bankACd, Obj.bankAState, objKey]
    | true => simp [Obj.bankBCd, Obj.bankBState, objKey]
  have heff (u : State) : u.cdBankLoad r bankB = (u.setCd r (if bankB then { u.cd r with readyB := u.core.tick + 4 }
      else { u.cd r with readyA := u.core.tick + 4 })).wrN (if bankB then Obj.bankBState r else Obj.bankAState r) 0 := by
    cases bankB with
    | false => rfl
    | true => rfl
  rw [heff] at hexec
  generalize (if bankB then Obj.bankBCd r else Obj.bankACd r) = kc at *
  generalize (if bankB then Obj.bankBState r else Obj.bankAState r) = ks at *
  refine ⟨_, hexec, ?_, ?_, tget_tset_self _ _ _ _, fun k hk => ?_⟩
  · exact (State.wrN_rd_ne _ _ _ _ hne).trans (State.wr_rd_self { s with agent := g } kc v)
  · exact State.wrN_rdN_self _ ks 0
  · simp only [List.mem_cons, List.not_mem_nil, or_false, not_or] at hk
    exact (State.wrN_rd_ne _ _ _ _ hk.2).trans (State.wr_rd_ne { s with agent := g } kc k v hk.1)

theorem fixedApply_acts (r : Fin 4) (g : Fin 8) (h : s.admits (.fixedApply sess seq r g n) v false) :
    Completes (.fixedApply sess seq r g n) s (fun t => t.load r g = { s.load r g with cand := some (s.fixedMap r g), fixedDue := 0 } ∧
      t.regs = s.regs ∧ t.core = s.core) := by
  obtain ⟨a, x, hexec, -⟩ := exec_acts (a := 0x2140 + 0x200 * r + g) (b := 9) rfl (by decide) h
  rw [effect_fixedApply] at hexec
  exact ⟨_, hexec, tget_tset_self _ _ _ _, rfl, rfl⟩

theorem historyValid_acts (r : Fin 4) (g : Fin 8) (h : s.admits (.historyValidWrite sess seq r g n) v false) :
    Completes (.historyValidWrite sess seq r g n) s (fun t => t.rd (Obj.historyValid r g) = v ∧
      KeepsRegs [Obj.historyValid r g] s t ∧ t.core = s.core) :=
  (exec_writes (a := 0x2140 + 0x200 * r + g) (b := 20) rfl (by decide) h fun u => effect_historyValid r g).mono
    fun t ⟨hrd, hkeep, hcore, _⟩ => ⟨hrd, hkeep, hcore⟩

/-- A reach's peer is written for both reaches of its unit (R304). -/
theorem peerId_acts (r q : Fin 4) (g : Fin 8) (hq : s.pairedReach r = some q.val)
    (h : s.admits (.pairedGroupWrite sess seq r g true n) v false) :
    Completes (.pairedGroupWrite sess seq r g true n) s (fun t => t.rd (Obj.peerId r g) = v ∧ t.rd (Obj.peerId q g) = v ∧
      KeepsRegs [Obj.peerId r g, Obj.peerId q g] s t ∧ t.core = s.core) := by
  obtain ⟨a, x, hexec, -⟩ := exec_acts (a := 0x2140 + 0x200 * r + g) (b := 5) rfl (by decide) h
  rw [effect_peerId (s := { s with agent := a }) r g hq] at hexec
  refine ⟨_, hexec, ?_, State.wr_rd_self (State.wr { s with agent := a } (Obj.peerId r g) v) _ _, fun k hk => ?_, rfl⟩
  · by_cases hc : Obj.peerId r g = Obj.peerId q g
    · rw [hc]
      exact State.wr_rd_self (State.wr { s with agent := a } (Obj.peerId q g) v) _ _
    · exact (State.wr_rd_ne (State.wr { s with agent := a } (Obj.peerId r g) v) _ _ _ hc).trans (State.wr_rd_self { s with agent := a } _ _)
  · simp only [List.mem_cons, List.not_mem_nil, or_false, not_or] at hk
    exact (State.wr_rd_ne (State.wr { s with agent := a } (Obj.peerId r g) v) _ _ _ hk.2).trans
      (State.wr_rd_ne { s with agent := a } _ _ _ hk.1)

/-- The map on receive as its registers show it. -/
theorem State.showRx_spec (s : State) (r g : Nat) : RegsOnly s (s.showRx r g) ∧
    ∀ k, k ≠ Obj.rxMapVersion r g → (∀ sc, sc < 64 → k ≠ Obj.loadingRx r sc) → (s.showRx r g).rd k = s.rd k := by
  have hshow : s.showRx r g = State.each (s.wrN (Obj.rxMapVersion r g) (s.rxMap r g).version)
      ((s.wrN (Obj.rxMapVersion r g) (s.rxMap r g).version).groupScs r g)
      (fun t sc => t.wr (Obj.loadingRx r sc) ((fun _ sc => ((s.rxMap r g).code sc : Nat)) t sc)) := rfl
  rw [hshow]
  obtain ⟨hregs, hkeep, -⟩ := State.each_wr_spec (Obj.loadingRx r) (fun _ sc => ((s.rxMap r g).code sc : Nat))
    ((s.wrN (Obj.rxMapVersion r g) (s.rxMap r g).version).groupScs r g) (s.wrN (Obj.rxMapVersion r g) (s.rxMap r g).version)
    (fun a _ b _ h => by simp only [Obj.loadingRx, objKey] at h; omega) (fun _ _ _ _ _ => rfl)
  refine ⟨(RegsOnly.refl.wrN _ _).trans hregs, fun k h1 h2 => ?_⟩
  rw [hkeep k fun sc hsc => h2 sc (State.mem_groupScs hsc), State.wrN_rd_ne (h := h1)]

theorem groupLayoutWrite_acts (r : Fin 4) (g : Fin 8) (count : Bool) (h : s.admits (.groupLayoutWrite sess seq r g count n) v false) :
    Completes (.groupLayoutWrite sess seq r g count n) s (fun t =>
      t.rd (if count then Obj.subcarrierCount r g else Obj.firstSubcarrier r g) = v ∧ t.core = s.core ∧ t.basin = s.basin) := by
  have hw : writeOf (.groupLayoutWrite sess seq r g count n) =
      some (sess, seq, objKey (0x2140 + 0x200 * r + g) (if count then 4 else 3), [n]) := by
    cases count with
    | false => rfl
    | true => rfl
  obtain ⟨a, x, hexec, -⟩ := exec_acts hw (by split <;> decide) h
  rw [effect_groupLayoutWrite] at hexec
  have hkey : ∀ k, k = (if count then Obj.subcarrierCount r g else Obj.firstSubcarrier r g) → k ≠ Obj.loadingMapVersion r g ∧
      k ≠ Obj.codedBitsTx r ∧ (∀ sc, sc < 64 → k ≠ Obj.loadingTx r sc) ∧ k ≠ Obj.rxMapVersion r g ∧
      ∀ sc, sc < 64 → k ≠ Obj.loadingRx r sc := by
    intro k hk
    have hval : k = objKey (0x2140 + 0x200 * r + g) (if count then 4 else 3) := by
      rw [hk]
      cases count with
      | false => rfl
      | true => rfl
    have hsub : (if count then 4 else 3) = 3 ∨ (if count then 4 else 3) = 4 := by cases count <;> decide
    subst hval
    simp only [Obj.loadingMapVersion, Obj.codedBitsTx, Obj.loadingTx, Obj.rxMapVersion, Obj.loadingRx, objKey]
    refine ⟨by omega, by omega, fun sc hsc => by omega, by omega, fun sc hsc => by omega⟩
  generalize hk : (if count then Obj.subcarrierCount r g else Obj.firstSubcarrier r g) = k at *
  obtain ⟨h1, h2, h3, h4, h5⟩ := hkey k rfl
  obtain ⟨htx, -, -, hkeep⟩ := State.showTx_spec (State.wr { s with agent := a } k v) r g
  have hval := (hkeep k h1 h2 h3).trans (State.wr_rd_self { s with agent := a } k v)
  generalize State.showTx (State.wr { s with agent := a } k v) r g = w at *
  obtain ⟨hrx, hkeep'⟩ := w.showRx_spec r g
  have hregs := htx.trans hrx
  have hval' := (hkeep' k h4 h5).trans hval
  generalize w.showRx r g = z at *
  refine ⟨_, hexec, hval', ?_, ?_⟩
  · rw [hregs.eq] <;> rfl
  · rw [hregs.eq] <;> rfl

/-! #### A berth group's layout -/

/-- The recovered clock's squelch shows in its register, and its start is announced (R270). -/
theorem State.squelch_spec (s : State) (b : Nat) : (∃ x f, s.squelch b = { s with regs := x, core := { s.core with inFlight := f } }) ∧
    KeepsRegs [Obj.synceSquelched b] s (s.squelch b) := by
  unfold State.squelch
  dsimp only
  generalize (if s.squelchCond b then 1 else 0) = n
  split
  · exact ⟨⟨_, _, rfl⟩, fun k hk => State.wrN_rd_ne (h := fun hc => hk (List.mem_singleton.2 hc)) ..⟩
  · exact ⟨⟨_, _, rfl⟩, fun k hk => State.wrN_rd_ne (h := fun hc => hk (List.mem_singleton.2 hc)) ..⟩

theorem State.each_laneOff (l : List Nat) (s : State) :
    (∃ x f, s.each l (fun s b => (s.wrN (Obj.berthLaneState b) 0).squelch b) = { s with regs := x, core := { s.core with inFlight := f } }) ∧
    (∀ b ∈ l, (s.each l (fun s b => (s.wrN (Obj.berthLaneState b) 0).squelch b)).rdN (Obj.berthLaneState b) = 0) ∧
    ∀ k, (∀ b ∈ l, k ≠ Obj.berthLaneState b ∧ k ≠ Obj.synceSquelched b) →
      (s.each l (fun s b => (s.wrN (Obj.berthLaneState b) 0).squelch b)).rd k = s.rd k := by
  induction l generalizing s with
  | nil => exact ⟨⟨_, _, rfl⟩, fun b hb => absurd hb List.not_mem_nil, fun _ _ => rfl⟩
  | cons a l ih =>
    obtain ⟨⟨x, f, hx⟩, hkeep⟩ := (s.wrN (Obj.berthLaneState a) 0).squelch_spec a
    obtain ⟨⟨y, f', hy⟩, hoff, hkeep'⟩ := ih ((s.wrN (Obj.berthLaneState a) 0).squelch a)
    have hne : ∀ b, Obj.berthLaneState a ≠ Obj.synceSquelched b := by
      intro b
      simp only [Obj.berthLaneState, Obj.synceSquelched, objKey]
      omega
    have hself : State.rdN ((s.wrN (Obj.berthLaneState a) 0).squelch a) (Obj.berthLaneState a) = 0 :=
      (hkeep.rdN fun hc => hne a (List.mem_singleton.1 hc)).trans (State.wrN_rdN_self ..)
    rw [State.each_cons]
    refine ⟨⟨y, f', hy.trans (by rw [hx] <;> rfl)⟩, fun b hb => ?_, fun k hk => ?_⟩
    · by_cases hl : b ∈ l
      · exact hoff b hl
      · obtain rfl := (List.mem_cons.1 hb).resolve_right hl
        refine (congrArg Int.toNat (hkeep' _ fun c hc => ⟨fun h => hl ?_, hne c⟩)).trans hself
        have hbc : b = c := by
          simp only [Obj.berthLaneState, objKey] at h
          omega
        rwa [hbc]
    · obtain ⟨h1, h2⟩ := hk a List.mem_cons_self
      rw [hkeep' k fun b hb => hk b (List.mem_cons_of_mem _ hb), hkeep k fun hc => h2 (List.mem_singleton.1 hc),
        State.wrN_rd_ne (h := h1)]

/-- The port that covers a lane follows from the layouts alone. -/
theorem State.portOf_congr (h : ∀ k, k < 8 → t.rd (Obj.groupLayout k) = s.rd (Obj.groupLayout k)) (b : Nat) : t.portOf b = s.portOf b := by
  unfold State.portOf
  refine congrArg List.head? (List.filter_congr fun p hp => ?_)
  have hw : t.portWidth p = s.portWidth p := by
    unfold State.portWidth State.rdN
    rw [h (p / 8) (by have := List.mem_range.1 hp; omega)]
  rw [hw]

theorem groupLayout_acts (k : Fin 8) (h : s.admits (.groupLayout sess seq k n) v false) :
    Completes (.groupLayout sess seq k n) s (fun t => t.rd (Obj.groupLayout k) = v ∧ t.core = { s.core with inFlight := t.core.inFlight } ∧
      (∀ i, i < 8 → t.portOf (8 * k.val + i) = none → t.rdN (Obj.berthLaneState (8 * k.val + i)) = 0) ∧
      (∀ i, i < 8 → (t.portOf (8 * k.val + i)).isSome = true →
        t.rdN (Obj.berthLaneState (8 * k.val + i)) = s.rdN (Obj.berthLaneState (8 * k.val + i))) ∧
      KeepsRegs (Obj.groupLayout k :: (List.range 8).flatMap (fun i =>
        [Obj.berthLaneState (8 * k.val + i), Obj.synceSquelched (8 * k.val + i)])) s t) := by
  obtain ⟨g, x, hexec, -⟩ := exec_acts (a := 0x300F + 0x80 * k) (b := 1) rfl (by decide) h
  rw [effect_berthLayout] at hexec
  have hself : State.rd (State.wr { s with agent := g } (Obj.groupLayout k) v) (Obj.groupLayout k) = v := State.wr_rd_self ..
  have hother (j : Nat) (hj : j ≠ Obj.groupLayout k) : State.rd (State.wr { s with agent := g } (Obj.groupLayout k) v) j = s.rd j :=
    State.wr_rd_ne { s with agent := g } _ _ _ hj
  have hcore : (State.wr { s with agent := g } (Obj.groupLayout k) v).core = s.core := rfl
  generalize State.wr { s with agent := g } (Obj.groupLayout k) v = w at *
  have hlayout : w.berthLayout k = w.each (((List.range 8).map (8 * k.val + ·)).filter (fun b => (w.portOf b).isNone))
      (fun s b => (s.wrN (Obj.berthLaneState b) 0).squelch b) := rfl
  rw [hlayout] at hexec
  obtain ⟨⟨y, f, hy⟩, hoff, hkeep⟩ := State.each_laneOff (((List.range 8).map (8 * k.val + ·)).filter (fun b => (w.portOf b).isNone)) w
  have hmem (b : Nat) (hb : b ∈ ((List.range 8).map (8 * k.val + ·)).filter (fun b => (w.portOf b).isNone)) :
      (∃ i, i < 8 ∧ b = 8 * k.val + i) ∧ w.portOf b = none := by
    obtain ⟨hb, hp⟩ := List.mem_filter.1 hb
    obtain ⟨i, hi, rfl⟩ := List.mem_map.1 hb
    exact ⟨⟨i, List.mem_range.1 hi, rfl⟩, Option.isNone_iff_eq_none.1 hp⟩
  have hlane (i : Nat) : Obj.berthLaneState (8 * k.val + i) ≠ Obj.groupLayout k := by
    simp only [Obj.berthLaneState, Obj.groupLayout, objKey]
    omega
  have hkey (j b : Nat) : Obj.groupLayout j ≠ Obj.berthLaneState b ∧ Obj.groupLayout j ≠ Obj.synceSquelched b := by
    simp only [Obj.groupLayout, Obj.berthLaneState, Obj.synceSquelched, objKey]
    omega
  generalize hl : ((List.range 8).map (8 * k.val + ·)).filter (fun b => (w.portOf b).isNone) = l at *
  generalize w.each l _ = z at *
  have hport (b : Nat) : z.portOf b = w.portOf b := State.portOf_congr (fun j _ => hkeep _ fun b _ => hkey j b) b
  refine ⟨_, hexec, (hkeep _ fun b _ => hkey k b).trans hself, ?_, fun i hi hp => ?_, fun i hi hp => ?_, fun j hj => ?_⟩
  · rw [hy, ← hcore]
  · refine hoff _ ?_
    rw [← hl]
    exact List.mem_filter.2 ⟨List.mem_map.2 ⟨i, List.mem_range.2 hi, rfl⟩, Option.isNone_iff_eq_none.2 ((hport _).symm.trans hp)⟩
  · have hp : (w.portOf (8 * k.val + i)).isSome = true := (congrArg Option.isSome (hport _)).symm.trans hp
    refine congrArg Int.toNat ((hkeep _ fun b hb => ⟨fun hc => ?_, ?_⟩).trans (hother _ (hlane i)))
    · obtain ⟨-, hnone⟩ := hmem b hb
      have hbi : b = 8 * k.val + i := by
        simp only [Obj.berthLaneState, objKey] at hc
        omega
      rw [hbi] at hnone
      rw [hnone] at hp
      exact Bool.false_ne_true hp
    · simp only [Obj.berthLaneState, Obj.synceSquelched, objKey]
      omega
  · rw [List.mem_cons, not_or, List.mem_flatMap] at hj
    refine (hkeep j fun b hb => ?_).trans (hother j hj.1)
    obtain ⟨⟨i, hi, rfl⟩, -⟩ := hmem b hb
    have hnot := fun hc => hj.2 ⟨i, List.mem_range.2 hi, hc⟩
    simp only [List.mem_cons, List.not_mem_nil, or_false, not_or] at hnot
    exact not_or.1 hnot

end

/-- Settles O40. -/
theorem reachWritesActAtOnce : Obligations.ReachWritesActAtOnce := by
  unfold Obligations.ReachWritesActAtOnce
  exact ⟨fun s sess seq n v r h => txOffNow_acts r h, fun s sess seq n v r h h4 => txOffRelease_acts r h h4,
    fun s sess seq n v r h => calStart_acts r h, fun s sess seq v r k slice words h => coeffWrite_acts r k slice h,
    fun s sess seq v n r h => bankCd_acts r false h, fun s sess seq v n r h => bankCd_acts r true h,
    fun s sess seq n v r g h => fixedApply_acts r g h, fun s sess seq n v r g count h => groupLayoutWrite_acts r g count h,
    fun s sess seq n v r g h => historyValid_acts r g h, fun s sess seq n v r q g hq h => peerId_acts r q g hq h,
    fun s sess seq n v k h => groupLayout_acts k h⟩

end Sys2Proof.Machine
end

section
/-! The immediate writes of the berths', units', key store's and power's objects (R45). -/
open Sys2Proof Sys2Proof.Machine
namespace Sys2Proof.Machine

section
variable {s t u : State} {i : Instr} {sess : Fin 17} {seq : Nat} {words : List Nat} {v : Int} {n : Nat}

/-! #### What the effect is -/

section
variable {m : Option (Int × Nat × Nat)} {ss : Nat}

theorem effect_frameInject (b : Fin 64) : s.effect ss (0x3001 + 0x10 * b) 14 v m = s.injectPut b (beBytes 1020 v.toNat) := by
  have hc : ∀ b : Fin 64, canonIdx (0x3001 + 0x10 * b) = 0x3001 ∧ idxBerth (0x3001 + 0x10 * b) = b := by decide
  unfold State.effect
  rw [if_neg (by omega), (hc b).1, (hc b).2]
  rfl

theorem effect_stockpileReserve : s.effect ss 0x3510 1 v m = s.wr Obj.stockpileReserve v := rfl

theorem effect_unitMode (u : Fin 4) : s.effect ss (0x3590 + u) 1 v m = s.unitModeOp u v.toNat := by
  match u with
  | 0 => rfl
  | 1 => rfl
  | 2 => rfl
  | 3 => rfl

theorem effect_keyImport : s.effect ss 0x3804 1 v m = (s.importEntry (beBytes 60 v.toNat)).1 := rfl

theorem effect_keyBatchStart : s.effect ss 0x3804 2 v m = s.batchStart v.toNat := rfl

theorem keyIdx : ∀ r : Fin 4, ∀ g : Fin 8, canonIdx (0x3820 + 0x8 * r + g) = 0x3820 ∧ idxKeyReach (0x3820 + 0x8 * r + g) = r ∧
    idxKeyGroup (0x3820 + 0x8 * r + g) = g := by decide

theorem effect_keyRoll (r : Fin 4) (g : Fin 8) : s.effect ss (0x3820 + 0x8 * r + g) 9 v m =
    if s.keySt r g = 2 then s.setKg r g { s.kg r g with roll := true } else s := by
  obtain ⟨hc, hr, hg⟩ := keyIdx r g
  unfold State.effect
  rw [if_neg (by omega), hc, hr, hg] <;> rfl

theorem effect_encrypt (r : Fin 4) (g : Fin 8) (slot : Bool) : s.effect ss (0x3820 + 0x8 * r + g) (if slot then 2 else 1) v m =
    s.wr (objKey (0x3820 + 0x8 * r + g) (if slot then 2 else 1)) v := by
  unfold State.effect
  rw [if_neg (by omega), (keyIdx r g).1]
  cases slot with
  | false => rfl
  | true => rfl

theorem effect_powerRequest : s.effect ss 0x1200 2 v m = s.submitPower (powReqOf v.toNat) := rfl

theorem effect_wakePeer : s.effect ss 0x1200 13 v m = s.wakePeerOp v.toNat := rfl

end

/-! #### The berths and units -/

theorem frameInject_acts (b : Fin 64) {bytes w : List Byte} (h : s.admits (.frameInject sess seq b bytes) n false) (hw : w = beBytes 1020 n) :
    Completes (.frameInject sess seq b bytes) s (fun t => t.regs = s.regs ∧ t.core = s.core ∧
      (t.port b).inject = (s.port b).inject ++ [⟨hdrField w 4 1, hdrField w 2 2, (w.drop 8).take (hdrField w 0 2)⟩]) := by
  obtain ⟨g, x, hexec, -⟩ := exec_acts (a := 0x3001 + 0x10 * b) (b := 14) rfl (by decide) h
  rw [effect_frameInject, Int.toNat_natCast, ← hw] at hexec
  have hput (u : State) : ∃ y, u.injectPut b w = { u with berth := y } ∧ ((u.injectPut b w).port b).inject =
      (u.port b).inject ++ [⟨hdrField w 4 1, hdrField w 2 2, (w.drop 8).take (hdrField w 0 2)⟩] :=
    ⟨_, rfl, congrArg Port.inject (tget_tset_self _ _ _ _)⟩
  obtain ⟨y, hy, hport⟩ := hput { s with agent := g }
  generalize State.injectPut { s with agent := g } b w = z at *
  refine ⟨_, hexec, ?_, ?_, hport⟩
  · rw [hy]
  · rw [hy]

theorem stockpileReserve_acts (h : s.admits (.stockpileReserve sess seq n) v false) :
    Completes (.stockpileReserve sess seq n) s (fun t => t.rd Obj.stockpileReserve = v ∧
      KeepsRegs [Obj.stockpileReserve] s t ∧ t.core = s.core ∧ t.basin = s.basin) :=
  (exec_writes (a := 0x3510) (b := 1) rfl (by decide) h fun u => effect_stockpileReserve).mono
    fun t ⟨hrd, hkeep, hcore, _, _, _, hbasin⟩ => ⟨hrd, hkeep, hcore, hbasin⟩

/-- A unit's mode starts it, a MATED one with its protect side in use (R304, R307). -/
theorem unitMode_acts (u : Fin 4) (h : s.admits (.unitMode sess seq u n) n false) :
    Completes (.unitMode sess seq u n) s (fun t => t.uMode u = n ∧ t.unit u = { since := s.core.tick } ∧
      t.uState u = (if n = 0 then 0 else if n = 3 then 7 else 1) ∧ t.rdN (Obj.durableSide u) = (if n = 3 then 1 else 0) ∧
      KeepsRegs [Obj.unitMode u, Obj.unitState u, Obj.durableSide u] s t ∧ t.core = s.core) := by
  obtain ⟨g, x, hexec, -⟩ := exec_acts (a := 0x3590 + u) (b := 1) rfl (by decide) h
  rw [effect_unitMode, Int.toNat_natCast] at hexec
  have hkeys : Obj.unitMode u ≠ Obj.unitState u ∧ Obj.unitMode u ≠ Obj.durableSide u ∧ Obj.durableSide u ≠ Obj.unitState u := by
    simp only [Obj.unitMode, Obj.unitState, Obj.durableSide, objKey]
    omega
  obtain ⟨h1, h2, h3⟩ := hkeys
  have hop (w : State) : ∃ y z, w.unitModeOp u n = { w with regs := y, rest := z } ∧ (w.unitModeOp u n).rdN (Obj.unitMode u) = n ∧
      (w.unitModeOp u n).unit u = { since := w.core.tick } ∧
      (w.unitModeOp u n).rdN (Obj.unitState u) = (if n = 0 then 0 else if n = 3 then 7 else 1) ∧
      (w.unitModeOp u n).rdN (Obj.durableSide u) = (if n = 3 then 1 else 0) ∧
      KeepsRegs [Obj.unitMode u, Obj.unitState u, Obj.durableSide u] w (w.unitModeOp u n) := by
    unfold State.unitModeOp State.setDurableSide
    dsimp only
    generalize (if n = 0 then 0 else if n = 3 then 7 else 1) = ns
    generalize (if n = 3 then 1 else 0) = nd
    have hrd (y : UnitSt) (k : Nat) : ((w.wrN (Obj.unitMode u) n).setUnit u y).rd k = (w.wrN (Obj.unitMode u) n).rd k := rfl
    refine ⟨_, _, rfl, ?_, tget_tset_self _ _ _ _, State.wrN_rdN_self .., ?_, fun k hk => ?_⟩
    · rw [State.wrN_rdN_ne (h := h1), State.wrN_rdN_ne (h := h2)]
      exact State.wrN_rdN_self ..
    · rw [State.wrN_rdN_ne (h := h3), State.wrN_rdN_self]
    · simp only [List.mem_cons, List.not_mem_nil, or_false, not_or] at hk
      rw [State.wrN_rd_ne (h := hk.2.1), State.wrN_rd_ne (h := hk.2.2), hrd, State.wrN_rd_ne (h := hk.1)]
  obtain ⟨y, z, hy, hmode, hunit, hstate, hside, hkeep⟩ := hop { s with agent := g }
  generalize State.unitModeOp { s with agent := g } u n = w at *
  refine ⟨_, hexec, hmode, hunit, hstate, hside, hkeep, ?_⟩
  rw [hy]

/-! #### The key store -/

theorem keyImport_acts {k label : Nat} {entry key : List Byte} (h : s.admits (.keyImport sess seq entry) n false)
    (hrec : s.importRecord (beBytes 60 n) = some (k, 3, label, key)) (hk : k < 128) (hs : s.rdN (Obj.keySlotState k) = 0) :
    Completes (.keyImport sess seq entry) s (fun t => t.kslot k = ⟨key, none⟩ ∧ t.rdN (Obj.keySlotState k) = 3 ∧
      t.rdN (Obj.slotLabel k) = label ∧ t.rdN Obj.imports = (s.rdN Obj.imports + 1) % 2 ^ 64 ∧ t.key.grps = s.key.grps ∧
      t.core = { s.core with inFlight := s.core.inFlight ++ [⟨0x40B7, 0x3802, k, s.core.tick, s.life⟩] }) := by
  obtain ⟨g, x, hexec, -⟩ := exec_acts (a := 0x3804) (b := 1) rfl (by decide) h
  rw [effect_keyImport, Int.toNat_natCast] at hexec
  generalize beBytes 60 n = e at *
  have hentry (w : State) (hw : w.importRecord e = some (k, 3, label, key)) : (w.importEntry e).1 = w.importKey k 3 label key := by
    unfold State.importEntry
    rw [hw]
  have hrec' : State.importRecord { s with agent := g } e = some (k, 3, label, key) := hrec
  rw [hentry _ hrec', State.importKey_empty (s := { s with agent := g }) 3 label key hs] at hexec
  have hkeys : Obj.keySlotState k ≠ Obj.slotLabel k ∧ Obj.imports ≠ Obj.keySlotState k ∧ Obj.imports ≠ Obj.slotLabel k := by
    simp only [Obj.keySlotState, Obj.slotLabel, Obj.imports, objKey]
    omega
  obtain ⟨h1, h2, h3⟩ := hkeys
  have hinc : State.rdN (State.inc { s with agent := g } Obj.imports) Obj.imports = (s.rdN Obj.imports + 1) % 2 ^ 64 := State.inc_rdN_self ..
  have hshape : ∃ y, State.inc { s with agent := g } Obj.imports = { s with agent := g, regs := y } := ⟨_, rfl⟩
  obtain ⟨y, hy⟩ := hshape
  generalize State.inc { s with agent := g } Obj.imports = w at *
  have hrd (j : Nat) : (w.setKslot k ⟨key, none⟩).rdN j = w.rdN j := rfl
  refine ⟨_, hexec, tget_tset_self _ _ _ _, ?_, ?_, ?_, ?_, ?_⟩
  · refine (State.wrN_rdN_ne ((w.setKslot k ⟨key, none⟩).wrN (Obj.keySlotState k) 3) _ _ label h1).trans (State.wrN_rdN_self ..)
  · exact State.wrN_rdN_self ((w.setKslot k ⟨key, none⟩).wrN (Obj.keySlotState k) 3) (Obj.slotLabel k) label
  · exact (State.wrN_rdN_ne ((w.setKslot k ⟨key, none⟩).wrN (Obj.keySlotState k) 3) _ _ label h3).trans
      ((State.wrN_rdN_ne (w.setKslot k ⟨key, none⟩) _ _ 3 h2).trans ((hrd _).trans hinc))
  · rw [hy] <;> rfl
  · rw [hy] <;> rfl

theorem State.writeHead_entry {ss idx sub : Nat} {r : Row} (h : u.writeHead ss idx sub = .ok r) : entryCheck idx sub = .ok r := by
  unfold State.writeHead at h
  split at h
  · exact absurd h (by simp)
  · next r' hr' =>
    split at h
    · exact absurd h (by simp)
    · split at h
      · exact absurd h (by simp)
      · exact hr'.trans h

theorem bodyStatus_decode {idx sub : Nat} {r : Row} {ws : List Nat} (h : bodyStatus idx sub r ws = .ok v) : r.ty.decode ws = some v := by
  unfold bodyStatus at h
  split at h
  · exact absurd h (by simp)
  · next x hx =>
    split at h
    · exact absurd h (by simp)
    · exact hx.trans (congrArg some (Except.ok.inj h))

theorem State.writeTail_import {r : Row} (hr : r.acc = .wo) (h : u.importRecord (beBytes 60 v.toNat) = none) :
    u.writeTail 0x3804 1 r v = some Status.refused := by
  have hown : u.ownStatus 0x3804 0x3804 1 v = stIf (u.importRecord (beBytes 60 v.toNat)).isNone Status.refused := by
    unfold State.ownStatus
    generalize v.toNat = k
    rfl
  have hcanon : canonIdx 0x3804 = 0x3804 := by decide
  have hcheck : u.check9 0x3804 1 v = u.ownStatus 0x3804 0x3804 1 v := by
    unfold State.check9
    rw [hcanon, if_neg (by decide), if_neg (by decide)]
  have hoff : u.ownerOff 0x3804 = false := rfl
  unfold State.writeTail
  rw [hoff, hr, hcheck, hown, h] <;> rfl

theorem State.runBlock_import {r : Row} {ws : List Nat} (h : bodyStatus 0x3804 1 r ws = .ok v) (ht : u.writeTail 0x3804 1 r v = some Status.refused)
    (ss : Nat) (m : Option (Int × Nat × Nat)) : u.runBlock ss 0x3804 m [(1, r, ws)] = .error (Status.refused, 1, some (v.toNat / 2 ^ 472)) := by
  unfold State.runBlock
  rw [h]
  dsimp only
  rw [ht]
  generalize v.toNat / 2 ^ 472 = k
  exact congrArg (fun x => Except.error (Status.refused, 1, x)) (if_pos ⟨rfl, rfl, rfl⟩)

/-- A failed import is counted with its wrapping slot, and answered REFUSED (R337). -/
theorem keyImport_fails {entry : List Byte} {r : Row} (ht : s.takes sess seq)
    (hh : (s.accepted sess seq).writeHead sess 0x3804 1 = .ok r) (hs : r.staged = false)
    (hb : bodyStatus 0x3804 1 r (reqWords (bodyOf entry)) = .ok (n : Int)) (hrec : s.importRecord (beBytes 60 n) = none) :
    Completes (.keyImport sess seq entry) s (fun t => t.key = s.key ∧ t.agent.lastReply.status = Status.refused ∧
      t.rdN Obj.importFailures = (s.rdN Obj.importFailures + 1) % 2 ^ 64 ∧ KeepsRegs [Obj.importFailures] s t ∧
      t.core = { s.core with inFlight := s.core.inFlight ++ [⟨0x80B6, 0x3804, n / 2 ^ 472, s.core.tick, s.life⟩] }) := by
  have hw : writeOf (.keyImport sess seq entry) = some (sess, seq, Obj.keyImport, bodyOf entry) := rfl
  obtain ⟨k, hexec⟩ := exec_run hw ht (r := r) hh hb (.inl hs)
  obtain rfl : r = ⟨1, 1, .octets 60, .wo, false, 0, .layout⟩ := (Except.ok.inj (State.writeHead_entry hh)).symm
  have hc : (writeReqOf (.keyImport sess seq entry) sess seq Obj.keyImport (bodyOf entry)).ctx =
      ⟨.direct, sess, seq % 2 ^ 32, 2, 0x3804, 1⟩ := writeReqOf_ctx hw
  obtain ⟨y, hy⟩ := s.accepted_upd sess seq
  have hbody : bodyStatus 0x3804 1 ⟨1, 1, .octets 60, .wo, false, 0, .layout⟩
      (writeReqOf (.keyImport sess seq entry) sess seq Obj.keyImport (bodyOf entry)).body = .ok (n : Int) := hb
  generalize hq : writeReqOf (.keyImport sess seq entry) sess seq Obj.keyImport (bodyOf entry) = q at hexec hc hbody
  have hrec' : (s.accepted sess seq).importRecord (beBytes 60 (n : Int).toNat) = none := by
    have hagent (e : List Byte) : State.importRecord { s with agent.sessions := y } e = s.importRecord e := rfl
    have hnat : (n : Int).toNat = n := Int.toNat_natCast n
    rw [hnat, hy, hagent, hrec]
  have hrun := State.runBlock_import hbody (State.writeTail_import (r := ⟨1, 1, .octets 60, .wo, false, 0, .layout⟩) rfl hrec') sess
    (writeMeas (.keyImport sess seq entry))
  have hnat : (n : Int).toNat = n := Int.toNat_natCast n
  rw [hnat] at hrun
  generalize n / 2 ^ 472 = m at hrun ⊢
  obtain ⟨hidx, hsub⟩ : Obj.keyImport / 256 = 0x3804 ∧ Obj.keyImport % 256 = 1 := ⟨rfl, rfl⟩
  rw [hidx, hsub, hrun] at hexec
  dsimp only at hexec
  have hfailed (w : State) : w.rejected (some m) = (w.inc Obj.importFailures).raise 0x80B6 0x3804 m := rfl
  rw [hfailed] at hexec
  obtain ⟨hupd, hstatus, -⟩ := State.reply_replied (sess := sess) (seq := seq) (((s.accepted sess seq).inc Obj.importFailures).raise 0x80B6 0x3804 m)
    q.ctx k Status.refused false [] (by rw [hc]) (by rw [hc]) (by rw [hc])
  generalize (((s.accepted sess seq).inc Obj.importFailures).raise 0x80B6 0x3804 m).reply q.ctx k Status.refused false [] = w at hexec hupd hstatus
  rw [hy] at hupd
  have hinc : State.rdN (State.inc { s with agent.sessions := y } Obj.importFailures) Obj.importFailures =
      (s.rdN Obj.importFailures + 1) % 2 ^ 64 := State.inc_rdN_self ..
  have hkeep (j : Nat) (hj : j ≠ Obj.importFailures) : State.rd (State.inc { s with agent.sessions := y } Obj.importFailures) j = s.rd j :=
    State.wrN_rd_ne { s with agent.sessions := y } _ _ _ hj
  have hshape : ∃ z, State.inc { s with agent.sessions := y } Obj.importFailures = { s with agent.sessions := y, regs := z } := ⟨_, rfl⟩
  obtain ⟨z, hz⟩ := hshape
  generalize State.inc { s with agent.sessions := y } Obj.importFailures = x at *
  refine ⟨w, hexec, ?_, hstatus, ?_, fun j hj => ?_, ?_⟩
  · rw [hupd, hz] <;> rfl
  · rw [hupd]
    exact hinc
  · rw [hupd]
    exact hkeep j (by simpa using hj)
  · rw [hupd, hz] <;> rfl

theorem keyBatchStart_acts (h : s.admits (.keyBatchStart sess seq n) n false) :
    Completes (.keyBatchStart sess seq n) s (fun t => t.key = { s.key with batchLeft := n, batchDone := 0, batchAbort := false } ∧
      t.opRunning 10 = true ∧ t.rdN (Obj.opPositionEnd 10) = n ∧ t.rdN (Obj.opPosition 10) = 0 ∧ t.core = s.core) := by
  obtain ⟨g, x, hexec, -⟩ := exec_acts (a := 0x3804) (b := 2) rfl (by decide) h
  rw [effect_keyBatchStart, Int.toNat_natCast] at hexec
  have hstart (w : State) : ∃ y, w.opStart 10 n = { w with regs := y } ∧ (w.opStart 10 n).rdN (Obj.opState 10) = 1 ∧
      (w.opStart 10 n).rdN (Obj.opPositionEnd 10) = n ∧ (w.opStart 10 n).rdN (Obj.opPosition 10) = 0 := by
    unfold State.opStart
    refine ⟨_, rfl, ?_, ?_, ?_⟩
    · rw [State.wrN_rdN_ne (h := by decide), State.wrN_rdN_ne (h := by decide), State.wrN_rdN_ne (h := by decide),
        State.wrN_rdN_ne (h := by decide), State.wrN_rdN_self]
    · rw [State.wrN_rdN_ne (h := by decide), State.wrN_rdN_self]
    · rw [State.wrN_rdN_ne (h := by decide), State.wrN_rdN_ne (h := by decide), State.wrN_rdN_ne (h := by decide), State.wrN_rdN_self]
  have hbatch (w : State) : w.batchStart n = { w.opStart 10 n with
      key := { (w.opStart 10 n).key with batchLeft := n, batchDone := 0, batchAbort := false } } := rfl
  obtain ⟨y, hy, hstate, hend, hpos⟩ := hstart { s with agent := g }
  rw [hbatch] at hexec
  generalize State.opStart { s with agent := g } 10 n = w at *
  refine ⟨_, hexec, ?_, ?_, (State.rdN_upd ..).trans hend, (State.rdN_upd ..).trans hpos, ?_⟩
  · rw [hy]
  · exact beq_iff_eq.2 ((State.rdN_upd ..).trans hstate)
  · rw [hy]

theorem keyRoll_acts (r : Fin 4) (g : Fin 8) (h : s.admits (.keyRoll sess seq r g n) v false) :
    Completes (.keyRoll sess seq r g n) s (fun t => t.regs = s.regs ∧ t.core = s.core ∧
      t.kg r g = (if s.keySt r g = 2 then { s.kg r g with roll := true } else s.kg r g)) := by
  obtain ⟨a, x, hexec, -⟩ := exec_acts (a := 0x3820 + 0x8 * r + g) (b := 9) rfl (by decide) h
  have hst : State.keySt { s with agent := a } r g = s.keySt r g := State.rdN_upd ..
  rw [effect_keyRoll, hst] at hexec
  split at hexec
  · next h2 =>
    rw [if_pos h2]
    exact ⟨_, hexec, rfl, rfl, tget_tset_self _ _ _ _⟩
  · next h2 =>
    rw [if_neg h2]
    exact ⟨_, hexec, rfl, rfl, rfl⟩

theorem encryptKeySlot_acts (r : Fin 4) (g : Fin 8) (slot : Bool) (h : s.admits (.encryptKeySlotWrite sess seq r g slot n) v false) :
    Completes (.encryptKeySlotWrite sess seq r g slot n) s (fun t => t.core = s.core ∧ t.key = s.key ∧
      t.rd (if slot then Obj.keySlot r g else Obj.encrypt r g) = v ∧
      KeepsRegs [if slot then Obj.keySlot r g else Obj.encrypt r g] s t) := by
  have hkey : (if slot then Obj.keySlot r g else Obj.encrypt r g) = objKey (0x3820 + 0x8 * r + g) (if slot then 2 else 1) := by
    cases slot with
    | false => rfl
    | true => rfl
  have hw : writeOf (.encryptKeySlotWrite sess seq r g slot n) =
      some (sess, seq, objKey (0x3820 + 0x8 * r + g) (if slot then 2 else 1), [n]) := congrArg (fun k => some (sess, seq, k, [n])) hkey
  rw [hkey]
  exact (exec_writes hw (by split <;> decide) h fun u => effect_encrypt r g slot).mono
    fun t ⟨hrd, hkeep, hcore, _, _, hk, _⟩ => ⟨hcore, hk, hrd, hkeep⟩

/-! #### Power requests -/

theorem powReqOf_words {n target maskA maskB : Nat} {urgent : Bool} (ht : target < 4)
    (h : wordsNat [target * 2 ^ 24 + (if urgent then 2 ^ 16 else 0), maskA % 2 ^ 32, maskB % 2 ^ 32] = n) :
    powReqOf n = ⟨target, urgent, maskA % 2 ^ 32, maskB % 2 ^ 32, false⟩ := by
  have hn : n = ((target * 2 ^ 24 + (if urgent then 2 ^ 16 else 0)) * 2 ^ 32 + maskA % 2 ^ 32) * 2 ^ 32 + maskB % 2 ^ 32 := by
    rw [← h]
    simp only [wordsNat, List.foldl_cons, List.foldl_nil]
    split <;> omega
  have hhead : n / 2 ^ 88 % 256 = target ∧ n / 2 ^ 80 % 256 = (if urgent then 1 else 0) ∧ n / 2 ^ 32 % 2 ^ 32 = maskA % 2 ^ 32 ∧
      n % 2 ^ 32 = maskB % 2 ^ 32 := by
    cases urgent with
    | false => simp only [Bool.false_eq_true, if_false] at hn ⊢; omega
    | true => simp only [if_true] at hn ⊢; omega
  obtain ⟨htarget, hurgent, hA, hB⟩ := hhead
  unfold powReqOf
  rw [htarget, hurgent, hA, hB]
  cases urgent with
  | false => rfl
  | true => rfl

/-- A power request that is admitted is the one its words spell (Table 20.4). -/
theorem powerRequest_admits {target maskA maskB : Nat} {urgent : Bool} (hw : writeOf i = some (sess, seq, Obj.powerRequest,
      [target * 2 ^ 24 + (if urgent then 2 ^ 16 else 0), maskA % 2 ^ 32, maskB % 2 ^ 32])) (ht : target < 4) (h : s.admits i n false) :
    powReqOf n = ⟨target, urgent, maskA % 2 ^ 32, maskB % 2 ^ 32, false⟩ := by
  obtain ⟨sess', seq', key, words, r, hw', -, hhead, hbody, -⟩ := h
  obtain ⟨-, -, rfl, rfl⟩ : sess = sess' ∧ seq = seq' ∧ Obj.powerRequest = key ∧ _ = words := by
    simpa only [Option.some.injEq, Prod.mk.injEq] using hw.symm.trans hw'
  obtain rfl : r = ⟨2, 2, .octets 12, .wo, false, 0, .layout⟩ := (Except.ok.inj (State.writeHead_entry hhead)).symm
  have hdec := bodyStatus_decode hbody
  have hwords : reqWords [target * 2 ^ 24 + (if urgent then 2 ^ 16 else 0), maskA % 2 ^ 32, maskB % 2 ^ 32] =
      [target * 2 ^ 24 + (if urgent then 2 ^ 16 else 0), maskA % 2 ^ 32, maskB % 2 ^ 32] := by
    simp only [reqWords, List.take_succ_cons, List.take_nil, List.map_cons, List.map_nil, Nat.mod_mod]
    rw [Nat.mod_eq_of_lt (by split <;> omega)]
  rw [hwords] at hdec
  simp only [OType.decode, OType.words, List.length_cons, List.length_nil, Nat.reduceAdd, Nat.reduceDiv, Nat.reduceMul, Nat.reduceSub,
    ne_eq, not_true_eq_false, if_false, Nat.pow_zero, Nat.mod_one, if_true, Nat.div_one, Option.some.injEq, Nat.cast_inj] at hdec
  exact powReqOf_words ht hdec

theorem powerRequest_waits {q : PowReq} (hw : writeOf i = some (sess, seq, Obj.powerRequest, words)) (h : s.admits i n false)
    (hq : powReqOf n = q) (hcur : s.power.cur = none) (hwait : s.power.waiting = none) (hpend : s.power.pend = none)
    (hleave : s.power.leaving = false) :
    Completes i s (fun t => t.power = { s.power with waiting := some q } ∧ t.core = s.core ∧
      (∀ d, d ∈ q.domains → d < 37 → t.rdN (Obj.domainTarget d) = if q.target = 3 then s.rdN (Obj.domainTarget d) else q.target)) := by
  obtain ⟨g, x, hexec, -⟩ := exec_acts (a := 0x1200) (b := 2) hw (by decide) h
  rw [effect_powerRequest, Int.toNat_natCast, hq] at hexec
  have hrd (j : Nat) : State.rdN { s with agent := g } j = s.rdN j := State.rdN_upd ..
  obtain ⟨y, hy, -, htarget⟩ := State.submitPower_waits (s := { s with agent := g }) q hcur hwait hpend hleave
  generalize State.submitPower { s with agent := g } q = w at *
  refine ⟨_, hexec, ?_, ?_, fun d hd _ => ((State.rdN_upd ..).trans (htarget d hd)).trans (by rw [hrd])⟩
  · rw [hy]
  · rw [hy]

theorem powerRequest_supersedes {q : PowReq} (hw : writeOf i = some (sess, seq, Obj.powerRequest, words)) (h : s.admits i n false)
    (hq : powReqOf n = q) (hcur : s.power.cur = none) (hleave : s.power.leaving = false) :
    Completes i s (fun t => t.power = { s.power with waiting := some q, pend := none }) := by
  obtain ⟨g, x, hexec, -⟩ := exec_acts (a := 0x1200) (b := 2) hw (by decide) h
  rw [effect_powerRequest, Int.toNat_natCast, hq] at hexec
  have hpower := State.submitPower_supersedes (s := { s with agent := g }) q hcur hleave
  exact ⟨_, hexec, hpower⟩

theorem State.each_wakeSend (l : List Nat) (w : State) : ∃ p,
    w.each l (fun s r => { s with power.wakeSend := tset (fun _ => 0) s.power.wakeSend r (s.core.tick + 4 * 28800) }) =
      { w with power.wakeSend := p } ∧ (∀ r ∈ l, tget (fun _ => 0) p r = w.core.tick + 4 * 28800) ∧
      ∀ r, r ∉ l → tget (fun _ => 0) p r = tget (fun _ => 0) w.power.wakeSend r := by
  induction l generalizing w with
  | nil => exact ⟨_, rfl, fun _ h => absurd h (by simp), fun _ _ => rfl⟩
  | cons a l ih =>
    obtain ⟨p, hp, hin, hout⟩ := ih { w with power.wakeSend := tset (fun _ => 0) w.power.wakeSend a (w.core.tick + 4 * 28800) }
    refine ⟨p, hp, fun r hr => ?_, fun r hr => ?_⟩
    · by_cases hl : r ∈ l
      · exact hin r hl
      · obtain rfl : r = a := (List.mem_cons.1 hr).resolve_right hl
        exact (hout r hl).trans (tget_tset_self (fun _ => 0) w.power.wakeSend r (w.core.tick + 4 * 28800))
    · obtain ⟨hne, hl⟩ := not_or.1 (mt List.mem_cons.2 hr)
      exact (hout r hl).trans (tget_tset_ne (fun _ => 0) w.power.wakeSend (w.core.tick + 4 * 28800) hne)

theorem wakePeer_acts (r : Fin 4) (h : s.admits (.wakePeer sess seq n) n false) (hbit : bitOf n r = true)
    (hrel : s.released (domReach r) = true) (hgrp : s.enabledGroups r = []) :
    Completes (.wakePeer sess seq n) s (fun t => tget (fun _ => 0) t.power.wakeSend r = s.core.tick + 4 * 28800 ∧
      t.regs = s.regs ∧ t.core = s.core) := by
  obtain ⟨g, x, hexec, -⟩ := exec_acts (a := 0x1200) (b := 13) rfl (by decide) h
  rw [effect_wakePeer, Int.toNat_natCast] at hexec
  have hmem : r.val ∈ upto 4 (fun r => bitOf n r && State.released { s with agent := g } (domReach r) &&
      (State.enabledGroups { s with agent := g } r).all (fun k => State.rdN { s with agent := g } (Obj.rxFrameState r k) == 0 ||
        State.rdN { s with agent := g } (Obj.rxFrameState r k) == 3)) := by
    have hrel' : State.released { s with agent := g } (domReach r) = true := hrel
    have hgrp' : State.enabledGroups { s with agent := g } r = [] := hgrp
    refine List.mem_filter.2 ⟨List.mem_range.2 r.isLt, ?_⟩
    rw [hbit, hrel', hgrp'] <;> rfl
  unfold State.wakePeerOp at hexec
  dsimp only at hexec
  generalize upto 4 _ = l at hexec hmem
  obtain ⟨p, hp, hin, -⟩ := State.each_wakeSend l { s with agent := g }
  rw [hp] at hexec
  exact ⟨_, hexec, hin _ hmem, rfl, rfl⟩

/-- Settles O41. -/
theorem berthUnitKeyAndPowerWritesActAtOnce : Obligations.BerthUnitKeyAndPowerWritesActAtOnce := by
  unfold Obligations.BerthUnitKeyAndPowerWritesActAtOnce
  refine ⟨fun s sess seq n b bytes v h hv => frameInject_acts b h hv,
    fun s sess seq n v h => stockpileReserve_acts h,
    fun s sess seq n u h => unitMode_acts u h,
    fun s sess seq n k label entry key h hrec hk hs => keyImport_acts h hrec hk hs,
    fun s u sess seq n entry r ht hu hh hs hb hrec => keyImport_fails ht (hu ▸ hh) hs hb hrec,
    fun s sess seq n h => keyBatchStart_acts h,
    fun s sess seq n v r g h => keyRoll_acts r g h,
    fun s sess seq n v r g slot h => encryptKeySlot_acts r g slot h,
    fun s i sess seq n target maskA maskB urgent q hi h hq hcur hwait hpend hleave => ?_,
    fun s sess seq n maskA maskB urgent p h hcur _ _ hleave =>
      powerRequest_supersedes rfl h (powerRequest_admits (target := 1) rfl (by decide) h) hcur hleave,
    fun s sess seq n r h hbit hrel hgrp => wakePeer_acts r h hbit hrel hgrp⟩
  have hw : target < 4 ∧ writeOf i = some (sess, seq, Obj.powerRequest,
      [target * 2 ^ 24 + (if urgent then 2 ^ 16 else 0), maskA % 2 ^ 32, maskB % 2 ^ 32]) := by
    obtain ⟨rfl, rfl⟩ | ⟨rfl, rfl⟩ | ⟨rfl, rfl⟩ | ⟨rfl, rfl⟩ := hi
    · exact ⟨by decide, rfl⟩
    · exact ⟨by decide, rfl⟩
    · exact ⟨by decide, rfl⟩
    · exact ⟨by decide, rfl⟩
  obtain ⟨htarget, hw⟩ := hw
  subst hq
  exact powerRequest_waits hw h (powerRequest_admits hw htarget h) hcur hwait hpend hleave

end

end Sys2Proof.Machine
end

section
/-! Power steps, DORMANT and wake (R485, R488, R491–R494). -/
open Sys2Proof Sys2Proof.Machine
namespace Sys2Proof.Machine

section
variable {s t u : State} {i : Instr}

/-! #### What the parts of a domain leave alone when they lose their supply -/

/-- The registers of the power hub (Table 20.4). -/
def HubKey (k : Nat) : Prop := k / 256 = 0x1200

/-- The power control, the time and the hub's registers stay. -/
structure HubKeeps (s t : State) : Prop where
  power : t.power = s.power
  tick : t.core.tick = s.core.tick
  base : t.start.lifeBase = s.start.lifeBase
  rd : KeepsWhere HubKey s t

theorem HubKeeps.refl : HubKeeps s s := ⟨rfl, rfl, rfl, .refl⟩

theorem HubKeeps.trans (h : HubKeeps s t) (g : HubKeeps t u) : HubKeeps s u :=
  ⟨g.power.trans h.power, g.tick.trans h.tick, g.base.trans h.base, h.rd.trans g.rd⟩

theorem HubKeeps.wr (h : HubKeeps s t) {j : Nat} (v : Int) (hj : ¬ HubKey j) : HubKeeps s (t.wr j v) :=
  ⟨h.power, h.tick, h.base, h.rd.wr v hj⟩

theorem HubKeeps.wrN (h : HubKeeps s t) {j : Nat} (v : Nat) (hj : ¬ HubKey j) : HubKeeps s (t.wrN j v) := h.wr _ hj

/-- An update of other parts of the state. -/
theorem HubKeeps.same (h : HubKeeps s t) (hr : u.regs = t.regs) (hp : u.power = t.power) (ht : u.core.tick = t.core.tick)
    (hb : u.start.lifeBase = t.start.lifeBase) : HubKeeps s u :=
  ⟨hp.trans h.power, ht.trans h.tick, hb.trans h.base, h.rd.regs hr⟩

theorem HubKeeps.each {α : Type} (h : HubKeeps s t) {l : List α} {f : State → α → State} (hf : ∀ u, ∀ a ∈ l, HubKeeps u (f u a)) :
    HubKeeps s (t.each l f) :=
  State.each_mem_inv (HubKeeps s) l f (fun v a ha hv => hv.trans (hf v a ha)) h

theorem HubKeeps.onlyIf (h : HubKeeps s t) {b : Bool} {f : State → State} (hf : HubKeeps t (f t)) : HubKeeps s (t.onlyIf b f) := by
  cases b with
  | false => exact h
  | true => exact h.trans hf

theorem HubKeeps.life (h : HubKeeps s t) : t.life = s.life := by
  unfold State.life
  rw [h.tick, h.base]

theorem HubKeeps.rdN (h : HubKeeps s t) {b : Nat} (hb : b < 256) : t.rdN (objKey 0x1200 b) = s.rdN (objKey 0x1200 b) :=
  KeepsWhere.rdN h.rd (show objKey 0x1200 b / 256 = 0x1200 by simp only [objKey]; omega)

theorem not_hubKey {a b : Nat} (hb : b < 256) (h : a ≠ 0x1200) : ¬ HubKey (objKey a b) := by
  unfold HubKey
  simp only [objKey]
  omega

theorem hubKeeps_squelch {b : Nat} (hb : b < 64) (s : State) : HubKeeps s (s.squelch b) := by
  have hk : ¬ HubKey (Obj.synceSquelched b) := not_hubKey (by omega) (by omega)
  unfold State.squelch
  extract_lets now was s1 n
  have h1 : HubKeeps s s1 := HubKeeps.refl.wrN _ hk
  clear_value s1
  split
  · exact h1.same rfl rfl rfl rfl
  · exact h1

theorem hubKeeps_portFresh {b : Nat} (hb : b < 64) (s : State) : HubKeeps s (s.portFresh b) := by
  unfold State.portFresh
  refine .wrN (.wrN ?_ _ (not_hubKey (by omega) (by omega))) _ (not_hubKey (by omega) (by omega))
  exact HubKeeps.refl.same rfl rfl rfl rfl

theorem hubKeeps_berthMoor {k : Nat} (hk : k < 8) (s : State) : HubKeeps s (s.berthMoor k) := by
  have hlane : ∀ b ∈ (List.range 8).map (8 * k + ·), b < 64 := by
    intro b hb
    obtain ⟨i, hi, rfl⟩ := List.mem_map.1 hb
    have := List.mem_range.1 hi
    omega
  unfold State.berthMoor
  refine .each (.each .refl fun u b hb => ?_) fun u b hb => hubKeeps_squelch (hlane b hb) u
  have := hlane b hb
  exact (HubKeeps.refl.wrN _ (not_hubKey (by omega) (by omega))).wrN _ (not_hubKey (by omega) (by omega))

theorem hubKeeps_isolate {d : Nat} (hd : d < 4) (s : State) : HubKeeps s (s.isolate d) := by
  have htwi : HubKeeps s (s.twiEnd d 4 []) := by
    unfold State.twiEnd
    split
    · exact .refl
    · refine .wrN ?_ _ (not_hubKey (by omega) (by omega))
      exact HubKeeps.refl.same rfl rfl rfl rfl
  unfold State.isolate
  refine HubKeeps.refl.onlyIf ?_
  refine .wrN ?_ _ (not_hubKey (by omega) (by omega))
  exact htwi.same rfl rfl rfl rfl

theorem hubKeeps_cipherCapacity (s : State) : HubKeeps s s.cipherCapacity :=
  (HubKeeps.refl.wrN _ (not_hubKey (by decide) (by decide))).wrN _ (not_hubKey (by decide) (by decide))

theorem hubKeeps_bytesWritten (s : State) (m addr n : Nat) : HubKeeps s (s.bytesWritten m addr n) := by
  unfold State.bytesWritten
  split
  · exact .refl
  · exact HubKeeps.refl.same rfl rfl rfl rfl

theorem hubKeeps_engClear (s : State) (c e : Nat) : HubKeeps s (s.engClear c e) := by
  have h0 : HubKeeps s (s.setEng c e { latch := (s.eng c e).latch }) := HubKeeps.refl.same rfl rfl rfl rfl
  exact (h0.trans (hubKeeps_bytesWritten _ c (0x40000 * e) 0x40000)).same rfl rfl rfl rfl

theorem hubKeeps_clusterClear {c : Nat} (hc : c < 12) (s : State) : HubKeeps s (s.clusterClear c) := by
  unfold State.clusterClear
  extract_lets s1
  have h1 : HubKeeps s s1 := .each .refl fun u e he => by
    have he := List.mem_range.1 he
    exact (((hubKeeps_engClear u c e).wrN _ (not_hubKey (by omega) (by omega))).wrN _ (not_hubKey (by omega) (by omega))).wrN _
      (not_hubKey (by omega) (by omega))
  clear_value s1
  refine HubKeeps.trans ?_ (hubKeeps_bytesWritten _ _ _ _)
  exact h1.same rfl rfl rfl rfl

/-! #### The basin's contents lost -/

/-- What every step of a fold keeps of the power control, the fold keeps. -/
theorem State.each_power {α : Type} {l : List α} {f : State → α → State} (h : ∀ u a, (f u a).power = u.power) :
    (s.each l f).power = s.power := State.each_keeps (s := s) (fun u : State => u.power) l f h

theorem State.waterCheck_power (s : State) : s.waterCheck.power = s.power := by
  unfold State.waterCheck
  extract_lets used usable s1 at_ rise fall _ s2
  have h2 : s2.power = s1.power := by
    simp only [s2]
    split
    · rfl
    · split
      · rfl
      · rfl
  exact h2

theorem State.freeSlot_power (s : State) (k : Nat) : (s.freeSlot k).power = s.power := by
  unfold State.freeSlot State.withholdPages
  dsimp only
  split
  · rfl
  · split
    · split
      · rfl
      · rfl
    · rfl

theorem State.raiseLimitedItem_power (s : State) (code source item n last : Nat) :
    (s.raiseLimitedItem code source item n last).power = s.power := by
  rw [State.raiseLimitedItem_eq]

theorem State.voidCells_power (s : State) (f : Nat) (sel : Held → Bool) : (s.voidCells f sel).power = s.power := by
  unfold State.voidCells State.freeHeld
  dsimp only
  split
  · rfl
  · refine (State.waterCheck_power _).trans ((State.each_power fun u (h : Held) => u.freeSlot_power h.slot).trans ?_)
    exact State.each_power fun u p => u.raiseLimitedItem_power _ _ _ _ _

theorem State.portContentsLost_power (s : State) (p : Nat) : (s.portContentsLost p).power = s.power := by
  unfold State.portContentsLost
  dsimp only
  rw [State.waterCheck_power]
  exact State.each_power fun u f => u.voidCells_power f _

theorem State.checkpointLost_power (s : State) (p : Nat) : (s.checkpointLost p).power = s.power := by
  unfold State.checkpointLost State.flowsAfresh
  refine State.onlyIf_ind (P := fun t => t.power = s.power) _ (fun _ => ?_) rfl
  refine State.onlyIf_ind (P := fun t => t.power = s.power) _ (fun h => ?_) rfl
  exact (State.each_power (f := State.durableStart) fun _ _ => rfl).trans h

theorem Shed.hubKeeps (h : Shed s t) (hp : t.power = s.power) : HubKeeps s t :=
  ⟨hp, h.tick, congrArg StartSt.lifeBase h.start, fun k hk => h.keeps k (by
    simp only [HubKey] at hk
    simp only [List.mem_cons, List.not_mem_nil, or_false, Obj.usedSlots, Obj.basinState, objKey]
    omega)⟩

theorem hubKeeps_contentsLost (s : State) (p : Nat) : HubKeeps s ((s.checkpointLost p).portContentsLost p) :=
  ((shed_checkpointLost s p).trans (shed_portContentsLost _ p)).hubKeeps
    ((State.portContentsLost_power _ p).trans (s.checkpointLost_power p))

theorem hubKeeps_showBasinSlots (s : State) : HubKeeps s s.showBasinSlots := by
  obtain ⟨⟨x, hx⟩, hkeep⟩ := s.showBasinSlots_spec
  refine ⟨by rw [hx], by rw [hx], by rw [hx], fun k hk => hkeep k ?_⟩
  simp only [HubKey] at hk
  simp only [List.mem_cons, List.not_mem_nil, or_false, Obj.basinSlots, Obj.opPositionEnd, Obj.opPosition, Obj.opPercent, objKey]
  omega

theorem hubKeeps_basinOff {p : Nat} (hp : p < 8) (byRequest : Bool) (s : State) : HubKeeps s (s.basinOff p byRequest) := by
  have hstate : ¬ HubKey (Obj.basinPortState p) := not_hubKey (by omega) (by omega)
  have hlost : HubKeeps s (if byRequest then s.basinFail p 3 else (s.checkpointLost p).portContentsLost p) := by
    split
    · have h := hubKeeps_contentsLost s p
      unfold State.basinFail
      generalize State.portContentsLost _ _ = a at h ⊢
      have ha : HubKeeps s (a.setBport p { (a.bport p) with contents := false }) := h.same rfl rfl rfl rfl
      exact (ha.wrN _ hstate).same rfl rfl rfl rfl
    · exact hubKeeps_contentsLost s p
  unfold State.basinOff
  extract_lets s1 s2
  have h1 : HubKeeps s s1 := hlost
  have h2 : HubKeeps s s2 := ((h1.wrN _ hstate).wrN _ (not_hubKey (by omega) (by omega))).wrN _ (not_hubKey (by omega) (by omega))
  clear_value s2
  exact h2.same rfl rfl rfl rfl

/-! #### Domains that lose their supply (R485) -/

/-- A domain's own state as its switch opens. -/
def State.domOff (s : State) (d : Nat) : State :=
  { s.setDom d 0 with power.opening := s.power.opening.filter (fun q => q.1 != d) }

theorem hubKeeps_offDomain {d : Nat} (hd : d < 37) (request : Bool) (s : State) : HubKeeps (s.domOff d) (s.offDomain d request) := by
  unfold State.offDomain
  extract_lets _ _ s1 c
  have h1 : HubKeeps (s.domOff d) s1 := .refl
  clear_value c s1
  split
  · next h => exact (h1.trans (hubKeeps_isolate h s1)).same rfl rfl rfl rfl
  · split
    · next h =>
      refine .each (h1.trans (hubKeeps_berthMoor (by omega) s1)) fun u b hb => ?_
      obtain ⟨i, hi, rfl⟩ := List.mem_map.1 hb
      have := List.mem_range.1 hi
      exact hubKeeps_portFresh (by omega) u
    · split
      · next h =>
        have hoff (b : Bool) : HubKeeps (s.domOff d) (s1.basinOff (d - 16) b) := h1.trans (hubKeeps_basinOff (by omega) b s1)
        split
        · exact (hoff true).trans (hubKeeps_showBasinSlots _)
        · split
          · exact h1
          · exact hoff false
      · split
        · exact h1.trans (hubKeeps_cipherCapacity s1)
        · split
          · exact h1.trans (hubKeeps_clusterClear (by omega) s1)
          · exact h1

/-! #### What the requests show -/

/-- The registers that show the requests. -/
def showKeys : List Nat := [Obj.powerInProgress, Obj.powerPending, Obj.powerPhase, Obj.powerState]

theorem State.showRequests_spec (s : State) : ∃ x l, s.showRequests = { s with regs := x, core.inFlight := s.core.inFlight ++ l } ∧
    KeepsRegs showKeys s s.showRequests := by
  have h1 : RegsOnly s s.showPower.showPhase ∧ KeepsRegs showKeys s s.showPower.showPhase := by
    have hp : RegsOnly s s.showPower ∧ KeepsRegs showKeys s s.showPower :=
      ⟨(RegsOnly.refl.wr _ _).wr _ _, by simp [State.showPower, showKeys]⟩
    generalize s.showPower = w at hp ⊢
    obtain ⟨hregs, hkeep⟩ := hp
    unfold State.showPhase
    split
    · exact ⟨hregs.wrN _ _, hkeep.trans (by simp [showKeys])⟩
    · extract_lets refs one m
      exact ⟨hregs.wrN _ _, hkeep.trans (by simp [showKeys])⟩
  unfold State.showRequests
  generalize s.showPower.showPhase = w at h1 ⊢
  obtain ⟨⟨x, rfl⟩, hkeep⟩ := h1
  unfold State.showPowerState
  extract_lets st
  split
  · exact ⟨x, [], by rw [List.append_nil], hkeep⟩
  · refine ⟨_, _, rfl, hkeep.trans ?_⟩
    simp [showKeys]

theorem State.showRequests_power (s : State) : s.showRequests.power = s.power := by
  obtain ⟨x, l, hx, -⟩ := s.showRequests_spec
  rw [hx]

/-- The end of a request moves no domain (R489). -/
theorem State.requestEnd_moves (s : State) : s.requestEnd.power.dom = s.power.dom ∧ s.requestEnd.power.opening = s.power.opening ∧
    s.requestEnd.power.powering = s.power.powering := by
  unfold State.requestEnd
  split
  · split
    · exact ⟨rfl, rfl, rfl⟩
    · exact ⟨rfl, rfl, rfl⟩
  · exact ⟨rfl, rfl, rfl⟩

/-! #### The power control where a domain is powered -/

theorem State.each_wrN_power {α : Type} (s : State) (l : List α) (k v : State → α → Nat) :
    (s.each l fun u a => u.wrN (k u a) (v u a)).power = s.power := State.each_power fun _ _ => rfl

theorem State.showSpares_power (s : State) : s.showSpares.power = s.power := by
  unfold State.showSpares
  simp only [State.wrN_power, State.each_wrN_power]

theorem power_ite {c : Prop} [Decidable c] {a b : State} {p : PowerSt} (ha : a.power = p) (hb : b.power = p) :
    (if c then a else b).power = p := by
  split
  · exact ha
  · exact hb

theorem power_succ {o : Option Nat} {a : State} {f : Nat → State} {p : PowerSt} (ha : a.power = p)
    (hf : ∀ v, a.power = p → (f v).power = p) : (match o with | some v => f v | none => a).power = p := by
  split
  · exact hf _ ha
  · exact ha

/-- A swap that takes its place, by the kind of its unit: none of them touches the power control. -/
theorem State.placeIn_power (s : State) (w : Swap) : (s.placeIn w).power = s.power := by
  have hcap {v : State} (h : v.power = s.power) : v.cipherCapacity.power = s.power := (hubKeeps_cipherCapacity v).power.trans h
  have hraise {v : State} (a b c k : Nat) (h : v.power = s.power) : ((v.inc k).raise a b c).power = s.power := h
  have hwr {v : State} (k n : Nat) (h : v.power = s.power) : (v.wrN k n).power = s.power := h
  have hkey {v : State} (k : KeySt) (h : v.power = s.power) : ({ v with key := k } : State).power = s.power := h
  have hinteg {v : State} (k : IntegSt) (h : v.power = s.power) : ({ v with integ := k } : State).power = s.power := h
  unfold State.placeIn
  refine (State.showSpares_power _).trans ?_
  refine power_succ ?_ fun v h => power_ite (hraise _ _ _ _ h) h
  refine power_ite ?_ (power_ite ?_ (power_ite (hcap ?_) (power_ite ?_ (hwr _ _ (hwr _ _ (hwr _ _ (hinteg _ rfl)))))))
  · dsimp only
    split
    · exact hwr _ _ rfl
    · rfl
  · split
    · exact hwr _ _ (hwr _ _ rfl)
    · exact hwr _ _ rfl
  · split
    · exact hwr _ _ (hkey _ (hwr _ _ rfl))
    · exact hkey _ (hwr _ _ rfl)
  · dsimp only
    split
    · exact hwr _ _ rfl
    · rfl

theorem State.setEqSc_power (s : State) (r sc v taps : Nat) : (s.setEqSc r sc v taps).power = s.power := by
  unfold State.setEqSc
  extract_lets s1 s2
  have h2 : s2.power = s.power := by
    simp only [s2]
    split
    · rfl
    · rfl
  clear_value s2
  split
  · exact (State.each_power fun _ _ => by rfl).trans h2
  · exact h2

theorem State.coeffReapply_power (s : State) (r : Nat) : (s.coeffReapply r).power = s.power := by
  unfold State.coeffReapply
  extract_lets c s1
  exact s.each_wrN_power _ _ _

theorem State.showTx_power (s : State) (r g : Nat) : (s.showTx r g).power = s.power := by
  unfold State.showTx
  extract_lets m s1
  exact s1.each_wrN_power _ _ _

theorem State.showRx_power (s : State) (r g : Nat) : (s.showRx r g).power = s.power := by
  unfold State.showRx
  extract_lets m s1
  exact s1.each_wrN_power _ _ _

theorem State.showAnn_power (s : State) (r g : Nat) : (s.showAnn r g).power = s.power := by
  unfold State.showAnn
  split
  · rfl
  · rfl

theorem State.cdPowerUp_power (s : State) (r : Nat) : (s.cdPowerUp r).power = s.power := by
  unfold State.cdPowerUp
  extract_lets c s1
  split
  · rfl
  · rfl

theorem State.showTrack_power (s : State) (r : Nat) : (s.showTrack r).power = s.power := by
  unfold State.showTrack
  extract_lets tr s1 s2 s3
  have h3 : s3.power = s.power := by simp only [s3, s2, s1, State.wrN_power]
  clear_value s3 s2 s1 tr
  split
  · exact (State.wrN_power ..).trans h3
  · exact h3

theorem State.showRamps_power (s : State) (r : Nat) : (s.showRamps r).power = s.power :=
  (State.wrN_power ..).trans (State.wrN_power ..)

theorem State.reachFirstUse_power (s : State) (r : Nat) : (s.reachFirstUse r).power = s.power := by
  unfold State.reachFirstUse
  extract_lets c s1 s2 s3 s4 s5 s6 s7
  have h1 : s1.power = s.power := State.wrN_power ..
  have h3 : s3.power = s2.power := (State.showRamps_power _ r).trans (State.wrN_power ..)
  have h4 : s4.power = s3.power := State.setCal_power ..
  have h8 : s7.power = s6.power := by simp only [s7, State.showBaselines, State.wrN_power, State.setWatch_power]
  have h2 : s2.power = s1.power := State.each_power fun u sc => (u.setRamp r sc {}).setEqSc_power r sc 0 0
  have h5 : s5.power = s4.power := s4.coeffReapply_power r
  have h6 : s6.power = s5.power := State.each_power fun u g =>
    (State.showAnn_power _ r g).trans ((State.showRx_power _ r g).trans ((u.setLoad r g {}).showTx_power r g))
  have h7 : ((s7.cdPowerUp r).showTrack r).power = s7.power := (State.showTrack_power _ r).trans (s7.cdPowerUp_power r)
  clear_value s1 s2 s3 s4 s5 s6 s7
  rw [State.wrN_power, h7, h8, h6, h5, h4, h3, h2, h1]

theorem State.keeperCluster_power (s : State) (c : Nat) : (s.keeperCluster c).power = s.power := by
  unfold State.keeperCluster
  refine State.each_power fun u e => ?_
  exact (hubKeeps_engClear u c e).power

/-- A domain's own state as it is powered. -/
def State.domOn (s : State) (d : Nat) : State :=
  { s.setDom d 2 with power.powering := s.power.powering.filter (fun q => q.1 != d) }

theorem State.bringInLate_power (s : State) (d : Nat) : (s.bringInLate d).power = s.power := by
  unfold State.bringInLate
  extract_lets mine
  exact State.each_power fun u w => u.placeIn_power w

theorem State.poweredUp_power {d : Nat} (hd : d < 37) (s : State) : (s.poweredUp d).power = (s.domOn d).power := by
  unfold State.poweredUp
  dsimp only
  generalize hs : State.bringInLate _ d = s1
  have h1 : s1.power = (s.domOn d).power := by
    rw [← hs]
    exact State.bringInLate_power ..
  clear hs
  split
  · exact (s1.reachFirstUse_power d).trans h1
  · split
    · refine Eq.trans ?_ h1
      refine State.each_mem_inv (fun t => t.power = s1.power) _ _ (fun u b hb hu => ?_) rfl
      obtain ⟨i, hi, rfl⟩ := List.mem_map.1 hb
      have := List.mem_range.1 hi
      exact ((hubKeeps_portFresh (by omega) u).trans (hubKeeps_squelch (by omega) _)).power.trans hu
    · split
      · refine State.onlyIf_ind (P := fun t => t.power = (s.domOn d).power) _ (fun h => ?_) h1
        exact h
      · split
        · exact (hubKeeps_cipherCapacity s1).power.trans h1
        · split
          · have h2 := (hubKeeps_clusterClear (by omega : d - 25 < 12) s1).power.trans h1
            generalize s1.clusterClear (d - 25) = s2 at *
            split
            · exact (s2.keeperCluster_power _).trans h2
            · exact h2
          · exact h1

/-! #### Switches that open and close (R485) -/

/-- A domain's state moves, and the domain leaves the list of those on their way. -/
theorem State.domOff_dom (s : State) (d k : Nat) : (s.domOff d).dom k = if k = d then 0 else s.dom k :=
  tget_tset (fun _ => 2) s.power.dom d k 0

theorem State.domOn_dom (s : State) (d k : Nat) : (s.domOn d).dom k = if k = d then 2 else s.dom k :=
  tget_tset (fun _ => 2) s.power.dom d k 2

theorem State.dom_of_power (h : t.power.dom = s.power.dom) (k : Nat) : t.dom k = s.dom k :=
  congrArg (fun x => tget (fun _ => 2) x k) h

/-- What follows a domain's move moves no domain. -/
theorem State.moved_spec (w : State) : (∀ k, w.requestEnd.showRequests.dom k = w.dom k) ∧
    w.requestEnd.showRequests.power.opening = w.power.opening ∧ w.requestEnd.showRequests.power.powering = w.power.powering := by
  obtain ⟨hdom, hopen, hup⟩ := w.requestEnd_moves
  have hshow := w.requestEnd.showRequests_power
  exact ⟨State.dom_of_power (by rw [hshow, hdom]), by rw [hshow, hopen], by rw [hshow, hup]⟩

theorem powerSwitchOpen_opens (d : Fin 37) {a : Nat} (hopen : s.power.opening = [(d.val, a)]) (ha : a + 1 ≤ s.core.tick) :
    Completes (.powerSwitchOpen d) s (fun t => t.dom d = 0 ∧ t.power.opening = [] ∧ (∀ k, k ≠ d.val → t.dom k = s.dom k)) := by
  have hexec : exec (.powerSwitchOpen d) s = .next (s.offDomain d true).requestEnd.showRequests :=
    if_pos (by simp [hopen]; omega)
  have hoff := (hubKeeps_offDomain d.isLt true s).power
  obtain ⟨hdom, hop, -⟩ := (s.offDomain d true).moved_spec
  have hdom (k : Nat) : (s.offDomain d true).requestEnd.showRequests.dom k = if k = d.val then 0 else s.dom k :=
    ((hdom k).trans (State.dom_of_power (congrArg PowerSt.dom hoff) k)).trans (s.domOff_dom d k)
  refine ⟨_, hexec, (hdom d).trans (if_pos rfl), ?_, fun k hk => (hdom k).trans (if_neg hk)⟩
  rw [hop, hoff]
  show s.power.opening.filter (fun q => q.1 != d.val) = []
  simp [hopen]

theorem powerSwitchOpen_noEffect (d : Fin 37) (h : ∀ o ∈ s.power.opening, o.1 = d.val → s.core.tick < o.2 + 1) :
    NoEffect (.powerSwitchOpen d) s := by
  refine if_neg fun hc => ?_
  obtain ⟨o, ho, hd⟩ := List.any_eq_true.1 hc
  have hd : o.1 = d.val ∧ o.2 + 1 ≤ s.core.tick := by simpa using hd
  have := h o ho hd.1
  omega

theorem domainPowered_powers (d : Fin 37) {a : Nat} (hup : s.power.powering = [(d.val, a)]) (ha : a + 100 ≤ s.core.tick) :
    Completes (.domainPowered d) s (fun t => t.dom d = 2 ∧ t.power.powering = [] ∧ (∀ k, k ≠ d.val → t.dom k = s.dom k)) := by
  have hexec : exec (.domainPowered d) s = .next (s.poweredUp d).requestEnd.showRequests := if_pos (by simp [hup, ha])
  have hon := s.poweredUp_power d.isLt
  obtain ⟨hdom, -, hp⟩ := (s.poweredUp d).moved_spec
  have hdom (k : Nat) : (s.poweredUp d).requestEnd.showRequests.dom k = if k = d.val then 2 else s.dom k :=
    ((hdom k).trans (State.dom_of_power (congrArg PowerSt.dom hon) k)).trans (s.domOn_dom d k)
  refine ⟨_, hexec, (hdom d).trans (if_pos rfl), ?_, fun k hk => (hdom k).trans (if_neg hk)⟩
  rw [hp, hon]
  show s.power.powering.filter (fun q => q.1 != d.val) = []
  simp [hup]

theorem domainPowered_noEffect (d : Fin 37) (h : ∀ o ∈ s.power.powering, o.1 = d.val → s.core.tick < o.2 + 100) :
    NoEffect (.domainPowered d) s := by
  refine if_neg fun hc => ?_
  obtain ⟨o, ho, hd⟩ := List.any_eq_true.1 hc
  have hd : o.1 = d.val ∧ o.2 + 100 ≤ s.core.tick := by simpa using hd
  have := h o ho hd.1
  omega

/-! #### The drain limit (R488) -/

/-- The request in progress, given up. -/
def State.dropCurrent (s : State) : State := { s with power.cur := none, power.draining := [], power.committed := false }

theorem State.powerRefused_spec (s : State) {kind ident arg : Nat} (harg : kind * 2 ^ 24 + ident % 2 ^ 24 = arg) :
    (s.powerRefused kind ident).power = s.power ∧
    (⟨0x8111, 0x1200, arg, s.core.tick, s.life⟩ : Event) ∈ (s.powerRefused kind ident).core.inFlight := by
  unfold State.powerRefused
  rw [harg]
  exact ⟨rfl, List.mem_append_right _ (List.mem_singleton.2 rfl)⟩

theorem drainLimit_refuses {q : PowReq} {k id : Nat} (hcur : s.power.cur = some q) (hurgent : q.urgent = false)
    (hlimit : s.power.since + s.rdN Obj.drainLimit ≤ s.core.tick) (hfirst : firstRefuser ((s.refusers q).filter waitedFor) = some (k, id)) :
    Completes .drainLimitExpiry s (fun t => t.power.cur = none ∧ t.power.draining = [] ∧ t.power.committed = false ∧
      t.power.dom = s.power.dom ∧ ⟨0x8111, 0x1200, 2 ^ 24 * k + id % 2 ^ 24, s.core.tick, s.life⟩ ∈ t.core.inFlight) := by
  have hexec : exec .drainLimitExpiry s = .next (s.dropCurrent.powerRefused k id).showRequests := by
    show execDrainLimitExpiry s = _
    unfold execDrainLimitExpiry
    rw [hcur]
    dsimp only
    rw [if_pos ⟨by rw [hurgent]; decide, hlimit⟩, hfirst] <;> rfl
  obtain ⟨hpower, hevent⟩ := s.dropCurrent.powerRefused_spec (Nat.mul_comm k (2 ^ 24) ▸ rfl : k * 2 ^ 24 + id % 2 ^ 24 = 2 ^ 24 * k + id % 2 ^ 24)
  generalize 2 ^ 24 * k + id % 2 ^ 24 = arg at *
  generalize s.dropCurrent.powerRefused k id = w at *
  obtain ⟨x, l, hx, -⟩ := w.showRequests_spec
  refine ⟨_, hexec, ?_⟩
  rw [hx]
  refine ⟨?_, ?_, ?_, ?_, List.mem_append_left _ hevent⟩
  · rw [hpower] <;> rfl
  · rw [hpower] <;> rfl
  · rw [hpower] <;> rfl
  · rw [hpower] <;> rfl

theorem drainLimit_noEffect (h : s.power.cur = none) : NoEffect .drainLimitExpiry s := by
  show execDrainLimitExpiry s = _
  unfold execDrainLimitExpiry
  rw [h]

/-! #### DORMANT (R491) -/

theorem hubKeeps_toKeying {r g : Nat} (hr : r < 4) (hg : g < 8) (s : State) : HubKeeps s (s.toKeying r g) := by
  have hset {v : State} (h : HubKeeps s v) (x : KeyGrp) : HubKeeps s (v.setKg r g x) := h.same rfl rfl rfl rfl
  have hkey {b : Nat} (hb : b < 256) : ¬ HubKey (objKey (0x3820 + 0x8 * r + g) b) := not_hubKey hb (by omega)
  unfold State.toKeying State.txKeyGone State.rxKeysGone
  exact ((hset ((hset ((hset .refl _).wrN _ (hkey (by decide))) _).wrN _ (hkey (by decide))) _).wrN _ (hkey (by decide))).wrN _
    (hkey (by decide))

theorem hubKeeps_storeLost (s : State) : HubKeeps s s.storeLost := by
  unfold State.storeLost
  extract_lets s1 _ s2
  have h1 : HubKeeps s s1 := .each .refl fun u i hi => by
    have := List.mem_range.1 hi
    exact (HubKeeps.refl.wrN _ (not_hubKey (by omega) (by omega))).wrN _ (not_hubKey (by omega) (by omega))
  clear_value s1
  have h2 : HubKeeps s s2 := h1.same rfl rfl rfl rfl
  clear_value s2
  refine h2.each fun u i hi => ?_
  have := List.mem_range.1 hi
  extract_lets r g u1
  have hu : HubKeeps u u1 := by
    simp only [u1]
    split
    · exact hubKeeps_toKeying (by omega) (by omega) u
    · exact .refl
  exact hu.same rfl rfl rfl rfl

theorem hubKeeps_lanesOff (s : State) : HubKeeps s s.lanesOff := .each .refl fun u l hl => by
  have := List.mem_range.1 hl
  refine .wrN (.wrN (.wrN ?_ _ (not_hubKey (by omega) (by omega))) _ (not_hubKey (by decide) (by decide))) _
    (not_hubKey (by omega) (by omega))
  exact HubKeeps.refl.same rfl rfl rfl rfl

theorem State.hubOff_spec (s : State) : HubKeeps s s.hubOff ∧ s.hubOff.agent.serving = false := by
  unfold State.hubOff
  extract_lets s1 s2
  have h1 : HubKeeps s s1 := (hubKeeps_storeLost s).trans (hubKeeps_lanesOff _)
  clear_value s1
  have hset : HubKeeps s (s1.setSession 0 {}) := h1.same rfl rfl rfl rfl
  have h2 : HubKeeps s s2 := hset.wrN _ (not_hubKey (by decide) (by decide) : ¬ HubKey Obj.cipherPausedGroups)
  clear_value s2
  exact ⟨h2.same rfl rfl rfl rfl, rfl⟩

/-- The state with other domain states and switches on their way. -/
def State.withDom (s : State) (dom opening : List (Nat × Nat)) : State :=
  { s with power := { s.power with dom := dom, opening := opening } }

/-- Every domain of a list goes off, and no other. -/
theorem State.each_offDomain (l : List Nat) (hl : ∀ d ∈ l, d < 37) (s : State) : ∃ dom opening,
    HubKeeps (s.withDom dom opening) (s.each l (fun s d => s.offDomain d false)) ∧
    (∀ d ∈ l, tget (fun _ => 2) dom d = 0) ∧ ∀ d, d ∉ l → tget (fun _ => 2) dom d = s.dom d := by
  induction l generalizing s with
  | nil => exact ⟨_, _, .refl, fun _ h => absurd h (by simp), fun _ _ => rfl⟩
  | cons a l ih =>
    have hoff := hubKeeps_offDomain (hl a List.mem_cons_self) false s
    rw [State.each_cons]
    obtain ⟨dom, opening, hkeep, hin, hout⟩ := ih (fun d hd => hl d (List.mem_cons_of_mem _ hd)) (s.offDomain a false)
    generalize s.offDomain a false = w at *
    have hdom (d : Nat) : w.dom d = if d = a then 0 else s.dom d :=
      (State.dom_of_power (congrArg PowerSt.dom hoff.power) d).trans (s.domOff_dom a d)
    have hw : HubKeeps (s.withDom dom opening) (w.withDom dom opening) :=
      ⟨congrArg (fun p : PowerSt => { p with dom := dom, opening := opening }) hoff.power, hoff.tick, hoff.base, hoff.rd⟩
    refine ⟨dom, opening, hw.trans hkeep, fun d hd => ?_, fun d hd => ?_⟩
    · by_cases hmem : d ∈ l
      · exact hin d hmem
      · rw [hout d hmem, hdom, if_pos ((List.mem_cons.1 hd).resolve_right hmem)]
    · obtain ⟨hne, hmem⟩ := not_or.1 (mt List.mem_cons.2 hd)
      rw [hout d hmem, hdom, if_neg hne]

/-- The hub's own state in DORMANT. -/
def State.asleep (s : State) : State :=
  { s with power.dormant := true, power.dormantCommitted := false, power.cur := none, power.committed := false, power.draining := [],
           start.wdArmed := false }

/-- The entry into DORMANT as it is counted and announced. -/
def State.dormantCounted (s : State) : State := ((s.inc Obj.dormantEntries).inc Obj.requestsDone).raise 0x4112 0x1200 3

/-- The sequencer starts its wake list, in the mode in force (R433). -/
def State.wakeListStarted (s : State) : State := ({ s with sup.restart := true } : State).superMode

theorem State.dormantCounted_spec (w : State) : (∃ x l, w.dormantCounted = { w with regs := x, core.inFlight := l }) ∧
    w.dormantCounted.rdN Obj.dormantEntries = (w.rdN Obj.dormantEntries + 1) % 2 ^ 64 ∧
    w.dormantCounted.rdN Obj.requestsDone = (w.rdN Obj.requestsDone + 1) % 2 ^ 64 ∧
    (⟨0x4112, 0x1200, 3, w.core.tick, w.life⟩ : Event) ∈ w.dormantCounted.core.inFlight := by
  have hne : Obj.dormantEntries ≠ Obj.requestsDone := by decide
  have hraise (v : State) (k : Nat) : (v.raise 0x4112 0x1200 3).rdN k = v.rdN k := rfl
  unfold State.dormantCounted
  refine ⟨⟨_, _, rfl⟩, ?_, ?_, List.mem_append_right _ (List.mem_singleton.2 rfl)⟩
  · rw [hraise, State.inc_rdN_ne (h := hne), State.inc_rdN_self]
  · rw [hraise, State.inc_rdN_self, State.inc_rdN_ne (h := hne.symm)]

theorem State.wakeListStarted_spec (w : State) : (∃ x m, w.wakeListStarted = { w with regs := x, sup := m }) ∧
    KeepsRegs [Obj.modeInForce] w w.wakeListStarted := by
  unfold State.wakeListStarted State.superMode
  refine ⟨⟨_, _, rfl⟩, fun k hk => ?_⟩
  rw [State.wrN_rd_ne (h := fun hc => hk (List.mem_singleton.2 hc)), State.rd_upd]

/-- With no wake waiting the device stays in DORMANT. -/
theorem dormantWake_none {w : State} (h : w.power.wakeWaiting = none) :
    (match w.power.wakeWaiting with | some k => .next (w.leaveDormant k) | none => .next w : Host.Outcome State Fault Refusal) = .next w := by
  rw [h]

theorem dormantEntry_enters (hc : s.power.dormantCommitted = true) (htick : s.power.since + 1 ≤ s.core.tick)
    (hwake : s.power.wakeWaiting = none) :
    Completes .dormantEntry s (fun t => t.power.dormant = true ∧ t.power.dormantCommitted = false ∧ t.power.cur = none ∧
      (∀ d, d < 37 → t.dom d = 0) ∧ t.agent.serving = false ∧ t.start.wdArmed = false ∧
      t.rdN Obj.dormantEntries = (s.rdN Obj.dormantEntries + 1) % 2 ^ 64 ∧
      t.rdN Obj.requestsDone = (s.rdN Obj.requestsDone + 1) % 2 ^ 64 ∧
      ⟨0x4112, 0x1200, 3, s.core.tick, s.life⟩ ∈ t.core.inFlight) := by
  obtain ⟨dom, opening, hoff, hdom, -⟩ := State.each_offDomain (List.range 37) (fun d hd => List.mem_range.1 hd) s
  have hexec (a : State) (ha : s.each (List.range 37) (fun s d => s.offDomain d false) = a)
      (h : a.hubOff.asleep.dormantCounted.showRequests.wakeListStarted.power.wakeWaiting = none) :
      exec .dormantEntry s = .next a.hubOff.asleep.dormantCounted.showRequests.wakeListStarted := by
    show execDormantEntry s = _
    unfold execDormantEntry
    rw [if_pos ⟨hc, htick⟩]
    dsimp only
    rw [ha]
    generalize a.hubOff = b at *
    exact dormantWake_none h
  have hexec := hexec _ rfl
  generalize s.each (List.range 37) (fun s d => s.offDomain d false) = a at *
  obtain ⟨hhub, hserving⟩ := a.hubOff_spec
  have hb := hoff.trans hhub
  generalize a.hubOff = b at *
  obtain ⟨⟨x1, l1, h1⟩, hentries, hdone, hevent⟩ := b.asleep.dormantCounted_spec
  generalize b.asleep.dormantCounted = c at *
  obtain ⟨x2, l2, h2, hkeep2⟩ := c.showRequests_spec
  generalize c.showRequests = d at *
  obtain ⟨⟨x3, m3, h3⟩, hkeep3⟩ := d.wakeListStarted_spec
  generalize d.wakeListStarted = e at *
  have hpower : e.power = { (s.withDom dom opening).power with dormant := true, dormantCommitted := false, cur := none, committed := false, draining := [] } := by
    rw [← hb.power, h3, h2, h1] <;> rfl
  have hrd (k : Nat) (h3 : k ≠ Obj.modeInForce) (h2 : k ∉ showKeys) : e.rdN k = c.rdN k :=
    congrArg Int.toNat ((hkeep3 k (by simpa using h3)).trans (hkeep2 k h2))
  have hbrd (k : Nat) : b.asleep.rdN k = b.rdN k := State.rdN_upd ..
  have hent : b.rdN Obj.dormantEntries = s.rdN Obj.dormantEntries := (hb.rdN (by decide)).trans (State.rdN_upd ..)
  have hreq : b.rdN Obj.requestsDone = s.rdN Obj.requestsDone := (hb.rdN (by decide)).trans (State.rdN_upd ..)
  have hwaiting : e.power.wakeWaiting = none := by rw [hpower]; exact hwake
  refine ⟨e, hexec hwaiting, by rw [hpower], by rw [hpower], by rw [hpower], fun k hk => ?_, ?_, ?_, ?_, ?_, ?_⟩
  · unfold State.dom
    rw [hpower]
    exact hdom k (List.mem_range.2 hk)
  · rw [h3, h2, h1]
    exact hserving
  · rw [h3, h2, h1] <;> rfl
  · rw [hrd _ (by decide) (by decide), hentries, hbrd, hent]
  · rw [hrd _ (by decide) (by decide), hdone, hbrd, hreq]
  · have hlife : b.asleep.life = s.life := hb.life
    have htick : b.asleep.core.tick = s.core.tick := hb.tick
    rw [hlife, htick] at hevent
    rw [h3, h2]
    exact List.mem_append_left _ hevent

theorem dormantEntry_noEffect (h : s.power.dormantCommitted = false) : NoEffect .dormantEntry s :=
  if_neg fun hc => Bool.false_ne_true (h.symm.trans hc.1)

/-! #### Wake (R492–R494) -/

/-- What the end of DORMANT keeps of the state it starts from, and what it sets. -/
structure Wakes (s t : State) (source : Nat) : Prop where
  dormant : t.power.dormant = false
  leaving : t.power.leaving = true
  step : t.start.step = 3
  cause : t.rdN Obj.wakeCause = source
  tick : t.core.tick = s.core.tick
  log : t.core.log = s.core.log
  basin : t.basin = s.basin

theorem State.showDevice_spec (s : State) : (∃ x a, s.showDevice = { s with regs := x, agent := a }) ∧
    KeepsRegs [Obj.deviceState] s s.showDevice := by
  unfold State.showDevice
  extract_lets v
  refine ⟨⟨_, _, rfl⟩, fun k hk => ?_⟩
  have hbar : ((s.wrN Obj.deviceState v).setBar 0x18 v).rd k = (s.wrN Obj.deviceState v).rd k := rfl
  rw [hbar, State.wrN_rd_ne (h := fun hc => hk (List.mem_singleton.2 hc))]

theorem State.each_switchOn (l : List Nat) (s : State) : ∃ p,
    s.each l (fun s d => { s.setDom d 1 with power.powering := s.power.powering ++ [(d, s.core.tick)] }) = { s with power := p } := by
  induction l generalizing s with
  | nil => exact ⟨_, rfl⟩
  | cons a l ih =>
    obtain ⟨p, hp⟩ := ih { s.setDom a 1 with power.powering := s.power.powering ++ [(a, s.core.tick)] }
    exact ⟨p, hp⟩

/-- Out of DORMANT, with the switches on their way: the start-up goes on at step 3. -/
def State.awake (s : State) : State :=
  { s with power.dormant := false, power.leaving := true, power.wakeWaiting := none, start.step := 3, sup.wakeSince := [], sup.restart := true }

theorem State.wakeShown_wakes (w : State) (source : Nat) : Wakes w ((w.awake.wrN Obj.wakeCause source).showRequests.showDevice) source := by
  have hcause : (w.awake.wrN Obj.wakeCause source).rdN Obj.wakeCause = source := State.wrN_rdN_self ..
  have hshape : ∃ x, w.awake.wrN Obj.wakeCause source = { w.awake with regs := x } := ⟨_, rfl⟩
  obtain ⟨x1, h1⟩ := hshape
  generalize w.awake.wrN Obj.wakeCause source = a at *
  obtain ⟨x2, l2, h2, hkeep2⟩ := a.showRequests_spec
  generalize a.showRequests = b at *
  obtain ⟨⟨x3, g3, h3⟩, hkeep3⟩ := b.showDevice_spec
  have hrd : b.showDevice.rdN Obj.wakeCause = a.rdN Obj.wakeCause :=
    congrArg Int.toNat ((hkeep3 _ (by decide)).trans (hkeep2 _ (by decide)))
  generalize b.showDevice = c at *
  refine ⟨?_, ?_, ?_, hrd.trans hcause, ?_, ?_, ?_⟩
  · rw [h3, h2, h1] <;> rfl
  · rw [h3, h2, h1] <;> rfl
  · rw [h3, h2, h1] <;> rfl
  · rw [h3, h2, h1] <;> rfl
  · rw [h3, h2, h1] <;> rfl
  · rw [h3, h2, h1] <;> rfl

theorem State.leaveDormant_wakes (s : State) (source : Nat) : Wakes s (s.leaveDormant source) source := by
  have hleave (x : List (Nat × Int)) (p : PowerSt) : Wakes s
      ((({ s with regs := x, power := p } : State).awake.wrN Obj.wakeCause source).showRequests.showDevice) source := by
    obtain ⟨hdormant, hleaving, hstep, hcause, htick, hlog, hbasin⟩ := ({ s with regs := x, power := p } : State).wakeShown_wakes source
    exact ⟨hdormant, hleaving, hstep, hcause, htick, hlog, hbasin⟩
  unfold State.leaveDormant
  have h1 : RegsOnly s (s.each s.power.recorded (fun s q => s.wrN (Obj.domainTarget q.1) q.2)) :=
    State.each_ind (P := fun t => RegsOnly s t) (fun t q h => h.wrN _ _) _ .refl
  obtain ⟨x1, h1⟩ := h1
  rw [h1]
  dsimp only
  generalize (List.range 37).filter _ = ups
  obtain ⟨p2, h2⟩ := State.each_switchOn ups { s with regs := x1 }
  rw [h2]
  exact hleave x1 p2

theorem wakeOp_disabled {k : Nat} (h : bitOf (s.rdN Obj.wakeEnable) k = false) : s.wakeOp k = s := by
  unfold State.wakeOp
  rw [h] <;> rfl

theorem wakeOp_dormant {k : Nat} (hd : s.power.dormant = true) (h : bitOf (s.rdN Obj.wakeEnable) k = true) :
    s.wakeOp k = s.leaveDormant k := by
  unfold State.wakeOp
  rw [h, hd] <;> rfl

/-- A request for DORMANT that is not committed gives way. -/
theorem wakeOp_supersedes {k : Nat} {q : PowReq} (hd : s.power.dormant = false) (hc : s.power.dormantCommitted = false)
    (hcur : s.power.cur = some q) (hq : q.target = 3) (h : bitOf (s.rdN Obj.wakeEnable) k = true) :
    s.wakeOp k = s.countSuperseded.dropCurrent.showRequests := by
  have hany : s.power.cur.any (fun q => q.target == 3) = true := by
    rw [hcur]
    exact beq_iff_eq.2 hq
  unfold State.wakeOp
  rw [h, hd, hc, hany] <;> rfl

theorem wake_wakes {k : WakeSource} (hd : s.power.dormant = true) (hb : bitOf (s.rdN Obj.wakeEnable) k.bit = true)
    (hdet : s.wakeDetected k = true) : Completes (.wake k) s (fun t => Wakes s t k.bit) :=
  ⟨_, (if_pos hdet).trans (congrArg Host.Outcome.next (wakeOp_dormant hd hb)), s.leaveDormant_wakes _⟩

theorem wake_supersedes {k : WakeSource} {q : PowReq} (hd : s.power.dormant = false) (hc : s.power.dormantCommitted = false)
    (hcur : s.power.cur = some q) (hq : q.target = 3) (hb : bitOf (s.rdN Obj.wakeEnable) k.bit = true) (hdet : s.wakeDetected k = true) :
    Completes (.wake k) s (fun t => t.power.cur = none ∧ t.power.draining = [] ∧ t.power.dom = s.power.dom) := by
  refine ⟨_, (if_pos hdet).trans (congrArg Host.Outcome.next (wakeOp_supersedes hd hc hcur hq hb)), ?_⟩
  have hpower := State.showRequests_power s.countSuperseded.dropCurrent
  exact ⟨congrArg PowerSt.cur hpower, congrArg PowerSt.draining hpower, (congrArg PowerSt.dom hpower).trans rfl⟩

theorem wake_undetected {k : WakeSource} (h : s.wakeDetected k = false) : NoEffect (.wake k) s :=
  if_neg (by rw [h]; exact Bool.false_ne_true)

theorem wake_disabled {k : WakeSource} (h : bitOf (s.rdN Obj.wakeEnable) k.bit = false) : NoEffect (.wake k) s := by
  cases hdet : s.wakeDetected k with
  | false => exact wake_undetected hdet
  | true => exact (if_pos hdet).trans (congrArg Host.Outcome.next (wakeOp_disabled h))

theorem wakeDetected_reach_short (r : Fin 4) (h : tget (fun _ => 0) s.sup.wakeSince r.val = 0 ∨
    s.core.tick < tget (fun _ => 0) s.sup.wakeSince r.val + 999) : s.wakeDetected (.reach r) = false := by
  unfold State.wakeDetected
  dsimp only
  generalize tget (fun _ => 0) s.sup.wakeSince r.val = a at *
  rw [Bool.and_eq_false_iff]
  by_cases ha : a = 0
  · exact .inl (by simp [ha])
  · exact .inr (by simp; omega)

theorem wakeDetected_berth_portless (lane : Fin 64) (h : ∀ i, i < 8 → s.isPort (lane.val / 8 * 8 + i) = false) :
    s.wakeDetected (.berth lane) = false :=
  List.any_eq_false.2 fun i hi => by simp [h i (List.mem_range.1 hi)]

theorem wakeDetected_sets {rate sets : Nat} (h : rate ≠ 0 ∨ sets < 8) : s.wakeDetected (.wakeSets rate sets) = false := by
  unfold State.wakeDetected
  rw [Bool.and_eq_false_iff]
  exact h.imp (fun h => by simpa using h) (fun h => by simpa using h)

/-! #### The wake pattern (R493) -/

/-- The number that bits spell, the first one the highest. -/
def spelled (l : List Bool) : Nat := l.foldl (fun a b => 2 * a + (if b then 1 else 0)) 0

theorem wakeWordBits_eq (w : WakeWord) : wakeWordBits w = spelled (w.energy.map (fun e => decide (w.full < 2 * e))) := by
  unfold wakeWordBits spelled
  rw [List.foldl_map]
  simp only [decide_eq_true_eq]

theorem spelled_concat (l : List Bool) (b : Bool) : spelled (l ++ [b]) = 2 * spelled l + (if b then 1 else 0) := by
  simp [spelled, List.foldl_append]

/-- Bits of one length that spell the same number are the same. -/
theorem spelled_inj (n : Nat) {l m : List Bool} (hl : l.length = n) (hm : m.length = n) (h : spelled l = spelled m) : l = m := by
  induction n generalizing l m with
  | zero => rw [List.length_eq_zero_iff.1 hl, List.length_eq_zero_iff.1 hm]
  | succ n ih =>
    obtain ⟨x, a, rfl⟩ := List.eq_nil_or_concat l |>.resolve_left (by rintro rfl; simp at hl)
    obtain ⟨y, b, rfl⟩ := List.eq_nil_or_concat m |>.resolve_left (by rintro rfl; simp at hm)
    simp only [List.concat_eq_append, List.length_append, List.length_singleton, spelled_concat, Nat.add_right_cancel_iff] at hl hm h ⊢
    have hhead : spelled x = spelled y := by split at h <;> split at h <;> omega
    have hlast : a = b := by
      rw [hhead] at h
      cases a with
      | false => cases b with
        | false => rfl
        | true => simp at h
      | true => cases b with
        | false => simp at h
        | true => rfl
    rw [ih hl hm hhead, hlast]

/-- The bits of the wake word, the highest first. -/
def wakeList : List Bool := (List.range 16).map (fun i => bitOf 0xA5C3 (15 - i))

theorem wakeWordBits_match (w : WakeWord) (hl : w.energy.length = 16) :
    wakeWordBits w = wakeBits ↔ ∀ i, i < 16 → decide (w.full < 2 * w.energy.getD i 0) = bitOf 0xA5C3 (15 - i) := by
  have hspell : spelled wakeList = wakeBits := by decide
  have hlen : (w.energy.map (fun e => decide (w.full < 2 * e))).length = 16 := (List.length_map ..).trans hl
  have hget (i : Nat) (hi : i < 16) : (w.energy.map (fun e => decide (w.full < 2 * e)))[i]'(by omega) =
      decide (w.full < 2 * w.energy.getD i 0) := by
    rw [List.getElem_map, List.getD_eq_getElem _ _ (by omega)]
  rw [wakeWordBits_eq, ← hspell]
  refine ⟨fun h i hi => ?_, fun h => congrArg spelled (List.ext_getElem (hlen.trans (by decide)) fun i hi _ => ?_)⟩
  · rw [← hget i hi]
    simp only [spelled_inj 16 hlen (by decide) h, wakeList, List.getElem_map, List.getElem_range]
  · rw [hget i (hlen ▸ hi), h i (hlen ▸ hi)]
    simp only [wakeList, List.getElem_map, List.getElem_range]

theorem wakePatternWord_wakes {w : WakeWord} (hd : s.power.dormant = true) (hb : bitOf (s.rdN Obj.wakeEnable) (8 + w.r.val) = true)
    (hl : w.energy.length = 16) (hbits : ∀ i, i < 16 → decide (w.full < 2 * w.energy.getD i 0) = bitOf 0xA5C3 (15 - i)) :
    Completes (.wakePatternWord w) s (fun t => Wakes s t (8 + w.r.val)) :=
  ⟨_, (if_pos ⟨hl, (wakeWordBits_match w hl).2 hbits⟩).trans (congrArg Host.Outcome.next (wakeOp_dormant hd hb)), s.leaveDormant_wakes _⟩

theorem wakePatternWord_noEffect {w : WakeWord} (h : w.energy.length ≠ 16 ∨
    ∃ i, i < 16 ∧ decide (w.full < 2 * w.energy.getD i 0) ≠ bitOf 0xA5C3 (15 - i)) : NoEffect (.wakePatternWord w) s := by
  refine if_neg fun ⟨hl, hbits⟩ => ?_
  obtain hne | ⟨i, hi, hne⟩ := h
  · exact hne hl
  · exact hne ((wakeWordBits_match w hl).1 hbits i hi)

theorem wakePatternEnd_ends (r : Fin 4) (h0 : tget (fun _ => 0) s.power.wakeSend r ≠ 0)
    (htick : tget (fun _ => 0) s.power.wakeSend r ≤ s.core.tick) :
    Completes (.wakePatternEnd r) s (fun t => t = { s with power := { s.power with wakeSend := t.power.wakeSend } } ∧
      tget (fun _ => 0) t.power.wakeSend r = 0 ∧
      (∀ k, k ≠ r.val → tget (fun _ => 0) t.power.wakeSend k = tget (fun _ => 0) s.power.wakeSend k)) :=
  ⟨_, if_pos ⟨h0, htick⟩, rfl, tget_tset_self (fun _ => 0) s.power.wakeSend r 0,
    fun k hk => tget_tset_ne (fun _ => 0) s.power.wakeSend 0 hk⟩

/-- Settles O52. -/
theorem powerStepsDormantAndWake : Obligations.PowerStepsDormantAndWake := by
  unfold Obligations.PowerStepsDormantAndWake
  exact ⟨fun s d a ho ha => powerSwitchOpen_opens d ho ha,
    fun s d h => powerSwitchOpen_noEffect d h,
    fun s d a hp ha => domainPowered_powers d hp ha,
    fun s d h => domainPowered_noEffect d h,
    fun s q k id hcur hu hlimit hfirst => drainLimit_refuses hcur hu hlimit hfirst,
    fun s h => drainLimit_noEffect h,
    fun s hc ht hw => dormantEntry_enters hc ht hw,
    fun s h => dormantEntry_noEffect h,
    fun s k hd hb hdet => (wake_wakes hd hb hdet).mono fun t h => ⟨h.dormant, h.leaving, h.step, h.cause, h.tick, h.log, h.basin⟩,
    fun s k q hd hc hcur hq hb hdet => wake_supersedes hd hc hcur hq hb hdet,
    fun s k h => wake_disabled h,
    fun s r h => wake_undetected (wakeDetected_reach_short r h),
    fun s lane h => wake_undetected (wakeDetected_berth_portless lane h),
    fun s rate sets h => wake_undetected (wakeDetected_sets h),
    fun s w hd hb hl hbits => (wakePatternWord_wakes hd hb hl hbits).mono fun t h => ⟨h.dormant, h.leaving, h.cause⟩,
    fun s w h => wakePatternWord_noEffect h,
    fun s r h0 ht => wakePatternEnd_ends r h0 ht⟩

end

end Sys2Proof.Machine
end

section
/-! The scrub, the rake and the stockpile (R459–R473). -/
open Sys2Proof Sys2Proof.Machine
namespace Sys2Proof.Machine

section
variable {s t u : State}

/-! #### The flow entries that a write elsewhere leaves alone -/

/-- No flow entry is written: those that stand in the registers stood there before, and each reads as it did. -/
structure FlowsStay (s t : State) : Prop where
  mem : ∀ p ∈ t.regs, flowOfKey p.1 ≠ none → p ∈ s.regs
  entry : ∀ f, f < 4096 → t.entry f = s.entry f

theorem FlowsStay.refl : FlowsStay s s := ⟨fun _ h _ => h, fun _ _ => rfl⟩

theorem FlowsStay.trans (h : FlowsStay s t) (g : FlowsStay t u) : FlowsStay s u :=
  ⟨fun p hp hf => h.mem p (g.mem p hp hf) hf, fun f hf => (g.entry f hf).trans (h.entry f hf)⟩

theorem mem_tput {α : Type} {k : Nat} {v : α} {l : List (Nat × α)} {p : Nat × α} (h : p ∈ tput k v l) : p = (k, v) ∨ p ∈ l := by
  induction l with
  | nil => exact .inl (List.mem_singleton.1 h)
  | cons q l ih =>
    obtain ⟨k', v'⟩ := q
    rw [tput] at h
    split at h
    · exact List.mem_cons.1 h
    · split at h
      · exact (List.mem_cons.1 h).imp_right (List.mem_cons_of_mem _)
      · obtain h | h := List.mem_cons.1 h
        · exact .inr (h ▸ List.mem_cons_self)
        · exact (ih h).imp_right (List.mem_cons_of_mem _)

theorem mem_tset {α : Type} [DecidableEq α] {d : Nat → α} {l : List (Nat × α)} {k : Nat} {v : α} {p : Nat × α} (h : p ∈ tset d l k v) :
    p.1 = k ∨ p ∈ l := by
  unfold tset at h
  split at h
  · exact .inr (List.mem_of_mem_filter h)
  · exact (mem_tput h).imp (fun h => congrArg Prod.fst h) List.mem_of_mem_filter

theorem FlowsStay.wr (h : FlowsStay s t) {j : Nat} (v : Int) (hj : j < 0x342000 ∨ 0x344000 ≤ j) : FlowsStay s (t.wr j v) := by
  have hnone : flowOfKey j = none := if_neg (by omega)
  refine ⟨fun p hp hf => (mem_tset hp).elim (fun hc => absurd (hc ▸ hnone) hf) fun hp => h.mem p hp hf, fun f hf => ?_⟩
  have hk : flowKey f ≠ j := by
    simp only [flowKey, Obj.flowEntry, objKey]
    omega
  exact (State.wr_rdN_ne (h := hk) ..).trans (h.entry f hf)

theorem FlowsStay.regs (h : FlowsStay s t) (hr : u.regs = t.regs) : FlowsStay s u :=
  ⟨fun p hp hf => h.mem p (hr ▸ hp) hf, fun f hf => (congrArg (fun x => (tget objDefault x (flowKey f)).toNat) hr).trans (h.entry f hf)⟩

theorem mem_flowsOn {f : Nat} : f ∈ s.flowsOn ↔ ∃ p ∈ s.regs, flowOfKey p.1 = some f ∧ entryOn p.2.toNat = true := by
  unfold State.flowsOn
  rw [List.mem_filterMap]
  refine exists_congr fun p => and_congr_right fun _ => ?_
  cases flowOfKey p.1 with
  | none => simp
  | some g => cases entryOn p.2.toNat with
    | false => simp
    | true => simp

theorem flowOfKey_lt {k f : Nat} (h : flowOfKey k = some f) : f < 4096 := by
  unfold flowOfKey at h
  split at h
  · have := Option.some.inj h
    omega
  · exact absurd h (by simp)

/-- Without a durable flow before, there is none after. -/
theorem FlowsStay.durable (h : FlowsStay s t) (hs : s.durableFlows = []) : t.durableFlows = [] := by
  refine List.filter_eq_nil_iff.2 fun f hf hkind => ?_
  obtain ⟨p, hp, hkey, hon⟩ := mem_flowsOn.1 hf
  have hmem : f ∈ s.flowsOn := mem_flowsOn.2 ⟨p, h.mem p hp (by rw [hkey]; simp), hkey, hon⟩
  rw [h.entry f (flowOfKey_lt hkey)] at hkind
  exact List.filter_eq_nil_iff.1 hs f hmem hkind

/-! #### What a correction and a swap that it asks for leave alone (R463–R468) -/

/-- The registers that a correction or a swap may write beside its own counter. -/
def MendKey (k : Nat) : Prop := k / 256 = 0x1189 ∨ k / 256 = 0x1540 ∨ k / 256 = 0x1541 ∨ k / 256 = 0x1550 ∨
  (0x1510 ≤ k / 256 ∧ k / 256 < 0x1526 ∧ (k % 256 = 5 ∨ k % 256 = 8))

/-- The slots' contents, the places of the rake and the scrubbers and every other register stay. -/
structure Mends (s t : State) : Prop where
  slots : t.basin.slots = s.basin.slots
  rake : t.integ.rakeAt = s.integ.rakeAt
  scrub : t.integ.scrubAt = s.integ.scrubAt
  rd : KeepsWhere (fun k => ¬ MendKey k) s t
  flows : FlowsStay s t

theorem Mends.refl : Mends s s := ⟨rfl, rfl, rfl, .refl, .refl⟩

theorem Mends.trans (h : Mends s t) (g : Mends t u) : Mends s u :=
  ⟨g.slots.trans h.slots, g.rake.trans h.rake, g.scrub.trans h.scrub, h.rd.trans g.rd, h.flows.trans g.flows⟩

theorem Mends.wrN (h : Mends s t) {j : Nat} (v : Nat) (hj : MendKey j) : Mends s (t.wrN j v) :=
  ⟨h.slots, h.rake, h.scrub, h.rd.wrN v (not_not.2 hj), h.flows.wr _ (by unfold MendKey at hj; omega)⟩

/-- An update of other parts of the state. -/
theorem Mends.same (h : Mends s t) (hr : u.regs = t.regs) (hs : u.basin.slots = t.basin.slots) (hk : u.integ.rakeAt = t.integ.rakeAt)
    (hc : u.integ.scrubAt = t.integ.scrubAt) : Mends s u :=
  ⟨hs.trans h.slots, hk.trans h.rake, hc.trans h.scrub, h.rd.regs hr, h.flows.regs hr⟩

theorem Mends.rdN (h : Mends s t) {k : Nat} (hk : ¬ MendKey k) : t.rdN k = s.rdN k := KeepsWhere.rdN h.rd hk

theorem mendKey_op (b : Nat) (hb : b < 256) : MendKey (objKey (0x1180 + 9) b) := .inl (by simp only [objKey]; omega)

theorem mends_requestCommit (s : State) (cause : Nat) (clean : Bool) : Mends s (s.requestCommit cause clean) := by
  unfold State.requestCommit
  split
  · exact .refl
  · split
    · unfold State.commitStart
      dsimp only
      split
      · exact Mends.refl.same rfl rfl rfl rfl
      · exact Mends.refl.same rfl rfl rfl rfl
    · split
      · exact Mends.refl.same rfl rfl rfl rfl
      · exact Mends.refl.same rfl rfl rfl rfl

theorem mends_requestSwap (s : State) (w : Swap) : Mends s (s.requestSwap w) := by
  unfold State.requestSwap
  extract_lets _ s1 begun _ s2
  have h1 : Mends s s1 := Mends.refl.same rfl rfl rfl rfl
  have hbegun : Mends s begun :=
    ((((h1.wrN _ (mendKey_op 1 (by decide))).wrN _ (mendKey_op 3 (by decide))).wrN _ (mendKey_op 2 (by decide))).wrN _
      (mendKey_op 4 (by decide))).wrN _ (mendKey_op 6 (by decide))
  clear_value begun s1
  have h2 : Mends s s2 := by
    simp only [s2]
    split
    · split
      · exact h1.wrN _ (mendKey_op 4 (by decide))
      · exact h1
    · exact hbegun.same rfl rfl rfl rfl
  clear_value s2
  exact h2.trans (mends_requestCommit s2 3 false)

theorem mends_exhaustedKind (s : State) (kind : Nat) : Mends s (s.exhaustedKind kind) := by
  have h : Mends s (s.wrN Obj.exhausted (setBit (s.rdN Obj.exhausted) kind true)) := Mends.refl.wrN _ (.inr (.inr (.inr (.inl (by decide)))))
  exact h.same rfl rfl rfl rfl

theorem mends_listRepeat (s : State) (v : Nat) : Mends s (s.listRepeat v) := by
  unfold State.listRepeat
  extract_lets n
  split
  · refine .wrN (Mends.refl.wrN _ (.inr (.inr (.inl ?_)))) _ (.inr (.inl (by decide)))
    simp only [Obj.repeatList, objKey]
    omega
  · exact Mends.refl.wrN _ (.inr (.inl (by decide)))

theorem mends_repairRow (s : State) (m addr : Nat) : Mends s (s.repairRow m addr) := by
  unfold State.repairRow
  dsimp only
  split
  · exact .refl
  · split
    · exact mends_requestSwap s _
    · refine (mends_listRepeat s (m * 2 ^ 26 + addr % 2 ^ 26)).trans ?_
      generalize s.listRepeat _ = w
      unfold State.spentMacro
      split
      · exact .refl
      · refine Mends.trans ?_ (mends_exhaustedKind _ _)
        exact Mends.refl.same rfl rfl rfl rfl

theorem mends_reserveTake (s : State) (p n : Nat) : Mends s (s.reserveTake p n) := by
  have h : Mends s (s.setBport p { (s.bport p) with withheld := (s.bport p).withheld.filter (fun x => x != n) }) :=
    Mends.refl.same rfl rfl rfl rfl
  unfold State.reserveTake State.noteReserve
  exact h.same rfl rfl rfl rfl

theorem mends_retirePage (s : State) (p n : Nat) : Mends s (s.retirePage p n) := by
  unfold State.retirePage
  extract_lets k
  split
  · exact .refl
  · split
    · exact (mends_reserveTake s p n).trans (mends_requestSwap _ _)
    · split
      · exact (mends_exhaustedKind s 5).trans (mends_listRepeat _ _)
      · extract_lets s1
        have h1 : Mends s s1 := by
          simp only [s1]
          split
          · exact mends_reserveTake s _ _
          · exact mends_exhaustedKind s 5
        exact h1.trans (mends_requestSwap s1 _)

theorem mends_trackCorrection (s : State) (key addr : Nat) : Mends s (s.trackCorrection key addr).1 := by
  unfold State.trackCorrection
  dsimp only
  have h : ∀ t, Mends s { s with integ.track := t } := fun t => Mends.refl.same rfl rfl rfl rfl
  split
  · next hc =>
    have hkey : key < 22 := by simp at hc; omega
    refine (h _).wrN _ (.inr (.inr (.inr (.inr ?_))))
    simp only [Obj.trackOverflows, objKey]
    omega
  · exact h _

theorem mends_raiseLimitedFor (s : State) (code source n last : Nat) : Mends s (s.raiseLimitedFor code source n last) := by
  unfold State.raiseLimitedFor
  rw [State.raiseLimitedItem_eq]
  exact Mends.refl.same rfl rfl rfl rfl

theorem mends_slotCorrected (s : State) (p n : Nat) : Mends (s.inc (Obj.correctedSlots p)) (s.slotCorrected p n) := by
  unfold State.slotCorrected
  have h := mends_trackCorrection (s.inc (Obj.correctedSlots p)) (32 + p) n
  generalize (s.inc (Obj.correctedSlots p)).trackCorrection (32 + p) n = q at h ⊢
  obtain ⟨s1, rep⟩ := q
  dsimp only
  split
  · exact (h.trans (mends_raiseLimitedFor s1 _ _ _ _)).trans (mends_retirePage _ _ _)
  · exact h

theorem mends_corrected {m : Nat} (hm : m < 22) (s : State) (addr : Nat) : Mends (s.inc (Obj.corrections m)) (s.corrected m addr) := by
  unfold State.corrected
  have h := mends_trackCorrection (s.inc (Obj.corrections m)) m addr
  generalize (s.inc (Obj.corrections m)).trackCorrection m addr = q at h ⊢
  obtain ⟨s1, rep⟩ := q
  dsimp only
  split
  · have hrep : Mends (s.inc (Obj.corrections m)) (s1.inc (Obj.repeatCorrectors m)) := by
      refine h.wrN _ (.inr (.inr (.inr (.inr ?_))))
      simp only [Obj.repeatCorrectors, objKey]
      omega
    exact (hrep.trans (mends_raiseLimitedFor _ _ _ _ _)).trans (mends_repairRow _ _ _)
  · exact h

/-! #### The scrubber's reads (R459) -/

/-- The scrubber's place in a group. -/
def State.scrubMark (s : State) (m place : Nat) : State := { s with integ.scrubAt := tset (fun _ => 0) s.integ.scrubAt m place }

theorem State.scrubMark_at (s : State) (m place : Nat) : tget (fun _ => 0) (s.scrubMark m place).integ.scrubAt m = place :=
  tget_tset_self (fun _ => 0) s.integ.scrubAt m place

section
variable {m : Fin 22} {addr owner : Nat} {lost : List Nat} {o : Fin 3}

theorem exec_scrubRead (hp : s.groupPowered m = true) (ha : addr = tget (fun _ => 0) s.integ.scrubAt m) :
    exec (.scrubRead m addr o false owner lost) s = .next ((s.memRead ⟨m, addr, o, owner, lost⟩).scrubMark m (addr + 1)) := by
  show execScrubRead m addr o false owner lost s = _
  unfold execScrubRead
  rw [if_neg (by simp [hp, ha])] <;> rfl

theorem memRead_clean (hl : s.byteLost m addr = false) : s.memRead ⟨m, addr, 0, owner, lost⟩ = s := by
  unfold State.memRead
  simp [hl]

theorem memRead_corrected (hp : s.groupPowered m = true) (hl : s.byteLost m addr = false) :
    s.memRead ⟨m, addr, 1, owner, lost⟩ = s.corrected m addr := by
  unfold State.memRead
  simp [hl, hp]

theorem memRead_lost (hp : s.groupPowered m = true) (h : o = 2 ∨ (s.byteLost m addr = true ∧ m ≠ 21)) :
    s.memRead ⟨m, addr, o, owner, lost⟩ =
      ((s.loseByte m addr).uncorrectable m (if m.val = 20 then owner / 256 else addr)).memConsequence m owner lost := by
  have hlost : (s.byteLost m addr && (m.val != 21 || s.integ.logBad.contains owner) || o.val == 2) = true := by
    obtain rfl | ⟨hl, hm⟩ := h
    · simp
    · have : m.val ≠ 21 := fun hc => hm (Fin.ext hc)
      simp [hl, this]
  unfold State.memRead
  simp only [hp, hlost, Bool.not_true, Bool.false_eq_true, if_false, if_true]

theorem scrubRead_lap (hp : s.groupPowered m = true) (hl : s.byteLost m addr = false) (ha : addr = tget (fun _ => 0) s.integ.scrubAt m) :
    Completes (.scrubRead m addr 0 true owner lost) s (fun t =>
      t.rdN (Obj.lapTicks m) = s.core.tick - (tget (fun _ => (0, 0)) s.integ.laps m : Nat × Nat).2 ∧
      tget (fun _ => (0, 0)) t.integ.laps m = ((tget (fun _ => (0, 0)) s.integ.laps m : Nat × Nat).1 + 1, s.core.tick) ∧
      tget (fun _ => 0) t.integ.scrubAt m = 0 ∧ KeepsRegs [Obj.lapTicks m] s t ∧ t.core = s.core) := by
  have hexec : exec (.scrubRead m addr 0 true owner lost) s = .next (State.wrN { s.scrubMark m 0 with
      integ.laps := tset (fun _ => (0, 0)) s.integ.laps m ((tget (fun _ => (0, 0)) s.integ.laps m : Nat × Nat).1 + 1, s.core.tick) }
      (Obj.lapTicks m) (s.core.tick - (tget (fun _ => (0, 0)) s.integ.laps m : Nat × Nat).2)) := by
    show execScrubRead m addr 0 true owner lost s = _
    unfold execScrubRead
    rw [if_neg (by simp [hp, ha]), memRead_clean hl] <;> rfl
  refine ⟨_, hexec, State.wrN_rdN_self .., tget_tset_self (fun _ => (0, 0)) s.integ.laps m
      ((tget (fun _ => (0, 0)) s.integ.laps m : Nat × Nat).1 + 1, s.core.tick), s.scrubMark_at m 0, fun k hk => ?_, rfl⟩
  rw [State.wrN_rd_ne (h := fun hc => hk (List.mem_singleton.2 hc)), State.rd_upd]
  rfl

theorem scrubRead_corrects (hp : s.groupPowered m = true) (hl : s.byteLost m addr = false) (ha : addr = tget (fun _ => 0) s.integ.scrubAt m) :
    Completes (.scrubRead m addr 1 false owner lost) s (fun t =>
      t.rdN (Obj.corrections m) = (s.rdN (Obj.corrections m) + 1) % 2 ^ 64 ∧
      t.rdN (Obj.uncorrectable m) = s.rdN (Obj.uncorrectable m) ∧ tget (fun _ => 0) t.integ.scrubAt m = addr + 1) := by
  have hexec := exec_scrubRead (o := 1) (owner := owner) (lost := lost) hp ha
  rw [memRead_corrected hp hl] at hexec
  have hmends := mends_corrected m.isLt s addr
  have hkeys : ¬ MendKey (Obj.corrections m) ∧ ¬ MendKey (Obj.uncorrectable m) ∧ Obj.uncorrectable m ≠ Obj.corrections m := by
    simp only [MendKey, Obj.corrections, Obj.uncorrectable, objKey]
    omega
  obtain ⟨h1, h2, hne⟩ := hkeys
  refine ⟨_, hexec, ((State.rdN_upd ..).trans (hmends.rdN h1)).trans (State.inc_rdN_self ..),
    ((State.rdN_upd ..).trans (hmends.rdN h2)).trans (State.inc_rdN_ne (h := hne) ..), State.scrubMark_at ..⟩

theorem State.loseByte_lost (s : State) (m addr : Nat) : (s.loseByte m addr).byteLost m addr = true ∧ (s.loseByte m addr).regs = s.regs := by
  unfold State.loseByte
  split
  · next h => exact ⟨h, rfl⟩
  · exact ⟨by simp [State.byteLost], rfl⟩

theorem State.memConsequence_spec (s : State) (m owner : Nat) (lost : List Nat) : (s.memConsequence m owner lost).regs = s.regs ∧
    (s.memConsequence m owner lost).integ.lostBytes = s.integ.lostBytes ∧
    (m = 21 → owner ∈ (s.memConsequence m owner lost).integ.logBad) := by
  unfold State.memConsequence
  split
  · exact ⟨rfl, rfl, by omega⟩
  · split
    · exact ⟨rfl, rfl, by omega⟩
    · split
      · exact ⟨rfl, rfl, by omega⟩
      · split
        · exact ⟨rfl, rfl, fun _ => List.mem_append_right _ (List.mem_singleton.2 rfl)⟩
        · exact ⟨rfl, rfl, by omega⟩

theorem scrubRead_loses (hp : s.groupPowered m = true) (ha : addr = tget (fun _ => 0) s.integ.scrubAt m)
    (h : o = 2 ∨ (s.byteLost m addr = true ∧ m ≠ 21)) :
    Completes (.scrubRead m addr o false owner lost) s (fun t =>
      t.rdN (Obj.uncorrectable m) = (s.rdN (Obj.uncorrectable m) + 1) % 2 ^ 64 ∧ KeepsRegs [Obj.uncorrectable m] s t ∧
      t.byteLost m addr = true ∧ tget (fun _ => 0) t.integ.scrubAt m = addr + 1 ∧ (m = 21 → owner ∈ t.integ.logBad)) := by
  have hexec := exec_scrubRead (o := o) (owner := owner) (lost := lost) hp ha
  rw [memRead_lost hp h] at hexec
  obtain ⟨hlost, hregs⟩ := s.loseByte_lost m addr
  generalize s.loseByte m addr = a at *
  have hunc (k : Nat) : ((a.uncorrectable m k).regs = (a.inc (Obj.uncorrectable m)).regs) ∧ (a.uncorrectable m k).integ = a.integ := by
    unfold State.uncorrectable State.raiseLimitedFor
    rw [State.raiseLimitedItem_eq]
    exact ⟨rfl, rfl⟩
  obtain ⟨hr1, hi1⟩ := hunc (if m.val = 20 then owner / 256 else addr)
  generalize a.uncorrectable m _ = b at *
  obtain ⟨hr2, hi2, hlog⟩ := b.memConsequence_spec m owner lost
  generalize b.memConsequence m owner lost = c at *
  have hrd (k : Nat) : (c.scrubMark m (addr + 1)).rd k = (a.inc (Obj.uncorrectable m)).rd k :=
    congrArg (fun x => tget objDefault x k) (hr2.trans hr1)
  have hard (k : Nat) : a.rd k = s.rd k := congrArg (fun x => tget objDefault x k) hregs
  refine ⟨_, hexec, ?_, fun k hk => ?_, ?_, State.scrubMark_at .., fun hm => hlog (congrArg Fin.val hm)⟩
  · refine (congrArg Int.toNat (hrd _)).trans ((State.inc_rdN_self ..).trans ?_)
    rw [State.rdN, hard] <;> rfl
  · exact ((hrd k).trans (State.wrN_rd_ne (h := fun hc => hk (List.mem_singleton.2 hc)) ..)).trans (hard k)
  · show c.integ.lostBytes.contains (m.val, addr) = true
    rw [hi2, hi1]
    exact hlost

theorem scrubRead_noEffect {last : Bool} (h : s.groupPowered m = false ∨ addr ≠ tget (fun _ => 0) s.integ.scrubAt m) :
    NoEffect (.scrubRead m addr o last owner lost) s :=
  if_pos (h.imp_left fun h => by simp [h])

end

/-! #### The rake's order (R465) -/

/-- A rake place before or at another. -/
def PlaceLe (k q : Nat × Nat) : Prop := k.1 < q.1 ∨ (k.1 = q.1 ∧ k.2 ≤ q.2)

theorem rakeNext_mem {ports : List (Nat × Nat)} {k q : Nat × Nat} (h : rakeNext ports k = some q) :
    (∃ c, (q.1, c) ∈ ports ∧ q.2 < c) ∧ PlaceLe k q := by
  induction ports with
  | nil => exact absurd h (by simp [rakeNext])
  | cons x ports ih =>
    obtain ⟨p, n⟩ := x
    rw [rakeNext] at h
    split at h
    · next hk =>
      obtain rfl := Option.some.inj h
      exact ⟨⟨n, hk.1 ▸ List.mem_cons_self, hk.2⟩, .inr ⟨rfl, le_rfl⟩⟩
    · split at h
      · next hk =>
        obtain rfl := Option.some.inj h
        exact ⟨⟨n, List.mem_cons_self, hk.2⟩, .inl hk.1⟩
      · obtain ⟨⟨c, hc, hlt⟩, hle⟩ := ih h
        exact ⟨⟨c, List.mem_cons_of_mem _ hc, hlt⟩, hle⟩

theorem rakeNext_least {ports : List (Nat × Nat)} {k q x : Nat × Nat} {m : Nat} (hp : ports.Pairwise (fun x y => x.1 < y.1))
    (h : rakeNext ports k = some q) (hx : x ∈ ports) (hm : m < x.2) (hk : PlaceLe k (x.1, m)) : PlaceLe q (x.1, m) := by
  induction ports with
  | nil => exact absurd hx (by simp)
  | cons y ports ih =>
    obtain ⟨p, n⟩ := y
    obtain ⟨hfirst, hrest⟩ := List.pairwise_cons.1 hp
    have hpx : x = (p, n) ∨ p < x.1 := (List.mem_cons.1 hx).imp_right (hfirst x)
    rw [rakeNext] at h
    split at h
    · obtain rfl := Option.some.inj h
      exact hk
    · split at h
      · obtain rfl := Option.some.inj h
        obtain rfl | hlt := hpx
        · exact .inr ⟨rfl, Nat.zero_le _⟩
        · exact .inl hlt
      · next h1 h2 =>
        obtain rfl | hmem := List.mem_cons.1 hx
        · unfold PlaceLe at hk
          dsimp only at hk hm
          omega
        · exact ih hrest h hmem

/-! #### What the rake reads (R466) -/

theorem wordCheck_lt (gen st : Nat) (hdr : List Byte) : wordCheck gen st hdr < 4096 := Nat.mod_lt _ (by decide)

/-- A slot read without a fault is its own word, and is not bad. -/
theorem Slot.read_quiet (x : Slot) (h : x.st < 4) : x.read [] = ⟨0, slotWord x.gen x.st (x.cellBytes.take 4), false⟩ := by
  have hzero : beNat ((List.range 4).map fun _ => (0#8 : Byte)) = 0 := by decide
  have hcheck := wordCheck_lt x.gen x.st (x.cellBytes.take 4)
  have hfields : bitsOf (slotWord x.gen x.st (x.cellBytes.take 4)) 15 12 = x.st ∧
      slotWord x.gen x.st (x.cellBytes.take 4) / 65536 = x.gen ∧
      bitsOf (slotWord x.gen x.st (x.cellBytes.take 4)) 11 0 = wordCheck x.gen x.st (x.cellBytes.take 4) := by
    unfold slotWord bitsOf
    generalize wordCheck _ _ _ = c at *
    omega
  obtain ⟨hst, hgen, hlow⟩ := hfields
  have hword : slotWord x.gen x.st (x.cellBytes.take 4) ^^^ beNat ((List.range 4).map fun _ => (0#8 : Byte)) =
      slotWord x.gen x.st (x.cellBytes.take 4) := by rw [hzero, Nat.xor_zero]
  unfold Slot.read
  simp only [List.find?_nil, Option.map_none, Option.getD_none, bne_self_eq_false, List.filter_false, List.length_nil, hword, hst, hgen,
    hlow]
  simp [h]

theorem Slot.read_bad (x : Slot) (noise : List (Nat × Byte)) (h : 6 < (x.read noise).errs ∨ 4 ≤ bitsOf (x.read noise).word 15 12 ∨
    bitsOf (x.read noise).word 11 0 ≠
      wordCheck ((x.read noise).word / 65536) (bitsOf (x.read noise).word 15 12) (x.cellBytes.take 4)) :
    (x.read noise).bad = true := by
  have hbad : (x.read noise).bad = (decide (6 < (x.read noise).errs) || bitsOf (x.read noise).word 11 0 !=
      wordCheck ((x.read noise).word / 65536) (bitsOf (x.read noise).word 15 12) (x.cellBytes.take 4) ||
      decide (4 ≤ bitsOf (x.read noise).word 15 12)) := rfl
  rw [hbad, Bool.or_eq_true, Bool.or_eq_true, decide_eq_true_eq, bne_iff_ne, decide_eq_true_eq]
  obtain h | h | h := h
  · exact .inl (.inl h)
  · exact .inr h
  · exact .inl (.inr h)

/-! #### The rake's steps -/

/-- The rake's place after the next slot. -/
def State.raked (s : State) : State :=
  { s with integ.rakeAt := s.integ.rakeAt + 1,
           integ.rakePlace := (s.rakeSlot.map (fun (q : Nat × Nat) => (q.1, q.2 + 1))).getD s.integ.rakePlace }

/-- What the rake does with a slot that it has read. -/
def State.slotRaked (s : State) (noise : List (Nat × Byte)) (gen : Nat) : Option (Nat × Nat) → State
  | none => s
  | some (p, n) =>
    if (s.bport p).retired.contains (n / 4096) ∨ (s.slot (slotBase * p + n)).st = 3 then s
    else if ((s.slot (slotBase * p + n)).read noise).bad then (s.slotBad (slotBase * p + n)).inc Obj.rakePoisoned
    else if ((s.slot (slotBase * p + n)).read noise).errs = 0 then s
    else (if gen ≠ (s.slot (slotBase * p + n)).gen then s.inc Obj.rakeWritebacksDropped else s.inc Obj.rakeCorrected).slotCorrected p n

/-- The end of a pass. -/
def State.rakeEnd (s : State) : State :=
  (({ s with integ.laps := tset (fun _ => (0, 0)) s.integ.laps 32 ((tget (fun _ => (0, 0)) s.integ.laps 32 : Nat × Nat).1 + 1, s.core.tick)
    } : State).wrN Obj.rakeLapTicks (s.core.tick - s.rdN (Obj.opStartTick 8))).opDone 8

/-- The pass ends where no slot is left. -/
def State.rakePassed (s : State) : State := if s.rakeSlot.isNone then s.rakeEnd else s

theorem State.next_rakePassed (s : State) : (.next s.rakePassed : Host.Outcome State Fault Refusal) =
    if s.rakeSlot.isNone then .next s.rakeEnd else .next s := apply_ite ..

/-- The rake's progress. -/
def State.rakeAdvance (s : State) (at_ : Nat) : State := s.opAdvance 8 (min (s.rdN (Obj.opPositionEnd 8)) (at_ + 1))

theorem exec_rakeRead {noise : List (Nat × Byte)} {gen : Nat} (h : s.opRunning 8 = true) :
    exec (.rakeRead noise gen) s = .next ((s.raked.slotRaked noise gen s.rakeSlot).rakeAdvance s.integ.rakeAt).rakePassed := by
  show execRakeRead noise gen s = _
  unfold execRakeRead State.raked
  rw [if_neg (by simp [h]), State.next_rakePassed]
  cases s.rakeSlot with
  | none => rfl
  | some q => rfl

theorem rakeRead_noEffect {noise : List (Nat × Byte)} {gen : Nat} (h : s.opRunning 8 = false) : NoEffect (.rakeRead noise gen) s :=
  if_pos (by simp [h])

/-- The registers of the rake's record. -/
def rakeKeys : List Nat := [Obj.opPosition 8, Obj.opPercent 8, Obj.opState 8, Obj.rakeLapTicks]

theorem State.rakeEnds_keeps (w : State) (at_ : Nat) : (w.rakeAdvance at_).rakePassed.basin = w.basin ∧
    (w.rakeAdvance at_).rakePassed.integ.rakeAt = w.integ.rakeAt ∧ KeepsRegs rakeKeys w (w.rakeAdvance at_).rakePassed := by
  unfold State.rakeAdvance
  obtain ⟨⟨x, hx⟩, hkeep⟩ := w.opAdvance_spec 8 (min (w.rdN (Obj.opPositionEnd 8)) (at_ + 1))
  generalize w.opAdvance 8 _ = a at *
  have ha : KeepsRegs rakeKeys w a := fun k hk => hkeep k fun hc => hk (by
    simp only [rakeKeys, List.mem_cons, List.not_mem_nil, or_false] at hc ⊢
    exact hc.imp_right .inl)
  have hb : a.basin = w.basin ∧ a.integ.rakeAt = w.integ.rakeAt := by rw [hx]; exact ⟨rfl, rfl⟩
  unfold State.rakePassed
  split
  · refine ⟨hb.1, hb.2, ha.trans ?_⟩
    unfold State.rakeEnd State.opDone
    simp [rakeKeys]
  · exact ⟨hb.1, hb.2, ha⟩

theorem State.slot_of_slots (h : t.basin.slots = s.basin.slots) (k : Nat) : t.slot k = s.slot k := by
  unfold State.slot
  rw [h]

/-- A slot with at most six changed bytes is corrected, and written back where it was not written since (R466). -/
theorem rakeRead_corrects {noise : List (Nat × Byte)} {gen p n : Nat} {rd : SlotRead} (hop : s.opRunning 8 = true) (hp : p < 8)
    (hslot : s.rakeSlot = some (p, n)) (hret : n / 4096 ∉ (s.bport p).retired) (hst : (s.slot (slotBase * p + n)).st ≠ 3)
    (hrd : (s.slot (slotBase * p + n)).read noise = rd) (hbad : rd.bad = false) (herr : 0 < rd.errs) :
    Completes (.rakeRead noise gen) s (fun t => t.rdN (Obj.correctedSlots p) = (s.rdN (Obj.correctedSlots p) + 1) % 2 ^ 64 ∧
      (let key := if gen = (s.slot (slotBase * p + n)).gen then Obj.rakeCorrected else Obj.rakeWritebacksDropped
       let other := if gen = (s.slot (slotBase * p + n)).gen then Obj.rakeWritebacksDropped else Obj.rakeCorrected
       t.rdN key = (s.rdN key + 1) % 2 ^ 64 ∧ t.rdN other = s.rdN other) ∧ t.basin.slots = s.basin.slots ∧
      t.integ.rakeAt = s.integ.rakeAt + 1) := by
  have hexec := exec_rakeRead (noise := noise) (gen := gen) hop
  have hraked : s.raked.slotRaked noise gen s.rakeSlot = (s.raked.inc (if gen = (s.slot (slotBase * p + n)).gen then Obj.rakeCorrected
      else Obj.rakeWritebacksDropped)).slotCorrected p n := by
    have hread : s.raked.slot (slotBase * p + n) = s.slot (slotBase * p + n) := rfl
    have hport : s.raked.bport p = s.bport p := rfl
    rw [hslot]
    unfold State.slotRaked
    dsimp only
    rw [hread, hport, hrd, if_neg (by simp [hret, hst]), if_neg (by simp [hbad]), if_neg (by omega)]
    by_cases hg : gen = (s.slot (slotBase * p + n)).gen
    · rw [if_neg (not_not.2 hg), if_pos hg]
    · rw [if_pos hg, if_neg hg]
  rw [hraked] at hexec
  dsimp only
  generalize hkey : (if gen = (s.slot (slotBase * p + n)).gen then Obj.rakeCorrected else Obj.rakeWritebacksDropped) = key at *
  generalize hother : (if gen = (s.slot (slotBase * p + n)).gen then Obj.rakeWritebacksDropped else Obj.rakeCorrected) = other at *
  have hkeys : (key = Obj.rakeCorrected ∧ other = Obj.rakeWritebacksDropped) ∨ (key = Obj.rakeWritebacksDropped ∧ other = Obj.rakeCorrected) := by
    split at hkey
    · next h => exact .inl ⟨hkey.symm, (if_pos h).symm.trans hother |>.symm⟩
    · next h => exact .inr ⟨hkey.symm, (if_neg h).symm.trans hother |>.symm⟩
  have hfacts : key ∉ rakeKeys ∧ other ∉ rakeKeys ∧ Obj.correctedSlots p ∉ rakeKeys ∧ ¬ MendKey key ∧ ¬ MendKey other ∧
      ¬ MendKey (Obj.correctedSlots p) ∧ key ≠ other ∧ key ≠ Obj.correctedSlots p ∧ other ≠ Obj.correctedSlots p := by
    simp only [rakeKeys, MendKey, List.mem_cons, List.not_mem_nil, or_false, Obj.correctedSlots, Obj.rakeCorrected, Obj.rakeWritebacksDropped,
      Obj.opPosition, Obj.opPercent, Obj.opState, Obj.rakeLapTicks, objKey] at hkeys ⊢
    omega
  obtain ⟨hk1, ho1, hc1, hk2, ho2, hc2, hne, hkc, hoc⟩ := hfacts
  have hmends := mends_slotCorrected (s.raked.inc key) p n
  generalize (s.raked.inc key).slotCorrected p n = w at *
  obtain ⟨hbasin, hat, hkeep⟩ := w.rakeEnds_keeps s.integ.rakeAt
  have hraw (k : Nat) : s.raked.rdN k = s.rdN k := State.rdN_upd ..
  refine ⟨_, hexec, ?_, ⟨?_, ?_⟩, ?_, ?_⟩
  · rw [State.rdN, hkeep _ hc1, ← State.rdN, hmends.rdN hc2, State.inc_rdN_self, State.inc_rdN_ne (h := hkc.symm), hraw]
  · rw [State.rdN, hkeep _ hk1, ← State.rdN, hmends.rdN hk2, State.inc_rdN_ne (h := hkc), State.inc_rdN_self, hraw]
  · rw [State.rdN, hkeep _ ho1, ← State.rdN, hmends.rdN ho2, State.inc_rdN_ne (h := hoc), State.inc_rdN_ne (h := hne.symm), hraw]
  · rw [hbasin, hmends.slots] <;> rfl
  · rw [hat, hmends.rake] <;> rfl

/-- What becomes of a slot that cannot be corrected (R467). -/
theorem State.slotBad_spec {p n : Nat} (hp : p < 8) (hn : n < slotBase) (hflows : s.durableFlows = []) :
    ((s.slotBad (slotBase * p + n)).slot (slotBase * p + n)).st = 3 ∧
    ((s.slotBad (slotBase * p + n)).slot (slotBase * p + n)).gen = genNext (s.slot (slotBase * p + n)).gen ∧
    (s.slotBad (slotBase * p + n)).integ.rakeAt = s.integ.rakeAt ∧
    (s.slotBad (slotBase * p + n)).rdN (Obj.poisonedSlots p) = (s.rdN (Obj.poisonedSlots p) + 1) % 2 ^ 64 ∧
    (s.slotBad (slotBase * p + n)).rdN Obj.rakePoisoned = s.rdN Obj.rakePoisoned := by
  have hport : slotPort (slotBase * p + n) = p := by
    unfold slotPort
    rw [Nat.mul_add_div (by decide), Nat.div_eq_of_lt hn, Nat.add_zero]
  generalize slotBase * p + n = k at *
  have hlost : Mends (s.poison k) (s.slotLost k) := mends_retirePage _ _ _
  have hkey : Obj.poisonedSlots p < 0x342000 ∨ 0x344000 ≤ Obj.poisonedSlots p := .inr (by simp only [Obj.poisonedSlots, objKey]; omega)
  have hpoison : s.poison k = (s.setSlot k { s.slot k with st := 3, gen := genNext (s.slot k).gen }).inc (Obj.poisonedSlots p) := by
    rw [← hport] <;> rfl
  have hset : FlowsStay s (s.setSlot k { s.slot k with st := 3, gen := genNext (s.slot k).gen }) := FlowsStay.refl.regs rfl
  have hstay : FlowsStay s (s.poison k) := by
    rw [hpoison]
    exact hset.wr _ hkey
  have hbad : s.slotBad k = s.slotLost k := by
    unfold State.slotBad
    dsimp only
    rw [(hstay.trans hlost.flows).durable hflows] <;> rfl
  have hslot : (s.poison k).slot k = { s.slot k with st := 3, gen := genNext (s.slot k).gen } := by
    rw [hpoison]
    exact tget_tset_self (fun _ => ({} : Slot)) s.basin.slots k _
  have hkeys : ¬ MendKey (Obj.poisonedSlots p) ∧ ¬ MendKey Obj.rakePoisoned ∧ Obj.rakePoisoned ≠ Obj.poisonedSlots p := by
    simp only [MendKey, Obj.poisonedSlots, Obj.rakePoisoned, objKey]
    refine ⟨?_, ?_, ?_⟩
    · omega
    · omega
    · omega
  have hraw (j : Nat) : (s.setSlot k { s.slot k with st := 3, gen := genNext (s.slot k).gen }).rdN j = s.rdN j := rfl
  rw [hbad, State.slot_of_slots hlost.slots, hslot, hlost.rake, hlost.rdN hkeys.1, hlost.rdN hkeys.2.1, hpoison, State.inc_rdN_self,
    State.inc_rdN_ne (h := hkeys.2.2), hraw, hraw]
  exact ⟨rfl, rfl, rfl, rfl, rfl⟩

theorem rakeRead_poisons {noise : List (Nat × Byte)} {gen p n : Nat} {rd : SlotRead} (hop : s.opRunning 8 = true) (hp : p < 8) (hn : n < slotBase)
    (hslot : s.rakeSlot = some (p, n)) (hret : n / 4096 ∉ (s.bport p).retired) (hst : (s.slot (slotBase * p + n)).st ≠ 3)
    (hrd : (s.slot (slotBase * p + n)).read noise = rd) (hbad : rd.bad = true) (hflows : s.durableFlows = []) :
    Completes (.rakeRead noise gen) s (fun t => (t.slot (slotBase * p + n)).st = 3 ∧
      (t.slot (slotBase * p + n)).gen = genNext (s.slot (slotBase * p + n)).gen ∧
      t.rdN (Obj.poisonedSlots p) = (s.rdN (Obj.poisonedSlots p) + 1) % 2 ^ 64 ∧
      t.rdN Obj.rakePoisoned = (s.rdN Obj.rakePoisoned + 1) % 2 ^ 64 ∧ t.integ.rakeAt = s.integ.rakeAt + 1) := by
  have hexec := exec_rakeRead (noise := noise) (gen := gen) hop
  have hraked : s.raked.slotRaked noise gen s.rakeSlot = (s.raked.slotBad (slotBase * p + n)).inc Obj.rakePoisoned := by
    have hread : s.raked.slot (slotBase * p + n) = s.slot (slotBase * p + n) := rfl
    have hport : s.raked.bport p = s.bport p := rfl
    rw [hslot]
    unfold State.slotRaked
    dsimp only
    rw [hread, hport, hrd, if_neg (by simp [hret, hst]), if_pos hbad]
  obtain ⟨hst', hgen, hat', hpoisoned, hraked'⟩ := State.slotBad_spec (s := s.raked) hp hn hflows
  rw [hraked] at hexec
  generalize s.raked.slotBad (slotBase * p + n) = w at *
  obtain ⟨hbasin, hat, hkeep⟩ := (w.inc Obj.rakePoisoned).rakeEnds_keeps s.integ.rakeAt
  have hkeys : Obj.poisonedSlots p ∉ rakeKeys ∧ Obj.rakePoisoned ∉ rakeKeys ∧ Obj.poisonedSlots p ≠ Obj.rakePoisoned := by
    simp only [rakeKeys, List.mem_cons, List.not_mem_nil, or_false, Obj.poisonedSlots, Obj.rakePoisoned,
      Obj.opPosition, Obj.opPercent, Obj.opState, Obj.rakeLapTicks, objKey]
    omega
  have hraw (k : Nat) : s.raked.rdN k = s.rdN k := State.rdN_upd ..
  have hslots := State.slot_of_slots (congrArg BasinSt.slots hbasin) (slotBase * p + n)
  refine ⟨_, hexec, ?_, ?_, ?_, ?_, ?_⟩
  · rw [hslots]
    exact hst'
  · rw [hslots]
    exact hgen
  · rw [State.rdN, hkeep _ hkeys.1, ← State.rdN, State.inc_rdN_ne (h := hkeys.2.2), hpoisoned, hraw]
  · rw [State.rdN, hkeep _ hkeys.2.1, ← State.rdN, State.inc_rdN_self, hraked', hraw]
  · exact hat.trans hat'

/-! #### The rake's progress and the end of its pass (R465) -/

theorem tget_mem_or {α : Type} {d : Nat → α} {l : List (Nat × α)} {k : Nat} : (k, tget d l k) ∈ l ∨ tget d l k = d k := by
  induction l with
  | nil => exact .inr rfl
  | cons q l ih =>
    obtain ⟨j, v⟩ := q
    rw [tget]
    split
    · next h => exact .inl (h ▸ List.mem_cons_self)
    · exact ih.imp_left (List.mem_cons_of_mem _)

theorem State.slot_quiet (h : ∀ q ∈ s.basin.slots, q.2.st < 4) (k : Nat) : (s.slot k).st < 4 := by
  obtain hmem | hdef := tget_mem_or (d := fun _ => ({} : Slot)) (l := s.basin.slots) (k := k)
  · exact h _ hmem
  · exact (congrArg Slot.st hdef).trans_lt (by decide)

/-- A read without a fault changes no slot. -/
theorem State.slotRaked_quiet (h : ∀ q ∈ s.basin.slots, q.2.st < 4) (gen : Nat) (q : Option (Nat × Nat)) : s.slotRaked [] gen q = s := by
  cases q with
  | none => rfl
  | some q =>
    obtain ⟨p, n⟩ := q
    unfold State.slotRaked
    dsimp only
    rw [Slot.read_quiet _ (s.slot_quiet h _)]
    simp

/-- The ports in the rake's order, each with its number of slots. -/
theorem State.rakePorts_congr (h : KeepsRegs [Obj.opPosition 8, Obj.opPercent 8] s t) :
    t.upPorts.map (fun p => (p, t.rdN (Obj.slots p))) = s.upPorts.map (fun p => (p, s.rdN (Obj.slots p))) := by
  have hstate (p : Nat) : t.rdN (Obj.basinPortState p) = s.rdN (Obj.basinPortState p) := congrArg Int.toNat (h _ (by
    simp only [List.mem_cons, List.not_mem_nil, or_false, Obj.basinPortState, Obj.opPosition, Obj.opPercent, objKey]
    omega))
  have hslots (p : Nat) : t.rdN (Obj.slots p) = s.rdN (Obj.slots p) := congrArg Int.toNat (h _ (by
    simp only [List.mem_cons, List.not_mem_nil, or_false, Obj.slots, Obj.opPosition, Obj.opPercent, objKey]
    omega))
  unfold State.upPorts
  simp only [hstate, hslots]

theorem State.rakeAdvance_spec (w : State) (at_ : Nat) : RegsOnly w (w.rakeAdvance at_) ∧
    KeepsRegs [Obj.opPosition 8, Obj.opPercent 8] w (w.rakeAdvance at_) := w.opAdvance_spec 8 _

theorem State.rakeSlot_rakeAdvance (w : State) (at_ : Nat) : (w.rakeAdvance at_).rakeSlot = w.rakeSlot := by
  obtain ⟨⟨x, hx⟩, hkeep⟩ := w.rakeAdvance_spec at_
  have hplace : (w.rakeAdvance at_).integ = w.integ := by rw [hx]
  unfold State.rakeSlot
  rw [State.rakePorts_congr hkeep, hplace]

theorem State.rakeSlot_raked (s : State) : s.raked.rakeSlot = rakeNext (s.upPorts.map (fun p => (p, s.rdN (Obj.slots p))))
    ((s.rakeSlot.map (fun (q : Nat × Nat) => (q.1, q.2 + 1))).getD s.integ.rakePlace) := rfl

theorem rakeRead_goesOn {gen p n : Nat} (hop : s.opRunning 8 = true) (hslot : s.rakeSlot = some (p, n))
    (hnext : (rakeNext (s.upPorts.map (fun p => (p, s.rdN (Obj.slots p)))) (p, n + 1)).isSome = true)
    (hend : s.integ.rakeAt + 1 < s.rdN (Obj.opPositionEnd 8)) (hquiet : ∀ q ∈ s.basin.slots, q.2.st < 4) :
    Completes (.rakeRead [] gen) s (fun t =>
      t.integ = { s.integ with rakeAt := s.integ.rakeAt + 1, rakePlace := (p, n + 1) } ∧
      t.rdN (Obj.opPosition 8) = max (s.rdN (Obj.opPosition 8)) (s.integ.rakeAt + 1) ∧ t.opRunning 8 = true ∧
      KeepsRegs [Obj.opPosition 8, Obj.opPercent 8] s t ∧ t.basin = s.basin ∧ t.core = s.core) := by
  have hexec := exec_rakeRead (noise := []) (gen := gen) hop
  have hraw (k : Nat) : s.raked.rd k = s.rd k := State.rd_upd ..
  have hslotAfter : (s.raked.rakeAdvance s.integ.rakeAt).rakeSlot.isNone = false := by
    rw [State.rakeSlot_rakeAdvance, State.rakeSlot_raked, hslot]
    simpa using hnext
  rw [State.slotRaked_quiet (s := s.raked) hquiet, State.rakePassed, hslotAfter, if_neg Bool.false_ne_true] at hexec
  have hinteg : s.raked.integ = { s.integ with rakeAt := s.integ.rakeAt + 1, rakePlace := (p, n + 1) } := by
    unfold State.raked
    rw [hslot] <;> rfl
  have hpos : (s.raked.rakeAdvance s.integ.rakeAt).rdN (Obj.opPosition 8) = max (s.rdN (Obj.opPosition 8)) (s.integ.rakeAt + 1) := by
    have hmin : min (s.raked.rdN (Obj.opPositionEnd 8)) (s.integ.rakeAt + 1) = s.integ.rakeAt + 1 := Nat.min_eq_right (le_of_lt hend)
    have hrun : s.raked.opRunning 8 = true := hop
    unfold State.rakeAdvance State.opAdvance
    rw [hmin, if_pos hrun]
    dsimp only
    rw [State.wrN_rdN_ne (h := by decide), State.wrN_rdN_self] <;> rfl
  obtain ⟨⟨x, hx⟩, hkeep⟩ := s.raked.rakeAdvance_spec s.integ.rakeAt
  generalize s.raked.rakeAdvance s.integ.rakeAt = w at *
  have hkeeps : KeepsRegs [Obj.opPosition 8, Obj.opPercent 8] s w := fun k hk => (hkeep k hk).trans (hraw k)
  refine ⟨w, hexec, ?_, hpos, ?_, hkeeps, ?_, ?_⟩
  · rw [hx]
    exact hinteg
  · unfold State.opRunning State.rdN at hop ⊢
    rw [hkeeps _ (by decide)]
    exact hop
  · rw [hx] <;> rfl
  · rw [hx] <;> rfl

theorem State.rakeEnd_spec (w : State) : w.rakeEnd.rdN (Obj.opState 8) = 2 ∧ w.rakeEnd.rdN (Obj.opPercent 8) = 10000 ∧
    w.rakeEnd.rdN Obj.rakeLapTicks = w.core.tick - w.rdN (Obj.opStartTick 8) ∧
    w.rakeEnd.core = { w.core with inFlight := w.core.inFlight ++ [⟨0x4005, 0x1188, 0, w.core.tick, w.life⟩] } := by
  have hraise (v : State) (a b c k : Nat) : (v.raise a b c).rdN k = v.rdN k := rfl
  unfold State.rakeEnd State.opDone
  refine ⟨?_, ?_, ?_, rfl⟩
  · rw [hraise, State.wrN_rdN_self]
  · rw [hraise, State.wrN_rdN_ne (h := by decide), State.wrN_rdN_self]
  · rw [hraise, State.wrN_rdN_ne (h := by decide), State.wrN_rdN_ne (h := by decide), State.wrN_rdN_self]

theorem rakeRead_ends {gen : Nat} (hop : s.opRunning 8 = true) (hquiet : ∀ q ∈ s.basin.slots, q.2.st < 4)
    (hlast : ∀ q ∈ s.rakeSlot, rakeNext (s.upPorts.map (fun p => (p, s.rdN (Obj.slots p)))) (q.1, q.2 + 1) = none) :
    Completes (.rakeRead [] gen) s (fun t => t.rdN (Obj.opState 8) = 2 ∧ t.rdN (Obj.opPercent 8) = 10000 ∧
      t.rdN Obj.rakeLapTicks = s.core.tick - s.rdN (Obj.opStartTick 8) ∧
      t.core = { s.core with inFlight := s.core.inFlight ++ [⟨0x4005, 0x1188, 0, s.core.tick, s.life⟩] }) := by
  have hexec := exec_rakeRead (noise := []) (gen := gen) hop
  have hraw (k : Nat) : s.raked.rd k = s.rd k := State.rd_upd ..
  have hslotAfter : (s.raked.rakeAdvance s.integ.rakeAt).rakeSlot.isNone = true := by
    rw [State.rakeSlot_rakeAdvance, State.rakeSlot_raked]
    cases hslot : s.rakeSlot with
    | none => exact Option.isNone_iff_eq_none.2 hslot
    | some q => exact Option.isNone_iff_eq_none.2 (hlast q (by rw [hslot]; exact rfl))
  rw [State.slotRaked_quiet (s := s.raked) hquiet, State.rakePassed, if_pos hslotAfter] at hexec
  obtain ⟨⟨x, hx⟩, hkeep⟩ := s.raked.rakeAdvance_spec s.integ.rakeAt
  generalize s.raked.rakeAdvance s.integ.rakeAt = w at *
  have hstart : w.rdN (Obj.opStartTick 8) = s.rdN (Obj.opStartTick 8) := congrArg Int.toNat ((hkeep _ (by decide)).trans (hraw _))
  have hcore : w.core = s.core ∧ w.life = s.life := by rw [hx]; exact ⟨rfl, rfl⟩
  obtain ⟨hdone, hpercent, hlap, hraised⟩ := w.rakeEnd_spec
  refine ⟨_, hexec, hdone, hpercent, ?_, ?_⟩
  · rw [hlap, hstart, hcore.1]
  · rw [hraised, hcore.1, hcore.2]

/-! #### Pages that are retired (R468) -/

/-- Only the basin differs, and its ports do not. -/
def MovesSlots (s t : State) : Prop := ∃ b, t = { s with basin := b } ∧ b.ports = s.basin.ports

theorem MovesSlots.trans (h : MovesSlots s t) (g : MovesSlots t u) : MovesSlots s u := by
  obtain ⟨x, rfl, hx⟩ := h
  obtain ⟨y, rfl, hy⟩ := g
  exact ⟨y, rfl, hy.trans hx⟩

theorem MovesSlots.each {α : Type} {f : State → α → State} (hf : ∀ u a, MovesSlots u (f u a)) (l : List α) (s : State) :
    MovesSlots s (s.each l f) :=
  State.each_ind (P := MovesSlots s) (fun t a h => h.trans (hf t a)) l ⟨_, rfl, rfl⟩

theorem movesSlots_movePage (s : State) (k v : Nat) : MovesSlots s (s.movePage k v) := by
  unfold State.movePage
  extract_lets base mine s1 _ s2
  have h1 : MovesSlots s s1 := by
    refine MovesSlots.each ?_ mine s
    exact fun _ _ => ⟨_, rfl, rfl⟩
  have h2 : MovesSlots s s2 := by
    simp only [s2]
    split
    · exact h1.trans ⟨_, rfl, rfl⟩
    · exact h1
  refine h2.trans (MovesSlots.each ?_ _ s2)
  exact fun _ _ => ⟨_, rfl, rfl⟩

/-- A page out of service, counted and announced. -/
def State.pageRetired (s : State) (p : Fin 8) (page : Nat) (w : Swap) : State :=
  let u := s.setBport p { (s.bport p) with retired := (s.bport p).retired ++ [page] }
  let u := (u.wrN Obj.retiredPages (u.rdN Obj.retiredPages + 1)).raise 0x8106 (0x3520 + p) page
  { u with integ.swaps := u.integ.swaps.erase w }

theorem State.pageRetired_count (s : State) (p : Fin 8) (page : Nat) (w : Swap) :
    (s.pageRetired p page w).rdN Obj.retiredPages = s.rdN Obj.retiredPages + 1 := by
  have hraise (v : State) (a b c k : Nat) : (v.raise a b c).rdN k = v.rdN k := rfl
  have hport (x : BasinPort) (k : Nat) : (s.setBport p x).rdN k = s.rdN k := rfl
  unfold State.pageRetired
  dsimp only
  rw [State.rdN_upd, hraise, State.wrN_rdN_self, hport]

theorem State.batchCheck_done (h : s.integ.swaps = []) : s.batchCheck.integ.swaps = [] ∧ s.batchCheck.basin = s.basin ∧
    s.batchCheck.rdN Obj.retiredPages = s.rdN Obj.retiredPages ∧ s.core.inFlight ⊆ s.batchCheck.core.inFlight := by
  unfold State.batchCheck
  split
  · exact ⟨h, rfl, rfl, fun _ h => h⟩
  · obtain ⟨⟨x, hx⟩, hkeep⟩ := s.opAdvance_spec 9 (s.rdN (Obj.opPositionEnd 9))
    extract_lets s1
    have h1 : s1.integ.swaps = [] ∧ s1.basin = s.basin ∧ s1.rdN Obj.retiredPages = s.rdN Obj.retiredPages ∧
        s.core.inFlight ⊆ s1.core.inFlight := by
      have hraise (v : State) (a b c k : Nat) : (v.raise a b c).rdN k = v.rdN k := rfl
      have hrd : (s.opAdvance 9 (s.rdN (Obj.opPositionEnd 9))).rdN Obj.retiredPages = s.rdN Obj.retiredPages :=
        congrArg Int.toNat (hkeep _ (by decide))
      simp only [s1, State.opDone]
      refine ⟨?_, ?_, ?_, ?_⟩
      · rw [hx]
        exact h
      · rw [hx] <;> rfl
      · rw [hraise, State.wrN_rdN_ne (h := by decide), State.wrN_rdN_ne (h := by decide), hrd]
      · rw [hx]
        exact List.subset_append_left _ _
    clear_value s1
    rw [h1.1]
    exact h1

theorem basinPageRetired_retires (p : Fin 8) {page v : Nat} {w : Swap} (hswaps : s.integ.swaps = [w]) (hkind : w.kind = 5)
    (hunit : w.unit = pageBase * p.val + page) (hvalid : w.valid.isSome = true) (hsucc : w.succ = some v) :
    Completes (.basinPageRetired p page) s (fun t => (t.bport p).retired = (s.bport p).retired ++ [page] ∧
      t.integ.swaps = [] ∧ t.rdN Obj.retiredPages = s.rdN Obj.retiredPages + 1 ∧
      ⟨0x8106, 0x3520 + p.val, page, s.core.tick, s.life⟩ ∈ t.core.inFlight) := by
  have hfind : s.integ.swaps.find? (fun w => w.kind == 5 && w.unit == pageBase * p.val + page && w.valid.isSome) = some w := by
    rw [hswaps]
    simp [hkind, hunit, hvalid]
  have hexec : exec (.basinPageRetired p page) s = .next ((s.movePage (pageBase * p.val + page) v).pageRetired p page w).batchCheck := by
    show execBasinPageRetired p page s = _
    unfold execBasinPageRetired
    dsimp only
    rw [hfind]
    dsimp only
    rw [hsucc] <;> rfl
  obtain ⟨b, hb, hports⟩ := movesSlots_movePage s (pageBase * p.val + page) v
  rw [hb] at hexec
  have hretired : ((State.pageRetired { s with basin := b } p page w).bport p).retired = (s.bport p).retired ++ [page] := by
    have hold : ({ s with basin := b } : State).bport p = s.bport p := by unfold State.bport; rw [← hports]
    rw [← hold]
    exact congrArg BasinPort.retired (tget_tset_self (fun _ => ({} : BasinPort)) b.ports p _)
  have hcount : (State.pageRetired { s with basin := b } p page w).rdN Obj.retiredPages = s.rdN Obj.retiredPages + 1 :=
    State.pageRetired_count ..
  have hevent : (⟨0x8106, 0x3520 + p.val, page, s.core.tick, s.life⟩ : Event) ∈
      (State.pageRetired { s with basin := b } p page w).core.inFlight := List.mem_append_right _ (List.mem_singleton.2 rfl)
  have hgone : (State.pageRetired { s with basin := b } p page w).integ.swaps = [] := by
    show s.integ.swaps.erase w = []
    rw [hswaps]
    simp
  generalize State.pageRetired { s with basin := b } p page w = a at *
  obtain ⟨hs, hbasin, hrd, hsub⟩ := State.batchCheck_done hgone
  refine ⟨_, hexec, ?_, hs, hrd.trans hcount, hsub hevent⟩
  have hport : a.batchCheck.bport p = a.bport p := by unfold State.bport; rw [hbasin]
  rw [hport, hretired]

theorem basinPageRetired_noEffect (p : Fin 8) {page : Nat} (h : ∀ w ∈ s.integ.swaps, w.kind = 5 → w.unit ≠ pageBase * p.val + page) :
    NoEffect (.basinPageRetired p page) s := by
  have hfind : s.integ.swaps.find? (fun w => w.kind == 5 && w.unit == pageBase * p.val + page && w.valid.isSome) = none :=
    List.find?_eq_none.2 fun w hw hc => by
      simp only [Bool.and_eq_true, beq_iff_eq] at hc
      exact h w hw hc.1.1 hc.1.2
  show execBasinPageRetired p page s = _
  unfold execBasinPageRetired
  dsimp only
  rw [hfind]

/-! #### Failures served in order (R471, R473) -/

/-- A swap that is asked for before the start-up's own commit joins the batch, and nothing is committed. -/
theorem State.requestSwap_early (w : Swap) (h : s.start.started = false) : (s.requestSwap w).integ.swaps = s.integ.swaps ++ [w] ∧
    (s.requestSwap w).integ.reported = s.integ.reported ∧ (s.requestSwap w).opRunning 9 = true ∧ (s.requestSwap w).core = s.core := by
  have hcommit (v : State) (hv : v.start.started = false) : v.requestCommit 3 false = v := if_pos (by simp [hv])
  have hrun (v : State) (k n : Nat) (hk : Obj.opState 9 ≠ k) : (v.wrN k n).opRunning 9 = v.opRunning 9 := by
    unfold State.opRunning
    rw [State.wrN_rdN_ne (h := hk)]
  unfold State.requestSwap
  extract_lets _ s1 begun _ s2
  have h1 : s1.integ.swaps = s.integ.swaps ++ [w] ∧ s1.integ.reported = s.integ.reported ∧ s1.core = s.core ∧ s1.start = s.start :=
    ⟨rfl, rfl, rfl, rfl⟩
  have hbegun : begun.opRunning 9 = true ∧ begun.integ = s1.integ ∧ begun.core = s1.core ∧ begun.start = s1.start := by
    refine ⟨?_, rfl, rfl, rfl⟩
    simp only [begun, State.opStart]
    rw [hrun _ _ _ (by decide), hrun _ _ _ (by decide), hrun _ _ _ (by decide), hrun _ _ _ (by decide)]
    exact beq_iff_eq.2 (State.wrN_rdN_self ..)
  clear_value begun s1
  obtain ⟨hswaps, hrep, hcore, hstart⟩ := h1
  obtain ⟨hb1, hb2, hb3, hb4⟩ := hbegun
  have h2 : s2.integ.swaps = s.integ.swaps ++ [w] ∧ s2.integ.reported = s.integ.reported ∧ s2.opRunning 9 = true ∧ s2.core = s.core ∧
      s2.start = s.start := by
    simp only [s2]
    split
    · next hop =>
      split
      · exact ⟨hswaps, hrep, (hrun _ _ _ (by decide)).trans hop, hcore, hstart⟩
      · exact ⟨hswaps, hrep, hop, hcore, hstart⟩
    · refine ⟨?_, ?_, hb1, hb3.trans hcore, hb4.trans hstart⟩
      · rw [← hswaps, ← hb2]
      · rw [← hrep, ← hb2]
  clear_value s2
  obtain ⟨hs1, hs2, hs3, hs4, hs5⟩ := h2
  rw [hcommit s2 (by rw [hs5]; exact h)]
  exact ⟨hs1, hs2, hs3, hs4⟩

/-- A spare that fails is retired alone. -/
theorem State.serveFailure_spare {x k : Nat} (hkind : unitKind x = some k) (hret : s.unitRetired x = false) (hspare : s.unitSpare x = true)
    (hswaps : s.integ.swaps = []) (hlate : s.integ.late = []) : s.serveFailure x false = s.requestSwap { kind := k, unit := x } := by
  unfold State.serveFailure
  rw [hkind]
  dsimp only
  rw [if_neg (by simp [hret, hswaps]), if_pos (by simp [hspare, hlate]), hswaps] <;> rfl

theorem stockpileFailure_spare {u k : Nat} {rest : List Nat} (hrep : s.integ.reported = u :: rest) (hkind : unitKind u = some k)
    (hret : s.unitRetired u = false) (hspare : s.unitSpare u = true) (hswaps : s.integ.swaps = []) (hlate : s.integ.late = [])
    (hstart : s.start.started = false) :
    Completes (.stockpileFailure none) s (fun t => t.integ.reported = rest ∧ t.integ.swaps = [{ kind := k, unit := u }] ∧
      t.opRunning 9 = true ∧ t.core = s.core) := by
  have hret' : State.unitRetired { s with integ.reported := rest } u = false := hret
  have hspare' : State.unitSpare { s with integ.reported := rest } u = true := hspare
  have hserve : State.serveFailure { s with integ.reported := rest } u false =
      State.requestSwap { s with integ.reported := rest } { kind := k, unit := u } :=
    State.serveFailure_spare hkind hret' hspare' hswaps hlate
  have hexec : exec (.stockpileFailure none) s = .next (State.requestSwap { s with integ.reported := rest } { kind := k, unit := u }) := by
    show execStockpileFailure none s = _
    unfold execStockpileFailure
    dsimp only
    rw [hrep]
    dsimp only
    rw [if_neg (by simp [hspare]), hserve]
  obtain ⟨h1, h2, h3, h4⟩ := State.requestSwap_early (s := { s with integ.reported := rest }) { kind := k, unit := u } hstart
  refine ⟨_, hexec, h2, h1.trans ?_, h3, h4⟩
  show s.integ.swaps ++ [({ kind := k, unit := u } : Swap)] = _
  rw [hswaps] <;> rfl

theorem stockpileFailure_noEffect (h : s.integ.reported = []) : NoEffect (.stockpileFailure none) s := by
  show execStockpileFailure none s = _
  unfold execStockpileFailure
  dsimp only
  rw [h]

theorem engineStateCopy_copies (c : Fin 12) {w : Swap} {n : Nat} (hswaps : s.integ.swaps = [w]) (hkind : w.kind = 3)
    (hunit : (w.unit - 0x1300) / 17 = c.val) (hvalid : w.valid = some n) (hn : n < s.core.tick) :
    Completes (.engineStateCopy c) s (fun t => t = { s with integ := { s.integ with swaps := [{ w with copied := true }] } }) := by
  refine ⟨_, rfl, ?_⟩
  have hif : w.kind = 3 ∧ (w.unit - 0x1300) / 17 = c.val ∧ w.valid.any (fun t => decide (t < s.core.tick)) = true :=
    ⟨hkind, hunit, by rw [hvalid]; exact decide_eq_true hn⟩
  rw [hswaps, List.map_singleton, if_pos hif]

/-- Settles O51. -/
theorem scrubRakeAndStockpileGoOn : Obligations.ScrubRakeAndStockpileGoOn := by
  unfold Obligations.ScrubRakeAndStockpileGoOn
  exact ⟨fun s m addr owner lost hp hl ha => scrubRead_lap hp hl ha,
    fun s m addr owner lost hp hl ha => scrubRead_corrects hp hl ha,
    fun s m addr owner o lost hp ha h => scrubRead_loses hp ha h,
    fun s m addr owner o last lost h => scrubRead_noEffect h,
    fun s gen p n hop hslot hnext hend hquiet => rakeRead_goesOn hop hslot hnext hend hquiet,
    fun ports k q _ h => rakeNext_mem h,
    fun ports k q x m hp h hx hm hk => rakeNext_least hp h hx hm hk,
    fun s noise gen p n rd hop hp hslot hret hst hrd hbad herr => rakeRead_corrects hop hp hslot hret hst hrd hbad herr,
    fun s noise gen p n rd hop hp hn hslot hret hst hrd hbad hf => rakeRead_poisons hop hp hn hslot hret hst hrd hbad hf,
    fun x h => x.read_quiet h,
    fun x noise h => x.read_bad noise h,
    fun s gen hop hquiet hlast => rakeRead_ends hop hquiet hlast,
    fun s noise gen h => rakeRead_noEffect h,
    fun s p page v w hs hk hu hv hsucc => basinPageRetired_retires p hs hk hu hv hsucc,
    fun s p page h => basinPageRetired_noEffect p h,
    fun s u k rest hr hk hret hsp hsw hl hst => stockpileFailure_spare hr hk hret hsp hsw hl hst,
    fun s h => stockpileFailure_noEffect h,
    fun s c w n hs hk hu hv hn => engineStateCopy_copies c hs hk hu hv hn⟩

end

end Sys2Proof.Machine
end

section
/-! Client frames: checked, classified and cut (R255–R260, R281). -/
open Sys2Proof Sys2Proof.Machine
namespace Sys2Proof.Machine

section
variable {s t u w : State} {b : Fin 64} {f : List Byte} {e : Bool} {ph dr : Nat}

/-! #### A frame that is taken and counted -/

/-- What a state after a client frame's count still shows: only the port's counters and its ingress differ. -/
structure FrameSeen (b : Fin 64) (s w : State) : Prop where
  shape : ∃ x y, w = { s with regs := x, berth := y }
  keeps : KeepsRegs [Obj.framesRx b, Obj.badFramesRx b] s w
  pausedAt : (w.port b).pausedAt = (s.port b).pausedAt

theorem FrameSeen.refl : FrameSeen b s s := ⟨⟨_, _, rfl⟩, by simp, rfl⟩

theorem FrameSeen.trans (h : FrameSeen b s t) (g : FrameSeen b t u) : FrameSeen b s u := by
  refine ⟨?_, h.keeps.trans g.keeps, g.pausedAt.trans h.pausedAt⟩
  obtain ⟨x, y, rfl⟩ := h.shape
  obtain ⟨x', y', rfl⟩ := g.shape
  exact ⟨x', y', rfl⟩

/-- The port as its ingress buffer stands at a number of bytes. -/
def State.ingressPort (s : State) (b : Fin 64) (n : Nat) : Port :=
  { s.port b with ingress := n, ingressFull := if 3 * s.bufferBytes b ≤ 4 * n then true else if 2 * n < s.bufferBytes b then false
                                              else (s.port b).ingressFull }

theorem State.ingressTo_port (s : State) (b : Fin 64) (n : Nat) : (s.ingressTo b n).port b = s.ingressPort b n :=
  tget_tset_self (fun _ => ({} : Port)) s.berth.ports b (s.ingressPort b n)

theorem frameSeen_ingressTo (s : State) (b : Fin 64) (n : Nat) : FrameSeen b s (s.ingressTo b n) :=
  ⟨⟨_, _, rfl⟩, fun _ _ => rfl, (congrArg Port.pausedAt (s.ingressTo_port b n)).trans rfl⟩

theorem State.ingressTo_ingress (s : State) (b : Fin 64) (n : Nat) : ((s.ingressTo b n).port b).ingress = n :=
  congrArg Port.ingress (s.ingressTo_port b n)

section
variable (h : FrameSeen b s w)
include h

theorem FrameSeen.rd {k : Nat} (hk : k < 0x300300 ∨ 0x340000 ≤ k ∨ k / 256 % 16 ≠ 3) : w.rd k = s.rd k := by
  refine h.keeps k ?_
  simp only [List.mem_cons, List.not_mem_nil, or_false, Obj.framesRx, Obj.badFramesRx, objKey]
  omega

theorem FrameSeen.rdN {k : Nat} (hk : k < 0x300300 ∨ 0x340000 ≤ k ∨ k / 256 % 16 ≠ 3) : w.rdN k = s.rdN k := congrArg Int.toNat (h.rd hk)

theorem FrameSeen.port {i j : Nat} (hi : i % 16 ≠ 3) (hj : j < 256) : w.rdN (objKey i j) = s.rdN (objKey i j) :=
  h.rdN (.inr (.inr (by simp only [objKey]; omega)))

theorem FrameSeen.bufferBytes : w.bufferBytes b = s.bufferBytes b := by
  have hlayout : w.rdN (Obj.groupLayout (b / 8)) = s.rdN (Obj.groupLayout (b / 8)) := h.port (by omega) (by decide)
  unfold State.bufferBytes State.portWidth
  rw [hlayout]

theorem FrameSeen.tpid : w.tpid b = s.tpid b := by
  have htpid : w.rdN (Obj.outerTpid b) = s.rdN (Obj.outerTpid b) := h.port (by omega) (by decide)
  unfold State.tpid
  rw [htpid]

theorem FrameSeen.priorityOf (f : List Byte) : w.priorityOf b f = s.priorityOf b f := by
  have hpcp : w.rdN (Obj.defaultPcp b) = s.rdN (Obj.defaultPcp b) := h.port (by omega) (by decide)
  unfold State.priorityOf
  rw [h.tpid, hpcp]

theorem FrameSeen.vidOf (f : List Byte) : w.vidOf b f = s.vidOf b f := by
  unfold State.vidOf
  rw [h.tpid]

theorem FrameSeen.classRule {n : Nat} (hn : n < 64) : w.rdN (Obj.classRule b n) = s.rdN (Obj.classRule b n) :=
  h.port (by omega) (by omega)

theorem FrameSeen.classify (f : List Byte) : w.classify b f = s.classify b f := by
  have hrule (v p : Nat) : (List.range 64).find? (fun n => bitsOf (w.rdN (Obj.classRule b n)) 31 20 == v &&
      bitOf (bitsOf (w.rdN (Obj.classRule b n)) 19 12) p) =
      (List.range 64).find? (fun n => bitsOf (s.rdN (Obj.classRule b n)) 31 20 == v && bitOf (bitsOf (s.rdN (Obj.classRule b n)) 19 12) p) :=
    List.find?_congr fun n hn => by rw [h.classRule (List.mem_range.1 hn)]
  have hflow : w.rdN (Obj.defaultFlow b) = s.rdN (Obj.defaultFlow b) := h.port (by omega) (by decide)
  unfold State.classify
  dsimp only
  rw [h.vidOf, h.priorityOf, hrule, hflow]
  split
  · next n hn => rw [h.classRule (List.mem_range.1 (List.mem_of_find?_eq_some hn))]
  · rfl

theorem FrameSeen.traps (ht : s.rdN (Obj.frameTrap b) = 0) (f : List Byte) : w.traps b f = false := by
  have : w.rdN (Obj.frameTrap b) = 0 := (h.port (by omega) (by decide)).trans ht
  unfold State.traps
  rw [this]
  simp [bitOf]

theorem FrameSeen.entry {f : Nat} (hf : f < 4096) : w.entry f = s.entry f :=
  h.rdN (.inr (.inl (by simp only [flowKey, Obj.flowEntry, objKey]; omega)))

theorem FrameSeen.minds {p : Nat} (hp : bitOf (s.rdN (Obj.pausedTx b)) p = false) (he : bitOf (s.rdN (Obj.pfcTxEnable b)) p = true)
    (phase : Nat) : w.ignoresPause b p phase = false := by
  have hpaused : w.rdN (Obj.pausedTx b) = s.rdN (Obj.pausedTx b) := h.port (by omega) (by decide)
  have henable : w.rdN (Obj.pfcTxEnable b) = s.rdN (Obj.pfcTxEnable b) := h.port (by omega) (by decide)
  unfold State.ignoresPause
  rw [hpaused, hp, henable, he]
  simp

theorem FrameSeen.ignores {p phase : Nat} (hp : bitOf (s.rdN (Obj.pausedTx b)) p = true) :
    w.ignoresPause b p phase = s.ignoresPause b p phase := by
  have htick : w.core.tick = s.core.tick := by
    obtain ⟨x, y, rfl⟩ := h.shape
    rfl
  have hpaused : w.rdN (Obj.pausedTx b) = s.rdN (Obj.pausedTx b) := h.port (by omega) (by decide)
  have hgrace : w.rdN (Obj.pfcGrace b) = s.rdN (Obj.pfcGrace b) := h.port (by omega) (by decide)
  unfold State.ignoresPause State.at
  rw [hpaused, hp, h.pausedAt, hgrace, htick] <;> rfl

theorem FrameSeen.unitReg (u : Nat) {k : Nat} (hk : k < 256) : w.rdN (objKey (0x3590 + u) k) = s.rdN (objKey (0x3590 + u) k) :=
  h.rdN (.inr (.inl (by simp only [objKey]; omega)))

theorem FrameSeen.unitMode (u : Nat) : w.rdN (Obj.unitMode u) = s.rdN (Obj.unitMode u) := h.unitReg u (by decide)

theorem FrameSeen.workingReach (u : Nat) : w.rdN (Obj.workingReach u) = s.rdN (Obj.workingReach u) := h.unitReg u (by decide)

theorem FrameSeen.unitOfWorking (r : Nat) : w.unitOfWorking r = s.unitOfWorking r := by
  unfold State.unitOfWorking
  exact List.find?_congr fun v _ => by rw [h.unitMode, h.workingReach]

theorem FrameSeen.protectOf (u : Nat) : w.protectOf u = s.protectOf u := by
  have hprotect : w.rdN (Obj.protectReach u) = s.rdN (Obj.protectReach u) := h.unitReg u (by decide)
  unfold State.protectOf
  rw [h.unitMode, h.workingReach, hprotect]

theorem FrameSeen.flowReach {f : Nat} (hf : f < 4096) : w.flowReach f = s.flowReach f := by
  have hside (u : Nat) : w.rdN (Obj.durableSide u) = s.rdN (Obj.durableSide u) := h.unitReg u (by decide)
  have hunit (u : Nat) : w.unit u = s.unit u := by
    obtain ⟨x, y, rfl⟩ := h.shape
    rfl
  unfold State.flowReach
  dsimp only
  rw [h.entry hf, h.unitOfWorking]
  split
  · rw [h.unitMode, hside, hunit, h.protectOf]
  · rfl

end

/-- A flow is carried by one of the four reaches: a unit carries it on its working reach or on the next one (R263). -/
theorem State.flowReach_lt (s : State) (f : Nat) : s.flowReach f < 4 := by
  have hentry : entryReach (s.entry f) < 4 := Nat.mod_lt _ (by decide)
  unfold State.flowReach
  dsimp only
  split
  · next u hu =>
    have hwork : s.rdN (Obj.workingReach u) = entryReach (s.entry f) := by
      have := List.find?_some hu
      simp only [Bool.and_eq_true, beq_iff_eq] at this
      exact this.2
    generalize entryReach (s.entry f) = r at *
    have hside (b : Nat) : (if b = 1 then s.protectOf u else r) < 4 ∨ s.rdN (Obj.unitMode u) ≠ 2 := by
      by_cases hm : s.rdN (Obj.unitMode u) = 2
      · refine .inl ?_
        unfold State.protectOf
        rw [if_pos hm, hwork]
        split
        · exact Nat.xor_lt_two_pow (n := 2) hentry (by decide)
        · exact hentry
      · exact .inr hm
    split
    · next hm => exact (hside _).resolve_right (not_not.2 hm)
    · exact hentry
  · exact hentry

theorem FrameSeen.outage (h : FrameSeen b s w) {f : Nat} (hf : f < 4096) : w.outage (w.flowGroup f) = s.outage (s.flowGroup f) := by
  have hgroup : w.flowGroup f = s.flowGroup f := by
    unfold State.flowGroup
    rw [h.flowReach hf, h.entry hf]
  have hlt : s.flowGroup f / 8 < 4 := by
    have := s.flowReach_lt f
    have : entryGroup (s.entry f) < 8 := Nat.mod_lt _ (by decide)
    unfold State.flowGroup
    omega
  have hmod : s.flowGroup f % 8 < 8 := Nat.mod_lt _ (by decide)
  have hdark : w.conv.dark = s.conv.dark := by
    obtain ⟨x, y, rfl⟩ := h.shape
    rfl
  rw [hgroup]
  unfold State.outage State.groupOn State.rdB
  generalize s.flowGroup f / 8 = r at *
  generalize s.flowGroup f % 8 = g at *
  have hon : w.rd (Obj.groupEnable r g) = s.rd (Obj.groupEnable r g) := h.rd (.inl (by simp only [Obj.groupEnable, objKey]; omega))
  have hframe : w.rdN (Obj.rxFrameState r g) = s.rdN (Obj.rxFrameState r g) := h.rdN (.inl (by simp only [Obj.rxFrameState, objKey]; omega))
  rw [hon, hframe, hdark]

/-! #### The frame's own steps -/

/-- A frame of at least 64 bytes that no MAC control takes, counted, with the buffer drained before it (R256, R259). -/
def State.frameCounted (s : State) (b : Fin 64) (bad : Bool) (dr : Nat) : State :=
  ((s.ingressTo b ((s.port b).ingress - dr)).inc (Obj.framesRx b)).onlyIf bad (fun s => s.inc (Obj.badFramesRx b))

/-- What becomes of a counted frame: it is dropped, trapped, left unclassified or cut. -/
def State.frameNext (s : State) (b : Fin 64) (f : List Byte) (bad : Bool) (mx phase : Nat) : Host.Outcome State Fault Refusal :=
  let ignored := s.ignoresPause b (s.priorityOf b f) phase
  let s := if ignored then (s.inc (Obj.pfcIgnored b)).raiseLimited 0x8082 (berthSource b) 1 else s
  if s.bufferBytes b < (s.port b).ingress + mx then .next (s.inc (Obj.ingressDrops b))
  else
    let s := s.ingressTo b ((s.port b).ingress + f.length)
    if s.traps b f then .next (s.trapFrame b f phase)
    else
      let fl := s.classify b f
      if 4096 ≤ fl ∨ entryOn (s.entry fl) = false then
        .next ((s.inc (Obj.unclassified b)).raiseLimited 0x8083 (berthSource b) 1)
      else .next (s.cutFrame fl f bad ignored)

/-- The frame is bad: its code, its FCS or its length (R256). -/
def State.frameBad (s : State) (b : Fin 64) (f : List Byte) (e : Bool) : Bool := e || !fcsOk f || decide (s.rdN (Obj.maxFrame b) < f.length)

theorem exec_clientFrame (hport : s.isPort b = true) (hup : s.portUp b = true) (h1 : macControl f 0x0101 = false)
    (h2 : macControl f 1 = false) (hlen : 64 ≤ f.length) : exec (.clientFrameRx b f e ph dr) s =
      (s.frameCounted b (s.frameBad b f e) dr).frameNext b (f.take (s.rdN (Obj.maxFrame b))) (s.frameBad b f e) (s.rdN (Obj.maxFrame b)) ph := by
  have hst : s.rdN (Obj.berthPortState b) = 2 := beq_iff_eq.1 hup
  show execClientFrameRx b f e ph dr s = _
  unfold execClientFrameRx
  rw [if_neg (by simp [hport, hst]), if_neg (by simp [h1]), if_neg (by simp [h2]; omega)]
  rfl

theorem frameSeen_frameCounted (s : State) (b : Fin 64) (bad : Bool) (dr : Nat) : FrameSeen b s (s.frameCounted b bad dr) := by
  have hinc : FrameSeen b (s.ingressTo b ((s.port b).ingress - dr)) ((s.ingressTo b ((s.port b).ingress - dr)).inc (Obj.framesRx b)) :=
    ⟨⟨_, _, rfl⟩, by simp, rfl⟩
  have h := (frameSeen_ingressTo s b ((s.port b).ingress - dr)).trans hinc
  unfold State.frameCounted
  generalize State.inc _ _ = a at h
  cases bad with
  | false => exact h
  | true => exact h.trans ⟨⟨_, _, rfl⟩, by simp, rfl⟩

theorem State.frameCounted_counts (s : State) (b : Fin 64) (bad : Bool) (dr : Nat) :
    (s.frameCounted b bad dr).rdN (Obj.framesRx b) = (s.rdN (Obj.framesRx b) + 1) % 2 ^ 64 ∧
    (s.frameCounted b bad dr).rdN (Obj.badFramesRx b) =
      (if bad then (s.rdN (Obj.badFramesRx b) + 1) % 2 ^ 64 else s.rdN (Obj.badFramesRx b)) ∧
    ((s.frameCounted b bad dr).port b).ingress = (s.port b).ingress - dr := by
  have hne : Obj.framesRx b ≠ Obj.badFramesRx b := by
    simp only [Obj.framesRx, Obj.badFramesRx, objKey]
    omega
  have hraw (k : Nat) : (s.ingressTo b ((s.port b).ingress - dr)).rdN k = s.rdN k := rfl
  have hin := s.ingressTo_ingress b ((s.port b).ingress - dr)
  unfold State.frameCounted
  generalize s.ingressTo b ((s.port b).ingress - dr) = a at *
  cases bad with
  | false => exact ⟨by rw [State.onlyIf_false, State.inc_rdN_self, hraw], by rw [State.onlyIf_false, State.inc_rdN_ne (h := hne.symm), hraw] <;> rfl, hin⟩
  | true =>
    refine ⟨?_, ?_, hin⟩
    · rw [State.onlyIf_true, State.inc_rdN_ne (h := hne), State.inc_rdN_self, hraw]
    · rw [State.onlyIf_true, State.inc_rdN_self, State.inc_rdN_ne (h := hne.symm), hraw] <;> rfl

/-! #### Frames that are not a client's, or dropped (R255, R256, R259) -/

theorem clientFrame_pfc (h : macControl f 0x0101 = true) : NoEffect (.clientFrameRx b f e ph dr) s := by
  show execClientFrameRx b f e ph dr s = _
  unfold execClientFrameRx
  rw [if_pos h]
  exact ite_self _

theorem clientFrame_bad (hport : s.isPort b = true) (hup : s.portUp b = true) (h1 : macControl f 0x0101 = false)
    (h2 : macControl f 1 = true ∨ f.length < 64) :
    Completes (.clientFrameRx b f e ph dr) s (fun t => t = { s with regs := t.regs } ∧
      t.rdN (Obj.badFramesRx b) = (s.rdN (Obj.badFramesRx b) + 1) % 2 ^ 64 ∧ KeepsRegs [Obj.badFramesRx b] s t) := by
  have hst : s.rdN (Obj.berthPortState b) = 2 := beq_iff_eq.1 hup
  have hexec : exec (.clientFrameRx b f e ph dr) s = .next (s.inc (Obj.badFramesRx b)) := by
    show execClientFrameRx b f e ph dr s = _
    unfold execClientFrameRx
    rw [if_neg (by simp [hport, hst]), if_neg (by simp [h1]), if_pos h2]
  exact ⟨_, hexec, rfl, State.inc_rdN_self .., by simp⟩

/-- The counters of a port differ from each other. -/
theorem portCounter_ne {i j : Nat} (b : Fin 64) (h : i ≠ j) : objKey (0x3003 + 0x10 * b) i ≠ objKey (0x3003 + 0x10 * b) j := by
  simp only [objKey]
  omega

section
variable {bad : Bool} {mx phase : Nat}

theorem State.frameNext_dropped (hmind : s.ignoresPause b (s.priorityOf b f) phase = false)
    (hfull : s.bufferBytes b < (s.port b).ingress + mx) : s.frameNext b f bad mx phase = .next (s.inc (Obj.ingressDrops b)) := by
  unfold State.frameNext
  dsimp only
  rw [hmind, if_neg Bool.false_ne_true, if_pos hfull]

theorem State.frameNext_ignored (hmind : s.ignoresPause b (s.priorityOf b f) phase = true)
    (hfull : s.bufferBytes b < (s.port b).ingress + mx) :
    s.frameNext b f bad mx phase = .next (((s.inc (Obj.pfcIgnored b)).raiseLimited 0x8082 (berthSource b) 1).inc (Obj.ingressDrops b)) := by
  have hkey : Obj.pfcIgnored b ≠ Obj.groupLayout (b / 8) := by
    simp only [Obj.pfcIgnored, Obj.groupLayout, objKey]
    omega
  obtain ⟨c, hc⟩ := State.raiseLimited_upd (s := s.inc (Obj.pfcIgnored b)) (code := 0x8082) (source := berthSource b) (n := 1) rfl
  have hbuf : ((s.inc (Obj.pfcIgnored b)).raiseLimited 0x8082 (berthSource b) 1).bufferBytes b = s.bufferBytes b := by
    rw [hc]
    unfold State.bufferBytes State.portWidth
    rw [State.rdN_upd, State.inc_rdN_ne (h := hkey.symm)]
  have hport : ((s.inc (Obj.pfcIgnored b)).raiseLimited 0x8082 (berthSource b) 1).port b = s.port b := by rw [hc] <;> rfl
  unfold State.frameNext
  dsimp only
  rw [hmind, if_pos rfl, hbuf, hport, if_pos hfull]

/-- A frame that fits and that the traps leave is classified. -/
theorem State.frameNext_fits (hmind : s.ignoresPause b (s.priorityOf b f) phase = false)
    (hfits : (s.port b).ingress + mx ≤ s.bufferBytes b) (htrap : s.rdN (Obj.frameTrap b) = 0) : s.frameNext b f bad mx phase =
      if 4096 ≤ s.classify b f ∨ entryOn ((s.ingressTo b ((s.port b).ingress + f.length)).entry (s.classify b f)) = false then
        .next (((s.ingressTo b ((s.port b).ingress + f.length)).inc (Obj.unclassified b)).raiseLimited 0x8083 (berthSource b) 1)
      else .next ((s.ingressTo b ((s.port b).ingress + f.length)).cutFrame (s.classify b f) f bad false) := by
  have hseen := frameSeen_ingressTo s b ((s.port b).ingress + f.length)
  unfold State.frameNext
  dsimp only
  rw [hmind, if_neg Bool.false_ne_true, if_neg (by omega), hseen.traps htrap, if_neg Bool.false_ne_true, hseen.classify]

end

/-- The count of a frame, as the clauses about the counters use it. -/
structure FrameCounts (b : Fin 64) (s w : State) (bad : Bool) (n : Nat) : Prop where
  seen : FrameSeen b s w
  frames : w.rdN (Obj.framesRx b) = (s.rdN (Obj.framesRx b) + 1) % 2 ^ 64
  badFrames : w.rdN (Obj.badFramesRx b) = (if bad then (s.rdN (Obj.badFramesRx b) + 1) % 2 ^ 64 else s.rdN (Obj.badFramesRx b))
  ingress : (w.port b).ingress = n
  basin : w.basin = s.basin

theorem frameCounts_frameCounted (s : State) (b : Fin 64) (bad : Bool) (dr : Nat) :
    FrameCounts b s (s.frameCounted b bad dr) bad ((s.port b).ingress - dr) := by
  obtain ⟨h1, h2, h3⟩ := s.frameCounted_counts b bad dr
  have hseen := frameSeen_frameCounted s b bad dr
  refine ⟨hseen, h1, h2, h3, ?_⟩
  obtain ⟨x, y, hw⟩ := hseen.shape
  rw [hw]

theorem clientFrame_drops (hport : s.isPort b = true) (hup : s.portUp b = true) (h1 : macControl f 0x0101 = false)
    (h2 : macControl f 1 = false) (hlen : 64 ≤ f.length) (hfull : s.bufferBytes b < (s.port b).ingress - dr + s.rdN (Obj.maxFrame b))
    (hp : bitOf (s.rdN (Obj.pausedTx b)) (s.priorityOf b (f.take (s.rdN (Obj.maxFrame b)))) = false)
    (he : bitOf (s.rdN (Obj.pfcTxEnable b)) (s.priorityOf b (f.take (s.rdN (Obj.maxFrame b)))) = true) :
    Completes (.clientFrameRx b f e ph dr) s (fun t => t.basin = s.basin ∧ t.core = s.core ∧
      t.rdN (Obj.framesRx b) = (s.rdN (Obj.framesRx b) + 1) % 2 ^ 64 ∧
      t.rdN (Obj.ingressDrops b) = (s.rdN (Obj.ingressDrops b) + 1) % 2 ^ 64 ∧
      (t.port b).ingress = (s.port b).ingress - dr ∧
      KeepsRegs [Obj.framesRx b, Obj.ingressDrops b, Obj.badFramesRx b] s t) := by
  have hexec := exec_clientFrame (e := e) (ph := ph) (dr := dr) hport hup h1 h2 hlen
  obtain ⟨hseen, hframes, -, hingress, hbasin⟩ := frameCounts_frameCounted s b (s.frameBad b f e) dr
  generalize s.frameCounted b (s.frameBad b f e) dr = w at *
  rw [State.frameNext_dropped (by rw [hseen.priorityOf]; exact hseen.minds hp he ph) (by rw [hseen.bufferBytes, hingress]; exact hfull)] at hexec
  have hcore : w.core = s.core := by
    obtain ⟨x, y, rfl⟩ := hseen.shape
    rfl
  have hdrops : w.rdN (Obj.ingressDrops b) = s.rdN (Obj.ingressDrops b) := congrArg Int.toNat (hseen.keeps _ (by
    simp only [List.mem_cons, List.not_mem_nil, or_false, not_or]
    exact ⟨portCounter_ne b (by decide), portCounter_ne b (by decide)⟩))
  refine ⟨_, hexec, hbasin, hcore, (State.inc_rdN_ne (h := portCounter_ne b (by decide)) ..).trans hframes, ?_, hingress, fun k hk => ?_⟩
  · rw [State.inc_rdN_self, hdrops]
  · simp only [List.mem_cons, List.not_mem_nil, or_false, not_or] at hk
    obtain ⟨hk1, hk2, hk3⟩ := hk
    exact (State.wrN_rd_ne w _ _ _ hk2).trans (hseen.keeps k (by simp [hk1, hk3]))

theorem clientFrame_ignoresPause (hport : s.isPort b = true) (hup : s.portUp b = true) (h1 : macControl f 0x0101 = false)
    (h2 : macControl f 1 = false) (hlen : 64 ≤ f.length) (hfull : s.bufferBytes b < (s.port b).ingress - dr + s.rdN (Obj.maxFrame b))
    (hp : bitOf (s.rdN (Obj.pausedTx b)) (s.priorityOf b (f.take (s.rdN (Obj.maxFrame b)))) = true)
    (hi : s.ignoresPause b (s.priorityOf b (f.take (s.rdN (Obj.maxFrame b)))) ph = true) :
    Completes (.clientFrameRx b f e ph dr) s (fun t => t.basin = s.basin ∧
      t.rdN (Obj.pfcIgnored b) = (s.rdN (Obj.pfcIgnored b) + 1) % 2 ^ 64 ∧
      t.rdN (Obj.framesRx b) = (s.rdN (Obj.framesRx b) + 1) % 2 ^ 64 ∧
      t.rdN (Obj.ingressDrops b) = (s.rdN (Obj.ingressDrops b) + 1) % 2 ^ 64 ∧
      KeepsRegs [Obj.framesRx b, Obj.pfcIgnored b, Obj.ingressDrops b, Obj.badFramesRx b] s t) := by
  have hexec := exec_clientFrame (e := e) (ph := ph) (dr := dr) hport hup h1 h2 hlen
  obtain ⟨hseen, hframes, -, hingress, hbasin⟩ := frameCounts_frameCounted s b (s.frameBad b f e) dr
  generalize s.frameCounted b (s.frameBad b f e) dr = w at *
  rw [State.frameNext_ignored (by rw [hseen.priorityOf, hseen.ignores hp]; exact hi) (by rw [hseen.bufferBytes, hingress]; exact hfull)] at hexec
  have hold (k : Nat) (hk : k ≠ 1 ∧ k ≠ 3) : w.rdN (objKey (0x3003 + 0x10 * b) k) = s.rdN (objKey (0x3003 + 0x10 * b) k) :=
    congrArg Int.toNat (hseen.keeps _ (by
      simp only [List.mem_cons, List.not_mem_nil, or_false, not_or]
      exact ⟨portCounter_ne b hk.1, portCounter_ne b hk.2⟩))
  obtain ⟨c, hc⟩ := State.raiseLimited_upd (s := w.inc (Obj.pfcIgnored b)) (code := 0x8082) (source := berthSource b) (n := 1) rfl
  have hrd (k : Nat) : ((w.inc (Obj.pfcIgnored b)).raiseLimited 0x8082 (berthSource b) 1).rd k = (w.inc (Obj.pfcIgnored b)).rd k := by
    rw [hc] <;> rfl
  have hrdN (k : Nat) : ((w.inc (Obj.pfcIgnored b)).raiseLimited 0x8082 (berthSource b) 1).rdN k = (w.inc (Obj.pfcIgnored b)).rdN k :=
    congrArg Int.toNat (hrd k)
  have hb : ((w.inc (Obj.pfcIgnored b)).raiseLimited 0x8082 (berthSource b) 1).basin = s.basin := by
    rw [hc]
    exact hbasin
  generalize (w.inc (Obj.pfcIgnored b)).raiseLimited 0x8082 (berthSource b) 1 = a at *
  have hignored : w.rdN (Obj.pfcIgnored b) = s.rdN (Obj.pfcIgnored b) := hold 11 (by decide)
  have hdrops : w.rdN (Obj.ingressDrops b) = s.rdN (Obj.ingressDrops b) := hold 7 (by decide)
  have hne1 : Obj.pfcIgnored b ≠ Obj.ingressDrops b := portCounter_ne b (by decide)
  have hne2 : Obj.framesRx b ≠ Obj.ingressDrops b := portCounter_ne b (by decide)
  have hne3 : Obj.framesRx b ≠ Obj.pfcIgnored b := portCounter_ne b (by decide)
  refine ⟨_, hexec, hb, ?_, ?_, ?_, fun k hk => ?_⟩
  · rw [State.inc_rdN_ne (h := hne1), hrdN, State.inc_rdN_self, hignored]
  · rw [State.inc_rdN_ne (h := hne2), hrdN, State.inc_rdN_ne (h := hne3), hframes]
  · rw [State.inc_rdN_self, hrdN, State.inc_rdN_ne (h := hne1.symm), hdrops]
  · simp only [List.mem_cons, List.not_mem_nil, or_false, not_or] at hk
    obtain ⟨hk1, hk2, hk3, hk4⟩ := hk
    exact ((State.wrN_rd_ne a _ _ _ hk3).trans (hrd k)).trans ((State.wrN_rd_ne w _ _ _ hk2).trans (hseen.keeps k (by simp [hk1, hk4])))

/-! #### Frames that fit: unclassified, queued or discarded (R260, R245) -/

/-- A frame that fits the ingress buffer, of a priority that is not paused, is counted and classified. -/
theorem clientFrame_fits (hport : s.isPort b = true) (hup : s.portUp b = true) (h1 : macControl f 0x0101 = false)
    (h2 : macControl f 1 = false) (hlen : 64 ≤ f.length) (hfits : (s.port b).ingress - dr + s.rdN (Obj.maxFrame b) ≤ s.bufferBytes b)
    (htrap : s.rdN (Obj.frameTrap b) = 0)
    (hp : bitOf (s.rdN (Obj.pausedTx b)) (s.priorityOf b (f.take (s.rdN (Obj.maxFrame b)))) = false)
    (he : bitOf (s.rdN (Obj.pfcTxEnable b)) (s.priorityOf b (f.take (s.rdN (Obj.maxFrame b)))) = true) :
    ∃ w, FrameCounts b s w (s.frameBad b f e) ((s.port b).ingress - dr + (f.take (s.rdN (Obj.maxFrame b))).length) ∧
      exec (.clientFrameRx b f e ph dr) s =
        if 4096 ≤ s.classify b (f.take (s.rdN (Obj.maxFrame b))) ∨
            entryOn (w.entry (s.classify b (f.take (s.rdN (Obj.maxFrame b))))) = false then
          .next ((w.inc (Obj.unclassified b)).raiseLimited 0x8083 (berthSource b) 1)
        else .next (w.cutFrame (s.classify b (f.take (s.rdN (Obj.maxFrame b)))) (f.take (s.rdN (Obj.maxFrame b))) (s.frameBad b f e) false) := by
  have hexec := exec_clientFrame (e := e) (ph := ph) (dr := dr) hport hup h1 h2 hlen
  obtain ⟨hseen, hframes, hbad, hingress, hbasin⟩ := frameCounts_frameCounted s b (s.frameBad b f e) dr
  generalize s.frameCounted b (s.frameBad b f e) dr = w at *
  generalize f.take (s.rdN (Obj.maxFrame b)) = g at *
  rw [State.frameNext_fits (by rw [hseen.priorityOf]; exact hseen.minds hp he ph) (by rw [hseen.bufferBytes, hingress]; exact hfits)
    ((hseen.port (by omega) (by decide)).trans htrap), hseen.classify, hingress] at hexec
  have hto := frameSeen_ingressTo w b ((s.port b).ingress - dr + g.length)
  exact ⟨_, ⟨hseen.trans hto, hframes, hbad, w.ingressTo_ingress b _, hbasin⟩, hexec⟩

theorem FrameCounts.core {bad : Bool} {n : Nat} (h : FrameCounts b s w bad n) : w.core = s.core := by
  obtain ⟨x, y, rfl⟩ := h.seen.shape
  rfl

theorem FrameCounts.other {bad : Bool} {n k : Nat} (h : FrameCounts b s w bad n) (hk : k ≠ Obj.framesRx b ∧ k ≠ Obj.badFramesRx b) :
    w.rdN k = s.rdN k := congrArg Int.toNat (h.seen.keeps _ (by simp [hk]))

theorem clientFrame_unclassified (hport : s.isPort b = true) (hup : s.portUp b = true) (h1 : macControl f 0x0101 = false)
    (h2 : macControl f 1 = false) (hlen : 64 ≤ f.length) (hfits : (s.port b).ingress - dr + s.rdN (Obj.maxFrame b) ≤ s.bufferBytes b)
    (htrap : s.rdN (Obj.frameTrap b) = 0)
    (hp : bitOf (s.rdN (Obj.pausedTx b)) (s.priorityOf b (f.take (s.rdN (Obj.maxFrame b)))) = false)
    (he : bitOf (s.rdN (Obj.pfcTxEnable b)) (s.priorityOf b (f.take (s.rdN (Obj.maxFrame b)))) = true)
    (hfl : 4096 ≤ s.classify b (f.take (s.rdN (Obj.maxFrame b))) ∨
      entryOn (s.entry (s.classify b (f.take (s.rdN (Obj.maxFrame b))))) = false) :
    Completes (.clientFrameRx b f e ph dr) s (fun t => t.basin = s.basin ∧
      t.rdN (Obj.unclassified b) = (s.rdN (Obj.unclassified b) + 1) % 2 ^ 64 ∧
      t.rdN (Obj.framesRx b) = (s.rdN (Obj.framesRx b) + 1) % 2 ^ 64 ∧
      KeepsRegs [Obj.framesRx b, Obj.unclassified b, Obj.badFramesRx b] s t) := by
  obtain ⟨w, hw, hexec⟩ := clientFrame_fits (e := e) (ph := ph) hport hup h1 h2 hlen hfits htrap hp he
  generalize s.classify b (f.take (s.rdN (Obj.maxFrame b))) = fl at *
  rw [if_pos] at hexec
  · have hne1 : Obj.unclassified b ≠ Obj.framesRx b := portCounter_ne b (by decide)
    have hne2 : Obj.unclassified b ≠ Obj.badFramesRx b := portCounter_ne b (by decide)
    obtain ⟨c, hc⟩ := State.raiseLimited_upd (s := w.inc (Obj.unclassified b)) (code := 0x8083) (source := berthSource b) (n := 1) rfl
    refine ⟨_, hexec, ?_, ?_, ?_, fun k hk => ?_⟩
    · rw [hc]
      exact hw.basin
    · rw [hc, State.rdN_upd, State.inc_rdN_self, hw.other ⟨hne1, hne2⟩]
    · rw [hc, State.rdN_upd, State.inc_rdN_ne (h := hne1.symm), hw.frames]
    · simp only [List.mem_cons, List.not_mem_nil, or_false, not_or] at hk
      obtain ⟨hk1, hk2, hk3⟩ := hk
      rw [hc, State.rd_upd]
      exact (State.wrN_rd_ne w _ _ _ hk2).trans (hw.seen.keeps k (by simp [hk1, hk3]))
  · by_cases hlt : 4096 ≤ fl
    · exact .inl hlt
    · refine .inr ?_
      rw [hw.seen.entry (by omega)]
      exact hfl.resolve_left hlt

section
variable {fl : Nat} {bad : Bool}

/-- A frame of a prompt or standard flow joins the flow's queue (R245). -/
theorem State.cutFrame_queues (hbad : s.integ.flowBad.contains fl = false) (hkind : entryKind (s.entry fl) < 2)
    (hout : s.outage (s.flowGroup fl) = false) : s.cutFrame fl f bad false = s.setFlow fl { s.flow fl with
      queue := (s.flow fl).queue ++ (clientCells fl (if entryKind (s.entry fl) = 0 then 1 else 2) bad f).map (fun c => ⟨c, s.core.tick⟩) } := by
  unfold State.cutFrame
  dsimp only
  rw [hbad, if_neg Bool.false_ne_true, if_neg (fun h => by omega), hout, if_neg Bool.false_ne_true]

theorem State.cutFrame_discards (hbad : s.integ.flowBad.contains fl = false) (hkind : entryKind (s.entry fl) < 2)
    (hout : s.outage (s.flowGroup fl) = true) : s.cutFrame fl f bad false =
      s.incBy (if entryKind (s.entry fl) = 0 then Obj.promptDiscards else Obj.standardDrops)
        (clientCells fl (if entryKind (s.entry fl) = 0 then 1 else 2) bad f).length := by
  unfold State.cutFrame
  dsimp only
  rw [hbad, if_neg Bool.false_ne_true, if_neg (fun h => by omega), hout, if_pos rfl]

end

theorem clientFrame_queued {fl : Nat} (hport : s.isPort b = true) (hup : s.portUp b = true) (h1 : macControl f 0x0101 = false)
    (h2 : macControl f 1 = false) (hlen : 64 ≤ f.length) (hfits : (s.port b).ingress - dr + s.rdN (Obj.maxFrame b) ≤ s.bufferBytes b)
    (htrap : s.rdN (Obj.frameTrap b) = 0)
    (hp : bitOf (s.rdN (Obj.pausedTx b)) (s.priorityOf b (f.take (s.rdN (Obj.maxFrame b)))) = false)
    (he : bitOf (s.rdN (Obj.pfcTxEnable b)) (s.priorityOf b (f.take (s.rdN (Obj.maxFrame b)))) = true)
    (hfl : s.classify b (f.take (s.rdN (Obj.maxFrame b))) = fl) (hlt : fl < 4096) (hon : entryOn (s.entry fl) = true)
    (hkind : entryKind (s.entry fl) < 2) (hbad : s.integ.flowBad.contains fl = false) (hout : s.outage (s.flowGroup fl) = false) :
    Completes (.clientFrameRx b f e ph dr) s (fun t =>
      ((t.flow fl).queue = (s.flow fl).queue ++
        (clientCells fl (if entryKind (s.entry fl) = 0 then 1 else 2) (s.frameBad b f e) (f.take (s.rdN (Obj.maxFrame b)))).map
          (fun c => ⟨c, s.core.tick⟩) ∧
      t.rdN (Obj.badFramesRx b) = (if s.frameBad b f e then (s.rdN (Obj.badFramesRx b) + 1) % 2 ^ 64 else s.rdN (Obj.badFramesRx b)) ∧
      (t.port b).ingress = (s.port b).ingress - dr + (f.take (s.rdN (Obj.maxFrame b))).length) ∧
      (∀ k, k ≠ fl → t.flow k = s.flow k) ∧ t.core = s.core ∧
      t.rdN (Obj.framesRx b) = (s.rdN (Obj.framesRx b) + 1) % 2 ^ 64 ∧
      KeepsRegs [Obj.framesRx b, Obj.badFramesRx b] s t) := by
  obtain ⟨w, hw, hexec⟩ := clientFrame_fits (e := e) (ph := ph) hport hup h1 h2 hlen hfits htrap hp he
  have hentry := hw.seen.entry hlt
  have hinteg : w.integ = s.integ := by
    obtain ⟨x, y, rfl⟩ := hw.seen.shape
    rfl
  have hflow (k : Nat) : w.flow k = s.flow k := by
    unfold State.flow
    rw [hw.basin]
  rw [hfl, hentry, if_neg (by simp [hon]; omega), State.cutFrame_queues (by rw [hinteg]; exact hbad) (by rw [hentry]; exact hkind)
    ((hw.seen.outage hlt).trans hout), hentry, hflow, hw.core] at hexec
  refine ⟨_, hexec, ⟨congrArg Flow.queue (tget_tset_self (fun _ => ({} : Flow)) w.basin.flows fl _), hw.badFrames, hw.ingress⟩,
    fun k hk => ?_, hw.core, hw.frames, hw.seen.keeps⟩
  exact (tget_tset_ne (fun _ => ({} : Flow)) w.basin.flows _ hk).trans (hflow k)

theorem clientFrame_discarded {fl : Nat} (hport : s.isPort b = true) (hup : s.portUp b = true) (h1 : macControl f 0x0101 = false)
    (h2 : macControl f 1 = false) (hlen : 64 ≤ f.length) (hfits : (s.port b).ingress - dr + s.rdN (Obj.maxFrame b) ≤ s.bufferBytes b)
    (htrap : s.rdN (Obj.frameTrap b) = 0)
    (hp : bitOf (s.rdN (Obj.pausedTx b)) (s.priorityOf b (f.take (s.rdN (Obj.maxFrame b)))) = false)
    (he : bitOf (s.rdN (Obj.pfcTxEnable b)) (s.priorityOf b (f.take (s.rdN (Obj.maxFrame b)))) = true)
    (hfl : s.classify b (f.take (s.rdN (Obj.maxFrame b))) = fl) (hlt : fl < 4096) (hon : entryOn (s.entry fl) = true)
    (hkind : entryKind (s.entry fl) < 2) (hbad : s.integ.flowBad.contains fl = false) (hout : s.outage (s.flowGroup fl) = true) :
    Completes (.clientFrameRx b f e ph dr) s (fun t =>
      t.rdN (if entryKind (s.entry fl) = 0 then Obj.promptDiscards else Obj.standardDrops) =
        (s.rdN (if entryKind (s.entry fl) = 0 then Obj.promptDiscards else Obj.standardDrops) + (clientCells fl
          (if entryKind (s.entry fl) = 0 then 1 else 2) (s.frameBad b f e) (f.take (s.rdN (Obj.maxFrame b)))).length) % 2 ^ 64 ∧
      t.basin = s.basin ∧ t.core = s.core ∧
      KeepsRegs [Obj.framesRx b, Obj.badFramesRx b, if entryKind (s.entry fl) = 0 then Obj.promptDiscards else Obj.standardDrops] s t) := by
  obtain ⟨w, hw, hexec⟩ := clientFrame_fits (e := e) (ph := ph) hport hup h1 h2 hlen hfits htrap hp he
  have hentry := hw.seen.entry hlt
  have hinteg : w.integ = s.integ := by
    obtain ⟨x, y, rfl⟩ := hw.seen.shape
    rfl
  rw [hfl, hentry, if_neg (by simp [hon]; omega), State.cutFrame_discards (by rw [hinteg]; exact hbad) (by rw [hentry]; exact hkind)
    ((hw.seen.outage hlt).trans hout), hentry] at hexec
  have hkey : ∀ k, (if entryKind (s.entry fl) = 0 then Obj.promptDiscards else Obj.standardDrops) = k → k ≠ Obj.framesRx b ∧ k ≠ Obj.badFramesRx b := by
    intro k hk
    split at hk
    · subst hk
      simp only [Obj.promptDiscards, Obj.framesRx, Obj.badFramesRx, objKey]
      omega
    · subst hk
      simp only [Obj.standardDrops, Obj.framesRx, Obj.badFramesRx, objKey]
      omega
  have hkey := hkey _ rfl
  generalize (if entryKind (s.entry fl) = 0 then Obj.promptDiscards else Obj.standardDrops) = key at *
  refine ⟨_, hexec, ?_, hw.basin, hw.core, fun k hk => ?_⟩
  · rw [← hw.other hkey]
    exact State.wrN_rdN_self ..
  · simp only [List.mem_cons, List.not_mem_nil, or_false, not_or] at hk
    obtain ⟨hk1, hk2, hk3⟩ := hk
    exact (State.wrN_rd_ne w _ _ _ hk3).trans (hw.seen.keeps k (by simp [hk1, hk2]))

/-! #### Frames of a durable flow (R281) -/

theorem FrameSeen.openPage (h : FrameSeen b s w) (hb : w.basin = s.basin) (fl : Nat) (rx : Bool) : w.openPage fl rx = s.openPage fl rx := by
  have hpower : w.power = s.power := by
    obtain ⟨x, y, rfl⟩ := h.shape
    rfl
  have hserves (p : Nat) : w.portServes p = s.portServes p := by
    have hstate : w.rdN (Obj.basinPortState p) = s.rdN (Obj.basinPortState p) :=
      h.rdN (.inr (.inl (by simp only [Obj.basinPortState, objKey]; omega)))
    unfold State.portServes State.released State.dom
    rw [hstate, hpower]
  have hport (p : Nat) : w.bport p = s.bport p := by
    unfold State.bport
    rw [hb]
  unfold State.openPage
  rw [hb]
  exact List.find?_congr fun q _ => by rw [hserves, hport]

/-- The water marks are checked without the flows or the slots. -/
theorem State.waterCheck_contents (s : State) : s.waterCheck.basin.flows = s.basin.flows ∧ s.waterCheck.basin.slots = s.basin.slots := by
  unfold State.waterCheck
  extract_lets used usable s1 at_ rise fall _ s2
  have h2 : s2.basin.flows = s1.basin.flows ∧ s2.basin.slots = s1.basin.slots := by
    simp only [s2]
    split
    · exact ⟨rfl, rfl⟩
    · split
      · exact ⟨rfl, rfl⟩
      · exact ⟨rfl, rfl⟩
  exact h2

section
variable {fl : Nat} {bad : Bool}

/-- The flow after a cell that it numbers and holds in a slot. -/
def Flow.holds (x : Flow) (k : Nat) : Flow :=
  { x with next := seqNext x.next, held := x.held ++ [⟨x.next, k, 0, 0, false, false⟩], lastSeq := x.next }

/-- A durable cell is written to a slot of its flow's open page. -/
theorem State.cutDurable_holds {q : Nat × Page} (h : s.openPage fl false = some q) (c : Cell) : ∃ k g,
    (s.cutDurable fl c).basin.flows = tset (fun _ => {}) s.basin.flows fl ((s.flow fl).holds k) ∧
    (s.cutDurable fl c).slot k = ⟨g, 1, { c with seq := (s.flow fl).next, epoch := (s.flow fl).epoch }⟩ := by
  obtain ⟨p, pg⟩ := q
  unfold State.cutDurable State.takeSlot
  rw [h]
  dsimp only
  exact ⟨_, _, rfl, tget_tset_self (fun _ => ({} : Slot)) s.basin.slots _ _⟩

/-- A durable frame's only cell, before it is numbered. -/
def durableCell (fl : Nat) (bad : Bool) (f : List Byte) : Cell := { flow := fl, kind := 3, sof := true, eof := true, bad := bad, body := f }

theorem clientCells_single (fl : Nat) (bad : Bool) (hlen : f.length ≤ 228) : clientCells fl 3 bad f = [durableCell fl bad f] := by
  unfold clientCells
  rw [if_pos rfl, cutCells, if_pos hlen]
  rfl

theorem State.cutFrame_durable {q : Nat × Page} (hbad : s.integ.flowBad.contains fl = false) (hkind : entryKind (s.entry fl) = 2)
    (hacc : s.basin.accepted = true) (hst : (s.flow fl).state ≠ 0) (hlen : f.length ≤ 228) (hpage : s.openPage fl false = some q) :
    ∃ k g x, (s.cutFrame fl f bad false).basin.flows = tset (fun _ => {}) (tset (fun _ => {}) s.basin.flows fl ((s.flow fl).holds k)) fl x ∧
      x.next = ((s.flow fl).holds k).next ∧ x.lastSeq = ((s.flow fl).holds k).lastSeq ∧ x.held = ((s.flow fl).holds k).held ∧
      (s.cutFrame fl f bad false).slot k = 
        ⟨g, 1, { durableCell fl bad f with seq := (s.flow fl).next, epoch := (s.flow fl).epoch }⟩ := by
  obtain ⟨k, g, hflows, hslot⟩ := State.cutDurable_holds hpage (durableCell fl bad f)
  unfold State.cutFrame
  dsimp only
  rw [hbad, if_neg Bool.false_ne_true, if_pos ⟨hkind, hacc, hst⟩, if_neg (fun h => Bool.false_ne_true h.2), clientCells_single fl bad hlen,
    State.each_cons, State.each_nil]
  generalize s.cutDurable fl _ = a at *
  have ha : a.flow fl = (s.flow fl).holds k := by
    unfold State.flow at hflows ⊢
    rw [hflows, tget_tset_self]
  rw [ha]
  generalize (if (a.matedUnit fl).isSome then _ else _ : List (Nat × Nat)) = frames
  generalize beNat (f.drop (f.length - 4)) = fcs
  obtain ⟨hwf, hws⟩ := State.waterCheck_contents
    (a.setFlow fl { (s.flow fl).holds k with lastFcs := fcs, frames := frames }).queueCheck
  refine ⟨k, g, { (s.flow fl).holds k with lastFcs := fcs, frames := frames }, hwf.trans ?_, rfl, rfl, rfl, ?_⟩
  · rw [← hflows] <;> rfl
  · exact (State.slot_of_slots hws k).trans hslot

end

theorem clientFrame_durable {fl : Nat} {q : Nat × Page} (hport : s.isPort b = true) (hup : s.portUp b = true)
    (h1 : macControl f 0x0101 = false) (h2 : macControl f 1 = false) (hlen : 64 ≤ f.length) (hshort : f.length ≤ 228)
    (hmax : f.length ≤ s.rdN (Obj.maxFrame b)) (hfits : (s.port b).ingress - dr + s.rdN (Obj.maxFrame b) ≤ s.bufferBytes b)
    (htrap : s.rdN (Obj.frameTrap b) = 0) (hp : bitOf (s.rdN (Obj.pausedTx b)) (s.priorityOf b f) = false)
    (he : bitOf (s.rdN (Obj.pfcTxEnable b)) (s.priorityOf b f) = true) (hfl : s.classify b f = fl) (hlt : fl < 4096)
    (hon : entryOn (s.entry fl) = true) (hkind : entryKind (s.entry fl) = 2) (hbad : s.integ.flowBad.contains fl = false)
    (hacc : s.basin.accepted = true) (hst : (s.flow fl).state ≠ 0) (hpage : s.openPage fl false = some q) :
    Completes (.clientFrameRx b f e ph dr) s (fun t =>
      (t.flow fl).next = ((s.flow fl).next + 1) % 2 ^ 48 ∧ (t.flow fl).lastSeq = (s.flow fl).next ∧
      (∃ h, (t.flow fl).held = (s.flow fl).held ++ [h] ∧ h.seq = (s.flow fl).next ∧ h.times = 0 ∧ h.lost = false ∧
        (t.slot h.slot).st = 1 ∧ (t.slot h.slot).cell.body = f ∧ (t.slot h.slot).cell.seq = (s.flow fl).next ∧
        (t.slot h.slot).cell.epoch = (s.flow fl).epoch) ∧
      (∀ j, j ≠ fl → t.flow j = s.flow j)) := by
  have htake : f.take (s.rdN (Obj.maxFrame b)) = f := List.take_of_length_le hmax
  obtain ⟨w, hw, hexec⟩ := clientFrame_fits (e := e) (ph := ph) hport hup h1 h2 hlen hfits htrap (htake.symm ▸ hp) (htake.symm ▸ he)
  have hentry := hw.seen.entry hlt
  have hinteg : w.integ = s.integ := by
    obtain ⟨x, y, rfl⟩ := hw.seen.shape
    rfl
  have hflow (k : Nat) : w.flow k = s.flow k := by
    unfold State.flow
    rw [hw.basin]
  obtain ⟨k, g, x, hflows, hnext, hlast, hheld, hslot⟩ := State.cutFrame_durable (s := w) (f := f) (bad := s.frameBad b f e)
    (by rw [hinteg]; exact hbad) (by rw [hentry]; exact hkind) (by rw [hw.basin]; exact hacc) (by rw [hflow]; exact hst) hshort
    ((hw.seen.openPage hw.basin fl false).trans hpage)
  rw [htake, hfl, hentry, if_neg (by simp [hon]; omega)] at hexec
  generalize w.cutFrame fl f (s.frameBad b f e) false = t at *
  rw [hflow] at hflows hnext hlast hheld hslot
  have ht : t.flow fl = x := by
    unfold State.flow
    rw [hflows, tget_tset_self]
  refine ⟨t, hexec, ?_, ?_, ⟨⟨(s.flow fl).next, k, 0, 0, false, false⟩, ?_, rfl, rfl, rfl, ?_⟩, fun j hj => ?_⟩
  · rw [ht, hnext] <;> rfl
  · rw [ht, hlast] <;> rfl
  · rw [ht, hheld] <;> rfl
  · rw [hslot]
    exact ⟨rfl, rfl, rfl, rfl⟩
  · rw [← hflow j]
    unfold State.flow
    rw [hflows, tget_tset_ne _ _ _ hj, tget_tset_ne _ _ _ hj]

/-- Settles O18. -/
theorem clientFramesAreClassifiedAndCut : Obligations.ClientFramesAreClassifiedAndCut := by
  unfold Obligations.ClientFramesAreClassifiedAndCut
  exact ⟨fun s b f e ph dr _ _ h => clientFrame_pfc h,
    fun s b f e ph dr hp hu h1 h2 => clientFrame_bad hp hu h1 h2,
    fun s b f e ph dr hp hu h1 h2 hl hfull hm => clientFrame_drops hp hu h1 h2 hl hfull hm.1 hm.2,
    fun s b f e ph dr hp hu h1 h2 hl hfull hm => clientFrame_ignoresPause hp hu h1 h2 hl hfull hm.1 hm.2,
    fun s b f e ph dr hp hu h1 h2 hl hfits ht hm => clientFrame_unclassified hp hu h1 h2 hl hfits ht hm.1 hm.2.1 hm.2.2,
    fun s b f e ph dr fl hp hu h1 h2 hl hfits ht hm hlt hon hk hb ho =>
      clientFrame_queued hp hu h1 h2 hl hfits ht hm.1 hm.2.1 hm.2.2 hlt hon hk hb ho,
    fun s b f e ph dr fl hp hu h1 h2 hl hfits ht hm hlt hon hk hb ho =>
      clientFrame_discarded hp hu h1 h2 hl hfits ht hm.1 hm.2.1 hm.2.2 hlt hon hk hb ho,
    fun s b f e ph dr fl k pg hp hu h1 h2 hl hs hmax hfits ht hpa he hfl hlt hon hk hb ha hst hpage =>
      clientFrame_durable hp hu h1 h2 hl hs hmax hfits ht hpa he hfl hlt hon hk hb ha hst hpage⟩

end

end Sys2Proof.Machine
end

section
/-! The restoration of the protection units (R307–R319). -/
open Sys2Proof Sys2Proof.Machine
namespace Sys2Proof.Machine

section
variable {s t u : State}

/-! #### What the parts of a restoration leave alone -/

/-- The units' registers, and every register that enables a group. -/
def RestKey (k : Nat) : Prop :=
  (0x3590 ≤ k / 256 ∧ k / 256 < 0x3594) ∨ (k % 256 = 1 ∧ 0x140 ≤ k / 256 % 0x200 ∧ k / 256 % 0x200 < 0x148)

theorem restKey_unit {i b : Nat} (hi : i < 4) (hb : b < 256) : RestKey (objKey (0x3590 + i) b) := by
  unfold RestKey objKey
  omega

theorem restKey_groupEnable {r g : Nat} (hg : g < 8) : RestKey (Obj.groupEnable r g) := by
  unfold RestKey Obj.groupEnable objKey
  omega

theorem RestKey.ne {k j : Nat} (h : RestKey k) (hj : ¬ RestKey j) : k ≠ j := fun hc => hj (hc ▸ h)

theorem KeepsRegs.rests {ks : List Nat} (h : KeepsRegs ks s t) (hk : ∀ j ∈ ks, ¬ RestKey j) : KeepsWhere RestKey s t :=
  fun j hj => h j fun hc => hk j hc hj

/-- The units, the tick and the registers that a restoration rests on stay; no event is taken back and no flow freed. -/
structure Rests (s t : State) : Prop where
  units : t.rest.units = s.rest.units
  tick : t.core.tick = s.core.tick
  base : t.start.lifeBase = s.start.lifeBase
  flight : ∀ e ∈ s.core.inFlight, e ∈ t.core.inFlight
  rd : KeepsWhere RestKey s t
  flows : ∀ f, (s.flow f).state ≠ 1 → (t.flow f).state ≠ 1

theorem Rests.refl : Rests s s := ⟨rfl, rfl, rfl, fun _ h => h, .refl, fun _ h => h⟩

theorem Rests.trans (h : Rests s t) (g : Rests t u) : Rests s u :=
  ⟨g.units.trans h.units, g.tick.trans h.tick, g.base.trans h.base, fun e he => g.flight e (h.flight e he), h.rd.trans g.rd,
    fun f hf => g.flows f (h.flows f hf)⟩

theorem Rests.wr (h : Rests s t) {j : Nat} (v : Int) (hj : ¬ RestKey j) : Rests s (t.wr j v) :=
  ⟨h.units, h.tick, h.base, h.flight, h.rd.wr v hj, h.flows⟩

theorem Rests.wrN (h : Rests s t) {j : Nat} (v : Nat) (hj : ¬ RestKey j) : Rests s (t.wrN j v) := h.wr _ hj

theorem Rests.raise (h : Rests s t) (code source arg : Nat) : Rests s (t.raise code source arg) :=
  ⟨h.units, h.tick, h.base, fun e he => List.mem_append_left _ (h.flight e he), h.rd.regs rfl, h.flows⟩

/-- An update of other parts of the state. -/
theorem Rests.same (h : Rests s t) (hr : u.regs = t.regs) (hu : u.rest.units = t.rest.units) (hc : u.core = t.core)
    (hb : u.start.lifeBase = t.start.lifeBase) (hf : u.basin.flows = t.basin.flows) : Rests s u :=
  ⟨hu.trans h.units, (congrArg CoreSt.tick hc).trans h.tick, hb.trans h.base, fun e he => hc ▸ h.flight e he, h.rd.regs hr,
    fun f hs => (congrArg (fun x => (tget (fun _ => ({} : Flow)) x f).state) hf).trans_ne (h.flows f hs)⟩

theorem Rests.regsOnly (h : RegsOnly s t) (hk : KeepsWhere RestKey s t) : Rests s t := by
  obtain ⟨x, rfl⟩ := h
  exact ⟨rfl, rfl, rfl, fun _ h => h, hk, fun _ h => h⟩

theorem Rests.each {α : Type} (h : Rests s t) {l : List α} {f : State → α → State} (hf : ∀ u, ∀ a ∈ l, Rests u (f u a)) :
    Rests s (t.each l f) :=
  State.each_mem_inv (Rests s) l f (fun v a ha hv => hv.trans (hf v a ha)) h

theorem Rests.life (h : Rests s t) : t.life = s.life := by
  unfold State.life
  rw [h.tick, h.base]

theorem Rests.unit (h : Rests s t) (i : Nat) : t.unit i = s.unit i := congrArg (fun x => tget (fun _ => ({} : UnitSt)) x i) h.units

theorem Rests.unitReg (h : Rests s t) {i b : Nat} (hi : i < 4) (hb : b < 256) :
    t.rdN (objKey (0x3590 + i) b) = s.rdN (objKey (0x3590 + i) b) := KeepsWhere.rdN h.rd (restKey_unit hi hb)

theorem State.enabledGroups_congr {r : Nat} (h : ∀ g, g < 8 → t.rd (Obj.groupEnable r g) = s.rd (Obj.groupEnable r g)) :
    t.enabledGroups r = s.enabledGroups r := by
  unfold State.enabledGroups upto
  refine List.filter_congr fun g hg => ?_
  unfold State.groupOn State.rdB
  rw [h g (List.mem_range.1 hg)]

theorem Rests.enabledGroups (h : Rests s t) (r : Nat) : t.enabledGroups r = s.enabledGroups r :=
  State.enabledGroups_congr fun _ hg => h.rd _ (restKey_groupEnable hg)

/-! #### The durable flows that a write elsewhere leaves in their lists -/

/-- No flow entry goes: those that stand in the registers stay there, and each reads as it did. -/
structure FlowsHeld (s t : State) : Prop where
  mem : ∀ p ∈ s.regs, flowOfKey p.1 ≠ none → p ∈ t.regs
  entry : ∀ f, f < 4096 → t.entry f = s.entry f

theorem FlowsHeld.refl : FlowsHeld s s := ⟨fun _ h _ => h, fun _ _ => rfl⟩

theorem FlowsHeld.trans (h : FlowsHeld s t) (g : FlowsHeld t u) : FlowsHeld s u :=
  ⟨fun p hp hf => g.mem p (h.mem p hp hf) hf, fun f hf => (g.entry f hf).trans (h.entry f hf)⟩

theorem mem_tput_of_mem {α : Type} {k : Nat} {v : α} {l : List (Nat × α)} {p : Nat × α} (hk : p.1 ≠ k) (h : p ∈ l) :
    p ∈ tput k v l := by
  induction l with
  | nil => exact absurd h List.not_mem_nil
  | cons q l ih =>
    obtain ⟨k', v'⟩ := q
    rw [tput]
    split
    · exact List.mem_cons_of_mem _ h
    · split
      · next hk' => exact List.mem_cons_of_mem _ ((List.mem_cons.1 h).resolve_left fun hc => hk ((congrArg Prod.fst hc).trans hk'.symm))
      · exact List.mem_cons.2 ((List.mem_cons.1 h).imp_right ih)

theorem mem_tset_of_mem {α : Type} [DecidableEq α] {d : Nat → α} {l : List (Nat × α)} {k : Nat} {v : α} {p : Nat × α}
    (hk : p.1 ≠ k) (h : p ∈ l) : p ∈ tset d l k v := by
  have hmem : p ∈ l.filter (fun q => q.1 != k) := List.mem_filter.2 ⟨h, bne_iff_ne.2 hk⟩
  unfold tset
  split
  · exact hmem
  · exact mem_tput_of_mem hk hmem

theorem FlowsHeld.wr (h : FlowsHeld s t) {j : Nat} (v : Int) (hj : j < 0x342000 ∨ 0x344000 ≤ j) : FlowsHeld s (t.wr j v) := by
  have hnone : flowOfKey j = none := if_neg (by omega)
  refine ⟨fun p hp hf => mem_tset_of_mem (fun hc => hf (hc ▸ hnone)) (h.mem p hp hf), fun f hf => ?_⟩
  have hk : flowKey f ≠ j := by
    simp only [flowKey, Obj.flowEntry, objKey]
    omega
  exact (State.wr_rdN_ne (h := hk) ..).trans (h.entry f hf)

theorem FlowsHeld.regs (h : FlowsHeld s t) (hr : u.regs = t.regs) : FlowsHeld s u :=
  ⟨fun p hp hf => hr ▸ h.mem p hp hf, fun f hf => (congrArg (fun x => (tget objDefault x (flowKey f)).toNat) hr).trans (h.entry f hf)⟩

theorem FlowsHeld.durable (h : FlowsHeld s t) {f : Nat} (hf : f ∈ s.durableFlows) : f ∈ t.durableFlows ∧ t.entry f = s.entry f := by
  obtain ⟨hon, hkind⟩ := List.mem_filter.1 hf
  obtain ⟨p, hp, hkey, hon⟩ := mem_flowsOn.1 hon
  have hentry := h.entry f (flowOfKey_lt hkey)
  refine ⟨List.mem_filter.2 ⟨mem_flowsOn.2 ⟨p, h.mem p hp (by rw [hkey]; simp), hkey, hon⟩, ?_⟩, hentry⟩
  rwa [hentry]

theorem FlowsHeld.reachFlows (h : FlowsHeld s t) {r f : Nat} (hf : f ∈ s.reachFlows r) : f ∈ t.reachFlows r := by
  obtain ⟨hd, hr⟩ := List.mem_filter.1 hf
  obtain ⟨hd', he⟩ := h.durable hd
  exact List.mem_filter.2 ⟨hd', by rwa [he]⟩

theorem State.unitOfWorking_congr {r : Nat} (hw : ∀ i, i < 4 → t.rdN (Obj.workingReach i) = s.rdN (Obj.workingReach i))
    (hm : ∀ i, i < 4 → t.rdN (Obj.unitMode i) = s.rdN (Obj.unitMode i)) : t.unitOfWorking r = s.unitOfWorking r := by
  unfold State.unitOfWorking
  refine List.find?_congr fun i hi => ?_
  rw [hw i (List.mem_range.1 hi), hm i (List.mem_range.1 hi)]

/-- The flows of a mated unit stay in its list where no unit's mode and working reach change. -/
theorem FlowsHeld.matedFlows (h : FlowsHeld s t) (hw : ∀ i, i < 4 → t.rdN (Obj.workingReach i) = s.rdN (Obj.workingReach i))
    (hm : ∀ i, i < 4 → t.rdN (Obj.unitMode i) = s.rdN (Obj.unitMode i)) {i f : Nat} (hf : f ∈ s.matedFlows i) : f ∈ t.matedFlows i := by
  obtain ⟨hd, hr⟩ := List.mem_filter.1 hf
  obtain ⟨hd', he⟩ := h.durable hd
  refine List.mem_filter.2 ⟨hd', ?_⟩
  unfold State.matedUnit at hr ⊢
  rw [he, State.unitOfWorking_congr hw hm]
  cases hu : s.unitOfWorking (entryReach (s.entry f)) with
  | none => rwa [hu] at hr
  | some j =>
    rw [hu] at hr
    dsimp only at hr ⊢
    rwa [hm j (List.mem_range.1 (List.mem_of_find?_eq_some hu))]

/-! #### The parts themselves -/

theorem rests_delayClear (s : State) (r cause : Nat) : Rests s (s.delayClear r cause) := by
  have hk : ¬ RestKey (Obj.delayValid r) := by
    unfold RestKey Obj.delayValid objKey
    omega
  have hset : Rests s (s.setDelay r { s.delay r with hist := [] }) := Rests.refl.same rfl rfl rfl rfl rfl
  unfold State.delayClear
  dsimp only
  split
  · exact (hset.wrN _ hk).raise _ _ _
  · exact hset.wrN _ hk

theorem flowsHeld_delayClear (s : State) (r cause : Nat) : FlowsHeld s (s.delayClear r cause) := by
  have hset : FlowsHeld s (s.setDelay r { s.delay r with hist := [] }) := FlowsHeld.refl.regs rfl
  have hshow (v : State) : FlowsHeld v (v.showDelayValid r) :=
    FlowsHeld.refl.wr _ (.inr (by unfold Obj.delayValid objKey; omega))
  replace hset := hset.trans (hshow _)
  unfold State.delayClear
  dsimp only
  split
  · exact hset.regs rfl
  · exact hset

theorem rests_wakeMateOp (s : State) : Rests s s.wakeMateOp := by
  have h : Rests s { s with towpath.wakeUntil := s.core.tick + 1000 } := Rests.refl.same rfl rfl rfl rfl rfl
  unfold State.wakeMateOp
  refine h.each fun v l hl => Rests.refl.wrN _ ?_
  have := List.mem_range.1 hl
  unfold RestKey Obj.laneRate objKey
  omega

theorem flowsHeld_wakeMateOp (s : State) : FlowsHeld s s.wakeMateOp :=
  State.each_mem_inv (FlowsHeld s) (List.range 8) (fun v l => v.wrN (Obj.laneRate l) 0)
    (fun v l _ hv => hv.wr _ (.inr (by simp only [Obj.laneRate, objKey]; omega))) (FlowsHeld.refl.regs rfl)

/-- A flow that freezes is in service no more, and no other flow is freed. -/
theorem rests_freeze (s : State) (f : Nat) : Rests s (s.freeze f) ∧ ((s.freeze f).flow f).state ≠ 1 := by
  have hset (x : Flow) (hx : x.state = 2) : Rests s (s.setFlow f x) ∧ ((s.setFlow f x).flow f).state ≠ 1 := by
    have hself : (s.setFlow f x).flow f = x := tget_tset_self (fun _ => ({} : Flow)) s.basin.flows f x
    refine ⟨⟨rfl, rfl, rfl, fun _ h => h, .regs .refl rfl, fun g hg => ?_⟩, by rw [hself, hx]; decide⟩
    by_cases hgf : g = f
    · rw [hgf, hself, hx]
      decide
    · rwa [show (s.setFlow f x).flow g = s.flow g from tget_tset_ne _ _ _ hgf]
  unfold State.freeze
  dsimp only
  split
  · exact hset _ rfl
  · split
    · obtain ⟨hr, hf⟩ := hset { s.flow f with state := 2, reconcile := 0, entered := false, drain := [] } rfl
      generalize State.setFlow _ _ _ = v at *
      split
      · have hop : Rests v (v.opAbort 7 0) :=
          ((Rests.refl.wrN _ (by unfold RestKey Obj.opLastStatus objKey; omega)).wrN _
            (by unfold RestKey Obj.opState objKey; omega)).raise _ _ _
        exact ⟨hr.trans (hop.same rfl rfl rfl rfl rfl), hf⟩
      · exact ⟨hr, hf⟩
    · next h1 _ => exact ⟨.refl, h1⟩

theorem rests_freezeAll (s : State) (fs : List Nat) : Rests s (s.freezeAll fs) := Rests.refl.each fun v f _ => (rests_freeze v f).1

theorem State.freezeAll_frozen (s : State) {fs : List Nat} {f : Nat} (hf : f ∈ fs) : ((s.freezeAll fs).flow f).state ≠ 1 := by
  induction fs generalizing s with
  | nil => exact absurd hf List.not_mem_nil
  | cons g fs ih =>
    obtain rfl | hf := List.mem_cons.1 hf
    · exact (rests_freezeAll (s.freeze f) fs).flows f (rests_freeze s f).2
    · exact ih (s.freeze g) hf

theorem rests_putMate (s : State) (every : Bool) (m : List Byte) : Rests s (s.putMate every m) := by
  have hk : ¬ RestKey Obj.messagesSent := by
    unfold RestKey Obj.messagesSent objKey
    omega
  unfold State.putMate
  extract_lets up _ dest s1 s2
  have h1 : Rests s s1 := Rests.refl.same rfl rfl rfl rfl rfl
  have h2 : Rests s s2 := by
    refine h1.each fun v l _ => ?_
    exact Rests.refl.same rfl rfl rfl rfl rfl
  split
  · split
    · exact Rests.refl.same rfl rfl rfl rfl rfl
    · exact .refl
  · exact h2.wrN _ hk

theorem rests_sendMate (s : State) (every : Bool) (type flags : Nat) (body : List Byte) : Rests s (s.sendMate every type flags body).1 :=
  Rests.trans (t := { s with towpath.msgSeq := (s.towpath.msgSeq + 1) % 65536 }) (Rests.refl.same rfl rfl rfl rfl rfl)
    (rests_putMate _ _ _)

theorem rests_sendNotice (s : State) (i cause start : Nat) (switch : Bool) : Rests s (s.sendNotice i cause start switch) := by
  unfold State.sendNotice
  split
  · have hsend := rests_sendMate s true 2 (if switch then 2 else 0) (s.noticeBody i cause start)
    generalize State.sendMate _ _ _ _ _ = q at *
    obtain ⟨v, m⟩ := q
    dsimp only
    split
    · exact hsend
    · exact hsend.same rfl rfl rfl rfl rfl
  · exact .refl

theorem rests_showTx (s : State) (r g : Nat) (hg : g < 8) : Rests s (s.showTx r g) := by
  obtain ⟨hregs, -, -, hkeep⟩ := s.showTx_spec r g
  refine .regsOnly hregs fun k hk => hkeep k (hk.ne ?_) (hk.ne ?_) fun sc hsc => hk.ne ?_
  · unfold RestKey Obj.loadingMapVersion objKey
    omega
  · unfold RestKey Obj.codedBitsTx objKey
    omega
  · unfold RestKey Obj.loadingTx objKey
    omega

theorem rests_showRx (s : State) (r g : Nat) (hg : g < 8) : Rests s (s.showRx r g) := by
  obtain ⟨hregs, hkeep⟩ := s.showRx_spec r g
  refine .regsOnly hregs fun k hk => hkeep k (hk.ne ?_) fun sc hsc => hk.ne ?_
  · unfold RestKey Obj.rxMapVersion objKey
    omega
  · unfold RestKey Obj.loadingRx objKey
    omega

theorem rests_showAnn (s : State) (r g : Nat) (hg : g < 8) : Rests s (s.showAnn r g) := by
  obtain ⟨hregs, hkeep, -⟩ := s.showAnn_spec r g
  refine .regsOnly hregs (hkeep.rests fun j hj => ?_)
  obtain rfl | rfl : j = Obj.announcedVersion r g ∨ j = Obj.announcedTick r g := by simpa using hj
  · unfold RestKey Obj.announcedVersion objKey
    omega
  · unfold RestKey Obj.announcedTick objKey
    omega

/-- The load of a group whose probe map comes into force on transmit (R163). -/
def State.probed (s : State) (r g : Nat) : Load :=
  { s.load r g with tx := none, cand := none, ann := none, report := none,
                    lastSwitch := if (s.load r g).tx.isSome then s.core.tick else (s.load r g).lastSwitch }

/-- What a group's probe map on transmit leaves: registers and its load alone change. -/
theorem State.txToProbe_parts (s : State) (r g : Nat) (hg : g < 8) : Rests s (s.txToProbe r g) ∧ (s.txToProbe r g).core = s.core ∧
    ∀ q h, (s.txToProbe r g).load q h = if 8 * q + h = 8 * r + g then s.probed r g else s.load q h := by
  have hop : s.txToProbe r g = ((if (s.load r g).tx.isSome = true then (s.setLoad r g (s.probed r g)).inc (Obj.mapSwitches r g)
      else s.setLoad r g (s.probed r g)).showTx r g).showAnn r g := rfl
  have hset : Rests s (s.setLoad r g (s.probed r g)) := Rests.refl.same rfl rfl rfl rfl rfl
  have hload (q h : Nat) : (s.setLoad r g (s.probed r g)).load q h = if 8 * q + h = 8 * r + g then s.probed r g else s.load q h :=
    tget_tset ..
  have hcore : (s.setLoad r g (s.probed r g)).core = s.core := rfl
  have hk : ¬ RestKey (Obj.mapSwitches r g) := by
    unfold RestKey Obj.mapSwitches objKey
    omega
  rw [hop]
  generalize s.setLoad r g (s.probed r g) = v at *
  obtain ⟨hregs, hkeep⟩ := v.switchCounted_spec r g (s.load r g).tx.isSome
  have hcount := Rests.regsOnly hregs (hkeep.rests fun j hj => List.mem_singleton.1 hj ▸ hk)
  generalize (if (s.load r g).tx.isSome = true then v.inc (Obj.mapSwitches r g) else v) = w at *
  have hall : RegsOnly v ((w.showTx r g).showAnn r g) := (hregs.trans (w.showTx_spec r g).1).trans (State.showAnn_spec _ r g).1
  refine ⟨(hset.trans hcount).trans ((rests_showTx w r g hg).trans (rests_showAnn _ r g hg)), hall.core.trans hcore, fun q h => ?_⟩
  rw [hall.load, hload]

/-- A group of a reach that starts (R310). -/
theorem rests_groupStart (s : State) (r g : Nat) (hg : g < 8) : Rests s (s.groupStart r g) := by
  unfold State.groupStart
  extract_lets s1 x n s2 s3
  have h1 : Rests s s1 := (s.txToProbe_parts r g hg).1
  clear_value s1
  have h2 : Rests s s2 := h1.same rfl rfl rfl rfl rfl
  clear_value s2
  have h3 : Rests s s3 := h2.each fun v sc hsc => Rests.refl.wr _ (by
    have := State.mem_groupScs hsc
    unfold RestKey Obj.snrAvg objKey
    omega)
  exact h3.trans ((rests_showRx s3 r g hg).trans (rests_showTx _ r g hg))

/-! #### The start of a restoration (R307, R310 to R312) -/

/-- The unit as its restoration starts. -/
def State.unitStarted (s : State) (i failed : Nat) : UnitSt :=
  { s.unit i with trigger := none, decided := false, planned := none, start := s.core.tick, limitFrom := s.core.tick,
                  failed := failed, affected := s.enabledGroups failed, goodSince := none, disarmAt := none }

/-- The reach that fails in a restoration of the unit. -/
def State.failedReach (s : State) (i : Nat) : Nat :=
  if s.uMode i = 2 then s.sideReach i (s.unit i).side else s.rdN (Obj.workingReach i)

/-- The start of a restoration noted in the unit and its registers. -/
def State.restNoted (s : State) (i : Nat) : State :=
  ((s.setUnit i (s.unitStarted i (s.failedReach i))).wrN (Obj.restoreStartTick i) s.core.tick).inc (Obj.restorations i)

/-- What a restoration's start does in every mode: it is noted and announced, the delay history is forgotten, a mate woken. -/
def State.restBegun (s : State) (i cause : Nat) : State :=
  let t := s.restNoted i
  let taken := if s.uMode i = 1 then t.rdN (Obj.pathInUse i) else if s.uMode i = 2 then 1 - (s.unit i).side else 1
  let t := (t.raise 0xC0A0 (unitSource i) (256 * cause + taken)).delayClear (s.failedReach i) 2
  if t.rdB Obj.mated && t.lanesUp.isEmpty then t.wakeMateOp else t

theorem State.restBegun_spec (s : State) (i : Fin 4) (cause : Nat) :
    (s.restBegun i cause).unit i = s.unitStarted i (s.failedReach i) ∧ (s.restBegun i cause).core.tick = s.core.tick ∧
    (s.restBegun i cause).life = s.life ∧
    ⟨0xC0A0, 0x3590 + i.val, 256 * cause + (if s.uMode i = 1 then s.rdN (Obj.pathInUse i) else if s.uMode i = 2 then 1 - (s.unit i).side
      else 1), s.core.tick, s.life⟩ ∈ (s.restBegun i cause).core.inFlight ∧
    (s.restBegun i cause).rdN (Obj.restoreStartTick i) = s.core.tick ∧
    (s.restBegun i cause).rdN (Obj.restorations i) = (s.rdN (Obj.restorations i) + 1) % 2 ^ 64 ∧
    (∀ j c, j < 4 → c < 21 → (s.restBegun i cause).rdN (objKey (0x3590 + j) c) = s.rdN (objKey (0x3590 + j) c)) ∧
    (∀ r, (s.restBegun i cause).enabledGroups r = s.enabledGroups r) ∧
    FlowsHeld s (s.restBegun i cause) := by
  have hne : Obj.restoreStartTick i ≠ Obj.restorations i := by unfold Obj.restoreStartTick Obj.restorations objKey; omega
  have hfar (b : Nat) (hb : 1 ≤ b) : 0x344000 ≤ objKey (0x3590 + i) b := by unfold objKey; omega
  have hnoted : (s.restNoted i).unit i = s.unitStarted i (s.failedReach i) := State.setUnit_unit ..
  have hpath : (s.restNoted i).rdN (Obj.pathInUse i) = s.rdN (Obj.pathInUse i) :=
    (State.inc_rdN_ne (h := by unfold Obj.pathInUse Obj.restorations objKey; omega) ..).trans
      (State.wrN_rdN_ne (h := by unfold Obj.pathInUse Obj.restoreStartTick objKey; omega) ..)
  have hstart : (s.restNoted i).rdN (Obj.restoreStartTick i) = s.core.tick :=
    (State.inc_rdN_ne (h := hne) ..).trans (State.wrN_rdN_self ..)
  have hcount : (s.restNoted i).rdN (Obj.restorations i) = (s.rdN (Obj.restorations i) + 1) % 2 ^ 64 :=
    (State.inc_rdN_self ..).trans (congrArg (fun n => (n + 1) % 2 ^ 64) (State.wrN_rdN_ne (h := hne.symm) ..))
  have hrd (k : Nat) (h1 : k ≠ Obj.restoreStartTick i) (h2 : k ≠ Obj.restorations i) : (s.restNoted i).rd k = s.rd k :=
    (State.wr_rd_ne _ _ _ _ h2).trans (State.wr_rd_ne _ _ _ _ h1)
  have hflows : FlowsHeld s (s.restNoted i) := by
    have h : FlowsHeld s (s.setUnit i (s.unitStarted i (s.failedReach i))) := FlowsHeld.refl.regs rfl
    exact (h.wr _ (.inr (hfar 21 (by decide)))).wr _ (.inr (hfar 23 (by decide)))
  have hcore : (s.restNoted i).core = s.core := rfl
  have hlife : (s.restNoted i).life = s.life := rfl
  unfold State.restBegun
  extract_lets n taken v
  rw [show s.restNoted i = n from rfl] at hnoted hpath hstart hcount hflows hcore hlife
  replace hrd : ∀ k, k ≠ Obj.restoreStartTick i → k ≠ Obj.restorations i → n.rd k = s.rd k := hrd
  have htaken : taken = if s.uMode i = 1 then s.rdN (Obj.pathInUse i) else if s.uMode i = 2 then 1 - (s.unit i).side else 1 := by
    simp only [taken, hpath]
  rw [← htaken]
  clear_value taken n
  have hraised : (n.raise 0xC0A0 (unitSource i) (256 * cause + taken)).core.inFlight =
      s.core.inFlight ++ [⟨0xC0A0, 0x3590 + i.val, 256 * cause + taken, s.core.tick, s.life⟩] := by
    rw [← hlife, ← hcore] <;> rfl
  have hclear := rests_delayClear (n.raise 0xC0A0 (unitSource i) (256 * cause + taken)) (s.failedReach i) 2
  have hclear' := flowsHeld_delayClear (n.raise 0xC0A0 (unitSource i) (256 * cause + taken)) (s.failedReach i) 2
  have hwoken : Rests (n.raise 0xC0A0 (unitSource i) (256 * cause + taken))
        (if v.rdB Obj.mated && v.lanesUp.isEmpty then v.wakeMateOp else v) ∧
      FlowsHeld (n.raise 0xC0A0 (unitSource i) (256 * cause + taken))
        (if v.rdB Obj.mated && v.lanesUp.isEmpty then v.wakeMateOp else v) := by
    split
    · exact ⟨hclear.trans (rests_wakeMateOp v), hclear'.trans (flowsHeld_wakeMateOp v)⟩
    · exact ⟨hclear, hclear'⟩
  generalize (if v.rdB Obj.mated && v.lanesUp.isEmpty then v.wakeMateOp else v) = w at *
  obtain ⟨hr, hf⟩ := hwoken
  have hreg (b : Nat) (hb : b < 256) : w.rdN (objKey (0x3590 + i) b) = n.rdN (objKey (0x3590 + i) b) := hr.unitReg i.isLt hb
  have htick : (n.raise 0xC0A0 (unitSource i) (256 * cause + taken)).core.tick = s.core.tick := by
    show n.core.tick = s.core.tick
    rw [hcore]
  have hn : FlowsHeld s (n.raise 0xC0A0 (unitSource i) (256 * cause + taken)) := hflows.regs rfl
  refine ⟨(hr.unit i).trans hnoted, hr.tick.trans htick, hr.life.trans hlife, hr.flight _ ?_,
    (hreg 21 (by decide)).trans hstart, (hreg 23 (by decide)).trans hcount, fun j c hj hc => ?_, fun r => ?_,
    hn.trans hf⟩
  · rw [hraised]
    exact List.mem_append_right _ (List.mem_singleton_self _)
  · exact (hr.unitReg hj (by omega)).trans <|
      congrArg Int.toNat (hrd _ (by unfold Obj.restoreStartTick objKey; omega) (by unfold Obj.restorations objKey; omega))
  · refine (hr.enabledGroups r).trans (State.enabledGroups_congr fun g hg => hrd _ ?_ ?_)
    · unfold Obj.groupEnable Obj.restoreStartTick objKey
      omega
    · unfold Obj.groupEnable Obj.restorations objKey
      omega

/-- The rest of a PATH unit's start. -/
def State.restPath (s : State) (i cause failed : Nat) : State :=
  let s := s.freezeAll (s.reachFlows failed)
  if cause = 1 then (s.wrN (Obj.unitState i) 5).raise 0xC0A2 (unitSource i) 0 else s.wrN (Obj.unitState i) 3

/-- The rest of a REACH unit's start: the other side's groups start where it was dark. -/
def State.restReach (s : State) (i side failed : Nat) (gs : List Nat) : State :=
  let s := if s.rdN (Obj.durableSide i) = side then s.freezeAll (s.unitFlows i) else s
  let s := (s.setDurableSide i (1 - side)).setUnit i { (s.unit i) with side := 1 - side }
  let s := s.withdrawOn i failed
  let other := s.sideReach i (1 - side)
  let s := if s.rdN (Obj.unitStandby i) = 1 ∧ s.conv.dark.contains other then s.each gs (fun s g => s.groupStart other g) else s
  s.wrN (Obj.unitState i) 3

/-- The rest of a MATED unit's start: its mate hears of it. -/
def State.restMated (s : State) (i cause start failed : Nat) : State :=
  let s := (s.freezeAll (s.matedFlows i)).setDurableSide i 1
  let s := (s.sendNotice i cause start true).withdrawOn i failed
  s.wrN (Obj.unitState i) 3

theorem State.restoreStart_eq (s : State) (i cause : Nat) : s.restoreStart i cause =
    if s.uMode i = 1 then (s.restBegun i cause).restPath i cause (s.failedReach i)
    else if s.uMode i = 2 then (s.restBegun i cause).restReach i (s.unit i).side (s.failedReach i) (s.enabledGroups (s.failedReach i))
    else (s.restBegun i cause).restMated i cause s.core.tick (s.failedReach i) := rfl

theorem restKey_ne_unitState {i b : Nat} (hb : b ≠ 16) : objKey (0x3590 + i) b ≠ Obj.unitState i := by
  unfold Obj.unitState objKey
  omega

theorem pathUnit_starts (i : Fin 4) (cause : Nat) (hmode : s.uMode i = 1) :
    let t := s.restoreStart i cause
    t.uState i = (if cause = 1 then 5 else 3) ∧ (t.unit i).trigger = none ∧ (t.unit i).start = s.core.tick ∧
      (t.unit i).limitFrom = s.core.tick ∧ t.rdN (Obj.pathInUse i) = s.rdN (Obj.pathInUse i) ∧
      (∀ f ∈ s.reachFlows (s.rdN (Obj.workingReach i)), (t.flow f).state ≠ 1) ∧
      ⟨0xC0A0, 0x3590 + i.val, 256 * cause + s.rdN (Obj.pathInUse i), s.core.tick, s.life⟩ ∈ t.core.inFlight ∧
      (cause = 1 → ⟨0xC0A2, 0x3590 + i.val, 0, s.core.tick, s.life⟩ ∈ t.core.inFlight) := by
  obtain ⟨hunit, htick, hlife, hevent, -, -, hreg, hgroups, hflows⟩ := s.restBegun_spec i cause
  have hfailed : s.failedReach i = s.rdN (Obj.workingReach i) := if_neg (by omega)
  rw [if_pos hmode] at hevent
  rw [State.restoreStart_eq, if_pos hmode, hfailed]
  rw [hfailed] at hunit
  generalize State.restBegun _ _ _ = b at *
  have hrests := rests_freezeAll b (b.reachFlows (s.rdN (Obj.workingReach i)))
  have hfrozen (f : Nat) (hf : f ∈ s.reachFlows (s.rdN (Obj.workingReach i))) :=
    b.freezeAll_frozen (hflows.reachFlows hf)
  unfold State.restPath
  generalize State.freezeAll _ _ = v at *
  have hvunit : v.unit i = s.unitStarted i (s.rdN (Obj.workingReach i)) := (hrests.unit i).trans hunit
  have hpath : v.rdN (Obj.pathInUse i) = s.rdN (Obj.pathInUse i) :=
    (hrests.unitReg i.isLt (by decide)).trans (hreg i 17 i.isLt (by decide))
  have hput (st : Nat) : (v.wrN (Obj.unitState i) st).rdN (Obj.pathInUse i) = s.rdN (Obj.pathInUse i) :=
    (State.wrN_rdN_ne (h := restKey_ne_unitState (by decide)) ..).trans hpath
  have hlast : v.core.tick = s.core.tick ∧ v.life = s.life := ⟨hrests.tick.trans htick, hrests.life.trans hlife⟩
  dsimp only
  by_cases hcause : cause = 1
  · rw [if_pos hcause, if_pos hcause]
    refine ⟨State.wrN_rdN_self .., congrArg UnitSt.trigger hvunit, congrArg UnitSt.start hvunit, congrArg UnitSt.limitFrom hvunit,
      hput 5, hfrozen, List.mem_append_left _ (hrests.flight _ hevent), fun _ => ?_⟩
    rw [← hlast.1, ← hlast.2]
    exact List.mem_append_right _ (List.mem_singleton_self _)
  · rw [if_neg hcause, if_neg hcause]
    exact ⟨State.wrN_rdN_self .., congrArg UnitSt.trigger hvunit, congrArg UnitSt.start hvunit, congrArg UnitSt.limitFrom hvunit,
      hput 3, hfrozen, hrests.flight _ hevent, fun hc => absurd hc hcause⟩

theorem matedUnit_starts (i : Fin 4) (cause : Nat) (hmode : s.uMode i = 3) :
    let t := s.restoreStart i cause
    t.uState i = 3 ∧ (t.unit i).trigger = none ∧ (t.unit i).start = s.core.tick ∧
      ⟨s.rdN (Obj.workingReach i), s.core.tick + s.rdN (Obj.withdrawTicks i),
        s.enabledGroups (s.rdN (Obj.workingReach i))⟩ ∈ (t.unit i).withdraw ∧
      (∀ f ∈ s.matedFlows i, (t.flow f).state ≠ 1) ∧
      ⟨0xC0A0, 0x3590 + i.val, 256 * cause + 1, s.core.tick, s.life⟩ ∈ t.core.inFlight := by
  obtain ⟨hunit, htick, hlife, hevent, -, -, hreg, hgroups, hflows⟩ := s.restBegun_spec i cause
  have hfailed : s.failedReach i = s.rdN (Obj.workingReach i) := if_neg (by omega)
  rw [if_neg (by omega), if_neg (by omega)] at hevent
  rw [State.restoreStart_eq, if_neg (by omega), if_neg (by omega), hfailed]
  rw [hfailed] at hunit
  generalize State.restBegun _ _ _ = b at *
  have hfrozen (f : Nat) (hf : f ∈ s.matedFlows i) := b.freezeAll_frozen (fs := b.matedFlows i)
    (hflows.matedFlows (fun j hj => hreg j 2 hj (by decide)) (fun j hj => hreg j 1 hj (by decide)) hf)
  have hr0 := rests_freezeAll b (b.matedFlows i)
  unfold State.restMated
  generalize State.freezeAll _ _ = v at *
  dsimp only
  have hr := rests_sendNotice (v.setDurableSide i 1) i cause s.core.tick true
  generalize State.sendNotice _ _ _ _ _ = w at *
  have hwunit : w.unit i = s.unitStarted i (s.rdN (Obj.workingReach i)) := (hr.unit i).trans ((hr0.unit i).trans hunit)
  have hwtick : w.core.tick = s.core.tick := hr.tick.trans (hr0.tick.trans htick)
  have hwait : w.rdN (Obj.withdrawTicks i) = s.rdN (Obj.withdrawTicks i) := (hr.unitReg i.isLt (by decide)).trans <|
    (State.wrN_rdN_ne (h := by unfold Obj.durableSide objKey; omega) ..).trans <|
      (hr0.unitReg i.isLt (by decide)).trans (hreg i 8 i.isLt (by decide))
  have hwgroups (r : Nat) : w.enabledGroups r = s.enabledGroups r := by
    refine (hr.enabledGroups r).trans <| (State.enabledGroups_congr fun g hg => State.wrN_rd_ne (h := ?_) ..).trans <|
      (hr0.enabledGroups r).trans (hgroups r)
    unfold Obj.groupEnable Obj.durableSide objKey
    omega
  have hself : ((w.withdrawOn i (s.rdN (Obj.workingReach i))).wrN (Obj.unitState i) 3).unit i = _ := State.setUnit_unit ..
  rw [hwait, hwtick, hwgroups, hwunit] at hself
  rw [hself]
  refine ⟨State.wrN_rdN_self .., rfl, rfl, List.mem_append_right _ (List.mem_singleton_self _), fun f hf => hr.flows f (hfrozen f hf),
    hr.flight _ (hr0.flight _ hevent)⟩

/-- The unit with the withdrawal of a reach's frames begun (R312). -/
def State.withdrawing (s : State) (i r : Nat) : UnitSt :=
  { s.unit i with
    withdraw := (s.unit i).withdraw.filter (fun w => w.reach != r) ++ [⟨r, s.core.tick + s.rdN (Obj.withdrawTicks i), s.enabledGroups r⟩]
    affected := s.enabledGroups r }

theorem State.withdrawOn_unit (s : State) (i r : Nat) : (s.withdrawOn i r).unit i = s.withdrawing i r := State.setUnit_unit ..

/-- What a REACH unit's start leaves of the state in which it begins. -/
theorem State.restReach_spec (s : State) (i : Fin 4) (side failed : Nat) (gs : List Nat) (hgs : ∀ g ∈ gs, g < 8) :
    (s.restReach i side failed gs).uState i = 3 ∧
    (s.restReach i side failed gs).unit i = { s.withdrawing i failed with side := 1 - side } ∧
    (s.restReach i side failed gs).rdN (Obj.durableSide i) = 1 - side ∧
    (∀ c, c < 256 → c ≠ 16 → c ≠ 18 → (s.restReach i side failed gs).rdN (objKey (0x3590 + i) c) = s.rdN (objKey (0x3590 + i) c)) ∧
    (∀ e ∈ s.core.inFlight, e ∈ (s.restReach i side failed gs).core.inFlight) ∧
    (s.rdN (Obj.durableSide i) = side → ∀ f ∈ s.unitFlows i, ((s.restReach i side failed gs).flow f).state ≠ 1) := by
  unfold State.restReach
  extract_lets v _ w x other y
  have hv : Rests s v ∧ (s.rdN (Obj.durableSide i) = side → ∀ f ∈ s.unitFlows i, (v.flow f).state ≠ 1) := by
    simp only [v]
    split
    · exact ⟨rests_freezeAll s _, fun _ f hf => s.freezeAll_frozen hf⟩
    · next h => exact ⟨.refl, fun hc => absurd hc h⟩
  obtain ⟨hv, hfrozen⟩ := hv
  clear_value v
  have hgroups : w.enabledGroups failed = s.enabledGroups failed := by
    refine (State.enabledGroups_congr fun g hg => State.wrN_rd_ne v _ _ _ ?_).trans (hv.enabledGroups failed)
    unfold Obj.groupEnable Obj.durableSide objKey
    omega
  have hwreg (c : Nat) (hc : c < 256) (h18 : c ≠ 18) : w.rdN (objKey (0x3590 + i) c) = s.rdN (objKey (0x3590 + i) c) :=
    (State.wrN_rdN_ne v _ _ _ (by unfold Obj.durableSide objKey; omega)).trans (hv.unitReg i.isLt hc)
  have hwunit : w.unit i = { s.unit i with side := 1 - side } := (State.setUnit_unit ..).trans (by rw [← hv.unit i])
  have hwtick : w.core.tick = s.core.tick := hv.tick
  have hwait : w.rdN (Obj.withdrawTicks i) = s.rdN (Obj.withdrawTicks i) := hwreg 8 (by decide) (by decide)
  have hxunit : x.unit i = { s.withdrawing i failed with side := 1 - side } := by
    refine (State.withdrawOn_unit w i failed).trans ?_
    unfold State.withdrawing
    rw [hwait, hwtick, hgroups, hwunit]
  have hxside : x.rdN (Obj.durableSide i) = 1 - side := by
    have hset : x.rdN (Obj.durableSide i) = (v.setDurableSide i (1 - side)).rdN (Obj.durableSide i) := rfl
    exact hset.trans (State.wrN_rdN_self v (Obj.durableSide i) (1 - side))
  have hy : Rests x y := by
    simp only [y]
    split
    · exact Rests.refl.each fun z g hg => rests_groupStart z other g (hgs g hg)
    · exact .refl
  clear_value y
  have hstate : (y.wrN (Obj.unitState i) 3).uState i = 3 := State.wrN_rdN_self ..
  have hflight (e : Event) (he : e ∈ s.core.inFlight) : e ∈ y.core.inFlight := hy.flight e (hv.flight e he)
  have hstill (hd : s.rdN (Obj.durableSide i) = side) (f : Nat) (hf : f ∈ s.unitFlows i) : (y.flow f).state ≠ 1 :=
    hy.flows f (hfrozen hd f hf)
  have hyunit := (hy.unit i).trans hxunit
  refine ⟨hstate, hyunit, ?_, ?_, hflight, hstill⟩
  · exact (State.wrN_rdN_ne (h := restKey_ne_unitState (by decide)) ..).trans ((hy.unitReg i.isLt (by decide)).trans hxside)
  · intro c hc h16 h18
    exact (State.wrN_rdN_ne (h := restKey_ne_unitState h16) ..).trans ((hy.unitReg i.isLt hc).trans (hwreg c hc h18))

theorem reachUnit_starts (i : Fin 4) (cause : Nat) (hmode : s.uMode i = 2) :
    let t := s.restoreStart i cause
    t.uState i = 3 ∧ (t.unit i).trigger = none ∧ (t.unit i).start = s.core.tick ∧ (t.unit i).limitFrom = s.core.tick ∧
      (t.unit i).side = 1 - (s.unit i).side ∧ t.rdN (Obj.durableSide i) = 1 - (s.unit i).side ∧
      (t.unit i).failed = s.sideReach i (s.unit i).side ∧
      (t.unit i).affected = s.enabledGroups (s.sideReach i (s.unit i).side) ∧
      ⟨s.sideReach i (s.unit i).side, s.core.tick + s.rdN (Obj.withdrawTicks i),
        s.enabledGroups (s.sideReach i (s.unit i).side)⟩ ∈ (t.unit i).withdraw ∧
      (∀ w ∈ (s.unit i).withdraw, w.reach ≠ s.sideReach i (s.unit i).side → w ∈ (t.unit i).withdraw) ∧
      t.rdN (Obj.restoreStartTick i) = s.core.tick ∧
      t.rdN (Obj.restorations i) = (s.rdN (Obj.restorations i) + 1) % 2 ^ 64 ∧
      (s.rdN (Obj.durableSide i) = (s.unit i).side → ∀ f ∈ s.unitFlows i, (t.flow f).state ≠ 1) ∧
      ⟨0xC0A0, 0x3590 + i.val, 256 * cause + (1 - (s.unit i).side), s.core.tick, s.life⟩ ∈ t.core.inFlight := by
  obtain ⟨hunit, htick, hlife, hevent, hstart, hcount, hreg, hgroups, hflows⟩ := s.restBegun_spec i cause
  have hfailed : s.failedReach i = s.sideReach i (s.unit i).side := if_pos hmode
  rw [if_neg (by omega), if_pos hmode] at hevent
  rw [State.restoreStart_eq, if_neg (by omega), if_pos hmode, hfailed]
  rw [hfailed] at hunit
  generalize State.restBegun _ _ _ = b at *
  obtain ⟨hstate, hunit', hside, hreg', hflight, hfrozen⟩ := b.restReach_spec i (s.unit i).side (s.sideReach i (s.unit i).side)
    (s.enabledGroups (s.sideReach i (s.unit i).side)) fun g hg => (mem_upto.1 hg).1
  generalize State.restReach _ _ _ _ _ = t at *
  have hwait : b.rdN (Obj.withdrawTicks i) = s.rdN (Obj.withdrawTicks i) := hreg i 8 i.isLt (by decide)
  unfold State.withdrawing at hunit'
  rw [hwait, htick, hgroups, hunit] at hunit'
  dsimp only
  rw [hunit']
  refine ⟨hstate, rfl, rfl, rfl, rfl, hside, rfl, rfl, List.mem_append_right _ (List.mem_singleton_self _), fun w hw hne => ?_,
    (hreg' 21 (by decide) (by decide) (by decide)).trans hstart, (hreg' 23 (by decide) (by decide) (by decide)).trans hcount,
    fun hd f hf => hfrozen ((hreg i 18 i.isLt (by decide)).trans hd) f ?_, hflight _ hevent⟩
  · exact List.mem_append_left _ (List.mem_filter.2 ⟨hw, bne_iff_ne.2 hne⟩)
  · unfold State.unitFlows
    rw [show b.rdN (Obj.workingReach i) = s.rdN (Obj.workingReach i) from hreg i 2 i.isLt (by decide)]
    exact hflows.reachFlows hf

end

section
variable {s t u : State}

/-! #### The path switch (R308, Table 12.2 steps 3 to 5) -/

theorem Rests.eqOnly (h : EqOnly s t) (hk : KeepsWhere RestKey s t) : Rests s t := by
  obtain ⟨x, e, rfl⟩ := h
  exact ⟨rfl, rfl, rfl, fun _ h => h, hk, fun _ h => h⟩

theorem rests_watchSuppress (s : State) (r : Nat) : Rests s (s.watchSuppress r) := by
  obtain ⟨x, e, heq, hkeep⟩ := s.watchSuppress_spec r
  refine .eqOnly ⟨x, e, heq⟩ (hkeep.rests fun j hj => ?_)
  obtain rfl | rfl : j = Obj.watchState r ∨ j = Obj.watchScore r := by simpa using hj
  · unfold RestKey Obj.watchState objKey
    omega
  · unfold RestKey Obj.watchScore objKey
    omega

theorem rests_eqRetrain (s : State) (r : Nat) : Rests s (s.eqRetrain r (List.range 64) false) := by
  obtain ⟨heq, hkeep, -⟩ := State.eqRetrain_spec (fun _ h => List.mem_range.1 h) (rfl : s.eqRetrain r (List.range 64) false = _)
  refine .eqOnly heq (hkeep.rests fun j hj => ?_)
  obtain hj | hj := List.mem_append.1 hj
  · simp only [List.mem_cons, List.not_mem_nil, or_false, Obj.trackLow, Obj.trackHigh, Obj.sopRatePeak, Obj.dgdMean, Obj.pdl,
      objKey] at hj
    unfold RestKey
    omega
  · obtain ⟨sc, hsc, hj⟩ := List.mem_flatMap.1 hj
    have := List.mem_range.1 hsc
    simp only [List.mem_cons, List.not_mem_nil, or_false, Obj.sopRate, Obj.dgd, objKey] at hj
    unfold RestKey
    omega

theorem rests_showCd (s : State) (r : Nat) : Rests s (s.showCd r) := by
  obtain ⟨x, e, heq, hkeep, -⟩ := s.showCd_spec r
  refine .eqOnly ⟨x, e, heq⟩ fun k hk => hkeep k (hk.ne ?_) (hk.ne ?_)
  · unfold RestKey Obj.cdInForce objKey
    omega
  · unfold RestKey Obj.rxDspLatency objKey
    omega

/-- No register of a reach's dispersion objects is a unit's or enables a group. -/
theorem not_restKey_cd {r b : Nat} (hb : b < 256) : ¬ RestKey (objKey (0x2080 + 0x200 * r) b) := by
  unfold RestKey objKey
  omega

theorem rests_cdSwapOp (s : State) (r : Nat) : Rests s (s.cdSwapOp r) := by
  unfold State.cdSwapOp
  extract_lets b s1 s2 c s3 s4 s5
  have h1 : Rests s s1 := (Rests.refl.wrN _ (not_restKey_cd (by decide))).wr _ (not_restKey_cd (by decide))
  have h2 : Rests s s2 := by
    simp only [s2]
    split
    · exact (h1.wrN _ (not_restKey_cd (by decide))).wrN _ (not_restKey_cd (by decide))
    · exact (h1.wrN _ (not_restKey_cd (by decide))).wrN _ (not_restKey_cd (by decide))
  clear_value s2
  have h3 : Rests s s3 := h2.same rfl rfl rfl rfl rfl
  clear_value s3
  have h4 : Rests s s4 :=
    ((h3.wrN _ (not_restKey_cd (by decide))).wrN _ (not_restKey_cd (by decide))).trans (rests_showCd _ r)
  exact ((h4.trans (rests_eqRetrain s4 r)).trans (rests_watchSuppress _ r)).raise _ _ _

/-- No register of a reach's gain control is a unit's or enables a group. -/
theorem not_restKey_agc {r b : Nat} (hb : b < 256) : ¬ RestKey (objKey (0x2020 + 0x200 * r) b) := by
  unfold RestKey objKey
  omega

theorem rests_setAgc (s : State) (r : Nat) (x : Agc) : Rests s (s.setAgc r x) := Rests.refl.same rfl rfl rfl rfl rfl

theorem rests_agcToSlew (s : State) (r : Nat) : Rests s (s.agcToSlew r) := (rests_setAgc s r _).wrN _ (not_restKey_agc (by decide))

theorem rests_setGainCodes (s : State) (r a b c d : Nat) : Rests s (s.setGainCodes r [a, b, c, d]) := by
  obtain ⟨hregs, -, hkeep⟩ := State.setGainCodes_spec (rfl : s.setGainCodes r [a, b, c, d] = _)
  refine .regsOnly hregs <| hkeep.rests fun j hj => ?_
  simp only [List.mem_cons, List.not_mem_nil, or_false, Obj.gainCode, objKey] at hj
  unfold RestKey
  omega

/-- A gain control that re-arms slews, or waits held where it is off (R308). -/
def State.agcSlews (s : State) (r : Nat) : State :=
  if s.agcState r = 0 then s.setAgc r { s.agc r with held := true }
  else (s.setAgc r { s.agc r with since := s.core.tick }).agcToSlew r

theorem rests_agcSlews (s : State) (r : Nat) : Rests s (s.agcSlews r) := by
  unfold State.agcSlews
  split
  · exact rests_setAgc ..
  · exact (rests_setAgc ..).trans (rests_agcToSlew ..)

theorem State.agcRearmOp_eq (s : State) (r cause : Nat) (cs : List Nat) : s.agcRearmOp r (some cs) cause =
    ((((s.setGainCodes r cs).inc (Obj.rearms r)).raise 0x4031 (0x2020 + 0x200 * r) cause).watchSuppress r).agcSlews r := rfl

/-- The gain control of a reach re-arms from four seeds, and says so (R308). -/
theorem rests_agcRearmOp (s : State) (r cause a b c d : Nat) : Rests s (s.agcRearmOp r (some [a, b, c, d]) cause) ∧
    ⟨0x4031, 0x2020 + 0x200 * r, cause, s.core.tick, s.life⟩ ∈ (s.agcRearmOp r (some [a, b, c, d]) cause).core.inFlight := by
  have hcodes := rests_setGainCodes s r a b c d
  rw [State.agcRearmOp_eq]
  generalize State.setGainCodes _ _ _ = v at *
  have hraise : Rests s ((v.inc (Obj.rearms r)).raise 0x4031 (0x2020 + 0x200 * r) cause) :=
    (hcodes.wrN _ (not_restKey_agc (by decide))).raise _ _ _
  have hevent : ⟨0x4031, 0x2020 + 0x200 * r, cause, s.core.tick, s.life⟩ ∈
      ((v.inc (Obj.rearms r)).raise 0x4031 (0x2020 + 0x200 * r) cause).core.inFlight := by
    rw [← hcodes.tick, ← hcodes.life]
    exact List.mem_append_right _ (List.mem_singleton_self _)
  generalize State.raise _ _ _ _ = w at *
  have hend := (rests_watchSuppress w r).trans (rests_agcSlews _ r)
  exact ⟨hraise.trans hend, hend.flight _ hevent⟩

/-- A PATH unit on its other path: the gain control of its reach re-arms, and no more of the units' registers changes. -/
theorem State.switchPath_spec (s : State) (i : Fin 4) :
    (s.switchPath i).rdN (Obj.pathInUse i) = 1 - s.rdN (Obj.pathInUse i) ∧ (s.switchPath i).rest.units = s.rest.units ∧
    (s.switchPath i).core.tick = s.core.tick ∧
    (∀ c, c < 256 → c ≠ 17 → (s.switchPath i).rdN (objKey (0x3590 + i) c) = s.rdN (objKey (0x3590 + i) c)) ∧
    (∀ r, (s.switchPath i).enabledGroups r = s.enabledGroups r) ∧
    ⟨0x4031, 0x2020 + 0x200 * s.rdN (Obj.workingReach i), 1, s.core.tick, s.life⟩ ∈ (s.switchPath i).core.inFlight := by
  unfold State.switchPath
  extract_lets r path v w
  have hv : Rests s v := by
    simp only [v]
    split
    · exact .refl
    · split
      · exact rests_cdSwapOp s r
      · exact Rests.refl.raise _ _ _
  clear_value v
  have hw : Rests v w ∧ ⟨0x4031, 0x2020 + 0x200 * r, 1, v.core.tick, v.life⟩ ∈ w.core.inFlight := rests_agcRearmOp v r 1 _ _ _ _
  clear_value w
  obtain ⟨hw, hevent⟩ := hw
  rw [hv.tick, hv.life] at hevent
  have hsw := hv.trans hw
  refine ⟨State.wrN_rdN_self .., hsw.units, hsw.tick, fun c hc h17 => ?_, fun q => ?_, hevent⟩
  · exact (State.wrN_rdN_ne (h := by unfold Obj.pathInUse objKey; omega) ..).trans (hsw.unitReg i.isLt hc)
  · refine (State.enabledGroups_congr fun g hg => State.wrN_rd_ne (h := ?_) ..).trans (hsw.enabledGroups q)
    unfold Obj.groupEnable Obj.pathInUse objKey
    omega

/-- Groups whose restart is asked for at the present boundary (R307). -/
theorem State.restRestart_spec (s : State) (r cause : Nat) : Rests s (s.restRestart r cause) ∧
    (cause ≠ 0 → ∀ g ∈ s.enabledGroups r, ((s.restRestart r cause).load r g).restart = some (2, s.core.tick)) := by
  unfold State.restRestart
  split
  · next h => exact ⟨.refl, fun hc => absurd h hc⟩
  · refine ⟨Rests.refl.each fun v g _ => Rests.refl.same rfl rfl rfl rfl rfl, fun _ => ?_⟩
    generalize s.enabledGroups r = l
    induction l generalizing s with
    | nil => exact fun g hg => absurd hg List.not_mem_nil
    | cons c l ih =>
      intro g hg
      rw [State.each_cons]
      by_cases hmem : g ∈ l
      · exact ih (s.setLoad r c { s.load r c with restart := some (2, s.core.tick) }) g hmem
      · obtain rfl := (List.mem_cons.1 hg).resolve_right hmem
        refine State.each_mem_inv (fun v => (v.load r g).restart = some (2, s.core.tick)) l _ (fun v a ha hv => ?_) ?_
        · have hne : 8 * r + g ≠ 8 * r + a := fun hc => hmem (by rwa [show g = a by omega])
          rwa [State.setLoad_other _ _ hne]
        · rw [State.setLoad_load]

theorem pathSwitch_switches (i : Fin 4) (cause : Nat) (hs : s.restStarts i = some cause) (hc : cause ≠ 1) (hmode : s.uMode i = 1) :
    let t := s.restSwitch i
    t.rdN (Obj.pathInUse i) = 1 - s.rdN (Obj.pathInUse i) ∧ t.uState i = s.uState i ∧ t.unit i = s.unit i ∧
      (cause ≠ 0 → ∀ g ∈ s.enabledGroups (s.rdN (Obj.workingReach i)),
        (t.load (s.rdN (Obj.workingReach i)) g).restart = some (2, s.core.tick)) ∧
      ⟨0x4031, 0x2020 + 0x200 * s.rdN (Obj.workingReach i), 1, s.core.tick, s.life⟩ ∈ t.core.inFlight := by
  have hop : s.restSwitch i = (s.switchPath i).restRestart (s.rdN (Obj.workingReach i)) cause := by
    unfold State.restSwitch
    rw [hs]
    exact if_pos ⟨hmode, hc⟩
  obtain ⟨hpath, hunits, htick, hreg, hgroups, hevent⟩ := s.switchPath_spec i
  dsimp only
  rw [hop]
  generalize s.switchPath i = v at *
  obtain ⟨hrest, hload⟩ := v.restRestart_spec (s.rdN (Obj.workingReach i)) cause
  rw [hgroups, htick] at hload
  exact ⟨(hrest.unitReg i.isLt (by decide)).trans hpath, (hrest.unitReg i.isLt (by decide)).trans (hreg 16 (by decide) (by decide)),
    (hrest.unit i).trans (congrArg (fun x => tget (fun _ => ({} : UnitSt)) x i) hunits), hload, hrest.flight _ hevent⟩

theorem pathSwitch_stays (i : Fin 4) (hs : s.restStarts i = some 1) : s.restSwitch i = s := by
  unfold State.restSwitch
  rw [hs]
  exact if_neg (by simp)

/-- The delay history of a reach whose dispersion banks swapped at the present boundary is forgotten. -/
def State.switchCleared (s : State) (r : Nat) : State :=
  s.onlyIf ((s.cd r).swappedAt == some s.core.tick) (fun s => s.delayClear r 1)

theorem rests_switchCleared (s : State) (r : Nat) : Rests s (s.switchCleared r) := by
  unfold State.switchCleared
  cases (s.cd r).swappedAt == some s.core.tick with
  | false => exact .refl
  | true => exact rests_delayClear ..

theorem State.restSwitch_retry {i : Nat} (hs : s.restStarts i = none)
    (h : (s.unit i).planned = some .otherPath ∧ s.uState i = 5 ∧ s.uMode i = 1) : s.restSwitch i =
      ((s.setUnit i { s.unit i with planned := none, limitFrom := s.core.tick }).switchPath i).switchCleared
        (s.rdN (Obj.workingReach i)) := by
  unfold State.restSwitch
  rw [hs]
  dsimp only
  rw [if_pos h]
  rfl

theorem otherPath_retried (i : Fin 4) (hst : s.uState i = 5) (hmode : s.uMode i = 1) (hplan : (s.unit i).planned = some .otherPath) :
    let t := s.restSwitch i
    t.uState i = 5 ∧ (t.unit i).limitFrom = s.core.tick ∧ (t.unit i).planned = none ∧
      t.rdN (Obj.pathInUse i) = 1 - s.rdN (Obj.pathInUse i) ∧
      ⟨0x4031, 0x2020 + 0x200 * s.rdN (Obj.workingReach i), 1, s.core.tick, s.life⟩ ∈ t.core.inFlight := by
  have hs : s.restStarts i = none := by
    unfold State.restStarts
    rw [hst]
    split
    · exact if_neg fun hc => absurd hc.2.2.1 (by decide)
    · rfl
  obtain ⟨hpath, hunits, -, hreg, -, hevent⟩ :=
    (s.setUnit i { s.unit i with planned := none, limitFrom := s.core.tick }).switchPath_spec i
  have hunit : ((s.setUnit i { s.unit i with planned := none, limitFrom := s.core.tick }).switchPath i).unit i =
      { s.unit i with planned := none, limitFrom := s.core.tick } :=
    (congrArg (fun x => tget (fun _ => ({} : UnitSt)) x i) hunits).trans (State.setUnit_unit ..)
  have hstate := (hreg 16 (by decide) (by decide)).trans hst
  dsimp only
  rw [State.restSwitch_retry hs ⟨hplan, hst, hmode⟩]
  generalize State.switchPath _ _ = v at *
  have hrest := rests_switchCleared v (s.rdN (Obj.workingReach i))
  rw [hrest.unit i, hunit]
  exact ⟨(hrest.unitReg i.isLt (by decide)).trans hstate, rfl, rfl, (hrest.unitReg i.isLt (by decide)).trans hpath,
    hrest.flight _ hevent⟩

/-! #### The decisions of the sequencer and the ends of a restoration -/

/-- A unit's part of a planned or decided step: the unit alone is noted. -/
theorem State.setUnit_noted (s : State) (i : Fin 4) (x : UnitSt) : s.setUnit i x = { s with rest := (s.setUnit i x).rest } ∧
    (s.setUnit i x).unit i = x ∧ ∀ k, k ≠ i.val → (s.setUnit i x).unit k = s.unit k :=
  ⟨rfl, State.setUnit_unit .., fun _ hk => tget_tset_ne _ _ _ hk⟩

theorem restorationStart_decides (i : Fin 4) (cause start : Nat) (ht : (s.unit i).trigger = some (cause, start))
    (hst : s.uState i = 1 ∨ s.uState i = 2 ∨ s.uState i = 4) (hmode : s.uMode i ≠ 0) :
    Completes (.restorationStart i) s (fun t => t = { s with rest := t.rest } ∧
      t.unit i = { s.unit i with trigger := some (cause, s.core.tick + 1), decided := true } ∧
      (∀ k, k ≠ i.val → t.unit k = s.unit k) ∧ ({ t with core.tick := s.core.tick + 1 } : State).restStarts i = some cause) := by
  have hin : [1, 2, 4].contains (s.uState i) = true := by
    obtain h | h | h := hst
    all_goals rw [h]; decide
  have hexec : exec (.restorationStart i) s =
      .next (s.setUnit i { s.unit i with trigger := some (cause, s.core.tick + 1), decided := true }) := by
    show execRestorationStart i s = _
    unfold execRestorationStart
    rw [ht]
    exact if_pos ⟨hin, hmode⟩
  obtain ⟨hshape, hunit, hothers⟩ :=
    s.setUnit_noted i { s.unit i with trigger := some (cause, s.core.tick + 1), decided := true }
  refine .intro hexec ⟨hshape, hunit, hothers, ?_⟩
  unfold State.restStarts
  rw [show State.unit { (s.setUnit i { s.unit i with trigger := some (cause, s.core.tick + 1), decided := true }) with
    core.tick := s.core.tick + 1 } i = _ from hunit]
  exact if_pos ⟨rfl, Nat.le_refl _, hin, hmode⟩

theorem doubleFaultPathRetry_plans (i : Fin 4) (hst : s.uState i = 5) (hmode : s.uMode i = 1)
    (hrel : s.released (domReach (s.rdN (Obj.workingReach i))) = true)
    (hl : (s.unit i).limitFrom + s.rdN (Obj.restoreLimit i) ≤ s.core.tick + 1) :
    Completes (.doubleFaultPathRetry i) s (fun t => t = { s with rest := t.rest } ∧
      t.unit i = { s.unit i with planned := some .otherPath } ∧ (∀ k, k ≠ i.val → t.unit k = s.unit k)) :=
  .intro (if_pos ⟨hst, hmode, hrel, hl⟩) (s.setUnit_noted i _)

theorem waitToRestoreExpiry_reverts (i : Fin 4) (since : Nat) (hrev : s.rdB (Obj.unitRevertive i) = true) (hst : s.uState i = 4)
    (hgood : (s.unit i).goodSince = some since) (hw : since + s.rdN (Obj.waitToRestore i) ≤ s.core.tick + 1) :
    Completes (.waitToRestoreExpiry i) s (fun t => t = { s with rest := t.rest } ∧
      t.unit i = { s.unit i with planned := some (.all 0 1 true) } ∧ (∀ k, k ≠ i.val → t.unit k = s.unit k)) := by
  refine .intro (t := s.setUnit i { s.unit i with planned := some (.all 0 1 true) }) ?_ (s.setUnit_noted i _)
  show execWaitToRestoreExpiry i s = _
  unfold execWaitToRestoreExpiry
  dsimp only
  rw [hrev, hgood, if_neg (by decide), if_pos ⟨hst, decide_eq_true hw⟩]

theorem waitToRestoreExpiry_returns (i : Fin 4) (at_ : Nat) (hrev : s.rdB (Obj.unitRevertive i) = true) (hst : s.uState i = 2)
    (hdis : (s.unit i).disarmAt = some at_) (hw : at_ + s.rdN (Obj.waitToRestore i) ≤ s.core.tick + 1) :
    Completes (.waitToRestoreExpiry i) s (fun t => t = { s with rest := t.rest } ∧
      t.unit i = { s.unit i with planned := some (.durable 0 1) } ∧ (∀ k, k ≠ i.val → t.unit k = s.unit k)) := by
  refine .intro (t := s.setUnit i { s.unit i with planned := some (.durable 0 1) }) ?_ (s.setUnit_noted i _)
  show execWaitToRestoreExpiry i s = _
  unfold execWaitToRestoreExpiry
  dsimp only
  rw [hrev, hdis, if_neg (by decide), if_neg (fun hc => absurd (hst.symm.trans hc.1) (by decide)), if_pos ⟨hst, decide_eq_true hw⟩]

/-- A unit enters RESTORED's state: PROTECTED where the other side carries the traffic now, else WORKING (R314). -/
def State.restoredTo (s : State) (i : Nat) : State :=
  if s.uMode i = 2 ∧ (s.unit i).side = 1 then
    (s.wrN (Obj.unitState i) 4).setUnit i { (s.wrN (Obj.unitState i) 4).unit i with since := s.core.tick }
  else s.wrN (Obj.unitState i) 1

theorem State.restoredTo_spec (s : State) (i : Nat) :
    (s.restoredTo i).uState i = (if s.uMode i = 2 ∧ (s.unit i).side = 1 then 4 else 1) ∧ (s.restoredTo i).core = s.core ∧
    KeepsRegs [Obj.unitState i] s (s.restoredTo i) := by
  unfold State.restoredTo
  split
  · exact ⟨State.wrN_rdN_self s _ _, rfl, (KeepsRegs.wrN s _ (by simp)).trans (KeepsRegs.of_regs rfl _)⟩
  · exact ⟨State.wrN_rdN_self s _ _, rfl, KeepsRegs.wrN s _ (by simp)⟩

/-- The end of a restoration noted and announced (R314). -/
def State.restoredNoted (s : State) (i : Nat) : State :=
  (s.wrN (Obj.restoreTicks i) (s.core.tick - (s.unit i).start)).raise 0x40A1 (unitSource i) (s.core.tick - (s.unit i).start)

theorem restored_ends (i : Fin 4) (hst : s.uState i = 3) (hmode : s.uMode i = 1 ∨ s.uMode i = 2) (hmet : s.restoreMet i = true) :
    Completes (.restored i) s (fun t =>
      t.uState i = (if s.uMode i = 2 ∧ (s.unit i).side = 1 then 4 else 1) ∧
      t.rdN (Obj.restoreTicks i) = s.core.tick - (s.unit i).start ∧
      t.core = { s.core with inFlight := s.core.inFlight ++
        [⟨0x40A1, 0x3590 + i.val, s.core.tick - (s.unit i).start, s.core.tick, s.life⟩] } ∧
      KeepsRegs [Obj.unitState i, Obj.restoreTicks i] s t) := by
  have hexec : exec (.restored i) s = .next ((s.restoredNoted i).restoredTo i) :=
    (if_pos ⟨hst, hmode, hmet⟩).trans (apply_ite Host.Outcome.next _ _ _).symm
  have hne : Obj.unitMode i ≠ Obj.restoreTicks i := by unfold Obj.unitMode Obj.restoreTicks objKey; omega
  have hsame : (s.restoredNoted i).uMode i = s.uMode i := State.wrN_rdN_ne s _ _ _ hne
  have hunit : (s.restoredNoted i).unit i = s.unit i := rfl
  have hcore : (s.restoredNoted i).core = { s.core with inFlight := s.core.inFlight ++
    [⟨0x40A1, 0x3590 + i.val, s.core.tick - (s.unit i).start, s.core.tick, s.life⟩] } := rfl
  have hticks : (s.restoredNoted i).rdN (Obj.restoreTicks i) = s.core.tick - (s.unit i).start := State.wrN_rdN_self s _ _
  have hnoted : KeepsRegs [Obj.restoreTicks i] s (s.restoredNoted i) := (KeepsRegs.wrN s _ (by simp)).trans (KeepsRegs.of_regs rfl _)
  generalize s.restoredNoted i = v at *
  obtain ⟨hstate, hcore', hkeep⟩ := v.restoredTo_spec i
  rw [hsame, hunit] at hstate
  exact .intro hexec ⟨hstate, (hkeep.rdN (by rw [List.mem_singleton]; exact restKey_ne_unitState (by decide))).trans hticks,
    hcore'.trans hcore, (hnoted.mono (by simp)).trans (hkeep.mono (by simp))⟩

theorem restoreLimitExpiry_faults (i : Fin 4) (hst : s.uState i = 3) (hl : (s.unit i).limitFrom + s.rdN (Obj.restoreLimit i) ≤ s.core.tick) :
    Completes (.restoreLimitExpiry i) s (fun t => t.uState i = 5 ∧ t.unit i = { s.unit i with limitFrom := s.core.tick } ∧
      t.core = { s.core with inFlight := s.core.inFlight ++ [⟨0xC0A2, 0x3590 + i.val, 0, s.core.tick, s.life⟩] } ∧
      t.basin = s.basin ∧ KeepsRegs [Obj.unitState i] s t) := by
  have hset := State.setUnit_unit (s := s) (u := i) (x := { s.unit i with limitFrom := s.core.tick })
  have hrest : (s.setUnit i { s.unit i with limitFrom := s.core.tick }).regs = s.regs ∧
      (s.setUnit i { s.unit i with limitFrom := s.core.tick }).core = s.core ∧
      (s.setUnit i { s.unit i with limitFrom := s.core.tick }).life = s.life ∧
      (s.setUnit i { s.unit i with limitFrom := s.core.tick }).basin = s.basin := ⟨rfl, rfl, rfl, rfl⟩
  have hexec : exec (.restoreLimitExpiry i) s = .next (((s.setUnit i { s.unit i with limitFrom := s.core.tick }).wrN
      (Obj.unitState i) 5).raise 0xC0A2 (unitSource i) 0) := if_pos ⟨hst, hl⟩
  generalize State.setUnit _ _ _ = v at *
  obtain ⟨hregs, hcore, hlife, hbasin⟩ := hrest
  refine .intro hexec ⟨State.wrN_rdN_self v _ _, hset, ?_, hbasin, ?_⟩
  · rw [← hcore, ← hlife] <;> rfl
  · exact (KeepsRegs.of_regs hregs _).trans (KeepsRegs.wrN v _ (by simp))

/-! #### The end of a withdrawal (R312) -/

theorem withdrawEnd_waits (i : Fin 4) (h : ∀ w ∈ (s.unit i).withdraw, s.core.tick < w.until_) : NoEffect (.withdrawEnd i) s := by
  refine if_pos ?_
  rw [List.isEmpty_iff, List.filter_eq_nil_iff]
  exact fun w hw => by simpa using h w hw

/-- A reach's groups back on their probe maps. -/
def State.probeReach (s : State) (r : Nat) : State := s.each (s.enabledGroups r) (fun s g => s.txToProbe r g)

/-- A group that sends its probe map. -/
def Load.quiet (x : Load) : Prop := x.tx = none ∧ x.ann = none

theorem State.txToProbe_quiet (s : State) {r g : Nat} (hg : g < 8) :
    ((s.txToProbe r g).load r g).quiet ∧ ∀ q h, (s.load q h).quiet → ((s.txToProbe r g).load q h).quiet := by
  obtain ⟨-, -, hload⟩ := s.txToProbe_parts r g hg
  refine ⟨?_, fun q h hq => ?_⟩
  · rw [hload, if_pos rfl]
    exact ⟨rfl, rfl⟩
  · rw [hload]
    split
    · exact ⟨rfl, rfl⟩
    · exact hq

theorem State.probeReach_spec (s : State) (r : Nat) : Rests s (s.probeReach r) ∧ (s.probeReach r).core = s.core ∧
    (∀ q h, (s.load q h).quiet → ((s.probeReach r).load q h).quiet) ∧ ∀ g ∈ s.enabledGroups r, ((s.probeReach r).load r g).quiet := by
  have hall : ∀ g ∈ s.enabledGroups r, g < 8 := fun g hg => (mem_upto.1 hg).1
  unfold State.probeReach
  generalize s.enabledGroups r = l at hall ⊢
  induction l generalizing s with
  | nil => exact ⟨.refl, rfl, fun _ _ h => h, fun g hg => absurd hg List.not_mem_nil⟩
  | cons c l ih =>
    obtain ⟨hc, hl⟩ := List.forall_mem_cons.1 hall
    obtain ⟨hrest, hcore, -⟩ := s.txToProbe_parts r c hc
    obtain ⟨hself, hkept⟩ := s.txToProbe_quiet (r := r) hc
    rw [State.each_cons]
    generalize s.txToProbe r c = v at *
    obtain ⟨hrest', hcore', hkept', hself'⟩ := ih v hl
    exact ⟨hrest.trans hrest', hcore'.trans hcore, fun q h hq => hkept' q h (hkept q h hq),
      List.forall_mem_cons.2 ⟨hkept' r c hself, hself'⟩⟩

theorem State.each_probeReach (s : State) (l : List Nat) : Rests s (s.each l State.probeReach) ∧ (s.each l State.probeReach).core = s.core ∧
    (∀ q h, (s.load q h).quiet → ((s.each l State.probeReach).load q h).quiet) ∧
    ∀ r ∈ l, ∀ g ∈ s.enabledGroups r, ((s.each l State.probeReach).load r g).quiet := by
  induction l generalizing s with
  | nil => exact ⟨.refl, rfl, fun _ _ h => h, fun r hr => absurd hr List.not_mem_nil⟩
  | cons c l ih =>
    obtain ⟨hrest, hcore, hkept, hself⟩ := s.probeReach_spec c
    rw [State.each_cons]
    generalize s.probeReach c = v at *
    obtain ⟨hrest', hcore', hkept', hself'⟩ := ih v
    refine ⟨hrest.trans hrest', hcore'.trans hcore, fun q h hq => hkept' q h (hkept q h hq), List.forall_mem_cons.2 ⟨?_, ?_⟩⟩
    · exact fun g hg => hkept' c g (hself g hg)
    · intro r hr g hg
      exact hself' r hr g (by rwa [hrest.enabledGroups])

theorem withdrawEnd_ends (i : Fin 4) (w : Withdrawal) (hw : w ∈ (s.unit i).withdraw) (hu : w.until_ ≤ s.core.tick) :
    Completes (.withdrawEnd i) s (fun t => t.uState i = s.uState i ∧ t.core = s.core ∧
      (t.unit i).withdraw = (s.unit i).withdraw.filter (fun v => decide (s.core.tick < v.until_)) ∧
      (∀ v ∈ (s.unit i).withdraw, v.until_ ≤ s.core.tick → ∀ g ∈ s.enabledGroups v.reach,
        (t.load v.reach g).tx = none ∧ (t.load v.reach g).ann = none)) := by
  have hmem (v : Withdrawal) (hv : v ∈ (s.unit i).withdraw) (hl : v.until_ ≤ s.core.tick) :
      v ∈ (s.unit i).withdraw.filter (fun w => decide (w.until_ ≤ s.core.tick)) := List.mem_filter.2 ⟨hv, decide_eq_true hl⟩
  have hsome : ¬ ((s.unit i).withdraw.filter (fun w => decide (w.until_ ≤ s.core.tick))).isEmpty = true := by
    rw [List.isEmpty_iff]
    exact List.ne_nil_of_mem (hmem w hw hu)
  have hexec : exec (.withdrawEnd i) s = .next ((s.setUnit i { s.unit i with
      withdraw := (s.unit i).withdraw.filter (fun w => decide (s.core.tick < w.until_)) }).each
      (((s.unit i).withdraw.filter (fun w => decide (w.until_ ≤ s.core.tick))).map (·.reach)) State.probeReach) := by
    refine (if_neg hsome).trans ?_
    unfold State.each
    rw [List.foldl_map] <;> rfl
  have hunit := State.setUnit_unit (s := s) (u := i) (x := { s.unit i with
    withdraw := (s.unit i).withdraw.filter (fun w => decide (s.core.tick < w.until_)) })
  have hsame : (s.setUnit i { s.unit i with withdraw := (s.unit i).withdraw.filter (fun w => decide (s.core.tick < w.until_)) }).core = s.core ∧
      (s.setUnit i { s.unit i with withdraw := (s.unit i).withdraw.filter (fun w => decide (s.core.tick < w.until_)) }).regs = s.regs :=
    ⟨rfl, rfl⟩
  generalize State.setUnit _ _ _ = v at *
  obtain ⟨hcore, hregs⟩ := hsame
  have hkeep : KeepsWhere RestKey s v := KeepsWhere.refl.regs hregs
  obtain ⟨hrest, hcore', -, hquiet⟩ := v.each_probeReach
    (((s.unit i).withdraw.filter (fun w => decide (w.until_ ≤ s.core.tick))).map (·.reach))
  refine .intro hexec ⟨(hrest.unitReg i.isLt (by decide)).trans (hkeep.rdN (restKey_unit i.isLt (by decide))), hcore'.trans hcore,
    ?_, fun x hx hl g hg => ?_⟩
  · rw [hrest.unit i, hunit]
  · exact hquiet x.reach (List.mem_map.2 ⟨x, hmem x hx hl, rfl⟩) g
      (by rwa [State.enabledGroups_congr fun g hg => hkeep _ (restKey_groupEnable hg)])

/-! #### The planned steps of a boundary (R317 to R319) -/

theorem State.planStep_revert {i : Nat} (hst : s.uState i = 4) (hplan : (s.unit i).planned = some (.all 0 1 true))
    (hgood : (s.unit i).goodSince ≠ none) : s.planStep i =
      (((s.setUnit i { s.unit i with planned := none }).moveAll i 0).raise 0x40A5 (unitSource i)
        (min (((s.setUnit i { s.unit i with planned := none }).moveAll i 0).core.tick - (s.unit i).since) 0xFFFFFFFF)).enterUnit i 1 := by
  unfold State.planStep
  dsimp only
  rw [hplan, hst, if_neg (by decide)]
  exact if_neg fun hc => hgood hc.2

theorem State.moveDurable_life (s : State) (i side : Nat) : (s.moveDurable i side).life = s.life := by
  unfold State.moveDurable
  split
  · rfl
  · rfl

/-- All flows back on a unit's side (R316): its registers beside the durable side's stay. -/
theorem State.moveAll_spec (s : State) (i side : Nat) :
    (s.moveAll i side).rdN (Obj.durableSide i) = side ∧ (s.moveAll i side).unit i = { s.unit i with side := side } ∧
    (s.moveAll i side).core.tick = s.core.tick ∧ (s.moveAll i side).life = s.life ∧
    KeepsRegs [Obj.durableSide i] s (s.moveAll i side) := by
  obtain ⟨hd, -, htick, -, hkeep, -⟩ := s.moveDurable_spec i side
  have hlife := s.moveDurable_life i side
  unfold State.moveAll
  generalize State.moveDurable _ _ _ = m at *
  exact ⟨hd, State.setUnit_unit .., htick, hlife, hkeep⟩

theorem planStep_reverts (i : Fin 4) (hst : s.uState i = 4) (hplan : (s.unit i).planned = some (.all 0 1 true))
    (hgood : (s.unit i).goodSince ≠ none) :
    let t := s.planStep i
    t.uState i = 1 ∧ (t.unit i).side = 0 ∧ (t.unit i).planned = none ∧ t.rdN (Obj.durableSide i) = 0 ∧
      ⟨0x40A5, 0x3590 + i.val, min (s.core.tick - (s.unit i).since) 0xFFFFFFFF, s.core.tick, s.life⟩ ∈ t.core.inFlight ∧
      KeepsRegs [Obj.unitState i, Obj.durableSide i] s t := by
  dsimp only
  rw [State.planStep_revert hst hplan hgood]
  obtain ⟨hd, hunit, htick, hlife, hkeep⟩ := (s.setUnit i { s.unit i with planned := none }).moveAll_spec i 0
  rw [State.setUnit_unit] at hunit
  replace hkeep : KeepsRegs [Obj.durableSide i] s ((s.setUnit i { s.unit i with planned := none }).moveAll i 0) := hkeep
  replace htick : ((s.setUnit i { s.unit i with planned := none }).moveAll i 0).core.tick = s.core.tick := htick
  replace hlife : ((s.setUnit i { s.unit i with planned := none }).moveAll i 0).life = s.life := hlife
  generalize State.moveAll _ _ _ = m at *
  rw [htick]
  obtain ⟨hstate, hdur, hcore, hunit', hkeep'⟩ :=
    (m.raise 0x40A5 (unitSource i) (min (s.core.tick - (s.unit i).since) 0xFFFFFFFF)).enterUnit_spec i 1
  have hraised : (m.raise 0x40A5 (unitSource i) (min (s.core.tick - (s.unit i).since) 0xFFFFFFFF)).unit i = m.unit i := rfl
  have hevent : ⟨0x40A5, 0x3590 + i.val, min (s.core.tick - (s.unit i).since) 0xFFFFFFFF, s.core.tick, s.life⟩ ∈
      (m.raise 0x40A5 (unitSource i) (min (s.core.tick - (s.unit i).since) 0xFFFFFFFF)).core.inFlight := by
    rw [← hlife, ← htick]
    exact List.mem_append_right _ (List.mem_singleton_self _)
  have hkeepR : KeepsRegs [Obj.durableSide i] s (m.raise 0x40A5 (unitSource i) (min (s.core.tick - (s.unit i).since) 0xFFFFFFFF)) := hkeep
  replace hd : (m.raise 0x40A5 (unitSource i) (min (s.core.tick - (s.unit i).since) 0xFFFFFFFF)).rdN (Obj.durableSide i) = 0 := hd
  generalize State.raise _ _ _ _ = v at *
  rw [hraised, hunit] at hunit'
  refine ⟨hstate, ?_, ?_, hdur.trans hd, ?_, (hkeepR.mono (by simp)).trans (hkeep'.mono (by simp))⟩
  · rw [hunit']
  · rw [hunit']
  · rw [hcore]
    exact hevent

theorem planStep_heldBack (i : Fin 4) (hst : s.uState i = 4) (hplan : (s.unit i).planned = some (.all 0 1 true))
    (hgood : (s.unit i).goodSince = none) :
    let t := s.planStep i
    t = { s with rest := t.rest } ∧ t.unit i = { s.unit i with planned := none } := by
  have hop : s.planStep i = s.setUnit i { s.unit i with planned := none } := by
    unfold State.planStep
    dsimp only
    rw [hplan, hst, if_neg (by decide)]
    exact if_pos ⟨rfl, hgood⟩
  dsimp only
  rw [hop]
  obtain ⟨hshape, hunit, -⟩ := s.setUnit_noted i { s.unit i with planned := none }
  exact ⟨hshape, hunit⟩

theorem planStep_returns (i : Fin 4) (hst : s.uState i = 2) (hplan : (s.unit i).planned = some (.durable 0 1)) :
    let t := s.planStep i
    t.uState i = 1 ∧ t.rdN (Obj.durableSide i) = 0 ∧ (t.unit i).disarmAt = none ∧ (t.unit i).side = (s.unit i).side ∧
      (s.rdN (Obj.durableSide i) ≠ 0 → ⟨0x40A4, 0x3590 + i.val, 0, s.core.tick, s.life⟩ ∈ t.core.inFlight) ∧
      KeepsRegs [Obj.unitState i, Obj.durableSide i] s t := by
  dsimp only
  rw [planStep_durable (by rw [hst]; decide) hplan]
  obtain ⟨hd, hunit, -, -, hkeep, hcore⟩ := (s.setUnit i { s.unit i with planned := none }).moveDurable_spec i 0
  rw [State.setUnit_unit] at hunit
  rw [State.setUnit_rdN] at hcore
  have hsame : (s.setUnit i { s.unit i with planned := none }).core = s.core := rfl
  have hevent (hne : s.rdN (Obj.durableSide i) ≠ 0) : ⟨0x40A4, 0x3590 + i.val, 0, s.core.tick, s.life⟩ ∈
      (State.moveDurable (s.setUnit i { s.unit i with planned := none }) i 0).core.inFlight := by
    rw [hcore hne]
    exact List.mem_append_right _ (List.mem_singleton_self _)
  generalize State.moveDurable _ _ _ = m at *
  obtain ⟨hstate, hdur, hcore', hunit', hkeep'⟩ := m.enterUnit_spec i 1
  have h1 : KeepsRegs [Obj.durableSide i] s m := hkeep
  refine ⟨hstate, hdur.trans hd, ?_, ?_, fun hne => ?_, (h1.mono (by simp)).trans (hkeep'.mono (by simp))⟩
  · rw [hunit']
  · rw [hunit', hunit]
  · rw [hcore']
    exact hevent hne

end
/-- Settles O21. -/
theorem restorationStartsEndsAndTimesOut : Obligations.RestorationStartsEndsAndTimesOut := by
  unfold Obligations.RestorationStartsEndsAndTimesOut
  exact ⟨fun s u cause start ht hst hmode => restorationStart_decides u cause start ht hst hmode,
    fun s u cause hs hc hmode _ => pathSwitch_switches u cause hs hc hmode, fun s u hs => pathSwitch_stays u hs,
    fun s u cause hmode _ => reachUnit_starts u cause hmode, fun s u cause hmode => pathUnit_starts u cause hmode,
    fun s u cause hmode => matedUnit_starts u cause hmode, fun s u w hw hu => withdrawEnd_ends u w hw hu,
    fun s u h => withdrawEnd_waits u h, fun s u hst hmode hmet => restored_ends u hst hmode hmet,
    fun s u hst hl => restoreLimitExpiry_faults u hst hl,
    fun s u hst hmode hrel hl => doubleFaultPathRetry_plans u hst hmode hrel hl,
    fun s u hst hmode _ hplan => otherPath_retried u hst hmode hplan,
    fun s u since hrev hst hgood hw => waitToRestoreExpiry_reverts u since hrev hst hgood hw,
    fun s u at_ hrev hst hdis hw => waitToRestoreExpiry_returns u at_ hrev hst hdis hw,
    fun s u hst hplan hgood => planStep_reverts u hst hplan hgood, fun s u hst hplan hgood => planStep_heldBack u hst hplan hgood,
    fun s u hst hplan => planStep_returns u hst hplan⟩

end Sys2Proof.Machine
end
